-- ==== Sys2Proof/Word.lean ====
section
/-! DEFINITION. The words of the HJ-960 (chapter 00, "Numbers, units and time": structures are little-endian) and their
plainest arithmetic. -/

namespace Sys2Proof

/-- A byte. -/
abbrev Byte := BitVec 8
/-- A 16-bit word. -/
abbrev W16 := BitVec 16
/-- A 32-bit word: an Obord instruction, half of a 64-bit register. -/
abbrev W32 := BitVec 32
/-- A 64-bit word: a thread register, a message word. -/
abbrev W64 := BitVec 64
/-- A string of bytes, lowest address first. -/
abbrev Bytes := List Byte

end Sys2Proof
end

