-- ==== Sys2Proof/Syntax.lean ====
section
/-! DEFINITION. The Obord instructions of the spindles (chapter 03), the commands the block takes (one constructor per row
of the spec's table of operations), and the small enumerations their operands use. -/

namespace Sys2Proof

/-- Who accesses registers: the two requesters of the CSR space, PF0 through BAR0 and the Cobbler (R6), and the host at the
function control page of a function (R312) and at the MSI-X table and pending-bit array of its BAR4 (R5). `during new who` is an
access of `who` in the very cycle in which hardware has set the bits `new` of what it writes (R15), or has counted `new` events,
each count in the place of its field (R16; DESIGN CHOICE, log entry 146). -/
inductive Requester where
  | pf0 | cobbler
  | fcp (func : Nat)
  | msix (func : Nat)
  | during (new : W64) (who : Requester)
  deriving DecidableEq, Repr

/-- The requester itself. -/
def Requester.base : Requester → Requester
  | .during _ who => who.base
  | who => who

/-- What hardware did to the register in the cycle of the access. -/
def Requester.news : Requester → Nat
  | .during new _ => new.toNat
  | _ => 0

/-- The capabilities of Table 9.1; `link` stands for those of the link, which its function 0 presents. -/
inductive PcieCap where
  | express | power | msi | msix | aer | serial | ari | sriov | acs | link | ide | doe
  deriving DecidableEq, Repr

/-- The fields of a function's PCIe configuration that the part's rules speak of (Tables 0.5, 9.1 and 9.2, R5, R301, R302, R304,
R305, R309 to R318). The spec leaves their places to PCIe. -/
inductive CfgReg where
  | vendorId | deviceId | classCode | intxStatus | intxPin
  | capability (c : PcieCap)
  | mpsSupported | msiCapable | noSoftReset | ctoRanges | serialNumber
  | bar0 | bar2 | bar4
  | busMaster | intxDisable | powerState
  | msiEnable | msiCount | msiMask | msiPend | msiAddr | msiData
  | msixEnable | msixMask | msixSize
  | cplTimeout | mrrs | tag10
  | aerCplTimeout | aerUnexpected | aerIdeCheck
  | totalVfs | vfStride | firstVf | vfBar0 | vfBar2 | vfBar4 | numVfs | vfEnable
  deriving DecidableEq, Repr

/-- How a completion ends (R236): data, Unsupported Request, Completer Abort or poisoned. -/
inductive CplStatus where
  | ok | unsupported | abort | poisoned
  deriving DecidableEq, Repr

/-- By which path a mailbox command reaches the Cobbler (R415, R408): the COBBLER_MBOX registers, a BULK message of a thread
at channel 2, or an MCTP message of type 0x7E on a binding, with its OP, the 64 argument bytes and the data. -/
inductive MboxVia where
  | csr | thread
  | mctp (binding op : Nat) (args data : List Byte)
  deriving DecidableEq, Repr

/-- Who commits a set: a mailbox command, an FW_COMMIT on the admin WQ of a number, or a PLDM update on an MCTP binding
(R406). -/
inductive CommitVia where
  | mbox (via : MboxVia)
  | welt (wq : Nat)
  | pldm (binding : Nat)
  deriving DecidableEq, Repr

/-- What raises a POWER reset (R321): power-up, after a loss of VAON or not, or, with RESET_SCOPE = FULL, PERST_N or a hot
reset of a host link. -/
inductive PowerCause where
  | powerUp (vaonLost : Bool)
  | perst (link : Nat)
  | hotReset (link : Nat)
  deriving DecidableEq, Repr

/-! ### Obord -/

/-- A register field: g0 to g31. -/
abbrev Reg := BitVec 5

/-- The functions of opcode 0x00 (Table 3.5), in the order of their fn values. -/
inductive AluFn where
  | add | sub | and | or | xor | andn | shl | shr | sar | rol | slt | sltu | seq | minU | maxU | cmovnz
  | mul | mulhu | popc | clz | ctz | bsw16 | bsw32 | bsw64
  deriving DecidableEq, Repr

/-- The size of a memory access (the sz field): 1, 2, 4 or 8 bytes. -/
inductive Size where
  | b | h | w | d
  deriving DecidableEq, Repr

/-- The kinds of SHI (R93). -/
inductive ShiftKind where
  | shl | shr | sar | rol
  deriving DecidableEq, Repr

/-- The conditions of BR and BRB (R96). -/
inductive Cond where
  | eq | ne | lt | ge | ltu | geu
  deriving DecidableEq, Repr

/-- The atomics of SATOM (R100), in the order of fn[3:0]. -/
inductive AtomOp where
  | fetchAdd | swap | cas | and | or | xor | minU | maxU
  deriving DecidableEq, Repr

/-- The modes of DONE (R116). -/
inductive DoneMode where
  | deliver | drop | slowpath
  deriving DecidableEq, Repr

/-- An Obord instruction (Tables 3.1, 3.2 and 3.9). -/
inductive Ob where
  | alu (fn : AluFn) (rd ra rb : Reg)
  | crc (sz : Size) (rd ra rb : Reg)
  | hmix (rd ra rb : Reg)
  | addi (rd ra : Reg) (imm : W16)
  | andi (rd ra : Reg) (imm : W16)
  | ori (rd ra : Reg) (imm : W16)
  | xori (rd ra : Reg) (imm : W16)
  | shi (rd ra : Reg) (kind : ShiftKind) (amt : BitVec 6)
  | sltiu (rd ra : Reg) (imm : W16)
  | movi (rd : Reg) (imm : W16)
  | movhi (rd : Reg) (h : BitVec 2) (imm : W16)
  | bfx (rd ra : Reg) (pos lenm1 : BitVec 6)
  | bfi (rd ra : Reg) (pos lenm1 : BitVec 6)
  | rdctr (rd : Reg) (sel : W16)
  | br (cc : Cond) (ra rb : Reg) (off : BitVec 13)
  | bb (s : BitVec 1) (ra : Reg) (bit : BitVec 6) (off : BitVec 13)
  | jmp (off : BitVec 13)
  | loop (trip : Byte) (len : BitVec 13)
  | done (mode : DoneMode) (ra : Reg)
  | call (tgt : BitVec 13)
  | brb (cc : Cond) (ra rb : Reg) (off : BitVec 13)
  | jr (rd ra : Reg)
  | ld (sz : Size) (sx : Bool) (rd ra : Reg) (off : BitVec 13)
  | st (sz : Size) (rd ra : Reg) (off : BitVec 13)
  | sld (sz : Size) (sx : Bool) (rd ra : Reg) (off : BitVec 13)
  | sst (sz : Size) (rd ra : Reg) (off : BitVec 13)
  | satom (op : AtomOp) (wide : Bool) (rd ra rb : Reg)
  | hld (sz : Size) (sx : Bool) (rd ra : Reg) (off : BitVec 13)
  | hst (sz : Size) (rd ra : Reg) (off : BitVec 13)
  | lkup (tk : BitVec 2) (ra : Reg) (tid : BitVec 5) (dl : BitVec 7)
  | lkw (rd : Reg) (tk : BitVec 2)
  | fcwb (rd ra rb : Reg)
  | ystage (ra : Reg) (idx : BitVec 3)
  | ysend (rd ra : Reg) (nm1 : BitVec 3) (tag : BitVec 6) (blk : Bool)
  | yres (rd ra : Reg) (lenm1 : Byte) (tag : BitVec 6) (blk : Bool)
  | yput (ra : Reg) (idx : Byte)
  | ycommit (rd : Reg)
  | yrecv (rd ra : Reg) (ch : BitVec 2)
  | ynote (rd : Reg)
  | wait (rd ra : Reg) (nb : Bool)
  | signal (thr : BitVec 3) (bit : BitVec 5)
  | csub (rd ra : Reg)
  | qpost (rd ra rb : Reg)
  | resume (ra : Reg)
  | frec (rd ra : Reg)
  | tstate (rd : Reg)
  | devld (sz : Size) (sx : Bool) (rd ra : Reg) (off : BitVec 13)
  | devst (sz : Size) (rd ra : Reg) (off : BitVec 13)
  | loopr (ra : Reg) (len : BitVec 13)
  | csrrd (wide sx : Bool) (rd ra : Reg) (off : BitVec 13)
  | csrwr (wide : Bool) (rd ra : Reg) (off : BitVec 13)
  deriving DecidableEq, Repr


/-- The commands of the block, one per row of the spec's opcode table. Each carries what comes from outside the model:
the unit the event happens at, the value written, the bytes that arrive. -/
inductive Instr where
  /-- POWER_RESET (R321). -/
  | powerReset (cause : PowerCause) (straps : Nat)
  /-- HOST_RESET (R323). -/
  | hostReset (l : Nat) (perst : Bool)
  /-- PWRGD_RISE (R446). -/
  | pwrgdRise (vaonLost : Bool)
  /-- POWER_ON_RESET_END (R446). -/
  | powerOnResetEnd (straps : Nat)
  /-- XSPI_RESET_RELEASE (R444). -/
  | xspiResetRelease
  /-- PWRGD_FALL (R447). -/
  | pwrgdFall
  /-- RAIL_UNDERVOLT (R448). -/
  | railUndervolt (rail : Nat)
  /-- SYS_CLK_LOSS (R449). -/
  | sysClkLoss
  /-- ETH_REFCLK_LOSS (R449). -/
  | ethRefclkLoss (h : Nat)
  /-- HOST_REFCLK_LOSS (R449). -/
  | hostRefclkLoss (l : Nat)
  /-- CSR_WRITE (R12). -/
  | csrWrite (who : Requester) (off size : Nat) (v : W64)
  /-- CSR_FAULTY_READ (R7). -/
  | csrFaultyRead (who : Requester) (off size : Nat)
  /-- CSR_LOWER_HALF_READ (R9). -/
  | csrLowerHalfRead (who : Requester) (off : Nat)
  /-- RC_READ (R16). -/
  | rcRead (who : Requester) (off size : Nat)
  /-- TURN_START (R20). -/
  | turnStart
  /-- STITCH_BOUNDARY (R21). -/
  | stitchBoundary
  /-- LACING_PERIOD_BOUNDARY (R21). -/
  | lacingPeriodBoundary
  /-- STITCH_LEN_REQ_WRITE (R24). -/
  | stitchLenReqWrite (v : W32)
  /-- STITCH_LEN_APPLY (R24). -/
  | stitchLenApply
  /-- STITCH_LACE_COMMIT (R42). -/
  | stitchLaceCommit (v : W32)
  /-- CANCEL (R44). -/
  | cancel
  /-- LACING_SHADOW_WRITE (R44). -/
  | lacingShadowWrite (off : Nat) (wide : Bool) (v : W64)
  /-- LACE_SWAP (R43). -/
  | laceSwap
  /-- SERVICE_UNIT_BOUNDARY (R39). -/
  | serviceUnitBoundary (c u : Nat) (background : Bool)
  /-- THREAD_ISSUE_CYCLE (R50). -/
  | threadIssueCycle (sp : Nat)
  /-- ADD (R92). -/
  | add (tid : Nat) (rd ra rb : Reg)
  /-- SUB (R92). -/
  | sub (tid : Nat) (rd ra rb : Reg)
  /-- AND (R92). -/
  | and (tid : Nat) (rd ra rb : Reg)
  /-- OR (R92). -/
  | or (tid : Nat) (rd ra rb : Reg)
  /-- XOR (R92). -/
  | xor (tid : Nat) (rd ra rb : Reg)
  /-- ANDN (R92). -/
  | andn (tid : Nat) (rd ra rb : Reg)
  /-- SHL (R92). -/
  | shl (tid : Nat) (rd ra rb : Reg)
  /-- SHR (R92). -/
  | shr (tid : Nat) (rd ra rb : Reg)
  /-- SAR (R92). -/
  | sar (tid : Nat) (rd ra rb : Reg)
  /-- ROL (R92). -/
  | rol (tid : Nat) (rd ra rb : Reg)
  /-- SLT (R92). -/
  | slt (tid : Nat) (rd ra rb : Reg)
  /-- SLTU (R92). -/
  | sltu (tid : Nat) (rd ra rb : Reg)
  /-- SEQ (R92). -/
  | seq (tid : Nat) (rd ra rb : Reg)
  /-- MIN_U (R92). -/
  | minU (tid : Nat) (rd ra rb : Reg)
  /-- MAX_U (R92). -/
  | maxU (tid : Nat) (rd ra rb : Reg)
  /-- CMOVNZ (R92). -/
  | cmovnz (tid : Nat) (rd ra rb : Reg)
  /-- MUL (R92). -/
  | mul (tid : Nat) (rd ra rb : Reg)
  /-- MULHU (R92). -/
  | mulhu (tid : Nat) (rd ra rb : Reg)
  /-- POPC (R92). -/
  | popc (tid : Nat) (rd ra : Reg)
  /-- CLZ (R92). -/
  | clz (tid : Nat) (rd ra : Reg)
  /-- CTZ (R92). -/
  | ctz (tid : Nat) (rd ra : Reg)
  /-- BSW16 (R92). -/
  | bsw16 (tid : Nat) (rd ra : Reg)
  /-- BSW32 (R92). -/
  | bsw32 (tid : Nat) (rd ra : Reg)
  /-- BSW64 (R92). -/
  | bsw64 (tid : Nat) (rd ra : Reg)
  /-- CRC32C (R95). -/
  | crc32c (tid : Nat) (sz : Size) (rd ra rb : Reg)
  /-- HMIX (R95). -/
  | hmix (tid : Nat) (rd ra rb : Reg)
  /-- ADDI (R93). -/
  | addi (tid : Nat) (rd ra : Reg) (imm : W16)
  /-- ANDI (R93). -/
  | andi (tid : Nat) (rd ra : Reg) (imm : W16)
  /-- ORI (R93). -/
  | ori (tid : Nat) (rd ra : Reg) (imm : W16)
  /-- XORI (R93). -/
  | xori (tid : Nat) (rd ra : Reg) (imm : W16)
  /-- SHI (R93). -/
  | shi (tid : Nat) (rd ra : Reg) (kind : ShiftKind) (amt : BitVec 6)
  /-- SLTIU (R93). -/
  | sltiu (tid : Nat) (rd ra : Reg) (imm : W16)
  /-- MOVI (R93). -/
  | movi (tid : Nat) (rd : Reg) (imm : W16)
  /-- MOVHI (R93). -/
  | movhi (tid : Nat) (rd : Reg) (h : BitVec 2) (imm : W16)
  /-- BFX (R94). -/
  | bfx (tid : Nat) (rd ra : Reg) (pos lenm1 : BitVec 6)
  /-- BFI (R94). -/
  | bfi (tid : Nat) (rd ra : Reg) (pos lenm1 : BitVec 6)
  /-- RDCTR (R108). -/
  | rdctr (tid : Nat) (rd : Reg) (sel : W16)
  /-- BR (R96). -/
  | br (tid : Nat) (cc : Cond) (ra rb : Reg) (off : BitVec 13)
  /-- BB (R96). -/
  | bb (tid : Nat) (v : BitVec 1) (ra : Reg) (bit : BitVec 6) (off : BitVec 13)
  /-- JMP (R96). -/
  | jmp (tid : Nat) (off : BitVec 13)
  /-- LOOP (R97). -/
  | loop (tid : Nat) (trip : Byte) (len : BitVec 13)
  /-- DONE_DELIVER (R116). -/
  | doneDeliver (tid : Nat) (ra : Reg)
  /-- DONE_DROP (R116). -/
  | doneDrop (tid : Nat) (ra : Reg)
  /-- DONE_SLOWPATH (R116). -/
  | doneSlowpath (tid : Nat) (ra : Reg)
  /-- RETIRE_END (R117). -/
  | retireEnd (tid : Nat)
  /-- CALL (R109). -/
  | call (tid : Nat) (tgt : BitVec 13)
  /-- BRB (R109). -/
  | brb (tid : Nat) (cc : Cond) (ra rb : Reg) (off : BitVec 13)
  /-- JR (R109). -/
  | jr (tid : Nat) (rd ra : Reg)
  /-- LOOPR (R109). -/
  | loopr (tid : Nat) (ra : Reg) (len : BitVec 13)
  /-- LD (R98). -/
  | ld (tid : Nat) (sz : Size) (sx : Bool) (rd ra : Reg) (off : BitVec 13)
  /-- ST (R98). -/
  | st (tid : Nat) (sz : Size) (rd ra : Reg) (off : BitVec 13)
  /-- HLD (R99). -/
  | hld (tid : Nat) (sz : Size) (sx : Bool) (rd ra : Reg) (off : BitVec 13)
  /-- HST (R99). -/
  | hst (tid : Nat) (sz : Size) (rd ra : Reg) (off : BitVec 13)
  /-- SLD (R100). -/
  | sld (tid : Nat) (sz : Size) (sx : Bool) (rd ra : Reg) (off : BitVec 13)
  /-- SST (R100). -/
  | sst (tid : Nat) (sz : Size) (rd ra : Reg) (off : BitVec 13)
  /-- FETCH_ADD (R100). -/
  | fetchAdd (tid : Nat) (wide : Bool) (rd ra rb : Reg)
  /-- SATOM_SWAP (R100). -/
  | satomSwap (tid : Nat) (wide : Bool) (rd ra rb : Reg)
  /-- CAS (R100). -/
  | cas (tid : Nat) (wide : Bool) (rd ra rb : Reg)
  /-- SATOM_AND (R100). -/
  | satomAnd (tid : Nat) (wide : Bool) (rd ra rb : Reg)
  /-- SATOM_OR (R100). -/
  | satomOr (tid : Nat) (wide : Bool) (rd ra rb : Reg)
  /-- SATOM_XOR (R100). -/
  | satomXor (tid : Nat) (wide : Bool) (rd ra rb : Reg)
  /-- SATOM_MIN_U (R100). -/
  | satomMinU (tid : Nat) (wide : Bool) (rd ra rb : Reg)
  /-- SATOM_MAX_U (R100). -/
  | satomMaxU (tid : Nat) (wide : Bool) (rd ra rb : Reg)
  /-- SCRATCH_ACCESS_PERFORM (R60). -/
  | scratchAccessPerform (m bank : Nat)
  /-- LKUP (R101). -/
  | lkup (tid : Nat) (tk : BitVec 2) (ra : Reg) (sel : BitVec 5) (dl : BitVec 7)
  /-- LOOKUP_RESULT (R102). -/
  | lookupResult (tid tk : Nat)
  /-- LKW (R102). -/
  | lkw (tid : Nat) (rd : Reg) (tk : BitVec 2)
  /-- LOOKUP_DEADLINE (R102). -/
  | lookupDeadline (tid : Nat)
  /-- FCWB (R107). -/
  | fcwb (tid : Nat) (rd ra rb : Reg)
  /-- YSTAGE (R69). -/
  | ystage (tid : Nat) (ra : Reg) (idx : BitVec 3)
  /-- YSEND (R69). -/
  | ysend (tid : Nat) (rd ra : Reg) (nm1 : BitVec 3) (tag : BitVec 6) (blk : Bool)
  /-- YRES (R73). -/
  | yres (tid : Nat) (rd ra : Reg) (lenm1 : Byte) (tag : BitVec 6) (blk : Bool)
  /-- YPUT (R73). -/
  | yput (tid : Nat) (ra : Reg) (idx : Byte)
  /-- YCOMMIT (R73). -/
  | ycommit (tid : Nat) (rd : Reg)
  /-- YRECV (R75). -/
  | yrecv (tid : Nat) (rd ra : Reg) (ch : BitVec 2)
  /-- YNOTE (R106). -/
  | ynote (tid : Nat) (rd : Reg)
  /-- WAIT (R78). -/
  | wait (tid : Nat) (rd ra : Reg) (nb : Bool)
  /-- WAIT_WAKE (R78). -/
  | waitWake (tid : Nat)
  /-- SIGNAL (R77). -/
  | signal (tid : Nat) (thr : BitVec 3) (bit : BitVec 5)
  /-- CSUB (R107). -/
  | csub (tid : Nat) (rd ra : Reg)
  /-- QPOST (R221). -/
  | qpost (tid : Nat) (rd ra rb : Reg)
  /-- RESUME (R111). -/
  | resume (tid : Nat) (ra : Reg)
  /-- FREC (R111). -/
  | frec (tid : Nat) (rd ra : Reg)
  /-- TSTATE (R111). -/
  | tstate (tid : Nat) (rd : Reg)
  /-- DEVLD (R110). -/
  | devld (tid : Nat) (sz : Size) (sx : Bool) (rd ra : Reg) (off : BitVec 13)
  /-- DEVICE_LOAD_DATA (R110). -/
  | deviceLoadData (tid : Nat)
  /-- DEVST (R110). -/
  | devst (tid : Nat) (sz : Size) (rd ra : Reg) (off : BitVec 13)
  /-- CSRRD (R112). -/
  | csrrd (tid : Nat) (wide sx : Bool) (rd ra : Reg) (off : BitVec 13)
  /-- CSRWR (R112). -/
  | csrwr (tid : Nat) (wide : Bool) (rd ra : Reg) (off : BitVec 13)
  /-- YARN_STATUS_RETURN (R104). -/
  | yarnStatusReturn (id : Nat)
  /-- MESSAGE_ARRIVAL (R70). -/
  | messageArrival (id : Nat)
  /-- BLOCKING_SEND_RETRY (R69). -/
  | blockingSendRetry (id : Nat)
  /-- RESERVATION_EXPIRY (R74). -/
  | reservationExpiry (tid : Nat)
  /-- DEADLOCK (R79). -/
  | deadlock (sp : Nat)
  /-- ESCALATION_WINDOW_END (R80). -/
  | escalationWindowEnd (sp : Nat)
  /-- OVERRUN (R126). -/
  | overrun (tid : Nat)
  /-- THR_CTRL_RESUME (R81). -/
  | thrCtrlResume (sp mask : Nat)
  /-- HALT (R83). -/
  | dbgHalt (sp mask : Nat) (hard : Bool)
  /-- SOFT_HALT_EFFECT (R83). -/
  | softHaltEffect (tid : Nat)
  /-- STEP (R83). -/
  | dbgStep (sp mask : Nat)
  /-- DBG_RESUME (R83). -/
  | dbgResume (sp mask : Nat)
  /-- MULE_SWAP_REQUEST (R59). -/
  | muleSwapRequest (m spn : Nat)
  /-- MULE_SWAP_APPLY (R59). -/
  | muleSwapApply (m : Nat)
  /-- LONG_WORK_RESTART (R58). -/
  | longWorkRestart (tid : Nat)
  /-- BANK_DRAIN_END (R58). -/
  | bankDrainEnd (sp : Nat)
  /-- ROLE_CHANGE_REQUEST (R64). -/
  | roleChangeRequest (sp role : Nat) (swap : Bool)
  /-- ROLE_FORCED (R64). -/
  | roleForced (sp : Nat)
  /-- ROLE_CHANGE_APPLY (R64). -/
  | roleChangeApply (sp : Nat)
  /-- MULE_LOAD_START (R84). -/
  | muleLoadStart (m spn : Nat)
  /-- IMAGE_LOAD_DONE (R84). -/
  | imageLoadDone (m : Nat)
  /-- WORKER_DISPATCH (R113). -/
  | workerDispatch (tid : Nat)
  /-- FRAME_RECEIVED (R132). -/
  | frameReceived (p : Nat) (frame : List Byte) (fcsOk : Bool) (corrected : Nat)
  /-- ETH_HALF_APPLY (R129). -/
  | ethHalfApply (h : Nat)
  /-- PORT_LINK_UP (R131). -/
  | portLinkUp (p : Nat)
  /-- PFC_XOFF_RESEND (R134). -/
  | pfcXoffResend (p q : Nat)
  /-- PFC_FRAME_RECEIVED (R134). -/
  | pfcFrameReceived (p : Nat) (frame : List Byte)
  /-- PFC_PAUSE_EXPIRY (R134). -/
  | pfcPauseExpiry (p c : Nat)
  /-- STEP_PTP (R135). -/
  | stepPtp
  /-- PTP_VALID_WRITE (R135). -/
  | ptpValidWrite (v : Bool)
  /-- PPS_OUT_RISE (R137). -/
  | ppsOutRise
  /-- PPS_OUT_FALL (R137). -/
  | ppsOutFall
  /-- PPS_IN_EDGE (R137). -/
  | ppsInEdge
  /-- CARD_ADMISSION (R133). -/
  | cardAdmission (lane : Nat)
  /-- PARSE_END (R141). -/
  | parseEnd (id : Nat)
  /-- PRE_DISPATCH_WAIT_END (R144). -/
  | preDispatchWaitEnd (id : Nat) (back0 back1 : Bool)
  /-- FLOW_HOLD_RELEASE (R156). -/
  | flowHoldRelease (k : Nat)
  /-- FCTX_FILL (R155). -/
  | fctxFill (k : Nat)
  /-- CARD_COMMIT (R138). -/
  | cardCommit (v : W32)
  /-- CARD_SWAP (R138). -/
  | cardSwap
  /-- EM_INSERT (R152). -/
  | emInsert
  /-- EM_UPSERT (R152). -/
  | emUpsert
  /-- EM_DELETE (R152). -/
  | emDelete
  /-- PFX_ADD (R152). -/
  | pfxAdd
  /-- PFX_DEL (R152). -/
  | pfxDel
  /-- RULE_WRITE (R152). -/
  | ruleWrite
  /-- RULE_CLEAR (R152). -/
  | ruleClear
  /-- FCTX_WRITE (R152). -/
  | fctxWrite
  /-- LAST_UPDATE_DONE (R153). -/
  | lastUpdateDone
  /-- CONTROL_REINJECTION (R154). -/
  | controlReinjection (h : Nat)
  /-- EDITOR_PACKET_RELEASE (R159). -/
  | editorPacketRelease (id : Nat)
  /-- SET (R162). -/
  | set (id : Nat)
  /-- VLAN_PUSH (R162). -/
  | vlanPush (id : Nat)
  /-- VLAN_POP (R162). -/
  | vlanPop (id : Nat)
  /-- ENCAP_VXLAN (R163). -/
  | encapVxlan (id : Nat)
  /-- ENCAP_GENEVE (R163). -/
  | encapGeneve (id : Nat)
  /-- DECAP (R162). -/
  | decap (id : Nat)
  /-- CSUM (R164). -/
  | csum (id : Nat)
  /-- CRYPTO (R165). -/
  | crypto (id : Nat)
  /-- MIRROR (R166). -/
  | mirror (id : Nat)
  /-- TTL_DEC (R164). -/
  | ttlDec (id : Nat)
  /-- TO_PORT (R169). -/
  | toPort (id : Nat)
  /-- TO_HOSTQ (R226). -/
  | toHostq (id : Nat)
  /-- TO_PEER (R167). -/
  | toPeer (id : Nat)
  /-- TO_CONTROL (R160). -/
  | toControl (id : Nat)
  /-- DROP (R162). -/
  | drop (id : Nat)
  /-- EGRESS_FRAME_START (R170). -/
  | egressFrameStart (p : Nat)
  /-- SHAPER_REFILL (R171). -/
  | shaperRefill
  /-- CIPHER_JOB_ADMIT (R180). -/
  | cipherJobAdmit (id : Nat)
  /-- SESSION_UNWRAP (R191). -/
  | sessionUnwrap (i : Nat)
  /-- CIPHER_JOB_START (R203). -/
  | cipherJobStart (u : Nat)
  /-- CIPHER_BLOCK_DONE (R204). -/
  | cipherBlockDone (u : Nat) (err : Bool)
  /-- CIPHER_JOB_COMPLETE (R181). -/
  | cipherJobComplete (id : Nat)
  /-- INSTALL (R194). -/
  | install (svc : Bool)
  /-- LIMITS (R195). -/
  | limits (svc : Bool)
  /-- INVALIDATE (R193). -/
  | invalidate (svc : Bool)
  /-- SESSION_READ (R193). -/
  | sessionRead (svc : Bool)
  /-- SESSION_OP_DONE (R196). -/
  | sessionOpDone (i : Nat)
  /-- WQ_DOORBELL (R215). -/
  | wqDoorbell (f k : Nat) (v : W32)
  /-- CQ_DOORBELL (R216). -/
  | cqDoorbell (f k : Nat) (v : W32)
  /-- CQ_ARM (R240). -/
  | cqArm (f k : Nat) (v : W32)
  /-- DOORBELL_DISCARD (R219). -/
  | doorbellDiscard (f off size : Nat) (write : Bool)
  /-- WQE_FETCH (R231). -/
  | wqeFetch (h : Nat) (dev : Bool) (g : Nat)
  /-- FETCH_COMPLETE (R223). -/
  | fetchComplete (n : Nat)
  /-- ERROR_CQE_WRITE (R236). -/
  | errorCqeWrite (n : Nat)
  /-- JOB_COMPLETE (R228). -/
  | jobComplete (n first : Nat)
  /-- PARKED_CQE_WRITE (R233). -/
  | parkedCqeWrite (c : Nat)
  /-- INTERRUPT_MOD_TIMER (R240). -/
  | interruptModTimer (n : Nat)
  /-- CQ_STALL (R234). -/
  | cqStall (n : Nat)
  /-- NET_TX_SEND (R225). -/
  | netTxSend (n first : Nat)
  /-- NET_TX_BOBBIN_WAIT_END (R225). -/
  | netTxBobbinWaitEnd (n first : Nat)
  /-- NET_RX_RECV (R226). -/
  | netRxRecv (n first : Nat)
  /-- MSG_DELIVER (R227). -/
  | msgDeliver (n : Nat)
  /-- MSG_COMPLETION (R227). -/
  | msgCompletion (h : Nat)
  /-- CQ_CI_MESSAGE (R241). -/
  | cqCiMessage (h : Nat)
  /-- CQ_CREATE (R244). -/
  | cqCreate (f : Nat)
  /-- WQ_CREATE (R244). -/
  | wqCreate (f : Nat)
  /-- CQ_DELETE (R244). -/
  | cqDelete (f : Nat)
  /-- WQ_DELETE (R244). -/
  | wqDelete (f : Nat)
  /-- QUEUE_RESTART (R238). -/
  | queueRestart (f : Nat)
  /-- QUEUE_ABORT (R239). -/
  | queueAbort (f : Nat)
  /-- QUEUE_ABORT_SQUASH (R239). -/
  | queueAbortSquash (n : Nat)
  /-- MODERATE (R240). -/
  | moderate (f : Nat)
  /-- QUERY (R243). -/
  | query (f : Nat)
  /-- SCHED (R243). -/
  | sched (f : Nat)
  /-- BOBBIN_ENABLE (R248). -/
  | bobbinEnable
  /-- BOBBIN_PART_WRITE (R251). -/
  | bobbinPartWrite (who : Requester) (t c : Nat) (w : W64)
  /-- ALLOC (R252). -/
  | alloc (h : Nat)
  /-- FREE (R257). -/
  | free (h : Nat)
  /-- TRANSFER (R257). -/
  | transfer (h : Nat)
  /-- INCREF (R258). -/
  | incref (h : Nat)
  /-- LINK (R261). -/
  | link (h : Nat)
  /-- BOBBIN_INFO (R262). -/
  | bobbinInfo (h : Nat)
  /-- BOBBIN_SCRUB (R264). -/
  | bobbinScrub (handle : Nat) (uncorrectable : Bool)
  /-- VOL_SET (R271). -/
  | volSet
  /-- VOL_ONLINE (R271). -/
  | volOnline
  /-- VOL_OFFLINE (R271). -/
  | volOffline
  /-- VOL_OFFLINE_DONE (R271). -/
  | volOfflineDone (v : Nat)
  /-- VOL_READ (R271). -/
  | volRead
  /-- VOL_DELETE (R271). -/
  | volDelete
  /-- CONN_SET (R269). -/
  | connSet
  /-- CONN_UP (R269). -/
  | connUp
  /-- CONNECTION_UP_DONE (R269). -/
  | connectionUpDone (c : Nat) (ok : Bool)
  /-- CONN_DOWN (R269). -/
  | connDown
  /-- CONN_READ (R269). -/
  | connRead
  /-- KEEP_ALIVE (R269). -/
  | keepAlive (c : Nat) (answered : Bool)
  /-- CONNECTION_DOWN (R285). -/
  | connectionDown (c : Nat) (tcp : Bool)
  /-- READ (R280). -/
  | read (n first : Nat)
  /-- WRITE (R279). -/
  | write (n first : Nat)
  /-- FLUSH (R284). -/
  | flush (n first : Nat)
  /-- WRITE_ZEROES (R277). -/
  | writeZeroes (n first : Nat)
  /-- DEALLOCATE (R277). -/
  | deallocate (n first : Nat)
  /-- COMPARE (R277). -/
  | compare (n first : Nat)
  /-- COMMAND_START (R277). -/
  | commandStart (id : Nat)
  /-- WBUF_RESERVE (R279). -/
  | wbufReserve (id : Nat)
  /-- VERSION_VISIBLE (R279). -/
  | versionVisible (id : Nat)
  /-- READ_RESOLVE (R280). -/
  | readResolve (id : Nat)
  /-- BACKING_ISSUE (R281). -/
  | backingIssue (id m : Nat)
  /-- FLUSH_ISSUE (R284). -/
  | flushIssue (id : Nat)
  /-- BACKING_COMPLETION (R277). -/
  | backingCompletion (id k status : Nat) (data : List Byte)
  /-- BACKING_TIMEOUT (R285). -/
  | backingTimeout (id k : Nat)
  /-- FREEZE (R286). -/
  | freeze (n : Nat)
  /-- IDENTIFY (R292). -/
  | identify (n : Nat)
  /-- GET_LOG (R293). -/
  | getLog (n : Nat)
  /-- GET_FEATURE (R294). -/
  | getFeature (n : Nat)
  /-- COALESCE (R294). -/
  | coalesce (n : Nat)
  /-- VOLUME_WBUF (R294). -/
  | volumeWbuf (n : Nat)
  /-- VOLUME_STATE (R294). -/
  | volumeState (n : Nat)
  /-- FW_DOWNLOAD (R295). -/
  | fwDownload (n : Nat)
  /-- ABORT (R290). -/
  | weltAbort (n : Nat)
  /-- QUEUE_CREATE (R291). -/
  | queueCreate (n : Nat)
  /-- QUEUE_DELETE (R291). -/
  | queueDelete (n : Nat)
  /-- ADMIN_QUEUE_RESTART (R291). -/
  | adminQueueRestart (n : Nat)
  /-- FLR (R309). -/
  | flr (f : Nat)
  /-- VF_ENABLE_WRITE (R308). -/
  | vfEnableWrite (p : Nat) (en : Bool) (num : Nat)
  /-- TEARDOWN_SQUASH (R309). -/
  | teardownSquash (f : Nat)
  /-- TEARDOWN_READ_ABANDON (R309). -/
  | teardownReadAbandon (f : Nat)
  /-- TEARDOWN_END (R309). -/
  | teardownEnd (f : Nat)
  /-- CONFIG_REQUEST (R324). -/
  | configRequest (f : Nat) (r : CfgReg) (v : Option Nat)
  /-- CONFIG_READY (R324). -/
  | configReady (l : Nat)
  /-- TEARDOWN_ACCESS (R310). -/
  | teardownAccess (f size : Nat) (write : Bool)
  /-- INTX_CLEAR (R314). -/
  | intxClear (f : Nat)
  /-- COMPLETION_TIMEOUT (R318). -/
  | completionTimeout (port : Option Nat) (tag : Nat)
  /-- TAG_QUARANTINE_END (R318). -/
  | tagQuarantineEnd (port : Option Nat) (tag : Nat)
  /-- COMPLETION_ARRIVAL (R318). -/
  | completionArrival (port : Option Nat) (tag : Nat) (st : CplStatus) (data : List Byte)
  /-- FUNCTION_ABORT (R326). -/
  | functionAbort
  /-- TENANT_ABORT (R327). -/
  | tenantAbort
  /-- ABORT_SQUASH (R326). -/
  | abortSquash
  /-- ABORT_READ_ABANDON (R326). -/
  | abortReadAbandon
  /-- RELEASE_FUNCTION (R327). -/
  | releaseFunction
  /-- RELEASE_TENANT (R327). -/
  | releaseTenant
  /-- DOE_MESSAGE (R319). -/
  | doeMessage (pf type index : Nat)
  /-- IDE_KM (R320). -/
  | ideKm (session stream op : Nat) (key : List Byte)
  /-- IDE_CHECK_FAILED (R320). -/
  | ideCheckFailed (f : Nat)
  /-- PRESENCE_DETECT (R335). -/
  | presenceDetect (l : Nat)
  /-- PRESENCE_LOSS (R335). -/
  | presenceLoss (l : Nat)
  /-- PWR_ON (R335). -/
  | pwrOn (l : Nat)
  /-- PWR_OFF (R341). -/
  | pwrOff (l : Nat)
  /-- PWR_OFF_POWER_DROP (R341). -/
  | pwrOffPowerDrop (l : Nat)
  /-- SLOT_POWER_STABLE (R335). -/
  | slotPowerStable (l : Nat)
  /-- POWER_FAULT (R336). -/
  | powerFault (l : Nat)
  /-- ATTENTION_BUTTON (R337). -/
  | attentionButton (l : Nat)
  /-- ATTN_REQUEST (R337). -/
  | attnRequest (l : Nat)
  /-- EYELET_LINK_UP (R332). -/
  | eyeletLinkUp (l : Nat) (flit : Bool) (speed width : Nat)
  /-- ENUMERATION_DONE (R332). -/
  | enumerationDone (l : Nat) (ok : Bool) (vendor device : Nat) (bars : List Nat)
  /-- TRAINING_TIMEOUT (R335). -/
  | trainingTimeout (l : Nat)
  /-- EYELET_LINK_DOWN (R339). -/
  | eyeletLinkDown (l : Nat)
  /-- AER_UNCORRECTABLE (R339). -/
  | aerUncorrectable (l : Nat)
  /-- WIN_COMMIT (R344). -/
  | winCommit (p : Nat)
  /-- WINDOW_SWAP (R345). -/
  | windowSwap (p : Nat)
  /-- DRAIN_LIMIT (R346). -/
  | drainLimit (p : Nat)
  /-- PEER_WRITE (R349). -/
  | peerWrite (n first : Nat)
  /-- PEER_READ (R349). -/
  | peerRead (n first : Nat)
  /-- PEER_SEND (R350). -/
  | peerSend (n first : Nat)
  /-- INBOUND_REQUEST (R333). -/
  | inboundRequest (l : Nat) (own mem write : Bool) (addr len tag : Nat) (data : List Byte)
  /-- INBOUND_MEM (R351). -/
  | inboundMem (l : Nat)
  /-- INBOUND_DOORBELL (R351). -/
  | inboundDoorbell (l : Nat)
  /-- INBOUND_NOTIFY (R351). -/
  | inboundNotify (l : Nat)
  /-- REGION_VALIDATE (R358). -/
  | regionValidate
  /-- DRAM_BURST (R362). -/
  | dramBurst (i sub : Nat)
  /-- PER_BANK_REFRESH (R364). -/
  | perBankRefresh (i sub b : Nat)
  /-- REF_FORCED (R366). -/
  | refForced (i sub b : Nat)
  /-- REFRESH_MULT_READ (R365). -/
  | refreshMultRead (i code : Nat)
  /-- TARGETED_REFRESH (R369). -/
  | targetedRefresh (i sub b : Nat)
  /-- ACT_TABLE_CLEAR (R368). -/
  | actTableClear (i : Nat)
  /-- PATROL_READ (R370). -/
  | patrolRead (i : Nat) (corrected : Bool)
  /-- SCRUB_WRITEBACK (R370). -/
  | scrubWriteback (i : Nat)
  /-- DQ_TIMING_MEASURE (R371). -/
  | dqTimingMeasure (i : Nat) (up down : List Nat)
  /-- CHANNEL_FREEZE (R372). -/
  | channelFreeze (i cause loc row col syndrome : Nat)
  /-- FREEZE_TEST_DONE (R373). -/
  | freezeTestDone (i : Nat) (pass : Bool)
  /-- RESYNC_DONE (R375). -/
  | resyncDone (i : Nat)
  /-- SPARE_IN (R377). -/
  | spareIn (h : Nat) (pass : Bool)
  /-- SPARE_ACTIVATE (R377). -/
  | spareActivate (h pause : Nat)
  /-- REGION_RESTORE (R378). -/
  | regionRestore
  /-- CH_RETIRE (R377). -/
  | chRetire
  /-- LOCKSTEP (R383). -/
  | lockstep
  /-- BOOT_SLOT_START (R389). -/
  | bootSlotStart
  /-- CHUNK_LANDED (R389). -/
  | chunkLanded (ok : Bool)
  /-- DRAM_TRAINING_DONE (R371). -/
  | dramTrainingDone (failed : List Nat) (rank row col cap : Nat)
  /-- CONFIG_RUN (R397). -/
  | configRun
  /-- W32 (R397). -/
  | w32
  /-- W64 (R397). -/
  | w64
  /-- COPY (R397). -/
  | copy
  /-- ADDR64 (R397). -/
  | addr64
  /-- CSR_BLOCK (R397). -/
  | csrBlock
  /-- POLL (R397). -/
  | poll
  /-- POLL_TIMEOUT (R397). -/
  | pollTimeout
  /-- END (R397). -/
  | cfgEnd
  /-- STORAGE_ASSIGN (R398). -/
  | storageAssign (via : Option MboxVia)
  /-- OUTPUT_GATE_OPEN (R392). -/
  | outputGateOpen (ok : Bool)
  /-- SLOT_BOOT_FAIL (R394). -/
  | slotBootFail
  /-- JOURNAL_APPEND (R402). -/
  | journalAppend
  /-- COMPACTED (R404). -/
  | compacted
  /-- MBOX_INFO (R415). -/
  | mboxInfo (via : MboxVia)
  /-- FW_WRITE (R406). -/
  | fwWrite (via : MboxVia)
  /-- STORE (R406). -/
  | store (via : CommitVia) (ok : Bool)
  /-- STORE_ACTIVATE (R407). -/
  | storeActivate (via : CommitVia) (ok : Bool)
  /-- ACTIVATE (R407). -/
  | activate (via : CommitVia)
  /-- SVN_COMMIT (R399). -/
  | svnCommit (via : MboxVia)
  /-- DEBUG_CHALLENGE (R413). -/
  | debugChallenge (via : MboxVia)
  /-- DEBUG_UNLOCK (R413). -/
  | debugUnlock (via : MboxVia)
  /-- NV_READ (R415). -/
  | nvRead (via : MboxVia)
  /-- NV_WRITE (R415). -/
  | nvWrite (via : MboxVia)
  /-- RECOVERY_BOOT (R396). -/
  | recoveryBoot (via : MboxVia)
  /-- MCTP_CONTROL (R408). -/
  | mctpControl (b cmd eid : Nat)
  /-- MCTP_UNSUPPORTED_MESSAGE (R408). -/
  | mctpUnsupportedMessage (b type : Nat)
  /-- GETPDR (R409). -/
  | getpdr (b handle : Nat)
  /-- GETSENSORREADING (R409). -/
  | getsensorreading (b n : Nat)
  /-- GETSTATESENSORREADINGS (R409). -/
  | getstatesensorreadings (b n : Nat)
  /-- SETNUMERICSENSORENABLE (R409). -/
  | setnumericsensorenable (b n : Nat) (en : Bool)
  /-- SETEVENTRECEIVER (R409). -/
  | seteventreceiver (b eid : Nat)
  /-- REQUESTUPDATE (R410). -/
  | requestupdate (b size : Nat)
  /-- REQUESTFIRMWAREDATA (R410). -/
  | requestfirmwaredata (b : Nat) (data : List Byte) (ok : Bool)
  /-- ACTIVATEFIRMWARE (R410). -/
  | activatefirmware (b : Nat) (self : Bool)
  /-- GETSTATUS (R410). -/
  | getstatus (b : Nat)
  /-- CANCELUPDATECOMPONENT (R410). -/
  | cancelupdatecomponent (b : Nat)
  /-- CANCELUPDATE (R410). -/
  | cancelupdate (b : Nat)
  /-- QUERYDEVICEIDENTIFIERS (R410). -/
  | querydeviceidentifiers (b : Nat)
  /-- GETFIRMWAREPARAMETERS (R410). -/
  | getfirmwareparameters (b : Nat)
  /-- SPDM_REQUEST (R411). -/
  | spdmRequest (path code session param off len : Nat)
  /-- KEY_EXCHANGE (R411). -/
  | keyExchange (path : Nat)
  /-- SEALING_KEY_MESSAGE (R412). -/
  | sealingKeyMessage (path session index tenant soft hard : Nat) (key : List Byte)
  /-- FLIT_REPLAY (R417). -/
  | flitReplay (dir lane : Nat)
  /-- SEAM_DOWN (R418). -/
  | seamDown (dir : Nat)
  /-- SEAM_RETRAIN_DONE (R418). -/
  | seamRetrainDone (ok : Bool)
  /-- SEAM_LOSS (R419). -/
  | seamLoss
  /-- HEARTBEAT (R420). -/
  | heartbeat (half : Nat)
  /-- WITNESS_FRAME_RECEIVED (R420). -/
  | witnessFrameReceived (half : Nat) (ack crcOk : Bool)
  /-- FENCE (R422). -/
  | fence
  /-- FENCE_ACK (R424). -/
  | fenceAck
  /-- WITNESS_SILENT (R420). -/
  | witnessSilent (half : Nat)
  /-- HALF_FENCE (R423). -/
  | halfFence
  /-- FENCE_TIMEOUT (R424). -/
  | fenceTimeout
  /-- REJOIN_RETRAIN (R428). -/
  | rejoinRetrain (ok : Bool)
  /-- RETRAIN (R428). -/
  | retrain (ok : Bool)
  /-- REJOIN (R429). -/
  | rejoin
  /-- HALF_RESET (R428). -/
  | halfReset
  /-- REJOIN_DONE (R428). -/
  | rejoinDone
  /-- ERROR_REPORT (R430). -/
  | errorReport (k pos row : Nat) (unc : Bool) (owner : Option Nat)
  /-- FAULT_INJECT (R430). -/
  | faultInject
  /-- SPINDLE_SWAP_DRAIN (R432). -/
  | spindleSwapDrain (sp : Nat)
  /-- SPINDLE_SWAP_COMPLETE (R432). -/
  | spindleSwapComplete (sp : Nat)
  /-- SPARE_ENGINE_ENABLE (R433). -/
  | spareEngineEnable (pos : Nat)
  /-- CARD_LANE_RETIRE (R434). -/
  | cardLaneRetire (l : Nat)
  /-- WEAR_SAMPLE (R438). -/
  | wearSample (ages : List Nat)
  /-- DOMAIN_SWITCH (R451). -/
  | domainSwitch (v : W64)
  /-- DOMAIN_OFF_DONE (R451). -/
  | domainOffDone (k : Nat)
  /-- DOMAIN_ON_DONE (R451). -/
  | domainOnDone (k : Nat)
  /-- SENSOR_READ (R452). -/
  | sensorRead (temps rails : List Nat) (watts : Nat)
  /-- THROTTLE_RELEASE (R453). -/
  | throttleRelease
  /-- CLOCK_CHANGE (R453). -/
  | clockChange
  /-- PERST_N_DEASSERTION (R324). -/
  | perstNDeassertion (l : Nat)
  /-- HOST_LINK_UP (R301). -/
  | hostLinkUp (l : Nat) (flit : Bool) (speed width : Nat)
  /-- PORT_LINK_DOWN (R167). -/
  | portLinkDown (p : Nat)
  /-- MSIX_TABLE_WRITE (R313). -/
  | msixTableWrite (f x w : Nat) (v : W32)
  /-- ROW_ACTIVE_TIMEOUT (R363). -/
  | rowActiveTimeout (i sub b : Nat)
  deriving DecidableEq, Repr

end Sys2Proof
end

