-- ==== Sys2Proof/Decode.lean ====
section
/-! DEFINITION. Decoding. The spec's table of operations gives its rows no bits, so no word spells a command of the block.
The 32-bit words of the Obord instructions, which the spindles fetch from their instruction stores, are decoded here
(R89, R90, Tables 3.1, 3.2, 3.5 and 3.9), rejecting by the DETAIL of Table 3.3, and encoded again beside it. -/

namespace Sys2Proof

/-- The command that a word of `nbits` bits spells by the table's bits: no row has any. -/
def decodeTableWord (_nbits _w : Nat) : Option Instr := none

/-! ### Fields of an instruction word -/

/-- Bits `hi` to `lo` of a word, as a bit vector of `n` bits. -/
def fieldOf (n : Nat) (w : W32) (lo : Nat) : BitVec n := w.extractLsb' lo n

/-- A field placed at bit `lo` of a word. -/
def placed {n : Nat} (v : BitVec n) (lo : Nat) : W32 := (v.setWidth 32) <<< lo

/-- The functions of Table 3.5 in the order of their fn values. -/
def AluFn.all : List AluFn :=
  [.add, .sub, .and, .or, .xor, .andn, .shl, .shr, .sar, .rol, .slt, .sltu, .seq, .minU, .maxU, .cmovnz,
   .mul, .mulhu, .popc, .clz, .ctz, .bsw16, .bsw32, .bsw64]

/-- The fn value of an ALU function (Table 3.5). -/
def AluFn.code : AluFn → BitVec 11
  | .add => 0x000 | .sub => 0x001 | .and => 0x002 | .or => 0x003 | .xor => 0x004 | .andn => 0x005
  | .shl => 0x006 | .shr => 0x007 | .sar => 0x008 | .rol => 0x009 | .slt => 0x00A | .sltu => 0x00B
  | .seq => 0x00C | .minU => 0x00D | .maxU => 0x00E | .cmovnz => 0x00F | .mul => 0x010 | .mulhu => 0x011
  | .popc => 0x012 | .clz => 0x013 | .ctz => 0x014 | .bsw16 => 0x015 | .bsw32 => 0x016 | .bsw64 => 0x017

/-- The ALU function of a fn value; none where Table 3.5 defines none. -/
def AluFn.ofCode (c : BitVec 11) : Option AluFn := AluFn.all.find? (fun f => f.code == c)

/-- POPC to BSW64 take one operand, and their rb field must be zero (R92). -/
def AluFn.unary : AluFn → Bool
  | .popc | .clz | .ctz | .bsw16 | .bsw32 | .bsw64 => true
  | _ => false

def Size.code : Size → BitVec 2
  | .b => 0 | .h => 1 | .w => 2 | .d => 3

def Size.ofCode (c : BitVec 2) : Size :=
  if c = 0 then .b else if c = 1 then .h else if c = 2 then .w else .d

/-- The bytes an access of a size moves. -/
def Size.bytes : Size → Nat
  | .b => 1 | .h => 2 | .w => 4 | .d => 8

def ShiftKind.code : ShiftKind → BitVec 2
  | .shl => 0 | .shr => 1 | .sar => 2 | .rol => 3

def ShiftKind.ofCode (c : BitVec 2) : ShiftKind :=
  if c = 0 then .shl else if c = 1 then .shr else if c = 2 then .sar else .rol

def Cond.code : Cond → BitVec 3
  | .eq => 0 | .ne => 1 | .lt => 2 | .ge => 3 | .ltu => 4 | .geu => 5

def Cond.ofCode (c : BitVec 3) : Option Cond :=
  if c = 0 then some .eq else if c = 1 then some .ne else if c = 2 then some .lt
  else if c = 3 then some .ge else if c = 4 then some .ltu else if c = 5 then some .geu else none

def AtomOp.code : AtomOp → BitVec 4
  | .fetchAdd => 0 | .swap => 1 | .cas => 2 | .and => 3 | .or => 4 | .xor => 5 | .minU => 6 | .maxU => 7

def AtomOp.ofCode (c : BitVec 4) : Option AtomOp :=
  if c = 0 then some .fetchAdd else if c = 1 then some .swap else if c = 2 then some .cas
  else if c = 3 then some .and else if c = 4 then some .or else if c = 5 then some .xor
  else if c = 6 then some .minU else if c = 7 then some .maxU else none

def DoneMode.code : DoneMode → BitVec 2
  | .deliver => 0 | .drop => 1 | .slowpath => 2

def DoneMode.ofCode (c : BitVec 2) : Option DoneMode :=
  if c = 0 then some .deliver else if c = 1 then some .drop else if c = 2 then some .slowpath else none

def bit (b : Bool) : BitVec 1 := if b then 1 else 0

/-! ### Encoding -/

def encR {n : Nat} (op : BitVec 6) (rd ra rb : Reg) (fn : BitVec n) : W32 :=
  placed op 26 ||| placed rd 21 ||| placed ra 16 ||| placed rb 11 ||| placed fn 0

def encI (op : BitVec 6) (rd ra : Reg) (imm : W16) : W32 :=
  placed op 26 ||| placed rd 21 ||| placed ra 16 ||| placed imm 0

def encF (op : BitVec 6) (rd ra : Reg) (pos lenm1 : BitVec 6) : W32 :=
  placed op 26 ||| placed rd 21 ||| placed ra 16 ||| placed pos 10 ||| placed lenm1 4

def encM (op : BitVec 6) (sz : BitVec 2) (sx : Bool) (rd ra : Reg) (off : BitVec 13) : W32 :=
  placed op 26 ||| placed rd 21 ||| placed ra 16 ||| placed sz 14 ||| placed (bit sx) 13 ||| placed off 0

def encB (op : BitVec 6) (cc : Cond) (ra rb : Reg) (off : BitVec 13) : W32 :=
  placed op 26 ||| placed cc.code 23 ||| placed ra 18 ||| placed rb 13 ||| placed off 0

def encL (op : BitVec 6) (trip : Byte) (ra : Reg) (len : BitVec 13) : W32 :=
  placed op 26 ||| placed trip 18 ||| placed ra 13 ||| placed len 0

/-- The word of an instruction (R89, Tables 3.1, 3.2 and 3.9). -/
def encodeOb : Ob → W32
  | .alu fn rd ra rb => encR 0x00 rd ra rb fn.code
  | .crc sz rd ra rb => encR 0x01 rd ra rb sz.code
  | .hmix rd ra rb => encR 0x01 rd ra rb (4 : BitVec 11)
  | .addi rd ra imm => encI 0x02 rd ra imm
  | .andi rd ra imm => encI 0x03 rd ra imm
  | .ori rd ra imm => encI 0x04 rd ra imm
  | .xori rd ra imm => encI 0x05 rd ra imm
  | .shi rd ra k amt => encI 0x06 rd ra (k.code.setWidth 16 <<< 6 ||| amt.setWidth 16)
  | .sltiu rd ra imm => encI 0x07 rd ra imm
  | .movi rd imm => encI 0x08 rd 0 imm
  | .movhi rd h imm => encI 0x09 rd (h.setWidth 5) imm
  | .bfx rd ra pos l => encF 0x0A rd ra pos l
  | .bfi rd ra pos l => encF 0x0B rd ra pos l
  | .rdctr rd sel => encI 0x0C rd 0 sel
  | .br cc ra rb off => encB 0x10 cc ra rb off
  | .bb s ra b off =>
    placed (0x11 : BitVec 6) 26 ||| placed s 25 ||| placed ra 20 ||| placed b 14 ||| placed off 0
  | .jmp off => placed (0x12 : BitVec 6) 26 ||| placed off 0
  | .loop trip len => encL 0x13 trip 0 len
  | .done m ra => placed (0x14 : BitVec 6) 26 ||| placed m.code 24 ||| placed ra 19
  | .call tgt => placed (0x15 : BitVec 6) 26 ||| placed tgt 0
  | .brb cc ra rb off => encB 0x16 cc ra rb off
  | .jr rd ra => encR 0x17 rd ra 0 (0 : BitVec 11)
  | .ld sz sx rd ra off => encM 0x18 sz.code sx rd ra off
  | .st sz rd ra off => encM 0x19 sz.code false rd ra off
  | .sld sz sx rd ra off => encM 0x1A sz.code sx rd ra off
  | .sst sz rd ra off => encM 0x1B sz.code false rd ra off
  | .satom op wide rd ra rb => encR 0x1C rd ra rb ((bit wide).setWidth 11 <<< 4 ||| op.code.setWidth 11)
  | .hld sz sx rd ra off => encM 0x1D sz.code sx rd ra off
  | .hst sz rd ra off => encM 0x1E sz.code false rd ra off
  | .lkup tk ra tid dl =>
    placed (0x20 : BitVec 6) 26 ||| placed tk 24 ||| placed ra 19 ||| placed tid 14 ||| placed dl 7
  | .lkw rd tk => placed (0x21 : BitVec 6) 26 ||| placed rd 21 ||| placed tk 19
  | .fcwb rd ra rb => encR 0x22 rd ra rb (0 : BitVec 11)
  | .ystage ra idx => placed (0x24 : BitVec 6) 26 ||| placed ra 16 ||| placed idx 13
  | .ysend rd ra nm1 tag blk =>
    placed (0x25 : BitVec 6) 26 ||| placed rd 21 ||| placed ra 16 ||| placed nm1 13 ||| placed tag 7 ||| placed (bit blk) 6
  | .yres rd ra l tag blk =>
    placed (0x26 : BitVec 6) 26 ||| placed rd 21 ||| placed ra 16 ||| placed l 8 ||| placed tag 2 ||| placed (bit blk) 1
  | .yput ra idx => placed (0x27 : BitVec 6) 26 ||| placed ra 16 ||| placed idx 8
  | .ycommit rd => placed (0x28 : BitVec 6) 26 ||| placed rd 21
  | .yrecv rd ra ch => placed (0x29 : BitVec 6) 26 ||| placed rd 21 ||| placed ra 16 ||| placed ch 14
  | .ynote rd => placed (0x2A : BitVec 6) 26 ||| placed rd 21
  | .wait rd ra nb => placed (0x2B : BitVec 6) 26 ||| placed rd 21 ||| placed ra 16 ||| placed (bit nb) 15
  | .signal thr b => placed (0x2C : BitVec 6) 26 ||| placed thr 23 ||| placed b 18
  | .csub rd ra => encR 0x2D rd ra 0 (0 : BitVec 11)
  | .qpost rd ra rb => encR 0x2E rd ra rb (0 : BitVec 11)
  | .resume ra => encR 0x30 0 ra 0 (0 : BitVec 11)
  | .frec rd ra => encR 0x30 rd ra 0 (1 : BitVec 11)
  | .tstate rd => encR 0x30 rd 0 0 (2 : BitVec 11)
  | .devld sz sx rd ra off => encM 0x31 sz.code sx rd ra off
  | .devst sz rd ra off => encM 0x32 sz.code false rd ra off
  | .loopr ra len => encL 0x33 0 ra len
  | .csrrd wide sx rd ra off => encM 0x34 (if wide then 3 else 2) sx rd ra off
  | .csrwr wide rd ra off => encM 0x35 (if wide then 3 else 2) false rd ra off

/-! ### Decoding -/

/-- The result of decoding a word: an instruction, or the DETAIL of cause ILLEGAL (Table 3.3) that it faults with. -/
inductive Decoded where
  | ok (i : Ob)
  | illegal (detail : Nat)
  deriving DecidableEq, Repr

/-- R90: the checks of an encoding in their order: an undefined value first (DETAIL 0), then a non-zero reserved field
(DETAIL 1), then the form of the instruction (DETAIL 2, 5 or 6). -/
def checked (defined : Bool) (rsvZero : Bool) (form : Nat) (i : Ob) : Decoded :=
  if defined = false then .illegal 0
  else if rsvZero = false then .illegal 1
  else if form ≠ 0 then .illegal form
  else .ok i

/-- The instruction of an optional value that the tables define or not. -/
def orUndefined {α : Type} (o : Option α) (k : α → Decoded) : Decoded :=
  match o with
  | some a => k a
  | none => .illegal 0

/-- Bits that must be zero. -/
def clear (w : W32) (lo n : Nat) : Bool := fieldOf n w lo == 0

def decR (w : W32) (k : Reg → Reg → Reg → BitVec 11 → Decoded) : Decoded :=
  k (fieldOf 5 w 21) (fieldOf 5 w 16) (fieldOf 5 w 11) (fieldOf 11 w 0)

def decI (w : W32) (k : Reg → Reg → W16 → Decoded) : Decoded :=
  k (fieldOf 5 w 21) (fieldOf 5 w 16) (fieldOf 16 w 0)

def decM (w : W32) (k : Size → Bool → Reg → Reg → BitVec 13 → Decoded) : Decoded :=
  k (Size.ofCode (fieldOf 2 w 14)) (fieldOf 1 w 13 == 1) (fieldOf 5 w 21) (fieldOf 5 w 16) (fieldOf 13 w 0)

/-- A load of format M. -/
def decLoad (w : W32) (k : Size → Bool → Reg → Reg → BitVec 13 → Ob) : Decoded :=
  decM w fun sz sx rd ra off => .ok (k sz sx rd ra off)

/-- A store of format M: its sx field must be zero (R90). -/
def decStore (w : W32) (k : Size → Reg → Reg → BitVec 13 → Ob) : Decoded :=
  decM w fun sz sx rd ra off => checked true (!sx) 0 (k sz rd ra off)

/-- CSRRD and CSRWR: only sizes of 4 and 8 bytes are defined (R112). -/
def csrWide (sz : Size) : Option Bool :=
  match sz with
  | .w => some false
  | .d => some true
  | _ => none

/-- R90 to R112: the instruction a word spells, or the DETAIL of the ILLEGAL fault it takes. The bits fn[10:5] of a SATOM are taken as
a reserved field (DETAIL 1) and not as part of an undefined function (DETAIL 0): DEDUCED, log entry 162. -/
def decodeOb (w : W32) : Decoded :=
  match (fieldOf 6 w 26).toNat with
  | 0x00 => decR w fun rd ra rb fn => orUndefined (AluFn.ofCode fn) fun f =>
      checked true (!f.unary || rb == 0) 0 (.alu f rd ra rb)
  | 0x01 => decR w fun rd ra rb fn =>
      if fn = 4 then .ok (.hmix rd ra rb)
      else checked (fn.toNat < 4) true 0 (.crc (Size.ofCode (fieldOf 2 w 0)) rd ra rb)
  | 0x02 => decI w fun rd ra imm => .ok (.addi rd ra imm)
  | 0x03 => decI w fun rd ra imm => .ok (.andi rd ra imm)
  | 0x04 => decI w fun rd ra imm => .ok (.ori rd ra imm)
  | 0x05 => decI w fun rd ra imm => .ok (.xori rd ra imm)
  | 0x06 => decI w fun rd ra _ =>
      checked true (clear w 8 8) 0 (.shi rd ra (ShiftKind.ofCode (fieldOf 2 w 6)) (fieldOf 6 w 0))
  | 0x07 => decI w fun rd ra imm => .ok (.sltiu rd ra imm)
  | 0x08 => decI w fun rd ra imm => checked true (ra == 0) 0 (.movi rd imm)
  | 0x09 => decI w fun rd _ imm => checked true (clear w 18 3) 0 (.movhi rd (fieldOf 2 w 16) imm)
  | 0x0A => decR w fun rd ra _ _ =>
      let pos := fieldOf 6 w 10; let l := fieldOf 6 w 4
      checked true (clear w 0 4) (if pos.toNat + l.toNat + 1 > 64 then 5 else 0) (.bfx rd ra pos l)
  | 0x0B => decR w fun rd ra _ _ =>
      let pos := fieldOf 6 w 10; let l := fieldOf 6 w 4
      checked true (clear w 0 4) (if pos.toNat + l.toNat + 1 > 64 then 5 else 0) (.bfi rd ra pos l)
  | 0x0C => decI w fun rd ra imm => checked (imm.toNat < 6) (ra == 0) 0 (.rdctr rd imm)
  | 0x10 => orUndefined (Cond.ofCode (fieldOf 3 w 23)) fun cc =>
      .ok (.br cc (fieldOf 5 w 18) (fieldOf 5 w 13) (fieldOf 13 w 0))
  | 0x11 => checked true (clear w 13 1) 0 (.bb (fieldOf 1 w 25) (fieldOf 5 w 20) (fieldOf 6 w 14) (fieldOf 13 w 0))
  | 0x12 => checked true (clear w 13 13) 0 (.jmp (fieldOf 13 w 0))
  | 0x13 =>
      let trip := fieldOf 8 w 18; let len := fieldOf 13 w 0
      checked true (clear w 13 5) (if trip = 0 ∨ len = 0 then 2 else 0) (.loop trip len)
  | 0x14 => orUndefined (DoneMode.ofCode (fieldOf 2 w 24)) fun m =>
      checked true (clear w 0 19) 0 (.done m (fieldOf 5 w 19))
  | 0x15 => checked true (clear w 13 13) 0 (.call (fieldOf 13 w 0))
  | 0x16 => orUndefined (Cond.ofCode (fieldOf 3 w 23)) fun cc =>
      .ok (.brb cc (fieldOf 5 w 18) (fieldOf 5 w 13) (fieldOf 13 w 0))
  | 0x17 => decR w fun rd ra rb fn => checked (fn == 0) (rb == 0) 0 (.jr rd ra)
  | 0x18 => decLoad w .ld
  | 0x19 => decStore w .st
  | 0x1A => decLoad w .sld
  | 0x1B => decStore w .sst
  | 0x1C => decR w fun rd ra rb _ => orUndefined (AtomOp.ofCode (fieldOf 4 w 0)) fun op =>
      checked true (clear w 5 6) 0 (.satom op (fieldOf 1 w 4 == 1) rd ra rb)
  | 0x1D => decLoad w .hld
  | 0x1E => decStore w .hst
  | 0x20 =>
      let tid := fieldOf 5 w 14; let dl := fieldOf 7 w 7
      checked true (clear w 0 7) (if dl = 0 ∨ tid.toNat ≥ 30 then 6 else 0)
        (.lkup (fieldOf 2 w 24) (fieldOf 5 w 19) tid dl)
  | 0x21 => checked true (clear w 0 19) 0 (.lkw (fieldOf 5 w 21) (fieldOf 2 w 19))
  | 0x22 => decR w fun rd ra rb fn => checked (fn == 0) true 0 (.fcwb rd ra rb)
  | 0x24 => checked true (clear w 21 5 && clear w 0 13) 0 (.ystage (fieldOf 5 w 16) (fieldOf 3 w 13))
  | 0x25 => checked true (clear w 0 6) 0
      (.ysend (fieldOf 5 w 21) (fieldOf 5 w 16) (fieldOf 3 w 13) (fieldOf 6 w 7) (fieldOf 1 w 6 == 1))
  | 0x26 => checked true (clear w 0 1) 0
      (.yres (fieldOf 5 w 21) (fieldOf 5 w 16) (fieldOf 8 w 8) (fieldOf 6 w 2) (fieldOf 1 w 1 == 1))
  | 0x27 => checked true (clear w 21 5 && clear w 0 8) 0 (.yput (fieldOf 5 w 16) (fieldOf 8 w 8))
  | 0x28 => checked true (clear w 0 21) 0 (.ycommit (fieldOf 5 w 21))
  | 0x29 => checked true (clear w 0 14) 0 (.yrecv (fieldOf 5 w 21) (fieldOf 5 w 16) (fieldOf 2 w 14))
  | 0x2A => checked true (clear w 0 21) 0 (.ynote (fieldOf 5 w 21))
  | 0x2B => checked true (clear w 0 15) 0 (.wait (fieldOf 5 w 21) (fieldOf 5 w 16) (fieldOf 1 w 15 == 1))
  | 0x2C => checked true (clear w 0 18) 0 (.signal (fieldOf 3 w 23) (fieldOf 5 w 18))
  | 0x2D => decR w fun rd ra rb fn => checked (fn == 0) (rb == 0) 0 (.csub rd ra)
  | 0x2E => decR w fun rd ra rb fn => checked (fn == 0) true 0 (.qpost rd ra rb)
  | 0x30 => decR w fun rd ra rb fn =>
      if fn = 0 then checked true (rb == 0 && rd == 0) 0 (.resume ra)
      else if fn = 1 then checked true (rb == 0) 0 (.frec rd ra)
      else checked (fn == 2) (rb == 0 && ra == 0) 0 (.tstate rd)
  | 0x31 => decLoad w .devld
  | 0x32 => decStore w .devst
  | 0x33 =>
      let len := fieldOf 13 w 0
      checked true (clear w 18 8) (if len = 0 then 2 else 0) (.loopr (fieldOf 5 w 13) len)
  | 0x34 => decM w fun sz sx rd ra off => orUndefined (csrWide sz) fun wide => .ok (.csrrd wide sx rd ra off)
  | 0x35 => decM w fun sz sx rd ra off => orUndefined (csrWide sz) fun wide =>
      checked true (!sx) 0 (.csrwr wide rd ra off)
  | _ => .illegal 0

/-- R90: an instruction that an encoding admits: its form faults with no ILLEGAL DETAIL of 0, 1, 2, 5 or 6. -/
def Ob.admitted : Ob → Bool
  | .alu f _ _ rb => !f.unary || rb == 0
  | .bfx _ _ pos l => pos.toNat + l.toNat + 1 ≤ 64
  | .bfi _ _ pos l => pos.toNat + l.toNat + 1 ≤ 64
  | .rdctr _ sel => sel.toNat < 6
  | .loop trip len => trip ≠ 0 ∧ len ≠ 0
  | .lkup _ _ tid dl => dl ≠ 0 ∧ tid.toNat < 30
  | .loopr _ len => len ≠ 0
  | _ => true

end Sys2Proof
end

