-- ==== Sys2Proof/Machine/Map.lean ====
section
/-! DEFINITION. Finite maps keyed by numbers, as plain data: a list of pairs in rising order of key. Register files,
tables and memories of the machine are such maps, with one value that an unlisted key reads as. -/

namespace Sys2Proof.Machine

/-- A finite map from numbers, as a list of pairs in rising order of key. -/
abbrev AMap (α : Type) := List (Nat × α)

/-- The value listed for a key. -/
def AMap.get? {α : Type} : AMap α → Nat → Option α
  | [], _ => none
  | (k', v) :: t, k => if k = k' then some v else AMap.get? t k

/-- The value of a key, with the value that an unlisted key reads as. -/
def AMap.getD {α : Type} (m : AMap α) (k : Nat) (d : α) : α := (AMap.get? m k).getD d

/-- List a value for a key, keeping the order. -/
def AMap.set {α : Type} : AMap α → Nat → α → AMap α
  | [], k, v => [(k, v)]
  | (k', v') :: t, k, v =>
    if k < k' then (k, v) :: (k', v') :: t
    else if k = k' then (k, v) :: t
    else (k', v') :: AMap.set t k v

/-- Unlist a key. -/
def AMap.del {α : Type} : AMap α → Nat → AMap α
  | [], _ => []
  | (k', v') :: t, k => if k = k' then AMap.del t k else (k', v') :: AMap.del t k

/-- Write a key, listing nothing for the value that an unlisted key reads as. -/
def AMap.setD {α : Type} [DecidableEq α] (d : α) (m : AMap α) (k : Nat) (v : α) : AMap α :=
  if v = d then AMap.del m k else AMap.set m k v

/-- The keys listed. -/
def AMap.keys {α : Type} (m : AMap α) : List Nat := m.map (·.1)

/-- Keys strictly rising. -/
def AMap.rising {α : Type} : AMap α → Bool
  | [] => true
  | (k, _) :: t => AMap.rising t && t.all (fun p => k < p.1)

/-- The canonical form: keys strictly rising, and nothing listed that reads as an unlisted key reads. -/
def AMap.canon {α : Type} [DecidableEq α] (d : α) (m : AMap α) : Bool :=
  AMap.rising m && m.all (fun p => p.2 ≠ d)

end Sys2Proof.Machine
end

