-- ==== Sys2Proof/Machine/Bytes.lean ====
section
/-! DEFINITION. Bytes and memories: byte order, and reading and writing strings of bytes of a memory in canonical form. -/

namespace Sys2Proof.Machine

open Sys2Proof

/-- The number a string of bytes spells, least significant byte first (chapter 00: structures are little-endian). -/
def leNat : Bytes → Nat
  | [] => 0
  | b :: t => b.toNat + 256 * leNat t

/-- The number a string of bytes spells in network order. -/
def beNat (bs : Bytes) : Nat := leNat bs.reverse

/-- `n` bytes of a number, least significant first. -/
def toLE : Nat → Nat → Bytes
  | 0, _ => []
  | n + 1, v => BitVec.ofNat 8 v :: toLE n (v / 256)

/-- `n` bytes of a number in network order. -/
def toBE (n v : Nat) : Bytes := (toLE n v).reverse

/-- Bytes `off` to `off + n - 1` of a string, with zeros beyond its end. -/
def sliceB (bs : Bytes) (off n : Nat) : Bytes :=
  let t := (bs.drop off).take n
  t ++ List.replicate (n - t.length) 0#8

/-- The little-endian field of `n` bytes at offset `off`. -/
def leAt (bs : Bytes) (off n : Nat) : Nat := leNat (sliceB bs off n)

/-- The field of `n` bytes at offset `off` in network order. -/
def beAt (bs : Bytes) (off n : Nat) : Nat := beNat (sliceB bs off n)

/-- A string with the bytes from offset `off` replaced. -/
def putB (bs : Bytes) (off : Nat) (v : Bytes) : Bytes :=
  sliceB bs 0 off ++ v ++ bs.drop (off + v.length)

/-- The value of a 64-bit word taken from the bytes. -/
def wordOf (bs : Bytes) : W64 := BitVec.ofNat 64 (leNat bs)

/-- Words of eight bytes each. -/
def wordsOf : Nat → Bytes → List W64
  | 0, _ => []
  | n + 1, bs => wordOf (sliceB bs 0 8) :: wordsOf n (bs.drop 8)

/-- The bytes of a list of 64-bit words. -/
def bytesOf (ws : List W64) : Bytes := ws.flatMap (fun w => toLE 8 w.toNat)

/-! ### Memories -/

/-- A memory: the bytes that differ from zero, by address, in rising order. -/
abbrev Memory := List Host.Cell

/-- One byte of a memory; a byte that nothing has written reads zero. -/
def Memory.byte (m : Memory) (a : Nat) : Byte := AMap.getD m a 0#8

/-- Store one byte. -/
def Memory.put (m : Memory) (a : Nat) (b : Byte) : Memory := AMap.setD 0#8 m a b

/-- `n` bytes from address `a` up. -/
def Memory.read (m : Memory) (a : Nat) : Nat → Bytes
  | 0 => []
  | n + 1 => Memory.byte m a :: Memory.read m (a + 1) n

/-- Store a string of bytes from address `a` up. -/
def Memory.write (m : Memory) (a : Nat) : Bytes → Memory
  | [] => m
  | b :: t => Memory.write (Memory.put m a b) (a + 1) t

/-- The canonical form: addresses strictly rising, no zero byte listed. -/
def Memory.wf (m : Memory) : Bool := AMap.canon 0#8 m

/-- A truth value as a bit. -/
def natB (b : Bool) : Nat := if b then 1 else 0

end Sys2Proof.Machine
end

