-- ==== Sys2Proof/Config.lean ====
section
/-! DEFINITION. What the spec leaves to an implementation or leaves open: free values, as constants without a body, and
the fixed parameters the model takes from outside. -/

namespace Sys2Proof.Config

/-- R66: how many words the inbound queue of a fixed unit holds beyond the 512 that the spec states as the least. -/
opaque unitQueueExtra : Nat → Nat

/-- R252: which of a pool's free bobbins an allocation takes: the spec fixes none. -/
opaque bobbinPick : Nat → Nat

/-- R355: how long a bank refreshes, in units of 125 ps; the spec states at most 120 ns. -/
opaque refreshTime : Nat → Nat

/-- R147: the two hashes of the exact-match table, CRC-32C with seeds and an order of the hashed fields that the spec does
not state: the hash's number, the profile, the tenant (4,096 where keys are not qualified) and the key. -/
opaque emHash : Nat → Nat → Nat → Bytes → Nat

/-- R147, R152: which free entry of a bucket an insert takes, or which resident entry it moves. -/
opaque emPick : Nat → Nat

/-- R155: which context of a full cache is evicted. -/
opaque ctxPick : Nat → Nat

/-- R139: a byte that a state's offset names beyond the 64-byte window. -/
opaque beyondWindow : Nat → Byte

/-- R302: the Device Serial Number that the fuses hold (log entry 163). -/
opaque serialNumber : BitVec 64

/-- R335: the containment cause of a link that did not train in time, which Table 10.3 does not state, by link. -/
opaque trainingCause : Nat → BitVec 3

/-- R101: a byte that a PAYLOAD lookup names beyond the packet's end. -/
opaque pastPacket : Nat → Byte

/-- R113: a byte of a work item of Welt, or of what the descriptor of a dispatch holds of it: no rule gives their layout. -/
opaque workByte : Nat → Byte

/-- R115, R266: which bounded entry of a storage program a work item is dispatched to. -/
opaque workEntry : Nat → Nat

/-- Table 2.9: the command reference of a Welt command in a fault record, by the model's number of the command. -/
opaque commandRef : Nat → BitVec 24

/-- R160: LENGTH and QREF in the slow-path message of a Welt command: 16 and 32 bits. -/
opaque commandLen : Nat → BitVec 16
opaque commandQref : Nat → BitVec 32

/-- R110, R331, R380: what DEVLD writes when its access ends without data, other than by containment. -/
opaque devldLost : Nat → BitVec 64

/-- R186, R187: the association number of a session's SecTAG, which the spec does not state, by session. -/
opaque macsecAn : Nat → BitVec 2

/-- R388: an ECDSA P-384 signature (r then s) over the SHA-384 digest of a message verifies under an uncompressed public key:
key, message, signature. The algorithm is FIPS 186's. -/
opaque ecdsaVerify : Bytes → Bytes → Bytes → Bool

/-- R388: an ML-DSA-87 signature with empty context over a message verifies under a public key: key, message, signature. The
algorithm is FIPS 204's. -/
opaque mldsaVerify : Bytes → Bytes → Bytes → Bool

/-- R388: the SHA-384 pair (of the ECDSA and of the ML-DSA key) fused at a key index. -/
opaque fusedKeyHash : Nat → Bytes × Bytes

/-- R413: the fused debug key pair's hashes. -/
opaque debugKeyHash : Bytes × Bytes

/-- R413: the device ID. -/
opaque deviceId : Bytes

/-- R413: the nonce of the challenge of a number. -/
opaque challengeNonce : Nat → Bytes

/-- R189, R400: the device key-encryption key as derived from the device unique secret, and as derived with the debug label. -/
opaque deviceKek : Bool → Bytes

/-- R406: a byte that a failed program of the boot flash leaves: the number of the failure and the offset. -/
opaque flashDebris : Nat → Nat → Byte

/-- R408: the endpoint UUID. -/
opaque endpointUuid : Bytes

/-- R411: the certificate chain of slot 0, for the alias certificate of a measurement 2, with and without the debug label. -/
opaque certChain : Bool → Bytes → Bytes

/-- R411: a signature of the alias key over the transcript of a request: a fresh value for each request. -/
opaque spdmSignature : Nat → Bytes

/-- R411: the boot ROM digest. -/
opaque romDigest : Bytes

/-- R269: the host NQN that the Cobbler provides, and how many I/O queues beyond none, at most 16, a connection has. -/
opaque hostNqn : Bytes
opaque ioQueues : Nat → Nat

/-- R227, R242: the status of a MSG job whose thread completes it with a code outside Table 6.13. -/
opaque msgStatus : Nat → BitVec 4

/-- R264, R430: the number of the SRAM array that a bobbin's error lies in, which the spec does not state, by handle. -/
opaque bobbinArray : Nat → Nat

/-- Table 14.2: whether the block of an event FIFO has its alerts enabled; the spec names no field that does. -/
opaque alertEnabled : Nat → Bool

end Sys2Proof.Config
end

