-- ==== Sys2Proof/Machine/Csr.lean ====
section
/-! DEFINITION. The notation of the CSR space (R12, Table 0.8): access codes, register descriptors, fields of a register
word, and what a write of a register does to it field by field. -/

namespace Sys2Proof.Machine

/-- The access codes of Table 0.8 (R12). -/
inductive Acc where
  | rw | ro | w1c | w1s | rc | wo | rwl | rsv
  deriving DecidableEq, Repr

/-- One field of a register: its bits, its access code and its reset value. -/
structure Fld where
  hi : Nat
  lo : Nat
  acc : Acc
  reset : Nat
  deriving DecidableEq, Repr

/-- A register, or an array of registers of one or two indices: the offset of the first, the count and stride of each
index, the width in bits, whether a HOST reset also resets it, and its fields from the most significant down. -/
structure RegDesc where
  base : Nat
  n1 : Nat
  s1 : Nat
  n2 : Nat
  s2 : Nat
  width : Nat
  host : Bool
  fields : List Fld
  deriving DecidableEq, Repr

/-- A field of one register: the offset of the register in the CSR space and the field's bits. -/
structure FRef where
  addr : Nat
  hi : Nat
  lo : Nat
  deriving DecidableEq, Repr

/-- How many bits a field has. -/
def FRef.bits (f : FRef) : Nat := f.hi + 1 - f.lo

/-- The value of a bit field of a word. -/
def bitsOf (w hi lo : Nat) : Nat := (w >>> lo) % 2 ^ (hi + 1 - lo)

/-- The field of a register word. -/
def FRef.get (f : FRef) (w : Nat) : Nat := bitsOf w f.hi f.lo

/-- A word with a bit field replaced. -/
def setBits (w hi lo v : Nat) : Nat :=
  (w ^^^ (bitsOf w hi lo <<< lo)) ||| ((v % 2 ^ (hi + 1 - lo)) <<< lo)

/-- The bits a field covers. -/
def Fld.mask (f : Fld) : Nat := (2 ^ (f.hi + 1 - f.lo) - 1) <<< f.lo

/-- The value a register's descriptor gives it at reset. -/
def RegDesc.reset (d : RegDesc) : Nat :=
  d.fields.foldl (fun w f => w ||| (f.reset <<< f.lo)) 0

/-- The offset of the register of a (possibly arrayed) descriptor that covers byte offset `a`. -/
def RegDesc.find (d : RegDesc) (a : Nat) : Option Nat :=
  if a < d.base then none else
  let o := a - d.base
  let i1 := if d.s1 = 0 then 0 else o / d.s1
  let o1 := if d.s1 = 0 then o else o % d.s1
  let i2 := if d.s2 = 0 then 0 else o1 / d.s2
  let o2 := if d.s2 = 0 then o1 else o1 % d.s2
  if i1 < d.n1 ∧ i2 < d.n2 ∧ o2 < d.width / 8 then some (a - o2) else none

/-- The register that covers a byte offset: its descriptor and its own offset. -/
def findReg (ds : List RegDesc) (a : Nat) : Option (RegDesc × Nat) :=
  match ds with
  | [] => none
  | d :: t => match d.find a with
    | some r => some (d, r)
    | none => findReg t a

/-- Registers that hardware updates though software may write every field of them: FAULT_AVAIL (R439), QUEUE_CMD_DATA (R243),
MEM_GCFG (R361) and EYELET_WIN_W0 (R343). -/
def hwRegs : List Nat := [0x1B00200, 0x1200140, 0x1808000, 0x1710000]

/-- A 64-bit register that hardware updates (R9): it has a field that software does not simply read and write, or is one of
those. -/
def RegDesc.hwUpdated (d : RegDesc) : Bool :=
  d.fields.any (fun f => f.acc = .ro || f.acc = .rc || f.acc = .w1c) || hwRegs.contains d.base

/-- The bits of a register's W1C fields. -/
def RegDesc.w1c (d : RegDesc) : Nat := d.fields.foldl (fun m f => if f.acc = .w1c then m ||| f.mask else m) 0

/-- R12, R13, R14: one field of a register after a write of the bits `m` with the value `v`. `locked` says that the
output gate is open, so that an RWL field keeps its value. -/
def Fld.write (f : Fld) (locked : Bool) (old v m : Nat) : Nat :=
  let fm := f.mask &&& m
  match f.acc with
  | .rw => (old &&& f.mask) ^^^ (old &&& fm) ||| (v &&& fm)
  | .rwl => if locked then old &&& f.mask else (old &&& f.mask) ^^^ (old &&& fm) ||| (v &&& fm)
  | .w1c => (old &&& f.mask) ^^^ (old &&& v &&& fm)
  | .w1s => (old &&& f.mask) ||| (v &&& fm)
  | .ro => old &&& f.mask
  | .rc => old &&& f.mask
  | .wo => 0
  | .rsv => 0

/-- R12: a register after a write, field by field. -/
def writeFields (fs : List Fld) (locked : Bool) (old v m : Nat) : Nat :=
  fs.foldl (fun w f => w ||| f.write locked old v m) 0

/-- R14: the write would have changed the value of at least one RWL field. -/
def changesLocked (fs : List Fld) (old v m : Nat) : Bool :=
  fs.any (fun f => f.acc = .rwl && ((old &&& f.mask &&& m) ≠ (v &&& f.mask &&& m)))

/-- R16: the part of an RC field's value that events of this very cycle, `new` of them in its place of the word, make up. -/
def Fld.late (f : Fld) (old new : Nat) : Nat := min (bitsOf old f.hi f.lo) (bitsOf new f.hi f.lo)

/-- R16: a register with the events of this very cycle taken off its RC fields. -/
def beforeNew (fs : List Fld) (old new : Nat) : Nat :=
  fs.foldl (fun w f => if f.acc = .rc then setBits w f.hi f.lo (bitsOf old f.hi f.lo - f.late old new) else w) old

/-- R12, R16: a register after a read of the bits `m`: an RC field there clears but for the events of this very cycle. -/
def readClear (fs : List Fld) (old m new : Nat) : Nat :=
  fs.foldl (fun w f => if f.acc = .rc then w ^^^ (w &&& f.mask &&& m) ||| (f.late old new <<< f.lo &&& m) else w) old

end Sys2Proof.Machine
end

