-- ==== Sys2Proof/Machine/Regs.lean ====
section
/-! DEFINITION. The registers of the CSR space: one descriptor and one set of field references per register of the
spec, grouped by the blocks of Table 0.7 (R10). Offsets, bit ranges, access codes and numeric resets are those of the
register tables of chapters 00, 01, 02 and 04 to 14. Where a table gives a reset of `repair`, `fuse`, `strap` or
`journal`, the descriptor holds the value for an empty repair record, fuses, straps and journal of zero (log entry 4);
a POWER reset writes the others. -/

namespace Sys2Proof.Machine

/-! ### Block GLOBAL -/

def F.GLOBAL_DEVICE_ID.DEVICE : FRef := ⟨0x0, 31, 16⟩
def F.GLOBAL_DEVICE_ID.STEP_MAJOR : FRef := ⟨0x0, 15, 12⟩
def F.GLOBAL_DEVICE_ID.STEP_MINOR : FRef := ⟨0x0, 11, 8⟩
def F.GLOBAL_DEVICE_ID.TEMP_GRADE : FRef := ⟨0x0, 0, 0⟩
def F.GLOBAL_CSR_ERR.VALID : FRef := ⟨0x10, 31, 31⟩
def F.GLOBAL_CSR_ERR.CAUSE : FRef := ⟨0x10, 30, 28⟩
def F.GLOBAL_CSR_ERR.WRITE : FRef := ⟨0x10, 27, 27⟩
def F.GLOBAL_CSR_ERR.OFFSET : FRef := ⟨0x10, 25, 0⟩
def F.GLOBAL_CSR_ERR_CNT.COUNT : FRef := ⟨0x14, 31, 0⟩

/-- Registers of block GLOBAL. -/
def regsGlobal : List RegDesc :=
  [
    -- GLOBAL_DEVICE_ID (R9)
    ⟨0x0, 1, 0x0, 1, 0x0, 32, false,
      [⟨31, 16, .ro, 2400⟩, ⟨15, 12, .ro, 1⟩, ⟨11, 8, .ro, 1⟩, ⟨7, 1, .rsv, 0⟩, ⟨0, 0, .ro, 0⟩]⟩,
    -- GLOBAL_CSR_ERR (R9)
    ⟨0x10, 1, 0x0, 1, 0x0, 32, true,
      [⟨31, 31, .w1c, 0⟩, ⟨30, 28, .ro, 0⟩, ⟨27, 27, .ro, 0⟩, ⟨26, 26, .rsv, 0⟩, ⟨25, 0, .ro, 0⟩]⟩,
    -- GLOBAL_CSR_ERR_CNT (R9)
    ⟨0x14, 1, 0x0, 1, 0x0, 32, true,
      [⟨31, 0, .rc, 0⟩]⟩]

/-! ### Block STITCH -/

def F.STITCH_LEN.REJECT : FRef := ⟨0x100000, 31, 31⟩
def F.STITCH_LEN.PENDING : FRef := ⟨0x100000, 30, 30⟩
def F.STITCH_LEN.REQ : FRef := ⟨0x100000, 5, 4⟩
def F.STITCH_LEN.CUR : FRef := ⟨0x100000, 1, 0⟩
def F.STITCH_COUNT.COUNT : FRef := ⟨0x100008, 63, 0⟩
def F.STITCH_POS.SIP : FRef := ⟨0x100010, 29, 24⟩
def F.STITCH_POS.TURN : FRef := ⟨0x100010, 21, 16⟩
def F.STITCH_POS.CYCLE : FRef := ⟨0x100010, 13, 0⟩
def F.STITCH_SYSREQ.MIN : FRef := ⟨0x100018, 12, 0⟩
def F.STITCH_PTP_CTRL.UNLOCKED : FRef := ⟨0x100020, 31, 31⟩
def F.STITCH_PTP_CTRL.UNLOCK_WIN : FRef := ⟨0x100020, 23, 16⟩
def F.STITCH_PTP_CTRL.LOCK_WIN : FRef := ⟨0x100020, 15, 8⟩
def F.STITCH_PTP_CTRL.STATE : FRef := ⟨0x100020, 2, 1⟩
def F.STITCH_PTP_CTRL.EN : FRef := ⟨0x100020, 0, 0⟩
def F.STITCH_PTP_ERR.ERR : FRef := ⟨0x100024, 31, 0⟩
def F.STITCH_PTP_ADJ.SHORTENED : FRef := ⟨0x100028, 31, 16⟩
def F.STITCH_PTP_ADJ.LENGTHENED : FRef := ⟨0x100028, 15, 0⟩
def F.STITCH_LACE_COMMIT.CANCEL : FRef := ⟨0x100040, 31, 31⟩
def F.STITCH_LACE_COMMIT.TGMAP : FRef := ⟨0x100040, 8, 8⟩
def F.STITCH_LACE_COMMIT.CLASS : FRef := ⟨0x100040, 5, 0⟩
def F.STITCH_LACE_STATUS.PENDING : FRef := ⟨0x100044, 31, 31⟩
def F.STITCH_LACE_STATUS.VALID_FAIL : FRef := ⟨0x100044, 30, 30⟩
def F.STITCH_LACE_STATUS.LATE_CANCEL : FRef := ⟨0x100044, 29, 29⟩
def F.STITCH_LACE_STATUS.BUSY_WRITE : FRef := ⟨0x100044, 28, 28⟩
def F.STITCH_LACE_STATUS.FAIL_CAUSE : FRef := ⟨0x100044, 27, 25⟩
def F.STITCH_LACE_STATUS.FAIL_CLASS : FRef := ⟨0x100044, 24, 22⟩
def F.STITCH_LACE_STATUS.FAIL_INDEX : FRef := ⟨0x100044, 11, 0⟩
def F.STITCH_LACE_SWAPS.COUNT : FRef := ⟨0x100048, 31, 0⟩
def F.STITCH_TURN_STAT.OWNED.CNT (c : Nat) : FRef := ⟨0x100100 + 0x10 * c, 31, 0⟩
def F.STITCH_TURN_STAT.PASSED.CNT (c : Nat) : FRef := ⟨0x100104 + 0x10 * c, 31, 0⟩
def F.STITCH_TURN_STAT.FREE_SERVED.CNT (c : Nat) : FRef := ⟨0x100108 + 0x10 * c, 31, 0⟩
def F.STITCH_TURN_STAT.IDLE.CNT (c : Nat) : FRef := ⟨0x10010C + 0x10 * c, 31, 0⟩

/-- Registers of block STITCH, part 0. -/
def regsStitch0 : List RegDesc :=
  [
    -- STITCH_LEN (R49)
    ⟨0x100000, 1, 0x0, 1, 0x0, 32, false,
      [⟨31, 31, .w1c, 0⟩, ⟨30, 30, .ro, 0⟩, ⟨29, 6, .rsv, 0⟩, ⟨5, 4, .rw, 1⟩, ⟨3, 2, .rsv, 0⟩, ⟨1, 0, .ro, 1⟩]⟩,
    -- STITCH_COUNT (R49)
    ⟨0x100008, 1, 0x0, 1, 0x0, 64, false,
      [⟨63, 0, .ro, 0⟩]⟩,
    -- STITCH_POS (R49)
    ⟨0x100010, 1, 0x0, 1, 0x0, 32, false,
      [⟨31, 30, .rsv, 0⟩, ⟨29, 24, .ro, 0⟩, ⟨23, 22, .rsv, 0⟩, ⟨21, 16, .ro, 0⟩, ⟨15, 14, .rsv, 0⟩, ⟨13, 0, .ro, 0⟩]⟩,
    -- STITCH_SYSREQ (R49)
    ⟨0x100018, 1, 0x0, 1, 0x0, 32, false,
      [⟨31, 13, .rsv, 0⟩, ⟨12, 0, .ro, 64⟩]⟩,
    -- STITCH_PTP_CTRL (R49)
    ⟨0x100020, 1, 0x0, 1, 0x0, 32, false,
      [⟨31, 31, .w1c, 0⟩, ⟨30, 24, .rsv, 0⟩, ⟨23, 16, .rw, 16⟩, ⟨15, 8, .rw, 2⟩, ⟨7, 3, .rsv, 0⟩, ⟨2, 1, .ro, 0⟩, ⟨0, 0, .rw, 0⟩]⟩,
    -- STITCH_PTP_ERR (R49)
    ⟨0x100024, 1, 0x0, 1, 0x0, 32, false,
      [⟨31, 0, .ro, 0⟩]⟩,
    -- STITCH_PTP_ADJ (R49)
    ⟨0x100028, 1, 0x0, 1, 0x0, 32, false,
      [⟨31, 16, .rc, 0⟩, ⟨15, 0, .rc, 0⟩]⟩,
    -- STITCH_LACE_COMMIT (R49)
    ⟨0x100040, 1, 0x0, 1, 0x0, 32, false,
      [⟨31, 31, .wo, 0⟩, ⟨30, 9, .rsv, 0⟩, ⟨8, 8, .wo, 0⟩, ⟨7, 6, .rsv, 0⟩, ⟨5, 0, .wo, 0⟩]⟩,
    -- STITCH_LACE_STATUS (R49)
    ⟨0x100044, 1, 0x0, 1, 0x0, 32, false,
      [⟨31, 31, .ro, 0⟩, ⟨30, 30, .w1c, 0⟩, ⟨29, 29, .w1c, 0⟩, ⟨28, 28, .w1c, 0⟩, ⟨27, 25, .ro, 0⟩, ⟨24, 22, .ro, 0⟩, ⟨21, 12, .rsv, 0⟩, ⟨11, 0, .ro, 0⟩]⟩,
    -- STITCH_LACE_SWAPS (R49)
    ⟨0x100048, 1, 0x0, 1, 0x0, 32, false,
      [⟨31, 0, .ro, 0⟩]⟩,
    -- STITCH_TURN_STAT.OWNED (R458)
    ⟨0x100100, 6, 0x10, 1, 0x0, 32, false,
      [⟨31, 0, .rc, 0⟩]⟩,
    -- STITCH_TURN_STAT.PASSED (R458)
    ⟨0x100104, 6, 0x10, 1, 0x0, 32, false,
      [⟨31, 0, .rc, 0⟩]⟩]

/-- Registers of block STITCH, part 1. -/
def regsStitch1 : List RegDesc :=
  [
    -- STITCH_TURN_STAT.FREE_SERVED (R458)
    ⟨0x100108, 6, 0x10, 1, 0x0, 32, false,
      [⟨31, 0, .rc, 0⟩]⟩,
    -- STITCH_TURN_STAT.IDLE (R458)
    ⟨0x10010C, 6, 0x10, 1, 0x0, 32, false,
      [⟨31, 0, .rc, 0⟩]⟩]

def regsStitch : List RegDesc := regsStitch0 ++ regsStitch1

/-! ### Block MULE -/

def F.MULE_EVENT.ROLE_REJECT (m : Nat) : FRef := ⟨0x200000 + 0x10000 * m, 8, 8⟩
def F.MULE_EVENT.DL_ESC (m : Nat) : FRef := ⟨0x200000 + 0x10000 * m, 7, 7⟩
def F.MULE_EVENT.T0_FAULT (m : Nat) : FRef := ⟨0x200000 + 0x10000 * m, 6, 6⟩
def F.MULE_EVENT.ROLE_DONE (m : Nat) : FRef := ⟨0x200000 + 0x10000 * m, 5, 5⟩
def F.MULE_EVENT.ROLE_FORCED (m : Nat) : FRef := ⟨0x200000 + 0x10000 * m, 4, 4⟩
def F.MULE_EVENT.SWAP_DONE (m : Nat) : FRef := ⟨0x200000 + 0x10000 * m, 3, 3⟩
def F.MULE_EVENT.SWAP_REJECT (m : Nat) : FRef := ⟨0x200000 + 0x10000 * m, 2, 2⟩
def F.MULE_EVENT.LOAD_DONE (m : Nat) : FRef := ⟨0x200000 + 0x10000 * m, 1, 1⟩
def F.MULE_EVENT.LOAD_REJECT (m : Nat) : FRef := ⟨0x200000 + 0x10000 * m, 0, 0⟩
def F.MULE_SCR_PROT.PERM (m : Nat) : FRef := ⟨0x200010 + 0x10000 * m, 15, 0⟩
def F.MULE_YARN_CFG.YRES_LIMIT (m : Nat) : FRef := ⟨0x200018 + 0x10000 * m, 15, 0⟩
def F.MULE_DL_STATUS.ESCALATED (m : Nat) : FRef := ⟨0x200020 + 0x10000 * m, 31, 16⟩
def F.MULE_DL_STATUS.RAISED (m : Nat) : FRef := ⟨0x200020 + 0x10000 * m, 15, 0⟩
def F.MULE_POS.STATE (m : Nat) (p : Nat) : FRef := ⟨0x200040 + 0x10000 * m + 0x4 * p, 31, 30⟩
def F.MULE_POS.LOGICAL (m : Nat) (p : Nat) : FRef := ⟨0x200040 + 0x10000 * m + 0x4 * p, 19, 16⟩
def F.MULE_ROLE.REQ (m : Nat) (s : Nat) : FRef := ⟨0x200100 + 0x10000 * m + 0x4 * s, 31, 31⟩
def F.MULE_ROLE.SWAP (m : Nat) (s : Nat) : FRef := ⟨0x200100 + 0x10000 * m + 0x4 * s, 30, 30⟩
def F.MULE_ROLE.NEW_ROLE (m : Nat) (s : Nat) : FRef := ⟨0x200100 + 0x10000 * m + 0x4 * s, 26, 24⟩
def F.MULE_ROLE.ROLE (m : Nat) (s : Nat) : FRef := ⟨0x200100 + 0x10000 * m + 0x4 * s, 18, 16⟩
def F.MULE_ROLE.EPOCH (m : Nat) (s : Nat) : FRef := ⟨0x200100 + 0x10000 * m + 0x4 * s, 15, 8⟩
def F.MULE_ROLE.PHYS (m : Nat) (s : Nat) : FRef := ⟨0x200100 + 0x10000 * m + 0x4 * s, 4, 0⟩
def F.MULE_LOAD_ADDR.ADDR (m : Nat) : FRef := ⟨0x200200 + 0x10000 * m, 63, 12⟩
def F.MULE_LOAD_CTRL.START (m : Nat) : FRef := ⟨0x200208 + 0x10000 * m, 31, 31⟩
def F.MULE_LOAD_CTRL.BUSY (m : Nat) : FRef := ⟨0x200208 + 0x10000 * m, 30, 30⟩
def F.MULE_LOAD_CTRL.SPN (m : Nat) : FRef := ⟨0x200208 + 0x10000 * m, 15, 0⟩
def F.MULE_LOAD_STATUS.CAUSE (m : Nat) : FRef := ⟨0x20020C + 0x10000 * m, 15, 8⟩
def F.MULE_LOAD_STATUS.STATUS (m : Nat) : FRef := ⟨0x20020C + 0x10000 * m, 7, 0⟩
def F.MULE_SWAP.REQ (m : Nat) : FRef := ⟨0x200210 + 0x10000 * m, 31, 31⟩
def F.MULE_SWAP.SPN (m : Nat) : FRef := ⟨0x200210 + 0x10000 * m, 15, 0⟩
def F.MULE_THR_STATE.ACTIVE_BANK (m : Nat) (s : Nat) : FRef := ⟨0x200300 + 0x10000 * m + 0x4 * s, 31, 31⟩
def F.MULE_THR_STATE.STANDBY_VALID (m : Nat) (s : Nat) : FRef := ⟨0x200300 + 0x10000 * m + 0x4 * s, 30, 30⟩
def F.MULE_THR_STATE.DRAINING (m : Nat) (s : Nat) : FRef := ⟨0x200300 + 0x10000 * m + 0x4 * s, 29, 29⟩
def F.MULE_THR_STATE.STATE (m : Nat) (s : Nat) : FRef := ⟨0x200300 + 0x10000 * m + 0x4 * s, 23, 0⟩
def F.MULE_THR_CTRL.RESUME (m : Nat) (s : Nat) : FRef := ⟨0x200340 + 0x10000 * m + 0x4 * s, 7, 0⟩
def F.MULE_YCH_CFG.EXT (m : Nat) (sc : Nat) : FRef := ⟨0x202000 + 0x10000 * m + 0x4 * sc, 31, 31⟩
def F.MULE_YCH_CFG.SIZE (m : Nat) (sc : Nat) : FRef := ⟨0x202000 + 0x10000 * m + 0x4 * sc, 27, 24⟩
def F.MULE_STAT.STALE_DISCARD.CNT (m : Nat) : FRef := ⟨0x203000 + 0x10000 * m, 31, 0⟩
def F.MULE_STAT.REFUSED.CNT (m : Nat) : FRef := ⟨0x203004 + 0x10000 * m, 31, 0⟩
def F.MULE_STAT.POISONED.CNT (m : Nat) : FRef := ⟨0x203008 + 0x10000 * m, 31, 0⟩
def F.MULE_STAT.YRES_EXPIRED.CNT (m : Nat) : FRef := ⟨0x20300C + 0x10000 * m, 31, 0⟩
def F.MULE_STAT.FAULTS.CNT (m : Nat) : FRef := ⟨0x203010 + 0x10000 * m, 31, 0⟩
def F.MULE_STAT.OVERRUNS.CNT (m : Nat) : FRef := ⟨0x203014 + 0x10000 * m, 31, 0⟩
def F.MULE_STAT.DEADLOCKS.CNT (m : Nat) : FRef := ⟨0x203018 + 0x10000 * m, 31, 0⟩
def F.MULE_STAT.DL_ESCALATIONS.CNT (m : Nat) : FRef := ⟨0x20301C + 0x10000 * m, 31, 0⟩
def F.MULE_DBG_HALT.FORCED (m : Nat) (s : Nat) : FRef := ⟨0x204000 + 0x10000 * m + 0x4 * s, 24, 24⟩
def F.MULE_DBG_HALT.HALTED (m : Nat) (s : Nat) : FRef := ⟨0x204000 + 0x10000 * m + 0x4 * s, 23, 16⟩
def F.MULE_DBG_HALT.STEP (m : Nat) (s : Nat) : FRef := ⟨0x204000 + 0x10000 * m + 0x4 * s, 11, 11⟩
def F.MULE_DBG_HALT.RESUME (m : Nat) (s : Nat) : FRef := ⟨0x204000 + 0x10000 * m + 0x4 * s, 10, 10⟩
def F.MULE_DBG_HALT.HALT (m : Nat) (s : Nat) : FRef := ⟨0x204000 + 0x10000 * m + 0x4 * s, 9, 9⟩
def F.MULE_DBG_HALT.MODE (m : Nat) (s : Nat) : FRef := ⟨0x204000 + 0x10000 * m + 0x4 * s, 8, 8⟩
def F.MULE_DBG_HALT.MASK (m : Nat) (s : Nat) : FRef := ⟨0x204000 + 0x10000 * m + 0x4 * s, 7, 0⟩
def F.MULE_FAULT.W (m : Nat) (w : Nat) : FRef := ⟨0x201000 + 0x10000 * m + 0x8 * w, 63, 0⟩

/-- Registers of block MULE, part 0. -/
def regsMule0 : List RegDesc :=
  [
    -- MULE_EVENT (R86)
    ⟨0x200000, 48, 0x10000, 1, 0x0, 32, false,
      [⟨31, 9, .rsv, 0⟩, ⟨8, 8, .w1c, 0⟩, ⟨7, 7, .w1c, 0⟩, ⟨6, 6, .w1c, 0⟩, ⟨5, 5, .w1c, 0⟩, ⟨4, 4, .w1c, 0⟩, ⟨3, 3, .w1c, 0⟩, ⟨2, 2, .w1c, 0⟩, ⟨1, 1, .w1c, 0⟩, ⟨0, 0, .w1c, 0⟩]⟩,
    -- MULE_SCR_PROT (R86)
    ⟨0x200010, 48, 0x10000, 1, 0x0, 32, false,
      [⟨31, 16, .rsv, 0⟩, ⟨15, 0, .rw, 0⟩]⟩,
    -- MULE_YARN_CFG (R86)
    ⟨0x200018, 48, 0x10000, 1, 0x0, 32, false,
      [⟨31, 16, .rsv, 0⟩, ⟨15, 0, .rw, 64⟩]⟩,
    -- MULE_DL_STATUS (R86)
    ⟨0x200020, 48, 0x10000, 1, 0x0, 32, false,
      [⟨31, 16, .w1c, 0⟩, ⟨15, 0, .ro, 0⟩]⟩,
    -- MULE_POS (R86)
    ⟨0x200040, 48, 0x10000, 17, 0x4, 32, false,
      [⟨31, 30, .ro, 0⟩, ⟨29, 20, .rsv, 0⟩, ⟨19, 16, .ro, 0⟩, ⟨15, 0, .rsv, 0⟩]⟩,
    -- MULE_ROLE (R86)
    ⟨0x200100, 48, 0x10000, 16, 0x4, 32, false,
      [⟨31, 31, .w1s, 0⟩, ⟨30, 30, .rw, 0⟩, ⟨29, 27, .rsv, 0⟩, ⟨26, 24, .rw, 4⟩, ⟨23, 19, .rsv, 0⟩, ⟨18, 16, .ro, 4⟩, ⟨15, 8, .ro, 0⟩, ⟨7, 5, .rsv, 0⟩, ⟨4, 0, .ro, 0⟩]⟩,
    -- MULE_LOAD_ADDR (R86)
    ⟨0x200200, 48, 0x10000, 1, 0x0, 64, false,
      [⟨63, 12, .rw, 0⟩, ⟨11, 0, .rsv, 0⟩]⟩,
    -- MULE_LOAD_CTRL (R86)
    ⟨0x200208, 48, 0x10000, 1, 0x0, 32, false,
      [⟨31, 31, .w1s, 0⟩, ⟨30, 30, .ro, 0⟩, ⟨29, 16, .rsv, 0⟩, ⟨15, 0, .rw, 0⟩]⟩,
    -- MULE_LOAD_STATUS (R86)
    ⟨0x20020C, 48, 0x10000, 1, 0x0, 32, false,
      [⟨31, 16, .rsv, 0⟩, ⟨15, 8, .ro, 0⟩, ⟨7, 0, .ro, 0⟩]⟩,
    -- MULE_SWAP (R86)
    ⟨0x200210, 48, 0x10000, 1, 0x0, 32, false,
      [⟨31, 31, .w1s, 0⟩, ⟨30, 16, .rsv, 0⟩, ⟨15, 0, .rw, 0⟩]⟩,
    -- MULE_THR_STATE (R86)
    ⟨0x200300, 48, 0x10000, 16, 0x4, 32, false,
      [⟨31, 31, .ro, 0⟩, ⟨30, 30, .ro, 0⟩, ⟨29, 29, .ro, 0⟩, ⟨28, 24, .rsv, 0⟩, ⟨23, 0, .ro, 0⟩]⟩,
    -- MULE_THR_CTRL (R86)
    ⟨0x200340, 48, 0x10000, 16, 0x4, 32, false,
      [⟨31, 8, .rsv, 0⟩, ⟨7, 0, .wo, 0⟩]⟩]

/-- Registers of block MULE, part 1. -/
def regsMule1 : List RegDesc :=
  [
    -- MULE_YCH_CFG (R86)
    ⟨0x202000, 48, 0x10000, 512, 0x4, 32, false,
      [⟨31, 31, .rw, 1⟩, ⟨30, 28, .rsv, 0⟩, ⟨27, 24, .rw, 6⟩, ⟨23, 0, .rsv, 0⟩]⟩,
    -- MULE_STAT.STALE_DISCARD (R86)
    ⟨0x203000, 48, 0x10000, 1, 0x0, 32, false,
      [⟨31, 0, .rc, 0⟩]⟩,
    -- MULE_STAT.REFUSED (R86)
    ⟨0x203004, 48, 0x10000, 1, 0x0, 32, false,
      [⟨31, 0, .rc, 0⟩]⟩,
    -- MULE_STAT.POISONED (R86)
    ⟨0x203008, 48, 0x10000, 1, 0x0, 32, false,
      [⟨31, 0, .rc, 0⟩]⟩,
    -- MULE_STAT.YRES_EXPIRED (R86)
    ⟨0x20300C, 48, 0x10000, 1, 0x0, 32, false,
      [⟨31, 0, .rc, 0⟩]⟩,
    -- MULE_STAT.FAULTS (R86)
    ⟨0x203010, 48, 0x10000, 1, 0x0, 32, false,
      [⟨31, 0, .rc, 0⟩]⟩,
    -- MULE_STAT.OVERRUNS (R86)
    ⟨0x203014, 48, 0x10000, 1, 0x0, 32, false,
      [⟨31, 0, .rc, 0⟩]⟩,
    -- MULE_STAT.DEADLOCKS (R86)
    ⟨0x203018, 48, 0x10000, 1, 0x0, 32, false,
      [⟨31, 0, .rc, 0⟩]⟩,
    -- MULE_STAT.DL_ESCALATIONS (R86)
    ⟨0x20301C, 48, 0x10000, 1, 0x0, 32, false,
      [⟨31, 0, .rc, 0⟩]⟩,
    -- MULE_DBG_HALT (R86)
    ⟨0x204000, 48, 0x10000, 16, 0x4, 32, false,
      [⟨31, 25, .rsv, 0⟩, ⟨24, 24, .w1c, 0⟩, ⟨23, 16, .ro, 0⟩, ⟨15, 12, .rsv, 0⟩, ⟨11, 11, .w1s, 0⟩, ⟨10, 10, .w1s, 0⟩, ⟨9, 9, .w1s, 0⟩, ⟨8, 8, .rw, 0⟩, ⟨7, 0, .rw, 0⟩]⟩,
    -- MULE_FAULT (R86)
    ⟨0x201000, 48, 0x10000, 512, 0x8, 64, false,
      [⟨63, 0, .ro, 0⟩]⟩]

def regsMule : List RegDesc := regsMule0 ++ regsMule1

/-! ### Block CARD -/

def F.CARD_START.CTRL : FRef := ⟨0x600000, 56, 48⟩
def F.CARD_START.PEER : FRef := ⟨0x600000, 40, 32⟩
def F.CARD_START.HOST : FRef := ⟨0x600000, 24, 16⟩
def F.CARD_START.ETH : FRef := ⟨0x600000, 8, 0⟩
def F.CARD_CFG.REJ_DEC : FRef := ⟨0x600008, 5, 0⟩
def F.CARD_COMMIT.PENDING : FRef := ⟨0x600010, 31, 31⟩
def F.CARD_COMMIT.BUSY_WRITE : FRef := ⟨0x600010, 30, 30⟩
def F.CARD_COMMIT.DONE : FRef := ⟨0x600010, 29, 29⟩
def F.CARD_COMMIT.GO : FRef := ⟨0x600010, 0, 0⟩
def F.CARD_LANE.STATE (l : Nat) : FRef := ⟨0x600040 + 0x4 * l, 31, 30⟩
def F.CARD_STAT.PARSED.CNT : FRef := ⟨0x600100, 31, 0⟩
def F.CARD_STAT.REJECTED.CNT : FRef := ⟨0x600104, 31, 0⟩
def F.CARD_STAT.TRUNC.CNT : FRef := ⟨0x600108, 31, 0⟩
def F.CARD_STAT.LONG.CNT : FRef := ⟨0x60010C, 31, 0⟩
def F.CARD_STAT.BYPASSED.CNT : FRef := ⟨0x600110, 31, 0⟩
def F.CARD_STAT.DISPATCHED.CNT : FRef := ⟨0x600114, 31, 0⟩
def F.CARD_STAT.DEC_DROP.CNT : FRef := ⟨0x600118, 31, 0⟩
def F.CARD_STAT.PRE_LATE.CNT : FRef := ⟨0x60011C, 31, 0⟩

/-- Registers of block CARD. -/
def regsCard : List RegDesc :=
  [
    -- CARD_START (R173)
    ⟨0x600000, 1, 0x0, 1, 0x0, 64, false,
      [⟨63, 57, .rsv, 0⟩, ⟨56, 48, .rw, 0⟩, ⟨47, 41, .rsv, 0⟩, ⟨40, 32, .rw, 0⟩, ⟨31, 25, .rsv, 0⟩, ⟨24, 16, .rw, 0⟩, ⟨15, 9, .rsv, 0⟩, ⟨8, 0, .rw, 0⟩]⟩,
    -- CARD_CFG (R173)
    ⟨0x600008, 1, 0x0, 1, 0x0, 32, false,
      [⟨31, 6, .rsv, 0⟩, ⟨5, 0, .rw, 0⟩]⟩,
    -- CARD_COMMIT (R173)
    ⟨0x600010, 1, 0x0, 1, 0x0, 32, false,
      [⟨31, 31, .ro, 0⟩, ⟨30, 30, .w1c, 0⟩, ⟨29, 29, .w1c, 0⟩, ⟨28, 1, .rsv, 0⟩, ⟨0, 0, .w1s, 0⟩]⟩,
    -- CARD_LANE (R173)
    ⟨0x600040, 10, 0x4, 1, 0x0, 32, false,
      [⟨31, 30, .ro, 0⟩, ⟨29, 0, .rsv, 0⟩]⟩,
    -- CARD_STAT.PARSED (R173)
    ⟨0x600100, 1, 0x0, 1, 0x0, 32, false,
      [⟨31, 0, .rc, 0⟩]⟩,
    -- CARD_STAT.REJECTED (R173)
    ⟨0x600104, 1, 0x0, 1, 0x0, 32, false,
      [⟨31, 0, .rc, 0⟩]⟩,
    -- CARD_STAT.TRUNC (R173)
    ⟨0x600108, 1, 0x0, 1, 0x0, 32, false,
      [⟨31, 0, .rc, 0⟩]⟩,
    -- CARD_STAT.LONG (R173)
    ⟨0x60010C, 1, 0x0, 1, 0x0, 32, false,
      [⟨31, 0, .rc, 0⟩]⟩,
    -- CARD_STAT.BYPASSED (R173)
    ⟨0x600110, 1, 0x0, 1, 0x0, 32, false,
      [⟨31, 0, .rc, 0⟩]⟩,
    -- CARD_STAT.DISPATCHED (R173)
    ⟨0x600114, 1, 0x0, 1, 0x0, 32, false,
      [⟨31, 0, .rc, 0⟩]⟩,
    -- CARD_STAT.DEC_DROP (R173)
    ⟨0x600118, 1, 0x0, 1, 0x0, 32, false,
      [⟨31, 0, .rc, 0⟩]⟩,
    -- CARD_STAT.PRE_LATE (R173)
    ⟨0x60011C, 1, 0x0, 1, 0x0, 32, false,
      [⟨31, 0, .rc, 0⟩]⟩]

/-! ### Block LAST -/

def F.LAST_PROFILE.VALID (p : Nat) : FRef := ⟨0x800000 + 0x8 * p, 63, 63⟩
def F.LAST_PROFILE.TABLE (p : Nat) : FRef := ⟨0x800000 + 0x8 * p, 62, 60⟩
def F.LAST_PROFILE.EXT_EN (p : Nat) : FRef := ⟨0x800000 + 0x8 * p, 59, 59⟩
def F.LAST_PROFILE.TENANT_QUAL (p : Nat) : FRef := ⟨0x800000 + 0x8 * p, 58, 58⟩
def F.LAST_PROFILE.KEYLEN (p : Nat) : FRef := ⟨0x800000 + 0x8 * p, 55, 52⟩
def F.LAST_PROFILE.RULE_BASE (p : Nat) : FRef := ⟨0x800000 + 0x8 * p, 50, 36⟩
def F.LAST_PROFILE.RULE_COUNT (p : Nat) : FRef := ⟨0x800000 + 0x8 * p, 35, 20⟩
def F.LAST_PROFILE.FLOW_EN (p : Nat) : FRef := ⟨0x800000 + 0x8 * p, 19, 19⟩
def F.LAST_PROFILE.FLOW_OFF (p : Nat) : FRef := ⟨0x800000 + 0x8 * p, 18, 13⟩
def F.LAST_CFG.PRE_DL : FRef := ⟨0x800100, 15, 0⟩
def F.LAST_FCTX_CFG.COUNT : FRef := ⟨0x800108, 46, 24⟩
def F.LAST_FCTX_CFG.SPLIT : FRef := ⟨0x800108, 22, 0⟩
def F.LAST_FCTX_BASE.BASE (h : Nat) : FRef := ⟨0x800110 + 0x8 * h, 63, 12⟩
def F.LAST_EXT_CFG.BASE : FRef := ⟨0x800120, 63, 12⟩
def F.LAST_EXT_CFG.LOG2 : FRef := ⟨0x800120, 4, 0⟩
def F.LAST_WIN_SEL.VIEW : FRef := ⟨0x800128, 2, 0⟩
def F.LAST_UPD_CMD.GO : FRef := ⟨0x800300, 63, 63⟩
def F.LAST_UPD_CMD.BUSY : FRef := ⟨0x800300, 62, 62⟩
def F.LAST_UPD_CMD.OP : FRef := ⟨0x800300, 59, 56⟩
def F.LAST_UPD_CMD.PROFILE : FRef := ⟨0x800300, 55, 51⟩
def F.LAST_UPD_CMD.TENANT : FRef := ⟨0x800300, 50, 39⟩
def F.LAST_UPD_CMD.INDEX : FRef := ⟨0x800300, 38, 17⟩
def F.LAST_UPD_CMD.PLEN : FRef := ⟨0x800300, 16, 9⟩
def F.LAST_UPD_STATUS.DONE : FRef := ⟨0x800308, 31, 31⟩
def F.LAST_UPD_STATUS.DETAIL : FRef := ⟨0x800308, 15, 8⟩
def F.LAST_UPD_STATUS.STATUS : FRef := ⟨0x800308, 7, 0⟩
def F.LAST_STAT.LOOKUPS.CNT : FRef := ⟨0x800400, 31, 0⟩
def F.LAST_STAT.HITS.CNT : FRef := ⟨0x800404, 31, 0⟩
def F.LAST_STAT.LATE_DISCARD.CNT : FRef := ⟨0x800408, 31, 0⟩
def F.LAST_STAT.EXT_LOOKUPS.CNT : FRef := ⟨0x80040C, 31, 0⟩
def F.LAST_STAT.HOLD_DROP.CNT : FRef := ⟨0x800410, 31, 0⟩
def F.LAST_STAT.FCTX_MISS.CNT : FRef := ⟨0x800414, 31, 0⟩
def F.LAST_STAT.UPDATES.CNT : FRef := ⟨0x800418, 31, 0⟩
def F.LAST_STAT.UPDATE_FAIL.CNT : FRef := ⟨0x80041C, 31, 0⟩
def F.LAST_UPD_DATA.W (i : Nat) : FRef := ⟨0x800200 + 0x4 * i, 31, 0⟩

/-- Registers of block LAST, part 0. -/
def regsLast0 : List RegDesc :=
  [
    -- LAST_PROFILE (R173)
    ⟨0x800000, 28, 0x8, 1, 0x0, 64, false,
      [⟨63, 63, .rw, 0⟩, ⟨62, 60, .rw, 0⟩, ⟨59, 59, .rw, 0⟩, ⟨58, 58, .rw, 0⟩, ⟨57, 56, .rsv, 0⟩, ⟨55, 52, .rw, 0⟩, ⟨51, 51, .rsv, 0⟩, ⟨50, 36, .rw, 0⟩, ⟨35, 20, .rw, 0⟩, ⟨19, 19, .rw, 0⟩, ⟨18, 13, .rw, 0⟩, ⟨12, 0, .rsv, 0⟩]⟩,
    -- LAST_CFG (R173)
    ⟨0x800100, 1, 0x0, 1, 0x0, 32, false,
      [⟨31, 16, .rsv, 0⟩, ⟨15, 0, .rw, 512⟩]⟩,
    -- LAST_FCTX_CFG (R173)
    ⟨0x800108, 1, 0x0, 1, 0x0, 64, false,
      [⟨63, 47, .rsv, 0⟩, ⟨46, 24, .rw, 0⟩, ⟨23, 23, .rsv, 0⟩, ⟨22, 0, .rw, 2097152⟩]⟩,
    -- LAST_FCTX_BASE (R173)
    ⟨0x800110, 2, 0x8, 1, 0x0, 64, false,
      [⟨63, 12, .rw, 0⟩, ⟨11, 0, .rsv, 0⟩]⟩,
    -- LAST_EXT_CFG (R173)
    ⟨0x800120, 1, 0x0, 1, 0x0, 64, false,
      [⟨63, 12, .rw, 0⟩, ⟨11, 5, .rsv, 0⟩, ⟨4, 0, .rw, 0⟩]⟩,
    -- LAST_WIN_SEL (R173)
    ⟨0x800128, 1, 0x0, 1, 0x0, 32, false,
      [⟨31, 3, .rsv, 0⟩, ⟨2, 0, .rw, 0⟩]⟩,
    -- LAST_UPD_CMD (R173)
    ⟨0x800300, 1, 0x0, 1, 0x0, 64, false,
      [⟨63, 63, .w1s, 0⟩, ⟨62, 62, .ro, 0⟩, ⟨61, 60, .rsv, 0⟩, ⟨59, 56, .rw, 0⟩, ⟨55, 51, .rw, 0⟩, ⟨50, 39, .rw, 0⟩, ⟨38, 17, .rw, 0⟩, ⟨16, 9, .rw, 0⟩, ⟨8, 0, .rsv, 0⟩]⟩,
    -- LAST_UPD_STATUS (R173)
    ⟨0x800308, 1, 0x0, 1, 0x0, 32, false,
      [⟨31, 31, .w1c, 0⟩, ⟨30, 16, .rsv, 0⟩, ⟨15, 8, .ro, 0⟩, ⟨7, 0, .ro, 0⟩]⟩,
    -- LAST_STAT.LOOKUPS (R173)
    ⟨0x800400, 1, 0x0, 1, 0x0, 32, false,
      [⟨31, 0, .rc, 0⟩]⟩,
    -- LAST_STAT.HITS (R173)
    ⟨0x800404, 1, 0x0, 1, 0x0, 32, false,
      [⟨31, 0, .rc, 0⟩]⟩,
    -- LAST_STAT.LATE_DISCARD (R173)
    ⟨0x800408, 1, 0x0, 1, 0x0, 32, false,
      [⟨31, 0, .rc, 0⟩]⟩,
    -- LAST_STAT.EXT_LOOKUPS (R173)
    ⟨0x80040C, 1, 0x0, 1, 0x0, 32, false,
      [⟨31, 0, .rc, 0⟩]⟩]

/-- Registers of block LAST, part 1. -/
def regsLast1 : List RegDesc :=
  [
    -- LAST_STAT.HOLD_DROP (R173)
    ⟨0x800410, 1, 0x0, 1, 0x0, 32, false,
      [⟨31, 0, .rc, 0⟩]⟩,
    -- LAST_STAT.FCTX_MISS (R173)
    ⟨0x800414, 1, 0x0, 1, 0x0, 32, false,
      [⟨31, 0, .rc, 0⟩]⟩,
    -- LAST_STAT.UPDATES (R173)
    ⟨0x800418, 1, 0x0, 1, 0x0, 32, false,
      [⟨31, 0, .rc, 0⟩]⟩,
    -- LAST_STAT.UPDATE_FAIL (R173)
    ⟨0x80041C, 1, 0x0, 1, 0x0, 32, false,
      [⟨31, 0, .rc, 0⟩]⟩,
    -- LAST_UPD_DATA (R173)
    ⟨0x800200, 64, 0x4, 1, 0x0, 32, false,
      [⟨31, 0, .rw, 0⟩]⟩]

def regsLast : List RegDesc := regsLast0 ++ regsLast1

/-! ### Block EDIT -/

def F.EDIT_SP_DST.EN (h : Nat) : FRef := ⟨0xA00000 + 0x4 * h, 31, 31⟩
def F.EDIT_SP_DST.EPOCH (h : Nat) : FRef := ⟨0xA00000 + 0x4 * h, 27, 20⟩
def F.EDIT_SP_DST.ENDPOINT (h : Nat) : FRef := ⟨0xA00000 + 0x4 * h, 19, 0⟩
def F.EDIT_MIRROR.EN (i : Nat) : FRef := ⟨0xA00100 + 0x8 * i, 63, 63⟩
def F.EDIT_MIRROR.KIND (i : Nat) : FRef := ⟨0xA00100 + 0x8 * i, 62, 60⟩
def F.EDIT_MIRROR.TRUNC (i : Nat) : FRef := ⟨0xA00100 + 0x8 * i, 55, 48⟩
def F.EDIT_MIRROR.SAMPLE (i : Nat) : FRef := ⟨0xA00100 + 0x8 * i, 47, 32⟩
def F.EDIT_MIRROR.DEST (i : Nat) : FRef := ⟨0xA00100 + 0x8 * i, 27, 0⟩
def F.EDIT_STAT.LISTS.CNT : FRef := ⟨0xA00400, 31, 0⟩
def F.EDIT_STAT.MALFORMED.CNT : FRef := ⟨0xA00404, 31, 0⟩
def F.EDIT_STAT.SP_SENT.CNT : FRef := ⟨0xA00408, 31, 0⟩
def F.EDIT_STAT.SP_DROP.CNT : FRef := ⟨0xA0040C, 31, 0⟩
def F.EDIT_STAT.MIRROR_DROP.CNT : FRef := ⟨0xA00410, 31, 0⟩
def F.EDIT_STAT.DELIVERY_DROP.CNT : FRef := ⟨0xA00414, 31, 0⟩
def F.EDIT_STAT.MTU_DROP.CNT : FRef := ⟨0xA00418, 31, 0⟩
def F.EDIT_STAT.SKIPPED.CNT : FRef := ⟨0xA0041C, 31, 0⟩
def F.EDIT_TPL.W (i : Nat) : FRef := ⟨0xA10000 + 0x4 * i, 31, 0⟩

/-- Registers of block EDIT. -/
def regsEdit : List RegDesc :=
  [
    -- EDIT_SP_DST (R173)
    ⟨0xA00000, 2, 0x4, 1, 0x0, 32, false,
      [⟨31, 31, .rw, 0⟩, ⟨30, 28, .rsv, 0⟩, ⟨27, 20, .rw, 0⟩, ⟨19, 0, .rw, 0⟩]⟩,
    -- EDIT_MIRROR (R173)
    ⟨0xA00100, 64, 0x8, 1, 0x0, 64, false,
      [⟨63, 63, .rw, 0⟩, ⟨62, 60, .rw, 0⟩, ⟨59, 56, .rsv, 0⟩, ⟨55, 48, .rw, 0⟩, ⟨47, 32, .rw, 0⟩, ⟨31, 28, .rsv, 0⟩, ⟨27, 0, .rw, 0⟩]⟩,
    -- EDIT_STAT.LISTS (R173)
    ⟨0xA00400, 1, 0x0, 1, 0x0, 32, false,
      [⟨31, 0, .rc, 0⟩]⟩,
    -- EDIT_STAT.MALFORMED (R173)
    ⟨0xA00404, 1, 0x0, 1, 0x0, 32, false,
      [⟨31, 0, .rc, 0⟩]⟩,
    -- EDIT_STAT.SP_SENT (R173)
    ⟨0xA00408, 1, 0x0, 1, 0x0, 32, false,
      [⟨31, 0, .rc, 0⟩]⟩,
    -- EDIT_STAT.SP_DROP (R173)
    ⟨0xA0040C, 1, 0x0, 1, 0x0, 32, false,
      [⟨31, 0, .rc, 0⟩]⟩,
    -- EDIT_STAT.MIRROR_DROP (R173)
    ⟨0xA00410, 1, 0x0, 1, 0x0, 32, false,
      [⟨31, 0, .rc, 0⟩]⟩,
    -- EDIT_STAT.DELIVERY_DROP (R173)
    ⟨0xA00414, 1, 0x0, 1, 0x0, 32, false,
      [⟨31, 0, .rc, 0⟩]⟩,
    -- EDIT_STAT.MTU_DROP (R173)
    ⟨0xA00418, 1, 0x0, 1, 0x0, 32, false,
      [⟨31, 0, .rc, 0⟩]⟩,
    -- EDIT_STAT.SKIPPED (R173)
    ⟨0xA0041C, 1, 0x0, 1, 0x0, 32, false,
      [⟨31, 0, .rc, 0⟩]⟩,
    -- EDIT_TPL (R163)
    ⟨0xA10000, 8192, 0x4, 1, 0x0, 32, false,
      [⟨31, 0, .rw, 0⟩]⟩]

/-! ### Block EGRESS -/

def F.EGRESS_PORT_W0.SHAPE_EN (p : Nat) : FRef := ⟨0xB00000 + 0x10 * p, 31, 31⟩
def F.EGRESS_PORT_W0.OVH (p : Nat) : FRef := ⟨0xB00000 + 0x10 * p, 29, 24⟩
def F.EGRESS_PORT_W0.RATE (p : Nat) : FRef := ⟨0xB00000 + 0x10 * p, 23, 0⟩
def F.EGRESS_PORT_W4.BURST (p : Nat) : FRef := ⟨0xB00004 + 0x10 * p, 15, 0⟩
def F.EGRESS_PORT_W8.TC_WEIGHT (p : Nat) : FRef := ⟨0xB00008 + 0x10 * p, 63, 0⟩
def F.EGRESS_NODE_W0.EN (n : Nat) : FRef := ⟨0xB10000 + 0x10 * n, 31, 31⟩
def F.EGRESS_NODE_W0.BAND (n : Nat) : FRef := ⟨0xB10000 + 0x10 * n, 30, 29⟩
def F.EGRESS_NODE_W0.SHAPE_EN (n : Nat) : FRef := ⟨0xB10000 + 0x10 * n, 28, 28⟩
def F.EGRESS_NODE_W0.PORT (n : Nat) : FRef := ⟨0xB10000 + 0x10 * n, 27, 24⟩
def F.EGRESS_NODE_W0.TENANT (n : Nat) : FRef := ⟨0xB10000 + 0x10 * n, 23, 12⟩
def F.EGRESS_NODE_W0.WEIGHT (n : Nat) : FRef := ⟨0xB10000 + 0x10 * n, 7, 0⟩
def F.EGRESS_NODE_W4.RATE (n : Nat) : FRef := ⟨0xB10004 + 0x10 * n, 23, 0⟩
def F.EGRESS_NODE_W8.BURST (n : Nat) : FRef := ⟨0xB10008 + 0x10 * n, 15, 0⟩
def F.EGRESS_NODE_WC.TC_STRICT (n : Nat) : FRef := ⟨0xB1000C + 0x10 * n, 7, 0⟩
def F.EGRESS_QCFG.ECN_TH (pc : Nat) : FRef := ⟨0xB00400 + 0x4 * pc, 31, 16⟩
def F.EGRESS_QCFG.QLIMIT (pc : Nat) : FRef := ⟨0xB00400 + 0x4 * pc, 15, 0⟩
def F.EGRESS_STAT.DROP_QLIMIT.CNT : FRef := ⟨0xB00800, 31, 0⟩
def F.EGRESS_STAT.ECN_MARKED.CNT : FRef := ⟨0xB00804, 31, 0⟩
def F.EGRESS_STAT.DROP_NOPORT.CNT : FRef := ⟨0xB00808, 31, 0⟩
def F.EGRESS_STAT.MAP_MISMATCH.CNT : FRef := ⟨0xB0080C, 31, 0⟩
def F.EGRESS_MAP.VALID_HI (i : Nat) : FRef := ⟨0xB40000 + 0x4 * i, 31, 31⟩
def F.EGRESS_MAP.NODE_HI (i : Nat) : FRef := ⟨0xB40000 + 0x4 * i, 27, 16⟩
def F.EGRESS_MAP.VALID_LO (i : Nat) : FRef := ⟨0xB40000 + 0x4 * i, 15, 15⟩
def F.EGRESS_MAP.NODE_LO (i : Nat) : FRef := ⟨0xB40000 + 0x4 * i, 11, 0⟩

/-- Registers of block EGRESS, part 0. -/
def regsEgress0 : List RegDesc :=
  [
    -- EGRESS_PORT_W0 (R173)
    ⟨0xB00000, 16, 0x10, 1, 0x0, 32, false,
      [⟨31, 31, .rw, 0⟩, ⟨30, 30, .rsv, 0⟩, ⟨29, 24, .rw, 20⟩, ⟨23, 0, .rw, 0⟩]⟩,
    -- EGRESS_PORT_W4 (R173)
    ⟨0xB00004, 16, 0x10, 1, 0x0, 32, false,
      [⟨31, 16, .rsv, 0⟩, ⟨15, 0, .rw, 0⟩]⟩,
    -- EGRESS_PORT_W8 (R173)
    ⟨0xB00008, 16, 0x10, 1, 0x0, 64, false,
      [⟨63, 0, .rw, 72340172838076673⟩]⟩,
    -- EGRESS_NODE_W0 (R173)
    ⟨0xB10000, 4096, 0x10, 1, 0x0, 32, false,
      [⟨31, 31, .rw, 0⟩, ⟨30, 29, .rw, 3⟩, ⟨28, 28, .rw, 0⟩, ⟨27, 24, .rw, 0⟩, ⟨23, 12, .rw, 0⟩, ⟨11, 8, .rsv, 0⟩, ⟨7, 0, .rw, 1⟩]⟩,
    -- EGRESS_NODE_W4 (R173)
    ⟨0xB10004, 4096, 0x10, 1, 0x0, 32, false,
      [⟨31, 24, .rsv, 0⟩, ⟨23, 0, .rw, 0⟩]⟩,
    -- EGRESS_NODE_W8 (R173)
    ⟨0xB10008, 4096, 0x10, 1, 0x0, 32, false,
      [⟨31, 16, .rsv, 0⟩, ⟨15, 0, .rw, 0⟩]⟩,
    -- EGRESS_NODE_WC (R173)
    ⟨0xB1000C, 4096, 0x10, 1, 0x0, 32, false,
      [⟨31, 8, .rsv, 0⟩, ⟨7, 0, .rw, 0⟩]⟩,
    -- EGRESS_QCFG (R173)
    ⟨0xB00400, 128, 0x4, 1, 0x0, 32, false,
      [⟨31, 16, .rw, 0⟩, ⟨15, 0, .rw, 256⟩]⟩,
    -- EGRESS_STAT.DROP_QLIMIT (R173)
    ⟨0xB00800, 1, 0x0, 1, 0x0, 32, false,
      [⟨31, 0, .rc, 0⟩]⟩,
    -- EGRESS_STAT.ECN_MARKED (R173)
    ⟨0xB00804, 1, 0x0, 1, 0x0, 32, false,
      [⟨31, 0, .rc, 0⟩]⟩,
    -- EGRESS_STAT.DROP_NOPORT (R173)
    ⟨0xB00808, 1, 0x0, 1, 0x0, 32, false,
      [⟨31, 0, .rc, 0⟩]⟩,
    -- EGRESS_STAT.MAP_MISMATCH (R173)
    ⟨0xB0080C, 1, 0x0, 1, 0x0, 32, false,
      [⟨31, 0, .rc, 0⟩]⟩]

/-- Registers of block EGRESS, part 1. -/
def regsEgress1 : List RegDesc :=
  [
    -- EGRESS_MAP (R173)
    ⟨0xB40000, 32768, 0x4, 1, 0x0, 32, false,
      [⟨31, 31, .rw, 0⟩, ⟨30, 28, .rsv, 0⟩, ⟨27, 16, .rw, 0⟩, ⟨15, 15, .rw, 0⟩, ⟨14, 12, .rsv, 0⟩, ⟨11, 0, .rw, 0⟩]⟩]

def regsEgress : List RegDesc := regsEgress0 ++ regsEgress1

/-! ### Block ETH -/

def F.ETH_HALF_CFG.APPLY (h : Nat) : FRef := ⟨0xC00000 + 0x4 * h, 31, 31⟩
def F.ETH_HALF_CFG.MODE (h : Nat) : FRef := ⟨0xC00000 + 0x4 * h, 1, 0⟩
def F.ETH_PORT_CFG.EN (p : Nat) : FRef := ⟨0xC00100 + 0x20 * p, 31, 31⟩
def F.ETH_PORT_CFG.ORDERED (p : Nat) : FRef := ⟨0xC00100 + 0x20 * p, 30, 30⟩
def F.ETH_PORT_CFG.PFC_RX_EN (p : Nat) : FRef := ⟨0xC00100 + 0x20 * p, 29, 29⟩
def F.ETH_PORT_CFG.PFC_TX_EN (p : Nat) : FRef := ⟨0xC00100 + 0x20 * p, 28, 28⟩
def F.ETH_PORT_CFG.PFC_PRI (p : Nat) : FRef := ⟨0xC00100 + 0x20 * p, 27, 20⟩
def F.ETH_PORT_CFG.MTU (p : Nat) : FRef := ⟨0xC00100 + 0x20 * p, 13, 0⟩
def F.ETH_PORT_TEN.PFC_QUANTA (p : Nat) : FRef := ⟨0xC00104 + 0x20 * p, 31, 16⟩
def F.ETH_PORT_TEN.TMAP_EN (p : Nat) : FRef := ⟨0xC00104 + 0x20 * p, 15, 15⟩
def F.ETH_PORT_TEN.DEF_PRI (p : Nat) : FRef := ⟨0xC00104 + 0x20 * p, 14, 12⟩
def F.ETH_PORT_TEN.DEF_TENANT (p : Nat) : FRef := ⟨0xC00104 + 0x20 * p, 11, 0⟩
def F.ETH_PORT_PRITC.MAP (p : Nat) : FRef := ⟨0xC00108 + 0x20 * p, 23, 0⟩
def F.ETH_PORT_PFC.XOFF (p : Nat) : FRef := ⟨0xC0010C + 0x20 * p, 31, 16⟩
def F.ETH_PORT_PFC.XON (p : Nat) : FRef := ⟨0xC0010C + 0x20 * p, 15, 0⟩
def F.ETH_PORT_STATUS.LINK (p : Nat) : FRef := ⟨0xC00114 + 0x20 * p, 31, 31⟩
def F.ETH_PORT_STATUS.DEGRADED (p : Nat) : FRef := ⟨0xC00114 + 0x20 * p, 30, 30⟩
def F.ETH_PORT_STATUS.SPEED (p : Nat) : FRef := ⟨0xC00114 + 0x20 * p, 29, 27⟩
def F.ETH_PORT_STATUS.LANES (p : Nat) : FRef := ⟨0xC00114 + 0x20 * p, 23, 16⟩
def F.ETH_PORT_STATUS.FAILED (p : Nat) : FRef := ⟨0xC00114 + 0x20 * p, 15, 8⟩
def F.ETH_STAT.RX_FRAMES.CNT (p : Nat) : FRef := ⟨0xC40000 + 0x80 * p, 63, 0⟩
def F.ETH_STAT.RX_BYTES.CNT (p : Nat) : FRef := ⟨0xC40008 + 0x80 * p, 63, 0⟩
def F.ETH_STAT.TX_FRAMES.CNT (p : Nat) : FRef := ⟨0xC40010 + 0x80 * p, 63, 0⟩
def F.ETH_STAT.TX_BYTES.CNT (p : Nat) : FRef := ⟨0xC40018 + 0x80 * p, 63, 0⟩
def F.ETH_STAT.FEC_CORR.CNT (p : Nat) : FRef := ⟨0xC40020 + 0x80 * p, 63, 0⟩
def F.ETH_STAT.FEC_UNCORR.CNT (p : Nat) : FRef := ⟨0xC40028 + 0x80 * p, 63, 0⟩
def F.ETH_STAT.PFC_RX.CNT (p : Nat) : FRef := ⟨0xC40030 + 0x80 * p, 63, 0⟩
def F.ETH_STAT.PFC_TX.CNT (p : Nat) : FRef := ⟨0xC40038 + 0x80 * p, 63, 0⟩
def F.ETH_STAT.RX_FCS_ERR.CNT (p : Nat) : FRef := ⟨0xC40040 + 0x80 * p, 31, 0⟩
def F.ETH_STAT.RX_OVERSIZE.CNT (p : Nat) : FRef := ⟨0xC40044 + 0x80 * p, 31, 0⟩
def F.ETH_STAT.RX_PAUSE.CNT (p : Nat) : FRef := ⟨0xC40048 + 0x80 * p, 31, 0⟩
def F.ETH_STAT.RX_NOBUF.CNT (p : Nat) : FRef := ⟨0xC4004C + 0x80 * p, 31, 0⟩
def F.ETH_TMAP.VALID_HI (i : Nat) : FRef := ⟨0xC10000 + 0x4 * i, 31, 31⟩
def F.ETH_TMAP.TENANT_HI (i : Nat) : FRef := ⟨0xC10000 + 0x4 * i, 27, 16⟩
def F.ETH_TMAP.VALID_LO (i : Nat) : FRef := ⟨0xC10000 + 0x4 * i, 15, 15⟩
def F.ETH_TMAP.TENANT_LO (i : Nat) : FRef := ⟨0xC10000 + 0x4 * i, 11, 0⟩

/-- Registers of block ETH, part 0. -/
def regsEth0 : List RegDesc :=
  [
    -- ETH_HALF_CFG (R173)
    ⟨0xC00000, 2, 0x4, 1, 0x0, 32, false,
      [⟨31, 31, .w1s, 0⟩, ⟨30, 2, .rsv, 0⟩, ⟨1, 0, .rw, 0⟩]⟩,
    -- ETH_PORT_CFG (R173)
    ⟨0xC00100, 16, 0x20, 1, 0x0, 32, false,
      [⟨31, 31, .rw, 0⟩, ⟨30, 30, .rw, 1⟩, ⟨29, 29, .rw, 0⟩, ⟨28, 28, .rw, 0⟩, ⟨27, 20, .rw, 0⟩, ⟨19, 14, .rsv, 0⟩, ⟨13, 0, .rw, 1518⟩]⟩,
    -- ETH_PORT_TEN (R173)
    ⟨0xC00104, 16, 0x20, 1, 0x0, 32, false,
      [⟨31, 16, .rw, 65535⟩, ⟨15, 15, .rw, 0⟩, ⟨14, 12, .rw, 0⟩, ⟨11, 0, .rw, 0⟩]⟩,
    -- ETH_PORT_PRITC (R173)
    ⟨0xC00108, 16, 0x20, 1, 0x0, 32, false,
      [⟨31, 24, .rsv, 0⟩, ⟨23, 0, .rw, 16434824⟩]⟩,
    -- ETH_PORT_PFC (R173)
    ⟨0xC0010C, 16, 0x20, 1, 0x0, 32, false,
      [⟨31, 16, .rw, 64⟩, ⟨15, 0, .rw, 32⟩]⟩,
    -- ETH_PORT_STATUS (R173)
    ⟨0xC00114, 16, 0x20, 1, 0x0, 32, false,
      [⟨31, 31, .ro, 0⟩, ⟨30, 30, .ro, 0⟩, ⟨29, 27, .ro, 0⟩, ⟨26, 24, .rsv, 0⟩, ⟨23, 16, .ro, 0⟩, ⟨15, 8, .ro, 0⟩, ⟨7, 0, .rsv, 0⟩]⟩,
    -- ETH_STAT.RX_FRAMES (R173)
    ⟨0xC40000, 16, 0x80, 1, 0x0, 64, false,
      [⟨63, 0, .ro, 0⟩]⟩,
    -- ETH_STAT.RX_BYTES (R173)
    ⟨0xC40008, 16, 0x80, 1, 0x0, 64, false,
      [⟨63, 0, .ro, 0⟩]⟩,
    -- ETH_STAT.TX_FRAMES (R173)
    ⟨0xC40010, 16, 0x80, 1, 0x0, 64, false,
      [⟨63, 0, .ro, 0⟩]⟩,
    -- ETH_STAT.TX_BYTES (R173)
    ⟨0xC40018, 16, 0x80, 1, 0x0, 64, false,
      [⟨63, 0, .ro, 0⟩]⟩,
    -- ETH_STAT.FEC_CORR (R173)
    ⟨0xC40020, 16, 0x80, 1, 0x0, 64, false,
      [⟨63, 0, .ro, 0⟩]⟩,
    -- ETH_STAT.FEC_UNCORR (R173)
    ⟨0xC40028, 16, 0x80, 1, 0x0, 64, false,
      [⟨63, 0, .ro, 0⟩]⟩]

/-- Registers of block ETH, part 1. -/
def regsEth1 : List RegDesc :=
  [
    -- ETH_STAT.PFC_RX (R173)
    ⟨0xC40030, 16, 0x80, 1, 0x0, 64, false,
      [⟨63, 0, .ro, 0⟩]⟩,
    -- ETH_STAT.PFC_TX (R173)
    ⟨0xC40038, 16, 0x80, 1, 0x0, 64, false,
      [⟨63, 0, .ro, 0⟩]⟩,
    -- ETH_STAT.RX_FCS_ERR (R173)
    ⟨0xC40040, 16, 0x80, 1, 0x0, 32, false,
      [⟨31, 0, .rc, 0⟩]⟩,
    -- ETH_STAT.RX_OVERSIZE (R173)
    ⟨0xC40044, 16, 0x80, 1, 0x0, 32, false,
      [⟨31, 0, .rc, 0⟩]⟩,
    -- ETH_STAT.RX_PAUSE (R173)
    ⟨0xC40048, 16, 0x80, 1, 0x0, 32, false,
      [⟨31, 0, .rc, 0⟩]⟩,
    -- ETH_STAT.RX_NOBUF (R173)
    ⟨0xC4004C, 16, 0x80, 1, 0x0, 32, false,
      [⟨31, 0, .rc, 0⟩]⟩,
    -- ETH_STAT.RSVD (R173)
    ⟨0xC40050, 16, 0x80, 12, 0x4, 32, false,
      [⟨31, 0, .rsv, 0⟩]⟩,
    -- ETH_TMAP (R173)
    ⟨0xC10000, 32768, 0x4, 1, 0x0, 32, false,
      [⟨31, 31, .rw, 0⟩, ⟨30, 28, .rsv, 0⟩, ⟨27, 16, .rw, 0⟩, ⟨15, 15, .rw, 0⟩, ⟨14, 12, .rsv, 0⟩, ⟨11, 0, .rw, 0⟩]⟩]

def regsEth : List RegDesc := regsEth0 ++ regsEth1

/-! ### Block PTP -/

def F.PTP_NS.NS : FRef := ⟨0xD00000, 63, 0⟩
def F.PTP_SET.NS : FRef := ⟨0xD00008, 63, 0⟩
def F.PTP_CTRL.PPS_IN_SEEN : FRef := ⟨0xD00010, 31, 31⟩
def F.PTP_CTRL.PPS_WIDTH : FRef := ⟨0xD00010, 15, 8⟩
def F.PTP_CTRL.PPS_IN_EN : FRef := ⟨0xD00010, 3, 3⟩
def F.PTP_CTRL.PPS_OUT_EN : FRef := ⟨0xD00010, 2, 2⟩
def F.PTP_CTRL.VALID : FRef := ⟨0xD00010, 1, 1⟩
def F.PTP_CTRL.STEP : FRef := ⟨0xD00010, 0, 0⟩
def F.PTP_ADJ.FREQ : FRef := ⟨0xD00014, 31, 0⟩
def F.PTP_PPS_OUT_OFF.OFF : FRef := ⟨0xD00018, 29, 0⟩
def F.PTP_PPS_IN.NS : FRef := ⟨0xD00020, 63, 0⟩
def F.PTP_PORT_W0.RX_DLY (p : Nat) : FRef := ⟨0xD00100 + 0x8 * p, 15, 0⟩
def F.PTP_PORT_W4.TX_DLY (p : Nat) : FRef := ⟨0xD00104 + 0x8 * p, 15, 0⟩
def F.PTP_TXTS_W0.NS (p : Nat) : FRef := ⟨0xD01000 + 0x10 * p, 63, 0⟩
def F.PTP_TXTS_W8.VALID (p : Nat) : FRef := ⟨0xD01008 + 0x10 * p, 31, 31⟩
def F.PTP_TXTS_W8.DROPPED (p : Nat) : FRef := ⟨0xD01008 + 0x10 * p, 30, 24⟩
def F.PTP_TXTS_W8.TSTAG (p : Nat) : FRef := ⟨0xD01008 + 0x10 * p, 15, 0⟩

/-- Registers of block PTP. -/
def regsPtp : List RegDesc :=
  [
    -- PTP_NS (R173)
    ⟨0xD00000, 1, 0x0, 1, 0x0, 64, false,
      [⟨63, 0, .ro, 0⟩]⟩,
    -- PTP_SET (R173)
    ⟨0xD00008, 1, 0x0, 1, 0x0, 64, false,
      [⟨63, 0, .rw, 0⟩]⟩,
    -- PTP_CTRL (R173)
    ⟨0xD00010, 1, 0x0, 1, 0x0, 32, false,
      [⟨31, 31, .w1c, 0⟩, ⟨30, 16, .rsv, 0⟩, ⟨15, 8, .rw, 100⟩, ⟨7, 4, .rsv, 0⟩, ⟨3, 3, .rw, 0⟩, ⟨2, 2, .rw, 0⟩, ⟨1, 1, .rw, 0⟩, ⟨0, 0, .w1s, 0⟩]⟩,
    -- PTP_ADJ (R173)
    ⟨0xD00014, 1, 0x0, 1, 0x0, 32, false,
      [⟨31, 0, .rw, 0⟩]⟩,
    -- PTP_PPS_OUT_OFF (R173)
    ⟨0xD00018, 1, 0x0, 1, 0x0, 32, false,
      [⟨31, 30, .rsv, 0⟩, ⟨29, 0, .rw, 0⟩]⟩,
    -- PTP_PPS_IN (R173)
    ⟨0xD00020, 1, 0x0, 1, 0x0, 64, false,
      [⟨63, 0, .ro, 0⟩]⟩,
    -- PTP_PORT_W0 (R173)
    ⟨0xD00100, 16, 0x8, 1, 0x0, 32, false,
      [⟨31, 16, .rsv, 0⟩, ⟨15, 0, .rw, 0⟩]⟩,
    -- PTP_PORT_W4 (R173)
    ⟨0xD00104, 16, 0x8, 1, 0x0, 32, false,
      [⟨31, 16, .rsv, 0⟩, ⟨15, 0, .rw, 0⟩]⟩,
    -- PTP_TXTS_W0 (R173)
    ⟨0xD01000, 16, 0x10, 1, 0x0, 64, false,
      [⟨63, 0, .ro, 0⟩]⟩,
    -- PTP_TXTS_W8 (R173)
    ⟨0xD01008, 16, 0x10, 1, 0x0, 32, false,
      [⟨31, 31, .rc, 0⟩, ⟨30, 24, .rc, 0⟩, ⟨23, 16, .rsv, 0⟩, ⟨15, 0, .rc, 0⟩]⟩]

/-! ### Block CIPHER -/

def F.CIPHER_SESS_CFG.COUNT : FRef := ⟨0x1000000, 44, 24⟩
def F.CIPHER_SESS_CFG.SPLIT : FRef := ⟨0x1000000, 20, 0⟩
def F.CIPHER_SESS_BASE.BASE (h : Nat) : FRef := ⟨0x1000010 + 0x8 * h, 63, 12⟩
def F.CIPHER_NOTIFY.EN : FRef := ⟨0x1000020, 31, 31⟩
def F.CIPHER_NOTIFY.EPOCH : FRef := ⟨0x1000020, 27, 20⟩
def F.CIPHER_NOTIFY.ENDPOINT : FRef := ⟨0x1000020, 19, 0⟩
def F.CIPHER_KEYSRC.MULE : FRef := ⟨0x1000028, 47, 0⟩
def F.CIPHER_SESS_CMD.GO : FRef := ⟨0x1000100, 63, 63⟩
def F.CIPHER_SESS_CMD.BUSY : FRef := ⟨0x1000100, 62, 62⟩
def F.CIPHER_SESS_CMD.OP : FRef := ⟨0x1000100, 55, 52⟩
def F.CIPHER_SESS_CMD.INDEX : FRef := ⟨0x1000100, 19, 0⟩
def F.CIPHER_SESS_STATUS.DONE : FRef := ⟨0x1000108, 31, 31⟩
def F.CIPHER_SESS_STATUS.STATE : FRef := ⟨0x1000108, 26, 24⟩
def F.CIPHER_SESS_STATUS.DETAIL : FRef := ⟨0x1000108, 15, 8⟩
def F.CIPHER_SESS_STATUS.STATUS : FRef := ⟨0x1000108, 7, 0⟩
def F.CIPHER_EVENT.ZEROIZED : FRef := ⟨0x1000300, 4, 4⟩
def F.CIPHER_EVENT.REPLY_LOST : FRef := ⟨0x1000300, 3, 3⟩
def F.CIPHER_EVENT.UNWRAP_FAIL : FRef := ⟨0x1000300, 2, 2⟩
def F.CIPHER_EVENT.EXHAUSTED : FRef := ⟨0x1000300, 1, 1⟩
def F.CIPHER_EVENT.SOFT : FRef := ⟨0x1000300, 0, 0⟩
def F.CIPHER_NOTE.VALID : FRef := ⟨0x1000308, 63, 63⟩
def F.CIPHER_NOTE.KIND : FRef := ⟨0x1000308, 62, 60⟩
def F.CIPHER_NOTE.DROPPED : FRef := ⟨0x1000308, 59, 52⟩
def F.CIPHER_NOTE.TENANT : FRef := ⟨0x1000308, 31, 20⟩
def F.CIPHER_NOTE.SESSION : FRef := ⟨0x1000308, 19, 0⟩
def F.CIPHER_SUSP.PEAK (c : Nat) : FRef := ⟨0x1000400 + 0x4 * c, 22, 16⟩
def F.CIPHER_SUSP.IN_USE (c : Nat) : FRef := ⟨0x1000400 + 0x4 * c, 6, 0⟩
def F.CIPHER_STAT.JOBS.CNT : FRef := ⟨0x1000500, 31, 0⟩
def F.CIPHER_STAT.INLINE.CNT : FRef := ⟨0x1000504, 31, 0⟩
def F.CIPHER_STAT.AUTH_FAIL.CNT : FRef := ⟨0x1000508, 31, 0⟩
def F.CIPHER_STAT.REPLAY.CNT : FRef := ⟨0x100050C, 31, 0⟩
def F.CIPHER_STAT.NONCE_EXH.CNT : FRef := ⟨0x1000510, 31, 0⟩
def F.CIPHER_STAT.SUSPENDS.CNT : FRef := ⟨0x1000514, 31, 0⟩
def F.CIPHER_STAT.JOB_REFUSED.CNT : FRef := ⟨0x1000518, 31, 0⟩
def F.CIPHER_STAT.REPLY_LOST.CNT : FRef := ⟨0x100051C, 31, 0⟩
def F.CIPHER_ENGPOS.STATE (ce : Nat) : FRef := ⟨0x1001000 + 0x4 * ce, 31, 30⟩
def F.CIPHER_SESS_DATA.W (i : Nat) : FRef := ⟨0x1000200 + 0x4 * i, 31, 0⟩

/-- Registers of block CIPHER, part 0. -/
def regsCipher0 : List RegDesc :=
  [
    -- CIPHER_SESS_CFG (R209)
    ⟨0x1000000, 1, 0x0, 1, 0x0, 64, false,
      [⟨63, 45, .rsv, 0⟩, ⟨44, 24, .rwl, 0⟩, ⟨23, 21, .rsv, 0⟩, ⟨20, 0, .rwl, 524288⟩]⟩,
    -- CIPHER_SESS_BASE (R209)
    ⟨0x1000010, 2, 0x8, 1, 0x0, 64, false,
      [⟨63, 12, .rwl, 0⟩, ⟨11, 0, .rsv, 0⟩]⟩,
    -- CIPHER_NOTIFY (R209)
    ⟨0x1000020, 1, 0x0, 1, 0x0, 32, false,
      [⟨31, 31, .rw, 0⟩, ⟨30, 28, .rsv, 0⟩, ⟨27, 20, .rw, 0⟩, ⟨19, 0, .rw, 0⟩]⟩,
    -- CIPHER_KEYSRC (R209)
    ⟨0x1000028, 1, 0x0, 1, 0x0, 64, false,
      [⟨63, 48, .rsv, 0⟩, ⟨47, 0, .rw, 0⟩]⟩,
    -- CIPHER_SESS_CMD (R209)
    ⟨0x1000100, 1, 0x0, 1, 0x0, 64, false,
      [⟨63, 63, .w1s, 0⟩, ⟨62, 62, .ro, 0⟩, ⟨61, 56, .rsv, 0⟩, ⟨55, 52, .rw, 0⟩, ⟨51, 20, .rsv, 0⟩, ⟨19, 0, .rw, 0⟩]⟩,
    -- CIPHER_SESS_STATUS (R209)
    ⟨0x1000108, 1, 0x0, 1, 0x0, 32, false,
      [⟨31, 31, .w1c, 0⟩, ⟨30, 27, .rsv, 0⟩, ⟨26, 24, .ro, 0⟩, ⟨23, 16, .rsv, 0⟩, ⟨15, 8, .ro, 0⟩, ⟨7, 0, .ro, 0⟩]⟩,
    -- CIPHER_EVENT (R209)
    ⟨0x1000300, 1, 0x0, 1, 0x0, 32, false,
      [⟨31, 5, .rsv, 0⟩, ⟨4, 4, .w1c, 0⟩, ⟨3, 3, .w1c, 0⟩, ⟨2, 2, .w1c, 0⟩, ⟨1, 1, .w1c, 0⟩, ⟨0, 0, .w1c, 0⟩]⟩,
    -- CIPHER_NOTE (R209)
    ⟨0x1000308, 1, 0x0, 1, 0x0, 64, false,
      [⟨63, 63, .rc, 0⟩, ⟨62, 60, .ro, 0⟩, ⟨59, 52, .rc, 0⟩, ⟨51, 32, .rsv, 0⟩, ⟨31, 20, .ro, 0⟩, ⟨19, 0, .ro, 0⟩]⟩,
    -- CIPHER_SUSP (R209)
    ⟨0x1000400, 4, 0x4, 1, 0x0, 32, false,
      [⟨31, 23, .rsv, 0⟩, ⟨22, 16, .rc, 0⟩, ⟨15, 7, .rsv, 0⟩, ⟨6, 0, .ro, 0⟩]⟩,
    -- CIPHER_STAT.JOBS (R209)
    ⟨0x1000500, 1, 0x0, 1, 0x0, 32, false,
      [⟨31, 0, .rc, 0⟩]⟩,
    -- CIPHER_STAT.INLINE (R209)
    ⟨0x1000504, 1, 0x0, 1, 0x0, 32, false,
      [⟨31, 0, .rc, 0⟩]⟩,
    -- CIPHER_STAT.AUTH_FAIL (R209)
    ⟨0x1000508, 1, 0x0, 1, 0x0, 32, false,
      [⟨31, 0, .rc, 0⟩]⟩]

/-- Registers of block CIPHER, part 1. -/
def regsCipher1 : List RegDesc :=
  [
    -- CIPHER_STAT.REPLAY (R209)
    ⟨0x100050C, 1, 0x0, 1, 0x0, 32, false,
      [⟨31, 0, .rc, 0⟩]⟩,
    -- CIPHER_STAT.NONCE_EXH (R209)
    ⟨0x1000510, 1, 0x0, 1, 0x0, 32, false,
      [⟨31, 0, .rc, 0⟩]⟩,
    -- CIPHER_STAT.SUSPENDS (R209)
    ⟨0x1000514, 1, 0x0, 1, 0x0, 32, false,
      [⟨31, 0, .rc, 0⟩]⟩,
    -- CIPHER_STAT.JOB_REFUSED (R209)
    ⟨0x1000518, 1, 0x0, 1, 0x0, 32, false,
      [⟨31, 0, .rc, 0⟩]⟩,
    -- CIPHER_STAT.REPLY_LOST (R209)
    ⟨0x100051C, 1, 0x0, 1, 0x0, 32, false,
      [⟨31, 0, .rc, 0⟩]⟩,
    -- CIPHER_ENGPOS (R209)
    ⟨0x1001000, 544, 0x4, 1, 0x0, 32, false,
      [⟨31, 30, .ro, 0⟩, ⟨29, 0, .rsv, 0⟩]⟩,
    -- CIPHER_SESS_DATA (R209)
    ⟨0x1000200, 56, 0x4, 1, 0x0, 32, false,
      [⟨31, 0, .rw, 0⟩]⟩]

def regsCipher : List RegDesc := regsCipher0 ++ regsCipher1

/-! ### Block QUEUE -/

def F.QUEUE_CFG.CQ_STALL_LIMIT : FRef := ⟨0x1200000, 31, 0⟩
def F.QUEUE_CTX_BASE.BASE : FRef := ⟨0x1200008, 63, 12⟩
def F.QUEUE_PARK.RESERVED : FRef := ⟨0x1200010, 18, 0⟩
def F.QUEUE_PARK_USE.IN_USE : FRef := ⟨0x1200014, 18, 0⟩
def F.QUEUE_EVQ.VALID : FRef := ⟨0x1200020, 63, 63⟩
def F.QUEUE_EVQ.KIND : FRef := ⟨0x1200020, 62, 60⟩
def F.QUEUE_EVQ.DROPPED : FRef := ⟨0x1200020, 59, 52⟩
def F.QUEUE_EVQ.DETAIL : FRef := ⟨0x1200020, 39, 32⟩
def F.QUEUE_EVQ.CQ : FRef := ⟨0x1200020, 16, 16⟩
def F.QUEUE_EVQ.QUEUE : FRef := ⟨0x1200020, 15, 0⟩
def F.QUEUE_FGRANT.COUNT (f : Nat) : FRef := ⟨0x1210000 + 0x8 * f, 26, 16⟩
def F.QUEUE_FGRANT.BASE (f : Nat) : FRef := ⟨0x1210000 + 0x8 * f, 15, 0⟩
def F.QUEUE_STAT.FETCHED.CNT : FRef := ⟨0x1200200, 31, 0⟩
def F.QUEUE_STAT.CQE_WRITTEN.CNT : FRef := ⟨0x1200204, 31, 0⟩
def F.QUEUE_STAT.PARKED.CNT : FRef := ⟨0x1200208, 31, 0⟩
def F.QUEUE_STAT.WQ_ERRORS.CNT : FRef := ⟨0x120020C, 31, 0⟩
def F.QUEUE_STAT.CQ_STALLS.CNT : FRef := ⟨0x1200210, 31, 0⟩
def F.QUEUE_STAT.DB_DISCARD.CNT : FRef := ⟨0x1200214, 31, 0⟩
def F.QUEUE_STAT.RX_NOBUF.CNT : FRef := ⟨0x1200218, 31, 0⟩
def F.QUEUE_STAT.RX_TOOLONG.CNT : FRef := ⟨0x120021C, 31, 0⟩
def F.QUEUE_STAT.NOTIFY_LOST.CNT : FRef := ⟨0x1200220, 31, 0⟩
def F.QUEUE_STAT.ABORT_DISCARD.CNT : FRef := ⟨0x1200224, 31, 0⟩
def F.QUEUE_CMD.GO : FRef := ⟨0x1200100, 63, 63⟩
def F.QUEUE_CMD.BUSY : FRef := ⟨0x1200100, 62, 62⟩
def F.QUEUE_CMD.OP : FRef := ⟨0x1200100, 55, 52⟩
def F.QUEUE_CMD.CQ : FRef := ⟨0x1200100, 48, 48⟩
def F.QUEUE_CMD.QUEUE : FRef := ⟨0x1200100, 47, 32⟩
def F.QUEUE_CMD.INDEX : FRef := ⟨0x1200100, 31, 0⟩
def F.QUEUE_CMD_STATUS.DONE : FRef := ⟨0x1200108, 31, 31⟩
def F.QUEUE_CMD_STATUS.DETAIL : FRef := ⟨0x1200108, 15, 8⟩
def F.QUEUE_CMD_STATUS.STATUS : FRef := ⟨0x1200108, 7, 0⟩
def F.QUEUE_CMD_DATA.W (i : Nat) : FRef := ⟨0x1200140 + 0x8 * i, 63, 0⟩

/-- Registers of block QUEUE, part 0. -/
def regsQueue0 : List RegDesc :=
  [
    -- QUEUE_CFG (R245)
    ⟨0x1200000, 1, 0x0, 1, 0x0, 32, false,
      [⟨31, 0, .rw, 1000000⟩]⟩,
    -- QUEUE_CTX_BASE (R245)
    ⟨0x1200008, 1, 0x0, 1, 0x0, 64, false,
      [⟨63, 12, .rwl, 0⟩, ⟨11, 0, .rsv, 0⟩]⟩,
    -- QUEUE_PARK (R245)
    ⟨0x1200010, 1, 0x0, 1, 0x0, 32, false,
      [⟨31, 19, .rsv, 0⟩, ⟨18, 0, .ro, 0⟩]⟩,
    -- QUEUE_PARK_USE (R245)
    ⟨0x1200014, 1, 0x0, 1, 0x0, 32, false,
      [⟨31, 19, .rsv, 0⟩, ⟨18, 0, .ro, 0⟩]⟩,
    -- QUEUE_EVQ (R245)
    ⟨0x1200020, 1, 0x0, 1, 0x0, 64, false,
      [⟨63, 63, .rc, 0⟩, ⟨62, 60, .ro, 0⟩, ⟨59, 52, .rc, 0⟩, ⟨51, 40, .rsv, 0⟩, ⟨39, 32, .ro, 0⟩, ⟨31, 17, .rsv, 0⟩, ⟨16, 16, .ro, 0⟩, ⟨15, 0, .ro, 0⟩]⟩,
    -- QUEUE_FGRANT (R245)
    ⟨0x1210000, 4100, 0x8, 1, 0x0, 64, false,
      [⟨63, 27, .rsv, 0⟩, ⟨26, 16, .rw, 0⟩, ⟨15, 0, .rw, 0⟩]⟩,
    -- QUEUE_STAT.FETCHED (R245)
    ⟨0x1200200, 1, 0x0, 1, 0x0, 32, false,
      [⟨31, 0, .rc, 0⟩]⟩,
    -- QUEUE_STAT.CQE_WRITTEN (R245)
    ⟨0x1200204, 1, 0x0, 1, 0x0, 32, false,
      [⟨31, 0, .rc, 0⟩]⟩,
    -- QUEUE_STAT.PARKED (R245)
    ⟨0x1200208, 1, 0x0, 1, 0x0, 32, false,
      [⟨31, 0, .rc, 0⟩]⟩,
    -- QUEUE_STAT.WQ_ERRORS (R245)
    ⟨0x120020C, 1, 0x0, 1, 0x0, 32, false,
      [⟨31, 0, .rc, 0⟩]⟩,
    -- QUEUE_STAT.CQ_STALLS (R245)
    ⟨0x1200210, 1, 0x0, 1, 0x0, 32, false,
      [⟨31, 0, .rc, 0⟩]⟩,
    -- QUEUE_STAT.DB_DISCARD (R245)
    ⟨0x1200214, 1, 0x0, 1, 0x0, 32, false,
      [⟨31, 0, .rc, 0⟩]⟩]

/-- Registers of block QUEUE, part 1. -/
def regsQueue1 : List RegDesc :=
  [
    -- QUEUE_STAT.RX_NOBUF (R245)
    ⟨0x1200218, 1, 0x0, 1, 0x0, 32, false,
      [⟨31, 0, .rc, 0⟩]⟩,
    -- QUEUE_STAT.RX_TOOLONG (R245)
    ⟨0x120021C, 1, 0x0, 1, 0x0, 32, false,
      [⟨31, 0, .rc, 0⟩]⟩,
    -- QUEUE_STAT.NOTIFY_LOST (R245)
    ⟨0x1200220, 1, 0x0, 1, 0x0, 32, false,
      [⟨31, 0, .rc, 0⟩]⟩,
    -- QUEUE_STAT.ABORT_DISCARD (R245)
    ⟨0x1200224, 1, 0x0, 1, 0x0, 32, false,
      [⟨31, 0, .rc, 0⟩]⟩,
    -- QUEUE_CMD (R243)
    ⟨0x1200100, 1, 0x0, 1, 0x0, 64, false,
      [⟨63, 63, .w1s, 0⟩, ⟨62, 62, .ro, 0⟩, ⟨61, 56, .rsv, 0⟩, ⟨55, 52, .rw, 0⟩, ⟨51, 49, .rsv, 0⟩, ⟨48, 48, .rw, 0⟩, ⟨47, 32, .rw, 0⟩, ⟨31, 0, .rw, 0⟩]⟩,
    -- QUEUE_CMD_STATUS (R243)
    ⟨0x1200108, 1, 0x0, 1, 0x0, 32, false,
      [⟨31, 31, .w1c, 0⟩, ⟨30, 16, .rsv, 0⟩, ⟨15, 8, .ro, 0⟩, ⟨7, 0, .ro, 0⟩]⟩,
    -- QUEUE_CMD_DATA (R243)
    ⟨0x1200140, 8, 0x8, 1, 0x0, 64, false,
      [⟨63, 0, .rw, 0⟩]⟩]

def regsQueue : List RegDesc := regsQueue0 ++ regsQueue1

/-! ### Block BOBBIN -/

def F.BOBBIN_CFG.EN : FRef := ⟨0x1400000, 31, 31⟩
def F.BOBBIN_CFG.SCRUB_EN : FRef := ⟨0x1400000, 30, 30⟩
def F.BOBBIN_CFG.HEADROOM : FRef := ⟨0x1400000, 23, 16⟩
def F.BOBBIN_CFG.ING_CHUNK : FRef := ⟨0x1400000, 15, 0⟩
def F.BOBBIN_SLOW.SHIFT : FRef := ⟨0x1400004, 2, 0⟩
def F.BOBBIN_STATUS.READY : FRef := ⟨0x1400008, 31, 31⟩
def F.BOBBIN_STATUS.CFG_FAIL : FRef := ⟨0x1400008, 30, 30⟩
def F.BOBBIN_STATUS.FAIL_CAUSE : FRef := ⟨0x1400008, 11, 8⟩
def F.BOBBIN_STATUS.FAIL_POOL : FRef := ⟨0x1400008, 3, 0⟩
def F.BOBBIN_CLASS.MODE (hc : Nat) : FRef := ⟨0x1400100 + 0x8 * hc, 61, 61⟩
def F.BOBBIN_CLASS.SPILL_UP (hc : Nat) : FRef := ⟨0x1400100 + 0x8 * hc, 60, 60⟩
def F.BOBBIN_CLASS.COUNT (hc : Nat) : FRef := ⟨0x1400100 + 0x8 * hc, 41, 23⟩
def F.BOBBIN_CLASS.BASE (hc : Nat) : FRef := ⟨0x1400100 + 0x8 * hc, 22, 0⟩
def F.BOBBIN_DRAM_BASE.BASE (h : Nat) : FRef := ⟨0x1400200 + 0x8 * h, 63, 16⟩
def F.BOBBIN_SKEIN_ADDR.ADDR (h : Nat) : FRef := ⟨0x1400210 + 0x8 * h, 63, 0⟩
def F.BOBBIN_POOL.MIN_SUM (hc : Nat) : FRef := ⟨0x1400300 + 0x8 * hc, 56, 38⟩
def F.BOBBIN_POOL.FREE (hc : Nat) : FRef := ⟨0x1400300 + 0x8 * hc, 37, 19⟩
def F.BOBBIN_POOL.RETIRED (hc : Nat) : FRef := ⟨0x1400300 + 0x8 * hc, 18, 0⟩
def F.BOBBIN_EVQ.VALID : FRef := ⟨0x1400400, 63, 63⟩
def F.BOBBIN_EVQ.KIND : FRef := ⟨0x1400400, 62, 59⟩
def F.BOBBIN_EVQ.DROPPED : FRef := ⟨0x1400400, 58, 51⟩
def F.BOBBIN_EVQ.HANDLE : FRef := ⟨0x1400400, 47, 24⟩
def F.BOBBIN_EVQ.HALF : FRef := ⟨0x1400400, 23, 23⟩
def F.BOBBIN_EVQ.CLASS : FRef := ⟨0x1400400, 22, 20⟩
def F.BOBBIN_EVQ.TENANT : FRef := ⟨0x1400400, 11, 0⟩
def F.BOBBIN_STAT.ALLOCS.CNT : FRef := ⟨0x1400500, 31, 0⟩
def F.BOBBIN_STAT.FREES.CNT : FRef := ⟨0x1400504, 31, 0⟩
def F.BOBBIN_STAT.NO_BUFFER.CNT : FRef := ⟨0x1400508, 31, 0⟩
def F.BOBBIN_STAT.STOP_DROP.CNT : FRef := ⟨0x140050C, 31, 0⟩
def F.BOBBIN_STAT.SPILLS.CNT : FRef := ⟨0x1400510, 31, 0⟩
def F.BOBBIN_STAT.CHECK_FAIL.CNT : FRef := ⟨0x1400514, 31, 0⟩
def F.BOBBIN_STAT.SLOW_SKIPS.CNT : FRef := ⟨0x1400518, 31, 0⟩
def F.BOBBIN_STAT.SCRUB_CORR.CNT : FRef := ⟨0x140051C, 31, 0⟩
def F.BOBBIN_PART_W0.STOP (tc : Nat) : FRef := ⟨0x1480000 + 0x10 * tc, 57, 52⟩
def F.BOBBIN_PART_W0.SLOW (tc : Nat) : FRef := ⟨0x1480000 + 0x10 * tc, 51, 46⟩
def F.BOBBIN_PART_W0.WARN (tc : Nat) : FRef := ⟨0x1480000 + 0x10 * tc, 45, 40⟩
def F.BOBBIN_PART_W0.MAX (tc : Nat) : FRef := ⟨0x1480000 + 0x10 * tc, 39, 20⟩
def F.BOBBIN_PART_W0.MIN (tc : Nat) : FRef := ⟨0x1480000 + 0x10 * tc, 19, 0⟩
def F.BOBBIN_PART_W8.LEVEL_B (tc : Nat) : FRef := ⟨0x1480008 + 0x10 * tc, 43, 42⟩
def F.BOBBIN_PART_W8.LEVEL_A (tc : Nat) : FRef := ⟨0x1480008 + 0x10 * tc, 41, 40⟩
def F.BOBBIN_PART_W8.IN_USE_B (tc : Nat) : FRef := ⟨0x1480008 + 0x10 * tc, 39, 20⟩
def F.BOBBIN_PART_W8.IN_USE_A (tc : Nat) : FRef := ⟨0x1480008 + 0x10 * tc, 19, 0⟩

/-- Registers of block BOBBIN, part 0. -/
def regsBobbin0 : List RegDesc :=
  [
    -- BOBBIN_CFG (R265)
    ⟨0x1400000, 1, 0x0, 1, 0x0, 32, false,
      [⟨31, 31, .rwl, 0⟩, ⟨30, 30, .rw, 1⟩, ⟨29, 24, .rsv, 0⟩, ⟨23, 16, .rw, 128⟩, ⟨15, 0, .rw, 2048⟩]⟩,
    -- BOBBIN_SLOW (R265)
    ⟨0x1400004, 1, 0x0, 1, 0x0, 32, false,
      [⟨31, 3, .rsv, 0⟩, ⟨2, 0, .rw, 2⟩]⟩,
    -- BOBBIN_STATUS (R265)
    ⟨0x1400008, 1, 0x0, 1, 0x0, 32, false,
      [⟨31, 31, .ro, 0⟩, ⟨30, 30, .w1c, 0⟩, ⟨29, 12, .rsv, 0⟩, ⟨11, 8, .ro, 0⟩, ⟨7, 4, .rsv, 0⟩, ⟨3, 0, .ro, 0⟩]⟩,
    -- BOBBIN_CLASS (R265)
    ⟨0x1400100, 16, 0x8, 1, 0x0, 64, false,
      [⟨63, 62, .rsv, 0⟩, ⟨61, 61, .rwl, 0⟩, ⟨60, 60, .rw, 0⟩, ⟨59, 42, .rsv, 0⟩, ⟨41, 23, .rwl, 0⟩, ⟨22, 0, .rwl, 0⟩]⟩,
    -- BOBBIN_DRAM_BASE (R265)
    ⟨0x1400200, 2, 0x8, 1, 0x0, 64, false,
      [⟨63, 16, .rwl, 0⟩, ⟨15, 0, .rsv, 0⟩]⟩,
    -- BOBBIN_SKEIN_ADDR (R265)
    ⟨0x1400210, 2, 0x8, 1, 0x0, 64, false,
      [⟨63, 0, .ro, 0⟩]⟩,
    -- BOBBIN_POOL (R265)
    ⟨0x1400300, 16, 0x8, 1, 0x0, 64, false,
      [⟨63, 57, .rsv, 0⟩, ⟨56, 38, .ro, 0⟩, ⟨37, 19, .ro, 0⟩, ⟨18, 0, .ro, 0⟩]⟩,
    -- BOBBIN_EVQ (R265)
    ⟨0x1400400, 1, 0x0, 1, 0x0, 64, false,
      [⟨63, 63, .rc, 0⟩, ⟨62, 59, .ro, 0⟩, ⟨58, 51, .rc, 0⟩, ⟨50, 48, .rsv, 0⟩, ⟨47, 24, .ro, 0⟩, ⟨23, 23, .ro, 0⟩, ⟨22, 20, .ro, 0⟩, ⟨19, 12, .rsv, 0⟩, ⟨11, 0, .ro, 0⟩]⟩,
    -- BOBBIN_STAT.ALLOCS (R265)
    ⟨0x1400500, 1, 0x0, 1, 0x0, 32, false,
      [⟨31, 0, .rc, 0⟩]⟩,
    -- BOBBIN_STAT.FREES (R265)
    ⟨0x1400504, 1, 0x0, 1, 0x0, 32, false,
      [⟨31, 0, .rc, 0⟩]⟩,
    -- BOBBIN_STAT.NO_BUFFER (R265)
    ⟨0x1400508, 1, 0x0, 1, 0x0, 32, false,
      [⟨31, 0, .rc, 0⟩]⟩,
    -- BOBBIN_STAT.STOP_DROP (R265)
    ⟨0x140050C, 1, 0x0, 1, 0x0, 32, false,
      [⟨31, 0, .rc, 0⟩]⟩]

/-- Registers of block BOBBIN, part 1. -/
def regsBobbin1 : List RegDesc :=
  [
    -- BOBBIN_STAT.SPILLS (R265)
    ⟨0x1400510, 1, 0x0, 1, 0x0, 32, false,
      [⟨31, 0, .rc, 0⟩]⟩,
    -- BOBBIN_STAT.CHECK_FAIL (R265)
    ⟨0x1400514, 1, 0x0, 1, 0x0, 32, false,
      [⟨31, 0, .rc, 0⟩]⟩,
    -- BOBBIN_STAT.SLOW_SKIPS (R265)
    ⟨0x1400518, 1, 0x0, 1, 0x0, 32, false,
      [⟨31, 0, .rc, 0⟩]⟩,
    -- BOBBIN_STAT.SCRUB_CORR (R265)
    ⟨0x140051C, 1, 0x0, 1, 0x0, 32, false,
      [⟨31, 0, .rc, 0⟩]⟩,
    -- BOBBIN_PART_W0 (R265)
    ⟨0x1480000, 32768, 0x10, 1, 0x0, 64, false,
      [⟨63, 58, .rsv, 0⟩, ⟨57, 52, .rw, 0⟩, ⟨51, 46, .rw, 0⟩, ⟨45, 40, .rw, 0⟩, ⟨39, 20, .rw, 1048575⟩, ⟨19, 0, .rw, 0⟩]⟩,
    -- BOBBIN_PART_W8 (R265)
    ⟨0x1480008, 32768, 0x10, 1, 0x0, 64, false,
      [⟨63, 44, .rsv, 0⟩, ⟨43, 42, .ro, 0⟩, ⟨41, 40, .ro, 0⟩, ⟨39, 20, .ro, 0⟩, ⟨19, 0, .ro, 0⟩]⟩]

def regsBobbin : List RegDesc := regsBobbin0 ++ regsBobbin1

/-! ### Block WELT -/

def F.WELT_CFG.EN : FRef := ⟨0x1500000, 31, 31⟩
def F.WELT_CFG.IO_TIMEOUT : FRef := ⟨0x1500000, 15, 0⟩
def F.WELT_VOL_BASE.BASE : FRef := ⟨0x1500008, 63, 12⟩
def F.WELT_WBUF_BASE.BASE (h : Nat) : FRef := ⟨0x1500010 + 0x10 * h, 63, 12⟩
def F.WELT_WBUF_SIZE.PAGES (h : Nat) : FRef := ⟨0x1500018 + 0x10 * h, 21, 0⟩
def F.WELT_WBUF_USE.PAGES (h : Nat) : FRef := ⟨0x1500030 + 0x4 * h, 21, 0⟩
def F.WELT_PERCMD.COUNT : FRef := ⟨0x1500040, 6, 0⟩
def F.WELT_ACT.PAUSED : FRef := ⟨0x1500048, 31, 31⟩
def F.WELT_ACT.LAST_PAUSE : FRef := ⟨0x1500048, 17, 0⟩
def F.WELT_VOL_CMD.GO : FRef := ⟨0x1500100, 63, 63⟩
def F.WELT_VOL_CMD.BUSY : FRef := ⟨0x1500100, 62, 62⟩
def F.WELT_VOL_CMD.OP : FRef := ⟨0x1500100, 55, 52⟩
def F.WELT_VOL_CMD.INDEX : FRef := ⟨0x1500100, 13, 0⟩
def F.WELT_VOL_STATUS.DONE : FRef := ⟨0x1500108, 31, 31⟩
def F.WELT_VOL_STATUS.UP : FRef := ⟨0x1500108, 16, 16⟩
def F.WELT_VOL_STATUS.DETAIL : FRef := ⟨0x1500108, 15, 8⟩
def F.WELT_VOL_STATUS.STATUS : FRef := ⟨0x1500108, 7, 0⟩
def F.WELT_EVQ.VALID : FRef := ⟨0x1500300, 63, 63⟩
def F.WELT_EVQ.KIND : FRef := ⟨0x1500300, 62, 60⟩
def F.WELT_EVQ.DROPPED : FRef := ⟨0x1500300, 59, 52⟩
def F.WELT_EVQ.VOLUME : FRef := ⟨0x1500300, 45, 32⟩
def F.WELT_EVQ.QUEUE : FRef := ⟨0x1500300, 15, 0⟩
def F.WELT_STAT.READS.CNT : FRef := ⟨0x1500400, 31, 0⟩
def F.WELT_STAT.WRITES.CNT : FRef := ⟨0x1500404, 31, 0⟩
def F.WELT_STAT.BUF_HITS.CNT : FRef := ⟨0x1500408, 31, 0⟩
def F.WELT_STAT.FREEZES.CNT : FRef := ⟨0x150040C, 31, 0⟩
def F.WELT_STAT.ABORT_CAUGHT.CNT : FRef := ⟨0x1500410, 31, 0⟩
def F.WELT_STAT.ABORT_MISSED.CNT : FRef := ⟨0x1500414, 31, 0⟩
def F.WELT_STAT.BACKING_TIMEOUTS.CNT : FRef := ⟨0x1500418, 31, 0⟩
def F.WELT_STAT.WBUF_WAITS.CNT : FRef := ⟨0x150041C, 31, 0⟩
def F.WELT_VOL_DATA.W (i : Nat) : FRef := ⟨0x1500200 + 0x4 * i, 31, 0⟩

/-- Registers of block WELT, part 0. -/
def regsWelt0 : List RegDesc :=
  [
    -- WELT_CFG (R299)
    ⟨0x1500000, 1, 0x0, 1, 0x0, 32, false,
      [⟨31, 31, .rwl, 0⟩, ⟨30, 16, .rsv, 0⟩, ⟨15, 0, .rw, 8000⟩]⟩,
    -- WELT_VOL_BASE (R299)
    ⟨0x1500008, 1, 0x0, 1, 0x0, 64, false,
      [⟨63, 12, .rwl, 0⟩, ⟨11, 0, .rsv, 0⟩]⟩,
    -- WELT_WBUF_BASE (R299)
    ⟨0x1500010, 2, 0x10, 1, 0x0, 64, false,
      [⟨63, 12, .rwl, 0⟩, ⟨11, 0, .rsv, 0⟩]⟩,
    -- WELT_WBUF_SIZE (R299)
    ⟨0x1500018, 2, 0x10, 1, 0x0, 32, false,
      [⟨31, 22, .rsv, 0⟩, ⟨21, 0, .rwl, 0⟩]⟩,
    -- WELT_WBUF_USE (R299)
    ⟨0x1500030, 2, 0x4, 1, 0x0, 32, false,
      [⟨31, 22, .rsv, 0⟩, ⟨21, 0, .ro, 0⟩]⟩,
    -- WELT_PERCMD (R299)
    ⟨0x1500040, 1, 0x0, 1, 0x0, 32, false,
      [⟨31, 7, .rsv, 0⟩, ⟨6, 0, .ro, 0⟩]⟩,
    -- WELT_ACT (R299)
    ⟨0x1500048, 1, 0x0, 1, 0x0, 32, false,
      [⟨31, 31, .ro, 0⟩, ⟨30, 18, .rsv, 0⟩, ⟨17, 0, .ro, 0⟩]⟩,
    -- WELT_VOL_CMD (R299)
    ⟨0x1500100, 1, 0x0, 1, 0x0, 64, false,
      [⟨63, 63, .w1s, 0⟩, ⟨62, 62, .ro, 0⟩, ⟨61, 56, .rsv, 0⟩, ⟨55, 52, .rw, 0⟩, ⟨51, 14, .rsv, 0⟩, ⟨13, 0, .rw, 0⟩]⟩,
    -- WELT_VOL_STATUS (R299)
    ⟨0x1500108, 1, 0x0, 1, 0x0, 32, false,
      [⟨31, 31, .w1c, 0⟩, ⟨30, 17, .rsv, 0⟩, ⟨16, 16, .ro, 0⟩, ⟨15, 8, .ro, 0⟩, ⟨7, 0, .ro, 0⟩]⟩,
    -- WELT_EVQ (R299)
    ⟨0x1500300, 1, 0x0, 1, 0x0, 64, false,
      [⟨63, 63, .rc, 0⟩, ⟨62, 60, .ro, 0⟩, ⟨59, 52, .rc, 0⟩, ⟨51, 46, .rsv, 0⟩, ⟨45, 32, .ro, 0⟩, ⟨31, 16, .rsv, 0⟩, ⟨15, 0, .ro, 0⟩]⟩,
    -- WELT_STAT.READS (R299)
    ⟨0x1500400, 1, 0x0, 1, 0x0, 32, false,
      [⟨31, 0, .rc, 0⟩]⟩,
    -- WELT_STAT.WRITES (R299)
    ⟨0x1500404, 1, 0x0, 1, 0x0, 32, false,
      [⟨31, 0, .rc, 0⟩]⟩]

/-- Registers of block WELT, part 1. -/
def regsWelt1 : List RegDesc :=
  [
    -- WELT_STAT.BUF_HITS (R299)
    ⟨0x1500408, 1, 0x0, 1, 0x0, 32, false,
      [⟨31, 0, .rc, 0⟩]⟩,
    -- WELT_STAT.FREEZES (R299)
    ⟨0x150040C, 1, 0x0, 1, 0x0, 32, false,
      [⟨31, 0, .rc, 0⟩]⟩,
    -- WELT_STAT.ABORT_CAUGHT (R299)
    ⟨0x1500410, 1, 0x0, 1, 0x0, 32, false,
      [⟨31, 0, .rc, 0⟩]⟩,
    -- WELT_STAT.ABORT_MISSED (R299)
    ⟨0x1500414, 1, 0x0, 1, 0x0, 32, false,
      [⟨31, 0, .rc, 0⟩]⟩,
    -- WELT_STAT.BACKING_TIMEOUTS (R299)
    ⟨0x1500418, 1, 0x0, 1, 0x0, 32, false,
      [⟨31, 0, .rc, 0⟩]⟩,
    -- WELT_STAT.WBUF_WAITS (R299)
    ⟨0x150041C, 1, 0x0, 1, 0x0, 32, false,
      [⟨31, 0, .rc, 0⟩]⟩,
    -- WELT_VOL_DATA (R299)
    ⟨0x1500200, 64, 0x4, 1, 0x0, 32, false,
      [⟨31, 0, .rw, 0⟩]⟩]

def regsWelt : List RegDesc := regsWelt0 ++ regsWelt1

/-! ### Block HOSTLINK -/

def F.HOSTLINK_ID.DEVICE : FRef := ⟨0x1600000, 31, 16⟩
def F.HOSTLINK_ID.VENDOR : FRef := ⟨0x1600000, 15, 0⟩
def F.HOSTLINK_LINKCFG.BIFUR : FRef := ⟨0x1600004, 31, 31⟩
def F.HOSTLINK_LINKCFG.PF3_LINK : FRef := ⟨0x1600004, 3, 3⟩
def F.HOSTLINK_LINKCFG.PF2_LINK : FRef := ⟨0x1600004, 2, 2⟩
def F.HOSTLINK_LINKCFG.PF1_LINK : FRef := ⟨0x1600004, 1, 1⟩
def F.HOSTLINK_LINK_STATUS.UP (l : Nat) : FRef := ⟨0x1600010 + 0x4 * l, 31, 31⟩
def F.HOSTLINK_LINK_STATUS.FLIT (l : Nat) : FRef := ⟨0x1600010 + 0x4 * l, 30, 30⟩
def F.HOSTLINK_LINK_STATUS.SPEED (l : Nat) : FRef := ⟨0x1600010 + 0x4 * l, 29, 27⟩
def F.HOSTLINK_LINK_STATUS.WIDTH (l : Nat) : FRef := ⟨0x1600010 + 0x4 * l, 26, 22⟩
def F.HOSTLINK_INTX.PEND : FRef := ⟨0x1600020, 0, 0⟩
def F.HOSTLINK_PF.VF_BAR2 (p1 : Nat) : FRef := ⟨0x1600108 + 0x8 * p1, 20, 16⟩
def F.HOSTLINK_PF.TOTALVFS (p1 : Nat) : FRef := ⟨0x1600108 + 0x8 * p1, 12, 0⟩
def F.HOSTLINK_ABORT.GO : FRef := ⟨0x1600200, 63, 63⟩
def F.HOSTLINK_ABORT.BUSY : FRef := ⟨0x1600200, 62, 62⟩
def F.HOSTLINK_ABORT.OP : FRef := ⟨0x1600200, 55, 52⟩
def F.HOSTLINK_ABORT.TARGET : FRef := ⟨0x1600200, 12, 0⟩
def F.HOSTLINK_ABORT_STATUS.DONE : FRef := ⟨0x1600208, 31, 31⟩
def F.HOSTLINK_ABORT_STATUS.ELAPSED : FRef := ⟨0x1600208, 27, 16⟩
def F.HOSTLINK_ABORT_STATUS.DETAIL : FRef := ⟨0x1600208, 15, 8⟩
def F.HOSTLINK_ABORT_STATUS.STATUS : FRef := ⟨0x1600208, 7, 0⟩
def F.HOSTLINK_IDE.ACTIVE (s : Nat) : FRef := ⟨0x1600400 + 0x8 * s, 63, 63⟩
def F.HOSTLINK_IDE.TENANT (s : Nat) : FRef := ⟨0x1600400 + 0x8 * s, 55, 44⟩
def F.HOSTLINK_IDE.LAST_FUNC (s : Nat) : FRef := ⟨0x1600400 + 0x8 * s, 41, 29⟩
def F.HOSTLINK_IDE.FIRST_FUNC (s : Nat) : FRef := ⟨0x1600400 + 0x8 * s, 28, 16⟩
def F.HOSTLINK_IDE.STREAM_ID (s : Nat) : FRef := ⟨0x1600400 + 0x8 * s, 15, 8⟩
def F.HOSTLINK_STAT.CPL_TIMEOUT.CNT : FRef := ⟨0x1600600, 31, 0⟩
def F.HOSTLINK_STAT.LATE_CPL.CNT : FRef := ⟨0x1600604, 31, 0⟩
def F.HOSTLINK_STAT.UNEXP_CPL.CNT : FRef := ⟨0x1600608, 31, 0⟩
def F.HOSTLINK_STAT.TAG_WAITS.CNT : FRef := ⟨0x160060C, 31, 0⟩
def F.HOSTLINK_STAT.INTR_LOST.CNT : FRef := ⟨0x1600610, 31, 0⟩
def F.HOSTLINK_STAT.TEARDOWN_ACCESS.CNT : FRef := ⟨0x1600614, 31, 0⟩
def F.HOSTLINK_STAT.RRS_SENT.CNT : FRef := ⟨0x1600618, 31, 0⟩
def F.HOSTLINK_STAT.TEARDOWNS.CNT : FRef := ⟨0x160061C, 31, 0⟩
def F.HOSTLINK_FUNC.FSTATE (f : Nat) : FRef := ⟨0x1610000 + 0x8 * f, 63, 62⟩
def F.HOSTLINK_FUNC.COMPAT_HJ420 (f : Nat) : FRef := ⟨0x1610000 + 0x8 * f, 61, 61⟩
def F.HOSTLINK_FUNC.HOME (f : Nat) : FRef := ⟨0x1610000 + 0x8 * f, 60, 60⟩
def F.HOSTLINK_FUNC.TENANT (f : Nat) : FRef := ⟨0x1610000 + 0x8 * f, 55, 44⟩
def F.HOSTLINK_FUNC.VECTORS (f : Nat) : FRef := ⟨0x1610000 + 0x8 * f, 27, 16⟩
def F.HOSTLINK_TAGMAX.MAX (t : Nat) : FRef := ⟨0x1620000 + 0x4 * t, 14, 0⟩

/-- Registers of block HOSTLINK, part 0. -/
def regsHostlink0 : List RegDesc :=
  [
    -- HOSTLINK_ID (R328)
    ⟨0x1600000, 1, 0x0, 1, 0x0, 32, true,
      [⟨31, 16, .ro, 2400⟩, ⟨15, 0, .ro, 0⟩]⟩,
    -- HOSTLINK_LINKCFG (R328)
    ⟨0x1600004, 1, 0x0, 1, 0x0, 32, true,
      [⟨31, 31, .ro, 0⟩, ⟨30, 4, .rsv, 0⟩, ⟨3, 3, .rwl, 0⟩, ⟨2, 2, .rwl, 0⟩, ⟨1, 1, .rwl, 0⟩, ⟨0, 0, .rsv, 0⟩]⟩,
    -- HOSTLINK_LINK_STATUS (R328)
    ⟨0x1600010, 2, 0x4, 1, 0x0, 32, true,
      [⟨31, 31, .ro, 0⟩, ⟨30, 30, .ro, 0⟩, ⟨29, 27, .ro, 0⟩, ⟨26, 22, .ro, 0⟩, ⟨21, 0, .rsv, 0⟩]⟩,
    -- HOSTLINK_INTX (R328)
    ⟨0x1600020, 1, 0x0, 1, 0x0, 32, true,
      [⟨31, 1, .rsv, 0⟩, ⟨0, 0, .w1c, 0⟩]⟩,
    -- HOSTLINK_PF (R328)
    ⟨0x1600108, 3, 0x8, 1, 0x0, 64, true,
      [⟨63, 21, .rsv, 0⟩, ⟨20, 16, .rwl, 16⟩, ⟨15, 13, .rsv, 0⟩, ⟨12, 0, .rwl, 0⟩]⟩,
    -- HOSTLINK_ABORT (R328)
    ⟨0x1600200, 1, 0x0, 1, 0x0, 64, true,
      [⟨63, 63, .w1s, 0⟩, ⟨62, 62, .ro, 0⟩, ⟨61, 56, .rsv, 0⟩, ⟨55, 52, .rw, 0⟩, ⟨51, 13, .rsv, 0⟩, ⟨12, 0, .rw, 0⟩]⟩,
    -- HOSTLINK_ABORT_STATUS (R328)
    ⟨0x1600208, 1, 0x0, 1, 0x0, 32, true,
      [⟨31, 31, .w1c, 0⟩, ⟨30, 28, .rsv, 0⟩, ⟨27, 16, .ro, 0⟩, ⟨15, 8, .ro, 0⟩, ⟨7, 0, .ro, 0⟩]⟩,
    -- HOSTLINK_IDE (R328)
    ⟨0x1600400, 64, 0x8, 1, 0x0, 64, true,
      [⟨63, 63, .ro, 0⟩, ⟨62, 56, .rsv, 0⟩, ⟨55, 44, .rw, 0⟩, ⟨43, 42, .rsv, 0⟩, ⟨41, 29, .rw, 0⟩, ⟨28, 16, .rw, 0⟩, ⟨15, 8, .ro, 0⟩, ⟨7, 0, .rsv, 0⟩]⟩,
    -- HOSTLINK_STAT.CPL_TIMEOUT (R328)
    ⟨0x1600600, 1, 0x0, 1, 0x0, 32, true,
      [⟨31, 0, .rc, 0⟩]⟩,
    -- HOSTLINK_STAT.LATE_CPL (R328)
    ⟨0x1600604, 1, 0x0, 1, 0x0, 32, true,
      [⟨31, 0, .rc, 0⟩]⟩,
    -- HOSTLINK_STAT.UNEXP_CPL (R328)
    ⟨0x1600608, 1, 0x0, 1, 0x0, 32, true,
      [⟨31, 0, .rc, 0⟩]⟩,
    -- HOSTLINK_STAT.TAG_WAITS (R328)
    ⟨0x160060C, 1, 0x0, 1, 0x0, 32, true,
      [⟨31, 0, .rc, 0⟩]⟩]

/-- Registers of block HOSTLINK, part 1. -/
def regsHostlink1 : List RegDesc :=
  [
    -- HOSTLINK_STAT.INTR_LOST (R328)
    ⟨0x1600610, 1, 0x0, 1, 0x0, 32, true,
      [⟨31, 0, .rc, 0⟩]⟩,
    -- HOSTLINK_STAT.TEARDOWN_ACCESS (R328)
    ⟨0x1600614, 1, 0x0, 1, 0x0, 32, true,
      [⟨31, 0, .rc, 0⟩]⟩,
    -- HOSTLINK_STAT.RRS_SENT (R328)
    ⟨0x1600618, 1, 0x0, 1, 0x0, 32, true,
      [⟨31, 0, .rc, 0⟩]⟩,
    -- HOSTLINK_STAT.TEARDOWNS (R328)
    ⟨0x160061C, 1, 0x0, 1, 0x0, 32, true,
      [⟨31, 0, .rc, 0⟩]⟩,
    -- HOSTLINK_FUNC (R328)
    ⟨0x1610000, 4100, 0x8, 1, 0x0, 64, true,
      [⟨63, 62, .ro, 0⟩, ⟨61, 61, .rw, 0⟩, ⟨60, 60, .rw, 0⟩, ⟨59, 56, .rsv, 0⟩, ⟨55, 44, .rw, 0⟩, ⟨43, 28, .rsv, 0⟩, ⟨27, 16, .rw, 0⟩, ⟨15, 0, .rsv, 0⟩]⟩,
    -- HOSTLINK_TAGMAX (R328)
    ⟨0x1620000, 4096, 0x4, 1, 0x0, 32, true,
      [⟨31, 15, .rsv, 0⟩, ⟨14, 0, .rw, 16384⟩]⟩]

def regsHostlink : List RegDesc := regsHostlink0 ++ regsHostlink1

/-! ### Block EYELET -/

def F.EYELET_PORT_CFG.EN (p : Nat) : FRef := ⟨0x1700000 + 0x4 * p, 31, 31⟩
def F.EYELET_PORT_CFG.BIFUR (p : Nat) : FRef := ⟨0x1700000 + 0x4 * p, 27, 26⟩
def F.EYELET_PORT_CFG.MAX_SPEED (p : Nat) : FRef := ⟨0x1700000 + 0x4 * p, 25, 23⟩
def F.EYELET_PORT_CFG.CPL_TO (p : Nat) : FRef := ⟨0x1700000 + 0x4 * p, 19, 16⟩
def F.EYELET_SLOT_CTRL.PWR_ON (l : Nat) : FRef := ⟨0x1700100 + 0x20 * l, 31, 31⟩
def F.EYELET_SLOT_CTRL.PWR_OFF (l : Nat) : FRef := ⟨0x1700100 + 0x20 * l, 30, 30⟩
def F.EYELET_SLOT_CTRL.AUTO_PWR (l : Nat) : FRef := ⟨0x1700100 + 0x20 * l, 29, 29⟩
def F.EYELET_SLOT_CTRL.DPC_UNCOR (l : Nat) : FRef := ⟨0x1700100 + 0x20 * l, 28, 28⟩
def F.EYELET_SLOT_CTRL.PIC (l : Nat) : FRef := ⟨0x1700100 + 0x20 * l, 27, 26⟩
def F.EYELET_SLOT_CTRL.AIC (l : Nat) : FRef := ⟨0x1700100 + 0x20 * l, 25, 24⟩
def F.EYELET_SLOT_CTRL.PWR_STABLE (l : Nat) : FRef := ⟨0x1700100 + 0x20 * l, 7, 0⟩
def F.EYELET_SLOT_STATUS.PRESENT (l : Nat) : FRef := ⟨0x1700104 + 0x20 * l, 31, 31⟩
def F.EYELET_SLOT_STATUS.ATTN_PENDING (l : Nat) : FRef := ⟨0x1700104 + 0x20 * l, 30, 30⟩
def F.EYELET_SLOT_STATUS.PWR_FAULT (l : Nat) : FRef := ⟨0x1700104 + 0x20 * l, 29, 29⟩
def F.EYELET_SLOT_STATUS.PRESENCE_CHG (l : Nat) : FRef := ⟨0x1700104 + 0x20 * l, 28, 28⟩
def F.EYELET_SLOT_STATUS.ATTN_PRESSED (l : Nat) : FRef := ⟨0x1700104 + 0x20 * l, 27, 27⟩
def F.EYELET_SLOT_STATUS.DLL_CHG (l : Nat) : FRef := ⟨0x1700104 + 0x20 * l, 26, 26⟩
def F.EYELET_SLOT_STATUS.STATE (l : Nat) : FRef := ⟨0x1700104 + 0x20 * l, 18, 16⟩
def F.EYELET_SLOT_STATUS.CAUSE (l : Nat) : FRef := ⟨0x1700104 + 0x20 * l, 10, 8⟩
def F.EYELET_LINK_STATUS.UP (l : Nat) : FRef := ⟨0x1700108 + 0x20 * l, 31, 31⟩
def F.EYELET_LINK_STATUS.FLIT (l : Nat) : FRef := ⟨0x1700108 + 0x20 * l, 30, 30⟩
def F.EYELET_LINK_STATUS.SPEED (l : Nat) : FRef := ⟨0x1700108 + 0x20 * l, 29, 27⟩
def F.EYELET_LINK_STATUS.WIDTH (l : Nat) : FRef := ⟨0x1700108 + 0x20 * l, 26, 22⟩
def F.EYELET_LINK_STATUS.OUTST (l : Nat) : FRef := ⟨0x1700108 + 0x20 * l, 13, 0⟩
def F.EYELET_DEV_ID.DEVICE (l : Nat) : FRef := ⟨0x170010C + 0x20 * l, 31, 16⟩
def F.EYELET_DEV_ID.VENDOR (l : Nat) : FRef := ⟨0x170010C + 0x20 * l, 15, 0⟩
def F.EYELET_WIN_COMMIT.GO (p : Nat) : FRef := ⟨0x1700400 + 0x8 * p, 31, 31⟩
def F.EYELET_WIN_COMMIT.PENDING (p : Nat) : FRef := ⟨0x1700400 + 0x8 * p, 30, 30⟩
def F.EYELET_WIN_COMMIT.BUSY_WRITE (p : Nat) : FRef := ⟨0x1700400 + 0x8 * p, 29, 29⟩
def F.EYELET_WIN_COMMIT.DONE (p : Nat) : FRef := ⟨0x1700400 + 0x8 * p, 28, 28⟩
def F.EYELET_WIN_COMMIT.FAIL (p : Nat) : FRef := ⟨0x1700400 + 0x8 * p, 27, 27⟩
def F.EYELET_WIN_COMMIT.LIMIT_HIT (p : Nat) : FRef := ⟨0x1700400 + 0x8 * p, 26, 26⟩
def F.EYELET_WIN_COMMIT.FAIL_CAUSE (p : Nat) : FRef := ⟨0x1700400 + 0x8 * p, 22, 20⟩
def F.EYELET_WIN_COMMIT.FAIL_WIN (p : Nat) : FRef := ⟨0x1700400 + 0x8 * p, 7, 0⟩
def F.EYELET_WIN_CFG.DRAIN_LIMIT : FRef := ⟨0x1700440, 31, 0⟩
def F.EYELET_BARSZ.PRESENT (lf : Nat) : FRef := ⟨0x1701000 + 0x4 * lf, 31, 31⟩
def F.EYELET_BARSZ.BAR4 (lf : Nat) : FRef := ⟨0x1701000 + 0x4 * lf, 23, 16⟩
def F.EYELET_BARSZ.BAR2 (lf : Nat) : FRef := ⟨0x1701000 + 0x4 * lf, 15, 8⟩
def F.EYELET_BARSZ.BAR0 (lf : Nat) : FRef := ⟨0x1701000 + 0x4 * lf, 7, 0⟩
def F.EYELET_WIN_W0.VALID (pw : Nat) : FRef := ⟨0x1710000 + 0x10 * pw, 63, 63⟩
def F.EYELET_WIN_W0.RD (pw : Nat) : FRef := ⟨0x1710000 + 0x10 * pw, 62, 62⟩
def F.EYELET_WIN_W0.WR (pw : Nat) : FRef := ⟨0x1710000 + 0x10 * pw, 61, 61⟩
def F.EYELET_WIN_W0.LINK (pw : Nat) : FRef := ⟨0x1710000 + 0x10 * pw, 59, 58⟩
def F.EYELET_WIN_W0.FUNC (pw : Nat) : FRef := ⟨0x1710000 + 0x10 * pw, 57, 55⟩
def F.EYELET_WIN_W0.BAR (pw : Nat) : FRef := ⟨0x1710000 + 0x10 * pw, 54, 52⟩
def F.EYELET_WIN_W0.LOG2SIZE (pw : Nat) : FRef := ⟨0x1710000 + 0x10 * pw, 51, 46⟩
def F.EYELET_WIN_W0.TENANT (pw : Nat) : FRef := ⟨0x1710000 + 0x10 * pw, 45, 34⟩
def F.EYELET_WIN_W0.DEV_OFF (pw : Nat) : FRef := ⟨0x1710000 + 0x10 * pw, 23, 0⟩
def F.EYELET_WINACT_W0.VALID (pw : Nat) : FRef := ⟨0x1720000 + 0x10 * pw, 63, 63⟩
def F.EYELET_WINACT_W0.RD (pw : Nat) : FRef := ⟨0x1720000 + 0x10 * pw, 62, 62⟩
def F.EYELET_WINACT_W0.WR (pw : Nat) : FRef := ⟨0x1720000 + 0x10 * pw, 61, 61⟩
def F.EYELET_WINACT_W0.LINK (pw : Nat) : FRef := ⟨0x1720000 + 0x10 * pw, 59, 58⟩
def F.EYELET_WINACT_W0.FUNC (pw : Nat) : FRef := ⟨0x1720000 + 0x10 * pw, 57, 55⟩
def F.EYELET_WINACT_W0.BAR (pw : Nat) : FRef := ⟨0x1720000 + 0x10 * pw, 54, 52⟩
def F.EYELET_WINACT_W0.LOG2SIZE (pw : Nat) : FRef := ⟨0x1720000 + 0x10 * pw, 51, 46⟩
def F.EYELET_WINACT_W0.TENANT (pw : Nat) : FRef := ⟨0x1720000 + 0x10 * pw, 45, 34⟩
def F.EYELET_WINACT_W0.DEV_OFF (pw : Nat) : FRef := ⟨0x1720000 + 0x10 * pw, 23, 0⟩
def F.EYELET_WIN_W8.BAR_OFF (pw : Nat) : FRef := ⟨0x1710008 + 0x10 * pw, 63, 12⟩
def F.EYELET_WINACT_W8.BAR_OFF (pw : Nat) : FRef := ⟨0x1720008 + 0x10 * pw, 63, 12⟩
def F.EYELET_INAP_W0.EN (la : Nat) : FRef := ⟨0x1730000 + 0x20 * la, 63, 63⟩
def F.EYELET_INAP_W0.KIND (la : Nat) : FRef := ⟨0x1730000 + 0x20 * la, 62, 61⟩
def F.EYELET_INAP_W0.RD (la : Nat) : FRef := ⟨0x1730000 + 0x20 * la, 60, 60⟩
def F.EYELET_INAP_W0.WR (la : Nat) : FRef := ⟨0x1730000 + 0x20 * la, 59, 59⟩
def F.EYELET_INAP_W0.TENANT (la : Nat) : FRef := ⟨0x1730000 + 0x20 * la, 55, 44⟩
def F.EYELET_INAP_W0.LOG2SIZE (la : Nat) : FRef := ⟨0x1730000 + 0x20 * la, 43, 38⟩
def F.EYELET_INAP_W8.BUS_BASE (la : Nat) : FRef := ⟨0x1730008 + 0x20 * la, 63, 12⟩
def F.EYELET_INAP_W10.TARGET (la : Nat) : FRef := ⟨0x1730010 + 0x20 * la, 63, 0⟩
def F.EYELET_EVQ.VALID : FRef := ⟨0x1700600, 63, 63⟩
def F.EYELET_EVQ.KIND : FRef := ⟨0x1700600, 62, 59⟩
def F.EYELET_EVQ.DROPPED : FRef := ⟨0x1700600, 58, 51⟩
def F.EYELET_EVQ.CAUSE : FRef := ⟨0x1700600, 10, 8⟩
def F.EYELET_EVQ.LINK : FRef := ⟨0x1700600, 3, 0⟩
def F.EYELET_STAT.WIN_HELD.CNT : FRef := ⟨0x1700700, 31, 0⟩
def F.EYELET_STAT.WIN_DRAIN.CNT : FRef := ⟨0x1700704, 31, 0⟩
def F.EYELET_STAT.CONTAINMENTS.CNT : FRef := ⟨0x1700708, 31, 0⟩
def F.EYELET_STAT.PEER_LOST.CNT : FRef := ⟨0x170070C, 31, 0⟩
def F.EYELET_STAT.CPL_TIMEOUT.CNT : FRef := ⟨0x1700710, 31, 0⟩
def F.EYELET_STAT.LATE_CPL.CNT : FRef := ⟨0x1700714, 31, 0⟩
def F.EYELET_STAT.INB_UR.CNT : FRef := ⟨0x1700718, 31, 0⟩
def F.EYELET_STAT.NOTIFY_LOST.CNT : FRef := ⟨0x170071C, 31, 0⟩

/-- Registers of block EYELET, part 0. -/
def regsEyelet0 : List RegDesc :=
  [
    -- EYELET_PORT_CFG (R353)
    ⟨0x1700000, 4, 0x4, 1, 0x0, 32, false,
      [⟨31, 31, .rwl, 0⟩, ⟨30, 28, .rsv, 0⟩, ⟨27, 26, .rwl, 0⟩, ⟨25, 23, .rw, 7⟩, ⟨22, 20, .rsv, 0⟩, ⟨19, 16, .rw, 0⟩, ⟨15, 0, .rsv, 0⟩]⟩,
    -- EYELET_SLOT_CTRL (R353)
    ⟨0x1700100, 16, 0x20, 1, 0x0, 32, false,
      [⟨31, 31, .w1s, 0⟩, ⟨30, 30, .w1s, 0⟩, ⟨29, 29, .rw, 0⟩, ⟨28, 28, .rw, 1⟩, ⟨27, 26, .rw, 3⟩, ⟨25, 24, .rw, 3⟩, ⟨23, 8, .rsv, 0⟩, ⟨7, 0, .rw, 100⟩]⟩,
    -- EYELET_SLOT_STATUS (R353)
    ⟨0x1700104, 16, 0x20, 1, 0x0, 32, false,
      [⟨31, 31, .ro, 0⟩, ⟨30, 30, .ro, 0⟩, ⟨29, 29, .w1c, 0⟩, ⟨28, 28, .w1c, 0⟩, ⟨27, 27, .w1c, 0⟩, ⟨26, 26, .w1c, 0⟩, ⟨25, 19, .rsv, 0⟩, ⟨18, 16, .ro, 0⟩, ⟨15, 11, .rsv, 0⟩, ⟨10, 8, .ro, 0⟩, ⟨7, 0, .rsv, 0⟩]⟩,
    -- EYELET_LINK_STATUS (R353)
    ⟨0x1700108, 16, 0x20, 1, 0x0, 32, false,
      [⟨31, 31, .ro, 0⟩, ⟨30, 30, .ro, 0⟩, ⟨29, 27, .ro, 0⟩, ⟨26, 22, .ro, 0⟩, ⟨21, 14, .rsv, 0⟩, ⟨13, 0, .ro, 0⟩]⟩,
    -- EYELET_DEV_ID (R353)
    ⟨0x170010C, 16, 0x20, 1, 0x0, 32, false,
      [⟨31, 16, .ro, 0⟩, ⟨15, 0, .ro, 0⟩]⟩,
    -- EYELET_WIN_COMMIT (R353)
    ⟨0x1700400, 4, 0x8, 1, 0x0, 32, false,
      [⟨31, 31, .w1s, 0⟩, ⟨30, 30, .ro, 0⟩, ⟨29, 29, .w1c, 0⟩, ⟨28, 28, .w1c, 0⟩, ⟨27, 27, .w1c, 0⟩, ⟨26, 26, .w1c, 0⟩, ⟨25, 23, .rsv, 0⟩, ⟨22, 20, .ro, 0⟩, ⟨19, 8, .rsv, 0⟩, ⟨7, 0, .ro, 0⟩]⟩,
    -- EYELET_WIN_CFG (R353)
    ⟨0x1700440, 1, 0x0, 1, 0x0, 32, false,
      [⟨31, 0, .rw, 10000⟩]⟩,
    -- EYELET_BARSZ (R353)
    ⟨0x1701000, 128, 0x4, 1, 0x0, 32, false,
      [⟨31, 31, .ro, 0⟩, ⟨30, 24, .rsv, 0⟩, ⟨23, 16, .ro, 0⟩, ⟨15, 8, .ro, 0⟩, ⟨7, 0, .ro, 0⟩]⟩,
    -- EYELET_WIN_W0 (R353)
    ⟨0x1710000, 1024, 0x10, 1, 0x0, 64, false,
      [⟨63, 63, .rw, 0⟩, ⟨62, 62, .rw, 0⟩, ⟨61, 61, .rw, 0⟩, ⟨60, 60, .rsv, 0⟩, ⟨59, 58, .rw, 0⟩, ⟨57, 55, .rw, 0⟩, ⟨54, 52, .rw, 0⟩, ⟨51, 46, .rw, 0⟩, ⟨45, 34, .rw, 0⟩, ⟨33, 24, .rsv, 0⟩, ⟨23, 0, .rw, 0⟩]⟩,
    -- EYELET_WINACT_W0 (R353)
    ⟨0x1720000, 1024, 0x10, 1, 0x0, 64, false,
      [⟨63, 63, .ro, 0⟩, ⟨62, 62, .ro, 0⟩, ⟨61, 61, .ro, 0⟩, ⟨60, 60, .rsv, 0⟩, ⟨59, 58, .ro, 0⟩, ⟨57, 55, .ro, 0⟩, ⟨54, 52, .ro, 0⟩, ⟨51, 46, .ro, 0⟩, ⟨45, 34, .ro, 0⟩, ⟨33, 24, .rsv, 0⟩, ⟨23, 0, .ro, 0⟩]⟩,
    -- EYELET_WIN_W8 (R353)
    ⟨0x1710008, 1024, 0x10, 1, 0x0, 64, false,
      [⟨63, 12, .rw, 0⟩, ⟨11, 0, .rsv, 0⟩]⟩,
    -- EYELET_WINACT_W8 (R353)
    ⟨0x1720008, 1024, 0x10, 1, 0x0, 64, false,
      [⟨63, 12, .ro, 0⟩, ⟨11, 0, .rsv, 0⟩]⟩]

/-- Registers of block EYELET, part 1. -/
def regsEyelet1 : List RegDesc :=
  [
    -- EYELET_INAP_W0 (R353)
    ⟨0x1730000, 128, 0x20, 1, 0x0, 64, false,
      [⟨63, 63, .rw, 0⟩, ⟨62, 61, .rw, 0⟩, ⟨60, 60, .rw, 0⟩, ⟨59, 59, .rw, 0⟩, ⟨58, 56, .rsv, 0⟩, ⟨55, 44, .rw, 0⟩, ⟨43, 38, .rw, 0⟩, ⟨37, 0, .rsv, 0⟩]⟩,
    -- EYELET_INAP_W8 (R353)
    ⟨0x1730008, 128, 0x20, 1, 0x0, 64, false,
      [⟨63, 12, .rw, 0⟩, ⟨11, 0, .rsv, 0⟩]⟩,
    -- EYELET_INAP_W10 (R353)
    ⟨0x1730010, 128, 0x20, 1, 0x0, 64, false,
      [⟨63, 0, .rw, 0⟩]⟩,
    -- EYELET_INAP_W18 (R353)
    ⟨0x1730018, 128, 0x20, 1, 0x0, 64, false,
      [⟨63, 0, .rsv, 0⟩]⟩,
    -- EYELET_EVQ (R353)
    ⟨0x1700600, 1, 0x0, 1, 0x0, 64, false,
      [⟨63, 63, .rc, 0⟩, ⟨62, 59, .ro, 0⟩, ⟨58, 51, .rc, 0⟩, ⟨50, 11, .rsv, 0⟩, ⟨10, 8, .ro, 0⟩, ⟨7, 4, .rsv, 0⟩, ⟨3, 0, .ro, 0⟩]⟩,
    -- EYELET_STAT.WIN_HELD (R353)
    ⟨0x1700700, 1, 0x0, 1, 0x0, 32, false,
      [⟨31, 0, .rc, 0⟩]⟩,
    -- EYELET_STAT.WIN_DRAIN (R353)
    ⟨0x1700704, 1, 0x0, 1, 0x0, 32, false,
      [⟨31, 0, .rc, 0⟩]⟩,
    -- EYELET_STAT.CONTAINMENTS (R353)
    ⟨0x1700708, 1, 0x0, 1, 0x0, 32, false,
      [⟨31, 0, .rc, 0⟩]⟩,
    -- EYELET_STAT.PEER_LOST (R353)
    ⟨0x170070C, 1, 0x0, 1, 0x0, 32, false,
      [⟨31, 0, .rc, 0⟩]⟩,
    -- EYELET_STAT.CPL_TIMEOUT (R353)
    ⟨0x1700710, 1, 0x0, 1, 0x0, 32, false,
      [⟨31, 0, .rc, 0⟩]⟩,
    -- EYELET_STAT.LATE_CPL (R353)
    ⟨0x1700714, 1, 0x0, 1, 0x0, 32, false,
      [⟨31, 0, .rc, 0⟩]⟩,
    -- EYELET_STAT.INB_UR (R353)
    ⟨0x1700718, 1, 0x0, 1, 0x0, 32, false,
      [⟨31, 0, .rc, 0⟩]⟩]

/-- Registers of block EYELET, part 2. -/
def regsEyelet2 : List RegDesc :=
  [
    -- EYELET_STAT.NOTIFY_LOST (R353)
    ⟨0x170071C, 1, 0x0, 1, 0x0, 32, false,
      [⟨31, 0, .rc, 0⟩]⟩]

def regsEyelet : List RegDesc := regsEyelet0 ++ regsEyelet1 ++ regsEyelet2

/-! ### Block MEM -/

def F.MEM_CH_CFG.PAGE (ch : Nat) : FRef := ⟨0x1800000 + 0x10000 * ch, 31, 30⟩
def F.MEM_CH_CFG.SCRUB_EN (ch : Nat) : FRef := ⟨0x1800000 + 0x10000 * ch, 29, 29⟩
def F.MEM_CH_CFG.PATROL_HOURS (ch : Nat) : FRef := ⟨0x1800000 + 0x10000 * ch, 23, 16⟩
def F.MEM_CH_STATUS.STATE (ch : Nat) : FRef := ⟨0x1800004 + 0x10000 * ch, 31, 29⟩
def F.MEM_CH_STATUS.LOGICAL (ch : Nat) : FRef := ⟨0x1800004 + 0x10000 * ch, 28, 24⟩
def F.MEM_CH_STATUS.CUR_MULT (ch : Nat) : FRef := ⟨0x1800004 + 0x10000 * ch, 23, 22⟩
def F.MEM_CH_STATUS.FREEZES (ch : Nat) : FRef := ⟨0x1800004 + 0x10000 * ch, 15, 8⟩
def F.MEM_CH_GEOM.RANK (ch : Nat) : FRef := ⟨0x1800008 + 0x10000 * ch, 25, 25⟩
def F.MEM_CH_GEOM.ROW (ch : Nat) : FRef := ⟨0x1800008 + 0x10000 * ch, 24, 20⟩
def F.MEM_CH_GEOM.COL (ch : Nat) : FRef := ⟨0x1800008 + 0x10000 * ch, 19, 16⟩
def F.MEM_CH_GEOM.CAPACITY (ch : Nat) : FRef := ⟨0x1800008 + 0x10000 * ch, 5, 0⟩
def F.MEM_LAST_FREEZE.TIME (ch : Nat) : FRef := ⟨0x1800010 + 0x10000 * ch, 63, 0⟩
def F.MEM_CH_STAT.CE.CNT (ch : Nat) : FRef := ⟨0x1800100 + 0x10000 * ch, 31, 0⟩
def F.MEM_CH_STAT.UE.CNT (ch : Nat) : FRef := ⟨0x1800104 + 0x10000 * ch, 31, 0⟩
def F.MEM_CH_STAT.CMD_ERR.CNT (ch : Nat) : FRef := ⟨0x1800108 + 0x10000 * ch, 31, 0⟩
def F.MEM_CH_STAT.TRR.CNT (ch : Nat) : FRef := ⟨0x180010C + 0x10000 * ch, 31, 0⟩
def F.MEM_CH_STAT.REF_FORCED.CNT (ch : Nat) : FRef := ⟨0x1800110 + 0x10000 * ch, 31, 0⟩
def F.MEM_CH_STAT.PAGE_HIT.CNT (ch : Nat) : FRef := ⟨0x1800114 + 0x10000 * ch, 31, 0⟩
def F.MEM_CH_STAT.PAGE_MISS.CNT (ch : Nat) : FRef := ⟨0x1800118 + 0x10000 * ch, 31, 0⟩
def F.MEM_CH_STAT.PATROL.CNT (ch : Nat) : FRef := ⟨0x180011C + 0x10000 * ch, 31, 0⟩
def F.MEM_GCFG.EN : FRef := ⟨0x1808000, 63, 63⟩
def F.MEM_GCFG.RATE : FRef := ⟨0x1808000, 59, 58⟩
def F.MEM_GCFG.REF_MULT_MAX : FRef := ⟨0x1808000, 57, 56⟩
def F.MEM_GCFG.TRR_TURNS : FRef := ⟨0x1808000, 55, 48⟩
def F.MEM_GCFG.BLAST : FRef := ⟨0x1808000, 43, 41⟩
def F.MEM_GCFG.ACT_THRESH : FRef := ⟨0x1808000, 28, 16⟩
def F.MEM_GSTATUS.READY : FRef := ⟨0x1808008, 31, 31⟩
def F.MEM_GSTATUS.CFG_FAIL : FRef := ⟨0x1808008, 30, 30⟩
def F.MEM_GSTATUS.FAIL_CAUSE : FRef := ⟨0x1808008, 29, 27⟩
def F.MEM_GSTATUS.FAIL_REGION : FRef := ⟨0x1808008, 20, 16⟩
def F.MEM_REGION_W0.VALID (n : Nat) : FRef := ⟨0x1808100 + 0x10 * n, 63, 63⟩
def F.MEM_REGION_W0.CLASS (n : Nat) : FRef := ⟨0x1808100 + 0x10 * n, 62, 62⟩
def F.MEM_REGION_W0.SET (n : Nat) : FRef := ⟨0x1808100 + 0x10 * n, 61, 60⟩
def F.MEM_REGION_W0.MAP (n : Nat) : FRef := ⟨0x1808100 + 0x10 * n, 59, 58⟩
def F.MEM_REGION_W0.STATE (n : Nat) : FRef := ⟨0x1808100 + 0x10 * n, 57, 56⟩
def F.MEM_REGION_W0.SIZE (n : Nat) : FRef := ⟨0x1808100 + 0x10 * n, 9, 0⟩
def F.MEM_REGION_W8.CH_OFF (n : Nat) : FRef := ⟨0x1808108 + 0x10 * n, 63, 48⟩
def F.MEM_REGION_W8.BASE (n : Nat) : FRef := ⟨0x1808108 + 0x10 * n, 38, 30⟩
def F.MEM_CMD.GO : FRef := ⟨0x1808400, 63, 63⟩
def F.MEM_CMD.BUSY : FRef := ⟨0x1808400, 62, 62⟩
def F.MEM_CMD.OP : FRef := ⟨0x1808400, 55, 52⟩
def F.MEM_CMD.TARGET : FRef := ⟨0x1808400, 4, 0⟩
def F.MEM_CMD_STATUS.DONE : FRef := ⟨0x1808408, 31, 31⟩
def F.MEM_CMD_STATUS.DETAIL : FRef := ⟨0x1808408, 15, 8⟩
def F.MEM_CMD_STATUS.STATUS : FRef := ⟨0x1808408, 7, 0⟩
def F.MEM_EVQ.VALID : FRef := ⟨0x1808500, 63, 63⟩
def F.MEM_EVQ.KIND : FRef := ⟨0x1808500, 62, 59⟩
def F.MEM_EVQ.DROPPED : FRef := ⟨0x1808500, 58, 51⟩
def F.MEM_EVQ.REGION : FRef := ⟨0x1808500, 29, 25⟩
def F.MEM_EVQ.CHANNEL : FRef := ⟨0x1808500, 24, 20⟩
def F.MEM_EVQ.TENANT : FRef := ⟨0x1808500, 11, 0⟩
def F.MEM_FREEZE_REC.W (ch : Nat) (i : Nat) : FRef := ⟨0x1801000 + 0x10000 * ch + 0x4 * i, 31, 0⟩
def F.MEM_OWNER.VALID_HI (i : Nat) : FRef := ⟨0x180C000 + 0x4 * i, 31, 31⟩
def F.MEM_OWNER.TENANT_HI (i : Nat) : FRef := ⟨0x180C000 + 0x4 * i, 27, 16⟩
def F.MEM_OWNER.VALID_LO (i : Nat) : FRef := ⟨0x180C000 + 0x4 * i, 15, 15⟩
def F.MEM_OWNER.TENANT_LO (i : Nat) : FRef := ⟨0x180C000 + 0x4 * i, 11, 0⟩

/-- Registers of block MEM, part 0. -/
def regsMem0 : List RegDesc :=
  [
    -- MEM_CH_CFG (R381)
    ⟨0x1800000, 18, 0x10000, 1, 0x0, 32, false,
      [⟨31, 30, .rw, 0⟩, ⟨29, 29, .rw, 1⟩, ⟨28, 24, .rsv, 0⟩, ⟨23, 16, .rw, 24⟩, ⟨15, 0, .rsv, 0⟩]⟩,
    -- MEM_CH_STATUS (R381)
    ⟨0x1800004, 18, 0x10000, 1, 0x0, 32, false,
      [⟨31, 29, .ro, 0⟩, ⟨28, 24, .ro, 0⟩, ⟨23, 22, .ro, 0⟩, ⟨21, 16, .rsv, 0⟩, ⟨15, 8, .ro, 0⟩, ⟨7, 0, .rsv, 0⟩]⟩,
    -- MEM_CH_GEOM (R381)
    ⟨0x1800008, 18, 0x10000, 1, 0x0, 32, false,
      [⟨31, 26, .rsv, 0⟩, ⟨25, 25, .ro, 0⟩, ⟨24, 20, .ro, 0⟩, ⟨19, 16, .ro, 0⟩, ⟨15, 6, .rsv, 0⟩, ⟨5, 0, .ro, 0⟩]⟩,
    -- MEM_LAST_FREEZE (R381)
    ⟨0x1800010, 18, 0x10000, 1, 0x0, 64, false,
      [⟨63, 0, .ro, 0⟩]⟩,
    -- MEM_CH_STAT.CE (R381)
    ⟨0x1800100, 18, 0x10000, 1, 0x0, 32, false,
      [⟨31, 0, .rc, 0⟩]⟩,
    -- MEM_CH_STAT.UE (R381)
    ⟨0x1800104, 18, 0x10000, 1, 0x0, 32, false,
      [⟨31, 0, .rc, 0⟩]⟩,
    -- MEM_CH_STAT.CMD_ERR (R381)
    ⟨0x1800108, 18, 0x10000, 1, 0x0, 32, false,
      [⟨31, 0, .rc, 0⟩]⟩,
    -- MEM_CH_STAT.TRR (R381)
    ⟨0x180010C, 18, 0x10000, 1, 0x0, 32, false,
      [⟨31, 0, .rc, 0⟩]⟩,
    -- MEM_CH_STAT.REF_FORCED (R381)
    ⟨0x1800110, 18, 0x10000, 1, 0x0, 32, false,
      [⟨31, 0, .rc, 0⟩]⟩,
    -- MEM_CH_STAT.PAGE_HIT (R381)
    ⟨0x1800114, 18, 0x10000, 1, 0x0, 32, false,
      [⟨31, 0, .rc, 0⟩]⟩,
    -- MEM_CH_STAT.PAGE_MISS (R381)
    ⟨0x1800118, 18, 0x10000, 1, 0x0, 32, false,
      [⟨31, 0, .rc, 0⟩]⟩,
    -- MEM_CH_STAT.PATROL (R381)
    ⟨0x180011C, 18, 0x10000, 1, 0x0, 32, false,
      [⟨31, 0, .rc, 0⟩]⟩]

/-- Registers of block MEM, part 1. -/
def regsMem1 : List RegDesc :=
  [
    -- MEM_GCFG (R381)
    ⟨0x1808000, 1, 0x0, 1, 0x0, 64, false,
      [⟨63, 63, .rwl, 0⟩, ⟨62, 60, .rsv, 0⟩, ⟨59, 58, .rwl, 2⟩, ⟨57, 56, .rwl, 0⟩, ⟨55, 48, .rwl, 30⟩, ⟨47, 44, .rsv, 0⟩, ⟨43, 41, .rw, 2⟩, ⟨40, 29, .rsv, 0⟩, ⟨28, 16, .rw, 512⟩, ⟨15, 0, .rsv, 0⟩]⟩,
    -- MEM_GSTATUS (R381)
    ⟨0x1808008, 1, 0x0, 1, 0x0, 32, false,
      [⟨31, 31, .ro, 0⟩, ⟨30, 30, .w1c, 0⟩, ⟨29, 27, .ro, 0⟩, ⟨26, 21, .rsv, 0⟩, ⟨20, 16, .ro, 0⟩, ⟨15, 0, .rsv, 0⟩]⟩,
    -- MEM_REGION_W0 (R381)
    ⟨0x1808100, 32, 0x10, 1, 0x0, 64, false,
      [⟨63, 63, .rwl, 0⟩, ⟨62, 62, .rwl, 0⟩, ⟨61, 60, .rwl, 0⟩, ⟨59, 58, .rwl, 0⟩, ⟨57, 56, .ro, 0⟩, ⟨55, 10, .rsv, 0⟩, ⟨9, 0, .rwl, 0⟩]⟩,
    -- MEM_REGION_W8 (R381)
    ⟨0x1808108, 32, 0x10, 1, 0x0, 64, false,
      [⟨63, 48, .rwl, 0⟩, ⟨47, 39, .rsv, 0⟩, ⟨38, 30, .rwl, 0⟩, ⟨29, 0, .rsv, 0⟩]⟩,
    -- MEM_CMD (R381)
    ⟨0x1808400, 1, 0x0, 1, 0x0, 64, false,
      [⟨63, 63, .w1s, 0⟩, ⟨62, 62, .ro, 0⟩, ⟨61, 56, .rsv, 0⟩, ⟨55, 52, .rw, 0⟩, ⟨51, 5, .rsv, 0⟩, ⟨4, 0, .rw, 0⟩]⟩,
    -- MEM_CMD_STATUS (R381)
    ⟨0x1808408, 1, 0x0, 1, 0x0, 32, false,
      [⟨31, 31, .w1c, 0⟩, ⟨30, 16, .rsv, 0⟩, ⟨15, 8, .ro, 0⟩, ⟨7, 0, .ro, 0⟩]⟩,
    -- MEM_EVQ (R381)
    ⟨0x1808500, 1, 0x0, 1, 0x0, 64, false,
      [⟨63, 63, .rc, 0⟩, ⟨62, 59, .ro, 0⟩, ⟨58, 51, .rc, 0⟩, ⟨50, 30, .rsv, 0⟩, ⟨29, 25, .ro, 0⟩, ⟨24, 20, .ro, 0⟩, ⟨19, 12, .rsv, 0⟩, ⟨11, 0, .ro, 0⟩]⟩,
    -- MEM_FREEZE_REC (R381)
    ⟨0x1801000, 18, 0x10000, 272, 0x4, 32, false,
      [⟨31, 0, .ro, 0⟩]⟩,
    -- MEM_OWNER (R381)
    ⟨0x180C000, 4096, 0x4, 1, 0x0, 32, false,
      [⟨31, 31, .rw, 0⟩, ⟨30, 28, .rsv, 0⟩, ⟨27, 16, .rw, 0⟩, ⟨15, 15, .rw, 0⟩, ⟨14, 12, .rsv, 0⟩, ⟨11, 0, .rw, 0⟩]⟩]

def regsMem : List RegDesc := regsMem0 ++ regsMem1

/-! ### Block SEAM -/

def F.SEAM_CFG.AUTO_REJOIN : FRef := ⟨0x1A00000, 31, 31⟩
def F.SEAM_STATUS.STATE : FRef := ⟨0x1A00008, 31, 29⟩
def F.SEAM_STATUS.WITNESS_ALIVE : FRef := ⟨0x1A00008, 28, 28⟩
def F.SEAM_STATUS.TRAINED : FRef := ⟨0x1A00008, 27, 27⟩
def F.SEAM_STATUS.FENCE_MODE : FRef := ⟨0x1A00008, 26, 26⟩
def F.SEAM_STATUS.WIDTH_AB : FRef := ⟨0x1A00008, 25, 21⟩
def F.SEAM_STATUS.WIDTH_BA : FRef := ⟨0x1A00008, 20, 16⟩
def F.SEAM_LANES.RETIRED_BA : FRef := ⟨0x1A00010, 49, 32⟩
def F.SEAM_LANES.RETIRED_AB : FRef := ⟨0x1A00010, 17, 0⟩
def F.SEAM_CMD.REJOIN : FRef := ⟨0x1A00018, 31, 31⟩
def F.SEAM_CMD.RETRAIN : FRef := ⟨0x1A00018, 30, 30⟩
def F.SEAM_CMD.REFUSED : FRef := ⟨0x1A00018, 29, 29⟩
def F.SEAM_CMD.CAUSE : FRef := ⟨0x1A00018, 28, 26⟩
def F.SEAM_STAT.REPLAYS.CNT : FRef := ⟨0x1A00100, 31, 0⟩
def F.SEAM_STAT.RETRAINS.CNT : FRef := ⟨0x1A00104, 31, 0⟩
def F.SEAM_STAT.LANE_SWAPS.CNT : FRef := ⟨0x1A00108, 31, 0⟩
def F.SEAM_STAT.LOSSES.CNT : FRef := ⟨0x1A0010C, 31, 0⟩
def F.SEAM_STAT.WIT_BAD.CNT : FRef := ⟨0x1A00110, 31, 0⟩
def F.SEAM_STAT.FENCES.CNT : FRef := ⟨0x1A00114, 31, 0⟩

/-- Registers of block SEAM. -/
def regsSeam : List RegDesc :=
  [
    -- SEAM_CFG (R440)
    ⟨0x1A00000, 1, 0x0, 1, 0x0, 32, false,
      [⟨31, 31, .rw, 0⟩, ⟨30, 0, .rsv, 0⟩]⟩,
    -- SEAM_STATUS (R440)
    ⟨0x1A00008, 1, 0x0, 1, 0x0, 32, false,
      [⟨31, 29, .ro, 0⟩, ⟨28, 28, .ro, 0⟩, ⟨27, 27, .ro, 0⟩, ⟨26, 26, .ro, 0⟩, ⟨25, 21, .ro, 0⟩, ⟨20, 16, .ro, 0⟩, ⟨15, 0, .rsv, 0⟩]⟩,
    -- SEAM_LANES (R440)
    ⟨0x1A00010, 1, 0x0, 1, 0x0, 64, false,
      [⟨63, 50, .rsv, 0⟩, ⟨49, 32, .ro, 0⟩, ⟨31, 18, .rsv, 0⟩, ⟨17, 0, .ro, 0⟩]⟩,
    -- SEAM_CMD (R440)
    ⟨0x1A00018, 1, 0x0, 1, 0x0, 32, false,
      [⟨31, 31, .w1s, 0⟩, ⟨30, 30, .w1s, 0⟩, ⟨29, 29, .w1c, 0⟩, ⟨28, 26, .ro, 0⟩, ⟨25, 0, .rsv, 0⟩]⟩,
    -- SEAM_STAT.REPLAYS (R440)
    ⟨0x1A00100, 1, 0x0, 1, 0x0, 32, false,
      [⟨31, 0, .rc, 0⟩]⟩,
    -- SEAM_STAT.RETRAINS (R440)
    ⟨0x1A00104, 1, 0x0, 1, 0x0, 32, false,
      [⟨31, 0, .rc, 0⟩]⟩,
    -- SEAM_STAT.LANE_SWAPS (R440)
    ⟨0x1A00108, 1, 0x0, 1, 0x0, 32, false,
      [⟨31, 0, .rc, 0⟩]⟩,
    -- SEAM_STAT.LOSSES (R440)
    ⟨0x1A0010C, 1, 0x0, 1, 0x0, 32, false,
      [⟨31, 0, .rc, 0⟩]⟩,
    -- SEAM_STAT.WIT_BAD (R440)
    ⟨0x1A00110, 1, 0x0, 1, 0x0, 32, false,
      [⟨31, 0, .rc, 0⟩]⟩,
    -- SEAM_STAT.FENCES (R440)
    ⟨0x1A00114, 1, 0x0, 1, 0x0, 32, false,
      [⟨31, 0, .rc, 0⟩]⟩]

/-! ### Block FAULT -/

def F.FAULT_CLASS.PREDICT_EN (k : Nat) : FRef := ⟨0x1B00000 + 0x8 * k, 63, 63⟩
def F.FAULT_CLASS.LOG2W (k : Nat) : FRef := ⟨0x1B00000 + 0x8 * k, 37, 32⟩
def F.FAULT_CLASS.N (k : Nat) : FRef := ⟨0x1B00000 + 0x8 * k, 15, 0⟩
def F.FAULT_WEAR.RETIRE : FRef := ⟨0x1B00100, 31, 16⟩
def F.FAULT_WEAR.WATCH : FRef := ⟨0x1B00100, 15, 0⟩
def F.FAULT_SPARE.COBBLER_DEGRADED : FRef := ⟨0x1B00108, 31, 31⟩
def F.FAULT_SPARE.DRAM : FRef := ⟨0x1B00108, 21, 20⟩
def F.FAULT_SPARE.SEAM : FRef := ⟨0x1B00108, 19, 17⟩
def F.FAULT_SPARE.CARD : FRef := ⟨0x1B00108, 16, 15⟩
def F.FAULT_SPARE.CIPHER : FRef := ⟨0x1B00108, 14, 6⟩
def F.FAULT_SPARE.SPINDLE : FRef := ⟨0x1B00108, 5, 0⟩
def F.FAULT_AVAIL.UNAVAIL_US : FRef := ⟨0x1B00200, 63, 0⟩
def F.FAULT_INJECT.GO : FRef := ⟨0x1B00300, 63, 63⟩
def F.FAULT_INJECT.CLASS : FRef := ⟨0x1B00300, 58, 56⟩
def F.FAULT_INJECT.POSITION : FRef := ⟨0x1B00300, 15, 0⟩
def F.FAULT_EVQ.VALID : FRef := ⟨0x1B00400, 63, 63⟩
def F.FAULT_EVQ.KIND : FRef := ⟨0x1B00400, 62, 58⟩
def F.FAULT_EVQ.DROPPED : FRef := ⟨0x1B00400, 57, 50⟩
def F.FAULT_EVQ.INJECTED : FRef := ⟨0x1B00400, 49, 49⟩
def F.FAULT_EVQ.CLASS : FRef := ⟨0x1B00400, 18, 16⟩
def F.FAULT_EVQ.POSITION : FRef := ⟨0x1B00400, 15, 0⟩
def F.FAULT_STAT.TRANSIENT.CNT : FRef := ⟨0x1B00500, 31, 0⟩
def F.FAULT_STAT.PERMANENT.CNT : FRef := ⟨0x1B00504, 31, 0⟩
def F.FAULT_STAT.SWAPS.CNT : FRef := ⟨0x1B00508, 31, 0⟩
def F.FAULT_STAT.UNSPARED.CNT : FRef := ⟨0x1B0050C, 31, 0⟩
def F.FAULT_STAT.SOFT_REPAIRS.CNT : FRef := ⟨0x1B00510, 31, 0⟩
def F.FAULT_LEDGER.W (p : Nat) : FRef := ⟨0x1B10000 + 0x8 * p, 63, 0⟩

/-- Registers of block FAULT. -/
def regsFault : List RegDesc :=
  [
    -- FAULT_CLASS (R440)
    ⟨0x1B00000, 8, 0x8, 1, 0x0, 64, false,
      [⟨63, 63, .rw, 0⟩, ⟨62, 38, .rsv, 0⟩, ⟨37, 32, .rw, 0⟩, ⟨31, 16, .rsv, 0⟩, ⟨15, 0, .rw, 0⟩]⟩,
    -- FAULT_WEAR (R440)
    ⟨0x1B00100, 1, 0x0, 1, 0x0, 32, false,
      [⟨31, 16, .rw, 80⟩, ⟨15, 0, .rw, 50⟩]⟩,
    -- FAULT_SPARE (R440)
    ⟨0x1B00108, 1, 0x0, 1, 0x0, 32, false,
      [⟨31, 31, .ro, 0⟩, ⟨30, 22, .rsv, 0⟩, ⟨21, 20, .ro, 0⟩, ⟨19, 17, .ro, 0⟩, ⟨16, 15, .ro, 0⟩, ⟨14, 6, .ro, 0⟩, ⟨5, 0, .ro, 0⟩]⟩,
    -- FAULT_AVAIL (R440)
    ⟨0x1B00200, 1, 0x0, 1, 0x0, 64, false,
      [⟨63, 0, .rw, 0⟩]⟩,
    -- FAULT_INJECT (R440)
    ⟨0x1B00300, 1, 0x0, 1, 0x0, 64, false,
      [⟨63, 63, .w1s, 0⟩, ⟨62, 59, .rsv, 0⟩, ⟨58, 56, .rw, 0⟩, ⟨55, 16, .rsv, 0⟩, ⟨15, 0, .rw, 0⟩]⟩,
    -- FAULT_EVQ (R440)
    ⟨0x1B00400, 1, 0x0, 1, 0x0, 64, false,
      [⟨63, 63, .rc, 0⟩, ⟨62, 58, .ro, 0⟩, ⟨57, 50, .rc, 0⟩, ⟨49, 49, .ro, 0⟩, ⟨48, 19, .rsv, 0⟩, ⟨18, 16, .ro, 0⟩, ⟨15, 0, .ro, 0⟩]⟩,
    -- FAULT_STAT.TRANSIENT (R440)
    ⟨0x1B00500, 1, 0x0, 1, 0x0, 32, false,
      [⟨31, 0, .rc, 0⟩]⟩,
    -- FAULT_STAT.PERMANENT (R440)
    ⟨0x1B00504, 1, 0x0, 1, 0x0, 32, false,
      [⟨31, 0, .rc, 0⟩]⟩,
    -- FAULT_STAT.SWAPS (R440)
    ⟨0x1B00508, 1, 0x0, 1, 0x0, 32, false,
      [⟨31, 0, .rc, 0⟩]⟩,
    -- FAULT_STAT.UNSPARED (R440)
    ⟨0x1B0050C, 1, 0x0, 1, 0x0, 32, false,
      [⟨31, 0, .rc, 0⟩]⟩,
    -- FAULT_STAT.SOFT_REPAIRS (R440)
    ⟨0x1B00510, 1, 0x0, 1, 0x0, 32, false,
      [⟨31, 0, .rc, 0⟩]⟩,
    -- FAULT_LEDGER (R440)
    ⟨0x1B10000, 8192, 0x8, 1, 0x0, 64, false,
      [⟨63, 0, .ro, 0⟩]⟩]

/-! ### Block POWER -/

def F.POWER_DOM_CTRL.HW : FRef := ⟨0x1C00000, 62, 58⟩
def F.POWER_DOM_CTRL.ON : FRef := ⟨0x1C00000, 57, 0⟩
def F.POWER_DOM_STATUS.PENDING : FRef := ⟨0x1C00008, 63, 63⟩
def F.POWER_DOM_STATUS.ON : FRef := ⟨0x1C00008, 62, 0⟩
def F.POWER_DOM_ERR.VALID : FRef := ⟨0x1C00010, 31, 31⟩
def F.POWER_DOM_ERR.CAUSE : FRef := ⟨0x1C00010, 10, 8⟩
def F.POWER_DOM_ERR.DOMAIN : FRef := ⟨0x1C00010, 5, 0⟩
def F.POWER_CLK.CUR : FRef := ⟨0x1C00018, 31, 31⟩
def F.POWER_CLK.THROTTLE : FRef := ⟨0x1C00018, 30, 30⟩
def F.POWER_CLK.REDUCED : FRef := ⟨0x1C00018, 0, 0⟩
def F.POWER_THERM_CFG.TRIP_T : FRef := ⟨0x1C00020, 31, 24⟩
def F.POWER_THERM_CFG.THROTTLE_T : FRef := ⟨0x1C00020, 15, 8⟩
def F.POWER_THERM_CFG.RELEASE_T : FRef := ⟨0x1C00020, 7, 0⟩
def F.POWER_TEMP_MAX.SENSOR : FRef := ⟨0x1C00024, 25, 20⟩
def F.POWER_TEMP_MAX.TEMP : FRef := ⟨0x1C00024, 10, 0⟩
def F.POWER_PKG.WATTS : FRef := ⟨0x1C00028, 12, 0⟩
def F.POWER_STRAP.TEST_EN : FRef := ⟨0x1C00030, 6, 6⟩
def F.POWER_STRAP.SMB_ADDR : FRef := ⟨0x1C00030, 5, 4⟩
def F.POWER_STRAP.FORCE_GOLDEN_N : FRef := ⟨0x1C00030, 3, 3⟩
def F.POWER_STRAP.COMPAT_MODE : FRef := ⟨0x1C00030, 2, 2⟩
def F.POWER_STRAP.HOST_BIFUR : FRef := ⟨0x1C00030, 1, 1⟩
def F.POWER_STRAP.RESET_SCOPE : FRef := ⟨0x1C00030, 0, 0⟩
def F.POWER_RESET_CAUSE.TRIP : FRef := ⟨0x1C00034, 31, 31⟩
def F.POWER_RESET_CAUSE.CLOCK : FRef := ⟨0x1C00034, 30, 30⟩
def F.POWER_RESET_CAUSE.BROWNOUT : FRef := ⟨0x1C00034, 29, 29⟩
def F.POWER_RESET_CAUSE.RAIL : FRef := ⟨0x1C00034, 2, 0⟩
def F.POWER_RAIL.MV (n : Nat) : FRef := ⟨0x1C00040 + 0x4 * n, 11, 0⟩
def F.POWER_TEMP.PEAK (s : Nat) : FRef := ⟨0x1C00100 + 0x4 * s, 26, 16⟩
def F.POWER_TEMP.TEMP (s : Nat) : FRef := ⟨0x1C00100 + 0x4 * s, 10, 0⟩
def F.POWER_STAT.THROTTLES.CNT : FRef := ⟨0x1C00200, 31, 0⟩
def F.POWER_STAT.THROTTLED.CNT : FRef := ⟨0x1C00204, 31, 0⟩
def F.POWER_STAT.DOM_SWITCHES.CNT : FRef := ⟨0x1C00208, 31, 0⟩

/-- Registers of block POWER, part 0. -/
def regsPower0 : List RegDesc :=
  [
    -- POWER_DOM_CTRL (R457)
    ⟨0x1C00000, 1, 0x0, 1, 0x0, 64, false,
      [⟨63, 63, .rsv, 0⟩, ⟨62, 58, .ro, 0⟩, ⟨57, 0, .rw, 288230376151711743⟩]⟩,
    -- POWER_DOM_STATUS (R457)
    ⟨0x1C00008, 1, 0x0, 1, 0x0, 64, false,
      [⟨63, 63, .ro, 0⟩, ⟨62, 0, .ro, 288230376151711743⟩]⟩,
    -- POWER_DOM_ERR (R457)
    ⟨0x1C00010, 1, 0x0, 1, 0x0, 32, false,
      [⟨31, 31, .w1c, 0⟩, ⟨30, 11, .rsv, 0⟩, ⟨10, 8, .ro, 0⟩, ⟨7, 6, .rsv, 0⟩, ⟨5, 0, .ro, 0⟩]⟩,
    -- POWER_CLK (R457)
    ⟨0x1C00018, 1, 0x0, 1, 0x0, 32, false,
      [⟨31, 31, .ro, 0⟩, ⟨30, 30, .ro, 0⟩, ⟨29, 1, .rsv, 0⟩, ⟨0, 0, .rw, 0⟩]⟩,
    -- POWER_THERM_CFG (R457)
    ⟨0x1C00020, 1, 0x0, 1, 0x0, 32, false,
      [⟨31, 24, .ro, 115⟩, ⟨23, 16, .rsv, 0⟩, ⟨15, 8, .rw, 100⟩, ⟨7, 0, .rw, 95⟩]⟩,
    -- POWER_TEMP_MAX (R457)
    ⟨0x1C00024, 1, 0x0, 1, 0x0, 32, false,
      [⟨31, 26, .rsv, 0⟩, ⟨25, 20, .ro, 0⟩, ⟨19, 11, .rsv, 0⟩, ⟨10, 0, .ro, 0⟩]⟩,
    -- POWER_PKG (R457)
    ⟨0x1C00028, 1, 0x0, 1, 0x0, 32, false,
      [⟨31, 13, .rsv, 0⟩, ⟨12, 0, .ro, 0⟩]⟩,
    -- POWER_STRAP (R457)
    ⟨0x1C00030, 1, 0x0, 1, 0x0, 32, false,
      [⟨31, 7, .rsv, 0⟩, ⟨6, 6, .ro, 0⟩, ⟨5, 4, .ro, 0⟩, ⟨3, 3, .ro, 0⟩, ⟨2, 2, .ro, 0⟩, ⟨1, 1, .ro, 0⟩, ⟨0, 0, .ro, 0⟩]⟩,
    -- POWER_RESET_CAUSE (R457)
    ⟨0x1C00034, 1, 0x0, 1, 0x0, 32, false,
      [⟨31, 31, .w1c, 0⟩, ⟨30, 30, .w1c, 0⟩, ⟨29, 29, .w1c, 0⟩, ⟨28, 3, .rsv, 0⟩, ⟨2, 0, .ro, 0⟩]⟩,
    -- POWER_RAIL (R457)
    ⟨0x1C00040, 6, 0x4, 1, 0x0, 32, false,
      [⟨31, 12, .rsv, 0⟩, ⟨11, 0, .ro, 0⟩]⟩,
    -- POWER_TEMP (R457)
    ⟨0x1C00100, 64, 0x4, 1, 0x0, 32, false,
      [⟨31, 27, .rsv, 0⟩, ⟨26, 16, .rc, 0⟩, ⟨15, 11, .rsv, 0⟩, ⟨10, 0, .ro, 0⟩]⟩,
    -- POWER_STAT.THROTTLES (R457)
    ⟨0x1C00200, 1, 0x0, 1, 0x0, 32, false,
      [⟨31, 0, .rc, 0⟩]⟩]

/-- Registers of block POWER, part 1. -/
def regsPower1 : List RegDesc :=
  [
    -- POWER_STAT.THROTTLED (R457)
    ⟨0x1C00204, 1, 0x0, 1, 0x0, 32, false,
      [⟨31, 0, .rc, 0⟩]⟩,
    -- POWER_STAT.DOM_SWITCHES (R457)
    ⟨0x1C00208, 1, 0x0, 1, 0x0, 32, false,
      [⟨31, 0, .rc, 0⟩]⟩]

def regsPower : List RegDesc := regsPower0 ++ regsPower1

/-! ### Block COBBLER -/

def F.COBBLER_MBOX_CMD.GO : FRef := ⟨0x1E00000, 63, 63⟩
def F.COBBLER_MBOX_CMD.BUSY : FRef := ⟨0x1E00000, 62, 62⟩
def F.COBBLER_MBOX_CMD.OP : FRef := ⟨0x1E00000, 7, 0⟩
def F.COBBLER_MBOX_STATUS.DONE : FRef := ⟨0x1E00008, 31, 31⟩
def F.COBBLER_MBOX_STATUS.RSP_LEN : FRef := ⟨0x1E00008, 28, 16⟩
def F.COBBLER_MBOX_STATUS.DETAIL : FRef := ⟨0x1E00008, 15, 8⟩
def F.COBBLER_MBOX_STATUS.STATUS : FRef := ⟨0x1E00008, 7, 0⟩
def F.COBBLER_BOOT_STATUS.GATE_OPEN : FRef := ⟨0x1E00010, 63, 63⟩
def F.COBBLER_BOOT_STATUS.DEBUG_OPENED : FRef := ⟨0x1E00010, 62, 62⟩
def F.COBBLER_BOOT_STATUS.RECOVERY : FRef := ⟨0x1E00010, 61, 61⟩
def F.COBBLER_BOOT_STATUS.JOURNAL_LOST : FRef := ⟨0x1E00010, 60, 60⟩
def F.COBBLER_BOOT_STATUS.SLOT : FRef := ⟨0x1E00010, 59, 58⟩
def F.COBBLER_BOOT_STATUS.FAIL_SLOT : FRef := ⟨0x1E00010, 57, 56⟩
def F.COBBLER_BOOT_STATUS.TRIES : FRef := ⟨0x1E00010, 51, 48⟩
def F.COBBLER_BOOT_STATUS.FAIL_CAUSE : FRef := ⟨0x1E00010, 47, 40⟩
def F.COBBLER_BOOT_STATUS.SVN : FRef := ⟨0x1E00010, 31, 0⟩
def F.COBBLER_GATE_TIME.US : FRef := ⟨0x1E00018, 31, 0⟩
def F.COBBLER_SVN.MIN_SVN : FRef := ⟨0x1E00020, 63, 32⟩
def F.COBBLER_SVN.FLOOR : FRef := ⟨0x1E00020, 31, 0⟩
def F.COBBLER_SEQ.SEQ_B : FRef := ⟨0x1E00028, 63, 32⟩
def F.COBBLER_SEQ.SEQ_A : FRef := ⟨0x1E00028, 31, 0⟩
def F.COBBLER_EVQ.VALID : FRef := ⟨0x1E00100, 63, 63⟩
def F.COBBLER_EVQ.KIND : FRef := ⟨0x1E00100, 62, 59⟩
def F.COBBLER_EVQ.DROPPED : FRef := ⟨0x1E00100, 58, 51⟩
def F.COBBLER_EVQ.MULE : FRef := ⟨0x1E00100, 47, 42⟩
def F.COBBLER_EVQ.SPINDLE : FRef := ⟨0x1E00100, 41, 38⟩
def F.COBBLER_EVQ.VALUE : FRef := ⟨0x1E00100, 31, 0⟩
def F.COBBLER_STAT.LOCKSTEP.CNT : FRef := ⟨0x1E00200, 31, 0⟩
def F.COBBLER_STAT.MCTP_DISCARD.CNT : FRef := ⟨0x1E00204, 31, 0⟩
def F.COBBLER_STAT.JOURNAL_WRITES.CNT : FRef := ⟨0x1E00208, 31, 0⟩
def F.COBBLER_STAT.DEBUG_FAIL.CNT : FRef := ⟨0x1E0020C, 31, 0⟩
def F.COBBLER_MBOX_ARG.W (i : Nat) : FRef := ⟨0x1E01000 + 0x4 * i, 31, 0⟩
def F.COBBLER_MBOX_DATA.W (i : Nat) : FRef := ⟨0x1E02000 + 0x4 * i, 31, 0⟩
def F.COBBLER_MBOX_RSP.W (i : Nat) : FRef := ⟨0x1E04000 + 0x4 * i, 31, 0⟩

/-- Registers of block COBBLER, part 0. -/
def regsCobbler0 : List RegDesc :=
  [
    -- COBBLER_MBOX_CMD (R416)
    ⟨0x1E00000, 1, 0x0, 1, 0x0, 64, false,
      [⟨63, 63, .w1s, 0⟩, ⟨62, 62, .ro, 0⟩, ⟨61, 8, .rsv, 0⟩, ⟨7, 0, .rw, 0⟩]⟩,
    -- COBBLER_MBOX_STATUS (R416)
    ⟨0x1E00008, 1, 0x0, 1, 0x0, 32, false,
      [⟨31, 31, .w1c, 0⟩, ⟨30, 29, .rsv, 0⟩, ⟨28, 16, .ro, 0⟩, ⟨15, 8, .ro, 0⟩, ⟨7, 0, .ro, 0⟩]⟩,
    -- COBBLER_BOOT_STATUS (R416)
    ⟨0x1E00010, 1, 0x0, 1, 0x0, 64, false,
      [⟨63, 63, .ro, 0⟩, ⟨62, 62, .ro, 0⟩, ⟨61, 61, .ro, 0⟩, ⟨60, 60, .ro, 0⟩, ⟨59, 58, .ro, 0⟩, ⟨57, 56, .ro, 0⟩, ⟨55, 52, .rsv, 0⟩, ⟨51, 48, .ro, 0⟩, ⟨47, 40, .ro, 0⟩, ⟨39, 32, .rsv, 0⟩, ⟨31, 0, .ro, 0⟩]⟩,
    -- COBBLER_GATE_TIME (R416)
    ⟨0x1E00018, 1, 0x0, 1, 0x0, 32, false,
      [⟨31, 0, .ro, 0⟩]⟩,
    -- COBBLER_SVN (R416)
    ⟨0x1E00020, 1, 0x0, 1, 0x0, 64, false,
      [⟨63, 32, .ro, 0⟩, ⟨31, 0, .ro, 0⟩]⟩,
    -- COBBLER_SEQ (R416)
    ⟨0x1E00028, 1, 0x0, 1, 0x0, 64, false,
      [⟨63, 32, .ro, 0⟩, ⟨31, 0, .ro, 0⟩]⟩,
    -- COBBLER_EVQ (R416)
    ⟨0x1E00100, 1, 0x0, 1, 0x0, 64, false,
      [⟨63, 63, .rc, 0⟩, ⟨62, 59, .ro, 0⟩, ⟨58, 51, .rc, 0⟩, ⟨50, 48, .rsv, 0⟩, ⟨47, 42, .ro, 0⟩, ⟨41, 38, .ro, 0⟩, ⟨37, 32, .rsv, 0⟩, ⟨31, 0, .ro, 0⟩]⟩,
    -- COBBLER_STAT.LOCKSTEP (R416)
    ⟨0x1E00200, 1, 0x0, 1, 0x0, 32, false,
      [⟨31, 0, .rc, 0⟩]⟩,
    -- COBBLER_STAT.MCTP_DISCARD (R416)
    ⟨0x1E00204, 1, 0x0, 1, 0x0, 32, false,
      [⟨31, 0, .rc, 0⟩]⟩,
    -- COBBLER_STAT.JOURNAL_WRITES (R416)
    ⟨0x1E00208, 1, 0x0, 1, 0x0, 32, false,
      [⟨31, 0, .rc, 0⟩]⟩,
    -- COBBLER_STAT.DEBUG_FAIL (R416)
    ⟨0x1E0020C, 1, 0x0, 1, 0x0, 32, false,
      [⟨31, 0, .rc, 0⟩]⟩,
    -- COBBLER_MBOX_ARG (R416)
    ⟨0x1E01000, 16, 0x4, 1, 0x0, 32, false,
      [⟨31, 0, .rw, 0⟩]⟩]

/-- Registers of block COBBLER, part 1. -/
def regsCobbler1 : List RegDesc :=
  [
    -- COBBLER_MBOX_DATA (R416)
    ⟨0x1E02000, 2048, 0x4, 1, 0x0, 32, false,
      [⟨31, 0, .rw, 0⟩]⟩,
    -- COBBLER_MBOX_RSP (R416)
    ⟨0x1E04000, 1024, 0x4, 1, 0x0, 32, false,
      [⟨31, 0, .ro, 0⟩]⟩]

def regsCobbler : List RegDesc := regsCobbler0 ++ regsCobbler1

/-- The registers of the block an offset lies in (Table 0.7, R10); none outside the assigned blocks. -/
def regsAt (a : Nat) : List RegDesc :=
  if 0x0 ≤ a ∧ a < 0x100000 then regsGlobal else
  if 0x100000 ≤ a ∧ a < 0x200000 then regsStitch else
  if 0x200000 ≤ a ∧ a < 0x500000 then regsMule else
  if 0x600000 ≤ a ∧ a < 0x800000 then regsCard else
  if 0x800000 ≤ a ∧ a < 0xA00000 then regsLast else
  if 0xA00000 ≤ a ∧ a < 0xB00000 then regsEdit else
  if 0xB00000 ≤ a ∧ a < 0xC00000 then regsEgress else
  if 0xC00000 ≤ a ∧ a < 0xD00000 then regsEth else
  if 0xD00000 ≤ a ∧ a < 0xE00000 then regsPtp else
  if 0x1000000 ≤ a ∧ a < 0x1200000 then regsCipher else
  if 0x1200000 ≤ a ∧ a < 0x1400000 then regsQueue else
  if 0x1400000 ≤ a ∧ a < 0x1500000 then regsBobbin else
  if 0x1500000 ≤ a ∧ a < 0x1600000 then regsWelt else
  if 0x1600000 ≤ a ∧ a < 0x1700000 then regsHostlink else
  if 0x1700000 ≤ a ∧ a < 0x1800000 then regsEyelet else
  if 0x1800000 ≤ a ∧ a < 0x1920000 then regsMem else
  if 0x1A00000 ≤ a ∧ a < 0x1B00000 then regsSeam else
  if 0x1B00000 ≤ a ∧ a < 0x1C00000 then regsFault else
  if 0x1C00000 ≤ a ∧ a < 0x1E00000 then regsPower else
  if 0x1E00000 ≤ a ∧ a < 0x2000000 then regsCobbler else
  []

end Sys2Proof.Machine
end

