-- ==== Sys2Proof/Machine/RegReset.lean ====
section
/-! DEFINITION. What each register word holds at reset: the value of its descriptor, and the values that the register
tables give per index (EGRESS_NODE, HOSTLINK_FUNC, BOBBIN_SKEIN_ADDR, FAULT_CLASS of Table 13.2) or for an absent repair
record, or for straps left open (POWER_STRAP, MULE_POS, MULE_ROLE, CARD_LANE, CIPHER_ENGPOS, MEM_CH_STATUS, FAULT_SPARE). -/

namespace Sys2Proof.Machine

/-- Table 13.2: threshold N and window logarithm of a fault class. -/
def faultClassReset (k : Nat) : Nat × Nat :=
  match k with
  | 0 => (3, 20) | 1 => (4, 20) | 2 => (4, 20) | 3 => (256, 20)
  | 4 => (1024, 20) | 5 => (4096, 30) | 6 => (2, 30) | _ => (3, 30)

/-- The logical channel of a channel index with no repair record: A0 to A7 are 0 to 7, B0 to B7 are 8 to 15, and the
spares A8 and B8 serve none (MEM_CH_STATUS.LOGICAL reads 0x1F). -/
def logicalAtReset (i : Nat) : Nat :=
  if i < 8 then i else if i = 8 ∨ i = 17 then 0x1F else i - 1

/-- The registers whose reset value depends on their index. -/
def resetSpecial (a : Nat) : Option Nat :=
  if 0x200000 ≤ a ∧ a < 0x500000 then
    let o := a % 0x10000
    if 0x40 ≤ o ∧ o < 0x84 then
      let p := (o - 0x40) / 4
      some (if p = 16 then 1 <<< 30 else p <<< 16)
    else if 0x100 ≤ o ∧ o < 0x140 then some (4 <<< 24 ||| 4 <<< 16 ||| (o - 0x100) / 4)
    else none
  else if a = 0x600050 ∨ a = 0x600064 then some (1 <<< 30)
  else if 0xB10000 ≤ a ∧ a < 0xB10100 ∧ a % 16 = 0 then
    some (1 <<< 31 ||| 3 <<< 29 ||| ((a - 0xB10000) / 16) <<< 24 ||| 1)
  else if 0x1001000 ≤ a ∧ a < 0x1001880 then
    if 128 ≤ ((a - 0x1001000) / 4) % 136 then some (1 <<< 30) else none
  else if a = 0x1400210 then some 0x00F000000000
  else if a = 0x1400218 then some 0x00F004000000
  else if 0x1610000 ≤ a ∧ a < 0x1610020 then some (1 <<< 62 ||| 2048 <<< 16)
  else if 0x1800000 ≤ a ∧ a < 0x1920000 ∧ a % 0x10000 = 4 then
    let i := (a - 0x1800000) / 0x10000
    some ((if i = 8 ∨ i = 17 then 1 <<< 29 else 0) ||| logicalAtReset i <<< 24)
  else if 0x1B00000 ≤ a ∧ a < 0x1B00040 ∧ a % 8 = 0 then
    let (n, w) := faultClassReset ((a - 0x1B00000) / 8)
    some (w <<< 32 ||| n)
  else if a = 0x1C00030 then some 8
  else if a = 0x1B00108 then some (2 <<< 20 ||| 4 <<< 17 ||| 2 <<< 15 ||| 32 <<< 6 ||| 48)
  else if 0x1610020 ≤ a ∧ a < 0x1618020 ∧ a % 8 = 0 then some (8 <<< 16)
  else none

/-- What the register word at an offset holds at reset. -/
def resetVal (a : Nat) : W64 :=
  match resetSpecial a with
  | some v => BitVec.ofNat 64 v
  | none => match findReg (regsAt a) a with
    | some (d, _) => BitVec.ofNat 64 d.reset
    | none => 0#64

end Sys2Proof.Machine
end

