-- ==== Sys2Proof/Machine/State.lean ====
section
/-! DEFINITION. The state of the block as plain data, the reasons a step may stop, and the state after reset. Every bit
that a CSR shows has its home in the register file `csr`; the structures below hold what no CSR shows. -/

namespace Sys2Proof.Machine

open Sys2Proof

/-- Why a step may stop with a fault. No meaning of this model raises one: the spec gives every command an effect. -/
inductive Fault where
  /-- Raised by nothing: kept so that the type is not empty. Safe. -/
  | unreachable
  deriving DecidableEq, Repr

/-- Why a command may be refused. -/
inductive Refusal where
  /-- A command whose meaning this model does not hold yet, by its mnemonic. Safe: the machine stops. -/
  | notModelled (mnemonic : String)
  deriving DecidableEq, Repr

/-! ### Time (R20, R50) -/

/-- The clocks of the part. -/
structure Clk where
  /-- Core cycles since the last POWER reset; each spindle's rotation counter (R50). -/
  cycles : Nat
  /-- Time in units of 125 ps since the model's first state: a core cycle is 4 of them at 2.000 GHz and 5 at 1.600 GHz. -/
  time : Nat
  deriving DecidableEq, Repr

/-! ### The stitch and the lacing (chapter 01) -/

/-- A pending lacing commit (R42 to R44): the classes and map it names, and the cycle of the write. -/
structure LaceCommit where
  classes : Nat
  tgmap : Bool
  cycle : Nat
  deriving DecidableEq, Repr

/-- The shadow and active table of one resource class (R28, R42); an unlisted entry is its POWER value (R34). -/
structure LaceTab where
  shadow : AMap W16
  active : AMap W16
  deriving DecidableEq, Repr

/-- What a unit instance chose at a service-unit boundary (R39). -/
inductive Choice where
  | owner (g : Nat) | share (g : Nat) | free (g : Nat) | background | idle
  deriving DecidableEq, Repr

/-- One unit instance of one class (R28, R29, R39, R40). -/
structure UnitInst where
  /-- Last group the share rotation served. -/
  sharePtr : Nat
  /-- Last group the free rotation served. -/
  freePtr : Nat
  /-- Group held at step 2 for the rest of the turn. -/
  heldShare : Option Nat
  /-- Group held at step 3 for the rest of the turn. -/
  heldFree : Option Nat
  /-- The first choice of the present turn has been made (R458). -/
  firstMade : Bool
  /-- Dispatches started in the present turn (R29). -/
  starts : Nat
  /-- Dispatches started in one core cycle, with that cycle: its ports in use (R29). -/
  ports : Nat × Nat
  /-- The choice standing at this instance: the service unit it now serves. -/
  chosen : Option Choice
  deriving DecidableEq, Repr

/-- R23: Half B's stitch generator running freely: the cycle it began at, the stitch number and the cycle within the stitch it
went on from, the stitch length it keeps, and the last of its turns to have begun, counted from stitch 0. -/
structure FreeStitch where
  since : Nat
  count : Nat
  phase : Nat
  len : Nat
  turn : Nat
  deriving DecidableEq, Repr

structure Lace where
  /-- Tables of class 0 to 5. -/
  tabs : AMap LaceTab
  /-- Shadow and active tenant map (R33); an unlisted tenant maps to group 0. -/
  tgShadow : AMap W16
  tgActive : AMap W16
  /-- Cycle of the pending STITCH_LEN request (R24). -/
  lenReqAt : Option Nat
  commit : Option LaceCommit
  /-- The last event since the last commit write was its swap (R44). -/
  swapDone : Bool
  /-- Unit instances, by 4096 × class + instance. -/
  units : AMap UnitInst
  /-- Adjustment of turn 63 of the present stitch, in cycles (R47). -/
  adj : Int
  /-- Consecutive boundaries inside LOCK_WIN (R48). -/
  lockRun : Nat
  /-- Cycle at which the present lacing period began (R21). -/
  periodAt : Nat
  /-- Half B's own stitch while the seam is down (R23). -/
  bFree : Option FreeStitch
  /-- Service units that a group has had beyond its choices and still owes a unit instance, by 1024 × (4096 × class + instance) +
  group (R229). -/
  owed : AMap Nat
  deriving DecidableEq, Repr

/-! ### Yarns (R66 to R76) -/

/-- The three kinds of a message header (Table 2.4). -/
inductive MsgKind where
  | small | bulk | poisoned
  deriving DecidableEq, Repr

/-- A yarn message: the header fields of Table 2.4 and the payload words. -/
structure Msg where
  /-- The model's own number of the message. -/
  id : Nat
  epoch : Nat
  lenm1 : Nat
  kind : MsgKind
  tag : Nat
  src : Nat
  dst : Nat
  words : List W64
  /-- False while the message is an open reservation (R73). -/
  committed : Bool
  deriving DecidableEq, Repr

/-- The yarn-class operations (R104). -/
inductive YarnOp where
  | send | reserve | commit | csub | qpost | fcwb
  deriving DecidableEq, Repr

/-- A yarn-class operation or a unit's message under way: issued and not yet returned (R104, R76). -/
structure Flight where
  op : YarnOp
  /-- The issuing thread; none for a message of a fixed unit. -/
  owner : Option Nat
  /-- The thread's dispatch number at issue: statuses of an earlier one are discarded (R117). -/
  gen : Nat
  rd : Nat
  blocking : Bool
  /-- Scratch accesses of the thread that must be performed first (R61). -/
  after : Option Nat
  msg : Msg
  /-- The status the destination has answered (Table 3.10). -/
  status : Option Nat
  /-- The message is a unit's reply to an operation the destination's spindle issued (R71). -/
  reply : Bool
  /-- Of a QPOST: the work queue, and the cycle of its issue (R221). -/
  post : Option (Nat × Nat)
  deriving DecidableEq, Repr

structure Yarn where
  /-- Messages queued at each endpoint, head first: the channels of the threads and the inbound queues of the fixed units
  (R66). -/
  queues : AMap (List Msg)
  /-- The channel layout in force, by 32 × spindle + channel index: SIZE, and EXT as 16; unlisted reads as the reset layout
  (R64). -/
  layout : AMap Nat
  flights : List Flight
  nextId : Nat
  /-- Poisoned messages that each fixed unit has discarded, by its endpoint (R75). -/
  discarded : AMap Nat
  /-- The cycle after the one in which a bobbin store last took a message, by its endpoint (R263). -/
  served : AMap Nat
  deriving DecidableEq, Repr

/-! ### Threads and spindles (chapters 02 and 03) -/

/-- A read leg of a unit: a host request, a device memory access, a request on an Eyelet link, or one that failed with a
status. -/
inductive Leg where
  | host (id : Nat)
  | mem (id addr len : Nat)
  | eye (id : Nat)
  | failed (status : Nat)
  deriving DecidableEq, Repr

/-- A DEVLD whose data has not arrived (R110): its destination, bytes, sign extension and read. -/
structure DevLoad where
  rd : Nat
  n : Nat
  sx : Bool
  leg : Leg
  deriving DecidableEq, Repr

/-- A level of the loop stack (R97). -/
structure Level where
  start : Nat
  stop : Nat
  remaining : Nat
  deriving DecidableEq, Repr

/-- The notice record (R72). -/
structure Notice where
  status : Nat
  dst : Nat
  tag : Nat
  epoch : Nat
  count : Nat
  deriving DecidableEq, Repr

/-- A thread's bulk reservation (R73, R74). -/
inductive Resv where
  | none
  /-- The YRES of message `id` has been issued and its status has not returned. -/
  | asked (id : Nat)
  /-- Its thread was stopped meanwhile: a grant is closed poisoned when it comes. -/
  | stopped (id : Nat)
  /-- Message `id` stands open at the destination since cycle `since`. -/
  | opened (id dst : Nat) (since : Nat)
  | poisoned
  deriving DecidableEq, Repr

/-- A lookup outstanding on a ticket (R101, R102). -/
structure Ticket where
  /-- The lookup selected by tid, and the LAST_PROFILE word captured at issue (R146). -/
  profile : Nat
  word : Nat
  key : Bytes
  /-- Cycle of the deadline slot. -/
  deadline : Nat
  /-- Status of Table 3.6 once the result has arrived. -/
  arrived : Option Nat
  deriving DecidableEq, Repr

/-- The unit of work a bounded thread holds (R55, R113): its source, what it names, and its entry. -/
structure Work where
  source : Nat
  /-- The model's number of the packet, command or item. -/
  ref : Nat
  handle : Nat
  entry : Nat
  deriving DecidableEq, Repr

structure Thread where
  regs : AMap W64
  /-- Registers whose result is still pending (R51, R52). -/
  pend : List Nat
  pc : Nat
  /-- Instruction-store bank fetched from (R58). -/
  bank : Nat
  /-- Innermost level first (R97). -/
  loops : List Level
  /-- Eight staging words (R69). -/
  staging : AMap W64
  notice : Option Notice
  resv : Resv
  /-- Latched event bits but STITCH (Table 2.6). -/
  events : W32
  /-- STITCH_COUNT when a STITCH event was last taken: a later stitch leaves the bit pending. -/
  stitchSeen : Nat
  /-- Mask and destination register of the WAIT the thread is in (R78). -/
  waitMask : W32
  waitRd : Nat
  /-- Lowest and highest byte of the dirty range (R99). -/
  dirty : Option (Nat × Nat)
  tickets : AMap Ticket
  /-- Destination register and ticket of a stalled LKW (R102). -/
  lkwStall : Option (Nat × Nat)
  /-- Tickets of the lookups whose LKW returned LATE before their results arrived, oldest first (R102). -/
  late : List Nat
  /-- The message whose acceptance or refusal the thread waits for in YWAIT (R69). -/
  ywait : Option Nat
  work : Option Work
  /-- Slots counted since slot 1, stall slots included (R87, R126). -/
  slots : Nat
  /-- Budget B taken at dispatch (R88). -/
  budget : Nat
  /-- Dispatch number. -/
  gen : Nat
  /-- Cycle at which the retire slots after DONE have passed (R117). -/
  retireAt : Option Nat
  /-- The scratch operation outstanding (R100). -/
  scratchOp : Option Nat
  /-- The DEVLD outstanding (R110). -/
  devld : Option DevLoad
  /-- The thread is not ready before this cycle (R105). -/
  readyAt : Nat
  /-- Requested halt: hard or not, and its cycle (R83). -/
  haltReq : Option (Bool × Nat)
  /-- State left by a halt (R83). -/
  haltFrom : Nat
  /-- A long-work restart that waits for YCOMMIT, with its cycle and reason (R58). -/
  restartReq : Option (Nat × Nat)
  /-- A restart that falls due when the thread is resumed (R58). -/
  restartDue : Bool
  /-- STEP of the debugger lets the halted thread issue one instruction (R83). -/
  stepDue : Bool
  /-- The Eyelet port whose class 5 turn a DEVLD or DEVST of the thread waits for (R343). -/
  portWait : Option Nat
  deriving DecidableEq, Repr

/-- A scratch access waiting for its bank (R60). -/
structure ScratchReq where
  id : Nat
  thread : Nat
  mule : Nat
  /-- Order of service: issue cycle, then rotated spindle number. -/
  cycle : Nat
  rank : Nat
  addr : Nat
  bytes : Nat
  /-- Destination register; none for a store. -/
  rd : Option Nat
  sx : Bool
  /-- The atomic performed; none for a load or store. -/
  op : Option AtomOp
  operand : W64
  compare : W64
  deriving DecidableEq, Repr

/-- An image held in an instruction-store bank (R57, R122). -/
structure Image where
  words : AMap W32
  count : Nat
  t0 : Option Nat
  long : Option Nat
  /-- Entry PC of each bounded index. -/
  bounded : AMap Nat
  /-- Largest WCET of its bounded entries (R125). -/
  maxWcet : Nat
  deriving DecidableEq, Repr

/-- What one logical spindle holds beyond its registers and threads. -/
structure Spindle where
  bank0 : Option Image
  bank1 : Option Image
  /-- Stitch in which a role change was requested, and that in which threads were last forced to stop (R64). -/
  roleAt : Option Nat
  roleForced : Option Nat
  /-- Stitch in which a role change was refused: dispatch and the stopped threads resume at the next boundary (R64). -/
  roleBack : Option Nat
  /-- Threads that step 2 of a role change stopped (R64). -/
  roleStopped : List Nat
  /-- Cycle at which the all-wait condition began (R79). -/
  allWaitAt : Option Nat
  /-- Cycle at which the escalation window opened (R80). -/
  windowAt : Option Nat
  /-- T0 has faulted and not been resumed: no dispatch (R82). -/
  t0Fault : Bool
  /-- Core cycle of the last issue, plus one (R50). -/
  issued : Nat
  deriving DecidableEq, Repr

structure Mules where
  threads : AMap Thread
  spindles : AMap Spindle
  scratchQ : List ScratchReq
  nextScratch : Nat
  /-- Bank swap pending per mule: its cycle (R59). -/
  swapAt : AMap Nat
  /-- Image load running per mule: 65536 × its cycle + the spindles it names (R84). -/
  loadAt : AMap Nat
  deriving DecidableEq, Repr

/-! ### The bobbin store (chapter 07) -/

/-- A bobbin descriptor (Table 7.2). -/
structure Bobbin where
  next : Nat
  refcnt : Nat
  len : Nat
  cls : Nat
  tenant : Nat
  owner : Nat
  alloc : Bool
  track : Bool
  off : Nat
  /-- Out of the free list: allocated and not freed. -/
  held : Bool
  deriving DecidableEq, Repr

/-- What a pool keeps beyond BOBBIN_POOL: bobbins retired, bobbins that a second FREE put on the free list again (R259),
and the sum over tenants of MIN - IN_USE where positive (R251). -/
structure Pool where
  retired : List Nat
  dups : List Nat
  reserve : Nat
  /-- Handles freed in the cycle `freshAt`, the number at the end of `dups` freed again in it, and the rise of `reserve` in it: an
  allocation sees them from the next cycle on (R263). -/
  fresh : List Nat
  freshDups : Nat
  freshReserve : Nat
  freshAt : Nat
  deriving DecidableEq, Repr

structure BobStore where
  /-- Descriptors, by handle. -/
  descs : AMap Bobbin
  /-- Pools, by 8 × half + class. -/
  pools : AMap Pool
  /-- Watermarks in force, by 32768 × half + 8 × tenant + class: WARN 1, SLOW 2, STOP 4 (R254). -/
  marks : AMap Nat
  /-- Bobbins in use whose data an uncorrectable error has struck (R264). -/
  bad : List Nat
  deriving DecidableEq, Repr

/-! ### LPDDR6 (chapter 11) -/

/-- One bank of one sub-channel (R362 to R369). -/
structure Bank where
  openRow : Option Nat
  /-- The last row a burst named, and the predictor's counter (R363). -/
  last : Option Nat
  pred : Nat
  /-- The bank takes no burst before this time. -/
  busyUntil : Nat
  /-- Per-bank refreshes owed up to `refAt` (R366). -/
  owed : Nat
  refAt : Nat
  /-- The activation-count table: row and count, lowest-numbered entry first (R368). -/
  acts : List (Nat × Nat)
  /-- Victim rows queued, each with its aggressor (R369). -/
  victims : List (Nat × Nat)
  deriving DecidableEq, Repr

/-- One BL24 burst waiting for its data bus (R362): its request, lacing group, physical channel, sub-channel, bank, row and
column unit, and the bytes it stores. -/
structure Burst where
  id : Nat
  group : Nat
  chan : Nat
  sub : Nat
  bank : Nat
  row : Nat
  col : Nat
  /-- The burst is one of a Mirrored access: its partner channel. -/
  partner : Option Nat
  store : Option (Nat × Bytes)
  deriving DecidableEq, Repr

structure Dram where
  /-- Banks, by 32 × (2 × channel + sub-channel) + 16 × rank + bank. -/
  banks : AMap Bank
  bursts : List Burst
  nextReq : Nat
  /-- MEM_CMD as it stood when GO issued its command. -/
  goWord : Nat
  /-- The last 64 commands of each channel, in the form of Table 11.5, oldest first. -/
  cmds : AMap (List Bytes)
  /-- Read-eye centre codes, by 32 × channel + DQ (R371). -/
  eyes : AMap Nat
  /-- Maintenance commands issued in a turn, by 2 × channel + sub-channel: the turn's number and their count (R364). -/
  maint : AMap (Nat × Nat)
  /-- Units read in the present patrol pass, and the time it began, by channel (R370). -/
  patrol : AMap Nat
  patrolFrom : AMap Nat
  /-- Patrol reads and write-backs in a turn, by 2 × channel + sub-channel: the turn's number and their count (R370). -/
  scrub : AMap (Nat × Nat)
  /-- Units corrected and not yet written back: channel, sub-channel, bank, row, column. -/
  writebacks : List (List Nat)
  /-- Resync bitmap: 2^24 × channel + 64 KiB block (R375). -/
  resync : List Nat
  /-- Channels under freeze test, with the time of the freeze (R372). -/
  testing : AMap Nat
  /-- Spares in training, by half: the logical channel and the time (R377). -/
  spareFor : AMap (Nat × Nat)
  /-- Spares whose share is still being copied. -/
  copying : List Nat
  /-- Time at which training ended (R371). -/
  trained : Option Nat
  /-- Start of the present refresh window, by channel (R368). -/
  windowAt : AMap Nat
  deriving DecidableEq, Repr

/-! ### The packet path (chapter 04) -/

/-- What a parse leaves (R140 to R145). -/
structure Parse where
  decision : Nat
  rejected : Bool
  trunc : Bool
  long : Bool
  state : Nat
  count : Nat
  /-- Marked pointers of layers 0 to 7; 0xFF where unmarked. -/
  layers : List Nat
  key : Bytes
  tag : Nat
  deriving DecidableEq, Repr

/-- A lookup's status (Table 3.6) and result bytes. -/
structure LkRes where
  status : Nat
  data : Bytes
  deriving DecidableEq, Repr

/-- Where a packet stands. -/
inductive PktStage where
  /-- In the admission queue of its group (R133). -/
  | admission
  /-- In a Card lane since a cycle (R138). -/
  | parsing (lane since : Nat)
  /-- Waiting for its pre-dispatch lookups since a cycle (R144). -/
  | lookups (since : Nat)
  /-- In the hold list of its flow context (R156). -/
  | hold
  /-- Pending for dispatch (R157). -/
  | dispatch
  /-- With a worker thread. -/
  | worker (tid : Nat)
  /-- At the Editor with its action list, not yet released (R159). -/
  | editor
  /-- Released: the next word of the list to run. -/
  | running (idx : Nat)
  /-- A CRYPTO word waits for the cipher unit. -/
  | cipher (idx : Nat)
  /-- Waits at a NET_RX queue for a buffer or its completion (R226). -/
  | hostq (queue : Nat)
  deriving DecidableEq, Repr

structure Packet where
  half : Nat
  /-- SOURCE of Table 3.12. -/
  source : Nat
  tenant : Nat
  port : Nat
  pri : Nat
  tc : Nat
  /-- First bobbin. -/
  handle : Nat
  len : Nat
  timestamp : Nat
  qref : Nat
  /-- Ones' complement sum of bytes 14 on, for Ethernet ingress (Table 4.4). -/
  rawSum : Nat
  stage : PktStage
  parse : Option Parse
  /-- The decision entry taken (Table 4.3). -/
  dec : Nat
  /-- LAST_PROFILE word and number captured for each lookup of the decision (R144, R146). -/
  prof0 : Option (Nat × Nat)
  prof1 : Option (Nat × Nat)
  lk0 : LkRes
  lk1 : LkRes
  flowSt : Nat
  flow : Option Nat
  held : Bool
  /-- STITCH_COUNT at the parse's end. -/
  stitch : Nat
  entry : Nat
  bypass : Bool
  /-- The action list, the dirty range taken from the slice, and the layer offsets as adjusted (R161, R162). -/
  list : List W64
  dirty : Option (Nat × Bytes)
  layers : List Nat
  /-- Bytes the header has grown. -/
  growth : Nat
  deriving DecidableEq, Repr

/-- Parse microcode: words of the windows of Table 4.13. -/
structure Microcode where
  pg : AMap W32
  tr : AMap W32
  dec : AMap W32
  deriving DecidableEq, Repr

structure Card where
  shadow : Microcode
  active : Microcode
  /-- Cycle of the pending CARD_COMMIT.GO. -/
  goAt : Option Nat
  /-- Last turn in which a tenant at SLOW was passed over, by 4096 × half + tenant (R255). -/
  slowTurn : AMap Nat
  deriving DecidableEq, Repr

/-- An exact-match entry with its out-of-band tag (R147). -/
structure EmEntry where
  profile : Nat
  tenant : Nat
  data : Bytes
  deriving DecidableEq, Repr

/-- A prefix (R149): its key without the VRF's and padding bits, its VRF, length and DATA. -/
structure Prefix where
  v6 : Bool
  vrf : Nat
  addr : Nat
  plen : Nat
  data : Nat
  deriving DecidableEq, Repr

/-- A rule (R150). -/
structure Rule where
  value : Bytes
  mask : Bytes
  result : Bytes
  deriving DecidableEq, Repr

/-- One replica of the on-die tables (R147, R149, R150). -/
structure LastTabs where
  em : AMap EmEntry
  prefixes : List Prefix
  rules : AMap Rule
  deriving DecidableEq, Repr

/-- A flow context in a home cache (R155). -/
structure CachedCtx where
  bytes : Bytes
  dirty : Bool
  deriving DecidableEq, Repr

/-- Who holds a SERIAL context (R156): the thread and its dispatch number. -/
structure Holder where
  tid : Nat
  gen : Nat
  deriving DecidableEq, Repr

/-- An update under way at the update port (R152, R153): the message that asked for it, or none for LAST_UPD_CMD, and its
result. -/
structure LastUpd where
  msg : Option Msg
  status : Nat
  detail : Nat
  deriving DecidableEq, Repr

structure Last where
  tabsA : LastTabs
  tabsB : LastTabs
  /-- Tags of the extension's entries; their bytes lie in LPDDR6 (R148). -/
  extTags : AMap (Nat × Nat)
  cache : AMap CachedCtx
  /-- Contexts being fetched from LPDDR6: the number of the memory request. -/
  fetches : AMap Nat
  holders : AMap Holder
  /-- Packets in the hold lists, oldest first. -/
  holdList : List Nat
  upd : Option LastUpd
  /-- The last message that stood at the update port when LAST_UPD_CMD.GO was written: the operations of the two paths are
  applied in order of arrival (R152). -/
  goAfter : Option Nat
  /-- LAST_UPD_CMD as it stood when GO issued its operation. -/
  goWord : Nat
  deriving DecidableEq, Repr

/-- A frame in an egress queue (R169). -/
structure EgFrame where
  handle : Nat
  len : Nat
  tenant : Nat
  tstag : Option Nat
  ptpOff : Option Nat
  deriving DecidableEq, Repr

structure Egress where
  /-- Class queues, by 8 × node + class. -/
  queues : AMap (List EgFrame)
  /-- Token buckets of ports and nodes, in 1/10,000 of a byte (R171). -/
  portBucket : AMap Int
  nodeBucket : AMap Int
  /-- Round-robin deficits of nodes, and of the classes of a node, by 8 × node + class (R170). -/
  nodeDeficit : AMap Nat
  tcDeficit : AMap Nat
  /-- Node at which the round of a port's band stands, by 4 × port + band, and class at which a node's stands. -/
  nodePtr : AMap Nat
  tcPtr : AMap Nat
  /-- Time at which a port's transmission ends. -/
  busy : AMap Nat
  /-- Refills made (R171). -/
  refills : Nat
  deriving DecidableEq, Repr

/-- XOFF in force for a port's priority (R134): when it was last sent. -/
structure Xoff where
  sentAt : Nat
  /-- The partitions, as tenant and class, that arriving packets have found at STOP. -/
  parts : List (Nat × Nat)
  deriving DecidableEq, Repr

structure Eth where
  /-- Mode in which each half's ports are trained: that of the last APPLY (R129). -/
  modeA : Nat
  modeB : Nat
  /-- Halves whose ports stay down until ETH_HALF_CFG.APPLY: after the loss of their reference, and after their domain was
  switched on or the half reset (R449, R451). -/
  needApply : List Nat
  xoff : AMap Xoff
  /-- Pause end of a port's priority, by 8 × port + priority (R134). -/
  paused : AMap Nat
  deriving DecidableEq, Repr

structure Ptp where
  /-- Fraction of PTP_NS, in 2^-32 ns, and what is below that (R135). -/
  frac : Nat
  acc : Nat
  /-- Half B's own time while the seam is down: nanoseconds and eighths of one at the reference's rate. -/
  halfB : Option (Nat × Nat)
  /-- The PPS output is high until this PTP time. -/
  ppsUntil : Option Nat
  /-- Transmit timestamps waiting behind PTP_TXTS, by port: time and TSTAG. -/
  txts : AMap (List (Nat × Nat))
  deriving DecidableEq, Repr

structure Net where
  pkts : AMap Packet
  nextPkt : Nat
  card : Card
  last : Last
  egress : Egress
  eth : Eth
  ptp : Ptp
  /-- Packets seen by each mirror index since the last copy (R166). -/
  mirrorSkip : AMap Nat
  /-- The parse records handed to the slow path (R145), by the handle of the packet's first bobbin. -/
  slowRecs : AMap (List Byte)
  deriving DecidableEq, Repr

/-! ### The host link and the queue engine (chapters 09 and 06) -/

/-- A non-posted host request (R316): waiting for a tag, or outstanding on one since a time, with the bytes arrived. -/
structure HostReq where
  id : Nat
  func : Nat
  tenant : Nat
  addr : Nat
  len : Nat
  tag : Option Nat
  since : Nat
  data : Bytes
  /-- The wait for a tag has been counted (R316). -/
  waited : Bool
  /-- Its data is still wanted; otherwise they are discarded when they arrive. -/
  wanted : Bool
  deriving DecidableEq, Repr

/-- A host request that has ended: its status (0 where the data arrived whole) and data. -/
structure HostDone where
  id : Nat
  func : Nat
  status : Nat
  data : Bytes
  deriving DecidableEq, Repr

/-- A posted write of a function that waits for Bus Master Enable (R311). -/
structure HostWr where
  func : Nat
  addr : Nat
  data : Bytes
  deriving DecidableEq, Repr

/-- A quarantined tag (R318): its tenant, the time at which it is free, and its link. -/
structure Quarantine where
  tag : Nat
  tenant : Nat
  freeAt : Nat
  link : Nat
  deriving DecidableEq, Repr

/-- What the PCIe configuration of a function holds that this part's rules read (Table 9.1). -/
structure Pcie where
  busMaster : Bool
  intxDisable : Bool
  d3hot : Bool
  msiEn : Bool
  /-- log2 of the messages allocated. -/
  msiCount : Nat
  msiMask : W32
  msiPend : W32
  msiAddr : W64
  msiData : Nat
  /-- BAR0, BAR2 and BAR4 of a PF, without their type bits (R5). -/
  bar0 : W64
  bar2 : W64
  bar4 : W64
  msixEn : Bool
  msixMask : Bool
  /-- Completion Timeout Value. -/
  cto : Nat
  /-- Max_Read_Request_Size. -/
  mrrs : Nat
  tag10 : Bool
  /-- AER: Completion Timeout, Unexpected Completion and IDE Check Failed logged. -/
  aerCto : Bool
  aerUnexp : Bool
  aerIde : Bool
  /-- SR-IOV: VF Enable and NumVFs. -/
  vfEnable : Bool
  numVfs : Nat
  deriving DecidableEq, Repr

/-- A teardown in progress (R309): the time of its event, whether it returns the configuration to reset, what follows it,
and the steps made. -/
structure Teardown where
  since : Nat
  /-- FSTATE at its end. -/
  after : Nat
  /-- It is part of a HOST reset (R323). -/
  host : Bool
  squashed : Bool
  abandoned : Bool
  deriving DecidableEq, Repr

/-- A queue command block of a function control page (Table 6.10), by offset within the block. -/
structure Func where
  cfg : Pcie
  tear : Option Teardown
  /-- FCP_INTX.PEND of PF1 to PF3. -/
  intx : Bool
  blk : AMap W64
  deriving DecidableEq, Repr

/-- An MSI-X table entry and its pending bit. -/
structure Msix where
  addr : W64
  data : W32
  mask : Bool
  pend : Bool
  deriving DecidableEq, Repr

/-- A FUNCTION_ABORT or TENANT_ABORT in progress (R326, R327): its acceptance, the functions and PF0 queues it reaches. -/
structure HostAbort where
  since : Nat
  tenant : Bool
  funcs : List Nat
  wqs : List Nat
  squashed : Bool
  deriving DecidableEq, Repr

structure HostLink where
  funcs : AMap Func
  /-- By 4096 × function + entry. -/
  msix : AMap Msix
  reqs : List HostReq
  done : List HostDone
  posted : List HostWr
  quar : List Quarantine
  nextReq : Nat
  /-- Time at which PERST_N of a link rose or its hot reset ended, and whether its functions answer normally (R324). -/
  perst : AMap Nat
  ready : AMap Bool
  abort : Option HostAbort
  /-- Time at which GO of HOSTLINK_ABORT was written, and the functions then bound to the tenant that TARGET named (R327, R328). -/
  goAt : Nat
  goFuncs : List Nat
  /-- Keys of the IDE streams (R320). -/
  ideKeys : AMap Bytes
  deriving DecidableEq, Repr

/-- Where a job stands. -/
inductive JobStage where
  /-- Its FIRST entry is fetched and its LAST is not (R223). -/
  | chain
  /-- Fetched whole and not started. -/
  | unstarted
  /-- Fetched and at fault: its error CQE waits for the jobs before it (R236). -/
  | faulting
  | started
  /-- A posted receive buffer (R226). -/
  | buffer
  /-- Its work has ended and is to be reported. -/
  | ended
  /-- Reported: its CQE is to be written, in order. -/
  | done
  deriving DecidableEq, Repr

/-- A job of a WQ in flight (R232), with the outcome once its work has ended. -/
structure Job where
  first : Nat
  last : Nat
  opcode : Nat
  user : Nat
  entries : List Bytes
  suppress : Bool
  /-- QGROUP as it stood at the fetch. -/
  qgroup : Nat
  stage : JobStage
  status : Nat
  detail : Nat
  result : Nat
  length : Nat
  aux : Nat
  /-- An error CQE (R236): not a job of the ring for INDEX_OVERRUN, whose `own` is 0. -/
  error : Bool
  own : Nat
  /-- The CQE releases slots: false once an abort has set CI (R239). -/
  frees : Bool
  /-- Order in which CQEs became reportable. -/
  seq : Nat
  /-- Data legs of the job. -/
  legs : List Leg
  /-- Cycle at which its FIRST entry arrived (R276), and the error record of a failed storage command (R289). -/
  since : Nat
  errRec : Bytes
  /-- The yarn message that a MSG job has become (R227). -/
  msg : Option Nat
  deriving DecidableEq, Repr

/-- A ring read under way (R231): its first index, entry counts and legs. -/
structure Fetch where
  start : Nat
  counts : List Nat
  legs : List Leg
  deriving DecidableEq, Repr

/-- A fault of a WQ whose error CQE is still to be written (R236). -/
structure WqFault where
  index : Nat
  first : Nat
  status : Nat
  detail : Nat
  user : Nat
  suppress : Bool
  own : Nat
  deriving DecidableEq, Repr

/-- WQ_CTX (Table 6.9), with what the engine holds beside it. -/
structure Wq where
  state : Nat
  type : Nat
  log2 : Nat
  ringLoc : Bool
  compat : Bool
  home : Nat
  func : Nat
  tenant : Nat
  ringBase : Nat
  pi : Nat
  fi : Nat
  ci : Nat
  cq : Nat
  inflight : Nat
  weight : Nat
  burst : Nat
  errCause : Nat
  credit : Nat
  qgroup : Nat
  errIndex : Nat
  supp : Nat
  mules : Nat
  target : Nat
  jobs : List Job
  /-- Ring reads under way, oldest first. -/
  fetch : List Fetch
  fault : Option WqFault
  /-- Time of an abort that stops it (R239, R309, R326). -/
  abort : Option Nat
  /-- A storage queue: it does not freeze (R288); a command error has stopped it (R286); its error record (R289). -/
  percmd : Bool
  freeze : Bool
  /-- The command that froze it has been named in ERR_INDEX. -/
  named : Bool
  errRec : Bytes
  /-- Command errors since creation (R289). -/
  errCount : Nat
  deriving DecidableEq, Repr

/-- CQ_CTX (Table 6.9), with what the engine holds beside it. -/
structure Cq where
  state : Nat
  ringLoc : Bool
  compat : Bool
  armed : Bool
  notify : Bool
  home : Nat
  log2 : Nat
  errCause : Nat
  func : Nat
  tenant : Nat
  ringBase : Nat
  pi : Nat
  ci : Nat
  reserved : Nat
  vector : Nat
  modCount : Nat
  modTime : Nat
  bound : Nat
  fullSince : Nat
  new : Nat
  notifyEp : Nat
  /-- Stitch and cycle of the first CQE since the arm (R240). -/
  firstNew : Option (Nat × Nat)
  /-- First whole stitch of the present fullness, and whether its event has been raised (R234). -/
  fullFrom : Option Nat
  stalled : Bool
  /-- First whole stitch of the last not-full spell. -/
  openFrom : Nat
  deriving DecidableEq, Repr

structure Queues where
  wqs : AMap Wq
  cqs : AMap Cq
  /-- Last WQ visited, by 1024 × half + group, plus one (R231). -/
  visited : AMap Nat
  nextSeq : Nat
  /-- QUEUE_ABORTs running (R239): the block (0 for QUEUE_CMD), whether of a CQ, the queue, the time. -/
  aborts : List (Nat × Bool × Nat × Nat)
  deriving DecidableEq, Repr

/-! ### Eyelet ports (chapter 10) -/

/-- What a transaction of a peer window belongs to (R345). -/
inductive TxOwner where
  /-- A PEER job: its WQ and the index of its FIRST entry. -/
  | job (wq first : Nat)
  /-- A DEVLD of a thread. -/
  | dev (tid : Nat)
  /-- A cipher job. -/
  | cipher (id : Nat)
  /-- A TO_PEER delivery. -/
  | packet (id : Nat)
  deriving DecidableEq, Repr

/-- A transaction bound to a mapping of a window (R345): the two words it took, and what it has moved. -/
structure EyeTx where
  id : Nat
  port : Nat
  win : Nat
  w0 : W64
  w8 : W64
  owner : TxOwner
  /-- Pieces moved, and their bytes. -/
  pieces : Nat
  moved : Nat
  deriving DecidableEq, Repr

/-- A read outstanding on an Eyelet link (R331). -/
structure EyeReq where
  id : Nat
  tx : Nat
  port : Nat
  link : Nat
  tag : Nat
  len : Nat
  since : Nat
  data : Bytes
  deriving DecidableEq, Repr

/-- A read that has ended: status and detail (Table 10.8), and its data. -/
structure EyeDone where
  id : Nat
  status : Nat
  detail : Nat
  data : Bytes
  deriving DecidableEq, Repr

/-- A quarantined tag of a port. -/
structure EyeQuar where
  port : Nat
  tag : Nat
  freeAt : Nat
  deriving DecidableEq, Repr

/-- An upstream request accepted into an aperture (R333, R351), with the read leg of a MEM read. -/
structure InReq where
  link : Nat
  aper : Nat
  write : Bool
  off : Nat
  len : Nat
  data : Bytes
  tag : Nat
  leg : Option Leg
  deriving DecidableEq, Repr

structure Eyelet where
  reqs : List EyeReq
  done : List EyeDone
  quar : List EyeQuar
  txs : List EyeTx
  /-- Transactions that a commit holds and that have been counted in WIN_HELD. -/
  held : List TxOwner
  nextReq : Nat
  nextTx : Nat
  inbound : List InReq
  /-- Time at which a link entered POWERING or TRAINING. -/
  since : AMap Nat
  /-- Time at which PWR_OFF drove EYE_PERST_N low. -/
  offAt : AMap Nat
  /-- Attention period: its start, and the indicator setting before it. -/
  attn : AMap (Nat × Nat)
  /-- Slot outputs of a link: bit 0 EYE_PWR_EN, bit 1 EYE_PERST_N. -/
  pins : AMap Nat
  /-- STITCH_COUNT of a port's pending commit. -/
  commitAt : AMap Nat
  /-- Windows of a pending commit whose link was contained meanwhile, by 256 × port + window (R340). -/
  lost : List Nat
  /-- The windows that a pending commit changes, by 256 × port + window (R344). -/
  changing : List Nat
  deriving DecidableEq, Repr

/-! ### The cipher unit (chapter 05) -/

/-- Who a cipher job belongs to: a CSUB with the thread that issued it and its REPLY and REF fields, a CRYPTO word of a packet, or a Welt command's
data (R178, R186). -/
inductive CipherOwner where
  | csub (tid reply ref : Nat)
  | inline (pkt idx : Nat)
  | welt (cmd : Nat)
  deriving DecidableEq, Repr

/-- Where a cipher job stands. -/
inductive CipherStage where
  /-- At its home unit and not yet admitted. -/
  | arrived
  /-- Admitted, and on no engine. -/
  | admitted
  /-- On engine 136 c + e. -/
  | running (eng : Nat)
  /-- In a suspension slot of a cluster (R204). -/
  | suspended (cluster : Nat)
  /-- Its last block is done. -/
  | ended
  deriving DecidableEq, Repr

structure CipherJob where
  id : Nat
  owner : CipherOwner
  /-- Half that submitted it, and home half of its session (R178). -/
  half : Nat
  home : Nat
  /-- OP of Table 5.3, or 16 + OPER of Table 5.4. -/
  op : Nat
  session : Nat
  tenant : Nat
  urg : Nat
  /-- The 64 bytes of Table 5.2; the data of a Welt job, and its result. -/
  raw : Bytes
  data : Bytes
  /-- Cycle of its arrival. -/
  since : Nat
  stage : CipherStage
  /-- Blocks of 8 cycles, all blocks, cycles of the others, and the blocks done. -/
  light : Nat
  total : Nat
  cost : Nat
  made : Nat
  /-- First counter value (R199), or the number of an inbound packet. -/
  ctr : Nat
  /-- Order of admission, of suspension, and cycle of the last start. -/
  admSeq : Nat
  susSeq : Nat
  startAt : Nat
  /-- Cluster whose suspension slot the job holds (R205). -/
  slot : Option Nat
  /-- Its end is settled whatever its engine computes: the window check failed, or its transaction was stopped (R208, R346). -/
  stop : Option (Nat × Nat)
  /-- What a job into a peer window moves there, with whether its tag verified; the bytes moved, and those overwritten with zeros
  (R206, R207). -/
  out : Option (Bytes × Bool)
  sent : Nat
  wiped : Nat
  deriving DecidableEq, Repr

/-- An unwrapped session in a key slot (R191): its 224 bytes, STATE, and order of last use. -/
structure KeySlot where
  plain : Bytes
  st : Nat
  used : Nat
  deriving DecidableEq, Repr

/-- A session operation (R193): its number, whether the session service's message or CIPHER_SESS_CMD asked for it, and from
whom. -/
structure SessOp where
  id : Nat
  msg : Option Msg
  cobbler : Bool
  op : Nat
  index : Nat
  data : Bytes
  deriving DecidableEq, Repr

structure Cipher where
  jobs : List CipherJob
  /-- The job of each engine and the cycle at which its block ends. -/
  engines : AMap (Nat × Nat)
  slots : AMap KeySlot
  /-- Sessions installed since POWER reset or zeroization. -/
  installed : List Nat
  /-- Session records being fetched: the number of the memory request. -/
  fetches : AMap Nat
  /-- Operations that wait (R196), oldest first. -/
  ops : List SessOp
  /-- The Cobbler issued the operation in CIPHER_SESS_CMD. -/
  cmdCobbler : Bool
  /-- CIPHER_SESS_CMD as it stood when GO issued that operation. -/
  cmdWord : Nat
  /-- The device KEK in the wrap engines (R189). -/
  kek : Bytes
  /-- WRAP_NONCE of each half (R190). -/
  wrapA : Nat
  wrapB : Nat
  /-- Ends of Welt jobs: the command, status, detail and data. -/
  results : List (Nat × Nat × Nat × Bytes)
  nextId : Nat
  deriving DecidableEq, Repr
/-! ### Welt (chapter 08) -/

/-- A backing command of a Welt command (R281): its first volume block, block count, issue time, and, once answered, its NVMe
status field. -/
structure BackCmd where
  lba : Nat
  nlb : Nat
  since : Nat
  status : Option Nat
  /-- An NVMe Abort has been sent for it (R285). -/
  aborted : Bool
  deriving DecidableEq, Repr

/-- Where a Welt command stands. -/
inductive WeltStage where
  /-- It has its sequence number (R276). -/
  | numbered
  /-- A WRITE that has passed its checks and waits for buffer pages (R279). -/
  | waiting
  | started
  /-- Complete to the host; kept while the backing or a reader still holds it. -/
  | ended
  deriving DecidableEq, Repr

/-- An I/O command of a volume from its numbering until the backing and its readers leave it (R276 to R285). -/
structure WeltCmd where
  id : Nat
  wq : Nat
  first : Nat
  last : Nat
  op : Nat
  vol : Nat
  seq : Nat
  slba : Nat
  /-- Blocks: NLB + 1. -/
  blocks : Nat
  func : Nat
  stage : WeltStage
  /-- Write-buffer pages held. -/
  pages : Nat
  /-- The data have been given to the cipher unit. -/
  sealing : Bool
  /-- Data ready to be placed (WRITE) or returned (READ, COMPARE): ciphertext or plaintext as the volume asks. -/
  ready : Option Bytes
  /-- The bytes of its visible version. -/
  version : Option Bytes
  /-- A READ's blocks have been resolved (R280); versions it holds; blocks it has, none standing for a zero block. -/
  resolved : Bool
  holds : List Nat
  got : AMap (Option Bytes)
  back : List BackCmd
  issued : Bool
  /-- Bobbins that backing data lies in (R283). -/
  handles : List Nat
  hit : Bool
  deriving DecidableEq, Repr

/-- A connection (R269): its descriptor, whether it is UP, the time of a CONN_UP in progress, of the last Keep Alive, and of
the oldest unanswered one. -/
structure Conn where
  desc : Bytes
  up : Bool
  opening : Option Nat
  kaAt : Nat
  kaOpen : Option Nat
  deriving DecidableEq, Repr

structure Welt where
  cmds : List WeltCmd
  nextId : Nat
  conns : AMap Conn
  /-- HEALTH counts of a function (R293). -/
  health : AMap (List Nat)
  /-- VOL_OFFLINEs in progress: the volume, and the admin job that asked, or none for WELT_VOL_CMD. -/
  offline : List (Nat × Option (Nat × Nat))
  /-- Targets of ABORTs that wait for their end, by admin WQ: the queue and FIRST index. -/
  aborts : AMap (Nat × Nat)
  /-- WELT_VOL_CMD as it stood when GO issued its operation. -/
  goWord : Nat
  deriving DecidableEq, Repr
/-! ### The Cobbler (chapter 12) -/

/-- Where the boot stands (R389 to R396, R446). -/
inductive BootStage where
  /-- The power-on reset holds, or every clock but the always-on domain's stands (R446, R455). -/
  | held
  /-- The ROM is to choose a candidate (R395). -/
  | choosing
  /-- Chunks are landing; the next one's number (R389). -/
  | streaming (next : Nat)
  /-- Every chunk has matched; the records have not begun. -/
  | landed
  /-- The CONFIG record at a byte offset is to run (R397). -/
  | config (off : Nat)
  | configured
  /-- The boot of the slot has failed with a detail of Table 12.8 (R394). -/
  | failed (detail : Nat)
  | recovery
  | opened
  deriving DecidableEq, Repr

structure Boot where
  stage : BootStage
  /-- 0 A, 1 B, 2 G, 3 RECOVERY. -/
  slot : Nat
  /-- Manifest of the set being booted, and the key index that signed it. -/
  manifest : Bytes
  key : Nat
  /-- The Cobbler firmware has started (R389). -/
  firmware : Bool
  /-- Components copied by COPY records: the device address of each. -/
  copies : AMap Nat
  /-- Time at which the POLL that waits began. -/
  pollAt : Option Nat
  /-- BOBBIN_CFG.EN as CONFIG wrote it, held back until the gate opens (R392). -/
  bobbinEn : Option Nat
  /-- Start of R393's interval. -/
  since : Nat
  deriving DecidableEq, Repr

/-- The set that runs (R389, R407): the slot it came from, its manifest's fields and components. -/
structure RunSet where
  slot : Nat
  svn : Nat
  key : Nat
  flags : Nat
  buildId : Bytes
  body : Bytes
  cobbler : Bytes
  storage : Bytes
  /-- The CONFIG component that ran at boot. -/
  config : Bytes
  deriving DecidableEq, Repr

/-- A journal record that waits to be appended: TYPE, KEY and payload (R402). -/
structure JRec where
  type : Nat
  key : Nat
  payload : Bytes
  deriving DecidableEq, Repr

/-- The Cobbler's hold on the protected-flash journal (R401 to R405). -/
structure Journal where
  /-- Active bank; none where the journal is lost. -/
  bank : Option Nat
  gen : Nat
  /-- JSEQ of the last record, and the bank offset of the next append. -/
  jseq : Nat
  tail : Nat
  waiting : List JRec
  /-- A compaction runs (R404). -/
  compacting : Bool
  deriving DecidableEq, Repr

/-- The path by which a set reaches staging, or a command the mailbox (R406, R415). -/
inductive StagePath where
  | welt (func : Nat) | mailbox | pldm
  deriving DecidableEq, Repr

/-- A STORAGE_ASSIGN in progress (R398): where it came from, its mule and its spindles. -/
structure Assign where
  via : MboxVia
  boot : Bool
  mule : Nat
  spindles : Nat
  deriving DecidableEq, Repr

/-- Where a PLDM firmware update stands (R410). -/
inductive PldmUpd where
  | idle
  /-- The set is being pulled: its size and the next offset. -/
  | download (size next : Nat)
  /-- Stored in a slot and ready to activate. -/
  | applied (slot : Nat)
  deriving DecidableEq, Repr

structure Mgmt where
  /-- MCTP endpoint number of each binding: 0 SMBus, 1 PCIe VDM. -/
  eid : AMap Nat
  /-- Receiver of platform events (R409). -/
  receiver : Option Nat
  /-- Numeric sensors disabled, and the threshold state of each: 0 normal, 1 warning, 2 critical, 3 fatal. -/
  disabled : List Nat
  level : AMap Nat
  upd : PldmUpd
  /-- SPDM secured sessions open (R411), each with its path: the PF of a DOE instance, or 4 + MCTP binding. -/
  sessions : List (Nat × Nat)
  nextSession : Nat
  deriving DecidableEq, Repr

/-- An activation between the pause of Welt fetching and the swap of the storage programs (R407, R295): who asked for it, the
FIRST index of a Welt job, the slot, the STORAGE spindles whose standby banks hold the new image, the time of the pause and
the cycle of the swap's request. -/
structure Activation where
  via : CommitVia
  first : Nat
  slot : Nat
  /-- The copy of the set that has been checked (R390, R407). -/
  image : Bytes
  spindles : List Nat
  since : Nat
  at_ : Nat
  deriving DecidableEq, Repr

structure Cobbler where
  boot : Boot
  run : Option RunSet
  /-- Slots that have failed since power was applied; always-on (R394). -/
  failed : List Nat
  journal : Journal
  /-- Revoked key indices: fuses (R399). -/
  revoked : List Nat
  /-- The 48 MiB staging area and the path that holds it (R406). -/
  staging : List Host.Cell
  holder : Option StagePath
  assign : Option Assign
  /-- An activation under way (R407). -/
  act : Option Activation
  /-- Number of the DEBUG_CHALLENGE whose nonce stands, and the tokens refused since POWER reset (R413). -/
  nonce : Option Nat
  tokenFails : Nat
  /-- Debug access is open (R414). -/
  debugOpen : Bool
  mgmt : Mgmt
  deriving DecidableEq, Repr

/-! ### Halves, seam and faults (chapter 13) -/

structure Seam where
  /-- A direction carries no traffic: A to B, B to A. -/
  downAB : Bool
  downBA : Bool
  /-- Cycle at which the seam went down (R419). -/
  downAt : Option Nat
  /-- Cycle of the declarations of seam loss (R421, R424). -/
  lossAt : Option Nat
  /-- Half B has received a FENCE frame (R422); it has fenced (R423). -/
  fenceSeen : Bool
  fenced : Bool
  /-- FENCE frames and their answers on the witness: type and direction (0 from Half A), sent and not yet received. -/
  wire : List (Nat × Nat)
  /-- Stitch of the last valid witness frame received by Half A and Half B. -/
  heardA : Nat
  heardB : Nat
  /-- Sequence counts of the frames sent by each half, and the stitch of each one's last HEARTBEAT. -/
  seqA : Nat
  seqB : Nat
  beatA : Option Nat
  beatB : Option Nat
  /-- Retired lanes whose spares the next retrain brings in (R431). -/
  swapping : List Nat
  /-- Stitch of the last retrain attempt of R428. -/
  retrainAt : Nat
  /-- The HALF reset of a rejoin has been performed. -/
  resetDone : Bool
  /-- Spindles that held the STORAGE role at the fence. -/
  storage : List Nat
  /-- Time accounted as unavailable and not yet a whole microsecond, in units of 125 ps (R439). -/
  availRem : Nat
  deriving DecidableEq, Repr

/-- A spindle position ruled permanent (R432): the position, the logical spindle it served, the stitch and cycle of the
ruling, whether the mule's spare is to take over, and whether the state has been copied. -/
structure SpSwap where
  pos : Nat
  sp : Nat
  stitch : Nat
  cycle : Nat
  spare : Bool
  copied : Bool
  deriving DecidableEq, Repr

structure FaultState where
  /-- Count and window start of a position, by 2048 × class + position, and of a row of an SRAM array, by 2^24 × (array + 1) +
  row (R430). -/
  counts : AMap (Nat × Nat)
  /-- Errors counted since manufacture, by 1024 × class + position (R438). -/
  errors : AMap Nat
  swaps : List SpSwap
  /-- Logical spindle that each mule's spare position serves (R431). -/
  spared : AMap Nat
  /-- Engines ruled permanent whose spare is not yet enabled: 136 c + e, and the time of the ruling (R433). -/
  engines : AMap Nat
  /-- Card lanes ruled permanent and not yet retired (R434): the stitch of the ruling. -/
  lanes : AMap Nat
  /-- Repaired rows of an array: row and spare row (R435). -/
  sram : AMap (List (Nat × Nat))
  /-- Stitch of the last wear sample and of the last WEAR record (R438). -/
  wearAt : Nat
  recordAt : Nat
  /-- Threads whose spindle a swap has stopped, with the state each left (R432). -/
  stopped : AMap Nat
  /-- Ethernet ports that a lane failure restarts (R131, R439). -/
  restarting : List Nat
  deriving DecidableEq, Repr

/-! ### Power (chapter 14) -/

structure Power where
  pwrgd : Bool
  /-- Time at which PWRGD rose, while the power-on reset runs (R446). -/
  roseAt : Option Nat
  /-- THERMTRIP_N is low (R455). -/
  tripped : Bool
  /-- XSPI_RESET_N, and the time at which the POWER reset ended. -/
  xspiReset : Bool
  resetEnd : Nat
  /-- Stitch from which every sensor has stayed below RELEASE_T (R453). -/
  coolFrom : Option Nat
  /-- Lacing period of the last release of the throttle (R454). -/
  releasedIn : Option Nat
  /-- Cycle at which REDUCED or the throttle last changed: the clock follows at a period that begins after it (R453). -/
  clkAt : Nat
  /-- Domains switching: on (true) or off. -/
  switching : AMap Bool
  /-- PERST_N of each host link is asserted. -/
  perst : List Nat
  deriving DecidableEq, Repr
/-! ### The whole state -/

/-- What the part sends to the outside, oldest first. -/
inductive Out where
  /-- Data of a CSR read. -/
  | csrData (who : Requester) (addr size value : Nat)
  /-- A frame on an Ethernet port (R170). -/
  | ethFrame (port : Nat) (frame : Bytes)
  /-- A PFC frame of a port for one priority: a quanta of zero is XON (R134). -/
  | pfc (port pri quanta : Nat)
  /-- The PPS output rises or falls (R137). -/
  | pps (high : Bool)
  /-- A memory read request of a function on its tag, in an IDE stream or none (R316, R320). -/
  | hostRead (func tag addr len : Nat) (ide : Option Nat)
  /-- A memory write of a function to the host: data, a CQE or an interrupt message. -/
  | hostWrite (func addr : Nat) (data : Bytes) (ide : Option Nat)
  /-- Assert_INTA or Deassert_INTA of a function (R314). -/
  | intx (func : Nat) (assert : Bool)
  /-- The answer to a configuration request: a value, or none for Request Retry Status (R310, R324). -/
  | cfgReply (func : Nat) (value : Option Nat)
  /-- A memory read request on an Eyelet link: the function, BAR and offset it names. -/
  | eyeRead (link tag func bar off len : Nat)
  /-- A posted write on an Eyelet link. -/
  | eyeWrite (link func bar off : Nat) (data : Bytes)
  /-- A completion of an upstream request: its data, or none for Unsupported Request or Completer Abort. -/
  | eyeCpl (link tag : Nat) (data : Option Bytes)
  /-- The data of a host's memory read of a BAR. -/
  | barRead (func value : Nat)
  /-- An NVMe command to a volume's backing: the Welt command and part it belongs to, the NVMe opcode, FUA, namespace, backing LBA
  and block count, and the data written (R270, R277). -/
  | nvme (vol id part op : Nat) (fua : Bool) (nsid lba blocks : Nat) (data : Bytes)
  | nvmeAbort (vol id part : Nat)
  /-- A connection is opened, closed, or sent a Keep Alive (R269). -/
  | connOpen (conn port : Nat) (desc : Bytes)
  | connClose (conn : Nat)
  /-- The Fabrics Connect of a queue of a connection, with the host NQN (R269). -/
  | fabricsConnect (conn queue : Nat) (hostNqn : Bytes)
  | keepAlive (conn : Nat)
  /-- An MCTP message of a type on a binding (0 SMBus, 1 PCIe VDM), and a DOE message of a PF (R408, R319). -/
  | mctp (binding type : Nat) (data : Bytes)
  | doe (pf : Nat) (data : Bytes)
  /-- A witness frame (R420) from a half: TYPE and sequence count. -/
  | witness (half type seq : Nat)
  deriving DecidableEq, Repr

/-- An event FIFO: entries without their VALID bit, oldest first, and the count of discarded ones. -/
structure Fifo where
  entries : List Nat
  dropped : Nat
  deriving DecidableEq, Repr

structure State where
  clk : Clk
  /-- The register file of the CSR space, by offset; an unlisted register holds its reset value. -/
  csr : AMap W64
  /-- Upper-half latches of PF0 and the Cobbler (R9): the register and its latched upper half. -/
  latchPf0 : Option (Nat × Nat)
  latchCob : Option (Nat × Nat)
  /-- The event FIFOs behind the EVQ registers, by the register's offset. -/
  fifos : AMap Fifo
  lace : Lace
  yarn : Yarn
  mules : Mules
  bob : BobStore
  dram : Dram
  net : Net
  host : HostLink
  q : Queues
  eye : Eyelet
  cipher : Cipher
  welt : Welt
  cob : Cobbler
  seam : Seam
  flt : FaultState
  pwr : Power
  /-- Errors reported to the fault classifier and not yet ruled on: class and position (R430). -/
  reports : List (Nat × Nat)
  /-- Retired positions of the repair record (class and position), oldest first (R431). -/
  repairs : List (Nat × Nat)
  /-- Device memory by device address: LPDDR6 and the skein buffers. An unlisted byte reads zero. -/
  mem : List Host.Cell
  /-- Local memories, by 65536 × spindle + local address (R56). -/
  lmem : List Host.Cell
  /-- Scratch memories, by 524288 × mule + scratch address (R60). -/
  scratch : List Host.Cell
  /-- The Cobbler's SRAM (R98). -/
  cobSram : List Host.Cell
  /-- The boot flash and the protected flash (R386, R401), by flash offset, each byte complemented: an unlisted byte reads
  0xFF, erased. -/
  flash : List Host.Cell
  pflash : List Host.Cell
  outs : List Out
  /-- The model's own counter of free values taken. -/
  freeCtr : Nat
  pending : List Instr
  deriving DecidableEq, Repr

def Clk.reset : Clk := { cycles := 0, time := 0 }

def Lace.reset : Lace :=
  { tabs := [], tgShadow := [], tgActive := [], lenReqAt := none, commit := none, swapDone := false,
    units := [], adj := 0, lockRun := 0, periodAt := 0, bFree := none, owed := [] }

def Yarn.reset : Yarn := { queues := [], layout := [], flights := [], nextId := 1, discarded := [], served := [] }

def Mules.reset : Mules :=
  { threads := [], spindles := [], scratchQ := [], nextScratch := 0, swapAt := [], loadAt := [] }

def Dram.reset : Dram :=
  { banks := [], bursts := [], nextReq := 1, goWord := 0, cmds := [], eyes := [], maint := [], patrol := [], patrolFrom := [], scrub := [], writebacks := [], resync := [],
    testing := [], spareFor := [], copying := [], trained := none, windowAt := [] }

def Microcode.reset : Microcode := { pg := [], tr := [], dec := [] }

def Net.reset : Net :=
  { pkts := [], nextPkt := 1, card := { shadow := Microcode.reset, active := Microcode.reset, goAt := none, slowTurn := [] },
    last := { tabsA := ⟨[], [], []⟩, tabsB := ⟨[], [], []⟩, extTags := [], cache := [], fetches := [], holders := [],
              holdList := [], upd := none, goAfter := none, goWord := 0 },
    egress := { queues := [], portBucket := [], nodeBucket := [], nodeDeficit := [], tcDeficit := [], nodePtr := [], tcPtr := [],
                busy := [], refills := 0 },
    eth := { modeA := 0, modeB := 0, needApply := [], xoff := [], paused := [] },
    ptp := { frac := 0, acc := 0, halfB := none, ppsUntil := none, txts := [] }, mirrorSkip := [], slowRecs := [] }

def HostLink.reset : HostLink :=
  { funcs := [], msix := [], reqs := [], done := [], posted := [], quar := [], nextReq := 1, perst := [(0, 0), (1, 0)], ready := [],
    abort := none, goAt := 0, goFuncs := [], ideKeys := [] }

def Queues.reset : Queues := { wqs := [], cqs := [], visited := [], nextSeq := 0, aborts := [] }

def Eyelet.reset : Eyelet :=
  { reqs := [], done := [], quar := [], txs := [], held := [], nextReq := 1, nextTx := 1, inbound := [], since := [], offAt := [],
    attn := [], pins := [], commitAt := [], lost := [], changing := [] }

def Cipher.reset : Cipher :=
  { jobs := [], engines := [], slots := [], installed := [], fetches := [], ops := [], cmdCobbler := false, cmdWord := 0, kek := [],
    wrapA := 0, wrapB := 0, results := [], nextId := 1 }

def Welt.reset : Welt := { cmds := [], nextId := 1, conns := [], health := [], offline := [], aborts := [], goWord := 0 }

def Boot.reset : Boot :=
  { stage := .choosing, slot := 0, manifest := [], key := 0, firmware := false, copies := [], pollAt := none, bobbinEn := none,
    since := 0 }

def Mgmt.reset : Mgmt :=
  { eid := [], receiver := none, disabled := [], level := [], upd := .idle, sessions := [], nextSession := 1 }

def Journal.reset : Journal := { bank := none, gen := 0, jseq := 0, tail := 0x80, waiting := [], compacting := false }

def Cobbler.reset : Cobbler :=
  { boot := Boot.reset, run := none, failed := [], journal := Journal.reset, revoked := [], staging := [], holder := none,
    assign := none, act := none, nonce := none, tokenFails := 0, debugOpen := false, mgmt := Mgmt.reset }

def Seam.reset : Seam :=
  { downAB := false, downBA := false, downAt := none, lossAt := none, fenceSeen := false, fenced := false, wire := [],
    heardA := 0, heardB := 0, seqA := 0, seqB := 0, beatA := none, beatB := none, swapping := [], retrainAt := 0, resetDone := false, storage := [],
    availRem := 0 }

def FaultState.reset : FaultState :=
  { counts := [], errors := [], swaps := [], spared := [], engines := [], lanes := [], sram := [], wearAt := 0, recordAt := 0, stopped := [], restarting := [] }

def Power.reset : Power :=
  { pwrgd := true, roseAt := none, tripped := false, xspiReset := false, resetEnd := 0, coolFrom := none, releasedIn := none, clkAt := 0,
    switching := [], perst := [] }

def State.reset : State :=
  { clk := Clk.reset, csr := [], latchPf0 := none, latchCob := none, fifos := [], lace := Lace.reset,
    yarn := Yarn.reset, mules := Mules.reset, bob := { descs := [], pools := [], marks := [], bad := [] },
    dram := Dram.reset, net := Net.reset, host := HostLink.reset, q := Queues.reset, eye := Eyelet.reset, cipher := Cipher.reset, welt := Welt.reset,
    cob := Cobbler.reset, seam := Seam.reset, flt := FaultState.reset, pwr := Power.reset,
    reports := [], repairs := [], mem := [], lmem := [], scratch := [], cobSram := [], flash := [], pflash := [],
    outs := [], freeCtr := 0, pending := [] }

end Sys2Proof.Machine
end

