-- ==== Sys2Proof/Machine/Ops.lean ====
section
/-! DEFINITION. The named operations over the state that every family of commands uses: register fields of the CSR space,
counters, event FIFOs, and the clocks. -/

namespace Sys2Proof.Machine

open Sys2Proof

/-! ### The register file of the CSR space -/

/-- The register word at an offset. -/
def State.word (s : State) (a : Nat) : Nat := (AMap.getD s.csr a (resetVal a)).toNat

/-- Replace the register word at an offset; the reset value is not listed. -/
def State.setWord (s : State) (a : Nat) (v : Nat) : State :=
  { s with csr := AMap.setD (resetVal a) s.csr a (BitVec.ofNat 64 v) }

/-- The value of a register field. -/
def State.rd (s : State) (f : FRef) : Nat := bitsOf (s.word f.addr) f.hi f.lo

/-- A register field after hardware or a command sets it. -/
def State.wr (s : State) (f : FRef) (v : Nat) : State := s.setWord f.addr (setBits (s.word f.addr) f.hi f.lo v)

/-- A one-bit field reads 1. -/
def State.flag (s : State) (f : FRef) : Bool := s.rd f == 1

/-- A one-bit field set by hardware when a condition holds. -/
def State.wrIf (s : State) (c : Bool) (f : FRef) (v : Nat) : State := if c then s.wr f v else s

/-- A counter that rises by `n` and saturates at its width (the RC counters of every block). -/
def State.count (s : State) (f : FRef) (n : Nat) : State := s.wr f (min (s.rd f + n) (2 ^ f.bits - 1))

/-- A counter that rises by `n` and wraps at its width. -/
def State.countWrap (s : State) (f : FRef) (n : Nat) : State := s.wr f (s.rd f + n)

/-! ### Event FIFOs -/

/-- An event FIFO: the offset of its head register, how many entries it holds, and the bits of its DROPPED field. -/
structure FifoRef where
  addr : Nat
  cap : Nat
  hi : Nat
  lo : Nat

def State.fifo (s : State) (q : FifoRef) : Fifo := AMap.getD s.fifos q.addr ⟨[], 0⟩

/-- The head register shows the oldest entry with VALID, and the count of entries discarded. -/
def Fifo.head (f : Fifo) (q : FifoRef) : Nat :=
  (match f.entries with
   | [] => 0
   | e :: _ => e ||| 1 <<< 63) ||| f.dropped <<< q.lo

/-- Replace a FIFO and its head register. -/
def State.setFifo (s : State) (q : FifoRef) (f : Fifo) : State :=
  { s with fifos := AMap.setD ⟨[], 0⟩ s.fifos q.addr f }.setWord q.addr (f.head q)

/-- An event enters its FIFO, or finds it full and is discarded and counted in DROPPED. -/
def State.event (s : State) (q : FifoRef) (e : Nat) : State :=
  let f := s.fifo q
  if f.entries.length < q.cap then s.setFifo q { f with entries := f.entries ++ [e] }
  else s.setFifo q { f with dropped := min (f.dropped + 1) (2 ^ (q.hi + 1 - q.lo) - 1) }

/-- A read of the head register removes the head entry and clears DROPPED (R16). -/
def State.popFifo (s : State) (q : FifoRef) : State :=
  let f := s.fifo q
  s.setFifo q { entries := f.entries.tail, dropped := 0 }

def cipherNote : FifoRef := ⟨0x1000308, 256, 59, 52⟩
def queueEvq : FifoRef := ⟨0x1200020, 1024, 59, 52⟩
def bobbinEvq : FifoRef := ⟨0x1400400, 1024, 58, 51⟩
def weltEvq : FifoRef := ⟨0x1500300, 1024, 59, 52⟩
def eyeletEvq : FifoRef := ⟨0x1700600, 1024, 58, 51⟩
def memEvq : FifoRef := ⟨0x1808500, 1024, 58, 51⟩
def faultEvq : FifoRef := ⟨0x1B00400, 1024, 57, 50⟩
def cobblerEvq : FifoRef := ⟨0x1E00100, 1024, 58, 51⟩

/-- Every FIFO whose head is a 64-bit register with VALID in bit 63. -/
def eventFifos : List FifoRef :=
  [cipherNote, queueEvq, bobbinEvq, weltEvq, eyeletEvq, memEvq, faultEvq, cobblerEvq]

/-! ### Output and free values -/

/-- Something the part sends to the outside. -/
def State.emit (s : State) (o : Out) : State := { s with outs := s.outs ++ [o] }

/-- Take a fresh free value: the counter moves on. -/
def State.tookFree (s : State) : State := { s with freeCtr := s.freeCtr + 1 }

/-! ### Time (R20, R22) -/

/-- The stitch length of a STITCH_LEN code, in core cycles (Table 1.1). -/
def stitchLenOf (code : Nat) : Nat := 1024 <<< code

/-- STITCH_LEN.CUR in core cycles. -/
def State.stitchLen (s : State) : Nat := stitchLenOf (s.rd F.STITCH_LEN.CUR)

/-- The length of a turn in core cycles (R20). -/
def State.turnLen (s : State) : Nat := s.stitchLen / 64

/-- The worker issue budget of a stitch length (R22). -/
def budgetOf (len : Nat) : Nat := len / 8 - 16

/-- The number of the present stitch (R21). -/
def State.stitch (s : State) : Nat := s.rd F.STITCH_COUNT.COUNT

/-- The period-turn index of the present turn (R21). -/
def State.periodTurn (s : State) : Nat := 64 * s.rd F.STITCH_POS.SIP + s.rd F.STITCH_POS.TURN

/-- R23: the stitch number of a half: Half B's own while its generator runs freely. -/
def State.stitchOf (s : State) (h : Nat) : Nat :=
  match h, s.lace.bFree with
  | 1, some f => f.count + (f.phase + (s.clk.cycles - f.since)) / f.len
  | _, _ => s.stitch

/-- R23: the cycle within the stitch of a half. -/
def State.cycleOf (s : State) (h : Nat) : Nat :=
  match h, s.lace.bFree with
  | 1, some f => (f.phase + (s.clk.cycles - f.since)) % f.len
  | _, _ => s.rd F.STITCH_POS.CYCLE

/-- R20, R23: the turn of a half. -/
def State.turnOf (s : State) (h : Nat) : Nat :=
  match h, s.lace.bFree with
  | 1, some f => (f.phase + (s.clk.cycles - f.since)) % f.len / (f.len / 64)
  | _, _ => s.rd F.STITCH_POS.TURN

/-- R21, R23: the period-turn index of a half's present turn. -/
def State.periodTurnOf (s : State) (h : Nat) : Nat :=
  match h, s.lace.bFree with
  | 1, some _ => 64 * (s.stitchOf 1 % 64) + s.turnOf 1
  | _, _ => s.periodTurn

/-- Number of a half's present turn since reset. -/
def State.turnNoOf (s : State) (h : Nat) : Nat := 64 * s.stitchOf h + s.turnOf h

/-- R21, R23: the present cycle begins a stitch of a half. -/
def State.boundaryOf (s : State) (h : Nat) : Bool := s.cycleOf h == 0 && s.turnOf h == 0

/-- The half that a unit instance of a class lies on: Card lanes, dispatchers, engines, sub-channels, host-link engines, Eyelet
ports. -/
def instHalf (c u : Nat) : Nat :=
  match c with
  | 0 => u / 5 | 2 => u / 272 | 3 => u / 18 | 5 => u / 2 | _ => u

/-- The present cycle begins a stitch (R21). -/
def State.atBoundary (s : State) : Bool := s.rd F.STITCH_POS.CYCLE == 0 && s.rd F.STITCH_POS.TURN == 0

/-- The present cycle begins a lacing period: a stitch whose number is a multiple of 64 (R21). -/
def State.atPeriod (s : State) : Bool := s.atBoundary && s.stitch % 64 == 0

/-- Whole microseconds on the clock of the state, in units of 125 ps. -/
def usec (n : Nat) : Nat := 8000 * n

/-- Milliseconds in units of 125 ps. -/
def msec (n : Nat) : Nat := 8000000 * n

/-- A switched power domain is on now (R450). -/
def State.domOn (s : State) (k : Nat) : Bool := (s.rd F.POWER_DOM_STATUS.ON).testBit k

/-- R450: a hardware-controlled domain follows its event: its bit of POWER_DOM_CTRL and POWER_DOM_STATUS, and, where it
changes, the count of switches. -/
def State.hwDomain (s : State) (k : Nat) (on : Bool) : State :=
  if s.domOn k = on then s
  else
    let ctl := s.rd F.POWER_DOM_CTRL.HW
    let sts := s.rd F.POWER_DOM_STATUS.ON
    let s := s.wr F.POWER_DOM_CTRL.HW (if on then ctl ||| 2 ^ (k - 58) else ctl - 2 ^ (k - 58))
    (s.wr F.POWER_DOM_STATUS.ON (if on then sts ||| 2 ^ k else sts - 2 ^ k)).count F.POWER_STAT.DOM_SWITCHES.CNT 1

/-- The half a mule lies on (Table 0.3). -/
def halfOfMule (m : Nat) : Nat := if m < 24 then 0 else 1

/-! ### Faulty CSR accesses (R7, R8, R14) -/

def causeUnaligned : Nat := 1
def causeSize : Nat := 2
def causeUnmapped : Nat := 3
def causeLocked : Nat := 4

/-- R7: a faulty access is recorded, unless an earlier record stands, and counted. -/
def State.csrError (s : State) (cause off : Nat) (write : Bool) : State :=
  let s := if s.flag F.GLOBAL_CSR_ERR.VALID then s
    else s.setWord 0x10 (1 <<< 31 ||| cause <<< 28 ||| (if write then 1 else 0) <<< 27 ||| off % 2 ^ 26)
  s.count F.GLOBAL_CSR_ERR_CNT.COUNT 1

/-- R14: the output gate has opened. -/
def State.locked (s : State) : Bool := s.flag F.COBBLER_BOOT_STATUS.GATE_OPEN

end Sys2Proof.Machine
end

