-- ==== Sys2Proof/Machine/MemMap.lean ====
section
/-! DEFINITION. Device memory (chapter 11): regions and the decoding of device addresses, ownership, what an access meets,
and the bursts it needs. -/

namespace Sys2Proof.Machine

open Sys2Proof

/-! ### Half B and time -/

/-- R421, R425: from the declaration of seam loss until a rejoin (SEAM_STATUS.STATE PARTITIONED, FENCED or REJOINING) Half B
serves nothing, and work that needs one of its identities completes FENCED. -/
def State.fencedB (s : State) : Bool := decide (2 ≤ s.rd F.SEAM_STATUS.STATE)

/-- R423: Half B has fenced itself: it transmits nothing and its mules stand. -/
def State.haltedB (s : State) : Bool := s.seam.fenced

/-- R418: the seam is down and no loss has been declared: traffic that would cross it is held. -/
def State.seamHeld (s : State) : Bool := s.rd F.SEAM_STATUS.STATE == 1

/-- An error is reported to the fault classifier at a position of a class (R430). -/
def State.report (s : State) (cls pos : Nat) : State := { s with reports := s.reports ++ [(cls, pos)] }

/-! ### Service units (R39) -/

/-- The lacing group a standing choice serves. -/
def Choice.group? : Choice → Option Nat
  | .owner g | .share g | .free g => some g
  | _ => none

/-- The choice that stands at a unit instance of a class. -/
def State.chosenAt (s : State) (c u : Nat) : Option Choice := (AMap.get? s.lace.units (4096 * c + u)).bind (fun x => x.chosen)

/-- The group whose service unit a unit instance now serves. -/
def State.groupAt (s : State) (c u : Nat) : Option Nat := (s.chosenAt c u).bind Choice.group?

/-- The service unit begins: the choice is used up. -/
def State.useChoice (s : State) (c u : Nat) : State :=
  let us := s.lace.units.map (fun (e : Nat × UnitInst) =>
    if e.1 = 4096 * c + u then (e.1, { e.2 with chosen := none }) else e)
  { s with lace := { s.lace with units := us } }

/-- R29: a dispatch starts on a port of the half: the choice is used up, and the dispatch counts toward the 42 of the turn and the
three of the cycle. -/
def State.useDispatch (s : State) (h : Nat) : State :=
  let n := s.clk.cycles
  let us := (s.useChoice 1 h).lace.units.map (fun (e : Nat × UnitInst) =>
    if e.1 = 4096 + h then (e.1, { e.2 with starts := e.2.starts + 1, ports := (n, (if e.2.ports.1 = n then e.2.ports.2 else 0) + 1) })
    else e)
  { s with lace := { s.lace with units := us } }

/-- R33: the lacing group of a tenant, by the active map. -/
def State.groupOf (s : State) (tenant : Nat) : Nat := (AMap.getD s.lace.tgActive tenant 0#16).toNat % 0x400

def owedKey (c u g : Nat) : Nat := 1024 * (4096 * c + u) + g

/-- Service units that a group owes a unit instance. -/
def State.owes (s : State) (c u g : Nat) : Nat := AMap.getD s.lace.owed (owedKey c u g) 0

/-- R229: a group has had `n` service units of a unit instance beyond those it was chosen for: its next choices there pay them
(DESIGN CHOICE, log entry 145). -/
def State.owe (s : State) (c u g n : Nat) : State :=
  if n = 0 then s else { s with lace := { s.lace with owed := AMap.setD 0 s.lace.owed (owedKey c u g) (s.owes c u g + n) } }

/-- The groups that owe a unit instance service units, in rising order. -/
def State.owingGroups (s : State) (c u : Nat) : List Nat :=
  (s.lace.owed.filter (fun e => e.1 / 1024 == 4096 * c + u)).map (fun e => e.1 % 1024)

/-- R229: a choice of a group that owes the instance service units pays one. -/
def State.settle (s : State) (c u : Nat) : State :=
  match s.groupAt c u with
  | none => s
  | some g =>
    if s.owes c u g = 0 then s
    else
      let s := if c = 1 then s.useDispatch u else s.useChoice c u
      { s with lace := { s.lace with owed := AMap.setD 0 s.lace.owed (owedKey c u g) (s.owes c u g - 1) } }

/-- The payload of a TLP: at most 512 bytes (Table 9.1). -/
def tlpBytes : Nat := 512

/-- How many TLPs carry `n` bytes. -/
def tlpsOf (n : Nat) : Nat := (n + (tlpBytes - 1)) / tlpBytes

/-! ### Channels (R354) -/

def chActive : Nat := 0
def chSpare : Nat := 1
def chFrozen : Nat := 2
def chResync : Nat := 3
def chRetired : Nat := 4

def State.chState (s : State) (i : Nat) : Nat := s.rd (F.MEM_CH_STATUS.STATE i)

/-- The physical channel that serves a logical one. -/
def State.chanOf (s : State) (logical : Nat) : Option Nat :=
  (List.range 18).find? (fun i => s.rd (F.MEM_CH_STATUS.LOGICAL i) == logical)

def chanHalf (i : Nat) : Nat := i / 9

/-- The channel serves: active or in resync, and not behind the fence (R380). -/
def State.chServes (s : State) (i : Nat) : Bool :=
  (s.chState i == chActive || s.chState i == chResync) && !(chanHalf i == 1 && s.fencedB)

/-! ### Regions and decoding (R357, R359) -/

def giB : Nat := 2 ^ 30

def State.regionBase (s : State) (r : Nat) : Nat := s.rd (F.MEM_REGION_W8.BASE r) * giB
def State.regionSize (s : State) (r : Nat) : Nat := s.rd (F.MEM_REGION_W0.SIZE r) * giB
def State.regionMirrored (s : State) (r : Nat) : Bool := s.flag (F.MEM_REGION_W0.CLASS r)
def State.regionSet (s : State) (r : Nat) : Nat := s.rd (F.MEM_REGION_W0.SET r)

/-- Table 11.2: the ways of an interleave set. -/
def waysOf (set : Nat) : Nat := if set = 2 then 16 else 8

/-- Table 11.2: a logical channel belongs to a set. -/
def inSet (set logical : Nat) : Bool :=
  if set = 0 then decide (logical < 8) else if set = 1 then decide (8 ≤ logical) && decide (logical < 16) else decide (logical < 16)

/-- The region of a device address. -/
def State.regionOf (s : State) (a : Nat) : Option Nat :=
  (List.range 32).find? (fun r => s.flag (F.MEM_REGION_W0.VALID r) && decide (s.regionBase r ≤ a) &&
    decide (a < s.regionBase r + s.regionSize r))

/-- Where a byte of DRAM lies (R359): the logical channel within 0 to 15 before mirroring, the byte within the channel, the
sub-channel, and bank (with the rank above it), row and column unit. -/
structure DramLoc where
  logical : Nat
  coff : Nat
  sub : Nat
  bank : Nat
  row : Nat
  col : Nat
  deriving DecidableEq, Repr

/-- R359: the decoding of an address within region `r`. -/
def State.decodeAddr (s : State) (r a : Nat) : DramLoc :=
  let set := s.regionSet r
  let w := waysOf set
  let lw := if set = 2 then 4 else 3
  let line := (a - s.regionBase r) / 256
  let c := line % w
  let coff := (line / w) * 256 + (a - s.regionBase r) % 256 + s.rd (F.MEM_REGION_W8.CH_OFF r) * 0x4000000
  let u := coff / 64
  let colB := s.rd (F.MEM_CH_GEOM.COL 0)
  let rowB := s.rd (F.MEM_CH_GEOM.ROW 0)
  let map := s.rd (F.MEM_REGION_W0.MAP r)
  let row := u / 2 ^ (colB + 4) % 2 ^ rowB
  let rank := u / 2 ^ (colB + 4 + rowB)
  let bank0 := if map = 0 then u / 2 ^ colB % 16 else u / 4 % 16
  let col := if map = 0 then u % 2 ^ colB else u / 64 % 2 ^ (colB - 2) * 4 + u % 4
  let bank := if map = 2 then bank0 ^^^ (row % 16) else bank0
  let c' := if map = 2 then c ^^^ (row / 16 % 2 ^ lw) else c
  { logical := if set = 1 then 8 + c' else c', coff := coff, sub := coff / 32 % 2, bank := 16 * rank + bank, row := row, col := col }

/-! ### Ownership (R360) -/

/-- The entry of MEM_OWNER for a 64 MiB granule: its tenant, if valid. -/
def State.ownerOf (s : State) (g : Nat) : Option Nat :=
  if 8192 ≤ g then none
  else if g % 2 = 0 then (if s.flag (F.MEM_OWNER.VALID_LO (g / 2)) then some (s.rd (F.MEM_OWNER.TENANT_LO (g / 2))) else none)
  else if s.flag (F.MEM_OWNER.VALID_HI (g / 2)) then some (s.rd (F.MEM_OWNER.TENANT_HI (g / 2))) else none

/-- R360: every granule that `n` bytes from `a` touch belongs to the tenant. -/
def State.ownedBy (s : State) (t a n : Nat) : Bool :=
  let g0 := a / 0x4000000
  let g1 := (a + (n - 1)) / 0x4000000
  (List.range (g1 - g0 + 1)).all (fun k => s.ownerOf (g0 + k) == some t)

/-! ### What an access meets (R357, R358, R374 to R380) -/

def inDram (a : Nat) : Bool := decide (a < 2 ^ 39)

/-- The device address lies in the skein buffer of a half. -/
def inSkein (s : State) (a : Nat) : Bool :=
  (List.range 2).any (fun h => decide (s.rd (F.BOBBIN_SKEIN_ADDR.ADDR h) ≤ a) &&
    decide (a < s.rd (F.BOBBIN_SKEIN_ADDR.ADDR h) + 0x4000000))

/-- MEM details (Table 11.6) with their statuses. -/
abbrev MemResult := Nat × Nat

/-- The result of an access to one 256-byte granule that starts at or holds `a`; (0, 0) where it is served. -/
def State.granuleCheck (s : State) (a : Nat) : MemResult :=
  if inDram a = false then (if inSkein s a then (0, 0) else (0x04, 0))
  else if s.rd F.MEM_GSTATUS.READY = 0 then (0x0F, 1)
  else match s.regionOf a with
    | none => (0x04, 0)
    | some r =>
      let d := s.decodeAddr r a
      if s.regionMirrored r then
        let a1 := s.chanOf d.logical
        let b1 := s.chanOf (d.logical + 8)
        if a1.isNone ∧ b1.isNone then (0x0F, 4)
        else if (a1.toList ++ b1.toList).any (fun i => s.chServes i) then (0, 0)
        else if b1.isSome ∧ s.fencedB then (0x0E, 5)
        else (0x0D, 2)
      else if s.rd (F.MEM_REGION_W0.STATE r) = 1 then (0x0A, 3)
      else match s.chanOf d.logical with
        | none => (0x0A, 3)
        | some i =>
          if chanHalf i = 1 ∧ s.fencedB then (0x0E, 5)
          else if s.chState i = chFrozen then (0x0D, 2)
          else (0, 0)

/-- The result of an access to `n` bytes from `a`: that of the first granule that is not served. -/
def State.memCheck (s : State) (a n : Nat) : MemResult :=
  let g0 := a / 256
  let g1 := (a + (n - 1)) / 256
  ((List.range (g1 - g0 + 1)).findSome? (fun k =>
    let r := s.granuleCheck (max a ((g0 + k) * 256))
    if r = (0, 0) then none else some r)).getD (0, 0)

/-- The bytes of device memory. -/
def State.devRead (s : State) (a n : Nat) : Bytes := Memory.read s.mem a n

/-- Device memory after a write. -/
def State.devWrite (s : State) (a : Nat) (bs : Bytes) : State := { s with mem := Memory.write s.mem a bs }

/-! ### Bursts (R362, R374, R375) -/

def Bank.reset : Bank :=
  { openRow := none, last := none, pred := 2, busyUntil := 0, owed := 0, refAt := 0, acts := [], victims := [] }

def bankKey (i sub bank : Nat) : Nat := 32 * (2 * i + sub) + bank
def State.bank (s : State) (i sub b : Nat) : Bank := AMap.getD s.dram.banks (bankKey i sub b) Bank.reset
def State.setBank (s : State) (i sub b : Nat) (x : Bank) : State :=
  { s with dram := { s.dram with banks := AMap.setD Bank.reset s.dram.banks (bankKey i sub b) x } }

/-- Change every bank of a channel. -/
def State.mapBanks (s : State) (i : Nat) (f : Bank → Bank) : State :=
  let bs := s.dram.banks.map (fun (e : Nat × Bank) => if e.1 / 64 = i then (e.1, f e.2) else e)
  { s with dram := { s.dram with banks := bs } }

/-- R362, R369: a bank takes a burst to a row: it is not busy, and the row is open or may be activated. -/
def State.bankTakes (s : State) (i sub b row : Nat) : Bool :=
  let k := s.bank i sub b
  decide (k.busyUntil ≤ s.clk.time) && (k.openRow == some row || !k.victims.any (fun v => v.2 == row))

/-- R362, R369: a burst can proceed: its channel serves, and its bank takes it. -/
def State.burstReady (s : State) (b : Burst) : Bool := s.chServes b.chan && s.bankTakes b.chan b.sub b.bank b.row

/-- R375: a 64 KiB block of a channel whose copy has missed a write. -/
def State.markResync (s : State) (i coff : Nat) : State :=
  let k := 2 ^ 24 * i + coff / 65536
  if s.dram.resync.contains k then s else { s with dram := { s.dram with resync := s.dram.resync ++ [k] } }

/-- The copies of a Mirrored unit: the serving channels, of those that a write must reach and, first, the one a read of a
requester on half `h` takes. A RESYNC copy takes writes, and a read only where there is no other (R374, R375). -/
def State.copies (s : State) (logical : Nat) : List Nat :=
  ((s.chanOf logical).toList ++ (s.chanOf (logical + 8)).toList).filter (fun i => s.chServes i)

def State.readCopy (s : State) (logical h : Nat) : Option Nat :=
  let l := s.copies logical
  let act := l.filter (fun i => s.chState i == chActive)
  match act.find? (fun i => chanHalf i == h) with
  | some i => some i
  | none => match act with
    | i :: _ => some i
    | [] => l.head?

/-- The bursts of one 32-byte unit of an access, and the state with the resync bitmap marked for a copy that a write
misses. -/
def State.unitBursts (s : State) (id group h a : Nat) (store : Option (Nat × Bytes)) : List Burst × State :=
  match s.regionOf a with
  | none => ([], s)
  | some r =>
    let d := s.decodeAddr r a
    let mk (i : Nat) (p : Option Nat) : Burst :=
      { id := id, group := group, chan := i, sub := d.sub, bank := d.bank, row := d.row, col := d.col, partner := p, store := store }
    if s.regionMirrored r then
      let both := (s.chanOf d.logical).toList ++ (s.chanOf (d.logical + 8)).toList
      if store.isSome then
        let l := s.copies d.logical
        let s := (both.filter (fun i => !s.chServes i)).foldl (fun s i => s.markResync i d.coff) s
        (l.map (fun i => mk i ((both.filter (· ≠ i)).head?)), s)
      else match s.readCopy d.logical h with
        | some i => ([mk i ((both.filter (· ≠ i)).head?)], s)
        | none => ([], s)
    else match s.chanOf d.logical with
      | some i => ([mk i none], s)
      | none => ([], s)

/-- The 32-byte units of an access, each with the bytes it stores. -/
def unitsOf (a : Nat) (n : Nat) (store : Option Bytes) : List (Nat × Option (Nat × Bytes)) :=
  let u0 := a / 32
  let u1 := (a + (n - 1)) / 32
  (List.range (u1 - u0 + 1)).map (fun k =>
    let lo := max a ((u0 + k) * 32)
    let hi := min (a + n) ((u0 + k + 1) * 32)
    (lo, store.map (fun bs => (lo, sliceB bs (lo - a) (hi - lo)))))

/-- R229: an access to LPDDR6 that has been made is charged to a group: one service unit of class 3 for each of its bursts. -/
def State.oweMem (s : State) (h group a n : Nat) (write : Bool) : State :=
  if inDram a = false then s
  else (unitsOf a n none).foldl (fun s (u : Nat × Option (Nat × Bytes)) =>
    let bs := (s.unitBursts 0 group h u.1 (if write then some (u.1, []) else none)).1
    bs.foldl (fun s b => s.owe 3 (2 * b.chan + b.sub) group 1) s) s

/-- An access of a requester on half `h`, charged to a group, queues its bursts. Answers the number of the request. An
access to the skein buffer needs no burst: a store is made at once. -/
def State.memIssue (s : State) (h group a n : Nat) (store : Option Bytes) : Nat × State :=
  let id := s.dram.nextReq
  let s := { s with dram := { s.dram with nextReq := id + 1 } }
  if inDram a then
    (id, (unitsOf a n store).foldl (fun s u =>
      let (bs, s) := s.unitBursts id group h u.1 u.2
      { s with dram := { s.dram with bursts := s.dram.bursts ++ bs } }) s)
  else match store with
    | some bs => (id, s.devWrite a bs)
    | none => (id, s)

/-- A request waits for no burst: every one has been served, or names a channel that does not serve (R376, R380). -/
def State.memDone (s : State) (id : Nat) : Bool := !s.dram.bursts.any (fun b => b.id == id && s.chServes b.chan)

/-- A request is given up. -/
def State.memDrop (s : State) (id : Nat) : State :=
  { s with dram := { s.dram with bursts := s.dram.bursts.filter (fun b => b.id != id) } }

/-- An event of the memory system. -/
def memEvent (kind region channel tenant : Nat) : Nat := kind <<< 59 ||| region <<< 25 ||| channel <<< 20 ||| tenant

/-- An access of a unit: its result; an access to a Mirrored unit with no copy left writes an event and notifies the
Cobbler (R379). -/
def State.memAccess (s : State) (a n : Nat) : MemResult × State :=
  let r := s.memCheck a n
  if r = (0x0F, 4) then
    let g := (s.regionOf a).getD 0
    (r, (s.event memEvq (memEvent 7 g 0 0)).event cobblerEvq (6 <<< 59 ||| g))
  else (r, s)

end Sys2Proof.Machine
end

