-- ==== Sys2Proof/Machine/Thread.lean ====
section
/-! DEFINITION. Threads of the spindles: their numbers and endpoints, states, registers, events and notices (chapter 02). -/

namespace Sys2Proof.Machine

open Sys2Proof

/-! ### Numbers and endpoints

A thread is numbered 8 × (16 × mule + logical spindle) + t; the Cobbler's cores are numbered from 8192. -/

def cobBase : Nat := 8192
def isCob (tid : Nat) : Bool := decide (cobBase ≤ tid)
def tOf (tid : Nat) : Nat := tid % 8
/-- The spindle of a thread: 16 × mule + logical spindle. -/
def spOf (tid : Nat) : Nat := tid / 8
def muleOf (sp : Nat) : Nat := sp / 16
def logOf (sp : Nat) : Nat := sp % 16
def tidOf (sp t : Nat) : Nat := 8 * sp + t

/-- R67: the endpoint of a channel of a thread. -/
def epThread (tid ch : Nat) : Nat := muleOf (spOf tid) <<< 13 ||| logOf (spOf tid) <<< 8 ||| tOf tid <<< 5 ||| ch

/-- R67: the endpoint of a fixed unit. -/
def epUnit (unit inst : Nat) : Nat := 1 <<< 19 ||| unit <<< 13 ||| inst

/-- The sender endpoint of a thread; of a Cobbler core, the Cobbler's (R384). -/
def srcOf (tid : Nat) : Nat := if isCob tid then epUnit 7 0 else epThread tid 0

def epIsUnit (ep : Nat) : Bool := ep.testBit 19
def epUnitNo (ep : Nat) : Nat := bitsOf ep 18 13
def epInst (ep : Nat) : Nat := bitsOf ep 12 0
def epMule (ep : Nat) : Nat := bitsOf ep 18 13
def epSpindle (ep : Nat) : Nat := bitsOf ep 12 8
def epTid (ep : Nat) : Nat := tidOf (16 * epMule ep + epSpindle ep) (bitsOf ep 7 5)
/-- Spindle channel index of a thread endpoint, within the numbering 32 × spindle + 4 × thread + channel (R66). -/
def epChan (ep : Nat) : Nat := 32 * (16 * epMule ep + epSpindle ep) + 4 * bitsOf ep 7 5 + bitsOf ep 1 0

/-- R67: the fields of a thread endpoint are in range. -/
def epRangeOk (ep : Nat) : Bool := decide (epMule ep < 48) && decide (epSpindle ep < 16) && decide (bitsOf ep 4 2 = 0)

/-! ### Thread records -/

def Thread.reset : Thread :=
  { regs := [], pend := [], pc := 0, bank := 0, loops := [], staging := [], notice := none, resv := .none, events := 0, stitchSeen := 0,
    waitMask := 0, waitRd := 0, dirty := none, tickets := [], lkwStall := none, late := [], ywait := none, work := none, slots := 0, budget := 0,
    gen := 0, retireAt := none, scratchOp := none, devld := none, readyAt := 0, haltReq := none, haltFrom := 0,
    restartReq := none, restartDue := false, stepDue := false, portWait := none }

def Spindle.reset : Spindle :=
  { bank0 := none, bank1 := none, roleAt := none, roleForced := none, roleBack := none, roleStopped := [], allWaitAt := none,
    windowAt := none, t0Fault := false, issued := 0 }

def State.thr (s : State) (tid : Nat) : Thread := AMap.getD s.mules.threads tid Thread.reset

def State.setThr (s : State) (tid : Nat) (x : Thread) : State :=
  { s with mules := { s.mules with threads := AMap.setD Thread.reset s.mules.threads tid x } }

def State.modThr (s : State) (tid : Nat) (f : Thread → Thread) : State := s.setThr tid (f (s.thr tid))

def State.spindle (s : State) (sp : Nat) : Spindle := AMap.getD s.mules.spindles sp Spindle.reset

def State.setSpindle (s : State) (sp : Nat) (x : Spindle) : State :=
  { s with mules := { s.mules with spindles := AMap.setD Spindle.reset s.mules.spindles sp x } }

def State.modSpindle (s : State) (sp : Nat) (f : Spindle → Spindle) : State := s.setSpindle sp (f (s.spindle sp))

/-! ### Thread states (Table 2.1) -/

def tsOff : Nat := 0
def tsIdle : Nat := 1
def tsRun : Nat := 2
def tsWait : Nat := 3
def tsFault : Nat := 4
def tsHalt : Nat := 5
def tsYwait : Nat := 6

/-- The state field of a thread in MULE_THR_STATE. -/
def thrStateF (tid : Nat) : FRef :=
  ⟨(F.MULE_THR_STATE.STATE (muleOf (spOf tid)) (logOf (spOf tid))).addr, 3 * tOf tid + 2, 3 * tOf tid⟩

/-- The halted bit of a thread in MULE_DBG_HALT. -/
def haltedF (tid : Nat) : FRef :=
  ⟨(F.MULE_DBG_HALT.MASK (muleOf (spOf tid)) (logOf (spOf tid))).addr, 16 + tOf tid, 16 + tOf tid⟩

/-- The state of a thread. A Cobbler core runs. -/
def State.ts (s : State) (tid : Nat) : Nat := if isCob tid then tsRun else s.rd (thrStateF tid)

/-- A thread takes a state; MULE_DBG_HALT shows whether it is HALT. -/
def State.setTs (s : State) (tid st : Nat) : State :=
  if isCob tid then s
  else (s.wr (thrStateF tid) st).wr (haltedF tid) (if st = tsHalt then 1 else 0)

/-! ### Roles (Table 2.2) -/

def roleF (sp : Nat) : FRef := F.MULE_ROLE.ROLE (muleOf sp) (logOf sp)
def epochF (sp : Nat) : FRef := F.MULE_ROLE.EPOCH (muleOf sp) (logOf sp)
def State.role (s : State) (sp : Nat) : Nat := s.rd (roleF sp)
def roleControl : Nat := 3
def roleSpare : Nat := 4

/-- R54: a thread runs a bounded worker program: T1 to T7 of WORKER, STORAGE and CRYPTO_ORCH. -/
def State.bounded (s : State) (tid : Nat) : Bool := !isCob tid && tOf tid != 0 && decide (s.role (spOf tid) < 3)

/-- R63, R64: the spindle is in RUN service: a role change stops dispatch from the next stitch boundary, and one that was refused
lets it resume at the boundary after. -/
def State.runService (s : State) (sp : Nat) : Bool :=
  s.role sp != roleSpare && (match (s.spindle sp).roleAt with | none => true | some k => k == s.stitch) &&
    (match (s.spindle sp).roleBack with | none => true | some k => decide (k < s.stitch))

/-! ### Registers (R53) -/

/-- A register of a thread; g0 reads as zero. -/
def Thread.g (x : Thread) (r : Nat) : W64 := if r = 0 then 0 else AMap.getD x.regs r 0

/-- A write of a register; a write to g0 is discarded. -/
def Thread.setG (x : Thread) (r : Nat) (v : W64) : Thread :=
  if r = 0 then x else { x with regs := AMap.setD 0 x.regs r v }

/-- A result of the register has arrived. -/
def Thread.usable (x : Thread) (r : Nat) : Thread := { x with pend := x.pend.erase r }

/-- The register's result is pending; g0 never is. -/
def Thread.await (x : Thread) (r : Nat) : Thread := if r = 0 then x else { x with pend := r :: x.pend }

/-! ### Events and notices (R70 to R72, R77) -/

def evStale : Nat := 4
def evRefused : Nat := 5
def evStitch : Nat := 6
def evFault : Nat := 7
def evDeadlock : Nat := 8

/-- A latched event bit of a thread is set. -/
def State.raise (s : State) (tid bit : Nat) : State :=
  s.modThr tid fun x => { x with events := x.events ||| BitVec.ofNat 32 (2 ^ bit) }

/-- R72: a notice enters the record, or raises the count of the record that stands. -/
def Thread.note (x : Thread) (status dst tag epoch : Nat) : Thread :=
  match x.notice with
  | some n => { x with notice := some { n with count := min (n.count + 1) 255 } }
  | none => { x with notice := some ⟨status, dst, tag, epoch, 1⟩ }

/-- Status codes that notices and completions carry (Table 6.13). -/
def stOk : Nat := 0x00
def stAborted : Nat := 0x01
def stMalformed : Nat := 0x02
def stAccessDenied : Nat := 0x03
def stRange : Nat := 0x04
def stOverrun : Nat := 0x06
def stStaleEpoch : Nat := 0x0C
def stDeviceError : Nat := 0x0F

/-! ### Local memory (R56) -/

/-- The address in the memory of all spindles of a local address of a thread: T0 sees its spindle whole, the others their
own slice. -/
def lmemAt (tid a : Nat) : Nat := 65536 * spOf tid + (if tOf tid = 0 then a else 8192 * tOf tid + a)

/-- The address of a byte of the thread's own slice. -/
def sliceAt (tid a : Nat) : Nat := 65536 * spOf tid + 8192 * tOf tid + a

/-- How many bytes of local address space a thread may use. -/
def localRange (tid : Nat) : Nat := if isCob tid then 0x400000 else if tOf tid = 0 then 0x10000 else 0x2000

/-- Read bytes of local memory, or of the Cobbler's SRAM (R98). -/
def State.readLocal (s : State) (tid a n : Nat) : Bytes :=
  if isCob tid then Memory.read s.cobSram a n else Memory.read s.lmem (lmemAt tid a) n

/-- Write bytes of local memory, or of the Cobbler's SRAM. -/
def State.writeLocal (s : State) (tid a : Nat) (bs : Bytes) : State :=
  if isCob tid then { s with cobSram := Memory.write s.cobSram a bs }
  else { s with lmem := Memory.write s.lmem (lmemAt tid a) bs }

/-- Write bytes of a thread's own slice. -/
def State.writeSlice (s : State) (tid a : Nat) (bs : Bytes) : State :=
  { s with lmem := Memory.write s.lmem (sliceAt tid a) bs }

def State.readSlice (s : State) (tid a n : Nat) : Bytes := Memory.read s.lmem (sliceAt tid a) n

end Sys2Proof.Machine
end

