-- ==== Sys2Proof/Machine/Yarn.lean ====
section
/-! DEFINITION. Yarns: the channels and unit queues, the judgement of an arriving message, reservations and their
poisoning (R66 to R76, R103 to R106). -/

namespace Sys2Proof.Machine

open Sys2Proof

/-- Status values of the yarn-class operations (Table 3.10). -/
def ysOk : Nat := 0
def ysFull : Nat := 1
def ysStale : Nat := 2
def ysRefused : Nat := 3
def ysPartial : Nat := 4

/-! ### Headers (R68) -/

def MsgKind.code : MsgKind → Nat
  | .small => 0
  | .bulk => 1
  | .poisoned => 2

/-- The header word of a message (Table 2.4). -/
def Msg.header (m : Msg) : W64 :=
  BitVec.ofNat 64 (m.epoch <<< 56 ||| m.lenm1 <<< 48 ||| m.kind.code <<< 46 ||| m.tag <<< 40 ||| m.src <<< 20 ||| m.dst)

/-! ### Queues (R66) -/

def State.queueAt (s : State) (ep : Nat) : List Msg := AMap.getD s.yarn.queues ep []

def State.setQueue (s : State) (ep : Nat) (q : List Msg) : State :=
  { s with yarn := { s.yarn with queues := AMap.setD [] s.yarn.queues ep q } }

/-- Words a queue holds: capacity counts header words. -/
def wordsUsed (q : List Msg) : Nat := q.foldl (fun n m => n + m.lenm1 + 2) 0

/-- SIZE and EXT of a channel in the layout in force; a channel reads SIZE 6 and EXT 1 before any role change. -/
def State.chanCfg (s : State) (ch : Nat) : Nat := AMap.getD s.yarn.layout ch 22

def State.chanExt (s : State) (ch : Nat) : Bool := (s.chanCfg ch).testBit 4

/-- The words an endpoint's queue can hold. -/
def State.capacity (s : State) (ep : Nat) : Nat :=
  if epIsUnit ep then 512 + Config.unitQueueExtra ep else 2 ^ (s.chanCfg (epChan ep) % 16)

/-- The head message of a queue, if it is committed (R73). -/
def State.headAt (s : State) (ep : Nat) : Option Msg :=
  match s.queueAt ep with
  | m :: _ => if m.committed then some m else none
  | [] => none

/-- The level bits of a thread's event word: channel `n` holds a committed message at its head (Table 2.6). -/
def State.levelBits (s : State) (tid : Nat) : W32 :=
  (List.range 4).foldl (fun w n =>
    if (s.headAt (epThread tid n)).isSome then w ||| BitVec.ofNat 32 (2 ^ n) else w) 0

/-- R77: the STITCH bit: a boundary has passed since the thread last took the event. -/
def State.stitchBit (s : State) (tid : Nat) : W32 := if (s.thr tid).stitchSeen = s.stitch then 0 else BitVec.ofNat 32 (2 ^ evStitch)

/-- R77: a thread's pending-event word. -/
def State.pendingWord (s : State) (tid : Nat) : W32 := (s.thr tid).events ||| s.levelBits tid ||| s.stitchBit tid

/-! ### Judging an arrival (R70, R71) -/

/-- What an arriving message meets. -/
inductive Verdict where
  | ok | full
  | stale (epoch : Nat)
  | refused (cause : Nat)
  deriving DecidableEq, Repr

def stFenced : Nat := 0x0E

/-- R227: a queue engine accepts a KIND 1 message of 3 words and a KIND 2 message of 2 words, each naming a queue that is not
FREE and is homed on its half. -/
def State.engineAccepts (s : State) (m : Msg) : Bool :=
  let w0 := (m.words.headD 0).toNat
  let n := bitsOf w0 47 32
  let h := epInst m.dst
  if w0 % 16 = 1 then decide (m.lenm1 = 2) && (match AMap.get? s.q.wqs n with | some w => w.home == h | none => false)
  else if w0 % 16 = 2 then decide (m.lenm1 = 1) && (match AMap.get? s.q.cqs n with | some c => c.home == h | none => false)
  else false

/-- R71: the kinds and lengths of message each fixed unit accepts: the queue engines messages of 2 or 3 words, the cipher units the 8-word jobs of CSUB alone, the session service operations in bulk, the bobbin stores SMALL
messages of 1 or 2 words, the Editors one word whose source is 3, the Last update port bulk
messages, and the flow-context services, of which no rule names a message, none (DEDUCED, log entry 153). Every other message is refused. -/
def unitAccepts (ep : Nat) (m : Msg) : Bool :=
  let n := m.lenm1 + 1
  let i := epInst ep
  if epUnitNo ep = 1 then decide (i < 2) && m.kind == .small && (decide (n = 3) || decide (n = 2))
  else if epUnitNo ep = 2 then (decide (i < 2) && m.kind == .small && decide (n = 8)) || (decide (i = 2) && m.kind != .small)
  else if epUnitNo ep = 3 then decide (i < 2) && m.kind == .small && decide (n ≤ 2)
  else if epUnitNo ep = 4 then
    decide (i < 2) && m.kind == .small && decide (n = 1) && ((m.words.headD 0).toNat / 2 ^ 24 % 8 == 3)
  else if epUnitNo ep = 5 then decide (i = 0) && m.kind != .small
  else if epUnitNo ep = 7 then decide (i = 0)
  else false

/-- R67, R71: the INSTANCE of a fixed unit's endpoint is one that the unit's chapter defines. -/
def unitInstOk (ep : Nat) : Bool :=
  let n := epUnitNo ep
  let i := epInst ep
  if n = 1 ∨ n = 3 ∨ n = 4 then decide (i < 2)
  else if n = 2 ∨ n = 5 then decide (i < 3)
  else if n = 6 then decide (i < 48)
  else n == 7 && i == 0

/-- The half a fixed unit's endpoint lies on: instance 1 of the two-instance units, instance 2 of Last, the mule
controllers of mules 24 to 47. -/
def unitHalf (ep : Nat) : Nat :=
  let i := epInst ep
  if epUnitNo ep = 6 then halfOfMule i
  else if epUnitNo ep = 5 then (if i = 2 then 1 else 0)
  else if i = 1 then 1 else 0

/-- R198: the session service takes messages of long-work threads on mules named in CIPHER_KEYSRC. -/
def State.keySource (s : State) (src : Nat) : Bool :=
  !epIsUnit src && (s.rd F.CIPHER_KEYSRC.MULE).testBit (epMule src) && !s.bounded (epTid src)

/-- R70, R71, R69: what a message meets at its destination, with the first refusal of R71's list that applies. A
destination field out of range is judged before the epoch, which needs a destination to be compared with. -/
def State.judge (s : State) (m : Msg) (reply : Bool) : Verdict :=
  let ep := m.dst
  let need := m.lenm1 + 2
  if epIsUnit ep then
    if unitInstOk ep = false then .refused stRange
    else if unitHalf ep = 1 ∧ s.fencedB then .refused stFenced
    else if ep = epUnit 2 2 ∧ s.keySource m.src = false then .refused stAccessDenied
    else if unitAccepts ep m = false ∨ (epUnitNo ep = 1 ∧ s.engineAccepts m = false) then .refused stRange
    else if wordsUsed (s.queueAt ep) + need ≤ s.capacity ep then .ok else .full
  else if epRangeOk ep = false then .refused stRange
  else
    let sp := spOf (epTid ep)
    let outside := s.chanExt (epChan ep) = false ∧ reply = false ∧ (epIsUnit m.src ∨ spOf (epTid m.src) ≠ sp)
    if halfOfMule (epMule ep) = 1 ∧ s.fencedB then .refused (if outside then stAccessDenied else stFenced)
    else if s.rd (epochF sp) ≠ m.epoch ∨ m.epoch = 0 then .stale (s.rd (epochF sp))
    else if outside then .refused stAccessDenied
    else if need > s.capacity ep then .refused stRange
    else if wordsUsed (s.queueAt ep) + need ≤ s.capacity ep then .ok else .full

/-- R70 to R72: the sender of a message that was discarded or refused is told; a fixed unit learns it otherwise. -/
def State.notify (s : State) (src status dst tag epoch : Nat) : State :=
  if epIsUnit src then s
  else
    let tid := epTid src
    let s := s.modThr tid fun x => x.note status dst tag epoch
    if status = stStaleEpoch then s.raise tid evStale
    else (s.raise tid evRefused).count (F.MULE_STAT.REFUSED.CNT (epMule src)) 1

/-- R70: a message is discarded as stale. -/
def State.discardStale (s : State) (m : Msg) (epoch : Nat) : State :=
  (s.count (F.MULE_STAT.STALE_DISCARD.CNT (epMule m.dst)) 1).notify m.src stStaleEpoch m.dst m.tag epoch

/-! ### Sending -/

/-- A fresh message number. -/
def State.freshMsg (s : State) : Nat × State :=
  (s.yarn.nextId, { s with yarn := { s.yarn with nextId := s.yarn.nextId + 1 } })

def State.setFlights (s : State) (fs : List Flight) : State := { s with yarn := { s.yarn with flights := fs } }

/-- A yarn-class operation or a message of a unit goes on its way. -/
def State.launch (s : State) (f : Flight) : State := s.setFlights (s.yarn.flights ++ [f])

/-- The pending results of some registers of a thread are discarded when they come. -/
def State.supersede (s : State) (tid : Nat) (rs : List Nat) : State :=
  if (s.thr tid).pend.all (fun r => !rs.contains r) then s
  else
    let s := s.setFlights (s.yarn.flights.map fun f => if f.owner = some tid ∧ rs.contains f.rd then { f with rd := 0 } else f)
    let q := s.mules.scratchQ.map fun r =>
      if r.thread = tid ∧ r.rd.any (fun k => rs.contains k) then { r with rd := some 0 } else r
    ({ s with mules := { s.mules with scratchQ := q } }).modThr tid fun x => { x with pend := x.pend.filter (fun r => !rs.contains r) }

/-- R68: a fixed unit sends a SMALL message; it is retried while the channel is full, and discarded when stale or
refused. -/
def State.unitSend (s : State) (src dst epoch tag : Nat) (words : List W64) (reply : Bool) : State :=
  let (id, s) := s.freshMsg
  s.launch { op := .send, owner := none, gen := 0, rd := 0, blocking := true, after := none, status := none, reply := reply, post := none,
             msg := { id := id, epoch := epoch, lenm1 := words.length - 1, kind := .small, tag := tag, src := src, dst := dst,
                      words := words, committed := true } }

/-- R68: a unit's reply goes to the request's SRC on a channel, with the request's EPOCH and TAG. -/
def State.unitReply (s : State) (src : Nat) (req : Msg) (ch : Nat) (words : List W64) : State :=
  s.unitSend src (req.src / 4 * 4 + ch) req.epoch req.tag words true

/-- A message accepted whole at the tail of its destination's queue. -/
def State.enqueue (s : State) (m : Msg) : State := s.setQueue m.dst (s.queueAt m.dst ++ [m])

/-- A unit's message that is tried once: the verdict, and the state with the message queued when it was accepted. `reply` says that
it answers an operation that the destination's spindle issued (R71). -/
def State.trySend (s : State) (src dst epoch tag : Nat) (words : List W64) (reply : Bool) : Verdict × State :=
  let (id, s) := s.freshMsg
  let m : Msg := { id := id, epoch := epoch, lenm1 := words.length - 1, kind := .small, tag := tag, src := src, dst := dst,
                   words := words, committed := true }
  match s.judge m reply with
  | .ok => (.ok, s.enqueue m)
  | .stale e => (.stale e, s.discardStale m e)
  | v => (v, s)

/-! ### Reservations (R73, R74) -/

/-- Replace the message of a number in a queue. -/
def replaceMsg (q : List Msg) (id : Nat) (f : Msg → Msg) : List Msg := q.map (fun m => if m.id = id then f m else m)

/-- R73, R74: a reservation is committed with a kind; the stale check is made again, and an outdated one is discarded.
The flag tells whether it was committed. -/
def State.closeResv (s : State) (dst id : Nat) (kind : MsgKind) : Bool × State :=
  match (s.queueAt dst).find? (fun m => m.id == id) with
  | none => (false, s)
  | some m =>
    if epIsUnit dst = false ∧ s.rd (epochF (spOf (epTid dst))) ≠ m.epoch then
      (false, (s.setQueue dst ((s.queueAt dst).filter (fun x => x.id != id))).discardStale m
        (s.rd (epochF (spOf (epTid dst)))))
    else (true, s.setQueue dst (replaceMsg (s.queueAt dst) id fun m => { m with committed := true, kind := kind }))

/-- R74: a thread's reservation is closed other than by its YCOMMIT. The count is that of the sender's mule, and it rises also where
the stale check discards the message (DESIGN CHOICE, log entry 147). A YRES whose status has not returned is closed when it
is granted (R73). -/
def State.poison (s : State) (tid : Nat) : State :=
  match (s.thr tid).resv with
  | .opened id dst _ =>
    let s := (s.closeResv dst id .poisoned).2
    (s.modThr tid fun x => { x with resv := .poisoned }).count (F.MULE_STAT.POISONED.CNT (muleOf (spOf tid))) 1
  | .asked id => s.modThr tid fun x => { x with resv := .stopped id }
  | _ => s

/-- Messages of a queue that pass `p` and are poisoned, ahead of every other that passes it: their count, and the rest. -/
def spoiltLead (p : Msg → Bool) : List Msg → Nat × List Msg
  | [] => (0, [])
  | m :: t =>
    if p m then
      if m.committed ∧ m.kind = .poisoned then ((spoiltLead p t).1 + 1, (spoiltLead p t).2) else (0, m :: t)
    else ((spoiltLead p t).1, m :: (spoiltLead p t).2)

/-- R75: a fixed unit discards the poisoned messages it comes to, among those that pass `p`, and counts them: the spec names no register
of the count (log entry 153). -/
def State.dropSpoilt (s : State) (ep : Nat) (p : Msg → Bool) : State :=
  let (n, q) := spoiltLead p (s.queueAt ep)
  if n = 0 then s
  else
    let s := s.setQueue ep q
    { s with yarn := { s.yarn with discarded := AMap.set s.yarn.discarded ep (AMap.getD s.yarn.discarded ep 0 + n) } }

/-! ### Arrival and status (R69, R70, R73, R76) -/

/-- An earlier operation of the same sender to the same channel has not been accepted yet (R76). -/
def blockedBy (fs : List Flight) (m : Msg) : Bool :=
  fs.any (fun f => decide (f.msg.id < m.id) && f.msg.src == m.src && f.msg.dst == m.dst && f.status.isNone && f.post.isNone)

/-- The scratch access an operation must wait for is still to be performed (R61). -/
def State.scratchWaits (s : State) (f : Flight) : Bool :=
  match f.after with
  | some id => s.mules.scratchQ.any (fun r => r.id == id)
  | none => false

/-- The half an endpoint lies on. -/
def epHalf (ep : Nat) : Nat := if epIsUnit ep then unitHalf ep else halfOfMule (epMule ep)

/-- R418: the message would cross a seam that carries no traffic, and is held. -/
def State.crossHeld (s : State) (m : Msg) : Bool := s.seamHeld && epHalf m.src != epHalf m.dst

/-- The flight of a message number takes a status; a unit's own message has no one to tell. -/
def State.answer (s : State) (id st : Nat) : State :=
  s.setFlights (s.yarn.flights.filterMap fun f =>
    if f.msg.id = id ∧ f.status.isNone then (if f.owner.isNone then none else some { f with status := some st }) else some f)

/-- R69 to R74: the operation of a message number reaches its destination. A blocking operation that finds the channel full
stays under way and is retried. -/
def State.arrive (s : State) (id : Nat) : State :=
  match s.yarn.flights.find? (fun f => f.msg.id == id && f.status.isNone) with
  | none => s
  | some f =>
    if s.scratchWaits f ∨ blockedBy s.yarn.flights f.msg ∨ s.crossHeld f.msg then s
    else match f.op with
    | .send | .reserve =>
      match s.judge f.msg f.reply with
      | .ok => (s.enqueue f.msg).answer id ysOk
      | .full => if f.blocking then s else s.answer id ysFull
      | .stale e => (s.discardStale f.msg e).answer id ysStale
      | .refused c => (s.notify f.msg.src c f.msg.dst f.msg.tag 0).answer id ysRefused
    | .commit =>
      let s := s.setQueue f.msg.dst (replaceMsg (s.queueAt f.msg.dst) id fun m => { m with words := f.msg.words })
      let (ok, s) := s.closeResv f.msg.dst id .bulk
      s.answer id (if ok then ysOk else ysStale)
    | _ => s

/-- R73, R74: the status of a YRES returns: its reservation is open, or it has none; one granted to a thread that was stopped
meanwhile is closed poisoned. -/
def State.resvReturn (s : State) (tid id dst : Nat) (granted : Bool) : State :=
  let poisoned := fun (s : State) => ((s.closeResv dst id .poisoned).2).count (F.MULE_STAT.POISONED.CNT (muleOf (spOf tid))) 1
  let x := s.thr tid
  if x.resv = .asked id then s.modThr tid fun x => { x with resv := if granted then .opened id dst s.clk.cycles else .none }
  else if x.resv = .stopped id then
    if granted then (poisoned s).modThr tid fun x => { x with resv := .poisoned } else s.modThr tid fun x => { x with resv := .none }
  else if granted then poisoned s else s

/-- R69, R83, R432: the operation a thread waits for in YWAIT has ended: it runs, or will when its halt or its spindle's swap
ends. -/
def State.endYwait (s : State) (tid : Nat) : State :=
  let s := s.modThr tid fun x => { x with ywait := none }
  if s.ts tid = tsYwait then s.setTs tid tsRun
  else if s.ts tid = tsHalt then
    let s := if (s.thr tid).haltFrom = tsYwait then s.modThr tid fun x => { x with haltFrom := tsRun } else s
    if AMap.get? s.flt.stopped tid = some tsYwait then { s with flt := { s.flt with stopped := AMap.set s.flt.stopped tid tsRun } }
    else s
  else s

/-- R104, R73, R117: the status of an operation returns to its thread, or is discarded with an earlier dispatch. -/
def State.statusReturn (s : State) (id : Nat) : State :=
  match s.yarn.flights.find? (fun f => f.msg.id == id && f.status.isSome) with
  | none => s
  | some f =>
    let st := f.status.getD 0
    let s := s.setFlights (s.yarn.flights.filter (fun g => g.msg.id != id || g.op != f.op))
    match f.owner with
    | none => s
    | some tid =>
      let s := if f.op = .reserve then s.resvReturn tid id f.msg.dst (st == ysOk) else s
      if (s.thr tid).gen = f.gen then
        let s := s.modThr tid fun x => (x.setG f.rd (BitVec.ofNat 64 st)).usable f.rd
        if (s.thr tid).ywait = some id then s.endYwait tid else s
      else s

/-- R69: a blocking operation that waits on a full channel is tried again. -/
def execBlockingSendRetry (id : Nat) (s : State) : Host.Outcome State Fault Refusal := .next (s.arrive id)

/-- R104: a yarn-class status returns to the issuing thread. -/
def execYarnStatusReturn (id : Nat) (s : State) : Host.Outcome State Fault Refusal := .next (s.statusReturn id)

/-- R74: a reservation open for YRES_LIMIT × 64 cycles, 0 acting as 1, is committed poisoned. -/
def execReservationExpiry (tid : Nat) (s : State) : Host.Outcome State Fault Refusal :=
  match (s.thr tid).resv with
  | .opened _ _ since =>
    let m := muleOf (spOf tid)
    if since + 64 * max 1 (s.rd (F.MULE_YARN_CFG.YRES_LIMIT m)) ≤ s.clk.cycles then
      .next ((s.poison tid).count (F.MULE_STAT.YRES_EXPIRED.CNT m) 1)
    else .next s
  | _ => .next s

end Sys2Proof.Machine
end

