-- ==== Sys2Proof/Machine/Bobbin.lean ====
section
/-! DEFINITION. The bobbin store (chapter 07): pools and partitions, allocation with spilling, watermarks, release, chains
of bobbins and the operations of threads. -/

namespace Sys2Proof.Machine

open Sys2Proof

/-! ### Pools and handles (R246, R247) -/

/-- Granules of a bobbin of a class (Table 7.1). -/
def granules (c : Nat) : Nat := [1, 2, 4, 8, 16, 36, 64, 256].getD c 256

/-- Bytes of a bobbin of a class. -/
def classSize (c : Nat) : Nat := 256 * granules c

def State.poolBase (s : State) (h c : Nat) : Nat := s.rd (F.BOBBIN_CLASS.BASE (8 * h + c))
def State.poolCount (s : State) (h c : Nat) : Nat := s.rd (F.BOBBIN_CLASS.COUNT (8 * h + c))
def State.refPool (s : State) (h c : Nat) : Bool := s.flag (F.BOBBIN_CLASS.MODE (8 * h + c))
def State.poolFree (s : State) (h c : Nat) : Nat := s.rd (F.BOBBIN_POOL.FREE (8 * h + c))

def Pool.reset : Pool := { retired := [], dups := [], reserve := 0, fresh := [], freshDups := 0, freshReserve := 0, freshAt := 0 }
def State.pool (s : State) (h c : Nat) : Pool := AMap.getD s.bob.pools (8 * h + c) Pool.reset
def State.setPool (s : State) (h c : Nat) (p : Pool) : State :=
  { s with bob := { s.bob with pools := AMap.setD Pool.reset s.bob.pools (8 * h + c) p } }

def Bobbin.reset : Bobbin :=
  { next := 0, refcnt := 0, len := 0, cls := 0, tenant := 0, owner := 0, alloc := false, track := false, off := 0, held := false }
def State.desc (s : State) (handle : Nat) : Bobbin := AMap.getD s.bob.descs handle Bobbin.reset
def State.setDesc (s : State) (handle : Nat) (b : Bobbin) : State :=
  { s with bob := { s.bob with descs := AMap.setD Bobbin.reset s.bob.descs handle b } }

def handleHalf (handle : Nat) : Nat := handle / 2 ^ 23
def handleGranule (handle : Nat) : Nat := handle % 2 ^ 23
def handleOf (h g : Nat) : Nat := h * 2 ^ 23 + g

/-- The pool a granule of a half lies in: a carved region that contains it. -/
def State.classAt (s : State) (h g : Nat) : Option Nat :=
  (List.range 8).find? (fun c =>
    decide (s.poolBase h c ≤ g) && decide (g < s.poolBase h c + s.poolCount h c * granules c))

/-- R262, R247: the device address of a bobbin's first byte. -/
def State.bobAddr (s : State) (handle : Nat) : Nat :=
  let h := handleHalf handle
  let g := handleGranule handle
  if g < 262144 then s.rd (F.BOBBIN_SKEIN_ADDR.ADDR h) + 256 * g
  else s.rd (F.BOBBIN_DRAM_BASE.BASE h) * 65536 + 256 * (g - 262144)

/-! ### Partitions and watermarks (R251, R254, R255) -/

def inUseF (h t c : Nat) : FRef :=
  if h = 0 then F.BOBBIN_PART_W8.IN_USE_A (8 * t + c) else F.BOBBIN_PART_W8.IN_USE_B (8 * t + c)
def levelF (h t c : Nat) : FRef :=
  if h = 0 then F.BOBBIN_PART_W8.LEVEL_A (8 * t + c) else F.BOBBIN_PART_W8.LEVEL_B (8 * t + c)
def State.inUse (s : State) (h t c : Nat) : Nat := s.rd (inUseF h t c)
def State.partMin (s : State) (t c : Nat) : Nat := s.rd (F.BOBBIN_PART_W0.MIN (8 * t + c))
def State.partMax (s : State) (t c : Nat) : Nat := s.rd (F.BOBBIN_PART_W0.MAX (8 * t + c))

def markKey (h t c : Nat) : Nat := 32768 * h + 8 * t + c
def State.marks (s : State) (h t c : Nat) : Nat := AMap.getD s.bob.marks (markKey h t c) 0
def State.setMarks (s : State) (h t c m : Nat) : State :=
  { s with bob := { s.bob with marks := AMap.setD 0 s.bob.marks (markKey h t c) m } }

/-- The watermark fields WARN, SLOW and STOP of a partition, in sixty-fourths. -/
def State.markW (s : State) (t c i : Nat) : Nat :=
  if i = 0 then s.rd (F.BOBBIN_PART_W0.WARN (8 * t + c))
  else if i = 1 then s.rd (F.BOBBIN_PART_W0.SLOW (8 * t + c))
  else s.rd (F.BOBBIN_PART_W0.STOP (8 * t + c))

/-- R254: E of a partition in a half. -/
def State.partE (s : State) (h t c : Nat) : Nat := min (s.partMax t c) (s.poolCount h c)

/-- R254: the level of a watermark. -/
def State.markLevel (s : State) (h t c i : Nat) : Nat := (s.markW t c i * s.partE h t c + 63) / 64

/-- R254: the step. -/
def State.markStep (s : State) (h t c : Nat) : Nat := max 1 (s.partE h t c / 64)

/-- An event of the bobbin store. -/
def bobEvent (kind handle half cls tenant : Nat) : Nat :=
  kind <<< 59 ||| handle <<< 24 ||| half <<< 23 ||| cls <<< 20 ||| tenant

/-- The highest watermark of a set in force: 0 none, 1 WARN, 2 SLOW, 3 STOP. -/
def highestMark (m : Nat) : Nat := if m.testBit 2 then 3 else if m.testBit 1 then 2 else if m.testBit 0 then 1 else 0

/-- R254, R255: after an allocation, the watermarks whose level IN_USE has reached come in force, each with its event. -/
def State.enterMarks (s : State) (h t c : Nat) : State :=
  let n := s.inUse h t c
  let s := (List.range 3).foldl (fun s i =>
    if s.markW t c i ≠ 0 ∧ s.markLevel h t c i ≤ n ∧ (s.marks h t c).testBit i = false then
      (s.setMarks h t c (s.marks h t c ||| 2 ^ i)).event bobbinEvq (bobEvent (i + 1) 0 h c t)
    else s) s
  s.wr (levelF h t c) (highestMark (s.marks h t c))

/-- R254, R255: after a release, the watermarks whose level minus the step IN_USE has fallen to are left; the event names
the highest still in force, or CLEAR. -/
def State.leaveMarks (s : State) (h t c : Nat) : State :=
  let n := s.inUse h t c
  let m := s.marks h t c
  let m' := (List.range 3).foldl (fun m i =>
    if m.testBit i ∧ (n + s.markStep h t c ≤ s.markLevel h t c i) then m - 2 ^ i else m) m
  if m' = m then s
  else
    let k := highestMark m'
    ((s.setMarks h t c m').event bobbinEvq (bobEvent (if k = 0 then 4 else k) 0 h c t)).wr (levelF h t c) k

/-- R254: a watermark that a write of its partition disables is in force no more; only a release writes an event of a leaving (DESIGN
CHOICE, log entry 154). -/
def State.dropMarks (s : State) (h t c : Nat) : State :=
  let m := s.marks h t c
  let m' := (List.range 3).foldl (fun m i => if m.testBit i ∧ s.markW t c i = 0 then m - 2 ^ i else m) m
  if m' = m then s else (s.setMarks h t c m').wr (levelF h t c) (highestMark m')

/-- R256: the partition is at STOP. -/
def State.atStop (s : State) (h t c : Nat) : Bool := (s.marks h t c).testBit 2

/-- R255: some partition of the tenant on the half is at SLOW or STOP. -/
def State.tenantSlow (s : State) (h t : Nat) : Bool := (List.range 8).any (fun c => decide (2 ≤ highestMark (s.marks h t c)))

/-! ### Allocation (R251 to R253) -/

/-- The carved classes of a half whose size is at least a length, smallest first. -/
def State.classesFor (s : State) (h len : Nat) : List Nat :=
  (List.range 8).filter (fun c => decide (0 < s.poolCount h c) && decide (len ≤ classSize c))

/-- The largest carved class of a half. -/
def State.largestClass (s : State) (h : Nat) : Option Nat :=
  ((List.range 8).filter (fun c => decide (0 < s.poolCount h c))).getLast?

/-- R252: the class a request takes: the smallest that holds the length; where none does, a packet source takes the largest
carved class. -/
def State.chooseClass (s : State) (h len : Nat) (packet : Bool) : Option Nat :=
  match s.classesFor h len with
  | c :: _ => some c
  | [] => if packet then s.largestClass h else none

/-- R263: what a pool's releases of the present cycle have given back. -/
def State.freshOf (s : State) (h c : Nat) : Pool :=
  let p := s.pool h c
  if p.freshAt = s.clk.cycles then p else Pool.reset

/-- R263: the free bobbins of a pool that an allocation of the present cycle may take. -/
def State.poolReady (s : State) (h c : Nat) : Nat := s.poolFree h c - (s.freshOf h c).fresh.length - (s.freshOf h c).freshDups

/-- R251, R263: the pool gives the tenant a bobbin. -/
def State.poolGives (s : State) (h c t : Nat) : Bool :=
  let n := s.inUse h t c
  let f := s.poolReady h c
  decide (0 < f) && decide (n < s.partMax t c) &&
    (decide (n < s.partMin t c) || decide ((s.pool h c).reserve - (s.freshOf h c).freshReserve < f))

/-- R253: the classes a request tries, in order: the chosen one, and the next larger carved one as long as the pools allow
spilling up. -/
def State.spillPath (s : State) (h : Nat) : List Nat → List Nat
  | [] => []
  | c :: t => if s.flag (F.BOBBIN_CLASS.SPILL_UP (8 * h + c)) then c :: s.spillPath h t else [c]

/-- The `n`-th free index of a pool whose indices out of the free list are given in rising order. -/
def nthFree : List Nat → Nat → Nat
  | [], n => n
  | a :: t, n => if a ≤ n then nthFree t (n + 1) else n

/-- A number set into a rising list. -/
def setRising (n : Nat) : List Nat → List Nat
  | [] => [n]
  | a :: t => if n < a then n :: a :: t else if n = a then a :: t else a :: setRising n t

/-- The indices of a pool that an allocation may not take: held and retired bobbins, and those freed in the present cycle (R263), in
rising order. -/
def State.outIndices (s : State) (h c : Nat) : List Nat :=
  let held := (s.bob.descs.filter (fun e => handleHalf e.1 == h && e.2.cls == c && e.2.held)).map (fun e => e.1)
  (((s.pool h c).retired ++ (s.freshOf h c).fresh).foldl (fun l b => setRising b l) held).map
    (fun b => (handleGranule b - s.poolBase h c) / granules c)

/-- The handle an allocation takes from a pool, some free one (a free value), and the pool after it. -/
def State.takeFree (s : State) (h c : Nat) : Nat × State :=
  let p := s.pool h c
  let k := Config.bobbinPick s.freeCtr % s.poolReady h c
  let d := p.dups.length - (s.freshOf h c).freshDups
  let s := s.tookFree
  if k < d then
    (p.dups.getD k 0, s.setPool h c { p with dups := p.dups.eraseIdx k })
  else
    (handleOf h (s.poolBase h c + granules c * nthFree (s.outIndices h c) (k - d)), s)

/-- R251, R254, R257, R258, R260: one bobbin of a pool for a tenant and a requester. -/
def State.allocFrom (s : State) (h c t owner : Nat) (compat : Bool) : Nat × State :=
  let (handle, s) := s.takeFree h c
  let n := s.inUse h t c
  let p := s.pool h c
  let s := if n < s.partMin t c then s.setPool h c { p with reserve := p.reserve - 1 } else s
  let ref := s.refPool h c
  let s := s.setDesc handle
    { next := 0, refcnt := if ref then 1 else 0, len := 0, cls := c, tenant := t, owner := if ref then 0 else owner,
      alloc := compat, track := compat, off := 0, held := true }
  let s := (s.wr (inUseF h t c) (n + 1)).wr (F.BOBBIN_POOL.FREE (8 * h + c)) (s.poolFree h c - 1)
  (handle, (s.count F.BOBBIN_STAT.ALLOCS.CNT 1).enterMarks h t c)

/-- R248, R252, R253: a request for one bobbin: the handle, or none when the last class tried is empty. -/
def State.request (s : State) (h t len owner : Nat) (packet compat : Bool) : Option Nat × State :=
  if s.rd F.BOBBIN_STATUS.READY = 0 then (none, s.count F.BOBBIN_STAT.NO_BUFFER.CNT 1)
  else match s.chooseClass h len packet with
    | none => (none, s.count F.BOBBIN_STAT.NO_BUFFER.CNT 1)
    | some c0 =>
      let path := s.spillPath h ((List.range 8).filter (fun c => decide (c0 ≤ c) && decide (0 < s.poolCount h c)))
      match path.find? (fun c => s.poolGives h c t) with
      | none => (none, s.count F.BOBBIN_STAT.NO_BUFFER.CNT 1)
      | some c =>
        let (b, s) := s.allocFrom h c t owner compat
        (some b, if c = c0 then s else s.count F.BOBBIN_STAT.SPILLS.CNT 1)

/-! ### Release (R257 to R260) -/

/-- A bobbin of a pool's free list: freed in the present cycle, for the first time or again (R259, R263). -/
def State.freed (s : State) (h c handle : Nat) (again : Bool) : State :=
  let p := { s.pool h c with fresh := (s.freshOf h c).fresh, freshDups := (s.freshOf h c).freshDups,
                             freshReserve := (s.freshOf h c).freshReserve, freshAt := s.clk.cycles }
  s.setPool h c (if again then { p with dups := p.dups ++ [handle], freshDups := p.freshDups + 1 } else { p with fresh := handle :: p.fresh })

/-- A bobbin returns to its pool: the partition counts fall, never below zero, and a bobbin that is already free enters the
free list again (R259). -/
def State.releaseBobbin (s : State) (handle : Nat) : State :=
  let b := s.desc handle
  let h := handleHalf handle
  let c := (s.classAt h (handleGranule handle)).getD b.cls
  let n := s.inUse h b.tenant c
  let s := (if b.held then s.setDesc handle { b with held := false, refcnt := 0, alloc := false, track := false } else s).freed h c handle !b.held
  let s := { s with bob := { s.bob with bad := s.bob.bad.filter (· ≠ handle) } }
  let p := s.pool h c
  let s := if 0 < n ∧ n ≤ s.partMin b.tenant c then s.setPool h c { p with reserve := p.reserve + 1, freshReserve := p.freshReserve + 1 } else s
  let s := (s.wr (inUseF h b.tenant c) (n - 1)).wr (F.BOBBIN_POOL.FREE (8 * h + c)) (s.poolFree h c + 1)
  (s.count F.BOBBIN_STAT.FREES.CNT 1).leaveMarks h b.tenant c

/-- The bobbins of a chain from a handle along NEXT, at most `fuel` (R250). -/
def State.chainFrom (s : State) : Nat → Nat → List Nat
  | 0, _ => []
  | fuel + 1, handle => if handle = 0 then [] else handle :: s.chainFrom fuel (s.desc handle).next

/-- R250: the bobbins of a chain. -/
def State.chain (s : State) (handle : Nat) : List Nat := s.chainFrom 256 handle

/-! ### Operations on a bobbin (R257 to R260) -/

/-- The Editor of a half as owner (R257). -/
def editorEp (h : Nat) : Nat := epUnit 4 h

/-- R249: an endpoint as OWNER: CH is 0 for a thread. -/
def ownerEp (ep : Nat) : Nat := if epIsUnit ep then ep else ep / 4 * 4

def bdBadHandle : Nat := 1
def bdMisaligned : Nat := 2
def bdNotOwner : Nat := 3
def bdDoubleFree : Nat := 4
def bdEmpty : Nat := 5
def bdMode : Nat := 7
def bdRefcount : Nat := 8
def bdBadOp : Nat := 9
def bdTooLong : Nat := 10
def bdEcc : Nat := 12
def bdChain : Nat := 11

/-- The outcome of a store operation on one bobbin: a status and a detail, (0, 0) for success. -/
abbrev StoreResult := Nat × Nat

/-- R259, steps 1 and 2: the handle names a bobbin of the half. -/
def State.handleForm (s : State) (h handle : Nat) : StoreResult :=
  if handleHalf handle ≠ h then (stRange, bdBadHandle)
  else match s.classAt h (handleGranule handle) with
    | none => (stRange, bdBadHandle)
    | some c =>
      if (handleGranule handle - s.poolBase h c) % granules c ≠ 0 then (stRange, bdMisaligned) else (0, 0)

/-- R259: a failed check of steps 1 to 4 counts and writes an event naming the handle. -/
def State.checkFailed (s : State) (h handle kind : Nat) : State :=
  (s.count F.BOBBIN_STAT.CHECK_FAIL.CNT 1).event bobbinEvq
    (bobEvent kind handle h ((s.classAt h (handleGranule handle)).getD (s.desc handle).cls) (s.desc handle).tenant)

/-- R258 to R260: FREE (2), TRANSFER (3) or INCREF (4) of one bobbin by a requester. -/
def State.storeOne (s : State) (op h handle who newOwner : Nat) : StoreResult × State :=
  let f := s.handleForm h handle
  if f ≠ (0, 0) then (f, s.checkFailed h handle 6)
  else
    let c := (s.classAt h (handleGranule handle)).getD 0
    let ref := s.refPool h c
    let b := s.desc handle
    if (op = 3 ∧ ref) ∨ (op = 4 ∧ ref = false) then ((stMalformed, bdMode), s)
    else if ref = false ∧ b.owner ≠ who then ((stAccessDenied, bdNotOwner), s.checkFailed h handle 7)
    else if b.track ∧ b.alloc = false then ((stRange, bdDoubleFree), s.checkFailed h handle 5)
    else if op = 2 then
      if ref then
        if b.refcnt = 0 then ((stRange, bdRefcount), s)
        else if b.refcnt = 1 then ((0, 0), s.releaseBobbin handle)
        else ((0, 0), s.setDesc handle { b with refcnt := b.refcnt - 1 })
      else ((0, 0), s.releaseBobbin handle)
    else if op = 3 then ((0, 0), s.setDesc handle { b with owner := ownerEp newOwner })
    else if b.refcnt = 255 ∨ b.refcnt = 0 then ((stRange, bdRefcount), s)
    else ((0, 0), s.setDesc handle { b with refcnt := b.refcnt + 1 })

/-- R257 to R259: a unit frees a bobbin it holds, through the Editor of the bobbin's half, under the checks of every operation. -/
def State.dropBobbin (s : State) (handle : Nat) : State := (s.storeOne 2 (handleHalf handle) handle (editorEp (handleHalf handle)) 0).2

/-- A unit frees a chain it holds. -/
def State.dropChain (s : State) (handle : Nat) : State := (s.chain handle).foldl (fun s b => s.dropBobbin b) s

/-- R257: every bobbin of a chain gets a new OWNER. -/
def State.ownChain (s : State) (handle owner : Nat) : State :=
  (s.chain handle).foldl (fun s b => s.setDesc b { s.desc b with owner := ownerEp owner }) s

/-- A unit frees the chain of a message that it had handed on (R70, R160): it is the Editor's again. -/
def State.dropBack (s : State) (handle : Nat) : State := (s.ownChain handle (editorEp (handleHalf handle))).dropChain handle

/-- R264: a bobbin of a chain holds data that cannot be corrected. -/
def State.chainBad (s : State) (handle : Nat) : Bool := (s.chain handle).any (fun b => s.bob.bad.contains b)

/-! ### The bytes of a chain (R250) -/

/-- The bytes of one bobbin: LEN bytes from OFF. -/
def State.bobBytes (s : State) (handle : Nat) : Bytes :=
  let b := s.desc handle
  Memory.read s.mem (s.bobAddr handle + b.off) b.len

/-- The bytes of a packet, in chain order. -/
def State.chainBytes (s : State) (handle : Nat) : Bytes := (s.chain handle).flatMap (fun b => s.bobBytes b)

/-- Write bytes over the data of a chain, from its first data byte on. -/
def State.overwrite (s : State) : List Nat → Bytes → State
  | [], _ => s
  | b :: t, bs =>
    let d := s.desc b
    let s := { s with mem := Memory.write s.mem (s.bobAddr b + d.off) (bs.take d.len) }
    s.overwrite t (bs.drop d.len)

def State.overwriteChain (s : State) (handle : Nat) (bs : Bytes) : State := s.overwrite (s.chain handle) bs

/-- R253: the data of a bobbin of class 7 is class 3 work of the tenant's group. -/
def State.spillWork (s : State) (b h t n : Nat) : State :=
  if (s.desc b).cls = 7 then s.oweMem h (s.groupOf t) (s.bobAddr b + (s.desc b).off) n true else s

/-- Allocate a chain for the bytes of a packet: the first bobbin's data starts at `headroom`; each bobbin is requested for
`chunk` bytes, or for the bytes still to come where `chunk` is 0 (R250, R252). Answers the first handle, or none with every
bobbin taken freed again. -/
def State.storeFrom (s : State) (h t owner chunk : Nat) (compat : Bool) (acc : List Nat) : Nat → Nat → Bytes → Option (List Nat) × State
  | 0, _, _ => (some acc, s)
  | fuel + 1, off, bs =>
    match s.request h t (if chunk = 0 then bs.length + off else chunk) owner true compat with
    | (none, s) => (none, acc.foldl (fun s b => s.dropBobbin b) s)
    | (some b, s) =>
      let room := classSize (s.desc b).cls - off
      let here := bs.take room
      let s := s.setDesc b { s.desc b with off := off, len := here.length }
      let s := ({ s with mem := Memory.write s.mem (s.bobAddr b + off) here }).spillWork b h t here.length
      if (bs.drop room).isEmpty then (some (acc ++ [b]), s)
      else s.storeFrom h t owner chunk compat (acc ++ [b]) fuel 0 (bs.drop room)

/-- Link a list of bobbins into a chain. -/
def State.linkChain (s : State) : List Nat → State
  | a :: b :: t => (s.setDesc a { s.desc a with next := b }).linkChain (b :: t)
  | _ => s

/-- R250, R252: store a packet of a tenant in a chain of bobbins of a half. -/
def State.storePacket (s : State) (h t owner chunk : Nat) (compat : Bool) (bs : Bytes) : Option Nat × State :=
  match s.storeFrom h t owner chunk compat [] 256 (s.rd F.BOBBIN_CFG.HEADROOM) bs with
  | (some (b :: l), s) => (some b, s.linkChain (b :: l))
  | (_, s) => (none, s)

/-! ### Operations of threads (R259 to R262) -/

/-- R261: a chain operation: each bobbin in chain order, stopping at the first failure. Answers the result, the handle of
the failure, and how many were processed. -/
def State.storeChain (s : State) (op h who newOwner : Nat) : Nat → Nat → Nat → StoreResult × Nat × Nat × State
  | 0, handle, n => ((stRange, bdChain), handle, n, s)
  | fuel + 1, handle, n =>
    let next := (s.desc handle).next
    match s.storeOne op h handle who newOwner with
    | ((0, 0), s) => if next = 0 then ((0, 0), 0, n + 1, s) else s.storeChain op h who newOwner fuel next (n + 1)
    | (r, s) => (r, handle, n, s)

/-- The descriptor words of INFO (Table 7.2). -/
def Bobbin.words (b : Bobbin) : List W64 :=
  [BitVec.ofNat 64 (b.next ||| b.refcnt <<< 24 ||| b.len <<< 32 ||| b.cls <<< 49 ||| b.tenant <<< 52),
   BitVec.ofNat 64 (b.owner ||| (if b.alloc then 1 else 0) <<< 20 ||| (if b.track then 1 else 0) <<< 21 ||| b.off <<< 32)]

/-- Word 0 of a reply (R262). -/
def storeReply (r : StoreResult) (handle n : Nat) : W64 :=
  BitVec.ofNat 64 (r.1 ||| r.2 <<< 8 ||| handle <<< 16 ||| n <<< 40)

/-- R261, R262: one store operation: its reply words and the state after it. -/
def State.storeOp (s : State) (h : Nat) (m : Msg) : List W64 × State :=
  let w := (m.words.headD 0).toNat
  let w1 := (m.words.getD 1 0).toNat
  let op := bitsOf w 3 0
  let handle := bitsOf w 31 8
  let who := m.src
  if bitsOf w 7 5 ≠ 0 ∨ bitsOf w 63 61 ≠ 0 ∨ op = 0 ∨ 6 < op ∨ ((op = 3 ∨ op = 5) ∧ m.lenm1 = 0) then
    ([storeReply (stMalformed, bdBadOp) 0 0], s)
  else if op = 1 then
    let len := if bitsOf w 48 32 = 0 then 65536 else bitsOf w 48 32
    if 65536 < len then ([storeReply (stRange, bdTooLong) 0 0], s)
    else match s.request h (bitsOf w 60 49) len who false false with
      | (some b, s) => ([storeReply (0, 0) b 1], s)
      | (none, s) => ([storeReply (0x05, bdEmpty) 0 0], s)
  else if op = 5 then
    let f := s.handleForm h handle
    if f ≠ (0, 0) then ([storeReply f handle 0], s.checkFailed h handle 6)
    else
      let b := s.desc handle
      let ref := s.refPool h ((s.classAt h (handleGranule handle)).getD 0)
      let nxt := bitsOf w1 23 0
      let len := bitsOf w1 40 24
      let off := bitsOf w1 56 41
      if ref = false ∧ b.owner ≠ who then ([storeReply (stAccessDenied, bdNotOwner) handle 0], s.checkFailed h handle 7)
      else if classSize ((s.classAt h (handleGranule handle)).getD 0) < len + off then
        ([storeReply (stRange, bdTooLong) handle 0], s)
      else if nxt ≠ 0 ∧ s.handleForm h nxt ≠ (0, 0) then
        ([storeReply (s.handleForm h nxt) nxt 0], s.checkFailed h nxt 6)
      else ([storeReply (0, 0) 0 1], s.setDesc handle { b with next := nxt, len := len, off := off })
  else if op = 6 then
    let f := s.handleForm h handle
    let c := (s.classAt h (handleGranule handle)).getD 0
    if f ≠ (0, 0) then ([storeReply f handle 0, 0, 0], s.checkFailed h handle 6)
    else if s.refPool h c = false ∧ (s.desc handle).owner ≠ who then
      ([storeReply (stAccessDenied, bdNotOwner) handle 0, 0, 0], s.checkFailed h handle 7)
    else (storeReply (0, 0) 0 1 :: { s.desc handle with cls := c }.words, s)
  else if w.testBit 4 then
    let (r, at_, n, s) := s.storeChain op h who (bitsOf w1 19 0) 256 handle 0
    ([storeReply r at_ n], s)
  else
    let (r, s) := s.storeOne op h handle who (bitsOf w1 19 0)
    ([if r = (0, 0) then storeReply r 0 1 else storeReply r handle 0], s)

/-- R261, R263: the store of a half serves the message at the head of its queue, one in a cycle, when that message asks for
operation `op` or for one that does not exist, and replies on channel 0 of the sender. Which of several requests of a cycle comes
first is the order in which they came to the queue (DESIGN CHOICE, log entry 159). -/
def State.storeServe (s : State) (h op : Nat) : State :=
  match s.queueAt (epUnit 3 h) with
  | m :: t =>
    let o := bitsOf (m.words.headD 0).toNat 3 0
    if (o = op ∨ o = 0 ∨ 6 < o) ∧ (h = 1 ∧ s.fencedB) = False ∧ AMap.getD s.yarn.served (epUnit 3 h) 0 ≤ s.clk.cycles then
      let s := { s with yarn := { s.yarn with served := AMap.set s.yarn.served (epUnit 3 h) (s.clk.cycles + 1) } }
      let (ws, s) := (s.setQueue (epUnit 3 h) t).storeOp h m
      s.unitReply (epUnit 3 h) m 0 ws
    else s
  | [] => s

def execAlloc (h : Nat) (s : State) : Host.Outcome State Fault Refusal := .next (s.storeServe h 1)
def execTransfer (h : Nat) (s : State) : Host.Outcome State Fault Refusal := .next (s.storeServe h 3)
def execIncref (h : Nat) (s : State) : Host.Outcome State Fault Refusal := .next (s.storeServe h 4)
def execLink (h : Nat) (s : State) : Host.Outcome State Fault Refusal := .next (s.storeServe h 5)
def execBobbinInfo (h : Nat) (s : State) : Host.Outcome State Fault Refusal := .next (s.storeServe h 6)

/-! ### Carving and partition writes (R247, R248, R251) -/

/-- The fault of one pool's carving: OVERLAP with another pool of the half, AREA, or GRANULE0. BASE of BOBBIN_DRAM_BASE holds no
bits below 64 KiB, so cause 4 does not arise. -/
def State.carveFault (s : State) (h c : Nat) : Option Nat :=
  let b := s.poolBase h c
  let n := s.poolCount h c
  let e := b + n * granules c
  if n = 0 then none
  else if (List.range 8).any (fun d => d != c && decide (0 < s.poolCount h d) && decide (b < s.poolBase h d + s.poolCount h d * granules d) &&
      decide (s.poolBase h d < e)) then some 1
  else if (c < 7 ∧ 262144 < e) ∨ (c = 7 ∧ (b < 262144 ∨ 8388608 < e)) then some 2
  else if h = 0 ∧ b = 0 then some 3
  else none

/-- R248: the first pool at fault: 8 × half + class, with its cause. -/
def State.carvingFault (s : State) : Option (Nat × Nat) :=
  (List.range 16).findSome? (fun k => (s.carveFault (k / 8) (k % 8)).map (fun f => (k, f)))

/-- R248, R264: every carved bobbin of a half but the retired ones is free and every IN_USE of it is zero; the reserves are the sums of
MIN. -/
def State.carveHalf (s : State) (h : Nat) : State :=
  (List.range 8).foldl (fun s c =>
    let s := s.wr (F.BOBBIN_POOL.FREE (8 * h + c)) (s.poolCount h c - (s.pool h c).retired.length)
    s.setPool h c { Pool.reset with retired := (s.pool h c).retired, reserve := s.rd (F.BOBBIN_POOL.MIN_SUM (8 * h + c)) }) s

/-- R248: BOBBIN_CFG.EN is set: the carving is checked. -/
def State.bobbinEnable (s : State) : State :=
  match s.carvingFault with
  | some (k, f) =>
    (((s.wr F.BOBBIN_CFG.EN 0).wr F.BOBBIN_STATUS.CFG_FAIL 1).wr F.BOBBIN_STATUS.FAIL_POOL k).wr F.BOBBIN_STATUS.FAIL_CAUSE f
  | none => ((s.wr F.BOBBIN_CFG.EN 1).wr F.BOBBIN_STATUS.READY 1 |>.carveHalf 0).carveHalf 1

/-- R248: setting EN checks the carving; with EN already 1 nothing is carved again. -/
def execBobbinEnable (s : State) : Host.Outcome State Fault Refusal :=
  .next (if s.flag F.BOBBIN_STATUS.READY then s else s.bobbinEnable)

/-- R251: a partition write whose MIN would raise MIN_SUM above COUNT - RETIRED of a half's pool is refused. -/
def State.partRefused (s : State) (t c newMin : Nat) : Bool :=
  (List.range 2).any (fun h =>
    let sum := s.rd (F.BOBBIN_POOL.MIN_SUM (8 * h + c)) - s.partMin t c + newMin
    decide (s.rd (F.BOBBIN_POOL.MIN_SUM (8 * h + c)) < sum) &&
    decide (s.poolCount h c - s.rd (F.BOBBIN_POOL.RETIRED (8 * h + c)) < sum))

/-- R251: a partition takes MIN, MAX and watermarks from its word; MIN_SUM and the reserves follow. -/
def State.partWrite (s : State) (t c w : Nat) : State :=
  let newMin := bitsOf w 19 0
  let old := s.partMin t c
  let s := (List.range 2).foldl (fun s h =>
    let p := s.pool h c
    let n := s.inUse h t c
    (s.setPool h c { p with reserve := p.reserve - (old - n) + (newMin - n) }).wr (F.BOBBIN_POOL.MIN_SUM (8 * h + c))
      (s.rd (F.BOBBIN_POOL.MIN_SUM (8 * h + c)) - old + newMin)) s
  (List.range 2).foldl (fun s h => s.dropMarks h t c) (s.setWord (F.BOBBIN_PART_W0.MIN (8 * t + c)).addr (w % 2 ^ 58))

/-! ### Scrubbing (R264) -/

/-- R264: background scrubbing meets a correctable error, which it corrects, or an uncorrectable one in a bobbin: a free
bobbin is retired. -/
def State.bobbinScrub (s : State) (handle : Nat) (uncorrectable : Bool) : State :=
  let h := handleHalf handle
  match s.classAt h (handleGranule handle) with
  | none => s
  | some c =>
    if s.rd F.BOBBIN_CFG.SCRUB_EN = 0 ∨ s.rd F.BOBBIN_STATUS.READY = 0 ∨ (h = 1 ∧ s.haltedB) then s
    else if uncorrectable = false then s.count F.BOBBIN_STAT.SCRUB_CORR.CNT 1
    else if (s.desc handle).held then { s with bob := { s.bob with bad := handle :: s.bob.bad.filter (· ≠ handle) } }
    else if (s.pool h c).retired.contains handle then s
    else
      let p := s.pool h c
      let s := s.setDesc handle { s.desc handle with cls := c }
      let s := s.setPool h c { p with retired := handle :: p.retired, dups := p.dups.filter (· ≠ handle) }
      let r := s.rd (F.BOBBIN_POOL.RETIRED (8 * h + c)) + 1
      let s := (s.wr (F.BOBBIN_POOL.RETIRED (8 * h + c)) r).wr (F.BOBBIN_POOL.FREE (8 * h + c)) (s.poolFree h c - 1)
      let s := s.event bobbinEvq (bobEvent 8 handle h c 0)
      if s.poolCount h c - r < s.rd (F.BOBBIN_POOL.MIN_SUM (8 * h + c)) then
        s.event bobbinEvq (bobEvent 9 0 h c 0) else s

end Sys2Proof.Machine
end

