-- ==== Sys2Proof/Machine/Aes.lean ====
section
/-! DEFINITION. The ciphers and hash that chapters 02, 05 and 12 name and do not define: AES (FIPS 197), CTR and GCM (NIST SP
800-38A and 800-38D), XTS (IEEE 1619) and SHA-384 (FIPS 180-4). -/

namespace Sys2Proof.Machine

open Sys2Proof

/-! ### GF(2^8) and the S-box -/

/-- Multiplication by x in GF(2^8). -/
def xtime (b : Byte) : Byte := if b.getLsbD 7 then (b <<< 1) ^^^ 0x1B#8 else b <<< 1

/-- The product of GF(2^8), the bits of `a` taken from the top. -/
def gmulFrom (a b : Byte) : Nat → Byte → Byte
  | 0, acc => acc
  | n + 1, acc => gmulFrom a b n (if a.getLsbD n then xtime acc ^^^ b else xtime acc)

def gmul (a b : Byte) : Byte := gmulFrom a b 8 0#8

/-- The inverse of GF(2^8), x^254; 0 for 0. -/
def ginv (x : Byte) : Byte :=
  let x2 := gmul x x
  let x4 := gmul x2 x2
  let x8 := gmul x4 x4
  let x16 := gmul x8 x8
  let x32 := gmul x16 x16
  let x64 := gmul x32 x32
  let x128 := gmul x64 x64
  gmul x128 (gmul x64 (gmul x32 (gmul x16 (gmul x8 (gmul x4 x2)))))

def sbox (x : Byte) : Byte :=
  let y := ginv x
  y ^^^ y.rotateLeft 1 ^^^ y.rotateLeft 2 ^^^ y.rotateLeft 3 ^^^ y.rotateLeft 4 ^^^ 0x63#8

def invSbox (x : Byte) : Byte := ginv (x.rotateLeft 1 ^^^ x.rotateLeft 3 ^^^ x.rotateLeft 6 ^^^ 0x05#8)

def xorB (a b : Bytes) : Bytes := List.zipWith (fun x y => x ^^^ y) a b

/-! ### AES -/

/-- The next word of the key schedule: `i` its index, `nk` the key's words, `prev` the word before it, `back` the word `nk`
before it. -/
def nextKeyWord (i nk : Nat) (rcon : Byte) (prev back : Bytes) : Bytes :=
  let t := if i % nk = 0 then
      (match prev.map sbox with
       | a :: b :: c :: d :: _ => [b ^^^ rcon, c, d, a]
       | l => l)
    else if nk = 8 ∧ i % nk = 4 then prev.map sbox else prev
  xorB back t

/-- The key schedule from word `i` on, newest word first. -/
def expandFrom (nk : Nat) : Nat → Nat → Byte → List Bytes → List Bytes
  | 0, _, _, ws => ws
  | fuel + 1, i, rcon, ws =>
    let w := nextKeyWord i nk rcon (ws.headD []) (ws.getD (nk - 1) [])
    expandFrom nk fuel (i + 1) (if i % nk = 0 then xtime rcon else rcon) (w :: ws)

def wordsOfKey : Nat → Bytes → List Bytes
  | 0, _ => []
  | n + 1, k => k.take 4 :: wordsOfKey n (k.drop 4)

/-- The round keys of a key of `nk` words, first round first. -/
def roundKeys (nk : Nat) (key : Bytes) : List Bytes :=
  let total := 4 * (nk + 7)
  let ws := (expandFrom nk (total - nk) nk 0x01#8 (wordsOfKey nk key).reverse).reverse
  (List.range (nk + 7)).map (fun r => ((ws.drop (4 * r)).take 4).flatten)

def shiftRows (s : Bytes) : Bytes := (List.range 16).map (fun k => s.getD ((k + 4 * (k % 4)) % 16) 0#8)
def invShiftRows (s : Bytes) : Bytes := (List.range 16).map (fun k => s.getD ((k + 12 * (k % 4)) % 16) 0#8)

def mixWith (m : List Byte) (s : Bytes) : Bytes :=
  (List.range 16).map (fun k =>
    (List.range 4).foldl (fun x j => x ^^^ gmul (m.getD ((j + 4 - k % 4) % 4) 0#8) (s.getD (k / 4 * 4 + j) 0#8)) 0#8)

def mixColumns (s : Bytes) : Bytes := mixWith [2#8, 3#8, 1#8, 1#8] s
def invMixColumns (s : Bytes) : Bytes := mixWith [14#8, 11#8, 13#8, 9#8] s

def encRounds : List Bytes → Bytes → Bytes
  | [], s => s
  | [k], s => xorB (shiftRows (s.map sbox)) k
  | k :: t, s => encRounds t (xorB (mixColumns (shiftRows (s.map sbox))) k)

/-- AES encryption of a block under round keys. -/
def aesEnc (ks : List Bytes) (b : Bytes) : Bytes :=
  match ks with
  | [] => b
  | k :: t => encRounds t (xorB b k)

def decRounds : List Bytes → Bytes → Bytes
  | [], s => s
  | [k], s => xorB ((invShiftRows s).map invSbox) k
  | k :: t, s => decRounds t (invMixColumns (xorB ((invShiftRows s).map invSbox) k))

/-- AES decryption of a block under round keys. -/
def aesDec (ks : List Bytes) (b : Bytes) : Bytes :=
  match ks.reverse with
  | [] => b
  | k :: t => decRounds t (xorB b k)

/-- The round keys of a session's key: 16 bytes for AES-128, 32 for AES-256. -/
def aesKeys (k256 : Bool) (key : Bytes) : List Bytes := if k256 then roundKeys 8 (key.take 32) else roundKeys 4 (key.take 16)

/-! ### Counter mode -/

/-- 16-byte blocks of a string; the last may be shorter. -/
def blocksOf : Nat → Bytes → List Bytes
  | 0, _ => []
  | n + 1, bs => if bs.isEmpty then [] else bs.take 16 :: blocksOf n (bs.drop 16)

/-- The blocks of a string of any length. -/
def blocks (bs : Bytes) : List Bytes := blocksOf (bs.length / 16 + 1) bs

/-- A counter block with its low `w` bytes raised by `n`. -/
def incBlock (w n : Nat) (b : Bytes) : Bytes := b.take (16 - w) ++ toBE w (beNat (b.drop (16 - w)) + n)

/-- Counter mode from a first counter block, whose low `w` bytes count. -/
def ctrMode (ks : List Bytes) (w : Nat) (icb : Bytes) (bs : Bytes) : Bytes :=
  ((blocks bs).zipIdx).flatMap (fun (p : Bytes × Nat) => xorB p.1 (aesEnc ks (incBlock w p.2 icb)))

/-! ### GCM -/

/-- The product of two blocks in GCM's field, the bits of `x` taken from the first. -/
def ghashMulFrom (x : BitVec 128) : Nat → BitVec 128 → BitVec 128 → BitVec 128
  | 0, _, z => z
  | n + 1, v, z =>
    ghashMulFrom x n (if v.getLsbD 0 then (v >>> 1) ^^^ 0xE1000000000000000000000000000000#128 else v >>> 1)
      (if x.getLsbD n then z ^^^ v else z)

def ghashMul (x h : BitVec 128) : BitVec 128 := ghashMulFrom x 128 h 0#128

def blockVal (b : Bytes) : BitVec 128 := BitVec.ofNat 128 (beNat (sliceB b 0 16))

/-- GHASH of the data, each part padded with zeros to whole blocks, and of their lengths in bits. -/
def ghash (h : BitVec 128) (aad ct : Bytes) : BitVec 128 :=
  let bs := blocks aad ++ blocks ct ++ [toBE 8 (8 * aad.length) ++ toBE 8 (8 * ct.length)]
  bs.foldl (fun y b => ghashMul (y ^^^ blockVal b) h) 0#128

/-- The tag of GCM over AAD and ciphertext, with a 12-byte nonce. -/
def gcmTag (ks : List Bytes) (nonce aad ct : Bytes) : Bytes :=
  let h := blockVal (aesEnc ks (List.replicate 16 0#8))
  xorB (toBE 16 (ghash h aad ct).toNat) (aesEnc ks (nonce ++ toBE 4 1))

/-- The data of GCM, encrypted or decrypted. -/
def gcmCrypt (ks : List Bytes) (nonce bs : Bytes) : Bytes := ctrMode ks 4 (nonce ++ toBE 4 2) bs

/-- GCM encryption: ciphertext, then the tag. -/
def gcmSeal (ks : List Bytes) (nonce aad pt : Bytes) : Bytes :=
  let ct := gcmCrypt ks nonce pt
  ct ++ gcmTag ks nonce aad ct

/-- GCM decryption: the plaintext, if the tag verifies. -/
def gcmOpen (ks : List Bytes) (nonce aad ct tag : Bytes) : Option Bytes :=
  if gcmTag ks nonce aad ct = tag then some (gcmCrypt ks nonce ct) else none

/-! ### XTS -/

/-- The tweak of the next block: multiplication by x, least significant byte first. -/
def xtsNext (t : Bytes) : Bytes :=
  let v := leNat t
  toLE 16 (if v.testBit 127 then (2 * v) % 2 ^ 128 ^^^ 0x87 else 2 * v)

def xtsBlocks (f : Bytes → Bytes) : List Bytes → Bytes → Bytes
  | [], _ => []
  | b :: t, tw => xorB (f (xorB b tw)) tw ++ xtsBlocks f t (xtsNext tw)

/-- One data unit of whole blocks. -/
def xtsUnit (dec : Bool) (k1 k2 : List Bytes) (n : Nat) (bs : Bytes) : Bytes :=
  xtsBlocks (if dec then aesDec k1 else aesEnc k1) (blocks bs) (aesEnc k2 (toLE 16 n))

/-- Data units of `u` bytes, numbered from `n` up (R185). -/
def xtsUnits (dec : Bool) (k1 k2 : List Bytes) (u : Nat) : Nat → Nat → Bytes → Bytes
  | 0, _, _ => []
  | fuel + 1, n, bs =>
    if bs.isEmpty then [] else xtsUnit dec k1 k2 n (bs.take u) ++ xtsUnits dec k1 k2 u fuel (n + 1) (bs.drop u)

/-! ### SHA-384 -/

/-- The greatest `r` with `r ^ 3 ≤ n`, its bits from `k` down. -/
def cbrtFrom (n : Nat) : Nat → Nat → Nat
  | 0, r => r
  | k + 1, r => cbrtFrom n k (if (r + 2 ^ k) ^ 3 ≤ n then r + 2 ^ k else r)

/-- The greatest `r` with `r ^ 2 ≤ n`. -/
def sqrtFrom (n : Nat) : Nat → Nat → Nat
  | 0, r => r
  | k + 1, r => sqrtFrom n k (if (r + 2 ^ k) ^ 2 ≤ n then r + 2 ^ k else r)

def isPrime (n : Nat) : Bool := decide (2 ≤ n) && (List.range n).all (fun d => decide (d < 2) || n % d != 0)

/-- The first 80 primes. -/
def primes80 : List Nat := (List.range 410).filter isPrime

/-- FIPS 180-4: the first 64 bits of the fractional parts of the cube roots of the first 80 primes. -/
def shaK : List W64 := primes80.map (fun p => BitVec.ofNat 64 (cbrtFrom (p * 2 ^ 192) 68 0))

/-- The first 64 bits of the fractional parts of the square roots of the ninth to sixteenth primes. -/
def sha384Init : List W64 := ((primes80.drop 8).take 8).map (fun p => BitVec.ofNat 64 (sqrtFrom (p * 2 ^ 128) 68 0))

def rotr (x : W64) (n : Nat) : W64 := x.rotateRight n

/-- The message schedule, newest word first. -/
def shaSched : Nat → List W64 → List W64
  | 0, ws => ws
  | n + 1, ws =>
    let a := ws.getD 1 0
    let b := ws.getD 14 0
    let s1 := rotr a 19 ^^^ rotr a 61 ^^^ (a >>> 6)
    let s0 := rotr b 1 ^^^ rotr b 8 ^^^ (b >>> 7)
    shaSched n ((s1 + ws.getD 6 0 + s0 + ws.getD 15 0) :: ws)

/-- One round over the eight working variables. -/
def shaRound (v : List W64) (kw : W64) : List W64 :=
  match v with
  | [a, b, c, d, e, f, g, h] =>
    let t1 := h + (rotr e 14 ^^^ rotr e 18 ^^^ rotr e 41) + ((e &&& f) ^^^ (~~~e &&& g)) + kw
    let t2 := (rotr a 28 ^^^ rotr a 34 ^^^ rotr a 39) + ((a &&& b) ^^^ (a &&& c) ^^^ (b &&& c))
    [t1 + t2, a, b, c, d + t1, e, f, g]
  | l => l

def shaBlock (h : List W64) (b : Bytes) : List W64 :=
  let m := (List.range 16).map (fun i => BitVec.ofNat 64 (beAt b (8 * i) 8))
  let ws := (shaSched 64 m.reverse).reverse
  List.zipWith (· + ·) h ((List.zipWith (· + ·) shaK ws).foldl shaRound h)

def shaBlocks : Nat → Bytes → List W64 → List W64
  | 0, _, h => h
  | n + 1, bs, h => shaBlocks n (bs.drop 128) (shaBlock h (bs.take 128))

/-- SHA-384 of a string: 48 bytes. -/
def sha384 (bs : Bytes) : Bytes :=
  let z := (239 - bs.length % 128) % 128
  let m := bs ++ [0x80#8] ++ List.replicate z 0#8 ++ toBE 16 (8 * bs.length)
  (((shaBlocks (m.length / 128) m sha384Init).take 6).map (fun w => toBE 8 w.toNat)).flatten

end Sys2Proof.Machine
end

