-- ==== Sys2Proof/Machine/Stitch.lean ====
section
/-! DEFINITION. The stitch and the lacing (chapter 01): the lacing tables and their commit, the choice of each
service-unit boundary, the stitch length, and the lock to PTP time. -/

namespace Sys2Proof.Machine

open Sys2Proof

/-! ### Lacing tables -/

/-- R34: entry `p` of class `c` at POWER reset. -/
def laceReset (c p : Nat) : W16 := if c = 3 ∧ p % 64 = 63 then 0x8000 else 0x4000

/-- KIND of a lacing entry (Table 1.3). -/
def laceKind (e : W16) : Nat := e.toNat / 0x4000

/-- GROUP of a lacing entry (R31). -/
def laceGroup (e : W16) : Nat := e.toNat % 0x400

def State.laceTab (s : State) (c : Nat) : LaceTab := AMap.getD s.lace.tabs c ⟨[], []⟩

/-- Entry `p` of the active table of class `c`. -/
def State.laceEntry (s : State) (c p : Nat) : W16 := AMap.getD (s.laceTab c).active p (laceReset c p)

/-- Entry `p` of the shadow table of class `c`. -/
def State.laceShadow (s : State) (c p : Nat) : W16 := AMap.getD (s.laceTab c).shadow p (laceReset c p)

/-- The group holds at least one entry of the class's active table: every POWER entry is FREE or SYSTEM, so a GROUP entry
is listed. -/
def State.holdsEntry (s : State) (c g : Nat) : Bool :=
  (s.laceTab c).active.any (fun e => laceKind e.2 == 0 && laceGroup e.2 == g)

/-- How many SYSTEM entries a class 3 table holds: the 64 of the POWER table that are not listed, and the listed ones. -/
def systemCount (t : AMap W16) : Nat :=
  64 - (t.filter (fun e => e.1 % 64 == 63 && decide (e.1 < 4096))).length + (t.filter (fun e => laceKind e.2 == 2)).length

/-- R365: the SYSTEM entries the class 3 table must hold, for REF_MULT_MAX and TRR_TURNS. -/
def sysreqMin (multCode trr : Nat) : Nat := (1073741824 * 2 ^ multCode + 31999999) / 32000000 + trr

/-- Table 1.9: the fault of one entry, or none. The lower cause first. -/
def entryFault (c : Nat) (e : W16) : Option Nat :=
  if laceKind e = 2 ∧ c ≠ 3 then some 1
  else if laceKind e = 3 then some 2
  else if laceKind e ≠ 0 ∧ laceGroup e ≠ 0 then some 4
  else none

/-- R43: the first fault of a class's shadow table: cause, class and period-turn. A faulty entry comes before too few SYSTEM
entries, whose period-turn reads 0 (DESIGN CHOICE, log entry 11). -/
def State.tableFault (s : State) (c : Nat) : Option (Nat × Nat × Nat) :=
  let t := (s.laceTab c).shadow
  match t.find? (fun e => (entryFault c e.2).isSome) with
  | some (p, e) => some ((entryFault c e).getD 0, c, p)
  | none => if c = 3 ∧ systemCount t < s.rd F.STITCH_SYSREQ.MIN then some (3, 3, 0) else none

/-- R43: the first fault of the committed classes, in ascending order of class. -/
def State.laceFault (s : State) (classes : Nat) : Option (Nat × Nat × Nat) :=
  ((List.range 6).filter (fun c => classes.testBit c)).findSome? (fun c => s.tableFault c)

/-- A refused or failed commit: nothing is pending and the first fault is shown (R42, R25). -/
def State.laceFail (s : State) (f : Nat × Nat × Nat) : State :=
  ((((({ s with lace := { s.lace with commit := none } }.wr F.STITCH_LACE_STATUS.PENDING 0).wr
    F.STITCH_LACE_STATUS.VALID_FAIL 1).wr F.STITCH_LACE_STATUS.FAIL_CAUSE f.1).wr
    F.STITCH_LACE_STATUS.FAIL_CLASS f.2.1).wr F.STITCH_LACE_STATUS.FAIL_INDEX f.2.2)

/-! ### Unit instances (R39, R40, R458) -/

def UnitInst.reset : UnitInst :=
  { sharePtr := 1023, freePtr := 1023, heldShare := none, heldFree := none, firstMade := false, starts := 0,
    ports := (0, 0), chosen := none }

def unitKey (c u : Nat) : Nat := 4096 * c + u

def State.unit (s : State) (c u : Nat) : UnitInst := AMap.getD s.lace.units (unitKey c u) UnitInst.reset

def State.setUnit (s : State) (c u : Nat) (x : UnitInst) : State :=
  { s with lace := { s.lace with units := AMap.setD UnitInst.reset s.lace.units (unitKey c u) x } }

/-- R40: the search of a rotation: the first group above the pointer, wrapping to group 0. The groups are in rising
order. -/
def rotate (ptr : Nat) (gs : List Nat) : Option Nat :=
  match gs.find? (fun g => decide (ptr < g)) with
  | some g => some g
  | none => gs.head?

/-- The held group of a step if it still has pending work, or else the rotation's find. -/
def pick (held : Option Nat) (ptr : Nat) (gs : List Nat) : Option Nat :=
  match held with
  | some g => if g ∈ gs then some g else rotate ptr gs
  | none => rotate ptr gs

/-- R39: the choice of a unit instance at a service-unit boundary among the groups `gs` with pending work, in rising order,
with its passing pointers after it. -/
def State.choose (s : State) (c u : Nat) (gs : List Nat) (background : Bool) : Choice × UnitInst :=
  let x := s.unit c u
  let e := s.laceEntry c (s.periodTurnOf (instHalf c u))
  if laceKind e = 0 ∧ laceGroup e ∈ gs then (.owner (laceGroup e), x)
  else
    let sharers := gs.filter (fun g => s.holdsEntry c g)
    match pick x.heldShare x.sharePtr sharers with
    | some g => (.share g, { x with sharePtr := g, heldShare := some g })
    | none =>
      let others := gs.filter (fun g => !s.holdsEntry c g)
      match pick x.heldFree x.freePtr others with
      | some g => (.free g, { x with freePtr := g, heldFree := some g })
      | none => if background then (.background, x) else (.idle, x)

/-- R458: the turn is counted by its first choice. `maint` says that maintenance is due in a SYSTEM turn. -/
def State.countTurn (s : State) (c : Nat) (e : W16) (maint : Bool) (ch : Choice) : State :=
  let served := match ch with | .owner _ => true | _ => false
  let s := if laceKind e = 0 then
      (if served then s.count (F.STITCH_TURN_STAT.OWNED.CNT c) 1 else s.count (F.STITCH_TURN_STAT.PASSED.CNT c) 1)
    else if laceKind e = 2 ∧ maint then s
    else if ch.group?.isSome then s.count (F.STITCH_TURN_STAT.FREE_SERVED.CNT c) 1
    else s
  if laceKind e = 2 ∧ maint then s
  else if ch = .idle then s.count (F.STITCH_TURN_STAT.IDLE.CNT c) 1 else s

/-- R39, R458: a service-unit boundary of unit instance `u` of class `c`, with the groups that have pending work there.
`background` says that the unit has background work (R41), `maint` that maintenance is due in a SYSTEM turn. A half that has
started 42 dispatches in the turn, or one on each of its three ports in the cycle, makes no choice of class 1 (R29). In a SYSTEM
turn with maintenance due the unit serves its maintenance. A choice of a group that owes the unit service units pays one. -/
def State.serviceBoundary (s : State) (c u : Nat) (gs : List Nat) (background maint : Bool) : State :=
  let x := s.unit c u
  let e := s.laceEntry c (s.periodTurnOf (instHalf c u))
  if c = 1 ∧ (x.starts ≥ 42 ∨ (x.ports.1 = s.clk.cycles ∧ x.ports.2 ≥ 3)) then s.setUnit c u { x with chosen := none }
  else if laceKind e = 2 ∧ maint then s.setUnit c u { x with chosen := some .background, firstMade := true }
  else
    let (ch, x') := s.choose c u gs background
    let s' := (s.setUnit c u { x' with chosen := some ch, firstMade := true }).settle c u
    if x.firstMade then s' else s'.countTurn c e maint ch

/-! ### Turns, stitches and periods -/

/-- R20, R39: the present cycle begins a turn: the held choices end, and every instance reads the new turn's entry. -/
def UnitInst.newTurn (x : UnitInst) : UnitInst :=
  { x with heldShare := none, heldFree := none, firstMade := false, starts := 0, chosen := none }

def State.beginTurn (s : State) (hs : List Nat) : State :=
  { s with lace := { s.lace with units := s.lace.units.map (fun e =>
    if hs.contains (instHalf (e.1 / 4096) (e.1 % 4096)) then (e.1, e.2.newTurn) else e) } }

/-- R23: the halves that Half A's stitch leads: both, or Half A alone while Half B's generator runs freely. -/
def State.led (s : State) : List Nat := if s.lace.bFree.isSome then [0] else [0, 1]

/-- R23: a turn of Half B's own begins while its generator runs freely. -/
def State.freeTurn (s : State) : State :=
  match s.lace.bFree with
  | none => s
  | some f =>
    if f.turn < s.turnNoOf 1 then
      let s' := s.beginTurn [1]
      { s' with lace := { s'.lace with bFree := some { f with turn := s.turnNoOf 1 } } }
    else s

/-- R20, R23: a turn begins when the cycle within the stitch reaches its start; turn 0 begins with the stitch. At any other
time no turn begins. Half B's turns begin with Half A's, or by themselves while its generator runs freely. -/
def execTurnStart (s : State) : Host.Outcome State Fault Refusal :=
  let t := s.rd F.STITCH_POS.TURN
  let c := s.rd F.STITCH_POS.CYCLE
  if c = 0 ∧ t = 0 then .next (s.beginTurn s.led).freeTurn
  else if t < 63 ∧ (t + 1) * s.turnLen ≤ c then .next ((s.wr F.STITCH_POS.TURN (t + 1)).beginTurn s.led).freeTurn
  else .next s.freeTurn

/-- The length of the present stitch, with the adjustment of its turn 63 (R47). -/
def State.stitchEnd (s : State) : Nat := (Int.ofNat s.stitchLen + s.lace.adj).toNat

/-- R21: a lacing period begins with the present stitch; one that the throttle has run at 1.600 GHz is counted. -/
def execLacingPeriodBoundary (s : State) : Host.Outcome State Fault Refusal :=
  if s.atPeriod ∧ s.lace.periodAt ≠ s.clk.cycles then
    let s := { s with lace := { s.lace with periodAt := s.clk.cycles } }
    .next (if s.flag F.POWER_CLK.THROTTLE ∧ s.pwr.clkAt < s.clk.cycles then s.count F.POWER_STAT.THROTTLED.CNT 1 else s)
  else .next s

/-! ### The lock to PTP time (R46 to R48) -/

/-- Values of STITCH_PTP_CTRL.STATE (Table 1.7). -/
def lockOff : Nat := 0
def lockAcquiring : Nat := 1
def lockLocked : Nat := 2
def lockHoldover : Nat := 3

/-- R46: the stitch period in nanoseconds. -/
def State.stitchNs (s : State) : Nat :=
  if s.rd F.POWER_CLK.CUR = 1 then s.stitchLen * 5 / 8 else s.stitchLen / 2

/-- `x` modulo `m` in the range (-m/2, m/2]. -/
def signedMod (x m : Int) : Int :=
  let r := x % m
  if 2 * r > m then r - m else r

/-- R47: the phase error at the boundary that begins period position `k`, in units of 2^-32 ns. -/
def phaseError (ptp : Nat) (p k : Nat) : Int :=
  signedMod (Int.ofNat ptp - Int.ofNat (k * p * 2 ^ 32)) (Int.ofNat (64 * p * 2 ^ 32))

/-- The phase error in core cycles, as a count of 1/(5 × 2^32) of a cycle: 2 cycles per nanosecond at 2.000 GHz, 8/5 at
1.600 GHz. -/
def State.errUnits (s : State) (e : Int) : Int := if s.rd F.POWER_CLK.CUR = 1 then e * 8 else e * 10

/-- One core cycle in the units of `errUnits`. -/
def cycleUnits : Int := 5 * 2 ^ 32

/-- The lock leaves LOCKED or starts over (Table 1.7). -/
def State.reacquire (s : State) : State :=
  if s.rd F.STITCH_PTP_CTRL.STATE = lockOff ∨ s.rd F.STITCH_PTP_CTRL.STATE = lockHoldover then s
  else { s with lace := { s.lace with lockRun := 0 } }.wr F.STITCH_PTP_CTRL.STATE lockAcquiring

/-- R48: the lock state after a boundary with error `e`, in the units of `errUnits`. -/
def State.lockStep (s : State) (e : Int) : State :=
  let w := Int.ofNat (s.rd F.STITCH_PTP_CTRL.LOCK_WIN) * cycleUnits
  let uw := Int.ofNat (s.rd F.STITCH_PTP_CTRL.UNLOCK_WIN) * cycleUnits
  let a := Int.ofNat e.natAbs
  let run := if a ≤ w then s.lace.lockRun + 1 else 0
  if s.rd F.STITCH_PTP_CTRL.STATE = lockLocked then
    (if a > uw then s.reacquire.wr F.STITCH_PTP_CTRL.UNLOCKED 1 else s)
  else if s.rd F.STITCH_PTP_CTRL.STATE = lockAcquiring then
    (if run ≥ 64 then { s with lace := { s.lace with lockRun := 64 } }.wr F.STITCH_PTP_CTRL.STATE lockLocked
     else { s with lace := { s.lace with lockRun := run } })
  else s

/-- R47: turn 63 of the stitch that begins is shortened or lengthened by at most one cycle. -/
def State.adjust (s : State) (e : Int) : State :=
  if s.rd F.STITCH_PTP_CTRL.STATE = lockAcquiring ∨ s.rd F.STITCH_PTP_CTRL.STATE = lockLocked then
    if 2 * e > cycleUnits then { s with lace := { s.lace with adj := -1 } }.count F.STITCH_PTP_ADJ.SHORTENED 1
    else if 2 * e < -cycleUnits then { s with lace := { s.lace with adj := 1 } }.count F.STITCH_PTP_ADJ.LENGTHENED 1
    else { s with lace := { s.lace with adj := 0 } }
  else { s with lace := { s.lace with adj := 0 } }

/-- R46 to R48: the phase measurement of a boundary; with EN = 0 there is none. The error register takes 1/16 cycles. -/
def State.ptpPhase (s : State) (ptp : Nat) : State :=
  if s.rd F.STITCH_PTP_CTRL.EN = 0 then { s with lace := { s.lace with adj := 0 } }
  else
    let e := s.errUnits (phaseError ptp s.stitchNs (s.rd F.STITCH_POS.SIP))
    let s := s.wr F.STITCH_PTP_ERR.ERR ((16 * e / cycleUnits) % 2 ^ 32).toNat
    (s.lockStep e).adjust e

/-! ### Changing STITCH_LEN (R24 to R26) -/

/-- R24 to R26: a write of STITCH_LEN. REJECT clears by writing 1, before the request is judged (R15). -/
def State.stitchLenWrite (s : State) (v : Nat) : State :=
  let s := if v.testBit 31 then s.wr F.STITCH_LEN.REJECT 0 else s
  let req := bitsOf v 5 4
  if s.flag F.STITCH_LEN.PENDING ∨ s.lace.commit.isSome then s.wr F.STITCH_LEN.REJECT 1
  else if req = s.rd F.STITCH_LEN.CUR then s.wr F.STITCH_LEN.REQ req
  else { s with lace := { s.lace with lenReqAt := some s.clk.cycles } }.wr F.STITCH_LEN.REQ req |>.wr F.STITCH_LEN.PENDING 1

def execStitchLenReqWrite (v : W32) (s : State) : Host.Outcome State Fault Refusal :=
  .next (s.stitchLenWrite v.toNat)

/-- The largest WCET of the images of every bank (R125). -/
def State.largestWcet (s : State) : Nat :=
  s.mules.spindles.foldl (fun n e =>
    max n (max (match e.2.bank0 with | some i => i.maxWcet | none => 0)
               (match e.2.bank1 with | some i => i.maxWcet | none => 0))) 0

/-- R24: the request is applied or refused, at the first lacing-period boundary at least 4,096 cycles after the write. -/
def execStitchLenApply (s : State) : Host.Outcome State Fault Refusal :=
  match s.lace.lenReqAt with
  | none => .next s
  | some t =>
    if s.atPeriod ∧ t + 4096 ≤ s.clk.cycles then
      let req := s.rd F.STITCH_LEN.REQ
      let s' := { s with lace := { s.lace with lenReqAt := none } }.wr F.STITCH_LEN.PENDING 0
      if s.largestWcet ≤ budgetOf (stitchLenOf req) ∧ s.rd F.STITCH_SYSREQ.MIN ≤ systemCount (s.laceTab 3).active then
        .next ((s'.wr F.STITCH_LEN.CUR req).reacquire)
      else
        .next ((s'.wr F.STITCH_LEN.REJECT 1).wr F.STITCH_LEN.REQ (s.rd F.STITCH_LEN.CUR))
    else .next s

/-! ### Changing the lacing (R42 to R44) -/

/-- R43: the present cycle is the boundary at which the pending commit swaps. -/
def State.swapDue (s : State) : Bool :=
  match s.lace.commit with
  | some c => s.atPeriod && decide (c.cycle + 4096 ≤ s.clk.cycles)
  | none => false

/-- R43, R40: the committed tables and the map change places with their shadow copies together (DEDUCED, log entry 10), and the
rotation pointers of the committed classes reset, no other class's (DESIGN CHOICE, log entry 144). -/
def State.laceSwap (s : State) : State :=
  match s.lace.commit with
  | none => s
  | some c =>
    let named := (List.range 6).filter (fun k => c.classes.testBit k)
    let tabs := named.foldl (fun m k =>
      let t := AMap.getD m k ⟨[], []⟩
      AMap.setD ⟨[], []⟩ m k ⟨t.active, t.shadow⟩) s.lace.tabs
    let units := s.lace.units.map (fun e =>
      if c.classes.testBit (e.1 / 4096) then
        (e.1, { e.2 with sharePtr := 1023, freePtr := 1023, heldShare := none, heldFree := none }) else e)
    let s := { s with lace := { s.lace with
      tabs := tabs, units := units, commit := none, swapDone := true,
      tgShadow := if c.tgmap then s.lace.tgActive else s.lace.tgShadow,
      tgActive := if c.tgmap then s.lace.tgShadow else s.lace.tgActive } }
    (s.wr F.STITCH_LACE_STATUS.PENDING 0).countWrap F.STITCH_LACE_SWAPS.COUNT 1

/-- R43: at the swap's boundary every committed table and the map become active together, unless a committed class fails
validation (STITCH_SYSREQ.MIN may have risen since the commit write). -/
def State.laceDue (s : State) : State :=
  match s.lace.commit with
  | none => s
  | some c => match s.laceFault c.classes with
    | some f => s.laceFail f
    | none => s.laceSwap

def execLaceSwap (s : State) : Host.Outcome State Fault Refusal :=
  .next (if s.swapDue then s.laceDue else s)

/-- R44: a cancel withdraws a pending commit; in the cycle of the swap or later it finds the swap made. -/
def State.laceCancel (s : State) : State :=
  let s := if s.swapDue then s.laceDue else s
  if s.lace.commit.isSome then { s with lace := { s.lace with commit := none } }.wr F.STITCH_LACE_STATUS.PENDING 0
  else if s.lace.swapDone then s.wr F.STITCH_LACE_STATUS.LATE_CANCEL 1
  else s

/-- R42 to R44, R25: a write of STITCH_LACE_COMMIT. One in the cycle of the swap's boundary and before LACE_SWAP finds the commit
pending (DESIGN CHOICE, log entry 144). -/
def State.laceCommitWrite (s : State) (v : Nat) : State :=
  if v.testBit 31 then s.laceCancel
  else
    let classes := bitsOf v 5 0
    let tgmap := v.testBit 8
    if classes = 0 ∧ tgmap = false then s
    else if s.lace.commit.isSome then s.wr F.STITCH_LACE_STATUS.BUSY_WRITE 1
    else
      let s := { s with lace := { s.lace with swapDone := false } }
      if s.flag F.STITCH_LEN.PENDING then s.laceFail (5, 0, 0)
      else match s.laceFault classes with
        | some f => s.laceFail f
        | none => { s with lace := { s.lace with commit := some ⟨classes, tgmap, s.clk.cycles⟩ } }.wr
            F.STITCH_LACE_STATUS.PENDING 1

def execStitchLaceCommit (v : W32) (s : State) : Host.Outcome State Fault Refusal :=
  .next (s.laceCommitWrite v.toNat)

/-- R44: a commit write with CANCEL = 1. -/
def execCancel (s : State) : Host.Outcome State Fault Refusal := .next s.laceCancel

/-- The offset lies in the shadow tables or the shadow tenant map (Table 1.10). -/
def inLaceShadow (off : Nat) : Bool :=
  (decide (0x108000 ≤ off) && decide (off < 0x10A000)) || (decide (0x110000 ≤ off) && decide (off < 0x11C000))

/-- The offset lies in the active tables or the active tenant map (Table 1.10). -/
def inLaceActive (off : Nat) : Bool :=
  (decide (0x10A000 ≤ off) && decide (off < 0x10C000)) || (decide (0x120000 ≤ off) && decide (off < 0x12C000))

/-- The 16-bit entry of a window at an even offset. -/
def State.laceRead16 (s : State) (off : Nat) : W16 :=
  if off < 0x10A000 then AMap.getD s.lace.tgShadow ((off - 0x108000) / 2) 0#16
  else if off < 0x10C000 then AMap.getD s.lace.tgActive ((off - 0x10A000) / 2) 0#16
  else if off < 0x11C000 then s.laceShadow ((off - 0x110000) / 0x2000) ((off - 0x110000) % 0x2000 / 2)
  else s.laceEntry ((off - 0x120000) / 0x2000) ((off - 0x120000) % 0x2000 / 2)

/-- A read of `n` entries of a window from an offset up, the lower index in the lower bits. -/
def State.laceRead (s : State) (off : Nat) : Nat → Nat
  | 0 => 0
  | n + 1 => (s.laceRead16 off).toNat + 0x10000 * s.laceRead (off + 2) n

/-- One shadow entry takes a value; its reserved bits stay zero (R13, R31, Table 1.10). -/
def State.laceWrite16 (s : State) (off v : Nat) : State :=
  if off < 0x10A000 then
    let m := AMap.setD 0#16 s.lace.tgShadow ((off - 0x108000) / 2) (BitVec.ofNat 16 v &&& 0x3FF#16)
    { s with lace := { s.lace with tgShadow := m } }
  else
    let c := (off - 0x110000) / 0x2000
    let p := (off - 0x110000) % 0x2000 / 2
    let t := s.laceTab c
    let t' := { t with shadow := AMap.setD (laceReset c p) t.shadow p (BitVec.ofNat 16 v &&& 0xC3FF#16) }
    { s with lace := { s.lace with tabs := AMap.setD ⟨[], []⟩ s.lace.tabs c t' } }

/-- `n` shadow entries from an offset up. -/
def State.laceWriteN (s : State) (off v : Nat) : Nat → State
  | 0 => s
  | n + 1 => (s.laceWrite16 off (v % 0x10000)).laceWriteN (off + 2) (v / 0x10000) n

/-- R44: a write of a shadow table or the shadow map, discarded with BUSY_WRITE while a commit is pending. -/
def State.laceShadowWrite (s : State) (off size v : Nat) : State :=
  if s.lace.commit.isSome then s.wr F.STITCH_LACE_STATUS.BUSY_WRITE 1 else s.laceWriteN off v (size / 2)

/-- A write of the words of a shadow window; an access of another window or form is R7's and R8's, not this command's. -/
def execLacingShadowWrite (off : Nat) (wide : Bool) (v : W64) (s : State) : Host.Outcome State Fault Refusal :=
  let size := if wide then 8 else 4
  .next (if inLaceShadow off ∧ off % size = 0 then s.laceShadowWrite off size v.toNat else s)

/-- R34: what a rejoining half or a POWER reset does to the passing pointers of Half B's instances is R40's. -/
def State.resetLace (s : State) : State := { s with lace := Lace.reset }

end Sys2Proof.Machine
end

