-- ==== Sys2Proof/Machine/Packet.lean ====
section
/-! DEFINITION. Packets (chapter 04): their records, Ethernet ports and PFC, ingress from the ports, the slow path, and the
copy across the seam. -/

namespace Sys2Proof.Machine

open Sys2Proof

/-! ### Packet records -/

def State.pkt? (s : State) (id : Nat) : Option Packet := AMap.get? s.net.pkts id
def State.setPkt (s : State) (id : Nat) (p : Packet) : State := { s with net := { s.net with pkts := AMap.set s.net.pkts id p } }
def State.delPkt (s : State) (id : Nat) : State := { s with net := { s.net with pkts := AMap.del s.net.pkts id } }
def State.modPkt (s : State) (id : Nat) (f : Packet → Packet) : State :=
  match s.pkt? id with
  | some p => s.setPkt id (f p)
  | none => s

def LkRes.none : LkRes := ⟨4, []⟩

/-- A layer of a packet that is not marked: beyond every offset (R162). -/
def noLayer : Nat := 2 ^ 16

/-- The layer offsets of a parse record, whose unmarked layers read 0xFF. -/
def markedLayers (ls : List Nat) : List Nat := ls.map (fun l => if l = 0xFF then noLayer else l)

/-- A packet enters the admission queue of its group on its half (R133). -/
def State.admitPacket (s : State) (p : Packet) : State :=
  let id := s.net.nextPkt
  { s with net := { s.net with nextPkt := id + 1, pkts := AMap.set s.net.pkts id p } }

/-- A packet as it is stored, before its parse. -/
def newPacket (half source tenant port pri tc handle len timestamp qref rawSum : Nat) : Packet :=
  { half := half, source := source, tenant := tenant, port := port, pri := pri, tc := tc, handle := handle, len := len,
    timestamp := timestamp, qref := qref, rawSum := rawSum, stage := .admission, parse := none, dec := 0, prof0 := none, prof1 := none,
    lk0 := LkRes.none, lk1 := LkRes.none, flowSt := 0, flow := none, held := false, stitch := 0, entry := 0, bypass := false,
    list := [], dirty := none, layers := [], growth := 0 }

/-- R151: the flow word of a result, if the profile carries one: its VALID bit and context index. -/
def flowWord (w : Nat) (r : LkRes) : Option (Bool × Nat) :=
  if w.testBit 19 ∧ r.status = 0 then
    let f := leAt r.data (bitsOf w 18 13 / 4 * 4) 4
    some (f.testBit 31, f % 2 ^ 22)
  else none

/-- R143, R158: the flow word of the result that the decision's FLOW_SRC names. -/
def Packet.flowRead (p : Packet) : Option (Bool × Nat) :=
  match bitsOf p.dec 55 54 with
  | 1 => p.prof0.bind (fun w => flowWord w.1 p.lk0)
  | 2 => p.prof1.bind (fun w => flowWord w.1 p.lk1)
  | _ => none

/-- FLOW_VALID of a packet, and FLOW (R158). -/
def Packet.flowValid (p : Packet) : Nat := if p.flowRead.any (fun f => f.1) then 1 else 0
def Packet.flowIndex (p : Packet) : Nat := (p.flowRead.map (fun f => f.2)).getD 0

/-- A packet's bobbins are released and the packet is gone. -/
def State.dropPacket (s : State) (id : Nat) : State :=
  match s.pkt? id with
  | some p => (s.dropChain p.handle).delPkt id
  | none => s

/-! ### Sums -/

/-- The 16-bit ones' complement sum of a string of bytes, padded with a zero byte where its length is odd. -/
def onesSum : Bytes → Nat
  | a :: b :: t => let n := onesSum t + (256 * a.toNat + b.toNat); n % 65536 + n / 65536
  | [a] => 256 * a.toNat
  | [] => 0

/-- The ones' complement of a sum. -/
def onesNot (n : Nat) : Nat := 65535 - n % 65536

/-! ### PTP time as a half sees it (R135, R136) -/

/-- PTP time in nanoseconds on a half. -/
def State.ptpNow (s : State) (h : Nat) : Nat :=
  match h, s.net.ptp.halfB with
  | 1, some (n, _) => n
  | _, _ => s.rd F.PTP_NS.NS

/-- A signed 16-bit correction in 1/16 ns, in whole nanoseconds. -/
def dlyNs (v : Nat) : Int := (if v < 32768 then Int.ofNat v else Int.ofNat v - 65536) / 16

/-- A timestamp of a port, corrected. -/
def State.stampAt (s : State) (p : Nat) (dly : FRef) : Nat := (Int.ofNat (s.ptpNow (p / 8)) + dlyNs (s.rd dly)).toNat

/-! ### Ports (R128 to R131) -/

/-- The mode a half's ports are trained in. -/
def State.ethMode (s : State) (h : Nat) : Nat := if h = 0 then s.net.eth.modeA else s.net.eth.modeB

/-- Lanes of a port of a mode (Table 4.1). -/
def lanesOf (mode : Nat) : Nat := if mode = 0 then 8 else if mode = 1 then 4 else if mode = 2 then 2 else 1

/-- Table 4.1: the port number exists in its half's mode. -/
def State.portExists (s : State) (p : Nat) : Bool := decide (p < 16) && (p % 8 % lanesOf (s.ethMode (p / 8)) == 0)

/-- The lanes of the repair record that have failed (R131), device-wide. -/
def State.laneFailed (s : State) (l : Nat) : Bool := s.repairs.contains (4, l)

/-- R131: the width and first lane at which a port runs: the widest clean aligned group of its own lanes, the lowest
first. -/
def State.portLanes (s : State) (p : Nat) : Option (Nat × Nat) :=
  let w := lanesOf (s.ethMode (p / 8))
  ([8, 4, 2, 1].filter (fun v => decide (v ≤ w))).findSome? (fun v =>
    (List.range (w / v)).findSome? (fun k =>
      let l := p + v * k
      if (List.range v).any (fun j => s.laneFailed (l + j)) then none else some (v, l)))

/-- Rate of a port in Gb/s, by ETH_PORT_STATUS.SPEED. -/
def speedRate (speed : Nat) : Nat := if speed = 0 then 0 else 100 * 2 ^ speed

def State.portRate (s : State) (p : Nat) : Nat := speedRate (s.rd (F.ETH_PORT_STATUS.SPEED p))
def State.linkUp (s : State) (p : Nat) : Bool := s.flag (F.ETH_PORT_STATUS.LINK p)

/-- The failed lanes of a half, as a bit per lane. -/
def State.failedMask (s : State) (h : Nat) : Nat :=
  (List.range 8).foldl (fun m j => if s.laneFailed (8 * h + j) then m ||| 2 ^ j else m) 0

/-- R449, R451: a half's ports stay down until ETH_HALF_CFG.APPLY is written. -/
def State.awaitApply (s : State) (h : Nat) : State :=
  { s with net := { s.net with eth := { s.net.eth with needApply := h :: s.net.eth.needApply.filter (fun x => x != h) } } }

/-- A port's link goes down. -/
def State.portDown (s : State) (p : Nat) : State :=
  (((s.wr (F.ETH_PORT_STATUS.LINK p) 0).wr (F.ETH_PORT_STATUS.SPEED p) 0).wr (F.ETH_PORT_STATUS.LANES p) 0).wr
    (F.ETH_PORT_STATUS.DEGRADED p) 0

/-- R131: every port of a half shows the failed lanes of the half. -/
def State.showFailed (s : State) (h : Nat) : State :=
  let m := s.failedMask h
  (List.range 8).foldl (fun s k => s.wr (F.ETH_PORT_STATUS.FAILED (8 * h + k)) m) s

/-- R131: a port completes its training at its width. -/
def State.portUp (s : State) (p : Nat) : State :=
  let s := { s with flt := { s.flt with restarting := s.flt.restarting.filter (· != p) } }
  match s.portLanes p with
  | none => (s.portDown p).showFailed (p / 8)
  | some (v, l) =>
    let speed := if v = 8 then 4 else if v = 4 then 3 else if v = 2 then 2 else 1
    ((((s.wr (F.ETH_PORT_STATUS.LINK p) 1).wr (F.ETH_PORT_STATUS.SPEED p) speed).wr (F.ETH_PORT_STATUS.LANES p)
      ((2 ^ v - 1) <<< (l % 8))).wr (F.ETH_PORT_STATUS.DEGRADED p)
      (if v < lanesOf (s.ethMode (p / 8)) then 1 else 0)).showFailed (p / 8)

/-- R131: a lane is ruled permanent: its port goes down and restarts. No command of the table clears a lane's record (log entry
158). -/
def State.laneRetired (s : State) (l : Nat) : State :=
  let w := lanesOf (s.ethMode (l / 8))
  let p := l / w * w
  let s := { s with flt := { s.flt with restarting := p :: s.flt.restarting.filter (· != p) } }
  (s.portDown p).showFailed (l / 8)

/-- R131: a port completes training and its link comes up. -/
def execPortLinkUp (p : Nat) (s : State) : Host.Outcome State Fault Refusal :=
  if s.portExists p ∧ s.flag (F.ETH_PORT_CFG.EN p) ∧ (p / 8 = 1 ∧ s.haltedB) = False ∧ s.locked ∧ s.domOn (56 + p / 8) ∧ s.net.eth.needApply.contains (p / 8) = false then
    .next (s.portUp p) else .next s

/-- A port's link is lost. -/
def execPortLinkDown (p : Nat) (s : State) : Host.Outcome State Fault Refusal :=
  if s.portExists p then .next (s.portDown p) else .next s

/-! ### Priority flow control (R134) -/

/-- Bytes of a port and priority waiting for admission. -/
def State.waitingBytes (s : State) (p q : Nat) : Nat :=
  s.net.pkts.foldl (fun n (e : Nat × Packet) =>
    if e.2.stage = .admission ∧ e.2.source = 0 ∧ e.2.port = p ∧ e.2.pri = q then n + e.2.len else n) 0

/-- PFC is on for a priority of a port. -/
def State.pfcOn (s : State) (p q : Nat) : Bool :=
  s.flag (F.ETH_PORT_CFG.PFC_TX_EN p) && (s.rd (F.ETH_PORT_CFG.PFC_PRI p)).testBit q

/-- A PFC frame is sent. -/
def State.sendPfc (s : State) (p q quanta : Nat) : State :=
  (s.emit (.pfc p q quanta)).countWrap (F.ETH_STAT.PFC_TX.CNT p) 1

def State.setXoff (s : State) (p q : Nat) (x : Option Xoff) : State :=
  let m := match x with
    | some x => AMap.set s.net.eth.xoff (8 * p + q) x
    | none => AMap.del s.net.eth.xoff (8 * p + q)
  { s with net := { s.net with eth := { s.net.eth with xoff := m } } }

/-- R134: one of the two XOFF conditions of a priority holds; `parts` are the partitions that arriving packets have found at STOP. -/
def State.xoffHolds (s : State) (p q : Nat) (parts : List (Nat × Nat)) : Bool :=
  decide (s.rd (F.ETH_PORT_PFC.XOFF p) * 4096 ≤ s.waitingBytes p q) || parts.any (fun x => s.atStop (p / 8) x.1 x.2)

/-- R134: XOFF is sent when a condition begins to hold. `part` is the partition of the arriving packet. -/
def State.checkXoff (s : State) (p q : Nat) (part : Option (Nat × Nat)) : State :=
  let part := (part.filter (fun x => s.atStop (p / 8) x.1 x.2)).toList
  match AMap.get? s.net.eth.xoff (8 * p + q) with
  | some x => s.setXoff p q (some { x with parts := x.parts ++ part.filter (fun a => !x.parts.contains a) })
  | none =>
    if s.pfcOn p q ∧ s.xoffHolds p q part then
      (s.sendPfc p q (s.rd (F.ETH_PORT_TEN.PFC_QUANTA p))).setXoff p q (some ⟨s.clk.time, part⟩)
    else s

/-- R134: XON is sent once the waiting bytes fall to XON or below and every partition is below STOP. -/
def State.checkXon (s : State) : State :=
  s.net.eth.xoff.foldl (fun s (e : Nat × Xoff) =>
    let p := e.1 / 8
    let q := e.1 % 8
    if s.waitingBytes p q ≤ s.rd (F.ETH_PORT_PFC.XON p) * 4096 ∧ s.xoffHolds p q e.2.parts = false then
      (if s.pfcOn p q then s.sendPfc p q 0 else s).setXoff p q none
    else s) s

/-- R167: a delivery that cannot be carried out. -/
def State.deliveryDrop (s : State) (id : Nat) : State := ((s.count F.EDIT_STAT.DELIVERY_DROP.CNT 1).dropPacket id).checkXon

/-- R134: while an XOFF condition holds, XOFF is resent every PFC_QUANTA × 256 bit times. -/
def execPfcXoffResend (p q : Nat) (s : State) : Host.Outcome State Fault Refusal :=
  match AMap.get? s.net.eth.xoff (8 * p + q) with
  | some x =>
    let quanta := s.rd (F.ETH_PORT_TEN.PFC_QUANTA p)
    if s.xoffHolds p q x.parts then
      if s.pfcOn p q ∧ s.linkUp p ∧ x.sentAt * s.portRate p + 2048 * quanta ≤ s.clk.time * s.portRate p then
        .next ((s.sendPfc p q quanta).setXoff p q (some { x with sentAt := s.clk.time }))
      else .next s
    else .next s.checkXon
  | none => .next s

/-- R134: the egress class of a priority of a port. -/
def State.classOf (s : State) (p q : Nat) : Nat := s.rd (F.ETH_PORT_PRITC.MAP p) / 2 ^ (3 * q) % 8

/-- The end of the pause of a priority of a port; 0 where none runs. -/
def State.pauseEnd (s : State) (p q : Nat) : Nat := AMap.getD s.net.eth.paused (8 * p + q) 0
def State.setPaused (s : State) (p q : Nat) (t : Nat) : State :=
  { s with net := { s.net with eth := { s.net.eth with paused := AMap.setD 0 s.net.eth.paused (8 * p + q) t } } }

/-- R134: a paused priority maps to the class. -/
def State.classPaused (s : State) (p c : Nat) : Bool :=
  (List.range 8).any (fun q => s.classOf p q == c && s.pauseEnd p q != 0)

/-- R134: a received PFC frame: the enabled priorities of its vector, each with its quanta of 512 bit times, are
paused, and with them the classes they map to; a quanta of zero ends the pause. -/
def State.pfcReceived (s : State) (p : Nat) (frame : Bytes) : State :=
  let s := s.countWrap (F.ETH_STAT.PFC_RX.CNT p) 1
  if s.flag (F.ETH_PORT_CFG.PFC_RX_EN p) = false then s
  else (List.range 8).foldl (fun s q =>
    if (beAt frame 16 2).testBit q then
      let quanta := beAt frame (18 + 2 * q) 2
      s.setPaused p q (if quanta = 0 then 0 else s.clk.time + quanta * 4096 / max 1 (s.portRate p))
    else s) s

def execPfcFrameReceived (p : Nat) (frame : List Byte) (s : State) : Host.Outcome State Fault Refusal :=
  if s.portExists p ∧ s.linkUp p then .next ((s.pfcReceived p frame).checkXon) else .next s

/-- R134: the pause time of the priorities that paused a class has run out. -/
def execPfcPauseExpiry (p c : Nat) (s : State) : Host.Outcome State Fault Refusal :=
  let due := (List.range 8).filter (fun q => s.classOf p q == c && s.pauseEnd p q != 0 && decide (s.pauseEnd p q ≤ s.clk.time))
  .next (due.foldl (fun s q => s.setPaused p q 0) s)

/-! ### Ethernet ingress (R130, R132, R133) -/

/-- The frame carries an outer 802.1Q tag. -/
def tagged (frame : Bytes) : Bool := beAt frame 12 2 == 0x8100 || beAt frame 12 2 == 0x88A8

/-- The 16-bit entry `k` of a window of 32-bit registers. -/
def State.half16 (s : State) (base k : Nat) : Nat := s.word (base + 4 * (k / 2)) / 2 ^ (16 * (k % 2)) % 65536

/-- R132: the tenant of a received frame. -/
def State.frameTenant (s : State) (p : Nat) (frame : Bytes) : Nat :=
  let e := s.half16 0xC10000 (4096 * p + beAt frame 14 2 % 4096)
  if s.flag (F.ETH_PORT_TEN.TMAP_EN p) ∧ tagged frame ∧ e.testBit 15 then e % 4096
  else s.rd (F.ETH_PORT_TEN.DEF_TENANT p)

/-- R132: the priority of a received frame. -/
def State.framePri (s : State) (p : Nat) (frame : Bytes) : Nat :=
  if tagged frame then beAt frame 14 2 / 8192 else s.rd (F.ETH_PORT_TEN.DEF_PRI p)

/-- R132, R133, R256: a good data frame is stored in bobbins of its tenant and enters its admission queue, or is dropped. -/
def State.storeFrame (s : State) (p : Nat) (frame : Bytes) : State :=
  let h := p / 8
  let t := s.frameTenant p frame
  let q := s.framePri p frame
  let chunk := s.rd F.BOBBIN_CFG.ING_CHUNK
  let c := s.chooseClass h chunk true
  let stop : Bool := match c with | some c => s.atStop h t c | none => false
  if stop ∧ s.pfcOn p q = false then
    (s.count F.BOBBIN_STAT.STOP_DROP.CNT 1).count (F.ETH_STAT.RX_NOBUF.CNT p) 1
  else
    match s.storePacket h t (editorEp h) chunk false frame with
    | (none, s) => (s.count (F.ETH_STAT.RX_NOBUF.CNT p) 1).checkXoff p q (c.map (fun c => (t, c)))
    | (some b, s) =>
      let s := s.admitPacket (newPacket h 0 t p q (s.classOf p q) b frame.length (s.stampAt p (F.PTP_PORT_W0.RX_DLY p)) 0
        (onesSum (frame.drop 14)))
      s.checkXoff p q (c.map (fun c => (t, c)))

/-- R130: a received frame without its FCS: a bad FCS, an oversize frame and a PAUSE frame are dropped and counted; a PFC
frame is obeyed; any other frame of 60 bytes or more is stored. -/
def State.receive (s : State) (p : Nat) (frame : Bytes) (fcsOk : Bool) : State :=
  if fcsOk = false then s.count (F.ETH_STAT.RX_FCS_ERR.CNT p) 1
  else if min 16000 (s.rd (F.ETH_PORT_CFG.MTU p)) < frame.length then s.count (F.ETH_STAT.RX_OVERSIZE.CNT p) 1
  else if frame.length < 60 then s
  else
    let s := (s.countWrap (F.ETH_STAT.RX_FRAMES.CNT p) 1).countWrap (F.ETH_STAT.RX_BYTES.CNT p) frame.length
    if beAt frame 12 2 = 0x8808 then
      if beAt frame 14 2 = 1 then s.count (F.ETH_STAT.RX_PAUSE.CNT p) 1
      else if beAt frame 14 2 = 0x0101 then s.pfcReceived p frame
      else s.storeFrame p frame
    else s.storeFrame p frame

/-- R130, R132: a frame is received on a port whose link is up, `corrected` of its FEC codewords having been corrected. -/
def execFrameReceived (p : Nat) (frame : List Byte) (fcsOk : Bool) (corrected : Nat) (s : State) : Host.Outcome State Fault Refusal :=
  if s.portExists p ∧ s.linkUp p ∧ s.flag (F.ETH_PORT_CFG.EN p) then
    let s := if corrected = 0 then s else s.countWrap (F.ETH_STAT.FEC_CORR.CNT p) corrected
    .next (s.receive p frame fcsOk).checkXon
  else .next s

/-! ### The parse record (R145) -/

/-- Table 4.4. -/
def Packet.record (p : Packet) : Bytes :=
  match p.parse with
  | none => List.replicate 64 0#8
  | some r =>
    let flags := (if r.rejected then 1 else 0) + (if r.trunc then 2 else 0) + (if r.long then 4 else 0) + (if p.held then 8 else 0)
    toLE 1 r.decision ++ toLE 1 flags ++ toLE 2 r.state ++ toLE 1 r.count ++ toLE 1 p.source ++ toLE 2 p.rawSum ++
      r.layers.map (BitVec.ofNat 8) ++ toLE 1 p.lk0.status ++ toLE 1 p.lk1.status ++ toLE 1 p.flowSt ++ List.replicate 5 0#8 ++
      toLE 8 r.tag ++ r.key.take 32

/-! ### The slow path (R160) -/

/-- Table 4.9: the words of a slow-path message. -/
def Packet.slowWords (p : Packet) (origin status detail : Nat) : List W64 :=
  let dec := match p.parse with | some r => r.decision | none => 0
  [BitVec.ofNat 64 (p.handle ||| p.len <<< 24 ||| status <<< 40 ||| detail <<< 48 ||| p.entry <<< 56 ||| p.source <<< 61),
   BitVec.ofNat 64 (p.tenant ||| p.tc <<< 12 ||| p.flowValid <<< 15 ||| p.flowIndex <<< 16 |||
     p.port <<< 38 ||| dec <<< 46 ||| origin <<< 62),
   BitVec.ofNat 64 p.timestamp,
   BitVec.ofNat 64 (p.stitch % 2 ^ 32 ||| p.qref <<< 32)]

/-- R145: the slow path receives the parse record of a packet. The spec gives it no place in the message: it is kept under the packet's
handle (DESIGN CHOICE, log entry 157). -/
def State.handRecord (s : State) (p : Packet) : State :=
  { s with net := { s.net with slowRecs := AMap.set s.net.slowRecs p.handle p.record } }

/-- A 4-word message carries a packet to an endpoint: accepted, the bobbins pass to the receiver; not accepted, the packet is
dropped and counted. -/
def State.sendPacket (s : State) (id ep epoch tag origin status detail : Nat) : State :=
  match s.pkt? id with
  | none => s
  | some p =>
    match s.trySend (editorEp p.half) ep epoch tag (p.slowWords origin status detail) false with
    | (.ok, s) => (((s.count F.EDIT_STAT.SP_SENT.CNT 1).ownChain p.handle ep).handRecord p).delPkt id
    | (_, s) => (s.count F.EDIT_STAT.SP_DROP.CNT 1).dropPacket id

/-- R160: a packet goes to the slow path of its half. -/
def State.slowPath (s : State) (id origin status detail : Nat) : State :=
  match s.pkt? id with
  | none => s
  | some p =>
    if s.flag (F.EDIT_SP_DST.EN p.half) then
      s.sendPacket id (s.rd (F.EDIT_SP_DST.ENDPOINT p.half)) (s.rd (F.EDIT_SP_DST.EPOCH p.half)) 0x3E origin status detail
    else (s.count F.EDIT_STAT.SP_DROP.CNT 1).dropPacket id

/-! ### Across the seam (R250) -/

/-- R250: a packet that moves to the other half is copied into new bobbins there and its old chain is freed; none when no
bobbin is found, and then the packet is dropped. -/
def State.moveChain (s : State) (handle t toHalf : Nat) : Option Nat × State :=
  let bs := s.chainBytes handle
  match s.storePacket toHalf t (editorEp toHalf) 0 false bs with
  | (some b, s) => (some b, s.dropChain handle)
  | (none, s) => (none, s.dropChain handle)

end Sys2Proof.Machine
end

