-- ==== Sys2Proof/Machine/Last.lean ====
section
/-! DEFINITION. The Last (chapter 04): lookup profiles and tables, the update port, and flow contexts with their home
caches. -/

namespace Sys2Proof.Machine

open Sys2Proof

/-! ### Profiles and results (R146, R151) -/

/-- A lookup that failed: ERROR with the shared status and the LAST detail in its first two bytes. -/
def LkRes.error (status detail : Nat) : LkRes := ⟨3, [BitVec.ofNat 8 status, BitVec.ofNat 8 detail]⟩
def LkRes.hit (data : Bytes) : LkRes := ⟨0, data⟩
def LkRes.miss : LkRes := ⟨1, []⟩
def LkRes.late : LkRes := ⟨2, []⟩

def profTable (w : Nat) : Nat := bitsOf w 62 60
def profExt (w : Nat) : Bool := w.testBit 59
def profQual (w : Nat) : Bool := w.testBit 58
def profKeyLen (w : Nat) : Nat := bitsOf w 55 52

/-- R146 to R150: the profile word is usable: VALID, a table that exists, and a key length that the table takes. -/
def profValid (w : Nat) : Bool :=
  let k := profKeyLen w
  w.testBit 63 && (match profTable w with
    | 0 => decide (1 ≤ k) && decide (k ≤ 6)
    | 1 => k == 1
    | 2 => k == 3
    | 3 => decide (1 ≤ k) && decide (k ≤ 5)
    | _ => false)

/-! ### Exact match (R147, R148) -/

def State.tabs (s : State) (h : Nat) : LastTabs := if h = 0 then s.net.last.tabsA else s.net.last.tabsB
def State.setLast (s : State) (x : Last) : State := { s with net := { s.net with last := x } }

/-- The tenant that a key is hashed with: none (4,096) where keys are not qualified. -/
def qualTenant (w tenant : Nat) : Nat := if profQual w then tenant else 4096

/-- The buckets of a key: chosen by the two hashes. -/
def bucketOf (which prof w tenant : Nat) (key : Bytes) (n : Nat) : Nat :=
  Config.emHash which prof (qualTenant w tenant) key % n

/-- R147: an entry answers a key. -/
def EmEntry.answers (e : EmEntry) (prof w tenant : Nat) (key : Bytes) : Bool :=
  e.profile == prof && (!profQual w || e.tenant == tenant) && sliceB e.data 0 key.length == key

/-- The slots of a bucket. -/
def bucketSlots (b : Nat) : List Nat := (List.range 8).map (fun k => 8 * b + k)

/-- The slot at which a key stands in the on-die table. -/
def LastTabs.find (t : LastTabs) (prof w tenant : Nat) (key : Bytes) : Option (Nat × EmEntry) :=
  (bucketSlots (bucketOf 0 prof w tenant key 65536) ++ bucketSlots (bucketOf 1 prof w tenant key 65536)).findSome? (fun k =>
    match AMap.get? t.em k with
    | some e => if e.answers prof w tenant key then some (k, e) else none
    | none => none)

/-- R148: the extension is configured. -/
def State.extOn (s : State) : Bool := decide (0 < s.rd F.LAST_EXT_CFG.LOG2)
def State.extBuckets (s : State) : Nat := 2 ^ s.rd F.LAST_EXT_CFG.LOG2
def State.extAddr (s : State) (slot : Nat) : Nat := s.rd F.LAST_EXT_CFG.BASE * 4096 + 64 * slot

/-- The entry of a slot of the extension. -/
def State.extEntry (s : State) (slot : Nat) : Option EmEntry :=
  (AMap.get? s.net.last.extTags slot).map (fun t => ⟨t.1, t.2, s.devRead (s.extAddr slot) 64⟩)

/-- The slot of the extension at which a key stands: its bucket is chosen by the first hash alone. -/
def State.extFind (s : State) (prof w tenant : Nat) (key : Bytes) : Option (Nat × EmEntry) :=
  (bucketSlots (bucketOf 0 prof w tenant key s.extBuckets)).findSome? (fun k =>
    match s.extEntry k with
    | some e => if e.answers prof w tenant key then some (k, e) else none
    | none => none)

/-- The address of the extension bucket of a key. -/
def State.extBucket (s : State) (prof w tenant : Nat) (key : Bytes) : Nat := s.extAddr (8 * bucketOf 0 prof w tenant key s.extBuckets)

/-- R148: a bucket has been read for a half: class 3 work of the tenant's group. -/
def State.extRead (s : State) (h prof w tenant : Nat) (key : Bytes) : State :=
  s.oweMem h (s.groupOf tenant) (s.extBucket prof w tenant key) 512 false

/-- An entry of a tenant has been placed in the extension, through the update port on Half A. -/
def State.extWrite (s : State) (slot : Nat) (e : EmEntry) : State :=
  ((s.setLast { s.net.last with extTags := AMap.set s.net.last.extTags slot (e.profile, e.tenant) }).devWrite (s.extAddr slot) e.data).oweMem
    0 (s.groupOf e.tenant) (s.extAddr slot) 64 true

/-- What the memory of the extension bucket of a key answers. -/
def State.extCheck (s : State) (prof w tenant : Nat) (key : Bytes) : MemResult :=
  s.memCheck (s.extBucket prof w tenant key) 512

/-! ### Prefixes and rules (R149, R150) -/

def prefixWidth (v6 : Bool) : Nat := if v6 then 128 else 32

/-- R149: VRF and address of a prefix key. -/
def prefixKey (v6 : Bool) (key : Bytes) : Nat × Nat :=
  if v6 then (leAt key 16 2, leAt key 0 8 * 2 ^ 64 + leAt key 8 8) else (leAt key 4 2, leAt key 0 4)

/-- A prefix covers an address. -/
def Prefix.covers (p : Prefix) (v6 : Bool) (vrf addr : Nat) : Bool :=
  p.v6 == v6 && p.vrf == vrf && p.addr / 2 ^ (prefixWidth v6 - p.plen) == addr / 2 ^ (prefixWidth v6 - p.plen)

/-- The longest of the prefixes that cover an address. -/
def longest (ps : List Prefix) (v6 : Bool) (vrf addr : Nat) : Option Prefix :=
  ps.foldl (fun best p =>
    if p.covers v6 vrf addr then
      match best with
      | none => some p
      | some b => if b.plen < p.plen then some p else best
    else best) none

/-- R149: the result of a prefix. -/
def Prefix.result (p : Prefix) : Bytes := toLE 6 p.data ++ toLE 1 p.plen ++ toLE 1 0

/-- The slots a prefix takes. -/
def Prefix.slots (p : Prefix) : Nat := if p.v6 then 2 else 1

/-- R150: a rule matches on the first bytes of its value and mask. -/
def Rule.matches (r : Rule) (key : Bytes) : Bool :=
  (List.range key.length).all (fun k =>
    (key.getD k 0 &&& r.mask.getD k 0) == (r.value.getD k 0 &&& r.mask.getD k 0))

/-- R150: the lowest-numbered matching rule of a range. -/
def ruleFind (rs : AMap Rule) (base count : Nat) (key : Bytes) : Option (Nat × Rule) :=
  rs.find? (fun e => decide (base ≤ e.1) && decide (e.1 < base + count) && e.2.matches key)

/-- R150: the result of a rule. -/
def ruleResult (k : Nat) (r : Rule) : Bytes := sliceB r.result 0 16 ++ toLE 2 k ++ List.replicate 14 0#8

/-! ### Lookups (R146 to R150) -/

/-- The result of a lookup through the replica of a half. -/
def State.lookup (s : State) (h w prof tenant : Nat) (key : Bytes) : LkRes × State :=
  if profValid w = false then (.error 0x02 0x04, s)
  else
    let t := s.tabs h
    match profTable w with
    | 0 => match t.find prof w tenant key with
      | some (_, e) => (.hit e.data, s)
      | none =>
        if profExt w ∧ s.extOn then
          let s := s.count F.LAST_STAT.EXT_LOOKUPS.CNT 1
          let m := s.extCheck prof w tenant key
          if m ≠ (0, 0) then (.error m.1 0x10, s)
          else match s.extFind prof w tenant key with
            | some (_, e) => (.hit e.data, s.extRead h prof w tenant key)
            | none => (.miss, s.extRead h prof w tenant key)
        else (.miss, s)
    | 1 => match longest t.prefixes false (prefixKey false key).1 (prefixKey false key).2 with
      | some p => (.hit p.result, s)
      | none => (.miss, s)
    | 2 => match longest t.prefixes true (prefixKey true key).1 (prefixKey true key).2 with
      | some p => (.hit p.result, s)
      | none => (.miss, s)
    | _ => match ruleFind t.rules (bitsOf w 50 36) (bitsOf w 35 20) key with
      | some (k, r) => (.hit (ruleResult k r), s)
      | none => (.miss, s)

/-- A lookup with its hit counted. -/
def State.lookupCounted (s : State) (h w prof tenant : Nat) (key : Bytes) : LkRes × State :=
  let (r, s) := s.lookup h w prof tenant key
  (r, if r.status = 0 then s.count F.LAST_STAT.HITS.CNT 1 else s)

/-! ### Flow contexts (R155, R156) -/

def State.ctxCount (s : State) : Nat := s.rd F.LAST_FCTX_CFG.COUNT

/-- R155: the home half of a context. -/
def State.ctxHome (s : State) (k : Nat) : Nat := if k < s.rd F.LAST_FCTX_CFG.SPLIT then 0 else 1

/-- R155: where a context lives in LPDDR6. -/
def State.ctxAddr (s : State) (k : Nat) : Nat :=
  let h := s.ctxHome k
  s.rd (F.LAST_FCTX_BASE.BASE h) * 4096 + 256 * (k - (if h = 0 then 0 else s.rd F.LAST_FCTX_CFG.SPLIT))

/-- The home half of a context is fenced. -/
def State.ctxFenced (s : State) (k : Nat) : Bool := s.ctxHome k == 1 && s.fencedB

def State.ctxCached (s : State) (k : Nat) : Option CachedCtx := AMap.get? s.net.last.cache k

/-- A context's bytes as its home has them. -/
def State.ctxBytes (s : State) (k : Nat) : Bytes :=
  match s.ctxCached k with
  | some c => c.bytes
  | none => s.devRead (s.ctxAddr k) 256

def ctxCtl (c : Bytes) : Nat := leAt c 0 4
def ctxValid (c : Bytes) : Bool := (ctxCtl c).testBit 31
def ctxAction (c : Bytes) : Bool := (ctxCtl c).testBit 30
def ctxSerial (c : Bytes) : Bool := (ctxCtl c).testBit 29
def ctxTenant (c : Bytes) : Nat := ctxCtl c % 4096

/-- Contexts a half may cache (R155). -/
def cacheLimit : Nat := 131072

/-- R155: a full cache of a half evicts one context, some one (a free value); a dirty one is written back,
charged to the tenant in CTL.TENANT. -/
def State.ctxEvict (s : State) (h : Nat) : State :=
  let mine := s.net.last.cache.filter (fun e => s.ctxHome e.1 == h)
  if mine.length < cacheLimit then s
  else
    match mine[Config.ctxPick s.freeCtr % mine.length]? with
    | none => s
    | some (k, c) =>
      let s := s.tookFree.setLast { s.net.last with cache := AMap.del s.net.last.cache k }
      if c.dirty then (s.devWrite (s.ctxAddr k) c.bytes).oweMem h (s.groupOf (ctxTenant c.bytes)) (s.ctxAddr k) 256 true else s

/-- A context enters its home cache. -/
def State.ctxInstall (s : State) (k : Nat) (c : CachedCtx) : State :=
  let s := if (s.ctxCached k).isSome then s else s.ctxEvict (s.ctxHome k)
  s.setLast { s.net.last with cache := AMap.set s.net.last.cache k c, fetches := AMap.del s.net.last.fetches k }

/-- R156: a context is written whole. -/
def State.ctxWrite (s : State) (k : Nat) (bs : Bytes) : State := s.ctxInstall k ⟨sliceB bs 0 256, true⟩

/-- A fetch of a context that is not cached begins, in class 3 turns of the tenant's group. -/
def State.ctxFetch (s : State) (k tenant : Nat) : State :=
  if (s.ctxCached k).isSome ∨ (AMap.get? s.net.last.fetches k).isSome ∨ s.ctxFenced k then s
  else
    let s := s.count F.LAST_STAT.FCTX_MISS.CNT 1
    if s.memCheck (s.ctxAddr k) 256 ≠ (0, 0) then s
    else
      let (id, s) := s.memIssue (s.ctxHome k) (s.groupOf tenant) (s.ctxAddr k) 256 none
      s.setLast { s.net.last with fetches := AMap.set s.net.last.fetches k id }

/-- R155: the bytes of a fetched context have arrived, and it enters its home cache. -/
def execFctxFill (k : Nat) (s : State) : Host.Outcome State Fault Refusal :=
  match AMap.get? s.net.last.fetches k with
  | none => .next s
  | some id =>
    if s.memCheck (s.ctxAddr k) 256 ≠ (0, 0) then
      .next ((s.memDrop id).setLast { s.net.last with fetches := AMap.del s.net.last.fetches k })
    else if s.memDone id then .next (s.ctxInstall k ⟨s.devRead (s.ctxAddr k) 256, false⟩)
    else .next s

/-- R155 to R157: a packet of a tenant takes a context's cached action: its counts rise and it was last seen now. A context that has
left the cache since the packet's FLOW_ST was judged is filled from LPDDR6 first. -/
def State.ctxSeen (s : State) (k tenant len : Nat) : State :=
  let c := s.ctxBytes k
  let s := if (s.ctxCached k).isSome then s else s.oweMem (s.ctxHome k) (s.groupOf tenant) (s.ctxAddr k) 256 false
  let b := putB c 0x08 (toLE 8 (leAt c 0x08 8 + 1))
  let b := putB b 0x10 (toLE 8 (leAt b 0x10 8 + len))
  s.ctxInstall k ⟨putB b 0x18 (toLE 8 s.stitch), true⟩

/-- R107, R156: a context write of a thread or of the update port: OK, or the status and detail of its failure. -/
def State.ctxStore (s : State) (k : Nat) (bs : Bytes) : (Nat × Nat) × State :=
  if s.ctxCount ≤ k then ((0x04, 0x06), s)
  else if s.ctxFenced k then ((0x0E, 0x12), s)
  else ((0, 0), s.ctxWrite k bs)

/-! ### The update port (R152, R153) -/

/-- An update as its command word gives it. -/
structure UpdCmd where
  op : Nat
  profile : Nat
  tenant : Nat
  index : Nat
  plen : Nat
  data : Bytes

def updCmd (w : Nat) (data : Bytes) : UpdCmd :=
  ⟨bitsOf w 59 56, bitsOf w 55 51, bitsOf w 50 39, bitsOf w 38 17, bitsOf w 16 9, data⟩

/-- Place an entry in a bucket with a free slot, some one (a free value). -/
def LastTabs.place (t : LastTabs) (b pick : Nat) (e : EmEntry) : Option LastTabs :=
  let free := (bucketSlots b).filter (fun k => (AMap.get? t.em k).isNone)
  match free[pick % free.length]? with
  | some k => some { t with em := AMap.set t.em k e }
  | none => none

/-- The key bytes of a resident entry: its profile's key length in force. -/
def State.entryKey (s : State) (e : EmEntry) : Bytes := sliceB e.data 0 (8 * profKeyLen (s.word (0x800000 + 8 * e.profile)))

/-- R152: an insert whose buckets are both full moves resident entries to their other buckets, at most 16 moves: the entry
takes the slot of a resident one (a free value), which goes to its own other bucket. -/
def State.displace (s : State) (t : LastTabs) (e : EmEntry) (b : Nat) : Nat → Nat → Option LastTabs
  | 0, _ => none
  | fuel + 1, pick =>
    let k := 8 * b + Config.emPick pick % 8
    match AMap.get? t.em k with
    | none => some { t with em := AMap.set t.em k e }
    | some v =>
      let w := s.word (0x800000 + 8 * v.profile)
      let key := s.entryKey v
      let b0 := bucketOf 0 v.profile w v.tenant key 65536
      let b1 := bucketOf 1 v.profile w v.tenant key 65536
      let other := if b0 = b then b1 else b0
      let t := { t with em := AMap.set t.em k e }
      match t.place other (Config.emPick (pick + 1)) v with
      | some t => some t
      | none => s.displace t v other fuel (pick + 2)

def State.setTabsA (s : State) (t : LastTabs) : State := s.setLast { s.net.last with tabsA := t }

/-- R152: an entry goes to a free slot of its buckets, or by moves, or to the extension; or there is no room. -/
def State.emInsert (s : State) (u : UpdCmd) (w : Nat) (e : EmEntry) (key : Bytes) : (Nat × Nat) × State :=
  let t := s.net.last.tabsA
  let b0 := bucketOf 0 u.profile w u.tenant key 65536
  let b1 := bucketOf 1 u.profile w u.tenant key 65536
  let c := s.freeCtr
  let s := { s with freeCtr := c + 64 }
  match t.place b0 (Config.emPick c) e with
  | some t => ((0, 0), s.setTabsA t)
  | none => match t.place b1 (Config.emPick (c + 1)) e with
    | some t => ((0, 0), s.setTabsA t)
    | none => match s.displace t e b0 16 (c + 2) with
      | some t => ((0, 0), s.setTabsA t)
      | none =>
        if profExt w ∧ s.extOn then
          let m := s.extCheck u.profile w u.tenant key
          if m ≠ (0, 0) then ((m.1, 0x10), s)
          else
            let slots := bucketSlots (bucketOf 0 u.profile w u.tenant key s.extBuckets)
            match slots.find? (fun k => (AMap.get? s.net.last.extTags k).isNone) with
            | some k => ((0, 0), s.extWrite k e)
            | none => ((0x05, 0x03), s)
        else ((0x05, 0x03), s)

/-- EM_INSERT (1), EM_UPSERT (2) and EM_DELETE (3). -/
def State.emUpdate (s : State) (u : UpdCmd) : (Nat × Nat) × State :=
  let w := s.word (0x800000 + 8 * u.profile)
  if 28 ≤ u.profile ∨ profValid w = false ∨ profTable w ≠ 0 then ((0x02, 0x04), s)
  else
    let key := sliceB u.data 0 (8 * profKeyLen w)
    let t := s.net.last.tabsA
    let e : EmEntry := ⟨u.profile, u.tenant, sliceB u.data 0 64⟩
    match t.find u.profile w u.tenant key with
    | some (k, _) =>
      if u.op = 1 then ((0x04, 0x01), s)
      else if u.op = 2 then ((0, 0), s.setTabsA { t with em := AMap.set t.em k e })
      else ((0, 0), s.setTabsA { t with em := AMap.del t.em k })
    | none =>
      let ext := profExt w && s.extOn
      let m := if ext then s.extCheck u.profile w u.tenant key else (0, 0)
      if ext ∧ m ≠ (0, 0) then ((m.1, 0x10), s)
      else
      let s := if ext then s.extRead 0 u.profile w u.tenant key else s
      match if ext then s.extFind u.profile w u.tenant key else none with
        | some (k, _) =>
          if u.op = 1 then ((0x04, 0x01), s)
          else if u.op = 2 then ((0, 0), s.extWrite k e)
          else ((0, 0), s.setLast { s.net.last with extTags := AMap.del s.net.last.extTags k })
        | none => if u.op = 3 then ((0x04, 0x02), s) else s.emInsert u w e key

/-- PFX_ADD (4) and PFX_DEL (5). -/
def State.pfxUpdate (s : State) (u : UpdCmd) : (Nat × Nat) × State :=
  let w := s.word (0x800000 + 8 * u.profile)
  if 28 ≤ u.profile ∨ profValid w = false ∨ (profTable w ≠ 1 ∧ profTable w ≠ 2) then ((0x02, 0x04), s)
  else
    let v6 := profTable w == 2
    let (vrf, addr) := prefixKey v6 u.data
    let width := prefixWidth v6
    if width < u.plen ∨ addr % 2 ^ (width - u.plen) ≠ 0 then ((0x02, 0x05), s)
    else
      let t := s.net.last.tabsA
      let same (p : Prefix) : Bool := p.v6 == v6 && p.vrf == vrf && p.addr == addr && p.plen == u.plen
      let rest := t.prefixes.filter (fun p => !same p)
      if u.op = 5 then
        if t.prefixes.any same then ((0, 0), s.setTabsA { t with prefixes := rest }) else ((0x04, 0x02), s)
      else
        let p : Prefix := ⟨v6, vrf, addr, u.plen, leAt u.data 0x30 6⟩
        if t.prefixes.any same then
          ((0, 0), s.setTabsA { t with prefixes := t.prefixes.map (fun q => if same q then p else q) })
        else if 262144 < (t.prefixes.map Prefix.slots).sum + p.slots then ((0x05, 0x03), s)
        else ((0, 0), s.setTabsA { t with prefixes := t.prefixes ++ [p] })

/-- RULE_WRITE (6) and RULE_CLEAR (7). -/
def State.ruleUpdate (s : State) (u : UpdCmd) : (Nat × Nat) × State :=
  let t := s.net.last.tabsA
  if 32768 ≤ u.index then ((0x04, 0x06), s)
  else if u.op = 7 then ((0, 0), s.setTabsA { t with rules := AMap.del t.rules u.index })
  else
    let r : Rule := ⟨sliceB u.data 0 40, sliceB u.data 0x40 40, sliceB u.data 0x80 16⟩
    ((0, 0), s.setTabsA { t with rules := AMap.set t.rules u.index r })

/-- Table 4.7: an update operation, applied to Half A's replica. -/
def State.lastApply (s : State) (u : UpdCmd) : (Nat × Nat) × State :=
  if u.op = 1 ∨ u.op = 2 ∨ u.op = 3 then s.emUpdate u
  else if u.op = 4 ∨ u.op = 5 then s.pfxUpdate u
  else if u.op = 6 ∨ u.op = 7 then s.ruleUpdate u
  else if u.op = 8 then s.ctxStore u.index (sliceB u.data 0 256)
  else ((0x02, 0x04), s)

/-- LAST_UPD_DATA. -/
def State.updData (s : State) : Bytes := (List.range 64).flatMap (fun k => toLE 4 (s.rd (F.LAST_UPD_DATA.W k)))

/-- The Last update port. -/
def updEp : Nat := epUnit 5 0

/-- R152: the update that the two paths apply next, in order of arrival: the operation of LAST_UPD_CMD once every message that
had arrived before its GO is taken, and the head of the port's queue otherwise. -/
def State.firstUpd (s : State) : Option (UpdCmd × Option Msg) :=
  if s.flag F.LAST_UPD_CMD.BUSY ∧ (s.queueAt updEp).any (fun m => s.net.last.goAfter == some m.id) = false then
    some (updCmd s.net.last.goWord s.updData, none)
  else (s.headAt updEp).map (fun m => (updCmd (m.words.headD 0).toNat (bytesOf m.words.tail), some m))

/-- R152: the next update of the port, when it asks for operation `op` (0: for one that does not exist). -/
def State.nextUpd (s : State) (op : Nat) : Option (UpdCmd × Option Msg) :=
  s.firstUpd.filter (fun x => if op = 0 then x.1.op == 0 || decide (8 < x.1.op) else x.1.op == op)

/-- R152, R153: the port takes up its next update, when no other is under way, and applies it to the first replica. -/
def State.lastUpdate (s : State) (op : Nat) : State :=
  let s := s.dropSpoilt updEp (fun _ => true)
  if s.net.last.upd.isSome then s
  else match s.nextUpd op with
    | none => s
    | some (u, msg) =>
      let s := if msg.isSome then s.setQueue updEp (s.queueAt updEp).tail else s
      let (r, s) := s.lastApply u
      s.setLast { s.net.last with upd := some ⟨msg, r.1, r.2⟩ }

def execEmInsert (s : State) : Host.Outcome State Fault Refusal := .next (s.lastUpdate 1)
def execEmUpsert (s : State) : Host.Outcome State Fault Refusal := .next (s.lastUpdate 2)
def execEmDelete (s : State) : Host.Outcome State Fault Refusal := .next (s.lastUpdate 3)
def execPfxAdd (s : State) : Host.Outcome State Fault Refusal := .next (s.lastUpdate 4)
def execPfxDel (s : State) : Host.Outcome State Fault Refusal := .next (s.lastUpdate 5)
def execRuleWrite (s : State) : Host.Outcome State Fault Refusal := .next (s.lastUpdate 6)
def execRuleClear (s : State) : Host.Outcome State Fault Refusal := .next (s.lastUpdate 7)
def execFctxWrite (s : State) : Host.Outcome State Fault Refusal := .next (s.lastUpdate 8)

/-- R152: LAST_UPD_CMD.GO is written with the register's fields in place. -/
def State.lastGo (s : State) : State :=
  if s.flag F.LAST_UPD_CMD.BUSY then s
  else ((s.setLast { s.net.last with goAfter := (s.queueAt updEp).getLast?.map (fun m => m.id),
                                           goWord := s.word 0x800300 }).wr F.LAST_UPD_CMD.GO 1).wr
    F.LAST_UPD_CMD.BUSY 1

/-- R153: the second replica takes the update, unless its half is fenced; the status is written or replied, and counted. -/
def State.lastDone (s : State) (u : LastUpd) : State :=
  let l := s.net.last
  let s := s.setLast { l with upd := none, tabsB := if s.fencedB then l.tabsB else l.tabsA }
  let s := s.count F.LAST_STAT.UPDATES.CNT 1
  let s := if u.status = 0 then s else s.count F.LAST_STAT.UPDATE_FAIL.CNT 1
  match u.msg with
  | some m => s.unitReply updEp m 0 [BitVec.ofNat 64 (u.status ||| u.detail <<< 8)]
  | none =>
    ((((s.wr F.LAST_UPD_CMD.GO 0).wr F.LAST_UPD_CMD.BUSY 0).wr F.LAST_UPD_STATUS.DONE 1).wr F.LAST_UPD_STATUS.STATUS u.status).wr
      F.LAST_UPD_STATUS.DETAIL u.detail

/-- R153: the update under way completes. An operation that Table 4.7 does not name is taken up and completes here. -/
def execLastUpdateDone (s : State) : Host.Outcome State Fault Refusal :=
  let s := s.lastUpdate 0
  match s.net.last.upd with
  | some u => .next (s.lastDone u)
  | none => .next s

/-- R153: before Half B rejoins, its replica is loaded from Half A's. -/
def State.reloadLastB (s : State) : State := s.setLast { s.net.last with tabsB := s.net.last.tabsA }

/-! ### The table windows (Table 4.14) -/

/-- Four bytes of the view that LAST_WIN_SEL selects, at an offset of the 32 MiB window. -/
def State.lastWindow (s : State) (off : Nat) : Nat :=
  let v := s.rd F.LAST_WIN_SEL.VIEW
  let em (t : LastTabs) : Nat := match AMap.get? t.em (off / 64) with | some e => leAt e.data (off % 64) 4 | none => 0
  if v = 0 then em s.net.last.tabsA
  else if v = 1 then em s.net.last.tabsB
  else if v = 2 then match AMap.get? s.net.last.tabsA.em (off / 4) with
    | some e => 1 <<< 31 ||| e.profile <<< 16 ||| e.tenant
    | none => 0
  else if v = 3 then
    let words := s.net.last.tabsA.prefixes.flatMap (fun p =>
      (if p.v6 then toLE 8 (p.addr / 2 ^ 64) ++ toLE 8 p.addr ++ toLE 8 p.vrf else toLE 8 (p.vrf * 2 ^ 32 + p.addr)) ++ p.result)
    leAt words off 4
  else if v = 4 then match AMap.get? s.net.last.tabsA.rules (off / 128) with
    | some r =>
      let b := putB (putB (putB (List.replicate 128 0#8) 0 r.value) 0x40 r.mask) 0x68 r.result
      leAt b (off % 128) 4
    | none => 0
  else 0

end Sys2Proof.Machine
end

