-- ==== Sys2Proof/Machine/Card.lean ====
section
/-! DEFINITION. The Card lanes (chapter 04): parse microcode and its swap, admission, the parse, and the decision's drop,
slow path or lookups, up to the dispatch or the cached action. -/

namespace Sys2Proof.Machine

open Sys2Proof

/-! ### Parse microcode (R138 to R140, R143) -/

/-- The offset lies in a shadow copy (Table 4.13). -/
def inCardShadow (o : Nat) : Bool :=
  (decide (0x610000 ≤ o) && decide (o < 0x612000)) || (decide (0x620000 ≤ o) && decide (o < 0x628000)) ||
    (decide (0x630000 ≤ o) && decide (o < 0x630200))

/-- The offset lies in an active copy. -/
def inCardActive (o : Nat) : Bool :=
  (decide (0x612000 ≤ o) && decide (o < 0x614000)) || (decide (0x628000 ≤ o) && decide (o < 0x630000)) ||
    (decide (0x630200 ≤ o) && decide (o < 0x630400))

/-- The 32-bit word of a window of Table 4.13. -/
def State.cardWord (s : State) (o : Nat) : Nat :=
  let c := s.net.card
  let g (m : AMap W32) (b : Nat) : Nat := (AMap.getD m ((o - b) / 4) 0#32).toNat
  if o < 0x612000 then g c.shadow.pg 0x610000
  else if o < 0x614000 then g c.active.pg 0x612000
  else if o < 0x628000 then g c.shadow.tr 0x620000
  else if o < 0x630000 then g c.active.tr 0x628000
  else if o < 0x630200 then g c.shadow.dec 0x630000
  else g c.active.dec 0x630200

def State.setCard (s : State) (c : Card) : State := { s with net := { s.net with card := c } }

/-- R138: a write of one word of a shadow copy, discarded with BUSY_WRITE while a swap is pending. Reserved bits keep zero
(R13). -/
def State.cardShadowWrite (s : State) (o v : Nat) : State :=
  if s.flag F.CARD_COMMIT.PENDING then s.wr F.CARD_COMMIT.BUSY_WRITE 1
  else
    let c := s.net.card
    let m := c.shadow
    let put (x : AMap W32) (b mask : Nat) : AMap W32 := AMap.setD 0#32 x ((o - b) / 4) (BitVec.ofNat 32 (v &&& mask))
    let m :=
      if o < 0x612000 then
        let k := (o - 0x610000) / 4 % 4
        { m with pg := put m.pg 0x610000 (if k = 0 then 0xFFFFFFF0 else if k = 2 then 0xFFFFFC00 else 0xFFFFFFC0) }
      else if o < 0x628000 then { m with tr := put m.tr 0x620000 (if (o - 0x620000) / 4 % 2 = 0 then 0xFFFFFFFF else 0x81FF0000) }
      else { m with dec := put m.dec 0x630000 (if (o - 0x630000) / 4 % 2 = 0 then 0 else 0xFFFFFFFF) }
    s.setCard { c with shadow := m }

/-- R138: CARD_COMMIT is written. DONE and BUSY_WRITE clear by writing 1; GO requests the swap unless one is pending. -/
def State.cardCommitWrite (s : State) (v : Nat) : State :=
  let s := if v.testBit 30 then s.wr F.CARD_COMMIT.BUSY_WRITE 0 else s
  let s := if v.testBit 29 then s.wr F.CARD_COMMIT.DONE 0 else s
  if v.testBit 0 ∧ s.rd F.CARD_COMMIT.PENDING = 0 then
    ((s.setCard { s.net.card with goAt := some s.clk.cycles }).wr F.CARD_COMMIT.PENDING 1).wr F.CARD_COMMIT.GO 1
  else s

def execCardCommit (v : W32) (s : State) : Host.Outcome State Fault Refusal := .next (s.cardCommitWrite v.toNat)

/-- R138: at the first stitch boundary at least 2,048 cycles after GO all three tables swap: each copy takes the other's words
(DEDUCED, log entry 10). -/
def execCardSwap (s : State) : Host.Outcome State Fault Refusal :=
  match s.net.card.goAt with
  | none => .next s
  | some t =>
    if s.atBoundary ∧ t + 2048 ≤ s.clk.cycles then
      .next ((((s.setCard { s.net.card with active := s.net.card.shadow, shadow := s.net.card.active, goAt := none }).wr F.CARD_COMMIT.PENDING 0).wr
        F.CARD_COMMIT.GO 0).wr F.CARD_COMMIT.DONE 1)
    else .next s

/-! ### The parse (R139 to R142) -/

/-- R139: a byte of the window: zero beyond the packet or byte 255. The spec gives the window 64 bytes, and no value to one beyond them
that the packet has: a free value (log entry 117). -/
def winByte (hdr : Bytes) (free ptr k : Nat) : Byte :=
  if 256 ≤ ptr + k ∨ hdr.length ≤ ptr + k then 0
  else if 64 ≤ k then Config.beyondWindow (free + k)
  else hdr.getD (ptr + k) 0

/-- The progress of a parse: what it has left so far, and the header pointer. -/
structure ParseAcc where
  out : Parse
  ptr : Nat
  deriving DecidableEq, Repr

def Parse.start : Parse :=
  { decision := 0, rejected := false, trunc := false, long := false, state := 0, count := 0,
    layers := List.replicate 8 0xFF, key := List.replicate 128 0#8, tag := 0 }

/-- Word `k` of a parse-graph state. -/
def Microcode.state (m : Microcode) (st k : Nat) : Nat := (AMap.getD m.pg (4 * st + k) 0#32).toNat

/-- A transition entry. -/
def Microcode.trans (m : Microcode) (k : Nat) : Nat :=
  (AMap.getD m.tr (2 * k) 0#32).toNat + (AMap.getD m.tr (2 * k + 1) 0#32).toNat * 2 ^ 32

/-- A decision entry. -/
def Microcode.decision (m : Microcode) (d : Nat) : Nat :=
  (AMap.getD m.dec (2 * d) 0#32).toNat + (AMap.getD m.dec (2 * d + 1) 0#32).toNat * 2 ^ 32

/-- R140: the next state: the first valid entry that matches, or DEFAULT. -/
def Microcode.next (m : Microcode) (w0 sel : Nat) : Nat :=
  match (List.range (bitsOf w0 20 16)).find? (fun k =>
    let e := m.trans (bitsOf w0 15 4 + k)
    e.testBit 63 && (sel &&& bitsOf e 31 16) == bitsOf e 15 0) with
  | some k => bitsOf (m.trans (bitsOf w0 15 4 + k)) 56 48
  | none => bitsOf w0 29 21

/-- R139, R140: marking and extraction of a state; none where the extraction passes key byte 127. -/
def Microcode.markExtract (m : Microcode) (hdr : Bytes) (free st : Nat) (a : ParseAcc) : Bool × Parse :=
  let w2 := m.state st 2
  let w3 := m.state st 3
  let p := a.out
  let p := if w2.testBit 10 then { p with layers := p.layers.set (bitsOf w2 13 11) a.ptr } else p
  if w3.testBit 31 ∧ 127 < bitsOf w3 20 14 + bitsOf w3 24 21 then (false, p)
  else
    let p := if w3.testBit 31 then
        let bs := (List.range (bitsOf w3 24 21 + 1)).map (fun k => winByte hdr free a.ptr (bitsOf w3 30 25 + k))
        { p with key := putB p.key (bitsOf w3 20 14) (if w3.testBit 6 then bs.reverse else bs) }
      else p
    (true, if w3.testBit 7 then { p with tag := p.tag ||| 2 ^ bitsOf w3 13 8 } else p)

/-- R141: a REJECT. -/
def Parse.reject (p : Parse) (rej : Nat) (trunc long : Bool) : Parse :=
  { p with decision := rej, rejected := true, trunc := trunc, long := long }

/-- R140, R141: the states of a parse from one on; `fuel` counts the stages left. A 25th state is REJECT with LONG. -/
def Microcode.run (m : Microcode) (hdr : Bytes) (free rej : Nat) : Nat → Nat → ParseAcc → Parse
  | 0, st, a => { a.out with state := st, count := a.out.count + 1 }.reject rej false true
  | fuel + 1, st, a =>
    let a := { a with out := { a.out with state := st, count := a.out.count + 1 } }
    let w0 := m.state st 0
    let w1 := m.state st 1
    let w2 := m.state st 2
    let kind := bitsOf w0 31 30
    let (ok, p) := m.markExtract hdr free st a
    if ok = false then p.reject rej false false
    else if kind = 1 then { p with decision := bitsOf w0 26 21 }
    else if kind ≠ 0 ∨ bitsOf w2 31 30 = 3 then p.reject rej false false
    else
      let o := bitsOf w1 31 26
      let be := 256 * (winByte hdr free a.ptr o).toNat + (winByte hdr free a.ptr (o + 1)).toNat
      let sel := (be >>> bitsOf w1 25 22) &&& bitsOf w1 21 6
      let b := (winByte hdr free a.ptr (bitsOf w2 29 24)).toNat
      let adv := match bitsOf w2 31 30 with
        | 0 => bitsOf w2 20 14
        | 1 => (b >>> bitsOf w2 23 21) % 16 * 4 + bitsOf w2 20 14
        | _ => (b + 1) * 8 + bitsOf w2 20 14
      if 255 < a.ptr + adv then p.reject rej true false
      else m.run hdr free rej fuel (m.next w0 sel) ⟨p, a.ptr + adv⟩

/-- R138: a parse begins at the start state of the packet's source with the pointer at byte 0. -/
def Microcode.parse (m : Microcode) (hdr : Bytes) (free rej start : Nat) : Parse :=
  m.run hdr free rej 24 start ⟨Parse.start, 0⟩

/-- The start state of a source. -/
def State.cardStart (s : State) (source : Nat) : Nat :=
  if source = 0 then s.rd F.CARD_START.ETH
  else if source = 1 then s.rd F.CARD_START.HOST
  else if source = 2 then s.rd F.CARD_START.PEER
  else s.rd F.CARD_START.CTRL

/-! ### Admission (R133, R255) -/

/-- The half of a Card lane position. -/
def laneHalf (l : Nat) : Nat := if l < 5 then 0 else 1

/-- R255: in this turn the lanes of the half admit the tenant's packets. -/
def State.admits (s : State) (h t : Nat) : Bool :=
  !s.tenantSlow h t || s.periodTurnOf h % 2 ^ s.rd F.BOBBIN_SLOW.SHIFT == 0

/-- R255: a turn in which the half passed over a tenant at SLOW is counted once. -/
def State.slowSkip (s : State) (h t : Nat) : State :=
  if AMap.get? s.net.card.slowTurn (4096 * h + t) = some (s.turnNoOf h) then s
  else (s.setCard { s.net.card with slowTurn := AMap.set s.net.card.slowTurn (4096 * h + t) (s.turnNoOf h) }).count
    F.BOBBIN_STAT.SLOW_SKIPS.CNT 1

/-- The packets waiting in a group's admission queue on a half, oldest first. -/
def State.admission (s : State) (h g : Nat) : List (Nat × Packet) :=
  s.net.pkts.filter (fun e => e.2.stage == .admission && e.2.half == h && s.groupOf e.2.tenant == g)

/-- R133, R138, R255: an active lane takes the oldest packet, that its tenant's watermark lets pass, of the group that its
service-unit boundary chose. The whole packet is parsed by the copies active now. -/
def execCardAdmission (lane : Nat) (s : State) : Host.Outcome State Fault Refusal :=
  let h := laneHalf lane
  match s.groupAt 0 lane with
  | none => .next s
  | some g =>
    if s.rd (F.CARD_LANE.STATE lane) ≠ 0 ∨ (h = 1 ∧ s.fencedB) ∨ 10 ≤ lane then .next s
    else
      let q := s.admission h g
      let s := (q.filter (fun e => !s.admits h e.2.tenant)).foldl (fun s e => s.slowSkip h e.2.tenant) s
      match q.find? (fun e => s.admits h e.2.tenant) with
      | none => .next s
      | some (id, p) =>
        let hdr := (s.chainBytes p.handle).take 256
        let r := s.net.card.active.parse hdr s.freeCtr (s.rd F.CARD_CFG.REJ_DEC) (s.cardStart p.source)
        let dec := s.net.card.active.decision r.decision
        let s := { s with freeCtr := s.freeCtr + 256 }
        let s := (s.useChoice 0 lane).setPkt id
          { p with stage := .parsing lane s.clk.cycles, parse := some r, layers := markedLayers r.layers, entry := bitsOf dec 61 57,
                   bypass := dec.testBit 56, dec := dec }
        .next s.checkXon

/-! ### The decision (R141, R143, R144) -/

/-- A lookup of a decision: the profile's word and number, and the key bytes it reads at its offset. -/
def State.decLookup (s : State) (prof : Nat) : Option (Nat × Nat) :=
  if 28 ≤ prof then none else some (s.word (0x800000 + 8 * prof), prof)

/-- R141, R143, R144: a parse ends: its decision drops the packet, sends it to the slow path, or issues its lookups. -/
def State.parseEnd (s : State) (id : Nat) (p : Packet) (r : Parse) : State :=
  let dec := p.dec
  let s := s.count F.CARD_STAT.PARSED.CNT 1
  let s := if r.rejected then s.count F.CARD_STAT.REJECTED.CNT 1 else s
  let s := if r.trunc then s.count F.CARD_STAT.TRUNC.CNT 1 else s
  let s := if r.long then s.count F.CARD_STAT.LONG.CNT 1 else s
  let p := { p with stitch := s.stitch, tc := if dec.testBit 32 then bitsOf dec 35 33 else p.tc }
  match bitsOf dec 63 62 with
  | 0 =>
    let l0 := s.decLookup (bitsOf dec 53 49)
    let l1 := s.decLookup (bitsOf dec 44 40)
    let n := (if l0.isSome then 1 else 0) + (if l1.isSome then 1 else 0)
    (s.count F.LAST_STAT.LOOKUPS.CNT n).setPkt id
      { p with stage := .lookups s.clk.cycles, prof0 := l0, prof1 := l1 }
  | 2 => (s.setPkt id p).slowPath id 0 0 r.decision
  | _ => ((s.setPkt id p).dropPacket id).count F.CARD_STAT.DEC_DROP.CNT 1

/-- R138: a lane produces its result 32 cycles after it accepted the header. A packet whose bobbins hold data that cannot be corrected
goes to the slow path (R264; its origin and DETAIL are DEDUCED, log entry 160). -/
def execParseEnd (id : Nat) (s : State) : Host.Outcome State Fault Refusal :=
  match s.pkt? id with
  | some p =>
    match p.stage, p.parse with
    | .parsing _ since, some r =>
      if s.clk.cycles < since + 32 then .next s
      else if s.chainBad p.handle then .next (s.slowPath id 0 stDeviceError bdEcc).checkXon
      else .next (s.parseEnd id p r).checkXon
    | _, _ => .next s
  | none => .next s

/-! ### After the lookups (R144, R156, R157) -/

/-- R144: the result of one pre-dispatch lookup at the end of the wait: back, or recorded LATE with its late result
discarded and counted. -/
def State.preLookup (s : State) (p : Packet) (prof : Option (Nat × Nat)) (koff : Nat) (back : Bool) : LkRes × State :=
  match prof with
  | none => (LkRes.none, s)
  | some (w, n) =>
    let key := match p.parse with | some r => r.key | none => []
    if back then s.lookupCounted p.half w n p.tenant (sliceB key (8 * koff) (8 * profKeyLen w))
    else (LkRes.late, (s.count F.CARD_STAT.PRE_LATE.CNT 1).count F.LAST_STAT.LATE_DISCARD.CNT 1)

/-- FLOW_ST of a packet and the context it names, by its flow word (Table 4.4). -/
def State.flowOf (s : State) (p : Packet) : Nat × Option Nat :=
  match p.flowRead with
  | none => (0, none)
  | some (v, k) =>
    if v = false ∨ s.ctxCount ≤ k then (3, none)
    else if (s.ctxCached k).isSome ∧ s.ctxFenced k = false then (1, some k)
    else (2, some k)

/-- The context is held by a worker (R156). -/
def State.ctxHeld (s : State) (k : Nat) : Bool := (AMap.get? s.net.last.holders k).isSome

/-- R156: a packet enters the hold list of its flow's home half, or is dropped when the list is full. -/
def State.holdPacket (s : State) (id k : Nat) : State :=
  let n := (s.net.last.holdList.filter (fun q => match s.pkt? q with
    | some p => match p.flow with | some f => s.ctxHome f == s.ctxHome k | none => false
    | none => false)).length
  if 8192 ≤ n then (s.count F.LAST_STAT.HOLD_DROP.CNT 1).dropPacket id
  else (s.modPkt id fun p => { p with stage := .hold }).setLast { s.net.last with holdList := s.net.last.holdList ++ [id] }

/-- The words of a context's cached action list: ACTION_LEN words. -/
def ctxList (c : Bytes) : Nat × List W64 := (leAt c 4 1, wordsOf (min 16 (leAt c 4 1)) (sliceB c 0x20 128))

/-- R157, R158: the packet takes the cached action, waits in the hold list, or becomes pending for dispatch. -/
def State.bypassOrDispatch (s : State) (id : Nat) : State :=
  match s.pkt? id with
  | none => s
  | some p =>
    match p.flow with
    | none => s.setPkt id { p with stage := .dispatch }
    | some k =>
      if s.ctxHeld k then s.holdPacket id k
      else
        let c := s.ctxBytes k
        if p.bypass ∧ p.flowSt = 1 ∧ ctxValid c ∧ ctxAction c then
          let (n, l) := ctxList c
          let s := (s.ctxSeen k p.tenant p.len).count F.CARD_STAT.BYPASSED.CNT 1
          if 16 < n then (s.count F.EDIT_STAT.MALFORMED.CNT 1).slowPath id 2 0x02 0x01
          else s.setPkt id { p with stage := .editor, list := l }
        else s.setPkt id { p with stage := .dispatch }

/-- R144: the lookups of a packet all return, or PRE_DL cycles pass after the parse's end. `back0` and `back1` say which
lookups have returned. -/
def execPreDispatchWaitEnd (id : Nat) (back0 back1 : Bool) (s : State) : Host.Outcome State Fault Refusal :=
  match s.pkt? id with
  | some p =>
    match p.stage with
    | .lookups since =>
      let all := (p.prof0.isNone || back0) && (p.prof1.isNone || back1)
      if all ∨ since + max 1 (s.rd F.LAST_CFG.PRE_DL) ≤ s.clk.cycles then
        let (r0, s) := s.preLookup p p.prof0 (bitsOf p.dec 48 45) back0
        let (r1, s) := s.preLookup p p.prof1 (bitsOf p.dec 39 36) back1
        let p := { p with lk0 := r0, lk1 := r1 }
        let (st, flow) := s.flowOf p
        .next ((s.setPkt id { p with flowSt := st, flow := flow }).bypassOrDispatch id)
      else .next s
    | _ => .next s
  | none => .next s

/-! ### Held flows (R156) -/

/-- R156: a SERIAL context is held from the dispatch of a packet that carries it; packets of the flow that were pending for
dispatch wait in the hold list, in order of arrival. -/
def State.holdFlow (s : State) (id tid : Nat) : State :=
  match (s.pkt? id).bind (fun p => p.flow) with
  | none => s
  | some k =>
    let c := s.ctxBytes k
    if ctxValid c ∧ ctxSerial c then
      let s := s.setLast { s.net.last with holders := AMap.set s.net.last.holders k ⟨tid, (s.thr tid).gen⟩ }
      (s.net.pkts.filter (fun e => e.2.stage == .dispatch && e.2.flow == some k && e.1 != id)).foldl
        (fun s e => s.holdPacket e.1 k) s
    else s

/-- The holder's retire has ended: its thread has left the work it held. FCWBs are applied as they issue. -/
def State.holderDone (s : State) (x : Holder) : Bool := decide (x.gen + 1 < (s.thr x.tid).gen) ||
  ((s.thr x.tid).work.isNone && (s.thr x.tid).retireAt.isNone)

/-- R156: a held context is released when its holder is done; waiting packets are examined again in order of arrival, with
HELD set. -/
def execFlowHoldRelease (k : Nat) (s : State) : Host.Outcome State Fault Refusal :=
  match AMap.get? s.net.last.holders k with
  | none => .next s
  | some x =>
    if s.holderDone x then
      let mine (q : Nat) : Bool := match s.pkt? q with | some p => p.flow == some k | none => false
      let wait := s.net.last.holdList.filter mine
      let s := s.setLast { s.net.last with holders := AMap.del s.net.last.holders k,
                                           holdList := s.net.last.holdList.filter (fun q => !mine q) }
      .next (wait.foldl (fun s q => (s.modPkt q fun p => { p with held := true }).bypassOrDispatch q) s)
    else .next s

/-! ### Reinjection (R154) -/

/-- R154: the Editor of a half admits the packet a message names to its Card lanes as SOURCE 3, under the tenant recorded in
the bobbin. The message gives it no priority and no traffic class: both are 0. -/
def State.reinject (s : State) (h : Nat) (m : Msg) : State :=
  let handle := (m.words.headD 0).toNat % 2 ^ 24
  let t := (s.desc handle).tenant
  s.admitPacket (newPacket h 3 t 0 0 0 handle (s.chainBytes handle).length 0 0 0)

def execControlReinjection (h : Nat) (s : State) : Host.Outcome State Fault Refusal :=
  if h = 1 ∧ s.fencedB then .next s
  else
    let s := s.dropSpoilt (editorEp h) (fun _ => true)
    match s.queueAt (editorEp h) with
    | m :: t => .next ((s.setQueue (editorEp h) t).reinject h m)
    | [] => .next s

end Sys2Proof.Machine
end

