-- ==== Sys2Proof/Machine/Ptp.lean ====
section
/-! DEFINITION. Time (chapters 01 and 04): the PTP clock with its PPS pins, the stitch boundary, and the tick of the core
clock that an empty queue of commands stands for. -/

namespace Sys2Proof.Machine

open Sys2Proof

/-! ### The PTP clock (R135) -/

def State.setPtp (s : State) (p : Ptp) : State := { s with net := { s.net with ptp := p } }

/-- PTP_ADJ.FREQ as a signed number. -/
def State.ptpFreq (s : State) : Int :=
  let v := s.rd F.PTP_ADJ.FREQ
  if v < 2 ^ 31 then Int.ofNat v else Int.ofNat v - 2 ^ 32

/-- One unit of PTP_ADJ.FREQ is 1/65,536 ppb of the reference's rate. -/
def ppbScale : Int := 65536 * 1000000000

/-- R135: the clock advances by `n` eighths of a nanosecond of the reference, trimmed by PTP_ADJ. -/
def State.ptpAdvance (s : State) (n : Nat) : State :=
  let x := (Int.ofNat (n * 2 ^ 29) * (ppbScale + s.ptpFreq) + Int.ofNat s.net.ptp.acc).toNat
  let f := s.net.ptp.frac + x / ppbScale.toNat
  let hb := s.net.ptp.halfB.map (fun b => (b.1 + (b.2 + n) / 8, (b.2 + n) % 8))
  (s.setPtp { s.net.ptp with frac := f % 2 ^ 32, acc := x % ppbScale.toNat, halfB := hb }).wr F.PTP_NS.NS
    (s.rd F.PTP_NS.NS + f / 2 ^ 32)

/-- R135: a write of PTP_CTRL.STEP loads PTP_SET into the time at once. -/
def State.ptpStep (s : State) : State := (s.setPtp { s.net.ptp with frac := 0, acc := 0 }).wr F.PTP_NS.NS (s.rd F.PTP_SET.NS)

def execStepPtp (s : State) : Host.Outcome State Fault Refusal := .next s.ptpStep

/-- Table 1.7: the lock's state after PTP_CTRL.VALID or STITCH_PTP_CTRL.EN has been written: OFF without EN, HOLDOVER while
the time is invalid, and ACQUIRING when either ends. -/
def State.lockFollow (s : State) : State :=
  let st := s.rd F.STITCH_PTP_CTRL.STATE
  if s.rd F.STITCH_PTP_CTRL.EN = 0 then s.wr F.STITCH_PTP_CTRL.STATE lockOff
  else if s.rd F.PTP_CTRL.VALID = 0 then s.wr F.STITCH_PTP_CTRL.STATE lockHoldover
  else if st = lockOff ∨ st = lockHoldover then
    { s with lace := { s.lace with lockRun := 0 } }.wr F.STITCH_PTP_CTRL.STATE lockAcquiring
  else s

/-- R135: operator software sets or clears PTP_CTRL.VALID. -/
def execPtpValidWrite (v : Bool) (s : State) : Host.Outcome State Fault Refusal :=
  .next (s.wr F.PTP_CTRL.VALID (if v then 1 else 0)).lockFollow

/-! ### PPS (R137) -/

/-- R137: the PPS output rises when PTP_NS modulo one second equals PTP_PPS_OUT_OFF, and is due to fall PPS_WIDTH µs
later. -/
def execPpsOutRise (s : State) : Host.Outcome State Fault Refusal :=
  if s.flag F.PTP_CTRL.PPS_OUT_EN ∧ s.rd F.PTP_NS.NS % 1000000000 = s.rd F.PTP_PPS_OUT_OFF.OFF ∧ s.net.ptp.ppsUntil.isNone then
    .next ((s.setPtp { s.net.ptp with
      ppsUntil := some (s.rd F.PTP_NS.NS + 1000 * max 1 (s.rd F.PTP_CTRL.PPS_WIDTH)) }).emit (.pps true))
  else .next s

def execPpsOutFall (s : State) : Host.Outcome State Fault Refusal :=
  match s.net.ptp.ppsUntil with
  | some t =>
    if t ≤ s.rd F.PTP_NS.NS then .next ((s.setPtp { s.net.ptp with ppsUntil := none }).emit (.pps false)) else .next s
  | none => .next s

/-- R137: a rising edge of the PPS input latches PTP_NS. -/
def execPpsInEdge (s : State) : Host.Outcome State Fault Refusal :=
  if s.flag F.PTP_CTRL.PPS_IN_EN then
    .next ((s.wr F.PTP_PPS_IN.NS (s.rd F.PTP_NS.NS)).wr F.PTP_CTRL.PPS_IN_SEEN 1)
  else .next s

/-! ### Transmit timestamps (R136, R16) -/

def State.txts (s : State) (p : Nat) : List (Nat × Nat) := AMap.getD s.net.ptp.txts p []

/-- PTP_TXTS[p] shows the head entry. -/
def State.setTxts (s : State) (p : Nat) (l : List (Nat × Nat)) : State :=
  let s := s.setPtp { s.net.ptp with txts := AMap.setD [] s.net.ptp.txts p l }
  match l with
  | (ns, tag) :: _ => ((s.wr (F.PTP_TXTS_W0.NS p) ns).wr (F.PTP_TXTS_W8.VALID p) 1).wr (F.PTP_TXTS_W8.TSTAG p) tag
  | [] => ((s.wr (F.PTP_TXTS_W0.NS p) 0).wr (F.PTP_TXTS_W8.VALID p) 0).wr (F.PTP_TXTS_W8.TSTAG p) 0

/-- R136: a transmit timestamp enters the port's FIFO of 64 entries, or is discarded and counted. -/
def State.pushTxts (s : State) (p ns tag : Nat) : State :=
  if (s.txts p).length < 64 then s.setTxts p (s.txts p ++ [(ns, tag)]) else s.count (F.PTP_TXTS_W8.DROPPED p) 1

/-- A read of the word at +0x8 removes the head entry and clears DROPPED. -/
def State.popTxts (s : State) (p : Nat) : State := (s.setTxts p (s.txts p).tail).wr (F.PTP_TXTS_W8.DROPPED p) 0

/-! ### The stitch boundary and the tick (R20, R21) -/

/-- R21: the stitch that runs ends when its last cycle has passed, and the next begins: STITCH_COUNT and the positions move
on, and the phase to PTP time is measured (R46 to R48), with the length and clock that the ended stitch had: one that changes at
this boundary changes after it (DESIGN CHOICE, log entry 144). -/
def execStitchBoundary (s : State) : Host.Outcome State Fault Refusal :=
  if s.stitchEnd ≤ s.rd F.STITCH_POS.CYCLE then
    let n := s.stitch + 1
    let s := (((s.wr F.STITCH_COUNT.COUNT n).wr F.STITCH_POS.SIP (n % 64)).wr F.STITCH_POS.TURN 0).wr F.STITCH_POS.CYCLE 0
    .next (s.ptpPhase (s.rd F.PTP_NS.NS * 2 ^ 32 + s.net.ptp.frac))
  else .next s

/-- One core cycle: 0.5 ns at 2.000 GHz, 0.625 ns at 1.600 GHz. -/
def State.tick (s : State) : State :=
  let n := if s.rd F.POWER_CLK.CUR = 1 then 5 else 4
  let s := { s with clk := { cycles := s.clk.cycles + 1, time := s.clk.time + n } }
  (s.ptpAdvance n).wr F.STITCH_POS.CYCLE (s.rd F.STITCH_POS.CYCLE + 1)

end Sys2Proof.Machine
end

