-- ==== Sys2Proof/Machine/Egress.lean ====
section
/-! DEFINITION. The egress scheduler (chapter 04): enqueueing with limits and ECN marking, the choice of a frame by band,
round robin and strict classes, shapers, and transmission. -/

namespace Sys2Proof.Machine

open Sys2Proof

def State.setEgress (s : State) (e : Egress) : State := { s with net := { s.net with egress := e } }

/-! ### Headers -/

/-- The offset of the network header: after the Ethernet header and its 802.1Q tags, at most `fuel` of them; with the
EtherType. -/
def l3From (b : Bytes) : Nat → Nat → Nat × Nat
  | 0, o => (o + 2, beAt b o 2)
  | fuel + 1, o =>
    let t := beAt b o 2
    if t = 0x8100 ∨ t = 0x88A8 then l3From b fuel (o + 4) else (o + 2, t)

def l3Of (b : Bytes) : Nat × Nat := l3From b 8 12

/-- The IPv4 header at an offset: its length in bytes. -/
def ihl (b : Bytes) (o : Nat) : Nat := 4 * ((b.getD o 0).toNat % 16)

/-- Recompute the IPv4 header checksum at an offset. -/
def fixIpv4 (b : Bytes) (o : Nat) : Bytes :=
  let z := putB b (o + 10) (toBE 2 0)
  putB z (o + 10) (toBE 2 (onesNot (onesSum (sliceB z o (ihl b o)))))

/-- An IPv4 header after a change of the 16-bit word at an offset of it: its checksum adjusted by that change. -/
def adjustIpv4 (old new : Bytes) (o at_ : Nat) : Bytes :=
  putB new (o + 10) (toBE 2 (onesNot (onesSum
    (toBE 2 (onesNot (beAt old (o + 10) 2)) ++ toBE 2 (onesNot (beAt old at_ 2)) ++ toBE 2 (beAt new at_ 2)))))

/-- The sum of the pseudo-header of a TCP or UDP segment of `n` bytes under the IP header at `l3`. -/
def pseudoSum (b : Bytes) (l3 proto n : Nat) : Nat :=
  if (b.getD l3 0).toNat / 16 = 4 then onesSum (sliceB b (l3 + 12) 8 ++ toBE 2 proto ++ toBE 2 n)
  else onesSum (sliceB b (l3 + 8) 32 ++ toBE 4 n ++ toBE 4 proto)

/-- Bytes of the IP payload of the header at `l3`, from offset `l4` on. -/
def l4Len (b : Bytes) (l3 l4 : Nat) : Nat :=
  if (b.getD l3 0).toNat / 16 = 4 then l3 + beAt b (l3 + 2) 2 - l4 else l3 + 40 + beAt b (l3 + 4) 2 - l4

/-- Recompute the TCP (6) or UDP (17) checksum of the segment at `l4`; a UDP sum of zero is sent as 0xFFFF. -/
def fixL4 (b : Bytes) (l3 l4 proto : Nat) : Bytes :=
  let o := l4 + (if proto = 6 then 16 else 6)
  let n := l4Len b l3 l4
  let z := putB b o (toBE 2 0)
  let c := onesNot (onesSum (toBE 2 (pseudoSum b l3 proto n) ++ sliceB z l4 n))
  putB z o (toBE 2 (if c = 0 ∧ proto = 17 then 0xFFFF else c))

/-! ### Enqueueing (R169, R172) -/

def qKey (node c : Nat) : Nat := 8 * node + c
def State.egQueue (s : State) (node c : Nat) : List EgFrame := AMap.getD s.net.egress.queues (qKey node c) []
def State.setEgQueue (s : State) (node c : Nat) (q : List EgFrame) : State :=
  s.setEgress { s.net.egress with queues := AMap.setD [] s.net.egress.queues (qKey node c) q }

def egBytes (q : List EgFrame) : Nat := q.foldl (fun n f => n + f.len) 0

/-- R169: the node of a packet for port `p` of tenant `t`; the flag says that a mapped node of another port was passed
over. -/
def State.egNode (s : State) (p t : Nat) : Nat × Bool :=
  let e := s.half16 0xB40000 (4096 * p + t)
  if e.testBit 15 then
    (if s.rd (F.EGRESS_NODE_W0.PORT (e % 4096)) = p then (e % 4096, false) else (p, true))
  else (p, false)

/-- R172: a packet with an ECT(0) or ECT(1) field gets CE, with the IPv4 checksum adjusted; none where it carries
no such field. -/
def ecnMark (b : Bytes) : Option Bytes :=
  let (o, t) := l3Of b
  if t = 0x0800 then
    let tos := (b.getD (o + 1) 0).toNat
    if tos % 4 = 1 ∨ tos % 4 = 2 then some ((adjustIpv4 b (putB b (o + 1) (toBE 1 (tos ||| 3))) o o).take b.length) else none
  else if t = 0x86DD then
    let x := beAt b o 2
    let e := x / 16 % 4
    if e = 1 ∨ e = 2 then some (putB b o (toBE 2 (x ||| 0x30))) else none
  else none

/-- R169, R172: a frame enters the queue of its node and class, marked where the queue has reached its threshold, or is
dropped at the limit. The flag says that it was queued. -/
def State.enqueueFrame (s : State) (p c : Nat) (f : EgFrame) : Bool × State :=
  let (n, miss) := s.egNode p f.tenant
  let s := if miss then s.count F.EGRESS_STAT.MAP_MISMATCH.CNT 1 else s
  let used := egBytes (s.egQueue n c)
  if s.rd (F.EGRESS_QCFG.QLIMIT (8 * p + c)) * 4096 < used + f.len then
    (false, (s.count F.EGRESS_STAT.DROP_QLIMIT.CNT 1).dropChain f.handle)
  else
    let th := s.rd (F.EGRESS_QCFG.ECN_TH (8 * p + c))
    let s := if th ≠ 0 ∧ th * 4096 ≤ used then
        match ecnMark (s.chainBytes f.handle) with
        | some b => (s.overwriteChain f.handle b).count F.EGRESS_STAT.ECN_MARKED.CNT 1
        | none => s
      else s
    (true, s.setEgQueue n c (s.egQueue n c ++ [f]))

/-! ### The choice of a frame (R170, R171) -/

/-- Nodes that may serve: those with a queued frame. -/
def State.busyNodes (s : State) : List Nat := (s.net.egress.queues.map (fun e => e.1 / 8)).eraseDups

/-- A class is eligible: it has a frame and is not paused (R134). -/
def State.classEligible (s : State) (p node c : Nat) : Bool :=
  !(s.egQueue node c).isEmpty && !s.classPaused p c

def State.nodeShaped (s : State) (n : Nat) : Bool :=
  !s.flag (F.EGRESS_NODE_W0.SHAPE_EN n) || decide (0 ≤ AMap.getD s.net.egress.nodeBucket n 0)
def State.portShaped (s : State) (p : Nat) : Bool :=
  !s.flag (F.EGRESS_PORT_W0.SHAPE_EN p) || decide (0 ≤ AMap.getD s.net.egress.portBucket p 0)

/-- R170: a node of the port that may send: enabled, within its shaper, with an eligible queue. -/
def State.nodeReady (s : State) (p n : Nat) : Bool :=
  s.flag (F.EGRESS_NODE_W0.EN n) && s.rd (F.EGRESS_NODE_W0.PORT n) == p && s.nodeShaped n &&
    (List.range 8).any (fun c => s.classEligible p n c)

/-- R170: the bytes a frame is charged. -/
def State.egCharge (s : State) (p len : Nat) : Nat := len + 4 + s.rd (F.EGRESS_PORT_W0.OVH p)

/-- One deficit round robin over candidates in rising order: at most `fuel` visits from the pointer on. A visited candidate
whose deficit does not cover its head frame gains its quantum once per visit. Answers the candidate and the deficits. -/
def drr (cost quantum : Nat → Nat) (cands : List Nat) : Nat → Nat → Bool → AMap Nat → (key : Nat → Nat) → Option (Nat × AMap Nat)
  | 0, _, _, _, _ => none
  | fuel + 1, at_, fresh, d, key =>
    match cands.find? (fun n => decide (at_ ≤ n)) with
    | none => match cands.head? with
      | none => none
      | some n0 => drr cost quantum cands fuel n0 true d key
    | some n =>
      let have_ := AMap.getD d (key n) 0 + (if fresh || n != at_ then quantum n else 0)
      if cost n ≤ have_ then some (n, AMap.setD 0 d (key n) (have_ - cost n))
      else drr cost quantum cands fuel (n + 1) true (AMap.setD 0 d (key n) have_) key

/-- The weight of a class of a port, 0 acting as 1. -/
def State.tcWeight (s : State) (p c : Nat) : Nat := max 1 (s.rd (F.EGRESS_PORT_W8.TC_WEIGHT p) / 2 ^ (8 * c) % 256)

/-- The class of a node that sends next: strict classes highest first, the others by round robin. With the class come the
node's class deficits. -/
def State.pickClass (s : State) (p n : Nat) : Option (Nat × AMap Nat) :=
  let strict := s.rd (F.EGRESS_NODE_WC.TC_STRICT n)
  match (List.range 8).reverse.find? (fun c => strict.testBit c && s.classEligible p n c) with
  | some c => some (c, s.net.egress.tcDeficit)
  | none =>
    drr (fun c => match s.egQueue n c with | f :: _ => s.egCharge p f.len | [] => 0) (fun c => 256 * s.tcWeight p c)
      ((List.range 8).filter (fun c => !strict.testBit c && s.classEligible p n c)) 1200
      (AMap.getD s.net.egress.tcPtr n 0) false s.net.egress.tcDeficit (fun c => qKey n c)

/-- R170: the node and class from which a port's next frame comes. -/
def State.pickFrame (s : State) (p : Nat) : Option (Nat × Nat × State) :=
  let ready := (List.range 4096).filter (fun n => s.busyNodes.contains n && s.nodeReady p n)
  match (List.range 4).find? (fun b => ready.any (fun n => s.rd (F.EGRESS_NODE_W0.BAND n) == b)) with
  | none => none
  | some band =>
    let cands := ready.filter (fun n => s.rd (F.EGRESS_NODE_W0.BAND n) == band)
    let cost (n : Nat) : Nat := match s.pickClass p n with
      | some (c, _) => (match s.egQueue n c with | f :: _ => s.egCharge p f.len | [] => 0)
      | none => 0
    match drr cost (fun n => 256 * max 1 (s.rd (F.EGRESS_NODE_W0.WEIGHT n))) cands (70 * (cands.length + 1))
        (AMap.getD s.net.egress.nodePtr (4 * p + band) 0) false s.net.egress.nodeDeficit id with
    | none => none
    | some (n, d) =>
      match s.pickClass p n with
      | none => none
      | some (c, cd) =>
        let e := s.net.egress
        some (n, c, s.setEgress { e with nodeDeficit := d, tcDeficit := cd, nodePtr := AMap.setD 0 e.nodePtr (4 * p + band) n,
                                         tcPtr := if (s.rd (F.EGRESS_NODE_WC.TC_STRICT n)).testBit c then e.tcPtr
                                           else AMap.setD 0 e.tcPtr n c })

/-- A queue that has emptied keeps no deficit. -/
def State.clearDeficit (s : State) (n c : Nat) : State :=
  let e := s.net.egress
  let tc := if (s.egQueue n c).isEmpty then AMap.del e.tcDeficit (qKey n c) else e.tcDeficit
  let nd := if (List.range 8).all (fun k => (s.egQueue n k).isEmpty) then AMap.del e.nodeDeficit n else e.nodeDeficit
  s.setEgress { e with tcDeficit := tc, nodeDeficit := nd }

/-! ### Transmission (R136, R170, R171) -/

/-- R136: one-step: the transmit time is added to the correctionField, which carries the ingress timestamp as a negative
term, in 2^-16 ns; the UDP checksum, when present, is recomputed. -/
def oneStep (b : Bytes) (off ns : Nat) : Bytes :=
  let v := (beAt b (off + 8) 8 + ns * 65536) % 2 ^ 64
  let b := putB b (off + 8) (toBE 8 v)
  let (l3, t) := l3Of b
  let proto := if t = 0x0800 then (b.getD (l3 + 9) 0).toNat else (b.getD (l3 + 6) 0).toNat
  let l4 := if t = 0x0800 then l3 + ihl b l3 else l3 + 40
  if (t = 0x0800 ∨ t = 0x86DD) ∧ proto = 17 ∧ beAt b (l4 + 6) 2 ≠ 0 then fixL4 b l3 l4 17 else b

/-- A bucket loses a charge, in 1/10,000 of a byte. -/
def chargeBucket (m : AMap Int) (k n : Nat) : AMap Int := AMap.setD 0 m k (AMap.getD m k 0 - Int.ofNat (10000 * n))

/-- R170, R171, R136: the chosen frame is transmitted: charged, timestamped where asked, sent, and its bobbins freed. -/
def State.transmit (s : State) (p n c : Nat) (f : EgFrame) (rest : List EgFrame) : State :=
  let charge := s.egCharge p f.len
  let s := (s.setEgQueue n c rest).clearDeficit n c
  let e := s.net.egress
  let s := s.setEgress { e with portBucket := if s.flag (F.EGRESS_PORT_W0.SHAPE_EN p) then chargeBucket e.portBucket p charge else e.portBucket,
                                nodeBucket := if s.flag (F.EGRESS_NODE_W0.SHAPE_EN n) then chargeBucket e.nodeBucket n charge else e.nodeBucket,
                                busy := AMap.set e.busy p (s.clk.time + (f.len + 24) * 64 / max 1 (s.portRate p)) }
  let ns := s.stampAt p (F.PTP_PORT_W4.TX_DLY p)
  let b := s.chainBytes f.handle
  let b := match f.ptpOff with | some o => oneStep b o ns | none => b
  let s := match f.tstag with | some t => s.pushTxts p ns t | none => s
  (((s.emit (.ethFrame p b)).countWrap (F.ETH_STAT.TX_FRAMES.CNT p) 1).countWrap (F.ETH_STAT.TX_BYTES.CNT p) b.length).dropChain f.handle

/-- R170: a port that can start a frame, its link up and no frame under way, sends the chosen one. -/
def execEgressFrameStart (p : Nat) (s : State) : Host.Outcome State Fault Refusal :=
  if s.portExists p = false ∨ s.linkUp p = false ∨ (p / 8 = 1 ∧ s.haltedB) ∨ s.locked = false ∨ s.portShaped p = false ∨
      s.clk.time < AMap.getD s.net.egress.busy p 0 then .next s
  else match s.pickFrame p with
    | none => .next s
    | some (n, c, s') =>
      match s'.egQueue n c with
      | f :: rest => .next (s'.transmit p n c f rest).checkXon
      | [] => .next s

/-- A bucket gains RATE × 0.0512 bytes up to BURST × 64 bytes. -/
def refill (b : Int) (rate burst : Nat) : Int := min (b + Int.ofNat (512 * rate)) (Int.ofNat (640000 * burst))

/-- R171: every 409.6 ns of the Ethernet reference each port and node bucket is refilled. -/
def execShaperRefill (s : State) : Host.Outcome State Fault Refusal :=
  let e := s.net.egress
  if (e.refills + 1) * 16384 ≤ 5 * s.clk.time then
    let ports := (List.range 16).foldl (fun m p =>
      AMap.setD 0 m p (refill (AMap.getD m p 0) (s.rd (F.EGRESS_PORT_W0.RATE p)) (s.rd (F.EGRESS_PORT_W4.BURST p)))) e.portBucket
    let nodes := (List.range 4096).foldl (fun m n =>
      AMap.setD 0 m n (refill (AMap.getD m n 0) (s.rd (F.EGRESS_NODE_W4.RATE n)) (s.rd (F.EGRESS_NODE_W8.BURST n)))) e.nodeBucket
    .next (s.setEgress { e with portBucket := ports, nodeBucket := nodes, refills := e.refills + 1 })
  else .next s

/-! ### ETH_HALF_CFG.APPLY (R129) -/

/-- The queued frames of a node that were for a port number. -/
def State.dropNodeFrames (s : State) (n : Nat) : State :=
  (List.range 8).foldl (fun s c =>
    (s.egQueue n c).foldl (fun s f => (s.dropChain f.handle).count F.EGRESS_STAT.DROP_NOPORT.CNT 1) (s.setEgQueue n c [])
      |>.clearDeficit n c) s

/-- R129: every port of the half goes down and is then trained in MODE; packets queued for a port number that no longer
exists are dropped. -/
def State.ethApply (s : State) (h : Nat) : State :=
  let m := s.rd (F.ETH_HALF_CFG.MODE h)
  let e := s.net.eth
  let s := (List.range 8).foldl (fun s k => s.portDown (8 * h + k)) s
  let s := { s with net := { s.net with eth := if h = 0 then { e with modeA := m } else { e with modeB := m } } }
  let s := { s with net := { s.net with eth := { s.net.eth with needApply := s.net.eth.needApply.filter (fun x => x != h) } } }
  let s := s.wr (F.ETH_HALF_CFG.APPLY h) 0
  s.busyNodes.foldl (fun s n =>
    let p := s.rd (F.EGRESS_NODE_W0.PORT n)
    if p / 8 = h ∧ s.portExists p = false then s.dropNodeFrames n else s) s

def execEthHalfApply (h : Nat) (s : State) : Host.Outcome State Fault Refusal :=
  if h < 2 then .next (s.ethApply h) else .next s

end Sys2Proof.Machine
end

