-- ==== Sys2Proof/Machine/Refit.lean ====
section
/-! DEFINITION. Rewriting a packet in its bobbins (R161, R162, R250): bytes inserted, removed or replaced, a header that
grows into the headroom, new bobbins where the chain has no room, and the layer offsets that follow. -/

namespace Sys2Proof.Machine

open Sys2Proof

/-- Lay bytes over bobbins in order, each from its OFF on and to its end. Answers the bobbins used, those left over, and the
bytes that found no room. -/
def State.layOut (s : State) : List Nat → List Nat → Bytes → (List Nat × List Nat × Bytes) × State
  | used, [], bs => ((used, [], bs), s)
  | used, b :: t, bs =>
    if bs.isEmpty ∧ !used.isEmpty then ((used, b :: t, []), s)
    else
      let d := s.desc b
      let here := bs.take (classSize d.cls - d.off)
      let s := s.setDesc b { d with len := here.length, next := 0 }
      let s := { s with mem := Memory.write s.mem (s.bobAddr b + d.off) here }
      s.layOut (used ++ [b]) t (bs.drop here.length)

/-- The bobbins of a chain once `n` bytes at its front are given up: those with no byte left, and the rest, the first of them
starting later. -/
def State.trimFront (s : State) : List Nat → Nat → (List Nat × List Nat) × State
  | [], _ => (([], []), s)
  | b :: t, n =>
    let d := s.desc b
    if d.len ≤ n ∧ !t.isEmpty then
      let ((gone, rest), s) := s.trimFront t (n - d.len)
      ((b :: gone, rest), s)
    else (([], b :: t), s.setDesc b { d with off := d.off + min n d.len })

/-- R250: the chain of a packet of tenant `t` on half `h` takes new bytes. Its header has grown by `grow` bytes at the front,
or given up as many where `grow` is negative: a growth goes into the headroom of the first bobbin, and what exceeds it into
a bobbin linked at the head. Bytes beyond the chain's room take bobbins linked at its end. Answers the first handle, or none
where no bobbin is found; then the chain stands with the bobbins it had. -/
def State.refit (s : State) (handle h t owner : Nat) (grow : Int) (bs : Bytes) : Option Nat × State :=
  let ch := s.chain handle
  let ((gone, kept), s) := if grow < 0 then s.trimFront ch (-grow).toNat else (([], ch), s)
  let s := gone.foldl (fun s b => s.dropBobbin b) s
  let first := kept.headD handle
  let g := grow.toNat
  let off := (s.desc first).off
  let (head, s) : Option (List Nat) × State :=
    if g ≤ off then (some kept, s.setDesc first { s.desc first with off := off - g })
    else
      match s.request h t (g - off) owner false false with
      | (none, s) => (none, s)
      | (some b, s) =>
        let s := s.setDesc first { s.desc first with off := 0 }
        let d := s.desc b
        (some (b :: kept), s.setDesc b { d with off := classSize d.cls - (g - off) })
  match head with
  | none => (none, s)
  | some bobs =>
    let ((used, left, rest), s) := s.layOut [] bobs bs
    let s := left.foldl (fun s b => s.dropBobbin b) s
    if rest.isEmpty then (some (used.headD handle), s.linkChain used)
    else
      match s.storeFrom h t owner 0 false [] 256 0 rest with
      | (some more, s) => (some (used.headD handle), s.linkChain (used ++ more))
      | (none, s) => (none, s.linkChain used)

/-- Layer offsets once `n` bytes are inserted at byte `o` (R162). -/
def shiftIn (ls : List Nat) (o n : Nat) : List Nat := ls.map (fun l => if l = noLayer ∨ l < o then l else l + n)

/-- Layer offsets once bytes `o` to `o + n - 1` are removed: a layer that began there is unmarked. -/
def shiftOut (ls : List Nat) (o n : Nat) : List Nat :=
  ls.map (fun l => if l = noLayer ∨ l < o then l else if l < o + n then noLayer else l - n)

/-- The bytes of a packet. -/
def State.pktBytes (s : State) (p : Packet) : Bytes := (s.chainBytes p.handle).take p.len

/-- A packet takes new bytes and layer offsets; where no bobbin is found it is dropped and counted. The flag says that the
packet stands. -/
def State.rewrite (s : State) (id : Nat) (p : Packet) (grow : Int) (bs : Bytes) (layers : List Nat) (growth : Nat) : Bool × State :=
  match s.refit p.handle p.half p.tenant (editorEp p.half) grow bs with
  | (some b, s) => (true, s.setPkt id { p with handle := b, len := bs.length, layers := layers, growth := growth })
  | (none, s) => (false, (s.count F.EDIT_STAT.DELIVERY_DROP.CNT 1).dropPacket id)

/-- The bytes of encapsulation template `t` (R163). -/
def State.template (s : State) (t : Nat) : Bytes := (List.range 32).flatMap (fun k => toLE 4 (s.rd (F.EDIT_TPL.W (32 * t + k))))

/-- The outer header of a template, or none where its LEN is out of range (R163). -/
def tplHeader (t : Bytes) : Option Bytes :=
  let n := leAt t 0 1
  if 34 ≤ n ∧ n ≤ 112 then some (sliceB t 16 n) else none

end Sys2Proof.Machine
end

