-- ==== Sys2Proof/Machine/CipherFmt.lean ====
section
/-! DEFINITION. What the cipher engines compute (chapter 05): the fields of a session, nonces, the replay window, and the
ESP, MACsec and TLS formats of the inline operations, as functions of bytes. -/

namespace Sys2Proof.Machine

open Sys2Proof

/-! ### Details (Table 5.9) -/

def cdInvalid : Nat := 0x01
def cdTenant : Nat := 0x02
def cdKind : Nat := 0x03
def cdLength : Nat := 0x04
def cdIcv : Nat := 0x05
def cdReplay : Nat := 0x06
def cdSa : Nat := 0x07
def cdExhausted : Nat := 0x08
def cdFormat : Nat := 0x09
def cdKeyPath : Nat := 0x0A
def cdSameKey : Nat := 0x0B
def cdLimit : Nat := 0x0C
def cdIndex : Nat := 0x0D
def cdUnwrap : Nat := 0x0E
def cdSrc : Nat := 0x0F
def cdPeerLost : Nat := 0x10
def cdFenced : Nat := 0x11
def cdZeroized : Nat := 0x12

def stNonce : Nat := 0x07
def stAuthFail : Nat := 0x08
def stMemLost : Nat := 0x0A

/-! ### A session's plaintext (Table 5.5) -/

def sKind (p : Bytes) : Nat := leAt p 0 1
def sFlag (p : Bytes) (k : Nat) : Bool := (leAt p 1 1).testBit k
def sTenant (p : Bytes) : Nat := leAt p 2 2 % 4096
def sWin (p : Bytes) : Nat := leAt p 4 2
def sTpl (p : Bytes) : Nat := leAt p 6 1
def sLayer (p : Bytes) : Nat := leAt p 7 1
def sId (p : Bytes) : Nat := leAt p 8 8
def sSalt (p : Bytes) : Bytes := sliceB p 0x14 12
def sKey1 (p : Bytes) : Bytes := sliceB p 0x20 32
def sKey2 (p : Bytes) : Bytes := sliceB p 0x40 32
def sCounter (p : Bytes) : Nat := leAt p 0x60 8
def sSoft (p : Bytes) : Nat := leAt p 0x68 8
def sHard (p : Bytes) : Nat := leAt p 0x70 8
def sReplay (p : Bytes) : Nat := leAt p 0x80 32
def fKey256 : Nat := 0
def fExt : Nat := 1
def fSci : Nat := 2
def fEncrypt : Nat := 3
def fTunnel : Nat := 4
def fSector : Nat := 5
def fReplay : Nat := 6

def sKeys (p : Bytes) : List Bytes := aesKeys (sFlag p fKey256) (sKey1 p)
def sUnit (p : Bytes) : Nat := if sFlag p fSector then 4096 else 512
def putLE (p : Bytes) (off n v : Nat) : Bytes := putB p off (toLE n v)

/-- Cycles of one AES block under the session's key (Table 5.1). -/
def sCost (p : Bytes) : Nat := if sFlag p fKey256 then 14 else 10

/-- Kinds whose counter values hardware assigns at admission (R199). -/
def outboundKind (k : Nat) : Bool := k == 2 || k == 3 || k == 4 || k == 6 || k == 8

/-- First counter value of a kind (Table 5.6). -/
def firstValue (k : Nat) : Nat := if 4 ≤ k ∧ k ≤ 7 then 1 else 0

/-- Largest HARD_LIMIT of a kind (Table 5.6). -/
def largestHard (p : Bytes) : Nat :=
  if 4 ≤ sKind p ∧ sKind p ≤ 7 ∧ !sFlag p fExt then 2 ^ 32 - 1 else 2 ^ 64 - 1

/-- The nonce of a counter value (Table 5.6). -/
def nonceOf (p : Bytes) (ctr : Nat) : Bytes :=
  let k := sKind p
  if k = 4 ∨ k = 5 then (sSalt p).take 4 ++ toBE 8 ctr
  else if k = 6 ∨ k = 7 then
    (if sFlag p fExt then xorB (toBE 4 (leAt p 0x10 4) ++ toBE 8 ctr) (sSalt p)
     else toBE 8 (sId p) ++ toBE 4 ctr)
  else xorB (sSalt p) (toBE 4 0 ++ toBE 8 ctr)

/-- R184: the counter block of CTR. -/
def ctrBlock (p : Bytes) (ctr : Nat) : Bytes := (sSalt p).take 8 ++ toBE 8 ctr

/-- Whole blocks that a number of bytes takes. -/
def blockCount (n : Nat) : Nat := (n + 15) / 16

/-! ### The replay window (R188) -/

/-- A 64-bit number from its low half, for a highest accepted number `t` and a window `w` (RFC 4303 Appendix A). -/
def inferNum (t w low : Nat) : Nat :=
  let tl := t % 2 ^ 32
  let th := t / 2 ^ 32
  let hi := if w ≤ tl + 1 then (if tl + 1 - w ≤ low then th else th + 1)
    else (if tl + 1 + 2 ^ 32 - w ≤ low then th - 1 else th)
  (hi * 2 ^ 32 + low) % 2 ^ 64

/-- The number of an inbound packet from the bits it carries. -/
def numberOf (p : Bytes) (low : Nat) : Nat :=
  if sFlag p fExt then inferNum (sCounter p) (if sFlag p fReplay then sWin p else 2 ^ 31) low else low

/-- The window refuses a number. -/
def replayBad (p : Bytes) (num : Nat) : Bool :=
  sFlag p fReplay &&
    (decide (num + sWin p ≤ sCounter p) || (decide (num ≤ sCounter p) && (sReplay p).testBit (num % 256)))

/-- The session once a number is accepted: its bit and COUNTER. -/
def acceptNum (p : Bytes) (num : Nat) : Bytes :=
  let c := sCounter p
  let fresh := (List.range (min 256 (num - c))).foldl (fun r k => r &&& (2 ^ 256 - 1 - 2 ^ ((c + 1 + k) % 256))) (sReplay p)
  let bits := (if c < num then fresh else sReplay p) ||| 2 ^ (num % 256)
  let p := if sFlag p fReplay then putLE p 0x80 32 bits else p
  putLE p 0x60 8 (max c num)

/-! ### Inline operations (Table 5.4, R187) -/

/-- A packet after an inline operation: its bytes, the growth at its front, and its layer offsets. -/
structure Inlined where
  bytes : Bytes
  grow : Int
  layers : List Nat

/-- Where an inbound operation finds the protected data: the number's low bits, the offset and length of the header it
removes, the ciphertext and the tag. -/
structure InView where
  low : Nat
  start : Nat
  hlen : Nat
  ct : Bytes
  tag : Bytes

def formatFault : Nat × Nat := (stMalformed, cdFormat)

/-- The header length of the IP header at an offset, and where its protocol byte is. -/
def ipAt (b : Bytes) (o : Nat) : Option (Nat × Nat) :=
  let v := (b.getD o 0).toNat / 16
  if v = 4 ∧ o + ihl b o ≤ b.length ∧ 20 ≤ ihl b o then some (ihl b o, o + 9)
  else if v = 6 ∧ o + 40 ≤ b.length then some (40, o + 6)
  else none

/-- The offset of the session's LAYER, where it is marked. -/
def layerOff (p : Bytes) (ls : List Nat) : Option Nat := ls[sLayer p]?.filter (· ≠ noLayer)

/-- EDIT detail LAYER (R162). -/
def layerFault : Nat × Nat := (stMalformed, 5)

def padBytes (n : Nat) : Bytes := (List.range n).map (fun k => BitVec.ofNat 8 (k + 1))

/-- The ESP packet of a payload with the next-header value `nx` (RFC 4303, RFC 4106). -/
def espSeal (p : Bytes) (ctr nx : Nat) (inner : Bytes) : Bytes :=
  let pad := (4 - (inner.length + 2) % 4) % 4
  let pt := inner ++ padBytes pad ++ toBE 1 pad ++ toBE 1 nx
  let spi := toBE 4 (sId p)
  let aad := spi ++ (if sFlag p fExt then toBE 8 ctr else toBE 4 ctr)
  spi ++ toBE 4 ctr ++ toBE 8 ctr ++ gcmSeal (sKeys p) (nonceOf p ctr) aad pt

def espEncap (p : Bytes) (ctr : Nat) (tpl : Option Bytes) (b : Bytes) (ls : List Nat) : Except (Nat × Nat) Inlined :=
  match layerOff p ls with
  | none => .error layerFault
  | some o =>
    match ipAt b o with
    | none => .error formatFault
    | some (hl, po) =>
      if sFlag p fTunnel then
        match tpl with
        | none => .error (stMalformed, 6)
        | some h =>
          let nx := if (b.getD o 0).toNat / 16 = 4 then 4 else 41
          let out := b.take o ++ h ++ espSeal p ctr nx (b.drop o)
          .ok ⟨out, Int.ofNat (h.length + 16), shiftIn ls (o + 1) (h.length + 16)⟩
      else
        let nx := (b.getD po 0).toNat
        let hd := putB (b.take (o + hl)) po [50#8]
        .ok ⟨hd ++ espSeal p ctr nx (b.drop (o + hl)), 16, shiftIn ls (o + hl) 16⟩

/-- The protected part of an inbound ESP packet. -/
def espView (p : Bytes) (b : Bytes) (ls : List Nat) : Except (Nat × Nat) InView :=
  match layerOff p ls with
  | none => .error layerFault
  | some o =>
    match ipAt b o with
    | none => .error formatFault
    | some (hl, po) =>
      let e := b.drop (o + hl)
      if (b.getD po 0).toNat ≠ 50 ∨ e.length < 34 then .error formatFault
      else if beAt e 0 4 ≠ sId p % 2 ^ 32 then .error (stAuthFail, cdSa)
      else .ok ⟨beAt e 4 4, o + hl, 16, sliceB e 16 (e.length - 32), e.drop (e.length - 16)⟩

def espDecap (p : Bytes) (num : Nat) (b : Bytes) (ls : List Nat) (v : InView) : Except (Nat × Nat) Inlined :=
  let aad := toBE 4 (sId p) ++ (if sFlag p fExt then toBE 8 num else toBE 4 num)
  match gcmOpen (sKeys p) (nonceOf p num) aad v.ct v.tag with
  | none => .error (stAuthFail, cdIcv)
  | some pt =>
    let nx := (pt.getD (pt.length - 1) 0).toNat
    let pad := (pt.getD (pt.length - 2) 0).toNat
    if pt.length < pad + 2 ∨ sliceB pt (pt.length - 2 - pad) pad ≠ padBytes pad then .error formatFault
    else
      let inner := pt.take (pt.length - 2 - pad)
      let o := (layerOff p ls).getD 0
      if sFlag p fTunnel then
        if nx = 4 ∨ nx = 41 then
          let hd := putB (b.take o) (o - 2) (toBE 2 (if nx = 4 then 0x0800 else 0x86DD))
          .ok ⟨hd ++ inner, -Int.ofNat (v.start + 16 - o), shiftOut ls o (v.start + 16 - o)⟩
        else .error formatFault
      else
        match ipAt b o with
        | none => .error formatFault
        | some (_, po) => .ok ⟨putB (b.take v.start) po (toBE 1 nx) ++ inner, -16, shiftOut ls v.start 16⟩

/-- The SecTAG of a session for a number and the length of the secure data (IEEE 802.1AE-2018). -/
def secTag (p : Bytes) (an ctr n : Nat) : Bytes :=
  let tci := (if sFlag p fSci then 0x20 else 0) + (if sFlag p fEncrypt then 0x0C else 0) + an
  toBE 2 0x88E5 ++ toBE 1 tci ++ toBE 1 (if n < 48 then n else 0) ++ toBE 4 ctr ++
    (if sFlag p fSci then toBE 8 (sId p) else [])

def macsecProtect (p : Bytes) (an ctr : Nat) (b : Bytes) (ls : List Nat) : Except (Nat × Nat) Inlined :=
  if b.length < 12 then .error formatFault
  else
    let data := b.drop 12
    let tag := secTag p an ctr data.length
    let hd := b.take 12 ++ tag
    let body := if sFlag p fEncrypt then gcmSeal (sKeys p) (nonceOf p ctr) hd data
      else data ++ gcmSeal (sKeys p) (nonceOf p ctr) (hd ++ data) []
    .ok ⟨hd ++ body, Int.ofNat tag.length, shiftIn ls 12 tag.length⟩

def macsecView (p : Bytes) (b : Bytes) : Except (Nat × Nat) InView :=
  let tci := (b.getD 14 0).toNat
  let sl := (b.getD 15 0).toNat
  let sc := tci.testBit 5
  let hl := if sc then 16 else 8
  if beAt b 12 2 ≠ 0x88E5 ∨ b.length < 12 + hl + 16 ∨ tci.testBit 7 ∨ sc ≠ sFlag p fSci ∨
      tci.testBit 3 ≠ sFlag p fEncrypt ∨ tci.testBit 2 ≠ sFlag p fEncrypt ∨ 48 ≤ sl ∨
      (sl ≠ 0 ∧ b.length < 12 + hl + sl + 16) then .error formatFault
  else if sc ∧ beAt b 20 8 ≠ sId p then .error (stAuthFail, cdSa)
  else
    let n := if sl = 0 then b.length - 12 - hl - 16 else sl
    .ok ⟨beAt b 16 4, 12, hl, sliceB b (12 + hl) n, sliceB b (12 + hl + n) 16⟩

def macsecValidate (p : Bytes) (num : Nat) (b : Bytes) (ls : List Nat) (v : InView) : Except (Nat × Nat) Inlined :=
  let hd := b.take (12 + v.hlen)
  let r := if sFlag p fEncrypt then gcmOpen (sKeys p) (nonceOf p num) hd v.ct v.tag
    else (gcmOpen (sKeys p) (nonceOf p num) (hd ++ v.ct) [] v.tag).map (fun _ => v.ct)
  match r with
  | none => .error (stAuthFail, cdIcv)
  | some pt => .ok ⟨b.take 12 ++ pt, -Int.ofNat v.hlen, shiftOut ls 12 v.hlen⟩

/-- The record header of TLS 1.3 for `n` bytes of protected data (RFC 8446). -/
def tlsHeader (n : Nat) : Bytes := toBE 1 0x17 ++ toBE 2 0x0303 ++ toBE 2 n

/-- The greatest TLSInnerPlaintext (RFC 8446). -/
def tlsMax : Nat := 2 ^ 14 + 1

def tlsSeal (p : Bytes) (ctr : Nat) (b : Bytes) (ls : List Nat) : Except (Nat × Nat) Inlined :=
  match layerOff p ls with
  | none => .error layerFault
  | some o =>
    let inner := b.drop o
    if inner.isEmpty ∨ tlsMax < inner.length then .error formatFault
    else
      let h := tlsHeader (inner.length + 16)
      .ok ⟨b.take o ++ h ++ gcmSeal (sKeys p) (nonceOf p ctr) h inner, 5, shiftIn ls (o + 1) 5⟩

def tlsView (p : Bytes) (b : Bytes) (ls : List Nat) : Except (Nat × Nat) InView :=
  match layerOff p ls with
  | none => .error layerFault
  | some o =>
    let e := b.drop o
    if e.length < 22 ∨ beAt e 0 1 ≠ 0x17 ∨ beAt e 1 2 ≠ 0x0303 ∨ beAt e 3 2 ≠ e.length - 5 ∨ tlsMax + 16 < e.length - 5 then
      .error formatFault
    else .ok ⟨0, o, 5, sliceB e 5 (e.length - 21), e.drop (e.length - 16)⟩

def tlsOpen (p : Bytes) (num : Nat) (b : Bytes) (ls : List Nat) (v : InView) : Except (Nat × Nat) Inlined :=
  match gcmOpen (sKeys p) (nonceOf p num) (sliceB b v.start 5) v.ct v.tag with
  | none => .error (stAuthFail, cdIcv)
  | some pt => .ok ⟨b.take v.start ++ pt, -5, shiftOut ls v.start 5⟩

/-- The session kind an OPER needs (Table 5.4). -/
def operKind (oper : Nat) : Nat := 4 + oper

/-- The protected part of a packet of an inbound operation. -/
def inView (oper : Nat) (p b : Bytes) (ls : List Nat) : Except (Nat × Nat) InView :=
  if oper = 1 then espView p b ls else if oper = 3 then macsecView p b else tlsView p b ls

/-- An outbound operation. -/
def sealPacket (oper : Nat) (p : Bytes) (an ctr : Nat) (tpl : Option Bytes) (b : Bytes) (ls : List Nat) : Except (Nat × Nat) Inlined :=
  if oper = 0 then espEncap p ctr tpl b ls else if oper = 2 then macsecProtect p an ctr b ls else tlsSeal p ctr b ls

/-- An inbound operation. -/
def openPacket (oper : Nat) (p : Bytes) (num : Nat) (b : Bytes) (ls : List Nat) (v : InView) : Except (Nat × Nat) Inlined :=
  if oper = 1 then espDecap p num b ls v else if oper = 3 then macsecValidate p num b ls v else tlsOpen p num b ls v

/-- R182: the packet of a failed inbound operation: the plaintext that was written over it is zero. -/
def wipeView (p b : Bytes) (v : InView) : Bytes :=
  if sKind p = 7 ∧ !sFlag p fEncrypt then b else putB b (v.start + v.hlen) (List.replicate v.ct.length 0#8)

/-- R176: blocks of 8 cycles (AAD and, for GMAC, the data) and blocks of AES of a message: `pt` bytes of payload and `aad`
of authenticated data. -/
def gcmBlocks (pt aad : Nat) : Nat × Nat := (blockCount aad, blockCount pt + 1)

/-- Bytes of the ESP trailer after `n` bytes of payload: padding to a multiple of 4, its length and the next header. -/
def espTrailer (n : Nat) : Nat := (4 - (n + 2) % 4) % 4 + 2

/-- R176: blocks of an inline operation on a packet: its payload is what the cipher runs over, its AAD what it only authenticates. -/
def inlineBlocks (oper : Nat) (p b : Bytes) (ls : List Nat) : Nat × Nat :=
  let o := (layerOff p ls).getD 0
  let gmac (pt aad : Nat) : Nat × Nat := if sFlag p fEncrypt then gcmBlocks pt aad else gcmBlocks 0 (aad + pt)
  if oper = 0 then
    let n := b.length - o - (if sFlag p fTunnel then 0 else ((ipAt b o).map (fun h => h.1)).getD 0)
    gcmBlocks (n + espTrailer n) (if sFlag p fExt then 12 else 8)
  else if oper = 2 then gmac (b.length - 12) (12 + (secTag p 0 0 0).length)
  else if oper = 4 then gcmBlocks (b.length - o) 5
  else match inView oper p b ls with
    | .ok v => if oper = 1 then gcmBlocks v.ct.length (if sFlag p fExt then 12 else 8)
      else if oper = 3 then gmac v.ct.length (12 + v.hlen) else gcmBlocks v.ct.length 5
    | .error _ => gcmBlocks 0 0

/-! ### Jobs (Table 5.3) -/

/-- R183 to R185: the output of a job on its source bytes (AAD, data, and tag where it has one), with the first counter value
or the IV; none where the tag does not verify. -/
def jobOutput (op : Nat) (p : Bytes) (ctr aadLen len : Nat) (iv src : Bytes) : Option Bytes :=
  let aad := src.take aadLen
  let body := sliceB src aadLen len
  let tag := sliceB src (aadLen + len) 16
  let nonce := if op = 3 ∨ op = 5 then nonceOf p ctr else iv.take 12
  if op = 1 ∨ op = 2 then
    let k2 := aesKeys (sFlag p fKey256) (sKey2 p)
    some (xtsUnits (op == 2) (sKeys p) k2 (sUnit p) (len / 512 + 1) (leAt iv 0 8) body)
  else if op = 3 then some (gcmSeal (sKeys p) nonce aad body)
  else if op = 4 ∨ op = 8 then gcmOpen (sKeys p) nonce aad body tag
  else if op = 5 then some (gcmSeal (sKeys p) nonce body [])
  else if op = 6 then gcmOpen (sKeys p) nonce body [] tag
  else some (ctrMode (sKeys p) 8 (ctrBlock p ctr) body)

/-- The output of a job whether or not its tag verifies, with whether it does (R207). -/
def jobMade (op : Nat) (p : Bytes) (ctr aadLen len : Nat) (iv src : Bytes) : Bytes × Bool :=
  match jobOutput op p ctr aadLen len iv src with
  | some out => (out, true)
  | none => (gcmCrypt (sKeys p) (iv.take 12) (sliceB src aadLen len), false)

/-- Source bytes and destination bytes of a job. -/
def srcLen (op aad len : Nat) : Nat := aad + len + (if op = 4 ∨ op = 6 ∨ op = 8 then 16 else 0)
def dstLen (op len : Nat) : Nat := if op = 3 then len + 16 else if op = 5 then 16 else if op = 6 then 0 else len

/-- Session kind of an OP. -/
def opKind (op : Nat) : Nat := if op ≤ 2 then 1 else if op ≤ 6 then 2 else if op = 7 then 3 else 10

/-- Blocks of a job (R176). -/
def jobBlocks (op : Nat) (p : Bytes) (aad len : Nat) : Nat × Nat :=
  if op ≤ 2 then (0, blockCount len + len / sUnit p)
  else if op = 3 ∨ op = 4 ∨ op = 8 then gcmBlocks len aad
  else if op = 5 ∨ op = 6 then gcmBlocks 0 len
  else (0, blockCount len)

/-- R180, check 1, and the kinds of Table 5.3: the fault of a job's form. -/
def jobFormFault (raw : Bytes) : Option (Nat × Nat) :=
  let op := leAt raw 0 1
  let ctl := leAt raw 1 1
  let sk := ctl / 4 % 4
  let dk := ctl / 16 % 4
  let aad := leAt raw 2 2
  let len := leAt raw 0x18 4
  if ctl / 64 ≠ 0 ∨ leAt raw 4 4 / 2 ^ 20 ≠ 0 ∨ leAt raw 0x1C 4 ≠ 0 ∨ leAt raw 0x30 8 / 2 ^ 34 ≠ 0 then some (stMalformed, cdFormat)
  else if ((op = 1 ∨ op = 2) ∧ leAt raw 0x28 8 ≠ 0) ∨ ((op = 4 ∨ op = 6 ∨ op = 8) ∧ leAt raw 0x2C 4 ≠ 0) ∨
      ((op = 3 ∨ op = 5 ∨ op = 7) ∧ leNat (sliceB raw 0x20 16) ≠ 0) then
    some (stMalformed, cdFormat)
  else if op = 0 ∨ 8 < op ∨ 2 ≤ sk ∨ (dk = 3 ∧ op ≠ 6) ∨ (op = 6 ∧ dk ≠ 3) ∨ (op = 8 ∧ dk ≠ 2) then some (stMalformed, cdKind)
  else if len = 0 ∨ 0xFFFFFFF0 < len ∨ 1024 < aad ∨ (aad ≠ 0 ∧ op ≠ 3 ∧ op ≠ 4) then some (stMalformed, cdLength)
  else none

/-- R194, and the check of R185: the fault of an INSTALL's plaintext, given the session as it stands. -/
def installFault (p : Bytes) (old : Option KeySlot) : Option (Nat × Nat) :=
  let k := sKind p
  let allowed := if k = 1 then [0, 5] else if k = 4 then [0, 1, 4] else if k = 5 then [0, 1, 4, 6]
    else if k = 6 then [0, 1, 2, 3] else if k = 7 then [0, 1, 2, 3, 6] else [0]
  let flags := (List.range 8).any (fun j => sFlag p j && !allowed.contains j)
  let zeros := leAt p 2 2 / 4096 ≠ 0 ∨ leAt p 0x78 8 ≠ 0 ∨ leNat (sliceB p 0xA0 64) ≠ 0 ∨
    (sFlag p fKey256 = false ∧ leNat (sliceB p 0x30 16) ≠ 0) ∨ (k ≠ 1 ∧ leNat (sKey2 p) ≠ 0) ∨
    (k = 3 ∧ leNat (sliceB p 0x1C 4) ≠ 0) ∨ ((k = 4 ∨ k = 5) ∧ leNat (sliceB p 0x18 8) ≠ 0)
  if k = 0 ∨ 10 < k ∨ flags ∨ zeros ∨ (sFlag p fReplay ∧ (sWin p = 0 ∨ 256 < sWin p)) ∨ 7 < sLayer p then
    some (stMalformed, cdFormat)
  else if (k ≠ 1 ∧ k ≠ 10 ∧ (largestHard p < sHard p ∨ sHard p < sSoft p ∨ sCounter p < firstValue k)) ∨
      (k = 1 ∧ sKey1 p = sKey2 p) then some (stRange, cdLimit)
  else match old with
    | some o => if o.st.testBit 1 ∧ sKey1 o.plain = sKey1 p then some (stRange, cdSameKey) else none
    | none => none

end Sys2Proof.Machine
end

