-- ==== Sys2Proof/Machine/HostLink.lean ====
section
/-! DEFINITION. The host link (chapter 09): functions and their tenants, non-posted requests and their tags, posted writes,
completions and timeouts, and interrupts. -/

namespace Sys2Proof.Machine

open Sys2Proof

/-! ### Functions (R301, R304 to R308) -/

def Pcie.reset : Pcie :=
  { busMaster := false, intxDisable := false, d3hot := false, msiEn := false, msiCount := 0, msiMask := 0, msiPend := 0, msiAddr := 0,
    msiData := 0, bar0 := 0, bar2 := 0, bar4 := 0, msixEn := false, msixMask := false, cto := 0, mrrs := 2, tag10 := false, aerCto := false, aerUnexp := false,
    aerIde := false, vfEnable := false, numVfs := 0 }

def Func.reset : Func := { cfg := Pcie.reset, tear := none, intx := false, blk := [] }

def State.func (s : State) (f : Nat) : Func := AMap.getD s.host.funcs f Func.reset

def State.setHost (s : State) (h : HostLink) : State := { s with host := h }

def State.setFunc (s : State) (f : Nat) (x : Func) : State :=
  s.setHost { s.host with funcs := AMap.setD Func.reset s.host.funcs f x }

def State.modFunc (s : State) (f : Nat) (g : Func → Func) : State := s.setFunc f (g (s.func f))

def State.modCfg (s : State) (f : Nat) (g : Pcie → Pcie) : State := s.modFunc f (fun x => { x with cfg := g x.cfg })

/-- TotalVFs of PF `p` (R304); PF0 has none. -/
def State.totalVfs (s : State) (p : Nat) : Nat := if p = 0 then 0 else s.rd (F.HOSTLINK_PF.TOTALVFS (p - 1))

/-- R304: the function number of the first VF of a PF. -/
def State.vfBase (s : State) (p : Nat) : Nat :=
  4 + (if p > 1 then s.totalVfs 1 else 0) + (if p > 2 then s.totalVfs 2 else 0)

/-- R304: the PF of a function. -/
def State.pfOf (s : State) (f : Nat) : Option Nat :=
  if f < 4 then some f
  else [1, 2, 3].find? (fun p => decide (s.vfBase p ≤ f) && decide (f < s.vfBase p + s.totalVfs p))

/-- R301: the link of a PF. -/
def State.linkOfPf (s : State) (p : Nat) : Nat :=
  if p = 1 then s.rd F.HOSTLINK_LINKCFG.PF1_LINK else if p = 2 then s.rd F.HOSTLINK_LINKCFG.PF2_LINK
  else if p = 3 then s.rd F.HOSTLINK_LINKCFG.PF3_LINK else 0

def State.linkOf (s : State) (f : Nat) : Nat := s.linkOfPf ((s.pfOf f).getD 0)

/-- The function numbers that exist: the PFs and the VFs of TotalVFs. -/
def State.funcList (s : State) : List Nat := List.range (4 + s.totalVfs 1 + s.totalVfs 2 + s.totalVfs 3)

/-- FSTATE values (Table 9.3). -/
def fsDisabled : Nat := 0
def fsActive : Nat := 1
def fsTeardown : Nat := 2
def fsHeld : Nat := 3

def State.fstate (s : State) (f : Nat) : Nat := s.rd (F.HOSTLINK_FUNC.FSTATE f)

def State.setFstate (s : State) (f v : Nat) : State := s.wr (F.HOSTLINK_FUNC.FSTATE f) v

def State.funcTenant (s : State) (f : Nat) : Nat := s.rd (F.HOSTLINK_FUNC.TENANT f)
def State.funcHome (s : State) (f : Nat) : Nat := s.rd (F.HOSTLINK_FUNC.HOME f)
def State.funcCompat (s : State) (f : Nat) : Bool := s.flag (F.HOSTLINK_FUNC.COMPAT_HJ420 f)

/-- R305: doorbell pages of the BAR2 of the VFs of PF `p`. -/
def State.vfPages (s : State) (p : Nat) : Nat :=
  let b := s.rd (F.HOSTLINK_PF.VF_BAR2 (p - 1))
  2 ^ ((if 12 ≤ b ∧ b ≤ 22 then b else 22) - 12)

/-- R305: doorbell pages of a function's BAR2. -/
def State.bar2Pages (s : State) (f : Nat) : Nat := if f < 4 then 1024 else s.vfPages ((s.pfOf f).getD 1)

/-- R311: the function may send requests: its Bus Master Enable is 1 and it is in D0. -/
def State.busOn (s : State) (f : Nat) : Bool := (s.func f).cfg.busMaster && !(s.func f).cfg.d3hot

/-- R320: the ACTIVE stream that covers a function. -/
def State.ideOf (s : State) (f : Nat) : Option Nat :=
  (List.range 64).find? (fun k => s.flag (F.HOSTLINK_IDE.ACTIVE k) && decide (s.rd (F.HOSTLINK_IDE.FIRST_FUNC k) ≤ f) &&
    decide (f ≤ s.rd (F.HOSTLINK_IDE.LAST_FUNC k)))

/-! ### Requests and tags (R316 to R318) -/

/-- R316: how many non-posted requests a function's link holds outstanding. -/
def State.tagLimit (s : State) (f : Nat) : Nat :=
  if s.flag (F.HOSTLINK_LINK_STATUS.FLIT (s.linkOf f)) then 16384
  else if (s.func ((s.pfOf f).getD 0)).cfg.tag10 then 768 else 256

/-- The busy tags with their tenants, quarantined ones included. -/
def State.busyTags (s : State) : List (Nat × Nat) :=
  s.host.reqs.filterMap (fun r => r.tag.map (fun t => (t, r.tenant))) ++ s.host.quar.map (fun q => (q.tag, q.tenant))

/-- R316: a free tag within the tenant's cap. -/
def State.freeTag (s : State) (f tenant : Nat) : Option Nat :=
  let busy := s.busyTags
  if max 1 (s.rd (F.HOSTLINK_TAGMAX.MAX tenant)) ≤ (busy.filter (fun b => b.2 == tenant)).length then none
  else (List.range (s.tagLimit f)).find? (fun t => !busy.any (fun b => b.1 == t))

/-- A request that waits goes out on a tag when its function and a tag allow it; the first wait for a tag is counted. -/
def State.issueReq (s : State) (r : HostReq) : State :=
  if r.tag.isSome ∨ s.busOn r.func = false ∨ s.fstate r.func = fsTeardown then s
  else
    let put (s : State) (x : HostReq) : State :=
      s.setHost { s.host with reqs := s.host.reqs.map (fun y => if y.id = r.id then x else y) }
    match s.freeTag r.func r.tenant with
    | some t => (put s { r with tag := some t, since := s.clk.time }).emit (.hostRead r.func t r.addr r.len (s.ideOf r.func))
    | none => if r.waited then s else (put s { r with waited := true }).count F.HOSTLINK_STAT.TAG_WAITS.CNT 1

/-- A posted write goes to the host, or waits (R311); that of a function in TEARDOWN is discarded (R309). -/
def State.hostPost (s : State) (f a : Nat) (bs : Bytes) : State :=
  if s.fstate f = fsTeardown then s
  else if s.busOn f then s.emit (.hostWrite f a bs (s.ideOf f))
  else s.setHost { s.host with posted := s.host.posted ++ [⟨f, a, bs⟩] }

/-- Everything that waits and can go goes: posted writes first, then requests, oldest first. -/
def State.hostService (s : State) : State :=
  let ws := s.host.posted
  let s := ws.foldl (fun s w => s.hostPost w.func w.addr w.data) (s.setHost { s.host with posted := [] })
  s.host.reqs.foldl (fun s r => s.issueReq r) s

/-- A non-posted read of a function; the number of the request. -/
def State.hostRead (s : State) (f tenant a n : Nat) : Nat × State :=
  let id := s.host.nextReq
  let r : HostReq := { id := id, func := f, tenant := tenant, addr := a, len := n, tag := none, since := 0, data := [], waited := false, wanted := true }
  let s := s.setHost { s.host with nextReq := id + 1, reqs := s.host.reqs ++ [r] }
  (id, s.issueReq r)

/-- The result of a host request that has ended. -/
def State.hostResult (s : State) (id : Nat) : Option (Nat × Bytes) :=
  (s.host.done.find? (fun d => d.id == id)).map (fun d => (d.status, d.data))

/-- A result is taken, or a request that has not ended is given up by its unit. -/
def State.hostForget (s : State) (id : Nat) : State :=
  let rs := s.host.reqs.filterMap (fun r =>
    if r.id = id then (if r.tag.isNone then none else some { r with wanted := false }) else some r)
  s.setHost { s.host with done := s.host.done.filter (fun d => d.id != id), reqs := rs }

def stTimeout : Nat := 0x0B

/-- A request ends with a status and data; its tag is free. -/
def State.endReq (s : State) (r : HostReq) (status : Nat) (data : Bytes) : State :=
  let ds := if r.wanted then s.host.done ++ [⟨r.id, r.func, status, data⟩] else s.host.done
  s.setHost { s.host with reqs := s.host.reqs.filter (fun x => x.id != r.id), done := ds }

/-- Table 9.6: the completion timeout of a Completion Timeout Value, in units of 125 ps. -/
def ctoTime (v : Nat) : Nat :=
  if v = 1 then usec 80 else if v = 2 then msec 8 else if v = 5 then msec 40 else if v = 6 then msec 160
  else if v = 9 then msec 640 else if v = 10 then msec 2560 else if v = 13 then msec 10240 else if v = 14 then msec 40960 else msec 40

/-- R317: the timeout of a function's requests; a VF takes the value of its PF. -/
def State.timeoutOf (s : State) (f : Nat) : Nat := ctoTime (s.func ((s.pfOf f).getD 0)).cfg.cto

/-- R318, R309: a tag is quarantined for 2T from now. -/
def State.quarantine (s : State) (f tenant tag : Nat) : State :=
  s.setHost { s.host with quar := s.host.quar ++ [⟨tag, tenant, s.clk.time + 2 * s.timeoutOf f, s.linkOf f⟩] }

/-- R309, R326: the outstanding requests of functions, or of a tenant's PF0 queues, are abandoned: those on a tag leave it in
quarantine. -/
def State.abandonReqs (s : State) (p : Nat → Nat → Bool) (quarantined : Bool) : State :=
  let rs := s.host.reqs.filter (fun r => p r.func r.tenant)
  let s := s.setHost { s.host with reqs := s.host.reqs.filter (fun r => !p r.func r.tenant),
                                   done := s.host.done.filter (fun d => !p d.func 0) }
  rs.foldl (fun s r => match r.tag with
    | some t => if quarantined then s.quarantine r.func r.tenant t else s
    | none => s) s

/-- R318: a completion has not wholly arrived within T. -/
def State.hostTimeout (s : State) (tag : Nat) : State :=
  match s.host.reqs.find? (fun r => r.tag == some tag) with
  | none => s
  | some r =>
    if r.since + s.timeoutOf r.func ≤ s.clk.time then
      let s := s.modCfg r.func (fun c => { c with aerCto := true })
      let s := s.count F.HOSTLINK_STAT.CPL_TIMEOUT.CNT 1
      ((s.endReq r stTimeout []).quarantine r.func r.tenant tag)
    else s

/-- R318: a quarantined tag becomes free. -/
def State.hostQuarEnd (s : State) (tag : Nat) : State :=
  match s.host.quar.find? (fun q => q.tag == tag) with
  | none => s
  | some q =>
    if q.freeAt ≤ s.clk.time then
      (s.setHost { s.host with quar := s.host.quar.filter (fun x => x.tag != tag) }).hostService
    else s

/-- R318: a completion arrives. The data of a request may come in several completions, in order. -/
def State.hostCompletion (s : State) (tag : Nat) (st : CplStatus) (data : Bytes) : State :=
  match s.host.reqs.find? (fun r => r.tag == some tag) with
  | some r =>
    if st ≠ .ok then (s.endReq r stAccessDenied []).hostService
    else
      let d := r.data ++ data
      if r.len ≤ d.length then (s.endReq r stOk (d.take r.len)).hostService
      else (s.setHost { s.host with reqs := s.host.reqs.map (fun x => if x.id = r.id then { r with data := d } else x) })
  | none =>
    if s.host.quar.any (fun q => q.tag == tag) then (s.count F.HOSTLINK_STAT.LATE_CPL.CNT 1)
    else ((s.count F.HOSTLINK_STAT.UNEXP_CPL.CNT 1).modCfg 0 (fun c => { c with aerUnexp := true }))

/-! ### Interrupts (R313, R314) -/

def Msix.reset : Msix := { addr := 0, data := 0, mask := true, pend := false }

def State.msix (s : State) (f x : Nat) : Msix := AMap.getD s.host.msix (4096 * f + x) Msix.reset

def State.setMsix (s : State) (f x : Nat) (e : Msix) : State :=
  s.setHost { s.host with msix := AMap.setD Msix.reset s.host.msix (4096 * f + x) e }

/-- R315: the MSI-X table size of a function. -/
def State.vectors (s : State) (f : Nat) : Nat := s.rd (F.HOSTLINK_FUNC.VECTORS f)

/-- The message of an MSI-X entry. -/
def State.sendMsix (s : State) (f x : Nat) : State :=
  let e := s.msix f x
  s.hostPost f e.addr.toNat (toLE 4 e.data.toNat)

/-- MSI message number `k`: it replaces the low bits of the message data. -/
def State.sendMsi (s : State) (f k : Nat) : State :=
  let c := (s.func f).cfg
  s.hostPost f c.msiAddr.toNat (toLE 4 (c.msiData / 2 ^ c.msiCount * 2 ^ c.msiCount + k))

/-- R314: PEND of a PF. -/
def State.intxPend (s : State) (f : Nat) : Bool := if f = 0 then s.flag F.HOSTLINK_INTX.PEND else (s.func f).intx

def State.setIntx (s : State) (f : Nat) (v : Bool) : State :=
  let s := if f = 0 then s.wr F.HOSTLINK_INTX.PEND (if v then 1 else 0) else s.modFunc f (fun x => { x with intx := v })
  s.emit (.intx f v)

/-- R313: an interrupt of vector `x` of a function, by the first mechanism that applies. -/
def State.interrupt (s : State) (f x : Nat) : State :=
  let c := (s.func f).cfg
  if s.fstate f = fsTeardown ∨ s.fstate f = fsDisabled then s.count F.HOSTLINK_STAT.INTR_LOST.CNT 1
  else if c.msixEn then
    if s.vectors f ≤ x then s.count F.HOSTLINK_STAT.INTR_LOST.CNT 1
    else if c.msixMask ∨ (s.msix f x).mask then s.setMsix f x { s.msix f x with pend := true }
    else s.sendMsix f x
  else if c.msiEn ∧ f < 4 then
    let k := x % 2 ^ c.msiCount
    if c.msiMask.getLsbD k then s.modCfg f (fun c => { c with msiPend := c.msiPend ||| BitVec.ofNat 32 (2 ^ k) })
    else s.sendMsi f k
  else if f < 4 ∧ c.intxDisable = false then (if s.intxPend f then s else s.setIntx f true)
  else s.count F.HOSTLINK_STAT.INTR_LOST.CNT 1

/-- R313: a pending MSI-X message whose masks are clear is sent. -/
def State.msixRelease (s : State) (f x : Nat) : State :=
  let e := s.msix f x
  if e.pend ∧ e.mask = false ∧ (s.func f).cfg.msixMask = false ∧ (s.func f).cfg.msixEn then
    (s.setMsix f x { e with pend := false }).sendMsix f x
  else s

/-- A write of dword `w` of entry `x` of a function's MSI-X table: 0 and 1 the address, 2 the data, 3 the mask bit. -/
def State.msixWrite (s : State) (f x w : Nat) (v : W32) : State :=
  let e := s.msix f x
  let e := if w = 0 then { e with addr := BitVec.ofNat 64 (setBits e.addr.toNat 31 0 v.toNat) }
    else if w = 1 then { e with addr := BitVec.ofNat 64 (setBits e.addr.toNat 63 32 v.toNat) }
    else if w = 2 then { e with data := v }
    else { e with mask := v.getLsbD 0 }
  (s.setMsix f x e).msixRelease f x

/-- R313, R315: a host write of a dword of a function's MSI-X table. -/
def execMsixTableWrite (f x w : Nat) (v : W32) (s : State) : Host.Outcome State Fault Refusal :=
  if s.fstate f = fsTeardown then .next (s.count F.HOSTLINK_STAT.TEARDOWN_ACCESS.CNT 1)
  else if s.fstate f = fsDisabled ∨ s.vectors f ≤ x ∨ 2048 ≤ x ∨ s.funcList.contains f = false then .next s
  else .next (s.msixWrite f x w v)

/-- R314: host software clears PEND by writing 1. -/
def State.intxClear (s : State) (f : Nat) : State := if s.intxPend f then s.setIntx f false else s

def execIntxClear (f : Nat) (s : State) : Host.Outcome State Fault Refusal :=
  if 4 ≤ f then .next s
  else if s.fstate f = fsTeardown then .next (s.count F.HOSTLINK_STAT.TEARDOWN_ACCESS.CNT 1)
  else .next (s.intxClear f)

/-! ### Legs of a unit's reads -/

/-- R229, R214: one leg of a read: of host memory for a function, or of device memory, charged to group `g`. Device memory is read
with the tenant's ownership where `owned` says so. -/
def State.startLeg (s : State) (dev : Bool) (h f tenant g a n : Nat) (owned : Bool) : Leg × State :=
  if dev then
    if owned ∧ s.ownedBy tenant a n = false then (.failed stAccessDenied, s)
    else
      let (r, s) := s.memAccess a n
      if r ≠ (0, 0) then (.failed r.1, s)
      else
        let (id, s) := s.memIssue h g a n none
        (.mem id a n, s)
  else
    let (id, s) := s.hostRead f tenant a n
    (.host id, s)

/-- The status and data of a leg that has ended. -/
def State.legResult (s : State) : Leg → Option (Nat × Bytes)
  | .host id => s.hostResult id
  | .mem id a n => if s.memDone id then some ((s.memCheck a n).1, s.devRead a n) else none
  | .eye id => (s.eye.done.find? (fun d => d.id == id)).map (fun d => (d.status, d.data))
  | .failed st => some (st, [])

/-- The detail of a failed leg: BUF_FAULT (Table 6.14), or that of Table 10.8 for a request on an Eyelet link. -/
def State.legDetail (s : State) : Leg → Nat
  | .eye id => match s.eye.done.find? (fun d => d.id == id) with
    | some d => d.detail
    | none => 0
  | _ => 0x09

/-- A leg is no longer wanted. A host request stays outstanding: its completion is discarded when it arrives. -/
def State.dropLeg (s : State) : Leg → State
  | .host id => s.hostForget id
  | .mem id _ _ => s.memDrop id
  | .eye id => { s with eye := { s.eye with done := s.eye.done.filter (fun d => d.id != id) } }
  | .failed _ => s

def State.dropLegs (s : State) (ls : List Leg) : State := ls.foldl (fun s l => s.dropLeg l) s

/-- Lengths of the read requests that `n` bytes need, of at most `m` bytes each. -/
def chunkLens (m : Nat) : Nat → Nat → List Nat
  | 0, _ => []
  | fuel + 1, n => if n = 0 then [] else min m n :: chunkLens m fuel (n - min m n)

/-- A list of (address, length) pieces cut to requests of at most `m` bytes. -/
def chunkAll (m : Nat) (l : List (Nat × Nat)) : List (Nat × Nat) :=
  l.flatMap (fun (p : Nat × Nat) =>
    ((chunkLens m (p.2 + 1) p.2).foldl (fun (acc : Nat × List (Nat × Nat)) n => (acc.1 + n, acc.2 ++ [(acc.1, n)])) (p.1, [])).2)

/-- The largest read request of a function: Max_Read_Request_Size, at most 4,096 bytes. -/
def State.mrrs (s : State) (f : Nat) : Nat := min 4096 (128 * 2 ^ (s.func f).cfg.mrrs)

end Sys2Proof.Machine
end

