-- ==== Sys2Proof/Machine/Queue.lean ====
section
/-! DEFINITION. The queue engine (chapter 06): rings and indices, doorbells, completions and their CQEs, interrupts and
notices, and the faults of a queue. -/

namespace Sys2Proof.Machine

open Sys2Proof

/-! ### Records -/

def qsFree : Nat := 0
def qsReady : Nat := 1
def qsError : Nat := 2
def qsStopped : Nat := 3

def qtNetTx : Nat := 1
def qtNetRx : Nat := 2
def qtStorage : Nat := 3
def qtPeer : Nat := 4
def qtMsg : Nat := 5

def State.setQ (s : State) (q : Queues) : State := { s with q := q }
def State.wq? (s : State) (n : Nat) : Option Wq := AMap.get? s.q.wqs n
def State.cq? (s : State) (n : Nat) : Option Cq := AMap.get? s.q.cqs n
def State.setWq (s : State) (n : Nat) (w : Wq) : State := s.setQ { s.q with wqs := AMap.set s.q.wqs n w }
/-- A WQ deleted with CQEs still parked keeps them under a number of its own, from 65,536 up, until they are written. -/
def State.putWq (s : State) (n : Nat) (w : Wq) : State :=
  if 65536 ≤ n ∧ w.jobs.isEmpty then s.setQ { s.q with wqs := AMap.del s.q.wqs n } else s.setWq n w

def State.setCq (s : State) (n : Nat) (c : Cq) : State := s.setQ { s.q with cqs := AMap.set s.q.cqs n c }
def State.modWq (s : State) (n : Nat) (f : Wq → Wq) : State :=
  match s.wq? n with
  | some w => s.setWq n (f w)
  | none => s
def State.modCq (s : State) (n : Nat) (f : Cq → Cq) : State :=
  match s.cq? n with
  | some c => s.setCq n (f c)
  | none => s

/-- R215, R218: indices run modulo 2^32, or 2^16 for a compat queue. -/
def idxMod (compat : Bool) : Nat := if compat then 2 ^ 16 else 2 ^ 32

/-- The distance from index `b` on to index `a`. -/
def idxDist (compat : Bool) (a b : Nat) : Nat := (a + (idxMod compat - b % idxMod compat)) % idxMod compat

/-- R215, R218: the largest distance a ring admits. -/
def ringMax (compat : Bool) (log2 : Nat) : Nat := if compat then 2 ^ log2 - 1 else 2 ^ log2

def Wq.dist (w : Wq) (a b : Nat) : Nat := idxDist w.compat a b
def Wq.next (w : Wq) (i n : Nat) : Nat := (i + n) % idxMod w.compat

/-- R232: jobs in flight. -/
def Wq.out (w : Wq) : Nat := (w.jobs.filter (fun j => decide (0 < j.own))).length

/-- R236: no job of the WQ is in flight. -/
def Wq.drained (w : Wq) : Bool := w.out == 0

/-- Entries of the ring reads under way. -/
def Wq.underWay (w : Wq) : Nat := (w.fetch.flatMap (fun f => f.counts)).sum

/-- R223: the open chain of a WQ. -/
def Wq.openChain (w : Wq) : Option Job := w.jobs.find? (fun j => j.stage == .chain)

/-- R233: the parked entries of a CQ. -/
def State.parkedOf (s : State) (c : Nat) : Nat :=
  s.q.wqs.foldl (fun n (e : Nat × Wq) =>
    if e.2.cq = c then n + (e.2.jobs.filter (fun j => j.stage == .done)).length else n) 0

/-- QUEUE_PARK_USE follows the parked entries of every CQ. -/
def State.showParked (s : State) : State :=
  s.wr F.QUEUE_PARK_USE.IN_USE (s.q.wqs.foldl (fun n (e : Nat × Wq) =>
    n + (e.2.jobs.filter (fun j => j.stage == .done)).length) 0)

/-- An event of the queue engine. -/
def queueEvent (kind detail : Nat) (cq : Bool) (n : Nat) : Nat :=
  kind <<< 60 ||| detail <<< 32 ||| (if cq then 1 else 0) <<< 16 ||| n

/-! ### Grants (R210) -/

/-- R210: QUEUE_FGRANT of a function. -/
def State.grantOf (s : State) (f : Nat) : Nat × Nat := (s.rd (F.QUEUE_FGRANT.BASE f), s.rd (F.QUEUE_FGRANT.COUNT f))

/-- The functions with a grant. -/
def State.granted (s : State) : List Nat :=
  (s.csr.filter (fun e => decide (0x1210000 ≤ e.1) && decide (e.1 < 0x1210000 + 8 * 4100))).map (fun e => (e.1 - 0x1210000) / 8)

/-- R210: the queue number of a pair of a function, within its grant. -/
def State.queueNo (s : State) (f pair : Nat) : Option Nat :=
  let (b, n) := s.grantOf f
  if pair < n then some (b + pair) else none

/-- R210: the function whose grant holds a queue number. -/
def State.grantee (s : State) (n : Nat) : Option Nat :=
  s.granted.find? (fun f => let (b, c) := s.grantOf f; decide (b ≤ n) && decide (n < b + c))

/-- The pair index of a queue of a function. -/
def State.pairOf (s : State) (f n : Nat) : Nat := n - (s.grantOf f).1

/-! ### Interrupts and notices (R240, R241) -/

def queueEp (h : Nat) : Nat := epUnit 1 h

/-- R240, R241, R229: the interrupt or notice of a CQ is sent, and ARMED clears; an interrupt to the host is a service unit of class
4 (log entry 145). -/
def State.cqSignal (s : State) (n : Nat) : State :=
  match s.cq? n with
  | none => s
  | some c =>
    let s := s.setCq n { c with armed := false, firstNew := none }
    if c.notify then
      match s.trySend (queueEp c.home) (c.notifyEp % 2 ^ 20) (bitsOf c.notifyEp 27 20) 0x3B
          [BitVec.ofNat 64 (n ||| c.pi <<< 16)] false with
      | (.ok, s) => s
      | (_, s) => s.count F.QUEUE_STAT.NOTIFY_LOST.CNT 1
    else (s.owe 4 c.home (s.groupOf c.tenant) 1).interrupt c.func c.vector

/-- R240: a write of ARM. -/
def State.cqArm (s : State) (n : Nat) : State :=
  match s.cq? n with
  | none => s
  | some c =>
    let s := s.setCq n { c with armed := true, new := 0, firstNew := none }
    if c.pi ≠ c.ci then s.cqSignal n else s

/-- R240: a CQE has been written: moderation. -/
def State.cqModerate (s : State) (n : Nat) : State :=
  match s.cq? n with
  | none => s
  | some c =>
    let c := { c with new := (c.new + 1) % 2 ^ 32 }
    if c.armed = false then s.setCq n c
    else if max 1 c.modCount ≤ c.new then (s.setCq n c).cqSignal n
    else s.setCq n { c with firstNew := match c.firstNew with
                                        | some x => some x
                                        | none => some (s.stitch, s.rd F.STITCH_POS.CYCLE) }

/-- R240: MOD_TIME stitches have passed since the first CQE since the arm. -/
def execInterruptModTimer (n : Nat) (s : State) : Host.Outcome State Fault Refusal :=
  match s.cq? n with
  | none => .next s
  | some c => match c.firstNew with
    | some (st, cy) =>
      if c.armed ∧ c.modTime ≠ 0 ∧
          (st + c.modTime < s.stitch ∨ (st + c.modTime = s.stitch ∧ cy ≤ s.rd F.STITCH_POS.CYCLE)) then
        .next (s.cqSignal n)
      else .next s
    | none => .next s

/-! ### A CQ's ring (R216, R217, R234) -/

def Cq.used (c : Cq) : Nat := idxDist c.compat c.pi c.ci
def Cq.full (c : Cq) : Bool := decide (ringMax c.compat c.log2 ≤ c.used)

/-- R234: the whole stitches of a CQ's fullness are counted from its next boundary. -/
def State.cqFullness (s : State) (n : Nat) : State :=
  match s.cq? n with
  | none => s
  | some c =>
    let whole := if s.atBoundary then s.stitch else s.stitch + 1
    if c.full then
      if c.fullFrom.isSome then s
      else s.setCq n { c with fullFrom := some whole, fullSince := s.stitch % 2 ^ 32,
                              stalled := c.stalled && !decide (c.openFrom < s.stitch) }
    else if c.fullFrom.isSome then s.setCq n { c with fullFrom := none, openFrom := whole }
    else s

/-- R234: at a stitch boundary, a CQ full for CQ_STALL_LIMIT whole stitches raises one event. -/
def execCqStall (n : Nat) (s : State) : Host.Outcome State Fault Refusal :=
  match s.cq? n with
  | none => .next s
  | some c => match c.fullFrom with
    | some b =>
      if s.atBoundary ∧ c.stalled = false ∧ b + max 1 (s.rd F.QUEUE_CFG.CQ_STALL_LIMIT) ≤ s.stitch then
        .next (((s.setCq n { c with stalled := true }).event queueEvq (queueEvent 3 0 true n)).count F.QUEUE_STAT.CQ_STALLS.CNT 1)
      else .next s
    | none => .next s

/-- R237: a CQ fault: the CQ enters ERROR, with its event. -/
def State.cqFault (s : State) (n detail : Nat) : State :=
  match s.cq? n with
  | none => s
  | some c => (s.setCq n { c with state := qsError, errCause := detail }).event queueEvq (queueEvent 2 detail true n)

/-! ### CQEs (R224, R228, Tables 6.5 and 6.6) -/

/-- The COUNT of a job's CQE: the suppressed jobs before it and itself. -/
def cqeCount (supp own : Nat) : Nat := supp + own

/-- The bytes of a CQE of a job: Table 6.5, or Table 6.6 on a compat CQ. -/
def cqeBytes (compat : Bool) (j : Job) (wqNo count phase : Nat) : Bytes :=
  let supp := if j.suppress ∧ (j.error ∨ j.status ≠ stOk) then 2 else 0
  if compat then
    toLE 1 j.status ++ toLE 1 j.detail ++ toLE 2 j.last ++ toLE 2 wqNo ++ toLE 2 count ++ toLE 4 j.user ++ toLE 3 j.length ++
      toLE 1 phase
  else
    toLE 1 j.status ++ toLE 1 j.detail ++ toLE 2 wqNo ++ toLE 4 j.last ++ toLE 4 count ++ toLE 4 j.user ++ toLE 8 j.result ++
      toLE 4 j.length ++ toLE 2 j.aux ++ toLE 1 0 ++ toLE 1 (phase + supp)

/-- R217: the PHASE of the CQE at an index. -/
def cqePhase (log2 p : Nat) : Nat := 1 - (p / 2 ^ log2) % 2

/-- R211, R418: a queue homed on Half B whose host ring lies across a seam that carries nothing. -/
def State.hostHeld (s : State) (home : Nat) (dev : Bool) : Bool := home == 1 && !dev && s.seamHeld

/-- R311, R211, R418: the host requests of a queue wait: its function has no Bus Master Enable or is in D3hot, or the seam holds them. -/
def State.hostWaits (s : State) (home f : Nat) (dev : Bool) : Bool := s.hostHeld home dev || (!dev && !s.busOn f)

/-- R216, R309, R311, R211: a CQE can be written now. -/
def State.cqWritable (s : State) (c : Cq) : Bool :=
  c.state == qsReady && !c.full && !s.hostHeld c.home c.ringLoc && (c.ringLoc || (s.busOn c.func && s.fstate c.func != fsTeardown))

/-- R214: the address of a CQE. -/
def Cq.entryAddr (c : Cq) (i : Nat) : Nat := c.ringBase + (if c.compat then 16 else 32) * (i % 2 ^ c.log2)

/-- R228: the CQE of a job is written at PI, as one write of its size; none where the write fails. R229: it is a service unit of class
4 to the host, the bursts of class 3 to a device ring (log entry 145). -/
def State.putCqe (s : State) (n : Nat) (c : Cq) (bs : Bytes) : Option State :=
  let a := c.entryAddr c.pi
  let c' := { c with pi := (c.pi + 1) % idxMod c.compat }
  if c.ringLoc then
    let (r, s) := s.memAccess a bs.length
    if r = (0, 0) then some (((s.devWrite a bs).oweMem c.home (s.groupOf c.tenant) a bs.length true).setCq n c') else none
  else some (((s.hostPost c.func a bs).owe 4 c.home (s.groupOf c.tenant) 1).setCq n c')

/-- R215, R236: where CI stands once the CQE of a job is written. -/
def Wq.ciAfter (w : Wq) (j : Job) : Nat :=
  if j.frees = false then w.ci
  else if j.error then (if j.own = 0 then w.fi else j.first)
  else w.next j.last 1

/-- The job at the head of a WQ's order has its CQE written. -/
def State.writeCqe (s : State) (wn : Nat) (w : Wq) (j : Job) : Option State :=
  match s.cq? w.cq with
  | none => none
  | some c =>
    let no := if w.func = 0 then wn % 65536 else s.pairOf w.func (wn % 65536)
    let bs := cqeBytes c.compat j no (cqeCount w.supp j.own) (cqePhase c.log2 c.pi)
    match s.putCqe w.cq c bs with
    | none => none
    | some s =>
      let s := s.putWq wn { w with jobs := w.jobs.tail, supp := 0, ci := w.ciAfter j }
      some (((s.count F.QUEUE_STAT.CQE_WRITTEN.CNT 1).cqFullness w.cq).cqModerate w.cq)

/-- The WQs of a CQ whose first job in order is reported, each with it. -/
def State.cqHeads (s : State) (c : Nat) : List (Nat × Wq × Job) :=
  s.q.wqs.filterMap (fun (e : Nat × Wq) =>
    if e.2.cq = c then
      match e.2.jobs with
      | j :: _ => if j.stage = .done then some (e.1, e.2, j) else none
      | [] => none
    else none)

/-- The earliest of the heads in order of report. -/
def firstHead : List (Nat × Wq × Job) → Option (Nat × Wq × Job)
  | [] => none
  | x :: t => match firstHead t with
    | some y => if y.2.2.seq < x.2.2.seq then some y else some x
    | none => some x

/-- A suppressed job that completed without error has no CQE of its own (R224). -/
def Job.silent (j : Job) : Bool := j.suppress && !j.error && j.status == stOk

/-- R224, R228, R232, R233: what a CQ can report is reported: suppressed jobs leave flight once every earlier job of their WQ
has been reported, and CQEs are written in order while the ring has room. -/
def State.flushGo (s : State) (c : Nat) : Nat → State
  | 0 => s
  | fuel + 1 =>
    let hs := s.cqHeads c
    match hs.find? (fun x => x.2.2.silent) with
    | some (n, w, _) => (s.putWq n { w with jobs := w.jobs.tail, supp := w.supp + 1 }).flushGo c fuel
    | none =>
      match s.cq? c, firstHead hs with
      | some q, some (n, w, j) =>
        if s.cqWritable q then
          match s.writeCqe n w j with
          | some s' => s'.flushGo c fuel
          | none => s.cqFault c 0x08
        else s
      | _, _ => s

def State.flushCq (s : State) (c : Nat) : State :=
  (s.flushGo c (s.q.wqs.foldl (fun n (e : Nat × Wq) => if e.2.cq = c then n + e.2.jobs.length else n) 1)).showParked

/-! ### Faults of a WQ (R235, R236) -/

/-- The ring reads under way are dropped: their entries are unfetched (R236, R239). -/
def State.dropFetch (s : State) (n : Nat) : State :=
  match s.wq? n with
  | none => s
  | some w => match w.fetch with
    | f :: fs => (s.dropLegs ((f :: fs).flatMap (fun x => x.legs))).setWq n { w with fetch := [], fi := f.start }
    | [] => s

/-- WELT_PERCMD follows: the I/O queues with PERCMD_STATUS (R288). -/
def State.showPercmd (s : State) : State :=
  s.wr F.WELT_PERCMD.COUNT (s.q.wqs.filter (fun e => decide (e.1 < 65536) && e.2.percmd && s.pairOf e.2.func e.1 != 0)).length

/-- R286, steps 4 and 5, R289: of a frozen queue, the earliest failed command in ring order, once every earlier one is
reported, is named in ERR_INDEX, its CQE carries FREEZE, and the error record describes it with FROZE = 1. -/
def nameFreeze (w : Wq) : Wq :=
  if w.freeze = false ∨ w.named then w
  else
    match (w.jobs.takeWhile (fun j => j.stage == .done)).find? (fun j => !j.errRec.isEmpty) with
    | none => w
    | some j =>
      { w with named := true, errIndex := j.last, errRec := putB (putB j.errRec 0x1E (toLE 2 1)) 0x2C (toLE 4 w.errCount),
               jobs := w.jobs.map (fun (x : Job) => if x.first = j.first ∧ x.own ≠ 0 then { x with aux := x.aux ||| 1 } else x) }

/-- Jobs reported so far keep their place; a job newly at the head of its WQ's reported run takes its place in the CQ's
order. -/
def State.stampJobs (s : State) (n : Nat) : State :=
  match s.wq? n with
  | none => s
  | some w =>
    let run := w.jobs.takeWhile (fun j => j.stage == .done)
    let (k, run') := run.foldl (fun (acc : Nat × List Job) j =>
      if j.seq = 0 then (acc.1 + 1, acc.2 ++ [{ j with seq := acc.1 + 1 }]) else (acc.1, acc.2 ++ [j])) (s.q.nextSeq, [])
    let s := s.setWq n (nameFreeze { w with jobs := run' ++ w.jobs.drop run.length })
    s.setQ { s.q with nextSeq := k }

/-- R236: once every job fetched before the fault has completed, the error CQE takes its place in order, of the faulting job or of the
overrun, and the WQ enters ERROR. -/
def State.enterError (s : State) (n : Nat) : State :=
  match s.wq? n with
  | none => s
  | some w => match w.fault with
    | none => s
    | some f =>
      if w.jobs.all (fun j => j.stage == .done || j.stage == .faulting) then
        let j : Job := { first := f.first, last := f.index, opcode := 0, user := f.user, entries := [], suppress := f.suppress,
                         qgroup := 0, stage := .done, status := f.status, detail := f.detail,
                         result := if f.own = 0 then 0 else f.first, length := 0, aux := 0, error := true, own := f.own,
                         frees := true, seq := 0, legs := [], since := 0, errRec := [], msg := none }
        let s := s.setWq n { w with jobs := w.jobs.filter (fun j => j.stage != .faulting) ++ [j], fault := none, state := qsError, errCause := f.detail, errIndex := f.index }
        let s := (s.count F.QUEUE_STAT.WQ_ERRORS.CNT 1).event queueEvq (queueEvent 1 f.detail false n)
        let s := (s.stampJobs n).flushCq w.cq
        match s.wq? n with
        | some w' => if w'.jobs.isEmpty then s else s.count F.QUEUE_STAT.PARKED.CNT 1
        | none => s
      else s

/-- The faulting job of a WQ (R236): the open chain, or the job that the faulting entry began. It stays in flight until its error CQE
is written. -/
def Wq.faultJob (w : Wq) (f : WqFault) : Job :=
  { first := f.first, last := f.index, opcode := 0, user := f.user, entries := (w.openChain.map (fun j => j.entries)).getD [],
    suppress := f.suppress, qgroup := w.qgroup, stage := .faulting, status := 0, detail := 0, result := 0, length := 0, aux := 0,
    error := false, own := f.own, frees := true, seq := 0, legs := [], since := 0, errRec := [], msg := none }

/-- R236: a fault of a WQ: fetching stops. An open chain is part of the faulting job, or, at an overrun, is dropped unstarted. -/
def State.wqFault (s : State) (n : Nat) (f : WqFault) : State :=
  let s := s.dropFetch n
  match s.wq? n with
  | none => s
  | some w =>
    let fi := match w.openChain with
      | some j => if f.own = 0 then j.first else w.fi
      | none => w.fi
    let jobs := w.jobs.filter (fun j => j.stage != .chain)
    (s.setWq n { w with fault := some f, fi := fi, jobs := if f.own = 0 then jobs else jobs ++ [w.faultJob f] }).enterError n

/-- R236: the error CQE of a WQ is written when the jobs before its fault have completed. -/
def execErrorCqeWrite (n : Nat) (s : State) : Host.Outcome State Fault Refusal := .next (s.enterError n)

/-! ### Completion (R224, R228, R232, R233) -/

/-- What a unit reports of a job. -/
structure JobResult where
  status : Nat
  detail : Nat
  result : Nat
  length : Nat
  aux : Nat
  deriving DecidableEq, Repr

def JobResult.put (r : JobResult) (stage : JobStage) (j : Job) : Job :=
  { j with stage := stage, status := r.status, detail := r.detail, result := r.result, length := r.length, aux := r.aux, legs := [] }

/-- A job of a WQ in flight that has not ended. -/
def State.liveJob (s : State) (n first : Nat) : Option Job :=
  (s.wq? n).bind (fun w => w.jobs.find? (fun j => j.first == first && decide (0 < j.own) && j.stage != .done && j.stage != .ended))

def State.modJob (s : State) (n first : Nat) (f : Job → Job) : State :=
  s.modWq n (fun w => { w with jobs := w.jobs.map (fun j => if j.first = first ∧ j.own ≠ 0 then f j else j) })

/-- R222: a unit has ended the work of a job; its completion is to be reported. -/
def State.endJob (s : State) (n first : Nat) (r : JobResult) : State :=
  match s.liveJob n first with
  | some j => (s.dropLegs j.legs).modJob n first (r.put .ended)
  | none => s

/-- R228, R233: the reported jobs of a WQ are written in order, or park. A completion that cannot be written now is counted
as parked. -/
def State.reportJob (s : State) (n first : Nat) (r : JobResult) : State :=
  match s.wq? n with
  | none => s
  | some w =>
    let s := ((s.modJob n first (r.put .done)).stampJobs n).flushCq w.cq
    let s := match s.wq? n with
      | some w' => if w'.jobs.any (fun (j : Job) => j.first == first && j.stage == JobStage.done) then s.count F.QUEUE_STAT.PARKED.CNT 1 else s
      | none => s
    s.enterError n

/-- A job ends and is reported at once. -/
def State.finishJob (s : State) (n first : Nat) (r : JobResult) : State :=
  match s.liveJob n first with
  | some j => (s.dropLegs j.legs).reportJob n first r
  | none => s

/-- R228: the completion of a job whose work has ended is reported: its CQE is written in ring order, or parks. -/
def execJobComplete (n first : Nat) (s : State) : Host.Outcome State Fault Refusal :=
  match (s.wq? n).bind (fun w => w.jobs.find? (fun j => j.first == first && j.stage == .ended)) with
  | some j => .next (s.reportJob n first ⟨j.status, j.detail, j.result, j.length, j.aux⟩)
  | none => .next s

/-- R233, R237: parked CQEs of a CQ are written in order as its ring has room. -/
def execParkedCqeWrite (c : Nat) (s : State) : Host.Outcome State Fault Refusal := .next (s.flushCq c)

/-! ### Doorbells (R215, R216, R219, R220) -/

/-- R215, R220: a new PI of a WQ. -/
def State.wqPi (s : State) (n v : Nat) : State :=
  match s.wq? n with
  | none => s
  | some w =>
    let v := v % idxMod w.compat
    let d := w.dist v w.ci
    if ringMax w.compat w.log2 < d ∨ d < w.dist w.fi w.ci then
      if w.state = qsReady ∧ w.fault.isNone then s.wqFault n ⟨v, 0, stRange, 0x01, 0, false, 0⟩
      else s.count F.QUEUE_STAT.DB_DISCARD.CNT 1
    else s.setWq n { w with pi := v }

/-- R216, R220: a CI written to a CQ. -/
def State.cqCi (s : State) (n v : Nat) : State :=
  match s.cq? n with
  | none => s
  | some c =>
    let v := v % idxMod c.compat
    if ringMax c.compat c.log2 < idxDist c.compat c.pi v then
      if c.state = qsError then s.count F.QUEUE_STAT.DB_DISCARD.CNT 1 else s.cqFault n 0x01
    else (s.setCq n { c with ci := v }).cqFullness n

/-- R310: an access to a function in TEARDOWN is counted; one to a DISABLED or absent function meets nothing. -/
def State.barGate (s : State) (f : Nat) : Option State :=
  if s.fstate f = fsTeardown then some (s.count F.HOSTLINK_STAT.TEARDOWN_ACCESS.CNT 1)
  else if s.fstate f = fsDisabled ∨ s.funcList.contains f = false ∨ s.flag (F.HOSTLINK_LINK_STATUS.UP (s.linkOf f)) = false then some s
  else none

/-- R305, R219: a doorbell write of a page whose queue is FREE is discarded and counted. -/
def State.dbDiscard (s : State) : State := s.count F.QUEUE_STAT.DB_DISCARD.CNT 1

/-- R215: a host write of WQ_PI in the doorbell page of pair `k` of function `f`. -/
def execWqDoorbell (f k : Nat) (v : W32) (s : State) : Host.Outcome State Fault Refusal :=
  match s.barGate f with
  | some s => .next s
  | none => match (s.queueNo f k).bind (fun n => (s.wq? n).map (fun _ => n)) with
    | some n => .next (s.wqPi n v.toNat)
    | none => .next s.dbDiscard

/-- R216: a host write of CQ_CI. Parked CQEs are written by PARKED_CQE_WRITE. -/
def execCqDoorbell (f k : Nat) (v : W32) (s : State) : Host.Outcome State Fault Refusal :=
  match s.barGate f with
  | some s => .next s
  | none => match (s.queueNo f k).bind (fun n => (s.cq? n).map (fun _ => n)) with
    | some n => .next (s.cqCi n v.toNat)
    | none => .next s.dbDiscard

/-- R240: a host write of CQ_ARM. -/
def execCqArm (f k : Nat) (v : W32) (s : State) : Host.Outcome State Fault Refusal :=
  match s.barGate f with
  | some s => .next s
  | none => match (s.queueNo f k).bind (fun n => (s.cq? n).map (fun _ => n)) with
    | some n => .next (if v.getLsbD 0 then s.cqArm n else s)
    | none => .next s.dbDiscard

/-- All ones of an access of `size` bytes. -/
def allOnes (size : Nat) : Nat := 2 ^ (8 * size) - 1

/-- R219: an access to a doorbell page that is not a naturally aligned access of 4 bytes is discarded and counted, and a read
returns all ones; a write to a page of a FREE queue is discarded and counted; an offset outside Table 6.2 reads zero and
discards writes. -/
def execDoorbellDiscard (f off size : Nat) (write : Bool) (s : State) : Host.Outcome State Fault Refusal :=
  match s.barGate f with
  | some s => .next (if write then s else s.emit (.barRead f (allOnes size)))
  | none =>
    if size ≠ 4 ∨ off % 4 ≠ 0 then
      let s := s.dbDiscard
      .next (if write then s else s.emit (.barRead f (allOnes size)))
    else
      let n := (s.queueNo f (off / 4096)).getD 65536
      let w := s.wq? n
      if write then .next (if w.isNone ∧ (s.cq? n).isNone then s.dbDiscard else s)
      else match w with
        | some w =>
          .next (s.emit (.barRead f (if off % 4096 = 0x10 then w.state ||| w.errCause <<< 8
                                     else if off % 4096 = 0x14 then w.ci else 0)))
        | none => .next (s.emit (.barRead f 0))

/-! ### QPOST (R221) -/

/-- R221: what a QPOST of a mule's thread to a WQ meets: the yarn status and the notice's cause. The write of the ring is class 3 work
of the queue's group (R229). -/
def State.qpost (s : State) (mule n : Nat) (entry : Bytes) : (Nat × Nat) × State :=
  match s.wq? n with
  | none => ((ysRefused, stRange), s)
  | some w =>
    if w.ringLoc = false ∨ w.mules.testBit mule = false then ((ysRefused, stAccessDenied), s)
    else if ringMax w.compat w.log2 ≤ w.dist w.pi w.ci then ((ysFull, 0), s)
    else
      let a := w.ringBase + 64 * (w.pi % 2 ^ w.log2)
      ((ysOk, 0), ((s.devWrite a entry).oweMem w.home (s.groupOf w.tenant) a 64 true).setWq n { w with pi := w.next w.pi 1 })

end Sys2Proof.Machine
end

