-- ==== Sys2Proof/Machine/QueueFetch.lean ====
section
/-! DEFINITION. The queue engine (chapter 06): fetching work-queue entries, the form of a job, and the jobs that the engine
itself runs: transmit frames, receive buffers and messages to threads. -/

namespace Sys2Proof.Machine

open Sys2Proof

def stNoBuffer : Nat := 0x05

/-! ### Eligibility and service order (R230, R231) -/

/-- R309, R323, R326: the functions whose queues fetch: ACTIVE ones, of which a host ring is reached only while requests may go
out; and, while a HOST reset tears PF0 down, PF0's queues in device memory. -/
def State.funcFetches (s : State) (w : Wq) : Bool :=
  (s.fstate w.func == fsActive && (w.ringLoc || s.busOn w.func)) ||
  (w.func == 0 && w.ringLoc && (match (s.func 0).tear with | some t => t.host | none => false))

/-- R230: a WQ is eligible for fetch. An entry under way counts as a job, which it may begin; at the limit an open chain goes on once
the entries under way are in (DESIGN CHOICE, log entry 31). -/
def State.eligible (s : State) (w : Wq) : Bool :=
  w.state == qsReady && w.fault.isNone && w.abort.isNone && !w.freeze && w.fi != w.pi &&
  (decide (w.out + w.underWay < w.inflight) || (w.openChain.isSome && w.fetch.isEmpty)) &&
  (match s.cq? w.cq with
   | some c => c.state == qsReady && decide (s.parkedOf w.cq < c.reserved)
   | none => false) &&
  s.funcFetches w && !(w.type == qtStorage && s.flag F.WELT_ACT.PAUSED) && !(w.home == 1 && s.fencedB) &&
  !s.hostHeld w.home w.ringLoc

/-- The WQs of a group homed on a half; in rising order. -/
def State.groupWqs (s : State) (h g : Nat) : List (Nat × Wq) :=
  s.q.wqs.filter (fun e => e.2.home == h && s.groupOf e.2.tenant == g)

def visitKey (h g : Nat) : Nat := 1024 * h + g

/-- R231: a round begins: every WQ of the group has its WEIGHT as credit. -/
def State.newRound (s : State) (ws : List (Nat × Wq)) : State :=
  ws.foldl (fun s e => s.modWq e.1 (fun w => { w with credit := w.weight })) s

/-- R231: the WQ visited next: the first with credit after the last one visited, wrapping. -/
def nextVisit (last : Nat) (ws : List (Nat × Wq)) : Option (Nat × Wq) :=
  let ws := ws.filter (fun e => decide (0 < e.2.credit))
  match ws.find? (fun e => decide (last ≤ e.1)) with
  | some e => some e
  | none => ws.head?

/-- Entries that a visit may fetch: those posted. The in-flight limit stops the entries that begin a job beyond it when they come
(R230, `takeEntry`). -/
def Wq.available (w : Wq) : Nat := w.dist w.pi w.fi

/-- R231: how many of `n` entries from index `i` lie before the ring wraps. -/
def Wq.beforeWrap (w : Wq) (i n : Nat) : Nat := min n (2 ^ w.log2 - i % 2 ^ w.log2)

/-- R231: a visit to a WQ reads min(BURST, credit, entries available) entries, in one read or, where the ring wraps, two. -/
def State.visitWq (s : State) (h g n : Nat) (w : Wq) : State :=
  let k := min (min w.burst w.credit) w.available
  let k0 := w.beforeWrap w.fi k
  let counts := if k0 < k then [k0, k - k0] else [k0]
  let (legs, s) := counts.foldl (fun (acc : (List Leg × State) × Nat) c =>
    let (l, st) := acc.1.2.startLeg w.ringLoc h w.func w.tenant g (w.ringBase + 64 * (acc.2 % 2 ^ w.log2)) (64 * c) false
    ((acc.1.1 ++ [l], st), w.next acc.2 c)) (([], s), w.fi) |>.1
  let f : Fetch := { start := w.fi, counts := counts, legs := legs }
  let s := s.setWq n { w with fi := w.next w.fi k, credit := w.credit - k, fetch := w.fetch ++ [f] }
  s.setQ { s.q with visited := AMap.set s.q.visited (visitKey h g) (n + 1) }

/-- R231: in the turn of group `g` the engine of half `h` visits an eligible WQ by weighted round robin. Host rings are read
in class 4 service units; device rings in the class 3 units of their bursts (R229). A round is of all the group's WQs, and each
kind of ring is visited in the turns of its own class (log entry 31). -/
def execWqeFetch (h : Nat) (dev : Bool) (g : Nat) (s : State) : Host.Outcome State Fault Refusal :=
  if dev = false ∧ s.groupAt 4 h ≠ some g then .next s
  else
    let all := s.groupWqs h g
    let el := all.filter (fun e => s.eligible e.2)
    if (el.filter (fun e => e.2.ringLoc == dev)).isEmpty then .next s
    else
      let fresh := el.all (fun e => e.2.credit == 0)
      let s := if fresh then s.newRound all else s
      let el := if fresh then el.map (fun e => (e.1, { e.2 with credit := e.2.weight })) else el
      match nextVisit (AMap.getD s.q.visited (visitKey h g) 0) (el.filter (fun e => e.2.ringLoc == dev)) with
      | some (n, w) =>
        let s := if dev then s else s.useChoice 4 h
        .next (s.visitWq h g n w)
      | none => .next s

/-! ### The form of an entry (R222 to R225, R273, R274, R348) -/

/-- Table 6.14 details of a malformed entry. -/
def qdBadOpcode : Nat := 0x02
def qdRsv : Nat := 0x03
def qdChain : Nat := 0x04
def qdChainLong : Nat := 0x05
def qdBadLength : Nat := 0x06
def qdBufFault : Nat := 0x09

def isZero (bs : Bytes) : Bool := bs.all (fun b => b == 0#8)

/-- A segment: ADDR and LEN. -/
structure Seg where
  addr : Nat
  len : Nat
  deriving DecidableEq, Repr

def segAt (e : Bytes) (o : Nat) : Seg := ⟨leAt e o 8, leAt e (o + 8) 4⟩

/-- A segment keeps its form: zero in its last 4 bytes, and ADDR zero where LEN is 0. -/
def segOk (e : Bytes) (o : Nat) : Bool := leAt e (o + 12) 4 == 0 && (leAt e (o + 8) 4 != 0 || leAt e o 8 == 0)

/-- The offsets of the segments of the entry at place `k` of a job of a type. -/
def segOffs (type k : Nat) : List Nat :=
  if type = qtNetTx then [0x10, 0x20, 0x30]
  else if type = qtStorage ∨ type = qtPeer then (if k = 0 then [0x20, 0x30] else [0x10, 0x20, 0x30])
  else []

/-- The segments of a job that are used, in order. -/
def jobSegs (type : Nat) (entries : List Bytes) : List Seg :=
  ((entries.zipIdx).flatMap (fun (p : Bytes × Nat) => (segOffs type p.2).map (fun o => segAt p.1 o))).filter (fun g => g.len != 0)

def segSum (l : List Seg) : Nat := l.foldl (fun n g => n + g.len) 0

/-- Opcodes that a queue accepts (R222, Table 8.4, R348); `admin` tells a function's admin queue (R272). -/
def opcodeOk (type : Nat) (admin : Bool) (op : Nat) : Bool :=
  if type = qtNetTx then op == 1
  else if type = qtNetRx then op == 2
  else if type = qtStorage then (if admin then decide (0x81 ≤ op) && decide (op ≤ 0x8A) else decide (1 ≤ op) && decide (op ≤ 6))
  else if type = qtPeer then decide (1 ≤ op) && decide (op ≤ 3)
  else true

/-- A job of a type and opcode may be a chain (Table 6.1, R273, R348). -/
def chainOk (type op : Nat) : Bool :=
  type == qtNetTx || (type == qtStorage && (op == 1 || op == 2 || op == 6)) || (type == qtPeer && op != 3)

/-- The zero fields of the body of a FIRST entry: Tables 6.4, 8.3 and 10.6. -/
def firstZeros (type op : Nat) (e : Bytes) : Bool :=
  if type = qtNetTx then decide (leAt e 0x0C 4 < 8)
  else if type = qtNetRx then isZero (sliceB e 0x14 44)
  else if type = qtStorage then
    if op < 0x80 then
      decide (leAt e 0x0A 2 < 16384) && isZero (sliceB e 0x0E 2) && isZero (sliceB e 0x18 8) &&
      (op != 3 || (isZero (sliceB e 0x0C 2) && isZero (sliceB e 0x10 8))) && (chainOk type op || isZero (sliceB e 0x20 32))
    else isZero (sliceB e 0x30 16) && (op == 0x85 || op == 0x8A || isZero (sliceB e 0x0E 2))
  else if type = qtPeer then
    decide (leAt e 0x0C 1 < 4) && isZero (sliceB e 0x0E 2) && isZero (sliceB e 0x18 8) && (op != 3 || isZero (sliceB e 0x20 32))
  else true

/-- The length fields of a FIRST entry (R224, R348). -/
def firstLenOk (type op : Nat) (e : Bytes) : Bool :=
  if type = qtNetTx then decide (60 ≤ leAt e 8 4) && decide (leAt e 8 4 ≤ 16000)
  else if type = qtNetRx then decide (64 ≤ leAt e 0x10 4) && decide (leAt e 0x10 4 ≤ 65535)
  else if type = qtPeer then
    (if op = 3 then decide (60 ≤ leAt e 8 4) && decide (leAt e 8 4 ≤ 16000)
     else decide (1 ≤ leAt e 8 4) && decide (leAt e 8 4 ≤ 16777216))
  else true

/-- R225, R349: the segments of a whole job add up to its length. -/
def sumOk (type op : Nat) (entries : List Bytes) : Bool :=
  if type = qtNetTx ∨ (type = qtPeer ∧ op ≠ 3) then segSum (jobSegs type entries) == leAt (entries.headD []) 8 4 else true

/-- The detail of the first fault of form of an entry, or 0. `chain` holds the entries of the open chain. -/
def entryFault6 (type : Nat) (admin : Bool) (chain : List Bytes) (e : Bytes) : Nat :=
  let fl := leAt e 1 1
  let op := leAt e 0 1
  let first := fl.testBit 0
  let last := fl.testBit 1
  let k := chain.length
  if 8 ≤ fl ∨ leAt e 2 2 ≠ 0 then qdRsv
  else if opcodeOk type admin op = false then qdBadOpcode
  else if k ≠ 0 ∧ (first ∨ op ≠ leAt (chain.headD []) 0 1) then qdChain
  else if k = 15 ∧ last = false then qdChainLong
  else if k = 0 ∧ (first = false ∨ (last = false ∧ chainOk type op = false)) then qdChain
  else if k = 0 ∧ firstZeros type op e = false then qdRsv
  else if k ≠ 0 ∧ isZero (sliceB e 8 8) = false then qdRsv
  else if (op < 0x80 ∨ type ≠ qtStorage) ∧ (segOffs type k).any (fun o => !segOk e o) then qdRsv
  else if k = 0 ∧ firstLenOk type op e = false then qdBadLength
  else if last ∧ sumOk type op (chain ++ [e]) = false then qdBadLength
  else 0

/-! ### Arrival of entries (R223, R236) -/

/-- R230: the entries from index `i` on stay unfetched, for the limit stops the job that the first of them begins; the visits get their
credit back. -/
def State.stopFetch (s : State) (n i : Nat) : State :=
  (s.dropFetch n).modWq n (fun w => { w with fi := i, credit := min w.weight (w.credit + ((s.wq? n).elim 0 (fun v => v.dist v.fi i))) })

/-- One fetched entry at index `i`: it joins or begins a job, or faults the WQ. Answers whether the next entry is taken. -/
def State.takeEntry (s : State) (n i : Nat) (e : Bytes) : Bool × State :=
  match s.wq? n with
  | none => (false, s)
  | some w =>
    if w.openChain.isNone ∧ w.inflight ≤ w.out then (false, s.stopFetch n i)
    else
    let s := s.count F.QUEUE_STAT.FETCHED.CNT 1
    let open' := w.openChain
    let chain := match open' with | some j => j.entries | none => []
    let admin := w.type == qtStorage && s.pairOf w.func n == 0
    let d := entryFault6 w.type admin chain e
    let fl := leAt e 1 1
    if d ≠ 0 then
      let first := match open' with | some j => j.first | none => i
      let user := match open' with | some j => j.user | none => leAt e 4 4
      let s := (s.dropFetch n).modWq n (fun v => { v with fi := w.next i 1 })
      (false, s.wqFault n ⟨i, first, stMalformed, d, user, fl.testBit 1 && fl.testBit 2, 1⟩)
    else
      let stage : JobStage := if fl.testBit 1 then .unstarted else .chain
      let supp := fl.testBit 1 && fl.testBit 2
      match open' with
      | some j =>
        let j' := { j with entries := j.entries ++ [e], last := i, stage := stage, suppress := supp }
        (true, s.setWq n { w with jobs := w.jobs.map (fun x => if x.stage = .chain then j' else x) })
      | none =>
        let j : Job := { first := i, last := i, opcode := leAt e 0 1, user := leAt e 4 4, entries := [e], suppress := supp,
                         qgroup := w.qgroup, stage := stage, status := 0, detail := 0, result := 0, length := 0, aux := 0,
                         error := false, own := 1, frees := true, seq := 0, legs := [], since := s.clk.cycles, errRec := [], msg := none }
        (true, s.setWq n { w with jobs := w.jobs ++ [j] })

/-- The entries of one read, one after another. -/
def State.takeEntries (s : State) (n : Nat) (compat : Bool) (bs : Bytes) : Nat → Nat → Bool × State
  | 0, _ => (true, s)
  | k + 1, i =>
    match s.takeEntry n i (sliceB bs 0 64) with
    | (true, s') => s'.takeEntries n compat (bs.drop 64) k ((i + 1) % idxMod compat)
    | (false, s') => (false, s')

/-- The reads of a fetch in order: a failed one faults the WQ at its first entry (R236). -/
def State.takeReads (s : State) (n : Nat) : List (Nat × (Nat × Bytes)) → Nat → State
  | [], _ => s
  | (k, (st, bs)) :: t, i =>
    match s.wq? n with
    | none => s
    | some w =>
      if st ≠ 0 then
        let first := match w.openChain with | some j => j.first | none => i
        let user := match w.openChain with | some j => j.user | none => 0
        ((s.dropFetch n).modWq n (fun v => { v with fi := i })).wqFault n ⟨i, first, st, 0x07, user, false, 1⟩
      else match s.takeEntries n w.compat bs k i with
        | (true, s') => s'.takeReads n t (w.next i k)
        | (false, s') => s'

/-- R223: the entries of the oldest ring read have arrived: they are checked for form and become jobs. -/
def execFetchComplete (n : Nat) (s : State) : Host.Outcome State Fault Refusal :=
  match s.wq? n with
  | none => .next s
  | some w => match w.fetch with
    | [] => .next s
    | f :: fs =>
      let rs := f.legs.filterMap (fun l => s.legResult l)
      if rs.length = f.legs.length then
        let s := (s.dropLegs f.legs).setWq n { w with fetch := fs }
        .next (s.takeReads n (f.counts.zip rs) f.start)
      else .next s

/-! ### Transmit frames (R225) -/

/-- The reads of a job's segments, cut to the function's read requests. -/
def State.jobReads (s : State) (w : Wq) (j : Job) : List (Nat × Nat) :=
  chunkAll (if w.ringLoc then 65536 else s.mrrs w.func) ((jobSegs w.type j.entries).map (fun g => (g.addr, g.len)))

/-- R225, step 2: the partition of the frame's class is at STOP. -/
def State.txStop (s : State) (w : Wq) (j : Job) : Bool :=
  match s.chooseClass w.home (s.rd F.BOBBIN_CFG.HEADROOM + leAt (j.entries.headD []) 8 4) true with
  | some c => s.atStop w.home w.tenant c
  | none => false

/-- The next reads of a job go out, charged to the group of `tenant`: those of device memory at once, each by its bursts; one of host
memory in a class 4 service unit. -/
def State.issueLegs (s : State) (n : Nat) (w : Wq) (tenant : Nat) (j : Job) (reads : List (Nat × Nat)) : State :=
  let rest := reads.drop j.legs.length
  if w.ringLoc then
    let (ls, s) := rest.foldl (fun (acc : List Leg × State) r =>
      let (l, st) := acc.2.startLeg true w.home w.func w.tenant (s.groupOf tenant) r.1 r.2 true
      (acc.1 ++ [l], st)) ([], s)
    s.modJob n j.first (fun x => { x with stage := .started, legs := x.legs ++ ls })
  else match rest with
    | r :: _ =>
      if s.hostWaits w.home w.func false then s
      else if s.groupAt 4 w.home = some (s.groupOf tenant) then
        let (l, s) := ((s.useChoice 4 w.home).owe 4 w.home (s.groupOf tenant) (tlpsOf r.2 - 1)).startLeg false w.home w.func w.tenant 0 r.1 r.2 false
        s.modJob n j.first (fun x => { x with stage := .started, legs := x.legs ++ [l] })
      else s
    | [] => s

/-- The results of a job's legs, once all have ended. -/
def State.legResults (s : State) (ls : List Leg) : Option (List (Nat × Bytes)) :=
  let rs := ls.filterMap (fun l => s.legResult l)
  if rs.length = ls.length then some rs else none

/-- R225, steps 3 and 4, R256: every read has ended: a failed one completes the job; otherwise the frame takes its bobbins, unless their
partition is at STOP, the job completes and the packet enters the Card lanes. A request for a bobbin that fails completes the job
with its status and detail (R253; DEDUCED, log entry 155). -/
def State.txStore (s : State) (n : Nat) (w : Wq) (j : Job) (rs : List (Nat × Bytes)) : State :=
  match rs.find? (fun r => r.1 != 0) with
  | some r => s.endJob n j.first ⟨r.1, qdBufFault, 0, 0, 0⟩
  | none =>
    let bs := rs.flatMap (fun r => r.2)
    if s.txStop w j then s
    else match s.storePacket w.home w.tenant (editorEp w.home) 0 w.compat bs with
    | (none, s) => s.endJob n j.first ⟨stNoBuffer, bdEmpty, 0, 0, 0⟩
    | (some b, s) =>
      let tc := leAt (j.entries.headD []) 0x0C 4
      let s := s.admitPacket (newPacket w.home 1 w.tenant j.qgroup 0 tc b bs.length 0 (n ||| j.last % 65536 <<< 16) 0)
      s.endJob n j.first ⟨stOk, 0, 0, bs.length, 0⟩

/-- R225: the next step of a NET_TX job: its reads, or, with all of them made, its end. -/
def State.txStep (s : State) (n first : Nat) : State :=
  match s.wq? n, s.liveJob n first with
  | some w, some j =>
    if w.type ≠ qtNetTx ∨ j.stage = .chain ∨ j.stage = .faulting then s
    else if j.stage = .unstarted ∧ (s.txStop w j ∨ w.abort.isSome) then s
    else
      let reads := s.jobReads w j
      if j.legs.length < reads.length then s.issueLegs n w w.tenant j reads
      else match s.legResults j.legs with
        | some rs => s.txStore n w j rs
        | none => s
  | _, _ => s

/-- R225: a NET_TX job reads its frame and enters the Card lanes. -/
def execNetTxSend (n first : Nat) (s : State) : Host.Outcome State Fault Refusal := .next (s.txStep n first)

/-- R225: a NET_TX job that waited for a partition resumes once the partition has left STOP. -/
def execNetTxBobbinWaitEnd (n first : Nat) (s : State) : Host.Outcome State Fault Refusal := .next (s.txStep n first)

/-! ### Receive buffers (R226) -/

/-- R226: a fetched NET_RX entry is a receive buffer in flight. -/
def execNetRxRecv (n first : Nat) (s : State) : Host.Outcome State Fault Refusal :=
  match s.wq? n, s.liveJob n first with
  | some w, some j =>
    if w.type = qtNetRx ∧ j.stage = .unstarted then .next (s.modJob n first (fun x => { x with stage := .buffer })) else .next s
  | _, _ => .next s

/-- R226: what a delivery to a receive queue meets: the buffer it takes, or the refusal's counter, if it has one. -/
def State.rxBuffer (s : State) (n len : Nat) : Except (Option FRef) (Wq × Job) :=
  match s.wq? n with
  | none => .error none
  | some w =>
    let cqOk : Bool := match s.cq? w.cq with | some c => c.state == qsReady | none => false
    if w.type ≠ qtNetRx ∨ w.state ≠ qsReady ∨ (w.home = 1 ∧ s.fencedB) then .error none
    else match w.jobs.find? (fun j => j.stage == .buffer || j.stage == .unstarted) with
      | none => .error (some F.QUEUE_STAT.RX_NOBUF.CNT)
      | some j =>
        if leAt (j.entries.headD []) 0x10 4 < len then .error (some F.QUEUE_STAT.RX_TOOLONG.CNT)
        else if cqOk then .ok (w, j) else .error none

/-- R226: a packet is written into the oldest buffer of its queue, and the buffer's job completes. Every byte of the buffer must be the
tenant's (R214); the writes behind the first are service units of class 4, or of class 3 for a buffer in device memory (R229, log
entry 145). -/
def State.rxWrite (s : State) (n : Nat) (w : Wq) (j : Job) (bs : Bytes) (stamp tc : Nat) : State :=
  let a := leAt (j.entries.headD []) 8 8
  let len := leAt (j.entries.headD []) 0x10 4
  let g := s.groupOf w.tenant
  if w.ringLoc then
    let (r, s) := if s.ownedBy w.tenant a len then s.memAccess a bs.length else ((stAccessDenied, 0), s)
    if r = (0, 0) then ((s.devWrite a bs).oweMem w.home g a bs.length true).finishJob n j.first ⟨stOk, 0, stamp, bs.length, tc⟩
    else s.finishJob n j.first ⟨r.1, qdBufFault, 0, 0, 0⟩
  else ((s.hostPost w.func a bs).owe 4 w.home g (tlpsOf bs.length - 1)).finishJob n j.first ⟨stOk, 0, stamp, bs.length, tc⟩

/-! ### Messages to threads (R227) -/

/-- R227: the oldest MSG job of a WQ that has not started goes to TARGET; it waits while the channel is full. -/
def execMsgDeliver (n : Nat) (s : State) : Host.Outcome State Fault Refusal :=
  match s.wq? n with
  | none => .next s
  | some w => match w.jobs.find? (fun j => j.stage == .unstarted) with
    | none => .next s
    | some j =>
      if w.type ≠ qtMsg ∨ w.abort.isSome then .next s
      else match s.trySend (queueEp w.home) (w.target % 2 ^ 20) (bitsOf w.target 27 20) 0x3C (wordsOf 8 (j.entries.headD [])) false with
        | (.ok, t) => .next (t.modJob n j.first (fun x => { x with stage := .started, msg := some s.yarn.nextId }))
        | (.full, _) => .next s
        | (.stale _, s) => .next (s.endJob n j.first ⟨stStaleEpoch, 0x14, 0, 0, 0⟩)
        | (.refused _, s) => .next (s.endJob n j.first ⟨stAccessDenied, 0x15, 0, 0, 0⟩)

/-- The message at the head of the endpoint of the engine of half `h`, of a kind. -/
def State.engineMsg (s : State) (h kind : Nat) : Option (Msg × State) :=
  match s.headAt (queueEp h) with
  | some m =>
    if (m.words.headD 0).toNat % 16 = kind then some (m, s.setQueue (queueEp h) (s.queueAt (queueEp h)).tail) else none
  | none => none

/-- R227: a KIND 1 message completes a MSG job, a STATUS outside Table 6.13, which R242 keeps from being reported, with a free value
(log entry 156); one for an index not in flight is discarded and its sender told. -/
def execMsgCompletion (h : Nat) (s : State) : Host.Outcome State Fault Refusal :=
  match s.engineMsg h 1 with
  | none => .next s
  | some (m, s) =>
    let w0 := (m.words.getD 0 0).toNat
    let w1 := (m.words.getD 1 0).toNat
    let n := bitsOf w0 47 32
    let ok : Bool := match s.wq? n, s.liveJob n (bitsOf w1 31 0) with
      | some w, some j => w.type == qtMsg && j.stage == .started
      | _, _ => false
    if ok then
      let st := bitsOf w0 15 8
      .next ((if st < 16 then s else s.tookFree).endJob n (bitsOf w1 31 0) ⟨if st < 16 then st else (Config.msgStatus s.freeCtr).toNat, bitsOf w0 23 16, (m.words.getD 2 0).toNat, bitsOf w1 63 32, 0⟩)
    else .next (s.notify m.src stRange m.dst m.tag 0)

/-- R241: a KIND 2 message writes the CI of a CQ and may arm it. -/
def execCqCiMessage (h : Nat) (s : State) : Host.Outcome State Fault Refusal :=
  match s.engineMsg h 2 with
  | none => .next s
  | some (m, s) =>
    let n := bitsOf (m.words.getD 0 0).toNat 47 32
    let w1 := (m.words.getD 1 0).toNat
    let s := s.cqCi n (bitsOf w1 31 0)
    .next (if w1.testBit 32 then s.cqArm n else s)

end Sys2Proof.Machine
end

