-- ==== Sys2Proof/Machine/QueueCmd.lean ====
section
/-! DEFINITION. Queue commands (chapter 06): the command blocks, creating, deleting, restarting, aborting, scheduling and
querying queues. A block is named by its function; 0 is QUEUE_CMD. -/

namespace Sys2Proof.Machine

open Sys2Proof

/-! ### Command blocks (R243, Table 6.10) -/

/-- A word of a command block, by its offset in the block. -/
def State.blkWord (s : State) (f o : Nat) : Nat :=
  if f = 0 then s.word (0x1200100 + o) else (AMap.getD (s.func f).blk o 0#64).toNat

def State.setBlk (s : State) (f o v : Nat) : State :=
  if f = 0 then s.setWord (0x1200100 + o) v
  else s.modFunc f (fun x => { x with blk := AMap.setD 0#64 x.blk o (BitVec.ofNat 64 v) })

/-- The 64 bytes of DATA. -/
def State.blkData (s : State) (f : Nat) : Bytes := (List.range 8).flatMap (fun i => toLE 8 (s.blkWord f (0x40 + 8 * i)))

def State.setBlkData (s : State) (f : Nat) (bs : Bytes) : State :=
  (List.range 8).foldl (fun s i => s.setBlk f (0x40 + 8 * i) (leAt bs (8 * i) 8)) s

def State.cmdOp (s : State) (f : Nat) : Nat := bitsOf (s.blkWord f 0) 55 52
def State.cmdQueue (s : State) (f : Nat) : Nat := bitsOf (s.blkWord f 0) 47 32
def State.cmdIndex (s : State) (f : Nat) : Nat := bitsOf (s.blkWord f 0) 31 0
def State.cmdCq (s : State) (f : Nat) : Bool := (s.blkWord f 0).testBit 48

/-- A command of a block runs. -/
def State.cmdRuns (s : State) (f op : Nat) : Bool := (s.blkWord f 0).testBit 62 && s.cmdOp f == op

/-- A command finishes: DONE, DETAIL and STATUS are set, and BUSY and GO clear. -/
def State.cmdDone (s : State) (f : Nat) (r : Nat × Nat) : State :=
  (s.setBlk f 8 (1 <<< 31 ||| r.2 <<< 8 ||| r.1)).setBlk f 0 (s.blkWord f 0 % 2 ^ 62)

/-- R243: GO issues OP, unless a command runs; an OP outside Table 6.11 completes MALFORMED, BAD_PARAM. -/
def State.cmdIssue (s : State) (f : Nat) : State :=
  if (s.blkWord f 0).testBit 62 then s
  else
    let s := s.setBlk f 0 (s.blkWord f 0 % 2 ^ 62 ||| 3 <<< 62)
    if 1 ≤ s.cmdOp f ∧ s.cmdOp f ≤ 9 then s else s.cmdDone f (stMalformed, 0x0F)

def qdPark : Nat := 0x0A
def qdBusy : Nat := 0x0B
def qdNoQueue : Nat := 0x0C
def qdNotOwner : Nat := 0x0D
def qdType : Nat := 0x0E
def qdBadParam : Nat := 0x0F
def qdRestart : Nat := 0x10
def qdSquashed : Nat := 0x11
def qdUnstarted : Nat := 0x12
def qdFenced : Nat := 0x13

/-- R243, R210: the queue a block names: by pair index in a function's block, by number at QUEUE_CMD within some grant. Answers
the owning function and the number. -/
def State.named (s : State) (f q : Nat) : Option (Nat × Nat) :=
  if f = 0 then (s.grantee q).map (fun o => (o, q)) else (s.queueNo f q).map (fun n => (f, n))

/-- R426: Half B is partitioned, fenced or not yet rejoined. -/
def State.splitB (s : State) : Bool := decide (2 ≤ s.rd F.SEAM_STATUS.STATE)

/-- R326, R426: why a command other than QUERY, WQ_DELETE and CQ_DELETE does not run on a queue of a function and home. -/
def State.cmdGate (s : State) (owner home : Nat) : Option (Nat × Nat) :=
  if home = 1 ∧ s.splitB then some (0x0E, qdFenced)
  else if s.fstate owner = fsHeld then some (stRange, qdBusy)
  else none

/-! ### Creating (R210 to R213, R232, R244, Table 6.12) -/

/-- A create's parameters are those of a PF0-only field that another function's block writes (R244). -/
def pf0Fields (d : Bytes) : Bool :=
  decide (leAt d 0x14 1 % 8 ≠ 0) || leAt d 0x18 2 != 0 || leAt d 0x1A 1 != 0 || leAt d 0x1B 1 != 0 || leAt d 0x1C 1 != 0 ||
  leAt d 0x20 8 != 0 || leAt d 0x28 8 != 0

/-- Zero fields of the parameter block. -/
def paramZeros (d : Bytes) : Bool :=
  decide (leAt d 0x14 1 < 8) && isZero (sliceB d 0x15 3) && isZero (sliceB d 0x1D 3) && isZero (sliceB d 0x30 16)

/-- R210, R211: TENANT and home of a queue created for a function. -/
def State.createTenant (s : State) (o : Nat) (d : Bytes) : Nat := if o = 0 then leAt d 0x18 2 else s.funcTenant o
def State.createHome (s : State) (o : Nat) (d : Bytes) : Nat := if o = 0 then (leAt d 0x14 1 / 4) % 2 else s.funcHome o

/-- What both creates check first: the fault, or none. `priv` says that the create comes from PF0 or the Cobbler; `eb` is the
size of an entry. -/
def State.createFault (s : State) (o : Nat) (priv isFree : Bool) (eb : Nat) (d : Bytes) : Option (Nat × Nat) :=
  let log2 := leAt d 1 1
  if priv = false ∧ pf0Fields d then some (stAccessDenied, qdNotOwner)
  else if isFree = false then some (stRange, qdNoQueue)
  else if paramZeros d = false then some (stMalformed, qdBadParam)
  else if log2 < 4 ∨ 16 < log2 ∨ 4096 ≤ leAt d 0x18 2 then some (stRange, qdBadParam)
  else if o ≠ 0 ∧ leAt d 0x18 2 ≠ 0 ∧ leAt d 0x18 2 ≠ s.funcTenant o then some (stRange, qdBadParam)
  else if leAt d 8 8 % min 4096 (eb * 2 ^ log2) ≠ 0 then some (stRange, qdBadParam)
  else s.cmdGate o (s.createHome o d)

/-- CQ_CREATE of queue `n` for function `o`. -/
def State.createCq (s : State) (o n : Nat) (priv : Bool) (d : Bytes) : (Nat × Nat) × State :=
  let compat := s.funcCompat o
  match s.createFault o priv (s.cq? n).isNone (if compat then 16 else 32) d with
  | some r => (r, s)
  | none =>
    if 2047 < leAt d 6 2 then ((stRange, qdBadParam), s)
    else
      let fl := leAt d 0x14 1
      let c : Cq := {
        state := qsReady, ringLoc := fl.testBit 0, compat := compat, armed := false, notify := fl.testBit 1,
        home := s.createHome o d, log2 := leAt d 1 1, errCause := 0, func := o, tenant := s.createTenant o d, ringBase := leAt d 8 8,
        pi := 0, ci := 0, reserved := 0, vector := leAt d 6 2, modCount := leAt d 0x10 2, modTime := leAt d 0x12 2, bound := 0,
        fullSince := 0, new := 0, notifyEp := leAt d 0x28 8, firstNew := none, fullFrom := none, stalled := false, openFrom := 0 }
      ((stOk, 0), s.setCq n c)

/-- R212: the PF whose family may create a type; PF0 may create every type. -/
def typePf (t : Nat) : Nat := if t = 1 ∨ t = 2 then 1 else if t = 3 then 2 else if t = 4 then 3 else 0

/-- WQ_CREATE of queue `n` for function `o`, with the CQ number it binds. -/
def State.createWq (s : State) (o n : Nat) (priv percmd : Bool) (cqn : Option Nat) (d : Bytes) : (Nat × Nat) × State :=
  let compat := s.funcCompat o
  let ty := leAt d 0 1
  let infl := leAt d 4 2
  let log2 := leAt d 1 1
  match s.createFault o priv (s.wq? n).isNone 64 d with
  | some r => (r, s)
  | none =>
    if ty = 0 ∨ 5 < ty then ((stMalformed, qdBadParam), s)
    else if infl = 0 ∨ min (2 ^ log2) 4096 < infl then ((stRange, qdBadParam), s)
    else if priv ∧ (leAt d 0x1A 1 = 0 ∨ leAt d 0x1B 1 = 0 ∨ 64 < leAt d 0x1B 1) then ((stRange, qdBadParam), s)
    else if o ≠ 0 ∧ (s.pfOf o).getD 0 ≠ typePf ty then ((stAccessDenied, qdType), s)
    else match cqn.bind (fun c => (s.cq? c).map (fun q => (c, q))) with
      | none => ((stAccessDenied, qdNotOwner), s)
      | some (c, q) =>
        if q.state ≠ qsReady ∨ q.func ≠ o ∨ q.compat ≠ compat then ((stAccessDenied, qdNotOwner), s)
        else if 262144 < s.rd F.QUEUE_PARK.RESERVED + infl then ((stNoBuffer, qdPark), s)
        else
          let w : Wq := {
            state := qsReady, type := ty, log2 := log2, ringLoc := (leAt d 0x14 1).testBit 0, compat := compat,
            home := s.createHome o d, func := o, tenant := s.createTenant o d, ringBase := leAt d 8 8, pi := 0, fi := 0, ci := 0,
            cq := c, inflight := infl, weight := if priv then leAt d 0x1A 1 else 1, burst := if priv then leAt d 0x1B 1 else 8,
            errCause := 0, credit := 0, qgroup := leAt d 0x1C 1, errIndex := 0, supp := 0, mules := leAt d 0x20 8 % 2 ^ 48,
            target := leAt d 0x28 8, jobs := [], fetch := [], errCount := 0, fault := none, abort := none, percmd := percmd, freeze := false,
            named := false, errRec := List.replicate 64 0#8 }
          let s := (s.setWq n w).setCq c { q with reserved := q.reserved + infl, bound := q.bound + 1 }
          ((stOk, 0), (s.wr F.QUEUE_PARK.RESERVED (s.rd F.QUEUE_PARK.RESERVED + infl)).showPercmd)


/-! ### Contexts (R245) and commands on a queue -/

def bitAt (b : Bool) (k : Nat) : Nat := if b then 1 <<< k else 0

/-- WQ_CTX (Table 6.9). -/
def Wq.ctx (w : Wq) (cqNo : Nat) : Bytes :=
  toLE 1 w.state ++ toLE 1 w.type ++ toLE 1 w.log2 ++
  toLE 1 (bitAt w.ringLoc 0 ||| bitAt w.compat 1 ||| w.home <<< 2 ||| bitAt w.drained 3) ++ toLE 2 w.func ++ toLE 2 w.tenant ++
  toLE 8 w.ringBase ++ toLE 4 w.pi ++ toLE 4 w.fi ++ toLE 4 w.ci ++ toLE 2 cqNo ++ toLE 2 w.inflight ++ toLE 2 w.out ++
  toLE 1 w.weight ++ toLE 1 w.burst ++ toLE 1 w.errCause ++ toLE 1 w.credit ++ toLE 1 w.qgroup ++ toLE 1 0 ++ toLE 4 w.errIndex ++
  toLE 4 w.supp ++ toLE 8 w.mules ++ toLE 8 w.target

/-- CQ_CTX (Table 6.9). -/
def Cq.ctx (c : Cq) (parked : Nat) : Bytes :=
  toLE 1 c.state ++ toLE 1 (bitAt c.ringLoc 0 ||| bitAt c.compat 1 ||| bitAt c.armed 2 ||| bitAt c.notify 3 ||| c.home <<< 4) ++
  toLE 1 c.log2 ++ toLE 1 c.errCause ++ toLE 2 c.func ++ toLE 2 c.tenant ++ toLE 8 c.ringBase ++ toLE 4 c.pi ++ toLE 4 c.ci ++
  toLE 4 c.reserved ++ toLE 2 parked ++ toLE 2 (parked / 65536 % 8) ++ toLE 2 c.vector ++ toLE 2 c.modCount ++ toLE 2 c.modTime ++
  toLE 2 c.bound ++ toLE 4 c.fullSince ++ toLE 4 c.new ++ toLE 8 0 ++ toLE 8 c.notifyEp

/-- R245: the copies of a queue number's contexts in device memory, all zeros for a FREE queue, are written where the memory takes them:
at the end of each command that names the queue, for they are cached on-die meanwhile (DESIGN CHOICE, log entry 35). -/
def State.putCtx (s : State) (n : Nat) : State :=
  let base := s.rd F.QUEUE_CTX_BASE.BASE * 4096
  let put (s : State) (a : Nat) (bs : Bytes) : State := if s.memCheck a 64 = (0, 0) then s.devWrite a bs else s
  put (put s (base + 64 * n) (match s.wq? n with | some w => w.ctx w.cq | none => List.replicate 64 0#8)) (base + 0x400000 + 64 * n)
    (match s.cq? n with | some c => c.ctx (s.parkedOf n) | none => List.replicate 64 0#8)

/-- A command of a block on the queue it names. -/
def State.runCmd (s : State) (f op : Nat) (go : Nat → Nat → (Nat × Nat) × State) : State :=
  if s.cmdRuns f op then
    match s.named f (s.cmdQueue f) with
    | none => s.cmdDone f (stRange, qdNoQueue)
    | some (o, n) => let (r, s) := go o n; (s.putCtx n).cmdDone f r
  else s

def execCqCreate (f : Nat) (s : State) : Host.Outcome State Fault Refusal :=
  .next (s.runCmd f 1 (fun o n => s.createCq o n (f == 0) (s.blkData f)))

def execWqCreate (f : Nat) (s : State) : Host.Outcome State Fault Refusal :=
  .next (s.runCmd f 2 (fun o n =>
    let q := leAt (s.blkData f) 2 2
    s.createWq o n (f == 0) false (if f = 0 then some q else s.queueNo f q) (s.blkData f)))

/-! ### Deleting -/

/-- CQ_DELETE: refused while a WQ is bound. -/
def State.deleteCq (s : State) (n : Nat) : (Nat × Nat) × State :=
  match s.cq? n with
  | none => ((stRange, qdNoQueue), s)
  | some c =>
    if c.bound ≠ 0 then ((stRange, qdBusy), s)
    else
      let s := s.setQ { s.q with cqs := AMap.del s.q.cqs n, wqs := s.q.wqs.filter (fun e => decide (e.1 < 65536) || e.2.cq != n) }
      ((stOk, 0), s.showParked)

/-- Table 6.11: a WQ that may be deleted. -/
def Wq.deletable (w : Wq) : Bool :=
  w.state == qsStopped || (w.state == qsError && w.drained) || (w.state == qsReady && w.drained && w.fi == w.pi && w.fetch.isEmpty)

/-- The WQ leaves its CQ and gives its parking reservation back (R232). -/
def State.unbindWq (s : State) (w : Wq) : State :=
  (s.modCq w.cq (fun c => { c with reserved := c.reserved - w.inflight, bound := c.bound - 1 })).wr F.QUEUE_PARK.RESERVED
    (s.rd F.QUEUE_PARK.RESERVED - w.inflight)

/-- WQ_DELETE: CQEs still parked stay with the CQ. -/
def State.deleteWq (s : State) (n : Nat) : (Nat × Nat) × State :=
  match s.wq? n with
  | none => ((stRange, qdNoQueue), s)
  | some w =>
    if w.deletable = false then ((stRange, qdBusy), s)
    else
      let s := s.unbindWq w
      let s := s.setQ { s.q with wqs := AMap.del s.q.wqs n, nextSeq := s.q.nextSeq + 1 }
      ((stOk, 0), (s.putWq (65536 * (s.q.nextSeq + 1) + n) { w with state := qsFree }).showPercmd)

def execCqDelete (f : Nat) (s : State) : Host.Outcome State Fault Refusal := .next (s.runCmd f 3 (fun _ n => s.deleteCq n))

def execWqDelete (f : Nat) (s : State) : Host.Outcome State Fault Refusal := .next (s.runCmd f 4 (fun _ n => s.deleteWq n))

/-! ### Restarting (R237, R238) -/

/-- QUEUE_RESTART of a CQ: its parked CQEs are then written in order. -/
def State.restartCq (s : State) (o n : Nat) : (Nat × Nat) × State :=
  match s.cq? n with
  | none => ((stRange, qdNoQueue), s)
  | some c =>
    match s.cmdGate o c.home with
    | some r => (r, s)
    | none =>
      if c.state = qsReady then ((stRange, qdBusy), s)
      else ((stOk, 0), (s.setCq n { c with state := qsReady }).flushCq n)

/-- QUEUE_RESTART of a WQ at index `r`. A parked CQE of an overrun, of no job, releases no slot any more. -/
def State.restartWq (s : State) (o n r : Nat) : (Nat × Nat) × State :=
  match s.wq? n with
  | none => ((stRange, qdNoQueue), s)
  | some w =>
    match s.cmdGate o w.home with
    | some x => (x, s)
    | none =>
      let r := r % idxMod w.compat
      if w.state = qsReady ∨ w.drained = false then ((stRange, qdBusy), s)
      else if w.dist w.pi w.ci < w.dist r w.ci then ((stRange, qdRestart), s)
      else ((stOk, 0), s.setWq n { w with state := qsReady, ci := r, fi := r, freeze := false, named := false,
                                           jobs := w.jobs.map (fun j => { j with frees := false }) })

def execQueueRestart (f : Nat) (s : State) : Host.Outcome State Fault Refusal :=
  .next (s.runCmd f 5 (fun o n => if s.cmdCq f then s.restartCq o n else s.restartWq o n (s.cmdIndex f)))

/-! ### Aborting (R239) -/

/-! ### Ends of storage commands (R275, R289, R293) -/

def State.setWelt (s : State) (w : Welt) : State := { s with welt := w }

/-! ### Details (Table 8.9) -/

def wdVolRange : Nat := 0x01
def wdNotAttached : Nat := 0x02
def wdOffline : Nat := 0x03
def wdReadonly : Nat := 0x04
def wdLbaRange : Nat := 0x05
def wdXferLen : Nat := 0x06
def wdMiscompare : Nat := 0x07
def wdMedia : Nat := 0x08
def wdTimeout : Nat := 0x09
def wdLost : Nat := 0x0A
def wdStatus : Nat := 0x0B
def wdCaught : Nat := 0x0C
def wdCipher : Nat := 0x0D
def wdNotPf0 : Nat := 0x0E
def wdPercmd : Nat := 0x0F
def wdBadParam : Nat := 0x10
def wdFwAuth : Nat := 0x11
def wdFwActivate : Nat := 0x12
def wdFenced : Nat := 0x13
def wdBusy : Nat := 0x14
def wdConfig : Nat := 0x15
def stMedia : Nat := 0x09

/-- The command of a job, while it is open. -/
def State.cmdOf (s : State) (n first : Nat) : Option WeltCmd :=
  s.welt.cmds.find? (fun c => c.wq == n && c.first == first && c.stage != .ended)

/-- A count of the HEALTH page rises. -/
def State.health (s : State) (f k n : Nat) : State :=
  let l := AMap.getD s.welt.health f (List.replicate 8 0)
  s.setWelt { s.welt with health := AMap.set s.welt.health f (l.set k (l.getD k 0 + n)) }

/-- What a failing command leaves in the error record (Table 8.7). -/
structure WeltErr where
  cipher : Nat
  backing : Nat
  lba : Nat

def noErr : WeltErr := ⟨0, 0, 2 ^ 64 - 1⟩

/-- The error record of a failed command (Table 8.7). -/
def errRecord (j : Job) (status detail count seq stitch : Nat) (x : WeltErr) : Bytes :=
  let e := j.entries.headD []
  toLE 4 j.first ++ toLE 4 j.last ++ sliceB e 8 2 ++ toLE 1 j.opcode ++ toLE 1 status ++ toLE 1 detail ++
  toLE 1 (if detail = wdCipher then x.cipher else 0) ++ toLE 2 x.backing ++ sliceB e 0x10 8 ++ toLE 4 (leAt e 0x0C 2) ++
  sliceB e 0x0A 2 ++ toLE 2 0 ++ toLE 8 x.lba ++ toLE 4 0 ++ toLE 4 count ++ toLE 8 seq ++ toLE 4 stitch ++ toLE 4 0

/-- R289: the record of a command error; a frozen queue keeps the one it names. -/
def State.recordError (s : State) (n : Nat) (j : Job) (status detail seq : Nat) (admin : Bool) (x : WeltErr) : State :=
  match s.wq? n with
  | none => s
  | some w =>
    let count := min (2 ^ 32 - 1) (w.errCount + 1)
    let r := errRecord j status detail count seq (s.stitch % 2 ^ 32) x
    (s.setWq n { w with
      errCount := count,
      errRec := if w.named then putB w.errRec 0x2C (toLE 4 count) else r,
      jobs := if w.percmd ∨ admin then w.jobs
        else w.jobs.map (fun (y : Job) => if y.first = j.first ∧ y.own ≠ 0 then { y with errRec := r } else y) }).health w.func 1 1

/-- R275: bytes of a job's data that have come from the host. -/
def State.movedBytes (s : State) (j : Job) : Nat :=
  (j.legs.map (fun l => match s.legResult l with | some (0, bs) => bs.length | _ => 0)).sum

/-- R275: what is reported of a job that an abort, a teardown or a fence ends: of a storage command its FIRST index, its CID and the
bytes a WRITE has moved. -/
def State.cutResult (s : State) (n : Nat) (w : Wq) (j : Job) (status detail : Nat) : JobResult :=
  if w.type ≠ qtStorage then ⟨status, detail, 0, 0, 0⟩
  else
    let cid := if s.pairOf w.func n = 0 then 0 else leAt (j.entries.headD []) 8 2
    let hit := (s.cmdOf n j.first).any (fun c => c.hit)
    ⟨status, detail, j.first ||| cid <<< 32, if j.opcode = 2 then s.movedBytes j else 0, if hit then 2 else 0⟩

/-- R299: READS and WRITES of a completed storage command. -/
def State.opCount (s : State) (op : Nat) : State :=
  if op = 1 then s.count F.WELT_STAT.READS.CNT 1
  else if op = 2 ∨ op = 4 ∨ op = 5 then s.count F.WELT_STAT.WRITES.CNT 1 else s

/-- R289, R293, R299: the counts and the record of a storage command that ends so. -/
def State.cutCounts (s : State) (n : Nat) (w : Wq) (j : Job) (status detail : Nat) : State :=
  if w.type ≠ qtStorage ∨ j.stage = .faulting ∨ j.stage = .chain then s
  else
    let seq := ((s.cmdOf n j.first).map (fun c => c.seq)).getD 0
    ((s.opCount j.opcode).health w.func 0 1).recordError n j status detail seq (s.pairOf w.func n == 0) noErr

/-- A job that has not started (R239): the faulting job of a pending fault never does. -/
def Job.notStarted (j : Job) : Bool := j.stage == .chain || j.stage == .unstarted || j.stage == .buffer || j.stage == .faulting

def Job.live (j : Job) : Bool := j.stage != .done && j.stage != .ended

/-- Every job of a WQ that meets a condition completes with a status and detail. -/
def State.finishAll (s : State) (n : Nat) (p : Job → Bool) (status detail : Nat) : State :=
  match s.wq? n with
  | none => s
  | some w => (w.jobs.filter (fun j => p j && j.live)).foldl (fun s j =>
      (s.cutCounts n w j status detail).finishJob n j.first (s.cutResult n w j status detail)) s

/-- R239, steps 1 and 2: fetching stops, and jobs that have not started complete ABORTED, UNSTARTED. Of two aborts that meet
the earlier one's time stands (R325). -/
def State.abortWq (s : State) (n : Nat) : State :=
  let s := (s.dropFetch n).modWq n (fun w => { w with abort := some (w.abort.getD s.clk.time), fault := none })
  s.finishAll n (fun j => j.notStarted) stAborted qdUnstarted

/-- R239, step 3: jobs still running are squashed. -/
def State.squashWq (s : State) (n : Nat) : State := s.finishAll n (fun _ => true) stAborted qdSquashed

/-- R239, step 4: the WQ enters STOPPED with CI = FI. -/
def State.stopWq (s : State) (n : Nat) : State :=
  s.modWq n (fun w => { w with state := qsStopped, ci := w.fi, abort := none, fault := none,
                               jobs := w.jobs.map (fun j => { j with frees := false }) })

/-- The WQs of a CQ. -/
def State.boundTo (s : State) (c : Nat) : List Nat := (s.q.wqs.filter (fun e => decide (e.1 < 65536) && e.2.cq == c)).map (fun e => e.1)

/-- R239: a CQ abort discards the CQ's parked entries, counted, and leaves the CQ STOPPED. -/
def State.discardParked (s : State) (c : Nat) : State :=
  let k := (s.q.wqs.filter (fun e => e.2.cq == c)).foldl (fun n (e : Nat × Wq) =>
    n + (e.2.jobs.filter (fun j => j.stage == .done && !j.silent)).length) 0
  let ws := s.q.wqs.filterMap (fun (e : Nat × Wq) =>
    if e.2.cq = c then
      (if 65536 ≤ e.1 then none
       else some (e.1, { e.2 with jobs := e.2.jobs.filter (fun j => j.stage != .done), supp := 0 }))
    else some e)
  ((s.setQ { s.q with wqs := ws }).count F.QUEUE_STAT.ABORT_DISCARD.CNT k).showParked

def State.stopCq (s : State) (c : Nat) : State :=
  (s.discardParked c).modCq c (fun q => { q with state := qsStopped })

/-- R239: the aborts that the end of a WQ's abort completes: those of the WQ, and those of its CQ once no bound WQ is under
abort. -/
def State.abortsDone (s : State) : State :=
  s.q.aborts.foldl (fun s a =>
    let (f, cq, n, _) := a
    let busy : Bool := if cq then (s.boundTo n).any (fun w => match s.wq? w with | some x => x.abort.isSome | none => false)
      else match s.wq? n with | some x => x.abort.isSome | none => false
    if busy then s
    else
      let s := if cq then s.stopCq n else s
      (s.setQ { s.q with aborts := s.q.aborts.filter (fun x => x != a) }).cmdDone f (stOk, 0)) s

/-- R239: the abort of a WQ ends once no job of it runs. -/
def State.abortEnd (s : State) (n : Nat) : State :=
  match s.wq? n with
  | none => s
  | some w =>
    if w.abort.isSome ∧ w.jobs.all (fun j => !j.live) then
      ((s.stopWq n).event queueEvq (queueEvent 4 0 false n)).abortsDone
    else s

/-! ### MODERATE, SCHED and QUERY -/

/-- MODERATE: the conditions of R240 are judged with the new values. -/
def State.moderateCq (s : State) (o n vector count time : Nat) : (Nat × Nat) × State :=
  match s.cq? n with
  | none => ((stRange, qdNoQueue), s)
  | some c =>
    match s.cmdGate o c.home with
    | some r => (r, s)
    | none =>
      if 2047 < vector then ((stRange, qdBadParam), s)
      else
        let c := { c with vector := vector, modCount := count, modTime := time }
        let s := s.setCq n c
        ((stOk, 0), if c.armed ∧ c.new ≠ 0 ∧ max 1 count ≤ c.new then s.cqSignal n else s)

def execModerate (f : Nat) (s : State) : Host.Outcome State Fault Refusal :=
  let d := s.blkData f
  .next (s.runCmd f 7 (fun o n => s.moderateCq o n (leAt d 6 2) (leAt d 0x10 2) (leAt d 0x12 2)))

/-- SCHED, which only PF0 and the Cobbler may issue. -/
def State.schedWq (s : State) (o n : Nat) (d : Bytes) : (Nat × Nat) × State :=
  match s.wq? n with
  | none => ((stRange, qdNoQueue), s)
  | some w =>
    match s.cmdGate o w.home with
    | some r => (r, s)
    | none =>
      if leAt d 0x1A 1 = 0 ∨ leAt d 0x1B 1 = 0 ∨ 64 < leAt d 0x1B 1 then ((stRange, qdBadParam), s)
      else ((stOk, 0), s.setWq n { w with weight := leAt d 0x1A 1, burst := leAt d 0x1B 1, qgroup := leAt d 0x1C 1,
                                          mules := leAt d 0x20 8 % 2 ^ 48, target := leAt d 0x28 8 })

def execSched (f : Nat) (s : State) : Host.Outcome State Fault Refusal :=
  if f ≠ 0 ∧ s.cmdRuns f 9 then .next (s.cmdDone f (stAccessDenied, qdNotOwner))
  else .next (s.runCmd f 9 (fun o n => s.schedWq o n (s.blkData f)))

/-- QUERY: the context of a queue, all zeros for a FREE one. -/
def execQuery (f : Nat) (s : State) : Host.Outcome State Fault Refusal :=
  if s.cmdRuns f 8 = false then .next s
  else if 2 ≤ s.cmdIndex f then .next (s.cmdDone f (stMalformed, qdBadParam))
  else match s.named f (s.cmdQueue f) with
    | none => .next (s.cmdDone f (stRange, qdNoQueue))
    | some (o, n) =>
      let bs : Bytes :=
        if s.cmdIndex f = 0 then
          match s.wq? n with
          | some w => w.ctx (if f = 0 then w.cq else s.pairOf o w.cq)
          | none => List.replicate 64 0#8
        else match s.cq? n with
          | some c => c.ctx (s.parkedOf n)
          | none => List.replicate 64 0#8
      .next (((s.putCtx n).setBlkData f bs).cmdDone f (stOk, 0))

/-! ### Queues of a fenced half (R426) -/

/-- R426: a job of a fenced queue whose work has ended and whose CQE has not been written: it completes FENCED, the faulting job of an
error CQE too; what it reports beside the status stands. -/
def fenceJob (j : Job) : Job :=
  if (j.stage = .done ∨ j.stage = .ended) ∧ j.own ≠ 0 then { j with status := 0x0E, detail := qdFenced, error := false } else j

/-- R426: every job of Half B's queues completes FENCED, and the WQs enter STOPPED. -/
def State.fenceQueues (s : State) : State :=
  let ns := (s.q.wqs.filter (fun e => decide (e.1 < 65536) && e.2.home == 1)).map (fun e => e.1)
  let s := ns.foldl (fun s n =>
    let s := (s.dropFetch n).modWq n (fun w => { w with fault := none, jobs := w.jobs.map fenceJob })
    match s.wq? n with
    | none => s
    | some w =>
      let s := s.finishAll n (fun _ => true) 0x0E qdFenced
      let s := (w.jobs.filter (fun j => j.stage == .ended)).foldl (fun s j =>
        s.reportJob n j.first ⟨j.status, j.detail, j.result, j.length, j.aux⟩) s
      s.stopWq n) s
  s.abortsDone

/-! ### Queues going FREE at a teardown (R309) -/

/-- A WQ becomes FREE: its jobs and its reservation are gone. -/
def State.freeWq (s : State) (n : Nat) : State :=
  match s.wq? n with
  | none => s
  | some w =>
    let s := (s.squashWq n).unbindWq w
    (s.setQ { s.q with wqs := AMap.del s.q.wqs n }).showPercmd

/-- R309, step 5: every CQ of the function is aborted and every queue becomes FREE. Commands that ran on them report done. -/
def State.freeQueues (s : State) (p : Nat → Wq → Bool) (pc : Nat → Cq → Bool) : State :=
  let ws := (s.q.wqs.filter (fun e => p e.1 e.2)).map (fun e => e.1)
  let cs := (s.q.cqs.filter (fun e => pc e.1 e.2)).map (fun e => e.1)
  let s := cs.foldl (fun s c => s.stopCq c) (ws.foldl (fun s n => (s.dropFetch n).squashWq n) s)
  let s := ws.foldl (fun s n => s.freeWq n) s
  let s := cs.foldl (fun s c => s.setQ { s.q with cqs := AMap.del s.q.cqs c }) s
  s.abortsDone

end Sys2Proof.Machine
end

