-- ==== Sys2Proof/Machine/Eyelet.lean ====
section
/-! DEFINITION. Eyelet ports (chapter 10): links, requests and completions, peer windows and their commit, PEER jobs, and
inbound apertures. -/

namespace Sys2Proof.Machine

open Sys2Proof

def State.setEye (s : State) (e : Eyelet) : State := { s with eye := e }

/-! ### Links (R329) -/

/-- R329: the bifurcation of its port creates a link. -/
def State.linkExists (s : State) (l : Nat) : Bool :=
  let b := s.rd (F.EYELET_PORT_CFG.BIFUR (l / 4))
  decide (l < 16) && (if b = 1 then l % 2 == 0 else if b = 2 then true else l % 4 == 0)

/-- Slot states (Table 10.3). -/
def slEmpty : Nat := 0
def slPresent : Nat := 1
def slPowering : Nat := 2
def slTraining : Nat := 3
def slActive : Nat := 4
def slContained : Nat := 5

def State.slot (s : State) (l : Nat) : Nat := s.rd (F.EYELET_SLOT_STATUS.STATE l)
def State.setSlot (s : State) (l v : Nat) : State := s.wr (F.EYELET_SLOT_STATUS.STATE l) v

/-- An event of the Eyelet ports. -/
def eyeEvent (kind cause link : Nat) : Nat := kind <<< 59 ||| cause <<< 8 ||| link

/-- OUTST follows the requests outstanding on a link. -/
def State.showOutst (s : State) (l : Nat) : State :=
  s.wr (F.EYELET_LINK_STATUS.OUTST l) (s.eye.reqs.filter (fun r => r.link == l)).length

/-! ### Requests (R331) -/

def edWinInvalid : Nat := 1
def edTenant : Nat := 2
def edPerm : Nat := 3
def edRange : Nat := 4
def edPeerLost : Nat := 5
def edWinDrain : Nat := 6
def edTimeout : Nat := 7
def edCplError : Nat := 8
def edFenced : Nat := 9
def stFencedSt : Nat := 0x0E

/-- R331: a free tag of a port's 8,192. -/
def State.eyeTag (s : State) (p : Nat) : Option Nat :=
  let busy := (s.eye.reqs.filter (fun r => r.port == p)).map (fun r => r.tag) ++
    (s.eye.quar.filter (fun q => q.port == p)).map (fun q => q.tag)
  (List.range 8192).find? (fun t => !busy.contains t)

/-- R331: the completion timeout of a port. -/
def State.eyeTimeoutOf (s : State) (p : Nat) : Nat := ctoTime (s.rd (F.EYELET_PORT_CFG.CPL_TO p))

/-- R318: a tag of a port is quarantined for 2T from now. -/
def State.eyeQuarantine (s : State) (p tag : Nat) : State :=
  s.setEye { s.eye with quar := s.eye.quar ++ [⟨p, tag, s.clk.time + 2 * s.eyeTimeoutOf p⟩] }

/-- A request on an Eyelet link ends. -/
def State.endEye (s : State) (r : EyeReq) (status detail : Nat) (data : Bytes) : State :=
  (s.setEye { s.eye with reqs := s.eye.reqs.filter (fun x => x.id != r.id),
                         done := s.eye.done ++ [⟨r.id, status, detail, data⟩] }).showOutst r.link

def State.eyeTimeout (s : State) (p tag : Nat) : State :=
  match s.eye.reqs.find? (fun r => r.port == p && r.tag == tag) with
  | none => s
  | some r =>
    if r.since + s.eyeTimeoutOf p ≤ s.clk.time then
      ((s.count F.EYELET_STAT.CPL_TIMEOUT.CNT 1).endEye r stTimeout edTimeout []).eyeQuarantine p tag
    else s

def State.eyeQuarEnd (s : State) (p tag : Nat) : State :=
  s.setEye { s.eye with quar := s.eye.quar.filter (fun q => !(q.port == p && q.tag == tag && decide (q.freeAt ≤ s.clk.time))) }

def State.eyeCompletion (s : State) (p tag : Nat) (st : CplStatus) (data : Bytes) : State :=
  match s.eye.reqs.find? (fun r => r.port == p && r.tag == tag) with
  | some r =>
    if st ≠ .ok then s.endEye r stDeviceError edCplError []
    else
      let d := r.data ++ data
      if r.len ≤ d.length then s.endEye r stOk 0 (d.take r.len)
      else s.setEye { s.eye with reqs := s.eye.reqs.map (fun x => if x.id = r.id then { r with data := d } else x) }
  | none =>
    if s.eye.quar.any (fun q => q.port == p && q.tag == tag) then s.count F.EYELET_STAT.LATE_CPL.CNT 1
    else s

/-- R318, R331: the completion of a request on tag `tag` of the host link, or of an Eyelet port, has not wholly arrived within
its timeout. -/
def execCompletionTimeout (port : Option Nat) (tag : Nat) (s : State) : Host.Outcome State Fault Refusal :=
  match port with
  | none => .next (s.hostTimeout tag)
  | some p => .next (s.eyeTimeout p tag)

/-- R318: a quarantined tag becomes free. -/
def execTagQuarantineEnd (port : Option Nat) (tag : Nat) (s : State) : Host.Outcome State Fault Refusal :=
  match port with
  | none => .next (s.hostQuarEnd tag)
  | some p => .next (s.eyeQuarEnd p tag)

/-- R318, R331: a completion arrives. -/
def execCompletionArrival (port : Option Nat) (tag : Nat) (st : CplStatus) (data : List Byte) (s : State) :
    Host.Outcome State Fault Refusal :=
  match port with
  | none => .next (s.hostCompletion tag st data)
  | some p => .next (s.eyeCompletion p tag st data)

/-! ### Peer windows (R342 to R347) -/

/-- A window's two words, read as its fields. -/
structure Win where
  valid : Bool
  rd : Bool
  wr : Bool
  link : Nat
  func : Nat
  bar : Nat
  log2 : Nat
  tenant : Nat
  devOff : Nat
  barOff : Nat
  deriving DecidableEq, Repr

def winOf (p : Nat) (w0 w8 : W64) : Win :=
  let v := w0.toNat
  { valid := v.testBit 63, rd := v.testBit 62, wr := v.testBit 61, link := 4 * p + bitsOf v 59 58, func := bitsOf v 57 55, bar := bitsOf v 54 52,
    log2 := bitsOf v 51 46, tenant := bitsOf v 45 34, devOff := 4096 * bitsOf v 23 0, barOff := w8.toNat / 4096 * 4096 }

def winAddr (p w : Nat) : Nat := 0x1710000 + 0x10 * (256 * p + w)
def actAddr (p w : Nat) : Nat := 0x1720000 + 0x10 * (256 * p + w)

def State.winShadow (s : State) (p w : Nat) : W64 × W64 :=
  (BitVec.ofNat 64 (s.word (winAddr p w)), BitVec.ofNat 64 (s.word (winAddr p w + 8)))
def State.winActive (s : State) (p w : Nat) : W64 × W64 :=
  (BitVec.ofNat 64 (s.word (actAddr p w)), BitVec.ofNat 64 (s.word (actAddr p w + 8)))

def State.shadowWin (s : State) (p w : Nat) : Win := let x := s.winShadow p w; winOf p x.1 x.2
def State.activeWin (s : State) (p w : Nat) : Win := let x := s.winActive p w; winOf p x.1 x.2

def Win.size (x : Win) : Nat := 2 ^ x.log2

/-- R344: the windows of a port whose shadow differs from the active copy. -/
def State.changedWins (s : State) (p : Nat) : List Nat := (List.range 256).filter (fun w => s.winShadow p w != s.winActive p w)

def State.winPending (s : State) (p : Nat) : Bool := s.flag (F.EYELET_WIN_COMMIT.PENDING p)

/-- The windows that a port's pending commit changes. -/
def State.changingWins (s : State) (p : Nat) : List Nat := (s.eye.changing.filter (fun k => k / 256 == p)).map (fun k => k % 256)

/-- R345: a transaction that would start on the window now waits for a swap. -/
def State.winHeld (s : State) (p w : Nat) : Bool := s.winPending p && (s.changingWins p).contains w

/-- R345: a transaction that waits is counted, once. -/
def State.countHeld (s : State) (o : TxOwner) : State :=
  if s.eye.held.contains o then s
  else (s.setEye { s.eye with held := s.eye.held ++ [o] }).count F.EYELET_STAT.WIN_HELD.CNT 1

/-- R342: the window region of a device address: its port and the offset in its region. -/
def winRegion (a : Nat) : Option (Nat × Nat) :=
  if a < 2 ^ 39 then none
  else
    let p := (a - 2 ^ 39) / 0x1000000000
    let o := (a - 2 ^ 39) % 0x1000000000
    if p < 4 then some (p, o) else none

/-- R342, R343: the active window that holds `n` bytes from an offset of a port's region. -/
def State.winAt (s : State) (p o n : Nat) : Option Nat :=
  (List.range 256).find? (fun w =>
    let x := s.activeWin p w
    x.valid && decide (x.devOff ≤ o) && decide (o + n ≤ x.devOff + x.size))

/-- Size of a BAR of a function of a link, 0 where absent. -/
def State.barSize (s : State) (l f bar : Nat) : Nat :=
  let k := 8 * l + f
  let b := if bar = 0 then s.rd (F.EYELET_BARSZ.BAR0 k) else if bar = 2 then s.rd (F.EYELET_BARSZ.BAR2 k)
    else if bar = 4 then s.rd (F.EYELET_BARSZ.BAR4 k) else 0
  if s.flag (F.EYELET_BARSZ.PRESENT k) ∧ b ≠ 0 then 2 ^ b else 0

/-- R344: the first fault of a changed window, or 0. -/
def State.winFault (s : State) (p w : Nat) : Nat :=
  let x := s.shadowWin p w
  if x.valid = false then 0
  else if s.linkExists x.link = false ∨ s.slot x.link ≠ slActive then 1
  else if s.barSize x.link x.func x.bar = 0 then 2
  else if s.barSize x.link x.func x.bar < x.barOff + x.size then 3
  else if x.devOff % x.size ≠ 0 ∨ x.barOff % x.size ≠ 0 then 4
  else if x.log2 < 12 ∨ 36 < x.log2 then 5
  else if (List.range 256).any (fun v =>
      let y := s.shadowWin p v
      v != w && y.valid && decide (x.devOff < y.devOff + y.size) && decide (y.devOff < x.devOff + x.size)) then 6
  else 0

/-- R344: a write of GO. -/
def State.winCommit (s : State) (p : Nat) : State :=
  if s.winPending p then s
  else match (s.changedWins p).find? (fun w => s.winFault p w != 0) with
    | some w =>
      (((s.wr (F.EYELET_WIN_COMMIT.FAIL p) 1).wr (F.EYELET_WIN_COMMIT.FAIL_CAUSE p) (s.winFault p w)).wr
        (F.EYELET_WIN_COMMIT.FAIL_WIN p) w).event eyeletEvq (eyeEvent 9 0 p)
    | none =>
      let s := s.setEye { s.eye with commitAt := AMap.set s.eye.commitAt p s.stitch,
                                     changing := s.eye.changing.filter (fun k => k / 256 != p) ++ (s.changedWins p).map (fun w => 256 * p + w) }
      (s.wr (F.EYELET_WIN_COMMIT.PENDING p) 1).wr (F.EYELET_WIN_COMMIT.GO p) 1

def execWinCommit (p : Nat) (s : State) : Host.Outcome State Fault Refusal := if p < 4 then .next (s.winCommit p) else .next s

/-- R345: no transaction is bound to the old mapping of a changed window. -/
def State.portDrained (s : State) (p : Nat) : Bool := !s.eye.txs.any (fun t => t.port == p && s.winHeld p t.win)

/-- R345, R347: the changed windows take their shadow values; one whose link is not ACTIVE is installed with VALID = 0. -/
def State.swapWin (s : State) (p w : Nat) : State :=
  let (w0, w8) := s.winShadow p w
  let x := winOf p w0 w8
  let v := if x.valid ∧ (s.slot x.link ≠ slActive ∨ s.eye.lost.contains (256 * p + w)) then setBits w0.toNat 63 63 0 else w0.toNat
  (s.setWord (actAddr p w) v).setWord (actAddr p w + 8) w8.toNat

/-! ### Transactions (R345) -/

def State.txOf (s : State) (o : TxOwner) : Option EyeTx := s.eye.txs.find? (fun t => t.owner == o)

/-- R345: a transaction is bound to the active mapping of its window. -/
def State.bindTx (s : State) (p w : Nat) (o : TxOwner) : State :=
  let (w0, w8) := s.winActive p w
  let t : EyeTx := { id := s.eye.nextTx, port := p, win := w, w0 := w0, w8 := w8, owner := o, pieces := 0, moved := 0 }
  s.setEye { s.eye with txs := s.eye.txs ++ [t], nextTx := s.eye.nextTx + 1, held := s.eye.held.filter (fun x => x != o) }

def State.modTx (s : State) (id : Nat) (f : EyeTx → EyeTx) : State :=
  s.setEye { s.eye with txs := s.eye.txs.map (fun t => if t.id = id then f t else t) }

/-- A transaction is over: requests of it still outstanding are abandoned, their tags quarantined. -/
def State.dropTx (s : State) (t : EyeTx) : State :=
  let rs := s.eye.reqs.filter (fun r => r.tx == t.id)
  let s := s.setEye { s.eye with txs := s.eye.txs.filter (fun x => x.id != t.id), reqs := s.eye.reqs.filter (fun r => r.tx != t.id) }
  (rs.foldl (fun s r => s.eyeQuarantine r.port r.tag) s).showOutst (winOf t.port t.w0 t.w8).link

def EyeTx.mapping (t : EyeTx) : Win := winOf t.port t.w0 t.w8

/-- R345: a read of a transaction at an offset of its window goes out under its mapping; none while no tag is free. -/
def State.eyeRead (s : State) (t : EyeTx) (off n : Nat) : Option (Leg × State) :=
  let x := t.mapping
  match s.eyeTag t.port with
  | none => none
  | some tag =>
    let id := s.eye.nextReq
    let r : EyeReq := { id := id, tx := t.id, port := t.port, link := x.link, tag := tag, len := n, since := s.clk.time, data := [] }
    let s := s.setEye { s.eye with nextReq := id + 1, reqs := s.eye.reqs ++ [r] }
    some (.eye id, (s.showOutst x.link).emit (.eyeRead x.link tag x.func x.bar (x.barOff + off) n))

/-- A posted write of a transaction. -/
def State.eyeWrite (s : State) (x : Win) (off : Nat) (bs : Bytes) : State := s.emit (.eyeWrite x.link x.func x.bar (x.barOff + off) bs)

/-! ### PEER jobs (R348 to R350) -/

/-- R349, steps 2 to 5: the detail of the first check of a PEER job that fails, with its status. -/
def peerFault (x : Win) (tenant op woff len : Nat) : Option (Nat × Nat) :=
  if x.valid = false then some (stAccessDenied, edWinInvalid)
  else if x.tenant ≠ tenant then some (stAccessDenied, edTenant)
  else if (if op = 1 then x.wr else x.rd) = false then some (stAccessDenied, edPerm)
  else if x.size < woff + len then some (stRange, edRange)
  else none

/-- The pieces a PEER job moves: address and length of each, in order. For SEND they are window offsets. -/
def State.peerPieces (s : State) (w : Wq) (j : Job) : List (Nat × Nat) :=
  let e := j.entries.headD []
  if j.opcode = 3 then chunkAll 4096 [(leAt e 0x10 8, leAt e 8 4)]
  else chunkAll (if w.ringLoc then 4096 else min 4096 (s.mrrs w.func)) ((jobSegs w.type j.entries).map (fun g => (g.addr, g.len)))

/-- The window offset of piece `k`. -/
def pieceOff (woff : Nat) (ps : List (Nat × Nat)) (k : Nat) : Nat := woff + (ps.take k).foldl (fun n p => n + p.2) 0

/-- A PEER job ends: its transaction is over. -/
def State.peerEnd (s : State) (n first : Nat) (t : EyeTx) (status detail : Nat) : State :=
  (s.dropTx t).endJob n first ⟨status, detail, 0, t.moved, 0⟩

/-- R256: the partition of the class that a SEND's first bobbin is requested from is at STOP. -/
def State.peerStop (s : State) (p len tenant : Nat) : Bool :=
  (s.chooseClass (p / 2) (s.rd F.BOBBIN_CFG.HEADROOM + len) true).any (fun c => s.atStop (p / 2) tenant c)

/-- R349: a PEER job that has not started is checked and bound to its window, or waits for a commit, or, for SEND, for its
partition to leave STOP (R256). -/
def State.peerStart (s : State) (n : Nat) (w : Wq) (j : Job) : State :=
  let e := j.entries.headD []
  let p := leAt e 0x0C 1 % 4
  let win := leAt e 0x0D 1
  let len := leAt e 8 4
  if s.winHeld p win then s.countHeld (.job n j.first)
  else match peerFault (s.activeWin p win) w.tenant j.opcode (leAt e 0x10 8) len with
    | some (st, d) => s.endJob n j.first ⟨st, d, 0, 0, 0⟩
    | none =>
      if j.opcode = 3 ∧ s.peerStop p len (s.activeWin p win).tenant then s
      else (s.bindTx p win (.job n j.first)).modJob n j.first (fun x => { x with stage := .started })

/-- The next read of a PEER job on its link, in a class 5 service unit of the port. -/
def State.peerReadNext (s : State) (n : Nat) (w : Wq) (j : Job) (t : EyeTx) (ps : List (Nat × Nat)) (woff : Nat) : State :=
  match ps[j.legs.length]? with
  | none => s
  | some (_, len) =>
    if s.groupAt 5 t.port = some (s.groupOf w.tenant) then
      match s.eyeRead t (pieceOff woff ps j.legs.length) len with
      | some (l, s) => ((s.useChoice 5 t.port).owe 5 t.port (s.groupOf w.tenant) (tlpsOf len - 1)).modJob n j.first (fun x => { x with legs := x.legs ++ [l] })
      | none => s
    else s

/-- A piece has been moved. -/
def State.peerMoved (s : State) (n first : Nat) (t : EyeTx) (len total : Nat) : State :=
  let t' := { t with pieces := t.pieces + 1, moved := t.moved + len }
  let s := s.modTx t.id (fun _ => t')
  if t'.pieces = total then s.peerEnd n first t' stOk 0 else s

/-- R349: the next step of a PEER_WRITE: a piece that has arrived goes out on the link, or the next piece is read. -/
def State.peerWriteStep (s : State) (n : Nat) (w : Wq) (j : Job) (t : EyeTx) : State :=
  let ps := s.peerPieces w j
  let e := j.entries.headD []
  match (j.legs[t.pieces]?).bind (fun l => (s.legResult l).map (fun r => (l, r))) with
  | some (l, (st, bs)) =>
    if st ≠ 0 then s.peerEnd n j.first t st (s.legDetail l)
    else if s.groupAt 5 t.port = some (s.groupOf w.tenant) then
      (((s.useChoice 5 t.port).owe 5 t.port (s.groupOf w.tenant) (tlpsOf bs.length - 1)).eyeWrite t.mapping (pieceOff (leAt e 0x10 8) ps t.pieces) bs).peerMoved n j.first t bs.length ps.length
    else s
  | none => s.issueLegs n w w.tenant j ps

/-- R349: the next step of a PEER_READ: a piece that has arrived is written to its segment, or the next one is read. -/
def State.peerReadStep (s : State) (n : Nat) (w : Wq) (j : Job) (t : EyeTx) : State :=
  let ps := s.peerPieces w j
  let e := j.entries.headD []
  match (j.legs[t.pieces]?).bind (fun l => (s.legResult l).map (fun r => (l, r))), ps[t.pieces]? with
  | some (l, (st, bs)), some (a, _) =>
    if st ≠ 0 then s.peerEnd n j.first t st (s.legDetail l)
    else if w.ringLoc then
      let (r, s) := if s.ownedBy w.tenant a bs.length then s.memAccess a bs.length else ((stAccessDenied, 0), s)
      if r = (0, 0) then ((s.devWrite a bs).oweMem w.home (s.groupOf w.tenant) a bs.length true).peerMoved n j.first t bs.length ps.length
      else s.peerEnd n j.first t r.1 qdBufFault
    else if s.hostWaits w.home w.func false then s
    else if s.groupAt 4 w.home = some (s.groupOf w.tenant) then
      (((s.useChoice 4 w.home).owe 4 w.home (s.groupOf w.tenant) (tlpsOf bs.length - 1)).hostPost w.func a bs).peerMoved n j.first t bs.length ps.length
    else s
  | _, _ => s.peerReadNext n w j t ps (leAt e 0x10 8)

/-- R350, R256, R260: the next step of a SEND: the next read, or, with every byte read and its partition below STOP, the packet takes
its bobbins and enters the Card lanes; a request for a bobbin that fails ends the job (DEDUCED, log entry 155). -/
def State.peerSendStep (s : State) (n : Nat) (w : Wq) (j : Job) (t : EyeTx) : State :=
  let ps := s.peerPieces w j
  let e := j.entries.headD []
  if j.legs.length < ps.length then s.peerReadNext n w j t ps (leAt e 0x10 8)
  else match s.legResults j.legs with
    | none => s
    | some rs => match (j.legs.zip rs).find? (fun r => r.2.1 != 0) with
      | some (l, (st, _)) => s.peerEnd n j.first t st (s.legDetail l)
      | none =>
        let bs := rs.flatMap (fun r => r.2)
        let h := t.port / 2
        if s.peerStop t.port bs.length t.mapping.tenant then s
        else match s.storePacket h t.mapping.tenant (editorEp h) 0 w.compat bs with
        | (none, s) => s.peerEnd n j.first { t with moved := bs.length } stNoBuffer bdEmpty
        | (some b, s) =>
          let s := s.admitPacket (newPacket h 2 t.mapping.tenant t.mapping.link 0 0 b bs.length 0 0 0)
          s.peerEnd n j.first { t with moved := bs.length } stOk 0

/-- The next step of a PEER job of an opcode. -/
def State.peerStep (s : State) (op n first : Nat) : State :=
  match s.wq? n, s.liveJob n first with
  | some w, some j =>
    if w.type ≠ qtPeer ∨ j.opcode ≠ op ∨ j.stage = .chain ∨ j.stage = .faulting then s
    else if j.stage = .unstarted then (if w.abort.isSome then s else s.peerStart n w j)
    else match s.txOf (.job n first) with
      | none => s
      | some t => if op = 1 then s.peerWriteStep n w j t else if op = 2 then s.peerReadStep n w j t else s.peerSendStep n w j t
  | _, _ => s

def execPeerWrite (n first : Nat) (s : State) : Host.Outcome State Fault Refusal := .next (s.peerStep 1 n first)
def execPeerRead (n first : Nat) (s : State) : Host.Outcome State Fault Refusal := .next (s.peerStep 2 n first)
def execPeerSend (n first : Nat) (s : State) : Host.Outcome State Fault Refusal := .next (s.peerStep 3 n first)

/-! ### Stopping transactions (R340, R346) -/

/-- A transaction's owner learns that it has ended: a PEER job completes; a DEVLD returns all ones; a cipher job completes so
at its end; a TO_PEER delivery drops its packet (R167). -/
def State.stopTx (s : State) (t : EyeTx) (status detail : Nat) : State :=
  match t.owner with
  | .job n f => s.peerEnd n f t status detail
  | .dev _ =>
    let rs := s.eye.reqs.filter (fun r => r.tx == t.id)
    let s := s.dropTx t
    s.setEye { s.eye with done := s.eye.done ++ rs.map (fun r => ⟨r.id, status, detail, List.replicate r.len 0xFF#8⟩) }
  | .cipher id =>
    let d := if detail = edPeerLost then 0x10 else if detail = edFenced then 0x11 else detail
    let s := { s with cipher := { s.cipher with jobs := s.cipher.jobs.map (fun (j : CipherJob) =>
      if j.id = id then { j with stop := some (status, d) } else j) } }
    s.dropTx t
  | .packet id => (s.dropTx t).deliveryDrop id

/-- R346: a SEAL_DELIVER job is not stopped. -/
def State.isSeal (s : State) (t : EyeTx) : Bool :=
  match t.owner with
  | .cipher id => s.cipher.jobs.any (fun j => j.id == id && j.op == 8)
  | _ => false

/-- What a transaction belongs to is still there. -/
def State.ownerLives (s : State) : TxOwner → Bool
  | .job n f => (s.liveJob n f).isSome
  | .packet id => (s.pkt? id).isSome
  | .dev _ | .cipher _ => true

/-- Transactions of PEER jobs and packets that are gone (squashed, torn down or reset) are over, and those held are forgotten. -/
def State.sweepTxs (s : State) : State :=
  let s := s.setEye { s.eye with held := s.eye.held.filter s.ownerLives }
  (s.eye.txs.filter (fun t => !s.ownerLives t.owner)).foldl (fun s t => s.dropTx t) s

/-- R345: the swap, at a stitch boundary at which the port is drained. -/
def execWindowSwap (p : Nat) (s : State) : Host.Outcome State Fault Refusal :=
  let s := s.sweepTxs
  if p < 4 ∧ s.winPending p ∧ s.atBoundary ∧ s.portDrained p then
    let s := (s.changingWins p).foldl (fun s w => s.swapWin p w) s
    let s := s.setEye { s.eye with lost := s.eye.lost.filter (fun k => k / 256 != p), changing := s.eye.changing.filter (fun k => k / 256 != p) }
    let s := ((s.wr (F.EYELET_WIN_COMMIT.PENDING p) 0).wr (F.EYELET_WIN_COMMIT.GO p) 0).wr (F.EYELET_WIN_COMMIT.DONE p) 1
    .next (s.event eyeletEvq (eyeEvent 8 0 p))
  else .next s

/-- R346: DRAIN_LIMIT stitches after the commit, transactions on old mappings are stopped; a SEAL_DELIVER is not. -/
def execDrainLimit (p : Nat) (s : State) : Host.Outcome State Fault Refusal :=
  let s := s.sweepTxs
  if p < 4 ∧ s.winPending p ∧ AMap.getD s.eye.commitAt p 0 + max 1 (s.rd F.EYELET_WIN_CFG.DRAIN_LIMIT) ≤ s.stitch then
    let ts := s.eye.txs.filter (fun t => t.port == p && s.winHeld p t.win && !s.isSeal t)
    if ts.isEmpty then .next s
    else
      let s := (s.wr (F.EYELET_WIN_COMMIT.LIMIT_HIT p) 1).count F.EYELET_STAT.WIN_DRAIN.CNT ts.length
      .next (ts.foldl (fun s t => s.stopTx t stAborted edWinDrain) s)
  else .next s

/-! ### Inbound apertures (R333, R351, R352) -/

def inapKey (l a : Nat) : Nat := 8 * l + a

/-- R351: the address range of an aperture. -/
def State.inapSize (s : State) (l a : Nat) : Nat := 2 ^ s.rd (F.EYELET_INAP_W0.LOG2SIZE (inapKey l a))
def State.inapBase (s : State) (l a : Nat) : Nat := s.rd (F.EYELET_INAP_W8.BUS_BASE (inapKey l a)) * 4096

/-- R333, R352: the enabled aperture of a link that holds `n` bytes from an upstream address and allows their direction. -/
def State.inapFor (s : State) (l addr n : Nat) (write : Bool) : Option Nat :=
  (List.range 8).find? (fun a =>
    let k := inapKey l a
    let kind := s.rd (F.EYELET_INAP_W0.KIND k)
    s.flag (F.EYELET_INAP_W0.EN k) && kind != 3 && decide (s.inapBase l a ≤ addr) && decide (addr + n ≤ s.inapBase l a + s.inapSize l a) &&
    (if write then s.flag (F.EYELET_INAP_W0.WR k) else kind == 0 && s.flag (F.EYELET_INAP_W0.RD k)))

/-- An upstream request gets Unsupported Request. -/
def State.inbUr (s : State) (l tag : Nat) (write : Bool) : State :=
  let s := s.count F.EYELET_STAT.INB_UR.CNT 1
  if write then s else s.emit (.eyeCpl l tag none)

/-- R333: an upstream request of a link: `own` says that its Requester ID lies on the link's private bus, `mem` that it is a
memory request. -/
def execInboundRequest (l : Nat) (own mem write : Bool) (addr len tag : Nat) (data : List Byte) (s : State) :
    Host.Outcome State Fault Refusal :=
  if s.linkExists l = false ∨ s.slot l ≠ slActive then .next s
  else
    let n := if write then data.length else len
    match s.inapFor l addr n write with
    | some a =>
      if own ∧ mem then
        let r : InReq := { link := l, aper := a, write := write, off := addr - s.inapBase l a, len := n, data := data, tag := tag, leg := none }
        .next (s.setEye { s.eye with inbound := s.eye.inbound ++ [r] })
      else .next (s.inbUr l tag write)
    | none => .next (s.inbUr l tag write)

/-- The oldest accepted request of a link in an aperture of a kind. -/
def State.inbHead (s : State) (l kind : Nat) : Option InReq :=
  s.eye.inbound.find? (fun r => r.link == l && s.rd (F.EYELET_INAP_W0.KIND (inapKey l r.aper)) == kind)

/-- Remove the first of equal requests. -/
def eraseIn (r : InReq) : List InReq → List InReq
  | [] => []
  | x :: t => if x = r then t else x :: eraseIn r t

def State.inbDrop (s : State) (r : InReq) : State := s.setEye { s.eye with inbound := eraseIn r s.eye.inbound }

/-- R351: a MEM aperture reads or writes device memory, as class 3 work of its tenant's group; the whole of its target range lies in
memory of the tenant. -/
def execInboundMem (l : Nat) (s : State) : Host.Outcome State Fault Refusal :=
  match s.inbHead l 0 with
  | none => .next s
  | some r =>
    let k := inapKey l r.aper
    let t := s.rd (F.EYELET_INAP_W0.TENANT k)
    let a := s.rd (F.EYELET_INAP_W10.TARGET k) + r.off
    match r.leg with
    | none =>
      if s.ownedBy t (s.rd (F.EYELET_INAP_W10.TARGET k)) (s.inapSize l r.aper) = false then .next ((s.inbDrop r).inbUr l r.tag r.write)
      else if r.write then
        let (x, s) := (s.inbDrop r).memAccess a r.len
        if x ≠ (0, 0) then .next s
        else .next (s.memIssue (l / 8) (s.groupOf t) a r.len (some r.data)).2
      else
        let (leg, s) := s.startLeg true (l / 8) 0 t (s.groupOf t) a r.len true
        .next (s.setEye { s.eye with inbound := s.eye.inbound.map (fun x => if x = r then { r with leg := some leg } else x) })
    | some leg => match s.legResult leg with
      | none => .next s
      | some (st, bs) => .next (((s.inbDrop r).dropLeg leg).emit (.eyeCpl l r.tag (if st = 0 then some bs else none)))

/-- R351: a 4-byte write at a page of a DOORBELL aperture is the WQ_PI doorbell of a device-ring WQ of the aperture's tenant. -/
def execInboundDoorbell (l : Nat) (s : State) : Host.Outcome State Fault Refusal :=
  match s.inbHead l 1 with
  | none => .next s
  | some r =>
    let k := inapKey l r.aper
    let n := s.rd (F.EYELET_INAP_W10.TARGET k) % 65536 + r.off / 4096
    let s' := s.inbDrop r
    match s.wq? n with
    | some w =>
      if r.len = 4 ∧ r.off % 4096 = 0 ∧ n < 65536 ∧ w.ringLoc ∧ w.tenant = s.rd (F.EYELET_INAP_W0.TENANT k) then .next (s'.wqPi n (leAt r.data 0 4))
      else .next (s'.count F.EYELET_STAT.INB_UR.CNT 1)
    | none => .next (s'.count F.EYELET_STAT.INB_UR.CNT 1)

/-- R351: a 4-byte write in a NOTIFY aperture sends a 2-word message; one that is not accepted is dropped and counted. -/
def execInboundNotify (l : Nat) (s : State) : Host.Outcome State Fault Refusal :=
  match s.inbHead l 2 with
  | none => .next s
  | some r =>
    let k := inapKey l r.aper
    let s' := s.inbDrop r
    let t := s.rd (F.EYELET_INAP_W10.TARGET k)
    if r.len ≠ 4 then .next (s'.count F.EYELET_STAT.INB_UR.CNT 1)
    else match s'.trySend (epUnit 0 l) (t % 2 ^ 20) (bitsOf t 27 20) 0x3A
        [BitVec.ofNat 64 (leAt r.data 0 4 ||| l <<< 32 ||| r.aper <<< 36), BitVec.ofNat 64 r.off] false with
      | (.ok, s) => .next s
      | (_, s) => .next (s.count F.EYELET_STAT.NOTIFY_LOST.CNT 1)

end Sys2Proof.Machine
end

