-- ==== Sys2Proof/Machine/Cipher.lean ====
section
/-! DEFINITION. The cipher unit (chapter 05): jobs and their admission, engines, urgency and suspension, completion, the
sessions in key slots and their operations, the nonce guard and zeroization. -/

namespace Sys2Proof.Machine

open Sys2Proof

def State.setCipher (s : State) (c : Cipher) : State := { s with cipher := c }

/-- R178: the endpoint of a half's cipher unit, and of the session service. -/
def cipherEp (h : Nat) : Nat := epUnit 2 h
def sessEp : Nat := epUnit 2 2

/-- The home half of a session. -/
def State.sessHome (s : State) (i : Nat) : Nat := if i < s.rd F.CIPHER_SESS_CFG.SPLIT then 0 else 1

/-- The device address of a session's record (R190). -/
def State.sessAddr (s : State) (i : Nat) : Nat :=
  let h := s.sessHome i
  s.rd (F.CIPHER_SESS_BASE.BASE h) * 4096 + 256 * (if h = 0 then i else i - s.rd F.CIPHER_SESS_CFG.SPLIT)

def State.keySlot (s : State) (i : Nat) : Option KeySlot := AMap.get? s.cipher.slots i

/-- A session in its key slot, used now. -/
def State.setSlotKey (s : State) (i : Nat) (p : Bytes) (st : Nat) : State :=
  s.setCipher { s.cipher with slots := AMap.set s.cipher.slots i ⟨p, st, s.cipher.nextId⟩, nextId := s.cipher.nextId + 1 }

def State.modJobC (s : State) (id : Nat) (f : CipherJob → CipherJob) : State :=
  s.setCipher { s.cipher with jobs := s.cipher.jobs.map (fun j => if j.id = id then f j else j) }

def State.jobC (s : State) (id : Nat) : Option CipherJob := s.cipher.jobs.find? (fun j => j.id == id)

/-! ### Notices (R201) -/

/-- R201: a soft (1) or exhausted (2) notice of a session. -/
def State.cipherNotice (s : State) (kind i tenant : Nat) : State :=
  let w := kind <<< 60 ||| tenant <<< 20 ||| i
  let s := (s.event cipherNote w).wr (if kind = 1 then F.CIPHER_EVENT.SOFT else F.CIPHER_EVENT.EXHAUSTED) 1
  if s.flag F.CIPHER_NOTIFY.EN then
    (s.trySend (cipherEp (s.sessHome i)) (s.rd F.CIPHER_NOTIFY.ENDPOINT) (s.rd F.CIPHER_NOTIFY.EPOCH) 0x3D
      [BitVec.ofNat 64 (1 <<< 63 ||| w)] false).2
  else s

/-- A session becomes EXHAUSTED. -/
def State.exhaust (s : State) (i : Nat) (k : KeySlot) (p : Bytes) : State :=
  (s.setSlotKey i p (k.st ||| 2)).cipherNotice 2 i (sTenant p)

/-- R201: a value at or above the soft limit has been used. -/
def State.softCheck (s : State) (i v : Nat) : State :=
  match s.keySlot i with
  | some k =>
    if sSoft k.plain ≤ v ∧ !k.st.testBit 2 then (s.setSlotKey i k.plain (k.st ||| 4)).cipherNotice 1 i (sTenant k.plain) else s
  | none => s

/-! ### Ends of jobs (R181, R182, R186) -/

/-- Suspension slots in use in a cluster (R205). -/
def State.suspUsed (s : State) (c : Nat) : Nat := (s.cipher.jobs.filter (fun j => j.slot == some c)).length

/-- CIPHER_SUSP follows. -/
def State.showSusp (s : State) (c : Nat) : State :=
  let n := s.suspUsed c
  (s.wr (F.CIPHER_SUSP.IN_USE c) n).wr (F.CIPHER_SUSP.PEAK c) (max n (s.rd (F.CIPHER_SUSP.PEAK c)))

/-- A job leaves the unit, with its engine, its slot and its transaction. -/
def State.dropJobC (s : State) (j : CipherJob) : State :=
  let s := s.setCipher { s.cipher with jobs := s.cipher.jobs.filter (fun x => x.id != j.id),
                                       engines := s.cipher.engines.filter (fun e => e.2.1 != j.id) }
  let s := match j.slot with | some c => s.showSusp c | none => s
  match s.txOf (.cipher j.id) with
  | some t => s.dropTx t
  | none => s

/-- A packet goes on after its CRYPTO word, or to the slow path. -/
def State.endInline (s : State) (pkt idx status detail : Nat) : State :=
  if status = stOk then s.modPkt pkt (fun p => { p with stage := .running (idx + 1) }) else s.slowPath pkt 2 status detail

/-- R71: the REPLY of a job names a channel of the spindle that issued it. -/
def repliesTo (tid reply : Nat) : Bool := !isCob tid && !epIsUnit (reply % 2 ^ 20) && spOf (epTid (reply % 2 ^ 20)) == spOf tid

/-- R181: a job ends with a status and detail; `made` bytes were written, and `out` is the data of a Welt job. -/
def State.endCipher (s : State) (j : CipherJob) (status detail made : Nat) (out : Bytes) : State :=
  let s := s.dropJobC j
  let s := s.wrIf (status == stAuthFail) F.CIPHER_STAT.AUTH_FAIL.CNT (min (s.rd F.CIPHER_STAT.AUTH_FAIL.CNT + 1) (2 ^ 32 - 1))
  let s := if status = stAuthFail ∧ detail = cdReplay then s.count F.CIPHER_STAT.REPLAY.CNT 1 else s
  let s := if status = stNonce then s.count F.CIPHER_STAT.NONCE_EXH.CNT 1 else s
  match j.owner with
  | .inline pkt idx => (s.count F.CIPHER_STAT.INLINE.CNT 1).endInline pkt idx status detail
  | .welt c => s.setCipher { s.cipher with results := s.cipher.results ++ [(c, status, detail, out)] }
  | .csub tid reply ref =>
    let s := s.count F.CIPHER_STAT.JOBS.CNT 1
    let w0 := status ||| detail <<< 8 ||| j.op <<< 16 ||| made <<< 32
    match s.trySend (cipherEp j.home) (reply % 2 ^ 20) (bitsOf reply 27 20) (bitsOf reply 33 28)
        [BitVec.ofNat 64 w0, BitVec.ofNat 64 j.ctr, BitVec.ofNat 64 ref] (repliesTo tid reply) with
    | (.ok, s) => s
    | (_, s) => (s.count F.CIPHER_STAT.REPLY_LOST.CNT 1).wr F.CIPHER_EVENT.REPLY_LOST 1

/-! ### Submission (R178, R179, R186) -/

/-- A job reaches the store of a half. -/
def State.submitJob (s : State) (half : Nat) (owner : CipherOwner) (op session urg : Nat) (raw data : Bytes) : State :=
  let j : CipherJob :=
    { id := s.cipher.nextId, owner := owner, half := half, home := s.sessHome session, op := op, session := session, tenant := 0,
      urg := urg, raw := raw, data := data, since := s.clk.cycles, stage := .arrived, light := 0, total := 0, cost := 0, made := 0,
      ctr := 0, admSeq := 0, susSeq := 0, startAt := 0, slot := none, stop := none, out := none, sent := 0, wiped := 0 }
  s.setCipher { s.cipher with jobs := s.cipher.jobs ++ [j], nextId := s.cipher.nextId + 1 }

/-- Jobs of CSUBs of a half in the store (R179). -/
def State.storeUsed (s : State) (h : Nat) : Nat :=
  (s.cipher.jobs.filter (fun j => j.half == h && (match j.owner with | .csub _ _ _ => true | _ => false))).length

def storeLimit : Nat := 16384

/-- A CSUB's 64 bytes enter the store. -/
def State.storeJob (s : State) (h tid : Nat) (raw : Bytes) : State :=
  s.submitJob h (.csub tid (leAt raw 0x30 8) (leAt raw 0x38 8)) (leAt raw 0 1) (leAt raw 4 4 % 2 ^ 20) (min 2 (leAt raw 1 1 % 4)) raw []

/-- R179, R107: a CSUB meets a half's unit: the yarn status and the notice's cause. -/
def State.csub (s : State) (h tid : Nat) (raw : Bytes) : (Nat × Nat) × State :=
  if h = 1 ∧ s.fencedB then ((ysRefused, stFencedSt), s)
  else if storeLimit ≤ s.storeUsed h then ((ysRefused, stRange), s.count F.CIPHER_STAT.JOB_REFUSED.CNT 1)
  else ((ysOk, 0), s.storeJob h tid raw)

/-- Jobs that came as messages to a half's unit enter the store while it has room. -/
def State.cipherIntake (s : State) (h : Nat) : Nat → State
  | 0 => s
  | fuel + 1 =>
    match s.headAt (cipherEp h) with
    | some m =>
      if storeLimit ≤ s.storeUsed h then s
      else ((s.setQueue (cipherEp h) (s.queueAt (cipherEp h)).tail).storeJob h (if epIsUnit m.src then cobBase else epTid m.src) (bytesOf m.words)).cipherIntake h fuel
    | none => s

/-- R186: a CRYPTO word of a packet is submitted. -/
def State.cryptoSubmit (s : State) (pkt idx : Nat) (p : Packet) (oper session : Nat) : State :=
  (s.submitJob p.half (.inline pkt idx) (16 + oper) session 3 [] []).modPkt pkt (fun x => { x with stage := .cipher idx })

/-! ### Key slots (R190, R191) -/

/-- R191, R451: 32,768 key slots of a half, 16,384 in each cluster whose domain is on. -/
def State.slotLimit (s : State) (h : Nat) : Nat := ((List.range 2).filter (fun k => s.domOn (48 + 2 * h + k))).length * 16384

/-- R191: a job keeps a session's slot. -/
def CipherJob.holds (j : CipherJob) : Bool := j.stage != .arrived

/-- R190: the session's record under the KEK. -/
def State.rewrap (s : State) (i : Nat) (k : KeySlot) : State :=
  let h := s.sessHome i
  let n := if h = 0 then s.cipher.wrapA else s.cipher.wrapB
  let s := s.setCipher { s.cipher with wrapA := if h = 0 then n + 1 else s.cipher.wrapA,
                                       wrapB := if h = 0 then s.cipher.wrapB else n + 1 }
  let hdr := toLE 4 i ++ toLE 1 (sKind k.plain) ++ toLE 1 k.st ++ toLE 2 (sTenant k.plain) ++ toLE 8 n
  let rec_ := hdr ++ gcmSeal (aesKeys true s.cipher.kek) (toBE 4 0 ++ toBE 8 n) hdr k.plain
  (s.memIssue h (s.groupOf (sTenant k.plain)) (s.sessAddr i) 256 (some rec_)).2

/-- R191: a slot of a half is free, or the least recently used idle session leaves its slot; false where every slot is
busy. -/
def State.makeRoom (s : State) (h : Nat) : Bool × State :=
  let here := s.cipher.slots.filter (fun (e : Nat × KeySlot) => s.sessHome e.1 == h)
  if here.length < s.slotLimit h then (true, s)
  else
    let idle := here.filter (fun (e : Nat × KeySlot) => !s.cipher.jobs.any (fun j => j.session == e.1 && j.holds))
    match idle with
    | [] => (false, s)
    | e :: t =>
      let v := t.foldl (fun (b e : Nat × KeySlot) => if e.2.used < b.2.used then e else b) e
      (true, (s.rewrap v.1 v.2).setCipher { (s.rewrap v.1 v.2).cipher with slots := AMap.del s.cipher.slots v.1 })

/-- R191: the record of an installed session outside every slot is fetched in class 3 turns of its tenant's group; the tenant
stands in the record's clear header. -/
def State.fetchSession (s : State) (i : Nat) : State :=
  if (AMap.get? s.cipher.fetches i).isSome then s
  else
    let tenant := leAt (s.devRead (s.sessAddr i + 6) 2) 0 2 % 4096
    let (id, s) := s.memIssue (s.sessHome i) (s.groupOf tenant) (s.sessAddr i) 256 none
    s.setCipher { s.cipher with fetches := AMap.set s.cipher.fetches i id }

/-- R190: a record's session, where it passes its check and its header agrees with it. -/
def State.unwrapRecord (s : State) (i : Nat) (r : Bytes) : Option (Bytes × Nat) :=
  let hdr := r.take 16
  match gcmOpen (aesKeys true s.cipher.kek) (toBE 4 0 ++ toBE 8 (leAt r 8 8)) hdr (sliceB r 16 224) (sliceB r 240 16) with
  | some p =>
    if leAt r 0 4 = i ∧ leAt r 4 1 = sKind p ∧ leAt r 6 2 = sTenant p then some (p, leAt r 5 1) else none
  | none => none

/-! ### Admission (R180, R188, R199, R200) -/

/-- The location of kind `k` in word `w` belongs to the tenant, where it is a bobbin chain. -/
def State.locOwned (s : State) (k w tenant : Nat) : Bool :=
  if k = 0 then
    let hs := s.chain (w % 2 ^ 24)
    !hs.isEmpty && hs.all (fun b => (s.desc b).held && (s.desc b).tenant == tenant)
  else true

/-- R199: the counter values of an outbound job: the first of them, with the session after it; none where they exceed
HARD_LIMIT. -/
def State.assign (s : State) (i : Nat) (k : KeySlot) (n : Nat) : Option (Nat × State) :=
  let c := sCounter k.plain
  let hard := sHard k.plain
  if hard < c + n - 1 then none
  else
    let p := putLE k.plain 0x60 8 (min hard (c + n))
    let s := if c + n - 1 = hard then s.exhaust i k p else s.setSlotKey i p k.st
    some (c, s.softCheck i (c + n - 1))

/-- An outbound job counts blocks for CTR, one value otherwise (R199). -/
def CipherJob.values (j : CipherJob) : Nat := if j.op = 7 then blockCount (leAt j.raw 0x18 4) else 1

/-- R191: the slot of a session is used. -/
def State.touchSlot (s : State) (i : Nat) : State :=
  match s.keySlot i with
  | some k => s.setSlotKey i k.plain k.st
  | none => s

/-- A job is admitted, with its first counter value and its blocks. -/
def State.setAdmitted (s : State) (j : CipherJob) (tenant ctr light heavy cost : Nat) : State :=
  let s := s.touchSlot j.session
  let n := s.cipher.nextId
  let s := s.modJobC j.id (fun j =>
    { j with stage := .admitted, tenant := tenant, ctr := ctr, light := light, total := light + heavy, cost := cost, admSeq := n })
  s.setCipher { s.cipher with nextId := n + 1 }

/-- The outer header of the session's ESP template. -/
def State.sessTpl (s : State) (p : Bytes) : Option Bytes := tplHeader (s.template (sTpl p))

/-- Checks 4 to 6 of R180 and the admission of an inline operation (R186, R188). -/
def State.admitInline (s : State) (j : CipherJob) (k : KeySlot) (pk : Packet) : State :=
  let p := k.plain
  let oper := j.op - 16
  let b := s.pktBytes pk
  let fail := fun (r : Nat × Nat) => s.endCipher j r.1 r.2 0 []
  let (light, heavy) := inlineBlocks oper p b pk.layers
  if sKind p ≠ operKind oper then fail (stMalformed, cdKind)
  else if sTenant p ≠ pk.tenant then fail (stAccessDenied, cdTenant)
  else if oper % 2 = 0 then
    match sealPacket oper p (Config.macsecAn j.session).toNat 0 (s.sessTpl p) b pk.layers with
    | .error e => fail e
    | .ok _ =>
      if k.st.testBit 1 then fail (stNonce, cdExhausted)
      else match s.assign j.session k 1 with
        | none => fail (stNonce, cdExhausted)
        | some (c, s) => s.setAdmitted j (sTenant p) c light heavy (sCost p)
  else
    match inView oper p b pk.layers with
    | .error e => fail e
    | .ok v =>
      let num := if oper = 5 then sCounter p else numberOf p v.low
      if k.st.testBit 1 ∨ sHard p < num then fail (stNonce, cdExhausted)
      else if oper ≠ 5 ∧ replayBad p num then fail (stAuthFail, cdReplay)
      else s.setAdmitted j (sTenant p) num light heavy (sCost p)

/-- Checks 4 to 6 of R180 and the admission of a CSUB or Welt job. -/
def State.admitPlain (s : State) (j : CipherJob) (k : KeySlot) : State :=
  let p := k.plain
  let fail := fun (r : Nat × Nat) => s.endCipher j r.1 r.2 0 []
  let welt : Bool := match j.owner with | .welt _ => true | _ => false
  let len := if welt then j.data.length else leAt j.raw 0x18 4
  let ctl := leAt j.raw 1 1
  let (light, heavy) := jobBlocks j.op p (leAt j.raw 2 2) len
  if sKind p ≠ opKind j.op then fail (stMalformed, cdKind)
  else if j.op ≤ 2 ∧ len % sUnit p ≠ 0 then fail (stMalformed, cdLength)
  else if !welt ∧ (s.locOwned (ctl / 4 % 4) (leAt j.raw 8 8) (sTenant p) = false ∨
      s.locOwned (ctl / 16 % 4) (leAt j.raw 0x10 8) (sTenant p) = false) then fail (stAccessDenied, cdTenant)
  else if k.st.testBit 1 then fail (stNonce, cdExhausted)
  else if outboundKind (sKind p) then
    match s.assign j.session k j.values with
    | none => fail (stNonce, cdExhausted)
    | some (c, s) => s.setAdmitted j (sTenant p) c light heavy (sCost p)
  else s.setAdmitted j (sTenant p) 0 light heavy (sCost p)

/-- R196: a waiting operation holds the jobs that came after it. -/
def State.jobHeld (s : State) (j : CipherJob) : Bool := s.cipher.ops.any (fun o => o.index == j.session && decide (o.id < j.id))

/-- R202: no other request for the session goes first: those of an earlier cycle, and in one cycle those of the home half,
each half's in order. -/
def CipherJob.before (a b : CipherJob) : Bool :=
  let ka := if a.half = a.home then 0 else 1
  let kb := if b.half = b.home then 0 else 1
  decide (a.since < b.since) || (a.since == b.since && (decide (ka < kb) || (ka == kb && decide (a.id < b.id))))

/-- R180: a job at its home unit is checked in order and admitted, or completes with the first failure. A job whose session
is in no key slot waits while the record is fetched (R191). -/
def State.admitJob (s : State) (j : CipherJob) : State :=
  let fail := fun (r : Nat × Nat) => s.endCipher j r.1 r.2 0 []
  let csub : Bool := match j.owner with | .csub _ _ _ => true | _ => false
  match (if csub then jobFormFault j.raw else if 22 ≤ j.op then some (stMalformed, cdKind) else none) with
  | some f => fail f
  | none =>
    if s.rd F.CIPHER_SESS_CFG.COUNT ≤ j.session then fail (stRange, cdIndex)
    else if j.home = 1 ∧ s.fencedB then fail (stFencedSt, cdFenced)
    else if !s.cipher.installed.contains j.session then fail (stAccessDenied, cdInvalid)
    else match s.keySlot j.session with
      | none => s.fetchSession j.session
      | some k =>
        if !k.st.testBit 0 then fail (stAccessDenied, cdInvalid)
        else match j.owner with
          | .inline pkt _ =>
            match s.pkt? pkt with
            | some pk => s.admitInline j k pk
            | none => s.dropJobC j
          | _ => s.admitPlain j k

/-- R180, R202: the job is admitted, if no other request for its session goes first and no operation holds it. -/
def execCipherJobAdmit (id : Nat) (s : State) : Host.Outcome State Fault Refusal :=
  let s := (s.cipherIntake 0 storeLimit).cipherIntake 1 storeLimit
  match s.jobC id with
  | some j =>
    if j.stage ≠ .arrived ∨ s.jobHeld j then .next s
    else if s.cipher.jobs.any (fun x => x.session == j.session && x.stage == .arrived && x.before j) then .next s
    else .next (s.admitJob j)
  | none => .next s

/-! ### Engines (R203 to R205) -/

/-- Cycles of block `n` of a job. -/
def CipherJob.blockCost (j : CipherJob) (n : Nat) : Nat := if n < j.light then 8 else j.cost

/-- Cycles of blocks 0 to `n - 1`. -/
def CipherJob.costTo (j : CipherJob) (n : Nat) : Nat := 8 * min n j.light + j.cost * (n - j.light)

/-- Cycles left in the present turn. -/
def State.turnRest (s : State) : Nat := (s.rd F.STITCH_POS.TURN + 1) * s.turnLen - s.rd F.STITCH_POS.CYCLE

/-- R205: every remaining block of the job starts within the rest of the turn. -/
def State.fitsTurn (s : State) (j : CipherJob) : Bool :=
  decide (j.costTo (j.total - 1) - j.costTo j.made < s.turnRest)

def engHalf (u : Nat) : Nat := u / 272
def engCluster (u : Nat) : Nat := u / 136

def State.engActive (s : State) (u : Nat) : Bool := decide (u < 544) && s.rd (F.CIPHER_ENGPOS.STATE u) == 0
def State.engIdle (s : State) (u : Nat) : Bool := s.engActive u && (AMap.get? s.cipher.engines u).isNone

/-- R451: a cluster takes new jobs: its domain is on and no request to switch it off stands. -/
def State.clusterOpen (s : State) (c : Nat) : Bool := (s.rd F.POWER_DOM_CTRL.ON).testBit (48 + c) && s.domOn (48 + c)

/-- The lowest-numbered idle engine of a half that may take a new job. -/
def State.lowestIdle (s : State) (h : Nat) : Option Nat :=
  ((List.range 272).map (fun k => 272 * h + k)).find? (fun u => s.engIdle u && s.clusterOpen (engCluster u))

/-- R205: a new job may start in a cluster. -/
def State.mayStart (s : State) (c : Nat) (j : CipherJob) : Bool := s.fitsTurn j || decide (s.suspUsed c < 64)

/-- The PEER destination of a job: port, window and offset. -/
def CipherJob.peer? (j : CipherJob) : Option (Nat × Nat × Nat) :=
  match j.owner with
  | .csub _ _ _ =>
    if leAt j.raw 1 1 / 16 % 4 = 2 then
      let w := leAt j.raw 0x10 8
      some (bitsOf w 41 40, bitsOf w 39 32, bitsOf w 31 0)
    else none
  | _ => none

/-- R345, R208: a new job that would start on a window being changed waits. -/
def State.jobWinHeld (s : State) (j : CipherJob) : Bool :=
  match j.peer? with
  | some (p, w, _) => s.winHeld p w
  | none => false

/-- Jobs that engine `u` could take for a group: those suspended in its cluster and the new ones of its half that may
start. -/
def State.engineWork (s : State) (u g : Nat) : List CipherJob :=
  s.cipher.jobs.filter (fun j => s.groupOf j.tenant == g &&
    ((j.stage == .suspended (engCluster u) && j.stop.isNone) ||
     (j.stage == .admitted && j.home == engHalf u && s.clusterOpen (engCluster u) && s.mayStart (engCluster u) j && !s.jobWinHeld j)))

/-- R203: `a` goes before `b`. -/
def CipherJob.first (a b : CipherJob) : Bool :=
  if a.urg ≠ b.urg then decide (b.urg < a.urg)
  else match a.stage, b.stage with
    | .admitted, .admitted => decide (a.admSeq ≤ b.admSeq)
    | .admitted, _ => false
    | _, .admitted => true
    | _, _ => decide (a.susSeq ≤ b.susSeq)

def bestJob : List CipherJob → Option CipherJob
  | [] => none
  | j :: t => some (t.foldl (fun b x => if b.first x then b else x) j)

/-- Insert a number into a rising list without repeats. -/
def insertNat (n : Nat) : List Nat → List Nat
  | [] => [n]
  | a :: t => if n < a then n :: a :: t else if n = a then a :: t else a :: insertNat n t

/-- The groups with pending class 2 work at engine `u` (R37, R203, R205). -/
def State.cipherGroups (s : State) (u : Nat) : List Nat :=
  (s.cipher.jobs.filter (fun j => j.stage == .running u || (j.stage == .suspended (engCluster u) && j.stop.isNone) ||
    (j.stage == .admitted && j.home == engHalf u && s.clusterOpen (engCluster u) && s.mayStart (engCluster u) j && !s.jobWinHeld j))).foldl
    (fun l j => insertNat (s.groupOf j.tenant) l) []

/-- R206, R343: a window refuses a job. -/
def State.peerRefuses (s : State) (j : CipherJob) : Option (Nat × Nat) :=
  match j.peer? with
  | none => none
  | some (p, w, off) =>
    let x := s.activeWin p w
    if x.valid ∧ x.tenant ≠ j.tenant then some (stAccessDenied, cdTenant)
    else if x.valid = false ∨ x.wr = false ∨ x.size < off + dstLen j.op (leAt j.raw 0x18 4) then some (stRange, cdSrc)
    else none

/-- The job runs its next block on engine `u`. -/
def State.runBlock (s : State) (u : Nat) (j : CipherJob) : State :=
  (s.useChoice 2 u).setCipher { (s.useChoice 2 u).cipher with
    engines := AMap.set s.cipher.engines u (j.id, s.clk.cycles + j.blockCost j.made) }

/-- R203, R205: a job starts or resumes on engine `u`. -/
def State.startJob (s : State) (u : Nat) (j : CipherJob) : State :=
  let c := engCluster u
  let fresh : Bool := j.stage == .admitted
  match (if fresh then s.peerRefuses j else none) with
  | some r => s.endCipher j r.1 r.2 0 []
  | none =>
    let slot := if fresh ∧ !s.fitsTurn j then some c else j.slot
    let s := match j.peer? with
      | some (p, w, _) => if fresh then s.bindTx p w (.cipher j.id) else s
      | none => s
    let s := s.modJobC j.id (fun j => { j with stage := .running u, slot := slot, startAt := s.clk.cycles })
    (s.showSusp c).runBlock u j

/-- R203: engine `u` starts or resumes the most urgent job of the group its last boundary chose. A new job starts on the
lowest-numbered idle engine of the half. -/
def execCipherJobStart (u : Nat) (s : State) : Host.Outcome State Fault Refusal :=
  if s.engIdle u then
    match s.groupAt 2 u with
    | none => .next s
    | some g =>
      match bestJob (s.engineWork u g) with
      | none => .next s
      | some j => if j.stage = .admitted ∧ s.lowestIdle (engHalf u) ≠ some u then .next s else .next (s.startJob u j)
  else .next s

/-- R204: the running job of a group that a more urgent one displaces: the lowest urgency, the latest started. -/
def State.displaced (s : State) (h g : Nat) : Option CipherJob :=
  let rs := s.cipher.jobs.filter (fun j => j.home == h && s.groupOf j.tenant == g && (match j.stage with | .running _ => true | _ => false))
  match rs with
  | [] => none
  | j :: t => some (t.foldl (fun b x => if x.urg < b.urg ∨ (x.urg = b.urg ∧ b.startAt < x.startAt) then x else b) j)

/-- R204: the job gives way to a pending job of higher urgency of its group. -/
def State.givesWay (s : State) (u g : Nat) (j : CipherJob) : Bool :=
  (s.engineWork u g).any (fun x => decide (j.urg < x.urg)) && (s.lowestIdle (engHalf u)).isNone &&
  (j.slot.isSome || decide (s.suspUsed (engCluster u) < 64)) && ((s.displaced (engHalf u) g).map (fun x => x.id) == some j.id)

/-- R204: the job leaves its engine for a suspension slot of the cluster. -/
def State.suspendJob (s : State) (u : Nat) (j : CipherJob) : State :=
  let c := engCluster u
  let n := s.cipher.nextId
  let s := s.modJobC j.id (fun j => { j with stage := .suspended c, slot := some c, susSeq := n })
  let s := s.setCipher { s.cipher with engines := AMap.del s.cipher.engines u, nextId := n + 1 }
  (s.showSusp c).count F.CIPHER_STAT.SUSPENDS.CNT 1

/-- An engine of a cluster that is idle. -/
def State.idleIn (s : State) (c : Nat) : Option Nat := ((List.range 136).map (fun k => 136 * c + k)).find? (fun u => s.engIdle u)

/-- R433: a job without a slot whose block has failed on a retired engine moves to another engine of the cluster. -/
def State.moveJob (s : State) (u : Nat) (j : CipherJob) : State :=
  match s.idleIn (engCluster u) with
  | none => s.runBlock u j
  | some v =>
    let s := s.modJobC j.id (fun j => { j with stage := .running v })
    let s := s.setCipher { s.cipher with engines := AMap.del s.cipher.engines u }
    s.setCipher { s.cipher with engines := AMap.set s.cipher.engines v (j.id, s.clk.cycles + j.blockCost j.made) }

/-- R204: engine `u` ends a block: the job ends, goes on, or is suspended. A block with an error is done again (R177); a job whose
transaction has been stopped runs no further block (R208). Its suspension slot is held until it completes (R205). -/
def execCipherBlockDone (u : Nat) (err : Bool) (s : State) : Host.Outcome State Fault Refusal :=
  match AMap.get? s.cipher.engines u with
  | none => .next s
  | some (id, due) =>
    match s.jobC id with
    | none => .next s
    | some j =>
      if s.clk.cycles < due then .next s
      else
        let s := if err then s.report 1 u else s.modJobC id (fun j => { j with made := j.made + 1 })
        let j : CipherJob := if err then j else { j with made := j.made + 1 }
        if j.total ≤ j.made ∨ j.stop.isSome then
          let s := s.modJobC id (fun j => { j with stage := .ended })
          let s := s.setCipher { s.cipher with engines := AMap.del s.cipher.engines u }
          .next (s.serviceBoundary 2 u (s.cipherGroups u) false false)
        else
          let s := s.serviceBoundary 2 u (s.cipherGroups u) false false
          let g := s.groupOf j.tenant
          let room := j.slot.isSome || decide (s.suspUsed (engCluster u) < 64)
          let gone := s.engActive u = false
          if (s.groupAt 2 u ≠ some g ∧ room) ∨ s.givesWay u g j ∨ (gone ∧ j.slot.isSome) then .next (s.suspendJob u j)
          else if gone ∧ err then .next (s.moveJob u j)
          else .next (s.runBlock u j)

/-! ### Completion (R181, R182, R188, R206, R207) -/

/-- R182, R264: what an access to the bobbins of a chain answers. -/
def State.chainAccess (s : State) (handle : Nat) : MemResult × State :=
  if s.chainBad handle then ((stDeviceError, bdEcc), s)
  else (s.chain handle).foldl (fun (r : MemResult × State) b =>
    if r.1 = (0, 0) then r.2.memAccess (r.2.bobAddr b + (r.2.desc b).off) (r.2.desc b).len else r) ((0, 0), s)

/-- R182: a job whose source or destination answers so completes with this status and detail. -/
def jobFault (r : MemResult) : Nat × Nat := if r.1 = stMemLost ∨ r = (stDeviceError, bdEcc) then r else (stRange, cdSrc)

/-- R182: the bytes a job reads from its source; an error's status and detail otherwise. -/
def State.jobSource (s : State) (j : CipherJob) : Except (Nat × Nat) Bytes × State :=
  let w := leAt j.raw 8 8
  let n := srcLen j.op (leAt j.raw 2 2) (leAt j.raw 0x18 4)
  if leAt j.raw 1 1 / 4 % 4 = 0 then
    let (r, s) := s.chainAccess (w % 2 ^ 24)
    let bs := s.chainBytes (w % 2 ^ 24)
    let o := bitsOf w 55 32
    (if r ≠ (0, 0) then .error (jobFault r) else if o + n ≤ bs.length then .ok (sliceB bs o n) else .error (stRange, cdSrc), s)
  else
    let (r, s) := s.memAccess w n
    if r = (0, 0) then (.ok (s.devRead w n), s.oweMem j.home (s.groupOf j.tenant) w n false) else (.error (jobFault r), s)

/-- A job's output is written to its destination outside the peer windows; an error where it cannot be. -/
def State.jobWrite (s : State) (j : CipherJob) (bs : Bytes) : Option (Nat × Nat) × State :=
  let k := leAt j.raw 1 1 / 16 % 4
  let w := leAt j.raw 0x10 8
  if k = 0 then
    let (r, s) := s.chainAccess (w % 2 ^ 24)
    let old := s.chainBytes (w % 2 ^ 24)
    let o := bitsOf w 55 32
    if r ≠ (0, 0) then (some (jobFault r), s)
    else if o + bs.length ≤ old.length then (none, s.overwriteChain (w % 2 ^ 24) (putB old o bs)) else (some (stRange, cdSrc), s)
  else if k = 1 then
    let (r, s) := s.memAccess w bs.length
    if r = (0, 0) then (none, (s.devWrite w bs).oweMem j.home (s.groupOf j.tenant) w bs.length true) else (some (jobFault r), s)
  else (none, s)

/-- The output of a CSUB job on its source bytes, and whether its tag verifies. -/
def CipherJob.result (j : CipherJob) (p src : Bytes) : Bytes × Bool :=
  let len := leAt j.raw 0x18 4
  let (out, good) := jobMade j.op p j.ctr (leAt j.raw 2 2) len (sliceB j.raw 0x20 16) src
  (out.take (dstLen j.op len), good)

/-- R182: a CSUB job's end: its output is written, or zeros over it where the tag does not verify. -/
def State.completeCsub (s : State) (j : CipherJob) (p : Bytes) : State :=
  match s.jobSource j with
  | (.error r, s) => s.endCipher j r.1 r.2 0 []
  | (.ok src, s) =>
    let (out, good) := j.result p src
    match s.jobWrite j (if good then out else List.replicate out.length 0#8) with
    | (some r, s) => s.endCipher j r.1 r.2 0 []
    | (none, s) => if good then s.endCipher j stOk 0 out.length [] else s.endCipher j stAuthFail cdIcv out.length []

/-- R206, R207: one TLP of a job into a peer window moves: of its output, then, where the tag did not verify, of zeros over it. -/
def State.peerMove (s : State) (j : CipherJob) (port : Nat) (out : Bytes) (good : Bool) : State :=
  match s.txOf (.cipher j.id) with
  | none => s.endCipher j stAborted cdPeerLost j.sent []
  | some t =>
    let off := bitsOf (leAt j.raw 0x10 8) 31 0
    let s := s.useChoice 5 port
    if j.sent < out.length then
      let bs := sliceB out j.sent (min tlpBytes (out.length - j.sent))
      let s := (s.eyeWrite t.mapping (off + j.sent) bs).modJobC j.id (fun j => { j with sent := j.sent + bs.length })
      if j.sent + bs.length = out.length ∧ good then s.endCipher j stOk 0 out.length [] else s
    else
      let n := min tlpBytes (out.length - j.wiped)
      let s := (s.eyeWrite t.mapping (off + j.wiped) (List.replicate n 0#8)).modJobC j.id (fun j => { j with wiped := j.wiped + n })
      if j.wiped + n = out.length then s.endCipher j stAuthFail cdIcv out.length [] else s

/-- R206: the end of a job into a peer window, in a class 5 turn of its group: its output is made once, and moves TLP by TLP. -/
def State.completePeer (s : State) (j : CipherJob) (p : Bytes) (port : Nat) : State :=
  match j.out with
  | some (out, good) => s.peerMove j port out good
  | none =>
    match s.jobSource j with
    | (.error r, s) => s.endCipher j r.1 r.2 0 []
    | (.ok src, s) =>
      let (out, good) := j.result p src
      (s.modJobC j.id (fun j => { j with out := some (out, good) })).peerMove j port out good

/-- R188, R200, R201: an inbound number is accepted. -/
def State.acceptInbound (s : State) (i num : Nat) (k : KeySlot) : State :=
  let p := if sKind k.plain = 9 then putLE k.plain 0x60 8 (min (sHard k.plain) (num + 1)) else acceptNum k.plain num
  let s := if num = sHard p ∧ k.st.testBit 1 = false then s.exhaust i k p else s.setSlotKey i p k.st
  s.softCheck i num

/-- An inline operation's end. -/
def State.completeInline (s : State) (j : CipherJob) (k : KeySlot) (pkt : Nat) (pk : Packet) : State :=
  let p := k.plain
  let oper := j.op - 16
  let b := s.pktBytes pk
  let fail := fun (s : State) (r : Nat × Nat) => s.endCipher j r.1 r.2 0 []
  let take := fun (s : State) (x : Inlined) =>
    let g := pk.growth + x.grow.toNat
    if 128 < g ∧ 0 < x.grow then
      (s.dropJobC j).count F.EDIT_STAT.MALFORMED.CNT 1 |>.slowPath pkt 2 stMalformed 4
    else
      match s.rewrite pkt pk x.grow x.bytes x.layers g with
      | (true, s) => s.endCipher j stOk 0 x.bytes.length []
      | (false, s) => s.dropJobC j
  if oper % 2 = 0 then
    match sealPacket oper p (Config.macsecAn j.session).toNat j.ctr (s.sessTpl p) b pk.layers with
    | .error e => fail s e
    | .ok x => take s x
  else
    match inView oper p b pk.layers with
    | .error e => fail s e
    | .ok v =>
      match openPacket oper p j.ctr b pk.layers v with
      | .error e => fail (s.overwriteChain pk.handle (wipeView p b v)) e
      | .ok x =>
        if oper ≠ 5 ∧ replayBad p j.ctr then fail (s.overwriteChain pk.handle (wipeView p b v)) (stAuthFail, cdReplay)
        else if oper = 5 ∧ sCounter p ≠ j.ctr then fail (s.overwriteChain pk.handle (wipeView p b v)) (stAuthFail, cdIcv)
        else take (s.acceptInbound j.session j.ctr k) x

/-- R181, R206: the next step of the end of a job whose blocks are done: it completes, or moves a TLP into its peer window. -/
def State.completeStep (s : State) (j : CipherJob) (k : KeySlot) : State :=
  match j.owner with
  | .inline pkt _ =>
    match s.pkt? pkt with
    | some pk => s.completeInline j k pkt pk
    | none => s.dropJobC j
  | .welt _ =>
    match jobOutput j.op k.plain 0 0 j.data.length (sliceB j.raw 0x20 16) j.data with
    | some out => s.endCipher j stOk 0 out.length out
    | none => s.endCipher j stAuthFail cdIcv 0 []
  | .csub _ _ _ =>
    match j.peer? with
    | some (p, _, _) => if s.groupAt 5 p = some (s.groupOf j.tenant) then s.completePeer j k.plain p else s
    | none => s.completeCsub j k.plain

/-- R208: a job whose transaction was stopped completes so once its engine is done with it. -/
def State.stoppedEnd (s : State) (j : CipherJob) (r : Nat × Nat) : State :=
  match j.stage with
  | .ended | .suspended _ => s.endCipher j r.1 r.2 j.sent []
  | _ => s

/-- R181, R206, R208: the job ends with its result, or its end goes one step on. -/
def execCipherJobComplete (id : Nat) (s : State) : Host.Outcome State Fault Refusal :=
  match s.jobC id with
  | none => .next s
  | some j =>
    match j.stop, s.keySlot j.session with
    | some r, _ => .next (s.stoppedEnd j r)
    | none, some k => if j.stage = .ended then .next (s.completeStep j k) else .next s
    | none, none => .next s

/-! ### The session record arrives (R190, R191) -/

/-- The result of a session operation goes where it was asked for: CIPHER_SESS_STATUS, or a message. -/
def State.sessDone (s : State) (o : SessOp) (r : Nat × Nat) : State :=
  let s := s.setCipher { s.cipher with ops := s.cipher.ops.filter (fun x => x.id != o.id) }
  match o.msg with
  | some m => s.unitReply sessEp m 0 [BitVec.ofNat 64 (r.1 ||| r.2 <<< 8)]
  | none =>
    ((((s.wr F.CIPHER_SESS_CMD.BUSY 0).wr F.CIPHER_SESS_CMD.GO 0).wr F.CIPHER_SESS_STATUS.DONE 1).wr
      F.CIPHER_SESS_STATUS.DETAIL r.2).wr F.CIPHER_SESS_STATUS.STATUS r.1

/-- R191: the record of a session that was fetched is unwrapped into a key slot. One that fails its check is not used: the
jobs that wait for it fail, and so do the operations but INSTALL, which takes the session as new. -/
def execSessionUnwrap (i : Nat) (s : State) : Host.Outcome State Fault Refusal :=
  match AMap.get? s.cipher.fetches i with
  | none => .next s
  | some id =>
    if s.memDone id = false then .next s
    else
      let (r, s) := s.memAccess (s.sessAddr i) 256
      match (if r = (0, 0) then s.unwrapRecord i (s.devRead (s.sessAddr i) 256) else none) with
      | some (p, st) =>
        match s.makeRoom (s.sessHome i) with
        | (false, s) => .next s
        | (true, s) => .next ((s.setCipher { s.cipher with fetches := AMap.del s.cipher.fetches i }).setSlotKey i p st)
      | none =>
        let s := s.setCipher { s.cipher with fetches := AMap.del s.cipher.fetches i,
                                             installed := if s.cipher.ops.any (fun o => o.index == i && o.op == 1)
                                               then s.cipher.installed.filter (· != i) else s.cipher.installed }
        let s := s.wr F.CIPHER_EVENT.UNWRAP_FAIL 1
        let js := s.cipher.jobs.filter (fun j => j.session == i && j.stage == .arrived && !s.jobHeld j)
        let s := js.foldl (fun s j => s.endCipher j stDeviceError cdUnwrap 0 []) s
        .next ((s.cipher.ops.filter (fun o => o.index == i && o.op != 1)).foldl (fun s o => s.sessDone o (stDeviceError, cdUnwrap)) s)

/-! ### Session operations (R193 to R198) -/

/-- The plaintext in CIPHER_SESS_DATA. -/
def State.sessData (s : State) : Bytes := (List.range 56).flatMap (fun k => toLE 4 (s.rd (F.CIPHER_SESS_DATA.W k)))

def State.setSessData (s : State) (bs : Bytes) : State :=
  (List.range 56).foldl (fun s k => s.wr (F.CIPHER_SESS_DATA.W k) (leAt bs (4 * k) 4)) s

/-- The kind of an installed session, of its slot or of its record's clear header (R190); 0 of one that is not installed. -/
def State.sessKind (s : State) (i : Nat) : Nat :=
  match s.keySlot i with
  | some k => sKind k.plain
  | none => if s.cipher.installed.contains i then leAt (s.devRead (s.sessAddr i + 4) 1) 0 1 else 0

/-- The fault of an operation before it looks at the session (R193, R194, R198). -/
def State.sessOpFault (s : State) (o : SessOp) : Option (Nat × Nat) :=
  if o.op = 0 ∨ 4 < o.op then some (stMalformed, cdKind)
  else if s.rd F.CIPHER_SESS_CFG.COUNT ≤ o.index then some (stRange, cdIndex)
  else if s.sessHome o.index = 1 ∧ s.fencedB then some (stFencedSt, cdFenced)
  else match o.msg with
    | some _ =>
      if o.op = 4 ∨ (o.op ≤ 2 ∧ sKind o.data = 10) ∨ (o.op ≠ 1 ∧ s.sessKind o.index = 10) then some (stAccessDenied, cdKeyPath) else none
    | none => if o.op = 1 ∧ !o.cobbler then some (stAccessDenied, cdKeyPath) else none

/-- R196: an operation waits: an earlier one of the session waits, the session's record is not in a slot, or, for INSTALL
and INVALIDATE, an admitted job has not ended. -/
def State.sessWaits (s : State) (o : SessOp) : Bool :=
  s.cipher.ops.any (fun x => x.index == o.index && decide (x.id < o.id)) ||
  (s.cipher.installed.contains o.index && (s.keySlot o.index).isNone) ||
  ((o.op == 1 || o.op == 3) && s.cipher.jobs.any (fun j => j.session == o.index && j.holds))

/-- INSTALL, LIMITS, INVALIDATE or READ takes effect (R193 to R195); none where no key slot is free. -/
def State.sessApply (s : State) (o : SessOp) : Option ((Nat × Nat) × State) :=
  let i := o.index
  let k := s.keySlot i
  if o.op = 1 then
    match installFault o.data k with
    | some f => some (f, s)
    | none =>
      match (if k.isSome then (true, s) else s.makeRoom (s.sessHome i)) with
      | (false, _) => none
      | (true, s) =>
        some ((stOk, 0), (s.setSlotKey i o.data 1).setCipher
          { (s.setSlotKey i o.data 1).cipher with installed := insertNat i s.cipher.installed })
  else match k with
    | none => some (if o.op = 3 then (stOk, 0) else (stAccessDenied, cdInvalid), s)
    | some k =>
      if o.op = 3 then some ((stOk, 0), s.setSlotKey i k.plain (k.st &&& 6))
      else if o.op = 4 then
        some ((stOk, 0), (s.setSessData (putB k.plain 0x14 (List.replicate 76 0#8))).wr F.CIPHER_SESS_STATUS.STATE k.st)
      else
        let p := putB k.plain 0x68 (sliceB o.data 0x68 16)
        let c := sCounter p
        let next := outboundKind (sKind p) || sKind p == 9
        let used := if next then decide (firstValue (sKind p) < c) && decide (sHard p < c - 1) else decide (sHard p < c)
        let used := used && sKind p != 1 && sKind p != 10
        some ((stOk, 0), if used ∧ !k.st.testBit 1 then s.exhaust i k p else s.setSlotKey i p k.st)

/-- An operation is judged: refused, done at once, or left waiting. -/
def State.sessRun (s : State) (o : SessOp) : State :=
  match s.sessOpFault o with
  | some f => s.sessDone o f
  | none =>
    let wait := s.setCipher { s.cipher with ops := s.cipher.ops ++ [o] }
    if s.sessWaits o then
      (if s.cipher.installed.contains o.index ∧ (s.keySlot o.index).isNone then wait.fetchSession o.index else wait)
    else match s.sessApply o with
      | some (r, s) => s.sessDone o r
      | none => wait

/-- The operation that CIPHER_SESS_CMD holds, or the message at the head of the session service's queue. -/
def State.sessNext (s : State) (svc : Bool) : Option (SessOp × State) :=
  let id := s.cipher.nextId
  let s' := s.setCipher { s.cipher with nextId := id + 1 }
  if svc then
    match s.headAt sessEp with
    | some m =>
      let w := (m.words.headD 0).toNat
      some ({ id := id, msg := some m, cobbler := false, op := w % 16, index := bitsOf w 35 16, data := sliceB (bytesOf m.words.tail) 0 224 },
        s'.setQueue sessEp (s.queueAt sessEp).tail)
    | none => none
  else if s.flag F.CIPHER_SESS_CMD.BUSY ∧ !s.cipher.ops.any (fun o => o.msg.isNone) then
    some ({ id := id, msg := none, cobbler := s.cipher.cmdCobbler, op := bitsOf s.cipher.cmdWord 55 52, index := bitsOf s.cipher.cmdWord 19 0,
            data := s.sessData }, s')
  else none

/-- The next operation, of the register or of the service, is run where it is one of those named. -/
def State.sessServe (s : State) (svc : Bool) (p : Nat → Bool) : State :=
  let s := if svc then s.dropSpoilt sessEp (fun _ => true) else s
  match s.sessNext svc with
  | some (o, s') => if p o.op then s'.sessRun o else s
  | none => s

def execInstall (svc : Bool) (s : State) : Host.Outcome State Fault Refusal := .next (s.sessServe svc (· == 1))
def execLimits (svc : Bool) (s : State) : Host.Outcome State Fault Refusal := .next (s.sessServe svc (· == 2))
def execInvalidate (svc : Bool) (s : State) : Host.Outcome State Fault Refusal := .next (s.sessServe svc (· == 3))
/-- READ; an undefined OP is answered here too. -/
def execSessionRead (svc : Bool) (s : State) : Host.Outcome State Fault Refusal :=
  .next (s.sessServe svc (fun o => o == 0 || decide (4 ≤ o)))

/-- R196: the oldest waiting operation of a session takes effect once it waits for nothing more. -/
def execSessionOpDone (i : Nat) (s : State) : Host.Outcome State Fault Refusal :=
  match s.cipher.ops.find? (fun o => o.index == i) with
  | none => .next s
  | some o =>
    if s.sessWaits o then .next (if (s.keySlot i).isNone ∧ s.cipher.installed.contains i then s.fetchSession i else s)
    else match s.sessApply o with
      | some (r, s) => .next (s.sessDone o r)
      | none => .next s

/-- A write of GO to CIPHER_SESS_CMD. -/
def State.sessGo (s : State) (cobbler : Bool) : State :=
  if s.flag F.CIPHER_SESS_CMD.BUSY then s
  else ((s.setCipher { s.cipher with cmdCobbler := cobbler, cmdWord := s.word 0x1000100 }).wr F.CIPHER_SESS_CMD.BUSY 1).wr F.CIPHER_SESS_CMD.GO 1

/-! ### Zeroization and fencing (R197, R178) -/

/-- R197: debug access opens: keys, slots and the KEK are cleared and every admitted job is aborted. -/
def State.cipherZeroize (s : State) : State :=
  let js := s.cipher.jobs.filter (fun j => j.holds)
  let s := s.setCipher { s.cipher with slots := [], installed := [], fetches := [], kek := [], engines := [] }
  (js.foldl (fun s j => s.endCipher j stAborted cdZeroized j.sent []) s).wr F.CIPHER_EVENT.ZEROIZED 1

/-- R178: every job whose home is Half B completes FENCED. -/
def State.cipherFence (s : State) : State :=
  (s.cipher.jobs.filter (fun j => j.home == 1)).foldl (fun s j => s.endCipher j stFencedSt cdFenced j.sent []) s

end Sys2Proof.Machine
end

