-- ==== Sys2Proof/Machine/Service.lean ====
section
/-! DEFINITION. Which threads may take work, and a bounded thread's start (R55, R57, R63, R82, R113, R114, R122, R431, R432). -/

namespace Sys2Proof.Machine

open Sys2Proof

/-! ### Images and entries (R57, R122) -/

/-- The bank a spindle's new work fetches from. -/
def State.activeBank (s : State) (sp : Nat) : Nat := s.rd (F.MULE_THR_STATE.ACTIVE_BANK (muleOf sp) (logOf sp))

def Spindle.image (x : Spindle) (bank : Nat) : Option Image := if bank = 0 then x.bank0 else x.bank1

/-- The image of a spindle's active bank. -/
def State.activeImage (s : State) (sp : Nat) : Option Image := (s.spindle sp).image (s.activeBank sp)

/-- R122: the entry PC a long-work thread starts at in the active image. -/
def State.longEntry (s : State) (tid : Nat) : Option Nat :=
  (s.activeImage (spOf tid)).bind (fun i => if tOf tid = 0 then i.t0 else i.long)

/-- R122, Table 2.1: the state of a bounded thread that runs nothing: IDLE, or OFF where the active image has no entry for it. -/
def State.restState (s : State) (tid : Nat) : Nat :=
  match s.activeImage (spOf tid) with
  | some i => if i.bounded = [] then tsOff else tsIdle
  | none => tsOff

/-! ### Service (R431, R432, R55) -/

/-- A position is retired. -/
def State.isRetired (s : State) (k pos : Nat) : Bool := s.repairs.contains (k, pos)

/-- A logical spindle left without a position (R431). -/
def State.unserved (s : State) (sp : Nat) : Bool :=
  let m := muleOf sp
  s.isRetired 0 (17 * m + logOf sp) && !(AMap.get? s.flt.spared m == some (logOf sp) && !s.isRetired 0 (17 * m + 16)) &&
    !s.flt.swaps.any (fun x => x.sp == sp)

/-- A spindle that a swap has stopped from taking dispatches (R432, step 1). -/
def State.swapping (s : State) (sp : Nat) : Bool := s.flt.swaps.any (fun x => x.sp == sp && decide (x.stitch < s.stitch))

/-- R55, R82, R64, R432: the thread may be chosen for work of its role: IDLE, bounded, of a spindle in RUN service. -/
def State.mayTake (s : State) (role tid : Nat) : Bool :=
  let sp := spOf tid
  decide (tid < 6144) && tOf tid != 0 && s.role sp == role && s.ts tid == tsIdle && s.runService sp && !(s.spindle sp).t0Fault &&
    !s.swapping sp && !s.unserved sp && !(decide (24 ≤ muleOf sp) && s.haltedB)

/-- R88, R113, R114: a bounded thread takes a unit of work: its slice from 0x0000, its registers, its budget, and nothing
pending. -/
def State.startThread (s : State) (tid : Nat) (bs : Bytes) (w : Work) (pc : Nat) : State :=
  let b := s.activeBank (spOf tid)
  let n := budgetOf s.stitchLen
  let t := s.clk.cycles + 64
  let s := (s.writeSlice tid 0 bs).modThr tid fun x =>
    let x := (x.setG 1 (wordOf (sliceB bs 0x1C0 8))).setG 2 (wordOf (sliceB bs 0x1C8 8))
    { x with pc := pc, bank := b, loops := [], pend := [], tickets := [], late := [], lkwStall := none, dirty := none,
             scratchOp := none, work := some w, slots := 0, budget := n, gen := x.gen + 1, retireAt := none, readyAt := t
             resv := match x.resv with | .stopped _ => .none | r => r }
  s.setTs tid tsRun

/-! ### Work items of Welt (R113, R266) -/

/-- R113, Tables 3.11 and 3.12: what the slice of a STORAGE thread holds of a work item: the SOURCE, tenant and stitch in its
descriptor, no handle, time or flow context, and a zero parse record; the item itself and the other fields are free values (log
entry 81). -/
def State.itemSlice (s : State) (source entry tenant : Nat) : Bytes :=
  let free (n : Nat) : Bytes := (List.range n).map (fun k => Config.workByte (2 ^ 20 * s.freeCtr + 512 * n + k))
  free 0x100 ++ List.replicate 64 0#8 ++ free 0x80 ++
    (toLE 4 (entry % 32 * 2 ^ 24 + source % 8 * 2 ^ 29) ++ free 2 ++ toLE 2 (tenant % 4096) ++ toLE 4 0 ++ free 4 ++ toLE 8 0 ++
      toLE 4 s.stitch ++ free 36)

/-- R55: the IDLE thread of a half's STORAGE spindles that takes the next work item: the lowest-numbered (DESIGN CHOICE, log entry
81: R55 lets any be chosen). -/
def State.storageTaker (s : State) (h : Nat) : Option Nat :=
  (List.range 384).findSome? (fun k =>
    if s.role (384 * h + k) = 1 then ((List.range 7).map (fun t => tidOf (384 * h + k) (t + 1))).find? (fun t => s.mayTake 1 t) else none)

/-- R113, R266: a STORAGE thread takes a work item of Welt, at an entry of its image that is a free value. -/
def State.storageTake (s : State) (tid source ref tenant : Nat) : State :=
  match s.activeImage (spOf tid) with
  | none => s
  | some i =>
    let e := (i.bounded.drop ((Config.workEntry s.freeCtr) % i.bounded.length)).headD (0, 0)
    let w : Work := { source := source, ref := ref, handle := (Config.commandRef ref).toNat, entry := e.1 }
    { s with freeCtr := s.freeCtr + 1 }.startThread tid (s.itemSlice source e.1 tenant) w e.2

end Sys2Proof.Machine
end

