-- ==== Sys2Proof/Machine/Welt.lean ====
section
/-! DEFINITION. The Welt block interface (chapter 08): volumes and connections, the order of commands, the write buffer and its
versions, backing commands, errors and freezing, and the admin queue. -/

namespace Sys2Proof.Machine

open Sys2Proof

/-! ### Volume contexts (Table 8.1) -/

def volUnused : Nat := 0
def volOnline : Nat := 1
def volOffline : Nat := 2

def State.volAddr (s : State) (v : Nat) : Nat := s.rd F.WELT_VOL_BASE.BASE * 4096 + 64 * v
/-- A field of a volume context. -/
def State.vol (s : State) (v off n : Nat) : Nat := leNat (s.devRead (s.volAddr v + off) n)
def State.setVol (s : State) (v off n x : Nat) : State := s.devWrite (s.volAddr v + off) (toLE n x)
def State.volState (s : State) (v : Nat) : Nat := s.vol v 0 1
def State.volFlag (s : State) (v k : Nat) : Bool := (s.vol v 1 1).testBit k
def vfBs4k : Nat := 0
def vfEncrypt : Nat := 1
def vfRemote : Nat := 2
def vfReadonly : Nat := 3
def State.volTenant (s : State) (v : Nat) : Nat := s.vol v 4 2 % 4096
def State.volBackend (s : State) (v : Nat) : Nat := s.vol v 6 2
/-- Bytes of a block of a volume. -/
def State.volBlock (s : State) (v : Nat) : Nat := if s.volFlag v vfBs4k then 4096 else 512

def State.conn (s : State) (c : Nat) : Conn := AMap.getD s.welt.conns c ⟨List.replicate 256 0#8, false, none, 0, none⟩
def State.setConn (s : State) (c : Nat) (x : Conn) : State := s.setWelt { s.welt with conns := AMap.set s.welt.conns c x }

/-- R267: the home half of a volume: that of its Eyelet link, or of its connection's Ethernet port. -/
def State.volHome (s : State) (v : Nat) : Nat :=
  if s.volFlag v vfRemote then leAt (s.conn (s.volBackend v % 256)).desc 0 1 / 8 else s.volBackend v % 16 / 8

/-- An event of Welt. -/
def weltEvent (kind vol queue : Nat) : Nat := kind <<< 60 ||| vol <<< 32 ||| queue

/-! ### Commands in flight -/

def State.weltCmd (s : State) (id : Nat) : Option WeltCmd := s.welt.cmds.find? (fun c => c.id == id)
def State.modCmd (s : State) (id : Nat) (f : WeltCmd → WeltCmd) : State :=
  s.setWelt { s.welt with cmds := s.welt.cmds.map (fun c => if c.id = id then f c else c) }
/-- R277: WRITE, WRITE_ZEROES and DEALLOCATE. -/
def WeltCmd.writing (c : WeltCmd) : Bool := c.op == 2 || c.op == 4 || c.op == 5
def WeltCmd.reading (c : WeltCmd) : Bool := c.op == 1 || c.op == 6
/-- R276: two commands share a block of a volume. -/
def WeltCmd.overlaps (a b : WeltCmd) : Bool :=
  a.vol == b.vol && a.op != 3 && b.op != 3 && decide (a.slba < b.slba + b.blocks) && decide (b.slba < a.slba + a.blocks)
/-- The backing has not answered a command issued to it (R281, R285). -/
def WeltCmd.unanswered (c : WeltCmd) : Bool := c.issued && c.back.any (fun b => b.status.isNone)
/-- A READ or COMPARE has every byte it takes (R281). -/
def WeltCmd.takenAll (c : WeltCmd) : Bool := c.resolved && (List.range c.blocks).all (fun k => (AMap.get? c.got k).isSome)

/-- Pages of the write buffer that are given back (R279). -/
def State.freePages (s : State) (v n : Nat) : State :=
  if n = 0 then s
  else
    let h := s.volHome v
    (s.wr (F.WELT_WBUF_USE.PAGES h) (s.rd (F.WELT_WBUF_USE.PAGES h) - n)).setVol v 0x24 4 (s.vol v 0x24 4 - n)

/-- A command that has ended leaves once neither the backing nor a reader holds it: its version is released (R279, R296). -/
def State.reapCmd (s : State) (id : Nat) : State :=
  match s.weltCmd id with
  | none => s
  | some c =>
    if c.stage = .ended ∧ c.unanswered = false ∧ !s.welt.cmds.any (fun x => x.stage != .ended && x.holds.contains id) then
      (s.freePages c.vol c.pages).setWelt { (s.freePages c.vol c.pages).welt with cmds := s.welt.cmds.filter (fun x => x.id != id) }
    else s

def State.reapAll (s : State) : State := (s.welt.cmds.filter (fun c => c.stage == .ended)).foldl (fun s c => s.reapCmd c.id) s

/-- A command is complete to the host. Its bobbins and holds are released; where `keep` says so its version stays until the
backing has answered it and no reader holds it, else the version and its pages are released now (R279, R282, R285, R296). -/
def State.closeWith (s : State) (id : Nat) (keep : WeltCmd → Bool) : State :=
  match s.weltCmd id with
  | none => s
  | some c =>
    let s := c.handles.foldl (fun s h => s.dropChain h) s
    let s := s.setCipher { s.cipher with
      jobs := s.cipher.jobs.filter (fun j => j.owner != .welt id || j.holds), results := s.cipher.results.filter (fun r => r.1 != id) }
    let s := if keep c then s else s.freePages c.vol c.pages
    (s.modCmd id (fun x => { x with stage := .ended, handles := [], holds := [], got := [], ready := none,
                                    version := if keep c then c.version else none, pages := if keep c then c.pages else 0 })).reapAll

def State.closeCmd (s : State) (id : Nat) (ok : Bool) : State := s.closeWith id (fun _ => ok)

/-- R296: commands whose jobs were aborted or torn down: one that the backing has not answered keeps its place, every other is
gone with its version. -/
def State.weltSweep (s : State) : State :=
  (s.welt.cmds.filter (fun c => c.stage != .ended && (s.liveJob c.wq c.first).isNone)).foldl (fun s c => s.closeWith c.id (fun x => x.unanswered)) s

/-! ### Ends of commands (R275, R286, R289, R293) -/

/-- R286, steps 1 and 3: the queue freezes: fetching stops, and fetched commands that have not started are dropped and stay in
the ring. -/
def State.startFreeze (s : State) (n : Nat) : State :=
  let s := s.dropFetch n
  match s.wq? n with
  | none => s
  | some w =>
    let drop (j : Job) : Bool := j.notStarted && j.stage != .faulting
    let fi := match w.jobs.find? drop with | some j => j.first | none => w.fi
    let ids := (s.welt.cmds.filter (fun c => c.wq == n && c.stage != .ended && w.jobs.any (fun j => drop j && j.first == c.first))).map
      (fun c => c.id)
    let s := s.setWq n { w with freeze := true, fi := fi, jobs := w.jobs.filter (fun j => !drop j) }
    ids.foldl (fun s id => s.closeCmd id false) s

/-- R289, R286: a command error: the record of the queue, and of an I/O queue without PERCMD_STATUS its freeze. -/
def State.commandError (s : State) (n : Nat) (j : Job) (status detail seq : Nat) (admin : Bool) (x : WeltErr) : State :=
  let s := s.recordError n j status detail seq admin x
  if (s.wq? n).any (fun w => !w.percmd && !admin && !w.freeze) then s.startFreeze n else s

/-- R275: a storage command ends: its completion is to be reported, and its effects on counts, records and the queue
follow. -/
def State.endStorage (s : State) (n : Nat) (j : Job) (status detail length extra seq : Nat) (hit admin : Bool) (x : WeltErr) : State :=
  let f := match s.wq? n with | some w => w.func | none => 0
  let cid := if admin then 0 else leAt (j.entries.headD []) 8 2
  let s := (s.modJob n j.first (fun y => { y with stage := .started })).health f 0 1
  let s := if status ≠ stOk ∧ detail ≠ wdCaught then s.commandError n j status detail seq admin x else s
  s.endJob n j.first ⟨status, detail, j.first ||| cid <<< 32 ||| extra <<< 48, length, if hit then 2 else 0⟩

/-- An I/O command ends. LENGTH of a WRITE is what it moved, whatever its end (R275). -/
def State.endCmd (s : State) (c : WeltCmd) (status detail length : Nat) (x : WeltErr) : State :=
  match s.liveJob c.wq c.first with
  | none => s.closeWith c.id (fun x => x.unanswered)
  | some j =>
    let ok := status == stOk
    let moved := s.movedBytes j
    let s := (s.endStorage c.wq j status detail (if c.op = 2 then moved else length) 0 c.seq c.hit false x).opCount c.op
    let s := if ok ∧ c.op = 1 then s.health c.func 2 c.blocks else if ok ∧ c.writing then s.health c.func 3 c.blocks else s
    let s := if c.hit then (s.count F.WELT_STAT.BUF_HITS.CNT 1).health c.func 4 (if c.op = 1 then 1 else 0) else s
    let s := if detail = wdTimeout ∧ status = stTimeout then (s.count F.WELT_STAT.BACKING_TIMEOUTS.CNT 1).health c.func 7 1 else s
    s.closeCmd c.id ok

/-! ### Numbering (R276) -/

/-- A function's admin queue (R272). -/
def State.isAdmin (s : State) (n : Nat) (w : Wq) : Bool := w.type == qtStorage && s.pairOf w.func n == 0

/-- I/O jobs that have no number yet. -/
def State.unnumbered (s : State) : List (Nat × Wq × Job) :=
  s.q.wqs.flatMap (fun (e : Nat × Wq) =>
    if e.2.type = qtStorage ∧ e.1 < 65536 ∧ !s.isAdmin e.1 e.2 then
      (e.2.jobs.filter (fun j => j.notStarted && j.stage != .faulting && (s.cmdOf e.1 j.first).isNone)).map (fun j => (e.1, e.2, j))
    else [])

def jobVol (j : Job) : Nat := leAt (j.entries.headD []) 0x0A 2

/-- R276: fetch order: by arrival, Half A's first within a cycle, then by WQ number, then in ring order. -/
def fetchedBefore (a b : Nat × Wq × Job) : Bool :=
  let ka := a.2.2.since
  let kb := b.2.2.since
  decide (ka < kb) || (ka == kb && (decide (a.2.1.home < b.2.1.home) || (a.2.1.home == b.2.1.home &&
    (decide (a.1 < b.1) || (a.1 == b.1 && decide (a.2.1.dist a.2.2.first a.2.1.ci < a.2.1.dist b.2.2.first a.2.1.ci))))))

/-- R276: an I/O job takes its volume's next SEQ, if no other job of the volume goes first. A volume number beyond 16,383
cannot occur, and a volume that is UNUSED numbers nothing. -/
def State.numberCmd (s : State) (op n first : Nat) : State :=
  match s.unnumbered.find? (fun x => x.1 == n && x.2.2.first == first) with
  | none => s
  | some x =>
    let v := jobVol x.2.2
    if x.2.2.opcode ≠ op ∨ s.unnumbered.any (fun y => jobVol y.2.2 == v && fetchedBefore y x) then s
    else
      let e := x.2.2.entries.headD []
      let known := s.volState v != volUnused
      let seq := if known then s.vol v 0x28 8 else 0
      let c : WeltCmd :=
        { id := s.welt.nextId, wq := n, first := first, last := x.2.2.last, op := op, vol := v, seq := seq, slba := leAt e 0x10 8,
          blocks := leAt e 0x0C 2 + 1, func := x.2.1.func, stage := .numbered, pages := 0, sealing := false,
          ready := none, version := none, resolved := false, holds := [], got := [], back := [], issued := false, handles := [],
          hit := false }
      let s := if known then s.setVol v 0x28 8 (seq + 1) else s
      s.setWelt { s.welt with cmds := s.welt.cmds ++ [c], nextId := s.welt.nextId + 1 }

/-! ### Starting (R274, R277, R279) -/

/-- R274, R297: the first check of a started command that fails. -/
def State.startFault (s : State) (c : WeltCmd) (j : Job) : Option (Nat × Nat) :=
  let v := c.vol
  if s.flag F.WELT_CFG.EN = false then some (stAccessDenied, wdOffline)
  else if s.volState v = volUnused then some (stRange, wdVolRange)
  else if s.volHome v = 1 ∧ s.fencedB then some (stFencedSt, wdFenced)
  else if c.func ≠ 0 ∧ c.func ≠ s.vol v 2 2 then some (stAccessDenied, wdNotAttached)
  else if s.volState v ≠ volOnline then some (stAccessDenied, wdOffline)
  else if c.writing ∧ s.volFlag v vfReadonly then some (stAccessDenied, wdReadonly)
  else if c.op ≠ 3 ∧ s.vol v 0x10 8 < c.slba + c.blocks then some (stRange, wdLbaRange)
  else if (c.op = 1 ∨ c.op = 2 ∨ c.op = 6) ∧
      (1048576 < c.blocks * s.volBlock v ∨ segSum (jobSegs qtStorage j.entries) ≠ c.blocks * s.volBlock v ∨
       (jobSegs qtStorage j.entries).any (fun g => g.addr % 4 != 0 || g.len % 4 != 0)) then some (stRange, wdXferLen)
  else none

def State.pagesOf (s : State) (c : WeltCmd) : Nat := (c.blocks * s.volBlock c.vol + 4095) / 4096

/-- R279: the pages of a WRITE can be reserved now. -/
def State.pagesFree (s : State) (c : WeltCmd) : Bool :=
  let h := s.volHome c.vol
  decide (s.vol c.vol 0x24 4 + s.pagesOf c ≤ s.vol c.vol 0x20 4) &&
  decide (s.rd (F.WELT_WBUF_USE.PAGES h) + s.pagesOf c ≤ s.rd (F.WELT_WBUF_SIZE.PAGES h)) &&
  !s.welt.cmds.any (fun x => x.stage == .waiting && x.vol == c.vol && decide (x.seq < c.seq))

/-- A command starts. A WRITE_ZEROES of an unencrypted volume enters its zero version at once. -/
def State.startCmd (s : State) (c : WeltCmd) (pages : Nat) : State :=
  let h := s.volHome c.vol
  let s := if pages = 0 then s
    else (s.wr (F.WELT_WBUF_USE.PAGES h) (s.rd (F.WELT_WBUF_USE.PAGES h) + pages)).setVol c.vol 0x24 4 (s.vol c.vol 0x24 4 + pages)
  (s.modCmd c.id (fun c => { c with stage := .started, pages := pages, version := if c.op = 4 then some [] else c.version })).modJob
    c.wq c.first (fun j => { j with stage := .started })

/-- R277: the earlier commands of the WQ have started. -/
def State.inOrder (s : State) (c : WeltCmd) : Bool :=
  match s.wq? c.wq with
  | none => false
  | some w => (w.jobs.takeWhile (fun j => j.first != c.first)).all (fun j => !j.notStarted)

/-- R274, R279: a command that has started is checked; one that passes goes on, and a WRITE without pages waits. -/
def State.runCheck (s : State) (c : WeltCmd) (j : Job) : State :=
  match s.startFault c j with
  | some r => s.endCmd c r.1 r.2 0 noErr
  | none =>
    if c.op = 2 then
      if s.pagesFree c then s.startCmd c (s.pagesOf c)
      else (s.modCmd c.id (fun c => { c with stage := .waiting })).count F.WELT_STAT.WBUF_WAITS.CNT 1
    else s.startCmd c 0

/-- R277, R266: a command is dispatched as SOURCE 4 to a STORAGE thread in a class 1 service unit of its volume's tenant, in the fetch
order of its WQ, and checked. While Welt is disabled, or where the volume's half is fenced, it is answered at once (R297, R299);
while fetching is paused for an activation none starts (R295). -/
def execCommandStart (id : Nat) (s : State) : Host.Outcome State Fault Refusal :=
  let s := s.weltSweep
  match s.weltCmd id with
  | none => .next s
  | some c =>
    match s.liveJob c.wq c.first with
    | none => .next s
    | some j =>
      let h := s.volHome c.vol
      if c.stage ≠ .numbered ∨ j.stage ≠ .unstarted ∨ s.inOrder c = false then .next s
      else if s.flag F.WELT_CFG.EN = false ∨ (h = 1 ∧ s.fencedB) then .next (s.runCheck c j)
      else if s.flag F.WELT_ACT.PAUSED ∨ s.groupAt 1 h ≠ some (s.groupOf (s.volTenant c.vol)) then .next s
      else match s.storageTaker h with
        | none => .next s
        | some tid => .next (((s.useDispatch h).storageTake tid 4 id (s.volTenant c.vol)).runCheck c j)

/-- R279: a waiting WRITE obtains its pages; one whose volume has gone OFFLINE completes so. -/
def execWbufReserve (id : Nat) (s : State) : Host.Outcome State Fault Refusal :=
  let s := s.weltSweep
  match s.weltCmd id with
  | none => .next s
  | some c =>
    if c.stage ≠ .waiting then .next s
    else if s.volState c.vol ≠ volOnline then .next (s.endCmd c stAccessDenied wdOffline 0 noErr)
    else if s.pagesFree c then .next (s.startCmd c (s.pagesOf c)) else .next s

/-! ### Host data and the cipher (R277, R283) -/

/-- The next host read of a command, or its data once all have come. -/
inductive Gathered where
  | wait | failed (status : Nat) | data (bs : Bytes)

def State.gather (s : State) (c : WeltCmd) : Gathered × State :=
  match s.wq? c.wq, s.liveJob c.wq c.first with
  | some w, some j =>
    let reads := s.jobReads w j
    if j.legs.length < reads.length then (.wait, s.issueLegs c.wq w (s.volTenant c.vol) j reads)
    else match s.legResults j.legs with
      | none => (.wait, s)
      | some rs =>
        match rs.find? (fun r => r.1 != 0) with
        | some r => (.failed r.1, s)
        | none => (.data (rs.flatMap (fun r => r.2)), s)
  | _, _ => (.wait, s)

/-- What the cipher unit has made of a command's data. -/
inductive Sealed where
  | wait | failed (status detail : Nat) | data (bs : Bytes)

/-- R277, R278: bytes of the write buffer of a command's volume move in class 3 service units of its tenant's group, at the channels of
the buffer's first page (log entry 81). -/
def State.wbufWork (s : State) (c : WeltCmd) (n : Nat) (write : Bool) : State :=
  let h := s.volHome c.vol
  s.oweMem h (s.groupOf (s.volTenant c.vol)) (s.rd (F.WELT_WBUF_BASE.BASE h) * 4096) n write

/-- R283: a command's data passes through its volume's session, once; then its result. A reader's bytes are copied then, and it holds no
version any more (R280). -/
def State.seal (s : State) (c : WeltCmd) (op : Nat) (bs : Bytes) : Sealed × State :=
  if s.volFlag c.vol vfEncrypt = false then (.data bs, s)
  else if c.sealing = false then
    let raw := putB (List.replicate 64 0#8) 0x20 (toLE 8 c.slba)
    let s := s.submitJob (s.volHome c.vol) (.welt c.id) op (s.vol c.vol 0x0C 4 % 2 ^ 20) 1 raw bs
    (.wait, (s.modCmd c.id (fun c => { c with sealing := true, holds := [] })).reapAll)
  else match s.cipher.results.find? (fun r => r.1 == c.id) with
    | none => (.wait, s)
    | some r => (if r.2.1 = stOk then .data r.2.2.2 else .failed r.2.1 r.2.2.1, s)

def cipherErr (d : Nat) : WeltErr := { noErr with cipher := d }

/-- WRITE (R276, R279): the command is numbered; started, it reads its host data and encrypts it. -/
def execWrite (n first : Nat) (s : State) : Host.Outcome State Fault Refusal :=
  let s := s.weltSweep
  match s.cmdOf n first with
  | none => .next (s.numberCmd 2 n first)
  | some c =>
    if c.op ≠ 2 ∨ c.stage ≠ .started ∨ c.ready.isSome ∨ c.version.isSome then .next s
    else match s.gather c with
      | (.wait, s) => .next s
      | (.failed st, s) => .next (s.endCmd c st qdBufFault 0 noErr)
      | (.data bs, s) =>
        match s.seal c 1 bs with
        | (.wait, s) => .next s
        | (.failed st d, s) => .next (s.endCmd c st wdCipher 0 (cipherErr d))
        | (.data out, s) => .next (s.modCmd c.id (fun c => { c with ready := some out }))

/-- R279: the last byte of a WRITE's data is in place and its version becomes visible. -/
def execVersionVisible (id : Nat) (s : State) : Host.Outcome State Fault Refusal :=
  let s := s.weltSweep
  match s.weltCmd id with
  | none => .next s
  | some c =>
    if c.op = 2 ∧ c.stage = .started ∧ c.ready.isSome ∧ c.version.isNone then
      .next ((s.wbufWork c (c.blocks * s.volBlock c.vol) true).modCmd id (fun c => { c with version := c.ready, ready := none }))
    else .next s

/-- WRITE_ZEROES (R277): the command is numbered; started on an encrypted volume, it has its zero blocks encrypted. -/
def execWriteZeroes (n first : Nat) (s : State) : Host.Outcome State Fault Refusal :=
  let s := s.weltSweep
  match s.cmdOf n first with
  | none => .next (s.numberCmd 4 n first)
  | some c =>
    if c.op ≠ 4 ∨ c.stage ≠ .started ∨ c.ready.isSome ∨ c.issued then .next s
    else match s.seal c 1 (List.replicate (c.blocks * s.volBlock c.vol) 0#8) with
      | (.wait, s) => .next s
      | (.failed st d, s) => .next (s.endCmd c st wdCipher 0 (cipherErr d))
      | (.data out, s) => .next (s.modCmd c.id (fun c => { c with ready := some out }))

def execDeallocate (n first : Nat) (s : State) : Host.Outcome State Fault Refusal := .next (s.weltSweep.numberCmd 5 n first)
def execFlush (n first : Nat) (s : State) : Host.Outcome State Fault Refusal := .next (s.weltSweep.numberCmd 3 n first)

/-! ### Reads (R280) -/

/-- Open writing commands before a command in fetch order that overlap it. -/
def State.earlierWriters (s : State) (c : WeltCmd) : List WeltCmd :=
  s.welt.cmds.filter (fun x => x.writing && x.overlaps c && decide (x.seq < c.seq))

/-- R280: an earlier overlapping writing command no longer keeps a READ waiting. -/
def WeltCmd.settled (x : WeltCmd) : Bool :=
  x.version.isSome || x.stage == .ended || (x.op == 5 && x.issued && !x.unanswered)

/-- R280, steps 1 to 3: the version that block `b` is taken from, or none for the backing. -/
def State.sourceOf (s : State) (c : WeltCmd) (b : Nat) : Option WeltCmd :=
  let ws := (s.earlierWriters c).filter (fun x => decide (x.slba ≤ b) && decide (b < x.slba + x.blocks))
  let d := ws.foldl (fun n x => if x.op = 5 then max n (x.seq + 1) else n) 0
  (ws.filter (fun x => x.version.isSome && decide (d ≤ x.seq))).foldl (fun (o : Option WeltCmd) x =>
    match o with
    | some y => if y.seq < x.seq then some x else o
    | none => some x) none

/-- The bytes of block `b` of a version; none for a zero block. -/
def WeltCmd.blockBytes (x : WeltCmd) (b size : Nat) : Option Bytes :=
  if x.op = 4 then none else x.version.map (fun v => sliceB v ((b - x.slba) * size) size)

/-- R280: the READ or COMPARE resolves its blocks. -/
def State.resolve (s : State) (c : WeltCmd) : State :=
  let size := s.volBlock c.vol
  let src := (List.range c.blocks).map (fun k => (k, s.sourceOf c (c.slba + k)))
  let got := src.filterMap (fun (p : Nat × Option WeltCmd) => p.2.map (fun x => (p.1, x.blockBytes (c.slba + p.1) size)))
  let ids := (src.filterMap (fun (p : Nat × Option WeltCmd) => p.2.map (fun x => x.id))).eraseDups
  (s.wbufWork c (size * (got.filter (fun p => p.2.isSome)).length) false).modCmd c.id (fun c =>
    { c with resolved := true, holds := ids, got := got, hit := !ids.isEmpty })

/-- R280: a started READ or COMPARE whose earlier overlapping writers are settled resolves each block. -/
def execReadResolve (id : Nat) (s : State) : Host.Outcome State Fault Refusal :=
  let s := s.weltSweep
  match s.weltCmd id with
  | none => .next s
  | some c =>
    if c.reading ∧ c.stage = .started ∧ c.resolved = false ∧ (s.earlierWriters c).all (fun x => x.settled) then .next (s.resolve c)
    else .next s

/-- The plaintext of a READ or COMPARE once every block is there and decrypted; zero blocks read as zeros (R277, R283). -/
def State.plainOf (s : State) (c : WeltCmd) : Sealed × State :=
  if c.takenAll = false then (.wait, s)
  else
    let size := s.volBlock c.vol
    let zeros := List.replicate size 0#8
    let block := fun (k : Nat) => (AMap.getD c.got k none).getD zeros
    match s.seal c 2 ((List.range c.blocks).flatMap block) with
    | (.data bs, s) =>
      (.data ((List.range c.blocks).flatMap (fun k =>
        if (AMap.getD c.got k none).isNone then zeros else sliceB bs (k * size) size)), s)
    | r => r

/-- Bytes laid over segments: each with its part. -/
def overSegs : List Seg → Bytes → List (Nat × Bytes)
  | [], _ => []
  | g :: t, bs => (g.addr, bs.take g.len) :: overSegs t (bs.drop g.len)

/-- Data goes to the addresses of a queue, charged to the group of a tenant (R229): the first fault, or 0, and the bytes written on top
of `n`. -/
def State.dataGo (s : State) (w : Wq) (g : Nat) : List (Nat × Bytes) → Nat → (Nat × Nat) × State
  | [], n => ((0, n), s)
  | (a, bs) :: t, n =>
    if w.ringLoc then
      let (r, s) := s.memAccess a bs.length
      if r = (0, 0) then ((s.devWrite a bs).oweMem w.home g a bs.length true).dataGo w g t (n + bs.length) else ((r.1, n), s)
    else ((s.hostPost w.func a bs).owe 4 w.home g (tlpsOf bs.length)).dataGo w g t (n + bs.length)

/-- R214: data goes to host memory, or to device memory of which the queue's tenant owns every byte; nothing is written otherwise. -/
def State.dataOut (s : State) (w : Wq) (tenant : Nat) (l : List (Nat × Bytes)) : (Nat × Nat) × State :=
  if w.ringLoc ∧ l.any (fun p => !s.ownedBy w.tenant p.1 p.2.length) then ((stAccessDenied, 0), s)
  else s.dataGo w (s.groupOf tenant) l 0

/-- READ (R276, R280): the command is numbered; once its blocks have come it returns them, in class 4 service units of its volume's
tenant where they go to the host (R277). -/
def execRead (n first : Nat) (s : State) : Host.Outcome State Fault Refusal :=
  let s := s.weltSweep
  match s.cmdOf n first with
  | none => .next (s.numberCmd 1 n first)
  | some c =>
    if c.op ≠ 1 ∨ c.stage ≠ .started then .next s
    else match s.plainOf c with
      | (.wait, s) => .next s
      | (.failed st d, s) => .next (s.endCmd c st wdCipher 0 (cipherErr d))
      | (.data bs, s) =>
        match s.wq? n, s.liveJob n first with
        | some w, some j =>
          if s.hostWaits w.home w.func w.ringLoc ∨ (w.ringLoc = false ∧ s.groupAt 4 w.home ≠ some (s.groupOf (s.volTenant c.vol))) then .next s
          else
            let (r, s) := s.dataOut w (s.volTenant c.vol) (overSegs (jobSegs qtStorage j.entries) bs)
            let s := if w.ringLoc then s else s.settle 4 w.home
            if r.1 = 0 then .next (s.endCmd c stOk 0 r.2 noErr) else .next (s.endCmd c r.1 qdBufFault r.2 noErr)
        | _, _ => .next s

/-- Bytes that are equal before the first difference. -/
def equalPrefix : Bytes → Bytes → Nat
  | a :: t, b :: u => if a = b then equalPrefix t u + 1 else 0
  | _, _ => 0

/-- COMPARE (R277): the command is numbered; once its host data and its blocks have come, they are compared. -/
def execCompare (n first : Nat) (s : State) : Host.Outcome State Fault Refusal :=
  let s := s.weltSweep
  match s.cmdOf n first with
  | none => .next (s.numberCmd 6 n first)
  | some c =>
    if c.op ≠ 6 ∨ c.stage ≠ .started then .next s
    else match s.gather c with
      | (.wait, s) => .next s
      | (.failed st, s) => .next (s.endCmd c st qdBufFault 0 noErr)
      | (.data host, s) =>
        match s.plainOf c with
        | (.wait, s) => .next s
        | (.failed st d, s) => .next (s.endCmd c st wdCipher 0 (cipherErr d))
        | (.data bs, s) =>
          if host = bs then .next (s.endCmd c stOk 0 bs.length noErr)
          else
            let k := equalPrefix host bs
            .next (s.endCmd c stRange wdMiscompare k { noErr with lba := c.slba + k / s.volBlock c.vol })

/-! ### The backing (R281 to R285) -/

/-- The backing holds nothing of a writing command back any more: it has answered, or the command failed before it was issued. -/
def WeltCmd.atRest (x : WeltCmd) : Bool := (x.issued && !x.unanswered) || (x.stage == .ended && !x.issued)

/-- R280, step 1: the last DEALLOCATE before a READ or COMPARE that covers block `b`. -/
def State.lastDealloc (s : State) (c : WeltCmd) (b : Nat) : Option WeltCmd :=
  ((s.earlierWriters c).filter (fun x => x.op == 5 && decide (x.slba ≤ b) && decide (b < x.slba + x.blocks))).foldl
    (fun (o : Option WeltCmd) x => match o with
      | some y => if y.seq < x.seq then some x else o
      | none => some x) none

/-- R281: no earlier overlapping command keeps this one from the backing: a reader has all its bytes, and has copied those of the
versions it held. -/
def State.mayIssue (s : State) (c : WeltCmd) : Bool :=
  if c.reading then
    (List.range c.blocks).all (fun k => (AMap.get? c.got k).isSome ||
      (match s.lastDealloc c (c.slba + k) with | some x => x.atRest | none => true))
  else s.welt.cmds.all (fun x => !(x.overlaps c && decide (x.seq < c.seq)) ||
    (if x.writing then x.atRest else x.stage == .ended || (x.takenAll && x.holds.isEmpty)))

/-- Runs of at most `m` blocks (0: no limit) of the blocks that pass a test. -/
def runsOf (p : Nat → Bool) (m : Nat) : List Nat → Option (Nat × Nat) → List (Nat × Nat)
  | [], some r => [r]
  | [], none => []
  | k :: t, cur =>
    if p k then
      match cur with
      | some (a, n) => if n = m ∧ m ≠ 0 then (a, n) :: runsOf p m t (some (k, 1)) else runsOf p m t (some (a, n + 1))
      | none => runsOf p m t (some (k, 1))
    else match cur with
      | some r => r :: runsOf p m t none
      | none => runsOf p m t none

/-- The NVMe opcode of a command toward the backing (R270, R277). -/
def State.nvmeOp (s : State) (c : WeltCmd) : Nat :=
  if c.reading then 2 else if c.op = 2 then 1 else if c.op = 5 then 9 else if s.volFlag c.vol vfEncrypt then 1 else 8

/-- R268, R277: the backing commands of a command go out, each of at most `m` blocks. -/
def State.issueBacking (s : State) (c : WeltCmd) (m : Nat) : State :=
  let size := s.volBlock c.vol
  let all := List.range c.blocks
  let need := fun (k : Nat) => !c.reading || (AMap.get? c.got k).isNone
  let runs := if c.op = 5 then [(0, c.blocks)] else runsOf need m all none
  let op := s.nvmeOp c
  let data := if op = 1 then (if c.op = 4 then c.ready.getD [] else c.version.getD []) else []
  let sh := s.vol c.vol 0x30 1
  let s := if c.op = 2 then s.wbufWork c data.length false else s
  let s := if s.volFlag c.vol vfRemote then s
    else s.owe 5 (s.volBackend c.vol % 16 / 4) (s.groupOf (s.volTenant c.vol)) (tlpsOf data.length)
  let s := (runs.zipIdx).foldl (fun s (r : (Nat × Nat) × Nat) =>
    s.emit (.nvme c.vol c.id r.2 op (op == 1 || op == 8) (s.vol c.vol 8 4) (s.vol c.vol 0x18 8 + (c.slba + r.1.1) * 2 ^ sh) (r.1.2 * 2 ^ sh)
      (if op = 1 then sliceB data (r.1.1 * size) (r.1.2 * size) else []))) s
  s.modCmd c.id (fun c => { c with issued := true, ready := none,
                                   back := runs.map (fun r => ⟨c.slba + r.1, r.2, s.clk.time, none, false⟩) })

/-- R277: a backing command goes out: to a local volume in a class 5 service unit of its tenant's group. -/
def State.backTurn (s : State) (v : Nat) (k : State → State) : State :=
  let p := s.volBackend v % 16 / 4
  if s.volFlag v vfRemote then k s
  else if s.groupAt 5 p = some (s.groupOf (s.volTenant v)) then k (s.useChoice 5 p) else s

/-- R281: a started command is issued to its backing, in pieces of at most `m` blocks, the backing's largest transfer. -/
def execBackingIssue (id m : Nat) (s : State) : Host.Outcome State Fault Refusal :=
  let s := s.weltSweep
  match s.weltCmd id with
  | none => .next s
  | some c =>
    let ready := if c.op = 2 then c.version.isSome
      else if c.op = 4 then !s.volFlag c.vol vfEncrypt || c.ready.isSome
      else if c.reading then c.resolved && !c.takenAll else c.op == 5
    if c.stage ≠ .started ∨ c.issued ∨ ready = false ∨ s.mayIssue c = false then .next s
    else .next (s.backTurn c.vol (fun s => s.issueBacking c m))

/-- R284: a FLUSH whose earlier writing commands have completed issues its NVMe Flush. -/
def execFlushIssue (id : Nat) (s : State) : Host.Outcome State Fault Refusal :=
  let s := s.weltSweep
  match s.weltCmd id with
  | none => .next s
  | some c =>
    let early := s.welt.cmds.any (fun x => x.vol == c.vol && x.writing && x.stage != .ended && decide (x.seq < c.seq))
    if c.op ≠ 3 ∨ c.stage ≠ .started ∨ c.issued ∨ early then .next s
    else .next (s.backTurn c.vol (fun s => (s.emit (.nvme c.vol id 0 0 false (s.vol c.vol 8 4) 0 0 [])).modCmd id (fun c =>
      { c with issued := true, back := [⟨0, 0, s.clk.time, none, false⟩] })))

/-- NVMe status: success, and a media or data integrity error (SCT 2). -/
def nvmeOk (st : Nat) : Bool := st % 2 ^ 11 == 0
def nvmeMedia (st : Nat) : Bool := bitsOf st 10 8 == 2

/-- R282: every part is answered: the command ends with the first failure, or OK. -/
def State.answered (s : State) (c : WeltCmd) : State :=
  match c.back.find? (fun b => !nvmeOk (b.status.getD 0)) with
  | some b =>
    let st := b.status.getD 0
    let x : WeltErr := ⟨0, st % 2 ^ 15, if nvmeMedia st then b.lba else 2 ^ 64 - 1⟩
    if nvmeMedia st then s.endCmd c stMedia wdMedia 0 x else s.endCmd c stDeviceError wdStatus 0 x
  | none => if c.reading then s else s.endCmd c stOk 0 (if c.op = 2 then c.blocks * s.volBlock c.vol else 0) noErr

/-- R283: the data of a read lands in bobbins of the volume's tenant. -/
def State.landData (s : State) (c : WeltCmd) (b : BackCmd) (data : Bytes) : Option State :=
  let size := s.volBlock c.vol
  let h := s.volHome c.vol
  match s.storePacket h (s.volTenant c.vol) (queueEp h) 0 false (sliceB data 0 (b.nlb * size)) with
  | (none, _) => none
  | (some hd, s) =>
    let got := (List.range b.nlb).foldl (fun m k => AMap.set m (b.lba - c.slba + k) (some (sliceB data (k * size) size))) c.got
    some (s.modCmd c.id (fun c => { c with got := got, handles := c.handles ++ [hd] }))

/-- R266, R277: an answer of the backing to a command that is open is dispatched as SOURCE 5 to a STORAGE thread, in a class 1 service
unit that the group owes; the data of a local volume has moved in class 5. None where no thread is IDLE. -/
def State.answerWork (s : State) (c : WeltCmd) (n : Nat) : Option State :=
  let h := s.volHome c.vol
  let g := s.groupOf (s.volTenant c.vol)
  if c.stage ≠ .started then some s
  else (s.storageTaker h).map (fun tid =>
    let s := (s.owe 1 h g 1).storageTake tid 5 c.id (s.volTenant c.vol)
    if s.volFlag c.vol vfRemote then s else s.owe 5 (s.volBackend c.vol % 16 / 4) g (tlpsOf n))

/-- R277: the backing answers part `k` of a command with an NVMe status, and, for a read, its data; so it does where its queue is
deleted on the controller (status 0x08, R285). The answer waits where no STORAGE thread is IDLE or the tenant has no bobbin for the
data. -/
def execBackingCompletion (id k status : Nat) (data : List Byte) (s : State) : Host.Outcome State Fault Refusal :=
  let s := s.weltSweep
  match s.weltCmd id with
  | none => .next s
  | some c =>
    match c.back[k]? with
    | none => .next s
    | some b =>
      if b.status.isSome then .next s
      else
        let lands := c.reading && c.stage == .started && nvmeOk status
        match (if lands then s.landData c b data else some s).bind (fun s => s.answerWork c (if lands then b.nlb * s.volBlock c.vol else 0)) with
        | none => .next s
        | some s =>
          let s := s.modCmd id (fun c => { c with back := c.back.set k { b with status := some status } })
          match s.weltCmd id with
          | none => .next s
          | some c =>
            if c.unanswered then .next s
            else if c.stage = .ended then .next s.reapAll
            else .next (s.answered c)

/-- R285: a backing command unanswered for IO_TIMEOUT is aborted, once, and its command, if it is still open, completes TIMEOUT; the
backing command stays open until the backing answers. -/
def execBackingTimeout (id k : Nat) (s : State) : Host.Outcome State Fault Refusal :=
  let s := s.weltSweep
  match s.weltCmd id with
  | none => .next s
  | some c =>
    match c.back[k]? with
    | none => .next s
    | some b =>
      if b.status.isSome ∨ b.aborted ∨ s.clk.time < b.since + msec (max 1 (s.rd F.WELT_CFG.IO_TIMEOUT)) then .next s
      else
        let s := (s.emit (.nvmeAbort c.vol id k)).modCmd id (fun c => { c with back := c.back.set k { b with aborted := true } })
        .next (if c.stage = .started then s.endCmd c stTimeout wdTimeout 0 noErr else s)

/-- R285: the backing of some volumes is lost: their open commands complete ABORTED, BACKING_LOST, and the volumes go
OFFLINE. What the backing had not answered is closed. -/
def State.loseVolumes (s : State) (p : Nat → Bool) : State :=
  let s := s.weltSweep
  let vs := (List.range 16384).filter (fun v => s.volState v != volUnused && p v)
  let cs := s.welt.cmds.filter (fun c => vs.contains c.vol)
  let s := cs.foldl (fun s c => s.modCmd c.id (fun c => { c with back := c.back.map (fun b => { b with status := b.status.orElse (fun _ => some 0) }) })) s
  let s := (cs.filter (fun c => c.stage != .ended)).foldl (fun s c =>
    match s.weltCmd c.id with
    | some c => if c.stage = .ended then s else s.endCmd c stAborted wdLost 0 noErr
    | none => s) s
  (vs.filter (fun v => s.volState v == volOnline)).foldl (fun s v => (s.setVol v 0 1 volOffline).event weltEvq (weltEvent 1 v 0)) s.reapAll

def State.loseLink (s : State) (l : Nat) : State := s.loseVolumes (fun v => !s.volFlag v vfRemote && s.volBackend v % 16 == l)
def State.loseConn (s : State) (c : Nat) : State := s.loseVolumes (fun v => s.volFlag v vfRemote && s.volBackend v % 256 == c)

/-- R297: the commands of volumes homed on the fenced half complete FENCED. -/
def State.weltFence (s : State) : State :=
  (s.welt.cmds.filter (fun c => c.stage != .ended && s.volHome c.vol == 1)).foldl (fun s c =>
    match s.weltCmd c.id with
    | some c => if c.stage = .ended then s else s.endCmd c stFencedSt wdFenced 0 noErr
    | none => s) s.weltSweep

/-! ### Freezing (R286) -/

/-- R286, step 4: no command of a freezing WQ is in flight: it enters ERROR with cause FREEZE. -/
def execFreeze (n : Nat) (s : State) : Host.Outcome State Fault Refusal :=
  match s.wq? n with
  | none => .next s
  | some w =>
    if w.freeze ∧ w.state = qsReady ∧ w.drained then
      let s := s.setWq n { w with state := qsError, errCause := 0x40, ci := w.fi, errRec := putB w.errRec 0x28 (toLE 4 w.fi),
                                  jobs := w.jobs.map (fun j => { j with frees := false }) }
      let s := ((s.event queueEvq (queueEvent 1 0x40 false n)).event weltEvq (weltEvent 4 0 n)).count F.WELT_STAT.FREEZES.CNT 1
      .next (s.health w.func 5 1)
    else .next s

/-! ### Volume operations (R271, Table 8.11) -/

def State.volData (s : State) : Bytes := (List.range 64).flatMap (fun k => toLE 4 (s.rd (F.WELT_VOL_DATA.W k)))
def State.setVolData (s : State) (bs : Bytes) : State := (List.range 64).foldl (fun s k => s.wr (F.WELT_VOL_DATA.W k) (leAt bs (4 * k) 4)) s
/-- The operation that WELT_VOL_CMD has issued, and its volume. -/
def State.volOp (s : State) : Nat := F.WELT_VOL_CMD.OP.get s.welt.goWord
def State.volIndex (s : State) : Nat := F.WELT_VOL_CMD.INDEX.get s.welt.goWord
def State.volRuns (s : State) (op : Nat) : Bool := s.flag F.WELT_VOL_CMD.BUSY && s.volOp == op

/-- The operation of WELT_VOL_CMD is done. -/
def State.volDone (s : State) (r : Nat × Nat) : State :=
  ((((s.wr F.WELT_VOL_CMD.BUSY 0).wr F.WELT_VOL_CMD.GO 0).wr F.WELT_VOL_STATUS.DONE 1).wr F.WELT_VOL_STATUS.STATUS r.1).wr
    F.WELT_VOL_STATUS.DETAIL r.2

def volOps : List Nat := [1, 2, 3, 4, 5, 8, 9, 10, 11]

/-- A write of GO to WELT_VOL_CMD; an undefined OP is answered at once. -/
def State.volGo (s : State) : State :=
  if s.flag F.WELT_VOL_CMD.BUSY then s
  else
    let s := { s with welt := { s.welt with goWord := s.word 0x1500100 } }
    let s := (s.wr F.WELT_VOL_CMD.BUSY 1).wr F.WELT_VOL_CMD.GO 1
    if volOps.contains s.volOp then s else s.volDone (stMalformed, wdBadParam)

/-- The plaintext of a session, in its slot or in its record. -/
def State.sessPlain (s : State) (i : Nat) : Option Bytes :=
  match s.keySlot i with
  | some k => some k.plain
  | none => if s.cipher.installed.contains i then (s.unwrapRecord i (s.devRead (s.sessAddr i) 256)).map (fun r => r.1) else none

/-- R271: a value outside Table 8.1. -/
def volConfigBad (d : Bytes) : Bool :=
  let fl := leAt d 1 1
  let bshift := leAt d 0x30 1
  decide (2 < leAt d 0 1) || decide (16 ≤ fl) || (decide (4100 ≤ leAt d 2 2) && leAt d 2 2 != 0xFFFF) || decide (4096 ≤ leAt d 4 2) ||
  decide ((if fl.testBit vfRemote then 256 else 16) ≤ leAt d 6 2) || leAt d 8 4 == 0 || leAt d 8 4 == 0xFFFFFFFF ||
  decide (2 ^ 20 ≤ leAt d 0x0C 4) || leAt d 0x10 8 == 0 || decide (leAt d 0x20 4 < 256) ||
  !(bshift == 0 || (bshift == 3 && fl.testBit vfBs4k)) || !isZero (sliceB d 0x31 15)

def execVolSet (s : State) : Host.Outcome State Fault Refusal :=
  if s.volRuns 1 = false then .next s
  else
    let v := s.volIndex
    let d := s.volData
    let fl := leAt d 1 1
    let badSess : Bool := fl.testBit vfEncrypt && (match s.sessPlain (leAt d 0x0C 4 % 2 ^ 20) with
      | some p => sKind p != 1 || sTenant p != leAt d 4 2 || sFlag p fSector != fl.testBit vfBs4k
      | none => true)
    if s.volState v = volOnline then .next (s.volDone (stRange, wdBusy))
    else if volConfigBad d then .next (s.volDone (stMalformed, wdConfig))
    else if badSess then .next (s.volDone (stAccessDenied, wdCipher))
    else
      let c := toLE 1 volOffline ++ sliceB d 1 0x23 ++ toLE 4 (s.vol v 0x24 4) ++ toLE 8 (s.vol v 0x28 8) ++ sliceB d 0x30 16
      .next ((s.devWrite (s.volAddr v) c).volDone (stOk, 0))

/-- VOL_ONLINE: the outcome on a volume. -/
def State.bringOnline (s : State) (v : Nat) : (Nat × Nat) × State :=
  if s.volState v = volOffline ∧ !s.welt.offline.any (fun x => x.1 == v) then ((stOk, 0), s.setVol v 0 1 volOnline) else ((stRange, wdBusy), s)

def execVolOnline (s : State) : Host.Outcome State Fault Refusal :=
  if s.volRuns 2 then .next (let (r, s) := s.bringOnline s.volIndex; s.volDone r) else .next s

/-- R271: VOL_OFFLINE of a volume begins, for WELT_VOL_CMD or an admin job; false from UNUSED. -/
def State.takeOffline (s : State) (v : Nat) (who : Option (Nat × Nat)) : Bool × State :=
  if s.volState v = volUnused then (false, s)
  else (true, (s.setVol v 0 1 volOffline).setWelt { (s.setVol v 0 1 volOffline).welt with offline := s.welt.offline ++ [(v, who)] })

def execVolOffline (s : State) : Host.Outcome State Fault Refusal :=
  if s.volRuns 3 = false ∨ s.welt.offline.any (fun x => x.2.isNone) then .next s
  else match s.takeOffline s.volIndex none with
    | (true, s) => .next s
    | (false, s) => .next (s.volDone (stRange, wdBusy))

/-- R271: a VOL_OFFLINE is done once the volume's started commands have completed and its pages are released, or IO_TIMEOUT has
passed for those that the backing has not answered. -/
def execVolOfflineDone (v : Nat) (s : State) : Host.Outcome State Fault Refusal :=
  let s := s.weltSweep
  match s.welt.offline.find? (fun x => x.1 == v) with
  | none => .next s
  | some x =>
    if s.welt.cmds.any (fun c => c.vol == v && c.stage == .started) ∨ s.vol v 0x24 4 ≠ 0 then .next s
    else
      let s := s.setWelt { s.welt with offline := s.welt.offline.erase x }
      match x.2 with
      | none => .next (s.volDone (stOk, 0))
      | some (n, first) =>
        match s.liveJob n first with
        | some j => .next (s.endStorage n j stOk 0 0 0 0 false true noErr)
        | none => .next s

def execVolRead (s : State) : Host.Outcome State Fault Refusal :=
  if s.volRuns 4 then
    .next ((s.setVolData (s.devRead (s.volAddr s.volIndex) 64 ++ s.volData.drop 64)).volDone (stOk, 0))
  else .next s

def execVolDelete (s : State) : Host.Outcome State Fault Refusal :=
  if s.volRuns 5 = false then .next s
  else if s.volState s.volIndex = volOffline then
    .next (((s.setVol s.volIndex 0 1 volUnused).setVol s.volIndex 2 2 0xFFFF).volDone (stOk, 0))
  else .next (s.volDone (stRange, wdBusy))

/-! ### Connections (R269, R285, Table 8.13) -/

def connBad (d : Bytes) : Bool :=
  decide (16 ≤ leAt d 0 1) || decide (16 ≤ leAt d 1 1) || decide (2 ^ 15 ≤ leAt d 2 2) || decide (leAt d 0x2E 2 < 16) ||
  decide (1024 < leAt d 0x2E 2) || decide (leAt d 0x30 4 < 1000) || decide (60000 < leAt d 0x30 4) || !isZero (sliceB d 0x34 12) ||
  (sliceB d 0x40 192).all (fun b => b != 0#8)

def State.connIndex (s : State) : Nat := s.volIndex % 256

def execConnSet (s : State) : Host.Outcome State Fault Refusal :=
  if s.volRuns 8 = false then .next s
  else
    let c := s.connIndex
    if (s.conn c).up ∨ (s.conn c).opening.isSome then .next (s.volDone (stRange, wdBusy))
    else if connBad s.volData then .next (s.volDone (stMalformed, wdConfig))
    else .next ((s.setConn c { s.conn c with desc := s.volData }).volDone (stOk, 0))

/-- R269: the storage programs open the TCP connection from the descriptor's port, and connect its admin queue and its I/O queues with
the host NQN; how many I/O queues is a free value (log entry 82). -/
def State.openConn (s : State) (c : Nat) : State :=
  let d := (s.conn c).desc
  let n := 1 + Config.ioQueues c % 17
  { s with outs := s.outs ++ .connOpen c (leAt d 0 1) d :: (List.range n).map (fun k => .fabricsConnect c k Config.hostNqn) }

/-- CONN_UP: the connection is opened; CONNECTION_UP_DONE ends the operation. -/
def execConnUp (s : State) : Host.Outcome State Fault Refusal :=
  if s.volRuns 9 = false then .next s
  else
    let c := s.connIndex
    if (s.conn c).opening.isSome then .next s
    else if (s.conn c).up then .next (s.volDone (stRange, wdBusy))
    else if connBad (s.conn c).desc then .next (s.volDone (stMalformed, wdConfig))
    else .next ((s.setConn c { s.conn c with opening := some s.clk.time }).openConn c)

/-- R269: the connection comes UP, or IO_TIMEOUT passes and CONN_UP completes TIMEOUT. -/
def execConnectionUpDone (c : Nat) (ok : Bool) (s : State) : Host.Outcome State Fault Refusal :=
  match (s.conn c).opening with
  | none => .next s
  | some t =>
    if ok then
      let s := s.setConn c { s.conn c with up := true, opening := none, kaAt := s.clk.time, kaOpen := none }
      .next ((s.event weltEvq (weltEvent 3 c 0)).volDone (stOk, 0))
    else if t + msec (max 1 (s.rd F.WELT_CFG.IO_TIMEOUT)) ≤ s.clk.time then
      .next ((s.setConn c { s.conn c with opening := none }).volDone (stTimeout, wdTimeout))
    else .next s

/-- A connection goes DOWN. -/
def State.connLost (s : State) (c : Nat) : State :=
  ((s.setConn c { s.conn c with up := false, opening := none, kaOpen := none }).loseConn c).event weltEvq (weltEvent 2 c 0)

def execConnDown (s : State) : Host.Outcome State Fault Refusal :=
  if s.volRuns 10 = false then .next s
  else
    let c := s.connIndex
    let s := if (s.conn c).up ∨ (s.conn c).opening.isSome then (s.emit (.connClose c)).connLost c else s
    .next (s.volDone (stOk, 0))

def execConnRead (s : State) : Host.Outcome State Fault Refusal :=
  if s.volRuns 11 then
    let c := s.conn s.connIndex
    .next (((s.setVolData c.desc).wr F.WELT_VOL_STATUS.UP (if c.up then 1 else 0)).volDone (stOk, 0))
  else .next s

/-- R269: a Keep Alive goes out at half the KATO; `answered` says instead that the target answers. -/
def execKeepAlive (c : Nat) (answered : Bool) (s : State) : Host.Outcome State Fault Refusal :=
  let x := s.conn c
  if x.up = false then .next s
  else if answered then .next (s.setConn c { x with kaOpen := none })
  else if x.kaAt + msec (leAt x.desc 0x30 4) / 2 ≤ s.clk.time then
    .next ((s.setConn c { x with kaAt := s.clk.time, kaOpen := some (x.kaOpen.getD s.clk.time) }).emit (.keepAlive c))
  else .next s

/-- R269, R285: the TCP connection fails, or a Keep Alive stays unanswered for KATO. -/
def execConnectionDown (c : Nat) (tcp : Bool) (s : State) : Host.Outcome State Fault Refusal :=
  let x := s.conn c
  let late : Bool := match x.kaOpen with | some t => decide (t + msec (leAt x.desc 0x30 4) ≤ s.clk.time) | none => false
  if x.up ∧ (tcp ∨ late) then .next (s.connLost c) else .next s

/-! ### The admin queue (R291 to R294) -/

/-- R291: the admin command at the front of an admin queue, if it is of an opcode. -/
def State.adminJob (s : State) (n op : Nat) : Option (Wq × Job × Bytes) :=
  match s.wq? n with
  | none => none
  | some w =>
    if s.isAdmin n w = false then none
    else match w.jobs.find? (fun j => j.live) with
      | some j => if j.opcode = op ∧ (j.stage = .unstarted ∨ j.stage = .started) then some (w, j, j.entries.headD []) else none
      | none => none

/-- An admin command ends. -/
def State.endAdmin (s : State) (n : Nat) (j : Job) (r : Nat × Nat) (length extra : Nat) : State :=
  s.endStorage n j r.1 r.2 length extra 0 false true noErr

/-- The checks every admin command meets first (R299, R291): the fault, or none. -/
def State.adminFault (s : State) (pf0only : Bool) (w : Wq) : Option (Nat × Nat) :=
  if s.flag F.WELT_CFG.EN = false then some (stAccessDenied, wdOffline)
  else if pf0only ∧ w.func ≠ 0 then some (stAccessDenied, wdNotPf0)
  else none

/-- An admin command's data goes to ADDR, which is aligned to 4 bytes (R291). -/
def State.adminOut (s : State) (n : Nat) (w : Wq) (j : Job) (a : Nat) (bs : Bytes) : State :=
  if a % 4 ≠ 0 then s.endAdmin n j (stMalformed, wdBadParam) 0 0
  else if s.hostWaits w.home w.func w.ringLoc then s
  else
    let (r, s) := s.dataOut w w.tenant [(a, bs)]
    if r.1 = 0 then s.endAdmin n j (stOk, 0) r.2 0 else s.endAdmin n j (r.1, qdBufFault) r.2 0

/-- R291: the number of the queue an admin command names, by pair index or, on PF0's, by number. -/
def State.adminQueue (s : State) (w : Wq) (q : Nat) : Option (Nat × Nat) := s.named w.func q

/-- Volumes attached to a function (R267). -/
def State.attached (s : State) (f : Nat) : List Nat := (List.range 16384).filter (fun v => s.volState v != volUnused && s.vol v 2 2 == f)

/-- The BUILD_ID of the running storage image (R122). -/
def State.storageBuild (s : State) : Bytes := sliceB ((s.cob.run.map (fun r => r.storage)).getD []) 0x20 16

/-- R292: the structures of IDENTIFY. -/
def State.identifyFunction (s : State) (f : Nat) : Bytes :=
  sliceB (toLE 2 0x0960 ++ toLE 1 (16 * s.rd F.GLOBAL_DEVICE_ID.STEP_MAJOR + s.rd F.GLOBAL_DEVICE_ID.STEP_MINOR) ++ toLE 1 0 ++ toLE 4 1048576 ++ toLE 2 (s.grantOf f).2 ++
    toLE 2 (s.attached f).length ++ toLE 4 ((if f = 0 then 1 else 0) + (if s.funcCompat f then 2 else 0)) ++ s.storageBuild) 0 4096

def State.identifyVolume (s : State) (v : Nat) : Bytes :=
  sliceB (toLE 1 (s.volState v) ++ toLE 1 (s.vol v 1 1 &&& 0x0B) ++ toLE 6 0 ++ s.devRead (s.volAddr v + 0x10) 8 ++
    toLE 4 (s.volBlock v) ++ s.devRead (s.volAddr v + 0x20) 4) 0 4096

def State.volumeList (s : State) (f v : Nat) : Bytes :=
  sliceB ((((s.attached f).filter (fun x => decide (v ≤ x))).take 2047).flatMap (fun x => toLE 2 x) ++ toLE 2 0xFFFF) 0 4096

def execIdentify (n : Nat) (s : State) : Host.Outcome State Fault Refusal :=
  match s.adminJob n 0x81 with
  | none => .next s
  | some (w, j, e) =>
    let cns := leAt e 8 1
    let v := leAt e 0x0A 2
    match s.adminFault false w with
    | some r => .next (s.endAdmin n j r 0 0)
    | none =>
      if 2 < cns ∨ (cns = 1 ∧ 16384 ≤ v) then .next (s.endAdmin n j (stMalformed, wdBadParam) 0 0)
      else if cns = 1 ∧ w.func ≠ 0 ∧ (s.volState v = volUnused ∨ s.vol v 2 2 ≠ w.func) then .next (s.endAdmin n j (stAccessDenied, wdNotAttached) 0 0)
      else
        let bs := if cns = 0 then s.identifyFunction w.func else if cns = 1 then s.identifyVolume v else s.volumeList w.func v
        .next (s.adminOut n w j (leAt e 0x10 8) bs)

def execGetLog (n : Nat) (s : State) : Host.Outcome State Fault Refusal :=
  match s.adminJob n 0x82 with
  | none => .next s
  | some (w, j, e) =>
    let lid := leAt e 8 1
    let len := leAt e 0x18 4
    let page : Option Bytes :=
      if lid = 1 then
        match s.adminQueue w (leAt e 0x0A 2) with
        | some (_, q) => some (match s.wq? q with | some x => if x.type = qtStorage then x.errRec else [] | none => [])
        | none => none
      else if lid = 2 then some ((AMap.getD s.welt.health w.func (List.replicate 8 0)).flatMap (fun k => toLE 8 k))
      else none
    match s.adminFault false w, page with
    | some r, _ => .next (s.endAdmin n j r 0 0)
    | none, none => .next (s.endAdmin n j (stMalformed, wdBadParam) 0 0)
    | none, some p =>
      if len < 4 ∨ 4096 < len then .next (s.endAdmin n j (stMalformed, wdBadParam) 0 0)
      else .next (s.adminOut n w j (leAt e 0x10 8) (sliceB p 0 len))

/-- R294: the CQ or volume a feature's TARGET names must serve. WBUF_MAX of an UNUSED volume is refused as R274 refuses the volume
(DEDUCED, log entry 83); the state of one acts as VOL_ONLINE and VOL_OFFLINE do. -/
def State.featureFault (s : State) (w : Wq) (fid target : Nat) : Option (Nat × Nat) :=
  if (fid = 2 ∨ fid = 3) ∧ w.func ≠ 0 then some (stAccessDenied, wdNotPf0)
  else if (fid = 2 ∨ fid = 3) ∧ 16384 ≤ target then some (stMalformed, wdBadParam)
  else if fid = 2 ∧ s.volState target = volUnused then some (stRange, wdVolRange)
  else if fid = 2 ∨ fid = 3 then none
  else if fid ≠ 1 then some (stMalformed, wdBadParam)
  else none

/-- The CQ that a COALESCE names. -/
def State.targetCq (s : State) (w : Wq) (target : Nat) : Option (Nat × Nat × Cq) :=
  (s.adminQueue w target).bind (fun (p : Nat × Nat) => (s.cq? p.2).map (fun c => (p.1, p.2, c)))

def execGetFeature (n : Nat) (s : State) : Host.Outcome State Fault Refusal :=
  match s.adminJob n 0x83 with
  | none => .next s
  | some (w, j, e) =>
    let fid := leAt e 8 1
    let t := leAt e 0x0A 2
    let fault := match s.adminFault false w with | some r => some r | none => s.featureFault w fid t
    match fault with
    | some r => .next (s.endAdmin n j r 0 0)
    | none =>
      let value : Option Nat := if fid = 1 then (s.targetCq w t).map (fun x => x.2.2.modCount + 65536 * x.2.2.modTime)
        else if fid = 2 then some (s.vol t 0x20 4) else some (s.volState t)
      match value with
      | some v => .next (s.endAdmin n j (stOk, 0) v (v % 65536))
      | none => .next (s.endAdmin n j (stRange, qdNoQueue) 0 0)

/-- A SET_FEATURE of a feature that passes the checks common to all. -/
def State.setFeature (s : State) (n : Nat) (p : Nat → Bool) : Option (Wq × Job × Bytes) × State :=
  match s.adminJob n 0x84 with
  | none => (none, s)
  | some (w, j, e) =>
    let fid := leAt e 8 1
    if p fid = false then (none, s)
    else
      let fault := match s.adminFault false w with | some r => some r | none => s.featureFault w fid (leAt e 0x0A 2)
      match fault with
      | some r => (none, s.endAdmin n j r 0 0)
      | none => (some (w, j, e), s)

/-- SET_FEATURE COALESCE performs MODERATE; an undefined feature is answered here. -/
def execCoalesce (n : Nat) (s : State) : Host.Outcome State Fault Refusal :=
  match s.setFeature n (fun f => f != 2 && f != 3) with
  | (none, s) => .next s
  | (some (w, j, e), s) =>
    match s.targetCq w (leAt e 0x0A 2) with
    | none => .next (s.endAdmin n j (stRange, qdNoQueue) 0 0)
    | some (o, q, c) =>
      let (r, s) := s.moderateCq o q c.vector (leAt e 0x10 2) (leAt e 0x12 2)
      .next (s.endAdmin n j r 0 0)

def execVolumeWbuf (n : Nat) (s : State) : Host.Outcome State Fault Refusal :=
  match s.setFeature n (· == 2) with
  | (none, s) => .next s
  | (some (_, j, e), s) =>
    let v := leAt e 0x10 8
    if v < 256 ∨ 2 ^ 32 ≤ v then .next (s.endAdmin n j (stMalformed, wdBadParam) 0 0)
    else .next ((s.setVol (leAt e 0x0A 2) 0x20 4 v).endAdmin n j (stOk, 0) 0 0)

/-- SET_FEATURE VOLUME_STATE: ONLINE at once; OFFLINE completes when VOL_OFFLINE is done. -/
def execVolumeState (n : Nat) (s : State) : Host.Outcome State Fault Refusal :=
  match s.setFeature n (· == 3) with
  | (none, s) => .next s
  | (some (_, j, e), s) =>
    let v := leAt e 0x10 8
    let t := leAt e 0x0A 2
    if v = 1 then
      let (r, s) := s.bringOnline t
      .next (s.endAdmin n j r 0 0)
    else if v = 2 then
      if j.stage = .started then .next s
      else match s.takeOffline t (some (n, j.first)) with
        | (true, s) => .next (s.modJob n j.first (fun j => { j with stage := .started }))
        | (false, s) => .next (s.endAdmin n j (stRange, wdBusy) 0 0)
    else .next (s.endAdmin n j (stMalformed, wdBadParam) 0 0)

/-! ### ABORT (R290) -/

/-- R290: the earliest-fetched open command of an I/O queue with a CID. -/
def State.abortTarget (s : State) (q cid : Nat) : Option Job :=
  (s.wq? q).bind (fun w =>
    if w.type ≠ qtStorage ∨ s.isAdmin q w then none
    else w.jobs.find? (fun j => j.live && j.stage != .faulting && leAt (j.entries.headD []) 8 2 == cid))

/-- Table 8.8: the target can still be caught. -/
def State.catchable (s : State) (q : Nat) (j : Job) : Bool :=
  j.notStarted || (match s.cmdOf q j.first with
    | some c => c.stage != .started || (c.reading && !c.issued)
    | none => false)

/-- ABORT: the target is caught, or is MISSED once its status is final. -/
def execWeltAbort (n : Nat) (s : State) : Host.Outcome State Fault Refusal :=
  let s := s.weltSweep
  match s.adminJob n 0x87 with
  | none => .next s
  | some (w, j, e) =>
    let missed := fun (s : State) =>
      ((s.setWelt { s.welt with aborts := AMap.del s.welt.aborts n }).count F.WELT_STAT.ABORT_MISSED.CNT 1).endAdmin n j (stOk, 0) 0 1
    match AMap.get? s.welt.aborts n with
    | some (q, first) => if (s.liveJob q first).isSome then .next s else .next (missed s)
    | none =>
      match s.adminFault false w, s.adminQueue w (leAt e 8 2) with
      | some r, _ => .next (s.endAdmin n j r 0 0)
      | none, none => .next (missed s)
      | none, some (_, q) =>
        match s.abortTarget q (leAt e 0x0A 2) with
        | none => .next (missed s)
        | some t =>
          if s.catchable q t then
            let seq := match s.cmdOf q t.first with | some c => c.seq | none => 0
            let s := match s.cmdOf q t.first with | some c => s.closeCmd c.id false | none => s
            let s := (s.endStorage q t stAborted wdCaught 0 0 seq false false noErr).opCount t.opcode
            .next (((s.count F.WELT_STAT.ABORT_CAUGHT.CNT 1).health w.func 6 1).endAdmin n j (stOk, 0) 0 0)
          else .next ((s.setWelt { s.welt with aborts := AMap.set s.welt.aborts n (q, t.first) }).modJob n j.first
            (fun j => { j with stage := .started }))

/-! ### Queues through the admin queue (R291) -/

/-- R288: a QUEUE field names a function's admin queue, which PERCMD_STATUS does not count. -/
def State.adminNamed (s : State) (w : Wq) (q : Nat) : Bool := (s.adminQueue w q).any (fun p => s.pairOf p.1 p.2 == 0)

/-- QUEUE_CREATE: its 64-byte block is read, then a CQ, if asked for, and a STORAGE WQ are created. -/
def execQueueCreate (n : Nat) (s : State) : Host.Outcome State Fault Refusal :=
  match s.adminJob n 0x88 with
  | none => .next s
  | some (w, j, e) =>
    let fl := leAt e 0x0A 1
    match s.adminFault false w with
    | some r => .next (s.endAdmin n j r 0 0)
    | none =>
      if 4 ≤ fl ∨ leAt e 0x10 8 % 4 ≠ 0 then .next (s.endAdmin n j (stMalformed, wdBadParam) 0 0)
      else if fl.testBit 0 ∧ w.func ≠ 0 then .next (s.endAdmin n j (stAccessDenied, wdNotPf0) 0 0)
      else if fl.testBit 0 ∧ 64 ≤ s.rd F.WELT_PERCMD.COUNT ∧ s.adminNamed w (leAt e 8 2) = false then .next (s.endAdmin n j (stNoBuffer, wdPercmd) 0 0)
      else match j.legs with
        | [] =>
          let s := if w.ringLoc then s else s.owe 4 w.home (s.groupOf w.tenant) 1
          let (l, s) := s.startLeg w.ringLoc w.home w.func w.tenant (s.groupOf w.tenant) (leAt e 0x10 8) 64 true
          .next (s.modJob n j.first (fun j => { j with stage := .started, legs := [l] }))
        | _ =>
          match s.legResults j.legs with
          | none => .next s
          | some rs =>
            match rs.find? (fun r => r.1 != 0), s.adminQueue w (leAt e 8 2) with
            | some r, _ => .next (s.endAdmin n j (r.1, qdBufFault) 0 0)
            | none, none => .next (s.endAdmin n j (stRange, qdNoQueue) 0 0)
            | none, some (o, q) =>
              let d := putB (sliceB (rs.flatMap (fun r => r.2)) 0 64) 0 (toLE 1 qtStorage)
              let priv := w.func == 0
              let (r0, s) := if fl.testBit 1 then s.createCq o q priv d else ((stOk, 0), s)
              if r0 ≠ (stOk, 0) then .next (s.endAdmin n j r0 0 0)
              else
                let cqn := if w.func = 0 then some (leAt d 2 2) else s.queueNo w.func (leAt d 2 2)
                let (r, s) := s.createWq o q priv (fl.testBit 0) cqn d
                let s := if r ≠ (stOk, 0) ∧ fl.testBit 1 then (s.deleteCq q).2 else s
                .next (s.endAdmin n j r 0 0)

def execQueueDelete (n : Nat) (s : State) : Host.Outcome State Fault Refusal :=
  match s.adminJob n 0x89 with
  | none => .next s
  | some (w, j, e) =>
    match s.adminFault false w, s.adminQueue w (leAt e 8 2) with
    | some r, _ => .next (s.endAdmin n j r 0 0)
    | none, none => .next (s.endAdmin n j (stRange, qdNoQueue) 0 0)
    | none, some (_, q) =>
      let (r, s) := s.deleteWq q
      let (r, s) := if r = (stOk, 0) ∧ (leAt e 0x0A 1).testBit 1 then s.deleteCq q else (r, s)
      .next (s.endAdmin n j r 0 0)

def execAdminQueueRestart (n : Nat) (s : State) : Host.Outcome State Fault Refusal :=
  match s.adminJob n 0x8A with
  | none => .next s
  | some (w, j, e) =>
    match s.adminFault false w, s.adminQueue w (leAt e 8 2) with
    | some r, _ => .next (s.endAdmin n j r 0 0)
    | none, none => .next (s.endAdmin n j (stRange, qdNoQueue) 0 0)
    | none, some (o, q) =>
      let (r, s) := if (leAt e 0x0A 1).testBit 0 then s.restartCq o q else s.restartWq o q (leAt e 0x0C 4)
      .next (s.endAdmin n j r 0 0)

/-! ### QUEUE_ABORT (R239, R296) -/

/-- R239, R296: QUEUE_ABORT of a WQ, or of a CQ with every WQ bound to it. -/
def execQueueAbort (f : Nat) (s : State) : Host.Outcome State Fault Refusal :=
  if s.cmdRuns f 6 = false ∨ s.q.aborts.any (fun a => a.1 == f) then .next s
  else match s.named f (s.cmdQueue f) with
    | none => .next (s.cmdDone f (stRange, qdNoQueue))
    | some (o, n) =>
      let cq := s.cmdCq f
      let home : Option Nat := if cq then (s.cq? n).map (fun c => c.home) else (s.wq? n).map (fun w => w.home)
      match home with
      | none => .next (s.cmdDone f (stRange, qdNoQueue))
      | some h =>
        match s.cmdGate o h with
        | some r => .next (s.cmdDone f r)
        | none =>
          let ws := if cq then s.boundTo n else [n]
          let s := s.setQ { s.q with aborts := s.q.aborts ++ [(f, cq, n, s.clk.time)] }
          let s := ws.foldl (fun s w => if (s.wq? w).any (fun x => x.abort.isSome) then s else s.abortWq w) s
          .next (ws.foldl (fun s w => s.abortEnd w) s.weltSweep).abortsDone

/-- R239: 400 µs after its abort, or once none runs, the jobs of WQ `n` still running are squashed and it enters STOPPED. -/
def execQueueAbortSquash (n : Nat) (s : State) : Host.Outcome State Fault Refusal :=
  match s.wq? n with
  | none => .next s
  | some w =>
    if w.abort.isNone then .next s
    else match s.q.aborts.find? (fun a => if a.2.1 then a.2.2.1 == w.cq else a.2.2.1 == n) with
      | none => .next s
      | some a =>
        if a.2.2.2 + usec 400 ≤ s.clk.time then .next ((s.squashWq n).weltSweep.abortEnd n) else .next (s.abortEnd n)

end Sys2Proof.Machine
end

