-- ==== Sys2Proof/Machine/Slots.lean ====
section
/-! DEFINITION. Eyelet slots (chapter 10): presence, power, the attention button, link training and private enumeration,
and containment. -/

namespace Sys2Proof.Machine

open Sys2Proof

/-! ### Containment (R339, R340) -/

def ccSurprise : Nat := 1
def ccLinkDown : Nat := 2
def ccPowerFault : Nat := 3
def ccUncorrectable : Nat := 4
def ccTopology : Nat := 5
def ccFence : Nat := 6
def ccOperator : Nat := 7

/-- The half of the unit that a transaction of a window belongs to. -/
def State.ownerHalf (s : State) : TxOwner → Nat
  | .job n _ => ((s.wq? n).map (fun w => w.home)).getD 0
  | .dev tid => halfOfMule (muleOf (spOf tid))
  | .cipher id => ((s.cipher.jobs.find? (fun (j : CipherJob) => j.id == id)).map (fun j => j.half)).getD 0
  | .packet id => ((AMap.get? s.net.pkts id).map (fun p => p.half)).getD 0

/-- R340, step 2: windows of a port that name a link lose VALID, those of a commit that awaits its swap included. -/
def State.voidWins (s : State) (l : Nat) : State :=
  let p := l / 4
  let s := ((List.range 256).filter (fun w => (s.activeWin p w).valid && (s.activeWin p w).link == l)).foldl
    (fun s w => s.setWord (actAddr p w) (setBits (s.word (actAddr p w)) 63 63 0)) s
  let ws := if s.winPending p then (s.changingWins p).filter (fun w => (s.shadowWin p w).link == l) else []
  s.setEye { s.eye with lost := s.eye.lost ++ (ws.map (fun w => 256 * p + w)).filter (fun k => !s.eye.lost.contains k) }

/-- A link that was up is no longer. -/
def State.linkGone (s : State) (l : Nat) : State :=
  let s := s.wrIf (s.flag (F.EYELET_LINK_STATUS.UP l)) (F.EYELET_SLOT_STATUS.DLL_CHG l) 1
  (s.wr (F.EYELET_LINK_STATUS.UP l) 0).wr (F.EYELET_LINK_STATUS.WIDTH l) 0

/-- R340: the port stops the link, its windows lose VALID, its requests and transactions end, and Welt's volumes on it go. -/
def State.contain (s : State) (l cause : Nat) : State :=
  let n := (s.eye.reqs.filter (fun r => r.link == l)).length
  let s := ((s.setSlot l slContained).wr (F.EYELET_SLOT_STATUS.CAUSE l) cause).linkGone l
  let s := (s.wr (F.EYELET_DEV_ID.DEVICE l) 0).wr (F.EYELET_DEV_ID.VENDOR l) 0
  let s := s.voidWins l
  let s := (s.eye.inbound.filter (fun r => r.link == l)).foldl (fun s r => s.dropLegs r.leg.toList) s
  let s := s.setEye { s.eye with inbound := s.eye.inbound.filter (fun r => r.link != l) }
  let s := (s.eye.txs.filter (fun t => t.mapping.link == l)).foldl (fun s t =>
    if cause = ccFence ∧ s.ownerHalf t.owner = 0 then s.stopTx t stFencedSt edFenced else s.stopTx t stAborted edPeerLost) s
  let s := (s.count F.EYELET_STAT.PEER_LOST.CNT n).count F.EYELET_STAT.CONTAINMENTS.CNT 1
  (s.loseLink l).event eyeletEvq (eyeEvent 6 cause l)

/-- R339: a trigger contains a link in ACTIVE; later ones find it contained and are ignored. -/
def State.trigger (s : State) (l cause : Nat) : State := if s.slot l = slActive then s.contain l cause else s

/-! ### Slots (R334 to R338, R341) -/

/-- The link has a slot that its port drives: it exists, the output gate has opened (R329, R334), its domain is on and its half has
not fenced. -/
def State.slotServes (s : State) (l : Nat) : Bool :=
  s.locked && s.linkExists l && (s.rd F.POWER_DOM_STATUS.ON).testBit (52 + l / 4) && !(l / 8 == 1 && s.haltedB)

def picOn : Nat := 1
def picBlink : Nat := 2
def picOff : Nat := 3

/-- The slot outputs: bit 0 EYE_PWR_EN, bit 1 EYE_PERST_N. -/
def State.setPins (s : State) (l : Nat) (pwr perst : Bool) : State :=
  s.setEye { s.eye with pins := AMap.setD 0 s.eye.pins l ((if pwr then 1 else 0) + (if perst then 2 else 0)) }

def State.pinPwr (s : State) (l : Nat) : Bool := (AMap.getD s.eye.pins l 0).testBit 0
def State.pinPerst (s : State) (l : Nat) : Bool := (AMap.getD s.eye.pins l 0).testBit 1

/-- A link enters a timed state now. -/
def State.slotSince (s : State) (l : Nat) : State := s.setEye { s.eye with since := AMap.set s.eye.since l s.clk.time }

/-- R338: an indicator is lit by its setting at a time: on, or in the first half of a second of a 1 Hz blink; 0b00 and 0b11 are off.
That a blink begins each second after POWER reset is the model's choice (log entry 164). -/
def indicatorLit (v time : Nat) : Bool := v == picOn || v == picBlink && decide (time % msec 1000 < msec 500)

/-- R334, R338: EYE_PWR_LED and EYE_ATTN_LED, low until the output gate opens. -/
def State.pwrLed (s : State) (l : Nat) : Bool := s.locked && indicatorLit (s.rd (F.EYELET_SLOT_CTRL.PIC l)) s.clk.time
def State.attnLed (s : State) (l : Nat) : Bool := s.locked && indicatorLit (s.rd (F.EYELET_SLOT_CTRL.AIC l)) s.clk.time

/-- Table 14.2: EYE_REFCLK of a link is driven from POWERING until power is removed. -/
def State.eyeRefclk (s : State) (l : Nat) : Bool := s.pinPwr l

/-- R337, R338: the part sets the Power Indicator at a transition; while an attention period makes it blink, the setting is the one that
stands after the period. -/
def State.setPic (s : State) (l v : Nat) : State :=
  match AMap.get? s.eye.attn l with
  | some (t, _) => s.setEye { s.eye with attn := AMap.set s.eye.attn l (t, v) }
  | none => s.wr (F.EYELET_SLOT_CTRL.PIC l) v

/-- R335: power comes on and the slot enters POWERING. -/
def State.powerSlot (s : State) (l : Nat) : State := (((s.setPins l true false).setPic l picBlink).setSlot l slPowering).slotSince l

/-- R335: POWERING or TRAINING ends without a link: both outputs low, indicator off, to EMPTY or PRESENT. -/
def State.unpower (s : State) (l : Nat) : State :=
  let s := ((s.setPins l false false).setPic l picOff).linkGone l
  (s.setEye { s.eye with offAt := AMap.del s.eye.offAt l }).setSlot l (if s.flag (F.EYELET_SLOT_STATUS.PRESENT l) then slPresent else slEmpty)

/-- R335: presence has been stable for 20 ms. -/
def execPresenceDetect (l : Nat) (s : State) : Host.Outcome State Fault Refusal :=
  if s.slotServes l = false ∨ s.flag (F.EYELET_SLOT_STATUS.PRESENT l) then .next s
  else
    let s := (s.wr (F.EYELET_SLOT_STATUS.PRESENT l) 1).wr (F.EYELET_SLOT_STATUS.PRESENCE_CHG l) 1
    if s.slot l ≠ slEmpty then .next s
    else
      let s := (s.setSlot l slPresent).event eyeletEvq (eyeEvent 1 0 l)
      .next (if s.flag (F.EYELET_SLOT_CTRL.AUTO_PWR l) then s.powerSlot l else s)

/-- R335, R339: presence has been lost for 10 us. -/
def execPresenceLoss (l : Nat) (s : State) : Host.Outcome State Fault Refusal :=
  if s.slotServes l = false ∨ s.flag (F.EYELET_SLOT_STATUS.PRESENT l) = false then .next s
  else
    let s := (s.wr (F.EYELET_SLOT_STATUS.PRESENT l) 0).wr (F.EYELET_SLOT_STATUS.PRESENCE_CHG l) 1
    let k := s.slot l
    .next (if k = slPresent then (s.setSlot l slEmpty).event eyeletEvq (eyeEvent 2 0 l)
      else if k = slPowering ∨ k = slTraining then s.unpower l
      else s.trigger l ccSurprise)

/-- R335, R336: PWR_ON; ignored in a state other than PRESENT. -/
def State.pwrOn (s : State) (l : Nat) : State := if s.slotServes l ∧ s.slot l = slPresent then s.powerSlot l else s

/-- R341: PWR_OFF contains an ACTIVE link and drives EYE_PERST_N low; EYE_PWR_EN follows 1 ms later. -/
def State.pwrOff (s : State) (l : Nat) : State :=
  if s.slotServes l = false ∨ s.slot l ≤ slPresent ∨ (AMap.get? s.eye.offAt l).isSome then s
  else
    let s := (s.trigger l ccOperator).setPins l (s.pinPwr l) false
    s.setEye { s.eye with offAt := AMap.set s.eye.offAt l s.clk.time }

def execPwrOn (l : Nat) (s : State) : Host.Outcome State Fault Refusal := .next (s.pwrOn l)

def execPwrOff (l : Nat) (s : State) : Host.Outcome State Fault Refusal := .next (s.pwrOff l)

/-- R341: 1 ms after PWR_OFF the power goes, and the slot is PRESENT or EMPTY. -/
def execPwrOffPowerDrop (l : Nat) (s : State) : Host.Outcome State Fault Refusal :=
  match AMap.get? s.eye.offAt l with
  | none => .next s
  | some t =>
    if s.clk.time < t + msec 1 then .next s
    else
      let s := (s.setEye { s.eye with offAt := AMap.del s.eye.offAt l }).setPins l false false
      let s := (s.wr (F.EYELET_SLOT_STATUS.CAUSE l) 0).linkGone l
      .next (s.setSlot l (if s.flag (F.EYELET_SLOT_STATUS.PRESENT l) then slPresent else slEmpty))

/-- R335: PWR_STABLE ms (0 acting as 1) after power on, EYE_PERST_N is released. -/
def execSlotPowerStable (l : Nat) (s : State) : Host.Outcome State Fault Refusal :=
  if s.slotServes l ∧ s.slot l = slPowering ∧ (AMap.get? s.eye.offAt l).isNone ∧
      AMap.getD s.eye.since l 0 + msec (max 1 (s.rd (F.EYELET_SLOT_CTRL.PWR_STABLE l))) ≤ s.clk.time then
    .next (((s.setPins l true true).setSlot l slTraining).slotSince l)
  else .next s

/-- R335, R336, R339: a slot power fault in a powered state. -/
def execPowerFault (l : Nat) (s : State) : Host.Outcome State Fault Refusal :=
  if s.slotServes l = false ∨ s.slot l ≤ slPresent then .next s
  else
    let s := (s.wr (F.EYELET_SLOT_STATUS.PWR_FAULT l) 1).wr (F.EYELET_SLOT_CTRL.AIC l) picOn
    let k := s.slot l
    .next (if k = slPowering ∨ k = slTraining then s.unpower l
      else (s.trigger l ccPowerFault).setPins l false (s.pinPerst l))

/-- R337: a press of the attention button. -/
def execAttentionButton (l : Nat) (s : State) : Host.Outcome State Fault Refusal :=
  if s.slotServes l = false then .next s
  else
    let s := s.wr (F.EYELET_SLOT_STATUS.ATTN_PRESSED l) 1
    if s.slot l ≠ slPresent ∧ s.slot l ≠ slActive then .next s
    else match AMap.get? s.eye.attn l with
      | some (_, pic) =>
        let s := s.setEye { s.eye with attn := AMap.del s.eye.attn l }
        .next (((s.wr (F.EYELET_SLOT_CTRL.PIC l) pic).wr (F.EYELET_SLOT_STATUS.ATTN_PENDING l) 0).event eyeletEvq (eyeEvent 4 0 l))
      | none =>
        let s := s.setEye { s.eye with attn := AMap.set s.eye.attn l (s.clk.time, s.rd (F.EYELET_SLOT_CTRL.PIC l)) }
        .next (((s.wr (F.EYELET_SLOT_CTRL.PIC l) picBlink).wr (F.EYELET_SLOT_STATUS.ATTN_PENDING l) 1).event eyeletEvq
          (eyeEvent 3 0 l))

/-- R337: the 5-second period of the attention button ends. -/
def execAttnRequest (l : Nat) (s : State) : Host.Outcome State Fault Refusal :=
  match AMap.get? s.eye.attn l with
  | none => .next s
  | some (t, pic) =>
    if s.clk.time < t + msec 5000 then .next s
    else
      let s := s.setEye { s.eye with attn := AMap.del s.eye.attn l }
      .next (((s.wr (F.EYELET_SLOT_CTRL.PIC l) pic).wr (F.EYELET_SLOT_STATUS.ATTN_PENDING l) 0).event eyeletEvq (eyeEvent 5 0 l))

/-! ### Links (R332, R339) -/

/-- R329: the lanes of a link of a port. -/
def State.eyeLanes (s : State) (p : Nat) : Nat :=
  let b := s.rd (F.EYELET_PORT_CFG.BIFUR p)
  if b = 1 then 8 else if b = 2 then 4 else 16

/-- R329, R330: the speeds and widths that a link can train to: SPEED codes 1 to 7, and 1, 2, 4, 8 or 16 lanes of those it has. -/
def State.eyeTrains (s : State) (l speed width : Nat) : Bool :=
  decide (1 ≤ speed) && decide (speed ≤ 7) && [1, 2, 4, 8, 16].contains width && decide (width ≤ s.eyeLanes (l / 4))

/-- R330: a link in TRAINING comes up, at the speed of its training capped by MAX_SPEED of its port, in flit mode where the device supports
it (`flit`) and always at 64 and 128 GT/s. None trains to a speed or width that the link does not have. -/
def execEyeletLinkUp (l : Nat) (flit : Bool) (speed width : Nat) (s : State) : Host.Outcome State Fault Refusal :=
  if s.slotServes l ∧ s.slot l = slTraining ∧ s.flag (F.EYELET_PORT_CFG.EN (l / 4)) ∧ (AMap.get? s.eye.offAt l).isNone ∧
      s.eyeTrains l speed width then
    let v := min speed (max 1 (s.rd (F.EYELET_PORT_CFG.MAX_SPEED (l / 4))))
    let s := (s.wr (F.EYELET_LINK_STATUS.UP l) 1).wr (F.EYELET_LINK_STATUS.FLIT l) (natB (flit || decide (6 ≤ v)))
    let s := s.wr (F.EYELET_LINK_STATUS.SPEED l) v
    .next ((s.wr (F.EYELET_LINK_STATUS.WIDTH l) width).wr (F.EYELET_SLOT_STATUS.DLL_CHG l) 1)
  else .next s

/-- R332: enumeration of a trained link ends: what it found is recorded and the slot is ACTIVE, or a topology that is not
enumerated contains the link. `bars` holds the EYELET_BARSZ words of the functions found, function 0 first. -/
def execEnumerationDone (l : Nat) (ok : Bool) (vendor device : Nat) (bars : List Nat) (s : State) :
    Host.Outcome State Fault Refusal :=
  if s.slotServes l ∧ s.slot l = slTraining ∧ s.flag (F.EYELET_LINK_STATUS.UP l) ∧ (AMap.get? s.eye.offAt l).isNone then
    if ok then
      let s := (s.wr (F.EYELET_DEV_ID.VENDOR l) vendor).wr (F.EYELET_DEV_ID.DEVICE l) device
      let s := (List.range 8).foldl (fun s f =>
        s.setWord (0x1701000 + 4 * (8 * l + f)) (match bars[f]? with | some w => w % 2 ^ 24 ||| 1 <<< 31 | none => 0)) s
      .next (((s.setSlot l slActive).setPic l picOn).event eyeletEvq (eyeEvent 7 0 l))
    else .next (s.contain l ccTopology)
  else .next s

/-- R335: no link up within 1,000 ms of TRAINING. -/
def execTrainingTimeout (l : Nat) (s : State) : Host.Outcome State Fault Refusal :=
  if s.slotServes l ∧ s.slot l = slTraining ∧ s.flag (F.EYELET_LINK_STATUS.UP l) = false ∧ (AMap.get? s.eye.offAt l).isNone ∧
      AMap.getD s.eye.since l 0 + msec 1000 ≤ s.clk.time then .next (s.contain l (Config.trainingCause l).toNat)
  else .next s

/-- R339: a link leaves L0 or L1 other than by PWR_OFF. -/
def execEyeletLinkDown (l : Nat) (s : State) : Host.Outcome State Fault Refusal :=
  if s.slotServes l = false ∨ s.flag (F.EYELET_LINK_STATUS.UP l) = false then .next s
  else if s.slot l = slActive then .next (s.contain l ccLinkDown)
  else .next (s.linkGone l)

/-- R339: AER reports an uncorrectable error. -/
def execAerUncorrectable (l : Nat) (s : State) : Host.Outcome State Fault Refusal :=
  if s.slotServes l ∧ s.flag (F.EYELET_SLOT_CTRL.DPC_UNCOR l) then .next (s.trigger l ccUncorrectable) else .next s

end Sys2Proof.Machine
end

