-- ==== Sys2Proof/Machine/Functions.lean ====
section
/-! DEFINITION. Functions of the host link (chapter 09): configuration requests, teardown, HOST reset, and the aborts and
releases of functions and tenants. -/

namespace Sys2Proof.Machine

open Sys2Proof

/-! ### The end of work (R308, R309) -/

/-- The WQs of a function, and, for PF0 at a HOST reset, only those with a ring in host memory (R323). -/
def State.wqIn (s : State) (f : Nat) (host : Bool) (w : Wq) : Bool :=
  w.func == f && !(host && f == 0 && w.ringLoc && ((s.cq? w.cq).map (fun c => c.ringLoc)).getD true)

def cqIn (f : Nat) (host : Bool) (c : Cq) : Bool := c.func == f && !(host && f == 0 && c.ringLoc)

def State.wqsOf (s : State) (f : Nat) (host : Bool) : List Nat :=
  (s.q.wqs.filter (fun e => decide (e.1 < 65536) && s.wqIn f host e.2)).map (fun e => e.1)

/-- R406: a reset of the function that holds the staging area releases it. -/
def State.releaseStaging (s : State) (p : StagePath) : State :=
  if s.cob.holder = some p then { s with cob := { s.cob with holder := none, staging := [] } } else s

/-- R293, R406, R322: a FUNCTION reset clears the function's HEALTH counts and releases its staging area. -/
def State.functionReset (s : State) (f : Nat) : State :=
  (s.setWelt { s.welt with health := AMap.del s.welt.health f }).releaseStaging (.welt f)

/-- R309, steps 1 to 3: a teardown begins, or merges with one that runs (R310): one that frees every queue and a HOST reset of
PF0, which spares its queues in device memory, free every queue. -/
def State.tearStart (s : State) (f after : Nat) (host : Bool) : State :=
  match (s.func f).tear with
  | some t =>
    let ns := if t.host ∧ host = false then (s.wqsOf f false).filter (fun n => !(s.wqsOf f true).contains n) else []
    let s := s.modFunc f (fun x =>
      { x with tear := some { t with after := if after = fsActive then t.after else after, host := t.host && host } })
    ns.foldl (fun s n => s.abortWq n) s
  | none =>
    let after := if s.fstate f = fsHeld ∧ after = fsActive then fsHeld else after
    let t : Teardown := { since := s.clk.time, after := after, host := host, squashed := false, abandoned := false }
    let s := (s.modFunc f (fun x => { x with tear := some t, intx := false })).setFstate f fsTeardown
    let s := if f = 0 then s.wr F.HOSTLINK_INTX.PEND 0 else s
    let s := s.setHost { s.host with posted := s.host.posted.filter (fun w => w.func != f) }
    let s := ((s.wqsOf f host).foldl (fun s n => s.abortWq n) s).weltSweep
    s.functionReset f

/-- R309: no unit holds work of the function. -/
def State.tearIdle (s : State) (f : Nat) (host : Bool) : Bool :=
  (s.wqsOf f host).all (fun n => match s.wq? n with | some w => w.jobs.all (fun j => !j.live) | none => true) &&
    !s.host.reqs.any (fun r => r.func == f && r.tag.isSome)

/-- R309, step 6: the function's PCIe registers, MSI-X table and PBA return to reset; sticky fields are kept. -/
def State.resetCfg (s : State) (f : Nat) : State :=
  let s := s.modCfg f (fun c => { Pcie.reset with aerCto := c.aerCto, aerUnexp := c.aerUnexp, aerIde := c.aerIde })
  s.setHost { s.host with msix := s.host.msix.filter (fun e => e.1 / 4096 != f) }

/-- R309, R310: the teardown ends. -/
def State.tearEnd (s : State) (f : Nat) (t : Teardown) : State :=
  let s := s.freeQueues (fun n w => decide (n < 65536) && s.wqIn f t.host w) (fun _ c => cqIn f t.host c)
  let s := s.resetCfg f
  ((s.modFunc f (fun x => { x with tear := none })).setFstate f t.after).count F.HOSTLINK_STAT.TEARDOWNS.CNT 1

/-! ### FLR and VF Enable (R308 to R310) -/

/-- The VFs of a PF. -/
def State.vfsOf (s : State) (p : Nat) : List Nat := (List.range (s.totalVfs p)).map (fun k => s.vfBase p + k)

/-- R308: VF Enable and NumVFs of a PF take new values: VFs that go are torn down, VFs that come are ACTIVE, at once or when
their teardown ends. -/
def State.vfWrite (s : State) (p : Nat) (en : Bool) (num : Nat) (host : Bool) : State :=
  let s := s.modCfg p (fun c => { c with vfEnable := en, numVfs := num })
  (s.vfsOf p).foldl (fun s f =>
    let on : Bool := en && decide (f - s.vfBase p < num)
    if on then
      (if s.fstate f = fsDisabled then s.setFstate f fsActive
       else match (s.func f).tear with
         | some t => if t.after = fsDisabled then s.modFunc f (fun x => { x with tear := some { t with after := fsActive } }) else s
         | none => s)
    else if s.fstate f = fsDisabled then s
    else s.tearStart f fsDisabled host) s

/-- R309: a function-level reset. That of a PF also clears its SR-IOV control, so that its VFs go. -/
def execFlr (f : Nat) (s : State) : Host.Outcome State Fault Refusal :=
  if s.funcList.contains f = false ∨ s.fstate f = fsDisabled then .next s
  else
    let s := if 1 ≤ f ∧ f < 4 then s.vfWrite f false 0 false else s
    .next (s.tearStart f fsActive false)

/-- R324, R396: the link's functions answer normally. -/
def State.linkReady (s : State) (l : Nat) : Bool := AMap.getD s.host.ready l false

/-- R310, R324: a configuration request is answered with Request Retry Status. -/
def State.retryStatus (s : State) (f : Nat) : State := (s.count F.HOSTLINK_STAT.RRS_SENT.CNT 1).emit (.cfgReply f none)

/-- R308, R310: a write of a PF's VF Enable and NumVFs, a configuration request. -/
def execVfEnableWrite (p : Nat) (en : Bool) (num : Nat) (s : State) : Host.Outcome State Fault Refusal :=
  if p = 0 ∨ 4 ≤ p then .next s
  else if s.linkReady (s.linkOf p) = false ∨ s.fstate p = fsTeardown then .next (s.retryStatus p)
  else .next (s.vfWrite p en (min num (s.totalVfs p)) false)

/-- R309, step 2: 8 ms after the event, started jobs are squashed. -/
def execTeardownSquash (f : Nat) (s : State) : Host.Outcome State Fault Refusal :=
  match (s.func f).tear with
  | none => .next s
  | some t =>
    if t.squashed ∨ s.clk.time < t.since + msec 8 then .next s
    else
      let s := ((s.wqsOf f t.host).foldl (fun s n => s.squashWq n) s).weltSweep
      .next (s.modFunc f (fun x => { x with tear := some { t with squashed := true } }))

/-- R309, step 4: 9 ms after the event, outstanding host reads are abandoned and their tags quarantined. -/
def execTeardownReadAbandon (f : Nat) (s : State) : Host.Outcome State Fault Refusal :=
  match (s.func f).tear with
  | none => .next s
  | some t =>
    if t.abandoned ∨ s.clk.time < t.since + msec 9 then .next s
    else .next ((s.abandonReqs (fun g _ => g == f) true).modFunc f (fun x => { x with tear := some { t with abandoned := true } }))

/-- R309: the teardown ends once no unit holds work of the function. -/
def execTeardownEnd (f : Nat) (s : State) : Host.Outcome State Fault Refusal :=
  match (s.func f).tear with
  | none => .next s
  | some t => if s.tearIdle f t.host then .next (s.tearEnd f t) else .next s

/-- R310: a memory request to a function in TEARDOWN: a write is discarded, a read returns all ones, and both are counted. -/
def execTeardownAccess (f size : Nat) (write : Bool) (s : State) : Host.Outcome State Fault Refusal :=
  if s.fstate f ≠ fsTeardown then .next s
  else
    let s := s.count F.HOSTLINK_STAT.TEARDOWN_ACCESS.CNT 1
    .next (if write then s else s.emit (.barRead f (allOnes size)))

/-! ### Configuration requests (R302 to R305, R310, R324) -/

/-- R301: the PFs of a link. -/
def State.pfsOn (s : State) (l : Nat) : List Nat := [0, 1, 2, 3].filter (fun p => s.linkOfPf p == l)

/-- R301, R304: First VF Offset of a PF, with function numbers counted within its link. -/
def State.firstVf (s : State) (p : Nat) : Nat :=
  let ps := s.pfsOn (s.linkOfPf p)
  ps.length + ((ps.filter (fun q => decide (q < p))).map (fun q => s.totalVfs q)).sum - (ps.filter (fun q => decide (q < p))).length

/-- Table 9.2: Device ID and class code. -/
def State.devId (s : State) (f : Nat) : Nat := if f < 4 then 0x0960 + f else 0x0968 + (s.pfOf f).getD 1
def State.classCode (s : State) (f : Nat) : Nat :=
  match (s.pfOf f).getD 0 with | 0 => 0x088000 | 1 => 0x020000 | 2 => 0x018000 | _ => 0x120000

/-- R5, R305: the size of BAR0, BAR2 or BAR4 of a function. -/
def State.pcieBarSize (s : State) (f b : Nat) : Nat :=
  if b = 0 then (if f = 0 then 2 ^ 26 else 2 ^ 16) else if b = 2 then 4096 * s.bar2Pages f else 2 ^ 16

/-- R5: what a BAR of a PF reads: its base, with the type of a 64-bit memory BAR that is not prefetchable. The BARs of a VF lie in
its PF's SR-IOV capability, and its own read zero (PRESUMED, log entry 143: the type bits and this are PCIe's). -/
def barValue (f : Nat) (v : W64) : Nat := if f < 4 then v.toNat ||| 4 else 0

/-- R302, R303: a function implements a capability of Table 9.1. -/
def State.hasCap (s : State) (f : Nat) : PcieCap → Bool
  | .express | .msix | .aer | .ari => true
  | .power | .msi | .serial | .acs | .ide | .doe => decide (f < 4)
  | .sriov => decide (1 ≤ f) && decide (f < 4)
  | .link => (s.pfsOn (s.linkOf f)).head? == some f

/-- The value a configuration read of a field returns: a supported payload of 512 bytes reads 2, and 32 messages read 5, as PCIe
encodes them. -/
def State.cfgRead (s : State) (f : Nat) (r : CfgReg) : Nat :=
  let c := (s.func f).cfg
  match r with
  | .vendorId => s.rd F.HOSTLINK_ID.VENDOR
  | .deviceId => s.devId f
  | .classCode => s.classCode f
  | .bar0 => barValue f c.bar0
  | .bar2 => barValue f c.bar2
  | .bar4 => barValue f c.bar4
  | .intxStatus => natB (decide (f < 4) && s.intxPend f)
  | .intxPin => natB (decide (f < 4))
  | .capability k => natB (s.hasCap f k)
  | .mpsSupported => 2
  | .msiCapable => if f < 4 then 5 else 0
  | .noSoftReset => natB (decide (f < 4))
  | .ctoRanges => 15
  | .serialNumber => if f < 4 then Config.serialNumber.toNat else 0
  | .busMaster => natB c.busMaster
  | .intxDisable => natB c.intxDisable
  | .powerState => if c.d3hot then 3 else 0
  | .msiEnable => natB c.msiEn
  | .msiCount => c.msiCount
  | .msiMask => c.msiMask.toNat
  | .msiPend => c.msiPend.toNat
  | .msiAddr => c.msiAddr.toNat
  | .msiData => c.msiData
  | .msixEnable => natB c.msixEn
  | .msixMask => natB c.msixMask
  | .msixSize => s.vectors f - 1
  | .cplTimeout => c.cto
  | .mrrs => c.mrrs
  | .tag10 => natB c.tag10
  | .aerCplTimeout => natB c.aerCto
  | .aerUnexpected => natB c.aerUnexp
  | .aerIdeCheck => natB c.aerIde
  | .totalVfs => if 1 ≤ f ∧ f < 4 then s.totalVfs f else 0
  | .vfStride => if 1 ≤ f ∧ f < 4 then 1 else 0
  | .firstVf => if 1 ≤ f ∧ f < 4 then s.firstVf f else 0
  | .vfBar0 | .vfBar4 => if 1 ≤ f ∧ f < 4 then 2 ^ 16 else 0
  | .vfBar2 => if 1 ≤ f ∧ f < 4 then 4096 * s.vfPages f else 0
  | .numVfs => c.numVfs
  | .vfEnable => natB c.vfEnable

/-- R313: messages whose masks have cleared are sent. -/
def State.sendPending (s : State) (f : Nat) : State :=
  let xs := (s.host.msix.filter (fun e => e.1 / 4096 == f && e.2.pend)).map (fun e => e.1 % 4096)
  let s := xs.foldl (fun s x => s.msixRelease f x) s
  let c := (s.func f).cfg
  if c.msiEn ∧ c.msixEn = false then
    let ks := (List.range 32).filter (fun k => c.msiPend.getLsbD k && !c.msiMask.getLsbD k)
    let s := s.modCfg f (fun c => { c with msiPend := c.msiPend &&& c.msiMask })
    ks.foldl (fun s k => s.sendMsi f k) s
  else s

/-- A configuration write of a field; a field that PCIe makes read-only, or that a VF does not have, keeps its value. -/
def State.cfgWrite (s : State) (f : Nat) (r : CfgReg) (v : Nat) : State :=
  let set (g : Pcie → Pcie) : State := s.modCfg f g
  let pf : Bool := decide (f < 4)
  let base (b : Nat) : W64 := BitVec.ofNat 64 (v / s.pcieBarSize f b * s.pcieBarSize f b)
  match r with
  | .bar0 => if pf then set (fun c => { c with bar0 := base 0 }) else s
  | .bar2 => if pf then set (fun c => { c with bar2 := base 2 }) else s
  | .bar4 => if pf then set (fun c => { c with bar4 := base 4 }) else s
  | .busMaster => (set (fun c => { c with busMaster := v == 1 })).hostService
  | .powerState => if pf then (if v = 0 ∨ v = 3 then (set (fun c => { c with d3hot := v == 3 })).hostService else s) else s
  | .intxDisable => if pf then set (fun c => { c with intxDisable := v == 1 }) else s
  | .msiEnable => if pf then (set (fun c => { c with msiEn := v == 1 })).sendPending f else s
  | .msiCount => if pf ∧ v ≤ 5 then set (fun c => { c with msiCount := v }) else s
  | .msiMask => if pf then (set (fun c => { c with msiMask := BitVec.ofNat 32 v })).sendPending f else s
  | .msiAddr => if pf then set (fun c => { c with msiAddr := BitVec.ofNat 64 (v / 4 * 4) }) else s
  | .msiData => if pf then set (fun c => { c with msiData := v % 65536 }) else s
  | .msixEnable => (set (fun c => { c with msixEn := v == 1 })).sendPending f
  | .msixMask => (set (fun c => { c with msixMask := v == 1 })).sendPending f
  | .cplTimeout => if pf then set (fun c => { c with cto := v % 16 }) else s
  | .mrrs => if v ≤ 5 then set (fun c => { c with mrrs := v }) else s
  | .tag10 => if pf then set (fun c => { c with tag10 := v == 1 }) else s
  | .aerCplTimeout => if v = 1 then set (fun c => { c with aerCto := false }) else s
  | .aerUnexpected => if v = 1 then set (fun c => { c with aerUnexp := false }) else s
  | .aerIdeCheck => if v = 1 then set (fun c => { c with aerIde := false }) else s
  | .numVfs => if 1 ≤ f ∧ f < 4 then s.vfWrite f (s.func f).cfg.vfEnable (min v (s.totalVfs f)) false else s
  | .vfEnable => if 1 ≤ f ∧ f < 4 then s.vfWrite f (v == 1) (s.func f).cfg.numVfs false else s
  | .intxPin | .capability _ | .mpsSupported | .msiCapable | .noSoftReset | .ctoRanges | .serialNumber
  | .vendorId | .deviceId | .classCode | .intxStatus | .msiPend | .msixSize | .totalVfs | .vfStride | .firstVf
  | .vfBar0 | .vfBar2 | .vfBar4 => s

/-- R310, R324, R391, R396: a configuration request of a function's link, a write when `v` is given. A function that does not
exist answers as PCIe lays down for one: all ones. -/
def execConfigRequest (f : Nat) (r : CfgReg) (v : Option Nat) (s : State) : Host.Outcome State Fault Refusal :=
  let l := s.linkOf f
  if s.linkReady l = false ∨ s.fstate f = fsTeardown then .next (s.retryStatus f)
  else if s.funcList.contains f = false ∨ s.fstate f = fsDisabled ∨ (s.cob.boot.stage = .recovery ∧ f ≠ 0) then
    .next (s.emit (.cfgReply f (some (allOnes 4))))
  else match v with
    | none => .next (s.emit (.cfgReply f (some (s.cfgRead f r))))
    | some x => .next ((s.cfgWrite f r x).emit (.cfgReply f (some 0)))

/-- R324, R396: once the gate is open and 20 ms have passed, the link's functions answer normally; in ROM recovery PF0 does. -/
def execConfigReady (l : Nat) (s : State) : Host.Outcome State Fault Refusal :=
  match AMap.get? s.host.perst l with
  | none => .next s
  | some t =>
    if (s.locked ∧ t + msec 20 ≤ s.clk.time) ∨ (s.cob.boot.stage = .recovery ∧ l = 0) then
      .next (s.setHost { s.host with ready := AMap.set s.host.ready l true })
    else .next s

/-- R324: PERST_N of a link rises. -/
def execPerstNDeassertion (l : Nat) (s : State) : Host.Outcome State Fault Refusal :=
  if 2 ≤ l ∨ (l = 1 ∧ s.flag F.POWER_STRAP.HOST_BIFUR = false) then .next s
  else
    let s := { s with pwr := { s.pwr with perst := s.pwr.perst.filter (fun x => x != l) } }
    let b := s.cob.boot
    let s := if s.locked then s else { s with cob := { s.cob with boot := { b with since := max b.since s.clk.time } } }
    .next (s.setHost { s.host with perst := AMap.set s.host.perst l s.clk.time, ready := AMap.set s.host.ready l false })

/-- R300, R301: the speeds and widths a host link can train to: SPEED codes 1 to 7, and 1, 2, 4 or 8 lanes, or 16 of link 0
where HOST_BIFUR is 0. -/
def State.hostTrains (s : State) (speed width : Nat) : Bool :=
  decide (1 ≤ speed) && decide (speed ≤ 7) && ([1, 2, 4, 8].contains width || width == 16 && !s.flag F.POWER_STRAP.HOST_BIFUR)

/-- R300, R301: a host link completes training, in flit mode where the partner supports it too (`flit`) and always at the two top
speeds. A link that carries no PF stays in Detect, and none trains to a speed or width it does not support. -/
def execHostLinkUp (l : Nat) (flit : Bool) (speed width : Nat) (s : State) : Host.Outcome State Fault Refusal :=
  if 2 ≤ l ∨ s.pfsOn l = [] ∨ s.pwr.perst.contains l ∨ (AMap.get? s.host.perst l).isNone ∨ s.hostTrains speed width = false then .next s
  else
    let s := (s.wr (F.HOSTLINK_LINK_STATUS.UP l) 1).wr (F.HOSTLINK_LINK_STATUS.FLIT l) (natB (flit || decide (6 ≤ speed)))
    .next (((s.wr (F.HOSTLINK_LINK_STATUS.SPEED l) speed).wr (F.HOSTLINK_LINK_STATUS.WIDTH l) width).hostService)

/-! ### HOST reset (R321 to R323) -/

/-- The functions that exist on a link. -/
def State.funcsOn (s : State) (l : Nat) : List Nat := s.funcList.filter (fun f => s.linkOf f == l && s.fstate f != fsDisabled)

/-- R322: registers that a HOST reset of link 0 returns to reset: GLOBAL_CSR_ERR and GLOBAL_CSR_ERR_CNT, HOSTLINK_INTX, and
the counters of HOSTLINK_STAT. -/
def hostReg (a : Nat) : Bool :=
  a == 0x10 || a == 0x14 || a == 0x1600020 || (decide (0x1600600 ≤ a) && decide (a < 0x1600620))

/-- R323: HOST reset of a link. -/
def State.hostReset (s : State) (l : Nat) : State :=
  let fs := s.funcsOn l
  let s := ((s.pfsOn l).filter (fun p => p != 0)).foldl (fun s p => s.vfWrite p false 0 true) s
  let s := (fs.filter (fun f => f < 4)).foldl (fun s f => s.tearStart f fsActive true) s
  let s := s.abandonReqs (fun f _ => fs.contains f) false
  let s := s.setHost { s.host with quar := s.host.quar.filter (fun q => q.link != l), ready := AMap.set s.host.ready l false,
                                   perst := AMap.set s.host.perst l s.clk.time }
  let ks := (List.range 64).filter (fun k => s.flag (F.HOSTLINK_IDE.ACTIVE k) && s.linkOf (s.rd (F.HOSTLINK_IDE.FIRST_FUNC k)) == l)
  let s := ks.foldl (fun s k => ((s.wr (F.HOSTLINK_IDE.ACTIVE k) 0).wr (F.HOSTLINK_IDE.STREAM_ID k) 0).setHost { s.host with ideKeys := AMap.del s.host.ideKeys k }) s
  let m := s.cob.mgmt
  let s := { s with cob := { s.cob with mgmt := { m with sessions := m.sessions.filter (fun e => !(decide (e.2 < 4) && s.linkOfPf e.2 == l)) } } }
  let s := ((s.wr (F.HOSTLINK_LINK_STATUS.UP l) 0).wr (F.HOSTLINK_LINK_STATUS.FLIT l) 0).wr (F.HOSTLINK_LINK_STATUS.SPEED l) 0
  let s := s.wr (F.HOSTLINK_LINK_STATUS.WIDTH l) 0
  if l = 0 then { s with csr := s.csr.filter (fun e => !hostReg e.1), latchPf0 := none } else s

/-- R321: PERST_N (which then stays asserted), hot reset, or link down of one link, with RESET_SCOPE at its default. With
RESET_SCOPE = FULL the first two raise POWER, and the command is POWER_RESET. -/
def execHostReset (l : Nat) (perst : Bool) (s : State) : Host.Outcome State Fault Refusal :=
  if 2 ≤ l ∨ s.flag F.POWER_STRAP.RESET_SCOPE then .next s
  else
    let s := s.hostReset l
    if perst then
      let s := { s with pwr := { s.pwr with perst := l :: s.pwr.perst.filter (fun x => x != l) } }
      .next (s.setHost { s.host with perst := AMap.del s.host.perst l })
    else .next s

/-! ### FUNCTION_ABORT, TENANT_ABORT, RELEASE (R326 to R328) -/

/-- A HOSTLINK_ABORT command of an operation is to run. -/
def State.hAbortRuns (s : State) (op : Nat) : Bool := s.flag F.HOSTLINK_ABORT.BUSY && s.rd F.HOSTLINK_ABORT.OP == op && s.host.abort.isNone

/-- The command of HOSTLINK_ABORT reports done. -/
def State.hAbortDone (s : State) (st detail elapsed : Nat) : State :=
  let s := (s.wr F.HOSTLINK_ABORT.GO 0).wr F.HOSTLINK_ABORT.BUSY 0
  (((s.wr F.HOSTLINK_ABORT_STATUS.STATUS st).wr F.HOSTLINK_ABORT_STATUS.DETAIL detail).wr F.HOSTLINK_ABORT_STATUS.ELAPSED
    (min elapsed 4000)).wr F.HOSTLINK_ABORT_STATUS.DONE 1

def hdProtected : Nat := 1
def hdBadTarget : Nat := 2
def hdNotHeld : Nat := 3
def hdBadOp : Nat := 4

/-- R326, steps 1 and 2, on the functions and the PF0 queues an abort reaches; a function in TEARDOWN ends HELD (R325). -/
def State.abortStart (s : State) (fs wqs : List Nat) (tenant : Bool) : State :=
  let s := fs.foldl (fun s f =>
    match (s.func f).tear with
    | some t => s.modFunc f (fun x => { x with tear := some { t with after := if t.after = fsDisabled then fsDisabled else fsHeld } })
    | none => (s.setFstate f fsHeld).functionReset f) s
  let ws := (fs.flatMap (fun f => s.wqsOf f false)) ++ wqs
  let s := (ws.foldl (fun s n => s.abortWq n) s).weltSweep
  s.setHost { s.host with abort := some { since := s.host.goAt, tenant := tenant, funcs := fs, wqs := ws, squashed := false } }

/-- R326: FUNCTION_ABORT of the function that TARGET names. -/
def execFunctionAbort (s : State) : Host.Outcome State Fault Refusal :=
  let f := s.rd F.HOSTLINK_ABORT.TARGET
  if s.hAbortRuns 1 = false then .next s
  else if f = 0 then .next (s.hAbortDone stAccessDenied hdProtected 0)
  else if s.funcList.contains f = false ∨ s.fstate f = fsDisabled then .next (s.hAbortDone stRange hdBadTarget 0)
  else .next (s.abortStart [f] [] false)

/-- R327: the functions that a TENANT_ABORT accepted now reaches. -/
def State.tenantFuncs (s : State) (t : Nat) : List Nat :=
  s.funcList.filter (fun f => decide (4 ≤ f) && s.funcTenant f == t && s.fstate f != fsDisabled)

/-- R327: TENANT_ABORT of every function that was bound at acceptance to the tenant that TARGET names, and of its PF0 queues. -/
def execTenantAbort (s : State) : Host.Outcome State Fault Refusal :=
  let t := s.rd F.HOSTLINK_ABORT.TARGET % 4096
  if s.hAbortRuns 2 = false then .next s
  else if t = 0 then .next (s.hAbortDone stAccessDenied hdProtected 0)
  else
    let ws := (s.q.wqs.filter (fun e => decide (e.1 < 65536) && e.2.func == 0 && e.2.tenant == t)).map (fun e => e.1)
    .next (s.abortStart (s.host.goFuncs.filter (fun f => s.fstate f != fsDisabled)) ws true)

/-- The times of the steps of an abort: 1.600 and 1.800 ms, or 3.200 and 3.600 ms for a tenant. -/
def HostAbort.squashAt (a : HostAbort) : Nat := a.since + usec (if a.tenant then 3200 else 1600)
def HostAbort.abandonAt (a : HostAbort) : Nat := a.since + usec (if a.tenant then 3600 else 1800)

/-- R326, step 3: jobs still running are squashed. -/
def execAbortSquash (s : State) : Host.Outcome State Fault Refusal :=
  match s.host.abort with
  | none => .next s
  | some a =>
    if a.squashed ∨ s.clk.time < a.squashAt then .next s
    else
      let s := (a.wqs.foldl (fun s n => s.squashWq n) s).weltSweep
      .next (s.setHost { s.host with abort := some { a with squashed := true } })

/-- R326, steps 4 and 5: outstanding host reads are abandoned, the WQs enter STOPPED, and the command reports done. -/
def execAbortReadAbandon (s : State) : Host.Outcome State Fault Refusal :=
  match s.host.abort with
  | none => .next s
  | some a =>
    if s.clk.time < a.abandonAt then .next s
    else
      let s := (a.wqs.foldl (fun s n => s.squashWq n) s).weltSweep
      let t := s.rd F.HOSTLINK_ABORT.TARGET % 4096
      let s := s.abandonReqs (fun f u => a.funcs.contains f || (a.tenant && f == 0 && u == t)) true
      let s := (a.wqs.foldl (fun s n => s.stopWq n) s).abortsDone
      .next ((s.setHost { s.host with abort := none }).hAbortDone stOk 0 ((s.clk.time - a.since) / usec 1))

/-- R327: RELEASE_FUNCTION returns a HELD function to ACTIVE. -/
def execReleaseFunction (s : State) : Host.Outcome State Fault Refusal :=
  let f := s.rd F.HOSTLINK_ABORT.TARGET
  if s.hAbortRuns 3 = false then .next s
  else if s.funcList.contains f = false ∨ s.fstate f = fsDisabled then .next (s.hAbortDone stRange hdBadTarget 0)
  else if s.fstate f ≠ fsHeld then .next (s.hAbortDone stRange hdNotHeld 0)
  else .next ((s.setFstate f fsActive).hAbortDone stOk 0 0)

/-- R327: RELEASE_TENANT returns every HELD function of the tenant to ACTIVE. -/
def execReleaseTenant (s : State) : Host.Outcome State Fault Refusal :=
  let t := s.rd F.HOSTLINK_ABORT.TARGET % 4096
  if s.hAbortRuns 4 = false then .next s
  else
    let fs := s.funcList.filter (fun f => s.funcTenant f == t && s.fstate f == fsHeld)
    .next ((fs.foldl (fun s f => s.setFstate f fsActive) s).hAbortDone stOk 0 0)

end Sys2Proof.Machine
end

