-- ==== Sys2Proof/Machine/ObordRegs.lean ====
section
/-! DEFINITION. What the Obord instructions read and write, which contexts they may issue in (R91, Table 3.2), and the classes
that the readiness rule (R51) and the bound rule (R119, R120) speak of. -/

namespace Sys2Proof

open Sys2Proof.Machine

/-- Register fields an instruction reads, g0 included. -/
def Ob.reads : Ob → List Reg
  | .alu .cmovnz rd ra rb => [ra, rb, rd]
  | .alu fn _ ra rb => if fn.unary then [ra] else [ra, rb]
  | .crc _ _ ra rb | .hmix _ ra rb => [ra, rb]
  | .addi _ ra _ | .andi _ ra _ | .ori _ ra _ | .xori _ ra _ | .shi _ ra _ _ | .sltiu _ ra _ => [ra]
  | .movi _ _ | .rdctr _ _ => []
  | .movhi rd _ _ => [rd]
  | .bfx _ ra _ _ => [ra]
  | .bfi rd ra _ _ => [ra, rd]
  | .br _ ra rb _ | .brb _ ra rb _ => [ra, rb]
  | .bb _ ra _ _ => [ra]
  | .jmp _ | .loop _ _ | .call _ => []
  | .done _ ra | .jr _ ra | .loopr ra _ => [ra]
  | .ld _ _ _ ra _ | .hld _ _ _ ra _ | .sld _ _ _ ra _ | .devld _ _ _ ra _ | .csrrd _ _ _ ra _ => [ra]
  | .st _ rd ra _ | .hst _ rd ra _ | .sst _ rd ra _ | .devst _ rd ra _ | .csrwr _ rd ra _ => [ra, rd]
  | .satom .cas _ rd ra rb => [ra, rb, rd]
  | .satom _ _ _ ra rb => [ra, rb]
  | .lkup _ ra _ _ => [ra]
  | .lkw _ _ => []
  | .fcwb _ ra rb | .qpost _ ra rb => [ra, rb]
  | .ystage ra _ | .ysend _ ra _ _ _ | .yres _ ra _ _ _ | .yput ra _ | .yrecv _ ra _ | .wait _ ra _ => [ra]
  | .ycommit _ | .ynote _ | .signal _ _ => []
  | .csub _ ra | .resume ra | .frec _ ra => [ra]
  | .tstate _ => []

/-- Registers an instruction writes, g0 included. CALL writes g31 (R109). -/
def Ob.writes : Ob → List Reg
  | .alu _ rd _ _ | .crc _ rd _ _ | .hmix rd _ _ => [rd]
  | .addi rd _ _ | .andi rd _ _ | .ori rd _ _ | .xori rd _ _ | .shi rd _ _ _ | .sltiu rd _ _ => [rd]
  | .movi rd _ | .movhi rd _ _ | .bfx rd _ _ _ | .bfi rd _ _ _ | .rdctr rd _ => [rd]
  | .br _ _ _ _ | .bb _ _ _ _ | .jmp _ | .loop _ _ | .done _ _ | .brb _ _ _ _ | .loopr _ _ => []
  | .call _ => [31]
  | .jr rd _ => [rd]
  | .ld _ _ rd _ _ | .hld _ _ rd _ _ | .sld _ _ rd _ _ | .devld _ _ rd _ _ | .csrrd _ _ rd _ _ => [rd]
  | .st _ _ _ _ | .hst _ _ _ _ | .sst _ _ _ _ | .devst _ _ _ _ | .csrwr _ _ _ _ => []
  | .satom _ _ rd _ _ => [rd]
  | .lkup _ _ _ _ => []
  | .lkw rd _ | .fcwb rd _ _ | .qpost rd _ _ | .csub rd _ => [rd]
  | .ystage _ _ | .yput _ _ | .signal _ _ | .resume _ => []
  | .ysend rd _ _ _ _ | .yres rd _ _ _ _ | .ycommit rd | .yrecv rd _ _ | .ynote rd | .wait rd _ _ => [rd]
  | .frec rd _ | .tstate rd => [rd]

/-- The instruction reads register `r` other than g0. -/
def Ob.readsReg (i : Ob) (r : Nat) : Bool := i.reads.any (fun x => x.toNat == r && r != 0)

/-- The yarn-class instructions (R104). -/
def Ob.yarnClass : Ob → Bool
  | .ysend _ _ _ _ _ | .yres _ _ _ _ _ | .ycommit _ | .csub _ _ | .qpost _ _ _ | .fcwb _ _ _ => true
  | _ => false

/-- The scratch instructions (R100). -/
def Ob.isScratch : Ob → Bool
  | .sld _ _ _ _ _ | .sst _ _ _ _ | .satom _ _ _ _ _ => true
  | _ => false

/-- Where an instruction issues (R91). -/
inductive Ctx where
  | bounded | t0 | long | cobbler
  deriving DecidableEq, Repr

/-- A fault that the context of an instruction causes: its cause (Table 2.10) and DETAIL. -/
structure FaultInfo where
  cause : Nat
  detail : Nat
  deriving DecidableEq, Repr

def fcBadAddr : Nat := 1
def fcPriv : Nat := 2
def fcOverrun : Nat := 3
def fcIllegal : Nat := 4
def fcAlign : Nat := 5
def fcScrProt : Nat := 6
def fcYarn : Nat := 7
def fcIstore : Nat := 8
def fcLmemEcc : Nat := 9

/-- Privileged in bounded threads (Table 3.2). -/
def Ob.priv : Ob → Bool
  | .call _ | .brb _ _ _ _ | .jr _ _ | .loopr _ _ | .yrecv _ _ _ | .resume _ | .frec _ _ | .tstate _
  | .devld _ _ _ _ _ | .devst _ _ _ _ | .csrrd _ _ _ _ _ | .csrwr _ _ _ _ => true
  | .wait _ _ nb => !nb
  | _ => false

/-- Not available on the Cobbler (Table 3.2). -/
def Ob.illCobbler : Ob → Bool
  | .done _ _ | .sld _ _ _ _ _ | .sst _ _ _ _ | .satom _ _ _ _ _ | .hld _ _ _ _ _ | .hst _ _ _ _
  | .lkup _ _ _ _ | .lkw _ _ | .fcwb _ _ _ | .signal _ _ | .csub _ _ | .qpost _ _ _
  | .resume _ | .frec _ _ | .tstate _ | .devld _ _ _ _ _ | .devst _ _ _ _ => true
  | _ => false

/-- THRCTL issues only from T0 (R111). -/
def Ob.thrctl : Ob → Bool
  | .resume _ | .frec _ _ | .tstate _ => true
  | _ => false

/-- A blocking YSEND or YRES (R69). -/
def Ob.blockingSend : Ob → Bool
  | .ysend _ _ _ _ blk => blk
  | .yres _ _ _ _ blk => blk
  | _ => false

/-- R90, R91: the context fault of an instruction, if any. -/
def Ob.ctxFault (i : Ob) : Ctx → Option FaultInfo
  | .bounded =>
    if i.priv then some ⟨fcPriv, 0⟩ else if i.blockingSend then some ⟨fcYarn, 1⟩ else none
  | .t0 | .long => match i with
    | .done _ _ | .csrrd _ _ _ _ _ | .csrwr _ _ _ _ => some ⟨fcIllegal, 4⟩
    | _ => none
  | .cobbler => if i.illCobbler then some ⟨fcIllegal, 4⟩ else none

/-- The context fault, THRCTL being T0's alone among long-work threads. -/
def Ob.contextFault (i : Ob) (c : Ctx) : Option FaultInfo :=
  if c = .long ∧ i.thrctl then some ⟨fcIllegal, 4⟩ else i.ctxFault c

/-- R97, Table 3.3: a LOOP body that extends beyond PC 8,191. -/
def Ob.bodyBeyond (i : Ob) (pc : Nat) : Bool :=
  match i with
  | .loop _ len => decide (pc + len.toNat > 8191)
  | .loopr _ len => decide (pc + len.toNat > 8191)
  | _ => false

end Sys2Proof
end

