-- ==== Sys2Proof/Machine/Operands.lean ====
section
/-! DEFINITION. The operand forms and functions of Obord: the ALU functions of Table 3.5, the immediate forms, bit fields and
hashes, conditions, addresses with their checks, and the atomics (R56, R62, R92 to R100). -/

namespace Sys2Proof.Machine

open Sys2Proof

/-- The bytes of a word from the least significant up. -/
def byteReverse (n : Nat) (v : W64) : W64 := BitVec.ofNat 64 (beNat (toLE n v.toNat))

/-- Leading zeros of a 64-bit word, counted from bit `n` down. -/
def clzFrom (v : W64) : Nat → Nat
  | 0 => 0
  | n + 1 => if v.getLsbD n then 0 else 1 + clzFrom v n

/-- Trailing zeros of a 64-bit word: of the `n` bits from bit `64 - n` up. -/
def ctzFrom (v : W64) : Nat → Nat
  | 0 => 0
  | n + 1 => if v.getLsbD (63 - n) then 0 else 1 + ctzFrom v n

def popCount (v : W64) : Nat := (List.range 64).foldl (fun n i => if v.getLsbD i then n + 1 else n) 0

def boolWord (b : Bool) : W64 := if b then 1 else 0

/-- R92, Table 3.5: an ALU function of ra and rb; `d` is the value rd holds, which CMOVNZ keeps. -/
def aluEval (fn : AluFn) (a b d : W64) : W64 :=
  let n := b.toNat % 64
  match fn with
  | .add => a + b
  | .sub => a - b
  | .and => a &&& b
  | .or => a ||| b
  | .xor => a ^^^ b
  | .andn => a &&& ~~~b
  | .shl => a <<< n
  | .shr => a >>> n
  | .sar => a.sshiftRight n
  | .rol => a.rotateLeft n
  | .slt => boolWord (a.slt b)
  | .sltu => boolWord (a.ult b)
  | .seq => boolWord (a == b)
  | .minU => if a.ult b then a else b
  | .maxU => if a.ult b then b else a
  | .cmovnz => if b = 0 then d else a
  | .mul => a * b
  | .mulhu => BitVec.ofNat 64 (a.toNat * b.toNat / 2 ^ 64)
  | .popc => BitVec.ofNat 64 (popCount a)
  | .clz => BitVec.ofNat 64 (clzFrom a 64)
  | .ctz => BitVec.ofNat 64 (ctzFrom a 64)
  | .bsw16 => byteReverse 2 a
  | .bsw32 => byteReverse 4 a
  | .bsw64 => byteReverse 8 a

/-- R93: the kinds of SHI. -/
def shiftEval (k : ShiftKind) (a : W64) (n : Nat) : W64 :=
  match k with
  | .shl => a <<< n
  | .shr => a >>> n
  | .sar => a.sshiftRight n
  | .rol => a.rotateLeft n

/-- R94: a bit field of ra, zero-extended. -/
def bfxEval (a : W64) (pos lenm1 : Nat) : W64 := (a >>> pos) &&& BitVec.ofNat 64 (2 ^ (lenm1 + 1) - 1)

/-- R94: bits pos + lenm1 to pos of rd replaced. -/
def bfiEval (d a : W64) (pos lenm1 : Nat) : W64 :=
  let m := BitVec.ofNat 64 (2 ^ (lenm1 + 1) - 1)
  (d &&& ~~~(m <<< pos)) ||| ((a &&& m) <<< pos)

/-- One bit of the reflected CRC-32C (R95). -/
def crcBit (r : W32) : W32 := if r.getLsbD 0 then (r >>> 1) ^^^ 0x82F63B78 else r >>> 1

/-- One byte of the reflected CRC-32C. -/
def crcByte (r : W32) (b : Byte) : W32 :=
  crcBit (crcBit (crcBit (crcBit (crcBit (crcBit (crcBit (crcBit (r ^^^ b.setWidth 32))))))))

/-- R95: CRC32C of 1, 2, 4 or 8 bytes of rb, least significant first, from the remainder in ra. -/
def crcEval (sz : Size) (a b : W64) : W64 :=
  ((toLE sz.bytes b.toNat).foldl crcByte (a.setWidth 32)).setWidth 64

/-- R95: Meurcen's 64-bit mixing hash. -/
def hmixEval (a b : W64) : W64 :=
  let x := (a ^^^ b.rotateLeft 23) * 0x9E3779B97F4A7C15#64
  x ^^^ (x >>> 29)

/-- R96: the condition of a branch. -/
def condHolds (cc : Cond) (a b : W64) : Bool :=
  match cc with
  | .eq => a == b
  | .ne => a != b
  | .lt => a.slt b
  | .ge => !a.slt b
  | .ltu => a.ult b
  | .geu => !a.ult b

/-- ra + sext(off) of format M. -/
def eaOf (a : W64) (off : BitVec 13) : Nat := (a + off.signExtend 64).toNat

/-- A loaded value of a size, sign-extended or not. -/
def extendTo (sz : Size) (sx : Bool) (v : Nat) : W64 :=
  match sz, sx with
  | .b, true => (BitVec.ofNat 8 v).signExtend 64
  | .h, true => (BitVec.ofNat 16 v).signExtend 64
  | .w, true => (BitVec.ofNat 32 v).signExtend 64
  | _, _ => BitVec.ofNat 64 v

/-- R56: an access of `n` bytes at a local address with an alignment: BAD_ADDR is taken before ALIGN. -/
def localFault (tid a n align : Nat) : Option FaultInfo :=
  if localRange tid < a + n then some ⟨fcBadAddr, 0⟩
  else if a % align ≠ 0 then some ⟨fcAlign, 0⟩ else none

/-- R62: an access of `n` bytes of scratch: BAD_ADDR, then ALIGN, then SCR_PROT with the block for a bounded thread whose
mule does not grant it. -/
def State.scratchFault (s : State) (tid a n : Nat) (write : Bool) : Option FaultInfo :=
  if 0x80000 < a + n then some ⟨fcBadAddr, 1⟩
  else if a % n ≠ 0 then some ⟨fcAlign, 0⟩
  else
    let b := a / 0x10000
    if s.bounded tid ∧ (s.rd (F.MULE_SCR_PROT.PERM (muleOf (spOf tid)))).testBit (2 * b + (if write then 1 else 0)) = false then
      some ⟨fcScrProt, b⟩
    else none

/-- R61, R100: what an atomic stores over the old value; CAS stores nothing when the word differs from rd. -/
def atomEval (op : AtomOp) (n : Nat) (old operand compare : Nat) : Nat :=
  match op with
  | .fetchAdd => (old + operand) % 2 ^ (8 * n)
  | .swap => operand
  | .cas => if old = compare then operand else old
  | .and => old &&& operand
  | .or => old ||| operand
  | .xor => old ^^^ operand
  | .minU => min old operand
  | .maxU => max old operand

end Sys2Proof.Machine
end

