-- ==== Sys2Proof/Machine/Fault.lean ====
section
/-! DEFINITION. Faults of threads, the handing on of their work, restarts and resumption (chapter 02: R58, R74, R81, R82,
R83, R114; chapter 03: R117, R126). -/

namespace Sys2Proof.Machine

open Sys2Proof

/-- Reasons of a restart (R114). -/
def rsRole : Nat := 1
def rsSwap : Nat := 2
def rsFault : Nat := 3
def rsAbort : Nat := 4

/-- R58, R64, R81, R114: a long-work thread restarts at its entry in the active bank, an open reservation poisoned, with its
reason in g1; without an entry it is OFF. A blocking message that it waited for stays under way, and its status is written when
it returns (DESIGN CHOICE, log entry 149). -/
def State.restartThr (s : State) (tid reason : Nat) : State :=
  let s := s.poison tid
  match s.longEntry tid with
  | none => (s.modThr tid (fun x => { x with restartReq := none, restartDue := false, loops := [], ywait := none })).setTs tid tsOff
  | some pc =>
    let bank := s.activeBank (spOf tid)
    let s := (s.supersede tid (if tOf tid = 0 then [1] else [1, 2])).modThr tid (fun x =>
      let x := { x with pc := pc, bank := bank, loops := [], restartReq := none, restartDue := false, lkwStall := none,
                         portWait := none, ywait := none }
      let x := x.setG 1 (BitVec.ofNat 64 reason)
      if tOf tid = 0 then x else x.setG 2 (BitVec.ofNat 64 (tOf tid)))
    s.setTs tid tsRun

/-! ### The end of a bounded program (R117) -/

/-- R117: what takes effect when a bounded program ends, whatever becomes of its work: the statuses of its operations belong to a
dispatch that is over. -/
def State.endProgram (s : State) (tid : Nat) : State :=
  (s.poison tid).modThr tid fun x =>
    { x with tickets := [], late := [], lkwStall := none, pend := [], scratchOp := none, portWait := none, loops := []
             gen := x.gen + 1 }

/-- The tenant of a Welt command's work item. -/
def State.itemTenant (s : State) (w : Work) : Nat := (s.weltCmd w.ref).elim 0 (fun c => s.volTenant c.vol)

/-- R160, Table 4.9: the slow-path message of a work item of Welt: no bobbin, time, class or port; LENGTH and QREF are free
values. -/
def State.itemWords (s : State) (w : Work) (status detail : Nat) : List W64 :=
  [BitVec.ofNat 64 ((Config.commandLen w.ref).toNat <<< 24 ||| status <<< 40 ||| detail <<< 48 ||| w.entry <<< 56 ||| w.source <<< 61),
   BitVec.ofNat 64 (s.itemTenant w ||| 1 <<< 62), 0,
   BitVec.ofNat 64 (s.stitch % 2 ^ 32 ||| (Config.commandQref w.ref).toNat <<< 32)]

/-- R160, R81: work goes to the slow path: a packet by its own half's, an item of Welt by that of its thread's mule. What Welt
still does for the command is not affected (DESIGN CHOICE, log entry 81). -/
def State.workSlow (s : State) (mule : Nat) (w : Work) (status detail : Nat) : State :=
  if w.source < 4 then s.slowPath w.ref 1 status detail
  else
    let h := halfOfMule mule
    if s.flag (F.EDIT_SP_DST.EN h) then
      match s.trySend (editorEp h) (s.rd (F.EDIT_SP_DST.ENDPOINT h)) (s.rd (F.EDIT_SP_DST.EPOCH h)) 0x3E (s.itemWords w status detail) false with
      | (.ok, s) => s.count F.EDIT_STAT.SP_SENT.CNT 1
      | (_, s) => s.count F.EDIT_STAT.SP_DROP.CNT 1
    else s.count F.EDIT_STAT.SP_DROP.CNT 1

/-- R81, R64, R126: the work of a stopped thread goes to the slow path. -/
def State.handOn (s : State) (tid status detail : Nat) : State :=
  match (s.thr tid).work with
  | none => s
  | some w => (s.workSlow (muleOf (spOf tid)) w status detail).modThr tid (fun x => { x with work := none })

/-! ### Faults (R81, R82) -/

/-- Word `w` of the fault record of a thread. -/
def faultF (tid w : Nat) : FRef := F.MULE_FAULT.W (muleOf (spOf tid)) (4 * (8 * logOf (spOf tid) + tOf tid) + w)

/-- Table 2.9: the record of a fault is latched. -/
def State.latchFault (s : State) (tid : Nat) (instr : W32) (fi : FaultInfo) (addr : Nat) : State :=
  let x := s.thr tid
  let w0 := fi.cause ||| 1 <<< 8 ||| x.bank <<< 9 ||| (x.pc % 8192) <<< 16 ||| instr.toNat <<< 32
  let w2 := s.stitch % 2 ^ 32 ||| (s.rd F.STITCH_POS.CYCLE % 65536) <<< 32 ||| (fi.detail % 65536) <<< 48
  let w3 := (match x.work with | some w => w.handle | none => 0) ||| (x.slots % 1024) <<< 32
  (((s.wr (faultF tid 0) w0).wr (faultF tid 1) addr).wr (faultF tid 2) w2).wr (faultF tid 3) w3

/-- R81: resuming and role changes clear a record. -/
def State.clearFault (s : State) (tid : Nat) : State :=
  (((s.wr (faultF tid 0) 0).wr (faultF tid 1) 0).wr (faultF tid 2) 0).wr (faultF tid 3) 0

/-- R81, R82: a thread faults at its present instruction. FAULT is raised to T0, and the work of a bounded thread is handed on; a
fault of T0 is reported to the Cobbler and stops dispatch. A fault on the Cobbler has no effect that the spec states. -/
def State.takeFault (s : State) (tid : Nat) (instr : W32) (fi : FaultInfo) (addr : Nat) : State :=
  if isCob tid then s
  else
    let sp := spOf tid
    let m := muleOf sp
    let s := (s.latchFault tid instr fi addr).count (F.MULE_STAT.FAULTS.CNT m) 1
    let late := fi.cause = fcOverrun
    let s := if late then s.count (F.MULE_STAT.OVERRUNS.CNT m) 1 else s
    let s := if s.bounded tid then s.endProgram tid else (s.poison tid).modThr tid (fun x => { x with loops := [], lkwStall := none, ywait := none })
    let s := if late then s.handOn tid stOverrun fi.detail else s.handOn tid stDeviceError fi.cause
    let s := (s.setTs tid tsFault).raise (tidOf sp 0) evFault
    if tOf tid = 0 then
      let s := (s.wr (F.MULE_EVENT.T0_FAULT m) 1).modSpindle sp (fun x => { x with t0Fault := true })
      s.event cobblerEvq (2 <<< 59 ||| m <<< 42 ||| logOf sp <<< 38 ||| fi.cause)
    else s

/-- R81: a thread in FAULT is resumed: its record clears, a bounded thread becomes IDLE, a long-work thread restarts. Where a bank
swap's restart fell due meanwhile, the reason is SWAP and not FAULT (DESIGN CHOICE, log entry 149). -/
def State.resumeThr (s : State) (tid : Nat) : State :=
  if s.ts tid ≠ tsFault then s
  else
    let s := s.clearFault tid
    let s := if tOf tid = 0 then s.modSpindle (spOf tid) (fun x => { x with t0Fault := false }) else s
    if s.bounded tid then s.setTs tid (s.restState tid)
    else s.restartThr tid (if (s.thr tid).restartDue then rsSwap else rsFault)

/-- The threads of a spindle that a mask names. -/
def maskThreads (sp mask : Nat) : List Nat := ((List.range 8).filter (fun t => mask.testBit t)).map (fun t => tidOf sp t)

/-- R81: a write of MULE_THR_CTRL.RESUME. -/
def execThrCtrlResume (sp mask : Nat) (s : State) : Host.Outcome State Fault Refusal :=
  if 768 ≤ sp then .next s else .next ((maskThreads sp mask).foldl (fun s t => s.resumeThr t) s)

/-! ### Overrun (R126, R127) -/

/-- R126: slot B has passed without DONE. The bound rule's latencies are hardware limits, so the position is reported. -/
def State.overrun (s : State) (tid : Nat) (instr : W32) : State :=
  let sp := spOf tid
  let e := match (s.thr tid).work with | some w => w.entry | none => 0
  (s.takeFault tid instr ⟨fcOverrun, e⟩ 0).report 0 (17 * muleOf sp + s.rd (F.MULE_ROLE.PHYS (muleOf sp) (logOf sp)))

/-- The instruction word at the PC of a thread in the bank it fetches from. -/
def State.fetchWord (s : State) (tid : Nat) : Option W32 :=
  match (s.spindle (spOf tid)).image (s.thr tid).bank with
  | none => none
  | some i => if (s.thr tid).pc < i.count then some (AMap.getD i.words (s.thr tid).pc 0#32) else none

/-- The bounded thread has used its budget and not retired. -/
def State.overDue (s : State) (tid : Nat) : Bool :=
  s.bounded tid && s.ts tid == tsRun && (s.thr tid).retireAt.isNone && decide (0 < (s.thr tid).budget) &&
    decide ((s.thr tid).budget ≤ (s.thr tid).slots)

def execOverrun (tid : Nat) (s : State) : Host.Outcome State Fault Refusal :=
  if s.overDue tid then .next (s.overrun tid ((s.fetchWord tid).getD 0#32)) else .next s

/-! ### Debugger halt (R83) -/

/-- R83: the halt takes effect; a hard one poisons an open reservation. -/
def State.haltThr (s : State) (tid : Nat) (hard forced : Bool) : State :=
  let st := s.ts tid
  let s := if hard then s.poison tid else s
  let s := (s.modThr tid (fun x => { x with haltReq := none, haltFrom := st })).setTs tid tsHalt
  if forced then s.wr (F.MULE_DBG_HALT.FORCED (muleOf (spOf tid)) (logOf (spOf tid))) 1 else s

/-- A reservation of the thread is open. -/
def Thread.holdsResv (x : Thread) : Bool :=
  match x.resv with
  | .opened _ _ _ => true
  | _ => false

/-- R83: a requested halt that is due at this issue cycle of the thread takes effect; none where none is due. -/
def State.haltDue (s : State) (tid : Nat) : Option State :=
  match (s.thr tid).haltReq with
  | none => none
  | some (hard, at_) =>
    if hard then some (s.haltThr tid true false)
    else if (s.thr tid).holdsResv = false then some (s.haltThr tid false false)
    else if at_ + 64 ≤ s.clk.cycles then some (s.haltThr tid true true)
    else none

def execSoftHaltEffect (tid : Nat) (s : State) : Host.Outcome State Fault Refusal := .next ((s.haltDue tid).getD s)

/-- R83: with debug access closed, a write of MULE_DBG_HALT is discarded and recorded. -/
def State.debugGate (s : State) (sp : Nat) (k : State → State) : State :=
  if s.cob.debugOpen then k s else s.csrError causeLocked (F.MULE_DBG_HALT.MASK (muleOf sp) (logOf sp)).addr true

/-- R83: HALT of the masked threads, soft or hard. -/
def State.dbgHalt (s : State) (sp mask : Nat) (hard : Bool) : State :=
  s.debugGate sp (fun s => (maskThreads sp mask).foldl (fun s t =>
    if s.ts t = tsOff ∨ s.ts t = tsHalt then s else s.modThr t (fun x => { x with haltReq := some (hard, s.clk.cycles) })) s)

def execDbgHalt (sp mask : Nat) (hard : Bool) (s : State) : Host.Outcome State Fault Refusal :=
  if 768 ≤ sp then .next s else .next (s.dbgHalt sp mask hard)

/-- R83: STEP lets each masked halted thread issue one instruction at its next issue cycle. -/
def State.dbgStep (s : State) (sp mask : Nat) : State :=
  s.debugGate sp (fun s => (maskThreads sp mask).foldl (fun s t =>
    if s.ts t = tsHalt then s.modThr t (fun x => { x with stepDue := true }) else s) s)

def execDbgStep (sp mask : Nat) (s : State) : Host.Outcome State Fault Refusal :=
  if 768 ≤ sp then .next s else .next (s.dbgStep sp mask)

/-- R83: RESUME returns each masked halted thread to the state it left; a restart that fell due meanwhile is made (R58). -/
def State.dbgResume (s : State) (sp mask : Nat) : State :=
  s.debugGate sp (fun s => (maskThreads sp mask).foldl (fun s t =>
    if s.ts t ≠ tsHalt then s
    else if (s.thr t).restartDue then (s.setTs t tsRun).restartThr t rsSwap
    else (s.modThr t (fun x => { x with stepDue := false })).setTs t (s.thr t).haltFrom) s)

def execDbgResume (sp mask : Nat) (s : State) : Host.Outcome State Fault Refusal :=
  if 768 ≤ sp then .next s else .next (s.dbgResume sp mask)

end Sys2Proof.Machine
end

