-- ==== Sys2Proof/Machine/Journal.lean ====
section
/-! DEFINITION. The boot flash, the protected flash and its journal of records (R385, R386, R401 to R405, R437). -/

namespace Sys2Proof.Machine

open Sys2Proof

/-! ### Flash: each byte is kept complemented, so that an unlisted byte reads erased -/

def flashRead (m : Memory) (a n : Nat) : Bytes := (Memory.read m a n).map (fun b => ~~~b)
def flashWrite (m : Memory) (a : Nat) (bs : Bytes) : Memory := Memory.write m a (bs.map (fun b => ~~~b))
def flashErase (m : Memory) (a n : Nat) : Memory := m.filter (fun c => !(decide (a ≤ c.1) && decide (c.1 < a + n)))

def mib : Nat := 0x100000

/-- Flash offset of a slot: 0 A, 1 B, 2 G (Table 12.1). -/
def slotBase (slot : Nat) : Nat := 0x4000000 * (slot + 1)

/-! ### Bytes of the journal (R401, R402) -/

def magicHdr : Nat := 0x4A504A48
def magicCommit : Nat := 0x544D4D43
def bankSize : Nat := 0x800000

/-- The most an append may fill of a bank (R404). -/
def bankLimit : Nat := 0x600000

def crc32c (bs : Bytes) : Nat := (~~~(bs.foldl crcByte 0xFFFFFFFF#32)).toNat

/-- Pad with 0xFF to a multiple of 64 bytes. -/
def padFF (bs : Bytes) : Bytes := bs ++ List.replicate ((64 - bs.length % 64) % 64) 0xFF#8

/-- A record with its commit slot. -/
def recBytes (r : JRec) (jseq : Nat) : Bytes :=
  let h := toLE 2 r.type ++ toLE 2 r.key ++ toLE 4 r.payload.length ++ toLE 4 jseq
  padFF (h ++ toLE 4 (crc32c (h ++ r.payload)) ++ r.payload) ++ padFF (toLE 4 magicCommit ++ toLE 4 jseq)

/-- The extent of a record with a payload of `n` bytes, its commit slot included. -/
def recExtent (n : Nat) : Nat := (16 + n + 63) / 64 * 64 + 64

/-- GENERATION of a committed bank; none where header and marker do not agree. -/
def bankGen (m : Memory) (b : Nat) : Option Nat :=
  let h := flashRead m (b * bankSize) 0x80
  if leAt h 0 4 = magicHdr ∧ leAt h 0x40 4 = magicCommit ∧ leAt h 4 4 = leAt h 0x44 4 then some (leAt h 4 4) else none

/-- A record found in a bank, with its JSEQ. -/
structure JFound where
  jrec : JRec
  jseq : Nat

/-- R402: the record at an offset counts: its CRC matches and its commit slot holds its JSEQ. -/
def countsAt (m : Memory) (a : Nat) : Option JFound :=
  let h := flashRead m a 16
  let n := leAt h 4 4
  let pay := flashRead m (a + 16) n
  let c := flashRead m (a + recExtent n - 64) 8
  if crc32c (h.take 12 ++ pay) = leAt h 12 4 ∧ leAt c 0 4 = magicCommit ∧ leAt c 4 4 = leAt h 8 4 then
    some ⟨⟨leAt h 0 2, leAt h 2 2, pay⟩, leAt h 8 4⟩
  else none

/-- R403: the records of a bank that count, oldest first. -/
def scanBank (m : Memory) (b : Nat) : Nat → Nat → List JFound
  | 0, _ => []
  | fuel + 1, off =>
    if bankSize < off + 64 then []
    else
      let h := flashRead m (b * bankSize + off) 64
      let n := leAt h 4 4
      if h.all (· == 0xFF#8) then []
      else if n = 0 ∨ 65536 < n then scanBank m b fuel (off / 4096 * 4096 + 4096)
      else (countsAt m (b * bankSize + off)).toList ++ scanBank m b fuel (off + recExtent n)

def bankRecs (m : Memory) (b : Nat) : List JFound := scanBank m b (bankSize / 64) 0x80

/-- R402: the governing record of a type and key. -/
def governing (rs : List JFound) (type key : Nat) : Option JFound :=
  (rs.filter (fun r => r.jrec.type == type && r.jrec.key == key)).foldl (fun best r =>
    match best with
    | some x => if x.jseq < r.jseq then some r else best
    | none => some r) none

def governs (rs : List JFound) (type key : Nat) : Bytes := ((governing rs type key).map (fun r => r.jrec.payload)).getD []

/-- R402: MIN_SVN is the largest value among the records that count. -/
def minSvnOf (rs : List JFound) : Nat := (rs.filter (fun r => r.jrec.type == 2)).foldl (fun n r => max n (leAt r.jrec.payload 0 4)) 0

/-- R403: past the last byte of a bank that is not erased, at a 4 KiB boundary. -/
def bankTail (m : Memory) (b : Nat) : Nat :=
  let last := (m.filter (fun c => decide (b * bankSize ≤ c.1) && decide (c.1 < (b + 1) * bankSize))).foldl (fun n c => max n (c.1 + 1)) 0
  (last - b * bankSize + 4095) / 4096 * 4096

/-- R401: the active bank. -/
def activeJBank (m : Memory) : Option (Nat × Nat) :=
  match bankGen m 0, bankGen m 1 with
  | some g, some h => if g < h then some (1, h) else some (0, g)
  | some g, none => some (0, g)
  | none, some h => some (1, h)
  | none, none => none

/-- A bank that is neither committed nor erased (R404). -/
def tornBank (m : Memory) (b : Nat) : Bool :=
  (bankGen m b).isNone && m.any (fun c => decide (b * bankSize ≤ c.1) && decide (c.1 < (b + 1) * bankSize))

def jSlotSeq : Nat := 1
def jMinSvn : Nat := 2
def jRepair : Nat := 3
def jWear : Nat := 4
def jSoft : Nat := 5
def jConfig : Nat := 6

/-! ### The Cobbler's hold on it -/

def State.setCob (s : State) (c : Cobbler) : State := { s with cob := c }
def State.setJournal (s : State) (j : Journal) : State := s.setCob { s.cob with journal := j }

/-- The records of the active bank that count. -/
def State.journalRecs (s : State) : List JFound := match s.cob.journal.bank with | some b => bankRecs s.pflash b | none => []

/-- COBBLER_SEQ and COBBLER_SVN as a record that has been appended leaves them. -/
def State.journalShow (s : State) (r : JRec) : State :=
  if r.type = jSlotSeq ∧ r.key = 0 then s.wr F.COBBLER_SEQ.SEQ_A (leAt r.payload 0 4)
  else if r.type = jSlotSeq ∧ r.key = 1 then s.wr F.COBBLER_SEQ.SEQ_B (leAt r.payload 0 4)
  else if r.type = jMinSvn then s.wr F.COBBLER_SVN.MIN_SVN (max (s.rd F.COBBLER_SVN.MIN_SVN) (leAt r.payload 0 4))
  else s

/-- A record and its commit slot are written at the tail of the active bank. -/
def State.journalWrite (s : State) (r : JRec) : State :=
  let j := s.cob.journal
  match j.bank with
  | none => s
  | some b =>
    let s := { s with pflash := flashWrite s.pflash (b * bankSize + j.tail) (recBytes r (j.jseq + 1)) }
    let s := s.setJournal { j with jseq := j.jseq + 1, tail := j.tail + recExtent r.payload.length }
    (s.count F.COBBLER_STAT.JOURNAL_WRITES.CNT 1).journalShow r

/-- R404: records fit into the active bank. -/
def State.journalFits (s : State) (rs : List JRec) : Bool :=
  decide (s.cob.journal.tail + (rs.map (fun r => recExtent r.payload.length)).sum ≤ bankLimit)

/-- R391, R404: records may be appended now: the gate is open, the journal is not lost, nothing waits and no compaction
runs. -/
def State.journalFree (s : State) : Bool :=
  s.locked && s.cob.journal.bank.isSome && s.cob.journal.waiting.isEmpty && !s.cob.journal.compacting

/-- R402, R404: records of one command are appended: done, or, while the bank is full or a compaction runs, not yet. While
the gate is shut they are queued (R391). -/
def State.journalTry (s : State) (rs : List JRec) : Bool × State :=
  if s.locked = false then (true, s.setJournal { s.cob.journal with waiting := s.cob.journal.waiting ++ rs })
  else if s.journalFree = false then (false, s)
  else if s.journalFits rs then (true, rs.foldl (fun s r => s.journalWrite r) s)
  else (false, s.setJournal { s.cob.journal with compacting := true })

/-- A record of the hardware is appended at once where that is possible, and waits otherwise. -/
def State.journalPut (s : State) (r : JRec) : State :=
  let full := s.journalFree && !s.journalFits [r]
  if s.journalFree && s.journalFits [r] then s.journalWrite r
  else s.setJournal { s.cob.journal with waiting := s.cob.journal.waiting ++ [r], compacting := s.cob.journal.compacting || full }

/-! ### Events and records of faults (R431, R437, R439) -/

/-- An event of FAULT_EVQ. -/
def faultEvent (kind cls pos : Nat) (injected : Bool) : Nat :=
  kind <<< 58 ||| (if injected then 1 <<< 49 else 0) ||| cls <<< 16 ||| pos

def State.faultLog (s : State) (kind cls pos : Nat) : State := s.event faultEvq (faultEvent kind cls pos false)

/-- A swap has brought in a spare: its class and the position it replaces. -/
def State.spareIn (s : State) (k pos : Nat) : State := (s.count F.FAULT_STAT.SWAPS.CNT 1).faultLog 2 k pos

/-- A retirement finds no spare. -/
def State.spareNone (s : State) (k pos : Nat) : State := (s.count F.FAULT_STAT.UNSPARED.CNT 1).faultLog 3 k pos

/-- R439: a condition of Table 13.4 that lasts from one event to another holds: the seam down or the part partitioned, Welt paused
for an activation, or a port restarting after a lane failure. -/
def State.unavailable (s : State) : Bool :=
  s.rd F.SEAM_STATUS.STATE != 0 || s.flag F.WELT_ACT.PAUSED || !s.flt.restarting.isEmpty

/-- R439: a pause of a known length is accounted, in microseconds, unless another condition holds, which counts that time. -/
def State.unavail (s : State) (us : Nat) : State :=
  if s.unavailable then s else s.wr F.FAULT_AVAIL.UNAVAIL_US (s.rd F.FAULT_AVAIL.UNAVAIL_US + us)

/-- Positions of a class (Table 13.2). -/
def posCount (k : Nat) : Nat := [816, 544, 10, 36, 16, 18, 1024, 1].getD k 0

/-- One byte of the bitmap of retired positions. -/
def repairByte (rs : List (Nat × Nat)) (k i : Nat) : Byte :=
  BitVec.ofNat 8 (((List.range 8).filter (fun b => rs.contains (k, 8 * i + b))).map (fun b => 2 ^ b)).sum

/-- R437: the REPAIR payload of a class. -/
def repairBitmap (rs : List (Nat × Nat)) (k : Nat) : Bytes := (List.range ((posCount k + 7) / 8)).map (fun i => repairByte rs k i)

/-- R431: a retired position enters the repair record. -/
def State.recordRepair (s : State) (k pos : Nat) : State :=
  if s.repairs.contains (k, pos) then s
  else
    let rs := s.repairs ++ [(k, pos)]
    { s with repairs := rs }.journalPut ⟨jRepair, k, repairBitmap rs k⟩

/-- R431: the positions that the REPAIR records name. -/
def repairsOf (rs : List JFound) : List (Nat × Nat) :=
  (List.range 8).flatMap (fun k =>
    let bm := governs rs jRepair k
    ((List.range (posCount k)).filter (fun p => (bm.getD (p / 8) 0#8).getLsbD (p % 8))).map (fun p => (k, p)))

/-- R435, R437: the repaired rows that the SOFT_REPAIR records name, by array: row and spare row. -/
def softRepairsOf (rs : List JFound) : AMap (List (Nat × Nat)) :=
  (List.range 1024).filterMap (fun a =>
    let p := governs rs jSoft a
    if p.isEmpty then none
    else some (a, (List.range (p.length / 4)).map (fun i => (leAt p (4 * i) 3, leAt p (4 * i + 3) 1))))

/-! ### The scan at power-up (R395, R401 to R405, R431) -/

/-- The ROM reads the journal: SEQ_A, SEQ_B, MIN_SVN and the repair records, or takes it as lost. -/
def State.journalScan (s : State) : State :=
  match activeJBank s.pflash with
  | none =>
    let s := s.setJournal { bank := none, gen := 0, jseq := 0, tail := 0x80, waiting := s.cob.journal.waiting, compacting := false }
    let s := ((s.wr F.COBBLER_BOOT_STATUS.JOURNAL_LOST 1).wr F.COBBLER_SEQ.SEQ_A 0).wr F.COBBLER_SEQ.SEQ_B 0
    { s.wr F.COBBLER_SVN.MIN_SVN (s.rd F.COBBLER_SVN.FLOOR) with repairs := [] }
  | some (b, g) =>
    let rs := bankRecs s.pflash b
    let s := s.setJournal { bank := some b, gen := g, jseq := rs.foldl (fun n r => max n r.jseq) 0, tail := bankTail s.pflash b,
                            waiting := s.cob.journal.waiting, compacting := tornBank s.pflash (1 - b) }
    let s := (s.wr F.COBBLER_SEQ.SEQ_A (leAt (governs rs jSlotSeq 0) 0 4)).wr F.COBBLER_SEQ.SEQ_B (leAt (governs rs jSlotSeq 1) 0 4)
    { s.wr F.COBBLER_SVN.MIN_SVN (max (minSvnOf rs) (s.rd F.COBBLER_SVN.FLOOR)) with
      repairs := repairsOf rs
      flt := { s.flt with sram := softRepairsOf rs } }

/-! ### Appends and compaction -/

/-- R391, R402, R404: the oldest waiting record is appended, or compaction begins. -/
def execJournalAppend (s : State) : Host.Outcome State Fault Refusal :=
  match s.cob.journal.waiting with
  | [] => .next s
  | r :: t =>
    if s.locked = false ∨ s.cob.journal.bank.isNone ∨ s.cob.journal.compacting then .next s
    else if s.journalFits [r] then .next ((s.setJournal { s.cob.journal with waiting := t }).journalWrite r)
    else .next (s.setJournal { s.cob.journal with compacting := true })

/-- R404: the governing records of a bank, one per type and key. -/
def survivors (rs : List JFound) : List JRec :=
  let keys := (rs.map (fun r => (r.jrec.type, r.jrec.key))).eraseDups
  keys.filterMap (fun k =>
    if k.1 = jMinSvn then some ⟨jMinSvn, k.2, toLE 4 (minSvnOf rs)⟩ else (governing rs k.1 k.2).map (fun r => r.jrec))

/-- A bank's 64-byte header, or its commit marker. -/
def bankMark (magic gen : Nat) : Bytes := padFF (toLE 4 magic ++ toLE 4 gen)

/-- R404: the other bank is written whole and the old one erased. -/
def State.compact (s : State) : State :=
  let j := s.cob.journal
  match j.bank with
  | none => s
  | some b =>
    let o := 1 - b
    let recs := survivors (bankRecs s.pflash b)
    let body := recs.foldl (fun (acc : Nat × Bytes) r => (acc.1 + 1, acc.2 ++ recBytes r (acc.1 + 1))) (j.jseq, [])
    let m := flashErase s.pflash (o * bankSize) bankSize
    let m := flashWrite m (o * bankSize) (bankMark magicHdr (j.gen + 1) ++ bankMark magicCommit (j.gen + 1) ++ body.2)
    let s := { s with pflash := flashErase m (b * bankSize) bankSize }
    s.setJournal { j with bank := some o, gen := j.gen + 1, jseq := body.1, tail := 0x80 + body.2.length, compacting := false }

/-- R404: compaction ends: the record that asked for it is appended in the new bank. -/
def execCompacted (s : State) : Host.Outcome State Fault Refusal :=
  if s.cob.journal.compacting = false ∨ s.locked = false ∨ s.cob.journal.bank.isNone then .next s
  else
    let s := s.compact
    let s := match s.cob.journal.waiting with
      | r :: t => (s.setJournal { s.cob.journal with waiting := t }).journalWrite r
      | [] => s
    .next (s.event cobblerEvq (8 <<< 59 ||| s.cob.journal.gen))

/-- R405: after the gate opens, a lost journal gets a new bank with GENERATION 1. -/
def State.journalNew (s : State) : State :=
  if s.cob.journal.bank.isSome then s
  else
    let m := flashErase s.pflash 0 (2 * bankSize)
    { s with pflash := flashWrite m 0 (bankMark magicHdr 1 ++ bankMark magicCommit 1) }.setJournal
      { s.cob.journal with bank := some 0, gen := 1, jseq := 0, tail := 0x80 }

end Sys2Proof.Machine
end

