-- ==== Sys2Proof/Machine/Dram.lean ====
section
/-! DEFINITION. The LPDDR6 memory subsystem (chapter 11): validation of the regions, bursts and row policy, refresh and
row-disturbance mitigation, scrubbing, freezes, retirement and spares. -/

namespace Sys2Proof.Machine

open Sys2Proof

/-! ### Validation of the regions (R358) -/

/-- Table 11.2: the share of a region in each channel, in bytes. -/
def State.regionShare (s : State) (r : Nat) : Nat := s.regionSize r / waysOf (s.regionSet r)

/-- Two ranges meet. -/
def rangesMeet (a n b m : Nat) : Bool := decide (a < b + m) && decide (b < a + n)

/-- Two interleave sets have a channel in common. -/
def setsMeet (a b : Nat) : Bool := !((a == 0 && b == 1) || (a == 1 && b == 0))

/-- R358: the first fault of one region, causes in the order of the list. -/
def State.regionFault (s : State) (r : Nat) : Option Nat :=
  let size := s.rd (F.MEM_REGION_W0.SIZE r)
  let base := s.rd (F.MEM_REGION_W8.BASE r)
  let set := s.regionSet r
  let off := s.rd (F.MEM_REGION_W8.CH_OFF r) * 0x4000000
  let others := (List.range 32).filter (fun q => q != r && s.flag (F.MEM_REGION_W0.VALID q))
  if s.rd (F.MEM_REGION_W0.VALID r) = 0 then none
  else if size = 0 ∨ 512 < base + size then some 1
  else if others.any (fun q => rangesMeet (s.regionBase r) (s.regionSize r) (s.regionBase q) (s.regionSize q)) then some 2
  else if others.any (fun q => setsMeet set (s.regionSet q) &&
      rangesMeet off (s.regionShare r) (s.rd (F.MEM_REGION_W8.CH_OFF q) * 0x4000000) (s.regionShare q)) then some 3
  else if s.rd (F.MEM_CH_GEOM.CAPACITY 0) * giB < off + s.regionShare r then some 4
  else if (s.regionMirrored r != (set == 3)) ∨ s.rd (F.MEM_REGION_W0.MAP r) = 3 then some 5
  else if (List.range 16).any (fun c => inSet set c && (s.chanOf c).isNone) then some 6
  else none

/-- R358: MEM_GCFG.EN is written 1: the regions are validated. -/
def State.regionValidate (s : State) : State :=
  let fail (f r : Nat) : State :=
    (((s.wr F.MEM_GCFG.EN 0).wr F.MEM_GSTATUS.CFG_FAIL 1).wr F.MEM_GSTATUS.FAIL_CAUSE f).wr F.MEM_GSTATUS.FAIL_REGION r
  if s.rd F.MEM_GCFG.RATE = 3 then fail 7 0
  else match (List.range 32).findSome? (fun r => (s.regionFault r).map (fun f => (f, r))) with
    | some (f, r) => fail f r
    | none => (s.wr F.MEM_GCFG.EN 1).wr F.MEM_GSTATUS.READY 1

/-- R358, R14: EN is written 1. After the gate has opened the write is discarded, and recorded where it would have changed
EN. -/
def execRegionValidate (s : State) : Host.Outcome State Fault Refusal :=
  if s.locked then .next (if s.flag F.MEM_GCFG.EN then s else s.csrError causeLocked 0x1808000 true)
  else .next s.regionValidate

/-! ### Commands on a channel (R372) -/

/-- The log of the last 64 commands of a channel (Table 11.5). -/
def State.logCmd (s : State) (i op sub bank row col : Nat) : State :=
  let e := toLE 4 s.clk.cycles ++ toLE 1 op ++ toLE 1 (sub ||| bank % 16 <<< 1 ||| bank / 16 % 2 <<< 5) ++ toLE 2 col ++ toLE 4 row ++ toLE 4 0
  let l := AMap.getD s.dram.cmds i [] ++ [e]
  { s with dram := { s.dram with cmds := AMap.setD [] s.dram.cmds i (l.drop (l.length - 64)) } }

def cmdAct : Nat := 0
def cmdRd : Nat := 1
def cmdWr : Nat := 2
def cmdPre : Nat := 3
def cmdRef : Nat := 4
def cmdMrr : Nat := 5
def cmdTrr : Nat := 7

/-! ### Activation counting (R368, R369) -/

/-- MEM_GCFG.BLAST: 1 to 4; other values act as 4. -/
def State.blast (s : State) : Nat := let b := s.rd F.MEM_GCFG.BLAST; if 1 ≤ b ∧ b ≤ 4 then b else 4

/-- The threshold: lower values than 64 act as 64. -/
def State.actThresh (s : State) : Nat := max 64 (s.rd F.MEM_GCFG.ACT_THRESH)

/-- R368: the index of the entry of smallest count, the lowest-numbered among equals. -/
def smallestAct (l : List (Nat × Nat)) : Nat :=
  ((List.range l.length).foldl (fun best k =>
    if (l.getD k (0, 0)).2 < (l.getD best (0, 0)).2 then k else best) 0)

/-- R368: one activation of a row: the table after it, with the row's count. -/
def countAct (l : List (Nat × Nat)) (row : Nat) : List (Nat × Nat) × Nat :=
  match l.find? (fun e => e.1 == row) with
  | some e => (l.map (fun x => if x.1 = row then (row, x.2 + 1) else x), e.2 + 1)
  | none =>
    if l.length < 32 then (l ++ [(row, 1)], 1)
    else
      let k := smallestAct l
      let c := (l.getD k (0, 0)).2 + 1
      (l.set k (row, c), c)

/-- R369: the victim rows of an aggressor, those outside the bank skipped. -/
def victimsOf (row rows blast : Nat) : List Nat :=
  (List.range blast).flatMap (fun d =>
    (if d + 1 ≤ row then [row - (d + 1)] else []) ++ (if row + d + 1 < rows then [row + d + 1] else []))

/-- R368, R369: an activation of a row of a bank. -/
def State.activate (s : State) (i sub b row : Nat) : State :=
  let k := s.bank i sub b
  let (l, c) := countAct k.acts row
  if s.actThresh ≤ c then
    let v := victimsOf row (2 ^ s.rd (F.MEM_CH_GEOM.ROW i)) s.blast
    s.setBank i sub b { k with acts := l.map (fun e => if e.1 = row then (row, 0) else e), victims := k.victims ++ v.map (fun r => (r, row)) }
  else s.setBank i sub b { k with acts := l }

/-! ### Bursts (R361 to R363) -/

/-- The bank keeps its row open after a burst (R363). -/
def State.keepsOpen (s : State) (i : Nat) (pred : Nat) : Bool :=
  let p := s.rd (F.MEM_CH_CFG.PAGE i)
  if p = 1 then true else if p = 2 then false else decide (2 ≤ pred)

/-- The unit instance of class 3 of a sub-channel. -/
def dramUnit (i sub : Nat) : Nat := 2 * i + sub

/-- The row that a bank holds open, if any, is closed. -/
def State.closeRow (s : State) (i sub b : Nat) : State :=
  let k := s.bank i sub b
  match k.openRow with
  | some r => (s.logCmd i cmdPre sub b r 0).setBank i sub b { k with openRow := none }
  | none => s

/-- R363: one burst on a row of a bank, `op` its read or write command: the row is opened where it is not open, and the bank's
predictor moves. -/
def State.rowBurst (s : State) (i sub b row col op : Nat) : State :=
  let s := if (s.bank i sub b).openRow = some row then s.count (F.MEM_CH_STAT.PAGE_HIT.CNT i) 1
    else (((s.closeRow i sub b).logCmd i cmdAct sub b row 0).count (F.MEM_CH_STAT.PAGE_MISS.CNT i) 1).activate i sub b row
  let s := s.logCmd i op sub b row col
  let k := s.bank i sub b
  let pred := match k.last with
    | none => k.pred
    | some r => if r = row then min 3 (k.pred + 1) else k.pred - 1
  s.setBank i sub b { k with pred := pred, last := some row, openRow := if s.keepsOpen i pred then some row else none }

/-- R362, R363: a burst of the sub-channel is served, and a store reaches memory. -/
def State.serveBurst (s : State) (b : Burst) : State :=
  let s := { s with dram := { s.dram with
    bursts := s.dram.bursts.erase b,
    writebacks := if b.store.isSome then s.dram.writebacks.filter (· ≠ [b.chan, b.sub, b.bank, b.row, b.col]) else s.dram.writebacks } }
  let s := s.rowBurst b.chan b.sub b.bank b.row b.col (if b.store.isSome then cmdWr else cmdRd)
  match b.store with
  | some (a, bs) => s.devWrite a bs
  | none => s

/-- R362, R39: the sub-channel serves the oldest burst, that can proceed, of the group its last service-unit boundary
chose. -/
def execDramBurst (i sub : Nat) (s : State) : Host.Outcome State Fault Refusal :=
  match s.groupAt 3 (dramUnit i sub) with
  | none => .next s
  | some g =>
    match s.dram.bursts.find? (fun b => b.chan == i && b.sub == sub && b.group == g && s.burstReady b) with
    | none => .next s
    | some b => .next ((s.useChoice 3 (dramUnit i sub)).serveBurst b)

/-- R363: a row is closed once it has been open for the device's longest allowed row-active time. -/
def execRowActiveTimeout (i sub b : Nat) (s : State) : Host.Outcome State Fault Refusal :=
  .next (s.closeRow i sub b)

/-! ### Refresh (R364 to R367) -/

/-- The refresh multiplier that a code stands for: 0 ×1, 1 ×2, 2 and 3 ×4. -/
def multOf (code : Nat) : Nat := if code = 0 then 1 else if code = 1 then 2 else 4

/-- One per-bank refresh period at the 1× rate: 32 ms / 8,192, in units of 125 ps. -/
def refPeriod : Nat := 31250

/-- R366: the bank with its owed refreshes counted up to now. -/
def State.accrue (s : State) (i : Nat) (k : Bank) : Bank :=
  match s.dram.trained with
  | none => k
  | some t0 =>
    let p := refPeriod / multOf (s.rd (F.MEM_CH_STATUS.CUR_MULT i))
    let t := max t0 k.refAt
    let n := (s.clk.time - t) / p
    { k with owed := k.owed + n, refAt := t + n * p }

/-- R32: turn `p` of the lacing period is a SYSTEM turn of class 3. -/
def State.systemAt (s : State) (p : Nat) : Bool :=
  let t := AMap.getD s.lace.tabs 3 ⟨[], []⟩
  let e := AMap.getD t.active p (if p % 64 = 63 then 0x8000#16 else 0x4000#16)
  e.toNat / 0x4000 == 2

/-- The present turn of channel `i`'s half is a SYSTEM turn of class 3. -/
def State.systemTurn (s : State) (i : Nat) : Bool := s.systemAt (s.periodTurnOf (chanHalf i))

/-- That turn is the first SYSTEM turn of its lacing period. -/
def State.firstSystem (s : State) (i : Nat) : Bool := s.systemTurn i && !(List.range (s.periodTurnOf (chanHalf i))).any s.systemAt

/-- R364: maintenance commands that one turn allows a sub-channel: one per 2 ns of its length. -/
def State.maintLimit (s : State) : Nat := if s.rd F.POWER_CLK.CUR = 1 then s.turnLen * 5 / 16 else s.turnLen / 4

/-- Maintenance commands issued by a sub-channel in the present turn. -/
def State.maintUsed (s : State) (i sub : Nat) : Nat :=
  match AMap.get? s.dram.maint (2 * i + sub) with
  | some (t, n) => if t = s.turnNoOf (chanHalf i) then n else 0
  | none => 0

def State.useMaint (s : State) (i sub : Nat) : State :=
  { s with dram := { s.dram with maint := AMap.set s.dram.maint (2 * i + sub) (s.turnNoOf (chanHalf i), s.maintUsed i sub + 1) } }

/-- The channel takes maintenance commands: a fenced half's controllers keep refreshing (R380). -/
def State.chMaintains (s : State) (i : Nat) : Bool := s.chState i == chActive || s.chState i == chResync

/-- A refresh of one bank issues: its row closes and the bank is busy for the per-bank refresh time, at most 120 ns. -/
def State.refreshBank (s : State) (i sub b : Nat) : State :=
  let s := s.closeRow i sub b
  let k := s.accrue i (s.bank i sub b)
  ((s.logCmd i cmdRef sub b 0 0).setBank i sub b
    { k with owed := k.owed - 1, busyUntil := s.clk.time + Config.refreshTime s.freeCtr % 961 }).tookFree

/-- R355: a bank of the devices: 16 in each rank. -/
def State.bankExists (s : State) (i b : Nat) : Bool := decide (b < 16 * 2 ^ s.rd (F.MEM_CH_GEOM.RANK i))

/-- R364: a per-bank refresh in a SYSTEM turn. -/
def execPerBankRefresh (i sub b : Nat) (s : State) : Host.Outcome State Fault Refusal :=
  if s.systemTurn i ∧ s.chMaintains i ∧ s.bankExists i b ∧ s.maintUsed i sub < s.maintLimit ∧ 0 < (s.accrue i (s.bank i sub b)).owed then
    .next ((s.useMaint i sub).refreshBank i sub b)
  else .next s

/-- R366: a bank that owes 8 refreshes is refreshed in the next class 3 turn, whoever owns it; counted, with an event. -/
def execRefForced (i sub b : Nat) (s : State) : Host.Outcome State Fault Refusal :=
  if s.chMaintains i ∧ s.bankExists i b ∧ 8 ≤ (s.accrue i (s.bank i sub b)).owed then
    .next ((((s.useMaint i sub).refreshBank i sub b).count (F.MEM_CH_STAT.REF_FORCED.CNT i) 1).event memEvq (memEvent 8 0 i 0))
  else .next s

/-- The bank when the refresh period becomes `p'`: refreshes owed up to now are counted at the old rate, and the part of a period
that has passed keeps its share. -/
def State.rePace (s : State) (i p' : Nat) (k : Bank) : Bank :=
  let p := refPeriod / multOf (s.rd (F.MEM_CH_STATUS.CUR_MULT i))
  let k := s.accrue i k
  if s.dram.trained.isSome then { k with refAt := s.clk.time - (s.clk.time - k.refAt) * p' / p } else k

/-- R365, R367: every 2^10 stitches the controller reads the devices' multiplier; above REF_MULT_MAX it writes a THERMAL
event. -/
def execRefreshMultRead (i code : Nat) (s : State) : Host.Outcome State Fault Refusal :=
  if s.stitch % 1024 = 0 ∧ s.chMaintains i ∧ code < 3 then
    let s' := s
    let s := (List.range 64).foldl (fun t k =>
      t.setBank i (k / 32) (k % 32) (s'.rePace i (refPeriod / multOf code) (s'.bank i (k / 32) (k % 32)))) s
    let s := (s.logCmd i cmdMrr 0 0 4 0).wr (F.MEM_CH_STATUS.CUR_MULT i) code
    .next (if multOf (s.rd F.MEM_GCFG.REF_MULT_MAX) < multOf code then s.event memEvq (memEvent 9 0 i 0) else s)
  else .next s

/-- R369: the first victim refresh of a bank issues in a SYSTEM turn; it activates the victim row and closes it. -/
def execTargetedRefresh (i sub b : Nat) (s : State) : Host.Outcome State Fault Refusal :=
  match (s.bank i sub b).victims with
  | (row, _) :: t =>
    if s.systemTurn i ∧ s.chMaintains i ∧ s.maintUsed i sub < s.maintLimit then
      let s := (s.useMaint i sub).closeRow i sub b
      let s := s.setBank i sub b
        { s.bank i sub b with victims := t, busyUntil := s.clk.time + Config.refreshTime s.freeCtr % 961 }
      .next ((((s.tookFree).logCmd i cmdTrr sub b row 0).count (F.MEM_CH_STAT.TRR.CNT i) 1).activate i sub b row)
    else .next s
  | [] => .next s

/-- R368: at the end of a refresh window of 32 ms / M every activation table of the channel is cleared. -/
def execActTableClear (i : Nat) (s : State) : Host.Outcome State Fault Refusal :=
  let at_ := AMap.getD s.dram.windowAt i 0
  let w := msec 32 / multOf (s.rd (F.MEM_CH_STATUS.CUR_MULT i))
  if at_ + w ≤ s.clk.time then
    let s := s.mapBanks i (fun k => { k with acts := [] })
    .next { s with dram := { s.dram with windowAt := AMap.set s.dram.windowAt i (at_ + w * ((s.clk.time - at_) / w)) } }
  else .next s

/-! ### Scrubbing and timing (R370, R371) -/

/-- Units of a channel, both sub-channels. -/
def State.unitCount (s : State) (i : Nat) : Nat :=
  2 * 2 ^ (s.rd (F.MEM_CH_GEOM.COL i) + 4 + s.rd (F.MEM_CH_GEOM.ROW i) + s.rd (F.MEM_CH_GEOM.RANK i))

/-- The unit of a channel that the patrol reads `n`-th: channel, sub-channel, bank, row, column. -/
def State.patrolUnit (s : State) (i n : Nat) : List Nat :=
  let colB := s.rd (F.MEM_CH_GEOM.COL i)
  let rowB := s.rd (F.MEM_CH_GEOM.ROW i)
  let u := n / 2
  [i, n % 2, u / 2 ^ colB % 16 + 16 * (u / 2 ^ (colB + 4 + rowB)), u / 2 ^ (colB + 4) % 2 ^ rowB, u % 2 ^ colB]

/-- R370: a corrected error is counted, goes to the fault classifier and is to be written back. -/
def State.corrected (s : State) (i : Nat) (unit : List Nat) : State :=
  let s := (s.count (F.MEM_CH_STAT.CE.CNT i) 1).report 5 i
  { s with dram := { s.dram with writebacks := s.dram.writebacks ++ [unit] } }

/-- Patrol reads and write-backs of a sub-channel in the present turn. -/
def State.scrubUsed (s : State) (i sub : Nat) : Nat :=
  match AMap.get? s.dram.scrub (2 * i + sub) with
  | some (t, n) => if t = s.turnNoOf (chanHalf i) then n else 0
  | none => 0

/-- R370: the data bus of a SYSTEM turn has room for one more of them: one burst per 2 ns, as many as R364's commands. -/
def State.scrubRoom (s : State) (i sub : Nat) : Bool := decide (s.scrubUsed i sub < s.maintLimit)

def State.useScrub (s : State) (i sub : Nat) : State :=
  { s with dram := { s.dram with scrub := AMap.set s.dram.scrub (2 * i + sub) (s.turnNoOf (chanHalf i), s.scrubUsed i sub + 1) } }

/-- PATROL_HOURS, 0 acting as 1, in units of 125 ps. -/
def State.patrolTime (s : State) (i : Nat) : Nat := max 1 (s.rd (F.MEM_CH_CFG.PATROL_HOURS i)) * 3600 * msec 1000

/-- R370: a unit is left to read of the pass that runs, or the next pass may begin. -/
def State.patrolOpen (s : State) (i : Nat) : Bool :=
  AMap.getD s.dram.patrol i 0 != 0 || decide (AMap.getD s.dram.patrolFrom i 0 ≤ s.clk.time)

/-- R370: the pass lags behind the pace that reads every unit once per PATROL_HOURS, and its next unit lies on the sub-channel. -/
def State.patrolDue (s : State) (i sub : Nat) : Bool :=
  let n := AMap.getD s.dram.patrol i 0
  s.flag (F.MEM_CH_CFG.SCRUB_EN i) && s.patrolOpen i && n % 2 == sub &&
    (n == 0 || decide (AMap.getD s.dram.patrolFrom i 0 + n * s.patrolTime i / s.unitCount i ≤ s.clk.time))

/-- The bank of a unit takes a burst to it. -/
def State.unitTakes (s : State) (u : List Nat) : Bool := s.bankTakes (u.getD 0 0) (u.getD 1 0) (u.getD 2 0) (u.getD 3 0)

/-- A burst of the controller itself on a unit. -/
def State.unitBurst (s : State) (u : List Nat) (op : Nat) : State := s.rowBurst (u.getD 0 0) (u.getD 1 0) (u.getD 2 0) (u.getD 3 0) (u.getD 4 0) op

/-- R370: a patrol read in a SYSTEM turn. `corrected` says that the unit held a correctable error; an uncorrectable one
is CHANNEL_FREEZE. With the first unit of a pass `patrolFrom` takes the time at which the pass began, and with the last the time from
which the next may. A read may come before its unit is due at an even pace (DESIGN CHOICE, log entry 90). -/
def execPatrolRead (i : Nat) (corrected : Bool) (s : State) : Host.Outcome State Fault Refusal :=
  let n := AMap.getD s.dram.patrol i 0
  let unit := s.patrolUnit i n
  if s.systemTurn i ∧ s.chMaintains i ∧ s.flag (F.MEM_CH_CFG.SCRUB_EN i) ∧ s.patrolOpen i ∧ s.scrubRoom i (n % 2) ∧ s.unitTakes unit then
    let s := s.unitBurst unit cmdRd
    let last := decide (s.unitCount i ≤ n + 1)
    let t0 := if n = 0 then s.clk.time else AMap.getD s.dram.patrolFrom i 0
    let s := s.useScrub i (n % 2)
    let s := { s with dram := { s.dram with
      patrol := AMap.setD 0 s.dram.patrol i (if last then 0 else n + 1),
      patrolFrom := AMap.setD 0 s.dram.patrolFrom i (if last then t0 + s.patrolTime i else t0) } }
    let s := if last then s.count (F.MEM_CH_STAT.PATROL.CNT i) 1 else s
    .next (if corrected then s.corrected i unit else s)
  else .next s

/-- R370: a corrected unit is written back in a later SYSTEM turn; a unit written meanwhile has left the list. -/
def execScrubWriteback (i : Nat) (s : State) : Host.Outcome State Fault Refusal :=
  match s.dram.writebacks.find? (fun u => u.head? == some i) with
  | some u =>
    if s.systemTurn i ∧ s.chMaintains i ∧ s.scrubRoom i (u.getD 1 0) ∧ s.unitTakes u then
      let s := s.useScrub i (u.getD 1 0)
      .next ({ s with dram := { s.dram with writebacks := s.dram.writebacks.erase u } }.unitBurst u cmdWr)
    else .next s
  | none => .next s

/-- R371: every 2^14 stitches, in the first SYSTEM turn since the multiple, each DQ's delay moves by at most one step, up, down or not. -/
def execDqTimingMeasure (i : Nat) (up down : List Nat) (s : State) : Host.Outcome State Fault Refusal :=
  if s.firstSystem i ∧ s.chMaintains i ∧ s.stitch % 16384 < 64 then
    .next { s with dram := { s.dram with eyes := (List.range 24).foldl (fun m d =>
      let v := AMap.getD m (32 * i + d) 0
      AMap.setD 0 m (32 * i + d)
        (if up.contains d then min 255 (v + 1) else if down.contains d then v - 1 else v)) s.dram.eyes } }
  else .next s

/-! ### Regions after a retirement (R378, R379) -/

/-- The tenants named in valid MEM_OWNER entries of a device range, each once. -/
def State.tenantsIn (s : State) (a n : Nat) : List Nat :=
  let listed := (s.csr.filter (fun e => decide (0x180C000 ≤ e.1) && decide (e.1 < 0x1810000))).map (fun e => (e.1 - 0x180C000) / 4)
  let ts := listed.flatMap (fun k => [2 * k, 2 * k + 1]) |>.filterMap (fun g =>
    if a / 0x4000000 ≤ g ∧ g < (a + n + 0x3FFFFFF) / 0x4000000 then s.ownerOf g else none)
  ts.eraseDups

/-- R378: a Plain region becomes LOST, with one event per tenant. -/
def State.loseRegion (s : State) (r i : Nat) : State :=
  if s.rd (F.MEM_REGION_W0.STATE r) = 1 then s
  else (s.tenantsIn (s.regionBase r) (s.regionSize r)).foldl (fun s t => s.event memEvq (memEvent 5 r i t))
    (s.wr (F.MEM_REGION_W0.STATE r) 1)

/-- The valid regions whose set includes a logical channel. -/
def State.regionsWith (s : State) (logical : Nat) : List Nat :=
  (List.range 32).filter (fun r => s.flag (F.MEM_REGION_W0.VALID r) && inSet (s.regionSet r) logical)

/-- The spare channel of the half of a channel. -/
def spareOf (i : Nat) : Nat := if i < 9 then 8 else 17

/-- Write the byte `v` at offset `o` of a channel's freeze record. -/
def State.freezeByte (s : State) (i o v : Nat) : State :=
  let f := F.MEM_FREEZE_REC.W i (o / 4)
  s.wr ⟨f.addr, 8 * (o % 4) + 7, 8 * (o % 4)⟩ v

def State.freezeBytes (s : State) (i o : Nat) : Bytes → State
  | [] => s
  | b :: t => (s.freezeByte i o b.toNat).freezeBytes i (o + 1) t

/-- The logical channel whose service ends with a channel: the one it serves, or, of a spare in training, the one it is to
serve; 0x1F for none. -/
def State.logicalOf (s : State) (i : Nat) : Nat :=
  match AMap.get? s.dram.spareFor (chanHalf i) with
  | some (l, _) => if i = spareOf i then l else s.rd (F.MEM_CH_STATUS.LOGICAL i)
  | none => s.rd (F.MEM_CH_STATUS.LOGICAL i)

/-- R377 to R379: a channel is retired: recorded, its Plain regions lost, and its half's spare brought in if it is free;
otherwise its Mirrored regions are degraded. A spare that is retired unused is no longer free. -/
def State.retireChannel (s : State) (i : Nat) : State :=
  if s.chState i = chRetired then s
  else
    let logical := s.logicalOf i
    let unused := s.chState i == chSpare && i == spareOf i
    let s := ((s.wr (F.MEM_CH_STATUS.STATE i) chRetired).wr (F.MEM_CH_STATUS.LOGICAL i) 0x1F).event memEvq (memEvent 3 0 i 0)
    let s := s.recordRepair 5 i
    let s := if unused then s.wr F.FAULT_SPARE.DRAM (s.rd F.FAULT_SPARE.DRAM - 1) else s
    let s := { s with dram := { s.dram with
      testing := AMap.del s.dram.testing i, copying := s.dram.copying.filter (· ≠ i),
      spareFor := if unused then AMap.del s.dram.spareFor (chanHalf i) else s.dram.spareFor } }
    if logical = 0x1F then s
    else
      let rs := s.regionsWith logical
      let s := (rs.filter (fun r => !s.regionMirrored r)).foldl (fun s r => s.loseRegion r i) s
      let h := chanHalf i
      if s.chState (spareOf i) = chSpare ∧ (AMap.get? s.dram.spareFor h).isNone then
        { s with dram := { s.dram with spareFor := AMap.set s.dram.spareFor h (logical, s.clk.time) } }.hwDomain (58 + h) true
      else
        let s := s.spareNone 5 i
        (rs.filter (fun r => s.regionMirrored r)).foldl (fun s r =>
          (s.wr (F.MEM_REGION_W0.STATE r) 2).event memEvq (memEvent 6 r i 0)) s

/-! ### Freeze (R372, R373, R375) -/

/-- Periods of the 25 MHz system reference since the model's first state. -/
def State.sysRef (s : State) : Nat := s.clk.time / 320

/-- R375: a Mirrored write that waits at a channel and will not be made there is recorded for its resynchronisation. -/
def State.missed (s : State) (i : Nat) (b : Burst) : State :=
  match b.partner, b.store with
  | some _, some (a, _) =>
    match s.regionOf a with
    | some r => s.markResync i (s.decodeAddr r a).coff
    | none => s
  | _, _ => s

/-- R374, R375: the waiting bursts of a channel that stops serving: a Mirrored read goes to the partner, a Mirrored write
stays with the copy that serves; Plain bursts stay for their requesters to be told. -/
def State.reroute (s : State) (i : Nat) : State :=
  let s := (s.dram.bursts.filter (fun b => b.chan == i)).foldl (fun s b => s.missed i b) s
  { s with dram := { s.dram with bursts := s.dram.bursts.filterMap (fun b =>
      if b.chan = i then
        match b.partner, b.store with
        | some p, none => some { b with chan := p, partner := some i }
        | some _, some _ => none
        | none, _ => some b
      else some b) } }

/-- R372: the freeze record is latched. -/
def State.latchFreeze (s : State) (i cause loc row col syndrome : Nat) : State :=
  let eyes := (List.range 24).map (fun d => BitVec.ofNat 8 (AMap.getD s.dram.eyes (32 * i + d) 0))
  let log := AMap.getD s.dram.cmds i []
  let cmds := log.flatMap id ++ List.replicate (16 * (64 - log.length)) 0#8
  s.freezeBytes i 0 (toLE 1 cause ++ toLE 1 0 ++ toLE 1 loc ++ toLE 1 0 ++ toLE 4 row ++ toLE 2 col ++ toLE 2 0 ++
    toLE 4 (if cause = 2 then 0 else syndrome) ++ toLE 8 s.sysRef ++ toLE 4 s.stitch ++ toLE 4 0 ++ eyes ++ toLE 8 0 ++ cmds)

/-- R372: a channel freezes. `loc` holds the sub-channel, bank and rank as in Table 11.5. -/
def State.freeze (s : State) (i cause loc row col syndrome : Nat) : State :=
  let prior := s.rd (F.MEM_CH_STATUS.FREEZES i)
  let last := s.rd (F.MEM_LAST_FREEZE.TIME i)
  let second := decide (0 < prior) && decide (s.sysRef < last + 2160000000000)
  let s := s.count (if cause = 1 then F.MEM_CH_STAT.UE.CNT i else F.MEM_CH_STAT.CMD_ERR.CNT i) 1
  let s := (s.latchFreeze i cause loc row col syndrome).wr (F.MEM_CH_STATUS.STATE i) chFrozen
  let s := (((s.count (F.MEM_CH_STATUS.FREEZES i) 1).wr (F.MEM_LAST_FREEZE.TIME i) s.sysRef).event memEvq (memEvent 1 0 i 0)).report 5 i
  let s := s.reroute i
  if second then (s.freezeByte i 1 2).retireChannel i
  else { s with dram := { s.dram with testing := AMap.set s.dram.testing i s.clk.time } }

/-- R372: an uncorrectable data error (cause 1) or a command error (cause 2) freezes a channel in service. -/
def execChannelFreeze (i cause loc row col syndrome : Nat) (s : State) : Host.Outcome State Fault Refusal :=
  if s.chMaintains i ∧ (cause = 1 ∨ cause = 2) ∧ i < 18 then .next (s.freeze i cause (loc % 64) row col syndrome) else .next s

/-- R373: retraining and the scrub test end: the channel returns in RESYNC, or is retired. -/
def execFreezeTestDone (i : Nat) (pass : Bool) (s : State) : Host.Outcome State Fault Refusal :=
  if (AMap.get? s.dram.testing i).isSome ∧ s.chState i = chFrozen then
    if pass then
      let s := { s with dram := { s.dram with testing := AMap.del s.dram.testing i } }
      .next (((s.freezeByte i 1 1).wr (F.MEM_CH_STATUS.STATE i) chResync).event memEvq (memEvent 2 0 i 0))
    else .next ((s.freezeByte i 1 2).retireChannel i)
  else .next s

/-- The blocks of a channel leave the resync bitmap. -/
def State.resynced (s : State) (i : Nat) : State :=
  { s with dram := { s.dram with resync := s.dram.resync.filter (fun k => k / 2 ^ 24 ≠ i) } }

/-- R375: the copy of the marked blocks ends and the channel returns to ACTIVE. -/
def execResyncDone (i : Nat) (s : State) : Host.Outcome State Fault Refusal :=
  if s.chState i = chResync ∧ s.dram.copying.contains i = false then
    .next ((s.resynced i).wr (F.MEM_CH_STATUS.STATE i) chActive)
  else .next s

/-- R377: the spare of a half finishes training, takes the logical number and enters RESYNC; a spare that fails training
is itself retired. -/
def execSpareIn (h : Nat) (pass : Bool) (s : State) : Host.Outcome State Fault Refusal :=
  let sp := spareOf (9 * h)
  match AMap.get? s.dram.spareFor h with
  | some (logical, _) =>
    if pass then
      let s := { s with dram := { s.dram with spareFor := AMap.del s.dram.spareFor h, copying := s.dram.copying ++ [sp] } }
      let s := (s.wr (F.MEM_CH_STATUS.LOGICAL sp) logical).wr (F.FAULT_SPARE.DRAM) (s.rd F.FAULT_SPARE.DRAM - 1)
      .next (((s.wr (F.MEM_CH_STATUS.STATE sp) chResync).event memEvq (memEvent 4 0 sp 0)).spareIn 5 sp)
    else .next (s.retireChannel sp)
  | none => .next s

/-- R377: at the end of the copy, after the last blocks, the spare becomes ACTIVE; Mirrored accesses have paused for `pause`
microseconds, at most 2,000, which R439 accounts. -/
def execSpareActivate (h pause : Nat) (s : State) : Host.Outcome State Fault Refusal :=
  let sp := spareOf (9 * h)
  if s.dram.copying.contains sp ∧ s.chState sp = chResync then
    let s := { s with dram := { s.dram with copying := s.dram.copying.filter (· ≠ sp) } }
    .next (((s.resynced sp).wr (F.MEM_CH_STATUS.STATE sp) chActive).unavail (min pause 2000))
  else .next s

/-! ### MEM_CMD (R377, R378) -/

/-- A command of MEM_CMD finishes with a status and detail. -/
def State.memCmdDone (s : State) (r : MemResult) : State :=
  ((((s.wr F.MEM_CMD.GO 0).wr F.MEM_CMD.BUSY 0).wr F.MEM_CMD_STATUS.DONE 1).wr F.MEM_CMD_STATUS.STATUS r.1).wr
    F.MEM_CMD_STATUS.DETAIL r.2

/-- MEM_CMD runs a command, and its target. -/
def State.memRuns (s : State) (op : Nat) : Bool := s.flag F.MEM_CMD.BUSY && F.MEM_CMD.OP.get s.dram.goWord == op
def State.memTarget (s : State) : Nat := F.MEM_CMD.TARGET.get s.dram.goWord

/-- MEM_CMD.GO is written with the register's fields already in place: an undefined OP finishes at once. -/
def State.memCmdGo (s : State) : State :=
  if s.flag F.MEM_CMD.BUSY then s
  else if s.rd F.MEM_CMD.OP = 1 ∨ s.rd F.MEM_CMD.OP = 2 then
    (({ s with dram := { s.dram with goWord := s.word 0x1808400 } }).wr F.MEM_CMD.GO 1).wr F.MEM_CMD.BUSY 1
  else s.memCmdDone (0x02, 7)

/-- Zero-fill `n` bytes of device memory: nothing in the range is listed. -/
def State.zeroFill (s : State) (a n : Nat) : State :=
  { s with mem := s.mem.filter (fun c => !(decide (a ≤ c.1) && decide (c.1 < a + n))) }

/-- R378: REGION_RESTORE of a region: refused while a logical channel of its set is not served. -/
def State.regionRestore (s : State) (r : Nat) : State :=
  if s.rd (F.MEM_REGION_W0.VALID r) = 0 ∨ (List.range 16).any (fun c => inSet (s.regionSet r) c && (s.chanOf c).isNone) then
    s.memCmdDone (0x04, 6)
  else ((s.zeroFill (s.regionBase r) (s.regionSize r)).wr (F.MEM_REGION_W0.STATE r) 0).memCmdDone (0, 0)

/-- R378: the REGION_RESTORE that MEM_CMD issued is carried out. -/
def execRegionRestore (s : State) : Host.Outcome State Fault Refusal :=
  if s.memRuns 1 then .next (s.regionRestore s.memTarget) else .next s

/-- R377: the CH_RETIRE that MEM_CMD issued retires its channel as a second freeze would. -/
def execChRetire (s : State) : Host.Outcome State Fault Refusal :=
  if s.memRuns 2 then
    if s.memTarget < 18 then
      let i := s.memTarget
      .next (((s.reroute i).retireChannel i).memCmdDone (0, 0))
    else .next (s.memCmdDone (0x04, 6))
  else .next s

end Sys2Proof.Machine
end

