-- ==== Sys2Proof/Machine/Bound.lean ====
section
/-! DEFINITION. The bound rule and the checks of a mule image (R118 to R125): the extent of a bounded entry, the cost of each
instruction, the worst-case issue count, and the load check causes of Table 3.17. -/

namespace Sys2Proof

open Sys2Proof.Machine

/-! ### Extent (R118) -/

/-- The target of a BR, BB or JMP at `pc` (R96). -/
def Ob.target? (i : Ob) (pc : Nat) : Option Nat :=
  match i with
  | .br _ _ _ off => some (pc + 1 + off.toNat)
  | .bb _ _ _ off => some (pc + 1 + off.toNat)
  | .jmp off => some (pc + 1 + off.toNat)
  | _ => none

def Ob.isJmpOrDone : Ob → Bool
  | .jmp _ | .done _ _ => true
  | _ => false

/-- Control may pass to the next instruction. -/
def Ob.fallsThrough (i : Ob) : Bool := !i.isJmpOrDone

/-- The instruction at an index of the image, if it decodes. -/
def obAt (words : AMap W32) (pc : Nat) : Option Ob :=
  match decodeOb (AMap.getD words pc 0) with
  | .ok i => if i.bodyBeyond pc then none else some i
  | .illegal _ => none

/-- The instruction after a loop body is reached from its LOOP only when the body's last instruction can complete without
transferring control. -/
def opensAfter (words : AMap W32) (last : Nat) : Bool :=
  match obAt words last with
  | some i => !i.isJmpOrDone
  | none => true

/-- The indices control may pass to from an instruction. A body that ends beyond INSTR_COUNT, which is a fault of its own (0x09), is
never left at its end. -/
def successors (words : AMap W32) (count pc : Nat) (i : Ob) : List Nat :=
  (match i.target? pc with | some t => [t] | none => []) ++
  (if i.fallsThrough then [pc + 1] else []) ++
  (match i with
   | .loop _ len => if pc + len.toNat < count ∧ opensAfter words (pc + len.toNat) then [pc + len.toNat + 1] else []
   | _ => [])

/-- What the walk of an extent finds: its instructions, and the causes of Table 3.17 met on the way. -/
structure Extent where
  ins : AMap Ob
  bad : List Nat
  deriving DecidableEq, Repr

/-- One ascending walk from `pc` over `fuel` indices; `reach` holds the indices reached so far. -/
def walk (words : AMap W32) (count : Nat) : Nat → Nat → List Nat → Extent → Extent
  | 0, _, _, x => x
  | fuel + 1, pc, reach, x =>
    if pc ∈ reach then
      match obAt words pc with
      | none => walk words count fuel (pc + 1) reach { x with bad := 0x06 :: x.bad }
      | some i =>
        let succ := successors words count pc i
        let bad := (if i.priv ∨ i.blockingSend ∨ i.thrctl then [0x07] else []) ++
                   (if succ.any (fun t => decide (count ≤ t)) then [0x08] else [])
        walk words count fuel (pc + 1) (succ ++ reach) { ins := x.ins ++ [(pc, i)], bad := bad ++ x.bad }
    else walk words count fuel (pc + 1) reach x

def extentOf (words : AMap W32) (count entry : Nat) : Extent :=
  walk words count (count - entry) entry [entry] ⟨[], []⟩

/-- The loop bodies of an extent: start, end and LOOP index. -/
def bodiesOf (ins : AMap Ob) : List (Nat × Nat × Nat) :=
  ins.filterMap fun e => match e.2 with
    | .loop _ len => some (e.1 + 1, e.1 + len.toNat, e.1)
    | _ => none

def inBody (b : Nat × Nat × Nat) (pc : Nat) : Bool := decide (b.1 ≤ pc) && decide (pc ≤ b.2.1)

/-- How many bodies hold an index. -/
def nesting (bodies : List (Nat × Nat × Nat)) (pc : Nat) : Nat := (bodies.filter (fun b => inBody b pc)).length

/-- LOOP_DEPTH: the deepest nesting in the extent. -/
def loopDepth (bodies : List (Nat × Nat × Nat)) : Nat :=
  bodies.foldl (fun n b => max n (nesting bodies b.1)) 0

/-- LOOP_NEST (0x09): a body ends beyond the image, bodies overlap without nesting, nest deeper than 4, or a branch enters a
body other than through its LOOP. -/
def loopNestBad (ins : AMap Ob) (count : Nat) : Bool :=
  let bs := bodiesOf ins
  bs.any (fun b => decide (count ≤ b.2.1)) ||
  bs.any (fun a => bs.any (fun b => inBody a b.1 && !inBody a b.2.1)) ||
  decide (4 < loopDepth bs) ||
  ins.any (fun e => match e.2.target? e.1 with
    | some t => bs.any (fun b => inBody b t && !inBody b e.1)
    | none => false)

/-! ### Costs (R119, R120) -/

/-- The latency a writer of a register is charged (Table 3.13). -/
def Ob.latency (i : Ob) : Nat :=
  match i with
  | .sld _ _ _ _ _ | .satom _ _ _ _ _ => 18
  | .lkup _ _ _ dl => dl.toNat
  | _ => if i.yarnClass then 20 else 1

def Ob.writesReg (i : Ob) (r : Nat) : Bool := i.writes.any (fun x => x.toNat == r)

/-- The ticket an LKUP starts. -/
def Ob.ticket? : Ob → Option Nat
  | .lkup tk _ _ _ => some tk.toNat
  | _ => none

/-- Lmax of a register over an extent (R119). -/
def lmaxReg (ins : AMap Ob) (r : Nat) : Nat :=
  ins.foldl (fun n e => if e.2.writesReg r then max n e.2.latency else n) 1

def lmaxTicket (ins : AMap Ob) (t : Nat) : Nat :=
  ins.foldl (fun n e => if e.2.ticket? = some t then max n e.2.latency else n) 1

/-- The instruction at `pc` begins a block (R118). -/
def leads (ins : AMap Ob) (entry pc : Nat) : Bool :=
  pc == entry ||
  ins.any (fun e => e.2.target? e.1 == some pc) ||
  (match AMap.get? ins (pc - 1) with
   | none => true
   | some i => (i.target? (pc - 1)).isSome || i.isJmpOrDone || (match i with | .loop _ _ => true | _ => false)) ||
  (bodiesOf ins).any (fun b => b.2.1 + 1 == pc)

/-- The earlier instructions of the block of `pc`, nearest first, and the block's first index. -/
def blockBefore (ins : AMap Ob) (entry : Nat) : Nat → Nat → List Ob × Nat
  | 0, pc => ([], pc)
  | fuel + 1, pc =>
    if leads ins entry pc then ([], pc)
    else match AMap.get? ins (pc - 1) with
      | none => ([], pc)
      | some i =>
        let r := blockBefore ins entry fuel (pc - 1)
        (i :: r.1, r.2)

/-- The distance to the nearest earlier instruction of a block that meets a condition, with that instruction. -/
def nearest (p : Ob → Bool) : List Ob → Nat → Option (Nat × Ob)
  | [], _ => none
  | i :: t, k => if p i then some (k, i) else nearest p t (k + 1)

/-- The stall of a term whose nearest writer is `w`, or that has none in the block. -/
def stallTerm (w : Option (Nat × Ob)) (lmax p : Nat) (first : Bool) : Nat :=
  match w with
  | some (k, i) => i.latency - k
  | none => if first then 0 else lmax - p

/-- The distance to the fourth most recent yarn-class instruction of a block. -/
def fourthYarn (prev : List Ob) : Option Nat :=
  (((List.range prev.length).zip prev).filter (fun e => e.2.yarnClass)).map (·.1 + 1) |>.drop 3 |>.head?

/-- stall(i) of the instruction at `pc` (R120). -/
def stallOf (ins : AMap Ob) (entry pc : Nat) (i : Ob) : Nat :=
  let (prev, start) := blockBefore ins entry 8192 pc
  let first := start == entry
  let p := prev.length + 1
  let bodies := bodiesOf ins
  let regs := (i.reads ++ i.writes).filter (· ≠ 0)
  let t1 := regs.foldl (fun n r =>
    max n (stallTerm (nearest (fun j => j.writesReg r.toNat) prev 1) (lmaxReg ins r.toNat) p first)) 0
  let t2 := match i with
    | .lkw _ tk => stallTerm (nearest (fun j => j.ticket? == some tk.toNat) prev 1) (lmaxTicket ins tk.toNat) p first
    | _ => 0
  let yarns := ins.filter (fun e => e.2.yarnClass)
  let t3 :=
    if i.yarnClass = false then 0
    else if yarns.length ≤ 4 ∧ yarns.all (fun e => nesting bodies e.1 == 0) then 0
    else match fourthYarn prev with
      | some d => 20 - d
      | none => if first then 0 else 20 - p
  let scr := ins.filter (fun e => e.2.isScratch)
  let t4 :=
    if i.isScratch = false then 0
    else if scr.length = 1 ∧ nesting bodies pc = 0 then 0
    else match nearest (fun j => j.isScratch) prev 1 with
      | some (d, _) => 18 - d
      | none => if first then 0 else 18 - p
  max (max t1 t2) (max t3 t4)

def costOf (ins : AMap Ob) (entry pc : Nat) (i : Ob) : Nat := 1 + stallOf ins entry pc i

/-! ### The worst-case issue count (R121) -/

/-- What a pass over a region leaves: the largest arrival at each index, those beyond the region included, the DONE
candidates, and the arrival plus cost of the region's last instruction. -/
structure Pass where
  arr : AMap Nat
  dones : List Nat
  last : Nat
  deriving DecidableEq, Repr

def Pass.reach (x : Pass) (t v : Nat) : Pass := { x with arr := AMap.set x.arr t (max v (AMap.getD x.arr t 0)) }

/-- The ascending pass of R121 over `pc` to `hi`; a LOOP's body is counted by the same pass, from 0. -/
def pass (words : AMap W32) (ins : AMap Ob) (entry : Nat) : Nat → Nat → Nat → Pass → Pass
  | 0, _, _, x => x
  | fuel + 1, pc, hi, x =>
    if hi < pc then x
    else match AMap.get? x.arr pc, AMap.get? ins pc with
      | some a, some i =>
        let out := a + costOf ins entry pc i
        match i with
        | .loop trip len =>
          let n := trip.toNat
          let m := len.toNat
          let b := pass words ins entry fuel (pc + 1) (pc + m) ⟨[(pc + 1, 0)], [], 0⟩
          let exits := b.arr.filter (fun e => decide (pc + m < e.1))
          let w := exits.foldl (fun k e => max k e.2) b.last
          let x := if pc + m = hi ∧ b.last ≠ 0 then { x with last := max x.last (out + (n - 1) * w + b.last) } else x
          let x := { x with dones := x.dones ++ b.dones.map (fun d => a + 1 + (n - 1) * w + d) }
          let x := if opensAfter words (pc + m) then x.reach (pc + m + 1) (out + n * w) else x
          let x := exits.foldl (fun y e => y.reach e.1 (out + n * w)) x
          pass words ins entry fuel (pc + m + 1) hi x
        | _ =>
          let x := match i with
            | .done _ _ => { x with dones := x.dones ++ [out] }
            | _ => x
          let x := if pc = hi then { x with last := max x.last out } else x
          let x := match i.target? pc with | some t => x.reach t out | none => x
          let x := if i.fallsThrough then x.reach (pc + 1) out else x
          pass words ins entry fuel (pc + 1) hi x
      | _, _ => pass words ins entry fuel (pc + 1) hi x

/-- The highest index of an extent. -/
def lastPc (ins : AMap Ob) : Nat := ins.foldl (fun n e => max n e.1) 0

/-- WCET of a bounded entry (R121). -/
def wcetOf (words : AMap W32) (ins : AMap Ob) (entry : Nat) : Nat :=
  (pass words ins entry 16384 entry (lastPc ins) ⟨[(entry, 0)], [], 0⟩).dones.foldl max 0

/-- TICKETS of a bound record: bit `t` set if the extent issues LKUP on ticket `t` (Table 3.16). -/
def ticketsOf (ins : AMap Ob) : Nat :=
  ins.foldl (fun n e => match e.2.ticket? with | some t => n ||| 2 ^ t | none => n) 0

/-! ### The image (R122, R123) -/

/-- The header fields of an image (Table 3.14). -/
structure ImgHdr where
  total : Nat
  count : Nat
  entries : Nat
  bounds : Nat
  entryOff : Nat
  boundOff : Nat
  instrOff : Nat
  deriving DecidableEq, Repr

def imgHdr (bs : Bytes) : ImgHdr :=
  { total := leAt bs 0x08 4, count := leAt bs 0x0C 2, entries := leAt bs 0x0E 1, bounds := leAt bs 0x0F 1,
    entryOff := leAt bs 0x10 4, boundOff := leAt bs 0x14 4, instrOff := leAt bs 0x18 4 }

/-- A section lies behind the header and within the image. -/
def secOk (total off len : Nat) : Bool := decide (64 ≤ off) && decide (off + len ≤ total)

def disjoint (a la b lb : Nat) : Bool := decide (a + la ≤ b) || decide (b + lb ≤ a)

/-- LAYOUT (0x03). -/
def layoutOk (bs : Bytes) (h : ImgHdr) : Bool :=
  let le := 8 * h.entries
  let lb := 64 + 16 * h.bounds
  let li := 4 * h.count
  decide (h.total ≤ 40960) && h.total % 64 == 0 && decide (1 ≤ h.count) && decide (h.count ≤ 8192) &&
  decide (1 ≤ h.entries) && decide (h.entries ≤ 34) && decide (h.bounds ≤ 32) &&
  h.entryOff % 8 == 0 && h.boundOff % 64 == 0 && h.instrOff % 64 == 0 &&
  secOk h.total h.entryOff le && secOk h.total h.boundOff lb && secOk h.total h.instrOff li &&
  disjoint h.entryOff le h.boundOff lb && disjoint h.entryOff le h.instrOff li && disjoint h.boundOff lb h.instrOff li &&
  leAt bs 0x06 2 == 0 && leAt bs 0x1C 4 == 0 && leAt bs 0x30 16 == 0

/-- An entry record (Table 3.15). -/
structure EntryRec where
  kind : Nat
  index : Nat
  pc : Nat
  bound : Nat
  zero : Nat
  deriving DecidableEq, Repr

def entryRecs (bs : Bytes) (off : Nat) : Nat → List EntryRec
  | 0 => []
  | n + 1 => ⟨leAt bs off 1, leAt bs (off + 1) 1, leAt bs (off + 2) 2, leAt bs (off + 4) 2, leAt bs (off + 6) 2⟩ ::
      entryRecs bs (off + 8) n

def noRepeat : List Nat → Bool
  | [] => true
  | a :: t => !t.contains a && noRepeat t

/-- ENTRY_TABLE (0x04). -/
def entriesOk (h : ImgHdr) (es : List EntryRec) : Bool :=
  let bs := es.filter (fun e => e.kind == 2)
  es.all (fun e => decide (e.kind ≤ 2) && decide (e.pc < h.count) && e.zero == 0 &&
    (if e.kind = 2 then decide (e.index < 32) && decide (e.bound < h.bounds) else e.index == 0 && e.bound == 0xFFFF)) &&
  (es.filter (fun e => e.kind == 0)).length == 1 && decide ((es.filter (fun e => e.kind == 1)).length ≤ 1) &&
  bs.length == h.bounds && noRepeat (bs.map (·.index)) && noRepeat (bs.map (·.bound))

/-- DIGEST (0x05). -/
def digestOk (bs : Bytes) (h : ImgHdr) : Bool :=
  let b := h.boundOff
  leAt bs b 4 == 0x4442424F && leAt bs (b + 4) 1 == 1 && leAt bs (b + 6) 2 == h.bounds && leAt bs (b + 0x38) 8 == 0 &&
  sliceB bs (b + 8) 48 == sha384 (sliceB bs h.instrOff (4 * h.count))

/-- The instruction words of an image, by index; a zero word is not listed. -/
def imgWords (bs : Bytes) (off : Nat) : Nat → Nat → AMap W32
  | _, 0 => []
  | pc, n + 1 =>
    let w := BitVec.ofNat 32 (leAt bs off 4)
    let t := imgWords bs (off + 4) (pc + 1) n
    if w = 0 then t else (pc, w) :: t

/-- R124: the checks 0x06 to 0x0C of one bounded entry: the first cause that fails, or the entry's WCET. -/
def entryCheck (bs : Bytes) (h : ImgHdr) (words : AMap W32) (budget : Nat) (e : EntryRec) : Nat × Nat :=
  let x := extentOf words h.count e.pc
  let r := h.boundOff + 64 + 16 * e.bound
  let w := wcetOf words x.ins e.pc
  if 0x06 ∈ x.bad then (0x06, 0)
  else if 0x07 ∈ x.bad then (0x07, 0)
  else if 0x08 ∈ x.bad then (0x08, 0)
  else if loopNestBad x.ins h.count then (0x09, 0)
  else if leAt bs r 1 ≠ e.index ∨ leAt bs (r + 1) 1 ≠ loopDepth (bodiesOf x.ins) ∨ leAt bs (r + 4) 2 ≠ e.pc ∨
      leAt bs (r + 6) 2 ≠ lastPc x.ins ∨ leAt bs (r + 8) 1 ≠ ticketsOf x.ins ∨ leAt bs (r + 9) 7 ≠ 0 then (0x0A, 0)
  else if leAt bs (r + 2) 2 ≠ w then (0x0B, 0)
  else if budget < w then (0x0C, 0)
  else (0, w)

/-- The bounded entries in ascending INDEX. -/
def boundedAscending (es : List EntryRec) : List EntryRec :=
  (List.range 32).filterMap (fun i => es.find? (fun e => e.kind == 2 && e.index == i))

/-- The result of checking an image: the cause of refusal, or the image. -/
inductive ImageCheck where
  | refused (cause : Nat)
  | accepted (img : Image)
  deriving DecidableEq, Repr

/-- The bounded entries one at a time: the first failing cause, or the largest WCET. -/
def checkEntries (bs : Bytes) (h : ImgHdr) (words : AMap W32) (budget : Nat) : List EntryRec → Nat → Nat × Nat
  | [], w => (0, w)
  | e :: t, w =>
    match entryCheck bs h words budget e with
    | (0, w') => checkEntries bs h words budget t (max w w')
    | (c, _) => (c, 0)

/-- R124: the checks of an image that was read whole, in their order. -/
def checkImage (bs : Bytes) (budget : Nat) : ImageCheck :=
  let h := imgHdr bs
  let es := entryRecs bs h.entryOff h.entries
  if leAt bs 0 4 ≠ 0x4D49424F ∨ leAt bs 4 2 ≠ 1 then .refused 0x02
  else if layoutOk bs h = false then .refused 0x03
  else if entriesOk h es = false then .refused 0x04
  else if digestOk bs h = false then .refused 0x05
  else
    let words := imgWords bs h.instrOff 0 h.count
    match checkEntries bs h words budget (boundedAscending es) 0 with
    | (0, w) => .accepted
        { words := words, count := h.count,
          t0 := (es.find? (fun e => e.kind == 0)).map (·.pc),
          long := (es.find? (fun e => e.kind == 1)).map (·.pc),
          bounded := (boundedAscending es).map (fun e => (e.index, e.pc)), maxWcet := w }
    | (c, _) => .refused c

/-- The STATUS of a load check cause (Table 3.17). -/
def loadStatus (cause : Nat) : Nat :=
  if cause = 0x01 ∨ cause = 0x40 then 0x03 else if cause = 0x0C then 0x04 else 0x02

end Sys2Proof
end

