-- ==== Sys2Proof/Machine/MuleCtl.lean ====
section
/-! DEFINITION. The mule controller (chapter 02): the all-wait detector, bank swaps, role changes and image loads. -/

namespace Sys2Proof.Machine

open Sys2Proof

/-- The threads of a spindle. -/
def threadsOf (sp : Nat) : List Nat := (List.range 8).map (fun t => tidOf sp t)

/-- T1 to T7. -/
def workersOf (sp : Nat) : List Nat := (List.range 7).map (fun t => tidOf sp (t + 1))

/-! ### The all-wait detector (R79, R80) -/

def isStuck (st : Nat) : Bool := st == tsWait || st == tsYwait || st == tsFault

/-- R79, conditions 1 to 3 for one thread. -/
def State.threadWaits (s : State) (tid : Nat) : Bool :=
  let st := s.ts tid
  let m := (s.thr tid).waitMask
  isStuck st &&
    (st != tsWait || (!m.getLsbD evStitch &&
      !(List.range 4).any (fun c => m.getLsbD c && s.chanExt (epChan (epThread tid c))))) &&
    (st != tsYwait || s.yarn.flights.all (fun f => (s.thr tid).ywait != some f.msg.id ||
      (!epIsUnit f.msg.dst && spOf (epTid f.msg.dst) == spOf tid)))

/-- A message was sent by a thread of a spindle. -/
def Msg.fromSpindle (m : Msg) (sp : Nat) : Bool := !epIsUnit m.src && spOf (epTid m.src) == sp

/-- A unit that replies to the messages it accepts: the session service, the bobbin stores, the Last and flow-context ports and
the Cobbler. -/
def unitReplies (ep : Nat) : Bool :=
  epIsUnit ep && (ep == sessEp || epUnitNo ep == 3 || epUnitNo ep == 5 || epUnitNo ep == 7)

/-- R79, condition 4: a thread has a scratch access, lookup, device load or yarn-class operation outstanding. A blocking send that
waits within the spindle (condition 3) is not counted again. -/
def State.threadOut (s : State) (tid : Nat) : Bool :=
  let x := s.thr tid
  x.scratchOp.isSome || x.devld.isSome || x.tickets.any (fun t => t.2.arrived.isNone) ||
    s.yarn.flights.any (fun f => f.owner == some tid && !(s.ts tid == tsYwait && x.ywait == some f.msg.id))

/-- R79, condition 4: a unit holds a request that one of the spindle's threads issued and has not answered, or its answer is under
way. -/
def State.requestOut (s : State) (sp : Nat) : Bool :=
  s.yarn.queues.any (fun e => unitReplies e.1 && e.2.any (fun m => m.fromSpindle sp)) ||
    s.yarn.flights.any (fun f => f.owner.isNone && f.reply && !epIsUnit f.msg.dst && spOf (epTid f.msg.dst) == sp) ||
    (s.net.last.upd.bind (fun u => u.msg)).any (fun m => m.fromSpindle sp) ||
    s.cipher.ops.any (fun o => o.msg.any (fun m => m.fromSpindle sp)) ||
    s.cipher.jobs.any (fun (j : CipherJob) => match j.owner with
      | .csub tid _ _ => !isCob tid && spOf tid == sp
      | _ => false)

/-- R79: the all-wait condition of a spindle holds in this cycle. -/
def State.allWait (s : State) (sp : Nat) : Bool :=
  (threadsOf sp).all (fun t => s.threadWaits t && !s.threadOut t) && !s.requestOut sp

/-- R79, R80: the detector of a spindle in one cycle: when its condition began, and whether its escalation window is
resolved. -/
def State.watchSpindle (s : State) (sp : Nat) : State :=
  if 24 ≤ muleOf sp ∧ s.haltedB then s
  else
    let x := s.spindle sp
    let s := match x.windowAt with
      | some _ =>
        if (workersOf sp).all (fun t => isStuck (s.ts t)) then s
        else (s.modSpindle sp (fun x => { x with windowAt := none, allWaitAt := none })).wr
          ⟨(F.MULE_DL_STATUS.RAISED (muleOf sp)).addr, logOf sp, logOf sp⟩ 0
      | none => s
    if s.allWait sp then (if x.allWaitAt.isSome then s else s.modSpindle sp (fun x => { x with allWaitAt := some s.clk.cycles }))
    else if (s.spindle sp).allWaitAt.isNone then s else s.modSpindle sp (fun x => { x with allWaitAt := none })

def raisedF (sp : Nat) : FRef := ⟨(F.MULE_DL_STATUS.RAISED (muleOf sp)).addr, logOf sp, logOf sp⟩
def escalatedF (sp : Nat) : FRef := ⟨(F.MULE_DL_STATUS.RAISED (muleOf sp)).addr, 16 + logOf sp, 16 + logOf sp⟩

/-- R79: the condition has held for 2 × STITCH_LEN cycles. -/
def execDeadlock (sp : Nat) (s : State) : Host.Outcome State Fault Refusal :=
  match (s.spindle sp).allWaitAt with
  | none => .next s
  | some c =>
    if s.allWait sp = false ∨ (s.spindle sp).windowAt.isSome ∨ s.clk.cycles < c + 2 * s.stitchLen then .next s
    else
      let s := (s.raise (tidOf sp 0) evDeadlock).count (F.MULE_STAT.DEADLOCKS.CNT (muleOf sp)) 1
      .next ((s.wr (raisedF sp) 1).modSpindle sp (fun x => { x with windowAt := some s.clk.cycles }))

/-- R80: the escalation window ends unresolved. -/
def execEscalationWindowEnd (sp : Nat) (s : State) : Host.Outcome State Fault Refusal :=
  match (s.spindle sp).windowAt with
  | none => .next s
  | some c =>
    if s.clk.cycles < c + 2 * s.stitchLen ∨ (workersOf sp).all (fun t => isStuck (s.ts t)) = false then .next s
    else
      let m := muleOf sp
      let s := (s.wr (raisedF sp) 0).modSpindle sp (fun x => { x with windowAt := none, allWaitAt := none })
      let s := ((s.wr (escalatedF sp) 1).wr (F.MULE_EVENT.DL_ESC m) 1).count (F.MULE_STAT.DL_ESCALATIONS.CNT m) 1
      .next (s.event cobblerEvq (1 <<< 59 ||| m <<< 42 ||| logOf sp <<< 38))

/-! ### Bank swaps (R58, R59) -/

def spinsOf (m spn : Nat) : List Nat := ((List.range 16).filter (fun k => spn.testBit k)).map (fun k => 16 * m + k)

/-- R59: a write of MULE_SWAP with REQ: discarded whole while one is pending, refused while a load runs. -/
def State.swapRequest (s : State) (m spn : Nat) : State :=
  if s.flag (F.MULE_SWAP.REQ m) then s
  else if s.flag (F.MULE_LOAD_CTRL.BUSY m) then (s.wr (F.MULE_SWAP.SPN m) spn).wr (F.MULE_EVENT.SWAP_REJECT m) 1
  else { ((s.wr (F.MULE_SWAP.SPN m) spn).wr (F.MULE_SWAP.REQ m) 1) with
    mules := { s.mules with swapAt := AMap.set s.mules.swapAt m s.clk.cycles } }

def execMuleSwapRequest (m spn : Nat) (s : State) : Host.Outcome State Fault Refusal :=
  if 48 ≤ m then .next s else .next (s.swapRequest m spn)

def standbyF (sp : Nat) : FRef := F.MULE_THR_STATE.STANDBY_VALID (muleOf sp) (logOf sp)
def drainingF (sp : Nat) : FRef := F.MULE_THR_STATE.DRAINING (muleOf sp) (logOf sp)

/-- A thread fetches from a bank: it runs or waits within its program. One in FAULT or HALT fetches nothing. -/
def State.fetchesFrom (s : State) (tid bank : Nat) : Bool :=
  let st := s.ts tid
  (s.thr tid).bank == bank && (st == tsRun || st == tsWait || st == tsYwait)

/-- R58: the threads of a spindle whose banks have swapped: a bounded program completes where it started; a long-work thread
restarts, after its reservation commits if it holds one, or when it is resumed. -/
def State.swapThread (s : State) (tid : Nat) : State :=
  let st := s.ts tid
  if s.bounded tid then (if st = tsOff ∨ st = tsIdle then s.setTs tid (s.restState tid) else s)
  else if st = tsFault ∨ st = tsHalt then s.modThr tid (fun x => { x with restartDue := true })
  else if (s.thr tid).holdsResv then s.modThr tid (fun x => { x with restartReq := some (s.clk.cycles, rsSwap) })
  else s.restartThr tid rsSwap

/-- A spindle's standby bank becomes the active one. -/
def State.toggleBank (s : State) (sp : Nat) : State :=
  let b := s.activeBank sp
  (s.wr (F.MULE_THR_STATE.ACTIVE_BANK (muleOf sp) (logOf sp)) (1 - b)).wr (standbyF sp) 0

def State.swapSpindle (s : State) (sp : Nat) : State :=
  let old := s.activeBank sp
  let s := s.toggleBank sp
  let s := if s.role sp = roleSpare then s else (threadsOf sp).foldl (fun s t => s.swapThread t) s
  s.wr (drainingF sp) (if (threadsOf sp).any (fun t => s.fetchesFrom t old) then 1 else 0)

/-- R432: a swap of a spindle's position is pending. -/
def State.swapPending (s : State) (sp : Nat) : Bool := s.flt.swaps.any (fun x => x.sp == sp)

/-- R59: at the first stitch boundary at least 2,048 cycles after the request. -/
def execMuleSwapApply (m : Nat) (s : State) : Host.Outcome State Fault Refusal :=
  match AMap.get? s.mules.swapAt m with
  | none => .next s
  | some c =>
    if s.atBoundary = false ∨ s.clk.cycles < c + 2048 ∨ (spinsOf m (s.rd (F.MULE_SWAP.SPN m))).any (fun sp => s.swapPending sp) then .next s
    else
      let sps := spinsOf m (s.rd (F.MULE_SWAP.SPN m))
      let ok := sps.all (fun sp => s.flag (standbyF sp))
      let s := { s with mules := { s.mules with swapAt := AMap.del s.mules.swapAt m } }
      let s := s.wr (F.MULE_SWAP.REQ m) 0
      .next (if ok then (sps.foldl (fun s sp => s.swapSpindle sp) s).wr (F.MULE_EVENT.SWAP_DONE m) 1
        else s.wr (F.MULE_EVENT.SWAP_REJECT m) 1)

/-- R58: the restart of a long-work thread that held a reservation: after its YCOMMIT, or 64 cycles. -/
def execLongWorkRestart (tid : Nat) (s : State) : Host.Outcome State Fault Refusal :=
  match (s.thr tid).restartReq with
  | none => .next s
  | some (c, reason) =>
    if (s.thr tid).holdsResv ∧ s.clk.cycles < c + 64 then .next s
    else if s.ts tid = tsFault ∨ s.ts tid = tsHalt then .next (s.modThr tid (fun x => { x with restartReq := none, restartDue := true }))
    else .next (s.restartThr tid reason)

/-- R58: the old bank becomes standby once no thread fetches from it. -/
def execBankDrainEnd (sp : Nat) (s : State) : Host.Outcome State Fault Refusal :=
  if sp < 768 ∧ s.flag (drainingF sp) ∧ (threadsOf sp).all (fun t => !s.fetchesFrom t (1 - s.activeBank sp)) then
    .next (s.wr (drainingF sp) 0)
  else .next s

/-! ### Role changes (R63, R64) -/

/-- R64: a write of MULE_ROLE with REQ: discarded whole while one is pending or when it names a reserved role. -/
def State.roleRequest (s : State) (sp role : Nat) (swap : Bool) : State :=
  let m := muleOf sp
  let k := logOf sp
  if s.flag (F.MULE_ROLE.REQ m k) ∨ 5 ≤ role then s
  else
    let s := ((s.wr (F.MULE_ROLE.NEW_ROLE m k) role).wr (F.MULE_ROLE.SWAP m k) (if swap then 1 else 0)).wr (F.MULE_ROLE.REQ m k) 1
    s.modSpindle sp (fun x => { x with roleAt := some s.stitch, roleForced := none })

def execRoleChangeRequest (sp role : Nat) (swap : Bool) (s : State) : Host.Outcome State Fault Refusal :=
  if 768 ≤ sp then .next s else .next (s.roleRequest sp role swap)

/-- R64, step 2: a thread that a role change need not wait for. -/
def State.quiescent (s : State) (sp tid : Nat) : Bool :=
  let st := s.ts tid
  (st == tsIdle || st == tsWait || st == tsYwait || st == tsFault || st == tsOff) || (s.spindle sp).roleStopped.contains tid

/-- R64, step 2: threads not quiescent 2 stitches after dispatch stopped are stopped as by a hard halt, their reservations
poisoned and their work handed on ABORTED, ROLE_STOP. -/
def execRoleForced (sp : Nat) (s : State) : Host.Outcome State Fault Refusal :=
  match (s.spindle sp).roleAt with
  | none => .next s
  | some k =>
    let ts := (workersOf sp).filter (fun t => !s.quiescent sp t)
    if s.stitch < k + 3 ∨ ts = [] ∨ s.swapPending sp then .next s
    else
      let s := ts.foldl (fun s t =>
        let s := if s.bounded t then (s.endProgram t).handOn t stAborted 0x21 else s.poison t
        (s.modThr t (fun x => { x with haltReq := none, retireAt := none })).setTs t tsHalt) s
      let s := s.modSpindle sp (fun x => { x with roleForced := some s.stitch, roleStopped := x.roleStopped ++ ts })
      .next (s.wr (F.MULE_EVENT.ROLE_FORCED (muleOf sp)) 1)

/-- MULE_YCH_CFG of a channel. -/
def State.ychSize (s : State) (sp c : Nat) : Nat := s.rd (F.MULE_YCH_CFG.SIZE (muleOf sp) (32 * logOf sp + c))
def State.ychExt (s : State) (sp c : Nat) : Bool := s.flag (F.MULE_YCH_CFG.EXT (muleOf sp) (32 * logOf sp + c))

/-- R64: the conditions that refuse step 3. -/
def State.roleRefused (s : State) (sp : Nat) : Bool :=
  let m := muleOf sp
  let k := logOf sp
  let sizes := (List.range 32).map (fun c => s.ychSize sp c)
  sizes.any (fun z => decide (z < 4) || decide (10 < z)) || decide (2048 < (sizes.map (fun z => 2 ^ z)).sum) ||
    (s.flag (F.MULE_ROLE.SWAP m k) && !s.flag (standbyF sp)) ||
    (s.rd (F.MULE_ROLE.NEW_ROLE m k) == roleSpare && s.role sp == roleControl &&
      (List.range 16).all (fun j => j == k || s.role (16 * m + j) == roleSpare))

/-- R63: the epoch after a role change. -/
def nextEpoch (e : Nat) : Nat := if e = 255 then 1 else e + 1

/-- R70: a message of a fixed unit is discarded as stale after its acceptance: a MSG job completes STALE_EPOCH (R227), a packet on
the slow path is dropped (R160), and a notice or reply that is lost is counted by its unit. -/
def State.unitStale (s : State) (m : Msg) : State :=
  let n := epUnitNo m.src
  let h := (m.words.headD 0).toNat % 2 ^ 24
  if epIsUnit m.src = false then s
  else if n = 1 ∧ m.tag = 0x3C then
    (s.q.wqs.flatMap (fun e => (e.2.jobs.filter (fun j => j.msg == some m.id)).map (fun j => (e.1, j.first)))).foldl
      (fun s p => s.endJob p.1 p.2 ⟨stStaleEpoch, 0x14, 0, 0, 0⟩) s
  else if n = 1 then s.count F.QUEUE_STAT.NOTIFY_LOST.CNT 1
  else if n = 4 then (s.count F.EDIT_STAT.SP_DROP.CNT 1).dropBack h
  else if n = 2 ∧ m.lenm1 = 2 then (s.count F.CIPHER_STAT.REPLY_LOST.CNT 1).wr F.CIPHER_EVENT.REPLY_LOST 1
  else if n = 0 then s.count F.EYELET_STAT.NOTIFY_LOST.CNT 1
  else s

/-- R64, R70: every message queued in a spindle's channels is discarded as stale. -/
def State.discardQueued (s : State) (sp : Nat) : State :=
  ((threadsOf sp).flatMap (fun t => (List.range 4).map (fun c => epThread t c))).foldl (fun s ep =>
    let (gone, kept) := (s.queueAt ep).partition (fun m => m.committed)
    gone.foldl (fun s m => (s.discardStale m (s.rd (epochF sp))).unitStale m) (s.setQueue ep kept)) s

/-- R64, step 3: the threads after a role change. -/
def State.roleThread (s : State) (sp tid : Nat) : State :=
  let s := (s.clearFault tid).modThr tid (fun x =>
    { x with work := none, retireAt := none, haltReq := none, restartReq := none, restartDue := false, stepDue := false })
  if s.role sp = roleSpare then (s.poison tid).setTs tid tsOff
  else if s.bounded tid then (s.endProgram tid).setTs tid (s.restState tid)
  else s.restartThr tid rsRole

/-- R64, step 3: the new role and all that comes with it. -/
def State.roleApply (s : State) (sp : Nat) : State :=
  let m := muleOf sp
  let k := logOf sp
  let s := (s.wr (epochF sp) (nextEpoch (s.rd (epochF sp)))).wr (roleF sp) (s.rd (F.MULE_ROLE.NEW_ROLE m k))
  let lay := (List.range 32).foldl (fun (l : AMap Nat) c =>
    AMap.setD 22 l (32 * sp + c) (s.ychSize sp c + (if s.ychExt sp c then 16 else 0))) s.yarn.layout
  let s := { s with yarn := { s.yarn with layout := lay } }
  let s := if s.flag (F.MULE_ROLE.SWAP m k) then s.toggleBank sp else s
  let s := (threadsOf sp).foldl (fun s t => s.roleThread sp t) (s.discardQueued sp)
  s.modSpindle sp (fun x => { x with t0Fault := false })

/-- R64: at the boundary after a refusal dispatch resumes, and the threads that step 2 stopped go on. -/
def State.roleResume (s : State) (sp : Nat) : State :=
  let s := (s.spindle sp).roleStopped.foldl (fun s t => if s.bounded t then s.setTs t (s.restState t) else s.restartThr t rsAbort) s
  s.modSpindle sp (fun x => { x with roleBack := none, roleStopped := [] })

/-- R64, steps 3 and 4: at the next stitch boundary once every thread is quiescent, and after the one at which threads were forced
to stop. A spindle swap in progress goes first (R432). After a refusal the next boundary brings the threads back. -/
def execRoleChangeApply (sp : Nat) (s : State) : Host.Outcome State Fault Refusal :=
  if s.atBoundary = false then .next s
  else
    let x := s.spindle sp
    let later (k : Option Nat) : Bool := match k with | some k => decide (k < s.stitch) | none => true
    if x.roleBack.isSome then .next (if later x.roleBack then s.roleResume sp else s)
    else match x.roleAt with
      | none => .next s
      | some k =>
        let m := muleOf sp
        if s.stitch < k + 2 ∨ later x.roleForced = false ∨ (workersOf sp).all (fun t => s.quiescent sp t) = false ∨ s.swapPending sp then
          .next s
        else
          let refused := s.roleRefused sp
          let s := if refused then s.modSpindle sp (fun x => { x with roleBack := some s.stitch }) else s.roleApply sp
          let s := (s.modSpindle sp (fun x =>
            { x with roleAt := none, roleForced := none, roleStopped := if refused then x.roleStopped else [] })).wr
              (F.MULE_ROLE.REQ m (logOf sp)) 0
          .next (s.wr (if refused then F.MULE_EVENT.ROLE_REJECT m else F.MULE_EVENT.ROLE_DONE m) 1)

/-! ### Image loads (R84, R124) -/

/-- A load ends with a status and cause. -/
def State.loadEnd (s : State) (m st cause : Nat) : State :=
  let s := (s.wr (F.MULE_LOAD_STATUS.STATUS m) st).wr (F.MULE_LOAD_STATUS.CAUSE m) cause
  s.wr (if st = 0 then F.MULE_EVENT.LOAD_DONE m else F.MULE_EVENT.LOAD_REJECT m) 1

/-- R84, R124: START: discarded while a load runs; BANK_BUSY is judged first. -/
def State.loadStart (s : State) (m spn : Nat) : State :=
  if s.flag (F.MULE_LOAD_CTRL.BUSY m) then s
  else
    let s := s.wr (F.MULE_LOAD_CTRL.SPN m) spn
    if (spinsOf m spn).any (fun sp => s.flag (drainingF sp)) then s.loadEnd m stAccessDenied 0x40
    else
      let s := (s.wr (F.MULE_LOAD_CTRL.START m) 1).wr (F.MULE_LOAD_CTRL.BUSY m) 1
      { s with mules := { s.mules with loadAt := AMap.set s.mules.loadAt m (65536 * s.clk.cycles + spn % 65536) } }

def execMuleLoadStart (m spn : Nat) (s : State) : Host.Outcome State Fault Refusal :=
  if 48 ≤ m then .next s else .next (s.loadStart m spn)

/-- An accepted image enters the standby bank of each spindle. -/
def State.writeStandby (s : State) (sp : Nat) (img : Image) : State :=
  let s := if s.activeBank sp = 0 then s.modSpindle sp (fun x => { x with bank1 := some img })
    else s.modSpindle sp (fun x => { x with bank0 := some img })
  s.wr (standbyF sp) 1

/-- R84, R123 to R125: an image is checked and, if accepted, written into the standby banks: its status and cause. -/
def State.loadImage (s : State) (sps : List Nat) (bs : Bytes) : (Nat × Nat) × State :=
  match checkImage bs (budgetOf s.stitchLen) with
  | .refused c => ((loadStatus c, c), s)
  | .accepted img => ((stOk, 0), sps.foldl (fun s sp => s.writeStandby sp img) s)

/-- R84: the image at MULE_LOAD_ADDR has been read once, with the first of NOT_TENANT0 and READ that fails. -/
def State.loadRead (s : State) (a : Nat) : Nat × Nat × Bytes :=
  if s.ownedBy 0 a 64 = false then (stAccessDenied, 0x01, [])
  else
    let r := s.memCheck a 64
    if r ≠ (0, 0) then (r.1, 0x0D, [])
    else
      let n := max 64 (min (leAt (s.devRead a 64) 8 4) 40960)
      if s.ownedBy 0 a n = false then (stAccessDenied, 0x01, [])
      else
        let r := s.memCheck a n
        if r ≠ (0, 0) then (r.1, 0x0D, []) else (0, 0, s.devRead a n)

/-- R84: a load ends. MULE_LOAD_ADDR is taken as it stands then, and SPN as START gave it (DESIGN CHOICE, log entry 152). -/
def execImageLoadDone (m : Nat) (s : State) : Host.Outcome State Fault Refusal :=
  match AMap.get? s.mules.loadAt m with
  | none => .next s
  | some v =>
    let s := { s with mules := { s.mules with loadAt := AMap.del s.mules.loadAt m } }
    let s := (s.wr (F.MULE_LOAD_CTRL.START m) 0).wr (F.MULE_LOAD_CTRL.BUSY m) 0
    match s.loadRead (s.rd (F.MULE_LOAD_ADDR.ADDR m) * 4096) with
    | (0, _, bs) =>
      let (r, s) := s.loadImage (spinsOf m (v % 65536)) bs
      .next (s.loadEnd m r.1 r.2)
    | (st, c, _) => .next (s.loadEnd m st c)

end Sys2Proof.Machine
end

