-- ==== Sys2Proof/Machine/Trust.lean ====
section
/-! DEFINITION. Image sets: the manifest and its checks, the components, and what becomes of a set that runs (R387 to R390,
R395, R399). -/

namespace Sys2Proof.Machine

open Sys2Proof

/-! ### Detail codes (Table 12.8) -/

def mdBadOp : Nat := 0x01
def mdBadParam : Nat := 0x02
def mdBusy : Nat := 0x03
def mdFormat : Nat := 0x04
def mdKey : Nat := 0x05
def mdSig : Nat := 0x06
def mdSvn : Nat := 0x07
def mdHash : Nat := 0x08
def mdFlash : Nat := 0x09
def mdConfig : Nat := 0x0A
def mdActivate : Nat := 0x0B
def mdSeq : Nat := 0x0C
def mdNotCommittable : Nat := 0x0D
def mdDebugOpen : Nat := 0x0E
def mdToken : Nat := 0x0F
def mdLockout : Nat := 0x10
def mdNotRecovery : Nat := 0x11
def mdPath : Nat := 0x12
def mdRestart : Nat := 0x13


/-- The status that goes with a detail (Table 12.8). -/
def mdStatus (d : Nat) : Nat :=
  if d = mdBadOp ∨ d = mdFormat then 0x02
  else if d = mdBadParam ∨ d = mdBusy ∨ d = mdSvn ∨ d = mdSeq then 0x04
  else if d = mdKey ∨ d = mdSig ∨ d = mdHash ∨ d = mdToken then stAuthFail
  else if d = mdFlash ∨ d = mdConfig ∨ d = mdActivate ∨ d = mdRestart then 0x0F
  else if d = 0 then 0
  else 0x03

/-! ### The manifest (Table 12.2) -/

def chunkSize : Nat := 0x10000
def setMax : Nat := 0x3000000

def mfMagic (m : Bytes) : Nat := leAt m 0 4
def mfFormat (m : Bytes) : Nat := leAt m 4 2
def mfFlags (m : Bytes) : Nat := leAt m 6 2
def mfSvn (m : Bytes) : Nat := leAt m 8 4
def mfChunks (m : Bytes) : Nat := leAt m 0x0C 2
def mfComps (m : Bytes) : Nat := leAt m 0x0E 1
def mfCobChunks (m : Bytes) : Nat := leAt m 0x0F 1
def mfBuild (m : Bytes) : Bytes := sliceB m 0x20 16
def mfHash (m : Bytes) (k : Nat) : Bytes := sliceB m (0x240 + 48 * k) 48
def mfBody (m : Bytes) : Bytes := sliceB m 0 0xA000

/-- A component entry (Table 12.3). -/
structure Comp where
  type : Nat
  off : Nat
  len : Nat
  target : Nat

def mfComp (m : Bytes) (k : Nat) : Comp :=
  let a := 0x40 + 16 * k
  ⟨leAt m a 1, leAt m (a + 4) 4, leAt m (a + 8) 4, leAt m (a + 12) 4⟩

def mfCompList (m : Bytes) : List Comp := (List.range (mfComps m)).map (fun k => mfComp m k)

def tCobbler : Nat := 1
def tStorage : Nat := 2
def tConfig : Nat := 3

def zeroAt (m : Bytes) (off n : Nat) : Bool := (sliceB m off n).all (· == 0#8)

/-- R388, step 1. -/
def mfIdentity (m : Bytes) (step : Nat) : Bool :=
  mfMagic m == 0x464D4A48 && mfFormat m == 1 && leAt m 0x10 2 == 0x0960 && decide (leAt m 0x12 1 ≤ step)

/-- R387: every byte of the manifest that the table does not give is zero. -/
def mfZeros (m : Bytes) : Bool :=
  zeroAt m 0x13 13 && zeroAt m 0x30 16 && decide (mfFlags m < 2) &&
  zeroAt m (0x40 + 16 * mfComps m) (16 * (32 - mfComps m)) &&
  (List.range (mfComps m)).all (fun k => zeroAt m (0x40 + 16 * k + 1) 3) &&
  zeroAt m (0x240 + 48 * mfChunks m) (0xA000 - (0x240 + 48 * mfChunks m)) &&
  zeroAt m 0xA060 0x20 && zeroAt m 0xB293 (0xB400 - 0xB293) && zeroAt m 0xB461 0x1F && zeroAt m 0xBEA0 (0x10000 - 0xBEA0)

def compsDisjoint : List Comp → Bool
  | [] => true
  | c :: t => t.all (fun d => decide (c.off + c.len ≤ d.off) || decide (d.off + d.len ≤ c.off)) && compsDisjoint t

/-- R387: the rules on component types. -/
def compsTyped (m : Bytes) (cs : List Comp) : Bool :=
  let n (t : Nat) : Nat := (cs.filter (fun c => c.type == t)).length
  let c0 := cs.headD ⟨0, 0, 0, 0⟩
  cs.all (fun c => decide (1 ≤ c.type) && decide (c.type ≤ 4) && c.off % 64 == 0 && decide (1 ≤ c.len) &&
    decide (c.off + c.len ≤ mfChunks m * chunkSize) && (c.type == tCobbler || c.target == 0)) &&
  n tCobbler == 1 && c0.type == tCobbler && c0.off == 0 && decide (c0.len ≤ mfCobChunks m * chunkSize) && decide (c0.target < 0x400000) &&
  n tStorage == 1 && decide (n tConfig ≤ 1)

/-- R388, step 2. -/
def mfShape (m : Bytes) : Bool :=
  let cs := mfCompList m
  decide (1 ≤ mfChunks m) && decide (mfChunks m ≤ 767) && decide (1 ≤ mfComps m) && decide (mfComps m ≤ 32) &&
  decide (1 ≤ mfCobChunks m) && decide (mfCobChunks m ≤ 48) && decide (mfCobChunks m ≤ mfChunks m) &&
  mfZeros m && compsTyped m cs && compsDisjoint cs

/-- R388, step 3: the fused key index, not revoked, that both public keys match. -/
def mfKeyIndex (m : Bytes) (revoked : List Nat) : Option Nat :=
  (List.range 4).find? (fun k =>
    !revoked.contains k && sha384 (sliceB m 0xB400 97) == (Config.fusedKeyHash k).1 &&
    sha384 (sliceB m 0xB480 2592) == (Config.fusedKeyHash k).2)

/-- R388, step 4. -/
def mfSigned (m : Bytes) : Bool :=
  Config.ecdsaVerify (sliceB m 0xB400 97) (mfBody m) (sliceB m 0xA000 96) &&
  Config.mldsaVerify (sliceB m 0xB480 2592) (mfBody m) (sliceB m 0xA080 4627)

/-- The part's stepping: GLOBAL_DEVICE_ID bits 15:8. -/
def State.stepping (s : State) : Nat := bitsOf (s.word F.GLOBAL_DEVICE_ID.STEP_MAJOR.addr) 15 8

/-- R388: a manifest is checked: the signing key's index, or the detail of the step that fails. -/
def State.checkManifest (s : State) (m : Bytes) : Except Nat Nat :=
  if mfIdentity m s.stepping = false ∨ mfShape m = false then .error mdFormat
  else match mfKeyIndex m s.cob.revoked with
    | none => .error mdKey
    | some k =>
      if mfSigned m = false then .error mdSig
      else if mfSvn m < s.rd F.COBBLER_SVN.MIN_SVN then .error mdSvn
      else .ok k

/-! ### Sets -/

/-- Chunk `k` of a set held in slot layout. -/
def setChunk (bs : Bytes) (k : Nat) : Bytes := sliceB bs (chunkSize * (k + 1)) chunkSize

/-- The bytes of a component of a set held in slot layout. -/
def setComp (bs : Bytes) (c : Comp) : Bytes := sliceB bs (chunkSize + c.off) c.len

/-- The bytes of the first component of a type. -/
def setType (bs : Bytes) (t : Nat) : Bytes :=
  match (mfCompList bs).find? (fun c => c.type == t) with | some c => setComp bs c | none => []

/-- Every chunk of a set matches its hash. -/
def setHashed (bs : Bytes) : Bool := (List.range (mfChunks bs)).all (fun k => sha384 (setChunk bs k) == mfHash bs k)

/-- The bytes of a set: manifest and chunks. -/
def setLength (bs : Bytes) : Nat := chunkSize * (mfChunks bs + 1)

/-- R388, R406: a set is verified whole: the key's index, or the detail that fails. -/
def State.checkSet (s : State) (bs : Bytes) : Except Nat Nat :=
  match s.checkManifest bs with
  | .error d => .error d
  | .ok k => if setHashed bs then .ok k else .error mdHash

/-- The set in a slot, as far as its manifest says it goes. -/
def State.slotSet (s : State) (slot : Nat) : Bytes :=
  let m := flashRead s.flash (slotBase slot) chunkSize
  m ++ flashRead s.flash (slotBase slot + chunkSize) (chunkSize * min (mfChunks m) 767)

/-- The manifest of a slot is valid. -/
def State.slotValid (s : State) (slot : Nat) : Option Nat :=
  match s.checkManifest (flashRead s.flash (slotBase slot) chunkSize) with
  | .ok _ => none
  | .error d => some d

/-- The boot store: the first 48 MiB of Half A's skein buffer (R389). -/
def State.bootStore (s : State) : Nat := s.rd (F.BOBBIN_SKEIN_ADDR.ADDR 0)

def State.storeSetBytes (s : State) (m : Bytes) : Bytes := s.devRead s.bootStore (setLength m)

/-- The set that runs, from a set in slot layout. -/
def runOf (bs : Bytes) (slot key : Nat) (config : Bytes) : RunSet :=
  { slot := slot, svn := mfSvn bs, key := key, flags := mfFlags bs, buildId := mfBuild bs, body := mfBody bs,
    cobbler := setType bs tCobbler, storage := setType bs tStorage, config := config }

/-- R389, R383, R407: the Cobbler firmware enters Cobbler SRAM and the cores jump to TARGET. That they start with their registers as
after POWER reset, at the word that holds TARGET, is the model's choice (log entry 165). -/
def State.loadFirmware (s : State) (bs : Bytes) (target : Nat) : State :=
  { s with cobSram := Memory.write s.cobSram 0 bs }.setThr cobBase { Thread.reset with pc := target / 4 }

/-- SLOT, RECOVERY and SVN of the running set. -/
def State.showRun (s : State) (r : RunSet) : State :=
  ((s.wr F.COBBLER_BOOT_STATUS.SLOT r.slot).wr F.COBBLER_BOOT_STATUS.RECOVERY (if r.slot = 3 then 1 else 0)).wr F.COBBLER_BOOT_STATUS.SVN r.svn

def State.seqOf (s : State) (slot : Nat) : Nat := if slot = 0 then s.rd F.COBBLER_SEQ.SEQ_A else s.rd F.COBBLER_SEQ.SEQ_B

/-- R394, R388: a candidate's failure is recorded. -/
def State.recordFail (s : State) (slot detail : Nat) : State :=
  (s.wr F.COBBLER_BOOT_STATUS.FAIL_SLOT slot).wr F.COBBLER_BOOT_STATUS.FAIL_CAUSE detail

/-- R406: the slot that a STORE writes. -/
def State.targetSlot (s : State) : Nat :=
  let run := (s.cob.run.map (fun r => r.slot)).getD 3
  if run = 0 then 1
  else if run = 1 then 0
  else match s.slotValid 0, s.slotValid 1 with
    | some _, _ => 0
    | none, some _ => 1
    | none, none => if s.seqOf 1 < s.seqOf 0 then 1 else 0

end Sys2Proof.Machine
end

