-- ==== Sys2Proof/Machine/Cobbler.lean ====
section
/-! DEFINITION. The Cobbler's mailbox and the commands that reach it (R415): information, firmware staging and commits, the
activation of a set, security versions, debug access and the operator's records (R383, R396, R398, R399, R406, R407,
R413, R414). -/

namespace Sys2Proof.Machine

open Sys2Proof

/-! ### How a command arrives and is answered (R384, R408, R415) -/

def cobEp : Nat := epUnit 7 0

/-- A command: its OP, argument bytes and data; the detail that refuses it whatever it is. -/
structure Mbox where
  op : Nat
  args : Bytes
  data : Bytes
  refused : Option Nat

/-- The message at the head of the Cobbler's channel 2, if it is committed; the firmware discards a poisoned one (R75). -/
def State.mboxMsg (s : State) : Option Msg :=
  ((s.queueAt cobEp).find? (fun m => !epIsUnit m.src && !(m.committed && m.kind == .poisoned))).filter (fun m => m.committed)

/-- The bytes of a block of 32-bit registers. -/
def State.regBytes (s : State) (f : Nat → FRef) (n : Nat) : Bytes := (List.range n).flatMap (fun k => toLE 4 (s.rd (f k)))

/-- The command as a message carries it. -/
def State.mboxOf (s : State) (m : Msg) : Mbox :=
  let w (k : Nat) : Nat := (m.words.getD k 0).toNat
  let op := w 0 % 256
  let args := bytesOf ((m.words.drop 1).take 8)
  if m.kind ≠ .bulk ∨ w 0 / 512 ≠ 0 then ⟨op, [], [], some mdBadOp⟩
  else
    let path : Option Nat := if op = 6 ∨ op = 7 ∨ op = 10 then some mdPath else none
    if (w 0).testBit 8 then
      if 8192 < w 10 then ⟨op, args, [], some mdBadParam⟩
      else if s.ownedBy 0 (w 9) (w 10) = false ∨ s.memCheck (w 9) (w 10) ≠ (0, 0) then ⟨op, args, [], some mdPath⟩
      else ⟨op, args, s.devRead (w 9) (w 10), path⟩
    else ⟨op, args, bytesOf (m.words.drop 9), path⟩

/-- The path of a command that is under way: a STORAGE_ASSIGN or an activation. -/
def State.mboxRunning (s : State) : Option MboxVia :=
  match s.cob.assign with
  | some a => if a.boot then none else some a.via
  | none => match s.cob.act with
    | some ⟨.mbox v, _, _, _, _, _, _⟩ => some v
    | _ => none

/-- The command that waits at a path, if one does. One command runs at a time. -/
def State.mboxTake (s : State) (via : MboxVia) : Option Mbox :=
  if s.mboxRunning.any (fun v => v ≠ via) then none
  else match via with
  | .csr =>
    if s.flag F.COBBLER_MBOX_CMD.BUSY then
      some ⟨s.rd F.COBBLER_MBOX_CMD.OP, s.regBytes F.COBBLER_MBOX_ARG.W 16, s.regBytes F.COBBLER_MBOX_DATA.W 2048, none⟩
    else none
  | .thread => if s.flag F.COBBLER_MBOX_CMD.BUSY then none else s.mboxMsg.map (fun m => s.mboxOf m)
  | .mctp _ op args data =>
    if s.flag F.COBBLER_MBOX_CMD.BUSY ∨ s.locked = false then none
    else some ⟨op, args, data, if op = 7 ∨ op = 9 then some mdPath else none⟩

/-- Messages of at most 256 words that carry a response, from their place `k` on. -/
def replyWords (st detail len : Nat) : Nat → Nat → List W64 → List (List W64)
  | 0, _, _ => []
  | fuel + 1, k, ws =>
    (BitVec.ofNat 64 (st ||| detail <<< 8 ||| len <<< 16 ||| k <<< 32) :: ws.take 255) ::
      (if 255 < ws.length then replyWords st detail len fuel (k + 1) (ws.drop 255) else [])

/-- A BULK message of the Cobbler to channel 0 of a thread. -/
def State.cobSend (s : State) (req : Msg) (ws : List W64) : State :=
  let (id, s) := s.freshMsg
  s.launch { op := .send, owner := none, gen := 0, rd := 0, blocking := true, after := none, status := none, reply := true, post := none,
             msg := { id := id, epoch := req.epoch, lenm1 := ws.length - 1, kind := .bulk, tag := req.tag, src := cobEp,
                      dst := req.src / 4 * 4, words := ws, committed := true } }

/-- The words of response bytes. -/
def padWords (bs : Bytes) : List W64 := wordsOf ((bs.length + 7) / 8) (sliceB bs 0 ((bs.length + 7) / 8 * 8))

/-- R415: a command is answered with a status, a detail and its response bytes. -/
def State.mboxAnswer (s : State) (via : MboxVia) (st detail : Nat) (rsp : Bytes) : State :=
  match via with
  | .csr =>
    let s := (List.range ((rsp.length + 3) / 4)).foldl (fun s k => s.wr (F.COBBLER_MBOX_RSP.W k) (leAt rsp (4 * k) 4)) s
    let s := ((s.wr F.COBBLER_MBOX_STATUS.RSP_LEN rsp.length).wr F.COBBLER_MBOX_STATUS.DETAIL detail).wr F.COBBLER_MBOX_STATUS.STATUS st
    ((s.wr F.COBBLER_MBOX_STATUS.DONE 1).wr F.COBBLER_MBOX_CMD.BUSY 0).wr F.COBBLER_MBOX_CMD.GO 0
  | .thread =>
    match s.mboxMsg with
    | none => s
    | some m =>
      let s := s.setQueue cobEp ((s.queueAt cobEp).filter (fun x => x.id != m.id))
      (replyWords st detail rsp.length 3 0 (padWords rsp)).foldl (fun s ws => s.cobSend m ws) s
  | .mctp b _ _ _ => s.emit (.mctp b 0x7E (toLE 8 (st ||| detail <<< 8 ||| rsp.length <<< 16) ++ rsp))

/-- A command is answered with a detail of Table 12.8 and its status. -/
def State.mboxReply (s : State) (via : MboxVia) (detail : Nat) (rsp : Bytes) : State := s.mboxAnswer via (mdStatus detail) detail rsp

/-- A write of GO to COBBLER_MBOX_CMD: discarded while BUSY; an undefined OP completes at once. -/
def State.mboxGo (s : State) : State :=
  if s.flag F.COBBLER_MBOX_CMD.BUSY then s
  else if s.rd F.COBBLER_MBOX_CMD.OP = 0 ∨ 10 < s.rd F.COBBLER_MBOX_CMD.OP then s.mboxReply .csr mdBadOp []
  else (s.wr F.COBBLER_MBOX_CMD.GO 1).wr F.COBBLER_MBOX_CMD.BUSY 1

/-- R75: the Cobbler, before it looks for a message's command, discards the poisoned messages it comes to. -/
def State.mboxHeard (s : State) : MboxVia → State
  | .thread => s.dropSpoilt cobEp (fun m => !epIsUnit m.src)
  | _ => s

/-- The command at a path is run if it is one of those named: `k` answers it with a detail and response, or leaves it
waiting. -/
def State.mboxRun (s : State) (via : MboxVia) (p : Nat → Bool) (k : Mbox → State → Option (Nat × Bytes) × State) : State :=
  let s := s.mboxHeard via
  match s.mboxTake via with
  | none => s
  | some c =>
    if p c.op = false then s
    else match c.refused with
      | some d => s.mboxReply via d []
      | none => match k c s with
        | (some (d, rsp), s) => s.mboxReply via d rsp
        | (none, s) => s

/-- INFO; an undefined OP of a message is answered here too. -/
def execMboxInfo (via : MboxVia) (s : State) : Host.Outcome State Fault Refusal :=
  .next (s.mboxRun via (fun op => op == 1 || op == 0 || decide (10 < op)) (fun c s =>
    if c.op ≠ 1 then (some (mdBadOp, []), s)
    else
      let r := s.cob.run
      let seqs := toLE 4 (s.rd F.COBBLER_SVN.MIN_SVN) ++ toLE 4 (s.rd F.COBBLER_SEQ.SEQ_A) ++ toLE 4 (s.rd F.COBBLER_SEQ.SEQ_B)
      let ids := sliceB ((r.map (fun r => r.buildId)).getD []) 0 16 ++ toLE 4 ((r.map (fun r => r.svn)).getD 0)
      (some (0, ids ++ seqs ++ toLE 1 ((r.map (fun r => r.key)).getD 0) ++ toLE 1 (s.rd F.COBBLER_BOOT_STATUS.SLOT)), s)))

/-! ### The staging area (R406, R295) -/

/-- The path may write to or commit the staging area: no activation has a set in it (R407), and it is free or the path holds it. -/
def State.mayStage (s : State) (p : StagePath) : Bool := s.cob.act.isNone && (s.cob.holder.isNone || s.cob.holder == some p)

/-- Bytes enter the staging area, and the path holds it. -/
def State.stage (s : State) (p : StagePath) (off : Nat) (bs : Bytes) : State :=
  s.setCob { s.cob with staging := Memory.write s.cob.staging off bs, holder := some p }

/-- The staged set, as far as its manifest says it goes. -/
def State.staged (s : State) : Bytes :=
  let m := Memory.read s.cob.staging 0 chunkSize
  m ++ Memory.read s.cob.staging chunkSize (chunkSize * min (mfChunks m) 767)

/-- The staging area becomes empty and free. -/
def State.unstage (s : State) : State := s.setCob { s.cob with staging := [], holder := none }

/-- The part is in ROM recovery (R396). -/
def State.inRecovery (s : State) : Bool := s.cob.boot.stage == .recovery

/-- FW_WRITE: data to staging, or to the boot store in ROM recovery. -/
def execFwWrite (via : MboxVia) (s : State) : Host.Outcome State Fault Refusal :=
  .next (s.mboxRun via (· == 2) (fun c s =>
    let off := leAt c.args 0 4
    let len := leAt c.args 4 4
    if off % 4096 ≠ 0 ∨ len % 4096 ≠ 0 ∨ 8192 < len ∨ setMax < off + len ∨ c.data.length < len then (some (mdBadParam, []), s)
    else if s.inRecovery then (some (0, []), s.devWrite (s.bootStore + off) (c.data.take len))
    else if s.mayStage .mailbox = false then (some (mdBusy, []), s)
    else (some (0, []), s.stage .mailbox off (c.data.take len))))

/-- FW_DOWNLOAD of an admin queue: its data are read from ADDR, then enter staging. -/
def execFwDownload (n : Nat) (s : State) : Host.Outcome State Fault Refusal :=
  match s.adminJob n 0x85 with
  | none => .next s
  | some (w, j, e) =>
    let off := leAt e 8 4
    let len := leAt e 0x0C 4
    let addr := leAt e 0x10 8
    match s.adminFault true w with
    | some r => .next (s.endAdmin n j r 0 0)
    | none =>
      if addr % 4 ≠ 0 then .next (s.endAdmin n j (stMalformed, wdBadParam) 0 0)
      else if off % 4096 ≠ 0 ∨ len % 4096 ≠ 0 ∨ setMax < off + len then .next (s.endAdmin n j (stRange, wdBadParam) 0 0)
      else if s.mayStage (.welt w.func) = false then .next (s.endAdmin n j (stRange, wdBusy) 0 0)
      else if j.stage = .unstarted ∧ s.hostWaits w.home w.func w.ringLoc then .next s
      else if j.stage = .unstarted then
        let pieces := chunkAll (if w.ringLoc then 65536 else s.mrrs w.func) [(addr, len)]
        let (ls, s) := pieces.foldl (fun (acc : List Leg × State) (p : Nat × Nat) =>
          let s := if w.ringLoc then acc.2 else acc.2.owe 4 w.home (s.groupOf w.tenant) (tlpsOf p.2)
          let (l, s) := s.startLeg w.ringLoc w.home w.func w.tenant (s.groupOf w.tenant) p.1 p.2 true
          (acc.1 ++ [l], s)) ([], s)
        .next (s.modJob n j.first (fun j => { j with stage := .started, legs := ls }))
      else match s.legResults j.legs with
        | none => .next s
        | some rs =>
          match rs.find? (fun r => r.1 != 0) with
          | some r => .next (s.endAdmin n j (r.1, qdBufFault) 0 0)
          | none => .next ((s.stage (.welt w.func) off (rs.flatMap (fun r => r.2))).endAdmin n j (stOk, 0) len 0)

/-! ### STORE (R406) -/

/-- The bytes a failed program leaves in a slot: free values. -/
def debris (k n : Nat) : Bytes := (List.range n).map (fun i => Config.flashDebris k i)

/-- R406, steps 2 to 5: a set is written into a slot; `ok` says that the flash took it and the read-back agreed. The detail,
or none while the journal cannot take the records yet. -/
def State.storeSlot (s : State) (bs : Bytes) (slot : Nat) (ok : Bool) : Option Nat × State :=
  let seq := max (s.rd F.COBBLER_SEQ.SEQ_A) (s.rd F.COBBLER_SEQ.SEQ_B) + 1
  if 0xFFFFFFFE < seq then (some mdSeq, s)
  else
    let r0 : JRec := ⟨jSlotSeq, slot, toLE 4 0⟩
    match s.journalTry (if ok then [r0, ⟨jSlotSeq, slot, toLE 4 seq⟩] else [r0]) with
    | (false, s) => (none, s)
    | (true, s) =>
      let set := bs.take (setLength bs)
      let img := if ok then set else debris s.freeCtr set.length
      let s := { s with flash := flashWrite (flashErase s.flash (slotBase slot) 0x4000000) (slotBase slot) img }
      if ok then (some 0, s) else (some mdFlash, s.tookFree)

/-- STORE of the staged set: verified, then written into the target slot. -/
def State.storeStaged (s : State) (ok : Bool) : Option Nat × State :=
  match s.checkSet s.staged with
  | .error d => (some d, s)
  | .ok _ => s.storeSlot s.staged s.targetSlot ok

/-! ### Commits (R406, R407, R295) -/

/-- A commit that waits: its action, its path, and the FIRST index of a Welt job. -/
structure Commit where
  action : Nat
  path : StagePath
  first : Nat

/-- The commit that waits at a path: an FW_COMMIT of the mailbox, or of an admin queue. -/
def State.commitTake (s : State) : CommitVia → Option Commit
  | .mbox v => if s.mboxRunning.isSome then none else (s.mboxTake v).bind (fun c =>
      if c.op = 3 ∧ c.refused.isNone then some ⟨leAt c.args 0 1, .mailbox, 0⟩ else none)
  | .welt n => (s.adminJob n 0x86).map (fun (x : Wq × Job × Bytes) => ⟨leAt x.2.2 8 1, .welt x.1.func, x.2.1.first⟩)
  | .pldm _ => none

/-- The detail that refuses an FW_COMMIT of the mailbox whatever its action. -/
def State.commitRefused (s : State) : CommitVia → Option (MboxVia × Nat)
  | .mbox v => if s.mboxRunning.isSome then none else (s.mboxTake v).bind (fun c => if c.op = 3 then c.refused.map (fun d => (v, d)) else none)
  | _ => none

/-- A commit ends with a detail of Table 12.8, which a Welt command reports by Table 8.9: an undefined ACTION as a field outside its
allowed values (R291). -/
def State.commitEnd (s : State) (via : CommitVia) (first detail : Nat) : State :=
  match via with
  | .mbox v => s.mboxReply v detail []
  | .pldm b => s.emit (.mctp b 1 [BitVec.ofNat 8 detail])
  | .welt n =>
    match s.liveJob n first with
    | none => s
    | some j =>
      let r := if detail = 0 then (stOk, 0) else if detail = mdBusy then (stRange, wdBusy)
        else if detail = mdBadParam then (stMalformed, wdBadParam)
        else if detail = mdSeq then (stRange, wdBadParam)
        else if detail = mdFlash ∨ detail = mdActivate then (0x0F, wdFwActivate)
        else (stAuthFail, wdFwAuth)
      s.endAdmin n j r 0 0

/-- The fault of a commit before anything is verified. -/
def State.commitFault (s : State) (c : Commit) : Option Nat :=
  if 2 < c.action then some mdBadParam
  else if s.mayStage c.path = false then some mdBusy
  else none

/-- The logical spindles of role STORAGE. -/
def State.storageSpindles (s : State) : List Nat := (List.range 768).filter (fun sp => s.role sp == 1)

/-- R407, R84, R59: the storage programs of the spindles cannot be swapped now. -/
def State.swapBlocked (s : State) (sps : List Nat) : Bool :=
  sps.any (fun sp => (halfOfMule (muleOf sp) == 1 && s.fencedB) || s.flag (drainingF sp) ||
    s.flag (F.MULE_LOAD_CTRL.BUSY (muleOf sp)) || s.flag (F.MULE_SWAP.REQ (muleOf sp)))

/-- R407, steps 1 and 2: a stored set is checked, Welt fetching pauses and the new storage programs enter the standby banks.
The detail of a refusal, or none where the swap is now due. -/
def State.activateSet (s : State) (via : CommitVia) (first slot : Nat) : Option Nat × State :=
  let bs := s.slotSet slot
  match s.checkSet bs with
  | .error d => (some (if d = mdHash then mdHash else mdSig), s)
  | .ok _ =>
    let sps := s.storageSpindles
    if s.swapBlocked sps then (some mdActivate, s)
    else match s.loadImage sps (setType bs tStorage) with
      | ((0, _), s) =>
        let s := s.wr F.WELT_ACT.PAUSED 1
        (none, s.setCob { s.cob with act := some ⟨via, first, slot, bs, sps, s.clk.time, s.clk.cycles⟩ })
      | (_, _) => (some mdActivate, s)

/-- A 16-byte configuration record (Table 12.6). -/
structure CfgRec where
  op : Nat
  comp : Nat
  off : Nat
  value : Nat

def cfgRec (bs : Bytes) (o : Nat) : CfgRec := ⟨leAt bs o 1, leAt bs (o + 1) 1, leAt bs (o + 4) 4, leAt bs (o + 8) 8⟩

/-- COPY: a component goes to tenant 0 memory; none where it would leave it. -/
def State.copyComp (s : State) (bs : Bytes) (r : CfgRec) : Option State :=
  if mfComps bs ≤ r.comp then none
  else
    let d := setComp bs (mfComp bs r.comp)
    if s.ownedBy 0 r.value d.length && s.memCheck r.value d.length == (0, 0) then some (s.devWrite r.value d) else none

/-- R407, step 3: the COPY records of a CONFIG component run, and no other. -/
def State.runCopies (bs cfg : Bytes) : Nat → Nat → State → State
  | 0, _, s => s
  | fuel + 1, o, s =>
    let r := cfgRec cfg o
    if cfg.length < o + 16 ∨ r.op = 8 then s
    else State.runCopies bs cfg fuel (o + 16) (if r.op = 3 then (s.copyComp bs r).getD s else s)

/-- R383, R407: the Cobbler starts the firmware of a set. -/
def State.startCobbler (s : State) (r : RunSet) : State := s.loadFirmware r.cobbler (mfComp r.body 0).target

/-- R407, steps 2 to 5: at a stitch boundary at least 2,048 cycles on, the storage programs swap, fetching resumes, and the new
firmware starts. -/
def State.activateDue (s : State) (a : Activation) : State :=
  let s := s.setCob { s.cob with act := none }
  let us := min ((s.clk.time - a.since) / 8000) 200000
  let s := (s.wr F.WELT_ACT.PAUSED 0).wr F.WELT_ACT.LAST_PAUSE us
  if s.swapBlocked a.spindles then s.commitEnd a.via a.first mdActivate
  else
    let bs := a.image
    let s := a.spindles.foldl (fun s sp => s.swapSpindle sp) s
    let s := State.runCopies bs (setType bs tConfig) ((setType bs tConfig).length / 16 + 1) 0 s
    let old := (s.cob.run.map (fun r => r.config)).getD []
    let key := match s.checkManifest bs with | .ok k => k | .error _ => 0
    let r := runOf bs a.slot key old
    let s := (s.startCobbler r).showRun r
    let s := s.setCob { s.cob with run := some r, mgmt := { s.cob.mgmt with sessions := [] } }
    (s.event cobblerEvq (4 <<< 59 ||| r.svn)).commitEnd a.via a.first 0

/-- R295, R407: the swap of an activation under way is made once it is due. -/
def State.activateStep (s : State) (a : Activation) : State :=
  if s.atBoundary = false ∨ s.clk.cycles < a.at_ + 2048 ∨ a.spindles.any (fun sp => s.swapPending sp) then s else s.activateDue a

/-- What the Cobbler has heard on the path of a commit. -/
def State.mboxHeardBy (s : State) : CommitVia → State
  | .mbox v => s.mboxHeard v
  | _ => s

/-- The commit at a path is run where its action is one of those named. -/
def State.commitRun (s : State) (via : CommitVia) (p : Nat → Bool) (k : Commit → State → Option Nat × State) : State :=
  let s := s.mboxHeardBy via
  match s.commitTake via with
  | none => match s.commitRefused via with
    | some (v, d) => s.mboxReply v d []
    | none => s
  | some c =>
    if p c.action = false then s
    else
      let gate : Option (Nat × Nat) := match via with
        | .welt n => (s.adminJob n 0x86).bind (fun (x : Wq × Job × Bytes) => s.adminFault true x.1)
        | _ => none
      match gate, via with
      | some r, .welt n => (match s.liveJob n c.first with | some j => s.endAdmin n j r 0 0 | none => s)
      | _, _ =>
        match s.commitFault c with
        | some d => s.commitEnd via c.first d
        | none => match k c s with
          | (some d, s) => s.unstage.commitEnd via c.first d
          | (none, s) => s

/-- The activation under way belongs to this commit. -/
def State.activating (s : State) (via : CommitVia) : Option Activation :=
  s.cob.act.bind (fun a => if a.via = via then some a else none)

/-- FW_COMMIT STORE; an undefined ACTION is answered here too. -/
def execStore (via : CommitVia) (ok : Bool) (s : State) : Host.Outcome State Fault Refusal :=
  .next (s.commitRun via (fun a => a == 0 || decide (2 < a)) (fun _ s => s.storeStaged ok))

/-- FW_COMMIT STORE_ACTIVATE: the set is stored, then activated. -/
def execStoreActivate (via : CommitVia) (ok : Bool) (s : State) : Host.Outcome State Fault Refusal :=
  match s.activating via with
  | some a => .next (s.activateStep a)
  | none => .next (s.commitRun via (· == 1) (fun c s =>
      let t := s.targetSlot
      match s.storeStaged ok with
      | (some 0, s) => s.unstage.activateSet via c.first t
      | r => r))

/-- The updatable slot that ACTIVATE takes: the one that the running set did not come from. -/
def State.storedSlot (s : State) : Nat :=
  let run := (s.cob.run.map (fun r => r.slot)).getD 3
  if run = 0 then 1 else if run = 1 then 0 else if s.seqOf 0 < s.seqOf 1 then 1 else 0

/-- FW_COMMIT ACTIVATE: a set stored earlier becomes the running set. -/
def execActivate (via : CommitVia) (s : State) : Host.Outcome State Fault Refusal :=
  match s.activating via with
  | some a => .next (s.activateStep a)
  | none => .next (s.commitRun via (· == 2) (fun c s => s.unstage.activateSet via c.first s.storedSlot))

/-! ### Security versions (R399) -/

/-- SVN_COMMIT. -/
def execSvnCommit (via : MboxVia) (s : State) : Host.Outcome State Fault Refusal :=
  .next (s.mboxRun via (· == 4) (fun _ s =>
    match s.cob.run with
    | none => (some (mdNotCommittable, []), s)
    | some r =>
      if 2 ≤ r.slot then (some (mdNotCommittable, []), s)
      else if s.flag F.COBBLER_BOOT_STATUS.DEBUG_OPENED then (some (mdDebugOpen, []), s)
      else if r.svn ≤ s.rd F.COBBLER_SVN.MIN_SVN then (some (mdSvn, []), s)
      else match s.journalTry [⟨jMinSvn, 0, toLE 4 r.svn⟩] with
        | (false, s) => (none, s)
        | (true, s) =>
          let s := if r.flags.testBit 0 then
              s.setCob { s.cob with revoked := (List.range 4).filter (fun k => s.cob.revoked.contains k || decide (k < r.key)) }
            else s
          (some (0, []), s.event cobblerEvq (7 <<< 59 ||| r.svn))))

/-! ### Debug access (R413, R414) -/

def State.debugNonce (s : State) : Option Bytes := s.cob.nonce.map (fun k => sliceB (Config.challengeNonce k) 0 32)

/-- DEBUG_CHALLENGE: a fresh nonce and the device ID, unless eight tokens have failed. -/
def execDebugChallenge (via : MboxVia) (s : State) : Host.Outcome State Fault Refusal :=
  .next (s.mboxRun via (· == 6) (fun _ s =>
    if 8 ≤ s.cob.tokenFails then (some (mdLockout, []), s)
    else
      let s := (s.setCob { s.cob with nonce := some s.freeCtr }).tookFree
      (some (0, s.debugNonce.getD [] ++ sliceB Config.deviceId 0 16), s)))

/-- R413: a token opens debug access. -/
def State.tokenGood (s : State) (t : Bytes) : Bool :=
  let body := sliceB t 0 0x40
  match s.debugNonce with
  | none => false
  | some n =>
    leAt t 0 4 == 0x54444A48 && leAt t 4 4 == 1 && sliceB t 8 16 == sliceB Config.deviceId 0 16 && sliceB t 0x18 32 == n &&
    zeroAt t 0x38 8 && sha384 (sliceB t 0xA0 97) == Config.debugKeyHash.1 && sha384 (sliceB t 0x1330 2592) == Config.debugKeyHash.2 &&
    Config.ecdsaVerify (sliceB t 0xA0 97) body (sliceB t 0x40 96) && Config.mldsaVerify (sliceB t 0x1330 2592) body (sliceB t 0x110 4627)

/-- R414: keys and sessions are zeroized; every IDE stream leaves ACTIVE. -/
def State.debugZeroize (s : State) : State :=
  let s := s.cipherZeroize
  let s := (List.range 64).foldl (fun s k => s.wr (F.HOSTLINK_IDE.ACTIVE k) 0) s
  let s := s.setHost { s.host with ideKeys := [] }
  s.setCob { s.cob with mgmt := { s.cob.mgmt with sessions := [] } }

/-- DEBUG_UNLOCK: a good token opens debug access; either way the nonce is used up. -/
def execDebugUnlock (via : MboxVia) (s : State) : Host.Outcome State Fault Refusal :=
  .next (s.mboxRun via (· == 7) (fun c s =>
    if s.tokenGood c.data then
      let s := s.debugZeroize
      let s := s.setCob { s.cob with nonce := none, debugOpen := true }
      let s := (s.wr F.COBBLER_BOOT_STATUS.DEBUG_OPENED 1).event cobblerEvq (5 <<< 59)
      let s := s.hwDomain 62 true
      (some (0, []), s)
    else
      let s := s.setCob { s.cob with nonce := none, tokenFails := s.cob.tokenFails + 1 }
      (some (mdToken, []), s.count F.COBBLER_STAT.DEBUG_FAIL.CNT 1)))

/-! ### The operator's records (R402, R415) -/

def execNvRead (via : MboxVia) (s : State) : Host.Outcome State Fault Refusal :=
  .next (s.mboxRun via (· == 8) (fun c s =>
    let k := leAt c.args 0 2
    if 255 < k then (some (mdBadParam, []), s) else (some (0, (governs s.journalRecs jConfig k).take 4096), s)))

def execNvWrite (via : MboxVia) (s : State) : Host.Outcome State Fault Refusal :=
  .next (s.mboxRun via (· == 9) (fun c s =>
    let k := leAt c.args 0 2
    let n := leAt c.args 4 4
    if 255 < k ∨ n = 0 ∨ 4096 < n ∨ c.data.length < n then (some (mdBadParam, []), s)
    else match s.journalTry [⟨jConfig, k, c.data.take n⟩] with
      | (true, s) => (some (0, []), s)
      | (false, s) => (none, s)))

/-! ### Recovery (R396) -/

/-- The set received in ROM recovery is checked and, if its manifest is valid, boots as a slot does. -/
def State.recoveryStart (s : State) : Nat × State :=
  let m := s.devRead s.bootStore chunkSize
  match s.checkManifest m with
  | .error d => (d, s.recordFail 3 d)
  | .ok k => (0, s.setCob { s.cob with boot := { s.cob.boot with stage := .streaming 0, slot := 3, manifest := m, key := k } })

def execRecoveryBoot (via : MboxVia) (s : State) : Host.Outcome State Fault Refusal :=
  .next (s.mboxRun via (· == 10) (fun _ s =>
    if s.inRecovery = false then (some (mdNotRecovery, []), s)
    else
      let (d, s) := s.recoveryStart
      (some (d, []), s)))

/-! ### STORAGE_ASSIGN (R398) -/

/-- The named spindles have ended their role changes. -/
def State.assignEnded (s : State) (a : Assign) : Bool := (spinsOf a.mule a.spindles).all (fun sp => !s.flag (F.MULE_ROLE.REQ (muleOf sp) (logOf sp)))

/-- R398: the running set's STORAGE image enters the standby banks and the role changes are requested; the status and detail of a
refusal, or none. -/
def State.assignStart (s : State) (via : MboxVia) (boot : Bool) (m sps : Nat) : Option (Nat × Nat) × State :=
  let l := spinsOf m sps
  let img := (s.cob.run.map (fun r => r.storage)).getD []
  if 48 ≤ m then (some (stRange, mdBadParam), s)
  else if s.cob.assign.isSome then (some (stRange, mdBusy), s)
  else if s.swapBlocked l ∨ l.any (fun sp => s.flag (F.MULE_ROLE.REQ m (logOf sp))) then (some (stAccessDenied, 0x40), s)
  else match s.loadImage l img with
    | ((0, _), s) =>
      let s := l.foldl (fun s sp => s.roleRequest sp 1 true) s
      (none, s.setCob { s.cob with assign := some ⟨via, boot, m, sps⟩ })
    | (r, _) => (some r, s)

/-- R398: the outcome once every role change has ended. -/
def State.assignEnd (s : State) (a : Assign) : (Nat × Nat) × State :=
  let ok := (spinsOf a.mule a.spindles).all (fun sp => s.role sp == 1)
  (if ok then (0, 0) else (mdStatus mdActivate, mdActivate), s.setCob { s.cob with assign := none })

/-! ### Lockstep (R383) -/

/-- A mismatch of the two cores: the Cobbler restarts from its own copy of its firmware. -/
def execLockstep (s : State) : Host.Outcome State Fault Refusal :=
  let s := (s.count F.COBBLER_STAT.LOCKSTEP.CNT 1).event cobblerEvq (3 <<< 59)
  let s := match s.cob.run with
    | some r => s.startCobbler r
    | none => s
  let s := match s.cob.assign with
    | some a => if a.boot then s else (s.setCob { s.cob with assign := none }).mboxReply a.via mdRestart []
    | none => s
  let s := match s.cob.act with
    | some ⟨.mbox v, _, _, _, _, _, _⟩ =>
      ((s.setCob { s.cob with act := none }).wr F.WELT_ACT.PAUSED 0).mboxReply v mdRestart []
    | _ => s
  let s := if s.flag F.COBBLER_MBOX_CMD.BUSY then s.mboxReply .csr mdRestart [] else s
  .next ((s.setCob { s.cob with mgmt := { s.cob.mgmt with sessions := [] } }).report 7 0)

end Sys2Proof.Machine
end

