-- ==== Sys2Proof/Machine/Mgmt.lean ====
section
/-! DEFINITION. The management endpoints: MCTP, PLDM monitoring and firmware update, SPDM, DOE and IDE_KM (R319, R320, R408
to R412). The messages are modelled by what they ask and what is answered; their wire formats are those of the standards the
rules name. -/

namespace Sys2Proof.Machine

open Sys2Proof

def State.setMgmt (s : State) (m : Mgmt) : State := s.setCob { s.cob with mgmt := m }

/-- R391, R396: a binding (0 SMBus, 1 PCIe VDM) answers every message type, or, in ROM recovery, MCTP control and firmware
update on SMBus alone. -/
def State.mctpAnswers (s : State) (b : Nat) (recovery : Bool) : Bool :=
  decide (b < 2) && (s.locked || (recovery && s.inRecovery && b == 0))

/-- An answer of the Cobbler on a binding. -/
def State.mctpSend (s : State) (b type : Nat) (bs : Bytes) : State := s.emit (.mctp b type bs)

/-- An answer is given where the binding answers. -/
def State.answering (s : State) (b : Nat) (recovery : Bool) (k : State → State) : Host.Outcome State Fault Refusal :=
  if s.mctpAnswers b recovery then .next (k s) else .next s

/-! ### MCTP (R408) -/

/-- Message types accepted. -/
def mctpTypes : List Nat := [0x00, 0x01, 0x05, 0x06, 0x7E]

def State.eidOf (s : State) (b : Nat) : Nat := AMap.getD s.cob.mgmt.eid b 0

/-- Set Endpoint ID (1), Get Endpoint ID (2), Get Endpoint UUID (3), Get MCTP Version Support (4), Get Message Type Support (5)
and Get Vendor Defined Message Support (6); any other control command is answered as unsupported. -/
def execMctpControl (b cmd eid : Nat) (s : State) : Host.Outcome State Fault Refusal :=
  s.answering b true (fun s =>
    if cmd = 1 then
      let s := s.setMgmt { s.cob.mgmt with eid := AMap.set s.cob.mgmt.eid b (eid % 256) }
      s.mctpSend b 0 (toLE 1 0 ++ toLE 1 (eid % 256))
    else if cmd = 2 then s.mctpSend b 0 (toLE 1 0 ++ toLE 1 (s.eidOf b))
    else if cmd = 3 then s.mctpSend b 0 (toLE 1 0 ++ sliceB Config.endpointUuid 0 16)
    else if cmd = 4 then s.mctpSend b 0 (toLE 1 0 ++ toLE 1 1 ++ toBE 4 0xF1F3FF00)
    else if cmd = 5 then s.mctpSend b 0 (toLE 1 0 ++ toLE 1 mctpTypes.length ++ mctpTypes.flatMap (fun t => toLE 1 t))
    else if cmd = 6 then s.mctpSend b 0 (toLE 1 0 ++ toLE 1 0xFF ++ toLE 1 0 ++ toBE 2 (s.cfgRead 0 .vendorId))
    else s.mctpSend b 0 (toLE 1 5))

/-- R408: a message of another type is discarded and counted. -/
def execMctpUnsupportedMessage (b type : Nat) (s : State) : Host.Outcome State Fault Refusal :=
  if s.mctpAnswers b true ∧ mctpTypes.contains type = false then .next (s.count F.COBBLER_STAT.MCTP_DISCARD.CNT 1) else .next s

/-! ### PLDM for monitoring (R409) -/

def pldm (cc : Nat) (bs : Bytes) : Bytes := toLE 1 cc ++ bs

def numericSensor (n : Nat) : Bool := decide (1 ≤ n) && decide (n ≤ 71)
def stateSensor (n : Nat) : Bool := decide (100 ≤ n) && decide (n ≤ 132)

/-- A signed 11-bit reading in 0.25 °C, as quarters of a degree. -/
def signed11 (v : Nat) : Int := if v < 1024 then Int.ofNat v else Int.ofNat v - 2048

/-- The reading of a numeric sensor: °C, W or mV. -/
def State.sensorReading (s : State) (n : Nat) : Int :=
  if n ≤ 64 then signed11 (s.rd (F.POWER_TEMP.TEMP (n - 1))) / 4
  else if n = 65 then Int.ofNat (s.rd F.POWER_PKG.WATTS / 8)
  else Int.ofNat (s.rd (F.POWER_RAIL.MV (n - 66)))

/-- The state of a state sensor: an Ethernet lane's link (1 down, 2 up), an Eyelet slot's state, or the half state. -/
def State.stateReading (s : State) (n : Nat) : Nat :=
  if n < 116 then
    let lane := n - 100
    let p := lane / lanesOf (s.ethMode (lane / 8)) * lanesOf (s.ethMode (lane / 8))
    if s.linkUp p ∧ (s.rd (F.ETH_PORT_STATUS.LANES p)).testBit (lane % 8) then 2 else 1
  else if n < 132 then s.slot (n - 116)
  else if s.fencedB then 2 else 1

/-- The PDR repository's record of a sensor: the next record's handle, the sensor, and the upper thresholds of a thermal one. -/
def pdrRecord (n : Nat) : Bytes :=
  let next := if n = 71 then 100 else if n = 132 then 0 else n + 1
  toLE 4 next ++ toLE 4 n ++ toLE 1 (if n ≤ 71 then 2 else 4) ++
    (if n ≤ 64 then toLE 1 95 ++ toLE 1 100 ++ toLE 1 105 else [])

def execGetpdr (b handle : Nat) (s : State) : Host.Outcome State Fault Refusal :=
  s.answering b false (fun s =>
    let h := if handle = 0 then 1 else handle
    if numericSensor h || stateSensor h then s.mctpSend b 1 (pldm 0 (pdrRecord h)) else s.mctpSend b 1 (pldm 0x82 []))

def execGetsensorreading (b n : Nat) (s : State) : Host.Outcome State Fault Refusal :=
  s.answering b false (fun s =>
    if numericSensor n = false then s.mctpSend b 1 (pldm 0x80 [])
    else if s.cob.mgmt.disabled.contains n then s.mctpSend b 1 (pldm 0 (toLE 1 1))
    else s.mctpSend b 1 (pldm 0 (toLE 1 0 ++ toLE 4 ((s.sensorReading n).emod (2 ^ 32)).toNat)))

def execGetstatesensorreadings (b n : Nat) (s : State) : Host.Outcome State Fault Refusal :=
  s.answering b false (fun s =>
    if stateSensor n = false then s.mctpSend b 1 (pldm 0x80 []) else s.mctpSend b 1 (pldm 0 (toLE 1 (s.stateReading n))))

def execSetnumericsensorenable (b n : Nat) (en : Bool) (s : State) : Host.Outcome State Fault Refusal :=
  s.answering b false (fun s =>
    if numericSensor n = false then s.mctpSend b 1 (pldm 0x80 [])
    else
      let l := s.cob.mgmt.disabled.filter (· != n)
      (s.setMgmt { s.cob.mgmt with disabled := if en then l else n :: l }).mctpSend b 1 (pldm 0 []))

def execSeteventreceiver (b eid : Nat) (s : State) : Host.Outcome State Fault Refusal :=
  s.answering b false (fun s => (s.setMgmt { s.cob.mgmt with receiver := some (256 * b + eid % 256) }).mctpSend b 1 (pldm 0 []))

/-- The threshold state of a thermal reading in °C: 0 normal, 1 warning, 2 critical, 3 fatal. -/
def tempLevel (t : Int) : Nat := if 105 ≤ t then 3 else if 100 ≤ t then 2 else if 95 ≤ t then 1 else 0

/-- R409: a threshold crossing of a thermal sensor is sent to the event receiver. -/
def State.sensorEvent (s : State) (n : Nat) : State :=
  let l := tempLevel (s.sensorReading n)
  if l = AMap.getD s.cob.mgmt.level n 0 then s
  else
    let old := AMap.getD s.cob.mgmt.level n 0
    let s := s.setMgmt { s.cob.mgmt with level := AMap.setD 0 s.cob.mgmt.level n l }
    match s.cob.mgmt.receiver with
    | some r =>
      if s.locked = false ∨ s.cob.mgmt.disabled.contains n then s
      else s.mctpSend (r / 256) 1 (toLE 1 (r % 256) ++ toLE 2 n ++ toLE 1 old ++ toLE 1 l)
    | none => s

/-! ### PLDM for firmware update (R410) -/

/-- RequestUpdate: takes the staging area for a set of a size. -/
def execRequestupdate (b size : Nat) (s : State) : Host.Outcome State Fault Refusal :=
  s.answering b true (fun s =>
    if s.cob.mgmt.upd ≠ .idle then s.mctpSend b 1 (pldm 0x81 [])
    else if s.inRecovery = false ∧ s.mayStage .pldm = false then s.mctpSend b 1 (pldm 0x8A [])
    else if size = 0 ∨ setMax < size then s.mctpSend b 1 (pldm 0x02 [])
    else
      let s := if s.inRecovery then s else s.setCob { s.cob with holder := some .pldm }
      (s.setMgmt { s.cob.mgmt with upd := .download size 0 }).mctpSend b 1 (pldm 0 (toLE 4 4096)))

/-- The set has been pulled: it is checked (VerifyComplete) and, outside recovery, written into a slot (ApplyComplete). -/
def State.pldmApply (s : State) (b : Nat) (ok : Bool) : State :=
  let t := s.targetSlot
  if s.cob.act.isSome then s
  else if s.inRecovery then
    match s.checkSet (s.storeSetBytes (s.devRead s.bootStore chunkSize)) with
    | .error d => (s.setMgmt { s.cob.mgmt with upd := .idle }).mctpSend b 1 (pldm d [])
    | .ok _ => (s.setMgmt { s.cob.mgmt with upd := .applied 3 }).mctpSend b 1 (pldm 0 [])
  else
    match s.storeStaged ok with
    | (some 0, s) => ((s.unstage.setMgmt { s.cob.mgmt with upd := .applied t }).mctpSend b 1 (pldm 0 [])).mctpSend b 1 (pldm 0 [])
    | (some d, s) => (s.unstage.setMgmt { s.cob.mgmt with upd := .idle }).mctpSend b 1 (pldm d [])
    | (none, s) => s

/-- RequestFirmwareData: the next 4,096 bytes of the set arrive; with the last, the set is verified and applied. -/
def execRequestfirmwaredata (b : Nat) (data : List Byte) (ok : Bool) (s : State) : Host.Outcome State Fault Refusal :=
  s.answering b true (fun s =>
    match s.cob.mgmt.upd with
    | .download size next =>
      let d := data.take (min 4096 (size - next))
      let s := if s.inRecovery then s.devWrite (s.bootStore + next) d else s.stage .pldm next d
      let s := s.setMgmt { s.cob.mgmt with upd := .download size (next + d.length) }
      if next + d.length < size then s else s.pldmApply b ok
    | _ => s)

/-- ActivateFirmware: self-contained activation performs R407; otherwise the set boots at the next POWER reset. In ROM recovery
the received set boots (R396). -/
def execActivatefirmware (b : Nat) (self : Bool) (s : State) : Host.Outcome State Fault Refusal :=
  s.answering b true (fun s =>
    match s.cob.mgmt.upd with
    | .applied slot =>
      let s := s.setMgmt { s.cob.mgmt with upd := .idle }
      if s.inRecovery then
        let (d, s) := s.recoveryStart
        s.mctpSend b 1 (pldm d [])
      else if self = false then s.mctpSend b 1 (pldm 0 [])
      else if s.mayStage .pldm = false then s.mctpSend b 1 (pldm mdBusy [])
      else match s.activateSet (.pldm b) 0 slot with
        | (some d, s) => s.mctpSend b 1 (pldm d [])
        | (none, s) => s
    | _ => s.mctpSend b 1 (pldm 0x80 []))

/-- GetStatus: 0 idle, 3 download, 6 activate. -/
def execGetstatus (b : Nat) (s : State) : Host.Outcome State Fault Refusal :=
  s.answering b true (fun s =>
    let st := match s.cob.mgmt.upd with | .idle => 0 | .download _ _ => 3 | .applied _ => 6
    s.mctpSend b 1 (pldm 0 (toLE 1 st)))

/-- CancelUpdateComponent: the transfer of the component is given up; the staging area stays held. -/
def execCancelupdatecomponent (b : Nat) (s : State) : Host.Outcome State Fault Refusal :=
  s.answering b true (fun s =>
    match s.cob.mgmt.upd with
    | .download size _ =>
      let s := if s.inRecovery then s else s.setCob { s.cob with staging := [] }
      (s.setMgmt { s.cob.mgmt with upd := .download size 0 }).mctpSend b 1 (pldm 0 [])
    | _ => s.mctpSend b 1 (pldm 0x80 []))

/-- CancelUpdate: the update ends and the staging area is free. -/
def execCancelupdate (b : Nat) (s : State) : Host.Outcome State Fault Refusal :=
  s.answering b true (fun s =>
    if s.cob.mgmt.upd = .idle then s.mctpSend b 1 (pldm 0x80 [])
    else ((s.releaseStaging .pldm).setMgmt { s.cob.mgmt with upd := .idle }).mctpSend b 1 (pldm 0 []))

def execQuerydeviceidentifiers (b : Nat) (s : State) : Host.Outcome State Fault Refusal :=
  s.answering b true (fun s => s.mctpSend b 1 (pldm 0 (toLE 2 (s.cfgRead 0 .vendorId) ++ toLE 2 (s.cfgRead 0 .deviceId))))

/-- BUILD_ID and SVN of the set in a slot. -/
def State.slotParams (s : State) (slot : Nat) : Bytes :=
  let m := flashRead s.flash (slotBase slot) 64
  mfBuild m ++ toLE 4 (mfSvn m)

def execGetfirmwareparameters (b : Nat) (s : State) : Host.Outcome State Fault Refusal :=
  s.answering b true (fun s =>
    let run := match s.cob.run with | some r => sliceB r.buildId 0 16 ++ toLE 4 r.svn | none => []
    s.mctpSend b 1 (pldm 0 (run ++ s.slotParams 0 ++ s.slotParams 1)))

/-! ### SPDM (R411) -/

/-- An answer on the path of a request: the DOE instance of a PF, or 4 + an MCTP binding. -/
def State.spdmSend (s : State) (path : Nat) (bs : Bytes) : State :=
  if path < 4 then s.emit (.doe path bs) else s.mctpSend (path - 4) 5 bs

def State.spdmAnswers (s : State) (path : Nat) : Bool := s.locked && decide (path < 6)

def spdmError (code : Nat) : Bytes := toLE 1 0x7F ++ toLE 1 code

/-- Measurement 6: the security state. -/
def State.securityState (s : State) : Bytes :=
  let k := (s.cob.run.map (fun r => r.key)).getD 0
  toLE 4 (s.rd F.COBBLER_BOOT_STATUS.SVN) ++ toLE 4 (s.rd F.COBBLER_SVN.MIN_SVN) ++ toLE 1 k ++
    toLE 1 (s.rd F.COBBLER_BOOT_STATUS.SLOT) ++ toLE 1 (s.rd F.COBBLER_BOOT_STATUS.RECOVERY) ++
    toLE 1 (s.rd F.COBBLER_BOOT_STATUS.JOURNAL_LOST) ++ toLE 1 (s.rd F.COBBLER_BOOT_STATUS.DEBUG_OPENED)

def State.measurement (s : State) (i : Nat) : Bytes :=
  match s.cob.run with
  | none => []
  | some r =>
    if i = 1 then Config.romDigest
    else if i = 2 then sha384 r.cobbler
    else if i = 3 then sha384 r.body
    else if i = 4 then sha384 r.storage
    else if i = 5 then sha384 r.config
    else if i = 6 then s.securityState
    else []

/-- The certificate chain of slot 0. -/
def State.certs (s : State) : Bytes := Config.certChain (s.flag F.COBBLER_BOOT_STATUS.DEBUG_OPENED) (s.measurement 2)

/-- A fresh signature of the alias key. -/
def State.signed (s : State) : Bytes × State := (sliceB (Config.spdmSignature s.freeCtr) 0 96, s.tookFree)

/-- GET_MEASUREMENTS: 0 asks for their number, 255 for all of them, and an index for one; the answer is signed. -/
def State.spdmMeasure (s : State) (path i : Nat) : State :=
  if i = 0 then s.spdmSend path (toLE 1 0x60 ++ toLE 1 6)
  else if i ≠ 255 ∧ 6 < i then s.spdmSend path (spdmError 1)
  else
    let ms := if i = 255 then [1, 2, 3, 4, 5, 6] else [i]
    let body := ms.flatMap (fun k => toLE 1 k ++ toLE 2 (s.measurement k).length ++ s.measurement k)
    let (g, s) := s.signed
    s.spdmSend path (toLE 1 0x60 ++ toLE 1 ms.length ++ body ++ g)

/-- R411: a request other than KEY_EXCHANGE: its code, the session it runs in, its parameter (a slot, or a measurement), and
the offset and length of a certificate read. -/
def execSpdmRequest (path code session param off len : Nat) (s : State) : Host.Outcome State Fault Refusal :=
  if s.spdmAnswers path = false then .next s
  else
    let inSession := s.cob.mgmt.sessions.contains (session, path)
    .next (
      if code = 0x84 then s.spdmSend path (toLE 1 0x04 ++ toLE 1 0x12 ++ toLE 1 0x13)
      else if code = 0xE1 then s.spdmSend path (toLE 1 0x61)
      else if code = 0xE3 then s.spdmSend path (toLE 1 0x63)
      else if code = 0x81 then s.spdmSend path (toLE 1 0x01 ++ toLE 1 1 ++ sha384 s.certs)
      else if code = 0x82 then
        (if param ≠ 0 then s.spdmSend path (spdmError 1) else s.spdmSend path (toLE 1 0x02 ++ toLE 1 0 ++ (s.certs.drop off).take len))
      else if code = 0x83 then
        (if param ≠ 0 then s.spdmSend path (spdmError 1)
         else
           let (g, s) := s.signed
           s.spdmSend path (toLE 1 0x03 ++ toLE 1 0 ++ sha384 s.certs ++ g))
      else if code = 0xE0 then s.spdmMeasure path param
      else if code = 0x85 ∨ code = 0x86 then s.spdmSend path (toLE 1 (code % 128))
      else if code = 0xE5 ∨ code = 0xE8 ∨ code = 0xE9 then
        s.spdmSend path (if inSession then toLE 1 (code % 128) else spdmError 0x0B)
      else if code = 0xEC then
        (if inSession then
          (s.setMgmt { s.cob.mgmt with sessions := s.cob.mgmt.sessions.filter (· != (session, path)) }).spdmSend path (toLE 1 0x6C)
         else s.spdmSend path (spdmError 0x0B))
      else s.spdmSend path (spdmError 7))

/-- R411: KEY_EXCHANGE opens a secured session; a ninth is answered Busy. -/
def execKeyExchange (path : Nat) (s : State) : Host.Outcome State Fault Refusal :=
  if s.spdmAnswers path = false then .next s
  else if 8 ≤ s.cob.mgmt.sessions.length then .next (s.spdmSend path (spdmError 3))
  else
    let n := s.cob.mgmt.nextSession
    let s := s.setMgmt { s.cob.mgmt with sessions := s.cob.mgmt.sessions ++ [(n, path)], nextSession := n + 1 }
    let (g, s) := s.signed
    .next (s.spdmSend path (toLE 1 0x64 ++ toLE 2 n ++ g))

/-- R412: the plaintext of a SEAL session (Table 5.5). -/
def sealPlain (tenant soft hard : Nat) (key : Bytes) : Bytes :=
  let p := List.replicate 224 0#8
  let p := putB p 0 (toLE 1 10 ++ toLE 1 (if key.length = 32 then 1 else 0) ++ toLE 2 tenant)
  let p := putB p 0x20 (key.take 32)
  putB p 0x68 (toLE 8 soft ++ toLE 8 hard)

/-- R412: a tenant's sealing key, inside a secured session: installed as a session of kind SEAL and answered with the shared
status. -/
def execSealingKeyMessage (path session index tenant soft hard : Nat) (key : List Byte) (s : State) :
    Host.Outcome State Fault Refusal :=
  if s.spdmAnswers path = false ∨ s.cob.mgmt.sessions.contains (session, path) = false then .next s
  else
    let o : SessOp := { id := s.cipher.nextId, msg := none, cobbler := true, op := 1, index := index,
                        data := sealPlain tenant soft hard key }
    let answer (s : State) (r : Nat × Nat) : State := s.spdmSend path (toLE 1 r.1 ++ toLE 1 r.2)
    if key.length ≠ 16 ∧ key.length ≠ 32 then .next (answer s (stMalformed, cdFormat))
    else match s.sessOpFault o with
      | some f => .next (answer s f)
      | none =>
        if s.sessWaits o then .next s
        else match s.sessApply o with
          | some (r, s) => .next (answer s r)
          | none => .next s

/-! ### DOE and IDE_KM (R319, R320) -/

/-- A DOE message of a PF: Discovery (type 0) is answered here, with the object at an index; CMA/SPDM and secured CMA/SPDM
(types 1 and 2) carry the SPDM requests; any other is not answered. -/
def execDoeMessage (pf type index : Nat) (s : State) : Host.Outcome State Fault Refusal :=
  if s.locked = false ∨ 4 ≤ pf ∨ type ≠ 0 then .next s
  else
    let n := min index 2
    .next (s.emit (.doe pf (toLE 2 1 ++ toLE 1 n ++ toLE 1 (if n = 2 then 0 else n + 1))))

/-- R320: a stream may become ACTIVE: its range holds no function of another tenant and no other ACTIVE stream. -/
def State.ideMayGo (s : State) (k : Nat) : Bool :=
  let lo := s.rd (F.HOSTLINK_IDE.FIRST_FUNC k)
  let hi := s.rd (F.HOSTLINK_IDE.LAST_FUNC k)
  (List.range (hi + 1 - lo)).all (fun i => s.funcTenant (lo + i) == s.rd (F.HOSTLINK_IDE.TENANT k)) &&
  (List.range 64).all (fun j => j == k || !s.flag (F.HOSTLINK_IDE.ACTIVE j) ||
    decide (hi < s.rd (F.HOSTLINK_IDE.FIRST_FUNC j)) || decide (s.rd (F.HOSTLINK_IDE.LAST_FUNC j) < lo))

/-- R319, R320, R412: IDE_KM in a secured session on PF0's DOE: KEY_PROG (2), K_SET_GO (4) and K_SET_STOP (5) of a stream,
whose Stream ID is its number (PRESUMED, log entry 41). -/
def execIdeKm (session stream op : Nat) (key : List Byte) (s : State) : Host.Outcome State Fault Refusal :=
  if s.locked = false ∨ s.cob.mgmt.sessions.contains (session, 0) = false then .next s
  else if 64 ≤ stream then .next (s.emit (.doe 0 (toLE 1 op ++ toLE 1 1)))
  else if op = 2 then
    .next (((s.wr (F.HOSTLINK_IDE.STREAM_ID stream) stream).setHost { s.host with ideKeys := AMap.set s.host.ideKeys stream (key.take 32) }).emit (.doe 0 (toLE 1 3 ++ toLE 1 0)))
  else if op = 4 then
    if (AMap.get? s.host.ideKeys stream).isSome ∧ s.ideMayGo stream then
      .next ((s.wr (F.HOSTLINK_IDE.ACTIVE stream) 1).emit (.doe 0 (toLE 1 6 ++ toLE 1 0)))
    else .next (s.emit (.doe 0 (toLE 1 6 ++ toLE 1 1)))
  else if op = 5 then .next ((s.wr (F.HOSTLINK_IDE.ACTIVE stream) 0).emit (.doe 0 (toLE 1 6 ++ toLE 1 0)))
  else .next s

/-- R320: a TLP for a function of an ACTIVE stream that does not arrive in it, or fails its check, is dropped and reported as
IDE Check Failed; the stream becomes insecure. -/
def execIdeCheckFailed (f : Nat) (s : State) : Host.Outcome State Fault Refusal :=
  match s.ideOf f with
  | none => .next s
  | some k => .next ((s.modCfg f (fun c => { c with aerIde := true })).wr (F.HOSTLINK_IDE.ACTIVE k) 0)

end Sys2Proof.Machine
end

