-- ==== Sys2Proof/Machine/Seam.lean ====
section
/-! DEFINITION. The seam and its witness, the partition and fencing of Half B and its rejoin (R417 to R429). -/

namespace Sys2Proof.Machine

open Sys2Proof

/-! ### Lanes and width (R418, R431) -/

def smJoined : Nat := 0
def smDown : Nat := 1
def smPartitioned : Nat := 2
def smFenced : Nat := 3
def smRejoining : Nat := 4

def State.seamState (s : State) : Nat := s.rd F.SEAM_STATUS.STATE
def State.setSeam (s : State) (m : Seam) : State := { s with seam := m }

def retiredF (dir : Nat) : FRef := if dir = 0 then F.SEAM_LANES.RETIRED_AB else F.SEAM_LANES.RETIRED_BA
def widthF (dir : Nat) : FRef := if dir = 0 then F.SEAM_STATUS.WIDTH_AB else F.SEAM_STATUS.WIDTH_BA

/-- Good lanes of a direction, its spares counted. -/
def State.goodLanes (s : State) (dir : Nat) : Nat :=
  18 - ((List.range 18).filter (fun l => (s.rd (retiredF dir)).testBit l)).length

/-- R418: lanes a direction runs on. -/
def State.seamWidth (s : State) (dir : Nat) : Nat :=
  let g := s.goodLanes dir
  if 16 ≤ g then 16 else if 8 ≤ g then 8 else 0

/-- A retrain restores a direction: at full width, at 8 lanes, or not at all. -/
def State.restoreDir (s : State) (dir : Nat) : State :=
  let w := s.seamWidth dir
  let was := s.rd (widthF dir)
  let s := s.wr (widthF dir) w
  let s := if dir = 0 then s.setSeam { s.seam with downAB := w == 0 } else s.setSeam { s.seam with downBA := w == 0 }
  if w = 8 ∧ was ≠ 8 then s.faultLog 12 3 (18 * dir) else s

/-- R417: a flit fails its CRC on a lane, is replayed and counted. -/
def execFlitReplay (dir lane : Nat) (s : State) : Host.Outcome State Fault Refusal :=
  if dir < 2 ∧ lane < 18 then .next ((s.count F.SEAM_STAT.REPLAYS.CNT 1).report 3 (18 * dir + lane)) else .next s

/-- R23: Half B's generator no longer runs freely. -/
def State.stopFree (s : State) : State := { s with lace := { s.lace with bFree := none } }

/-- R23, R135: the seam is down: Half B's stitch and its time run on by themselves from where they are (DESIGN CHOICE, log entry
137). -/
def State.runFree (s : State) : State :=
  if s.lace.bFree.isSome ∨ s.seam.fenced then s
  else
    let s := s.setPtp { s.net.ptp with halfB := some (s.ptpNow 1, 0) }
    { s with lace := { s.lace with bFree := some { since := s.clk.cycles, count := s.stitch, phase := s.rd F.STITCH_POS.CYCLE,
                                                   len := s.stitchLen, turn := s.turnNoOf 0 } } }

/-- R23, R135: the seam carries traffic again: Half B follows Half A's stitch and reads its time at once (DESIGN CHOICE, log entry
137). -/
def State.follow (s : State) : State :=
  (s.setPtp { s.net.ptp with halfB := none }).stopFree

/-- R418, R419: a direction stops carrying traffic. -/
def State.seamDown (s : State) (dir : Nat) : State :=
  let s := s.runFree.wr (widthF dir) 0
  let s := if dir = 0 then s.setSeam { s.seam with downAB := true } else s.setSeam { s.seam with downBA := true }
  if s.seamState = smJoined then (s.wr F.SEAM_STATUS.STATE smDown).setSeam { s.seam with downAt := some s.clk.cycles }
  else if s.seamState = smRejoining then
    (s.wr F.SEAM_STATUS.TRAINED 0).setSeam { s.seam with downAt := (match s.seam.downAt with | some c => some c | none => some s.clk.cycles) }
  else s.wr F.SEAM_STATUS.TRAINED 0

def execSeamDown (dir : Nat) (s : State) : Host.Outcome State Fault Refusal := if dir < 2 then .next (s.seamDown dir) else .next s

/-- Spare lanes brought in by the retrain: each swap is counted and reported. -/
def State.laneSwaps (s : State) : State :=
  let s := s.seam.swapping.foldl (fun s l =>
    let dir := l / 18
    let s := ((s.count F.SEAM_STAT.LANE_SWAPS.CNT 1).count F.FAULT_STAT.SWAPS.CNT 1).faultLog 2 3 l
    let s := s.wr F.FAULT_SPARE.SEAM (s.rd F.FAULT_SPARE.SEAM - 1)
    s.hwDomain (60 + dir) true) s
  s.setSeam { s.seam with swapping := [] }

/-- R418: a retrain of a seam that is down, and not yet lost, ends. -/
def execSeamRetrainDone (ok : Bool) (s : State) : Host.Outcome State Fault Refusal :=
  if s.seamState ≠ smDown ∨ ok = false then .next s
  else
    let s := ((s.count F.SEAM_STAT.RETRAINS.CNT 1).laneSwaps.restoreDir 0).restoreDir 1
    .next (if s.seam.downAB || s.seam.downBA then s
      else (s.follow.wr F.SEAM_STATUS.STATE smJoined).setSeam { s.seam with downAt := none })

/-! ### The witness (R420) -/

def wtHeartbeat : Nat := 1
def wtFence : Nat := 2
def wtFenceAck : Nat := 3
def wtHalfReset : Nat := 4
def wtResetAck : Nat := 5

/-- A half sends a frame. A command frame is under way until it is received. -/
def State.witness (s : State) (half type : Nat) : State :=
  let seq := if half = 0 then s.seam.seqA else s.seam.seqB
  let next := (seq + 1) % 2 ^ 20
  let m := if half = 0 then { s.seam with seqA := next } else { s.seam with seqB := next }
  let m := if type = wtHeartbeat then m else { m with wire := m.wire ++ [(type, half)] }
  (s.setSeam m).emit (.witness half type seq)

/-- A half has received a valid frame. -/
def State.heard (s : State) (half : Nat) : State :=
  if half = 0 then (s.wr F.SEAM_STATUS.WITNESS_ALIVE 1).setSeam { s.seam with heardA := s.stitch }
  else s.setSeam { s.seam with heardB := s.stitch }

/-- A command frame is taken off the witness. -/
def State.takeFrame (s : State) (type from_ : Nat) : State := s.setSeam { s.seam with wire := s.seam.wire.erase (type, from_) }

/-- R420: each half sends a HEARTBEAT every 256 stitches of its own count. -/
def execHeartbeat (half : Nat) (s : State) : Host.Outcome State Fault Refusal :=
  let n := s.stitchOf half
  if 2 ≤ half ∨ n % 256 ≠ 0 ∨ s.boundaryOf half = false then .next s
  else if (if half = 0 then s.seam.beatA else s.seam.beatB) = some n then .next s
  else
    let s := s.witness half wtHeartbeat
    .next (s.setSeam (if half = 0 then { s.seam with beatA := some n } else { s.seam with beatB := some n }))

/-- R420: a half receives a HEARTBEAT or RESET_ACK frame, or one with a bad CRC, which is discarded and counted. The command
frames FENCE, FENCE_ACK and HALF_RESET are received by the steps of their names. -/
def execWitnessFrameReceived (half : Nat) (ack crcOk : Bool) (s : State) : Host.Outcome State Fault Refusal :=
  if 2 ≤ half then .next s
  else if crcOk = false then .next (s.count F.SEAM_STAT.WIT_BAD.CNT 1)
  else .next ((if ack then s.takeFrame wtResetAck (1 - half) else s).heard half)

/-- R420: a half that has received no valid frame for 768 stitches judges the witness silent. -/
def execWitnessSilent (half : Nat) (s : State) : Host.Outcome State Fault Refusal :=
  if half = 0 ∧ s.seam.heardA + 768 ≤ s.stitch then .next (s.wr F.SEAM_STATUS.WITNESS_ALIVE 0) else .next s

/-! ### Seam loss, partition and fence (R419, R421 to R426) -/

/-- R424, R421, R425, R426: both halves declare seam loss. -/
def State.partition (s : State) : State :=
  let s := (s.count F.SEAM_STAT.LOSSES.CNT 1).wr F.SEAM_STATUS.STATE smPartitioned
  let s := s.setSeam { s.seam with
    lossAt := some s.clk.cycles, fenceSeen := false, resetDone := false, retrainAt := s.stitch,
    storage := if s.seam.storage.isEmpty then s.storageSpindles.filter (fun sp => halfOfMule (muleOf sp) == 1) else s.seam.storage }
  let s := s.faultLog 8 3 0
  let s := ((List.range 9).map (fun k => 9 + k)).foldl (fun s i => s.reroute i) s
  let s := s.cipherFence.weltFence.fenceQueues
  if s.flag F.SEAM_STATUS.WITNESS_ALIVE then s.witness 0 wtFence else s

def execSeamLoss (s : State) : Host.Outcome State Fault Refusal :=
  match s.seam.downAt with
  | none => .next s
  | some c =>
    if (s.seamState = smDown ∨ s.seamState = smRejoining) ∧ c + 4 * s.stitchLen < s.clk.cycles then .next s.partition else .next s

/-- R422: Half B receives a FENCE frame. -/
def execFence (s : State) : Host.Outcome State Fault Refusal :=
  if s.seam.wire.contains (wtFence, 0) = false then .next s
  else
    let s := (s.takeFrame wtFence 0).heard 1
    .next (if s.seam.lossAt.isSome then s.setSeam { s.seam with fenceSeen := true } else s)

/-- R423: Half B fences: its ports, links and mules stop. -/
def State.fenceHalf (s : State) : State :=
  let s := s.stopFree.setSeam { s.seam with fenced := true }
  let s := ((List.range 8).map (fun k => 8 + k)).foldl (fun s p => if s.linkUp p then s.portDown p else s) s
  ((List.range 8).map (fun k => 8 + k)).foldl (fun s l => s.trigger l ccFence) s

/-- R422: a fence commanded by Half A is answered. -/
def State.fenceAnswer (s : State) : State :=
  if s.seam.fenceSeen then (s.setSeam { s.seam with fenceSeen := false }).witness 1 wtFenceAck else s

/-- R422, R23: at a boundary of Half B's own stitch after a FENCE frame, or 64 stitches after the declaration. A half that is fenced already answers
the frame. -/
def execHalfFence (s : State) : Host.Outcome State Fault Refusal :=
  match s.seam.lossAt with
  | none => .next s
  | some c =>
    if s.boundaryOf 1 = false ∨ (s.seam.fenceSeen = false ∧ s.clk.cycles < c + 64 * s.stitchLen) then .next s
    else if s.seam.fenced then .next s.fenceAnswer
    else .next s.fenceHalf.fenceAnswer

/-- Half A takes Half B as fenced. -/
def State.declareFenced (s : State) (self : Bool) : State :=
  ((((s.wr F.SEAM_STATUS.STATE smFenced).wr F.SEAM_STATUS.FENCE_MODE (if self then 1 else 0)).count F.SEAM_STAT.FENCES.CNT 1).faultLog 9 3 0)

/-- R424: FENCE_ACK arrives: within 64 stitches of the declaration it records a commanded fence. -/
def execFenceAck (s : State) : Host.Outcome State Fault Refusal :=
  if s.seam.wire.contains (wtFenceAck, 1) = false then .next s
  else
    let s := (s.takeFrame wtFenceAck 1).heard 0
    match s.seam.lossAt with
    | some c => .next (if s.seamState = smPartitioned ∧ s.clk.cycles ≤ c + 64 * s.stitchLen then s.declareFenced false else s)
    | none => .next s

/-- R424: 72 stitches after its declaration Half A treats Half B as fenced. -/
def execFenceTimeout (s : State) : Host.Outcome State Fault Refusal :=
  match s.seam.lossAt with
  | some c => if s.seamState = smPartitioned ∧ c + 72 * s.stitchLen ≤ s.clk.cycles then .next (s.declareFenced true) else .next s
  | none => .next s

/-! ### Rejoin (R428, R429) -/

/-- R428: an attempt to retrain the seam while Half B is away. -/
def State.retrain (s : State) (ok : Bool) : State :=
  let s := s.setSeam { s.seam with retrainAt := s.stitch }
  if ok = false then s
  else
    let s := ((s.count F.SEAM_STAT.RETRAINS.CNT 1).laneSwaps.restoreDir 0).restoreDir 1
    if s.seam.downAB || s.seam.downBA then s
    else
      let s := ((s.follow.setSeam { s.seam with downAt := none }).wr F.SEAM_STATUS.TRAINED 1).faultLog 10 3 0
      if s.flag F.SEAM_CFG.AUTO_REJOIN then s.wr F.SEAM_CMD.REJOIN 1 else s

def State.splitHalf (s : State) : Bool := s.seamState == smPartitioned || s.seamState == smFenced

def execRejoinRetrain (ok : Bool) (s : State) : Host.Outcome State Fault Refusal :=
  if s.splitHalf ∧ s.flag F.SEAM_STATUS.TRAINED = false ∧ s.seam.retrainAt + 1024 ≤ s.stitch then .next (s.retrain ok) else .next s

/-- SEAM_CMD.RETRAIN attempts a retrain at once. -/
def execRetrain (ok : Bool) (s : State) : Host.Outcome State Fault Refusal :=
  if s.flag F.SEAM_CMD.RETRAIN = false then .next s
  else
    let s := s.wr F.SEAM_CMD.RETRAIN 0
    .next (if s.splitHalf && !s.flag F.SEAM_STATUS.TRAINED then s.retrain ok else s)

def State.rejoinRefused (s : State) (cause : Nat) : State :=
  ((s.wr F.SEAM_CMD.REJOIN 0).wr F.SEAM_CMD.REFUSED 1).wr F.SEAM_CMD.CAUSE cause

/-- SEAM_CMD.REJOIN is judged: refused with a cause, or a HALF_RESET frame goes over the witness. -/
def execRejoin (s : State) : Host.Outcome State Fault Refusal :=
  if s.flag F.SEAM_CMD.REJOIN = false ∨ s.seamState = smRejoining then .next s
  else if s.seamState ≠ smFenced then .next (s.rejoinRefused 1)
  else if s.flag F.SEAM_STATUS.TRAINED = false then .next (s.rejoinRefused 2)
  else if s.flag F.SEAM_STATUS.WITNESS_ALIVE = false then .next (s.rejoinRefused 3)
  else .next ((s.wr F.SEAM_STATUS.STATE smRejoining).witness 0 wtHalfReset)

/-- R431: MULE_POS and MULE_ROLE.PHYS of a mule show its retired positions, and its spare where that serves. -/
def State.showMule (s : State) (m : Nat) : State :=
  let s := (List.range 17).foldl (fun s p => if s.isRetired 0 (17 * m + p) then s.wr (F.MULE_POS.STATE m p) 2 else s) s
  match AMap.get? s.flt.spared m with
  | none => s
  | some l =>
    if s.isRetired 0 (17 * m + 16) then s
    else ((s.wr (F.MULE_POS.STATE m 16) 0).wr (F.MULE_POS.LOGICAL m 16) l).wr (F.MULE_ROLE.PHYS m l) 16

def inRange (lo hi a : Nat) : Bool := decide (lo ≤ a) && decide (a < hi)

/-- R63, R70: what is queued in the channels of Half B's threads is discarded as stale, as at a role change, and its senders are
told with the new epochs; the counts of Half B's mules stay at their POWER values (DESIGN CHOICE, log entry 166). -/
def State.staleB (s : State) (ms : List Msg) : State :=
  ms.foldl (fun s m => (s.notify m.src stStaleEpoch m.dst m.tag (s.rd (epochF (spOf (epTid m.dst))))).unitStale m) s

/-- The committed messages that senders outside Half B's threads have queued in the channels of Half B's threads. -/
def State.queuedB (s : State) : List Msg :=
  (s.yarn.queues.filter (fun e => !epIsUnit e.1 && epHalf e.1 == 1)).flatMap (fun e =>
    e.2.filter (fun m => m.committed && (epIsUnit m.src || epHalf m.src == 0)))

/-- R63, R86: mules 24 to 47 return to their POWER values, each spindle in role SPARE with its epoch advanced by one. -/
def State.resetMulesB (s : State) : State :=
  let ms := s.queuedB
  let eps := (List.range 384).map (fun k => (384 + k, s.rd (epochF (384 + k))))
  let m := s.mules
  let s := { s with
    csr := s.csr.filter (fun e => !inRange (0x200000 + 24 * 0x10000) (0x200000 + 48 * 0x10000) e.1)
    mules := { m with threads := m.threads.filter (fun e => decide (e.1 < 3072) || isCob e.1),
                      spindles := m.spindles.filter (fun e => decide (e.1 < 384)),
                      scratchQ := m.scratchQ.filter (fun r => decide (r.mule < 24)),
                      swapAt := m.swapAt.filter (fun e => decide (e.1 < 24)), loadAt := m.loadAt.filter (fun e => decide (e.1 < 24)) }
    yarn := { s.yarn with queues := s.yarn.queues.filter (fun e => epHalf e.1 == 0),
                          layout := s.yarn.layout.filter (fun e => decide (e.1 < 32 * 384)),
                          flights := s.yarn.flights.filter (fun f => epHalf f.msg.src == 0) }
    lmem := s.lmem.filter (fun c => decide (c.1 < 65536 * 384)), scratch := s.scratch.filter (fun c => decide (c.1 < 524288 * 24)) }
  let s := { s with flt := { s.flt with swaps := s.flt.swaps.filter (fun x => decide (x.sp < 384)),
                                        stopped := s.flt.stopped.filter (fun e => decide (e.1 < 3072)) } }
  let s := (List.range 24).foldl (fun s k => s.showMule (24 + k)) s
  (eps.foldl (fun s e => s.wr (epochF e.1) (nextEpoch e.2)) s).staleB ms

/-- R322, R153, R265: the packets, replicas, caches and bobbins of Half B. -/
def State.resetPathB (s : State) : State :=
  let ids := (s.net.pkts.filter (fun e => e.2.half == 1)).map (fun e => e.1)
  let l := s.net.last
  let keep (k : Nat) : Bool := s.ctxHome k == 0
  let s := { s with net := { s.net with
    pkts := s.net.pkts.filter (fun e => e.2.half == 0),
    egress := { s.net.egress with queues := s.net.egress.queues.filter (fun e => decide (s.rd (F.EGRESS_NODE_W0.PORT (e.1 / 8)) < 8)) },
    last := { l with tabsB := l.tabsA, cache := l.cache.filter (fun e => keep e.1), fetches := l.fetches.filter (fun e => keep e.1),
                     holders := l.holders.filter (fun e => keep e.1), holdList := l.holdList.filter (fun i => !ids.contains i) } } }
  let s := { s with bob := { s.bob with descs := s.bob.descs.filter (fun e => handleHalf e.1 == 0),
                                        bad := s.bob.bad.filter (fun b => handleHalf b == 0),
                                        marks := s.bob.marks.filter (fun e => decide (e.1 < 32768)) } }
  let s := ((List.range 4096).flatMap (fun t => (List.range 8).map (fun c => (t, c)))).foldl (fun s k =>
    if s.inUse 1 k.1 k.2 = 0 ∧ s.rd (levelF 1 k.1 k.2) = 0 then s else (s.wr (inUseF 1 k.1 k.2) 0).wr (levelF 1 k.1 k.2) 0) s
  if s.flag F.BOBBIN_STATUS.READY then s.carveHalf 1 else s

/-- R380: every channel in service on Half B resynchronises its Mirrored shares. -/
def State.resyncB (s : State) : State :=
  ((List.range 9).map (fun k => 9 + k)).foldl (fun s i => if s.chState i = chActive then s.wr (F.MEM_CH_STATUS.STATE i) chResync else s) s

/-- R398, R428: the STORAGE role returns to the spindles that held it. -/
def State.storageBack (s : State) : State :=
  let img := (s.cob.run.map (fun r => r.storage)).getD []
  match s.loadImage s.seam.storage img with
  | ((0, _), s) => s.seam.storage.foldl (fun s sp => s.roleRequest sp 1 true) s
  | (_, s) => s

/-- R428, step 3: Half B performs its HALF reset and answers RESET_ACK. -/
def State.halfReset (s : State) : State :=
  let s := s.resyncB.resetMulesB.resetPathB.awaitApply 1
  let s := s.setCipher { s.cipher with slots := s.cipher.slots.filter (fun e => s.sessHome e.1 == 0),
                                       fetches := s.cipher.fetches.filter (fun e => s.sessHome e.1 == 0),
                                       engines := s.cipher.engines.filter (fun e => decide (e.1 < 272)) }
  let s := s.setSeam { s.seam with fenced := false, fenceSeen := false, lossAt := none, resetDone := true }
  s.storageBack.witness 1 wtResetAck

def execHalfReset (s : State) : Host.Outcome State Fault Refusal :=
  if s.seamState = smRejoining ∧ s.seam.wire.contains (wtHalfReset, 0) then .next ((s.takeFrame wtHalfReset 0).heard 1).halfReset
  else .next s

/-- R153, R428: the HALF reset has been performed, Mirrored shares agree and the STORAGE roles are given: Half B serves again. -/
def execRejoinDone (s : State) : Host.Outcome State Fault Refusal :=
  if s.seamState ≠ smRejoining ∨ s.seam.resetDone = false ∨ s.seam.downAB ∨ s.seam.downBA ∨
      ((List.range 9).any (fun k => s.chState (9 + k) == chResync)) ∨
      s.seam.storage.any (fun sp => s.flag (F.MULE_ROLE.REQ (muleOf sp) (logOf sp))) then .next s
  else
    let s := ((s.wr F.SEAM_STATUS.STATE smJoined).wr F.SEAM_STATUS.TRAINED 0).wr F.SEAM_CMD.REJOIN 0
    .next ((s.reloadLastB.setSeam { s.reloadLastB.seam with resetDone := false, storage := [], downAt := none }).faultLog 11 3 0)

end Sys2Proof.Machine
end

