-- ==== Sys2Proof/Machine/Classifier.lean ====
section
/-! DEFINITION. The fault classifier, the spares and swaps, and the wear ledger (R430 to R438). -/

namespace Sys2Proof.Machine

open Sys2Proof

def State.setFlt (s : State) (f : FaultState) : State := { s with flt := f }

def less1 (s : State) (f : FRef) : State := s.wr f (s.rd f - 1)

/-! ### Spindle positions (R431, R432) -/

/-- The logical spindle that a position of class 0 serves. -/
def State.servedBy (s : State) (pos : Nat) : Option Nat :=
  let m := pos / 17
  let k := pos % 17
  if s.isRetired 0 pos then none
  else if k < 16 then some (16 * m + k)
  else (AMap.get? s.flt.spared m).map (fun l => 16 * m + l)

/-- R432: a position is ruled permanent: its logical spindle is to be swapped. The lower-numbered of two positions ruled in one
cycle takes the spare. -/
def State.retireSpindle (s : State) (pos : Nat) : State :=
  let m := pos / 17
  match s.servedBy pos with
  | none => (less1 (s.recordRepair 0 pos) F.FAULT_SPARE.SPINDLE).wr (F.MULE_POS.STATE m (pos % 17)) 2
  | some sp =>
    let s := s.recordRepair 0 pos
    let free := (AMap.get? s.flt.spared m).isNone && !s.isRetired 0 (17 * m + 16)
    let rival := s.flt.swaps.find? (fun x => muleOf x.sp == m && x.cycle == s.clk.cycles && x.spare && decide (pos < x.pos))
    let take := free || rival.isSome
    let others := if rival.isSome then s.flt.swaps.map (fun x => if muleOf x.sp = m then { x with spare := false } else x) else s.flt.swaps
    let x : SpSwap := { pos := pos, sp := sp, stitch := s.stitch, cycle := s.clk.cycles, spare := take, copied := false }
    let spared := if take then AMap.set s.flt.spared m (logOf sp) else s.flt.spared
    let s := s.setFlt { s.flt with swaps := others ++ [x], spared := spared }
    if free then less1 s F.FAULT_SPARE.SPINDLE else s

/-- R432: without a spare, the logical spindle's role becomes SPARE. -/
def State.forceSpare (s : State) (sp : Nat) : State :=
  let m := muleOf sp
  let k := logOf sp
  let held := s.rd (F.MULE_ROLE.NEW_ROLE m k)
  let swap := s.rd (F.MULE_ROLE.SWAP m k)
  let s := ((s.wr (F.MULE_ROLE.NEW_ROLE m k) roleSpare).wr (F.MULE_ROLE.SWAP m k) 0).roleApply sp
  (s.wr (F.MULE_ROLE.NEW_ROLE m k) held).wr (F.MULE_ROLE.SWAP m k) swap

/-- R432: a swap has ended in this stitch: a role change or bank swap of the spindle requested meanwhile counts from boundary
s + 3. -/
def State.swapEnded (s : State) (x : SpSwap) : State :=
  let m := muleOf x.sp
  let s := s.setFlt { s.flt with stopped := s.flt.stopped.filter (fun e => spOf e.1 ≠ x.sp), swaps := s.flt.swaps.filter (fun y => y.sp != x.sp) }
  let s := if (s.spindle x.sp).roleAt.isSome then s.modSpindle x.sp (fun y => { y with roleAt := some (x.stitch + 3) }) else s
  if (AMap.get? s.mules.swapAt m).isSome ∧ (spinsOf m (s.rd (F.MULE_SWAP.SPN m))).contains x.sp then
    { s with mules := { s.mules with swapAt := AMap.set s.mules.swapAt m (s.clk.cycles + (x.stitch + 3 - s.stitch) * s.stitchLen) } }
  else s

/-- R432, step 3: at boundary s + 2 the long-work threads stop and the state is copied, or the role becomes SPARE. -/
def execSpindleSwapDrain (sp : Nat) (s : State) : Host.Outcome State Fault Refusal :=
  match s.flt.swaps.find? (fun x => x.sp == sp && !x.copied) with
  | none => .next s
  | some x =>
    if s.atBoundary = false ∨ s.stitch < x.stitch + 2 then .next s
    else if x.spare then
      let ts := (threadsOf sp).filter (fun t => !s.bounded t && s.ts t != tsOff)
      let left := ts.foldl (fun (m : AMap Nat) t => AMap.set m t (s.ts t)) s.flt.stopped
      let s := ts.foldl (fun s t => s.setTs t tsHalt) s
      .next (s.setFlt { s.flt with stopped := left, swaps := s.flt.swaps.map (fun y => if y.sp = sp then { y with copied := true } else y) })
    else
      let s := ((s.forceSpare sp).swapEnded x).wr (F.MULE_POS.STATE (muleOf sp) (x.pos % 17)) 2
      .next (s.spareNone 0 x.pos)

/-- R432, step 4: at boundary s + 3 the spare serves the logical spindle. -/
def execSpindleSwapComplete (sp : Nat) (s : State) : Host.Outcome State Fault Refusal :=
  match s.flt.swaps.find? (fun x => x.sp == sp && x.copied) with
  | none => .next s
  | some x =>
    if s.atBoundary = false ∨ s.stitch < x.stitch + 3 then .next s
    else
      let s := (threadsOf sp).foldl (fun s t => match AMap.get? s.flt.stopped t with | some st => s.setTs t st | none => s) s
      let s := (s.swapEnded x).showMule (muleOf sp)
      .next (s.spareIn 0 x.pos)

/-! ### Cipher engines and Card lanes (R433, R434) -/

def State.spareEngine (s : State) (c : Nat) : Option Nat :=
  ((List.range 136).map (fun e => 136 * c + e)).find? (fun u => s.rd (F.CIPHER_ENGPOS.STATE u) == 1)

def State.retireEngine (s : State) (pos : Nat) : State :=
  let was := s.rd (F.CIPHER_ENGPOS.STATE pos)
  let s := (s.recordRepair 1 pos).wr (F.CIPHER_ENGPOS.STATE pos) 2
  if was = 1 then less1 s F.FAULT_SPARE.CIPHER
  else if was = 2 then s
  else if (s.spareEngine (engCluster pos)).isSome then s.setFlt { s.flt with engines := AMap.set s.flt.engines pos s.clk.time }
  else s.spareNone 1 pos

/-- R433: the spare of a retired engine's cluster has been tested and serves. -/
def execSpareEngineEnable (pos : Nat) (s : State) : Host.Outcome State Fault Refusal :=
  match AMap.get? s.flt.engines pos with
  | none => .next s
  | some _ =>
    let s := s.setFlt { s.flt with engines := AMap.del s.flt.engines pos }
    match s.spareEngine (engCluster pos) with
    | none => .next (s.spareNone 1 pos)
    | some u => .next ((less1 (s.wr (F.CIPHER_ENGPOS.STATE u) 0) F.FAULT_SPARE.CIPHER).spareIn 1 pos)

/-- The spare lane position of a lane's half. -/
def spareLane (l : Nat) : Nat := if l < 5 then 4 else 9

/-- The lowest SPARE lane of a lane's half. -/
def State.laneSpare (s : State) (l : Nat) : Option Nat :=
  ((List.range 5).map (fun k => l / 5 * 5 + k)).find? (fun j => s.rd (F.CARD_LANE.STATE j) == 1)

/-- R434: at the stitch boundary after the ruling the lane is retired and the spare serves. -/
def execCardLaneRetire (l : Nat) (s : State) : Host.Outcome State Fault Refusal :=
  match AMap.get? s.flt.lanes l with
  | none => .next s
  | some k =>
    if s.atBoundary = false ∨ s.stitch ≤ k then .next s
    else
      let was := s.rd (F.CARD_LANE.STATE l)
      let s := (s.setFlt { s.flt with lanes := AMap.del s.flt.lanes l }).wr (F.CARD_LANE.STATE l) 2
      if was = 1 then .next (less1 s F.FAULT_SPARE.CARD)
      else match s.laneSpare l with
        | some j => .next ((less1 (s.wr (F.CARD_LANE.STATE j) 0) F.FAULT_SPARE.CARD).spareIn 2 l)
        | none => .next (s.spareNone 2 l)

/-! ### Seam lanes, channels, SRAM rows (R418, R377, R435) -/

/-- R431: a seam lane is retired: a spare comes in by retraining, or the direction degrades. -/
def State.retireSeamLane (s : State) (pos : Nat) : State :=
  let dir := pos / 18
  let before := 18 - s.goodLanes dir
  let s := (s.recordRepair 3 pos).wr (retiredF dir) (s.rd (retiredF dir) ||| 2 ^ (pos % 18))
  let s := if before < 2 then s.setSeam { s.seam with swapping := s.seam.swapping ++ [pos] } else s.spareNone 3 pos
  if s.seamState = smJoined then s.seamDown dir else s

/-- R435: a row is repaired, or the array has no spare row left: whether it was. -/
def State.repairRow (s : State) (arr row : Nat) : Bool × State :=
  let rows := AMap.getD s.flt.sram arr []
  if 2 ≤ rows.length then (false, s.faultLog 5 6 arr)
  else
    let rows := rows ++ [(row, rows.length)]
    let s := s.setFlt { s.flt with sram := AMap.set s.flt.sram arr rows }
    let s := (s.count F.FAULT_STAT.SOFT_REPAIRS.CNT 1).faultLog 4 6 arr
    (true, s.journalPut ⟨jSoft, arr, rows.flatMap (fun r => toLE 4 (r.1 % 2 ^ 24 + 2 ^ 24 * r.2))⟩)

/-- R431: a position is retired and its class's swap begins. -/
def State.retire (s : State) (k pos : Nat) : State :=
  if s.isRetired k pos then s
  else if k = 0 then s.retireSpindle pos
  else if k = 1 then s.retireEngine pos
  else if k = 2 then (s.recordRepair 2 pos).setFlt { (s.recordRepair 2 pos).flt with lanes := AMap.set s.flt.lanes pos s.stitch }
  else if k = 3 then s.retireSeamLane pos
  else if k = 4 then (s.recordRepair 4 pos).laneRetired pos
  else if k = 5 then (s.reroute pos).retireChannel pos
  else if k = 7 then s.wr F.FAULT_SPARE.COBBLER_DEGRADED 1
  else s

/-- R435: a permanent row of an array: repaired, or, with no spare row left, a permanent error of the spindle position whose
array it is. -/
def State.retireRow (s : State) (arr row : Nat) (owner : Option Nat) : State :=
  match s.repairRow arr row with
  | (true, s) => s
  | (false, s) =>
    match owner with
    | some p => if p < posCount 0 then ((s.count F.FAULT_STAT.PERMANENT.CNT 1).faultLog 1 0 p).retire 0 p else s
    | none => s

/-! ### The classifier (R430) -/

def countKey (k pos row : Nat) : Nat := if k = 6 then 2 ^ 24 * (pos + 1) + row % 2 ^ 24 else 2048 * k + pos

/-- R430: an error is counted at its position: whether it is permanent. -/
def State.countError (s : State) (k pos row : Nat) (unc : Bool) : Bool × State :=
  let key := countKey k pos row
  let (c, w) := AMap.getD s.flt.counts key (0, 0)
  let fresh := c == 0 || decide (w + 2 ^ s.rd (F.FAULT_CLASS.LOG2W k) ≤ s.stitch)
  let c' := if fresh then 1 else c + 1
  let w' := if fresh then s.stitch else w
  let ek := 1024 * k + pos
  let errs := if k < 6 then AMap.set s.flt.errors ek (min (AMap.getD s.flt.errors ek 0 + 1) (2 ^ 32 - 1)) else s.flt.errors
  if max 1 (s.rd (F.FAULT_CLASS.N k)) ≤ c' ∨ (k = 6 ∧ unc) then
    (true, s.setFlt { s.flt with counts := AMap.del s.flt.counts key, errors := errs })
  else (false, s.setFlt { s.flt with counts := AMap.set s.flt.counts key (c', w'), errors := errs })

/-- R430: an error of a position is ruled transient or permanent. -/
def State.ruleError (s : State) (k pos row : Nat) (unc injected : Bool) (owner : Option Nat) : State :=
  match s.countError k pos row unc with
  | (false, s) => s.count F.FAULT_STAT.TRANSIENT.CNT 1
  | (true, s) =>
    let s := (s.count F.FAULT_STAT.PERMANENT.CNT 1).event faultEvq (faultEvent 1 k pos injected)
    if k = 6 then s.retireRow pos row owner else s.retire k pos

/-- R130, Table 13.2: an uncorrectable codeword on a lane is counted at its port. -/
def State.codewordLost (s : State) (l : Nat) : State :=
  let w := lanesOf (s.ethMode (l / 8))
  s.countWrap (F.ETH_STAT.FEC_UNCORR.CNT (l / w * w)) 1

/-- R81, R82, Table 2.10: an error of a spindle position that a thread meets. `what` holds the thread in bits 2:0, the kind in bits 4:3
(1 instruction-store parity, 2 an uncorrectable error of local memory, at the address in bits 31:5; 0 neither): the running
thread of the spindle that the position serves faults at its instruction. -/
def State.threadError (s : State) (pos what : Nat) : State :=
  match s.servedBy pos with
  | none => s
  | some sp =>
    let t := tidOf sp (what % 8)
    if s.ts t ≠ tsRun then s
    else match bitsOf what 4 3 with
      | 1 => s.takeFault t ((s.fetchWord t).getD 0#32) ⟨fcIstore, 0⟩ 0
      | 2 => s.takeFault t ((s.fetchWord t).getD 0#32) ⟨fcLmemEcc, 0⟩ (bitsOf what 31 5)
      | _ => s

/-- R430: an error that a unit has reported, or that its checks detect, is ruled on. For class 0, `row` names the thread that meets
it; for class 5, an error that no patrol read has reported was corrected in a demand read of unit `row` in patrol order (R370); for
class 6, `row` is the row, `unc` says that it cannot be corrected, and `owner` is the spindle position of the array, where it has
one. -/
def execErrorReport (k pos row : Nat) (unc : Bool) (owner : Option Nat) (s : State) : Host.Outcome State Fault Refusal :=
  if 8 ≤ k ∨ posCount k ≤ pos then .next s
  else
    let s := if k = 5 ∧ s.chMaintains pos ∧ s.reports.contains (k, pos) = false then s.corrected pos (s.patrolUnit pos row) else s
    let s := { s with reports := s.reports.erase (k, pos) }
    let s := if k = 4 then s.codewordLost pos else if k = 0 then s.threadError pos row else s
    .next (s.ruleError k pos row unc false owner)

/-- FAULT_INJECT.GO counts one error, marked injected, while debug access is open. -/
def execFaultInject (s : State) : Host.Outcome State Fault Refusal :=
  if s.flag F.FAULT_INJECT.GO = false then .next s
  else
    let k := s.rd F.FAULT_INJECT.CLASS
    let pos := s.rd F.FAULT_INJECT.POSITION
    let s := s.wr F.FAULT_INJECT.GO 0
    if s.cob.debugOpen ∧ pos < posCount k then .next (s.ruleError k pos 0 false true none) else .next s

/-! ### The wear ledger (R438) -/

/-- A spare is free for a position of a class. -/
def State.spareFree (s : State) (k pos : Nat) : Bool :=
  if k = 0 then (AMap.get? s.flt.spared (pos / 17)).isNone && !s.isRetired 0 (pos / 17 * 17 + 16) && pos % 17 != 16
  else if k = 1 then (s.spareEngine (engCluster pos)).isSome
  else if k = 2 then (s.laneSpare pos).isSome
  else if k = 3 then decide (16 < s.goodLanes (pos / 18))
  else if k = 5 then s.chState (spareOf pos) == chSpare && !(AMap.get? s.dram.spareFor (chanHalf pos)).isSome && pos != spareOf pos
  else false

def ledgerF (k pos : Nat) : FRef := F.FAULT_LEDGER.W (1024 * k + pos)

/-- One position is sampled: its entry, and whether its grade has changed. -/
def State.samplePos (s : State) (k pos : Nat) (age : Option Nat) : Bool × State :=
  let e := s.rd (ledgerF k pos)
  let a := (age.getD (bitsOf e 47 32)) % 65536
  let g0 := bitsOf e 63 62
  let want := if s.isRetired k pos then 3 else if s.rd F.FAULT_WEAR.RETIRE ≤ a then 2 else if s.rd F.FAULT_WEAR.WATCH ≤ a then 1 else 0
  let g := max g0 want
  let s := s.wr (ledgerF k pos) (g <<< 62 ||| a <<< 32 ||| AMap.getD s.flt.errors (1024 * k + pos) 0)
  let s := if g0 < 1 ∧ (g = 1 ∨ g = 2) then s.faultLog 6 k pos else s
  if g = 2 ∧ s.flag (F.FAULT_CLASS.PREDICT_EN k) ∧ s.spareFree k pos then (true, s.retire k pos)
  else if g0 < 2 ∧ g = 2 then (true, s.faultLog 7 k pos)
  else (g0 != g, s)

/-- The AGE that the sample gives a position, from the list of 2^16 × age + 1024 × class + position. -/
def ageOf (ages : List Nat) (k pos : Nat) : Option Nat := (ages.find? (fun a => a % 65536 == 1024 * k + pos)).map (fun a => a / 65536)

/-- R437: the WEAR payload of a class. -/
def State.wearPayload (s : State) (k : Nat) : Bytes := (List.range (posCount k)).flatMap (fun p => toLE 8 (s.rd (ledgerF k p)))

/-- R438: every 2^20 stitches the ageing monitors and error counts are sampled; the monitors' readings are the operand. -/
def execWearSample (ages : List Nat) (s : State) : Host.Outcome State Fault Refusal :=
  if s.stitch < s.flt.wearAt + 2 ^ 20 then .next s
  else
    let long := decide (s.flt.recordAt + 2 ^ 30 ≤ s.stitch)
    let s := s.setFlt { s.flt with wearAt := s.stitch, recordAt := if long then s.stitch else s.flt.recordAt }
    .next ((List.range 6).foldl (fun s k =>
      let (changed, s) := (List.range (posCount k)).foldl (fun (acc : Bool × State) p =>
        let (c, s) := acc.2.samplePos k p (ageOf ages k p)
        (acc.1 || c, s)) (false, s)
      if changed ∨ long then s.journalPut ⟨jWear, k, s.wearPayload k⟩ else s) s)

/-! ### Repairs at power-up (R431, R435) -/

/-- The first retired position of a mule in ascending order, which its spare serves. -/
def firstRetired (rs : List (Nat × Nat)) (m : Nat) : Option Nat :=
  if rs.contains (0, 17 * m + 16) then none else (List.range 16).find? (fun l => rs.contains (0, 17 * m + l))

/-- Positions `lo` to `hi - 1` of a pool with spares at its end, as the repair record leaves them: 0 ACTIVE, 1 SPARE,
2 RETIRED. -/
def poolStates (rs : List (Nat × Nat)) (k base active total : Nat) : List (Nat × Nat) :=
  let bad (p : Nat) : Bool := rs.contains (k, base + p)
  let need := ((List.range active).filter bad).length
  ((List.range total).foldl (fun (acc : Nat × List (Nat × Nat)) p =>
    if bad p then (acc.1, acc.2 ++ [(base + p, 2)])
    else if p < active then (acc.1, acc.2 ++ [(base + p, 0)])
    else if acc.1 < need then (acc.1 + 1, acc.2 ++ [(base + p, 0)])
    else (acc.1, acc.2 ++ [(base + p, 1)])) (0, [])).2

def spares (l : List (Nat × Nat)) : Nat := (l.filter (fun e => e.2 == 1)).length

/-- A half's channels: a retired one leaves its logical number to the spare. -/
def State.repairChannels (s : State) (h : Nat) : State :=
  let bad := (List.range 9).filter (fun p => s.isRetired 5 (9 * h + p))
  let s := bad.foldl (fun s p => (s.wr (F.MEM_CH_STATUS.STATE (9 * h + p)) chRetired).wr (F.MEM_CH_STATUS.LOGICAL (9 * h + p)) 0x1F) s
  match bad.filter (fun p => decide (p < 8)) with
  | p :: _ =>
    if bad.contains 8 then s
    else (s.wr (F.MEM_CH_STATUS.STATE (9 * h + 8)) chActive).wr (F.MEM_CH_STATUS.LOGICAL (9 * h + 8)) (8 * h + p)
  | [] => s

/-- R431, R435: the repair records are applied before any unit serves. -/
def State.applyRepairs (s : State) : State :=
  let rs := s.repairs
  let sp := (List.range 48).filterMap (fun m => (firstRetired rs m).map (fun l => (m, l)))
  let s := (List.range 48).foldl (fun s m => s.showMule m) (s.setFlt { s.flt with spared := sp })
  let engs := (List.range 4).flatMap (fun c => poolStates rs 1 (136 * c) 128 136)
  let lanes := (List.range 2).flatMap (fun h => poolStates rs 2 (5 * h) 4 5)
  let s := (engs.filter (fun e => s.rd (F.CIPHER_ENGPOS.STATE e.1) ≠ e.2)).foldl (fun s e => s.wr (F.CIPHER_ENGPOS.STATE e.1) e.2) s
  let s := lanes.foldl (fun s e => s.wr (F.CARD_LANE.STATE e.1) e.2) s
  let mask (d : Nat) : Nat := ((List.range 18).filter (fun l => rs.contains (3, 18 * d + l))).foldl (fun m l => m ||| 2 ^ l) 0
  let s := (s.wr (retiredF 0) (mask 0)).wr (retiredF 1) (mask 1)
  let s := (s.repairChannels 0).repairChannels 1
  let mules := ((List.range 48).filter (fun m => rs.contains (0, 17 * m + 16) || (firstRetired rs m).isSome)).length
  let s := ((s.wr F.FAULT_SPARE.SPINDLE (48 - mules)).wr F.FAULT_SPARE.CIPHER (spares engs)).wr F.FAULT_SPARE.CARD (spares lanes)
  let s := s.wr F.FAULT_SPARE.SEAM ((s.goodLanes 0 - 16) + (s.goodLanes 1 - 16))
  let free := ((List.range 2).filter (fun h => s.chState (9 * h + 8) == chSpare)).length
  let s := s.wr F.FAULT_SPARE.DRAM free
  (s.wr (widthF 0) (s.seamWidth 0)).wr (widthF 1) (s.seamWidth 1)

/-- R437, R438: the ledger as the WEAR records left it. -/
def State.restoreLedger (s : State) (rs : List JFound) : State :=
  (List.range 6).foldl (fun s k =>
    let p := governs rs jWear k
    (List.range (min (posCount k) (p.length / 8))).foldl (fun s i =>
      let e := leAt p (8 * i) 8
      (s.wr (ledgerF k i) e).setFlt { (s.wr (ledgerF k i) e).flt with errors := AMap.setD 0 s.flt.errors (1024 * k + i) (e % 2 ^ 32) }) s) s

end Sys2Proof.Machine
end

