-- ==== Sys2Proof/Machine/Power.lean ====
section
/-! DEFINITION. The POWER block (chapter 14): switched domains, thermal sensors, the throttle and the core clock (R450 to
R455). -/

namespace Sys2Proof.Machine

open Sys2Proof

def State.setPwr (s : State) (p : Power) : State := { s with pwr := p }

/-! ### Domains (R450, R451) -/

/-- Causes of POWER_DOM_ERR. -/
def dcRoles : Nat := 1
def dcLastCluster : Nat := 2
def dcSlots : Nat := 3
def dcPorts : Nat := 4
def dcHwOnly : Nat := 5

/-- The switch of a domain that runs: on (true), off, or none. -/
def State.switching (s : State) (k : Nat) : Option Bool := AMap.get? s.pwr.switching k

def State.setSwitching (s : State) (k : Nat) (v : Option Bool) : State :=
  s.setPwr { s.pwr with switching := match v with
    | some b => AMap.set s.pwr.switching k b
    | none => AMap.del s.pwr.switching k }

/-- DOM_STATUS.PENDING: a cipher cluster waits to drain. -/
def State.showDrain (s : State) : State :=
  s.wr F.POWER_DOM_STATUS.PENDING (if (List.range 4).any (fun c => s.switching (48 + c) == some false) then 1 else 0)

/-- Table 14.7: why an off request of a domain is refused. -/
def State.offRefused (s : State) (k : Nat) : Option Nat :=
  if k < 48 then
    (if (List.range 16).all (fun j => s.role (16 * k + j) == roleSpare && !s.flag (F.MULE_ROLE.REQ k j)) && !s.flag (F.MULE_LOAD_CTRL.BUSY k)
     then none else some dcRoles)
  else if k < 52 then (if s.clusterOpen ((k - 48) ^^^ 1) then none else some dcLastCluster)
  else if k < 56 then (if (List.range 4).all (fun j => decide (s.slot (4 * (k - 52) + j) ≤ slPresent)) then none else some dcSlots)
  else if (List.range 8).all (fun j => !s.flag (F.ETH_PORT_CFG.EN (8 * (k - 56) + j))) then none else some dcPorts

/-- A refused bit is recorded unless an earlier refusal stands. -/
def State.domRefused (s : State) (k cause : Nat) : State :=
  if s.flag F.POWER_DOM_ERR.VALID then s
  else ((s.wr F.POWER_DOM_ERR.VALID 1).wr F.POWER_DOM_ERR.CAUSE cause).wr F.POWER_DOM_ERR.DOMAIN k

/-- R451: one changed bit of POWER_DOM_CTRL. An on request that meets a pending off request cancels it. -/
def State.domBit (s : State) (k : Nat) (on : Bool) : State :=
  let ctl := s.rd F.POWER_DOM_CTRL.ON
  if 58 ≤ k then s.domRefused k dcHwOnly
  else if on then
    let s := s.wr F.POWER_DOM_CTRL.ON (ctl ||| 2 ^ k)
    if s.switching k = some false then s.setSwitching k none else s.setSwitching k (some true)
  else match s.offRefused k with
    | some c => s.domRefused k c
    | none =>
      let s := s.wr F.POWER_DOM_CTRL.ON (ctl - 2 ^ k)
      if s.domOn k then s.setSwitching k (some false) else s.setSwitching k none

/-- R451: a write of POWER_DOM_CTRL, bit by bit from bit 0. -/
def State.domWrite (s : State) (v : Nat) : State :=
  ((List.range 63).foldl (fun s k =>
    if v.testBit k = (s.word F.POWER_DOM_CTRL.ON.addr).testBit k then s else s.domBit k (v.testBit k)) s).showDrain

def execDomainSwitch (v : W64) (s : State) : Host.Outcome State Fault Refusal := .next (s.domWrite v.toNat)

/-- A domain's switch has completed. -/
def State.switched (s : State) (k : Nat) (on : Bool) : State :=
  let sts := s.rd F.POWER_DOM_STATUS.ON
  let s := s.wr F.POWER_DOM_STATUS.ON (if on then sts ||| 2 ^ k else (if sts.testBit k then sts - 2 ^ k else sts))
  ((s.setSwitching k none).showDrain).count F.POWER_STAT.DOM_SWITCHES.CNT 1

/-- R451: what a mule loses with its power. -/
def State.loseMule (s : State) (m : Nat) : State :=
  let x := s.mules
  let s := { s with
    mules := { x with threads := x.threads.filter (fun e => isCob e.1 || muleOf (spOf e.1) != m),
                      spindles := x.spindles.filter (fun e => muleOf e.1 != m),
                      scratchQ := x.scratchQ.filter (fun r => r.mule != m),
                      swapAt := AMap.del x.swapAt m, loadAt := AMap.del x.loadAt m }
    yarn := { s.yarn with queues := s.yarn.queues.filter (fun e => epIsUnit e.1 || epMule e.1 != m),
                          layout := s.yarn.layout.filter (fun e => muleOf (e.1 / 32) != m),
                          flights := s.yarn.flights.filter (fun f => epIsUnit f.msg.src || epMule f.msg.src != m) }
    lmem := s.lmem.filter (fun c => muleOf (c.1 / 65536) != m), scratch := s.scratch.filter (fun c => decide (c.1 / 524288 ≠ m)) }
  (List.range 16).foldl (fun s j => s.wr (F.MULE_THR_STATE.STANDBY_VALID m j) 0) s

/-- R451: the key slots of a cluster are lost: the half's idle sessions leave theirs, rewrapped as R191 has an evicted one. -/
def State.loseCluster (s : State) (c : Nat) : State :=
  let idle := s.cipher.slots.filter (fun (e : Nat × KeySlot) =>
    s.sessHome e.1 == c / 2 && !s.cipher.jobs.any (fun j => j.session == e.1 && j.holds))
  idle.foldl (fun s e =>
    let s := s.rewrap e.1 e.2
    s.setCipher { s.cipher with slots := AMap.del s.cipher.slots e.1 }) s

/-- R451: what an Eyelet port loses with its power: its slots' timers and outputs and its commit. -/
def State.loseEyelet (s : State) (p : Nat) : State :=
  let off {α : Type} (m : AMap α) : AMap α := m.filter (fun e => e.1 / 4 != p)
  let e := s.eye
  s.setEye { e with since := off e.since, offAt := off e.offAt, attn := off e.attn, pins := off e.pins, commitAt := AMap.del e.commitAt p,
                    lost := e.lost.filter (fun k => k / 256 != p), changing := e.changing.filter (fun k => k / 256 != p) }

/-- No engine of the cluster holds a job and none of its suspension slots is in use. -/
def State.clusterIdle (s : State) (c : Nat) : Bool :=
  !s.cipher.engines.any (fun e => engCluster e.1 == c) && s.suspUsed c == 0

/-- R451: a domain finishes switching off. -/
def execDomainOffDone (k : Nat) (s : State) : Host.Outcome State Fault Refusal :=
  if s.switching k ≠ some false then .next s
  else if 48 ≤ k ∧ k < 52 then
    (if s.clusterIdle (k - 48) then .next ((s.loseCluster (k - 48)).switched k false) else .next s)
  else if k < 48 then .next ((s.loseMule k).switched k false)
  else if k < 56 then
    .next ((s.loseEyelet (k - 52)).switched k false)
  else .next (((List.range 8).foldl (fun s j => s.portDown (8 * (k - 56) + j)) s).switched k false)

/-- The registers that come up in their POWER reset state with a domain: a mule's but its positions, roles and epochs; a
cluster's suspension slots; an Eyelet port's and its links'; an Ethernet half's and its ports'. Positions are the repair
record's. -/
def domReg (k a : Nat) : Bool :=
  if k < 48 then
    let o := a - (0x200000 + 0x10000 * k)
    inRange (0x200000 + 0x10000 * k) (0x210000 + 0x10000 * k) a && !inRange 0x40 0x84 o && !inRange 0x100 0x140 o
  else if k < 52 then a == 0x1000400 + 4 * (k - 48)
  else if k < 56 then
    let p := k - 52
    a == 0x1700000 + 4 * p || inRange (0x1700100 + 0x80 * p) (0x1700180 + 0x80 * p) a || inRange (0x1700400 + 8 * p) (0x1700408 + 8 * p) a ||
      inRange (0x1701000 + 0x80 * p) (0x1701080 + 0x80 * p) a || inRange (0x1710000 + 0x1000 * p) (0x1711000 + 0x1000 * p) a ||
      inRange (0x1720000 + 0x1000 * p) (0x1721000 + 0x1000 * p) a || inRange (0x1730000 + 0x400 * p) (0x1730400 + 0x400 * p) a
  else
    let h := k - 56
    a == 0xC00000 + 4 * h || inRange (0xC00100 + 0x100 * h) (0xC00200 + 0x100 * h) a ||
      inRange (0xC40000 + 0x400 * h) (0xC40400 + 0x400 * h) a || inRange (0xC10000 + 0x10000 * h) (0xC20000 + 0x10000 * h) a

/-- R451: a domain finishes switching on: its unit comes up in its POWER reset state. -/
def execDomainOnDone (k : Nat) (s : State) : Host.Outcome State Fault Refusal :=
  if s.switching k ≠ some true then .next s
  else
    let s := if s.domOn k then s else { s with csr := s.csr.filter (fun e => !domReg k e.1) }
    let s := s.switched k true
    .next (if 56 ≤ k then s.awaitApply (k - 56) else s)

/-! ### Temperatures and the throttle (R452 to R455) -/

/-- A field of 11 bits, signed. -/
def toSigned11 (n : Nat) : Int := if n < 1024 then Int.ofNat n else Int.ofNat n - 2048

/-- The present lacing period's number. -/
def State.periodNo (s : State) : Nat := s.stitch / 64

/-- R453: the temperature, in quarters of a degree, at which the throttle engages, and below which it may release. -/
def State.throttleAt (s : State) : Int := Int.ofNat (4 * min 100 (s.rd F.POWER_THERM_CFG.THROTTLE_T))
def State.releaseAt (s : State) : Int :=
  Int.ofNat (4 * min (s.rd F.POWER_THERM_CFG.RELEASE_T) (min 100 (s.rd F.POWER_THERM_CFG.THROTTLE_T) - 1))

/-- R452: a sensor's reading, in quarters of a degree. -/
def State.takeTemp (s : State) (k t : Nat) : State :=
  let t := t % 2048
  let p := s.rd (F.POWER_TEMP.PEAK k)
  (s.wr (F.POWER_TEMP.TEMP k) t).wr (F.POWER_TEMP.PEAK k) (if toSigned11 p < toSigned11 t then t else p)

/-- The reading of a sensor. -/
def State.temp (s : State) (k : Nat) : Int := toSigned11 (s.rd (F.POWER_TEMP.TEMP k))

/-- The hottest sensor, the lowest-numbered of equals. -/
def State.hottest (s : State) : Nat := (List.range 64).foldl (fun b k => if s.temp b < s.temp k then k else b) 0

def State.showHottest (s : State) : State :=
  let h := s.hottest
  (s.wr F.POWER_TEMP_MAX.SENSOR h).wr F.POWER_TEMP_MAX.TEMP (s.rd (F.POWER_TEMP.TEMP h))

/-- R453, R454: the throttle engages, or a rise in the lacing period of its release cancels the release. -/
def State.engage (s : State) : State :=
  if s.flag F.POWER_CLK.THROTTLE then s.setPwr { s.pwr with coolFrom := none }
  else
    let again := s.pwr.releasedIn == some s.periodNo
    let s := (s.wr F.POWER_CLK.THROTTLE 1).setPwr { s.pwr with coolFrom := none, releasedIn := none, clkAt := s.clk.cycles }
    if again then s else s.count F.POWER_STAT.THROTTLES.CNT 1

/-- R453: the throttle's view of the readings. -/
def State.throttle (s : State) : State :=
  if (List.range 64).any (fun k => decide (s.throttleAt ≤ s.temp k)) then s.engage
  else if (List.range 64).all (fun k => decide (s.temp k < s.releaseAt)) then
    s.setPwr { s.pwr with coolFrom := (match s.pwr.coolFrom with | some n => some n | none => some s.stitch) }
  else s.setPwr { s.pwr with coolFrom := none }

/-- R455: a sensor reaches the trip temperature. -/
def State.tripDue (s : State) : Bool :=
  (List.range 64).any (fun k => decide (Int.ofNat (4 * s.rd F.POWER_THERM_CFG.TRIP_T) ≤ s.temp k))

/-- The readings of a pass over the sensors, the rails and the package. -/
def State.takeReadings (s : State) (temps rails : List Nat) (watts : Nat) : State :=
  let s := (List.range (min 64 temps.length)).foldl (fun s k => s.takeTemp k (temps.getD k 0)) s
  let s := (List.range (min 6 rails.length)).foldl (fun s k => s.wr (F.POWER_RAIL.MV k) (rails.getD k 0)) s
  (s.wr F.POWER_PKG.WATTS watts).showHottest

/-- R409: thresholds crossed are reported. -/
def State.sensorEvents (s : State) : State := (List.range 64).foldl (fun s k => s.sensorEvent (k + 1)) s

/-- R453: every sensor has stayed below RELEASE_T for 2^20 stitches. -/
def execThrottleRelease (s : State) : Host.Outcome State Fault Refusal :=
  match s.pwr.coolFrom with
  | none => .next s
  | some n =>
    if s.flag F.POWER_CLK.THROTTLE ∧ n + 2 ^ 20 ≤ s.stitch then
      .next ((s.wr F.POWER_CLK.THROTTLE 0).setPwr { s.pwr with coolFrom := none, releasedIn := some s.periodNo, clkAt := s.clk.cycles })
    else .next s

/-- R453: the clock that the throttle and REDUCED ask for: 1 for 1.600 GHz. -/
def State.clockWanted (s : State) : Nat := if s.flag F.POWER_CLK.THROTTLE || s.flag F.POWER_CLK.REDUCED then 1 else 0

/-- A write of POWER_CLK. -/
def State.clkWrite (s : State) (v : Nat) : State :=
  if v % 2 = s.rd F.POWER_CLK.REDUCED then s else (s.wr F.POWER_CLK.REDUCED v).setPwr { s.pwr with clkAt := s.clk.cycles }

/-- R453: at the first lacing-period boundary that begins after the change, the clock follows and the lock re-acquires. -/
def execClockChange (s : State) : Host.Outcome State Fault Refusal :=
  if s.atPeriod ∧ s.clockWanted ≠ s.rd F.POWER_CLK.CUR ∧ s.pwr.clkAt < s.clk.cycles then
    .next ((s.wr F.POWER_CLK.CUR s.clockWanted).reacquire)
  else .next s

/-- Table 14.2: ALERT_N is low while an EVQ of a block that enables alerts holds an entry not yet read. -/
def State.alertLow (s : State) : Bool := eventFifos.any fun q => q.addr != cipherNote.addr && !(s.fifo q).entries.isEmpty && Config.alertEnabled q.addr

end Sys2Proof.Machine
end

