-- ==== Sys2Proof/Machine/Resets.lean ====
section
/-! DEFINITION. POWER resets: what they keep, the power-on reset and its straps, the falls of PWRGD, rails and references
(R321, R322, R444 to R449), and the pass over the thermal sensors, which may trip (R452, R455). -/

namespace Sys2Proof.Machine

open Sys2Proof

/-- R322, R448: the registers of the always-on domain: POWER_RESET_CAUSE, and DEBUG_OPENED, FAIL_SLOT, TRIES and FAIL_CAUSE
of COBBLER_BOOT_STATUS. -/
def State.keepAon (s t : State) : State :=
  let t := t.setWord F.POWER_RESET_CAUSE.TRIP.addr (s.word F.POWER_RESET_CAUSE.TRIP.addr)
  let t := (t.wr F.COBBLER_BOOT_STATUS.DEBUG_OPENED (s.rd F.COBBLER_BOOT_STATUS.DEBUG_OPENED)).wr F.COBBLER_BOOT_STATUS.FAIL_SLOT
    (s.rd F.COBBLER_BOOT_STATUS.FAIL_SLOT)
  (t.wr F.COBBLER_BOOT_STATUS.TRIES (s.rd F.COBBLER_BOOT_STATUS.TRIES)).wr F.COBBLER_BOOT_STATUS.FAIL_CAUSE
    (s.rd F.COBBLER_BOOT_STATUS.FAIL_CAUSE)

/-- The host links whose PERST_N is high. -/
def State.linksOut (s : State) : List Nat := [0, 1].filter (fun l => !s.pwr.perst.contains l)

/-- Table 9.9: the part after a POWER reset: the fuses, both flashes and, while VAON stays up, the always-on domain are kept.
The clock of the model, what it has put out and the waiting commands are no state of the part. -/
def State.cleared (s : State) (vaonLost : Bool) : State :=
  let r := State.reset
  let t := { r with
    clk := { cycles := 0, time := s.clk.time }, flash := s.flash, pflash := s.pflash, outs := s.outs, freeCtr := s.freeCtr,
    pending := s.pending
    cob := { r.cob with revoked := s.cob.revoked, boot := { r.cob.boot with since := s.clk.time } }
    host := { r.host with perst := s.linksOut.map (fun l => (l, s.clk.time)) }
    pwr := { r.pwr with perst := s.pwr.perst, resetEnd := s.clk.time } }
  if vaonLost then t else s.keepAon t

/-- R444: the straps are sampled: POWER_STRAP, HOST_BIFUR's part of HOSTLINK_LINKCFG (R301), and COMPAT_MODE's reset value of
every COMPAT_HJ420 (R440). -/
def State.sampleStraps (s : State) (v : Nat) : State :=
  let s := s.setWord F.POWER_STRAP.RESET_SCOPE.addr (v % 128)
  let b := if v.testBit 1 then 1 else 0
  let s := ((s.wr F.HOSTLINK_LINKCFG.BIFUR b).wr F.HOSTLINK_LINKCFG.PF3_LINK b).wr F.HOSTLINK_LINKCFG.PF2_LINK b
  if v.testBit 2 then (List.range 4100).foldl (fun s f => s.wr (F.HOSTLINK_FUNC.COMPAT_HJ420 f) 1) s else s

/-- The part in the POWER reset that it holds. -/
def State.holdReset (s : State) (vaonLost : Bool) : State :=
  let t := s.cleared vaonLost
  { t with cob := { t.cob with boot := { t.cob.boot with stage := .held } } }

def State.held (s : State) : Bool := s.cob.boot.stage == .held

/-- R321: a POWER reset. PERST_N or a hot reset raises one with RESET_SCOPE = FULL; while the part holds its POWER reset they
raise nothing. The straps are sampled at its end. -/
def execPowerReset (cause : PowerCause) (straps : Nat) (s : State) : Host.Outcome State Fault Refusal :=
  match cause with
  | .powerUp v => .next ((s.cleared v).sampleStraps straps)
  | .perst l =>
    let s := if l < 2 then { s with pwr := { s.pwr with perst := l :: s.pwr.perst.filter (fun x => x != l) } } else s
    if s.flag F.POWER_STRAP.RESET_SCOPE ∧ l < 2 ∧ s.held = false then .next ((s.cleared false).sampleStraps straps) else .next s
  | .hotReset l =>
    if s.flag F.POWER_STRAP.RESET_SCOPE ∧ l < 2 ∧ s.held = false then .next ((s.cleared false).sampleStraps straps) else .next s

/-- R446: PWRGD rises and the power-on reset of 10 ms starts. -/
def execPwrgdRise (vaonLost : Bool) (s : State) : Host.Outcome State Fault Refusal :=
  if s.pwr.pwrgd then .next s
  else
    let s := s.holdReset vaonLost
    .next (s.setPwr { s.pwr with pwrgd := true, roseAt := some s.clk.time })

/-- R446: 10 ms after PWRGD rose the power-on reset ends: the straps are sampled and the boot ROM starts. -/
def execPowerOnResetEnd (straps : Nat) (s : State) : Host.Outcome State Fault Refusal :=
  match s.pwr.roseAt with
  | none => .next s
  | some t => if t + msec 10 ≤ s.clk.time then .next ((s.cleared false).sampleStraps straps) else .next s

/-- R444: XSPI_RESET_N goes high 1 ms after the POWER reset ends. -/
def execXspiResetRelease (s : State) : Host.Outcome State Fault Refusal :=
  if s.held = false ∧ s.pwr.resetEnd + msec 1 ≤ s.clk.time then .next (s.setPwr { s.pwr with xspiReset := true }) else .next s

/-- R447: PWRGD falls: every output takes its reset state, and DRAM contents and whatever else a POWER reset clears are lost. -/
def State.pwrgdFall (s : State) : State :=
  let s := s.holdReset false
  s.setPwr { s.pwr with pwrgd := false }

def execPwrgdFall (s : State) : Host.Outcome State Fault Refusal := .next s.pwrgdFall

/-- The part runs, or its power-on reset does: a failing rail or reference acts. -/
def State.powered (s : State) : Bool := s.pwr.pwrgd && (!s.held || s.pwr.roseAt.isSome)

/-- R448: a watched rail below 90 % of nominal for 1 us acts as a fall of PWRGD and is recorded; PWRGD must then go low and
rise again. -/
def execRailUndervolt (rail : Nat) (s : State) : Host.Outcome State Fault Refusal :=
  if 6 ≤ rail ∨ s.powered = false then .next s
  else .next (((s.holdReset false).wr F.POWER_RESET_CAUSE.BROWNOUT 1).wr F.POWER_RESET_CAUSE.RAIL rail)

/-- R449: the loss of SYS_CLK for 1 us acts as a fall of PWRGD. -/
def execSysClkLoss (s : State) : Host.Outcome State Fault Refusal :=
  if s.powered then .next ((s.holdReset false).wr F.POWER_RESET_CAUSE.CLOCK 1) else .next s

/-- R449: the loss of an ETH_REFCLK takes the half's ports down until ETH_HALF_CFG.APPLY. -/
def execEthRefclkLoss (h : Nat) (s : State) : Host.Outcome State Fault Refusal :=
  if 2 ≤ h then .next s else .next (((List.range 8).foldl (fun s k => s.portDown (8 * h + k)) s).awaitApply h)

/-- R449: the loss of a HOST_REFCLK takes its link down: a HOST reset of the link with RESET_SCOPE at its default (Table
9.8). -/
def execHostRefclkLoss (l : Nat) (s : State) : Host.Outcome State Fault Refusal :=
  if 2 ≤ l then .next s
  else if s.flag F.POWER_STRAP.RESET_SCOPE then .next ((s.wr (F.HOSTLINK_LINK_STATUS.UP l) 0).wr (F.HOSTLINK_LINK_STATUS.WIDTH l) 0)
  else .next (s.hostReset l)

/-- R455: the thermal trip: THERMTRIP_N low, outputs at their reset state, every clock but the always-on domain's stopped. -/
def State.trip (s : State) : State :=
  let s := (s.holdReset false).wr F.POWER_RESET_CAUSE.TRIP 1
  s.setPwr { s.pwr with tripped := true }

/-- R452 to R455: a pass over the sensors: temperatures in quarters of a degree, and the rails and the package's power. -/
def execSensorRead (temps rails : List Nat) (watts : Nat) (s : State) : Host.Outcome State Fault Refusal :=
  if s.held then .next s
  else
    let s := s.takeReadings temps rails watts
    .next (if s.tripDue then s.trip else s.throttle.sensorEvents)

end Sys2Proof.Machine
end

