-- ==== Sys2Proof/Machine/CsrWrite.lean ====
section
/-! DEFINITION. Accesses to the CSR space by PF0 and the Cobbler, and to the function control pages (R6 to R16, R312): which
accesses are faulty, what a write of a register does beyond its access codes, and what a read clears or removes. -/

namespace Sys2Proof.Machine

open Sys2Proof

/-! ### Places of the CSR space (R8, R10) -/

/-- The offset lies in the table windows of Table 4.14. -/
def inTables (a : Nat) : Bool := decide (0x2000000 ≤ a) && decide (a < 0x4000000)

/-- The offset lies in a window that no register descriptor describes. -/
def inWindow (a : Nat) : Bool := inTables a || inLaceShadow a || inLaceActive a || inCardShadow a || inCardActive a

/-- R8: a register, window or array entry names the offset. -/
def assigned (a : Nat) : Bool := inWindow a || (findReg (regsAt a) a).isSome

/-- R7: the cause that an access is faulty for, whatever it reaches. An access wrong in size and in alignment is one of SIZE, and
either comes before UNMAPPED (DESIGN CHOICE, log entry 142). -/
def accessFault (off size : Nat) : Option Nat :=
  if size ≠ 4 ∧ size ≠ 8 then some causeSize else if off % size ≠ 0 then some causeUnaligned else none

/-- A 64-bit register begins at the offset, or a window holds it, so that an access of 8 bytes is one access. -/
def wholeAt (a : Nat) : Bool :=
  inWindow a || (match findReg (regsAt a) a with | some (d, r) => d.width == 64 && r == a | none => false)

/-- R7: the accesses that an access is served as: their offsets and sizes. -/
def subAccesses (off size : Nat) : List (Nat × Nat) :=
  if size = 8 ∧ wholeAt off = false ∧ (assigned off || assigned (off + 4)) then [(off, 4), (off + 4, 4)] else [(off, size)]

/-- The offset lies in the array of `n` registers that begins at `b` with a stride of `st`. -/
def inArray (a b st n : Nat) : Bool := decide (b ≤ a) && decide (a < b + st * n)

/-- R129, R329: the register exists for a port or link that the present configuration does not create: it reads zero and
discards writes. -/
def State.absentReg (s : State) (a : Nat) : Bool :=
  (inArray a 0xC00100 0x20 16 && !s.portExists ((a - 0xC00100) / 0x20)) ||
  (inArray a 0xC40000 0x80 16 && !s.portExists ((a - 0xC40000) / 0x80)) ||
  (inArray a 0xB00000 0x10 16 && !s.portExists ((a - 0xB00000) / 0x10)) ||
  (inArray a 0xB00400 0x20 16 && !s.portExists ((a - 0xB00400) / 0x20)) ||
  (inArray a 0xD00100 0x8 16 && !s.portExists ((a - 0xD00100) / 0x8)) ||
  (inArray a 0xD01000 0x10 16 && !s.portExists ((a - 0xD01000) / 0x10)) ||
  (inArray a 0x1700100 0x20 16 && !s.linkExists ((a - 0x1700100) / 0x20)) ||
  (inArray a 0x1701000 0x20 16 && !s.linkExists ((a - 0x1701000) / 0x20)) ||
  (inArray a 0x1730000 0x100 16 && !s.linkExists ((a - 0x1730000) / 0x100))

/-! ### Writes that are refused or discarded whole -/

/-- The command registers with GO in bit 63 and BUSY in bit 62: LAST_UPD_CMD, CIPHER_SESS_CMD, QUEUE_CMD, WELT_VOL_CMD,
HOSTLINK_ABORT, MEM_CMD and COBBLER_MBOX_CMD. -/
def commandRegs : List Nat := [0x800300, 0x1000100, 0x1200100, 0x1500100, 0x1600200, 0x1808400, 0x1E00000]

/-- The offset of a register within its MULE block. -/
def muleOff (a : Nat) : Option Nat := if 0x200000 ≤ a ∧ a < 0x500000 then some (a % 0x10000) else none

/-- Those that take no write while their command runs; the others take the write without its GO. -/
def wholeCommandRegs : List Nat := [0x1200100, 0x1600200, 0x1E00000]

/-- R59, R64, R84, R243, R328: a write of a command register whose GO is discarded while its command runs, or of a request that
stands, is discarded whole (log entry 161). -/
def State.writeWaits (s : State) (r : Nat) : Bool :=
  (wholeCommandRegs.contains r && (s.word r).testBit 62) ||
  match muleOff r with
  | some o =>
    ((decide (0x100 ≤ o) && decide (o < 0x140)) || o == 0x210) && (s.word r).testBit 31 || (o == 0x208 && (s.word r).testBit 30)
  | none => false

/-- A queue of a range of numbers is not FREE. -/
def State.queuesIn (s : State) (b n : Nat) : Bool :=
  s.q.wqs.any (fun e => decide (b ≤ e.1) && decide (e.1 < b + n)) || s.q.cqs.any (fun e => decide (b ≤ e.1) && decide (e.1 < b + n))

/-- R210, R305, QUEUE_FGRANT: a grant may not take these values. -/
def State.grantRefused (s : State) (f new : Nat) : Bool :=
  let (b, c) := (bitsOf new 15 0, bitsOf new 26 16)
  let (ob, oc) := s.grantOf f
  s.granted.any (fun g => g != f && (let (gb, gc) := s.grantOf g; rangesMeet b c gb gc && decide (0 < c) && decide (0 < gc))) ||
    ((b, c) != (ob, oc) && s.queuesIn ob oc) ||
    (decide (4 ≤ f) && decide (s.bar2Pages f < c)) || decide (1024 < c) || decide (65536 < b + c)

/-- The sum of VECTORS over the functions (R315). -/
def State.vectorSum (s : State) : Nat := s.funcList.foldl (fun n f => n + s.rd (F.HOSTLINK_FUNC.VECTORS f)) 0

/-- The function lies in the range of an ACTIVE IDE stream (R320). -/
def State.ideCovers (s : State) (f : Nat) : Bool :=
  (List.range 64).any (fun k => s.flag (F.HOSTLINK_IDE.ACTIVE k) && decide (s.rd (F.HOSTLINK_IDE.FIRST_FUNC k) ≤ f) &&
    decide (f ≤ s.rd (F.HOSTLINK_IDE.LAST_FUNC k)))

/-- R306, R315, R320: HOSTLINK_FUNC of a function may not take these values. -/
def State.funcRefused (s : State) (f old new : Nat) : Bool :=
  let diff (hi lo : Nat) : Bool := bitsOf old hi lo != bitsOf new hi lo
  (diff 55 44 || diff 61 60 || diff 27 16) &&
    (s.q.wqs.any (fun e => e.2.func == f) || s.q.cqs.any (fun e => e.2.func == f) || (s.func f).cfg.msixEn ||
      (decide (f < 4) && bitsOf new 55 44 != 0) || (diff 55 44 && s.ideCovers f) ||
      (diff 27 16 && decide (65536 < s.vectorSum - bitsOf old 27 16 + bitsOf new 27 16)))

/-- The base and size of an aperture from its words (Table 10.7). -/
def State.apertureRange (s : State) (k : Nat) (w0 : Nat) : Nat × Nat :=
  (s.rd (F.EYELET_INAP_W8.BUS_BASE k) * 4096, 2 ^ bitsOf w0 43 38)

/-- R352: an aperture's fields change only while its EN = 0, and none that meets another enabled one of its link is enabled. -/
def State.apertureRefused (s : State) (k word old new : Nat) : Bool :=
  if word ≠ 0 then s.flag (F.EYELET_INAP_W0.EN k) && old != new
  else if old.testBit 63 then old % 2 ^ 63 != new % 2 ^ 63
  else new.testBit 63 && (List.range 8).any (fun a =>
    let j := k / 8 * 8 + a
    let (b, n) := s.apertureRange k new
    let (b', n') := s.apertureRange j (s.word (0x1730000 + 0x20 * j))
    j != k && s.flag (F.EYELET_INAP_W0.EN j) && rangesMeet b n b' n')

/-- The writes that are discarded and recorded with cause LOCKED beside those of R14 (R83, R194, R210, R251, R304, R306, R315,
R320, R352, FAULT_INJECT). -/
def State.writeRefused (s : State) (who : Requester) (r new : Nat) : Bool :=
  let old := s.word r
  if inArray r 0x1210000 8 4100 then s.grantRefused ((r - 0x1210000) / 8) new
  else if inArray r 0x1610000 8 4100 then s.funcRefused ((r - 0x1610000) / 8) old new
  else if inArray r 0x1600108 8 3 then
    decide (4096 < s.totalVfs 1 + s.totalVfs 2 + s.totalVfs 3 - bitsOf old 12 0 + bitsOf new 12 0)
  else if inArray r 0x1600400 8 64 then old.testBit 63 && bitsOf old 55 44 != bitsOf new 55 44
  else if inArray r 0x1730000 0x20 128 then s.apertureRefused ((r - 0x1730000) / 0x20) ((r - 0x1730000) % 0x20) old new
  else if inArray r 0x1000214 4 19 then who == .pf0
  else if inArray r 0x1480000 0x10 32768 && r % 0x10 == 0 then
    s.partRefused ((r - 0x1480000) / 0x10 / 8) ((r - 0x1480000) / 0x10 % 8) (bitsOf new 19 0)
  else if r = 0x1B00300 then !s.cob.debugOpen
  else match muleOff r with
    | some o => decide (0x4000 ≤ o) && decide (o < 0x4040) && !s.cob.debugOpen
    | none => false

/-! ### Writes with an effect of their own -/

/-- The bits of a register that are commands, or that hardware settles: a write of them acts and leaves no value of its own
behind. -/
def commandBits (r : Nat) : Nat :=
  if commandRegs.contains r then 2 ^ 63
  else if r = 0x1600020 ∨ r = 0xD00010 then 1
  else if inArray r 0xC00000 4 2 ∨ r = 0x1400000 then 2 ^ 31
  else if inArray r 0x1700100 0x20 16 ∧ (r - 0x1700100) % 0x20 = 0 then 3 * 2 ^ 30
  else if inArray r 0x1700400 8 4 then 2 ^ 31
  else match muleOff r with
    | some o => if 0x4000 ≤ o ∧ o < 0x4040 then 0xE00 else 0
    | none => 0

/-- A register after a write by its access codes (R12 to R14). -/
def State.plainWrite (s : State) (d : RegDesc) (r off v m : Nat) : State :=
  let s := if s.locked && changesLocked d.fields (s.word r) v m then s.csrError causeLocked off true else s
  s.setWord r (writeFields d.fields s.locked (s.word r) v (m ^^^ (m &&& commandBits r)))

/-- HOSTLINK_ABORT.GO: the command is accepted; an undefined OP is refused at once (R328). -/
def State.hAbortGo (s : State) : State :=
  let op := s.rd F.HOSTLINK_ABORT.OP
  let s := s.setHost { s.host with goAt := s.clk.time, goFuncs := s.tenantFuncs (s.rd F.HOSTLINK_ABORT.TARGET % 4096) }
  let s := (s.wr F.HOSTLINK_ABORT.GO 1).wr F.HOSTLINK_ABORT.BUSY 1
  if 1 ≤ op ∧ op ≤ 4 then s else s.hAbortDone stMalformed hdBadOp 0

/-- A write of a register of a MULE block: role and bank requests, loads, RESUME and the debugger's commands. Answers none
where the write is one of access codes alone. -/
def State.muleWrite (s : State) (d : RegDesc) (m o r off v k : Nat) : State :=
  let sp (b : Nat) : Nat := 16 * m + (o - b) / 4
  if 0x100 ≤ o ∧ o < 0x140 ∧ v.testBit 31 then s.roleRequest (sp 0x100) (bitsOf v 26 24) (v.testBit 30)
  else if o = 0x208 ∧ v.testBit 31 then s.loadStart m (bitsOf v 15 0)
  else if o = 0x210 ∧ v.testBit 31 then s.swapRequest m (bitsOf v 15 0)
  else if 0x340 ≤ o ∧ o < 0x380 then (maskThreads (sp 0x340) (bitsOf v 7 0)).foldl (fun s t => s.resumeThr t) s
  else
    let s := s.plainWrite d r off v k
    if 0x4000 ≤ o ∧ o < 0x4040 then
      let mask := bitsOf v 7 0
      let s := if v.testBit 9 then s.dbgHalt (sp 0x4000) mask (v.testBit 8) else s
      let s := if v.testBit 11 then s.dbgStep (sp 0x4000) mask else s
      if v.testBit 10 then s.dbgResume (sp 0x4000) mask else s
    else s

/-- What follows a write that a command register's GO, or a bit with a consequence, carried. -/
def State.afterWrite (s : State) (who : Requester) (r old v m : Nat) : State :=
  let set (b : Nat) : Bool := m.testBit b && v.testBit b
  if commandRegs.contains r then
    if set 63 = false then s
    else if r = 0x800300 then s.lastGo
    else if r = 0x1000100 then s.sessGo (who == .cobbler)
    else if r = 0x1200100 then s.cmdIssue 0
    else if r = 0x1500100 then s.volGo
    else if r = 0x1600200 then s.hAbortGo
    else if r = 0x1808400 then s.memCmdGo
    else s.mboxGo
  else if r = 0x100020 then s.lockFollow
  else if r = 0xD00010 then (if set 0 then s.ptpStep else s).lockFollow
  else if inArray r 0xC00000 4 2 then if set 31 then s.ethApply ((r - 0xC00000) / 4) else s
  else if inArray r 0xC00100 0x20 16 ∧ (r - 0xC00100) % 0x20 = 0 then
    if old.testBit 31 ∧ (s.word r).testBit 31 = false then s.portDown ((r - 0xC00100) / 0x20) else s
  else if r = 0x1400000 then
    if m.testBit 31 ∧ s.locked = false then
      s.setCob { s.cob with boot := { s.cob.boot with bobbinEn := some (bitsOf v 31 31) } }
    else s
  else if r = 0x1600020 then if set 0 then s.intxClear 0 else s
  else if inArray r 0x1700100 0x20 16 ∧ (r - 0x1700100) % 0x20 = 0 then
    let l := (r - 0x1700100) / 0x20
    let s := if set 31 ∨ (old.testBit 29 = false ∧ (s.word r).testBit 29) then s.pwrOn l else s
    if set 30 then s.pwrOff l else s
  else if inArray r 0x1700400 8 4 then if set 31 then s.winCommit ((r - 0x1700400) / 8) else s
  else if r = 0x1808000 then
    let s := if old.testBit 63 = false ∧ (s.word r).testBit 63 then s.regionValidate else s
    s.wr F.STITCH_SYSREQ.MIN (sysreqMin (min 2 (s.rd F.MEM_GCFG.REF_MULT_MAX)) (s.rd F.MEM_GCFG.TRR_TURNS))
  else s

/-- The write buffers of both halves together pass their limit (WELT_WBUF_SIZE). -/
def State.wbufOver (s : State) : Bool := decide (2097152 < s.rd (F.WELT_WBUF_SIZE.PAGES 0) + s.rd (F.WELT_WBUF_SIZE.PAGES 1))

/-- A write of a register: the bits `m` with the value `v`, by an access at `off`. A W1C bit that hardware set in this very cycle
(`set`) stays (R15). -/
def State.regWrite (s : State) (who : Requester) (d : RegDesc) (r off v m set : Nat) : State :=
  let v := v ^^^ (v &&& set &&& d.w1c)
  let merged := (s.word r ^^^ (s.word r &&& m)) ||| (v &&& m)
  if s.absentReg r ∨ s.writeWaits r then s
  else if s.writeRefused who r merged then s.csrError causeLocked off true
  else if r = 0x100000 then s.stitchLenWrite v
  else if r = 0x100040 then s.laceCommitWrite v
  else if r = 0x600010 then s.cardCommitWrite v
  else if r = 0x1C00000 then s.domWrite merged
  else if r = 0x1C00018 then s.clkWrite v
  else if inArray r 0x1480000 0x10 32768 ∧ r % 0x10 = 0 then
    s.partWrite ((r - 0x1480000) / 0x10 / 8) ((r - 0x1480000) / 0x10 % 8) merged
  else if inArray r 0x1710000 0x1000 4 ∧ s.winPending ((r - 0x1710000) / 0x1000) then
    s.wr (F.EYELET_WIN_COMMIT.BUSY_WRITE ((r - 0x1710000) / 0x1000)) 1
  else if r = 0x1500000 ∧ s.locked = false ∧ merged.testBit 31 ∧ s.wbufOver then
    (s.csrError causeLocked off true).plainWrite d r off v (m % 2 ^ 31)
  else match muleOff r with
    | some o => s.muleWrite d ((r - 0x200000) / 0x10000) o r off v m
    | none => (s.plainWrite d r off v m).afterWrite who r (s.word r) v m

/-- One access of 4 or 8 bytes, naturally aligned, that writes. -/
def State.writeOne (s : State) (who : Requester) (off size v set : Nat) : State :=
  if inLaceShadow off then s.laceShadowWrite off size v
  else if inLaceActive off ∨ inCardActive off then s
  else if inCardShadow off then
    let s := s.cardShadowWrite off (v % 2 ^ 32)
    if size = 8 then s.cardShadowWrite (off + 4) (v / 2 ^ 32) else s
  else match findReg (regsAt off) off with
    | some (d, r) =>
      s.regWrite who d r off (v <<< (8 * (off - r))) ((2 ^ (8 * size) - 1) <<< (8 * (off - r))) (set <<< (8 * (off - r)))
    | none => s.csrError causeUnmapped off true

/-- The part of an access's word that a part of the access carries. -/
def accessPart (off v : Nat) (a : Nat × Nat) : Nat := v / 2 ^ (8 * (a.1 - off)) % 2 ^ (8 * a.2)

/-- R7, R8: a write of the CSR space. -/
def State.csrWrite (s : State) (who : Requester) (off size v set : Nat) : State :=
  match accessFault off size with
  | some c => s.csrError c off true
  | none => (subAccesses off size).foldl (fun s (a : Nat × Nat) =>
      s.writeOne who a.1 a.2 (accessPart off v a) (accessPart off set a)) s

/-! ### Reads (R7, R9, R16) -/

def State.latchOf (s : State) (who : Requester) : Option (Nat × Nat) :=
  match who with
  | .pf0 => s.latchPf0
  | .cobbler => s.latchCob
  | .fcp _ | .msix _ | .during _ _ => none

def State.setLatch (s : State) (who : Requester) (l : Option (Nat × Nat)) : State :=
  match who with
  | .pf0 => { s with latchPf0 := l }
  | .cobbler => { s with latchCob := l }
  | .fcp _ | .msix _ | .during _ _ => s

/-- What a register shows: write-only and reserved fields read zero (R12, R13), and so do the key bytes of CIPHER_SESS_DATA; an
RC field does not show the events of this very cycle (`new`, R16). -/
def State.shown (s : State) (d : RegDesc) (r new : Nat) : Nat :=
  if inArray r 0x1000214 4 19 then 0
  else d.fields.foldl (fun w f =>
    if f.acc = .wo ∨ f.acc = .rsv then w else w ||| (beforeNew d.fields (s.word r) new &&& f.mask)) 0

/-- A read of the bits `m` of a register removes the head of a FIFO it showed, and clears RC fields (R16). The most slots in use since
a read of CIPHER_SUSP are at first those in use at it. -/
def State.readEffect (s : State) (d : RegDesc) (r m new : Nat) (valid : Bool) : State :=
  match eventFifos.find? (fun q => q.addr == r) with
  | some q =>
    if m.testBit 63 = false then s
    else if valid then s.popFifo q
    else s.setFifo q { s.fifo q with dropped := 0 }
  | none =>
    if inArray r 0xD01000 0x10 16 ∧ (r - 0xD01000) % 0x10 = 8 then s.popTxts ((r - 0xD01000) / 0x10)
    else
      let s := s.setWord r (readClear d.fields (s.word r) m new)
      if inArray r 0x1000400 4 4 then s.wr (F.CIPHER_SUSP.PEAK ((r - 0x1000400) / 4)) (s.rd (F.CIPHER_SUSP.IN_USE ((r - 0x1000400) / 4)))
      else s

/-- One access of 4 or 8 bytes, naturally aligned, that reads. -/
def State.readOne (s : State) (who : Requester) (off size new : Nat) : Nat × State :=
  let latch := s.latchOf who
  let s := s.setLatch who none
  if inTables off then
    let w (k : Nat) : Nat := s.lastWindow (off + k - 0x2000000) % 2 ^ 32
    (w 0 + (if size = 8 then w 4 * 2 ^ 32 else 0), s)
  else if inLaceShadow off ∨ inLaceActive off then (s.laceRead off (size / 2), s)
  else if inCardShadow off ∨ inCardActive off then
    (s.cardWord off + (if size = 8 then s.cardWord (off + 4) * 2 ^ 32 else 0), s)
  else match findReg (regsAt off) off with
    | none => (0, s.csrError causeUnmapped off false)
    | some (d, r) =>
      if s.absentReg r then (0, s)
      else
        let new := new <<< (8 * (off - r))
        let w := s.shown d r new
        let hi := match latch with
          | some (r', h) => if r' = r then h else w / 2 ^ 32
          | none => w / 2 ^ 32
        let v := if off = r then w % 2 ^ (8 * size) else hi
        let m := (2 ^ (8 * size) - 1) <<< (8 * (off - r))
        let valid : Bool := if off = r then v.testBit 63 else v.testBit 31
        let s := s.readEffect d r m new valid
        (v, if size = 4 ∧ d.width = 64 ∧ off = r ∧ d.hwUpdated then s.setLatch who (some (r, w / 2 ^ 32)) else s)

/-- R7, R8: a read of the CSR space. -/
def State.csrRead (s : State) (who : Requester) (off size new : Nat) : Nat × State :=
  match accessFault off size with
  | some c => (allOnes size, (s.setLatch who none).csrError c off false)
  | none => (subAccesses off size).foldl (fun (p : Nat × State) (a : Nat × Nat) =>
      let (v, s) := p.2.readOne who a.1 a.2 (accessPart off new a)
      (p.1 + v * 2 ^ (8 * (a.1 - off)), s)) (0, s)

/-! ### Function control pages (R312) -/

/-- A 32-bit word of Table 9.5 outside the command block. -/
def State.fcpWord (s : State) (f o : Nat) : Nat :=
  if o = 0 then
    f ||| s.funcTenant f <<< 16 ||| s.funcHome f <<< 28 ||| s.rd (F.HOSTLINK_FUNC.COMPAT_HJ420 f) <<< 29 ||| s.fstate f <<< 30
  else if o = 4 then (s.grantOf f).2
  else if o = 8 then (if s.intxPend f then 1 else 0)
  else if o = 0xC then s.rd (F.HOSTLINK_FUNC.VECTORS f)
  else 0

/-- The descriptor of a register of the command block, as QUEUE_CMD has it (R243), with its offset in the block. -/
def blkReg (o : Nat) : Option (RegDesc × Nat) :=
  if 0x1000 ≤ o ∧ o < 0x1080 then
    let a := 0x1200100 + (o - 0x1000)
    (findReg (regsAt a) a).map (fun p => (p.1, p.2 - 0x1200100))
  else none

/-- A write of 4 bytes of a function control page; an offset that Table 9.5 does not list discards it. -/
def State.fcpWrite4 (s : State) (f o v set : Nat) : State :=
  match blkReg o with
  | some (d, b) =>
    let sh := 8 * (o - 0x1000 - b)
    let old := s.blkWord f b
    if b = 0 ∧ old.testBit 62 then s
    else
      let go := b = 0 ∧ sh = 32 ∧ v.testBit 31
      let keep := if b = 0 then 2 ^ 63 else 0
      let m := (2 ^ 32 - 1) <<< sh
      let s := s.setBlk f b (writeFields d.fields false old (v <<< sh) (m ^^^ (m &&& keep)))
      if go then s.cmdIssue f else s
  | none => if o = 8 ∧ v.testBit 0 ∧ set.testBit 0 = false ∧ f < 4 then s.intxClear f else s

/-- A read of 4 bytes of a function control page. -/
def State.fcpRead4 (s : State) (f o : Nat) : Nat :=
  match blkReg o with
  | some (_, b) => s.blkWord f b / 2 ^ (8 * (o - 0x1000 - b)) % 2 ^ 32
  | none => if o % 4 = 0 then s.fcpWord f o else 0

/-- R312, R7: the accesses of 4 bytes that an access to a page is served as, or none for a faulty one. -/
def fcpParts (off size : Nat) : Option (List Nat) :=
  if (accessFault off size).isSome ∨ 65536 ≤ off then none else some (if size = 8 then [off, off + 4] else [off])

/-! ### The MSI-X table and pending-bit array of BAR4 (R5, R313, R315) -/

/-- A write of a dword of BAR4 (Table 9.1): the table's entries take it, and what lies beyond them, the pending bits among it,
discards it. -/
def State.bar4Write4 (s : State) (f o v : Nat) : State :=
  if o / 16 < s.vectors f ∧ o < 0x8000 then s.msixWrite f (o / 16) (o / 4 % 4) (BitVec.ofNat 32 v) else s

/-- A read of a dword of BAR4: the table at 0, the pending-bit array at 0x8000, and zero beyond VECTORS entries. -/
def State.bar4Read4 (s : State) (f o : Nat) : Nat :=
  if o < 0x8000 then
    let e := s.msix f (o / 16)
    if s.vectors f ≤ o / 16 then 0
    else if o / 4 % 4 = 0 then e.addr.toNat % 2 ^ 32
    else if o / 4 % 4 = 1 then e.addr.toNat / 2 ^ 32
    else if o / 4 % 4 = 2 then e.data.toNat
    else natB e.mask
  else if o < 0x8100 then
    ((List.range 32).filter (fun k => decide (8 * (o - 0x8000) + k < s.vectors f) && (s.msix f (8 * (o - 0x8000) + k)).pend)).foldl
      (fun n k => n + 2 ^ k) 0
  else 0

/-! ### The requesters (R6, R391, R396) -/

/-- Whether the requester reaches the CSR space: not while the part is held in reset, and PF0 only once the gate is open, or,
in ROM recovery, for the COBBLER mailbox block. -/
def State.csrOpen (s : State) (who : Requester) : Bool :=
  match who with
  | .pf0 => s.locked || s.cob.boot.stage == .recovery
  | .cobbler => s.cob.boot.stage != .held && !s.pwr.tripped
  | .fcp f => s.locked && f != 0
  | .msix _ => s.locked
  | .during _ _ => false

/-- R396: in ROM recovery PF0 sees nothing but the COBBLER mailbox block. -/
def State.recoveryHides (s : State) (who : Requester) (off : Nat) : Bool :=
  who == .pf0 && !s.locked && !(decide (0x1E00000 ≤ off) && decide (off < 0x2000000))

/-- A write of a requester: of the CSR space, of a function's control page, or of its BAR4. -/
def State.accessWriteAt (s : State) (who : Requester) (off size v set : Nat) : State :=
  if s.csrOpen who = false ∨ s.recoveryHides who off then s
  else
    match who with
    | .fcp f =>
      match s.barGate f with
      | some s => s
      | none => match fcpParts off size with
        | none => s
        | some os => os.foldl (fun s o => s.fcpWrite4 f o (accessPart off v (o, 4)) (accessPart off set (o, 4))) s
    | .msix f =>
      match s.barGate f with
      | some s => s
      | none => match fcpParts off size with
        | none => s
        | some os => os.foldl (fun s o => s.bar4Write4 f o (accessPart off v (o, 4))) s
    | .pf0 => if s.fstate 0 = fsTeardown then s.count F.HOSTLINK_STAT.TEARDOWN_ACCESS.CNT 1 else (s.setLatch .pf0 none).csrWrite .pf0 off size v set
    | .cobbler => (s.setLatch .cobbler none).csrWrite .cobbler off size v set
    | .during _ _ => s

/-- A write in a cycle in which hardware sets no bit of the register. -/
def State.accessWrite (s : State) (who : Requester) (off size v : Nat) : State := s.accessWriteAt who off size v 0

/-- A read of a requester: its data, none where nothing answers, and the state after it. -/
def State.accessReadAt (s : State) (who : Requester) (off size new : Nat) : Option Nat × State :=
  if s.csrOpen who = false then (none, s)
  else if s.recoveryHides who off then (some 0, s)
  else
    match who with
    | .fcp f =>
      match s.barGate f with
      | some s => (some (allOnes size), s)
      | none => match fcpParts off size with
        | none => (some (allOnes size), s)
        | some os => (some (os.foldl (fun n o => n + s.fcpRead4 f o * 2 ^ (8 * (o - off))) 0), s)
    | .msix f =>
      match s.barGate f with
      | some s => (some (allOnes size), s)
      | none => match fcpParts off size with
        | none => (some (allOnes size), s)
        | some os => (some (os.foldl (fun n o => n + s.bar4Read4 f o * 2 ^ (8 * (o - off))) 0), s)
    | .pf0 =>
      if s.fstate 0 = fsTeardown then (some (allOnes size), s.count F.HOSTLINK_STAT.TEARDOWN_ACCESS.CNT 1)
      else let (v, s) := s.csrRead .pf0 off size new; (some v, s)
    | .cobbler => let (v, s) := s.csrRead .cobbler off size new; (some v, s)
    | .during _ _ => (none, s)

/-- A read in a cycle in which nothing is counted. -/
def State.accessRead (s : State) (who : Requester) (off size : Nat) : Option Nat × State := s.accessReadAt who off size 0

/-- A read answers its data to the requester. -/
def State.readOut (s : State) (who : Requester) (off size : Nat) : State :=
  match s.accessReadAt who.base off size who.news with
  | (some v, s) => s.emit (.csrData who.base off size v)
  | (none, s) => s

/-! ### The commands -/

/-- R6 to R8, R12 to R15: a write of `size` bytes. A W1C bit that hardware set in this very cycle keeps its 1. -/
def execCsrWrite (who : Requester) (off size : Nat) (v : W64) (s : State) : Host.Outcome State Fault Refusal :=
  .next (s.accessWriteAt who.base off size v.toNat who.news)

/-- R7, R8: a read of a size or alignment, or of an offset, that R7 and R8 do not allow; any other read is RC_READ's. -/
def execCsrFaultyRead (who : Requester) (off size : Nat) (s : State) : Host.Outcome State Fault Refusal :=
  if (accessFault off size).isSome ∨ (subAccesses off size).any (fun a => !assigned a.1) then .next (s.readOut who off size)
  else .next s

/-- R9: a read of the lower half of a 64-bit register latches its upper half. -/
def execCsrLowerHalfRead (who : Requester) (off : Nat) (s : State) : Host.Outcome State Fault Refusal :=
  .next (s.readOut who off 4)

/-- R12, R16: a read that clears what it shows. A read of fields without that property takes this command too, and clears
nothing. Events counted in this very cycle are not shown, and the counter keeps them. -/
def execRcRead (who : Requester) (off size : Nat) (s : State) : Host.Outcome State Fault Refusal :=
  .next (s.readOut who off size)

end Sys2Proof.Machine
end

