-- ==== Sys2Proof/Machine/Boot.lean ====
section
/-! DEFINITION. The boot: the choice of a slot, the chunks as they land, memory training, the configuration records, the
opening of the output gate, and the boots that fail (R371, R389 to R398). -/

namespace Sys2Proof.Machine

open Sys2Proof

def State.setBoot (s : State) (b : Boot) : State := s.setCob { s.cob with boot := b }

/-! ### Choosing a slot (R389, R395) -/

/-- R395: the candidates in order: only G with FORCE_GOLDEN_N low, otherwise the updatable slot of the higher sequence number,
then of the higher SVN, A before B, the other one, and G. -/
def State.candidates (s : State) : List Nat :=
  let svn (slot : Nat) : Nat := mfSvn (flashRead s.flash (slotBase slot) chunkSize)
  let a := s.seqOf 0
  let b := s.seqOf 1
  if s.flag F.POWER_STRAP.FORCE_GOLDEN_N = false then [2]
  else if a < b ∨ (a = b ∧ svn 0 < svn 1) then [1, 0, 2]
  else [0, 1, 2]

/-- R395: the first candidate that has not failed and whose manifest is valid; an invalid one is skipped and recorded. -/
def State.pickSlot (s : State) : List Nat → Option Nat × State
  | [] => (none, s)
  | c :: t =>
    if s.cob.failed.contains c then s.pickSlot t
    else match s.slotValid c with
      | none => (some c, s)
      | some d => (s.recordFail c d).pickSlot t

/-- R396: nothing is left to boot: the part waits in ROM recovery. -/
def State.enterRecovery (s : State) : State :=
  let s := (s.wr F.COBBLER_BOOT_STATUS.SLOT 3).wr F.COBBLER_BOOT_STATUS.RECOVERY 1
  s.setBoot { s.cob.boot with stage := .recovery, slot := 3 }

/-- R395, R431, R400: the ROM reads the journal, applies the repairs and derives the device KEK. -/
def State.romStart (s : State) : State :=
  let s := s.journalScan.applyRepairs
  let s := s.restoreLedger s.journalRecs
  { s with cipher := { s.cipher with kek := Config.deviceKek (s.flag F.COBBLER_BOOT_STATUS.DEBUG_OPENED) } }

/-- R389, R395: the ROM starts, and chooses a candidate whose manifest it reads. -/
def execBootSlotStart (s : State) : Host.Outcome State Fault Refusal :=
  if s.cob.boot.stage ≠ .choosing then .next s
  else
    let s := s.romStart
    match s.pickSlot s.candidates with
    | (none, s) => .next s.enterRecovery
    | (some c, s) =>
      let m := flashRead s.flash (slotBase c) chunkSize
      let key := match s.checkManifest m with | .ok k => k | .error _ => 0
      let s := s.devWrite s.bootStore m
      .next (s.setBoot { s.cob.boot with stage := .streaming 0, slot := c, manifest := m, key := key })

/-! ### Chunks (R389, R390) -/

/-- A component's bytes in the boot store. -/
def State.bootComp (s : State) (k : Nat) : Bytes :=
  let c := mfComp s.cob.boot.manifest k
  s.devRead (s.bootStore + chunkSize + c.off) c.len

/-- The bytes of the first component of a type in the boot store. -/
def State.bootType (s : State) (t : Nat) : Bytes :=
  match (List.range (mfComps s.cob.boot.manifest)).find? (fun k => (mfComp s.cob.boot.manifest k).type == t) with
  | some k => s.bootComp k
  | none => []

/-- R394: the boot of the slot fails. -/
def State.bootFail (s : State) (detail : Nat) : State := s.setBoot { s.cob.boot with stage := .failed detail }

/-- R389, step 4: the firmware starts, and memory training with it, for which the spare PHYs are powered (R371). -/
def State.startFirmware (s : State) : State :=
  let s := s.loadFirmware (s.bootComp 0) (mfComp s.cob.boot.manifest 0).target
  ((s.setBoot { s.cob.boot with firmware := true }).hwDomain 58 true).hwDomain 59 true

/-- R389, step 5: every chunk has matched, and the set is the running one. -/
def State.setLanded (s : State) : State :=
  let b := s.cob.boot
  let m := b.manifest
  let r : RunSet :=
    { slot := b.slot, svn := mfSvn m, key := b.key, flags := mfFlags m, buildId := mfBuild m, body := mfBody m,
      cobbler := s.bootComp 0, storage := s.bootType tStorage, config := s.bootType tConfig }
  let s := s.setCob { s.cob with run := some r, boot := { b with stage := .landed } }
  s.showRun r

/-- R389: the next chunk lands in the boot store, or its read fails, and it is hashed and compared. The chunks of a recovery
image are in the boot store already. -/
def execChunkLanded (ok : Bool) (s : State) : Host.Outcome State Fault Refusal :=
  let b := s.cob.boot
  match b.stage with
  | .streaming k =>
    if ok = false then .next (s.bootFail mdFlash)
    else
      let a := s.bootStore + chunkSize * (k + 1)
      let s := if b.slot = 3 then s else s.devWrite a (flashRead s.flash (slotBase b.slot + chunkSize * (k + 1)) chunkSize)
      if sha384 (s.devRead a chunkSize) ≠ mfHash b.manifest k then .next (s.bootFail mdHash)
      else
        let s := if k + 1 = mfCobChunks b.manifest then s.startFirmware else s
        if k + 1 = mfChunks b.manifest then .next s.setLanded
        else .next (s.setBoot { s.cob.boot with stage := .streaming (k + 1) })
  | _ => .next s

/-! ### Training (R371) -/

/-- R371, R377: a channel that fails initial training is retired, and its half's spare takes its place at once. -/
def State.trainFail (s : State) (i : Nat) : State :=
  let sp := spareOf i
  if i = sp then s.retireChannel i
  else
    let s := s.retireChannel i
    match AMap.get? s.dram.spareFor (chanHalf i) with
    | none => s
    | some (logical, _) =>
      let s := { s with dram := { s.dram with spareFor := AMap.del s.dram.spareFor (chanHalf i) } }
      let s := (s.wr (F.MEM_CH_STATUS.LOGICAL sp) logical).wr (F.MEM_CH_STATUS.STATE sp) chActive
      let s := s.wr F.FAULT_SPARE.DRAM (s.rd F.FAULT_SPARE.DRAM - 1)
      (s.event memEvq (memEvent 4 0 sp 0)).spareIn 5 sp

/-- R355: the geometry that the Cobbler reads from the devices at training, the same for every channel. -/
def State.showGeometry (s : State) (rank row col cap : Nat) : State :=
  (List.range 18).foldl (fun s i => (((s.wr (F.MEM_CH_GEOM.RANK i) rank).wr (F.MEM_CH_GEOM.ROW i) row).wr (F.MEM_CH_GEOM.COL i) col).wr
    (F.MEM_CH_GEOM.CAPACITY i) cap) s

/-- R371, R355: training ends: the geometry is reported, the channels that failed it are retired, spares first, and the PHY of a spare that serves nothing is
powered down. -/
def execDramTrainingDone (failed : List Nat) (rank row col cap : Nat) (s : State) : Host.Outcome State Fault Refusal :=
  if s.cob.boot.firmware = false ∨ s.dram.trained.isSome then .next s
  else
    let bad := ([8, 17].filter failed.contains) ++ (List.range 18).filter (fun i => failed.contains i && i != 8 && i != 17)
    let s := bad.foldl (fun s i => s.trainFail i) (s.showGeometry rank row col cap)
    let s := { s with dram := { s.dram with trained := some s.clk.time } }
    .next ([0, 1].foldl (fun s h => if s.chState (spareOf (9 * h)) = chActive then s else s.hwDomain (58 + h) false) s)

/-! ### Configuration records (R397) -/

/-- The CONFIG component of the set being booted. -/
def State.config (s : State) : Bytes := (s.cob.run.map (fun r => r.config)).getD []

/-- The records go on at a byte offset: they end with END or their last whole record, an undefined OP fails, and a POLL's time
begins. -/
def State.configAt (s : State) (o : Nat) : State :=
  let cfg := s.config
  let r := cfgRec cfg o
  if cfg.length < o + 16 then s.setBoot { s.cob.boot with stage := .configured }
  else if r.op = 0 ∨ 8 < r.op then s.bootFail mdConfig
  else s.setBoot { s.cob.boot with stage := .config o, pollAt := if r.op = 6 then some s.clk.time else none }

/-- R392, R397: once every chunk has matched and training has ended, the records begin. -/
def execConfigRun (s : State) : Host.Outcome State Fault Refusal :=
  if s.cob.boot.stage = .landed ∧ s.dram.trained.isSome then .next (s.configAt 0) else .next s

/-- The record that is to run, if its OP is the one given, with its offset. -/
def State.record (s : State) (op : Nat) : Option (Nat × CfgRec) :=
  match s.cob.boot.stage with
  | .config o => let r := cfgRec s.config o; if r.op = op then some (o, r) else none
  | _ => none

/-- R397: an access that the Cobbler makes for a record, and whether GLOBAL_CSR_ERR has recorded it. -/
def State.recorded (s t : State) : Bool := decide (s.rd F.GLOBAL_CSR_ERR_CNT.COUNT < t.rd F.GLOBAL_CSR_ERR_CNT.COUNT)

/-- A record of writes has run: the next one follows, unless an access has been recorded. -/
def State.recordDone (s t : State) (o : Nat) : State := if s.recorded t then t.bootFail mdConfig else t.configAt (o + 16)

def execW32 (s : State) : Host.Outcome State Fault Refusal :=
  match s.record 1 with
  | none => .next s
  | some (o, r) => .next (s.recordDone (s.accessWrite .cobbler r.off 4 (r.value % 2 ^ 32)) o)

def execW64 (s : State) : Host.Outcome State Fault Refusal :=
  match s.record 2 with
  | none => .next s
  | some (o, r) => .next (s.recordDone (s.accessWrite .cobbler r.off 8 r.value) o)

/-- COPY: a component goes to tenant 0 memory. -/
def execCopy (s : State) : Host.Outcome State Fault Refusal :=
  match s.record 3 with
  | none => .next s
  | some (o, r) =>
    match s.copyComp (s.storeSetBytes s.cob.boot.manifest) r with
    | none => .next (s.bootFail mdConfig)
    | some t => .next ((t.setBoot { t.cob.boot with copies := AMap.set t.cob.boot.copies r.comp r.value }).configAt (o + 16))

/-- ADDR64: the address of a component's COPY, plus VALUE. -/
def execAddr64 (s : State) : Host.Outcome State Fault Refusal :=
  match s.record 4 with
  | none => .next s
  | some (o, r) =>
    match AMap.get? s.cob.boot.copies r.comp with
    | none => .next (s.bootFail mdConfig)
    | some a => .next (s.recordDone (s.accessWrite .cobbler r.off 8 ((a + r.value) % 2 ^ 64)) o)

/-- The words of a component, written to registers from an offset upward. -/
def State.writeBlock (s : State) (bs : Bytes) (off : Nat) : State :=
  (List.range ((bs.length + 3) / 4)).foldl (fun s k => s.accessWrite .cobbler (off + 4 * k) 4 (leAt bs (4 * k) 4)) s

/-- CSR_BLOCK: the bytes of a component, 4 at a time. -/
def execCsrBlock (s : State) : Host.Outcome State Fault Refusal :=
  match s.record 5 with
  | none => .next s
  | some (o, r) =>
    if mfComps s.cob.boot.manifest ≤ r.comp then .next (s.bootFail mdConfig)
    else .next (s.recordDone (s.writeBlock (s.bootComp r.comp) r.off) o)

/-- POLL: one read of the register; the record ends when it matches within 100 ms. -/
def execPoll (s : State) : Host.Outcome State Fault Refusal :=
  match s.record 6, s.cob.boot.pollAt with
  | some (o, r), some t0 =>
    match s.accessRead .cobbler r.off 4 with
    | (v, t) =>
      if s.recorded t then .next (t.bootFail mdConfig)
      else if v.getD 0 &&& r.value % 2 ^ 32 = r.value / 2 ^ 32 ∧ s.clk.time ≤ t0 + msec 100 then .next (t.configAt (o + 16))
      else .next t
  | _, _ => .next s

/-- R397: a POLL not met within 100 ms. -/
def execPollTimeout (s : State) : Host.Outcome State Fault Refusal :=
  match s.record 6, s.cob.boot.pollAt with
  | some _, some t0 => if t0 + msec 100 < s.clk.time then .next (s.bootFail mdConfig) else .next s
  | _, _ => .next s

/-- END: later bytes are ignored. -/
def execCfgEnd (s : State) : Host.Outcome State Fault Refusal :=
  match s.record 8 with
  | none => .next s
  | some _ => .next (s.setBoot { s.cob.boot with stage := .configured })

/-! ### STORAGE_ASSIGN (R398) -/

/-- STORAGE_ASSIGN as a configuration record: it ends once every role change has. -/
def State.assignRecord (s : State) (o : Nat) (r : CfgRec) : State :=
  match s.cob.assign with
  | some a =>
    if a.boot = false ∨ s.assignEnded a = false then s
    else (s.assignEnd a).2.configAt (o + 16)
  | none =>
    match s.assignStart .csr true (r.value % 64) (bitsOf r.value 31 16) with
    | (some _, t) => t.configAt (o + 16)
    | (none, t) => t

/-- STORAGE_ASSIGN as a mailbox command: it completes once every role change has, or with the first refusal. -/
def State.assignCommand (s : State) (via : MboxVia) : State :=
  match s.cob.assign with
  | some a =>
    if a.boot ∨ a.via ≠ via ∨ s.assignEnded a = false then s
    else
      let ((st, d), s) := s.assignEnd a
      s.mboxAnswer via st d []
  | none =>
    let s := s.mboxHeard via
    match s.mboxTake via with
    | none => s
    | some c =>
      if c.op ≠ 5 then s
      else match c.refused with
        | some d => s.mboxReply via d []
        | none =>
          match s.assignStart via false (leAt c.args 0 1) (leAt c.args 2 2) with
          | (some (st, d), s) => s.mboxAnswer via st d []
          | (none, s) => s

/-- R398: STORAGE_ASSIGN of the configuration record (no path) or of a mailbox command. -/
def execStorageAssign (via : Option MboxVia) (s : State) : Host.Outcome State Fault Refusal :=
  match via with
  | some v => .next (s.assignCommand v)
  | none => match s.record 7 with
    | none => .next s
    | some (o, r) => .next (s.assignRecord o r)

/-! ### The gate (R392, R393) and failed boots (R394) -/

/-- R396: the recovered set is written into slot A, or into slot B if A is valid, by the procedure of R406. -/
def State.storeRecovered (s : State) (bs : Bytes) (ok : Bool) : State :=
  let slot := if (s.slotValid 0).isNone then 1 else 0
  let seq := max (s.rd F.COBBLER_SEQ.SEQ_A) (s.rd F.COBBLER_SEQ.SEQ_B) + 1
  if 0xFFFFFFFE < seq then s
  else
    let s := s.journalPut ⟨jSlotSeq, slot, toLE 4 0⟩
    let img := if ok then bs else debris s.freeCtr bs.length
    let s := { s with flash := flashWrite (flashErase s.flash (slotBase slot) 0x4000000) (slotBase slot) img }
    if ok then s.journalPut ⟨jSlotSeq, slot, toLE 4 seq⟩ else s.tookFree

/-- The microseconds since R393's interval began: the end of the power-on reset, or PERST_N's rise if that came later. -/
def State.bootTime (s : State) : Nat := (s.clk.time - max s.cob.boot.since (AMap.getD s.host.perst 0 0)) / usec 1

/-- R392: the boot store is zero-filled, a BOBBIN_CFG.EN that CONFIG wrote is applied, RWL fields lock and the gate opens; a
recovered set is then stored, `ok` saying whether the flash took it. -/
def execOutputGateOpen (ok : Bool) (s : State) : Host.Outcome State Fault Refusal :=
  if s.cob.boot.stage ≠ .configured then .next s
  else
    let bs := s.storeSetBytes s.cob.boot.manifest
    let s := s.zeroFill s.bootStore setMax
    let s := match s.cob.boot.bobbinEn with
      | some 1 => if s.flag F.BOBBIN_STATUS.READY then s else s.bobbinEnable
      | some _ => s.wr F.BOBBIN_CFG.EN 0
      | none => s
    let s := (s.wr F.COBBLER_GATE_TIME.US (min s.bootTime (2 ^ 32 - 1))).wr F.COBBLER_BOOT_STATUS.GATE_OPEN 1
    let s := s.setBoot { s.cob.boot with stage := .opened, bobbinEn := none, pollAt := none }
    let s := s.journalNew
    .next (if s.cob.boot.slot = 3 then s.storeRecovered bs ok else s)

/-- R394: everything but the always-on domain is reset; the straps keep what was sampled, and the pins and R393's interval go
on. -/
def State.bootReset (s : State) : State :=
  let t := (s.cleared false).sampleStraps (s.word F.POWER_STRAP.RESET_SCOPE.addr)
  { t with
    pwr := { t.pwr with resetEnd := s.pwr.resetEnd, xspiReset := s.pwr.xspiReset }
    host := { t.host with perst := s.host.perst }
    cob := { t.cob with failed := s.cob.failed, boot := { t.cob.boot with since := s.cob.boot.since } } }

/-- R394, R396: a failed boot is recorded, and the next candidate is to boot; a recovered set that fails leaves the part in
ROM recovery. -/
def execSlotBootFail (s : State) : Host.Outcome State Fault Refusal :=
  match s.cob.boot.stage with
  | .failed d =>
    let slot := s.cob.boot.slot
    let s := (s.recordFail slot d).wr F.COBBLER_BOOT_STATUS.TRIES (min 15 (s.rd F.COBBLER_BOOT_STATUS.TRIES + 1))
    let s := s.setCob { s.cob with failed := slot :: s.cob.failed.filter (fun x => x != slot) }
    if slot = 3 then .next s.bootReset.romStart.enterRecovery else .next s.bootReset
  | _ => .next s

end Sys2Proof.Machine
end

