-- ==== Sys2Proof/Machine/Editor.lean ====
section
/-! DEFINITION. The Editor (R159 to R167): the release of a packet, its action words one after another, and its delivery. -/

namespace Sys2Proof.Machine

open Sys2Proof

/-! ### Action words (Table 4.11) -/

def opOf (w : W64) : Nat := w.toNat / 2 ^ 56

/-- The bits of a word that its opcode gives a meaning; none for an undefined opcode. -/
def wordMask (op : Nat) : Option Nat :=
  if op = 0x01 then some (0xFF <<< 48 ||| 0xF <<< 32 ||| 0xFFFFFFFF)
  else if op = 0x02 then some 0xFFFFFFFF
  else if op = 0x03 ∨ op = 0x14 then some 0
  else if op = 0x04 ∨ op = 0x05 then some (0xFF <<< 48 ||| 0xFFFFFF)
  else if op = 0x06 ∨ op = 0x0B then some 7
  else if op = 0x07 then some 0x377
  else if op = 0x08 then some 0xFFFFFF
  else if op = 0x09 then some 0x3F
  else if op = 0x10 then some (0xFFFF <<< 32 ||| 0xFF <<< 16 ||| 0x370F)
  else if op = 0x11 then some 0xFFFF
  else if op = 0x12 then some (0x3FF <<< 40 ||| 0xFFFFFFFF)
  else if op = 0x13 then some 0xFFFFFFF
  else none

def isDelivery (op : Nat) : Bool := decide (0x10 ≤ op) && decide (op ≤ 0x14)

/-- A defined opcode, reserved bits zero, and a SET of 1 to 4 bytes. -/
def wordOk (w : W64) : Bool :=
  match wordMask (opOf w) with
  | some m => (w.toNat % 2 ^ 56) &&& (2 ^ 56 - 1 - m) == 0 &&
      (opOf w != 1 || (decide (1 ≤ bitsOf w.toNat 35 32) && decide (bitsOf w.toNat 35 32 ≤ 4)))
  | none => false

/-- The words of a list up to its delivery word; the flag says that it has one. -/
def listBody : List W64 → List W64 × Bool
  | [] => ([], false)
  | w :: t => if isDelivery (opOf w) then ([w], true) else ((w :: (listBody t).1), (listBody t).2)

/-- R161, R162: the detail of Table 4.15 for a list that cannot run, or 0. -/
def listFault (l : List W64) : Nat :=
  let (b, d) := listBody l
  if 32 < l.length then 1
  else if !b.all wordOk then 3
  else if 1 < (b.filter (fun w => opOf w == 8)).length ∨ 2 < (b.filter (fun w => opOf w == 9)).length then 3
  else if d = false then 2
  else 0

/-! ### Release (R159, R161) -/

/-- A packet goes to the slow path as MALFORMED. -/
def State.malformed (s : State) (id detail : Nat) : State := (s.count F.EDIT_STAT.MALFORMED.CNT 1).slowPath id 2 stMalformed detail

/-- R159: an earlier packet of the order domain of a packet, or of its SERIAL flow, still stands. -/
def State.releaseWaits (s : State) (id : Nat) (p : Packet) : Bool :=
  let domain := p.source == 0 && s.flag (F.ETH_PORT_CFG.ORDERED p.port)
  let serial := match p.flow with | some k => ctxSerial (s.ctxBytes k) | none => false
  s.net.pkts.any (fun (e : Nat × Packet) => decide (e.1 < id) &&
    ((domain && e.2.source == 0 && e.2.port == p.port && e.2.tc == p.tc) || (serial && e.2.flow == p.flow)))

/-- R161, step 1: the dirty range is written over the packet's own bytes. -/
def State.writeDirty (s : State) (p : Packet) : State :=
  match p.dirty with
  | some (o, bs) => s.overwriteChain p.handle (putB (s.pktBytes p) o (bs.take (p.len - o)))
  | none => s

/-- R159, R161: the Editor releases a packet: it writes the dirty range, checks the list, and stands at the first word. A packet whose
bobbins hold data that cannot be corrected goes to the slow path (R264; DETAIL 0x0C, DEDUCED, log entry 160). -/
def execEditorPacketRelease (id : Nat) (s : State) : Host.Outcome State Fault Refusal :=
  match s.pkt? id with
  | none => .next s
  | some p =>
    if p.stage ≠ .editor ∨ s.releaseWaits id p then .next s
    else if s.chainBad p.handle then .next (s.slowPath id 2 stDeviceError bdEcc).checkXon
    else
      let s := (s.writeDirty p).modPkt id (fun p => { p with dirty := none })
      if listFault p.list ≠ 0 then .next (s.malformed id (listFault p.list)).checkXon
      else .next ((s.count F.EDIT_STAT.LISTS.CNT 1).modPkt id (fun p => { p with stage := .running 0 }))

/-! ### Rewriting words -/

/-- The packet whose next word is of opcode `op`, with the word's place and the word. -/
def State.nextWord (s : State) (id op : Nat) : Option (Packet × Nat × Nat) :=
  match s.pkt? id with
  | none => none
  | some p =>
    match p.stage with
    | .running i =>
      match p.list[i]? with
      | some w => if opOf w = op then some (p, i, w.toNat) else none
      | none => none
    | _ => none

/-- The packet stands at its next word. -/
def State.advance (s : State) (id i : Nat) : State := s.modPkt id (fun p => { p with stage := .running (i + 1) })

/-- The packet takes new bytes of the same length. -/
def State.putBytes (s : State) (p : Packet) (bs : Bytes) : State := s.overwriteChain p.handle bs

/-- A header grows or shrinks: growth beyond 128 bytes in all is malformed (R161). -/
def State.reshape (s : State) (id i : Nat) (p : Packet) (grow : Int) (bs : Bytes) (layers : List Nat) : State :=
  let g := p.growth + grow.toNat
  if 128 < g then s.malformed id 4
  else match s.rewrite id p grow bs layers g with
    | (true, s) => s.advance id i
    | (false, s) => s

/-- The offset of a layer as it stands; none where unmarked (R162). -/
def Packet.layer (p : Packet) (k : Nat) : Option Nat :=
  p.layers[k]?.filter (· ≠ noLayer)

/-- SET: the last LEN bytes of DATA at OFF, in network order. Bytes beyond the packet's end are not written. -/
def execSet (id : Nat) (s : State) : Host.Outcome State Fault Refusal :=
  match s.nextWord id 0x01 with
  | none => .next s
  | some (p, i, w) =>
    let off := bitsOf w 55 48
    let n := bitsOf w 35 32
    if 256 < off + n then .next (s.malformed id 5)
    else
      let d := (toBE n (w % 2 ^ (8 * n))).take (p.len - off)
      .next ((s.putBytes p (putB (s.pktBytes p) off d)).advance id i)

/-- VLAN_PUSH: a 4-byte tag after byte 11. -/
def execVlanPush (id : Nat) (s : State) : Host.Outcome State Fault Refusal :=
  match s.nextWord id 0x02 with
  | none => .next s
  | some (p, i, w) =>
    let b := s.pktBytes p
    .next (s.reshape id i p 4 (sliceB b 0 12 ++ toBE 4 (w % 2 ^ 32) ++ b.drop 12) (shiftIn p.layers 12 4))

/-- VLAN_POP: the tag at byte 12 is removed where one stands there, and counted as skipped otherwise. -/
def execVlanPop (id : Nat) (s : State) : Host.Outcome State Fault Refusal :=
  match s.nextWord id 0x03 with
  | none => .next s
  | some (p, i, _) =>
    let b := s.pktBytes p
    if 16 ≤ b.length ∧ tagged b then .next (s.reshape id i p (-4) (b.take 12 ++ b.drop 16) (shiftOut p.layers 12 4))
    else .next ((s.count F.EDIT_STAT.SKIPPED.CNT 1).advance id i)

/-- R163: a template's header over the inner packet, its lengths, source port, checksums and VNI filled in. -/
def encapsulate (tpl h : Bytes) (vxlan : Bool) (vni : Nat) (inner : Bytes) : Bytes :=
  let v6 := (leAt tpl 1 1).testBit 0
  let l3 := (l3Of h).1
  let l4 := l3 + (if v6 then 40 else ihl h l3)
  let out := h ++ (if vxlan then toBE 4 0x08000000 ++ toBE 4 0 else []) ++ inner
  let mix := (hmixEval (wordOf (sliceB inner 0 8)) (wordOf (sliceB inner 8 8))).toNat
  let out := putB out (l4 + 12) (toBE 3 vni)
  let out := putB out l4 (toBE 2 (0xC000 ||| mix % 2 ^ 14))
  let out := putB out (l4 + 4) (toBE 2 (out.length - l4))
  let out := if v6 then putB out (l3 + 4) (toBE 2 (out.length - l3 - 40)) else fixIpv4 (putB out (l3 + 2) (toBE 2 (out.length - l3))) l3
  if v6 ∨ (leAt tpl 1 1).testBit 1 then fixL4 out l3 l4 17 else putB out (l4 + 6) (toBE 2 0)

/-- ENCAP_VXLAN and ENCAP_GENEVE. -/
def State.encapWord (s : State) (id op : Nat) (vxlan : Bool) : State :=
  match s.nextWord id op with
  | none => s
  | some (p, i, w) =>
    let tpl := s.template (bitsOf w 55 48)
    match tplHeader tpl with
    | none => s.malformed id 6
    | some h =>
      let b := s.pktBytes p
      let out := encapsulate tpl h vxlan (w % 2 ^ 24) b
      s.reshape id i p (Int.ofNat (out.length - b.length)) out (shiftIn p.layers 0 (out.length - b.length))

def execEncapVxlan (id : Nat) (s : State) : Host.Outcome State Fault Refusal := .next (s.encapWord id 0x04 true)
def execEncapGeneve (id : Nat) (s : State) : Host.Outcome State Fault Refusal := .next (s.encapWord id 0x05 false)

/-- DECAP: the bytes before a layer are removed. -/
def execDecap (id : Nat) (s : State) : Host.Outcome State Fault Refusal :=
  match s.nextWord id 0x06 with
  | none => .next s
  | some (p, i, w) =>
    match p.layer (w % 8) with
    | none => .next (s.malformed id 5)
    | some o => .next (s.reshape id i p (-Int.ofNat o) ((s.pktBytes p).drop o) (shiftOut p.layers 0 o))

/-- The protocol of the IP header at an offset. -/
def protoAt (b : Bytes) (l3 : Nat) : Nat :=
  let v := (b.getD l3 0).toNat / 16
  if v = 4 then (b.getD (l3 + 9) 0).toNat else if v = 6 then (b.getD (l3 + 6) 0).toNat else 0

/-- CSUM (R164): the IPv4 header checksum and the TCP or UDP checksum. A layer that holds neither is counted. -/
def execCsum (id : Nat) (s : State) : Host.Outcome State Fault Refusal :=
  match s.nextWord id 0x07 with
  | none => .next s
  | some (p, i, w) =>
    let b := s.pktBytes p
    match p.layer (w % 8), p.layer (bitsOf w 6 4) with
    | some l3, l4? =>
      if w.testBit 9 ∧ l4?.isNone then .next (s.malformed id 5)
      else
        let l4 := l4?.getD 0
        let proto := protoAt b l3
        let do3 := w.testBit 8 && (b.getD l3 0).toNat / 16 == 4
        let do4 := w.testBit 9 && (proto == 6 || proto == 17)
        let b := if do3 then fixIpv4 b l3 else b
        let b := if do4 then (fixL4 b l3 l4 proto).take b.length else b
        let s := if (w.testBit 9 ∧ do4 = false) ∨ (w.testBit 8 ∧ do3 = false) then s.count F.EDIT_STAT.SKIPPED.CNT 1 else s
        .next ((s.putBytes p b).advance id i)
    | none, _ => .next (if w.testBit 8 ∨ w.testBit 9 then s.malformed id 5 else s.advance id i)

/-- TTL_DEC: the IPv4 TTL, with its checksum, or the IPv6 hop limit; 0 or 1 goes to the slow path (R164). -/
def execTtlDec (id : Nat) (s : State) : Host.Outcome State Fault Refusal :=
  match s.nextWord id 0x0B with
  | none => .next s
  | some (p, i, w) =>
    match p.layer (w % 8) with
    | none => .next (s.malformed id 5)
    | some o =>
      let b := s.pktBytes p
      let v4 := (b.getD o 0).toNat / 16 == 4
      let ttlAt := if v4 then o + 8 else o + 7
      let t := (b.getD ttlAt 0).toNat
      if t ≤ 1 then .next (s.slowPath id 2 stRange 7)
      else
        let b' := putB b ttlAt (toBE 1 (t - 1))
        .next ((s.putBytes p ((if v4 then adjustIpv4 b b' o (o + 8) else b').take b.length)).advance id i)

/-- CRYPTO (R165, R186): the packet waits for the cipher unit. -/
def execCrypto (id : Nat) (s : State) : Host.Outcome State Fault Refusal :=
  match s.nextWord id 0x08 with
  | none => .next s
  | some (p, i, w) => .next (s.cryptoSubmit id i p (bitsOf w 23 20) (w % 2 ^ 20))

/-! ### Delivery (R166, R167) -/

/-- R167: a port takes a frame of `n` bytes: the flag says that only its MTU forbids it. -/
def State.portTakes (s : State) (port n : Nat) : Bool × Bool :=
  if s.portExists port = false ∨ s.linkUp port = false ∨ (port / 8 = 1 ∧ s.fencedB) then (false, false)
  else if s.rd (F.ETH_PORT_CFG.MTU port) < n then (false, true)
  else (true, false)

/-- A chain reaches the half of a port. -/
def State.toHalf (s : State) (handle t h : Nat) : Option Nat × State :=
  if handleHalf handle = h then (some handle, s) else s.moveChain handle t h

/-- TO_PORT: the packet enters an egress queue. -/
def execToPort (id : Nat) (s : State) : Host.Outcome State Fault Refusal :=
  match s.nextWord id 0x10 with
  | none => .next s
  | some (p, _, w) =>
    let port := w % 16
    match s.portTakes port p.len with
    | (false, mtu) => .next ((if mtu then s.count F.EDIT_STAT.MTU_DROP.CNT 1 else s).deliveryDrop id)
    | (true, _) =>
      match s.toHalf p.handle p.tenant (port / 8) with
      | (none, s) => .next ((s.delPkt id).count F.EDIT_STAT.DELIVERY_DROP.CNT 1).checkXon
      | (some b, s) =>
        let f : EgFrame :=
          { handle := b, len := p.len, tenant := p.tenant, tstag := if w.testBit 12 then some (bitsOf w 47 32) else none,
            ptpOff := if w.testBit 13 then some (bitsOf w 23 16) else none }
        .next ((s.delPkt id).enqueueFrame port (bitsOf w 10 8) f).2.checkXon

/-- TO_HOSTQ: the packet is written into a receive buffer (R226). A buffer in host memory takes a class 4 service unit of the
queue's tenant. -/
def execToHostq (id : Nat) (s : State) : Host.Outcome State Fault Refusal :=
  match s.nextWord id 0x11 with
  | none => .next s
  | some (p, _, w) =>
    let q := w % 65536
    match s.rxBuffer q p.len with
    | .error c => .next ((match c with | some f => s.count f 1 | none => s).deliveryDrop id)
    | .ok (wq, j) =>
      if s.hostWaits wq.home wq.func wq.ringLoc then .next s
      else if wq.ringLoc then .next ((s.rxWrite q wq j (s.pktBytes p) p.timestamp p.tc).dropPacket id).checkXon
      else if s.groupAt 4 wq.home = some (s.groupOf wq.tenant) then
        .next (((s.useChoice 4 wq.home).rxWrite q wq j (s.pktBytes p) p.timestamp p.tc).dropPacket id).checkXon
      else .next s

/-- R343, R345: the next TLP of a delivery that is bound to its window goes out under its mapping, in a class 5 service unit of the
packet's tenant; with the last one the packet is gone. -/
def State.peerTlp (s : State) (id : Nat) (p : Packet) (off : Nat) (t : EyeTx) : State :=
  let bs := sliceB (s.pktBytes p) t.moved (min tlpBytes (p.len - t.moved))
  let s := (s.useChoice 5 t.port).eyeWrite t.mapping (off + t.moved) bs
  if p.len ≤ t.moved + tlpBytes then ((s.dropTx t).dropPacket id).checkXon
  else s.modTx t.id (fun t => { t with pieces := t.pieces + 1, moved := t.moved + tlpBytes })

/-- TO_PEER: the packet is written into a peer window (R343), TLP by TLP, each in a class 5 service unit of its tenant. A delivery
that would start on a window being changed waits (R345). -/
def execToPeer (id : Nat) (s : State) : Host.Outcome State Fault Refusal :=
  match s.nextWord id 0x12 with
  | none => .next s
  | some (p, _, w) =>
    let port := bitsOf w 49 48
    let win := bitsOf w 47 40
    let off := bitsOf w 31 0
    let x := s.activeWin port win
    let turn := s.groupAt 5 port = some (s.groupOf p.tenant)
    match s.txOf (.packet id) with
    | some t => .next (if turn then s.peerTlp id p off t else s)
    | none =>
      if s.winHeld port win then .next (s.countHeld (.packet id))
      else if x.valid = false ∨ x.wr = false ∨ x.size < off + p.len then .next (s.deliveryDrop id)
      else if turn then
        let s := s.bindTx port win (.packet id)
        match s.txOf (.packet id) with
        | some t => .next (s.peerTlp id p off t)
        | none => .next s
      else .next s

/-- TO_CONTROL: a slow-path message with ORIGIN 3 to the endpoint the word names. -/
def execToControl (id : Nat) (s : State) : Host.Outcome State Fault Refusal :=
  match s.nextWord id 0x13 with
  | none => .next s
  | some (_, _, w) => .next (s.sendPacket id (w % 2 ^ 20) (bitsOf w 27 20) 0x3F 3 0 0).checkXon

/-- DROP: the bobbins are released. -/
def execDrop (id : Nat) (s : State) : Host.Outcome State Fault Refusal :=
  match s.nextWord id 0x14 with
  | none => .next s
  | some _ => .next (s.dropPacket id).checkXon

/-! ### Mirrors (R166) -/

/-- A mirror copy that cannot be carried out is dropped. -/
def State.mirrorDrop (s : State) (handle : Nat) : State := (s.count F.EDIT_STAT.MIRROR_DROP.CNT 1).dropChain handle

/-- A mirror copy goes to its destination. A copy for a host queue is written at once, and its TLPs are owed (log entries 27, 145); while
the seam holds the queue's host traffic, it cannot be carried out. -/
def State.mirrorSend (s : State) (p : Packet) (handle n kind dest : Nat) (bs : Bytes) : State :=
  if kind = 0 then
    let port := dest % 16
    if (s.portTakes port n).1 then
      match s.toHalf handle p.tenant (port / 8) with
      | (some b, s) => (s.enqueueFrame port (bitsOf dest 10 8) ⟨b, n, p.tenant, none, none⟩).2
      | (none, s) => s.count F.EDIT_STAT.MIRROR_DROP.CNT 1
    else s.mirrorDrop handle
  else if kind = 1 then
    match s.rxBuffer (dest % 65536) n with
    | .ok (wq, j) =>
      if s.hostHeld wq.home wq.ringLoc then s.mirrorDrop handle
      else
        let s := if wq.ringLoc then s else s.owe 4 wq.home (s.groupOf wq.tenant) 1
        (s.rxWrite (dest % 65536) wq j bs p.timestamp p.tc).dropChain handle
    | .error c => (match c with | some f => s.count f 1 | none => s).mirrorDrop handle
  else if kind = 2 then
    let ep := dest % 2 ^ 20
    match s.trySend (editorEp p.half) ep (bitsOf dest 27 20) 0x3F ({ p with handle := handle, len := n }.slowWords 3 0 0) false with
    | (.ok, s) => s.ownChain handle ep
    | (_, s) => s.mirrorDrop handle
  else s.mirrorDrop handle

/-- MIRROR: one packet in SAMPLE + 1 is copied, truncated, into bobbins of its tenant and sent. -/
def execMirror (id : Nat) (s : State) : Host.Outcome State Fault Refusal :=
  match s.nextWord id 0x09 with
  | none => .next s
  | some (p, i, w) =>
    let k := w % 64
    let skip := AMap.getD s.net.mirrorSkip k 0
    let s := s.advance id i
    if s.flag (F.EDIT_MIRROR.EN k) = false then .next s
    else
      let next := if s.rd (F.EDIT_MIRROR.SAMPLE k) ≤ skip then 0 else skip + 1
      let s := { s with net := { s.net with mirrorSkip := AMap.setD 0 s.net.mirrorSkip k next } }
      if skip ≠ 0 then .next s
      else
        let t := s.rd (F.EDIT_MIRROR.TRUNC k)
        let b := s.pktBytes p
        let bs := if t = 0 then b else b.take (64 * t)
        match s.storeFrom p.half p.tenant (editorEp p.half) 0 false [] 256 0 bs with
        | (some (hd :: tl), s) =>
          .next ((s.linkChain (hd :: tl)).mirrorSend p hd bs.length (s.rd (F.EDIT_MIRROR.KIND k)) (s.rd (F.EDIT_MIRROR.DEST k)) bs)
        | (_, s) => .next (s.count F.EDIT_STAT.MIRROR_DROP.CNT 1)

end Sys2Proof.Machine
end

