-- ==== Sys2Proof/Machine/Issue.lean ====
section
/-! DEFINITION. What an Obord instruction does when it issues (chapter 03), the issue cycles of a thread (R50, R51, R87, R126),
and the slots of the debugger's STEP (R83). -/

namespace Sys2Proof.Machine

open Sys2Proof

/-- What becomes of an instruction in its issue cycle: a fault with its record's ADDR, the loss of the cycle, or its effect with
the PC that control is transferred to, if it is. -/
inductive Issued where
  | fault (fi : FaultInfo) (addr : Nat)
  | stall (s : State)
  | go (s : State) (target : Option Nat)

/-- The value of a register field of a thread. -/
def State.reg (s : State) (tid : Nat) (r : Reg) : W64 := (s.thr tid).g r.toNat

/-- An instruction that only writes a register. -/
def State.toReg (s : State) (tid : Nat) (rd : Reg) (v : W64) : Issued := .go (s.modThr tid fun x => x.setG rd.toNat v) none

/-! ### Control flow (R96, R97, R109) -/

/-- R97: the levels of a stack, innermost first, that a transfer of control leaves: the outermost one it leaves and every one
inside it are popped. -/
def popLevels (out : Level → Bool) : List Level → List Level
  | [] => []
  | l :: t => let r := popLevels out t; if r.length < t.length ∨ out l then r else l :: t

/-- R97, step 2: where the thread goes after the instruction at `pc` completes without transferring control. -/
def afterPc (pc : Nat) : List Level → Nat × List Level
  | [] => (pc + 1, [])
  | l :: t =>
    if l.stop = pc then (if 1 < l.remaining then (l.start, { l with remaining := l.remaining - 1 } :: t) else afterPc pc t)
    else (pc + 1, l :: t)

/-- The thread goes on behind its instruction. -/
def State.goOn (s : State) (tid : Nat) : State :=
  s.modThr tid fun x => let n := afterPc x.pc x.loops; { x with pc := n.1, loops := n.2 }

/-- The thread goes to a PC. -/
def State.jump (s : State) (tid pc : Nat) : State := s.modThr tid fun x => { x with pc := pc }

/-- R96, R97: a taken forward branch. -/
def State.branch (s : State) (tid : Nat) (off : BitVec 13) : Issued :=
  let t := (s.thr tid).pc + 1 + off.toNat
  .go (s.modThr tid fun x => { x with loops := popLevels (fun l => decide (l.stop < t)) x.loops }) (some t)

/-- R109: a taken BRB; a target below PC 0 names no instruction. -/
def State.branchBack (s : State) (tid : Nat) (off : BitVec 13) : Issued :=
  let pc := (s.thr tid).pc
  let t := if off.toNat ≤ pc then pc - off.toNat else pc + 16384 - off.toNat
  .go (s.modThr tid fun x => { x with loops := popLevels (fun l => decide (t < l.start) || decide (l.stop < t)) x.loops }) (some t)

/-- R97: a loop level is opened; a fifth faults. -/
def State.openLoop (s : State) (tid trip len : Nat) : Issued :=
  let x := s.thr tid
  if 4 ≤ x.loops.length then .fault ⟨fcIllegal, 3⟩ 0
  else .go (s.modThr tid fun x => { x with loops := ⟨x.pc + 1, x.pc + len, trip⟩ :: x.loops }) none

/-! ### Counters and identity (R108) -/

/-- R108: the value RDCTR reads. -/
def State.ctrValue (s : State) (tid sel : Nat) : Nat :=
  let sp := spOf tid
  match sel with
  | 0 => s.stitch % 2 ^ 32
  | 1 => s.rd F.STITCH_POS.CYCLE
  | 2 => if s.bounded tid then (s.thr tid).slots else 0
  | 3 => if isCob tid then 0
      else muleOf sp ||| logOf sp <<< 6 ||| tOf tid <<< 10 ||| s.rd (epochF sp) <<< 13 ||| s.role sp <<< 21
  | 4 => s.stitchLen
  | _ => if s.bounded tid then (s.thr tid).budget else budgetOf s.stitchLen

/-! ### Local memory and the header area (R98, R99) -/

/-- R98: LD. -/
def State.loadLocal (s : State) (tid : Nat) (sz : Size) (sx : Bool) (rd ra : Reg) (off : BitVec 13) : Issued :=
  let a := eaOf (s.reg tid ra) off
  match localFault tid a sz.bytes sz.bytes with
  | some f => .fault f a
  | none => s.toReg tid rd (extendTo sz sx (leNat (s.readLocal tid a sz.bytes)))

/-- R98: ST. -/
def State.storeLocal (s : State) (tid : Nat) (sz : Size) (rd ra : Reg) (off : BitVec 13) : Issued :=
  let a := eaOf (s.reg tid ra) off
  match localFault tid a sz.bytes sz.bytes with
  | some f => .fault f a
  | none => .go (s.writeLocal tid a (toLE sz.bytes (s.reg tid rd).toNat)) none

/-- R99: HLD. -/
def State.loadHeader (s : State) (tid : Nat) (sz : Size) (sx : Bool) (rd ra : Reg) (off : BitVec 13) : Issued :=
  let a := eaOf (s.reg tid ra) off
  if 0x100 < a + sz.bytes then .fault ⟨fcBadAddr, 0⟩ a
  else s.toReg tid rd (extendTo sz sx (beNat (s.readSlice tid a sz.bytes)))

/-- R99: the dirty range with bytes `lo` to `hi` written. -/
def widen (d : Option (Nat × Nat)) (lo hi : Nat) : Option (Nat × Nat) :=
  match d with
  | none => some (lo, hi)
  | some (l, h) => some (min l lo, max h hi)

/-- R99: HST. -/
def State.storeHeader (s : State) (tid : Nat) (sz : Size) (rd ra : Reg) (off : BitVec 13) : Issued :=
  let a := eaOf (s.reg tid ra) off
  if 0x100 < a + sz.bytes then .fault ⟨fcBadAddr, 0⟩ a
  else
    let s := s.writeSlice tid a (toBE sz.bytes (s.reg tid rd).toNat)
    .go (s.modThr tid fun x => { x with dirty := widen x.dirty a (a + sz.bytes - 1) }) none

/-! ### Scratch (R60 to R62, R100) -/

/-- R60: a scratch access waits at its bank. -/
def State.askScratch (s : State) (tid a n : Nat) (rd : Option Nat) (sx : Bool) (op : Option AtomOp) (v cmp : W64) : State :=
  let sp := spOf tid
  let id := s.mules.nextScratch
  let r : ScratchReq := { id := id, thread := tid, mule := muleOf sp, cycle := s.clk.cycles,
                          rank := (logOf sp + 16 - s.stitch % 16) % 16, addr := a, bytes := n, rd := rd, sx := sx, op := op,
                          operand := v, compare := cmp }
  let s := { s with mules := { s.mules with scratchQ := s.mules.scratchQ ++ [r], nextScratch := id + 1 } }
  s.modThr tid fun x => { (match rd with | some k => x.await k | none => x) with scratchOp := some id }

/-- R100: SLD and SST. -/
def State.scratchMove (s : State) (tid : Nat) (sz : Size) (sx store : Bool) (rd ra : Reg) (off : BitVec 13) : Issued :=
  let a := eaOf (s.reg tid ra) off
  match s.scratchFault tid a sz.bytes store with
  | some f => .fault f a
  | none => .go (s.askScratch tid a sz.bytes (if store then none else some rd.toNat) sx none (s.reg tid rd) 0) none

/-- R100: SATOM. -/
def State.scratchAtom (s : State) (tid : Nat) (op : AtomOp) (wide : Bool) (rd ra rb : Reg) : Issued :=
  let a := (s.reg tid ra).toNat
  let n := if wide then 8 else 4
  match s.scratchFault tid a n true with
  | some f => .fault f a
  | none => .go (s.askScratch tid a n (some rd.toNat) false (some op) (s.reg tid rb) (s.reg tid rd)) none

/-! ### Lookups (R101, R102) -/

/-- R101: bytes of the key of a lookup. -/
def State.lkupKeyLen (s : State) (k : Nat) : Nat := if k < 28 then 8 * max 1 (profKeyLen (s.word (0x800000 + 8 * k))) else 8

/-- The packet that a thread holds as its work. -/
def State.workPkt (s : State) (tid : Nat) : Option Packet :=
  (s.thr tid).work.bind (fun w => if w.source < 4 then s.pkt? w.ref else none)

/-- The tenant of the work in hand: that of the packet or of the command's volume; 0 of long work. -/
def State.workTenant (s : State) (tid : Nat) : Nat :=
  match (s.thr tid).work with
  | none => 0
  | some w => if w.source < 4 then (s.pkt? w.ref).elim 0 (fun p => p.tenant) else s.itemTenant w

/-- R101: a FCTX lookup begins the fetch of a context that is not cached. -/
def State.fctxAsk (s : State) (tid : Nat) (key : Bytes) : State :=
  let k := leAt key 0 4 % 2 ^ 22
  if s.ctxCount ≤ k ∨ s.ctxFenced k then s else s.ctxFetch k (s.workTenant tid)

/-- R101: LKUP. -/
def State.lookupStart (s : State) (tid : Nat) (tk : BitVec 2) (ra : Reg) (sel : BitVec 5) (dl : BitVec 7) : Issued :=
  let a := (s.reg tid ra).toNat
  let n := s.lkupKeyLen sel.toNat
  if 0x2000 < a + n then .fault ⟨fcBadAddr, 0⟩ a
  else if a % 8 ≠ 0 then .fault ⟨fcAlign, 0⟩ a
  else
    let key := s.readSlice tid a n
    let t : Ticket := { profile := sel.toNat, word := s.word (0x800000 + 8 * sel.toNat), key := key,
                        deadline := s.clk.cycles + 8 * dl.toNat, arrived := none }
    let s := if sel.toNat < 28 then s.count F.LAST_STAT.LOOKUPS.CNT 1 else s
    let s := if sel.toNat = 28 then s.fctxAsk tid key else s
    .go (s.modThr tid fun x => { x with tickets := AMap.set x.tickets tk.toNat t }) none

/-- R102: LKW ends with a status, and its ticket is free. -/
def State.lkwEnd (s : State) (tid : Nat) (rd : Reg) (tk st : Nat) : Issued :=
  .go (s.modThr tid fun x =>
    { x.setG rd.toNat (BitVec.ofNat 64 st) with tickets := AMap.del x.tickets tk, lkwStall := none }) none

/-- R102: LKW. -/
def State.lookupWait (s : State) (tid : Nat) (rd : Reg) (tk : BitVec 2) : Issued :=
  match AMap.get? (s.thr tid).tickets tk.toNat with
  | none => s.lkwEnd tid rd tk.toNat 4
  | some t =>
    match t.arrived with
    | some st => s.lkwEnd tid rd tk.toNat st
    | none =>
      if t.deadline ≤ s.clk.cycles then (s.modThr tid fun x => { x with late := x.late ++ [tk.toNat] }).lkwEnd tid rd tk.toNat 2
      else .stall (s.modThr tid fun x => { x with lkwStall := some (rd.toNat, tk.toNat) })

/-! ### Yarns (R69 to R76, R103 to R106) -/

/-- R61: the scratch store or atomic of a thread that its next message must follow. -/
def State.scratchBefore (s : State) (tid : Nat) : Option Nat :=
  (s.thr tid).scratchOp.filter (fun id => s.mules.scratchQ.any (fun r => r.id == id && (r.rd.isNone || r.op.isSome)))

/-- R68, R103: the EPOCH of a message: the one given for a thread, the sender's own for a unit. -/
def State.sendEpoch (s : State) (tid : Nat) (dst : W64) : Nat :=
  if epIsUnit (dst.toNat % 2 ^ 20) then (if isCob tid then 0 else s.rd (epochF (spOf tid))) else bitsOf dst.toNat 27 20

/-- R104: a yarn-class operation of a thread is under way. -/
def State.launchOp (s : State) (tid : Nat) (op : YarnOp) (rd : Nat) (blk : Bool) (m : Msg) (status : Option Nat)
    (post : Option (Nat × Nat) := none) : State :=
  let s := s.launch { op := op, owner := some tid, gen := (s.thr tid).gen, rd := rd, blocking := blk,
                      after := s.scratchBefore tid, msg := m, status := status, reply := false, post := post }
  let s := s.modThr tid fun x => x.await rd
  if blk then (s.modThr tid fun x => { x with ywait := some m.id }).setTs tid tsYwait else s

/-- R69: YSEND. -/
def State.yarnSend (s : State) (tid : Nat) (rd ra : Reg) (nm1 : BitVec 3) (tag : BitVec 6) (blk : Bool) : Issued :=
  let (id, s) := s.freshMsg
  let dst := s.reg tid ra
  let words := (List.range (nm1.toNat + 1)).map (fun k => AMap.getD (s.thr tid).staging k 0#64)
  let m : Msg := { id := id, epoch := s.sendEpoch tid dst, lenm1 := nm1.toNat, kind := .small, tag := tag.toNat,
                   src := srcOf tid, dst := dst.toNat % 2 ^ 20, words := words, committed := true }
  .go (s.launchOp tid .send rd.toNat blk m none) none

/-- R73: YRES. A reservation that is open makes it fault; a POISONED state is cleared. -/
def State.yarnReserve (s : State) (tid : Nat) (rd ra : Reg) (lenm1 : Byte) (tag : BitVec 6) (blk : Bool) : Issued :=
  match (s.thr tid).resv with
  | .opened _ _ _ => .fault ⟨fcYarn, 2⟩ ((s.reg tid ra).toNat % 2 ^ 20)
  | _ =>
    let (id, s) := s.freshMsg
    let dst := s.reg tid ra
    let m : Msg := { id := id, epoch := s.sendEpoch tid dst, lenm1 := lenm1.toNat, kind := .bulk, tag := tag.toNat,
                     src := srcOf tid, dst := dst.toNat % 2 ^ 20, words := List.replicate (lenm1.toNat + 1) 0#64,
                     committed := false }
    .go ((s.modThr tid fun x => { x with resv := .asked id }).launchOp tid .reserve rd.toNat blk m none) none

/-- R73: YPUT. -/
def State.yarnPut (s : State) (tid : Nat) (ra : Reg) (idx : Byte) : Issued :=
  match (s.thr tid).resv with
  | .opened id dst _ =>
    match (s.queueAt dst).find? (fun m => m.id == id) with
    | none => .go s none
    | some m =>
      if m.lenm1 < idx.toNat then .fault ⟨fcYarn, 3⟩ dst
      else .go (s.setQueue dst (replaceMsg (s.queueAt dst) id fun m =>
        { m with words := m.words.set idx.toNat (s.reg tid ra) })) none
  | .poisoned => .go s none
  | _ => .fault ⟨fcYarn, 5⟩ 0

/-- R73, R74: YCOMMIT. -/
def State.yarnCommit (s : State) (tid : Nat) (rd : Reg) : Issued :=
  match (s.thr tid).resv with
  | .opened id dst _ =>
    let m := ((s.queueAt dst).find? (fun m => m.id == id)).getD
      { id := id, epoch := 0, lenm1 := 0, kind := .bulk, tag := 0, src := srcOf tid, dst := dst, words := [], committed := false }
    .go ((s.modThr tid fun x => { x with resv := .none }).launchOp tid .commit rd.toNat false m none) none
  | .poisoned => (s.modThr tid fun x => { x with resv := .none }).toReg tid rd (BitVec.ofNat 64 ysPartial)
  | _ => .fault ⟨fcYarn, 5⟩ 0

/-- R384: the inbound queue of the Cobbler that a message belongs to: reports of the mule controllers, notices of the other
units, messages of threads; replies to the Cobbler's requests are the units' SMALL messages under its own tags. -/
def cobQueue (m : Msg) : Nat := if epIsUnit m.src = false then 2 else if epUnitNo m.src = 6 then 0 else if m.tag = 0 then 1 else 3

/-- The message a YRECV of a channel takes. -/
def State.recvHead (s : State) (tid ch : Nat) : Nat × Option Msg :=
  if isCob tid then
    (epUnit 7 0, ((s.queueAt (epUnit 7 0)).find? (fun m => cobQueue m == ch)).filter (fun m => m.committed))
  else (epThread tid ch, s.headAt (epThread tid ch))

/-- R75, R105: YRECV. -/
def State.yarnRecv (s : State) (tid : Nat) (rd ra : Reg) (ch : BitVec 2) : Issued :=
  match s.recvHead tid ch.toNat with
  | (_, none) => s.toReg tid rd 0
  | (ep, some m) =>
    let a := (s.reg tid ra).toNat
    let n := 8 * (m.lenm1 + 1)
    if (if isCob tid then 0x400000 else 0x2000) < a + n then .fault ⟨fcBadAddr, 0⟩ a
    else if a % 8 ≠ 0 then .fault ⟨fcAlign, 0⟩ a
    else
      let s := s.setQueue ep ((s.queueAt ep).filter (fun q => q.id != m.id))
      let bs := bytesOf m.words
      let s := if isCob tid then s.writeLocal tid a bs else s.writeSlice tid a bs
      let t := s.clk.cycles + (m.lenm1 + 2) / 2
      (s.modThr tid fun x => { x with readyAt := t }).toReg tid rd m.header

/-- R106: the word YNOTE returns. -/
def noteWord (n : Option Notice) : W64 :=
  match n with
  | none => 0
  | some n => BitVec.ofNat 64 (n.status ||| n.count <<< 8 ||| n.epoch <<< 16 ||| n.tag <<< 24 ||| n.dst <<< 30)

/-- R107: the status of a unit-issue operation, with the notice of a refusal: the yarn status and cause, and the unit. -/
def State.unitStatus (s : State) (tid : Nat) (op : YarnOp) (rd : Reg) (r : Nat × Nat) (unit : Nat) : Issued :=
  let s := if r.1 = ysRefused then s.notify (srcOf tid) r.2 unit 0 0 else s
  let (id, s) := s.freshMsg
  let m : Msg := { id := id, epoch := 0, lenm1 := 0, kind := .small, tag := 0, src := srcOf tid, dst := unit, words := [],
                   committed := true }
  .go (s.launchOp tid op rd.toNat false m (some r.1)) none

/-- R107: CSUB. -/
def State.unitCsub (s : State) (tid : Nat) (rd ra : Reg) : Issued :=
  let a := (s.reg tid ra).toNat
  match localFault tid a 64 64 with
  | some f => .fault f a
  | none =>
    let h := halfOfMule (muleOf (spOf tid))
    let (r, s) := s.csub h tid (s.readLocal tid a 64)
    s.unitStatus tid .csub rd r (epUnit 2 h)

/-- R107, R221: QPOST. The entry is on its way to the queue with the cycle of its issue. -/
def State.unitQpost (s : State) (tid : Nat) (rd ra rb : Reg) : Issued :=
  let a := (s.reg tid ra).toNat
  match localFault tid a 64 64 with
  | some f => .fault f a
  | none =>
    let h := halfOfMule (muleOf (spOf tid))
    if h = 1 ∧ s.fencedB then s.unitStatus tid .qpost rd (ysRefused, stFenced) (epUnit 1 h)
    else
      let (id, s) := s.freshMsg
      let m : Msg := { id := id, epoch := 0, lenm1 := 7, kind := .small, tag := 0, src := srcOf tid, dst := epUnit 1 h,
                       words := wordsOf 8 (s.readLocal tid a 64), committed := true }
      .go (s.launchOp tid .qpost rd.toNat false m none (some ((s.reg tid rb).toNat % 65536, s.clk.cycles))) none

/-- R107, R156: FCWB. -/
def State.unitFcwb (s : State) (tid : Nat) (rd ra rb : Reg) : Issued :=
  let a := (s.reg tid ra).toNat
  match localFault tid a 256 256 with
  | some f => .fault f a
  | none =>
    let k := (s.reg tid rb).toNat % 2 ^ 22
    let unit := epUnit 5 (1 + s.ctxHome k)
    let (r, s) := s.ctxStore k (s.readLocal tid a 256)
    s.unitStatus tid .fcwb rd (if r = (0, 0) then (ysOk, 0) else (ysRefused, r.1)) unit

/-- R418: a post on its way would cross a seam that carries no traffic. -/
def State.postHeld (s : State) (f : Flight) (n : Nat) : Bool :=
  s.seamHeld && (match s.wq? n with | some w => w.home != epHalf f.msg.dst | none => false)

/-- R221: posts that reach a queue in one cycle are taken in ascending order of mule, spindle and thread, which is that of their
threads' numbers, and those of earlier cycles before them. They are judged once the cycle of their issue is over, in which
another thread may still post (DESIGN CHOICE, log entry 107). -/
def State.postWaits (s : State) (f : Flight) (n c : Nat) : Bool :=
  c == s.clk.cycles || s.scratchWaits f || s.postHeld f n ||
    s.yarn.flights.any (fun g => g.status.isNone && (match g.post with
      | some (k, b) => k == n && (decide (b < c) || (b == c && decide (g.owner.getD 0 < f.owner.getD 0))) && !s.postHeld g n
      | none => false))

/-- R107, R221: a post reaches its queue and is judged; a refusal is told to its thread with the unit it posted through. -/
def State.postArrive (s : State) (f : Flight) (n c : Nat) : State :=
  if s.postWaits f n c then s
  else
    let (r, s1) := if epHalf f.msg.dst = 1 ∧ s.fencedB then ((ysRefused, stFenced), s)
      else s.qpost (epMule f.msg.src) n (bytesOf f.msg.words)
    (if r.1 = ysRefused then s1.notify f.msg.src r.2 f.msg.dst 0 0 else s1).answer f.msg.id r.1

/-- R70, R107: a message arrives at its destination and is accepted, discarded as stale or refused; a post arrives at its queue. -/
def execMessageArrival (id : Nat) (s : State) : Host.Outcome State Fault Refusal :=
  match s.yarn.flights.find? (fun f => f.msg.id == id && f.status.isNone) with
  | none => .next s
  | some f => .next (match f.post with
    | some (n, c) => s.postArrive f n c
    | none => s.arrive id)

/-! ### Events (R77, R78) -/

/-- R77: the pending-event word; of the Cobbler, its four inbound queues are its channels. -/
def State.eventWord (s : State) (tid : Nat) : W32 :=
  if isCob tid then
    (s.thr tid).events ||| s.stitchBit tid ||| (List.range 4).foldl (fun w n =>
      if (s.recvHead tid n).2.isSome then w ||| BitVec.ofNat 32 (2 ^ n) else w) 0
  else s.pendingWord tid

/-- R78: returned bits are cleared if latched. -/
def State.takeEvents (s : State) (tid : Nat) (v : W32) : State :=
  s.modThr tid fun x =>
    { x with events := x.events &&& ~~~v, stitchSeen := if v.getLsbD evStitch then s.stitch else x.stitchSeen }

/-- R78: WAIT. -/
def State.waitFor (s : State) (tid : Nat) (rd ra : Reg) (nb : Bool) : Issued :=
  let mask := (s.reg tid ra).setWidth 32
  let v := s.eventWord tid &&& mask
  if nb ∨ v ≠ 0 then (s.takeEvents tid v).toReg tid rd (v.setWidth 64)
  else if isCob tid then .stall s
  else .go ((s.modThr tid fun x => { x with waitMask := mask, waitRd := rd.toNat }).setTs tid tsWait) none

/-- R78: what a waiting thread returns: the pending bits of its mask, and DEADLOCK for T0. -/
def State.wakeBits (s : State) (tid : Nat) : W32 :=
  s.pendingWord tid &&& ((s.thr tid).waitMask ||| (if tOf tid = 0 then BitVec.ofNat 32 (2 ^ evDeadlock) else 0))

/-- R78: a waiting thread leaves WAIT. -/
def State.wake (s : State) (tid : Nat) : State :=
  let v := s.wakeBits tid
  if s.ts tid ≠ tsWait ∨ v = 0 then s
  else ((s.takeEvents tid v).modThr tid fun x => x.setG x.waitRd (v.setWidth 64)).setTs tid tsRun

/-! ### Thread control (R111) -/

/-- R111, R81: THRCTL RESUME. A zero thread number is judged with the operands, after the context faults (DESIGN CHOICE, log entry
151: R90 orders DETAIL 1 of encodings, and this one is of a register's value). -/
def State.thrResume (s : State) (tid : Nat) (ra : Reg) : Issued :=
  let t := (s.reg tid ra).toNat % 8
  if t = 0 then .fault ⟨fcIllegal, 1⟩ 0 else .go (s.resumeThr (tidOf (spOf tid) t)) none

def State.thrRecord (s : State) (tid : Nat) (rd ra : Reg) : Issued :=
  let v := (s.reg tid ra).toNat
  s.toReg tid rd (BitVec.ofNat 64 (s.rd (faultF (tidOf (spOf tid) (v % 8)) (v / 8 % 4))))

def State.thrStates (s : State) (tid : Nat) (rd : Reg) : Issued :=
  s.toReg tid rd (BitVec.ofNat 64 (s.rd (F.MULE_THR_STATE.STATE (muleOf (spOf tid)) (logOf (spOf tid)))))

/-! ### Device memory (R110, R331, R342, R343, R376, R380) -/

/-- What an access of a DEVLD or DEVST meets. -/
inductive DevPath where
  | fault (detail : Nat)
  | memory
  | window (port win off : Nat)
  /-- A frozen channel: the access waits (R376). -/
  | frozen
  /-- No copy, or behind the fence. -/
  | gone (status : Nat)
  deriving DecidableEq, Repr

def State.devPath (s : State) (a n : Nat) (store : Bool) : DevPath :=
  match winRegion a with
  | some (p, o) =>
    match s.winAt p o n with
    | some w => if (if store then (s.activeWin p w).wr else (s.activeWin p w).rd) then .window p w o else .fault 2
    | none => .fault 2
  | none =>
    match s.memCheck a n with
    | (0, 0) => .memory
    | (0x04, _) => .fault 2
    | (0x0F, 1) => .fault 2
    | (0x0A, _) => .fault 3
    | (0x0D, _) => .frozen
    | (st, _) => .gone st

/-- R343, R345: the next access of a thread through a window may go out: no swap holds its window, and the port's class 5
service unit is tenant 0's. -/
def State.winTurn (s : State) (tid p w : Nat) : Bool × State :=
  if s.winHeld p w then (false, s.countHeld (.dev tid))
  else if s.groupAt 5 p = some (s.groupOf 0) then (true, s.modThr tid fun x => { x with portWait := none })
  else (false, s.modThr tid fun x => { x with portWait := some p })

/-- A DEVLD waits for its read. -/
def State.devWait (s : State) (tid : Nat) (rd : Reg) (n : Nat) (sx : Bool) (l : Leg) : State :=
  s.modThr tid fun x => { x.await rd.toNat with devld := some ⟨rd.toNat, n, sx, l⟩ }

/-- R110: DEVLD. -/
def State.devLoad (s : State) (tid : Nat) (sz : Size) (sx : Bool) (rd ra : Reg) (off : BitVec 13) : Issued :=
  let a := eaOf (s.reg tid ra) off
  let n := sz.bytes
  match s.devPath a n false with
  | .fault d => .fault ⟨fcBadAddr, d⟩ a
  | .frozen => if a % n ≠ 0 then .fault ⟨fcAlign, 0⟩ a else .stall s
  | .gone st => if a % n ≠ 0 then .fault ⟨fcAlign, 0⟩ a else .go ((s.memAccess a n).2.devWait tid rd n sx (.failed st)) none
  | .memory =>
    if a % n ≠ 0 then .fault ⟨fcAlign, 0⟩ a
    else
      let (id, s) := s.memIssue (halfOfMule (muleOf (spOf tid))) (s.groupOf 0) a n none
      .go (s.devWait tid rd n sx (.mem id a n)) none
  | .window p w o =>
    if a % n ≠ 0 then .fault ⟨fcAlign, 0⟩ a
    else
      let (ok, s1) := s.winTurn tid p w
      if ok = false then .stall s1
      else
        let s2 := s1.bindTx p w (.dev tid)
        match (s2.txOf (.dev tid)).bind (fun t => s2.eyeRead t (o - (s.activeWin p w).devOff) n) with
        | none => .stall s
        | some (l, s3) => .go ((s3.useChoice 5 p).devWait tid rd n sx l) none

/-- R110: DEVST. A store that reaches no copy stores nothing. -/
def State.devStore (s : State) (tid : Nat) (sz : Size) (rd ra : Reg) (off : BitVec 13) : Issued :=
  let a := eaOf (s.reg tid ra) off
  let n := sz.bytes
  let bs := toLE n (s.reg tid rd).toNat
  match s.devPath a n true with
  | .fault d => .fault ⟨fcBadAddr, d⟩ a
  | .frozen => if a % n ≠ 0 then .fault ⟨fcAlign, 0⟩ a else .stall s
  | .gone _ => if a % n ≠ 0 then .fault ⟨fcAlign, 0⟩ a else .go (s.memAccess a n).2 none
  | .memory =>
    if a % n ≠ 0 then .fault ⟨fcAlign, 0⟩ a
    else .go (s.memIssue (halfOfMule (muleOf (spOf tid))) (s.groupOf 0) a n (some bs)).2 none
  | .window p w o =>
    if a % n ≠ 0 then .fault ⟨fcAlign, 0⟩ a
    else
      let (ok, s1) := s.winTurn tid p w
      if ok = false then .stall s1
      else .go ((s1.useChoice 5 p).eyeWrite (s1.activeWin p w) (o - (s1.activeWin p w).devOff) bs) none

/-- R110, R331: the data of a DEVLD: of a request that containment ended, all ones; of one that ended without data otherwise, a
free value. -/
def State.devData (s : State) (n st : Nat) (bs : Bytes) : Nat :=
  if st = 0 ∨ bs.length = n then leNat (sliceB bs 0 n) else (Config.devldLost s.freeCtr).toNat % 2 ^ (8 * n)

/-- The size of an access of `n` bytes. -/
def sizeOf (n : Nat) : Size := if n = 1 then .b else if n = 2 then .h else if n = 4 then .w else .d

/-- R110: the data of a thread's DEVLD has arrived. -/
def State.devArrive (s : State) (tid : Nat) : State :=
  match (s.thr tid).devld with
  | none => s
  | some d => match s.legResult d.leg with
    | none => s
    | some (st, bs) =>
      let v := extendTo (sizeOf d.n) d.sx (s.devData d.n st bs)
      let s := if st ≠ 0 ∧ bs.length ≠ d.n then s.tookFree else s
      let s := match s.txOf (.dev tid) with
        | some t => s.dropTx t
        | none => s
      (s.dropLeg d.leg).modThr tid fun x =>
        let y := if x.pend.contains d.rd then x.setG d.rd v else x
        { y.usable d.rd with devld := none }

/-! ### CSR accesses of the Cobbler (R112) -/

def State.cobRead (s : State) (tid : Nat) (wide sx : Bool) (rd ra : Reg) (off : BitVec 13) : Issued :=
  let (v, s) := s.accessRead .cobbler (eaOf (s.reg tid ra) off) (if wide then 8 else 4)
  s.toReg tid rd (extendTo (if wide then .d else .w) sx (v.getD 0))

def State.cobWrite (s : State) (tid : Nat) (wide : Bool) (rd ra : Reg) (off : BitVec 13) : Issued :=
  let n := if wide then 8 else 4
  .go (s.accessWrite .cobbler (eaOf (s.reg tid ra) off) n ((s.reg tid rd).toNat % 2 ^ (8 * n))) none

/-! ### DONE (R116, R117) -/

/-- R116: the work of a program that is done goes its way. No rule gives an action list of a Welt command a meaning. -/
def State.release (s : State) (tid : Nat) (w : Work) (mode : DoneMode) (v : W64) : State :=
  match mode with
  | .drop => if w.source < 4 then s.dropPacket w.ref else s
  | .slowpath => s.workSlow (muleOf (spOf tid)) w stOk (v.toNat % 256)
  | .deliver =>
    if 32 < v.toNat then s.workSlow (muleOf (spOf tid)) w stMalformed 1
    else if 4 ≤ w.source then s
    else
      let dirty := (s.thr tid).dirty.map (fun r => (r.1, s.readSlice tid r.1 (r.2 + 1 - r.1)))
      let list := wordsOf v.toNat (s.readSlice tid 0x600 (8 * v.toNat))
      s.modPkt w.ref fun p => { p with stage := .editor, list := list, dirty := dirty }

/-- R116, R117: DONE. The thread becomes IDLE when its 8 retire slots have passed. -/
def State.finish (s : State) (tid : Nat) (mode : DoneMode) (v : W64) : State :=
  let s1 := match (s.thr tid).work with
    | some w => s.release tid w mode v
    | none => s
  (s1.endProgram tid).modThr tid fun x => { x with work := none, retireAt := some (s.clk.cycles + 64) }

/-! ### One instruction -/

/-- The effect of an instruction of a thread, or the fault of its operands (R92 to R116). -/
def State.perform (s : State) (tid : Nat) (i : Ob) : Issued :=
  let g := s.reg tid
  match i with
  | .alu fn rd ra rb => s.toReg tid rd (aluEval fn (g ra) (g rb) (g rd))
  | .crc sz rd ra rb => s.toReg tid rd (crcEval sz (g ra) (g rb))
  | .hmix rd ra rb => s.toReg tid rd (hmixEval (g ra) (g rb))
  | .addi rd ra imm => s.toReg tid rd (g ra + imm.signExtend 64)
  | .andi rd ra imm => s.toReg tid rd (g ra &&& imm.setWidth 64)
  | .ori rd ra imm => s.toReg tid rd (g ra ||| imm.setWidth 64)
  | .xori rd ra imm => s.toReg tid rd (g ra ^^^ imm.setWidth 64)
  | .shi rd ra k n => s.toReg tid rd (shiftEval k (g ra) n.toNat)
  | .sltiu rd ra imm => s.toReg tid rd (boolWord ((g ra).ult (imm.setWidth 64)))
  | .movi rd imm => s.toReg tid rd (imm.signExtend 64)
  | .movhi rd h imm => s.toReg tid rd (bfiEval (g rd) (imm.setWidth 64) (16 * h.toNat) 15)
  | .bfx rd ra pos l => s.toReg tid rd (bfxEval (g ra) pos.toNat l.toNat)
  | .bfi rd ra pos l => s.toReg tid rd (bfiEval (g rd) (g ra) pos.toNat l.toNat)
  | .rdctr rd sel => s.toReg tid rd (BitVec.ofNat 64 (s.ctrValue tid sel.toNat))
  | .br cc ra rb off => if condHolds cc (g ra) (g rb) then s.branch tid off else .go s none
  | .bb v ra b off => if (g ra).getLsbD b.toNat = (v == 1) then s.branch tid off else .go s none
  | .jmp off => s.branch tid off
  | .loop trip len => s.openLoop tid trip.toNat len.toNat
  | .done m ra => .go (s.finish tid m (g ra)) (some (s.thr tid).pc)
  | .call tgt => .go (s.modThr tid fun x => x.setG 31 (BitVec.ofNat 64 (x.pc + 1))) (some tgt.toNat)
  | .brb cc ra rb off => if condHolds cc (g ra) (g rb) then s.branchBack tid off else .go s none
  | .jr rd ra => .go (s.modThr tid fun x => x.setG rd.toNat (BitVec.ofNat 64 (x.pc + 1))) (some ((g ra).toNat % 8192))
  | .ld sz sx rd ra off => s.loadLocal tid sz sx rd ra off
  | .st sz rd ra off => s.storeLocal tid sz rd ra off
  | .sld sz sx rd ra off => s.scratchMove tid sz sx false rd ra off
  | .sst sz rd ra off => s.scratchMove tid sz false true rd ra off
  | .satom op wide rd ra rb => s.scratchAtom tid op wide rd ra rb
  | .hld sz sx rd ra off => s.loadHeader tid sz sx rd ra off
  | .hst sz rd ra off => s.storeHeader tid sz rd ra off
  | .lkup tk ra sel dl => s.lookupStart tid tk ra sel dl
  | .lkw rd tk => s.lookupWait tid rd tk
  | .fcwb rd ra rb => s.unitFcwb tid rd ra rb
  | .ystage ra idx => .go (s.modThr tid fun x => { x with staging := AMap.setD 0#64 x.staging idx.toNat (g ra) }) none
  | .ysend rd ra nm1 tag blk => s.yarnSend tid rd ra nm1 tag blk
  | .yres rd ra l tag blk => s.yarnReserve tid rd ra l tag blk
  | .yput ra idx => s.yarnPut tid ra idx
  | .ycommit rd => s.yarnCommit tid rd
  | .yrecv rd ra ch => s.yarnRecv tid rd ra ch
  | .ynote rd => (s.modThr tid fun x => { x with notice := none }).toReg tid rd (noteWord (s.thr tid).notice)
  | .wait rd ra nb => s.waitFor tid rd ra nb
  | .signal thr b =>
    if b.toNat < 16 then .fault ⟨fcYarn, 4⟩ 0 else .go (s.raise (tidOf (spOf tid) thr.toNat) b.toNat) none
  | .csub rd ra => s.unitCsub tid rd ra
  | .qpost rd ra rb => s.unitQpost tid rd ra rb
  | .resume ra => s.thrResume tid ra
  | .frec rd ra => s.thrRecord tid rd ra
  | .tstate rd => s.thrStates tid rd
  | .devld sz sx rd ra off => s.devLoad tid sz sx rd ra off
  | .devst sz rd ra off => s.devStore tid sz rd ra off
  | .loopr ra len =>
    let n := (g ra).toNat % 2 ^ 32
    if n = 0 then .go s (some ((s.thr tid).pc + len.toNat + 1)) else s.openLoop tid n len.toNat
  | .csrrd wide sx rd ra off => s.cobRead tid wide sx rd ra off
  | .csrwr wide rd ra off => s.cobWrite tid wide rd ra off

/-! ### Issue (R50, R51, R87, R90, R91, R126) -/

/-- R91: where a thread's instructions issue. -/
def State.ctxOf (s : State) (tid : Nat) : Ctx :=
  if isCob tid then .cobbler else if s.bounded tid then .bounded else if tOf tid = 0 then .t0 else .long

/-- R104: the yarn-class operations of a thread that hold one of its four. -/
def State.yarnsOut (s : State) (tid : Nat) : Nat :=
  (s.yarn.flights.filter (fun f => f.owner == some tid && f.gen == (s.thr tid).gen)).length

/-- The instruction needs the status of a YRES (R73). -/
def obNeedsResv : Ob → Bool
  | .yres _ _ _ _ _ | .yput _ _ | .ycommit _ => true
  | _ => false

/-- The status of a YRES of the thread has not returned (R73). -/
def Thread.resvPending (x : Thread) : Bool :=
  match x.resv with
  | .asked _ | .stopped _ => true
  | _ => false

/-- R58, R105, R110: the thread is not ready for any instruction: the copy of a YRECV or the data of a DEVLD is under way, or its
restart is due. -/
def State.blocked (s : State) (tid : Nat) : Bool :=
  let x := s.thr tid
  decide (s.clk.cycles < x.readyAt) || x.devld.isSome || (x.restartReq.isSome && !x.holdsResv)

/-- R51: no result that the instruction reads is pending, and no resource that it needs is busy. A result that is pending does not
hold back an instruction that only writes its register; it is written when it arrives, over what stands there then (DESIGN
CHOICE, log entry 148). -/
def State.ready (s : State) (tid : Nat) (i : Ob) : Bool :=
  let x := s.thr tid
  !s.blocked tid && x.pend.all (fun r => !i.readsReg r) && (!i.yarnClass || decide (s.yarnsOut tid < 4)) &&
    (!i.isScratch || x.scratchOp.isNone) && (!obNeedsResv i || !x.resvPending)

/-- The instruction word a thread fetches: from its bank, or of the Cobbler from its SRAM; none beyond the image. -/
def State.fetched (s : State) (tid : Nat) : Option W32 :=
  if isCob tid then
    (if (s.thr tid).pc < 0x100000 then some (BitVec.ofNat 32 (leNat (Memory.read s.cobSram (4 * (s.thr tid).pc) 4))) else none)
  else s.fetchWord tid

/-- R97, R98: an instruction that is ready takes effect and the thread goes on, or faults. -/
def State.complete (s : State) (tid : Nat) (w : W32) : Issued → Bool × State
  | .fault f a => (true, s.takeFault tid w f a)
  | .stall s => (false, s)
  | .go s none => (true, s.goOn tid)
  | .go s (some pc) => (true, s.jump tid pc)

/-- Table 2.9: ADDR of a context fault: the endpoint of a blocking send that a bounded thread may not issue. -/
def State.ctxFaultAddr (s : State) (tid : Nat) (i : Ob) (f : FaultInfo) : Nat :=
  if f.cause ≠ fcYarn then 0
  else match i with
    | .ysend _ ra _ _ _ => (s.reg tid ra).toNat % 2 ^ 20
    | .yres _ ra _ _ _ => (s.reg tid ra).toNat % 2 ^ 20
    | _ => 0

/-- R90: a decoded instruction issues: the faults in their order. The flag tells whether the thread issued. -/
def State.issueOb (s : State) (tid : Nat) (w : W32) (i : Ob) : Bool × State :=
  if s.ready tid i = false then (false, s)
  else if i.bodyBeyond (s.thr tid).pc then (true, s.takeFault tid w ⟨fcIllegal, 2⟩ 0)
  else match i.contextFault (s.ctxOf tid) with
    | some f => (true, s.takeFault tid w f (s.ctxFaultAddr tid i f))
    | none => s.complete tid w (s.perform tid i)

/-- R90, R96: an instruction word, or the lack of one beyond the image, meets the thread's issue cycle. -/
def State.issueWord (s : State) (tid : Nat) (w : Option W32) : Bool × State :=
  if s.blocked tid then (false, s)
  else match w with
  | none => (true, s.takeFault tid 0 ⟨fcIstore, 0⟩ 0)
  | some w => match decodeOb w with
    | .illegal d => (true, s.takeFault tid w ⟨fcIllegal, d⟩ 0)
    | .ok i => s.issueOb tid w i

/-- R50, R431, R432: the present cycle is one of the thread's, its spindle has issued nothing in it, and the spindle is served.
The Cobbler's cores have no rotation. -/
def State.slotOpen (s : State) (tid : Nat) : Bool :=
  tid == cobBase ||
    (decide (tid < 6144) && s.clk.cycles % 8 == tOf tid && decide ((s.spindle (spOf tid)).issued ≤ s.clk.cycles) &&
      !s.unserved (spOf tid) && !(decide (24 ≤ muleOf (spOf tid)) && s.haltedB))

/-- The spindle's cycle is used. -/
def State.takeSlot (s : State) (tid : Nat) : State :=
  if isCob tid then s else s.modSpindle (spOf tid) fun x => { x with issued := s.clk.cycles + 1 }

/-- The thread runs, is not retiring, and has slot 1 behind or before it. -/
def State.runs (s : State) (tid : Nat) : Bool :=
  let x := s.thr tid
  s.ts tid == tsRun && x.retireAt.isNone && !(s.bounded tid && x.slots == 0 && decide (s.clk.cycles < x.readyAt))

/-- R87, R126: a bounded thread counts its slots. -/
def State.countSlot (s : State) (tid : Nat) : State :=
  if s.bounded tid then s.modThr tid fun x => { x with slots := x.slots + 1 } else s

/-- R83: a halted thread that is stepped issues one instruction and is halted again. -/
def State.stepHalted (s : State) (tid : Nat) (w : Option W32) : State :=
  let x := s.thr tid
  if x.stepDue = false ∨ x.haltFrom ≠ tsRun ∨ x.retireAt.isSome then s
  else
    let r := (s.setTs tid tsRun).issueWord tid w
    if r.1 = false then s
    else
      let s1 := r.2.modThr tid fun x => { x with stepDue := false }
      let st := s1.ts tid
      if st = tsFault then s1 else (s1.modThr tid fun x => { x with haltFrom := st }).setTs tid tsHalt

/-- R50, R83, R126: the thread's issue cycle, with the instruction word it meets. -/
def State.issueIn (s : State) (tid : Nat) (w : Option W32) : State :=
  if s.slotOpen tid = false then s
  else
    let s := s.takeSlot tid
    if s.ts tid = tsHalt then s.stepHalted tid w
    else if s.runs tid = false then s
    else match s.haltDue tid with
      | some s => s
      | none =>
        if s.overDue tid then s.overrun tid (w.getD 0#32)
        else ((s.countSlot tid).issueWord tid w).2

end Sys2Proof.Machine
end

