-- ==== Sys2Proof/Machine/Obord.lean ====
section
/-! DEFINITION. The Obord rows of the table (chapter 03). Each command is an issue cycle of a thread that meets the word of one
instruction, in place of the word the thread would fetch; THREAD_ISSUE_CYCLE meets the word fetched. What the word does is
`State.perform`'s. -/

namespace Sys2Proof.Machine

open Sys2Proof

/-- R50: in the present cycle the thread of a spindle that owns it issues its next instruction if it is ready, or loses the
cycle. Spindle 1,024 is the Cobbler. -/
def execThreadIssueCycle (sp : Nat) (s : State) : Host.Outcome State Fault Refusal :=
  let tid := if sp = spOf cobBase then cobBase else tidOf sp (s.clk.cycles % 8)
  .next (s.issueIn tid (s.fetched tid))

/-- A thread's issue cycle that meets an instruction. -/
def State.obord (s : State) (tid : Nat) (i : Ob) : Host.Outcome State Fault Refusal := .next (s.issueIn tid (some (encodeOb i)))

/-- R92. -/
def execAdd (tid : Nat) (rd ra rb : Reg) (s : State) : Host.Outcome State Fault Refusal := s.obord tid (.alu .add rd ra rb)

/-- R92. -/
def execSub (tid : Nat) (rd ra rb : Reg) (s : State) : Host.Outcome State Fault Refusal := s.obord tid (.alu .sub rd ra rb)

/-- R92. -/
def execAnd (tid : Nat) (rd ra rb : Reg) (s : State) : Host.Outcome State Fault Refusal := s.obord tid (.alu .and rd ra rb)

/-- R92. -/
def execOr (tid : Nat) (rd ra rb : Reg) (s : State) : Host.Outcome State Fault Refusal := s.obord tid (.alu .or rd ra rb)

/-- R92. -/
def execXor (tid : Nat) (rd ra rb : Reg) (s : State) : Host.Outcome State Fault Refusal := s.obord tid (.alu .xor rd ra rb)

/-- R92. -/
def execAndn (tid : Nat) (rd ra rb : Reg) (s : State) : Host.Outcome State Fault Refusal := s.obord tid (.alu .andn rd ra rb)

/-- R92. -/
def execShl (tid : Nat) (rd ra rb : Reg) (s : State) : Host.Outcome State Fault Refusal := s.obord tid (.alu .shl rd ra rb)

/-- R92. -/
def execShr (tid : Nat) (rd ra rb : Reg) (s : State) : Host.Outcome State Fault Refusal := s.obord tid (.alu .shr rd ra rb)

/-- R92. -/
def execSar (tid : Nat) (rd ra rb : Reg) (s : State) : Host.Outcome State Fault Refusal := s.obord tid (.alu .sar rd ra rb)

/-- R92. -/
def execRol (tid : Nat) (rd ra rb : Reg) (s : State) : Host.Outcome State Fault Refusal := s.obord tid (.alu .rol rd ra rb)

/-- R92. -/
def execSlt (tid : Nat) (rd ra rb : Reg) (s : State) : Host.Outcome State Fault Refusal := s.obord tid (.alu .slt rd ra rb)

/-- R92. -/
def execSltu (tid : Nat) (rd ra rb : Reg) (s : State) : Host.Outcome State Fault Refusal := s.obord tid (.alu .sltu rd ra rb)

/-- R92. -/
def execSeq (tid : Nat) (rd ra rb : Reg) (s : State) : Host.Outcome State Fault Refusal := s.obord tid (.alu .seq rd ra rb)

/-- R92. -/
def execMinU (tid : Nat) (rd ra rb : Reg) (s : State) : Host.Outcome State Fault Refusal := s.obord tid (.alu .minU rd ra rb)

/-- R92. -/
def execMaxU (tid : Nat) (rd ra rb : Reg) (s : State) : Host.Outcome State Fault Refusal := s.obord tid (.alu .maxU rd ra rb)

/-- R92. -/
def execCmovnz (tid : Nat) (rd ra rb : Reg) (s : State) : Host.Outcome State Fault Refusal :=
  s.obord tid (.alu .cmovnz rd ra rb)

/-- R92. -/
def execMul (tid : Nat) (rd ra rb : Reg) (s : State) : Host.Outcome State Fault Refusal := s.obord tid (.alu .mul rd ra rb)

/-- R92. -/
def execMulhu (tid : Nat) (rd ra rb : Reg) (s : State) : Host.Outcome State Fault Refusal := s.obord tid (.alu .mulhu rd ra rb)

/-- R92. -/
def execPopc (tid : Nat) (rd ra : Reg) (s : State) : Host.Outcome State Fault Refusal := s.obord tid (.alu .popc rd ra 0)

/-- R92. -/
def execClz (tid : Nat) (rd ra : Reg) (s : State) : Host.Outcome State Fault Refusal := s.obord tid (.alu .clz rd ra 0)

/-- R92. -/
def execCtz (tid : Nat) (rd ra : Reg) (s : State) : Host.Outcome State Fault Refusal := s.obord tid (.alu .ctz rd ra 0)

/-- R92. -/
def execBsw16 (tid : Nat) (rd ra : Reg) (s : State) : Host.Outcome State Fault Refusal := s.obord tid (.alu .bsw16 rd ra 0)

/-- R92. -/
def execBsw32 (tid : Nat) (rd ra : Reg) (s : State) : Host.Outcome State Fault Refusal := s.obord tid (.alu .bsw32 rd ra 0)

/-- R92. -/
def execBsw64 (tid : Nat) (rd ra : Reg) (s : State) : Host.Outcome State Fault Refusal := s.obord tid (.alu .bsw64 rd ra 0)

/-- R95. -/
def execCrc32c (tid : Nat) (sz : Size) (rd ra rb : Reg) (s : State) : Host.Outcome State Fault Refusal :=
  s.obord tid (.crc sz rd ra rb)

/-- R95. -/
def execHmix (tid : Nat) (rd ra rb : Reg) (s : State) : Host.Outcome State Fault Refusal := s.obord tid (.hmix rd ra rb)

/-- R93. -/
def execAddi (tid : Nat) (rd ra : Reg) (imm : W16) (s : State) : Host.Outcome State Fault Refusal :=
  s.obord tid (.addi rd ra imm)

/-- R93. -/
def execAndi (tid : Nat) (rd ra : Reg) (imm : W16) (s : State) : Host.Outcome State Fault Refusal :=
  s.obord tid (.andi rd ra imm)

/-- R93. -/
def execOri (tid : Nat) (rd ra : Reg) (imm : W16) (s : State) : Host.Outcome State Fault Refusal := s.obord tid (.ori rd ra imm)

/-- R93. -/
def execXori (tid : Nat) (rd ra : Reg) (imm : W16) (s : State) : Host.Outcome State Fault Refusal :=
  s.obord tid (.xori rd ra imm)

/-- R93. -/
def execShi (tid : Nat) (rd ra : Reg) (kind : ShiftKind) (amt : BitVec 6) (s : State) : Host.Outcome State Fault Refusal :=
  s.obord tid (.shi rd ra kind amt)

/-- R93. -/
def execSltiu (tid : Nat) (rd ra : Reg) (imm : W16) (s : State) : Host.Outcome State Fault Refusal :=
  s.obord tid (.sltiu rd ra imm)

/-- R93. -/
def execMovi (tid : Nat) (rd : Reg) (imm : W16) (s : State) : Host.Outcome State Fault Refusal := s.obord tid (.movi rd imm)

/-- R93. -/
def execMovhi (tid : Nat) (rd : Reg) (h : BitVec 2) (imm : W16) (s : State) : Host.Outcome State Fault Refusal :=
  s.obord tid (.movhi rd h imm)

/-- R94. -/
def execBfx (tid : Nat) (rd ra : Reg) (pos lenm1 : BitVec 6) (s : State) : Host.Outcome State Fault Refusal :=
  s.obord tid (.bfx rd ra pos lenm1)

/-- R94. -/
def execBfi (tid : Nat) (rd ra : Reg) (pos lenm1 : BitVec 6) (s : State) : Host.Outcome State Fault Refusal :=
  s.obord tid (.bfi rd ra pos lenm1)

/-- R108. -/
def execRdctr (tid : Nat) (rd : Reg) (sel : W16) (s : State) : Host.Outcome State Fault Refusal := s.obord tid (.rdctr rd sel)

/-- R96. -/
def execBr (tid : Nat) (cc : Cond) (ra rb : Reg) (off : BitVec 13) (s : State) : Host.Outcome State Fault Refusal :=
  s.obord tid (.br cc ra rb off)

/-- R96. -/
def execBb (tid : Nat) (v : BitVec 1) (ra : Reg) (bit : BitVec 6) (off : BitVec 13) (s : State) : Host.Outcome State Fault Refusal :=
  s.obord tid (.bb v ra bit off)

/-- R96. -/
def execJmp (tid : Nat) (off : BitVec 13) (s : State) : Host.Outcome State Fault Refusal := s.obord tid (.jmp off)

/-- R97. -/
def execLoop (tid : Nat) (trip : Byte) (len : BitVec 13) (s : State) : Host.Outcome State Fault Refusal :=
  s.obord tid (.loop trip len)

/-- R116. -/
def execDoneDeliver (tid : Nat) (ra : Reg) (s : State) : Host.Outcome State Fault Refusal := s.obord tid (.done .deliver ra)

/-- R116. -/
def execDoneDrop (tid : Nat) (ra : Reg) (s : State) : Host.Outcome State Fault Refusal := s.obord tid (.done .drop ra)

/-- R116. -/
def execDoneSlowpath (tid : Nat) (ra : Reg) (s : State) : Host.Outcome State Fault Refusal := s.obord tid (.done .slowpath ra)

/-- R109. -/
def execCall (tid : Nat) (tgt : BitVec 13) (s : State) : Host.Outcome State Fault Refusal := s.obord tid (.call tgt)

/-- R109. -/
def execBrb (tid : Nat) (cc : Cond) (ra rb : Reg) (off : BitVec 13) (s : State) : Host.Outcome State Fault Refusal :=
  s.obord tid (.brb cc ra rb off)

/-- R109. -/
def execJr (tid : Nat) (rd ra : Reg) (s : State) : Host.Outcome State Fault Refusal := s.obord tid (.jr rd ra)

/-- R109. -/
def execLoopr (tid : Nat) (ra : Reg) (len : BitVec 13) (s : State) : Host.Outcome State Fault Refusal :=
  s.obord tid (.loopr ra len)

/-- R98. -/
def execLd (tid : Nat) (sz : Size) (sx : Bool) (rd ra : Reg) (off : BitVec 13) (s : State) : Host.Outcome State Fault Refusal :=
  s.obord tid (.ld sz sx rd ra off)

/-- R98. -/
def execSt (tid : Nat) (sz : Size) (rd ra : Reg) (off : BitVec 13) (s : State) : Host.Outcome State Fault Refusal :=
  s.obord tid (.st sz rd ra off)

/-- R99. -/
def execHld (tid : Nat) (sz : Size) (sx : Bool) (rd ra : Reg) (off : BitVec 13) (s : State) : Host.Outcome State Fault Refusal :=
  s.obord tid (.hld sz sx rd ra off)

/-- R99. -/
def execHst (tid : Nat) (sz : Size) (rd ra : Reg) (off : BitVec 13) (s : State) : Host.Outcome State Fault Refusal :=
  s.obord tid (.hst sz rd ra off)

/-- R100. -/
def execSld (tid : Nat) (sz : Size) (sx : Bool) (rd ra : Reg) (off : BitVec 13) (s : State) : Host.Outcome State Fault Refusal :=
  s.obord tid (.sld sz sx rd ra off)

/-- R100. -/
def execSst (tid : Nat) (sz : Size) (rd ra : Reg) (off : BitVec 13) (s : State) : Host.Outcome State Fault Refusal :=
  s.obord tid (.sst sz rd ra off)

/-- R100. -/
def execFetchAdd (tid : Nat) (wide : Bool) (rd ra rb : Reg) (s : State) : Host.Outcome State Fault Refusal :=
  s.obord tid (.satom .fetchAdd wide rd ra rb)

/-- R100. -/
def execSatomSwap (tid : Nat) (wide : Bool) (rd ra rb : Reg) (s : State) : Host.Outcome State Fault Refusal :=
  s.obord tid (.satom .swap wide rd ra rb)

/-- R100. -/
def execCas (tid : Nat) (wide : Bool) (rd ra rb : Reg) (s : State) : Host.Outcome State Fault Refusal :=
  s.obord tid (.satom .cas wide rd ra rb)

/-- R100. -/
def execSatomAnd (tid : Nat) (wide : Bool) (rd ra rb : Reg) (s : State) : Host.Outcome State Fault Refusal :=
  s.obord tid (.satom .and wide rd ra rb)

/-- R100. -/
def execSatomOr (tid : Nat) (wide : Bool) (rd ra rb : Reg) (s : State) : Host.Outcome State Fault Refusal :=
  s.obord tid (.satom .or wide rd ra rb)

/-- R100. -/
def execSatomXor (tid : Nat) (wide : Bool) (rd ra rb : Reg) (s : State) : Host.Outcome State Fault Refusal :=
  s.obord tid (.satom .xor wide rd ra rb)

/-- R100. -/
def execSatomMinU (tid : Nat) (wide : Bool) (rd ra rb : Reg) (s : State) : Host.Outcome State Fault Refusal :=
  s.obord tid (.satom .minU wide rd ra rb)

/-- R100. -/
def execSatomMaxU (tid : Nat) (wide : Bool) (rd ra rb : Reg) (s : State) : Host.Outcome State Fault Refusal :=
  s.obord tid (.satom .maxU wide rd ra rb)

/-- R101. -/
def execLkup (tid : Nat) (tk : BitVec 2) (ra : Reg) (sel : BitVec 5) (dl : BitVec 7) (s : State) : Host.Outcome State Fault Refusal :=
  s.obord tid (.lkup tk ra sel dl)

/-- R102. -/
def execLkw (tid : Nat) (rd : Reg) (tk : BitVec 2) (s : State) : Host.Outcome State Fault Refusal := s.obord tid (.lkw rd tk)

/-- R107. -/
def execFcwb (tid : Nat) (rd ra rb : Reg) (s : State) : Host.Outcome State Fault Refusal := s.obord tid (.fcwb rd ra rb)

/-- R69, R103. -/
def execYstage (tid : Nat) (ra : Reg) (idx : BitVec 3) (s : State) : Host.Outcome State Fault Refusal :=
  s.obord tid (.ystage ra idx)

/-- R69. -/
def execYsend (tid : Nat) (rd ra : Reg) (nm1 : BitVec 3) (tag : BitVec 6) (blk : Bool) (s : State) : Host.Outcome State Fault Refusal :=
  s.obord tid (.ysend rd ra nm1 tag blk)

/-- R73. -/
def execYres (tid : Nat) (rd ra : Reg) (lenm1 : Byte) (tag : BitVec 6) (blk : Bool) (s : State) : Host.Outcome State Fault Refusal :=
  s.obord tid (.yres rd ra lenm1 tag blk)

/-- R73. -/
def execYput (tid : Nat) (ra : Reg) (idx : Byte) (s : State) : Host.Outcome State Fault Refusal := s.obord tid (.yput ra idx)

/-- R73, R74. -/
def execYcommit (tid : Nat) (rd : Reg) (s : State) : Host.Outcome State Fault Refusal := s.obord tid (.ycommit rd)

/-- R75, R105. -/
def execYrecv (tid : Nat) (rd ra : Reg) (ch : BitVec 2) (s : State) : Host.Outcome State Fault Refusal :=
  s.obord tid (.yrecv rd ra ch)

/-- R106. -/
def execYnote (tid : Nat) (rd : Reg) (s : State) : Host.Outcome State Fault Refusal := s.obord tid (.ynote rd)

/-- R78. -/
def execWait (tid : Nat) (rd ra : Reg) (nb : Bool) (s : State) : Host.Outcome State Fault Refusal :=
  s.obord tid (.wait rd ra nb)

/-- R77. -/
def execSignal (tid : Nat) (thr : BitVec 3) (bit : BitVec 5) (s : State) : Host.Outcome State Fault Refusal :=
  s.obord tid (.signal thr bit)

/-- R107. -/
def execCsub (tid : Nat) (rd ra : Reg) (s : State) : Host.Outcome State Fault Refusal := s.obord tid (.csub rd ra)

/-- R107, R221. -/
def execQpost (tid : Nat) (rd ra rb : Reg) (s : State) : Host.Outcome State Fault Refusal := s.obord tid (.qpost rd ra rb)

/-- R111. -/
def execResume (tid : Nat) (ra : Reg) (s : State) : Host.Outcome State Fault Refusal := s.obord tid (.resume ra)

/-- R111. -/
def execFrec (tid : Nat) (rd ra : Reg) (s : State) : Host.Outcome State Fault Refusal := s.obord tid (.frec rd ra)

/-- R111. -/
def execTstate (tid : Nat) (rd : Reg) (s : State) : Host.Outcome State Fault Refusal := s.obord tid (.tstate rd)

/-- R110. -/
def execDevld (tid : Nat) (sz : Size) (sx : Bool) (rd ra : Reg) (off : BitVec 13) (s : State) : Host.Outcome State Fault Refusal :=
  s.obord tid (.devld sz sx rd ra off)

/-- R110. -/
def execDevst (tid : Nat) (sz : Size) (rd ra : Reg) (off : BitVec 13) (s : State) : Host.Outcome State Fault Refusal :=
  s.obord tid (.devst sz rd ra off)

/-- R112. -/
def execCsrrd (tid : Nat) (wide sx : Bool) (rd ra : Reg) (off : BitVec 13) (s : State) : Host.Outcome State Fault Refusal :=
  s.obord tid (.csrrd wide sx rd ra off)

/-- R112. -/
def execCsrwr (tid : Nat) (wide : Bool) (rd ra : Reg) (off : BitVec 13) (s : State) : Host.Outcome State Fault Refusal :=
  s.obord tid (.csrwr wide rd ra off)

end Sys2Proof.Machine
end

