-- ==== Sys2Proof/Machine/Worker.lean ====
section
/-! DEFINITION. What happens to a thread between its instructions: dispatch and the end of retire, the service of scratch,
lookup results and deadlines, wakes and device data (chapters 02 and 03). -/

namespace Sys2Proof.Machine

open Sys2Proof

/-! ### Scratch service (R60, R61) -/

/-- R60: the access a bank serves next: the earliest issued, and of those issued in one cycle the first in rotated order of
spindle. -/
def firstReq : List ScratchReq → Option ScratchReq
  | [] => none
  | r :: t => match firstReq t with
    | none => some r
    | some q => if q.cycle < r.cycle ∨ (q.cycle = r.cycle ∧ q.rank < r.rank) then some q else some r

/-- R60, R61: an access is performed: memory after it, and the value it returns. -/
def scratchDo (m : Memory) (r : ScratchReq) : Memory × W64 :=
  let a := 524288 * r.mule + r.addr
  let old := leNat (Memory.read m a r.bytes)
  let lim := 2 ^ (8 * r.bytes)
  match r.op with
  | some op =>
    (Memory.write m a (toLE r.bytes (atomEval op r.bytes old (r.operand.toNat % lim) (r.compare.toNat % lim))), BitVec.ofNat 64 old)
  | none =>
    if r.rd.isNone then (Memory.write m a (toLE r.bytes r.operand.toNat), 0)
    else (m, extendTo (sizeOf r.bytes) r.sx old)

/-- R60: an access is performed and its thread's operation is no longer outstanding; the result of one that a DONE or fault has
let go is discarded (R117). -/
def State.scratchServe (s : State) (r : ScratchReq) : State :=
  let (m, v) := scratchDo s.scratch r
  let s := { s with scratch := m, mules := { s.mules with scratchQ := s.mules.scratchQ.filter (fun q => q.id != r.id) } }
  s.modThr r.thread fun x =>
    if x.scratchOp = some r.id then
      let y := match r.rd with
        | some k => (x.setG k v).usable k
        | none => x
      { y with scratchOp := none }
    else x

/-- R52, R60: a bank serves a waiting access; its result is usable 14 cycles after its issue at the earliest. -/
def execScratchAccessPerform (m bank : Nat) (s : State) : Host.Outcome State Fault Refusal :=
  match firstReq (s.mules.scratchQ.filter (fun r => r.mule == m && r.addr / 8 % 16 == bank)) with
  | none => .next s
  | some r => if r.cycle + 14 ≤ s.clk.cycles then .next (s.scratchServe r) else .next s

/-! ### Lookup results (R101, R102, R151) -/

/-- R101: the result of an FCTX lookup, if its context is there. -/
def State.fctxResult (s : State) (tid : Nat) (key : Bytes) : Option LkRes × State :=
  let k := leAt key 0 4 % 2 ^ 22
  if s.ctxCount ≤ k then (some (.error 0x04 0x06), s)
  else if s.ctxFenced k then (some (.error 0x0E 0x12), s)
  else match s.ctxCached k with
    | some c => (some (.hit c.bytes), s)
    | none =>
      let m := s.memCheck (s.ctxAddr k) 256
      if m ≠ (0, 0) then (some (.error m.1 0x10), s) else (none, s.ctxFetch k (s.workTenant tid))

/-- R101: the bytes of a PAYLOAD lookup: those of the packet in hand, and a free value beyond its end. -/
def State.payload (s : State) (tid : Nat) (key : Bytes) : Bytes :=
  let w := leAt key 0 8
  let off := w % 65536
  let n := if bitsOf w 23 16 = 0 then 256 else bitsOf w 23 16
  let bs := match s.workPkt tid with
    | some p => (s.chainBytes p.handle).take p.len
    | none => []
  (List.range n).map (fun k => if off + k < bs.length then bs.getD (off + k) 0 else Config.pastPacket (s.freeCtr + k))

/-- The result of a ticket's lookup; none while it cannot be had yet. -/
def State.ticketResult (s : State) (tid : Nat) (t : Ticket) : Option LkRes × State :=
  if t.profile < 28 then
    let (r, s) := s.lookupCounted (halfOfMule (muleOf (spOf tid))) t.word t.profile (s.workTenant tid) t.key
    (some r, s)
  else if t.profile = 28 then s.fctxResult tid t.key
  else (some (.hit (s.payload tid t.key)), { s with freeCtr := s.freeCtr + 256 })

/-- R102: a lookup result arrives: written to RB[tk] unless its deadline has passed. A result whose LKW has already returned LATE
comes before that of a later lookup on the ticket (DESIGN CHOICE, log entry 150). -/
def State.resultArrive (s : State) (tid tk : Nat) : State :=
  if (s.thr tid).late.contains tk then
    (s.count F.LAST_STAT.LATE_DISCARD.CNT 1).modThr tid fun x => { x with late := x.late.erase tk }
  else match AMap.get? (s.thr tid).tickets tk with
  | none => s
  | some t =>
    if t.arrived.isSome then s
    else if t.deadline < s.clk.cycles then
      (s.count F.LAST_STAT.LATE_DISCARD.CNT 1).modThr tid fun x =>
        { x with tickets := AMap.set x.tickets tk { t with arrived := some 2 } }
    else match s.ticketResult tid t with
      | (none, s) => s
      | (some r, s) =>
        let s := s.writeSlice tid (0x200 + 0x100 * tk) r.data
        s.modThr tid fun x => { x with tickets := AMap.set x.tickets tk { t with arrived := some r.status }, lkwStall := none }

def execLookupResult (tid tk : Nat) (s : State) : Host.Outcome State Fault Refusal := .next (s.resultArrive tid tk)

/-- R102: at its deadline slot a stalled LKW returns LATE: the thread's issue cycle, in which its LKW finds the deadline
reached. -/
def execLookupDeadline (tid : Nat) (s : State) : Host.Outcome State Fault Refusal :=
  match (s.thr tid).lkwStall with
  | none => .next s
  | some (_, tk) => match AMap.get? (s.thr tid).tickets tk with
    | none => .next s
    | some t => if t.deadline ≤ s.clk.cycles ∧ t.arrived = none then .next (s.issueIn tid (s.fetched tid)) else .next s

/-! ### Wakes and device data (R78, R110) -/

def execWaitWake (tid : Nat) (s : State) : Host.Outcome State Fault Refusal := .next (s.wake tid)

def execDeviceLoadData (tid : Nat) (s : State) : Host.Outcome State Fault Refusal := .next (s.devArrive tid)

/-! ### Dispatch and retire (R55, R113 to R117, R158) -/

/-- R117: the thread becomes IDLE when its 8 retire slots have passed; one that the debugger has halted does so when it is resumed
(R83). -/
def execRetireEnd (tid : Nat) (s : State) : Host.Outcome State Fault Refusal :=
  match (s.thr tid).retireAt with
  | none => .next s
  | some c =>
    if s.clk.cycles < c then .next s
    else if s.ts tid = tsHalt then .next (s.modThr tid fun x => { x with retireAt := none, haltFrom := s.restState tid })
    else .next ((s.modThr tid fun x => { x with retireAt := none }).setTs tid (s.restState tid))

/-- The FLAGS of a packet's descriptor (R158). -/
def Packet.flags (p : Packet) : Nat :=
  (match p.parse with | some r => r.decision % 256 + (if r.rejected then 256 else 0) | none => 0) +
    (if p.lk0.status = 2 ∨ p.lk1.status = 2 then 512 else 0) + (if p.held then 1024 else 0)

/-- Table 3.12: the dispatch descriptor of a packet. -/
def State.descriptor (s : State) (p : Packet) : Bytes :=
  let n := min 256 p.len
  toLE 4 (p.handle % 2 ^ 24 + p.entry % 32 * 2 ^ 24 + p.source % 8 * 2 ^ 29) ++ toLE 2 p.len ++
    toLE 2 (p.tenant % 4096 + p.tc % 8 * 4096) ++
    toLE 4 (p.flowIndex % 2 ^ 22 + (if p.flowSt = 1 then 2 ^ 30 else 0) + p.flowValid * 2 ^ 31) ++
    toLE 1 (if p.source = 3 then 0 else p.port) ++ toLE 1 n ++ toLE 2 p.flags ++ toLE 8 p.timestamp ++ toLE 4 s.stitch ++
    toLE 4 p.qref ++ List.replicate 32 0#8

/-- Table 3.11: the first 0x200 bytes of the slice of a worker that takes a packet. -/
def State.workSlice (s : State) (p : Packet) : Bytes :=
  sliceB ((s.chainBytes p.handle).take p.len) 0 256 ++ sliceB p.record 0 64 ++ sliceB p.lk0.data 0 64 ++ sliceB p.lk1.data 0 64 ++
    s.descriptor p

/-- R113, R114: a thread takes a packet. -/
def State.startWorker (s : State) (tid id : Nat) (p : Packet) (pc : Nat) : State :=
  (s.startThread tid (s.workSlice p) ⟨p.source, id, p.handle, p.entry⟩ pc).holdFlow id tid

/-- The packets of a group that are pending for dispatch on a half, oldest first. -/
def State.dispatchable (s : State) (h g : Nat) : List (Nat × Packet) :=
  s.net.pkts.filter (fun e => e.2.stage == .dispatch && e.2.half == h && s.groupOf e.2.tenant == g)

/-- R115, R157: a packet is dispatched to a thread; one whose entry the active image lacks goes to the slow path and the thread
stays IDLE. A flow's context that is not cached begins to be fetched. -/
def State.dispatchTo (s : State) (tid id : Nat) (p : Packet) : State :=
  let s := s.count F.CARD_STAT.DISPATCHED.CNT 1
  let s := match p.flow with
    | some k => s.ctxFetch k p.tenant
    | none => s
  match (s.activeImage (spOf tid)).bind (fun i => AMap.get? i.bounded p.entry) with
  | none => s.slowPath id 1 stDeviceError 0x20
  | some pc => (s.setPkt id { p with stage := .worker tid }).startWorker tid id p pc

/-- R29, R37, R55: the half's dispatcher gives the oldest packet of the group it has chosen to an IDLE thread. -/
def execWorkerDispatch (tid : Nat) (s : State) : Host.Outcome State Fault Refusal :=
  if s.mayTake 0 tid = false then .next s
  else
    let h := halfOfMule (muleOf (spOf tid))
    match s.groupAt 1 h with
    | none => .next s
    | some g => match s.dispatchable h g with
      | [] => .next s
      | (id, p) :: _ => .next ((s.useDispatch h).dispatchTo tid id p)

end Sys2Proof.Machine
end

