-- ==== Sys2Proof/Machine/Pending.lean ====
section
/-! DEFINITION. The groups with pending work at each unit instance, and its service-unit boundary (chapter 01: R28, R29, R37, R39).
A group has pending work at a unit when some command of the group would take the unit's service unit if the unit chose the
group. -/

namespace Sys2Proof.Machine

open Sys2Proof

/-- A command would take the service unit of instance `u` of class `c`, were group `g` chosen there. -/
def State.takes (s : State) (c u g : Nat) (k : State → Host.Outcome State Fault Refusal) : Bool :=
  match k (s.setUnit c u { s.unit c u with chosen := some (.free g) }) with
  | .next t => (t.groupAt c u).isNone
  | _ => false

/-- Numbers in rising order without repeats. -/
def rising (l : List Nat) : List Nat := l.foldl (fun r g => insertNat g r) []

/-- The live jobs of all WQs: the queue's number, the queue and the job. -/
def State.allJobs (s : State) : List (Nat × Wq × Job) := s.q.wqs.flatMap (fun e => e.2.jobs.map (fun j => (e.1, e.2, j)))

/-- Class 0: a Card lane's admission. -/
def State.cardGroups (s : State) (lane : Nat) : List Nat :=
  rising (((s.net.pkts.filter (fun e => e.2.stage == .admission)).map (fun e => s.groupOf e.2.tenant)).filter (fun g =>
    s.takes 0 lane g (execCardAdmission lane)))

/-- The threads of a half that may take a packet. -/
def State.takers (s : State) (h : Nat) : List Nat := ((List.range 3072).map (fun k => 3072 * h + k)).filter (fun t => s.mayTake 0 t)

/-- Class 1: packets pending for dispatch, while a thread is IDLE to take one, and Welt commands. -/
def State.dispatchGroups (s : State) (h : Nat) : List Nat :=
  let pk := (s.net.pkts.filter (fun e => e.2.stage == .dispatch && e.2.half == h)).map (fun e => s.groupOf e.2.tenant)
  let wc := (s.welt.cmds.filter (fun c => s.takes 1 h (s.groupOf (s.volTenant c.vol)) (execCommandStart c.id))).map
    (fun c => s.groupOf (s.volTenant c.vol))
  rising ((if pk.isEmpty || (s.takers h).isEmpty then [] else pk) ++ wc)

/-- Class 3: bursts of a sub-channel that can proceed. -/
def State.dramGroups (s : State) (u : Nat) : List Nat :=
  rising ((s.dram.bursts.filter (fun b => dramUnit b.chan b.sub == u && s.burstReady b)).map (fun b => b.group))

/-- R229, R277: the group that a job's host data is charged to: of a storage command that of its volume's tenant. -/
def State.jobGroup (s : State) (e : Nat × Wq × Job) : Nat :=
  s.groupOf (if e.2.1.type = qtStorage ∧ s.isAdmin e.1 e.2.1 = false then s.volTenant (jobVol e.2.2) else e.2.1.tenant)

/-- Class 4: ring reads, and the reads and writes of jobs and deliveries in host memory. -/
def State.hostGroups (s : State) (h : Nat) : List Nat :=
  let rings := ((s.q.wqs.filter (fun e => e.2.home == h && !e.2.ringLoc)).map (fun e => s.groupOf e.2.tenant)).filter (fun g =>
    s.takes 4 h g (execWqeFetch h false g))
  let jobs := (s.allJobs.filter (fun e =>
    let n := e.1
    let f := e.2.2.first
    e.2.1.home == h && !e.2.1.ringLoc &&
      [execNetTxSend n f, execPeerWrite n f, execPeerRead n f, execRead n f, execWrite n f, execCompare n f].any (fun k =>
        s.takes 4 h (s.jobGroup e) k))).map (fun e => s.jobGroup e)
  let out := s.net.pkts.filterMap (fun e => match s.nextWord e.1 0x11 with
    | some (_, _, w) => (s.wq? (w % 65536)).bind (fun q =>
        if s.takes 4 h (s.groupOf q.tenant) (execToHostq e.1) then some (s.groupOf q.tenant) else none)
    | none => none)
  rising (rings ++ jobs ++ out)

/-- Class 5: requests of PEER jobs, deliveries into peer windows, backing commands of local volumes, and the device accesses of
threads (tenant 0). -/
def State.eyeGroups (s : State) (p : Nat) : List Nat :=
  let jobs := (s.allJobs.filter (fun e =>
    [execPeerWrite e.1 e.2.2.first, execPeerRead e.1 e.2.2.first, execPeerSend e.1 e.2.2.first].any (fun k =>
      s.takes 5 p (s.groupOf e.2.1.tenant) k))).map (fun e => s.groupOf e.2.1.tenant)
  let pk := (s.net.pkts.filter (fun e => s.takes 5 p (s.groupOf e.2.tenant) (execToPeer e.1))).map (fun e => s.groupOf e.2.tenant)
  let cm := (s.welt.cmds.filter (fun c => [execBackingIssue c.id 1, execFlushIssue c.id].any (fun k =>
      s.takes 5 p (s.groupOf (s.volTenant c.vol)) k))).map
    (fun c => s.groupOf (s.volTenant c.vol))
  let cj := (s.cipher.jobs.filter (fun j => s.takes 5 p (s.groupOf j.tenant) (execCipherJobComplete j.id))).map
    (fun j => s.groupOf j.tenant)
  let dv := (s.mules.threads.filter (fun e => e.2.portWait == some p && s.ts e.1 == tsRun)).map (fun _ => s.groupOf 0)
  rising (jobs ++ pk ++ cm ++ cj ++ dv)

/-- The groups whose work could use the next service unit of an instance of a class. -/
def State.workGroups (s : State) (c u : Nat) : List Nat :=
  match c with
  | 0 => s.cardGroups u
  | 1 => s.dispatchGroups u
  | 2 => s.cipherGroups u
  | 3 => s.dramGroups u
  | 4 => s.hostGroups u
  | _ => s.eyeGroups u

/-- The groups with pending work at an instance of a class, those that owe it service units among them. -/
def State.pendingGroups (s : State) (c u : Nat) : List Nat := rising (s.workGroups c u ++ s.owingGroups c u)

/-- How many unit instances a class has: Card lanes, dispatchers, engines, sub-channels, host-link engines, Eyelet ports. -/
def unitsIn (c : Nat) : Nat :=
  match c with
  | 0 => 10 | 1 => 2 | 2 => 544 | 3 => 36 | 4 => 2 | 5 => 4 | _ => 0

/-- R364, R369, R370: maintenance of a sub-channel is due in the present SYSTEM turn: a refresh that a bank owes or a targeted
refresh while the turn has room for a command, a write-back or a patrol read while its data bus has room for a burst. -/
def State.maintDue (s : State) (c u : Nat) : Bool :=
  let (i, sub) := (u / 2, u % 2)
  c == 3 && s.systemTurn i && s.chMaintains i &&
    (decide (s.maintUsed i sub < s.maintLimit) && (List.range 32).any (fun b => s.bankExists i b &&
        (decide (0 < (s.accrue i (s.bank i sub b)).owed) || !(s.bank i sub b).victims.isEmpty)) ||
     s.scrubRoom i sub && (s.dram.writebacks.any (fun w => w.head? == some i && w.getD 1 0 == sub) || s.patrolDue i sub))

/-- R30: the service unit that began at the instance still runs: a block of a cipher engine, whose end is a boundary of its own
(CIPHER_BLOCK_DONE). -/
def State.unitBusy (s : State) (c u : Nat) : Bool := c == 2 && (AMap.get? s.cipher.engines u).isSome

/-- R39: a service-unit boundary of a unit instance. `background` says that it has background work (R41). While a service unit still
runs there is no boundary (R30). -/
def execServiceUnitBoundary (c u : Nat) (background : Bool) (s : State) : Host.Outcome State Fault Refusal :=
  if u < unitsIn c ∧ s.unitBusy c u = false then .next (s.serviceBoundary c u (s.pendingGroups c u) background (s.maintDue c u))
  else .next s

end Sys2Proof.Machine
end

