-- ==== Sys2Proof/Machine/Store.lean ====
section
/-! DEFINITION. The commands of the bobbin store that touch other units: partition writes, releases and scrubbing
(chapter 07). -/

namespace Sys2Proof.Machine

open Sys2Proof

/-- R251: a requester writes word 0 of BOBBIN_PART[t][c]. -/
def execBobbinPartWrite (who : Requester) (t c : Nat) (w : W64) (s : State) : Host.Outcome State Fault Refusal :=
  if t < 4096 ∧ c < 8 then .next (s.accessWrite who (0x1480000 + 0x10 * (8 * t + c)) 8 w.toNat) else .next s

/-- R257, R258, R134: the store of a half serves a FREE; a release may let a port send XON. -/
def execFree (h : Nat) (s : State) : Host.Outcome State Fault Refusal := .next (s.storeServe h 2).checkXon

/-- A class 3 unit of a half whose last boundary chose background work (R41). -/
def State.backgroundUnit (s : State) (h : Nat) : Option Nat :=
  ((List.range 18).map (fun k => 18 * h + k)).find? (fun u => s.chosenAt 3 u == some .background)

/-- R264, R430: scrubbing, as background work of a class 3 unit of the bobbin's half (R41; DESIGN CHOICE, log entry 12), meets an error in
a bobbin; every error goes to the fault classifier. -/
def execBobbinScrub (handle : Nat) (uncorrectable : Bool) (s : State) : Host.Outcome State Fault Refusal :=
  let h := handleHalf handle
  if s.rd F.BOBBIN_CFG.SCRUB_EN = 0 ∨ s.rd F.BOBBIN_STATUS.READY = 0 ∨ (h = 1 ∧ s.haltedB) ∨
      (s.classAt h (handleGranule handle)).isNone then .next s
  else match s.backgroundUnit h with
    | none => .next s
    | some u => .next (((s.useChoice 3 u).bobbinScrub handle uncorrectable).report 6 (Config.bobbinArray handle % 1024))

end Sys2Proof.Machine
end

