-- ==== Sys2Proof/Machine/Dispatch.lean ====
section
/-! DEFINITION. One arm per command: each is one direct call of the command's meaning. -/

namespace Sys2Proof.Machine

open Sys2Proof

def exec (i : Instr) (s : State) : Host.Outcome State Fault Refusal :=
  match i with
  | .powerReset cause straps => Sys2Proof.Machine.execPowerReset cause straps s
  | .hostReset l perst => Sys2Proof.Machine.execHostReset l perst s
  | .pwrgdRise vaonLost => Sys2Proof.Machine.execPwrgdRise vaonLost s
  | .powerOnResetEnd straps => Sys2Proof.Machine.execPowerOnResetEnd straps s
  | .xspiResetRelease => Sys2Proof.Machine.execXspiResetRelease s
  | .pwrgdFall => Sys2Proof.Machine.execPwrgdFall s
  | .railUndervolt rail => Sys2Proof.Machine.execRailUndervolt rail s
  | .sysClkLoss => Sys2Proof.Machine.execSysClkLoss s
  | .ethRefclkLoss h => Sys2Proof.Machine.execEthRefclkLoss h s
  | .hostRefclkLoss l => Sys2Proof.Machine.execHostRefclkLoss l s
  | .csrWrite who off size v => Sys2Proof.Machine.execCsrWrite who off size v s
  | .csrFaultyRead who off size => Sys2Proof.Machine.execCsrFaultyRead who off size s
  | .csrLowerHalfRead who off => Sys2Proof.Machine.execCsrLowerHalfRead who off s
  | .rcRead who off size => Sys2Proof.Machine.execRcRead who off size s
  | .turnStart => Sys2Proof.Machine.execTurnStart s
  | .stitchBoundary => Sys2Proof.Machine.execStitchBoundary s
  | .lacingPeriodBoundary => Sys2Proof.Machine.execLacingPeriodBoundary s
  | .stitchLenReqWrite v => Sys2Proof.Machine.execStitchLenReqWrite v s
  | .stitchLenApply => Sys2Proof.Machine.execStitchLenApply s
  | .stitchLaceCommit v => Sys2Proof.Machine.execStitchLaceCommit v s
  | .cancel => Sys2Proof.Machine.execCancel s
  | .lacingShadowWrite off wide v => Sys2Proof.Machine.execLacingShadowWrite off wide v s
  | .laceSwap => Sys2Proof.Machine.execLaceSwap s
  | .serviceUnitBoundary c u background => Sys2Proof.Machine.execServiceUnitBoundary c u background s
  | .threadIssueCycle sp => Sys2Proof.Machine.execThreadIssueCycle sp s
  | .add tid rd ra rb => Sys2Proof.Machine.execAdd tid rd ra rb s
  | .sub tid rd ra rb => Sys2Proof.Machine.execSub tid rd ra rb s
  | .and tid rd ra rb => Sys2Proof.Machine.execAnd tid rd ra rb s
  | .or tid rd ra rb => Sys2Proof.Machine.execOr tid rd ra rb s
  | .xor tid rd ra rb => Sys2Proof.Machine.execXor tid rd ra rb s
  | .andn tid rd ra rb => Sys2Proof.Machine.execAndn tid rd ra rb s
  | .shl tid rd ra rb => Sys2Proof.Machine.execShl tid rd ra rb s
  | .shr tid rd ra rb => Sys2Proof.Machine.execShr tid rd ra rb s
  | .sar tid rd ra rb => Sys2Proof.Machine.execSar tid rd ra rb s
  | .rol tid rd ra rb => Sys2Proof.Machine.execRol tid rd ra rb s
  | .slt tid rd ra rb => Sys2Proof.Machine.execSlt tid rd ra rb s
  | .sltu tid rd ra rb => Sys2Proof.Machine.execSltu tid rd ra rb s
  | .seq tid rd ra rb => Sys2Proof.Machine.execSeq tid rd ra rb s
  | .minU tid rd ra rb => Sys2Proof.Machine.execMinU tid rd ra rb s
  | .maxU tid rd ra rb => Sys2Proof.Machine.execMaxU tid rd ra rb s
  | .cmovnz tid rd ra rb => Sys2Proof.Machine.execCmovnz tid rd ra rb s
  | .mul tid rd ra rb => Sys2Proof.Machine.execMul tid rd ra rb s
  | .mulhu tid rd ra rb => Sys2Proof.Machine.execMulhu tid rd ra rb s
  | .popc tid rd ra => Sys2Proof.Machine.execPopc tid rd ra s
  | .clz tid rd ra => Sys2Proof.Machine.execClz tid rd ra s
  | .ctz tid rd ra => Sys2Proof.Machine.execCtz tid rd ra s
  | .bsw16 tid rd ra => Sys2Proof.Machine.execBsw16 tid rd ra s
  | .bsw32 tid rd ra => Sys2Proof.Machine.execBsw32 tid rd ra s
  | .bsw64 tid rd ra => Sys2Proof.Machine.execBsw64 tid rd ra s
  | .crc32c tid sz rd ra rb => Sys2Proof.Machine.execCrc32c tid sz rd ra rb s
  | .hmix tid rd ra rb => Sys2Proof.Machine.execHmix tid rd ra rb s
  | .addi tid rd ra imm => Sys2Proof.Machine.execAddi tid rd ra imm s
  | .andi tid rd ra imm => Sys2Proof.Machine.execAndi tid rd ra imm s
  | .ori tid rd ra imm => Sys2Proof.Machine.execOri tid rd ra imm s
  | .xori tid rd ra imm => Sys2Proof.Machine.execXori tid rd ra imm s
  | .shi tid rd ra kind amt => Sys2Proof.Machine.execShi tid rd ra kind amt s
  | .sltiu tid rd ra imm => Sys2Proof.Machine.execSltiu tid rd ra imm s
  | .movi tid rd imm => Sys2Proof.Machine.execMovi tid rd imm s
  | .movhi tid rd h imm => Sys2Proof.Machine.execMovhi tid rd h imm s
  | .bfx tid rd ra pos lenm1 => Sys2Proof.Machine.execBfx tid rd ra pos lenm1 s
  | .bfi tid rd ra pos lenm1 => Sys2Proof.Machine.execBfi tid rd ra pos lenm1 s
  | .rdctr tid rd sel => Sys2Proof.Machine.execRdctr tid rd sel s
  | .br tid cc ra rb off => Sys2Proof.Machine.execBr tid cc ra rb off s
  | .bb tid v ra bit off => Sys2Proof.Machine.execBb tid v ra bit off s
  | .jmp tid off => Sys2Proof.Machine.execJmp tid off s
  | .loop tid trip len => Sys2Proof.Machine.execLoop tid trip len s
  | .doneDeliver tid ra => Sys2Proof.Machine.execDoneDeliver tid ra s
  | .doneDrop tid ra => Sys2Proof.Machine.execDoneDrop tid ra s
  | .doneSlowpath tid ra => Sys2Proof.Machine.execDoneSlowpath tid ra s
  | .retireEnd tid => Sys2Proof.Machine.execRetireEnd tid s
  | .call tid tgt => Sys2Proof.Machine.execCall tid tgt s
  | .brb tid cc ra rb off => Sys2Proof.Machine.execBrb tid cc ra rb off s
  | .jr tid rd ra => Sys2Proof.Machine.execJr tid rd ra s
  | .loopr tid ra len => Sys2Proof.Machine.execLoopr tid ra len s
  | .ld tid sz sx rd ra off => Sys2Proof.Machine.execLd tid sz sx rd ra off s
  | .st tid sz rd ra off => Sys2Proof.Machine.execSt tid sz rd ra off s
  | .hld tid sz sx rd ra off => Sys2Proof.Machine.execHld tid sz sx rd ra off s
  | .hst tid sz rd ra off => Sys2Proof.Machine.execHst tid sz rd ra off s
  | .sld tid sz sx rd ra off => Sys2Proof.Machine.execSld tid sz sx rd ra off s
  | .sst tid sz rd ra off => Sys2Proof.Machine.execSst tid sz rd ra off s
  | .fetchAdd tid wide rd ra rb => Sys2Proof.Machine.execFetchAdd tid wide rd ra rb s
  | .satomSwap tid wide rd ra rb => Sys2Proof.Machine.execSatomSwap tid wide rd ra rb s
  | .cas tid wide rd ra rb => Sys2Proof.Machine.execCas tid wide rd ra rb s
  | .satomAnd tid wide rd ra rb => Sys2Proof.Machine.execSatomAnd tid wide rd ra rb s
  | .satomOr tid wide rd ra rb => Sys2Proof.Machine.execSatomOr tid wide rd ra rb s
  | .satomXor tid wide rd ra rb => Sys2Proof.Machine.execSatomXor tid wide rd ra rb s
  | .satomMinU tid wide rd ra rb => Sys2Proof.Machine.execSatomMinU tid wide rd ra rb s
  | .satomMaxU tid wide rd ra rb => Sys2Proof.Machine.execSatomMaxU tid wide rd ra rb s
  | .scratchAccessPerform m bank => Sys2Proof.Machine.execScratchAccessPerform m bank s
  | .lkup tid tk ra sel dl => Sys2Proof.Machine.execLkup tid tk ra sel dl s
  | .lookupResult tid tk => Sys2Proof.Machine.execLookupResult tid tk s
  | .lkw tid rd tk => Sys2Proof.Machine.execLkw tid rd tk s
  | .lookupDeadline tid => Sys2Proof.Machine.execLookupDeadline tid s
  | .fcwb tid rd ra rb => Sys2Proof.Machine.execFcwb tid rd ra rb s
  | .ystage tid ra idx => Sys2Proof.Machine.execYstage tid ra idx s
  | .ysend tid rd ra nm1 tag blk => Sys2Proof.Machine.execYsend tid rd ra nm1 tag blk s
  | .yres tid rd ra lenm1 tag blk => Sys2Proof.Machine.execYres tid rd ra lenm1 tag blk s
  | .yput tid ra idx => Sys2Proof.Machine.execYput tid ra idx s
  | .ycommit tid rd => Sys2Proof.Machine.execYcommit tid rd s
  | .yrecv tid rd ra ch => Sys2Proof.Machine.execYrecv tid rd ra ch s
  | .ynote tid rd => Sys2Proof.Machine.execYnote tid rd s
  | .wait tid rd ra nb => Sys2Proof.Machine.execWait tid rd ra nb s
  | .waitWake tid => Sys2Proof.Machine.execWaitWake tid s
  | .signal tid thr bit => Sys2Proof.Machine.execSignal tid thr bit s
  | .csub tid rd ra => Sys2Proof.Machine.execCsub tid rd ra s
  | .qpost tid rd ra rb => Sys2Proof.Machine.execQpost tid rd ra rb s
  | .resume tid ra => Sys2Proof.Machine.execResume tid ra s
  | .frec tid rd ra => Sys2Proof.Machine.execFrec tid rd ra s
  | .tstate tid rd => Sys2Proof.Machine.execTstate tid rd s
  | .devld tid sz sx rd ra off => Sys2Proof.Machine.execDevld tid sz sx rd ra off s
  | .deviceLoadData tid => Sys2Proof.Machine.execDeviceLoadData tid s
  | .devst tid sz rd ra off => Sys2Proof.Machine.execDevst tid sz rd ra off s
  | .csrrd tid wide sx rd ra off => Sys2Proof.Machine.execCsrrd tid wide sx rd ra off s
  | .csrwr tid wide rd ra off => Sys2Proof.Machine.execCsrwr tid wide rd ra off s
  | .yarnStatusReturn id => Sys2Proof.Machine.execYarnStatusReturn id s
  | .messageArrival id => Sys2Proof.Machine.execMessageArrival id s
  | .blockingSendRetry id => Sys2Proof.Machine.execBlockingSendRetry id s
  | .reservationExpiry tid => Sys2Proof.Machine.execReservationExpiry tid s
  | .deadlock sp => Sys2Proof.Machine.execDeadlock sp s
  | .escalationWindowEnd sp => Sys2Proof.Machine.execEscalationWindowEnd sp s
  | .overrun tid => Sys2Proof.Machine.execOverrun tid s
  | .thrCtrlResume sp mask => Sys2Proof.Machine.execThrCtrlResume sp mask s
  | .dbgHalt sp mask hard => Sys2Proof.Machine.execDbgHalt sp mask hard s
  | .softHaltEffect tid => Sys2Proof.Machine.execSoftHaltEffect tid s
  | .dbgStep sp mask => Sys2Proof.Machine.execDbgStep sp mask s
  | .dbgResume sp mask => Sys2Proof.Machine.execDbgResume sp mask s
  | .muleSwapRequest m spn => Sys2Proof.Machine.execMuleSwapRequest m spn s
  | .muleSwapApply m => Sys2Proof.Machine.execMuleSwapApply m s
  | .longWorkRestart tid => Sys2Proof.Machine.execLongWorkRestart tid s
  | .bankDrainEnd sp => Sys2Proof.Machine.execBankDrainEnd sp s
  | .roleChangeRequest sp role swap => Sys2Proof.Machine.execRoleChangeRequest sp role swap s
  | .roleForced sp => Sys2Proof.Machine.execRoleForced sp s
  | .roleChangeApply sp => Sys2Proof.Machine.execRoleChangeApply sp s
  | .muleLoadStart m spn => Sys2Proof.Machine.execMuleLoadStart m spn s
  | .imageLoadDone m => Sys2Proof.Machine.execImageLoadDone m s
  | .workerDispatch tid => Sys2Proof.Machine.execWorkerDispatch tid s
  | .frameReceived p frame fcsOk corrected => Sys2Proof.Machine.execFrameReceived p frame fcsOk corrected s
  | .ethHalfApply h => Sys2Proof.Machine.execEthHalfApply h s
  | .portLinkUp p => Sys2Proof.Machine.execPortLinkUp p s
  | .pfcXoffResend p q => Sys2Proof.Machine.execPfcXoffResend p q s
  | .pfcFrameReceived p frame => Sys2Proof.Machine.execPfcFrameReceived p frame s
  | .pfcPauseExpiry p c => Sys2Proof.Machine.execPfcPauseExpiry p c s
  | .stepPtp => Sys2Proof.Machine.execStepPtp s
  | .ptpValidWrite v => Sys2Proof.Machine.execPtpValidWrite v s
  | .ppsOutRise => Sys2Proof.Machine.execPpsOutRise s
  | .ppsOutFall => Sys2Proof.Machine.execPpsOutFall s
  | .ppsInEdge => Sys2Proof.Machine.execPpsInEdge s
  | .cardAdmission lane => Sys2Proof.Machine.execCardAdmission lane s
  | .parseEnd id => Sys2Proof.Machine.execParseEnd id s
  | .preDispatchWaitEnd id back0 back1 => Sys2Proof.Machine.execPreDispatchWaitEnd id back0 back1 s
  | .flowHoldRelease k => Sys2Proof.Machine.execFlowHoldRelease k s
  | .fctxFill k => Sys2Proof.Machine.execFctxFill k s
  | .cardCommit v => Sys2Proof.Machine.execCardCommit v s
  | .cardSwap => Sys2Proof.Machine.execCardSwap s
  | .emInsert => Sys2Proof.Machine.execEmInsert s
  | .emUpsert => Sys2Proof.Machine.execEmUpsert s
  | .emDelete => Sys2Proof.Machine.execEmDelete s
  | .pfxAdd => Sys2Proof.Machine.execPfxAdd s
  | .pfxDel => Sys2Proof.Machine.execPfxDel s
  | .ruleWrite => Sys2Proof.Machine.execRuleWrite s
  | .ruleClear => Sys2Proof.Machine.execRuleClear s
  | .fctxWrite => Sys2Proof.Machine.execFctxWrite s
  | .lastUpdateDone => Sys2Proof.Machine.execLastUpdateDone s
  | .controlReinjection h => Sys2Proof.Machine.execControlReinjection h s
  | .editorPacketRelease id => Sys2Proof.Machine.execEditorPacketRelease id s
  | .set id => Sys2Proof.Machine.execSet id s
  | .vlanPush id => Sys2Proof.Machine.execVlanPush id s
  | .vlanPop id => Sys2Proof.Machine.execVlanPop id s
  | .encapVxlan id => Sys2Proof.Machine.execEncapVxlan id s
  | .encapGeneve id => Sys2Proof.Machine.execEncapGeneve id s
  | .decap id => Sys2Proof.Machine.execDecap id s
  | .csum id => Sys2Proof.Machine.execCsum id s
  | .crypto id => Sys2Proof.Machine.execCrypto id s
  | .mirror id => Sys2Proof.Machine.execMirror id s
  | .ttlDec id => Sys2Proof.Machine.execTtlDec id s
  | .toPort id => Sys2Proof.Machine.execToPort id s
  | .toHostq id => Sys2Proof.Machine.execToHostq id s
  | .toPeer id => Sys2Proof.Machine.execToPeer id s
  | .toControl id => Sys2Proof.Machine.execToControl id s
  | .drop id => Sys2Proof.Machine.execDrop id s
  | .egressFrameStart p => Sys2Proof.Machine.execEgressFrameStart p s
  | .shaperRefill => Sys2Proof.Machine.execShaperRefill s
  | .cipherJobAdmit id => Sys2Proof.Machine.execCipherJobAdmit id s
  | .sessionUnwrap i0 => Sys2Proof.Machine.execSessionUnwrap i0 s
  | .cipherJobStart u => Sys2Proof.Machine.execCipherJobStart u s
  | .cipherBlockDone u err => Sys2Proof.Machine.execCipherBlockDone u err s
  | .cipherJobComplete id => Sys2Proof.Machine.execCipherJobComplete id s
  | .install svc => Sys2Proof.Machine.execInstall svc s
  | .limits svc => Sys2Proof.Machine.execLimits svc s
  | .invalidate svc => Sys2Proof.Machine.execInvalidate svc s
  | .sessionRead svc => Sys2Proof.Machine.execSessionRead svc s
  | .sessionOpDone i0 => Sys2Proof.Machine.execSessionOpDone i0 s
  | .wqDoorbell f k v => Sys2Proof.Machine.execWqDoorbell f k v s
  | .cqDoorbell f k v => Sys2Proof.Machine.execCqDoorbell f k v s
  | .cqArm f k v => Sys2Proof.Machine.execCqArm f k v s
  | .doorbellDiscard f off size write => Sys2Proof.Machine.execDoorbellDiscard f off size write s
  | .wqeFetch h dev g => Sys2Proof.Machine.execWqeFetch h dev g s
  | .fetchComplete n => Sys2Proof.Machine.execFetchComplete n s
  | .errorCqeWrite n => Sys2Proof.Machine.execErrorCqeWrite n s
  | .jobComplete n first => Sys2Proof.Machine.execJobComplete n first s
  | .parkedCqeWrite c => Sys2Proof.Machine.execParkedCqeWrite c s
  | .interruptModTimer n => Sys2Proof.Machine.execInterruptModTimer n s
  | .cqStall n => Sys2Proof.Machine.execCqStall n s
  | .netTxSend n first => Sys2Proof.Machine.execNetTxSend n first s
  | .netTxBobbinWaitEnd n first => Sys2Proof.Machine.execNetTxBobbinWaitEnd n first s
  | .netRxRecv n first => Sys2Proof.Machine.execNetRxRecv n first s
  | .msgDeliver n => Sys2Proof.Machine.execMsgDeliver n s
  | .msgCompletion h => Sys2Proof.Machine.execMsgCompletion h s
  | .cqCiMessage h => Sys2Proof.Machine.execCqCiMessage h s
  | .cqCreate f => Sys2Proof.Machine.execCqCreate f s
  | .wqCreate f => Sys2Proof.Machine.execWqCreate f s
  | .cqDelete f => Sys2Proof.Machine.execCqDelete f s
  | .wqDelete f => Sys2Proof.Machine.execWqDelete f s
  | .queueRestart f => Sys2Proof.Machine.execQueueRestart f s
  | .queueAbort f => Sys2Proof.Machine.execQueueAbort f s
  | .queueAbortSquash n => Sys2Proof.Machine.execQueueAbortSquash n s
  | .moderate f => Sys2Proof.Machine.execModerate f s
  | .query f => Sys2Proof.Machine.execQuery f s
  | .sched f => Sys2Proof.Machine.execSched f s
  | .bobbinEnable => Sys2Proof.Machine.execBobbinEnable s
  | .bobbinPartWrite who t c w => Sys2Proof.Machine.execBobbinPartWrite who t c w s
  | .alloc h => Sys2Proof.Machine.execAlloc h s
  | .free h => Sys2Proof.Machine.execFree h s
  | .transfer h => Sys2Proof.Machine.execTransfer h s
  | .incref h => Sys2Proof.Machine.execIncref h s
  | .link h => Sys2Proof.Machine.execLink h s
  | .bobbinInfo h => Sys2Proof.Machine.execBobbinInfo h s
  | .bobbinScrub handle uncorrectable => Sys2Proof.Machine.execBobbinScrub handle uncorrectable s
  | .volSet => Sys2Proof.Machine.execVolSet s
  | .volOnline => Sys2Proof.Machine.execVolOnline s
  | .volOffline => Sys2Proof.Machine.execVolOffline s
  | .volOfflineDone v => Sys2Proof.Machine.execVolOfflineDone v s
  | .volRead => Sys2Proof.Machine.execVolRead s
  | .volDelete => Sys2Proof.Machine.execVolDelete s
  | .connSet => Sys2Proof.Machine.execConnSet s
  | .connUp => Sys2Proof.Machine.execConnUp s
  | .connectionUpDone c ok => Sys2Proof.Machine.execConnectionUpDone c ok s
  | .connDown => Sys2Proof.Machine.execConnDown s
  | .connRead => Sys2Proof.Machine.execConnRead s
  | .keepAlive c answered => Sys2Proof.Machine.execKeepAlive c answered s
  | .connectionDown c tcp => Sys2Proof.Machine.execConnectionDown c tcp s
  | .read n first => Sys2Proof.Machine.execRead n first s
  | .write n first => Sys2Proof.Machine.execWrite n first s
  | .flush n first => Sys2Proof.Machine.execFlush n first s
  | .writeZeroes n first => Sys2Proof.Machine.execWriteZeroes n first s
  | .deallocate n first => Sys2Proof.Machine.execDeallocate n first s
  | .compare n first => Sys2Proof.Machine.execCompare n first s
  | .commandStart id => Sys2Proof.Machine.execCommandStart id s
  | .wbufReserve id => Sys2Proof.Machine.execWbufReserve id s
  | .versionVisible id => Sys2Proof.Machine.execVersionVisible id s
  | .readResolve id => Sys2Proof.Machine.execReadResolve id s
  | .backingIssue id m => Sys2Proof.Machine.execBackingIssue id m s
  | .flushIssue id => Sys2Proof.Machine.execFlushIssue id s
  | .backingCompletion id k status data => Sys2Proof.Machine.execBackingCompletion id k status data s
  | .backingTimeout id k => Sys2Proof.Machine.execBackingTimeout id k s
  | .freeze n => Sys2Proof.Machine.execFreeze n s
  | .identify n => Sys2Proof.Machine.execIdentify n s
  | .getLog n => Sys2Proof.Machine.execGetLog n s
  | .getFeature n => Sys2Proof.Machine.execGetFeature n s
  | .coalesce n => Sys2Proof.Machine.execCoalesce n s
  | .volumeWbuf n => Sys2Proof.Machine.execVolumeWbuf n s
  | .volumeState n => Sys2Proof.Machine.execVolumeState n s
  | .fwDownload n => Sys2Proof.Machine.execFwDownload n s
  | .weltAbort n => Sys2Proof.Machine.execWeltAbort n s
  | .queueCreate n => Sys2Proof.Machine.execQueueCreate n s
  | .queueDelete n => Sys2Proof.Machine.execQueueDelete n s
  | .adminQueueRestart n => Sys2Proof.Machine.execAdminQueueRestart n s
  | .flr f => Sys2Proof.Machine.execFlr f s
  | .vfEnableWrite p en num => Sys2Proof.Machine.execVfEnableWrite p en num s
  | .teardownSquash f => Sys2Proof.Machine.execTeardownSquash f s
  | .teardownReadAbandon f => Sys2Proof.Machine.execTeardownReadAbandon f s
  | .teardownEnd f => Sys2Proof.Machine.execTeardownEnd f s
  | .configRequest f r v => Sys2Proof.Machine.execConfigRequest f r v s
  | .configReady l => Sys2Proof.Machine.execConfigReady l s
  | .teardownAccess f size write => Sys2Proof.Machine.execTeardownAccess f size write s
  | .intxClear f => Sys2Proof.Machine.execIntxClear f s
  | .completionTimeout port tag => Sys2Proof.Machine.execCompletionTimeout port tag s
  | .tagQuarantineEnd port tag => Sys2Proof.Machine.execTagQuarantineEnd port tag s
  | .completionArrival port tag st data => Sys2Proof.Machine.execCompletionArrival port tag st data s
  | .functionAbort => Sys2Proof.Machine.execFunctionAbort s
  | .tenantAbort => Sys2Proof.Machine.execTenantAbort s
  | .abortSquash => Sys2Proof.Machine.execAbortSquash s
  | .abortReadAbandon => Sys2Proof.Machine.execAbortReadAbandon s
  | .releaseFunction => Sys2Proof.Machine.execReleaseFunction s
  | .releaseTenant => Sys2Proof.Machine.execReleaseTenant s
  | .doeMessage pf type index => Sys2Proof.Machine.execDoeMessage pf type index s
  | .ideKm session stream op key => Sys2Proof.Machine.execIdeKm session stream op key s
  | .ideCheckFailed f => Sys2Proof.Machine.execIdeCheckFailed f s
  | .presenceDetect l => Sys2Proof.Machine.execPresenceDetect l s
  | .presenceLoss l => Sys2Proof.Machine.execPresenceLoss l s
  | .pwrOn l => Sys2Proof.Machine.execPwrOn l s
  | .pwrOff l => Sys2Proof.Machine.execPwrOff l s
  | .pwrOffPowerDrop l => Sys2Proof.Machine.execPwrOffPowerDrop l s
  | .slotPowerStable l => Sys2Proof.Machine.execSlotPowerStable l s
  | .powerFault l => Sys2Proof.Machine.execPowerFault l s
  | .attentionButton l => Sys2Proof.Machine.execAttentionButton l s
  | .attnRequest l => Sys2Proof.Machine.execAttnRequest l s
  | .eyeletLinkUp l flit speed width => Sys2Proof.Machine.execEyeletLinkUp l flit speed width s
  | .enumerationDone l ok vendor device bars => Sys2Proof.Machine.execEnumerationDone l ok vendor device bars s
  | .trainingTimeout l => Sys2Proof.Machine.execTrainingTimeout l s
  | .eyeletLinkDown l => Sys2Proof.Machine.execEyeletLinkDown l s
  | .aerUncorrectable l => Sys2Proof.Machine.execAerUncorrectable l s
  | .winCommit p => Sys2Proof.Machine.execWinCommit p s
  | .windowSwap p => Sys2Proof.Machine.execWindowSwap p s
  | .drainLimit p => Sys2Proof.Machine.execDrainLimit p s
  | .peerWrite n first => Sys2Proof.Machine.execPeerWrite n first s
  | .peerRead n first => Sys2Proof.Machine.execPeerRead n first s
  | .peerSend n first => Sys2Proof.Machine.execPeerSend n first s
  | .inboundRequest l own mem write addr len tag data => Sys2Proof.Machine.execInboundRequest l own mem write addr len tag data s
  | .inboundMem l => Sys2Proof.Machine.execInboundMem l s
  | .inboundDoorbell l => Sys2Proof.Machine.execInboundDoorbell l s
  | .inboundNotify l => Sys2Proof.Machine.execInboundNotify l s
  | .regionValidate => Sys2Proof.Machine.execRegionValidate s
  | .dramBurst i0 sub => Sys2Proof.Machine.execDramBurst i0 sub s
  | .perBankRefresh i0 sub b => Sys2Proof.Machine.execPerBankRefresh i0 sub b s
  | .refForced i0 sub b => Sys2Proof.Machine.execRefForced i0 sub b s
  | .refreshMultRead i0 code => Sys2Proof.Machine.execRefreshMultRead i0 code s
  | .targetedRefresh i0 sub b => Sys2Proof.Machine.execTargetedRefresh i0 sub b s
  | .actTableClear i0 => Sys2Proof.Machine.execActTableClear i0 s
  | .patrolRead i0 corrected => Sys2Proof.Machine.execPatrolRead i0 corrected s
  | .scrubWriteback i0 => Sys2Proof.Machine.execScrubWriteback i0 s
  | .dqTimingMeasure i0 up down => Sys2Proof.Machine.execDqTimingMeasure i0 up down s
  | .channelFreeze i0 cause loc row col syndrome => Sys2Proof.Machine.execChannelFreeze i0 cause loc row col syndrome s
  | .freezeTestDone i0 pass => Sys2Proof.Machine.execFreezeTestDone i0 pass s
  | .resyncDone i0 => Sys2Proof.Machine.execResyncDone i0 s
  | .spareIn h pass => Sys2Proof.Machine.execSpareIn h pass s
  | .spareActivate h pause => Sys2Proof.Machine.execSpareActivate h pause s
  | .regionRestore => Sys2Proof.Machine.execRegionRestore s
  | .chRetire => Sys2Proof.Machine.execChRetire s
  | .lockstep => Sys2Proof.Machine.execLockstep s
  | .bootSlotStart => Sys2Proof.Machine.execBootSlotStart s
  | .chunkLanded ok => Sys2Proof.Machine.execChunkLanded ok s
  | .dramTrainingDone failed rank row col cap => Sys2Proof.Machine.execDramTrainingDone failed rank row col cap s
  | .configRun => Sys2Proof.Machine.execConfigRun s
  | .w32 => Sys2Proof.Machine.execW32 s
  | .w64 => Sys2Proof.Machine.execW64 s
  | .copy => Sys2Proof.Machine.execCopy s
  | .addr64 => Sys2Proof.Machine.execAddr64 s
  | .csrBlock => Sys2Proof.Machine.execCsrBlock s
  | .poll => Sys2Proof.Machine.execPoll s
  | .pollTimeout => Sys2Proof.Machine.execPollTimeout s
  | .cfgEnd => Sys2Proof.Machine.execCfgEnd s
  | .storageAssign via => Sys2Proof.Machine.execStorageAssign via s
  | .outputGateOpen ok => Sys2Proof.Machine.execOutputGateOpen ok s
  | .slotBootFail => Sys2Proof.Machine.execSlotBootFail s
  | .journalAppend => Sys2Proof.Machine.execJournalAppend s
  | .compacted => Sys2Proof.Machine.execCompacted s
  | .mboxInfo via => Sys2Proof.Machine.execMboxInfo via s
  | .fwWrite via => Sys2Proof.Machine.execFwWrite via s
  | .store via ok => Sys2Proof.Machine.execStore via ok s
  | .storeActivate via ok => Sys2Proof.Machine.execStoreActivate via ok s
  | .activate via => Sys2Proof.Machine.execActivate via s
  | .svnCommit via => Sys2Proof.Machine.execSvnCommit via s
  | .debugChallenge via => Sys2Proof.Machine.execDebugChallenge via s
  | .debugUnlock via => Sys2Proof.Machine.execDebugUnlock via s
  | .nvRead via => Sys2Proof.Machine.execNvRead via s
  | .nvWrite via => Sys2Proof.Machine.execNvWrite via s
  | .recoveryBoot via => Sys2Proof.Machine.execRecoveryBoot via s
  | .mctpControl b cmd eid => Sys2Proof.Machine.execMctpControl b cmd eid s
  | .mctpUnsupportedMessage b type => Sys2Proof.Machine.execMctpUnsupportedMessage b type s
  | .getpdr b handle => Sys2Proof.Machine.execGetpdr b handle s
  | .getsensorreading b n => Sys2Proof.Machine.execGetsensorreading b n s
  | .getstatesensorreadings b n => Sys2Proof.Machine.execGetstatesensorreadings b n s
  | .setnumericsensorenable b n en => Sys2Proof.Machine.execSetnumericsensorenable b n en s
  | .seteventreceiver b eid => Sys2Proof.Machine.execSeteventreceiver b eid s
  | .requestupdate b size => Sys2Proof.Machine.execRequestupdate b size s
  | .requestfirmwaredata b data ok => Sys2Proof.Machine.execRequestfirmwaredata b data ok s
  | .activatefirmware b self => Sys2Proof.Machine.execActivatefirmware b self s
  | .getstatus b => Sys2Proof.Machine.execGetstatus b s
  | .cancelupdatecomponent b => Sys2Proof.Machine.execCancelupdatecomponent b s
  | .cancelupdate b => Sys2Proof.Machine.execCancelupdate b s
  | .querydeviceidentifiers b => Sys2Proof.Machine.execQuerydeviceidentifiers b s
  | .getfirmwareparameters b => Sys2Proof.Machine.execGetfirmwareparameters b s
  | .spdmRequest path code session param off len => Sys2Proof.Machine.execSpdmRequest path code session param off len s
  | .keyExchange path => Sys2Proof.Machine.execKeyExchange path s
  | .sealingKeyMessage path session index tenant soft hard key => Sys2Proof.Machine.execSealingKeyMessage path session index tenant soft hard key s
  | .flitReplay dir lane => Sys2Proof.Machine.execFlitReplay dir lane s
  | .seamDown dir => Sys2Proof.Machine.execSeamDown dir s
  | .seamRetrainDone ok => Sys2Proof.Machine.execSeamRetrainDone ok s
  | .seamLoss => Sys2Proof.Machine.execSeamLoss s
  | .heartbeat half => Sys2Proof.Machine.execHeartbeat half s
  | .witnessFrameReceived half ack crcOk => Sys2Proof.Machine.execWitnessFrameReceived half ack crcOk s
  | .fence => Sys2Proof.Machine.execFence s
  | .fenceAck => Sys2Proof.Machine.execFenceAck s
  | .witnessSilent half => Sys2Proof.Machine.execWitnessSilent half s
  | .halfFence => Sys2Proof.Machine.execHalfFence s
  | .fenceTimeout => Sys2Proof.Machine.execFenceTimeout s
  | .rejoinRetrain ok => Sys2Proof.Machine.execRejoinRetrain ok s
  | .retrain ok => Sys2Proof.Machine.execRetrain ok s
  | .rejoin => Sys2Proof.Machine.execRejoin s
  | .halfReset => Sys2Proof.Machine.execHalfReset s
  | .rejoinDone => Sys2Proof.Machine.execRejoinDone s
  | .errorReport k pos row unc owner => Sys2Proof.Machine.execErrorReport k pos row unc owner s
  | .faultInject => Sys2Proof.Machine.execFaultInject s
  | .spindleSwapDrain sp => Sys2Proof.Machine.execSpindleSwapDrain sp s
  | .spindleSwapComplete sp => Sys2Proof.Machine.execSpindleSwapComplete sp s
  | .spareEngineEnable pos => Sys2Proof.Machine.execSpareEngineEnable pos s
  | .cardLaneRetire l => Sys2Proof.Machine.execCardLaneRetire l s
  | .wearSample ages => Sys2Proof.Machine.execWearSample ages s
  | .domainSwitch v => Sys2Proof.Machine.execDomainSwitch v s
  | .domainOffDone k => Sys2Proof.Machine.execDomainOffDone k s
  | .domainOnDone k => Sys2Proof.Machine.execDomainOnDone k s
  | .sensorRead temps rails watts => Sys2Proof.Machine.execSensorRead temps rails watts s
  | .throttleRelease => Sys2Proof.Machine.execThrottleRelease s
  | .clockChange => Sys2Proof.Machine.execClockChange s
  | .perstNDeassertion l => Sys2Proof.Machine.execPerstNDeassertion l s
  | .hostLinkUp l flit speed width => Sys2Proof.Machine.execHostLinkUp l flit speed width s
  | .portLinkDown p => Sys2Proof.Machine.execPortLinkDown p s
  | .msixTableWrite f x w v => Sys2Proof.Machine.execMsixTableWrite f x w v s
  | .rowActiveTimeout i0 sub b => Sys2Proof.Machine.execRowActiveTimeout i0 sub b s

end Sys2Proof.Machine
end

