-- ==== Sys2Proof/Machine/Tick.lean ====
section
/-! DEFINITION. One core cycle in which nothing is commanded: the clocks that run of themselves (R20), the all-wait detectors (R79)
and the accounting of availability (R439). Turns, stitches and boundaries are commands of their own. -/

namespace Sys2Proof.Machine

open Sys2Proof

/-- R439: `n` units of 125 ps of such a condition; each 8,000 are a microsecond. -/
def State.accountAvail (s : State) (n : Nat) : State :=
  if s.unavailable = false then s
  else
    let t := s.seam.availRem + n
    let s := { s with seam := { s.seam with availRem := t % 8000 } }
    if t / 8000 = 0 then s else s.wr F.FAULT_AVAIL.UNAVAIL_US (s.rd F.FAULT_AVAIL.UNAVAIL_US + t / 8000)

/-- One idle core cycle. While the part is held, has no power or has tripped, only time passes. -/
def State.idle (s : State) : State :=
  if s.held ∨ s.pwr.pwrgd = false ∨ s.pwr.tripped then { s with clk := { s.clk with time := s.clk.time + 4 } }
  else
    let n := if s.rd F.POWER_CLK.CUR = 1 then 5 else 4
    let s := s.tick.accountAvail n
    (AMap.keys s.mules.spindles).foldl (fun s sp => s.watchSpindle sp) s

end Sys2Proof.Machine
end

