-- ==== Sys2Proof/WellFormed.lean ====
section
/-! DEFINITION. Which commands are well formed: the units, ports, threads and queues they name are ones the part has (chapters 00 to
14), and an Obord instruction has a form that its encoding admits (R90). -/

namespace Sys2Proof

def below (n k : Nat) : Bool := decide (k < n)

/-- Half A or B; also a direction of the seam, a host link or a sub-channel. -/
def halfOk (h : Nat) : Bool := below 2 h
def muleOk (m : Nat) : Bool := below 48 m
def spindleOk (sp : Nat) : Bool := below 768 sp

/-- A spindle, or 1,024 for the Cobbler. -/
def issuerOk (sp : Nat) : Bool := below 768 sp || sp == 1024

/-- A thread of a spindle, or the Cobbler. -/
def threadOk (tid : Nat) : Bool := below 6144 tid || tid == 8192

/-- An Ethernet port. -/
def portOk (p : Nat) : Bool := below 16 p

/-- An Eyelet link. -/
def linkOk (l : Nat) : Bool := below 16 l

/-- A DRAM channel. -/
def channelOk (i : Nat) : Bool := below 18 i

/-- R355: 1 or 2 ranks of 16 banks, and at most 32 GiB in a channel. -/
def geometryOk (rank row col cap : Nat) : Bool :=
  below 2 rank && below 32 row && below 16 col && decide (1 ≤ cap) && decide (cap ≤ 32) && decide (cap * 2 ^ 30 ≤ 2 ^ (col + 4 + row + rank + 6))
def queueOk (n : Nat) : Bool := below 65536 n

/-- PF0 to PF3 and 4,096 VFs. -/
def funcOk (f : Nat) : Bool := below 4100 f

/-- A unit instance of a resource class (R28): Card lanes, dispatchers, engines, sub-channels, host links, Eyelet ports. -/
def unitOk (c u : Nat) : Bool :=
  match c with
  | 0 => below 10 u | 1 => below 2 u | 2 => below 544 u | 3 => below 36 u | 4 => below 2 u | 5 => below 4 u | _ => false

/-- A bit field within 64 bits (R94). -/
def fieldOk (pos lenm1 : BitVec 6) : Bool := decide (pos.toNat + lenm1.toNat + 1 ≤ 64)

/-- A LOOP that runs a body (R97). -/
def bodyOk (trip : Byte) (len : BitVec 13) : Bool := trip != 0 && len != 0

/-- The command names what the part has, in a form that the spec admits. -/
def wellFormed (c : Instr) : Bool :=
  match c with
  | .powerReset _ _ => true
  | .hostReset l _ => halfOk l
  | .pwrgdRise _ => true
  | .powerOnResetEnd _ => true
  | .xspiResetRelease => true
  | .pwrgdFall => true
  | .railUndervolt _ => true
  | .sysClkLoss => true
  | .ethRefclkLoss h => halfOk h
  | .hostRefclkLoss l => halfOk l
  | .csrWrite _ _ _ _ => true
  | .csrFaultyRead _ _ _ => true
  | .csrLowerHalfRead _ _ => true
  | .rcRead _ _ _ => true
  | .turnStart => true
  | .stitchBoundary => true
  | .lacingPeriodBoundary => true
  | .stitchLenReqWrite _ => true
  | .stitchLenApply => true
  | .stitchLaceCommit _ => true
  | .cancel => true
  | .lacingShadowWrite _ _ _ => true
  | .laceSwap => true
  | .serviceUnitBoundary c u _ => unitOk c u
  | .threadIssueCycle sp => issuerOk sp
  | .add tid _ _ _ => threadOk tid
  | .sub tid _ _ _ => threadOk tid
  | .and tid _ _ _ => threadOk tid
  | .or tid _ _ _ => threadOk tid
  | .xor tid _ _ _ => threadOk tid
  | .andn tid _ _ _ => threadOk tid
  | .shl tid _ _ _ => threadOk tid
  | .shr tid _ _ _ => threadOk tid
  | .sar tid _ _ _ => threadOk tid
  | .rol tid _ _ _ => threadOk tid
  | .slt tid _ _ _ => threadOk tid
  | .sltu tid _ _ _ => threadOk tid
  | .seq tid _ _ _ => threadOk tid
  | .minU tid _ _ _ => threadOk tid
  | .maxU tid _ _ _ => threadOk tid
  | .cmovnz tid _ _ _ => threadOk tid
  | .mul tid _ _ _ => threadOk tid
  | .mulhu tid _ _ _ => threadOk tid
  | .popc tid _ _ => threadOk tid
  | .clz tid _ _ => threadOk tid
  | .ctz tid _ _ => threadOk tid
  | .bsw16 tid _ _ => threadOk tid
  | .bsw32 tid _ _ => threadOk tid
  | .bsw64 tid _ _ => threadOk tid
  | .crc32c tid _ _ _ _ => threadOk tid
  | .hmix tid _ _ _ => threadOk tid
  | .addi tid _ _ _ => threadOk tid
  | .andi tid _ _ _ => threadOk tid
  | .ori tid _ _ _ => threadOk tid
  | .xori tid _ _ _ => threadOk tid
  | .shi tid _ _ _ _ => threadOk tid
  | .sltiu tid _ _ _ => threadOk tid
  | .movi tid _ _ => threadOk tid
  | .movhi tid _ _ _ => threadOk tid
  | .bfx tid _ _ pos lenm1 => threadOk tid && fieldOk pos lenm1
  | .bfi tid _ _ pos lenm1 => threadOk tid && fieldOk pos lenm1
  | .rdctr tid _ sel => threadOk tid && below 6 sel.toNat
  | .br tid _ _ _ _ => threadOk tid
  | .bb tid _ _ _ _ => threadOk tid
  | .jmp tid _ => threadOk tid
  | .loop tid trip len => threadOk tid && bodyOk trip len
  | .doneDeliver tid _ => threadOk tid
  | .doneDrop tid _ => threadOk tid
  | .doneSlowpath tid _ => threadOk tid
  | .retireEnd tid => threadOk tid
  | .call tid _ => threadOk tid
  | .brb tid _ _ _ _ => threadOk tid
  | .jr tid _ _ => threadOk tid
  | .loopr tid _ len => threadOk tid && below 8192 len.toNat && len != 0
  | .ld tid _ _ _ _ _ => threadOk tid
  | .st tid _ _ _ _ => threadOk tid
  | .hld tid _ _ _ _ _ => threadOk tid
  | .hst tid _ _ _ _ => threadOk tid
  | .sld tid _ _ _ _ _ => threadOk tid
  | .sst tid _ _ _ _ => threadOk tid
  | .fetchAdd tid _ _ _ _ => threadOk tid
  | .satomSwap tid _ _ _ _ => threadOk tid
  | .cas tid _ _ _ _ => threadOk tid
  | .satomAnd tid _ _ _ _ => threadOk tid
  | .satomOr tid _ _ _ _ => threadOk tid
  | .satomXor tid _ _ _ _ => threadOk tid
  | .satomMinU tid _ _ _ _ => threadOk tid
  | .satomMaxU tid _ _ _ _ => threadOk tid
  | .scratchAccessPerform m bank => muleOk m && below 16 bank
  | .lkup tid _ _ sel dl => threadOk tid && dl != 0 && below 30 sel.toNat
  | .lookupResult tid tk => threadOk tid && below 4 tk
  | .lkw tid _ _ => threadOk tid
  | .lookupDeadline tid => threadOk tid
  | .fcwb tid _ _ _ => threadOk tid
  | .ystage tid _ _ => threadOk tid
  | .ysend tid _ _ _ _ _ => threadOk tid
  | .yres tid _ _ _ _ _ => threadOk tid
  | .yput tid _ _ => threadOk tid
  | .ycommit tid _ => threadOk tid
  | .yrecv tid _ _ _ => threadOk tid
  | .ynote tid _ => threadOk tid
  | .wait tid _ _ _ => threadOk tid
  | .waitWake tid => threadOk tid
  | .signal tid _ _ => threadOk tid
  | .csub tid _ _ => threadOk tid
  | .qpost tid _ _ _ => threadOk tid
  | .resume tid _ => threadOk tid
  | .frec tid _ _ => threadOk tid
  | .tstate tid _ => threadOk tid
  | .devld tid _ _ _ _ _ => threadOk tid
  | .deviceLoadData tid => threadOk tid
  | .devst tid _ _ _ _ => threadOk tid
  | .csrrd tid _ _ _ _ _ => threadOk tid
  | .csrwr tid _ _ _ _ => threadOk tid
  | .yarnStatusReturn _ => true
  | .messageArrival _ => true
  | .blockingSendRetry _ => true
  | .reservationExpiry tid => threadOk tid
  | .deadlock sp => spindleOk sp
  | .escalationWindowEnd sp => spindleOk sp
  | .overrun tid => threadOk tid
  | .thrCtrlResume sp mask => spindleOk sp && below 256 mask
  | .dbgHalt sp mask _ => spindleOk sp && below 256 mask
  | .softHaltEffect tid => threadOk tid
  | .dbgStep sp mask => spindleOk sp && below 256 mask
  | .dbgResume sp mask => spindleOk sp && below 256 mask
  | .muleSwapRequest m spn => muleOk m && below 65536 spn
  | .muleSwapApply m => muleOk m
  | .longWorkRestart tid => threadOk tid
  | .bankDrainEnd sp => spindleOk sp
  | .roleChangeRequest sp role _ => spindleOk sp && below 8 role
  | .roleForced sp => spindleOk sp
  | .roleChangeApply sp => spindleOk sp
  | .muleLoadStart m spn => muleOk m && below 65536 spn
  | .imageLoadDone m => muleOk m
  | .workerDispatch tid => threadOk tid
  | .frameReceived p _ _ _ => portOk p
  | .ethHalfApply h => halfOk h
  | .portLinkUp p => portOk p
  | .pfcXoffResend p q => portOk p && below 8 q
  | .pfcFrameReceived p _ => portOk p
  | .pfcPauseExpiry p c => portOk p && below 8 c
  | .stepPtp => true
  | .ptpValidWrite _ => true
  | .ppsOutRise => true
  | .ppsOutFall => true
  | .ppsInEdge => true
  | .cardAdmission lane => below 10 lane
  | .parseEnd _ => true
  | .preDispatchWaitEnd _ _ _ => true
  | .flowHoldRelease _ => true
  | .fctxFill _ => true
  | .cardCommit _ => true
  | .cardSwap => true
  | .emInsert => true
  | .emUpsert => true
  | .emDelete => true
  | .pfxAdd => true
  | .pfxDel => true
  | .ruleWrite => true
  | .ruleClear => true
  | .fctxWrite => true
  | .lastUpdateDone => true
  | .controlReinjection h => halfOk h
  | .editorPacketRelease _ => true
  | .set _ => true
  | .vlanPush _ => true
  | .vlanPop _ => true
  | .encapVxlan _ => true
  | .encapGeneve _ => true
  | .decap _ => true
  | .csum _ => true
  | .crypto _ => true
  | .mirror _ => true
  | .ttlDec _ => true
  | .toPort _ => true
  | .toHostq _ => true
  | .toPeer _ => true
  | .toControl _ => true
  | .drop _ => true
  | .egressFrameStart p => portOk p
  | .shaperRefill => true
  | .cipherJobAdmit _ => true
  | .sessionUnwrap _ => true
  | .cipherJobStart u => below 544 u
  | .cipherBlockDone u _ => below 544 u
  | .cipherJobComplete _ => true
  | .install _ => true
  | .limits _ => true
  | .invalidate _ => true
  | .sessionRead _ => true
  | .sessionOpDone _ => true
  | .wqDoorbell f _ _ => funcOk f
  | .cqDoorbell f _ _ => funcOk f
  | .cqArm f _ _ => funcOk f
  | .doorbellDiscard f _ _ _ => funcOk f
  | .wqeFetch h _ _ => halfOk h
  | .fetchComplete n => queueOk n
  | .errorCqeWrite n => queueOk n
  | .jobComplete n _ => queueOk n
  | .parkedCqeWrite c => queueOk c
  | .interruptModTimer _ => true
  | .cqStall n => queueOk n
  | .netTxSend n _ => queueOk n
  | .netTxBobbinWaitEnd n _ => queueOk n
  | .netRxRecv n _ => queueOk n
  | .msgDeliver n => queueOk n
  | .msgCompletion h => halfOk h
  | .cqCiMessage h => halfOk h
  | .cqCreate f => funcOk f
  | .wqCreate f => funcOk f
  | .cqDelete f => funcOk f
  | .wqDelete f => funcOk f
  | .queueRestart f => funcOk f
  | .queueAbort f => funcOk f
  | .queueAbortSquash n => queueOk n
  | .moderate f => funcOk f
  | .query f => funcOk f
  | .sched f => funcOk f
  | .bobbinEnable => true
  | .bobbinPartWrite _ t c _ => below 4096 t && below 8 c
  | .alloc h => halfOk h
  | .free h => halfOk h
  | .transfer h => halfOk h
  | .incref h => halfOk h
  | .link h => halfOk h
  | .bobbinInfo h => halfOk h
  | .bobbinScrub _ _ => true
  | .volSet => true
  | .volOnline => true
  | .volOffline => true
  | .volOfflineDone _ => true
  | .volRead => true
  | .volDelete => true
  | .connSet => true
  | .connUp => true
  | .connectionUpDone _ _ => true
  | .connDown => true
  | .connRead => true
  | .keepAlive _ _ => true
  | .connectionDown _ _ => true
  | .read n _ => queueOk n
  | .write n _ => queueOk n
  | .flush n _ => queueOk n
  | .writeZeroes n _ => queueOk n
  | .deallocate n _ => queueOk n
  | .compare n _ => queueOk n
  | .commandStart _ => true
  | .wbufReserve _ => true
  | .versionVisible _ => true
  | .readResolve _ => true
  | .backingIssue _ _ => true
  | .flushIssue _ => true
  | .backingCompletion _ _ _ _ => true
  | .backingTimeout _ _ => true
  | .freeze n => queueOk n
  | .identify n => queueOk n
  | .getLog n => queueOk n
  | .getFeature n => queueOk n
  | .coalesce n => queueOk n
  | .volumeWbuf n => queueOk n
  | .volumeState n => queueOk n
  | .fwDownload n => queueOk n
  | .weltAbort n => queueOk n
  | .queueCreate n => queueOk n
  | .queueDelete n => queueOk n
  | .adminQueueRestart n => queueOk n
  | .flr f => funcOk f
  | .vfEnableWrite p _ _ => below 4 p
  | .teardownSquash f => funcOk f
  | .teardownReadAbandon f => funcOk f
  | .teardownEnd f => funcOk f
  | .configRequest f _ _ => funcOk f
  | .configReady l => halfOk l
  | .teardownAccess f _ _ => funcOk f
  | .intxClear f => funcOk f
  | .completionTimeout _ _ => true
  | .tagQuarantineEnd _ _ => true
  | .completionArrival _ _ _ _ => true
  | .functionAbort => true
  | .tenantAbort => true
  | .abortSquash => true
  | .abortReadAbandon => true
  | .releaseFunction => true
  | .releaseTenant => true
  | .doeMessage pf _ _ => below 4 pf
  | .ideKm _ _ _ _ => true
  | .ideCheckFailed f => funcOk f
  | .presenceDetect l => linkOk l
  | .presenceLoss l => linkOk l
  | .pwrOn l => linkOk l
  | .pwrOff l => linkOk l
  | .pwrOffPowerDrop l => linkOk l
  | .slotPowerStable l => linkOk l
  | .powerFault l => linkOk l
  | .attentionButton l => linkOk l
  | .attnRequest l => linkOk l
  | .eyeletLinkUp l _ _ _ => linkOk l
  | .enumerationDone l _ _ _ _ => linkOk l
  | .trainingTimeout l => linkOk l
  | .eyeletLinkDown l => linkOk l
  | .aerUncorrectable l => linkOk l
  | .winCommit p => below 4 p
  | .windowSwap p => below 4 p
  | .drainLimit p => below 4 p
  | .peerWrite n _ => queueOk n
  | .peerRead n _ => queueOk n
  | .peerSend n _ => queueOk n
  | .inboundRequest l _ _ _ _ _ _ _ => linkOk l
  | .inboundMem l => linkOk l
  | .inboundDoorbell l => linkOk l
  | .inboundNotify l => linkOk l
  | .regionValidate => true
  | .dramBurst i sub => channelOk i && halfOk sub
  | .perBankRefresh i sub b => channelOk i && halfOk sub && below 32 b
  | .refForced i sub b => channelOk i && halfOk sub && below 32 b
  | .refreshMultRead i _ => channelOk i
  | .targetedRefresh i sub b => channelOk i && halfOk sub && below 32 b
  | .actTableClear i => channelOk i
  | .patrolRead i _ => channelOk i
  | .scrubWriteback i => channelOk i
  | .dqTimingMeasure i _ _ => channelOk i
  | .channelFreeze i _ _ _ _ _ => channelOk i
  | .freezeTestDone i _ => channelOk i
  | .resyncDone i => channelOk i
  | .spareIn h _ => halfOk h
  | .spareActivate h _ => halfOk h
  | .regionRestore => true
  | .chRetire => true
  | .lockstep => true
  | .bootSlotStart => true
  | .chunkLanded _ => true
  | .dramTrainingDone _ rank row col cap => geometryOk rank row col cap
  | .configRun => true
  | .w32 => true
  | .w64 => true
  | .copy => true
  | .addr64 => true
  | .csrBlock => true
  | .poll => true
  | .pollTimeout => true
  | .cfgEnd => true
  | .storageAssign _ => true
  | .outputGateOpen _ => true
  | .slotBootFail => true
  | .journalAppend => true
  | .compacted => true
  | .mboxInfo _ => true
  | .fwWrite _ => true
  | .store _ _ => true
  | .storeActivate _ _ => true
  | .activate _ => true
  | .svnCommit _ => true
  | .debugChallenge _ => true
  | .debugUnlock _ => true
  | .nvRead _ => true
  | .nvWrite _ => true
  | .recoveryBoot _ => true
  | .mctpControl _ _ _ => true
  | .mctpUnsupportedMessage _ _ => true
  | .getpdr _ _ => true
  | .getsensorreading _ _ => true
  | .getstatesensorreadings _ _ => true
  | .setnumericsensorenable _ _ _ => true
  | .seteventreceiver _ _ => true
  | .requestupdate _ _ => true
  | .requestfirmwaredata _ _ _ => true
  | .activatefirmware _ _ => true
  | .getstatus _ => true
  | .cancelupdatecomponent _ => true
  | .cancelupdate _ => true
  | .querydeviceidentifiers _ => true
  | .getfirmwareparameters _ => true
  | .spdmRequest _ _ _ _ _ _ => true
  | .keyExchange _ => true
  | .sealingKeyMessage _ _ _ _ _ _ _ => true
  | .flitReplay dir lane => halfOk dir && below 18 lane
  | .seamDown dir => halfOk dir
  | .seamRetrainDone _ => true
  | .seamLoss => true
  | .heartbeat half => halfOk half
  | .witnessFrameReceived half _ _ => halfOk half
  | .fence => true
  | .fenceAck => true
  | .witnessSilent half => halfOk half
  | .halfFence => true
  | .fenceTimeout => true
  | .rejoinRetrain _ => true
  | .retrain _ => true
  | .rejoin => true
  | .halfReset => true
  | .rejoinDone => true
  | .errorReport k _ _ _ _ => below 8 k
  | .faultInject => true
  | .spindleSwapDrain sp => spindleOk sp
  | .spindleSwapComplete sp => spindleOk sp
  | .spareEngineEnable _ => true
  | .cardLaneRetire l => below 10 l
  | .wearSample _ => true
  | .domainSwitch _ => true
  | .domainOffDone k => below 63 k
  | .domainOnDone k => below 63 k
  | .sensorRead _ _ _ => true
  | .throttleRelease => true
  | .clockChange => true
  | .perstNDeassertion l => halfOk l
  | .hostLinkUp l flit speed width =>
    halfOk l && decide (1 ≤ speed) && below 8 speed && [1, 2, 4, 8, 16].contains width && (flit || below 6 speed)
  | .portLinkDown p => portOk p
  | .msixTableWrite f _ _ _ => funcOk f
  | .rowActiveTimeout i sub b => channelOk i && halfOk sub && below 32 b

end Sys2Proof
end

