-- ==== Sys2Proof/Safety.lean ====
section
/-! DEFINITION. The terms in which statements about the block are made: what a step leaves unchanged, when a thread's
instruction issues, and what holds of every good state. -/

namespace Sys2Proof.Machine

open Sys2Proof

/-! ### Frames -/

/-- Every register field that shares no bit with the fields listed reads in `t` as in `s`. -/
def State.regsKept (s t : State) (fs : List FRef) : Prop :=
  ∀ g : FRef, (∀ f ∈ fs, g.addr ≠ f.addr ∨ g.hi < f.lo ∨ f.hi < g.lo) → t.rd g = s.rd g

/-- The head register of an event FIFO, which shows its oldest entry. -/
def evqHead (q : FifoRef) : FRef := ⟨q.addr, 63, 0⟩

/-- From `s` to `t` nothing changes but the register fields listed. -/
def State.onlyRegs (s t : State) (fs : List FRef) : Prop := { t with csr := s.csr } = s ∧ s.regsKept t fs

/-- The register file is the same. -/
def State.sameRegs (s t : State) : Prop := t.csr = s.csr

/-- From `s` to `t` nothing changes but what the mules hold of their threads, spindles and scratch accesses. -/
def State.onlyMules (s t : State) : Prop := { t with mules := s.mules } = s

/-- No thread but `tid` changes, and no spindle but its own, of which only the cycle last used does. -/
def State.onlyThread (s t : State) (tid : Nat) : Prop :=
  { t.mules with threads := s.mules.threads, spindles := s.mules.spindles } = s.mules ∧ (∀ u, u ≠ tid → t.thr u = s.thr u) ∧
    (∀ sp, sp ≠ spOf tid → t.spindle sp = s.spindle sp) ∧
    { t.spindle (spOf tid) with issued := (s.spindle (spOf tid)).issued } = s.spindle (spOf tid)

/-! ### Issue (R50, R51, R87, R90, R91, R126) -/

/-- The present cycle is the thread's own and its spindle has not used it, the thread is in RUN with no halt due and its budget
not used up, the instruction needs nothing that is pending or busy, and the thread's context admits it. -/
structure State.MayIssue (s : State) (tid : Nat) (i : Ob) : Prop where
  slot : s.slotOpen tid = true
  run : s.runs tid = true
  noHalt : s.haltDue tid = none
  budget : s.overDue tid = false
  ready : s.ready tid i = true
  body : i.bodyBeyond (s.thr tid).pc = false
  context : i.contextFault (s.ctxOf tid) = none

/-- The thread's slot is used and, of a bounded thread, counted. -/
def State.spent (s : State) (tid : Nat) : State := (s.takeSlot tid).countSlot tid

/-- The thread's slot is used, a register takes a value, and the thread goes on behind its instruction. -/
def State.wrote (s : State) (tid : Nat) (rd : Reg) (v : W64) : State :=
  ((s.spent tid).modThr tid fun x => x.setG rd.toNat v).goOn tid

/-- From `s` to `t` the thread uses its slot and only its own record changes, to `x` but for the count of slots, and of its
spindle only the cycle last used. -/
def State.threadTo (s t : State) (tid : Nat) (x : Thread) : Prop :=
  s.onlyMules t ∧ s.onlyThread t tid ∧
    t.thr tid = { x with slots := (s.thr tid).slots + (if s.bounded tid then 1 else 0) }

/-- A thread behind an instruction that transfers no control (R97, characterised by statement RegisterWriteFrame). -/
def Thread.onward (x : Thread) : Thread := { x with pc := (afterPc x.pc x.loops).1, loops := (afterPc x.pc x.loops).2 }

/-- The condition of a branch in the words of R96. -/
def condSays (cc : Cond) (a b : W64) : Prop :=
  match cc with
  | .eq => a = b
  | .ne => a ≠ b
  | .lt => a.toInt < b.toInt
  | .ge => b.toInt ≤ a.toInt
  | .ltu => a.toNat < b.toNat
  | .geu => b.toNat ≤ a.toNat

/-- R97: what stays of the levels of a loop stack, innermost first, when a transfer of control leaves the bodies that `out`
names: the outermost of them and every level inside it are popped. -/
def poppedTo (out : Level → Prop) (ls rest : List Level) : Prop :=
  ∃ gone, ls = gone ++ rest ∧ (∀ l ∈ rest, ¬ out l) ∧ (∀ l, gone.getLast? = some l → out l)

/-- A value of `n` bytes as a register takes it: sign-extended or not. -/
def loaded (n : Nat) (sx : Bool) (v : Nat) : W64 :=
  if sx = true ∧ 2 ^ (8 * n - 1) ≤ v then BitVec.ofNat 64 (2 ^ 64 - 2 ^ (8 * n) + v) else BitVec.ofNat 64 v

/-- Bytes `a` to `a + n - 1` of a memory are those of a number, least significant first, and every other byte is unchanged. -/
def Memory.stored (m m' : Memory) (a n v : Nat) : Prop :=
  ∀ x, Memory.byte m' x = if a ≤ x ∧ x < a + n then BitVec.ofNat 8 (v / 256 ^ (x - a)) else Memory.byte m x

/-! ### The CSR space (R6 to R16) -/

/-- R12, R13, R14: a bit of a field after a write that reaches it. -/
def bitWritten (a : Acc) (locked old v : Bool) : Bool :=
  match a with
  | .rw => v
  | .rwl => if locked then old else v
  | .w1c => old && !v
  | .w1s => old || v
  | .ro => old
  | .rc => old
  | .wo => false
  | .rsv => false

/-- Arrays of registers of which some are written with a condition or an effect of their own. -/
def specialArrays : List (Nat × Nat × Nat) :=
  [(0xC00000, 4, 2), (0xC00100, 0x20, 16), (0x1700100, 0x20, 16), (0x1700400, 8, 4), (0x1480000, 0x10, 32768), (0x1710000, 0x1000, 4),
   (0x1210000, 8, 4100), (0x1610000, 8, 4100), (0x1600108, 8, 3), (0x1600400, 8, 64), (0x1730000, 0x20, 128), (0x1000214, 4, 19)]

/-- Registers written with a condition or an effect of their own. -/
def specialRegs : List Nat :=
  commandRegs ++ [0x100000, 0x100020, 0x100040, 0x600010, 0xD00010, 0x1400000, 0x1500000, 0x1600020, 0x1808000, 0x1B00300, 0x1C00000, 0x1C00018]

/-- The register at an offset takes a write by its access codes alone. -/
def ordinaryReg (r : Nat) : Bool :=
  !inWindow r && !specialRegs.contains r && !specialArrays.any (fun x => inArray r x.1 x.2.1 x.2.2) &&
    match muleOff r with
    | some o => !(decide (0x100 ≤ o) && decide (o < 0x140)) && o != 0x208 && o != 0x210 && !(decide (0x340 ≤ o) && decide (o < 0x380)) &&
        !(decide (0x4000 ≤ o) && decide (o < 0x4040))
    | none => true

/-- PF0 or the Cobbler, when it reaches the CSR space as a whole (R6, R321, R391, R396). -/
def State.reaches (s : State) (who : Requester) : Bool :=
  match who with
  | .pf0 => s.locked && s.fstate 0 != fsTeardown
  | .cobbler => s.cob.boot.stage != .held && !s.pwr.tripped
  | .fcp _ | .msix _ | .during _ _ => false

/-- From `s` to `t` one faulty access is recorded: the first record stands, and every one is counted (R7, R8, R14). -/
def State.csrRecorded (s t : State) (cause off : Nat) (write : Bool) : Prop :=
  t.rd F.GLOBAL_CSR_ERR_CNT.COUNT = min (s.rd F.GLOBAL_CSR_ERR_CNT.COUNT + 1) (2 ^ F.GLOBAL_CSR_ERR_CNT.COUNT.bits - 1) ∧
    (s.rd F.GLOBAL_CSR_ERR.VALID = 1 → t.word 0x10 = s.word 0x10) ∧
    (s.rd F.GLOBAL_CSR_ERR.VALID = 0 → t.word 0x10 = 2 ^ 31 + cause * 2 ^ 28 + (if write then 2 ^ 27 else 0) + off % 2 ^ 26)

/-! ### The stitch and the lacing (chapter 01) -/

/-- R20, R39: in `t` a new turn has begun at a unit instance: its held choices have ended and its pointers stand. -/
def State.turnFresh (s t : State) (c u : Nat) : Prop :=
  (t.unit c u).heldShare = none ∧ (t.unit c u).heldFree = none ∧ (t.unit c u).chosen = none ∧ (t.unit c u).starts = 0 ∧
    (t.unit c u).firstMade = false ∧ (t.unit c u).sharePtr = (s.unit c u).sharePtr ∧ (t.unit c u).freePtr = (s.unit c u).freePtr

/-- The commands of the stitch and the lacing. -/
def stitchCommand : Instr → Bool
  | .turnStart | .stitchBoundary | .lacingPeriodBoundary | .stitchLenReqWrite _ | .stitchLenApply | .stitchLaceCommit _ | .cancel
  | .lacingShadowWrite _ _ _ | .laceSwap | .serviceUnitBoundary _ _ _ => true
  | _ => false

/-- What holds of the stitch and the lacing in every good state: only entries that validation accepts are active (R43), with no
fewer SYSTEM entries in class 3 than required (R365); the position is the stitch number modulo 64 (R21); PENDING reads 1 exactly
while a request waits, and a length change and a commit never wait together (R25, R26). -/
structure State.laceGood (s : State) : Prop where
  entries : ∀ c < 6, ∀ p, entryFault c (s.laceEntry c p) = none
  system : s.rd F.STITCH_SYSREQ.MIN ≤ systemCount (s.laceTab 3).active
  position : s.rd F.STITCH_POS.SIP = s.rd F.STITCH_COUNT.COUNT % 64
  lenPending : s.rd F.STITCH_LEN.PENDING = 1 ↔ s.lace.lenReqAt.isSome = true
  lacePending : s.rd F.STITCH_LACE_STATUS.PENDING = 1 ↔ s.lace.commit.isSome = true
  apart : s.lace.lenReqAt = none ∨ s.lace.commit = none

/-! ### Queues (chapter 06) -/

/-- From `s` to `t` only the record of one WQ changes. -/
def State.onlyWq (s t : State) (n : Nat) : Prop :=
  { t with q := s.q } = s ∧ { t.q with wqs := s.q.wqs } = s.q ∧ ∀ m, m ≠ n → t.wq? m = s.wq? m

/-- A command of the block of `f` has reported done with a status and a detail (Table 6.10). -/
def State.cmdReported (t : State) (f status detail : Nat) : Prop :=
  t.blkWord f 8 = 2 ^ 31 + 2 ^ 8 * detail + status ∧ (t.blkWord f 0).testBit 62 = false

/-- R215, R218: `v` is an index that a WQ's ring admits as its PI. -/
def Wq.admits (w : Wq) (v : Nat) : Prop :=
  w.dist v w.ci ≤ (if w.compat then 2 ^ w.log2 - 1 else 2 ^ w.log2) ∧ w.dist w.fi w.ci ≤ w.dist v w.ci

/-- No other WQ of a CQ waits with a reported job. -/
def State.soleReporter (s : State) (n c : Nat) : Prop :=
  ∀ m w, m ≠ n → (m, w) ∈ s.q.wqs → w.cq = c → ∀ j rest, w.jobs = j :: rest → j.stage ≠ .done

/-! ### Packets (chapter 04) -/

/-- The four fields of a port that say its link is down. -/
def State.portIsDown (t : State) (p : Nat) : Prop :=
  t.rd (F.ETH_PORT_STATUS.LINK p) = 0 ∧ t.rd (F.ETH_PORT_STATUS.SPEED p) = 0 ∧ t.rd (F.ETH_PORT_STATUS.LANES p) = 0 ∧
    t.rd (F.ETH_PORT_STATUS.DEGRADED p) = 0

/-- The status fields of a port that its link's state writes. -/
def portFields (p : Nat) : List FRef :=
  [F.ETH_PORT_STATUS.LINK p, F.ETH_PORT_STATUS.SPEED p, F.ETH_PORT_STATUS.LANES p, F.ETH_PORT_STATUS.DEGRADED p]

/-- Every bobbin's fields fit Table 7.2: NEXT is a handle, CLASS one of eight, TENANT one of 4,096. -/
def State.bobGood (s : State) : Prop :=
  ∀ b, (s.desc b).next < 2 ^ 24 ∧ (s.desc b).cls < 8 ∧ (s.desc b).tenant < 4096

/-- A packet lies in one bobbin alone, and its LEN bytes lie within the bobbin's size. -/
structure State.solo (s : State) (p : Packet) : Prop where
  handle : p.handle ≠ 0
  next : (s.desc p.handle).next = 0
  len : (s.desc p.handle).len = p.len
  fits : (s.desc p.handle).off + p.len ≤ classSize (s.desc p.handle).cls

/-- Every byte of memory outside a bobbin of `s` is unchanged. -/
def State.memKept (s t : State) (b : Nat) : Prop :=
  ∀ a, a < s.bobAddr b ∨ s.bobAddr b + classSize (s.desc b).cls ≤ a → Memory.byte t.mem a = Memory.byte s.mem a

/-- From `s` to `t` the packets alone change, of them only one, its bobbin's record, and bytes of its bobbin. -/
def State.onlyPacket (s t : State) (id handle : Nat) : Prop :=
  { t with mem := s.mem, bob := s.bob, net := { t.net with pkts := s.net.pkts } } = s ∧ (∀ k, k ≠ id → t.pkt? k = s.pkt? k) ∧
    (∀ b, b ≠ handle → t.desc b = s.desc b) ∧ s.memKept t handle

/-- The packet stands behind word `i` of its list with these bytes, layer offsets and growth. -/
def State.becomes (t : State) (id i : Nat) (p : Packet) (bs : Bytes) (layers : List Nat) (growth : Nat) : Prop :=
  t.pkt? id = some { p with len := bs.length, layers := layers, growth := growth, stage := .running (i + 1) } ∧
    t.pktBytes { p with len := bs.length } = bs

/-- A message of a fixed unit as it is judged (R68). -/
def State.unitMsg (s : State) (src dst epoch tag : Nat) (words : List W64) : Msg :=
  { id := s.yarn.nextId, epoch := epoch, lenm1 := words.length - 1, kind := .small, tag := tag, src := src, dst := dst, words := words,
    committed := true }

/-- The first message that waits at a unit is not a poisoned one, which the unit would discard (R75). -/
def State.headSound (s : State) (ep : Nat) : Prop := ∀ m rest, s.queueAt ep = m :: rest → m.kind ≠ .poisoned

/-- A poisoned message has left the head of a unit's queue, discarded and counted (R75). -/
def State.spoiltGone (s : State) (ep : Nat) (rest : List Msg) : State :=
  let u := s.setQueue ep rest
  { u with yarn := { u.yarn with discarded := AMap.set u.yarn.discarded ep (AMap.getD u.yarn.discarded ep 0 + 1) } }

/-- A packet passed to an endpoint in a message of Table 4.9, its bobbins with it (R160). -/
def State.handedOver (s t : State) (id : Nat) (p : Packet) (m : Msg) : Prop :=
  t.queueAt m.dst = s.queueAt m.dst ++ [m] ∧ t.pkt? id = none ∧ (∀ b ∈ s.chain p.handle, (t.desc b).owner = ownerEp m.dst) ∧
    AMap.get? t.net.slowRecs p.handle = some p.record ∧
    t.rd F.EDIT_STAT.SP_SENT.CNT = min (s.rd F.EDIT_STAT.SP_SENT.CNT + 1) (2 ^ 32 - 1)

/-- Where the slow path of the packet's half is enabled, the packet goes there when its message is accepted; a message that is
not, or a slow path that is not enabled, drops the packet, counted (R160). -/
def State.toSlowPath (s t : State) (id : Nat) (p : Packet) (origin status detail : Nat) : Prop :=
  let m := s.unitMsg (editorEp p.half) (s.rd (F.EDIT_SP_DST.ENDPOINT p.half)) (s.rd (F.EDIT_SP_DST.EPOCH p.half)) 0x3E
    (p.slowWords origin status detail)
  (s.rd (F.EDIT_SP_DST.EN p.half) = 1 → s.judge m false = .ok → s.handedOver t id p m) ∧
    ((s.rd (F.EDIT_SP_DST.EN p.half) = 0 ∨ s.judge m false = .full) →
      t.pkt? id = none ∧ t.yarn.queues = s.yarn.queues ∧
        t.rd F.EDIT_STAT.SP_DROP.CNT = min (s.rd F.EDIT_STAT.SP_DROP.CNT + 1) (2 ^ 32 - 1))

/-- A released packet stands before word `w`, number `i` of its list (R161). -/
def State.standsAt (s : State) (id i : Nat) (p : Packet) (w : W64) : Prop :=
  s.pkt? id = some p ∧ p.stage = .running i ∧ p.list[i]? = some w

/-- An action list that cannot run, counted, and its packet to the slow path (R161, Table 4.15). -/
def State.isMalformed (s t : State) (id : Nat) (p : Packet) (detail : Nat) : Prop :=
  t.rd F.EDIT_STAT.MALFORMED.CNT = min (s.rd F.EDIT_STAT.MALFORMED.CNT + 1) (2 ^ 32 - 1) ∧ s.toSlowPath t id p 2 2 detail

/-- Table 4.11: an opcode and the bits its word gives a meaning. -/
def actionFields : List (Nat × List (Nat × Nat)) :=
  [(0x01, [(55, 48), (35, 32), (31, 0)]), (0x02, [(31, 16), (15, 0)]), (0x03, []), (0x04, [(55, 48), (23, 0)]), (0x05, [(55, 48), (23, 0)]),
   (0x06, [(2, 0)]), (0x07, [(9, 9), (8, 8), (6, 4), (2, 0)]), (0x08, [(23, 20), (19, 0)]), (0x09, [(5, 0)]), (0x0B, [(2, 0)]),
   (0x10, [(47, 32), (23, 16), (13, 13), (12, 12), (10, 8), (3, 0)]), (0x11, [(15, 0)]), (0x12, [(49, 48), (47, 40), (31, 0)]),
   (0x13, [(27, 20), (19, 0)]), (0x14, [])]

/-! ### Cipher engines (chapter 05) -/

/-- The completion message of a job of a CSUB (R181). -/
def State.jobReply (s : State) (j : CipherJob) (reply ref status detail made : Nat) : Msg :=
  s.unitMsg (cipherEp j.home) (reply % 2 ^ 20) (bitsOf reply 27 20) (bitsOf reply 33 28)
    [BitVec.ofNat 64 (status + 2 ^ 8 * detail + 2 ^ 16 * j.op + 2 ^ 32 * made), BitVec.ofNat 64 j.ctr, BitVec.ofNat 64 ref]

/-- A job of a CSUB has completed with a status, a detail and the bytes written: it has left the unit, it is counted, and its
completion is at its endpoint, or counted as lost (R181); a REPLY that names a channel of the issuing thread's own spindle is judged as
a reply (R71). -/
def State.csubEnds (s t : State) (j : CipherJob) (status detail made : Nat) : Prop :=
  ∃ tid reply ref m, j.owner = .csub tid reply ref ∧ m = s.jobReply j reply ref status detail made ∧ t.jobC j.id = none ∧
    (∀ e ∈ t.cipher.engines, e.2.1 ≠ j.id) ∧
    t.rd F.CIPHER_STAT.JOBS.CNT = min (s.rd F.CIPHER_STAT.JOBS.CNT + 1) (2 ^ 32 - 1) ∧
    (s.judge m (repliesTo tid reply) = .ok → t.queueAt m.dst = s.queueAt m.dst ++ [m] ∧ t.rd F.CIPHER_STAT.REPLY_LOST.CNT = s.rd F.CIPHER_STAT.REPLY_LOST.CNT) ∧
    (s.judge m (repliesTo tid reply) ≠ .ok → t.yarn.queues = s.yarn.queues ∧ t.rd F.CIPHER_EVENT.REPLY_LOST = 1 ∧
      t.rd F.CIPHER_STAT.REPLY_LOST.CNT = min (s.rd F.CIPHER_STAT.REPLY_LOST.CNT + 1) (2 ^ 32 - 1)) ∧
    t.rd F.CIPHER_STAT.AUTH_FAIL.CNT = min (s.rd F.CIPHER_STAT.AUTH_FAIL.CNT + if status = 8 then 1 else 0) (2 ^ 32 - 1) ∧
    t.rd F.CIPHER_STAT.NONCE_EXH.CNT = min (s.rd F.CIPHER_STAT.NONCE_EXH.CNT + if status = 7 then 1 else 0) (2 ^ 32 - 1)

/-- CIPHER_SESS_STATUS reports the operation of CIPHER_SESS_CMD. -/
def State.sessReported (t : State) (r : Nat × Nat) : Prop :=
  t.rd F.CIPHER_SESS_CMD.BUSY = 0 ∧ t.rd F.CIPHER_SESS_CMD.GO = 0 ∧ t.rd F.CIPHER_SESS_STATUS.DONE = 1 ∧
    t.rd F.CIPHER_SESS_STATUS.STATUS = r.1 ∧ t.rd F.CIPHER_SESS_STATUS.DETAIL = r.2

/-- An operation of the session service is answered on channel 0 of its sender (R198). -/
def State.sessAnswered (s t : State) (m : Msg) (r : Nat × Nat) : Prop :=
  ∃ f, t.yarn.flights = s.yarn.flights ++ [f] ∧ f.msg.dst = m.src / 4 * 4 ∧ f.msg.tag = m.tag ∧ f.msg.epoch = m.epoch ∧
    f.msg.words = [BitVec.ofNat 64 (r.1 + 2 ^ 8 * r.2)]

/-- A session operation stands before the unit: CIPHER_SESS_CMD is BUSY with it and no earlier one of the register waits, or
a message at the head of the session service's queue asks for it (R193, R198). -/
def State.sessOffered (s : State) (m : Option Msg) (op index : Nat) (data : Bytes) : Prop :=
  match m with
  | none => s.rd F.CIPHER_SESS_CMD.BUSY = 1 ∧ F.CIPHER_SESS_CMD.OP.get s.cipher.cmdWord = op ∧ F.CIPHER_SESS_CMD.INDEX.get s.cipher.cmdWord = index ∧
      data = (List.range 56).flatMap (fun k => toLE 4 (s.rd (F.CIPHER_SESS_DATA.W k)))
  | some x => ∃ w rest q, s.queueAt sessEp = x :: q ∧ x.committed = true ∧ x.kind ≠ .poisoned ∧ x.words = w :: rest ∧ op = bitsOf w.toNat 3 0 ∧
      index = bitsOf w.toNat 35 16 ∧ data = sliceB (bytesOf rest) 0 224

/-- A session operation has been answered where it came from, and is done. -/
def State.opAnswered (s t : State) (m : Option Msg) (r : Nat × Nat) : Prop :=
  match m with
  | none => t.sessReported r ∧ t.yarn.queues = s.yarn.queues
  | some x => s.sessAnswered t x r ∧ t.queueAt sessEp = (s.queueAt sessEp).tail

/-- R193, R194, R198: the operation's code, index and sender are allowed. -/
def State.sessAllowed (s : State) (m : Option Msg) (op i : Nat) (data : Bytes) : Prop :=
  1 ≤ op ∧ op ≤ 4 ∧ i < s.rd F.CIPHER_SESS_CFG.COUNT ∧ (i < s.rd F.CIPHER_SESS_CFG.SPLIT ∨ s.fencedB = false) ∧
    (m.isSome = true → op ≠ 4 ∧ (op ≤ 2 → leAt data 0 1 ≠ 10) ∧ (op ≠ 1 → s.sessKind i ≠ 10)) ∧ (m = none → op = 1 → s.cipher.cmdCobbler = true)

/-- R196: nothing holds an operation back: the session is in a key slot or was never installed, and no admitted job of it is left. -/
def State.sessFree (s : State) (op i : Nat) : Prop :=
  (i ∈ s.cipher.installed → (s.keySlot i).isSome = true) ∧ (op = 1 ∨ op = 3 → ∀ j ∈ s.cipher.jobs, j.session = i → j.stage = .arrived)

/-- A key slot is free in the session's home half. -/
def State.slotRoom (s : State) (i : Nat) : Prop :=
  (s.cipher.slots.filter (fun (e : Nat × KeySlot) => s.sessHome e.1 == s.sessHome i)).length < s.slotLimit (s.sessHome i)

/-- The command of the table that serves an operation's code. -/
def sessCommand (op : Nat) (svc : Bool) : Instr :=
  if op = 1 then .install svc else if op = 2 then .limits svc else if op = 3 then .invalidate svc else .sessionRead svc

/-- No message waits at the cipher units of the two halves. -/
def State.noJobMessages (s : State) : Prop := s.queueAt (cipherEp 0) = [] ∧ s.queueAt (cipherEp 1) = []

/-! ### The bobbin store (chapter 07) -/

/-- The store of an unfenced half has a thread's message at the head of its queue, with word 0 as R261 lays it out and at most one
more word. -/
structure State.storeAsked (s : State) (h : Nat) (m : Msg) (op chain handle len tenant : Nat) (w1 : Option W64) : Prop where
  half : h < 2
  open' : h = 1 → s.fencedB = false
  /-- It has served nothing in this cycle (R263). -/
  turn : AMap.getD s.yarn.served (epUnit 3 h) 0 ≤ s.clk.cycles
  head : (s.queueAt (epUnit 3 h)).head? = some m
  bounds : op < 16 ∧ chain < 2 ∧ handle < 2 ^ 24 ∧ len < 2 ^ 17 ∧ tenant < 4096
  words : m.words = BitVec.ofNat 64 (op + 2 ^ 4 * chain + 2 ^ 8 * handle + 2 ^ 32 * len + 2 ^ 49 * tenant) :: w1.toList
  lenm1 : m.lenm1 = w1.toList.length
  noXoff : s.net.eth.xoff = []
  good : s.bobGood

/-- The store has taken the message at the head of its queue and answered it on channel 0 of its sender, with its tag; memory and
every mule are as they were (R262). -/
def State.storeReplied (s t : State) (h : Nat) (m : Msg) (words : List W64) : Prop :=
  t.queueAt (epUnit 3 h) = (s.queueAt (epUnit 3 h)).tail ∧ t.mem = s.mem ∧ t.mules = s.mules ∧ t.net = s.net ∧
    ∃ f, t.yarn.flights = s.yarn.flights ++ [f] ∧ f.msg.dst = m.src / 4 * 4 ∧ f.msg.tag = m.tag ∧ f.msg.epoch = m.epoch ∧ f.msg.words = words

/-- The command of the table for an operation of Table 7.4. -/
def storeInstr (op h : Nat) : Instr :=
  if op = 1 then .alloc h else if op = 2 then .free h else if op = 3 then .transfer h else if op = 4 then .incref h
  else if op = 5 then .link h else .bobbinInfo h

/-- R247: a pool lies in its area, off granule 0 on Half A, and meets no other pool of its half. -/
def State.carvedWell (s : State) (h c : Nat) : Prop :=
  s.poolCount h c = 0 ∨
    ((c < 7 → s.poolBase h c + s.poolCount h c * granules c ≤ 262144) ∧
     (c = 7 → 262144 ≤ s.poolBase h c ∧ s.poolBase h c + s.poolCount h c * granules c ≤ 8388608) ∧ (h = 0 → s.poolBase h c ≠ 0) ∧
     ∀ d < 8, d ≠ c → s.poolCount h d = 0 ∨ s.poolBase h c + s.poolCount h c * granules c ≤ s.poolBase h d ∨
       s.poolBase h d + s.poolCount h d * granules d ≤ s.poolBase h c)

/-- R259, steps 1 and 2: the handle names a bobbin of class `c` of half `h`. -/
def State.names (s : State) (h handle c : Nat) : Prop :=
  handle / 2 ^ 23 = h ∧ c < 8 ∧ (∀ d < c, ¬ (s.poolBase h d ≤ handle % 2 ^ 23 ∧ handle % 2 ^ 23 < s.poolBase h d + s.poolCount h d * granules d)) ∧
    s.poolBase h c ≤ handle % 2 ^ 23 ∧ handle % 2 ^ 23 < s.poolBase h c + s.poolCount h c * granules c ∧
    (handle % 2 ^ 23 - s.poolBase h c) % granules c = 0

/-- A failed handle check has been counted, with its event where the FIFO has room; no bobbin changes (R259). -/
def State.handleRefused (s t : State) (kind handle : Nat) : Prop :=
  t.bob = s.bob ∧ t.rd F.BOBBIN_STAT.CHECK_FAIL.CNT = min (s.rd F.BOBBIN_STAT.CHECK_FAIL.CNT + 1) (2 ^ 32 - 1) ∧
    s.regsKept t [F.BOBBIN_STAT.CHECK_FAIL.CNT, evqHead bobbinEvq] ∧
    ((s.fifo bobbinEvq).entries.length < 1024 → ∃ e, (t.fifo bobbinEvq).entries = (s.fifo bobbinEvq).entries ++ [e] ∧
      bitsOf e 62 59 = kind ∧ bitsOf e 47 24 = handle)

/-- An operation of the store without effect: no bobbin and no register changes. -/
def State.storeSame (s t : State) : Prop := t.bob = s.bob ∧ s.sameRegs t

/-- One bobbin has been allocated from class `c` for a tenant, and no other bobbin's record has changed (R251, R257, R258). -/
def State.allocated (s t : State) (h c tenant owner b : Nat) : Prop :=
  t.desc b = { next := 0, refcnt := if s.refPool h c then 1 else 0, len := 0, cls := c, tenant := tenant,
               owner := if s.refPool h c then 0 else owner, alloc := false, track := false, off := 0, held := true } ∧
    (∀ x, x ≠ b → t.desc x = s.desc x) ∧ t.inUse h tenant c = s.inUse h tenant c + 1 ∧ t.poolFree h c = s.poolFree h c - 1 ∧
    t.rd F.BOBBIN_STAT.ALLOCS.CNT = min (s.rd F.BOBBIN_STAT.ALLOCS.CNT + 1) (2 ^ 32 - 1)

/-! ### The Welt block interface (chapter 08) -/

/-- WELT_VOL_CMD is BUSY with an operation of Table 8.11, which it held when its GO was written. -/
def State.volAsked (s : State) (op : Nat) : Prop := s.rd F.WELT_VOL_CMD.BUSY = 1 ∧ F.WELT_VOL_CMD.OP.get s.welt.goWord = op

/-- WELT_VOL_STATUS reports the operation of WELT_VOL_CMD. -/
def State.volReported (t : State) (r : Nat × Nat) : Prop :=
  t.rd F.WELT_VOL_CMD.BUSY = 0 ∧ t.rd F.WELT_VOL_CMD.GO = 0 ∧ t.rd F.WELT_VOL_STATUS.DONE = 1 ∧ t.rd F.WELT_VOL_STATUS.STATUS = r.1 ∧
    t.rd F.WELT_VOL_STATUS.DETAIL = r.2

/-- The fields a report of WELT_VOL_CMD writes. -/
def volFields : List FRef :=
  [F.WELT_VOL_CMD.BUSY, F.WELT_VOL_CMD.GO, F.WELT_VOL_STATUS.DONE, F.WELT_VOL_STATUS.STATUS, F.WELT_VOL_STATUS.DETAIL]

/-- The commands of Table 8.11 with their operations. -/
def volCommands : List (Nat × Instr) :=
  [(1, .volSet), (2, .volOnline), (3, .volOffline), (4, .volRead), (5, .volDelete), (8, .connSet), (9, .connUp), (10, .connDown), (11, .connRead)]

/-- Outside the context of a volume no byte of memory changes. -/
def State.volMem (s t : State) (v : Nat) : Prop :=
  ∀ a, a < s.volAddr v ∨ s.volAddr v + 64 ≤ a → Memory.byte t.mem a = Memory.byte s.mem a

/-- An operation on volumes or connections changes nothing but its own report. -/
def State.volOnly (s t : State) (r : Nat × Nat) : Prop := t.volReported r ∧ s.onlyRegs t volFields

/-- Every command of the Welt that has not ended belongs to a job in flight: none was aborted or torn down. -/
def State.swept (s : State) : Prop := ∀ c ∈ s.welt.cmds, c.stage ≠ .ended → (s.liveJob c.wq c.first).isSome = true

/-- The volumes of a connection that were ONLINE are OFFLINE, and every other volume is as it was (R285). -/
def State.connVolumes (s t : State) (c : Nat) : Prop :=
  ∀ v < 16384, t.volState v = (if s.volState v = 1 ∧ s.volFlag v vfRemote = true ∧ s.volBackend v % 256 = c then 2 else s.volState v)

/-- A job of a WQ has ended its work with a status, a detail and a length, and is to be reported (R222, R275). -/
def State.jobEnded (t : State) (n first status detail length : Nat) : Prop :=
  ∃ w j, t.wq? n = some w ∧ j ∈ w.jobs ∧ j.first = first ∧ j.stage = .ended ∧ j.status = status ∧ j.detail = detail ∧ j.length = length

/-- A command of the Welt is complete to the host (R275): its job has ended, and it is open no more. -/
def State.weltEnded (t : State) (c : WeltCmd) (status detail length : Nat) : Prop :=
  t.jobEnded c.wq c.first status detail length ∧ ∀ x, t.weltCmd c.id = some x → x.stage = .ended

/-- A command of the Welt is in a stage; numbers of commands are distinct, and none has lost its job. -/
def State.weltAt (s : State) (c : WeltCmd) (st : WeltStage) : Prop :=
  s.swept ∧ s.weltCmd c.id = some c ∧ c.stage = st ∧ ∀ x ∈ s.welt.cmds, x.id = c.id → x = c

/-- R275: LENGTH of a command that ends: of a WRITE, the bytes of its data that have come from the host, whatever its end. -/
def State.endLength (s : State) (c : WeltCmd) (n : Nat) : Nat :=
  if c.op = 2 then ((s.liveJob c.wq c.first).map s.movedBytes).getD 0 else n

/-- From `s` to `t` nothing changes but one command of the Welt. -/
def State.onlyWelt (s t : State) (c c' : WeltCmd) : Prop :=
  { t with welt := s.welt } = s ∧ t.welt = { s.welt with cmds := s.welt.cmds.map (fun x => if x.id = c.id then c' else x) }

/-- `i` is the command of the table for an opcode of Table 8.10; SET_FEATURE has three. -/
def adminIs (op n : Nat) (i : Instr) : Prop :=
  (op = 0x81 ∧ i = .identify n) ∨ (op = 0x82 ∧ i = .getLog n) ∨ (op = 0x83 ∧ i = .getFeature n) ∨
    (op = 0x84 ∧ (i = .coalesce n ∨ i = .volumeWbuf n ∨ i = .volumeState n)) ∨ (op = 0x85 ∧ i = .fwDownload n) ∨ (op = 0x87 ∧ i = .weltAbort n) ∨
    (op = 0x88 ∧ i = .queueCreate n) ∨ (op = 0x89 ∧ i = .queueDelete n) ∨ (op = 0x8A ∧ i = .adminQueueRestart n)

/-- An admin command stands at the front of an admin queue, with its entry `e` (R291). -/
structure State.adminAt (s : State) (n op : Nat) (w : Wq) (j : Job) (e : Bytes) : Prop where
  queue : s.wq? n = some w
  admin : s.isAdmin n w = true
  front : w.jobs = [j]
  stage : j.stage = .unstarted ∨ j.stage = .started
  own : 0 < j.own
  opcode : j.opcode = op
  entry : e = j.entries.headD []
  enabled : s.rd F.WELT_CFG.EN = 1
  host : w.ringLoc = false ∧ s.busOn w.func = true ∧ s.fstate w.func ≠ fsTeardown ∧ (w.home = 1 → s.seamHeld = false)
  swept : s.swept

/-- `i` is the command of the table for an opcode of Table 8.4. -/
def ioIs (op n first : Nat) (i : Instr) : Prop :=
  (op = 1 ∧ i = .read n first) ∨ (op = 2 ∧ i = .write n first) ∨ (op = 3 ∧ i = .flush n first) ∨ (op = 4 ∧ i = .writeZeroes n first) ∨
    (op = 5 ∧ i = .deallocate n first) ∨ (op = 6 ∧ i = .compare n first)

/-- R277, R55, R295: a numbered command's turn has come: its earlier ones have started, a STORAGE thread of its half is IDLE to take it,
fetching is not paused, and its volume's group holds a class 1 choice. -/
def State.startTurn (s : State) (c : WeltCmd) (j : Job) : Prop :=
  s.weltAt c .numbered ∧ s.liveJob c.wq c.first = some j ∧ j.stage = .unstarted ∧ s.inOrder c = true ∧ (s.storageTaker (s.volHome c.vol)).isSome = true ∧
    s.rd F.WELT_ACT.PAUSED = 0 ∧ s.groupAt 1 (s.volHome c.vol) = some (s.groupOf (s.volTenant c.vol))

/-- R266, R113: the thread that Welt's work goes to, if it has an image, runs it as an item of the SOURCE; no register but that of its state
changes. -/
def State.itemTaken (s t : State) (c : WeltCmd) (source : Nat) (fs : List FRef) : Prop :=
  ∀ tid, s.storageTaker (s.volHome c.vol) = some tid → s.regsKept t ([thrStateF tid, haltedF tid] ++ fs) ∧
    (s.activeImage (spOf tid) ≠ none → t.ts tid = tsRun ∧ ∃ w, (t.thr tid).work = some w ∧ w.source = source ∧ w.ref = c.id)

/-- R279: pages for a WRITE of this size are free in its volume's quota and in its half, and no earlier WRITE of the volume waits. -/
def State.pagesThere (s : State) (c : WeltCmd) (p : Nat) : Prop :=
  s.vol c.vol 0x24 4 + p ≤ s.vol c.vol 0x20 4 ∧
    s.rd (F.WELT_WBUF_USE.PAGES (s.volHome c.vol)) + p ≤ s.rd (F.WELT_WBUF_SIZE.PAGES (s.volHome c.vol)) ∧
    ∀ x ∈ s.welt.cmds, x.stage = .waiting → x.vol = c.vol → c.seq ≤ x.seq

/-- R279: pages of the write buffer have been reserved. -/
def State.reserved (s t : State) (c : WeltCmd) (p : Nat) : Prop :=
  t.vol c.vol 0x24 4 = s.vol c.vol 0x24 4 + p ∧
    t.rd (F.WELT_WBUF_USE.PAGES (s.volHome c.vol)) = s.rd (F.WELT_WBUF_USE.PAGES (s.volHome c.vol)) + p ∧
    s.volMem t c.vol

/-- R268, R277: the backing command of part `k` of a command, over `n` volume blocks from block `b`; Write and Write Zeroes carry FUA = 1 (R270). -/
def State.backing (s : State) (c : WeltCmd) (k op b n : Nat) (data : Bytes) : Out :=
  .nvme c.vol c.id k op (op == 1 || op == 8) (s.vol c.vol 8 4) (s.vol c.vol 0x18 8 + b * 2 ^ s.vol c.vol 0x30 1) (n * 2 ^ s.vol c.vol 0x30 1) data

/-! ### Eyelet ports (chapter 10) -/

/-- R337, R338: the part has set the Power Indicator of a slot; in an attention period, the setting that stands after it. -/
def State.picSet (s t : State) (l v : Nat) : Prop :=
  (AMap.get? s.eye.attn l = none → t.rd (F.EYELET_SLOT_CTRL.PIC l) = v) ∧
    ∀ b x, AMap.get? s.eye.attn l = some (b, x) → AMap.get? t.eye.attn l = some (b, v)

/-- No transaction is bound to a window of a link, and the Welt runs no command. -/
def State.linkQuiet (s : State) (l : Nat) : Prop := (∀ x ∈ s.eye.txs, x.mapping.link ≠ l) ∧ s.welt.cmds = []

/-- A link has been contained with a cause: its windows are not VALID, and no upstream request of it waits (R340). -/
def State.isContained (s t : State) (l cause : Nat) : Prop :=
  t.slot l = 5 ∧ t.rd (F.EYELET_SLOT_STATUS.CAUSE l) = cause ∧ t.rd (F.EYELET_LINK_STATUS.UP l) = 0 ∧ t.rd (F.EYELET_LINK_STATUS.WIDTH l) = 0 ∧
    t.rd (F.EYELET_DEV_ID.VENDOR l) = 0 ∧ t.rd (F.EYELET_DEV_ID.DEVICE l) = 0 ∧
    (∀ w < 256, (s.activeWin (l / 4) w).link = l → (t.activeWin (l / 4) w).valid = false) ∧ (∀ r ∈ t.eye.inbound, r.link ≠ l) ∧
    t.rd F.EYELET_STAT.CONTAINMENTS.CNT = min (s.rd F.EYELET_STAT.CONTAINMENTS.CNT + 1) (2 ^ 32 - 1) ∧ t.outs = s.outs

/-- Every transaction of a PEER job belongs to a job in flight. -/
def State.txsLive (s : State) : Prop := (∀ x ∈ s.eye.txs, s.ownerLives x.owner = true) ∧ ∀ o ∈ s.eye.held, s.ownerLives o = true

/-- `i` is the command of the table for an opcode of a PEER queue (R348). -/
def peerIs (op n first : Nat) (i : Instr) : Prop :=
  (op = 1 ∧ i = .peerWrite n first) ∨ (op = 2 ∧ i = .peerRead n first) ∨ (op = 3 ∧ i = .peerSend n first)

/-- A PEER WQ holds one job, of an opcode, in flight. -/
structure State.peerAt (s : State) (op n first : Nat) (w : Wq) (j : Job) : Prop where
  queue : s.wq? n = some w
  type : w.type = qtPeer
  jobs : w.jobs = [j]
  first : j.first = first
  own : 0 < j.own
  opcode : j.opcode = op

/-! ### LPDDR6 memory (chapter 11) -/

/-- An event is the newest of a FIFO that had room for it. -/
def State.logged (s t : State) (q : FifoRef) (e : Nat) : Prop :=
  (s.fifo q).entries.length < q.cap → (t.fifo q).entries = (s.fifo q).entries ++ [e]

/-- An event is in a FIFO that is not full. -/
def State.hasEvent (t : State) (q : FifoRef) (e : Nat) : Prop := (t.fifo q).entries.length < q.cap → e ∈ (t.fifo q).entries

/-- R358: a valid region has the fault of a cause. -/
def State.regionBad (s : State) (r f : Nat) : Prop :=
  s.rd (F.MEM_REGION_W0.VALID r) = 1 ∧
    ((f = 1 ∧ (s.rd (F.MEM_REGION_W0.SIZE r) = 0 ∨ 512 < s.rd (F.MEM_REGION_W8.BASE r) + s.rd (F.MEM_REGION_W0.SIZE r))) ∨
     (f = 2 ∧ ∃ q < 32, q ≠ r ∧ s.rd (F.MEM_REGION_W0.VALID q) = 1 ∧
        s.regionBase r < s.regionBase q + s.regionSize q ∧ s.regionBase q < s.regionBase r + s.regionSize r) ∨
     (f = 3 ∧ ∃ q < 32, q ≠ r ∧ s.rd (F.MEM_REGION_W0.VALID q) = 1 ∧ (∃ c, inSet (s.regionSet r) c = true ∧ inSet (s.regionSet q) c = true) ∧
        s.rd (F.MEM_REGION_W8.CH_OFF r) * 2 ^ 26 < s.rd (F.MEM_REGION_W8.CH_OFF q) * 2 ^ 26 + s.regionSize q / waysOf (s.regionSet q) ∧
        s.rd (F.MEM_REGION_W8.CH_OFF q) * 2 ^ 26 < s.rd (F.MEM_REGION_W8.CH_OFF r) * 2 ^ 26 + s.regionSize r / waysOf (s.regionSet r)) ∨
     (f = 4 ∧ s.rd (F.MEM_CH_GEOM.CAPACITY 0) * 2 ^ 30 <
        s.rd (F.MEM_REGION_W8.CH_OFF r) * 2 ^ 26 + s.regionSize r / waysOf (s.regionSet r)) ∨
     (f = 5 ∧ (¬ (s.rd (F.MEM_REGION_W0.CLASS r) = 1 ↔ s.regionSet r = 3) ∨ s.rd (F.MEM_REGION_W0.MAP r) = 3)) ∨
     (f = 6 ∧ ∃ c, inSet (s.regionSet r) c = true ∧ s.chanOf c = none))

/-- Every bank but one is as it was. -/
def State.onlyBank (s t : State) (i sub b : Nat) : Prop :=
  ∀ j u x, bankKey j u x ≠ bankKey i sub b → t.bank j u x = s.bank j u x

/-- R364: the present turn is a SYSTEM turn with room for one more maintenance command of the sub-channel, at one per 2 ns. -/
structure State.maintRoom (s : State) (i sub : Nat) : Prop where
  system : s.systemTurn i = true
  serves : s.chState i = 0 ∨ s.chState i = 3
  full : s.rd F.POWER_CLK.CUR ≠ 1 → 4 * (s.maintUsed i sub + 1) ≤ s.turnLen
  reduced : s.rd F.POWER_CLK.CUR = 1 → 16 * (s.maintUsed i sub + 1) ≤ 5 * s.turnLen

/-- R355, R365, R366: refreshes a bank owes: 8,192 in 32 ms at the multiplier that the devices report, since training. -/
def State.owedNow (s : State) (i sub b : Nat) : Nat :=
  match s.dram.trained with
  | none => (s.bank i sub b).owed
  | some t0 => (s.bank i sub b).owed + (s.clk.time - max t0 (s.bank i sub b).refAt) / (31250 / multOf (s.rd (F.MEM_CH_STATUS.CUR_MULT i)))

/-- A bank is refreshed: it is closed, owes one refresh less, and is busy for at most 120 ns. -/
structure State.refreshed (s t : State) (i sub b : Nat) : Prop where
  closed : (t.bank i sub b).openRow = none
  owed : (t.bank i sub b).owed = s.owedNow i sub b - 1
  busy : s.clk.time ≤ (t.bank i sub b).busyUntil ∧ (t.bank i sub b).busyUntil ≤ s.clk.time + 960
  rest : (t.bank i sub b).acts = (s.bank i sub b).acts ∧ (t.bank i sub b).victims = (s.bank i sub b).victims ∧
    (t.bank i sub b).pred = (s.bank i sub b).pred ∧ (t.bank i sub b).last = (s.bank i sub b).last
  others : s.onlyBank t i sub b
  used : t.maintUsed i sub = s.maintUsed i sub + 1
  memory : t.mem = s.mem ∧ t.dram.bursts = s.dram.bursts

/-- R368: the table of a bank and the row's count after one activation of a row. -/
def rowCounted (l : List (Nat × Nat)) (row : Nat) (l' : List (Nat × Nat)) (c : Nat) : Prop :=
  (∃ pre n post, l = pre ++ (row, n) :: post ∧ (∀ e ∈ pre, e.1 ≠ row) ∧ c = n + 1 ∧
      l' = l.map (fun e => if e.1 = row then (row, c) else e)) ∨
    ((∀ e ∈ l, e.1 ≠ row) ∧ l.length < 32 ∧ c = 1 ∧ l' = l ++ [(row, 1)]) ∨
    ((∀ e ∈ l, e.1 ≠ row) ∧ 32 ≤ l.length ∧ ∃ pre x n post, l = pre ++ (x, n) :: post ∧ (∀ e ∈ pre, n < e.2) ∧ (∀ e ∈ post, n ≤ e.2) ∧
      c = n + 1 ∧ l' = pre ++ (row, c) :: post)

/-- R368, R369: a row of a bank is activated: counted, and at the threshold its count restarts and its neighbours are queued. -/
def State.activated (s : State) (i : Nat) (k k' : Bank) (row : Nat) : Prop :=
  ∃ l c, rowCounted k.acts row l c ∧
    (c < max 64 (s.rd F.MEM_GCFG.ACT_THRESH) → k'.acts = l ∧ k'.victims = k.victims) ∧
    (max 64 (s.rd F.MEM_GCFG.ACT_THRESH) ≤ c → k'.acts = l.map (fun e => if e.1 = row then (row, 0) else e) ∧
      ∃ vs, k'.victims = k.victims ++ vs ∧ (∀ x ∈ vs, x.2 = row) ∧
        (row < 2 ^ s.rd (F.MEM_CH_GEOM.ROW i) → ∀ v, (v, row) ∈ vs ↔
          v < 2 ^ s.rd (F.MEM_CH_GEOM.ROW i) ∧ v ≠ row ∧ v ≤ row + s.blast ∧ row ≤ v + s.blast))

/-- R362: `b` is the oldest burst of the sub-channel and the group that can proceed. -/
def State.nextBurst (s : State) (i sub g : Nat) (b : Burst) (pre post : List Burst) : Prop :=
  s.dram.bursts = pre ++ b :: post ∧ b.chan = i ∧ b.sub = sub ∧ b.group = g ∧ s.burstReady b = true ∧
    ∀ x ∈ pre, x.chan = i → x.sub = sub → x.group = g → s.burstReady x = false

/-- A byte of a channel's freeze record (Table 11.5). -/
def State.recByte (t : State) (i o : Nat) : Nat := bitsOf (t.rd (F.MEM_FREEZE_REC.W i (o / 4))) (8 * (o % 4) + 7) (8 * (o % 4))

/-- R377 to R379: the channel is retired, and with it the service of a logical channel, where it had one. -/
structure State.channelRetired (s t : State) (i logical : Nat) : Prop where
  state : t.chState i = 4 ∧ t.rd (F.MEM_CH_STATUS.LOGICAL i) = 0x1F
  record : (5, i) ∈ t.repairs ∧ t.hasEvent memEvq (3 * 2 ^ 59 + i * 2 ^ 20)
  plain : ∀ r < 32, s.rd (F.MEM_REGION_W0.VALID r) = 1 → s.rd (F.MEM_REGION_W0.CLASS r) = 0 → inSet (s.regionSet r) logical = true →
    t.rd (F.MEM_REGION_W0.STATE r) = 1 ∧
      (s.rd (F.MEM_REGION_W0.STATE r) ≠ 1 → ∀ g n, s.ownerOf g = some n → s.regionBase r ≤ g * 2 ^ 26 → g * 2 ^ 26 < s.regionBase r + s.regionSize r →
        t.hasEvent memEvq (5 * 2 ^ 59 + r * 2 ^ 25 + i * 2 ^ 20 + n))
  spared : logical < 16 → i ≠ spareOf i → s.chState (spareOf i) = 1 → AMap.get? s.dram.spareFor (chanHalf i) = none →
    AMap.get? t.dram.spareFor (chanHalf i) = some (logical, s.clk.time) ∧ t.domOn (58 + chanHalf i) = true ∧
      ∀ r < 32, s.rd (F.MEM_REGION_W0.CLASS r) = 1 → t.rd (F.MEM_REGION_W0.STATE r) = s.rd (F.MEM_REGION_W0.STATE r)
  unspared : logical < 16 → i = spareOf i ∨ s.chState (spareOf i) ≠ 1 ∨ AMap.get? s.dram.spareFor (chanHalf i) ≠ none →
    t.rd F.FAULT_STAT.UNSPARED.CNT = min (s.rd F.FAULT_STAT.UNSPARED.CNT + 1) (2 ^ 32 - 1) ∧
      ∀ r < 32, s.rd (F.MEM_REGION_W0.VALID r) = 1 → s.rd (F.MEM_REGION_W0.CLASS r) = 1 → inSet (s.regionSet r) logical = true →
        t.rd (F.MEM_REGION_W0.STATE r) = 2 ∧ t.hasEvent memEvq (6 * 2 ^ 59 + r * 2 ^ 25 + i * 2 ^ 20)
  memory : t.mem = s.mem

/-- MEM_CMD_STATUS reports the operation of MEM_CMD. -/
def State.memReported (t : State) (status detail : Nat) : Prop :=
  t.rd F.MEM_CMD.GO = 0 ∧ t.rd F.MEM_CMD.BUSY = 0 ∧ t.rd F.MEM_CMD_STATUS.DONE = 1 ∧ t.rd F.MEM_CMD_STATUS.STATUS = status ∧
    t.rd F.MEM_CMD_STATUS.DETAIL = detail

/-- The fields a report of MEM_CMD writes. -/
def memCmdFields : List FRef :=
  [F.MEM_CMD.GO, F.MEM_CMD.BUSY, F.MEM_CMD_STATUS.DONE, F.MEM_CMD_STATUS.STATUS, F.MEM_CMD_STATUS.DETAIL]

/-! ### Boot and mailbox (chapter 12) -/

/-- Where the boot stands. -/
def State.bootAt (s : State) (st : BootStage) : Prop := s.cob.boot.stage = st

/-- From `u` to `t` nothing changes but the stage of the boot and the start of a POLL. -/
def State.bootMoved (u t : State) : Prop :=
  { t with cob := { t.cob with boot := { t.cob.boot with stage := u.cob.boot.stage, pollAt := u.cob.boot.pollAt } } } = u

/-- R397: the records go on at a byte offset of the CONFIG component, or end there. -/
def State.configTo (u t : State) (o : Nat) : Prop :=
  u.bootMoved t ∧ (u.config.length < o + 16 → t.bootAt .configured) ∧
    (o + 16 ≤ u.config.length → leAt u.config o 1 = 0 ∨ 8 < leAt u.config o 1 → t.bootAt (.failed 0x0A)) ∧
    (o + 16 ≤ u.config.length → 1 ≤ leAt u.config o 1 → leAt u.config o 1 ≤ 8 →
      t.bootAt (.config o) ∧ t.cob.boot.pollAt = if leAt u.config o 1 = 6 then some u.clk.time else none)

/-- R394, R397: the boot of the slot fails, with a detail of Table 12.8. -/
def State.bootFails (u t : State) (d : Nat) : Prop := u.bootMoved t ∧ t.bootAt (.failed d)

/-- R397: an access is recorded in GLOBAL_CSR_ERR on the way from `s` to `u`. -/
def State.accessRefused (s u : State) : Prop := s.rd F.GLOBAL_CSR_ERR_CNT.COUNT < u.rd F.GLOBAL_CSR_ERR_CNT.COUNT

/-- R397: a record whose accesses led from `s` to `u` ends in `t`. -/
def State.recordEnds (s u t : State) (o : Nat) : Prop :=
  (s.accessRefused u → u.bootFails t 0x0A) ∧ (¬ s.accessRefused u → u.configTo t (o + 16))

/-- The record at byte offset `o` of the CONFIG component is to run, with its fields (Table 12.6). -/
structure State.recordIs (s : State) (o op comp off value : Nat) : Prop where
  stage : s.bootAt (.config o)
  op : leAt s.config o 1 = op
  comp : leAt s.config (o + 1) 1 = comp
  off : leAt s.config (o + 4) 4 = off
  value : leAt s.config (o + 8) 8 = value

/-- No record of an OP is to run. -/
def State.noRecord (s : State) (op : Nat) : Prop := ∀ o, s.bootAt (.config o) → leAt s.config o 1 ≠ op

/-- The commands of the records that Table 12.6 lists, STORAGE_ASSIGN and POLL_TIMEOUT among them. -/
def recordIsCommand (op : Nat) (i : Instr) : Prop :=
  (op = 1 ∧ i = .w32) ∨ (op = 2 ∧ i = .w64) ∨ (op = 3 ∧ i = .copy) ∨ (op = 4 ∧ i = .addr64) ∨ (op = 5 ∧ i = .csrBlock) ∨
  (op = 6 ∧ (i = .poll ∨ i = .pollTimeout)) ∨ (op = 7 ∧ i = .storageAssign none) ∨ (op = 8 ∧ i = .cfgEnd)

/-- A command of the mailbox waits at a path, and nothing refuses it whatever it is. -/
def State.mboxAsked (s : State) (via : MboxVia) (op : Nat) (args data : Bytes) : Prop :=
  s.mboxTake via = some ⟨op, args, data, none⟩

/-- The fields an answer of COBBLER_MBOX writes. -/
def mboxFields : List FRef :=
  [F.COBBLER_MBOX_CMD.GO, F.COBBLER_MBOX_CMD.BUSY, F.COBBLER_MBOX_STATUS.DONE, F.COBBLER_MBOX_STATUS.STATUS, F.COBBLER_MBOX_STATUS.DETAIL,
   F.COBBLER_MBOX_STATUS.RSP_LEN] ++ (List.range 1024).map F.COBBLER_MBOX_RSP.W

/-- A poisoned message of a thread, which the Cobbler discards where it comes to it (R75). -/
def spoiltToCobbler (m : Msg) : Bool := !epIsUnit m.src && (m.committed && m.kind == .poisoned)

/-- R408, R415: a command has been answered at its path with a status, a detail and response bytes. -/
def State.mboxDone (s t : State) (via : MboxVia) (status detail : Nat) (rsp : Bytes) : Prop :=
  match via with
  | .csr => t.rd F.COBBLER_MBOX_CMD.GO = 0 ∧ t.rd F.COBBLER_MBOX_CMD.BUSY = 0 ∧ t.rd F.COBBLER_MBOX_STATUS.DONE = 1 ∧
      t.rd F.COBBLER_MBOX_STATUS.STATUS = status ∧ t.rd F.COBBLER_MBOX_STATUS.DETAIL = detail ∧ t.rd F.COBBLER_MBOX_STATUS.RSP_LEN = rsp.length ∧
      (∀ k < rsp.length, bitsOf (t.rd (F.COBBLER_MBOX_RSP.W (k / 4))) (8 * (k % 4) + 7) (8 * (k % 4)) = (rsp.getD k 0).toNat) ∧
      t.yarn = s.yarn ∧ t.outs = s.outs
  | .thread => ∃ m fs, s.mboxMsg = some m ∧ (t.queueAt cobEp).filter (fun x => !spoiltToCobbler x) = (s.queueAt cobEp).filter (fun x => x.id != m.id && !spoiltToCobbler x) ∧
      t.yarn.flights = s.yarn.flights ++ fs ∧ fs.length = max 1 ((rsp.length + 2039) / 2040) ∧ t.outs = s.outs ∧
      ∀ k f, fs[k]? = some f → f.msg.src = cobEp ∧ f.msg.dst = m.src / 4 * 4 ∧ f.msg.tag = m.tag ∧ f.msg.epoch = m.epoch ∧ f.msg.kind = .bulk ∧
        f.msg.words = BitVec.ofNat 64 (status + 2 ^ 8 * detail + 2 ^ 16 * rsp.length + 2 ^ 32 * k) :: ((padWords rsp).drop (255 * k)).take 255
  | .mctp b _ _ _ => t.outs = s.outs ++ [.mctp b 0x7E (toLE 8 (status + 2 ^ 8 * detail + 2 ^ 16 * rsp.length) ++ rsp)] ∧ t.yarn = s.yarn

/-- Role changes to STORAGE from the standby bank have been requested of spindles (R398). -/
def State.storageAsked (t : State) (m mask : Nat) : Prop :=
  ∀ sp ∈ spinsOf m mask, t.rd (F.MULE_ROLE.REQ (muleOf sp) (logOf sp)) = 1 ∧ t.rd (F.MULE_ROLE.NEW_ROLE (muleOf sp) (logOf sp)) = 1 ∧
    t.rd (F.MULE_ROLE.SWAP (muleOf sp) (logOf sp)) = 1 ∧ t.rd (standbyF sp) = 1

/-- STORAGE_ASSIGN of these spindles may start: they exist, no swap or load blocks them, and none changes its role. -/
def State.assignable (s : State) (m mask : Nat) : Prop :=
  m < 48 ∧ s.cob.assign = none ∧ s.swapBlocked (spinsOf m mask) = false ∧
    ∀ sp ∈ spinsOf m mask, s.rd (F.MULE_ROLE.REQ (muleOf sp) (logOf sp)) = 0

/-- Bytes of the boot flash from an offset. -/
def State.flashAt (s : State) (a n : Nat) : Bytes := flashRead s.flash a n

/-- From `s` to `t` nothing changes but what an answer of the mailbox changes. -/
def State.onlyMailbox (s t : State) : Prop := { t with csr := s.csr, yarn := s.yarn, outs := s.outs } = s ∧ s.regsKept t mboxFields

/-- The commands of FW_COMMIT's actions. -/
def commitIs (via : CommitVia) (action : Nat) (i : Instr) : Prop :=
  (action = 0 ∧ ∃ ok, i = .store via ok) ∨ (action = 1 ∧ ∃ ok, i = .storeActivate via ok) ∨ (action = 2 ∧ i = .activate via)

/-- The commands of the mailbox's operations (Table 12.7). -/
def mailboxIs (via : MboxVia) (op : Nat) (i : Instr) : Prop :=
  ((op = 0 ∨ op = 1 ∨ 10 < op) ∧ i = .mboxInfo via) ∨ (op = 2 ∧ i = .fwWrite via) ∨ (op = 3 ∧ ∃ a, commitIs (.mbox via) a i) ∨
  (op = 4 ∧ i = .svnCommit via) ∨ (op = 5 ∧ i = .storageAssign (some via)) ∨ (op = 6 ∧ i = .debugChallenge via) ∨
  (op = 7 ∧ i = .debugUnlock via) ∨ (op = 8 ∧ i = .nvRead via) ∨ (op = 9 ∧ i = .nvWrite via) ∨ (op = 10 ∧ i = .recoveryBoot via)

/-- No STORAGE_ASSIGN and no activation is under way. -/
def State.mboxIdle (s : State) : Prop := s.cob.assign = none ∧ s.cob.act = none

/-- Records as they stand one after the other, with the JSEQs after a given one (R402). -/
def recsBytes : List JRec → Nat → Bytes
  | [], _ => []
  | r :: t, q => recBytes r (q + 1) ++ recsBytes t (q + 1)

/-- R402, R403: records have been appended to the active bank, and nothing else of the protected flash has changed. -/
def State.appended (s t : State) (rs : List JRec) : Prop :=
  ∀ b a n, s.cob.journal.bank = some b → a = b * 0x800000 + s.cob.journal.tail → n = (recsBytes rs s.cob.journal.jseq).length →
    flashRead t.pflash a n = recsBytes rs s.cob.journal.jseq ∧
    (∀ x k, x + k ≤ a ∨ a + n ≤ x → flashRead t.pflash x k = flashRead s.pflash x k) ∧
    t.cob.journal.bank = some b ∧ t.cob.journal.gen = s.cob.journal.gen ∧ t.cob.journal.compacting = s.cob.journal.compacting ∧
    t.cob.journal.jseq = s.cob.journal.jseq + rs.length ∧ t.cob.journal.tail = s.cob.journal.tail + n ∧
    t.rd F.COBBLER_STAT.JOURNAL_WRITES.CNT = min (s.rd F.COBBLER_STAT.JOURNAL_WRITES.CNT + rs.length) (2 ^ 32 - 1)

/-- R404: records can be appended now. -/
def State.canAppend (s : State) (rs : List JRec) : Prop :=
  s.rd F.COBBLER_BOOT_STATUS.GATE_OPEN = 1 ∧ (∃ b, s.cob.journal.bank = some b) ∧ s.cob.journal.waiting = [] ∧
    s.cob.journal.compacting = false ∧ s.cob.journal.tail + (rs.map (fun r => recExtent r.payload.length)).sum ≤ 0x600000

/-- R404: with the gate open, records cannot be appended yet: what becomes of a state whose command waits for it. -/
def State.appendWaits (s t : State) (rs : List JRec) : Prop :=
  s.rd F.COBBLER_BOOT_STATUS.GATE_OPEN = 1 ∧
    ((t = s ∧ (s.cob.journal.bank = none ∨ s.cob.journal.waiting ≠ [] ∨ s.cob.journal.compacting = true)) ∨
     (s.cob.journal.bank ≠ none ∧ s.cob.journal.waiting = [] ∧ s.cob.journal.compacting = false ∧
       0x600000 < s.cob.journal.tail + (rs.map (fun r => recExtent r.payload.length)).sum ∧
       t = { s with cob := { s.cob with journal := { s.cob.journal with compacting := true } } }))

/-- The field of COBBLER_SEQ of an updatable slot. -/
def seqF (slot : Nat) : FRef := if slot = 0 then F.COBBLER_SEQ.SEQ_A else F.COBBLER_SEQ.SEQ_B

/-- R406: `seq` is the sequence number that a STORE gives the slot `t`, whose first bytes become `img`. -/
structure State.storing (s : State) (seq : Nat) (img : Bytes) : Prop where
  seq : seq = max (s.rd F.COBBLER_SEQ.SEQ_A) (s.rd F.COBBLER_SEQ.SEQ_B) + 1
  img : img = s.staged.take (setLength s.staged)

/-- R406: the staged set is in a slot, ranked by `seq`; the staging area is empty and free. -/
structure State.storedIn (s t : State) (slot seq : Nat) (img : Bytes) : Prop where
  flash : t.flashAt (0x4000000 * (slot + 1)) img.length = img
  others : ∀ a n, a + n ≤ 0x4000000 * (slot + 1) ∨ 0x4000000 * (slot + 2) ≤ a → t.flashAt a n = s.flashAt a n
  ranked : t.rd (seqF slot) = seq
  recorded : s.appended t [⟨1, slot, toLE 4 0⟩, ⟨1, slot, toLE 4 seq⟩]
  freed : t.cob.staging = [] ∧ t.cob.holder = none

/-- The staging area alone has been given up. -/
def State.unstaged (s t : State) : Prop := t.cob = { s.cob with staging := [], holder := none }

/-- R407: an activation has begun: fetching pauses, and the standby banks of the STORAGE spindles hold the new program. -/
def State.activationBegun (s t : State) (via : CommitVia) (slot : Nat) (image : Bytes) : Prop :=
  t.cob.act = some ⟨via, 0, slot, image, s.storageSpindles, s.clk.time, s.clk.cycles⟩ ∧ t.rd F.WELT_ACT.PAUSED = 1 ∧
    (∀ sp ∈ s.storageSpindles, t.rd (standbyF sp) = 1) ∧ t.yarn = (s.mboxHeardBy via).yarn ∧ t.outs = s.outs ∧ t.mem = s.mem ∧ t.cob.run = s.cob.run ∧
    (∀ f ∈ mboxFields, t.rd f = s.rd f)

/-- R391, R396: a binding answers: the gate is open, or the part is in ROM recovery and this is one of the messages it answers
on SMBus. -/
def State.answersOn (s : State) (b : Nat) (recovery : Bool) : Prop :=
  b < 2 ∧ (s.rd F.COBBLER_BOOT_STATUS.GATE_OPEN = 1 ∨ (recovery = true ∧ s.bootAt .recovery ∧ b = 0))

/-- The commands of MCTP and PLDM, by binding, and whether ROM recovery answers them. -/
def mctpIs (b : Nat) (recovery : Bool) (i : Instr) : Prop :=
  (recovery = true ∧ ((∃ c e, i = .mctpControl b c e) ∨ (∃ t, i = .mctpUnsupportedMessage b t) ∨ (∃ n, i = .requestupdate b n) ∨
    (∃ d ok, i = .requestfirmwaredata b d ok) ∨ (∃ x, i = .activatefirmware b x) ∨ i = .getstatus b ∨ i = .cancelupdatecomponent b ∨
    i = .cancelupdate b ∨ i = .querydeviceidentifiers b ∨ i = .getfirmwareparameters b)) ∨
  (recovery = false ∧ ((∃ h, i = .getpdr b h) ∨ (∃ n, i = .getsensorreading b n) ∨ (∃ n, i = .getstatesensorreadings b n) ∨
    (∃ n e, i = .setnumericsensorenable b n e) ∨ ∃ e, i = .seteventreceiver b e))

/-- The state with one more message of the Cobbler on a binding. -/
def State.said (s : State) (b type : Nat) (bs : Bytes) : State := { s with outs := s.outs ++ [.mctp b type bs] }

/-- The state with one more SPDM message on a path: the DOE instance of a PF, or 4 + an MCTP binding. -/
def State.spdmSaid (s : State) (path : Nat) (bs : Bytes) : State :=
  { s with outs := s.outs ++ [if path < 4 then .doe path bs else .mctp (path - 4) 5 bs] }

/-- The state with the management endpoints changed. -/
def State.withMgmt (s : State) (m : Mgmt) : State := { s with cob := { s.cob with mgmt := m } }

/-- A good token (R413). -/
structure State.goodToken (s : State) (d : Bytes) : Prop where
  magic : leAt d 0 4 = 0x54444A48
  level : leAt d 4 4 = 1
  device : sliceB d 8 16 = sliceB Config.deviceId 0 16
  nonce : ∃ k, s.cob.nonce = some k ∧ sliceB d 0x18 32 = sliceB (Config.challengeNonce k) 0 32
  zeros : ∀ i < 8, (sliceB d 0x38 8).getD i 0 = 0
  keys : sha384 (sliceB d 0xA0 97) = Config.debugKeyHash.1 ∧ sha384 (sliceB d 0x1330 2592) = Config.debugKeyHash.2
  ec : Config.ecdsaVerify (sliceB d 0xA0 97) (sliceB d 0 0x40) (sliceB d 0x40 96) = true
  pq : Config.mldsaVerify (sliceB d 0x1330 2592) (sliceB d 0 0x40) (sliceB d 0x110 4627) = true

/-! ### Seam and faults (chapter 13) -/

/-- An event word of FAULT_EVQ. -/
def faultWord (kind cls pos : Nat) : Nat := 2 ^ 58 * kind + 2 ^ 16 * cls + pos

/-- R418: both directions run at the width that their good lanes allow, and a direction that has fallen to 8 lanes is reported. -/
def State.widthsShown (s t : State) : Prop :=
  ∀ dir < 2, t.rd (widthF dir) = s.seamWidth dir ∧
    (s.seamWidth dir = 8 → s.rd (widthF dir) ≠ 8 → t.hasEvent faultEvq (faultWord 12 3 (18 * dir)))

/-- The fields of a retrain. -/
def trainFields : List FRef :=
  [F.SEAM_STAT.RETRAINS.CNT, F.SEAM_STATUS.WIDTH_AB, F.SEAM_STATUS.WIDTH_BA, evqHead faultEvq]

/-- R428: the seam has been retrained while Half B is away: with both directions up it is TRAINED, and a rejoin may follow. -/
def State.retrained (s t : State) : Prop :=
  t.rd F.SEAM_STAT.RETRAINS.CNT = min (s.rd F.SEAM_STAT.RETRAINS.CNT + 1) (2 ^ 32 - 1) ∧ s.widthsShown t ∧ t.seam.retrainAt = s.stitch ∧
    (s.seamWidth 0 ≠ 0 ∧ s.seamWidth 1 ≠ 0 → t.rd F.SEAM_STATUS.TRAINED = 1 ∧ t.hasEvent faultEvq (faultWord 10 3 0) ∧ t.seam.downAt = none ∧
      t.lace = { s.lace with bFree := none } ∧ t.net.ptp = { s.net.ptp with halfB := none } ∧ t.rd F.SEAM_CMD.REJOIN = (if s.rd F.SEAM_CFG.AUTO_REJOIN = 1 then 1 else s.rd F.SEAM_CMD.REJOIN)) ∧
    (s.seamWidth 0 = 0 ∨ s.seamWidth 1 = 0 → t.rd F.SEAM_STATUS.TRAINED = s.rd F.SEAM_STATUS.TRAINED ∧ t.rd F.SEAM_CMD.REJOIN = s.rd F.SEAM_CMD.REJOIN ∧
      t.lace = s.lace ∧ t.net.ptp = s.net.ptp) ∧
    t.rd F.SEAM_STATUS.STATE = s.rd F.SEAM_STATUS.STATE

/-- R424: Half A takes Half B as fenced. -/
def State.takenFenced (s t : State) (self : Nat) : Prop :=
  t.rd F.SEAM_STATUS.STATE = 3 ∧ t.rd F.SEAM_STATUS.FENCE_MODE = self ∧
    t.rd F.SEAM_STAT.FENCES.CNT = min (s.rd F.SEAM_STAT.FENCES.CNT + 1) (2 ^ 32 - 1) ∧ s.logged t faultEvq (faultWord 9 3 0)

/-- The fields that taking Half B as fenced writes. -/
def fencedFields : List FRef :=
  [F.SEAM_STATUS.STATE, F.SEAM_STATUS.FENCE_MODE, F.SEAM_STAT.FENCES.CNT, evqHead faultEvq]

/-- A frame of a half on the witness (R420). -/
def State.witnessed (s t : State) (half type : Nat) : Prop :=
  .witness half type (if half = 0 then s.seam.seqA else s.seam.seqB) ∈ t.outs ∧ (type ≠ 1 → (type, half) ∈ t.seam.wire)

/-- R430 to R436: what a permanent error of a position does. -/
structure State.ruledPermanent (s t : State) (k pos row : Nat) (inj : Bool) (owner : Option Nat) : Prop where
  cleared : AMap.get? t.flt.counts (countKey k pos row) = none
  counted : s.rd F.FAULT_STAT.PERMANENT.CNT < t.rd F.FAULT_STAT.PERMANENT.CNT ∨ s.rd F.FAULT_STAT.PERMANENT.CNT = 2 ^ 32 - 1
  event : t.hasEvent faultEvq (faultWord 1 k pos + if inj then 2 ^ 49 else 0)
  again : k ≠ 6 → (k, pos) ∈ s.repairs → s.regsKept t [F.FAULT_STAT.PERMANENT.CNT, evqHead faultEvq] ∧ t.repairs = s.repairs ∧ t.mules = s.mules
  recorded : k < 5 ∨ (k = 5 ∧ s.chState pos ≠ 4) → (k, pos) ∈ t.repairs
  spindle : ∀ m l, k = 0 → pos = 17 * m + l → l < 16 → (0, pos) ∉ s.repairs → (∀ x ∈ s.flt.swaps, x.sp / 16 ≠ m) →
    (∃ x ∈ t.flt.swaps, x.pos = pos ∧ x.sp = 16 * m + l ∧ x.stitch = s.stitch ∧ x.copied = false ∧
      (x.spare = true ↔ AMap.get? s.flt.spared m = none ∧ (0, 17 * m + 16) ∉ s.repairs)) ∧
    (AMap.get? s.flt.spared m = none → (0, 17 * m + 16) ∉ s.repairs → AMap.get? t.flt.spared m = some l ∧
      t.rd F.FAULT_SPARE.SPINDLE = s.rd F.FAULT_SPARE.SPINDLE - 1)
  rival : ∀ m l x, k = 0 → pos = 17 * m + l → l < 16 → (0, pos) ∉ s.repairs → x ∈ s.flt.swaps → x.sp / 16 = m → x.cycle = s.clk.cycles →
    x.spare = true → pos < x.pos → ∀ y ∈ t.flt.swaps, y.sp / 16 = m → y.spare = true → y.pos = pos
  engine : k = 1 → (1, pos) ∉ s.repairs → t.rd (F.CIPHER_ENGPOS.STATE pos) = 2 ∧
    (s.rd (F.CIPHER_ENGPOS.STATE pos) = 0 → (∃ e, 136 * (pos / 136) ≤ e ∧ e < 136 * (pos / 136) + 136 ∧ s.rd (F.CIPHER_ENGPOS.STATE e) = 1) →
      AMap.get? t.flt.engines pos = some s.clk.time) ∧
    (s.rd (F.CIPHER_ENGPOS.STATE pos) = 0 → (∀ e, 136 * (pos / 136) ≤ e → e < 136 * (pos / 136) + 136 → s.rd (F.CIPHER_ENGPOS.STATE e) ≠ 1) →
      t.hasEvent faultEvq (faultWord 3 1 pos) ∧ t.rd F.FAULT_STAT.UNSPARED.CNT = min (s.rd F.FAULT_STAT.UNSPARED.CNT + 1) (2 ^ 32 - 1))
  lane : k = 2 → (2, pos) ∉ s.repairs → AMap.get? t.flt.lanes pos = some s.stitch
  seam : k = 3 → (3, pos) ∉ s.repairs → t.rd (retiredF (pos / 18)) = s.rd (retiredF (pos / 18)) ||| 2 ^ (pos % 18) ∧
    (s.rd F.SEAM_STATUS.STATE = 0 → t.rd F.SEAM_STATUS.STATE = 1) ∧ (16 < s.goodLanes (pos / 18) → pos ∈ t.seam.swapping) ∧
    (s.goodLanes (pos / 18) ≤ 16 → t.hasEvent faultEvq (faultWord 3 3 pos) ∧
      t.rd F.FAULT_STAT.UNSPARED.CNT = min (s.rd F.FAULT_STAT.UNSPARED.CNT + 1) (2 ^ 32 - 1))
  eth : k = 4 → (4, pos) ∉ s.repairs → ∀ w, w = lanesOf (s.ethMode (pos / 8)) → t.linkUp (pos / w * w) = false
  channel : k = 5 → (5, pos) ∉ s.repairs → s.chState pos ≠ 4 → t.chState pos = 4
  repaired : ∀ rows, k = 6 → rows = AMap.getD s.flt.sram pos [] → rows.length < 2 → AMap.get? t.flt.sram pos = some (rows ++ [(row, rows.length)]) ∧
    t.rd F.FAULT_STAT.SOFT_REPAIRS.CNT = min (s.rd F.FAULT_STAT.SOFT_REPAIRS.CNT + 1) (2 ^ 32 - 1) ∧ t.hasEvent faultEvq (faultWord 4 6 pos)
  exhausted : k = 6 → 2 ≤ (AMap.getD s.flt.sram pos []).length → t.flt.sram = s.flt.sram ∧ t.hasEvent faultEvq (faultWord 5 6 pos) ∧
    ∀ p, owner = some p → p < 816 → (0, p) ∈ t.repairs ∧ t.hasEvent faultEvq (faultWord 1 0 p)
  cobbler : k = 7 → (7, pos) ∉ s.repairs → t.rd F.FAULT_SPARE.COBBLER_DEGRADED = 1

/-- R430: an error of a position has been counted and ruled on. -/
def State.ruled (s t : State) (k pos row : Nat) (unc inj : Bool) (owner : Option Nat) : Prop :=
  ∀ c w c' w', AMap.getD s.flt.counts (countKey k pos row) (0, 0) = (c, w) →
    (if c = 0 ∨ w + 2 ^ s.rd (F.FAULT_CLASS.LOG2W k) ≤ s.stitch then c' = 1 ∧ w' = s.stitch else c' = c + 1 ∧ w' = w) →
    (c' < max 1 (s.rd (F.FAULT_CLASS.N k)) → ¬ (k = 6 ∧ unc = true) →
      t.rd F.FAULT_STAT.TRANSIENT.CNT = min (s.rd F.FAULT_STAT.TRANSIENT.CNT + 1) (2 ^ 32 - 1) ∧
      AMap.get? t.flt.counts (countKey k pos row) = some (c', w') ∧
      (∀ x, x ≠ countKey k pos row → AMap.get? t.flt.counts x = AMap.get? s.flt.counts x) ∧
      (k < 6 → AMap.getD t.flt.errors (1024 * k + pos) 0 = min (AMap.getD s.flt.errors (1024 * k + pos) 0 + 1) (2 ^ 32 - 1)) ∧
      s.regsKept t [F.FAULT_STAT.TRANSIENT.CNT] ∧ { t with csr := s.csr, flt := s.flt } = s) ∧
    (max 1 (s.rd (F.FAULT_CLASS.N k)) ≤ c' ∨ (k = 6 ∧ unc = true) → s.ruledPermanent t k pos row inj owner)

/-- R438: the grade that a sample gives a position. -/
def State.newGrade (s : State) (k pos age : Nat) : Nat :=
  max (bitsOf (s.rd (F.FAULT_LEDGER.W (1024 * k + pos))) 63 62)
    (if (k, pos) ∈ s.repairs then 3 else if s.rd F.FAULT_WEAR.RETIRE ≤ age then 2 else if s.rd F.FAULT_WEAR.WATCH ≤ age then 1 else 0)

/-- The AGE of a position at a sample: the reading given, or the one the ledger holds. -/
def State.sampledAge (s : State) (ages : List Nat) (k pos : Nat) : Nat :=
  (ageOf ages k pos).getD (bitsOf (s.rd (F.FAULT_LEDGER.W (1024 * k + pos))) 47 32) % 65536

/-! ### Functions (chapter 09) -/

/-- No queue belongs to a function, and the Welt runs no command: the function has no work to end. -/
def State.noWork (s : State) (f : Nat) : Prop :=
  (∀ e ∈ s.q.wqs, e.2.func ≠ f) ∧ (∀ e ∈ s.q.cqs, e.2.func ≠ f) ∧ s.welt.cmds = []

/-- HOSTLINK_ABORT has reported done. -/
def State.abortReported (t : State) (status detail : Nat) : Prop :=
  t.rd F.HOSTLINK_ABORT.GO = 0 ∧ t.rd F.HOSTLINK_ABORT.BUSY = 0 ∧ t.rd F.HOSTLINK_ABORT_STATUS.DONE = 1 ∧
    t.rd F.HOSTLINK_ABORT_STATUS.STATUS = status ∧ t.rd F.HOSTLINK_ABORT_STATUS.DETAIL = detail

/-- The fields a report of HOSTLINK_ABORT writes. -/
def abortFields : List FRef :=
  [F.HOSTLINK_ABORT.GO, F.HOSTLINK_ABORT.BUSY, F.HOSTLINK_ABORT_STATUS.DONE, F.HOSTLINK_ABORT_STATUS.STATUS,
   F.HOSTLINK_ABORT_STATUS.DETAIL, F.HOSTLINK_ABORT_STATUS.ELAPSED]

/-- One WQ alone, with one job in flight, no fault and no fetch under way, whose CQ in host memory belongs to its function. -/
def State.oneJob (s : State) (n f : Nat) (w : Wq) (j : Job) (c : Cq) : Prop :=
  s.q.wqs = [(n, w)] ∧ n < 65536 ∧ w.func = f ∧ w.jobs = [j] ∧ j.own = 1 ∧ j.error = false ∧ w.fetch = [] ∧ w.fault = none ∧
    s.cq? w.cq = some c ∧ c.func = f ∧ c.ringLoc = false ∧ s.welt.cmds = []

/-- The job has been reported ABORTED with a detail, and its CQE is parked. -/
def State.parkedAborted (t : State) (n : Nat) (j : Job) (detail : Nat) : Prop :=
  ∃ w j', t.wq? n = some w ∧ w.jobs = [j'] ∧ j'.stage = .done ∧ j'.status = 1 ∧ j'.detail = detail ∧ j'.user = j.user ∧
    j'.first = j.first ∧ j'.last = j.last

/-! ### POWER resets (R321, R322, R444, R448) -/

/-- Apart from its registers `t` is the state after a POWER reset of `s`: the fuses and both flashes are kept, and so are the
pins that the board drives. -/
def State.cold (s t : State) : Prop :=
  { t with clk := Clk.reset, csr := [], host := HostLink.reset, cob := Cobbler.reset, pwr := Power.reset, flash := [], pflash := [],
           outs := [], freeCtr := 0, pending := [] } = State.reset ∧
    t.clk = { cycles := 0, time := s.clk.time } ∧ { t.host with perst := HostLink.reset.perst } = HostLink.reset ∧
    { t.cob with revoked := [], boot := Boot.reset } = Cobbler.reset ∧ t.cob.revoked = s.cob.revoked ∧ t.pwr.perst = s.pwr.perst ∧
    t.flash = s.flash ∧ t.pflash = s.pflash ∧ t.outs = s.outs ∧ t.pending = s.pending

/-- R322, R448: the fields of the always-on domain that a POWER reset keeps while VAON stays up. -/
def aonFields : List FRef :=
  [⟨F.POWER_RESET_CAUSE.TRIP.addr, 63, 0⟩,
   F.COBBLER_BOOT_STATUS.DEBUG_OPENED, F.COBBLER_BOOT_STATUS.FAIL_SLOT, F.COBBLER_BOOT_STATUS.TRIES, F.COBBLER_BOOT_STATUS.FAIL_CAUSE]

/-- R444: the fields whose value after a POWER reset the straps give. -/
def strapFields : List FRef :=
  [F.POWER_STRAP.TEST_EN, F.POWER_STRAP.SMB_ADDR, F.POWER_STRAP.FORCE_GOLDEN_N, F.POWER_STRAP.COMPAT_MODE, F.POWER_STRAP.HOST_BIFUR,
   F.POWER_STRAP.RESET_SCOPE, F.HOSTLINK_LINKCFG.BIFUR, F.HOSTLINK_LINKCFG.PF2_LINK, F.HOSTLINK_LINKCFG.PF3_LINK] ++
  (List.range 4100).map F.HOSTLINK_FUNC.COMPAT_HJ420

end Sys2Proof.Machine
end

