-- ==== Sys2Proof/Certificates/Slice0/Obligations.lean ====
section
/-! DEFINITION. The statements for the provers. -/

open Sys2Proof Sys2Proof.Machine

/-- The queue's discipline, which the model's interface asks for (log entry 2). -/
def Obligations.StepRunsFront : Prop :=
  (∀ (s : State) (c : Instr) (rest : List Instr), step { s with pending := c :: rest } = exec c { s with pending := rest }) ∧
  (∀ (s : State) (nbits w : Nat), decodeTableWord nbits w = none ∧ s.withFetchWord nbits w = s)

/-- Every row of the table has an effect in every state. -/
def Obligations.EveryCommandAnswersNext : Prop := ∀ (c : Instr) (s : State), ∃ t, exec c s = .next t

/-- Reset values that the spec states. -/
def Obligations.ResetValues : Prop :=
  State.reset.rd F.STITCH_LEN.CUR = 1 ∧ State.reset.stitchLen = 2048 ∧ State.reset.rd F.STITCH_COUNT.COUNT = 0 ∧
  State.reset.rd F.COBBLER_BOOT_STATUS.GATE_OPEN = 0 ∧ State.reset.cob.boot.stage = .choosing ∧
  (∀ ten, State.reset.groupOf ten = 0) ∧
  (∀ c < 6, ∀ p, State.reset.laceEntry c p = if c = 3 ∧ p % 64 = 63 then 0x8000 else 0x4000) ∧
  (∀ tid < 6144, State.reset.ts tid = tsOff) ∧
  State.reset.rd F.POWER_DOM_CTRL.ON = 2 ^ 58 - 1 ∧ State.reset.rd F.POWER_DOM_STATUS.ON = 2 ^ 58 - 1 ∧
  State.reset.rd F.POWER_THERM_CFG.TRIP_T = 115 ∧ State.reset.rd F.POWER_THERM_CFG.THROTTLE_T = 100 ∧
  State.reset.rd F.GLOBAL_DEVICE_ID.DEVICE = 0x0960 ∧
  (∀ q ∈ eventFifos, (State.reset.fifo q).entries = [] ∧ State.reset.word q.addr = 0) ∧
  State.reset.q.wqs = [] ∧ State.reset.q.cqs = [] ∧ State.reset.cipher.jobs = [] ∧ State.reset.net.pkts = [] ∧ State.reset.yarn.flights = [] ∧
  State.reset.pending = []

/-- R6 to R9, R12 to R16. -/
def Obligations.CsrAccesses : Prop :=
  (∀ (s : State) (who : Requester) (off size cause : Nat) (v : W64), s.reaches who = true → accessFault off size = some cause →
    (∃ t, exec (.csrWrite who off size v) s = .next t ∧ s.regsKept t [⟨0x10, 63, 0⟩, F.GLOBAL_CSR_ERR_CNT.COUNT] ∧ s.csrRecorded t cause off true ∧
      { t with csr := s.csr, latchPf0 := s.latchPf0, latchCob := s.latchCob } = s) ∧
    (∃ t, exec (.csrFaultyRead who off size) s = .next t ∧ s.regsKept t [⟨0x10, 63, 0⟩, F.GLOBAL_CSR_ERR_CNT.COUNT] ∧
      s.csrRecorded t cause off false ∧ t.outs = s.outs ++ [.csrData who off size (2 ^ (8 * size) - 1)])) ∧
  (∀ (s : State) (who : Requester) (off : Nat) (v : W64), s.reaches who = true → off % 4 = 0 → assigned off = false →
    (∃ t, exec (.csrWrite who off 4 v) s = .next t ∧ s.regsKept t [⟨0x10, 63, 0⟩, F.GLOBAL_CSR_ERR_CNT.COUNT] ∧ s.csrRecorded t 3 off true ∧
      { t with csr := s.csr, latchPf0 := s.latchPf0, latchCob := s.latchCob } = s) ∧
    (∃ t, exec (.csrFaultyRead who off 4) s = .next t ∧ s.regsKept t [⟨0x10, 63, 0⟩, F.GLOBAL_CSR_ERR_CNT.COUNT] ∧ s.csrRecorded t 3 off false ∧
      t.outs = s.outs ++ [.csrData who off 4 0])) ∧
  (∀ (s : State) (who w : Requester) (d : RegDesc) (r : Nat) (v set : W64), s.reaches who = true → (w = who ∧ set = 0 ∨ w = .during set who) → r % 4 = 0 → ordinaryReg r = true →
    s.absentReg r = false → findReg (regsAt r) r = some (d, r) → d.width = 32 →
    ∃ t, exec (.csrWrite w r 4 v) s = .next t ∧
      (∀ i < 32, (t.word r).testBit i =
        d.fields.any (fun f => f.mask.testBit i && bitWritten f.acc s.locked ((s.word r).testBit i) (v.getLsbD i && !(f.acc == .w1c && set.getLsbD i)))) ∧
      s.regsKept t [⟨r, 63, 0⟩, ⟨0x10, 63, 0⟩, F.GLOBAL_CSR_ERR_CNT.COUNT] ∧
      (s.locked = true → (∃ f ∈ d.fields, f.acc = .rwl ∧ ∃ i < 32, f.mask.testBit i = true ∧ (s.word r).testBit i ≠ v.getLsbD i) →
        s.csrRecorded t 4 r true) ∧
      ((s.locked = false ∨ ∀ f ∈ d.fields, f.acc = .rwl → ∀ i < 32, f.mask.testBit i = true → (s.word r).testBit i = v.getLsbD i) →
        s.regsKept t [⟨r, 63, 0⟩]) ∧
      { t with csr := s.csr, latchPf0 := s.latchPf0, latchCob := s.latchCob } = s) ∧
  (∀ (s : State) (who by_ : Requester) (d : RegDesc) (r : Nat) (new : W64), s.reaches who = true →
    (by_ = who ∧ new = 0 ∨ by_ = .during new who) → r % 4 = 0 → ordinaryReg r = true →
    s.absentReg r = false → findReg (regsAt r) r = some (d, r) → d.width = 32 →
    (eventFifos.find? (fun q => q.addr == r)) = none → inArray r 0xD01000 0x10 16 = false → inArray r 0x1000400 4 4 = false →
    ∃ t w, exec (.rcRead by_ r 4) s = .next t ∧ t.outs = s.outs ++ [.csrData who r 4 w] ∧
      (∀ f ∈ d.fields, let old := bitsOf (s.word r) f.hi f.lo
        bitsOf w f.hi f.lo = (if f.acc = .wo ∨ f.acc = .rsv then 0 else if f.acc = .rc then old - bitsOf new.toNat f.hi f.lo else old) ∧
        bitsOf (t.word r) f.hi f.lo = if f.acc = .rc then min old (bitsOf new.toNat f.hi f.lo) else old) ∧
      (∀ i < 32, (∀ f ∈ d.fields, f.mask.testBit i = false) → w.testBit i = false ∧ (t.word r).testBit i = (s.word r).testBit i) ∧
      s.regsKept t [⟨r, 63, 0⟩]) ∧
  (∀ (s : State) (who : Requester) (k : Nat), s.reaches who = true → k < 4 →
    ∃ t w, exec (.rcRead who (0x1000400 + 4 * k) 4) s = .next t ∧ t.outs = s.outs ++ [.csrData who (0x1000400 + 4 * k) 4 w] ∧
      (F.CIPHER_SUSP.PEAK k).get w = s.rd (F.CIPHER_SUSP.PEAK k) ∧ (F.CIPHER_SUSP.IN_USE k).get w = s.rd (F.CIPHER_SUSP.IN_USE k) ∧
      t.rd (F.CIPHER_SUSP.PEAK k) = s.rd (F.CIPHER_SUSP.IN_USE k) ∧ s.regsKept t [F.CIPHER_SUSP.PEAK k]) ∧
  (∀ (s : State) (who : Requester) (d : RegDesc) (r : Nat), s.reaches who = true → r % 8 = 0 → ordinaryReg r = true →
    s.absentReg r = false → findReg (regsAt r) r = some (d, r) → findReg (regsAt (r + 4)) (r + 4) = some (d, r) → d.width = 64 →
    d.hwUpdated = true → d.fields.all (fun f => f.acc != .rc) = true → (eventFifos.find? (fun q => q.addr == r)) = none →
    inArray r 0xD01000 0x10 16 = false →
    ∃ t w, exec (.csrLowerHalfRead who r) s = .next t ∧ t.outs = s.outs ++ [.csrData who r 4 (w % 2 ^ 32)] ∧ w = s.shown d r 0 ∧
      t.latchOf who = some (r, w / 2 ^ 32) ∧
      (∀ u : State, u.reaches who = true → u.latchOf who = some (r, w / 2 ^ 32) → u.absentReg r = false →
        ∃ x, exec (.csrLowerHalfRead who (r + 4)) u = .next x ∧ x.outs = u.outs ++ [.csrData who (r + 4) 4 (w / 2 ^ 32)])) ∧
  (∀ (s : State) (who other : Requester) (off : Nat), who ≠ other → (∀ f, other ≠ .fcp f ∧ other ≠ .msix f) → (∀ x o, other ≠ .during x o) →
    ∃ t, exec (.csrLowerHalfRead other off) s = .next t ∧ t.latchOf who = s.latchOf who) ∧
  (∀ (s : State) (f off size : Nat) (v : W64), s.locked = false → exec (.csrWrite (.fcp f) off size v) s = .next s) ∧
  (∀ (s : State) (off size : Nat) (v : W64), s.locked = false → s.cob.boot.stage ≠ .recovery →
    exec (.csrWrite .pf0 off size v) s = .next s ∧ exec (.rcRead .pf0 off size) s = .next s)

/-- R20 to R23, R46, R47, R135: time. That the cycle of an empty queue is the tick is the model's choice (log entry 3). -/
def Obligations.TimeAdvances : Prop :=
  (∀ (s : State) (n : Nat), s.pending = [] → s.held = false → s.pwr.pwrgd = true → s.pwr.tripped = false →
    n = (if s.rd F.POWER_CLK.CUR = 1 then 5 else 4) →
    ∃ t, step s = .next t ∧ t.clk = { cycles := s.clk.cycles + 1, time := s.clk.time + n } ∧
      t.rd F.STITCH_POS.CYCLE = (s.rd F.STITCH_POS.CYCLE + 1) % 2 ^ 14 ∧ t.rd F.STITCH_POS.TURN = s.rd F.STITCH_POS.TURN ∧
      t.rd F.STITCH_COUNT.COUNT = s.rd F.STITCH_COUNT.COUNT ∧ t.mem = s.mem ∧ t.lace = s.lace ∧ t.q = s.q ∧
      (s.rd F.PTP_ADJ.FREQ = 0 → s.net.ptp.acc < 65536 * 1000000000 →
        t.net.ptp.frac = (s.net.ptp.frac + n * 2 ^ 29) % 2 ^ 32 ∧
        t.rd F.PTP_NS.NS = (s.rd F.PTP_NS.NS + (s.net.ptp.frac + n * 2 ^ 29) / 2 ^ 32) % 2 ^ 64)) ∧
  (∀ s : State, s.rd F.STITCH_POS.TURN < 63 →
    (s.rd F.STITCH_POS.TURN + 1) * (1024 * 2 ^ s.rd F.STITCH_LEN.CUR / 64) ≤ s.rd F.STITCH_POS.CYCLE →
    ∃ t, exec .turnStart s = .next t ∧ t.rd F.STITCH_POS.TURN = s.rd F.STITCH_POS.TURN + 1 ∧ s.regsKept t [F.STITCH_POS.TURN] ∧
      { t with csr := s.csr, lace := s.lace } = s ∧ { t.lace with units := s.lace.units, bFree := s.lace.bFree } = s.lace ∧
      (∀ c < 6, ∀ u < 4096, s.lace.bFree = none ∨ instHalf c u = 0 → s.turnFresh t c u) ∧
      (∀ f, s.lace.bFree = some f →
        (f.turn < s.turnNoOf 1 → t.lace.bFree = some { f with turn := s.turnNoOf 1 } ∧ ∀ c < 6, ∀ u < 4096, instHalf c u = 1 → s.turnFresh t c u) ∧
        (s.turnNoOf 1 ≤ f.turn → t.lace.bFree = s.lace.bFree ∧ ∀ c < 6, ∀ u < 4096, instHalf c u = 1 → t.unit c u = s.unit c u))) ∧
  (∀ (s : State) (f : FreeStitch), s.lace.bFree = some f → 0 < f.len →
    f.len * s.stitchOf 1 + s.cycleOf 1 = f.len * f.count + f.phase + (s.clk.cycles - f.since)) ∧
  (∀ s : State, (1024 * 2 ^ s.rd F.STITCH_LEN.CUR : Int) + s.lace.adj ≤ s.rd F.STITCH_POS.CYCLE →
    ∃ t, exec .stitchBoundary s = .next t ∧ t.rd F.STITCH_COUNT.COUNT = (s.rd F.STITCH_COUNT.COUNT + 1) % 2 ^ 64 ∧
      t.rd F.STITCH_POS.SIP = (s.rd F.STITCH_COUNT.COUNT + 1) % 64 ∧ t.rd F.STITCH_POS.TURN = 0 ∧ t.rd F.STITCH_POS.CYCLE = 0 ∧
      s.regsKept t [F.STITCH_COUNT.COUNT, F.STITCH_POS.SIP, F.STITCH_POS.TURN, F.STITCH_POS.CYCLE, F.STITCH_PTP_ERR.ERR,
        F.STITCH_PTP_CTRL.STATE, F.STITCH_PTP_CTRL.UNLOCKED, F.STITCH_PTP_ADJ.SHORTENED, F.STITCH_PTP_ADJ.LENGTHENED] ∧
      { t with csr := s.csr, lace := s.lace } = s ∧ (t.lace.adj = -1 ∨ t.lace.adj = 0 ∨ t.lace.adj = 1) ∧
      (s.rd F.STITCH_PTP_CTRL.EN = 0 → t.lace.adj = 0 ∧ t.rd F.STITCH_PTP_CTRL.STATE = s.rd F.STITCH_PTP_CTRL.STATE) ∧
      (∀ e : Int, s.rd F.STITCH_PTP_CTRL.EN = 1 → s.rd F.STITCH_PTP_CTRL.STATE = 1 → s.rd F.POWER_CLK.CUR = 0 →
        e = phaseError (s.rd F.PTP_NS.NS * 2 ^ 32 + s.net.ptp.frac) (1024 * 2 ^ s.rd F.STITCH_LEN.CUR / 2) ((s.rd F.STITCH_COUNT.COUNT + 1) % 64) →
        t.lace.adj = if 2 ^ 32 < 4 * e then -1 else if 4 * e < -2 ^ 32 then 1 else 0)) ∧
  (∀ s : State, s.rd F.STITCH_POS.CYCLE = 0 → s.rd F.STITCH_POS.TURN = 0 → s.rd F.STITCH_COUNT.COUNT % 64 = 0 → s.lace.periodAt ≠ s.clk.cycles →
    ∃ t, exec .lacingPeriodBoundary s = .next t ∧ t.lace = { s.lace with periodAt := s.clk.cycles } ∧
      { t with csr := s.csr, lace := s.lace } = s ∧ s.regsKept t [F.POWER_STAT.THROTTLED.CNT] ∧
      t.rd F.POWER_STAT.THROTTLED.CNT = (if s.rd F.POWER_CLK.THROTTLE = 1 ∧ s.pwr.clkAt < s.clk.cycles then
        min (s.rd F.POWER_STAT.THROTTLED.CNT + 1) (2 ^ 32 - 1) else s.rd F.POWER_STAT.THROTTLED.CNT)) ∧
  (∀ s : State, s.rd F.STITCH_COUNT.COUNT % 64 ≠ 0 → exec .lacingPeriodBoundary s = .next s)

/-- R26, with R24 and R25 for the boundary that applies or refuses a request. -/
def Obligations.StitchLengthChange : Prop :=
  (∀ (s : State) (v : W32), s.rd F.STITCH_LEN.PENDING = 1 →
    ∃ t, exec (.stitchLenReqWrite v) s = .next t ∧ s.onlyRegs t [F.STITCH_LEN.REJECT] ∧ t.rd F.STITCH_LEN.REJECT = 1) ∧
  (∀ (s : State) (v : W32), s.lace.commit.isSome = true →
    ∃ t, exec (.stitchLenReqWrite v) s = .next t ∧ s.onlyRegs t [F.STITCH_LEN.REJECT] ∧ t.rd F.STITCH_LEN.REJECT = 1) ∧
  (∀ (s : State) (v : W32), s.rd F.STITCH_LEN.PENDING = 0 → s.lace.commit = none → v.toNat / 16 % 4 = s.rd F.STITCH_LEN.CUR →
    ∃ t, exec (.stitchLenReqWrite v) s = .next t ∧ s.onlyRegs t [F.STITCH_LEN.REJECT, F.STITCH_LEN.REQ] ∧
      t.rd F.STITCH_LEN.REQ = s.rd F.STITCH_LEN.CUR ∧ t.rd F.STITCH_LEN.REJECT = (if v.getLsbD 31 then 0 else s.rd F.STITCH_LEN.REJECT)) ∧
  (∀ (s : State) (v : W32), s.rd F.STITCH_LEN.PENDING = 0 → s.lace.commit = none → v.toNat / 16 % 4 ≠ s.rd F.STITCH_LEN.CUR →
    ∃ t, exec (.stitchLenReqWrite v) s = .next t ∧ s.regsKept t [F.STITCH_LEN.REJECT, F.STITCH_LEN.REQ, F.STITCH_LEN.PENDING] ∧
      t.rd F.STITCH_LEN.REQ = v.toNat / 16 % 4 ∧ t.rd F.STITCH_LEN.PENDING = 1 ∧ t.lace = { s.lace with lenReqAt := some s.clk.cycles }) ∧
  (∀ (s : State) (t0 : Nat), s.lace.lenReqAt = some t0 →
    (s.atPeriod = false ∨ s.clk.cycles < t0 + 4096 → exec .stitchLenApply s = .next s) ∧
    (s.atPeriod = true → t0 + 4096 ≤ s.clk.cycles →
      (s.largestWcet ≤ 1024 * 2 ^ s.rd F.STITCH_LEN.REQ / 8 - 16 → s.rd F.STITCH_SYSREQ.MIN ≤ systemCount (s.laceTab 3).active →
        ∃ t, exec .stitchLenApply s = .next t ∧ t.rd F.STITCH_LEN.CUR = s.rd F.STITCH_LEN.REQ ∧ t.rd F.STITCH_LEN.PENDING = 0 ∧
          t.rd F.STITCH_LEN.REQ = s.rd F.STITCH_LEN.REQ ∧ t.rd F.STITCH_LEN.REJECT = s.rd F.STITCH_LEN.REJECT ∧ t.lace.tabs = s.lace.tabs ∧
          t.lace.lenReqAt = none) ∧
      (1024 * 2 ^ s.rd F.STITCH_LEN.REQ / 8 - 16 < s.largestWcet ∨ systemCount (s.laceTab 3).active < s.rd F.STITCH_SYSREQ.MIN →
        ∃ t, exec .stitchLenApply s = .next t ∧ t.rd F.STITCH_LEN.CUR = s.rd F.STITCH_LEN.CUR ∧ t.rd F.STITCH_LEN.PENDING = 0 ∧
          t.rd F.STITCH_LEN.REQ = s.rd F.STITCH_LEN.CUR ∧ t.rd F.STITCH_LEN.REJECT = 1 ∧ t.lace = { s.lace with lenReqAt := none })))

/-- R44, with R42 and R43 for the commit and the swap. What the shadow copies take and which pointers stay is the model's (log entries 10
and 144). -/
def Obligations.LacingCommits : Prop :=
  (∀ (s : State) (off : Nat) (wide : Bool) (v : W64), s.lace.commit.isSome = true → inLaceShadow off = true → off % (if wide then 8 else 4) = 0 →
    ∃ t, exec (.lacingShadowWrite off wide v) s = .next t ∧ s.onlyRegs t [F.STITCH_LACE_STATUS.BUSY_WRITE] ∧
      t.rd F.STITCH_LACE_STATUS.BUSY_WRITE = 1) ∧
  (∀ (s : State) (c p : Nat) (v : W64), s.lace.commit = none → c < 6 → p < 2048 →
    ∃ t, exec (.lacingShadowWrite (0x110000 + 0x2000 * c + 4 * p) false v) s = .next t ∧ s.sameRegs t ∧
      t.laceShadow c (2 * p) = BitVec.ofNat 16 v.toNat &&& 0xC3FF#16 ∧
      t.laceShadow c (2 * p + 1) = BitVec.ofNat 16 (v.toNat / 65536) &&& 0xC3FF#16 ∧
      (∀ d q, (d ≠ c ∨ (q ≠ 2 * p ∧ q ≠ 2 * p + 1)) → t.laceShadow d q = s.laceShadow d q) ∧
      (∀ d q, t.laceEntry d q = s.laceEntry d q) ∧ (∀ ten, t.groupOf ten = s.groupOf ten)) ∧
  (∀ (s : State) (v : W32), s.lace.commit.isSome = true → v.getLsbD 31 = false → (v.toNat % 64 ≠ 0 ∨ v.getLsbD 8 = true) →
    ∃ t, exec (.stitchLaceCommit v) s = .next t ∧ s.onlyRegs t [F.STITCH_LACE_STATUS.BUSY_WRITE] ∧ t.rd F.STITCH_LACE_STATUS.BUSY_WRITE = 1) ∧
  (∀ (s : State) (c : Instr), (c = .cancel ∨ ∃ v : W32, v.getLsbD 31 = true ∧ c = .stitchLaceCommit v) →
    (s.lace.commit.isSome = true → s.swapDue = false →
      ∃ t, exec c s = .next t ∧ t.lace = { s.lace with commit := none } ∧ t.rd F.STITCH_LACE_STATUS.PENDING = 0 ∧
        s.regsKept t [F.STITCH_LACE_STATUS.PENDING] ∧ { t with csr := s.csr, lace := s.lace } = s) ∧
    (∀ k, s.lace.commit = some k → s.swapDue = true → s.laceFault k.classes = none →
      ∃ t u, exec .laceSwap s = .next u ∧ exec c s = .next t ∧ t.lace = u.lace ∧ t.rd F.STITCH_LACE_STATUS.LATE_CANCEL = 1 ∧
        u.regsKept t [F.STITCH_LACE_STATUS.LATE_CANCEL]) ∧
    (s.lace.commit = none → s.lace.swapDone = true →
      ∃ t, exec c s = .next t ∧ s.onlyRegs t [F.STITCH_LACE_STATUS.LATE_CANCEL] ∧ t.rd F.STITCH_LACE_STATUS.LATE_CANCEL = 1) ∧
    (s.lace.commit = none → s.lace.swapDone = false → exec c s = .next s)) ∧
  (∀ (s : State) (v : W32), s.lace.commit = none → v.getLsbD 31 = false → (v.toNat % 64 ≠ 0 ∨ v.getLsbD 8 = true) →
    (s.rd F.STITCH_LEN.PENDING = 0 → s.laceFault (v.toNat % 64) = none →
      ∃ t, exec (.stitchLaceCommit v) s = .next t ∧ t.rd F.STITCH_LACE_STATUS.PENDING = 1 ∧ s.regsKept t [F.STITCH_LACE_STATUS.PENDING] ∧
        t.lace = { s.lace with commit := some ⟨v.toNat % 64, v.getLsbD 8, s.clk.cycles⟩, swapDone := false }) ∧
    (∀ f, (s.rd F.STITCH_LEN.PENDING = 1 ∧ f = (5, 0, 0)) ∨ (s.rd F.STITCH_LEN.PENDING = 0 ∧ s.laceFault (v.toNat % 64) = some f) →
      ∃ t, exec (.stitchLaceCommit v) s = .next t ∧ t.rd F.STITCH_LACE_STATUS.PENDING = 0 ∧ t.rd F.STITCH_LACE_STATUS.VALID_FAIL = 1 ∧
        t.rd F.STITCH_LACE_STATUS.FAIL_CAUSE = f.1 % 8 ∧ t.rd F.STITCH_LACE_STATUS.FAIL_CLASS = f.2.1 % 8 ∧
        t.rd F.STITCH_LACE_STATUS.FAIL_INDEX = f.2.2 % 4096 ∧ t.lace = { s.lace with commit := none, swapDone := false })) ∧
  (∀ (s : State) (k : LaceCommit), s.lace.commit = some k →
    (s.swapDue = false → exec .laceSwap s = .next s) ∧
    (s.swapDue = true → s.laceFault k.classes = none →
      ∃ t, exec .laceSwap s = .next t ∧ t.lace.commit = none ∧ t.lace.swapDone = true ∧ t.rd F.STITCH_LACE_STATUS.PENDING = 0 ∧
        t.rd F.STITCH_LACE_SWAPS.COUNT = (s.rd F.STITCH_LACE_SWAPS.COUNT + 1) % 2 ^ 32 ∧
        s.regsKept t [F.STITCH_LACE_STATUS.PENDING, F.STITCH_LACE_SWAPS.COUNT] ∧
        (∀ c < 6, ∀ p, t.laceEntry c p = if k.classes.testBit c then s.laceShadow c p else s.laceEntry c p) ∧
        (∀ c < 6, ∀ p, t.laceShadow c p = if k.classes.testBit c then s.laceEntry c p else s.laceShadow c p) ∧
        t.lace.tgActive = (if k.tgmap then s.lace.tgShadow else s.lace.tgActive) ∧
        t.lace.tgShadow = (if k.tgmap then s.lace.tgActive else s.lace.tgShadow) ∧
        (∀ c < 6, ∀ u < 4096, k.classes.testBit c = true → (t.unit c u).sharePtr = 1023 ∧ (t.unit c u).freePtr = 1023) ∧
        (∀ c < 6, ∀ u < 4096, k.classes.testBit c = false → t.unit c u = s.unit c u)) ∧
    (∀ f, s.swapDue = true → s.laceFault k.classes = some f →
      ∃ t, exec .laceSwap s = .next t ∧ t.lace = { s.lace with commit := none } ∧ t.rd F.STITCH_LACE_STATUS.VALID_FAIL = 1 ∧
        t.rd F.STITCH_LACE_STATUS.PENDING = 0))

/-- R39, R40: the order of service and the rotations, on the groups that have pending work. How service units had in advance are
charged is the model's choice (log entry 145). -/
def Obligations.ServiceChoice : Prop :=
  (∀ (s : State) (c u : Nat) (bg : Bool), s.unitBusy c u = true → exec (.serviceUnitBoundary c u bg) s = .next s) ∧
  (∀ (s : State) (c u : Nat) (bg : Bool) (gs sh fr : List Nat) (e : W16) (x : UnitInst), u < unitsIn c → s.unitBusy c u = false →
    gs = s.pendingGroups c u → e = s.laceEntry c (s.periodTurnOf (instHalf c u)) → x = s.unit c u →
    sh = gs.filter (fun g => s.holdsEntry c g) → fr = gs.filter (fun g => !s.holdsEntry c g) →
    ∃ t y, exec (.serviceUnitBoundary c u bg) s = .next t ∧ t.unit c u = y ∧ (∀ d w, (d, w) ≠ (c, u) → d < 6 → w < 4096 → t.unit d w = s.unit d w) ∧
      { t with csr := s.csr, lace := s.lace } = s ∧ { t.lace with units := s.lace.units, owed := s.lace.owed } = s.lace ∧
      s.regsKept t [F.STITCH_TURN_STAT.OWNED.CNT c, F.STITCH_TURN_STAT.PASSED.CNT c, F.STITCH_TURN_STAT.FREE_SERVED.CNT c, F.STITCH_TURN_STAT.IDLE.CNT c] ∧
      (c = 1 → 42 ≤ x.starts ∨ (x.ports.1 = s.clk.cycles ∧ 3 ≤ x.ports.2) → y = { x with chosen := none } ∧ t.lace.owed = s.lace.owed) ∧
      ((c = 1 → x.starts < 42 ∧ (x.ports.1 = s.clk.cycles → x.ports.2 < 3)) →
        (laceKind e = 2 → s.maintDue c u = true → y.chosen = some .background) ∧
        ((laceKind e = 2 → s.maintDue c u = false) → ∃ ch : Choice,
          (∀ g, ch.group? = some g → s.owes c u g = 0 → y.chosen = some ch) ∧
          (∀ g, ch.group? = some g → s.owes c u g ≠ 0 → y.chosen = none ∧ t.owes c u g + 1 = s.owes c u g) ∧
          (ch.group? = none → y.chosen = some ch) ∧ (∀ g < 1024, ch.group? ≠ some g → t.owes c u g = s.owes c u g) ∧
          (laceKind e = 0 → laceGroup e ∈ gs → ch = .owner (laceGroup e) ∧ y.sharePtr = x.sharePtr ∧ y.freePtr = x.freePtr) ∧
          ((laceKind e = 0 → laceGroup e ∉ gs) →
            (∀ g, x.heldShare = some g → g ∈ sh → ch = .share g) ∧
            ((∀ g, x.heldShare = some g → g ∉ sh) → sh ≠ [] →
              ∃ g, ch = .share g ∧ y.sharePtr = g ∧ y.heldShare = some g ∧ g ∈ sh ∧
                ((x.sharePtr < g ∧ ∀ k ∈ sh, x.sharePtr < k → g ≤ k) ∨ ((∀ k ∈ sh, k ≤ x.sharePtr) ∧ ∀ k ∈ sh, g ≤ k))) ∧
            (sh = [] →
              (∀ g, x.heldFree = some g → g ∈ fr → ch = .free g) ∧
              ((∀ g, x.heldFree = some g → g ∉ fr) → fr ≠ [] →
                ∃ g, ch = .free g ∧ y.freePtr = g ∧ y.heldFree = some g ∧ g ∈ fr ∧
                  ((x.freePtr < g ∧ ∀ k ∈ fr, x.freePtr < k → g ≤ k) ∨ ((∀ k ∈ fr, k ≤ x.freePtr) ∧ ∀ k ∈ fr, g ≤ k))) ∧
              (fr = [] → ch = if bg then .background else .idle))) ∧
          (x.firstMade = false → t.rd (F.STITCH_TURN_STAT.OWNED.CNT c) = (if laceKind e = 0 ∧ laceGroup e ∈ gs then
            min (s.rd (F.STITCH_TURN_STAT.OWNED.CNT c) + 1) (2 ^ 32 - 1) else s.rd (F.STITCH_TURN_STAT.OWNED.CNT c))))))

/-- R21, R31, R42 to R44, R26: what holds of the stitch and the lacing in every good state is kept. -/
def Obligations.LacingInvariant : Prop :=
  ∀ s t : State, s.laceGood → (∀ c rest, s.pending = c :: rest → stitchCommand c = true) → step s = .next t → t.laceGood

/-- R34: the reset tables are good. -/
def Obligations.LacingInvariantAtReset : Prop := State.reset.laceGood

/-- R63, R66, R69 to R74, R76, R104. That a destination field out of range is judged before the epoch is the model's reading
(DEDUCED, log entry 9). -/
def Obligations.YarnDelivery : Prop :=
  (∀ (s : State) (m : Msg) (reply : Bool) (sp : Nat) (outside : Prop), epIsUnit m.dst = false → sp = spOf (epTid m.dst) →
    (outside ↔ s.chanExt (epChan m.dst) = false ∧ reply = false ∧ (epIsUnit m.src = true ∨ spOf (epTid m.src) ≠ sp)) →
    (epRangeOk m.dst = false → s.judge m reply = .refused 4) ∧
    (epRangeOk m.dst = true → epMule m.dst < 24 ∨ s.fencedB = false →
      (s.rd (epochF sp) ≠ m.epoch ∨ m.epoch = 0 → s.judge m reply = .stale (s.rd (epochF sp))) ∧
      (s.rd (epochF sp) = m.epoch → m.epoch ≠ 0 → outside → s.judge m reply = .refused 3) ∧
      (s.rd (epochF sp) = m.epoch → m.epoch ≠ 0 → ¬ outside →
        (2 ^ (s.chanCfg (epChan m.dst) % 16) < m.lenm1 + 2 → s.judge m reply = .refused 4) ∧
        (m.lenm1 + 2 ≤ 2 ^ (s.chanCfg (epChan m.dst) % 16) →
          s.judge m reply = if wordsUsed (s.queueAt m.dst) + m.lenm1 + 2 ≤ 2 ^ (s.chanCfg (epChan m.dst) % 16) then .ok else .full)))) ∧
  (∀ (s : State) (id : Nat) (f : Flight), s.yarn.flights.find? (fun x => x.msg.id == id && x.status.isNone) = some f → f.post = none →
    ∀ i, i = .messageArrival id ∨ i = .blockingSendRetry id →
    (s.scratchWaits f = true ∨ blockedBy s.yarn.flights f.msg = true ∨ s.crossHeld f.msg = true → exec i s = .next s) ∧
    (s.scratchWaits f = false → blockedBy s.yarn.flights f.msg = false → s.crossHeld f.msg = false →
      (f.op = .send ∨ f.op = .reserve →
        (s.judge f.msg f.reply = .ok →
          ∃ t, exec i s = .next t ∧ t.queueAt f.msg.dst = s.queueAt f.msg.dst ++ [f.msg] ∧
            (∀ e, e ≠ f.msg.dst → t.queueAt e = s.queueAt e) ∧ (∀ x, f.owner = some x → { f with status := some 0 } ∈ t.yarn.flights) ∧
            (∀ g ∈ t.yarn.flights, g.msg.id = id → g.status ≠ none) ∧ { t with yarn := s.yarn } = s) ∧
        (s.judge f.msg f.reply = .full → f.blocking = true → exec i s = .next s) ∧
        (s.judge f.msg f.reply = .full → f.blocking = false →
          ∃ t, exec i s = .next t ∧ t.yarn.queues = s.yarn.queues ∧ (∀ x, f.owner = some x → { f with status := some 1 } ∈ t.yarn.flights) ∧
            { t with yarn := s.yarn } = s) ∧
        (∀ e tid, s.judge f.msg f.reply = .stale e → epMule f.msg.dst < 48 → epIsUnit f.msg.src = false → tid = epTid f.msg.src →
          ∃ t, exec i s = .next t ∧ t.yarn.queues = s.yarn.queues ∧
            t.rd (F.MULE_STAT.STALE_DISCARD.CNT (epMule f.msg.dst)) = min (s.rd (F.MULE_STAT.STALE_DISCARD.CNT (epMule f.msg.dst)) + 1) (2 ^ 32 - 1) ∧
            s.regsKept t [F.MULE_STAT.STALE_DISCARD.CNT (epMule f.msg.dst)] ∧ (t.thr tid).events.getLsbD 4 = true ∧
            (t.thr tid).regs = (s.thr tid).regs ∧ ((s.thr tid).notice = none → (t.thr tid).notice = some ⟨0x0C, f.msg.dst, f.msg.tag, e, 1⟩) ∧
            (∀ x, f.owner = some x → { f with status := some 2 } ∈ t.yarn.flights) ∧ { t with yarn := s.yarn, mules := s.mules, csr := s.csr } = s) ∧
        (∀ c tid, s.judge f.msg f.reply = .refused c → epMule f.msg.src < 48 → epIsUnit f.msg.src = false → tid = epTid f.msg.src → c ≠ 0x0C →
          ∃ t, exec i s = .next t ∧ t.yarn.queues = s.yarn.queues ∧
            t.rd (F.MULE_STAT.REFUSED.CNT (epMule f.msg.src)) = min (s.rd (F.MULE_STAT.REFUSED.CNT (epMule f.msg.src)) + 1) (2 ^ 32 - 1) ∧
            s.regsKept t [F.MULE_STAT.REFUSED.CNT (epMule f.msg.src)] ∧ (t.thr tid).events.getLsbD 5 = true ∧
            ((s.thr tid).notice = none → (t.thr tid).notice = some ⟨c, f.msg.dst, f.msg.tag, 0, 1⟩) ∧
            (∀ n, (s.thr tid).notice = some n → (t.thr tid).notice = some { n with count := min (n.count + 1) 255 }) ∧
            (∀ x, f.owner = some x → { f with status := some 3 } ∈ t.yarn.flights))) ∧
      (∀ m, f.op = .commit → (s.queueAt f.msg.dst).find? (fun x => x.id == id) = some m →
        epIsUnit f.msg.dst = true ∨ s.rd (epochF (spOf (epTid f.msg.dst))) = m.epoch →
        ∃ t, exec i s = .next t ∧ { t with yarn := s.yarn } = s ∧ (∀ e, e ≠ f.msg.dst → t.queueAt e = s.queueAt e) ∧
          t.queueAt f.msg.dst = (s.queueAt f.msg.dst).map (fun x =>
            if x.id = id then { x with words := f.msg.words, committed := true, kind := .bulk } else x) ∧
          ∀ x, f.owner = some x → { f with status := some 0 } ∈ t.yarn.flights))) ∧
  (∀ (s : State) (id : Nat), (∀ f ∈ s.yarn.flights, f.msg.id = id → f.status ≠ none) →
    exec (.messageArrival id) s = .next s ∧ exec (.blockingSendRetry id) s = .next s) ∧
  (∀ (s : State) (id st tid : Nat) (f : Flight), s.yarn.flights.find? (fun x => x.msg.id == id && x.status.isSome) = some f →
    f.status = some st → f.owner = some tid → tid < 6144 →
    (f.op ≠ .reserve → (s.thr tid).gen = f.gen →
      ∃ t x, exec (.yarnStatusReturn id) s = .next t ∧ x = ((s.thr tid).setG f.rd (BitVec.ofNat 64 st)).usable f.rd ∧
        t.yarn.queues = s.yarn.queues ∧ (∀ g ∈ t.yarn.flights, g.msg.id = id → g.op ≠ f.op) ∧ (∀ u, u ≠ tid → t.thr u = s.thr u) ∧
        ((s.thr tid).ywait ≠ some id → t.thr tid = x ∧ t.ts tid = s.ts tid ∧ { t with yarn := s.yarn, mules := s.mules } = s) ∧
        ((s.thr tid).ywait = some id →
          t.thr tid = { x with ywait := none, haltFrom := if s.ts tid = tsHalt ∧ x.haltFrom = tsYwait then tsRun else x.haltFrom } ∧
          t.ts tid = (if s.ts tid = tsYwait then tsRun else s.ts tid) ∧
          (s.ts tid = tsHalt → AMap.get? s.flt.stopped tid = some tsYwait → AMap.get? t.flt.stopped tid = some tsRun))) ∧
    (f.op ≠ .reserve → (s.thr tid).gen ≠ f.gen →
      ∃ t, exec (.yarnStatusReturn id) s = .next t ∧ { t with yarn := s.yarn } = s ∧ t.yarn.queues = s.yarn.queues ∧
        ∀ g ∈ t.yarn.flights, g.msg.id = id → g.op ≠ f.op) ∧
    (f.op = .reserve → (s.thr tid).gen = f.gen → (s.thr tid).resv = .asked id →
      ∃ t, exec (.yarnStatusReturn id) s = .next t ∧ (t.thr tid).g f.rd = (if f.rd = 0 then 0 else BitVec.ofNat 64 st) ∧
        (t.thr tid).pend = (s.thr tid).pend.erase f.rd ∧ t.yarn.queues = s.yarn.queues ∧
        (t.thr tid).resv = (if st = 0 then .opened id f.msg.dst s.clk.cycles else .none)) ∧
    (f.op = .reserve → (s.thr tid).resv = .stopped id →
      ∃ t, exec (.yarnStatusReturn id) s = .next t ∧ (t.thr tid).resv = if st = 0 then .poisoned else .none)) ∧
  (∀ (s : State) (id : Nat), (∀ f ∈ s.yarn.flights, f.msg.id = id → f.status = none) → exec (.yarnStatusReturn id) s = .next s) ∧
  (∀ (s : State) (tid m : Nat), tid < 6144 → m = tid / 128 →
    ((∀ id dst since, (s.thr tid).resv ≠ .opened id dst since) → exec (.reservationExpiry tid) s = .next s) ∧
    (∀ id dst since, (s.thr tid).resv = .opened id dst since →
      (s.clk.cycles < since + 64 * max 1 (s.rd (F.MULE_YARN_CFG.YRES_LIMIT m)) → exec (.reservationExpiry tid) s = .next s) ∧
      (∀ x, since + 64 * max 1 (s.rd (F.MULE_YARN_CFG.YRES_LIMIT m)) ≤ s.clk.cycles →
        (s.queueAt dst).find? (fun q => q.id == id) = some x → epIsUnit dst = true ∨ s.rd (epochF (spOf (epTid dst))) = x.epoch →
        ∃ t, exec (.reservationExpiry tid) s = .next t ∧ (t.thr tid).resv = .poisoned ∧
          t.queueAt dst = (s.queueAt dst).map (fun q => if q.id = id then { q with committed := true, kind := .poisoned } else q) ∧
          (∀ e, e ≠ dst → t.queueAt e = s.queueAt e) ∧
          t.rd (F.MULE_STAT.POISONED.CNT m) = min (s.rd (F.MULE_STAT.POISONED.CNT m) + 1) (2 ^ 32 - 1) ∧
          t.rd (F.MULE_STAT.YRES_EXPIRED.CNT m) = min (s.rd (F.MULE_STAT.YRES_EXPIRED.CNT m) + 1) (2 ^ 32 - 1) ∧
          s.regsKept t [F.MULE_STAT.POISONED.CNT m, F.MULE_STAT.YRES_EXPIRED.CNT m] ∧ { t.thr tid with resv := (s.thr tid).resv } = s.thr tid)))

/-- R74, R79 to R81, R83, R114. -/
def Obligations.DeadlockHaltAndResume : Prop :=
  (∀ (s : State) (sp c m : Nat), sp < 768 → m = sp / 16 → (s.spindle sp).allWaitAt = some c →
    (s.allWait sp = true → ∀ k < 8, s.ts (8 * sp + k) = tsWait ∨ s.ts (8 * sp + k) = tsYwait ∨ s.ts (8 * sp + k) = tsFault) ∧
    (s.allWait sp = true → (s.spindle sp).windowAt = none → c + 2 * s.stitchLen ≤ s.clk.cycles →
      ∃ t, exec (.deadlock sp) s = .next t ∧ t.rd (raisedF sp) = 1 ∧ (t.thr (8 * sp)).events = (s.thr (8 * sp)).events ||| 256#32 ∧
        t.rd (F.MULE_STAT.DEADLOCKS.CNT m) = min (s.rd (F.MULE_STAT.DEADLOCKS.CNT m) + 1) (2 ^ 32 - 1) ∧
        (t.spindle sp).windowAt = some s.clk.cycles ∧ s.regsKept t [raisedF sp, F.MULE_STAT.DEADLOCKS.CNT m] ∧
        (∀ u, u ≠ 8 * sp → t.thr u = s.thr u) ∧ { t with csr := s.csr, mules := s.mules } = s) ∧
    (s.allWait sp = false ∨ (s.spindle sp).windowAt ≠ none ∨ s.clk.cycles < c + 2 * s.stitchLen → exec (.deadlock sp) s = .next s)) ∧
  (∀ (s : State) (sp c m : Nat), sp < 768 → m = sp / 16 → (s.spindle sp).windowAt = some c →
    (s.clk.cycles < c + 2 * s.stitchLen ∨ (∃ k, 1 ≤ k ∧ k < 8 ∧ isStuck (s.ts (8 * sp + k)) = false) → exec (.escalationWindowEnd sp) s = .next s) ∧
    (c + 2 * s.stitchLen ≤ s.clk.cycles → (∀ k, 1 ≤ k → k < 8 → isStuck (s.ts (8 * sp + k)) = true) → (s.fifo cobblerEvq).entries.length < 1024 →
      ∃ t, exec (.escalationWindowEnd sp) s = .next t ∧ t.rd (raisedF sp) = 0 ∧ t.rd (escalatedF sp) = 1 ∧ t.rd (F.MULE_EVENT.DL_ESC m) = 1 ∧
        t.rd (F.MULE_STAT.DL_ESCALATIONS.CNT m) = min (s.rd (F.MULE_STAT.DL_ESCALATIONS.CNT m) + 1) (2 ^ 32 - 1) ∧
        (t.spindle sp).windowAt = none ∧ t.mules.threads = s.mules.threads ∧
        (t.fifo cobblerEvq).entries = (s.fifo cobblerEvq).entries ++ [2 ^ 59 + m * 2 ^ 42 + sp % 16 * 2 ^ 38])) ∧
  (∀ (s : State) (sp k tid : Nat), sp < 768 → k < 8 → tid = 8 * sp + k →
    (s.ts tid ≠ tsFault → exec (.thrCtrlResume sp (2 ^ k)) s = .next s) ∧
    (s.ts tid = tsFault → s.bounded tid = true →
      ∃ t, exec (.thrCtrlResume sp (2 ^ k)) s = .next t ∧ t.rd (faultF tid 0) = 0 ∧ t.rd (faultF tid 3) = 0 ∧ t.mules.threads = s.mules.threads ∧
        (∀ i, s.activeImage sp = some i → t.ts tid = if i.bounded = [] then tsOff else tsIdle) ∧ (∀ u < 6144, u ≠ tid → t.ts u = s.ts u)) ∧
    (∀ pc, s.ts tid = tsFault → s.bounded tid = false → s.longEntry tid = some pc → (s.thr tid).holdsResv = false →
      (s.thr tid).restartDue = false →
      ∃ t, exec (.thrCtrlResume sp (2 ^ k)) s = .next t ∧ t.ts tid = tsRun ∧ (t.thr tid).pc = pc ∧ (t.thr tid).g 1 = 3 ∧ (t.thr tid).loops = [] ∧
        (t.thr tid).bank = s.activeBank sp ∧ t.rd (faultF tid 0) = 0 ∧ (∀ r, r ≠ 1 → r ≠ 2 → (t.thr tid).g r = (s.thr tid).g r) ∧
        (∀ u, u ≠ tid → t.thr u = s.thr u) ∧ t.lmem = s.lmem)) ∧
  (∀ (s u : State) (sp k mask : Nat) (c : Nat → Instr), sp < 768 → k < 8 → mask < 2 ^ k → (c = (fun m => Instr.thrCtrlResume sp m) ∨
      (s.cob.debugOpen = true ∧ u.cob.debugOpen = true ∧ ((∃ h, c = fun m => Instr.dbgHalt sp m h) ∨ c = (fun m => Instr.dbgStep sp m) ∨ c = fun m => Instr.dbgResume sp m))) →
    (c 0 = Instr.thrCtrlResume sp 0 ∨ s.cob.debugOpen = true → exec (c 0) s = .next s) ∧
    (exec (c mask) s = .next u → exec (c (2 ^ k + mask)) s = exec (c (2 ^ k)) u)) ∧
  (∀ (s : State) (sp mask : Nat) (h : Bool), sp < 768 → s.cob.debugOpen = false →
    ∀ c ∈ [Instr.dbgHalt sp mask h, .dbgStep sp mask, .dbgResume sp mask],
      ∃ t, exec c s = .next t ∧ s.csrRecorded t 4 (0x200000 + 0x10000 * (sp / 16) + 0x4000 + 4 * (sp % 16)) true ∧ { t with csr := s.csr } = s) ∧
  (∀ (s : State) (sp k tid : Nat) (h : Bool), sp < 768 → k < 8 → tid = 8 * sp + k → s.cob.debugOpen = true →
    (s.ts tid = tsOff ∨ s.ts tid = tsHalt → exec (.dbgHalt sp (2 ^ k) h) s = .next s) ∧
    (s.ts tid ≠ tsOff → s.ts tid ≠ tsHalt →
      ∃ t, exec (.dbgHalt sp (2 ^ k) h) s = .next t ∧ t.thr tid = { s.thr tid with haltReq := some (h, s.clk.cycles) } ∧
        (∀ u, u ≠ tid → t.thr u = s.thr u) ∧ { t with mules := s.mules } = s) ∧
    (s.ts tid ≠ tsHalt → exec (.dbgStep sp (2 ^ k)) s = .next s ∧ exec (.dbgResume sp (2 ^ k)) s = .next s) ∧
    (s.ts tid = tsHalt →
      (∃ t, exec (.dbgStep sp (2 ^ k)) s = .next t ∧ t.thr tid = { s.thr tid with stepDue := true } ∧
        (∀ u, u ≠ tid → t.thr u = s.thr u) ∧ { t with mules := s.mules } = s) ∧
      ((s.thr tid).restartDue = false → (s.thr tid).haltFrom < 8 →
        ∃ t, exec (.dbgResume sp (2 ^ k)) s = .next t ∧ t.ts tid = (s.thr tid).haltFrom ∧ t.thr tid = { s.thr tid with stepDue := false } ∧
          (∀ u, u ≠ tid → t.thr u = s.thr u) ∧ { t with csr := s.csr, mules := s.mules } = s) ∧
      (∀ pc, (s.thr tid).restartDue = true → s.longEntry tid = some pc → (s.thr tid).holdsResv = false →
        ∃ t, exec (.dbgResume sp (2 ^ k)) s = .next t ∧ t.ts tid = tsRun ∧ (t.thr tid).pc = pc ∧ (t.thr tid).g 1 = 2))) ∧
  (∀ (s : State) (tid : Nat), tid < 6144 →
    ((s.thr tid).haltReq = none → exec (.softHaltEffect tid) s = .next s) ∧
    (∀ h c, (s.thr tid).haltReq = some (h, c) →
      ((s.thr tid).holdsResv = false →
        ∃ t, exec (.softHaltEffect tid) s = .next t ∧ t.ts tid = tsHalt ∧ t.rd (haltedF tid) = 1 ∧
          t.thr tid = { s.thr tid with haltReq := none, haltFrom := s.ts tid
                                       resv := match h, (s.thr tid).resv with | true, .asked id => .stopped id | _, r => r } ∧ s.regsKept t [thrStateF tid, haltedF tid] ∧
          (∀ u, u ≠ tid → t.thr u = s.thr u) ∧ t.yarn = s.yarn) ∧
      (h = false → (s.thr tid).holdsResv = true → s.clk.cycles < c + 64 → exec (.softHaltEffect tid) s = .next s) ∧
      (∀ id dst b, (s.thr tid).resv = .opened id dst b → h = true ∨ c + 64 ≤ s.clk.cycles →
        ∃ t, exec (.softHaltEffect tid) s = .next t ∧ t.ts tid = tsHalt ∧ (t.thr tid).resv = .poisoned ∧ (t.thr tid).haltFrom = s.ts tid ∧
          t.rd (F.MULE_STAT.POISONED.CNT (tid / 128)) = min (s.rd (F.MULE_STAT.POISONED.CNT (tid / 128)) + 1) (2 ^ 32 - 1) ∧
          (h = false → t.rd (F.MULE_DBG_HALT.FORCED (tid / 128) (tid / 8 % 16)) = 1))))

/-- R57 to R59, R63, R64, R70, R84, R114, R123, R124. -/
def Obligations.SwapsRolesAndLoads : Prop :=
  (∀ (s : State) (m spn : Nat), m < 48 → spn < 65536 →
    (s.rd (F.MULE_SWAP.REQ m) = 1 → exec (.muleSwapRequest m spn) s = .next s) ∧
    (s.rd (F.MULE_SWAP.REQ m) = 0 → s.rd (F.MULE_LOAD_CTRL.BUSY m) = 1 →
      ∃ t, exec (.muleSwapRequest m spn) s = .next t ∧ t.rd (F.MULE_SWAP.SPN m) = spn ∧ t.rd (F.MULE_SWAP.REQ m) = 0 ∧
        t.rd (F.MULE_EVENT.SWAP_REJECT m) = 1 ∧ s.onlyRegs t [F.MULE_SWAP.SPN m, F.MULE_EVENT.SWAP_REJECT m]) ∧
    (s.rd (F.MULE_SWAP.REQ m) = 0 → s.rd (F.MULE_LOAD_CTRL.BUSY m) = 0 →
      ∃ t, exec (.muleSwapRequest m spn) s = .next t ∧ t.rd (F.MULE_SWAP.SPN m) = spn ∧ t.rd (F.MULE_SWAP.REQ m) = 1 ∧
        AMap.get? t.mules.swapAt m = some s.clk.cycles ∧ s.regsKept t [F.MULE_SWAP.SPN m, F.MULE_SWAP.REQ m] ∧ { t with csr := s.csr, mules := s.mules } = s)) ∧
  (∀ (s : State) (m c : Nat), m < 48 → AMap.get? s.mules.swapAt m = some c →
    (s.atBoundary = false ∨ s.clk.cycles < c + 2048 → exec (.muleSwapApply m) s = .next s) ∧
    ((∃ k < 16, (s.rd (F.MULE_SWAP.SPN m)).testBit k = true ∧ s.swapPending (16 * m + k) = true) → exec (.muleSwapApply m) s = .next s) ∧
    (s.atBoundary = true → c + 2048 ≤ s.clk.cycles → s.flt.swaps = [] →
      (∀ k < 16, (s.rd (F.MULE_SWAP.SPN m)).testBit k = true → s.rd (standbyF (16 * m + k)) = 0 →
        ∃ t, exec (.muleSwapApply m) s = .next t ∧ t.rd (F.MULE_SWAP.REQ m) = 0 ∧ t.rd (F.MULE_EVENT.SWAP_REJECT m) = 1 ∧
          AMap.get? t.mules.swapAt m = none ∧ s.regsKept t [F.MULE_SWAP.REQ m, F.MULE_EVENT.SWAP_REJECT m] ∧ t.mules.threads = s.mules.threads) ∧
      ((∀ k < 16, (s.rd (F.MULE_SWAP.SPN m)).testBit k = true → s.rd (standbyF (16 * m + k)) = 1) →
        ∃ t, exec (.muleSwapApply m) s = .next t ∧ t.rd (F.MULE_SWAP.REQ m) = 0 ∧ t.rd (F.MULE_EVENT.SWAP_DONE m) = 1 ∧
          t.mules.spindles = s.mules.spindles ∧
          (∀ k < 16, (s.rd (F.MULE_SWAP.SPN m)).testBit k = false → t.activeBank (16 * m + k) = s.activeBank (16 * m + k) ∧
            t.rd (standbyF (16 * m + k)) = s.rd (standbyF (16 * m + k))) ∧
          (∀ k < 16, (s.rd (F.MULE_SWAP.SPN m)).testBit k = true → t.activeBank (16 * m + k) = 1 - s.activeBank (16 * m + k) ∧
            t.rd (standbyF (16 * m + k)) = 0 ∧
            ∀ j < 8, ∀ tid, tid = 8 * (16 * m + k) + j → s.role (16 * m + k) ≠ roleSpare →
              (s.bounded tid = true → t.thr tid = s.thr tid ∧ (s.ts tid ≠ tsOff → s.ts tid ≠ tsIdle → t.ts tid = s.ts tid)) ∧
              (s.bounded tid = false → s.ts tid = tsFault ∨ s.ts tid = tsHalt → t.thr tid = { s.thr tid with restartDue := true }) ∧
              (s.bounded tid = false → s.ts tid ≠ tsFault → s.ts tid ≠ tsHalt → (s.thr tid).holdsResv = true →
                t.thr tid = { s.thr tid with restartReq := some (s.clk.cycles, 2) }) ∧
              (∀ pc, s.bounded tid = false → s.ts tid ≠ tsFault → s.ts tid ≠ tsHalt → (s.thr tid).holdsResv = false → t.longEntry tid = some pc →
                t.ts tid = tsRun ∧ (t.thr tid).pc = pc ∧ (t.thr tid).bank = 1 - s.activeBank (16 * m + k) ∧ (t.thr tid).g 1 = 2))))) ∧
  (∀ (s : State) (tid c r : Nat), tid < 6144 → (s.thr tid).restartReq = some (c, r) →
    ((s.thr tid).holdsResv = true → s.clk.cycles < c + 64 → exec (.longWorkRestart tid) s = .next s) ∧
    ((s.thr tid).holdsResv = false →
      (s.ts tid = tsFault ∨ s.ts tid = tsHalt → ∃ t, exec (.longWorkRestart tid) s = .next t ∧
        t.thr tid = { s.thr tid with restartReq := none, restartDue := true } ∧ s.onlyMules t ∧ ∀ u, u ≠ tid → t.thr u = s.thr u) ∧
      (∀ pc, s.ts tid ≠ tsFault → s.ts tid ≠ tsHalt → s.longEntry tid = some pc →
        ∃ t, exec (.longWorkRestart tid) s = .next t ∧ t.ts tid = tsRun ∧ (t.thr tid).pc = pc ∧ (t.thr tid).g 1 = BitVec.ofNat 64 r ∧
          (t.thr tid).bank = s.activeBank (tid / 8) ∧ (t.thr tid).restartReq = none ∧ (t.thr tid).staging = (s.thr tid).staging ∧ t.lmem = s.lmem ∧
          (∀ g, g ≠ 1 → g ≠ 2 → (t.thr tid).g g = (s.thr tid).g g) ∧ ∀ u, u ≠ tid → t.thr u = s.thr u))) ∧
  (∀ (s : State) (tid : Nat), (s.thr tid).restartReq = none → exec (.longWorkRestart tid) s = .next s) ∧
  (∀ (s : State) (sp : Nat), sp < 768 →
    (s.rd (drainingF sp) = 1 → (∀ k < 8, s.fetchesFrom (8 * sp + k) (1 - s.activeBank sp) = false) →
      ∃ t, exec (.bankDrainEnd sp) s = .next t ∧ t.rd (drainingF sp) = 0 ∧ s.onlyRegs t [drainingF sp]) ∧
    (s.rd (drainingF sp) = 0 ∨ (∃ k < 8, s.fetchesFrom (8 * sp + k) (1 - s.activeBank sp) = true) → exec (.bankDrainEnd sp) s = .next s)) ∧
  (∀ (s : State) (sp role m k : Nat) (sw : Bool), sp < 768 → m = sp / 16 → k = sp % 16 →
    (s.rd (F.MULE_ROLE.REQ m k) = 1 ∨ 5 ≤ role → exec (.roleChangeRequest sp role sw) s = .next s) ∧
    (s.rd (F.MULE_ROLE.REQ m k) = 0 → role < 5 →
      ∃ t, exec (.roleChangeRequest sp role sw) s = .next t ∧ t.rd (F.MULE_ROLE.REQ m k) = 1 ∧ t.rd (F.MULE_ROLE.NEW_ROLE m k) = role ∧
        t.rd (F.MULE_ROLE.SWAP m k) = (if sw then 1 else 0) ∧ (t.spindle sp).roleAt = some (s.rd F.STITCH_COUNT.COUNT) ∧
        s.regsKept t [F.MULE_ROLE.REQ m k, F.MULE_ROLE.NEW_ROLE m k, F.MULE_ROLE.SWAP m k] ∧ t.mules.threads = s.mules.threads ∧
        { t with csr := s.csr, mules := s.mules } = s)) ∧
  (∀ (s : State) (sp n tid j : Nat), sp < 768 → (s.spindle sp).roleAt = some n → 1 ≤ j → j < 8 → tid = 8 * sp + j →
    (s.rd F.STITCH_COUNT.COUNT < n + 3 ∨ (∀ i, 1 ≤ i → i < 8 → s.quiescent sp (8 * sp + i) = true) → exec (.roleForced sp) s = .next s) ∧
    (n + 3 ≤ s.rd F.STITCH_COUNT.COUNT → s.swapPending sp = false → s.quiescent sp tid = false → (∀ i, 1 ≤ i → i < 8 → i ≠ j → s.quiescent sp (8 * sp + i) = true) →
      (s.thr tid).work = none → (s.thr tid).holdsResv = false →
      ∃ t, exec (.roleForced sp) s = .next t ∧ t.ts tid = tsHalt ∧ t.rd (F.MULE_EVENT.ROLE_FORCED (sp / 16)) = 1 ∧
        (t.spindle sp).roleStopped = (s.spindle sp).roleStopped ++ [tid] ∧ (t.spindle sp).roleForced = some (s.rd F.STITCH_COUNT.COUNT) ∧
        (∀ u, u ≠ tid → t.thr u = s.thr u) ∧ (∀ u < 6144, u ≠ tid → t.ts u = s.ts u))) ∧
  (∀ (s : State) (sp n : Nat), sp < 768 → (s.spindle sp).roleBack = some n →
    (s.atBoundary = false ∨ s.rd F.STITCH_COUNT.COUNT ≤ n → exec (.roleChangeApply sp) s = .next s) ∧
    (s.atBoundary = true → n < s.rd F.STITCH_COUNT.COUNT → (∀ u ∈ (s.spindle sp).roleStopped, u < 6144) →
      ∃ t, exec (.roleChangeApply sp) s = .next t ∧ (t.spindle sp).roleBack = none ∧ (t.spindle sp).roleStopped = [] ∧
        (∀ u ∈ (s.spindle sp).roleStopped, s.bounded u = true → t.ts u = s.restState u) ∧
        ((s.spindle sp).roleStopped = [] → { t with mules := s.mules } = s ∧ t.mules.threads = s.mules.threads))) ∧
  (∀ (s : State) (sp n m k : Nat), sp < 768 → m = sp / 16 → k = sp % 16 → (s.spindle sp).roleBack = none → (s.spindle sp).roleAt = some n →
    (s.atBoundary = false ∨ s.rd F.STITCH_COUNT.COUNT < n + 2 ∨ (∃ j, 1 ≤ j ∧ j < 8 ∧ s.quiescent sp (8 * sp + j) = false) ∨ s.swapPending sp = true ∨
        (∃ f, (s.spindle sp).roleForced = some f ∧ s.rd F.STITCH_COUNT.COUNT ≤ f) →
      exec (.roleChangeApply sp) s = .next s) ∧
    (s.atBoundary = true → n + 2 ≤ s.rd F.STITCH_COUNT.COUNT → (∀ j, 1 ≤ j → j < 8 → s.quiescent sp (8 * sp + j) = true) → s.swapPending sp = false →
      (∀ f, (s.spindle sp).roleForced = some f → f < s.rd F.STITCH_COUNT.COUNT) →
      ((∃ c < 32, s.ychSize sp c < 4 ∨ 10 < s.ychSize sp c) ∨ (s.rd (F.MULE_ROLE.SWAP m k) = 1 ∧ s.rd (standbyF sp) = 0) ∨
        2048 < ((List.range 32).map (fun c => 2 ^ s.ychSize sp c)).sum ∨
        (s.rd (F.MULE_ROLE.NEW_ROLE m k) = 4 ∧ s.role sp = 3 ∧ ∀ j < 16, j ≠ k → s.role (16 * m + j) = 4) →
        ∃ t, exec (.roleChangeApply sp) s = .next t ∧ t.rd (F.MULE_ROLE.REQ m k) = 0 ∧ t.rd (F.MULE_EVENT.ROLE_REJECT m) = 1 ∧
          (t.spindle sp).roleAt = none ∧ (t.spindle sp).roleBack = some (s.rd F.STITCH_COUNT.COUNT) ∧
          (t.spindle sp).roleStopped = (s.spindle sp).roleStopped ∧ s.regsKept t [F.MULE_ROLE.REQ m k, F.MULE_EVENT.ROLE_REJECT m] ∧ t.mules.threads = s.mules.threads ∧
          t.yarn = s.yarn) ∧
      (s.roleRefused sp = false → (∀ j < 8, (s.thr (8 * sp + j)).resv = .none) →
        ∃ t, exec (.roleChangeApply sp) s = .next t ∧ t.rd (F.MULE_ROLE.REQ m k) = 0 ∧ t.rd (F.MULE_EVENT.ROLE_DONE m) = 1 ∧
          t.rd (epochF sp) = (if s.rd (epochF sp) = 255 then 1 else s.rd (epochF sp) + 1) ∧ t.role sp = s.rd (F.MULE_ROLE.NEW_ROLE m k) ∧
          t.activeBank sp = (if s.rd (F.MULE_ROLE.SWAP m k) = 1 then 1 - s.activeBank sp else s.activeBank sp) ∧
          (∀ c < 32, t.chanCfg (32 * sp + c) = s.ychSize sp c + (if s.ychExt sp c then 16 else 0)) ∧
          (∀ j < 8, ∀ c < 4, ∀ x ∈ t.queueAt (epThread (8 * sp + j) c), x.committed = false) ∧
          (t.role sp = roleSpare → ∀ j < 8, t.ts (8 * sp + j) = tsOff) ∧
          (∀ j < 8, ∀ tid, tid = 8 * sp + j → t.role sp ≠ roleSpare → t.rd (faultF tid 0) = 0 ∧
            (t.bounded tid = true → t.ts tid = t.restState tid) ∧
            (∀ pc, t.bounded tid = false → t.longEntry tid = some pc → t.ts tid = tsRun ∧ (t.thr tid).pc = pc ∧ (t.thr tid).g 1 = 1))))) ∧
  (∀ (s : State) (m spn : Nat), m < 48 → spn < 65536 →
    (s.rd (F.MULE_LOAD_CTRL.BUSY m) = 1 → exec (.muleLoadStart m spn) s = .next s) ∧
    (s.rd (F.MULE_LOAD_CTRL.BUSY m) = 0 →
      (∀ k < 16, spn.testBit k = true → s.rd (drainingF (16 * m + k)) = 1 →
        ∃ t, exec (.muleLoadStart m spn) s = .next t ∧ t.rd (F.MULE_LOAD_STATUS.STATUS m) = 3 ∧ t.rd (F.MULE_LOAD_STATUS.CAUSE m) = 0x40 ∧
          t.rd (F.MULE_EVENT.LOAD_REJECT m) = 1 ∧ t.rd (F.MULE_LOAD_CTRL.BUSY m) = 0 ∧ { t with csr := s.csr } = s) ∧
      ((∀ k < 16, spn.testBit k = true → s.rd (drainingF (16 * m + k)) = 0) →
        ∃ t, exec (.muleLoadStart m spn) s = .next t ∧ t.rd (F.MULE_LOAD_CTRL.BUSY m) = 1 ∧ t.rd (F.MULE_LOAD_CTRL.SPN m) = spn ∧
          AMap.get? t.mules.loadAt m = some (65536 * s.clk.cycles + spn) ∧ { t with csr := s.csr, mules := s.mules } = s))) ∧
  (∀ (s u : State) (m v : Nat) (bs : Bytes) (st c : Nat), m < 48 → AMap.get? s.mules.loadAt m = some v →
    u = (({ s with mules := { s.mules with loadAt := AMap.del s.mules.loadAt m } }.wr (F.MULE_LOAD_CTRL.START m) 0).wr (F.MULE_LOAD_CTRL.BUSY m) 0) →
    u.loadRead (u.rd (F.MULE_LOAD_ADDR.ADDR m) * 4096) = (st, c, bs) →
    (st ≠ 0 → st < 256 → c < 256 →
      ∃ t, exec (.imageLoadDone m) s = .next t ∧ t.rd (F.MULE_LOAD_STATUS.STATUS m) = st ∧ t.rd (F.MULE_LOAD_STATUS.CAUSE m) = c ∧
        t.rd (F.MULE_EVENT.LOAD_REJECT m) = 1 ∧ t.rd (F.MULE_LOAD_CTRL.BUSY m) = 0 ∧ t.mules.spindles = s.mules.spindles) ∧
    (∀ e, st = 0 → checkImage bs (s.stitchLen / 8 - 16) = .refused e → e ≠ 0 → e < 256 →
      ∃ t, exec (.imageLoadDone m) s = .next t ∧ t.rd (F.MULE_LOAD_STATUS.STATUS m) = loadStatus e ∧ t.rd (F.MULE_LOAD_STATUS.CAUSE m) = e ∧
        t.rd (F.MULE_EVENT.LOAD_REJECT m) = 1 ∧ t.rd (F.MULE_LOAD_CTRL.BUSY m) = 0 ∧ t.mules.spindles = s.mules.spindles) ∧
    (∀ img, st = 0 → checkImage bs (s.stitchLen / 8 - 16) = .accepted img →
      ∃ t, exec (.imageLoadDone m) s = .next t ∧ t.rd (F.MULE_LOAD_STATUS.STATUS m) = 0 ∧ t.rd (F.MULE_EVENT.LOAD_DONE m) = 1 ∧
        t.rd (F.MULE_LOAD_CTRL.BUSY m) = 0 ∧
        (∀ k < 16, v.testBit k = true → t.rd (standbyF (16 * m + k)) = 1 ∧ t.activeBank (16 * m + k) = s.activeBank (16 * m + k) ∧
          (t.spindle (16 * m + k)).image (1 - s.activeBank (16 * m + k)) = some img ∧
          (t.spindle (16 * m + k)).image (s.activeBank (16 * m + k)) = (s.spindle (16 * m + k)).image (s.activeBank (16 * m + k))) ∧
        ∀ sp, (∀ k < 16, v.testBit k = true → sp ≠ 16 * m + k) → t.spindle sp = s.spindle sp)) ∧
  (∀ (s : State) (m : Nat), (AMap.get? s.mules.swapAt m = none → exec (.muleSwapApply m) s = .next s) ∧
    (AMap.get? s.mules.loadAt m = none → exec (.imageLoadDone m) s = .next s))

/-- R92, Table 3.5: the two-operand functions of opcode 0x00. Each completes in every state in which the thread may issue it,
with the value of the table in rd. A write of g0 is discarded by `State.wrote` (R53, statement RegisterWriteFrame). -/
def Obligations.AluResults : Prop :=
  ∀ (s : State) (tid : Nat) (rd ra rb : Reg) (a b d : W64) (n : Nat),
    a = s.reg tid ra → b = s.reg tid rb → d = s.reg tid rd → n = b.toNat % 64 →
    (s.MayIssue tid (.alu .add rd ra rb) → exec (.add tid rd ra rb) s = .next (s.wrote tid rd (a + b))) ∧
    (s.MayIssue tid (.alu .sub rd ra rb) → exec (.sub tid rd ra rb) s = .next (s.wrote tid rd (a - b))) ∧
    (s.MayIssue tid (.alu .and rd ra rb) → exec (.and tid rd ra rb) s = .next (s.wrote tid rd (a &&& b))) ∧
    (s.MayIssue tid (.alu .or rd ra rb) → exec (.or tid rd ra rb) s = .next (s.wrote tid rd (a ||| b))) ∧
    (s.MayIssue tid (.alu .xor rd ra rb) → exec (.xor tid rd ra rb) s = .next (s.wrote tid rd (a ^^^ b))) ∧
    (s.MayIssue tid (.alu .andn rd ra rb) → exec (.andn tid rd ra rb) s = .next (s.wrote tid rd (a &&& ~~~b))) ∧
    (s.MayIssue tid (.alu .shl rd ra rb) →
      exec (.shl tid rd ra rb) s = .next (s.wrote tid rd (BitVec.ofNat 64 (a.toNat * 2 ^ n)))) ∧
    (s.MayIssue tid (.alu .shr rd ra rb) →
      exec (.shr tid rd ra rb) s = .next (s.wrote tid rd (BitVec.ofNat 64 (a.toNat / 2 ^ n)))) ∧
    (s.MayIssue tid (.alu .sar rd ra rb) →
      exec (.sar tid rd ra rb) s = .next (s.wrote tid rd (BitVec.ofInt 64 (a.toInt / 2 ^ n)))) ∧
    (s.MayIssue tid (.alu .rol rd ra rb) →
      exec (.rol tid rd ra rb) s = .next (s.wrote tid rd ((a <<< n) ||| (a >>> (64 - n))))) ∧
    (s.MayIssue tid (.alu .slt rd ra rb) →
      exec (.slt tid rd ra rb) s = .next (s.wrote tid rd (if a.toInt < b.toInt then 1 else 0))) ∧
    (s.MayIssue tid (.alu .sltu rd ra rb) →
      exec (.sltu tid rd ra rb) s = .next (s.wrote tid rd (if a.toNat < b.toNat then 1 else 0))) ∧
    (s.MayIssue tid (.alu .seq rd ra rb) → exec (.seq tid rd ra rb) s = .next (s.wrote tid rd (if a = b then 1 else 0))) ∧
    (s.MayIssue tid (.alu .minU rd ra rb) →
      exec (.minU tid rd ra rb) s = .next (s.wrote tid rd (BitVec.ofNat 64 (min a.toNat b.toNat)))) ∧
    (s.MayIssue tid (.alu .maxU rd ra rb) →
      exec (.maxU tid rd ra rb) s = .next (s.wrote tid rd (BitVec.ofNat 64 (max a.toNat b.toNat)))) ∧
    (s.MayIssue tid (.alu .cmovnz rd ra rb) →
      exec (.cmovnz tid rd ra rb) s = .next (s.wrote tid rd (if b ≠ 0 then a else d))) ∧
    (s.MayIssue tid (.alu .mul rd ra rb) →
      exec (.mul tid rd ra rb) s = .next (s.wrote tid rd (BitVec.ofNat 64 (a.toNat * b.toNat)))) ∧
    (s.MayIssue tid (.alu .mulhu rd ra rb) →
      exec (.mulhu tid rd ra rb) s = .next (s.wrote tid rd (BitVec.ofNat 64 (a.toNat * b.toNat / 2 ^ 64))))

/-- R92, R95: the one-operand functions, each by what the table says of its value, and the hashes. -/
def Obligations.UnaryAndHashResults : Prop :=
  ∀ (s : State) (tid : Nat) (rd ra rb : Reg) (sz : Size) (a b : W64), a = s.reg tid ra → b = s.reg tid rb →
    (s.MayIssue tid (.alu .popc rd ra 0) →
      exec (.popc tid rd ra) s =
        .next (s.wrote tid rd (BitVec.ofNat 64 ((List.range 64).filter (fun i => a.getLsbD i)).length))) ∧
    (s.MayIssue tid (.alu .clz rd ra 0) → ∃ k, exec (.clz tid rd ra) s = .next (s.wrote tid rd (BitVec.ofNat 64 k)) ∧
      k ≤ 64 ∧ (∀ i, 64 - k ≤ i → a.getLsbD i = false) ∧ (k < 64 → a.getLsbD (63 - k) = true)) ∧
    (s.MayIssue tid (.alu .ctz rd ra 0) → ∃ k, exec (.ctz tid rd ra) s = .next (s.wrote tid rd (BitVec.ofNat 64 k)) ∧
      k ≤ 64 ∧ (∀ i, i < k → a.getLsbD i = false) ∧ (k < 64 → a.getLsbD k = true)) ∧
    (s.MayIssue tid (.alu .bsw16 rd ra 0) → ∃ v, exec (.bsw16 tid rd ra) s = .next (s.wrote tid rd (BitVec.ofNat 64 v)) ∧
      v < 256 ^ 2 ∧ ∀ j, j < 2 → v / 256 ^ j % 256 = a.toNat / 256 ^ (1 - j) % 256) ∧
    (s.MayIssue tid (.alu .bsw32 rd ra 0) → ∃ v, exec (.bsw32 tid rd ra) s = .next (s.wrote tid rd (BitVec.ofNat 64 v)) ∧
      v < 256 ^ 4 ∧ ∀ j, j < 4 → v / 256 ^ j % 256 = a.toNat / 256 ^ (3 - j) % 256) ∧
    (s.MayIssue tid (.alu .bsw64 rd ra 0) → ∃ v, exec (.bsw64 tid rd ra) s = .next (s.wrote tid rd (BitVec.ofNat 64 v)) ∧
      v < 256 ^ 8 ∧ ∀ j, j < 8 → v / 256 ^ j % 256 = a.toNat / 256 ^ (7 - j) % 256) ∧
    (s.MayIssue tid (.crc sz rd ra rb) → exec (.crc32c tid sz rd ra rb) s =
      .next (s.wrote tid rd (((List.range (8 * sz.bytes)).foldl (fun (r : W32) k =>
        if (r.getLsbD 0) ≠ (b.getLsbD k) then (r >>> 1) ^^^ 0x82F63B78#32 else r >>> 1) (a.setWidth 32)).setWidth 64))) ∧
    (s.MayIssue tid (.hmix rd ra rb) → ∀ x : W64, x = (a ^^^ ((b <<< 23) ||| (b >>> 41))) * 0x9E3779B97F4A7C15#64 →
      exec (.hmix tid rd ra rb) s = .next (s.wrote tid rd (x ^^^ (x >>> 29))))

/-- R93, R94, R108: the immediate forms, the bit fields (bit by bit) and the counters. -/
def Obligations.ImmediateResults : Prop :=
  ∀ (s : State) (tid : Nat) (rd ra : Reg) (imm : W16) (amt pos lenm1 : BitVec 6) (h : BitVec 2) (a d : W64),
    a = s.reg tid ra → d = s.reg tid rd →
    (s.MayIssue tid (.addi rd ra imm) →
      exec (.addi tid rd ra imm) s = .next (s.wrote tid rd (BitVec.ofInt 64 (a.toInt + imm.toInt)))) ∧
    (s.MayIssue tid (.andi rd ra imm) →
      exec (.andi tid rd ra imm) s = .next (s.wrote tid rd (a &&& BitVec.ofNat 64 imm.toNat))) ∧
    (s.MayIssue tid (.ori rd ra imm) →
      exec (.ori tid rd ra imm) s = .next (s.wrote tid rd (a ||| BitVec.ofNat 64 imm.toNat))) ∧
    (s.MayIssue tid (.xori rd ra imm) →
      exec (.xori tid rd ra imm) s = .next (s.wrote tid rd (a ^^^ BitVec.ofNat 64 imm.toNat))) ∧
    (s.MayIssue tid (.shi rd ra .shl amt) →
      exec (.shi tid rd ra .shl amt) s = .next (s.wrote tid rd (BitVec.ofNat 64 (a.toNat * 2 ^ amt.toNat)))) ∧
    (s.MayIssue tid (.shi rd ra .shr amt) →
      exec (.shi tid rd ra .shr amt) s = .next (s.wrote tid rd (BitVec.ofNat 64 (a.toNat / 2 ^ amt.toNat)))) ∧
    (s.MayIssue tid (.shi rd ra .sar amt) →
      exec (.shi tid rd ra .sar amt) s = .next (s.wrote tid rd (BitVec.ofInt 64 (a.toInt / 2 ^ amt.toNat)))) ∧
    (s.MayIssue tid (.shi rd ra .rol amt) →
      exec (.shi tid rd ra .rol amt) s = .next (s.wrote tid rd ((a <<< amt.toNat) ||| (a >>> (64 - amt.toNat))))) ∧
    (s.MayIssue tid (.sltiu rd ra imm) →
      exec (.sltiu tid rd ra imm) s = .next (s.wrote tid rd (if a.toNat < imm.toNat then 1 else 0))) ∧
    (s.MayIssue tid (.movi rd imm) → exec (.movi tid rd imm) s = .next (s.wrote tid rd (BitVec.ofInt 64 imm.toInt))) ∧
    (s.MayIssue tid (.movhi rd h imm) → ∃ v : W64, exec (.movhi tid rd h imm) s = .next (s.wrote tid rd v) ∧
      ∀ i, i < 64 → v.getLsbD i = if 16 * h.toNat ≤ i ∧ i < 16 * h.toNat + 16 then imm.getLsbD (i - 16 * h.toNat) else d.getLsbD i) ∧
    (pos.toNat + lenm1.toNat < 64 → s.MayIssue tid (.bfx rd ra pos lenm1) →
      ∃ v : W64, exec (.bfx tid rd ra pos lenm1) s = .next (s.wrote tid rd v) ∧
        ∀ i, i < 64 → v.getLsbD i = (decide (i ≤ lenm1.toNat) && a.getLsbD (pos.toNat + i))) ∧
    (pos.toNat + lenm1.toNat < 64 → s.MayIssue tid (.bfi rd ra pos lenm1) →
      ∃ v : W64, exec (.bfi tid rd ra pos lenm1) s = .next (s.wrote tid rd v) ∧
        ∀ i, i < 64 → v.getLsbD i =
          if pos.toNat ≤ i ∧ i ≤ pos.toNat + lenm1.toNat then a.getLsbD (i - pos.toNat) else d.getLsbD i) ∧
    (∀ sel : W16, sel.toNat < 6 → s.MayIssue tid (.rdctr rd sel) →
      ∃ v : Nat, exec (.rdctr tid rd sel) s = .next (s.wrote tid rd (BitVec.ofNat 64 v)) ∧
        (sel = 0 → v = s.rd F.STITCH_COUNT.COUNT % 2 ^ 32) ∧
        (sel = 1 → v = s.rd F.STITCH_POS.CYCLE) ∧
        (sel = 2 → v = if s.bounded tid then (s.thr tid).slots + 1 else 0) ∧
        (sel = 3 → isCob tid = true → v = 0) ∧
        (sel = 3 → tid < 6144 → v = tid / 128 + 64 * (tid / 8 % 16) + 1024 * (tid % 8) +
          8192 * s.rd (F.MULE_ROLE.EPOCH (tid / 128) (tid / 8 % 16)) +
          2097152 * s.rd (F.MULE_ROLE.ROLE (tid / 128) (tid / 8 % 16))) ∧
        (sel = 4 → v = 1024 * 2 ^ s.rd F.STITCH_LEN.CUR) ∧
        (sel = 5 → v = if s.bounded tid then (s.thr tid).budget else 1024 * 2 ^ s.rd F.STITCH_LEN.CUR / 8 - 16))

/-- R53, R97: the frame of every instruction that only writes a register, and where the thread goes. -/
def Obligations.RegisterWriteFrame : Prop :=
  ∀ (s : State) (tid : Nat) (rd : Reg) (v : W64), ∃ t, s.wrote tid rd v = t ∧
    (∃ pc ls, s.threadTo t tid { (s.thr tid).setG rd.toNat v with pc := pc, loops := ls } ∧
      (∀ gone l rest, (s.thr tid).loops = gone ++ l :: rest → (∀ x ∈ gone, x.stop = (s.thr tid).pc ∧ x.remaining ≤ 1) →
        l.stop = (s.thr tid).pc → 1 < l.remaining → pc = l.start ∧ ls = { l with remaining := l.remaining - 1 } :: rest) ∧
      (∀ gone rest, (s.thr tid).loops = gone ++ rest → (∀ x ∈ gone, x.stop = (s.thr tid).pc ∧ x.remaining ≤ 1) →
        (∀ l, rest.head? = some l → l.stop ≠ (s.thr tid).pc) → pc = (s.thr tid).pc + 1 ∧ ls = rest)) ∧
    t.reg tid rd = (if rd = 0 then 0 else v) ∧ (∀ r : Reg, r ≠ rd → t.reg tid r = s.reg tid r) ∧ t.reg tid 0 = 0 ∧
    (∀ g, t.rd g = s.rd g)

/-- R96, R97, R109: where each control-flow instruction takes its thread, with its frame. -/
def Obligations.ControlTransfers : Prop :=
  ∀ (s : State) (tid : Nat) (rd ra rb : Reg) (cc : Cond) (off len : BitVec 13) (k : BitVec 6) (v : BitVec 1) (trip : Byte) (x : Thread),
    x = s.thr tid →
    (s.MayIssue tid (.br cc ra rb off) → condSays cc (s.reg tid ra) (s.reg tid rb) →
      ∃ t ls, exec (.br tid cc ra rb off) s = .next t ∧ poppedTo (fun l => l.stop < x.pc + 1 + off.toNat) x.loops ls ∧
        s.threadTo t tid { x with pc := x.pc + 1 + off.toNat, loops := ls }) ∧
    (s.MayIssue tid (.br cc ra rb off) → ¬ condSays cc (s.reg tid ra) (s.reg tid rb) →
      ∃ t, exec (.br tid cc ra rb off) s = .next t ∧ s.threadTo t tid x.onward) ∧
    (s.MayIssue tid (.bb v ra k off) → ((s.reg tid ra).getLsbD k.toNat = true ↔ v = 1) →
      ∃ t ls, exec (.bb tid v ra k off) s = .next t ∧ poppedTo (fun l => l.stop < x.pc + 1 + off.toNat) x.loops ls ∧
        s.threadTo t tid { x with pc := x.pc + 1 + off.toNat, loops := ls }) ∧
    (s.MayIssue tid (.bb v ra k off) → ¬ ((s.reg tid ra).getLsbD k.toNat = true ↔ v = 1) →
      ∃ t, exec (.bb tid v ra k off) s = .next t ∧ s.threadTo t tid x.onward) ∧
    (s.MayIssue tid (.jmp off) →
      ∃ t ls, exec (.jmp tid off) s = .next t ∧ poppedTo (fun l => l.stop < x.pc + 1 + off.toNat) x.loops ls ∧
        s.threadTo t tid { x with pc := x.pc + 1 + off.toNat, loops := ls }) ∧
    (s.MayIssue tid (.loop trip len) → trip ≠ 0 → len ≠ 0 → x.loops.length < 4 →
      ∃ t, exec (.loop tid trip len) s = .next t ∧
        s.threadTo t tid { x with pc := x.pc + 1, loops := ⟨x.pc + 1, x.pc + len.toNat, trip.toNat⟩ :: x.loops }) ∧
    (s.MayIssue tid (.loopr ra len) → len ≠ 0 → x.loops.length < 4 → (s.reg tid ra).toNat % 2 ^ 32 ≠ 0 →
      ∃ t, exec (.loopr tid ra len) s = .next t ∧
        s.threadTo t tid { x with pc := x.pc + 1, loops := ⟨x.pc + 1, x.pc + len.toNat, (s.reg tid ra).toNat % 2 ^ 32⟩ :: x.loops }) ∧
    (s.MayIssue tid (.loopr ra len) → len ≠ 0 → (s.reg tid ra).toNat % 2 ^ 32 = 0 →
      ∃ t, exec (.loopr tid ra len) s = .next t ∧ s.threadTo t tid { x with pc := x.pc + len.toNat + 1 }) ∧
    (s.MayIssue tid (.call off) →
      ∃ t, exec (.call tid off) s = .next t ∧ s.threadTo t tid { x.setG 31 (BitVec.ofNat 64 (x.pc + 1)) with pc := off.toNat }) ∧
    (s.MayIssue tid (.jr rd ra) →
      ∃ t, exec (.jr tid rd ra) s = .next t ∧
        s.threadTo t tid { x.setG rd.toNat (BitVec.ofNat 64 (x.pc + 1)) with pc := (s.reg tid ra).toNat % 2 ^ 13 }) ∧
    (s.MayIssue tid (.brb cc ra rb off) → condSays cc (s.reg tid ra) (s.reg tid rb) → off.toNat ≤ x.pc →
      ∃ t ls, exec (.brb tid cc ra rb off) s = .next t ∧
        poppedTo (fun l => x.pc - off.toNat < l.start ∨ l.stop < x.pc - off.toNat) x.loops ls ∧
        s.threadTo t tid { x with pc := x.pc - off.toNat, loops := ls }) ∧
    (s.MayIssue tid (.brb cc ra rb off) → ¬ condSays cc (s.reg tid ra) (s.reg tid rb) →
      ∃ t, exec (.brb tid cc ra rb off) s = .next t ∧ s.threadTo t tid x.onward)

/-- R116, R117: the end of a bounded program. The last clause is RETIRE_END's. -/
def Obligations.ProgramEnd : Prop :=
  ∀ (s : State) (tid : Nat) (ra : Reg) (w : Work), tid < 6144 → (s.thr tid).work = some w →
    (∀ c m, (m = DoneMode.deliver ∧ c = Instr.doneDeliver tid ra ∨ m = DoneMode.drop ∧ c = Instr.doneDrop tid ra ∨
        m = DoneMode.slowpath ∧ c = Instr.doneSlowpath tid ra) → s.MayIssue tid (.done m ra) →
      ∃ t, exec c s = .next t ∧
        (t.thr tid).work = none ∧ (t.thr tid).retireAt = some (s.clk.cycles + 64) ∧ (t.thr tid).tickets = [] ∧
        (t.thr tid).pend = [] ∧ (t.thr tid).loops = [] ∧ (t.thr tid).scratchOp = none ∧ (t.thr tid).regs = (s.thr tid).regs ∧
        (t.thr tid).staging = (s.thr tid).staging ∧ (t.thr tid).pc = (s.thr tid).pc ∧
        (t.thr tid).gen = (s.thr tid).gen + 1 ∧
        t.mules.scratchQ = s.mules.scratchQ ∧ t.scratch = s.scratch ∧ t.lmem = s.lmem ∧
        (∀ p, w.source < 4 → s.pkt? w.ref = some p →
          (m = .drop → t.pkt? w.ref = none) ∧
          (m = .deliver → (s.reg tid ra).toNat ≤ 32 →
            t.pkt? w.ref = some { p with
              stage := .editor
              list := (List.range (s.reg tid ra).toNat).map (fun k => wordOf (s.readSlice tid (0x600 + 8 * k) 8))
              dirty := (s.thr tid).dirty.map (fun r => (r.1, s.readSlice tid r.1 (r.2 + 1 - r.1))) }) ∧
          (m = .deliver → 32 < (s.reg tid ra).toNat → t.net = ((s.spent tid).slowPath w.ref 1 0x02 0x01).net) ∧
          (m = .slowpath → t.net = ((s.spent tid).slowPath w.ref 1 0x00 ((s.reg tid ra).toNat % 256)).net)) ∧
        (4 ≤ w.source → t.welt = s.welt ∧
          (m = .drop ∨ (m = .deliver ∧ (s.reg tid ra).toNat ≤ 32) → t.net = s.net ∧ t.yarn.flights = s.yarn.flights) ∧
          (m = .slowpath ∨ (m = .deliver ∧ 32 < (s.reg tid ra).toNat) → s.rd (F.EDIT_SP_DST.EN (tid / 3072)) = 0 →
            t.rd F.EDIT_STAT.SP_DROP.CNT = min (s.rd F.EDIT_STAT.SP_DROP.CNT + 1) (2 ^ 32 - 1)))) ∧
    (∀ c, (s.thr tid).retireAt = some c → c ≤ s.clk.cycles → s.ts tid = tsHalt → ∃ t, exec (.retireEnd tid) s = .next t ∧
      t.thr tid = { s.thr tid with retireAt := none, haltFrom := s.restState tid } ∧ (∀ u, u ≠ tid → t.thr u = s.thr u) ∧
      { t with mules := s.mules } = s) ∧
    (∀ c, (s.thr tid).retireAt = some c → c ≤ s.clk.cycles → s.ts tid ≠ tsHalt → ∃ t, exec (.retireEnd tid) s = .next t ∧
      t.ts tid = s.restState tid ∧ t.thr tid = { s.thr tid with retireAt := none } ∧ (∀ u, u ≠ tid → t.thr u = s.thr u) ∧
      { t with csr := s.csr, mules := s.mules } = s ∧ s.regsKept t [thrStateF tid, haltedF tid])

/-- R56, R98, R99: local memory. The address of a byte of local memory is that of the thread's spindle and slice; a Cobbler
core's loads and stores reach its SRAM. -/
def Obligations.LocalMemoryAccess : Prop :=
  ∀ (s : State) (tid : Nat) (sz : Size) (sx : Bool) (rd ra : Reg) (off : BitVec 13) (a n : Nat),
    a = (s.reg tid ra + off.signExtend 64).toNat → n = sz.bytes →
    (tid < 6144 → a + n ≤ (if tid % 8 = 0 then 0x10000 else 0x2000) → a % n = 0 → s.MayIssue tid (.ld sz sx rd ra off) →
      exec (.ld tid sz sx rd ra off) s = .next (s.wrote tid rd (loaded n sx (leNat
        (Memory.read s.lmem (0x10000 * (tid / 8) + (if tid % 8 = 0 then 0 else 0x2000 * (tid % 8)) + a) n))))) ∧
    (tid < 6144 → a + n ≤ (if tid % 8 = 0 then 0x10000 else 0x2000) → a % n = 0 → s.MayIssue tid (.st sz rd ra off) →
      ∃ t, exec (.st tid sz rd ra off) s = .next t ∧
        Memory.stored s.lmem t.lmem (0x10000 * (tid / 8) + (if tid % 8 = 0 then 0 else 0x2000 * (tid % 8)) + a) n (s.reg tid rd).toNat ∧
        s.threadTo { t with lmem := s.lmem } tid (s.thr tid).onward) ∧
    (8192 ≤ tid → a + n ≤ 0x400000 → a % n = 0 → s.MayIssue tid (.ld sz sx rd ra off) →
      exec (.ld tid sz sx rd ra off) s = .next (s.wrote tid rd (loaded n sx (leNat (Memory.read s.cobSram a n))))) ∧
    (8192 ≤ tid → a + n ≤ 0x400000 → a % n = 0 → s.MayIssue tid (.st sz rd ra off) →
      ∃ t, exec (.st tid sz rd ra off) s = .next t ∧ Memory.stored s.cobSram t.cobSram a n (s.reg tid rd).toNat ∧
        s.threadTo { t with cobSram := s.cobSram } tid (s.thr tid).onward) ∧
    (a + n ≤ 0x100 → s.MayIssue tid (.hld sz sx rd ra off) →
      exec (.hld tid sz sx rd ra off) s = .next (s.wrote tid rd (loaded n sx (beNat
        (Memory.read s.lmem (0x10000 * (tid / 8) + 0x2000 * (tid % 8) + a) n))))) ∧
    (a + n ≤ 0x100 → s.MayIssue tid (.hst sz rd ra off) →
      ∃ t d, exec (.hst tid sz rd ra off) s = .next t ∧
        Memory.stored s.lmem t.lmem (0x10000 * (tid / 8) + 0x2000 * (tid % 8) + a) n
          (beNat (toLE n (s.reg tid rd).toNat)) ∧
        ((s.thr tid).dirty = none → d = (a, a + n - 1)) ∧
        (∀ lo hi, (s.thr tid).dirty = some (lo, hi) → d = (min lo a, max hi (a + n - 1))) ∧
        s.threadTo { t with lmem := s.lmem } tid { (s.thr tid).onward with dirty := some d })

/-- R60 to R62, R100. Which access a bank serves next is stated as the one that none of the others waiting at the bank precedes,
in order of issue cycle and then of the rotated spindle number. -/
def Obligations.ScratchOperations : Prop :=
  (∀ (s : State) (tid : Nat) (rd ra rb : Reg) (sz : Size) (sx wide : Bool) (off : BitVec 13) (c : Instr) (i : Ob) (op : Option AtomOp)
      (a n : Nat) (dest : Option Nat) (v cmp : W64),
    (c = .sld tid sz sx rd ra off ∧ i = .sld sz sx rd ra off ∧ op = none ∧ a = (s.reg tid ra + off.signExtend 64).toNat ∧
        n = sz.bytes ∧ dest = some rd.toNat ∧ v = s.reg tid rd ∧ cmp = 0 ∨
      c = .sst tid sz rd ra off ∧ i = .sst sz rd ra off ∧ op = none ∧ a = (s.reg tid ra + off.signExtend 64).toNat ∧ n = sz.bytes ∧
        dest = none ∧ v = s.reg tid rd ∧ cmp = 0 ∧ sx = false ∨
      (∃ f, op = some f ∧ i = .satom f wide rd ra rb ∧ a = (s.reg tid ra).toNat ∧ n = (if wide then 8 else 4) ∧ dest = some rd.toNat ∧
        v = s.reg tid rb ∧ cmp = s.reg tid rd ∧ sx = false ∧
        (f = .fetchAdd ∧ c = .fetchAdd tid wide rd ra rb ∨ f = .swap ∧ c = .satomSwap tid wide rd ra rb ∨
          f = .cas ∧ c = .cas tid wide rd ra rb ∨ f = .and ∧ c = .satomAnd tid wide rd ra rb ∨
          f = .or ∧ c = .satomOr tid wide rd ra rb ∨ f = .xor ∧ c = .satomXor tid wide rd ra rb ∨
          f = .minU ∧ c = .satomMinU tid wide rd ra rb ∨ f = .maxU ∧ c = .satomMaxU tid wide rd ra rb))) →
    s.MayIssue tid i → a + n ≤ 0x80000 → a % n = 0 →
    (s.bounded tid = true → (s.rd (F.MULE_SCR_PROT.PERM (tid / 128))).testBit
      (2 * (a / 0x10000) + (if dest.isNone ∨ op.isSome then 1 else 0)) = true) →
    ∃ t r, exec c s = .next t ∧
      r = { id := s.mules.nextScratch, thread := tid, mule := tid / 128, cycle := s.clk.cycles,
            rank := (tid / 8 % 16 + 16 - s.rd F.STITCH_COUNT.COUNT % 16) % 16, addr := a, bytes := n, rd := dest, sx := sx, op := op,
            operand := v, compare := cmp : ScratchReq } ∧
      t.mules.scratchQ = s.mules.scratchQ ++ [r] ∧ { t with mules := s.mules } = s ∧ (∀ u, u ≠ tid → t.thr u = s.thr u) ∧
      t.thr tid = { (match dest with | some k => (s.thr tid).await k | none => s.thr tid).onward with
        scratchOp := some r.id, slots := (s.thr tid).slots + (if s.bounded tid then 1 else 0) }) ∧
  (∀ (s : State) (m bank : Nat) (before after : List ScratchReq) (r : ScratchReq) (base old v : Nat),
    s.mules.scratchQ = before ++ r :: after → r.mule = m → r.addr / 8 % 16 = bank →
    (∀ q ∈ before, q.mule = m → q.addr / 8 % 16 = bank → r.cycle < q.cycle ∨ r.cycle = q.cycle ∧ r.rank < q.rank) →
    (∀ q ∈ after, q.mule = m → q.addr / 8 % 16 = bank → r.cycle < q.cycle ∨ r.cycle = q.cycle ∧ r.rank ≤ q.rank) →
    (∀ q ∈ before ++ after, q.id ≠ r.id) → r.cycle + 14 ≤ s.clk.cycles → base = 0x80000 * m + r.addr →
    (r.bytes = 1 ∨ r.bytes = 2 ∨ r.bytes = 4 ∨ r.bytes = 8) →
    old = leNat (Memory.read s.scratch base r.bytes) → v = r.operand.toNat % 2 ^ (8 * r.bytes) →
    ∃ t, exec (.scratchAccessPerform m bank) s = .next t ∧ t.mules.scratchQ = before ++ after ∧
      { t with mules := s.mules, scratch := s.scratch } = s ∧ (∀ u, u ≠ r.thread → t.thr u = s.thr u) ∧
      (r.op = none → r.rd ≠ none → t.scratch = s.scratch) ∧
      (r.op = none → r.rd = none → Memory.stored s.scratch t.scratch base r.bytes v) ∧
      (r.op = some .fetchAdd → Memory.stored s.scratch t.scratch base r.bytes (old + v)) ∧
      (r.op = some .swap → Memory.stored s.scratch t.scratch base r.bytes v) ∧
      (r.op = some .cas → Memory.stored s.scratch t.scratch base r.bytes
        (if old = r.compare.toNat % 2 ^ (8 * r.bytes) then v else old)) ∧
      (r.op = some .and → Memory.stored s.scratch t.scratch base r.bytes (old &&& v)) ∧
      (r.op = some .or → Memory.stored s.scratch t.scratch base r.bytes (old ||| v)) ∧
      (r.op = some .xor → Memory.stored s.scratch t.scratch base r.bytes (old ^^^ v)) ∧
      (r.op = some .minU → Memory.stored s.scratch t.scratch base r.bytes (min old v)) ∧
      (r.op = some .maxU → Memory.stored s.scratch t.scratch base r.bytes (max old v)) ∧
      ((s.thr r.thread).scratchOp = some r.id → (t.thr r.thread).scratchOp = none ∧
        (∀ k, r.rd = some k → k ≠ 0 → (t.thr r.thread).pend = (s.thr r.thread).pend.erase k ∧ (t.thr r.thread).g k =
          if r.op.isSome then BitVec.ofNat 64 old else loaded r.bytes r.sx old)) ∧
      ((s.thr r.thread).scratchOp ≠ some r.id → t.thr r.thread = s.thr r.thread))

/-- R101, R102: lookups on tickets. -/
def Obligations.LookupInstructions : Prop :=
  (∀ (s : State) (tid : Nat) (ra : Reg) (tk : BitVec 2) (sel : BitVec 5) (dl : BitVec 7) (a n : Nat),
    a = (s.reg tid ra).toNat → n = s.lkupKeyLen sel.toNat → a + n ≤ 0x2000 → a % 8 = 0 → sel.toNat < 30 → dl ≠ 0 →
    s.MayIssue tid (.lkup tk ra sel dl) →
    ∃ t, exec (.lkup tid tk ra sel dl) s = .next t ∧
      AMap.get? (t.thr tid).tickets tk.toNat = some
        { profile := sel.toNat, word := s.word (0x800000 + 8 * sel.toNat),
          key := Memory.read s.lmem (0x10000 * (tid / 8) + 0x2000 * (tid % 8) + a) n,
          deadline := s.clk.cycles + 8 * dl.toNat, arrived := none } ∧
      (∀ k, k ≠ tk.toNat → AMap.get? (t.thr tid).tickets k = AMap.get? (s.thr tid).tickets k) ∧
      (t.thr tid).regs = (s.thr tid).regs ∧ (t.thr tid).pend = (s.thr tid).pend ∧ t.lmem = s.lmem ∧ t.scratch = s.scratch ∧
      t.yarn = s.yarn ∧ (∀ u, u ≠ tid → t.thr u = s.thr u) ∧
      (sel.toNat ≠ 28 → s.threadTo { t with csr := s.csr } tid { (s.thr tid).onward with tickets := (t.thr tid).tickets }) ∧
      (sel.toNat < 28 → t.rd F.LAST_STAT.LOOKUPS.CNT = min (s.rd F.LAST_STAT.LOOKUPS.CNT + 1) (2 ^ 32 - 1) ∧
        s.regsKept t [F.LAST_STAT.LOOKUPS.CNT]) ∧
      (sel.toNat = 29 → t.csr = s.csr)) ∧
  (∀ (s : State) (tid : Nat) (rd : Reg) (tk : BitVec 2) (tks : AMap Ticket), tks = (s.thr tid).tickets →
    s.MayIssue tid (.lkw rd tk) →
    ∃ t, exec (.lkw tid rd tk) s = .next t ∧
      (AMap.get? tks tk.toNat = none → ∃ y, y = { (s.thr tid).setG rd.toNat 4 with tickets := AMap.del tks tk.toNat, lkwStall := none } ∧
        s.threadTo t tid y.onward) ∧
      (∀ k st, AMap.get? tks tk.toNat = some k → k.arrived = some st →
        ∃ y, y = { (s.thr tid).setG rd.toNat (BitVec.ofNat 64 st) with tickets := AMap.del tks tk.toNat, lkwStall := none } ∧
          s.threadTo t tid y.onward) ∧
      (∀ k, AMap.get? tks tk.toNat = some k → k.arrived = none → k.deadline ≤ s.clk.cycles →
        ∃ y, y = { (s.thr tid).setG rd.toNat 2 with
            tickets := AMap.del tks tk.toNat, lkwStall := none, late := (s.thr tid).late ++ [tk.toNat] } ∧ s.threadTo t tid y.onward) ∧
      (∀ k, AMap.get? tks tk.toNat = some k → k.arrived = none → s.clk.cycles < k.deadline →
        s.threadTo t tid { s.thr tid with lkwStall := some (rd.toNat, tk.toNat) })) ∧
  (∀ (s : State) (tid tk : Nat), tk ∈ (s.thr tid).late →
    ∃ t, exec (.lookupResult tid tk) s = .next t ∧
      t.rd F.LAST_STAT.LATE_DISCARD.CNT = min (s.rd F.LAST_STAT.LATE_DISCARD.CNT + 1) (2 ^ 32 - 1) ∧
      s.regsKept t [F.LAST_STAT.LATE_DISCARD.CNT] ∧ { t with csr := s.csr, mules := s.mules } = s ∧
      t.thr tid = { s.thr tid with late := (s.thr tid).late.erase tk } ∧ ∀ v, v ≠ tid → t.thr v = s.thr v) ∧
  (∀ (s : State) (tid tk h : Nat) (k : Ticket), tk ∉ (s.thr tid).late → AMap.get? (s.thr tid).tickets tk = some k → k.arrived = none →
    k.deadline ≥ s.clk.cycles → k.profile < 28 → h = (if tid / 128 < 24 then 0 else 1) →
    ∃ t r u, exec (.lookupResult tid tk) s = .next t ∧ (r, u) = s.lookupCounted h k.word k.profile (s.workTenant tid) k.key ∧
      t.lmem = Memory.write s.lmem (0x10000 * (tid / 8) + 0x2000 * (tid % 8) + 0x200 + 0x100 * tk) r.data ∧
      t.thr tid = { s.thr tid with tickets := AMap.set (s.thr tid).tickets tk { k with arrived := some r.status }, lkwStall := none } ∧
      { t with csr := s.csr, lmem := s.lmem, mules := s.mules, lace := s.lace } = s ∧ { t.lace with owed := s.lace.owed } = s.lace ∧
      (∀ v, v ≠ tid → t.thr v = s.thr v)) ∧
  (∀ (s : State) (tid tk : Nat) (k : Ticket), tk ∉ (s.thr tid).late → AMap.get? (s.thr tid).tickets tk = some k → k.arrived = none →
    k.deadline < s.clk.cycles → ∃ t, exec (.lookupResult tid tk) s = .next t ∧
      t.rd F.LAST_STAT.LATE_DISCARD.CNT = min (s.rd F.LAST_STAT.LATE_DISCARD.CNT + 1) (2 ^ 32 - 1) ∧
      s.regsKept t [F.LAST_STAT.LATE_DISCARD.CNT] ∧ { t with csr := s.csr, mules := s.mules } = s ∧ t.lmem = s.lmem ∧
      t.thr tid = { s.thr tid with tickets := AMap.set (s.thr tid).tickets tk { k with arrived := some 2 } }) ∧
  (∀ (s : State) (tid : Nat) (rd : Reg) (tk : BitVec 2) (k : Ticket), (s.thr tid).lkwStall = some (rd.toNat, tk.toNat) →
    AMap.get? (s.thr tid).tickets tk.toNat = some k → k.arrived = none → k.deadline ≤ s.clk.cycles →
    s.fetched tid = some (encodeOb (.lkw rd tk)) → s.MayIssue tid (.lkw rd tk) →
    ∃ t y, exec (.lookupDeadline tid) s = .next t ∧
      y = { (s.thr tid).setG rd.toNat 2 with
        tickets := AMap.del (s.thr tid).tickets tk.toNat, lkwStall := none, late := (s.thr tid).late ++ [tk.toNat] } ∧
      s.threadTo t tid y.onward)

/-- R68 to R75, R103 to R106: the yarn instructions, as a thread of a spindle issues them. -/
def Obligations.MessagesOfThreads : Prop :=
  ∀ (s : State) (tid : Nat) (rd ra : Reg) (x : Thread) (dst : Nat), tid < 6144 → x = s.thr tid → dst = (s.reg tid ra).toNat % 2 ^ 20 →
    (∀ idx : BitVec 3, s.MayIssue tid (.ystage ra idx) → ∃ t, exec (.ystage tid ra idx) s = .next t ∧
      s.threadTo t tid { x.onward with staging := AMap.setD 0 x.staging idx.toNat (s.reg tid ra) }) ∧
    (∀ (nm1 : BitVec 3) (tag : BitVec 6) (blk : Bool), s.MayIssue tid (.ysend rd ra nm1 tag blk) →
      ∃ t f, exec (.ysend tid rd ra nm1 tag blk) s = .next t ∧ t.yarn.flights = s.yarn.flights ++ [f] ∧
        f.op = .send ∧ f.owner = some tid ∧ f.gen = x.gen ∧ f.rd = rd.toNat ∧ f.blocking = blk ∧ f.status = none ∧
        f.msg.kind = .small ∧ f.msg.lenm1 = nm1.toNat ∧ f.msg.tag = tag.toNat ∧ f.msg.src = epThread tid 0 ∧ f.msg.dst = dst ∧
        f.msg.words = (List.range (nm1.toNat + 1)).map (fun k => AMap.getD x.staging k 0) ∧
        f.msg.epoch = (if dst < 2 ^ 19 then (s.reg tid ra).toNat / 2 ^ 20 % 256 else s.rd (epochF (tid / 8))) ∧
        (rd ≠ 0 → rd.toNat ∈ (t.thr tid).pend) ∧ (t.thr tid).regs = x.regs ∧ (t.thr tid).staging = x.staging ∧
        t.ts tid = (if blk then tsYwait else tsRun) ∧ t.yarn.queues = s.yarn.queues ∧ t.lmem = s.lmem ∧
        (∀ u, u ≠ tid → t.thr u = s.thr u)) ∧
    (∀ (l : Byte) (tag : BitVec 6) (blk : Bool), s.MayIssue tid (.yres rd ra l tag blk) → x.resv = .none ∨ x.resv = .poisoned →
      ∃ t f, exec (.yres tid rd ra l tag blk) s = .next t ∧ t.yarn.flights = s.yarn.flights ++ [f] ∧
        f.op = .reserve ∧ f.owner = some tid ∧ f.rd = rd.toNat ∧ f.blocking = blk ∧ f.status = none ∧
        f.msg.lenm1 = l.toNat ∧ f.msg.tag = tag.toNat ∧ f.msg.src = epThread tid 0 ∧ f.msg.dst = dst ∧ f.msg.committed = false ∧
        f.msg.words = List.replicate (l.toNat + 1) 0 ∧
        f.msg.epoch = (if dst < 2 ^ 19 then (s.reg tid ra).toNat / 2 ^ 20 % 256 else s.rd (epochF (tid / 8))) ∧
        (t.thr tid).resv = .asked f.msg.id ∧ t.ts tid = (if blk then tsYwait else tsRun) ∧ t.yarn.queues = s.yarn.queues) ∧
    (∀ (idx : Byte) (id since d : Nat) (m : Msg) (q1 q2 : List Msg), x.resv = .opened id d since →
      s.queueAt d = q1 ++ m :: q2 → m.id = id → (∀ q ∈ q1 ++ q2, q.id ≠ id) → idx.toNat ≤ m.lenm1 → s.MayIssue tid (.yput rd idx) →
      ∃ t, exec (.yput tid rd idx) s = .next t ∧
        t.queueAt d = q1 ++ { m with words := m.words.set idx.toNat (s.reg tid rd) } :: q2 ∧
        (∀ e, e ≠ d → t.queueAt e = s.queueAt e) ∧ s.threadTo { t with yarn := s.yarn } tid x.onward) ∧
    (∀ idx : Byte, x.resv = .poisoned → s.MayIssue tid (.yput rd idx) →
      ∃ t, exec (.yput tid rd idx) s = .next t ∧ s.threadTo t tid x.onward) ∧
    (x.resv = .poisoned → s.MayIssue tid (.ycommit rd) →
      ∃ t, exec (.ycommit tid rd) s = .next t ∧ s.threadTo t tid { (x.setG rd.toNat 4).onward with resv := .none }) ∧
    (∀ id d since, x.resv = .opened id d since → s.MayIssue tid (.ycommit rd) →
      ∃ t f, exec (.ycommit tid rd) s = .next t ∧ t.yarn.flights = s.yarn.flights ++ [f] ∧ f.op = .commit ∧ f.owner = some tid ∧
        f.rd = rd.toNat ∧ f.status = none ∧ (t.thr tid).resv = .none ∧ t.yarn.queues = s.yarn.queues ∧
        (∀ m, (s.queueAt d).find? (fun m => m.id == id) = some m → f.msg = m)) ∧
    (∀ ch : BitVec 2, s.headAt (epThread tid ch.toNat) = none → s.MayIssue tid (.yrecv rd ra ch) →
      exec (.yrecv tid rd ra ch) s = .next (s.wrote tid rd 0)) ∧
    (∀ (ch : BitVec 2) (m : Msg) (q : List Msg), s.queueAt (epThread tid ch.toNat) = m :: q → m.committed = true →
      (∀ k ∈ q, k.id ≠ m.id) → (s.reg tid ra).toNat + 8 * (m.lenm1 + 1) ≤ 0x2000 → (s.reg tid ra).toNat % 8 = 0 →
      s.MayIssue tid (.yrecv rd ra ch) →
      ∃ t, exec (.yrecv tid rd ra ch) s = .next t ∧ t.queueAt (epThread tid ch.toNat) = q ∧
        (∀ e, e ≠ epThread tid ch.toNat → t.queueAt e = s.queueAt e) ∧
        t.lmem = Memory.write s.lmem (0x10000 * (tid / 8) + 0x2000 * (tid % 8) + (s.reg tid ra).toNat) (bytesOf m.words) ∧
        s.threadTo { t with lmem := s.lmem, yarn := s.yarn } tid
          { (x.setG rd.toNat m.header).onward with readyAt := s.clk.cycles + (m.lenm1 + 2) / 2 }) ∧
    (s.MayIssue tid (.ynote rd) → ∃ t v, exec (.ynote tid rd) s = .next t ∧
      s.threadTo t tid { (x.setG rd.toNat (BitVec.ofNat 64 v)).onward with notice := none } ∧ (x.notice = none → v = 0) ∧
      (∀ n, x.notice = some n → n.status < 2 ^ 8 → n.count < 2 ^ 8 → n.epoch < 2 ^ 8 → n.tag < 2 ^ 6 → n.dst < 2 ^ 20 →
        v = n.status + 2 ^ 8 * n.count + 2 ^ 16 * n.epoch + 2 ^ 24 * n.tag + 2 ^ 30 * n.dst))

/-- R77, R78: events. The STITCH bit is the model's comparison of stitch numbers, so only its clearing is stated here. -/
def Obligations.EventsAndWaiting : Prop :=
  (∀ (s : State) (tid : Nat) (rd ra : Reg) (nb : Bool) (v : W32), tid < 6144 → v = s.pendingWord tid &&& (s.reg tid ra).setWidth 32 →
    s.MayIssue tid (.wait rd ra nb) →
    (nb = true ∨ v ≠ 0 → ∃ t seen, exec (.wait tid rd ra nb) s = .next t ∧
      (v.getLsbD 6 = true → seen = s.rd F.STITCH_COUNT.COUNT) ∧ (v.getLsbD 6 = false → seen = (s.thr tid).stitchSeen) ∧
      s.threadTo t tid { ((s.thr tid).setG rd.toNat (v.setWidth 64)).onward with
        events := (s.thr tid).events &&& ~~~v, stitchSeen := seen }) ∧
    (nb = false → v = 0 → ∃ t, exec (.wait tid rd ra nb) s = .next t ∧ t.ts tid = tsWait ∧
      s.threadTo { t with csr := s.csr } tid
        { (s.thr tid).onward with waitMask := (s.reg tid ra).setWidth 32, waitRd := rd.toNat } ∧
      s.regsKept t [thrStateF tid, haltedF tid])) ∧
  (∀ (s : State) (tid : Nat) (v : W32), tid < 6144 → s.ts tid = tsWait →
    v = s.pendingWord tid &&& ((s.thr tid).waitMask ||| (if tid % 8 = 0 then 0x100 else 0)) → v ≠ 0 →
    ∃ t, exec (.waitWake tid) s = .next t ∧ t.ts tid = tsRun ∧
      ((s.thr tid).waitRd ≠ 0 → (t.thr tid).g (s.thr tid).waitRd = v.setWidth 64) ∧
      (∀ r, r ≠ (s.thr tid).waitRd → (t.thr tid).g r = (s.thr tid).g r) ∧
      (t.thr tid).events = (s.thr tid).events &&& ~~~v ∧ (t.thr tid).pc = (s.thr tid).pc ∧ (∀ u, u ≠ tid → t.thr u = s.thr u) ∧
      { t with csr := s.csr, mules := s.mules } = s ∧ s.regsKept t [thrStateF tid, haltedF tid]) ∧
  (∀ (s : State) (tid : Nat) (thr : BitVec 3) (b : BitVec 5), tid < 6144 → 16 ≤ b.toNat → s.MayIssue tid (.signal thr b) →
    ∃ t, exec (.signal tid thr b) s = .next t ∧ s.onlyMules t ∧
      (t.thr (tid / 8 * 8 + thr.toNat)).events = (s.thr (tid / 8 * 8 + thr.toNat)).events ||| (1#32 <<< b.toNat) ∧
      (∀ u, u ≠ tid → u ≠ tid / 8 * 8 + thr.toNat → t.thr u = s.thr u) ∧ (t.thr tid).regs = (s.thr tid).regs)

/-- R107: the unit-issue instructions, as a thread of a spindle issues them. -/
def Obligations.UnitIssueInstructions : Prop :=
  ∀ (s : State) (tid : Nat) (rd ra rb : Reg) (a h : Nat), tid < 6144 → a = (s.reg tid ra).toNat → h = (if tid / 128 < 24 then 0 else 1) →
    (a + 64 ≤ localRange tid → a % 64 = 0 → s.MayIssue tid (.csub rd ra) → ¬(h = 1 ∧ s.fencedB = true) → s.storeUsed h < storeLimit →
      ∃ t f, exec (.csub tid rd ra) s = .next t ∧ t.yarn.flights = s.yarn.flights ++ [f] ∧ f.owner = some tid ∧ f.rd = rd.toNat ∧
        f.op = .csub ∧ f.status = some 0 ∧ t.cipher = (s.storeJob h tid (s.readLocal tid a 64)).cipher ∧ t.mem = s.mem ∧ t.lmem = s.lmem ∧
        (rd ≠ 0 → rd.toNat ∈ (t.thr tid).pend) ∧ (t.thr tid).regs = (s.thr tid).regs) ∧
    (a + 64 ≤ localRange tid → a % 64 = 0 → s.MayIssue tid (.csub rd ra) → h = 1 → s.fencedB = true →
      ∃ t f, exec (.csub tid rd ra) s = .next t ∧ t.yarn.flights = s.yarn.flights ++ [f] ∧ f.owner = some tid ∧ f.status = some 3 ∧
        t.cipher = s.cipher ∧ ((s.thr tid).notice = none → (t.thr tid).notice = some ⟨0x0E, epUnit 2 1, 0, 0, 1⟩) ∧
        (t.thr tid).events.getLsbD 5 = true) ∧
    (¬(h = 1 ∧ s.fencedB = true) → a + 64 ≤ localRange tid → a % 64 = 0 → s.MayIssue tid (.qpost rd ra rb) →
      ∃ t f, exec (.qpost tid rd ra rb) s = .next t ∧ t.yarn.flights = s.yarn.flights ++ [f] ∧ f.owner = some tid ∧ f.rd = rd.toNat ∧
        f.op = .qpost ∧ f.status = none ∧ f.post = some ((s.reg tid rb).toNat % 65536, s.clk.cycles) ∧ f.msg.src = epThread tid 0 ∧
        f.msg.dst = epUnit 1 h ∧ bytesOf f.msg.words = s.readLocal tid a 64 ∧ t.q = s.q ∧ t.mem = s.mem ∧ t.lmem = s.lmem ∧
        (rd ≠ 0 → rd.toNat ∈ (t.thr tid).pend) ∧ (t.thr tid).regs = (s.thr tid).regs) ∧
    (h = 1 → s.fencedB = true → a + 64 ≤ localRange tid → a % 64 = 0 → s.MayIssue tid (.qpost rd ra rb) →
      ∃ t f, exec (.qpost tid rd ra rb) s = .next t ∧ t.yarn.flights = s.yarn.flights ++ [f] ∧ f.status = some 3 ∧ t.q = s.q ∧
        t.mem = s.mem ∧ ((s.thr tid).notice = none → (t.thr tid).notice = some ⟨0x0E, epUnit 1 1, 0, 0, 1⟩)) ∧
    (∀ (id n c : Nat) (f : Flight), s.yarn.flights.find? (fun x => x.msg.id == id && x.status.isNone) = some f → f.post = some (n, c) →
      f.owner = some tid → f.msg.src = epThread tid 0 → f.msg.dst = epUnit 1 h →
      (c = s.clk.cycles ∨ (∃ g ∈ s.yarn.flights, ∃ b, g.status = none ∧ g.post = some (n, b) ∧
          (b < c ∨ (b = c ∧ g.owner.getD 0 < tid)) ∧ s.postHeld g n = false) → exec (.messageArrival id) s = .next s) ∧
      (s.postWaits f n c = false → ¬(h = 1 ∧ s.fencedB = true) →
        (∀ w, s.wq? n = some w → w.ringLoc = true → w.mules.testBit (tid / 128) = true →
          (w.dist w.pi w.ci < ringMax w.compat w.log2 → ∃ t, exec (.messageArrival id) s = .next t ∧
            { f with status := some 0 } ∈ t.yarn.flights ∧ t.wq? n = some { w with pi := w.next w.pi 1 } ∧
            t.mem = (s.devWrite (w.ringBase + 64 * (w.pi % 2 ^ w.log2)) (bytesOf f.msg.words)).mem ∧ (∀ k, k ≠ n → t.wq? k = s.wq? k) ∧
            t.mules = s.mules) ∧
          (ringMax w.compat w.log2 ≤ w.dist w.pi w.ci → ∃ t, exec (.messageArrival id) s = .next t ∧
            { f with status := some 1 } ∈ t.yarn.flights ∧ { t with yarn := s.yarn } = s)) ∧
        (∀ w, s.wq? n = some w → w.ringLoc = false ∨ w.mules.testBit (tid / 128) = false → ∃ t, exec (.messageArrival id) s = .next t ∧
          { f with status := some 3 } ∈ t.yarn.flights ∧ t.q = s.q ∧ t.mem = s.mem ∧ (t.thr tid).events.getLsbD 5 = true ∧
          ((s.thr tid).notice = none → (t.thr tid).notice = some ⟨0x03, epUnit 1 h, 0, 0, 1⟩)) ∧
        (s.wq? n = none → ∃ t, exec (.messageArrival id) s = .next t ∧ { f with status := some 3 } ∈ t.yarn.flights ∧ t.q = s.q ∧
          t.mem = s.mem ∧ ((s.thr tid).notice = none → (t.thr tid).notice = some ⟨0x04, epUnit 1 h, 0, 0, 1⟩)))) ∧
    (∀ k, k = (s.reg tid rb).toNat % 2 ^ 22 → a + 256 ≤ localRange tid → a % 256 = 0 → s.MayIssue tid (.fcwb rd ra rb) →
      ∃ t f, exec (.fcwb tid rd ra rb) s = .next t ∧ t.yarn.flights = s.yarn.flights ++ [f] ∧ f.owner = some tid ∧ f.rd = rd.toNat ∧
        f.op = .fcwb ∧
        (k < s.ctxCount → s.ctxFenced k = false → f.status = some 0 ∧ t.ctxCached k = some ⟨s.readLocal tid a 256, true⟩) ∧
        (s.ctxCount ≤ k → f.status = some 3 ∧ t.net = s.net ∧
          ((s.thr tid).notice = none → ∃ n, (t.thr tid).notice = some n ∧ n.status = 0x04)))

/-- R110 to R112. The bytes of a device access are those of the device address space as `devRead` gives them. -/
def Obligations.PrivilegedInstructions : Prop :=
  (∀ (s : State) (tid u : Nat) (ra : Reg), u = tid / 8 * 8 + (s.reg tid ra).toNat % 8 → (s.reg tid ra).toNat % 8 ≠ 0 → tid < 6144 →
    s.MayIssue tid (.resume ra) →
    ∃ t, exec (.resume tid ra) s = .next t ∧
      (s.ts u ≠ tsFault → s.threadTo t tid (s.thr tid).onward) ∧
      (s.ts u = tsFault → s.bounded u = true → t.ts u = s.restState u ∧ t.thr u = s.thr u ∧
        (∀ w, w < 4 → t.rd (faultF u w) = 0) ∧ { t with csr := s.csr, mules := s.mules } = s)) ∧
  (∀ (s : State) (tid : Nat) (rd ra : Reg) (u w : Nat), tid < 6144 → u = tid / 8 * 8 + (s.reg tid ra).toNat % 8 →
    w = (s.reg tid ra).toNat / 8 % 4 → s.MayIssue tid (.frec rd ra) →
    exec (.frec tid rd ra) s = .next (s.wrote tid rd (BitVec.ofNat 64 (s.rd (faultF u w))))) ∧
  (∀ (s : State) (tid : Nat) (rd : Reg), tid < 6144 → s.MayIssue tid (.tstate rd) →
    exec (.tstate tid rd) s =
      .next (s.wrote tid rd (BitVec.ofNat 64 (s.rd (F.MULE_THR_STATE.STATE (tid / 128) (tid / 8 % 16)))))) ∧
  (∀ (s : State) (tid : Nat) (sz : Size) (sx : Bool) (rd ra : Reg) (off : BitVec 13) (a n : Nat),
    a = (s.reg tid ra + off.signExtend 64).toNat → n = sz.bytes → winRegion a = none → s.memCheck a n = (0, 0) → a % n = 0 → tid < 6144 →
    (s.MayIssue tid (.devld sz sx rd ra off) → ∃ t, exec (.devld tid sz sx rd ra off) s = .next t ∧
      (t.thr tid).devld = some ⟨rd.toNat, n, sx, .mem s.dram.nextReq a n⟩ ∧ (rd ≠ 0 → rd.toNat ∈ (t.thr tid).pend) ∧
      (t.thr tid).regs = (s.thr tid).regs ∧ t.mem = s.mem ∧ t.lmem = s.lmem ∧ (∀ u, u ≠ tid → t.thr u = s.thr u)) ∧
    (s.MayIssue tid (.devst sz rd ra off) → ∃ t u, exec (.devst tid sz rd ra off) s = .next t ∧
      u = (s.memIssue (if tid / 128 < 24 then 0 else 1) (s.groupOf 0) a n (some (toLE n (s.reg tid rd).toNat))).2 ∧
      t.mem = u.mem ∧ t.dram = u.dram ∧ s.threadTo { t with mem := s.mem, dram := s.dram } tid (s.thr tid).onward)) ∧
  (∀ (s : State) (tid : Nat) (d : DevLoad) (id a : Nat), (s.thr tid).devld = some d → d.leg = .mem id a d.n →
    (d.n = 1 ∨ d.n = 2 ∨ d.n = 4 ∨ d.n = 8) → s.memDone id = true → s.memCheck a d.n = (0, 0) → d.rd ∈ (s.thr tid).pend → d.rd ≠ 0 →
    s.txOf (.dev tid) = none →
    ∃ t, exec (.deviceLoadData tid) s = .next t ∧ (t.thr tid).devld = none ∧ (t.thr tid).pend = (s.thr tid).pend.erase d.rd ∧
      (t.thr tid).g d.rd = loaded d.n d.sx (leNat (s.devRead a d.n)) ∧ (∀ r, r ≠ d.rd → (t.thr tid).g r = (s.thr tid).g r)) ∧
  (∀ (s : State) (tid : Nat) (wide sx : Bool) (rd ra : Reg) (off : BitVec 13) (a n : Nat) (v : Option Nat) (u : State),
    a = (s.reg tid ra + off.signExtend 64).toNat → n = (if wide then 8 else 4) → s.MayIssue tid (.csrrd wide sx rd ra off) →
    s.accessRead .cobbler a n = (v, u) → 8192 ≤ tid →
    exec (.csrrd tid wide sx rd ra off) s = .next ((u.modThr tid fun x => x.setG rd.toNat (loaded n sx (v.getD 0))).goOn tid)) ∧
  (∀ (s : State) (tid : Nat) (wide : Bool) (rd ra : Reg) (off : BitVec 13) (a n : Nat),
    a = (s.reg tid ra + off.signExtend 64).toNat → n = (if wide then 8 else 4) → s.MayIssue tid (.csrwr wide rd ra off) → 8192 ≤ tid →
    exec (.csrwr tid wide rd ra off) s = .next ((s.accessWrite .cobbler a n ((s.reg tid rd).toNat % 2 ^ (8 * n))).goOn tid))

/-- R50, R87, R90: what an issue cycle does with the word it meets. The order of the faults is the order of the clauses; that an
instruction that is not ready loses its slot before a context fault is looked for is the model's reading (DEDUCED). -/
def Obligations.IssueCycles : Prop :=
  (∀ (s : State) (sp tid : Nat), sp < 768 → tid = 8 * sp + s.clk.cycles % 8 → s.slotOpen tid = true →
    ∃ t, exec (.threadIssueCycle sp) s = .next t ∧
      (s.ts tid ≠ tsRun → s.ts tid ≠ tsHalt → t = s.takeSlot tid) ∧
      (s.runs tid = true → s.haltDue tid = none → s.overDue tid = false → s.blocked tid = true → t = s.spent tid) ∧
      (s.runs tid = true → s.haltDue tid = none → s.overDue tid = false → s.blocked tid = false →
        (s.fetched tid = none → t = (s.spent tid).takeFault tid 0 ⟨8, 0⟩ 0) ∧
        (∀ w d, s.fetched tid = some w → decodeOb w = .illegal d → t = (s.spent tid).takeFault tid w ⟨4, d⟩ 0) ∧
        (∀ w i, s.fetched tid = some w → decodeOb w = .ok i →
          (s.ready tid i = false → t = s.spent tid) ∧
          (s.ready tid i = true → i.bodyBeyond (s.thr tid).pc = true → t = (s.spent tid).takeFault tid w ⟨4, 2⟩ 0) ∧
          (s.ready tid i = true → i.bodyBeyond (s.thr tid).pc = false →
            (s.bounded tid = true → i.priv = true → t = (s.spent tid).takeFault tid w ⟨2, 0⟩ 0) ∧
            (∀ rd ra n g, s.bounded tid = true → i = .ysend rd ra n g true →
              t = (s.spent tid).takeFault tid w ⟨7, 1⟩ ((s.reg tid ra).toNat % 2 ^ 20)) ∧
            (∀ rd ra l g, s.bounded tid = true → i = .yres rd ra l g true →
              t = (s.spent tid).takeFault tid w ⟨7, 1⟩ ((s.reg tid ra).toNat % 2 ^ 20)) ∧
            (s.bounded tid = false → (∃ m ra, i = .done m ra) → t = (s.spent tid).takeFault tid w ⟨4, 4⟩ 0) ∧
            (s.bounded tid = false → tid % 8 ≠ 0 → (∃ ra, i = .resume ra) → t = (s.spent tid).takeFault tid w ⟨4, 4⟩ 0)) ∧
          (s.MayIssue tid i →
            (∀ n l, i = .loop n l → 4 ≤ (s.thr tid).loops.length → t = (s.spent tid).takeFault tid w ⟨4, 3⟩ 0) ∧
            (∀ z sx rd ra off, i = .ld z sx rd ra off → (if tid % 8 = 0 then 0x10000 else 0x2000) < (s.reg tid ra + off.signExtend 64).toNat + z.bytes →
              t = (s.spent tid).takeFault tid w ⟨1, 0⟩ (s.reg tid ra + off.signExtend 64).toNat) ∧
            (∀ z sx rd ra off, i = .ld z sx rd ra off → (s.reg tid ra + off.signExtend 64).toNat + z.bytes ≤ (if tid % 8 = 0 then 0x10000 else 0x2000) →
              (s.reg tid ra + off.signExtend 64).toNat % z.bytes ≠ 0 →
              t = (s.spent tid).takeFault tid w ⟨5, 0⟩ (s.reg tid ra + off.signExtend 64).toNat) ∧
            (∀ thr b, i = .signal thr b → b.toNat < 16 → t = (s.spent tid).takeFault tid w ⟨7, 4⟩ 0) ∧
            t = ((s.spent tid).complete tid w ((s.spent tid).perform tid i)).2)))) ∧
  (∀ (s : State) (tid : Nat), s.overDue tid = true → exec (.overrun tid) s = .next (s.overrun tid ((s.fetchWord tid).getD 0)))

/-- R81, R82, R126, R127: the fault of a thread of a spindle. -/
def Obligations.ThreadFaults : Prop :=
  (∀ (s : State) (tid : Nat) (w : W32) (cause detail addr m : Nat), tid < 6144 → m = tid / 128 → cause < 256 → cause ≠ 3 → detail < 65536 →
    addr < 2 ^ 64 → (s.thr tid).bank < 2 → (s.thr tid).pc < 8192 → (s.thr tid).work = none → (s.thr tid).slots < 1024 →
    ∃ t, s.takeFault tid w ⟨cause, detail⟩ addr = t ∧
      t.ts tid = tsFault ∧ (t.thr tid).pc = (s.thr tid).pc ∧ (t.thr tid).regs = (s.thr tid).regs ∧ (t.thr tid).loops = [] ∧
      t.rd (faultF tid 0) = cause + 256 + 512 * (s.thr tid).bank + 65536 * (s.thr tid).pc + 2 ^ 32 * w.toNat ∧
      t.rd (faultF tid 1) = addr ∧
      t.rd (faultF tid 2) = s.rd F.STITCH_COUNT.COUNT % 2 ^ 32 + 2 ^ 32 * (s.rd F.STITCH_POS.CYCLE % 65536) + 2 ^ 48 * detail ∧
      t.rd (faultF tid 3) = 2 ^ 32 * (s.thr tid).slots ∧
      t.rd (F.MULE_STAT.FAULTS.CNT m) = min (s.rd (F.MULE_STAT.FAULTS.CNT m) + 1) (2 ^ 32 - 1) ∧
      (tid % 8 = 0 → t.rd (F.MULE_EVENT.T0_FAULT m) = 1 ∧ (t.spindle (tid / 8)).t0Fault = true) ∧
      (t.thr (tid / 8 * 8)).events.getLsbD 7 = true ∧
      (s.bounded tid = true → (t.thr tid).pend = [] ∧ (t.thr tid).tickets = [] ∧ (t.thr tid).scratchOp = none) ∧
      t.mem = s.mem ∧ t.lmem = s.lmem ∧ t.scratch = s.scratch) ∧
  (∀ (s : State) (tid : Nat) (w : Work), s.overDue tid = true → tid < 6144 → (s.thr tid).work = some w → w.entry < 65536 →
    ∃ t, exec (.overrun tid) s = .next t ∧ t.ts tid = tsFault ∧ (t.thr tid).work = none ∧ (t.thr tid).pc = (s.thr tid).pc ∧
      t.rd (faultF tid 0) % 256 = 3 ∧ t.rd (faultF tid 2) / 2 ^ 48 = w.entry ∧
      t.rd (F.MULE_STAT.OVERRUNS.CNT (tid / 128)) = min (s.rd (F.MULE_STAT.OVERRUNS.CNT (tid / 128)) + 1) (2 ^ 32 - 1) ∧
      (0, 17 * (tid / 128) + s.rd (F.MULE_ROLE.PHYS (tid / 128) (tid / 8 % 16))) ∈ t.reports)

/-- R113 to R115: a dispatch. -/
def Obligations.WorkerDispatch : Prop :=
  ∀ (s : State) (tid h g id : Nat) (p : Packet) (rest : List (Nat × Packet)), s.mayTake 0 tid = true → h = (if tid / 128 < 24 then 0 else 1) →
    s.groupAt 1 h = some g → s.dispatchable h g = (id, p) :: rest → p.flow = none →
    (∀ (i : Image) (pc : Nat), s.activeImage (tid / 8) = some i → AMap.get? i.bounded p.entry = some pc → AMap.get? s.net.pkts id = some p →
      ∃ t bs, exec (.workerDispatch tid) s = .next t ∧ bs = s.workSlice p ∧
        t.ts tid = tsRun ∧ (t.thr tid).pc = pc ∧ (t.thr tid).slots = 0 ∧ (t.thr tid).budget = 1024 * 2 ^ s.rd F.STITCH_LEN.CUR / 8 - 16 ∧
        (t.thr tid).pend = [] ∧ (t.thr tid).tickets = [] ∧ (t.thr tid).loops = [] ∧ (t.thr tid).dirty = none ∧
        (t.thr tid).readyAt = s.clk.cycles + 64 ∧ (t.thr tid).work = some ⟨p.source, id, p.handle, p.entry⟩ ∧
        (t.thr tid).g 1 = wordOf (sliceB bs 0x1C0 8) ∧ (t.thr tid).g 2 = wordOf (sliceB bs 0x1C8 8) ∧
        (∀ r, r ≠ 1 → r ≠ 2 → (t.thr tid).g r = (s.thr tid).g r) ∧
        t.lmem = Memory.write s.lmem (0x10000 * (tid / 8) + 0x2000 * (tid % 8)) bs ∧
        AMap.get? t.net.pkts id = some { p with stage := .worker tid } ∧ t.groupAt 1 h = none ∧
        (∀ u, u ≠ tid → t.thr u = s.thr u)) ∧
    ((s.activeImage (tid / 8)).bind (fun i => AMap.get? i.bounded p.entry) = none →
      ∃ t, exec (.workerDispatch tid) s = .next t ∧ t.ts tid = tsIdle ∧ t.groupAt 1 h = none ∧ t.lmem = s.lmem ∧
        t.net = (((s.useDispatch h).count F.CARD_STAT.DISPATCHED.CNT 1).slowPath id 1 0x0F 0x20).net)

/-- R89, R90: encoder and decoder agree in both directions: no bit of an encoding is dropped, and every word has one meaning. -/
def Obligations.ObordRoundTrip : Prop :=
  (∀ i : Ob, i.admitted = true → decodeOb (encodeOb i) = .ok i) ∧
  (∀ (w : W32) (i : Ob), decodeOb w = .ok i → encodeOb i = w ∧ i.admitted = true)

/-- Table 3.18, R90: a few words, as a check of the decoder. -/
def Obligations.ObordWords : Prop :=
  decodeOb 0x2921C0B0 = .ok (.bfx 9 1 48 11) ∧ decodeOb 0x6969C000 = .ok (.sld .d false 11 9 0) ∧
  decodeOb 0x7460802E = .ok (.hld .w false 3 0 46) ∧ decodeOb 0x20E00700 = .ok (.movi 7 0x0700) ∧
  decodeOb 0x80388C00 = .ok (.lkup 0 7 2 24) ∧ decodeOb 0x70085010 = .ok (.satom .fetchAdd true 0 8 10) ∧
  decodeOb 0x40B00008 = .ok (.br .ne 12 0 8) ∧ decodeOb 0x40AC0007 = .ok (.br .ne 11 0 7) ∧
  decodeOb 0x4C080003 = .ok (.loop 2 3) ∧ decodeOb 0x50800000 = .ok (.done .deliver 16) ∧
  decodeOb 0x52600000 = .ok (.done .slowpath 12) ∧
  decodeOb 0x38000000 = .illegal 0 ∧ decodeOb 0x20E10700 = .illegal 1 ∧ decodeOb 0x4C000003 = .illegal 2 ∧
  decodeOb 0x2921C3F0 = .illegal 5

/-- R128, R129, R131, R449, Table 4.1. -/
def Obligations.EthernetPorts : Prop :=
  (∀ (s : State) (h : Nat), h < 2 →
    ∃ t, exec (.ethRefclkLoss h) s = .next t ∧ (∀ k < 8, t.portIsDown (8 * h + k)) ∧ h ∈ t.net.eth.needApply ∧
      s.regsKept t ((List.range 8).flatMap (fun k => portFields (8 * h + k))) ∧
      { t with csr := s.csr, net := { t.net with eth := { t.net.eth with needApply := s.net.eth.needApply } } } = s) ∧
  (∀ (s : State) (h : Nat), h < 2 → s.net.egress.queues = [] →
    ∃ t, exec (.ethHalfApply h) s = .next t ∧ (∀ k < 8, t.portIsDown (8 * h + k)) ∧ t.rd (F.ETH_HALF_CFG.APPLY h) = 0 ∧
      t.ethMode h = s.rd (F.ETH_HALF_CFG.MODE h) ∧ t.ethMode (1 - h) = s.ethMode (1 - h) ∧ h ∉ t.net.eth.needApply ∧
      (∀ p < 16, t.portExists p = true ↔ if p / 8 = h then p % 8 % (8 / 2 ^ s.rd (F.ETH_HALF_CFG.MODE h)) = 0 else s.portExists p = true) ∧
      s.regsKept t (F.ETH_HALF_CFG.APPLY h :: (List.range 8).flatMap (fun k => portFields (8 * h + k))) ∧
      { t with csr := s.csr, net := { t.net with eth := s.net.eth } } = s) ∧
  (∀ (s : State) (h n c p m : Nat) (f : EgFrame), h < 2 → s.net.egress.queues = [(8 * n + c, [f])] → n < 4096 → c < 8 → s.bobGood →
    f.handle < 2 ^ 24 → p = s.rd (F.EGRESS_NODE_W0.PORT n) → m = s.rd (F.EGRESS_STAT.DROP_NOPORT.CNT) →
    (p / 8 = h ∧ p % 8 % (8 / 2 ^ s.rd (F.ETH_HALF_CFG.MODE h)) ≠ 0 →
      ∃ t, exec (.ethHalfApply h) s = .next t ∧ t.egQueue n c = [] ∧ t.rd F.EGRESS_STAT.DROP_NOPORT.CNT = min (m + 1) (2 ^ 32 - 1)) ∧
    (p / 8 ≠ h ∨ p % 8 % (8 / 2 ^ s.rd (F.ETH_HALF_CFG.MODE h)) = 0 →
      ∃ t, exec (.ethHalfApply h) s = .next t ∧ t.egQueue n c = [f] ∧ t.rd F.EGRESS_STAT.DROP_NOPORT.CNT = m ∧ t.bob = s.bob)) ∧
  (∀ (s : State) (p v l w : Nat), s.portExists p = true → w = 8 / 2 ^ s.ethMode (p / 8) → s.ethMode (p / 8) < 4 →
    (s.portLanes p = some (v, l) ↔ v ∈ [8, 4, 2, 1] ∧ v ≤ w ∧ p ≤ l ∧ l < p + w ∧ (l - p) % v = 0 ∧ (∀ j < v, s.laneFailed (l + j) = false) ∧
      ∀ v' l', v' ∈ [8, 4, 2, 1] → v' ≤ w → p ≤ l' → l' < p + w → (l' - p) % v' = 0 → (v < v' ∨ v' = v ∧ l' < l) →
        ∃ j < v', s.laneFailed (l' + j) = true)) ∧
  (∀ (s : State) (p v l w : Nat), w = lanesOf (s.ethMode (p / 8)) → s.portExists p = true → s.rd (F.ETH_PORT_CFG.EN p) = 1 →
    (p < 8 ∨ s.haltedB = false) → s.locked = true → s.domOn (56 + p / 8) = true → p / 8 ∉ s.net.eth.needApply →
    (s.portLanes p = some (v, l) →
      ∃ t, exec (.portLinkUp p) s = .next t ∧ t.rd (F.ETH_PORT_STATUS.LINK p) = 1 ∧
        100 * 2 ^ t.rd (F.ETH_PORT_STATUS.SPEED p) = 200 * v ∧
        (∀ j < 8, (t.rd (F.ETH_PORT_STATUS.LANES p)).testBit j = decide (l % 8 ≤ j ∧ j < l % 8 + v)) ∧
        t.rd (F.ETH_PORT_STATUS.DEGRADED p) = (if v < w then 1 else 0) ∧
        (∀ k < 8, ∀ j < 8, (t.rd (F.ETH_PORT_STATUS.FAILED (8 * (p / 8) + k))).testBit j = s.laneFailed (8 * (p / 8) + j)) ∧
        s.regsKept t (portFields p ++ (List.range 8).map (fun k => F.ETH_PORT_STATUS.FAILED (8 * (p / 8) + k))) ∧
        { t with csr := s.csr, flt := { t.flt with restarting := s.flt.restarting } } = s) ∧
    (s.portLanes p = none →
      ∃ t, exec (.portLinkUp p) s = .next t ∧ t.portIsDown p ∧
        (∀ k < 8, ∀ j < 8, (t.rd (F.ETH_PORT_STATUS.FAILED (8 * (p / 8) + k))).testBit j = s.laneFailed (8 * (p / 8) + j)) ∧
        s.regsKept t (portFields p ++ (List.range 8).map (fun k => F.ETH_PORT_STATUS.FAILED (8 * (p / 8) + k))))) ∧
  (∀ (s : State) (p : Nat), s.portExists p = false ∨ s.rd (F.ETH_PORT_CFG.EN p) = 0 ∨ (p / 8 = 1 ∧ s.haltedB = true) ∨ s.locked = false ∨
    s.domOn (56 + p / 8) = false ∨ p / 8 ∈ s.net.eth.needApply → exec (.portLinkUp p) s = .next s) ∧
  (∀ (s : State) (p : Nat), (s.portExists p = false → exec (.portLinkDown p) s = .next s) ∧
    (s.portExists p = true → ∃ t, exec (.portLinkDown p) s = .next t ∧ t.portIsDown p ∧ s.onlyRegs t (portFields p)))

/-- R130, R132 to R134, R136, R256. A frame below 60 bytes is dropped without a count: the model's choice, log entry 20. -/
def Obligations.ReceivedFrames : Prop :=
  (∀ (s : State) (p : Nat) (frame : Bytes),
    s.frameTenant p frame = (if s.rd (F.ETH_PORT_TEN.TMAP_EN p) = 1 ∧ (beAt frame 12 2 = 0x8100 ∨ beAt frame 12 2 = 0x88A8) ∧
      (s.half16 0xC10000 (4096 * p + beAt frame 14 2 % 4096)).testBit 15 = true
      then s.half16 0xC10000 (4096 * p + beAt frame 14 2 % 4096) % 4096 else s.rd (F.ETH_PORT_TEN.DEF_TENANT p)) ∧
    s.framePri p frame = (if beAt frame 12 2 = 0x8100 ∨ beAt frame 12 2 = 0x88A8 then beAt frame 14 2 / 2 ^ 13 else s.rd (F.ETH_PORT_TEN.DEF_PRI p)) ∧
    ∀ q < 8, s.classOf p q = bitsOf (s.rd (F.ETH_PORT_PRITC.MAP p)) (3 * q + 2) (3 * q)) ∧
  (∀ (s : State) (p : Nat) (frame : Bytes) (fcs : Bool), s.portExists p = false ∨ s.linkUp p = false ∨ s.rd (F.ETH_PORT_CFG.EN p) = 0 →
    ∀ n, exec (.frameReceived p frame fcs n) s = .next s) ∧
  (∀ (s : State) (p n : Nat) (frame : Bytes) (fcs : Bool), s.portExists p = true → s.linkUp p = true → s.rd (F.ETH_PORT_CFG.EN p) = 1 → 0 < n →
    exec (.frameReceived p frame fcs n) s =
      exec (.frameReceived p frame fcs 0) (s.wr (F.ETH_STAT.FEC_CORR.CNT p) ((s.rd (F.ETH_STAT.FEC_CORR.CNT p) + n) % 2 ^ 64))) ∧
  (∀ (s : State) (p : Nat) (frame : Bytes), s.portExists p = true → s.linkUp p = true → s.rd (F.ETH_PORT_CFG.EN p) = 1 → s.net.eth.xoff = [] →
    (∃ t, exec (.frameReceived p frame false 0) s = .next t ∧
      t.rd (F.ETH_STAT.RX_FCS_ERR.CNT p) = min (s.rd (F.ETH_STAT.RX_FCS_ERR.CNT p) + 1) (2 ^ 32 - 1) ∧ s.onlyRegs t [F.ETH_STAT.RX_FCS_ERR.CNT p]) ∧
    (min 16000 (s.rd (F.ETH_PORT_CFG.MTU p)) < frame.length →
      ∃ t, exec (.frameReceived p frame true 0) s = .next t ∧
        t.rd (F.ETH_STAT.RX_OVERSIZE.CNT p) = min (s.rd (F.ETH_STAT.RX_OVERSIZE.CNT p) + 1) (2 ^ 32 - 1) ∧ s.onlyRegs t [F.ETH_STAT.RX_OVERSIZE.CNT p]) ∧
    (frame.length ≤ min 16000 (s.rd (F.ETH_PORT_CFG.MTU p)) → frame.length < 60 → exec (.frameReceived p frame true 0) s = .next s) ∧
    (60 ≤ frame.length → frame.length ≤ min 16000 (s.rd (F.ETH_PORT_CFG.MTU p)) →
      (beAt frame 12 2 = 0x8808 → beAt frame 14 2 = 1 →
        ∃ t, exec (.frameReceived p frame true 0) s = .next t ∧
          t.rd (F.ETH_STAT.RX_PAUSE.CNT p) = min (s.rd (F.ETH_STAT.RX_PAUSE.CNT p) + 1) (2 ^ 32 - 1) ∧
          t.rd (F.ETH_STAT.RX_FRAMES.CNT p) = (s.rd (F.ETH_STAT.RX_FRAMES.CNT p) + 1) % 2 ^ 64 ∧
          t.rd (F.ETH_STAT.RX_BYTES.CNT p) = (s.rd (F.ETH_STAT.RX_BYTES.CNT p) + frame.length) % 2 ^ 64 ∧
          s.onlyRegs t [F.ETH_STAT.RX_PAUSE.CNT p, F.ETH_STAT.RX_FRAMES.CNT p, F.ETH_STAT.RX_BYTES.CNT p]) ∧
      (∀ c, beAt frame 12 2 ≠ 0x8808 → s.chooseClass (p / 8) (s.rd F.BOBBIN_CFG.ING_CHUNK) true = some c →
        s.atStop (p / 8) (s.frameTenant p frame) c = true → s.pfcOn p (s.framePri p frame) = false →
        ∃ t, exec (.frameReceived p frame true 0) s = .next t ∧
          t.rd (F.ETH_STAT.RX_NOBUF.CNT p) = min (s.rd (F.ETH_STAT.RX_NOBUF.CNT p) + 1) (2 ^ 32 - 1) ∧
          t.rd F.BOBBIN_STAT.STOP_DROP.CNT = min (s.rd F.BOBBIN_STAT.STOP_DROP.CNT + 1) (2 ^ 32 - 1) ∧
          s.onlyRegs t [F.ETH_STAT.RX_NOBUF.CNT p, F.BOBBIN_STAT.STOP_DROP.CNT, F.ETH_STAT.RX_FRAMES.CNT p, F.ETH_STAT.RX_BYTES.CNT p]) ∧
      (∀ (b q tn : Nat) (u v : State), beAt frame 12 2 ≠ 0x8808 → q = s.framePri p frame → tn = s.frameTenant p frame →
        u = (s.countWrap (F.ETH_STAT.RX_FRAMES.CNT p) 1).countWrap (F.ETH_STAT.RX_BYTES.CNT p) frame.length →
        u.storePacket (p / 8) tn (editorEp (p / 8)) (s.rd F.BOBBIN_CFG.ING_CHUNK) false frame = (some b, v) →
        (∀ c, s.chooseClass (p / 8) (s.rd F.BOBBIN_CFG.ING_CHUNK) true = some c → s.atStop (p / 8) tn c = false) →
        ∃ t k, exec (.frameReceived p frame true 0) s = .next t ∧ t.net.nextPkt = s.net.nextPkt + 1 ∧ t.mem = v.mem ∧ t.bob = v.bob ∧
          t.pkt? s.net.nextPkt = some k ∧ k.half = p / 8 ∧ k.source = 0 ∧ k.port = p ∧ k.tenant = tn ∧ k.pri = q ∧ k.tc = s.classOf p q ∧
          k.handle = b ∧ k.len = frame.length ∧ k.stage = .admission ∧ k.rawSum = onesSum (frame.drop 14) ∧
          k.timestamp = s.stampAt p (F.PTP_PORT_W0.RX_DLY p) ∧ (∀ i, i ≠ s.net.nextPkt → t.pkt? i = s.pkt? i) ∧
          (s.pfcOn p q = false → t.outs = s.outs ∧ t.net.eth = s.net.eth) ∧
          (s.pfcOn p q = true → (∀ e ∈ s.net.pkts, e.1 < s.net.nextPkt) → q < 8 →
            s.rd (F.ETH_PORT_PFC.XOFF p) * 4096 ≤ s.waitingBytes p q + frame.length →
            t.outs = s.outs ++ [.pfc p q (s.rd (F.ETH_PORT_TEN.PFC_QUANTA p))] ∧
              t.rd (F.ETH_STAT.PFC_TX.CNT p) = (s.rd (F.ETH_STAT.PFC_TX.CNT p) + 1) % 2 ^ 64)))) ∧
  (∀ (s : State) (p : Nat) (frame : Bytes), s.net.eth.xoff = [] →
    (s.portExists p = false ∨ s.linkUp p = false → exec (.pfcFrameReceived p frame) s = .next s) ∧
    (s.portExists p = true → s.linkUp p = true →
      ∃ t, exec (.pfcFrameReceived p frame) s = .next t ∧ t.rd (F.ETH_STAT.PFC_RX.CNT p) = (s.rd (F.ETH_STAT.PFC_RX.CNT p) + 1) % 2 ^ 64 ∧
        s.regsKept t [F.ETH_STAT.PFC_RX.CNT p] ∧
        { t with csr := s.csr, net := { t.net with eth := { t.net.eth with paused := s.net.eth.paused } } } = s ∧
        ∀ p' q, q < 8 → t.pauseEnd p' q =
          if p' = p ∧ s.rd (F.ETH_PORT_CFG.PFC_RX_EN p) = 1 ∧ (beAt frame 16 2).testBit q = true then
            (if beAt frame (18 + 2 * q) 2 = 0 then 0
             else s.clk.time + beAt frame (18 + 2 * q) 2 * 512 * 8 / max 1 (s.portRate p))
          else s.pauseEnd p' q)) ∧
  (∀ (s : State) (p c : Nat), s.classPaused p c = true ↔ ∃ q < 8, bitsOf (s.rd (F.ETH_PORT_PRITC.MAP p)) (3 * q + 2) (3 * q) = c ∧ s.pauseEnd p q ≠ 0) ∧
  (∀ (s : State) (p c : Nat), c < 8 →
    ∃ t, exec (.pfcPauseExpiry p c) s = .next t ∧
      { t with net := { t.net with eth := { t.net.eth with paused := s.net.eth.paused } } } = s ∧
      ∀ p' q, q < 8 → t.pauseEnd p' q = if p' = p ∧ s.classOf p q = c ∧ s.pauseEnd p q ≤ s.clk.time then 0 else s.pauseEnd p' q) ∧
  (∀ (s : State) (p q : Nat), p < 16 → q < 8 →
    (AMap.get? s.net.eth.xoff (8 * p + q) = none → exec (.pfcXoffResend p q) s = .next s) ∧
    (∀ (x : Xoff) (n r : Nat), AMap.get? s.net.eth.xoff (8 * p + q) = some x → n = s.rd (F.ETH_PORT_TEN.PFC_QUANTA p) → r = s.portRate p →
      (s.xoffHolds p q x.parts = true →
        (s.pfcOn p q = false ∨ s.linkUp p = false ∨ s.clk.time * r < x.sentAt * r + n * 256 * 8 → exec (.pfcXoffResend p q) s = .next s) ∧
        (s.pfcOn p q = true → s.linkUp p = true → x.sentAt * r + n * 256 * 8 ≤ s.clk.time * r →
          ∃ t, exec (.pfcXoffResend p q) s = .next t ∧ t.outs = s.outs ++ [.pfc p q n] ∧
            AMap.get? t.net.eth.xoff (8 * p + q) = some { x with sentAt := s.clk.time } ∧
            t.rd (F.ETH_STAT.PFC_TX.CNT p) = (s.rd (F.ETH_STAT.PFC_TX.CNT p) + 1) % 2 ^ 64 ∧ s.regsKept t [F.ETH_STAT.PFC_TX.CNT p])) ∧
      (s.net.eth.xoff = [(8 * p + q, x)] → s.xoffHolds p q x.parts = false →
        (s.pfcOn p q = false → s.waitingBytes p q ≤ s.rd (F.ETH_PORT_PFC.XON p) * 4096 →
          exec (.pfcXoffResend p q) s = .next { s with net := { s.net with eth := { s.net.eth with xoff := [] } } }) ∧
        (s.pfcOn p q = true → s.waitingBytes p q ≤ s.rd (F.ETH_PORT_PFC.XON p) * 4096 →
          ∃ t, exec (.pfcXoffResend p q) s = .next t ∧ t.outs = s.outs ++ [.pfc p q 0] ∧ t.net.eth.xoff = [] ∧
            s.regsKept t [F.ETH_STAT.PFC_TX.CNT p]) ∧
        (s.rd (F.ETH_PORT_PFC.XON p) * 4096 < s.waitingBytes p q → exec (.pfcXoffResend p q) s = .next s))))

/-- R46, R135, R137, Table 1.7. -/
def Obligations.TimeAndPps : Prop :=
  (∀ s : State, ∃ t, exec .stepPtp s = .next t ∧ t.rd F.PTP_NS.NS = s.rd F.PTP_SET.NS ∧ t.net.ptp.frac = 0 ∧ s.regsKept t [F.PTP_NS.NS] ∧
    { t with csr := s.csr, net := { t.net with ptp := { t.net.ptp with frac := s.net.ptp.frac, acc := s.net.ptp.acc } } } = s) ∧
  (∀ (s : State) (v : Bool) (e st : Nat), e = s.rd F.STITCH_PTP_CTRL.EN → st = s.rd F.STITCH_PTP_CTRL.STATE →
    ∃ t, exec (.ptpValidWrite v) s = .next t ∧ t.rd F.PTP_CTRL.VALID = (if v then 1 else 0) ∧
      t.rd F.STITCH_PTP_CTRL.STATE =
        (if e = 0 then lockOff else if v = false then lockHoldover else if st = lockOff ∨ st = lockHoldover then lockAcquiring else st) ∧
      s.regsKept t [F.PTP_CTRL.VALID, F.STITCH_PTP_CTRL.STATE] ∧
      { t with csr := s.csr, lace := { t.lace with lockRun := s.lace.lockRun } } = s) ∧
  (∀ (s : State) (n : Nat), n = s.rd F.PTP_NS.NS →
    (s.rd F.PTP_CTRL.PPS_OUT_EN = 1 → n % 1000000000 = s.rd F.PTP_PPS_OUT_OFF.OFF → s.net.ptp.ppsUntil = none →
      ∃ t, exec .ppsOutRise s = .next t ∧ t.outs = s.outs ++ [.pps true] ∧
        t.net.ptp.ppsUntil = some (n + 1000 * (if s.rd F.PTP_CTRL.PPS_WIDTH = 0 then 1 else s.rd F.PTP_CTRL.PPS_WIDTH)) ∧
        { t with outs := s.outs, net := { t.net with ptp := { t.net.ptp with ppsUntil := s.net.ptp.ppsUntil } } } = s) ∧
    (s.rd F.PTP_CTRL.PPS_OUT_EN = 0 ∨ n % 1000000000 ≠ s.rd F.PTP_PPS_OUT_OFF.OFF ∨ s.net.ptp.ppsUntil ≠ none → exec .ppsOutRise s = .next s) ∧
    (∀ e, s.net.ptp.ppsUntil = some e →
      (n < e → exec .ppsOutFall s = .next s) ∧
      (e ≤ n → ∃ t, exec .ppsOutFall s = .next t ∧ t.outs = s.outs ++ [.pps false] ∧ t.net.ptp.ppsUntil = none ∧
        { t with outs := s.outs, net := { t.net with ptp := { t.net.ptp with ppsUntil := s.net.ptp.ppsUntil } } } = s)) ∧
    (s.net.ptp.ppsUntil = none → exec .ppsOutFall s = .next s) ∧
    (s.rd F.PTP_CTRL.PPS_IN_EN = 1 →
      ∃ t, exec .ppsInEdge s = .next t ∧ t.rd F.PTP_PPS_IN.NS = n ∧ t.rd F.PTP_CTRL.PPS_IN_SEEN = 1 ∧
        s.onlyRegs t [F.PTP_PPS_IN.NS, F.PTP_CTRL.PPS_IN_SEEN]) ∧
    (s.rd F.PTP_CTRL.PPS_IN_EN = 0 → exec .ppsInEdge s = .next s))

/-- R134, R136, R169 to R171. -/
def Obligations.EgressScheduling : Prop :=
  (∀ (s : State) (p : Nat), s.portExists p = false ∨ s.linkUp p = false ∨ (p / 8 = 1 ∧ s.haltedB = true) ∨ s.locked = false ∨
    (s.rd (F.EGRESS_PORT_W0.SHAPE_EN p) = 1 ∧ AMap.getD s.net.egress.portBucket p 0 < 0) ∨ s.clk.time < AMap.getD s.net.egress.busy p 0 ∨
    (∀ n < 4096, ∀ c < 8, s.rd (F.EGRESS_NODE_W0.PORT n) = p → s.egQueue n c = []) → exec (.egressFrameStart p) s = .next s) ∧
  (∀ (s : State) (p : Nat) (may : Nat → Nat → Prop) (ready : Nat → Prop),
    (∀ n c, may n c ↔ c < 8 ∧ s.egQueue n c ≠ [] ∧ s.classPaused p c = false) →
    (∀ n, ready n ↔ n < 4096 ∧ s.rd (F.EGRESS_NODE_W0.EN n) = 1 ∧ s.rd (F.EGRESS_NODE_W0.PORT n) = p ∧
      (s.rd (F.EGRESS_NODE_W0.SHAPE_EN n) = 0 ∨ 0 ≤ AMap.getD s.net.egress.nodeBucket n 0) ∧ ∃ c, may n c) →
    s.portExists p = true → s.linkUp p = true → (p < 8 ∨ s.haltedB = false) → s.locked = true → s.portShaped p = true →
    AMap.getD s.net.egress.busy p 0 ≤ s.clk.time → (∃ n, ready n) → s.net.eth.xoff = [] → s.bobGood →
    (∀ n c, ∀ f ∈ s.egQueue n c, f.len ≤ 16384 ∧ f.handle < 2 ^ 24) →
    ∃ t n c f rest, exec (.egressFrameStart p) s = .next t ∧ ready n ∧ may n c ∧ s.egQueue n c = f :: rest ∧
      (∀ m, ready m → s.rd (F.EGRESS_NODE_W0.BAND n) ≤ s.rd (F.EGRESS_NODE_W0.BAND m)) ∧
      ((s.rd (F.EGRESS_NODE_WC.TC_STRICT n)).testBit c = true → ∀ d, may n d → (s.rd (F.EGRESS_NODE_WC.TC_STRICT n)).testBit d = true → d ≤ c) ∧
      ((s.rd (F.EGRESS_NODE_WC.TC_STRICT n)).testBit c = false → ∀ d, may n d → (s.rd (F.EGRESS_NODE_WC.TC_STRICT n)).testBit d = false) ∧
      t.egQueue n c = rest ∧ (∀ m d, d < 8 → (m ≠ n ∨ d ≠ c) → t.egQueue m d = s.egQueue m d) ∧
      (∀ q, AMap.getD t.net.egress.portBucket q 0 = AMap.getD s.net.egress.portBucket q 0 -
        (if q = p ∧ s.rd (F.EGRESS_PORT_W0.SHAPE_EN p) = 1 then 10000 * ((f.len : Int) + 4 + s.rd (F.EGRESS_PORT_W0.OVH p)) else 0)) ∧
      (∀ m, AMap.getD t.net.egress.nodeBucket m 0 = AMap.getD s.net.egress.nodeBucket m 0 -
        (if m = n ∧ s.rd (F.EGRESS_NODE_W0.SHAPE_EN n) = 1 then 10000 * ((f.len : Int) + 4 + s.rd (F.EGRESS_PORT_W0.OVH p)) else 0)) ∧
      AMap.getD t.net.egress.busy p 0 = s.clk.time + (f.len + 24) * 8 * 8 / max 1 (s.portRate p) ∧
      t.rd (F.ETH_STAT.TX_FRAMES.CNT p) = (s.rd (F.ETH_STAT.TX_FRAMES.CNT p) + 1) % 2 ^ 64 ∧
      (f.ptpOff = none → t.outs = s.outs ++ [.ethFrame p (s.chainBytes f.handle)] ∧
        t.rd (F.ETH_STAT.TX_BYTES.CNT p) = (s.rd (F.ETH_STAT.TX_BYTES.CNT p) + (s.chainBytes f.handle).length) % 2 ^ 64) ∧
      (∀ o b, f.ptpOff = some o → b = s.chainBytes f.handle → beAt b 12 2 = 0x88F7 → 14 ≤ o → o + 16 ≤ b.length →
        t.outs = s.outs ++ [.ethFrame p (putB b (o + 8)
          (toBE 8 ((beAt b (o + 8) 8 + s.stampAt p (F.PTP_PORT_W4.TX_DLY p) * 2 ^ 16) % 2 ^ 64)))]) ∧
      (f.tstag = none → t.net.ptp = s.net.ptp) ∧
      (∀ g, f.tstag = some g →
        ((s.txts p).length < 64 → t.txts p = s.txts p ++ [(s.stampAt p (F.PTP_PORT_W4.TX_DLY p), g)] ∧ t.rd (F.PTP_TXTS_W8.VALID p) = 1) ∧
        (64 ≤ (s.txts p).length → t.txts p = s.txts p ∧
          t.rd (F.PTP_TXTS_W8.DROPPED p) = min (s.rd (F.PTP_TXTS_W8.DROPPED p) + 1) 127))) ∧
  (∀ s : State, 5 * s.clk.time < (s.net.egress.refills + 1) * 16384 → exec .shaperRefill s = .next s) ∧
  (∀ s : State, (s.net.egress.refills + 1) * 16384 ≤ 5 * s.clk.time →
    ∃ t, exec .shaperRefill s = .next t ∧ t.net.egress.refills = s.net.egress.refills + 1 ∧
      (∀ p < 16, AMap.getD t.net.egress.portBucket p 0 =
        min (AMap.getD s.net.egress.portBucket p 0 + 512 * (s.rd (F.EGRESS_PORT_W0.RATE p) : Int)) (640000 * (s.rd (F.EGRESS_PORT_W4.BURST p) : Int))) ∧
      (∀ n < 4096, AMap.getD t.net.egress.nodeBucket n 0 =
        min (AMap.getD s.net.egress.nodeBucket n 0 + 512 * (s.rd (F.EGRESS_NODE_W4.RATE n) : Int)) (640000 * (s.rd (F.EGRESS_NODE_W8.BURST n) : Int))) ∧
      { t.net.egress with portBucket := s.net.egress.portBucket, nodeBucket := s.net.egress.nodeBucket, refills := s.net.egress.refills } =
        s.net.egress ∧ { t with net := { t.net with egress := s.net.egress } } = s)

/-- R133, R138 to R143, R160, R264, Tables 4.2 and 4.3. The origin and detail of the ECC case are DEDUCED, log entry 160. That a swap exchanges the two copies of every table is the model's reading
(DEDUCED, log entry 10). -/
def Obligations.CardParse : Prop :=
  (∀ (m : Microcode) (hdr : Bytes) (free rej start : Nat) (r : Parse), r = m.parse hdr free rej start → rej < 64 → start < 512 →
    1 ≤ r.count ∧ r.count ≤ 25 ∧ (r.long = true ↔ r.count = 25) ∧ (r.trunc = true → r.rejected = true) ∧
      (r.long = true → r.rejected = true) ∧ (r.rejected = true → r.decision = rej) ∧ r.decision < 64 ∧ r.state < 512 ∧ r.tag < 2 ^ 64 ∧
      r.key.length = 128 ∧ r.layers.length = 8 ∧ ∀ l ∈ r.layers, l ≤ 255) ∧
  (∀ (m : Microcode) (hdr : Bytes) (free rej start w0 w2 w3 : Nat) (r : Parse), r = m.parse hdr free rej start →
    w0 = m.state start 0 → w2 = m.state start 2 → w3 = m.state start 3 →
    ((w3.testBit 31 = true ∧ 127 < bitsOf w3 20 14 + bitsOf w3 24 21) ∨ 2 ≤ bitsOf w0 31 30 ∨ (bitsOf w0 31 30 = 0 ∧ bitsOf w2 31 30 = 3) →
      r.rejected = true ∧ r.trunc = false ∧ r.long = false ∧ r.decision = rej ∧ r.state = start ∧ r.count = 1) ∧
    (w3.testBit 31 = false ∨ bitsOf w3 20 14 + bitsOf w3 24 21 ≤ 127 → bitsOf w0 31 30 = 1 →
      r.rejected = false ∧ r.decision = bitsOf w0 26 21 ∧ r.state = start ∧ r.count = 1 ∧
        (∀ k < 8, r.layers[k]? = some (if w2.testBit 10 = true ∧ bitsOf w2 13 11 = k then 0 else 255)) ∧
        r.tag = (if w3.testBit 7 = true then 2 ^ bitsOf w3 13 8 else 0) ∧
        ∀ k, (∀ j ≤ bitsOf w3 24 21, bitsOf w3 30 25 + j < 64) → r.key.getD k 0 =
          if w3.testBit 31 = true ∧ bitsOf w3 20 14 ≤ k ∧ k ≤ bitsOf w3 20 14 + bitsOf w3 24 21 then
            hdr.getD (bitsOf w3 30 25 + (if w3.testBit 6 = true then bitsOf w3 24 21 - (k - bitsOf w3 20 14) else k - bitsOf w3 20 14)) 0
          else 0)) ∧
  (∀ (s : State) (v : W32),
    ∃ t, exec (.cardCommit v) s = .next t ∧
      t.rd F.CARD_COMMIT.BUSY_WRITE = (if v.getLsbD 30 then 0 else s.rd F.CARD_COMMIT.BUSY_WRITE) ∧
      t.rd F.CARD_COMMIT.DONE = (if v.getLsbD 29 then 0 else s.rd F.CARD_COMMIT.DONE) ∧
      (v.getLsbD 0 = true ∧ s.rd F.CARD_COMMIT.PENDING = 0 → t.rd F.CARD_COMMIT.PENDING = 1 ∧ t.net.card.goAt = some s.clk.cycles) ∧
      (v.getLsbD 0 = false ∨ s.rd F.CARD_COMMIT.PENDING = 1 → t.rd F.CARD_COMMIT.PENDING = s.rd F.CARD_COMMIT.PENDING ∧ t.net = s.net) ∧
      s.regsKept t [F.CARD_COMMIT.BUSY_WRITE, F.CARD_COMMIT.DONE, F.CARD_COMMIT.PENDING, F.CARD_COMMIT.GO] ∧
      { t with csr := s.csr, net := { t.net with card := { t.net.card with goAt := s.net.card.goAt } } } = s) ∧
  (∀ s : State, (∀ c, s.net.card.goAt = some c → s.atBoundary = false ∨ s.clk.cycles < c + 2048) → exec .cardSwap s = .next s) ∧
  (∀ (s : State) (c : Nat), s.net.card.goAt = some c → s.atBoundary = true → c + 2048 ≤ s.clk.cycles →
    ∃ t, exec .cardSwap s = .next t ∧ t.net.card = { s.net.card with active := s.net.card.shadow, shadow := s.net.card.active, goAt := none } ∧
      t.rd F.CARD_COMMIT.PENDING = 0 ∧ t.rd F.CARD_COMMIT.DONE = 1 ∧
      s.regsKept t [F.CARD_COMMIT.DONE, F.CARD_COMMIT.PENDING, F.CARD_COMMIT.GO] ∧
      { t with csr := s.csr, net := { t.net with card := s.net.card } } = s) ∧
  (∀ (s : State) (lane : Nat), 10 ≤ lane ∨ s.groupAt 0 lane = none ∨ s.rd (F.CARD_LANE.STATE lane) ≠ 0 ∨ (5 ≤ lane ∧ s.fencedB = true) ∨
    (∃ g, s.groupAt 0 lane = some g ∧ s.admission (if lane < 5 then 0 else 1) g = []) → exec (.cardAdmission lane) s = .next s) ∧
  (∀ (s : State) (lane h g id : Nat) (p : Packet) (rest : List (Nat × Packet)), lane < 10 → h = (if lane < 5 then 0 else 1) →
    s.groupAt 0 lane = some g → s.rd (F.CARD_LANE.STATE lane) = 0 → (lane < 5 ∨ s.fencedB = false) → s.admission h g = (id, p) :: rest →
    (∀ e ∈ (id, p) :: rest, s.tenantSlow h e.2.tenant = false) → s.net.eth.xoff = [] →
    ∃ t q, exec (.cardAdmission lane) s = .next t ∧ t.pkt? id = some q ∧ q.stage = .parsing lane s.clk.cycles ∧
      q.parse = some (s.net.card.active.parse ((s.chainBytes p.handle).take 256) s.freeCtr (s.rd F.CARD_CFG.REJ_DEC)
        (if p.source = 0 then s.rd F.CARD_START.ETH else if p.source = 1 then s.rd F.CARD_START.HOST
         else if p.source = 2 then s.rd F.CARD_START.PEER else s.rd F.CARD_START.CTRL)) ∧
      (∀ r, q.parse = some r → q.dec = s.net.card.active.decision r.decision ∧ (∀ k < 8, q.layers[k]? = (r.layers[k]?).map (fun l => if l = 255 then 2 ^ 16 else l)) ∧ q.entry = bitsOf q.dec 61 57 ∧
        q.bypass = q.dec.testBit 56) ∧
      q.handle = p.handle ∧ q.tenant = p.tenant ∧ q.len = p.len ∧ t.groupAt 0 lane = none ∧ (∀ k, k ≠ id → t.pkt? k = s.pkt? k) ∧
      t.csr = s.csr ∧ t.mem = s.mem ∧ t.bob = s.bob) ∧
  (∀ (s : State) (id lane since : Nat) (p : Packet) (r : Parse), s.pkt? id = some p → p.stage = .parsing lane since → p.parse = some r →
    s.clk.cycles < since + 32 → exec (.parseEnd id) s = .next s) ∧
  (∀ (s : State) (id lane since : Nat) (p p' : Packet) (r : Parse), s.pkt? id = some p → p.stage = .parsing lane since → p.parse = some r →
    since + 32 ≤ s.clk.cycles → s.net.eth.xoff = [] → s.bobGood → p.handle < 2 ^ 24 → AMap.rising s.net.pkts = true →
    (∀ b ∈ s.chain p.handle, b ∉ s.bob.bad) → p' = { p with stitch := s.stitch, tc := if p.dec.testBit 32 = true then bitsOf p.dec 35 33 else p.tc } →
    ∃ t, exec (.parseEnd id) s = .next t ∧ (∀ k, k ≠ id → t.pkt? k = s.pkt? k) ∧
      t.rd F.CARD_STAT.PARSED.CNT = min (s.rd F.CARD_STAT.PARSED.CNT + 1) (2 ^ 32 - 1) ∧
      t.rd F.CARD_STAT.REJECTED.CNT = min (s.rd F.CARD_STAT.REJECTED.CNT + if r.rejected then 1 else 0) (2 ^ 32 - 1) ∧
      t.rd F.CARD_STAT.TRUNC.CNT = min (s.rd F.CARD_STAT.TRUNC.CNT + if r.trunc then 1 else 0) (2 ^ 32 - 1) ∧
      t.rd F.CARD_STAT.LONG.CNT = min (s.rd F.CARD_STAT.LONG.CNT + if r.long then 1 else 0) (2 ^ 32 - 1) ∧
      (bitsOf p.dec 63 62 = 0 → ∃ l0 l1,
        (l0 = if bitsOf p.dec 53 49 < 28 then some (s.word (0x800000 + 8 * bitsOf p.dec 53 49), bitsOf p.dec 53 49) else none) ∧
        (l1 = if bitsOf p.dec 44 40 < 28 then some (s.word (0x800000 + 8 * bitsOf p.dec 44 40), bitsOf p.dec 44 40) else none) ∧
        t.pkt? id = some { p' with stage := .lookups s.clk.cycles, prof0 := l0, prof1 := l1 } ∧
        t.rd F.LAST_STAT.LOOKUPS.CNT =
          min (s.rd F.LAST_STAT.LOOKUPS.CNT + (if l0.isSome then 1 else 0) + if l1.isSome then 1 else 0) (2 ^ 32 - 1) ∧
        { t with csr := s.csr, net := { t.net with pkts := s.net.pkts } } = s) ∧
      (bitsOf p.dec 63 62 = 2 → s.toSlowPath t id p' 0 0 r.decision) ∧
      (bitsOf p.dec 63 62 = 1 ∨ bitsOf p.dec 63 62 = 3 → t.pkt? id = none ∧ t.yarn = s.yarn ∧
        t.rd F.CARD_STAT.DEC_DROP.CNT = min (s.rd F.CARD_STAT.DEC_DROP.CNT + 1) (2 ^ 32 - 1))) ∧
  (∀ (s : State) (id lane since b : Nat) (p : Packet) (r : Parse), s.pkt? id = some p → p.stage = .parsing lane since → p.parse = some r →
    since + 32 ≤ s.clk.cycles → s.net.eth.xoff = [] → b ∈ s.chain p.handle → b ∈ s.bob.bad →
    ∃ t, exec (.parseEnd id) s = .next t ∧ s.toSlowPath t id p 0 15 12)

/-- R144, R145, R151, R154 to R157, Tables 4.4 and 4.8. Which context a full cache gives up is a free value. -/
def Obligations.FlowsAndDispatch : Prop :=
  (∀ (s : State) (id since : Nat) (b0 b1 : Bool) (p : Packet), s.pkt? id = some p → p.stage = .lookups since →
    (p.prof0 ≠ none ∧ b0 = false) ∨ (p.prof1 ≠ none ∧ b1 = false) → s.clk.cycles < since + max 1 (s.rd F.LAST_CFG.PRE_DL) →
    exec (.preDispatchWaitEnd id b0 b1) s = .next s) ∧
  (∀ (s : State) (id : Nat) (b0 b1 : Bool), (∀ p since, s.pkt? id = some p → p.stage ≠ .lookups since) →
    exec (.preDispatchWaitEnd id b0 b1) s = .next s) ∧
  (∀ (s : State) (id since : Nat) (b1 : Bool) (x : Nat × Nat) (p : Packet), s.pkt? id = some p → p.stage = .lookups since →
    p.prof0 = some x → p.prof1 = none → since + max 1 (s.rd F.LAST_CFG.PRE_DL) ≤ s.clk.cycles → p.flow = none →
    ∃ t, exec (.preDispatchWaitEnd id false b1) s = .next t ∧
      t.pkt? id = some { p with lk0 := ⟨2, []⟩, lk1 := ⟨4, []⟩, flowSt := 0, stage := .dispatch } ∧ (∀ k, k ≠ id → t.pkt? k = s.pkt? k) ∧
      t.rd F.CARD_STAT.PRE_LATE.CNT = min (s.rd F.CARD_STAT.PRE_LATE.CNT + 1) (2 ^ 32 - 1) ∧
      t.rd F.LAST_STAT.LATE_DISCARD.CNT = min (s.rd F.LAST_STAT.LATE_DISCARD.CNT + 1) (2 ^ 32 - 1) ∧
      s.regsKept t [F.CARD_STAT.PRE_LATE.CNT, F.LAST_STAT.LATE_DISCARD.CNT] ∧
      { t with csr := s.csr, net := { t.net with pkts := s.net.pkts } } = s) ∧
  (∀ (s : State) (id since w n k f : Nat) (b1 : Bool) (p q : Packet) (r : Parse) (data : Bytes), s.pkt? id = some p → p.stage = .lookups since →
    p.parse = some r → p.prof0 = some (w, n) → p.prof1 = none → bitsOf p.dec 55 54 = 1 → w.testBit 19 = true →
    s.lookup p.half w n p.tenant (sliceB r.key (8 * bitsOf p.dec 48 45) (8 * bitsOf w 55 52)) = (⟨0, data⟩, s) →
    f = leAt data (bitsOf w 18 13 / 4 * 4) 4 → k = f % 2 ^ 22 → q = { p with lk0 := ⟨0, data⟩, lk1 := ⟨4, []⟩ } →
    ∃ t, exec (.preDispatchWaitEnd id true b1) s = .next t ∧
      t.rd F.LAST_STAT.HITS.CNT = min (s.rd F.LAST_STAT.HITS.CNT + 1) (2 ^ 32 - 1) ∧
      (f.testBit 31 = false ∨ s.rd F.LAST_FCTX_CFG.COUNT ≤ k → t.pkt? id = some { q with flowSt := 3, flow := none, stage := .dispatch }) ∧
      (∀ st, f.testBit 31 = true → k < s.rd F.LAST_FCTX_CFG.COUNT →
        (st = if (s.ctxCached k).isSome ∧ s.ctxFenced k = false then 1 else 2) →
        (s.ctxHeld k = true → s.net.last.holdList = [] →
          t.pkt? id = some { q with flowSt := st, flow := some k, stage := .hold } ∧ t.net.last.holdList = [id]) ∧
        (s.ctxHeld k = false → st = 2 ∨ p.bypass = false ∨ (leAt (s.ctxBytes k) 0 4).testBit 31 = false ∨ (leAt (s.ctxBytes k) 0 4).testBit 30 = false →
          t.pkt? id = some { q with flowSt := st, flow := some k, stage := .dispatch } ∧ t.net.last = s.net.last) ∧
        (∀ c, s.ctxHeld k = false → st = 1 → p.bypass = true → s.ctxCached k = some c → (leAt c.bytes 0 4).testBit 31 = true →
          (leAt c.bytes 0 4).testBit 30 = true → leAt c.bytes 4 1 ≤ 16 → c.bytes.length = 256 →
          ∃ c', t.ctxCached k = some c' ∧ c'.dirty = true ∧ leAt c'.bytes 8 8 = (leAt c.bytes 8 8 + 1) % 2 ^ 64 ∧
            leAt c'.bytes 0x10 8 = (leAt c.bytes 0x10 8 + p.len) % 2 ^ 64 ∧ leAt c'.bytes 0x18 8 = s.stitch % 2 ^ 64 ∧
            sliceB c'.bytes 0x20 224 = sliceB c.bytes 0x20 224 ∧ sliceB c'.bytes 0 8 = sliceB c.bytes 0 8 ∧
            t.rd F.CARD_STAT.BYPASSED.CNT = min (s.rd F.CARD_STAT.BYPASSED.CNT + 1) (2 ^ 32 - 1) ∧
            ∃ ws, t.pkt? id = some { q with flowSt := 1, flow := some k, stage := .editor, list := ws } ∧ ws.length = leAt c.bytes 4 1 ∧
              ∀ i < leAt c.bytes 4 1, ws[i]? = some (BitVec.ofNat 64 (leAt c.bytes (0x20 + 8 * i) 8))))) ∧
  (∀ (s : State) (k : Nat), AMap.get? s.net.last.holders k = none → exec (.flowHoldRelease k) s = .next s) ∧
  (∀ (s : State) (k : Nat) (x : Holder), AMap.get? s.net.last.holders k = some x →
    ((s.thr x.tid).gen ≤ x.gen + 1 → (s.thr x.tid).work.isSome ∨ (s.thr x.tid).retireAt.isSome → exec (.flowHoldRelease k) s = .next s) ∧
    (x.gen + 1 < (s.thr x.tid).gen ∨ ((s.thr x.tid).work = none ∧ (s.thr x.tid).retireAt = none) →
      (s.net.last.holdList = [] → ∃ t, exec (.flowHoldRelease k) s = .next t ∧ s.ctxHeld k = true ∧ t.ctxHeld k = false ∧
        (∀ j, j ≠ k → AMap.get? t.net.last.holders j = AMap.get? s.net.last.holders j) ∧
        { t with net := { t.net with last := { t.net.last with holders := s.net.last.holders } } } = s) ∧
      (∀ id p, s.net.last.holdList = [id] → s.pkt? id = some p → p.flow ≠ some k →
        ∃ t, exec (.flowHoldRelease k) s = .next t ∧ t.ctxHeld k = false ∧ t.net.last.holdList = [id] ∧ t.net.pkts = s.net.pkts) ∧
      (∀ id p, s.net.last.holdList = [id] → s.pkt? id = some p → p.flow = some k → p.bypass = false ∨ p.flowSt ≠ 1 →
        ∃ t, exec (.flowHoldRelease k) s = .next t ∧ t.ctxHeld k = false ∧ t.net.last.holdList = [] ∧
          t.pkt? id = some { p with held := true, stage := .dispatch } ∧ (∀ j, j ≠ id → t.pkt? j = s.pkt? j)) ∧
      (∀ id p c, s.net.last.holdList = [id] → s.pkt? id = some p → p.flow = some k → p.bypass = true → p.flowSt = 1 →
        s.ctxCached k = some c → (leAt c.bytes 0 4).testBit 31 = true → (leAt c.bytes 0 4).testBit 30 = true → leAt c.bytes 4 1 ≤ 16 →
        c.bytes.length = 256 →
        ∃ t q, exec (.flowHoldRelease k) s = .next t ∧ t.net.last.holdList = [] ∧ t.pkt? id = some q ∧ q.stage = .editor ∧ q.held = true ∧
          q.list.length = leAt c.bytes 4 1))) ∧
  (∀ (s : State) (k : Nat), AMap.get? s.net.last.fetches k = none → exec (.fctxFill k) s = .next s) ∧
  (∀ (s : State) (k m h : Nat), AMap.get? s.net.last.fetches k = some m → h = s.ctxHome k →
    (s.memCheck (s.ctxAddr k) 256 ≠ (0, 0) →
      ∃ t, exec (.fctxFill k) s = .next t ∧ AMap.get? t.net.last.fetches k = none ∧ t.net.last.cache = s.net.last.cache ∧ t.mem = s.mem) ∧
    (s.memCheck (s.ctxAddr k) 256 = (0, 0) → s.memDone m = false → exec (.fctxFill k) s = .next s) ∧
    (s.memCheck (s.ctxAddr k) 256 = (0, 0) → s.memDone m = true →
      (s.net.last.cache.filter (fun e => s.ctxHome e.1 == h)).length < 131072 →
      ∃ t, exec (.fctxFill k) s = .next t ∧ t.ctxCached k = some ⟨s.devRead (s.ctxAddr k) 256, false⟩ ∧
        (∀ j, j ≠ k → t.ctxCached j = s.ctxCached j) ∧ AMap.get? t.net.last.fetches k = none ∧ t.mem = s.mem ∧ s.sameRegs t) ∧
    (s.memCheck (s.ctxAddr k) 256 = (0, 0) → s.memDone m = true → s.ctxCached k = none → AMap.rising s.net.last.cache = true →
      131072 ≤ (s.net.last.cache.filter (fun e => s.ctxHome e.1 == h)).length →
      ∃ t j c, exec (.fctxFill k) s = .next t ∧ t.ctxCached k = some ⟨s.devRead (s.ctxAddr k) 256, false⟩ ∧
        s.ctxCached j = some c ∧ s.ctxHome j = h ∧ t.ctxCached j = none ∧ (∀ i, i ≠ k → i ≠ j → t.ctxCached i = s.ctxCached i) ∧
        (c.dirty = true → c.bytes.length = 256 → t.devRead (s.ctxAddr j) 256 = c.bytes) ∧ (c.dirty = false → t.mem = s.mem))) ∧
  (∀ (s : State) (h : Nat), (s.queueAt (editorEp h) = [] ∨ (h = 1 ∧ s.fencedB = true)) → exec (.controlReinjection h) s = .next s) ∧
  (∀ (s : State) (h b : Nat) (m : Msg) (rest : List Msg), h < 2 → s.queueAt (editorEp h) = m :: rest → (h = 0 ∨ s.fencedB = false) → s.headSound (editorEp h) →
    b = (m.words.headD 0).toNat % 2 ^ 24 →
    ∃ t q, exec (.controlReinjection h) s = .next t ∧ t.queueAt (editorEp h) = rest ∧ t.pkt? s.net.nextPkt = some q ∧ q.half = h ∧
      q.source = 3 ∧ q.tenant = (s.desc b).tenant ∧ q.handle = b ∧ q.len = (s.chainBytes b).length ∧ q.stage = .admission ∧
      q.rawSum = 0 ∧ (∀ k, k ≠ s.net.nextPkt → t.pkt? k = s.pkt? k) ∧ { t with yarn := s.yarn, net := s.net } = s)

/-- R146 to R151, Table 4.6. The two bucket hashes are functions that the spec does not write out (Config.emHash). -/
def Obligations.TableLookups : Prop :=
  (∀ (s : State) (h w n tn : Nat) (key : Bytes), w.testBit 63 = false ∨ 3 < bitsOf w 62 60 ∨ bitsOf w 55 52 = 0 ∨
      (bitsOf w 62 60 = 0 ∧ 6 < bitsOf w 55 52) ∨ (bitsOf w 62 60 = 1 ∧ bitsOf w 55 52 ≠ 1) ∨ (bitsOf w 62 60 = 2 ∧ bitsOf w 55 52 ≠ 3) ∨
      (bitsOf w 62 60 = 3 ∧ 5 < bitsOf w 55 52) →
    s.lookup h w n tn key = (⟨3, [2, 4]⟩, s)) ∧
  (∀ (s : State) (h w n tn : Nat) (key : Bytes) (hits : Nat → EmEntry → Prop), w.testBit 63 = true → bitsOf w 62 60 = 0 →
    1 ≤ bitsOf w 55 52 → bitsOf w 55 52 ≤ 6 →
    (∀ k e, hits k e ↔ AMap.get? (s.tabs h).em k = some e ∧ (k / 8 = bucketOf 0 n w tn key 65536 ∨ k / 8 = bucketOf 1 n w tn key 65536) ∧
      e.profile = n ∧ (w.testBit 58 = true → e.tenant = tn) ∧ sliceB e.data 0 key.length = key) →
    (∀ k e, hits k e → ∃ k' e', hits k' e' ∧ s.lookup h w n tn key = (⟨0, e'.data⟩, s)) ∧
    ((∀ k e, ¬ hits k e) → w.testBit 59 = false ∨ s.rd F.LAST_EXT_CFG.LOG2 = 0 → s.lookup h w n tn key = (⟨1, []⟩, s)) ∧
    ((∀ k e, ¬ hits k e) → w.testBit 59 = true → s.rd F.LAST_EXT_CFG.LOG2 ≠ 0 →
      ∃ r t, s.lookup h w n tn key = (r, t) ∧ s.regsKept t [F.LAST_STAT.EXT_LOOKUPS.CNT] ∧ { t with csr := s.csr, lace := s.lace } = s ∧
        t.rd F.LAST_STAT.EXT_LOOKUPS.CNT = min (s.rd F.LAST_STAT.EXT_LOOKUPS.CNT + 1) (2 ^ 32 - 1) ∧
        (s.extCheck n w tn key ≠ (0, 0) → r = LkRes.error (s.extCheck n w tn key).1 0x10 ∧ t.lace = s.lace) ∧
        (s.extCheck n w tn key = (0, 0) →
          t.lace = (s.oweMem h (s.groupOf tn) (s.rd F.LAST_EXT_CFG.BASE * 4096 + 512 *
            (Config.emHash 0 n (if w.testBit 58 then tn else 4096) key % 2 ^ s.rd F.LAST_EXT_CFG.LOG2)) 512 false).lace ∧
          (∀ d, r = ⟨0, d⟩ → ∃ k < 8, ∃ x a, x = 8 * (Config.emHash 0 n (if w.testBit 58 then tn else 4096) key % 2 ^ s.rd F.LAST_EXT_CFG.LOG2) + k ∧
            a = s.rd F.LAST_EXT_CFG.BASE * 4096 + 64 * x ∧ d = s.devRead a 64 ∧ sliceB d 0 key.length = key ∧
            ∃ tn', AMap.get? s.net.last.extTags x = some (n, tn') ∧ (w.testBit 58 = true → tn' = tn)) ∧
          (r.status ≠ 0 → r = ⟨1, []⟩ ∧ s.extFind n w tn key = none)))) ∧
  (∀ (s : State) (h w n tn vrf addr width : Nat) (key : Bytes) (v6 : Bool) (covers : Prefix → Prop), w.testBit 63 = true →
    bitsOf w 62 60 = (if v6 then 2 else 1) → bitsOf w 55 52 = (if v6 then 3 else 1) → width = (if v6 then 128 else 32) →
    vrf = (if v6 then leAt key 16 2 else leAt key 4 2) → addr = (if v6 then leAt key 0 8 * 2 ^ 64 + leAt key 8 8 else leAt key 0 4) →
    (∀ p, covers p ↔ p ∈ (s.tabs h).prefixes ∧ p.v6 = v6 ∧ p.vrf = vrf ∧ p.addr / 2 ^ (width - p.plen) = addr / 2 ^ (width - p.plen)) →
    ((∀ p, ¬ covers p) → s.lookup h w n tn key = (⟨1, []⟩, s)) ∧
    (∀ p, covers p → ∃ q, covers q ∧ (∀ p', covers p' → p'.plen ≤ q.plen) ∧
      s.lookup h w n tn key = (⟨0, toLE 6 q.data ++ toLE 1 q.plen ++ [0]⟩, s))) ∧
  (∀ (s : State) (h w n tn : Nat) (key : Bytes) (fits : Nat → Rule → Prop), w.testBit 63 = true → bitsOf w 62 60 = 3 →
    1 ≤ bitsOf w 55 52 → bitsOf w 55 52 ≤ 5 → AMap.rising (s.tabs h).rules = true →
    (∀ k r, fits k r ↔ AMap.get? (s.tabs h).rules k = some r ∧ bitsOf w 50 36 ≤ k ∧ k < bitsOf w 50 36 + bitsOf w 35 20 ∧
      ∀ i < key.length, key.getD i 0 &&& r.mask.getD i 0 = r.value.getD i 0 &&& r.mask.getD i 0) →
    ((∀ k r, ¬ fits k r) → s.lookup h w n tn key = (⟨1, []⟩, s)) ∧
    (∀ k r, fits k r → (∀ k' r', fits k' r' → k ≤ k') →
      s.lookup h w n tn key = (⟨0, sliceB r.result 0 16 ++ toLE 2 k ++ List.replicate 14 0⟩, s)))

/-- R75, R147, R149, R150, R152, R153, R156, Tables 4.6 and 4.7. Which free slot takes an entry, and which resident moves, are free values. -/
def Obligations.LastUpdates : Prop :=
  (∀ (s : State) (u : UpdCmd) (w : Nat), w = s.net.last.goWord → u = ⟨bitsOf w 59 56, bitsOf w 55 51, bitsOf w 50 39, bitsOf w 38 17, bitsOf w 16 9, s.updData⟩ →
    (s.rd F.LAST_UPD_CMD.BUSY = 1 → (∀ m ∈ s.queueAt updEp, s.net.last.goAfter ≠ some m.id) → s.firstUpd = some (u, none)) ∧
    (s.rd F.LAST_UPD_CMD.BUSY = 0 ∨ (∃ m ∈ s.queueAt updEp, s.net.last.goAfter = some m.id) →
      (∀ m rest x y, s.queueAt updEp = m :: rest → m.committed = true → m.words = x :: y →
        s.firstUpd = some (⟨bitsOf x.toNat 59 56, bitsOf x.toNat 55 51, bitsOf x.toNat 50 39, bitsOf x.toNat 38 17, bitsOf x.toNat 16 9, bytesOf y⟩, some m)) ∧
      ((∀ m rest, s.queueAt updEp = m :: rest → m.committed = false) → s.firstUpd = none))) ∧
  (∀ (s : State) (op : Nat) (c : Instr), s.headSound updEp → (op, c) ∈ [(1, Instr.emInsert), (2, .emUpsert), (3, .emDelete), (4, .pfxAdd), (5, .pfxDel), (6, .ruleWrite),
      (7, .ruleClear), (8, .fctxWrite)] →
    (s.net.last.upd ≠ none ∨ (∀ u m, s.firstUpd = some (u, m) → u.op ≠ op) → exec c s = .next s) ∧
    (∀ u, s.net.last.upd = none → s.firstUpd = some (u, none) → u.op = op →
      ∃ (t : State) (x : Nat × Nat), exec c s = .next t ∧ t.net.last.upd = some ⟨none, x.1, x.2⟩ ∧ t.yarn = s.yarn ∧ t.net.last.tabsB = s.net.last.tabsB ∧ s.sameRegs t) ∧
    (∀ u m, s.net.last.upd = none → s.firstUpd = some (u, some m) → u.op = op →
      ∃ (t : State) (x : Nat × Nat), exec c s = .next t ∧ t.net.last.upd = some ⟨some m, x.1, x.2⟩ ∧ t.queueAt updEp = (s.queueAt updEp).tail ∧
        t.net.last.tabsB = s.net.last.tabsB ∧ s.sameRegs t)) ∧
  (∀ (s : State) (c : Instr) (m : Msg) (rest : List Msg), c ∈ [Instr.emInsert, .emUpsert, .emDelete, .pfxAdd, .pfxDel, .ruleWrite, .ruleClear,
      .fctxWrite, .lastUpdateDone] → s.queueAt updEp = m :: rest → m.committed = true → m.kind = .poisoned →
    exec c s = exec c (s.spoiltGone updEp rest)) ∧
  (∀ (s : State) (c : Instr) (u : UpdCmd) (msg : Option Msg) (w : Nat) (key : Bytes), s.headSound updEp → s.net.last.upd = none → s.firstUpd = some (u, msg) →
    (u.op, c) ∈ [(1, Instr.emInsert), (2, .emUpsert), (3, .emDelete)] → w = s.word (0x800000 + 8 * u.profile) →
    key = sliceB u.data 0 (8 * bitsOf w 55 52) →
    ((28 ≤ u.profile ∨ profValid w = false ∨ bitsOf w 62 60 ≠ 0 →
      ∃ t, exec c s = .next t ∧ t.net.last.upd = some ⟨msg, 2, 4⟩ ∧ t.net.last.tabsA = s.net.last.tabsA) ∧
    (u.profile < 28 → profValid w = true → bitsOf w 62 60 = 0 → w.testBit 59 = false →
      (∀ k e, s.net.last.tabsA.find u.profile w u.tenant key = some (k, e) →
        ∃ t, exec c s = .next t ∧ t.net.last.upd = some (if u.op = 1 then ⟨msg, 4, 1⟩ else ⟨msg, 0, 0⟩) ∧
          (∀ j, j ≠ k → AMap.get? t.net.last.tabsA.em j = AMap.get? s.net.last.tabsA.em j) ∧
          AMap.get? t.net.last.tabsA.em k =
            (if u.op = 1 then some e else if u.op = 2 then some ⟨u.profile, u.tenant, sliceB u.data 0 64⟩ else none) ∧
          t.net.last.tabsA.prefixes = s.net.last.tabsA.prefixes ∧ t.net.last.tabsA.rules = s.net.last.tabsA.rules) ∧
      (s.net.last.tabsA.find u.profile w u.tenant key = none →
        (u.op = 3 → ∃ t, exec c s = .next t ∧ t.net.last.upd = some ⟨msg, 4, 2⟩ ∧ t.net.last.tabsA = s.net.last.tabsA) ∧
        (∀ b, u.op ≠ 3 → b = bucketOf 0 u.profile w u.tenant key 65536 ∨
            ((∀ k, k / 8 = bucketOf 0 u.profile w u.tenant key 65536 → AMap.get? s.net.last.tabsA.em k ≠ none) ∧
              b = bucketOf 1 u.profile w u.tenant key 65536) →
          (∃ k, k / 8 = b ∧ AMap.get? s.net.last.tabsA.em k = none) →
          ∃ t k, exec c s = .next t ∧ t.net.last.upd = some ⟨msg, 0, 0⟩ ∧ k / 8 = b ∧ AMap.get? s.net.last.tabsA.em k = none ∧
            AMap.get? t.net.last.tabsA.em k = some ⟨u.profile, u.tenant, sliceB u.data 0 64⟩ ∧
            ∀ j, j ≠ k → AMap.get? t.net.last.tabsA.em j = AMap.get? s.net.last.tabsA.em j) ∧
        (u.op ≠ 3 → (∀ k, k / 8 = bucketOf 0 u.profile w u.tenant key 65536 ∨ k / 8 = bucketOf 1 u.profile w u.tenant key 65536 →
            AMap.get? s.net.last.tabsA.em k ≠ none) →
          ∃ t, exec c s = .next t ∧ ((t.net.last.upd = some ⟨msg, 5, 3⟩ ∧ t.net.last.tabsA = s.net.last.tabsA) ∨
            (t.net.last.upd = some ⟨msg, 0, 0⟩ ∧
              (∃ k, AMap.get? t.net.last.tabsA.em k = some ⟨u.profile, u.tenant, sliceB u.data 0 64⟩) ∧
              ∀ k e, AMap.get? s.net.last.tabsA.em k = some e → ∃ k', AMap.get? t.net.last.tabsA.em k' = some e))))))) ∧
  (∀ (s : State) (c : Instr) (u : UpdCmd) (msg : Option Msg) (w : Nat) (v6 : Bool) (x : Prefix) (eq : Prefix → Prop), s.headSound updEp → s.net.last.upd = none →
    s.firstUpd = some (u, msg) → (u.op, c) ∈ [(4, Instr.pfxAdd), (5, .pfxDel)] → w = s.word (0x800000 + 8 * u.profile) →
    x = ⟨v6, (prefixKey v6 u.data).1, (prefixKey v6 u.data).2, u.plen, leAt u.data 0x30 6⟩ →
    (∀ p, eq p ↔ p.v6 = x.v6 ∧ p.vrf = x.vrf ∧ p.addr = x.addr ∧ p.plen = x.plen) →
    ((28 ≤ u.profile ∨ profValid w = false ∨ (bitsOf w 62 60 ≠ 1 ∧ bitsOf w 62 60 ≠ 2) →
      ∃ t, exec c s = .next t ∧ t.net.last.upd = some ⟨msg, 2, 4⟩ ∧ t.net.last.tabsA = s.net.last.tabsA) ∧
    (u.profile < 28 → profValid w = true → bitsOf w 62 60 = (if v6 then 2 else 1) →
      ((if v6 then 128 else 32) < u.plen ∨ x.addr % 2 ^ ((if v6 then 128 else 32) - u.plen) ≠ 0 →
        ∃ t, exec c s = .next t ∧ t.net.last.upd = some ⟨msg, 2, 5⟩ ∧ t.net.last.tabsA = s.net.last.tabsA) ∧
      (u.plen ≤ (if v6 then 128 else 32) → x.addr % 2 ^ ((if v6 then 128 else 32) - u.plen) = 0 →
        (u.op = 5 → (∀ p ∈ s.net.last.tabsA.prefixes, ¬ eq p) →
          ∃ t, exec c s = .next t ∧ t.net.last.upd = some ⟨msg, 4, 2⟩ ∧ t.net.last.tabsA = s.net.last.tabsA) ∧
        (u.op = 5 → (∃ p ∈ s.net.last.tabsA.prefixes, eq p) →
          ∃ t, exec c s = .next t ∧ t.net.last.upd = some ⟨msg, 0, 0⟩ ∧
            ∀ p, p ∈ t.net.last.tabsA.prefixes ↔ p ∈ s.net.last.tabsA.prefixes ∧ ¬ eq p) ∧
        (u.op = 4 → (∃ p ∈ s.net.last.tabsA.prefixes, eq p) ∨
            (s.net.last.tabsA.prefixes.map (fun p => if p.v6 then 2 else 1)).sum + (if v6 then 2 else 1) ≤ 262144 →
          ∃ t, exec c s = .next t ∧ t.net.last.upd = some ⟨msg, 0, 0⟩ ∧
            ∀ p, p ∈ t.net.last.tabsA.prefixes ↔ p = x ∨ (p ∈ s.net.last.tabsA.prefixes ∧ ¬ eq p)) ∧
        (u.op = 4 → (∀ p ∈ s.net.last.tabsA.prefixes, ¬ eq p) →
            262144 < (s.net.last.tabsA.prefixes.map (fun p => if p.v6 then 2 else 1)).sum + (if v6 then 2 else 1) →
          ∃ t, exec c s = .next t ∧ t.net.last.upd = some ⟨msg, 5, 3⟩ ∧ t.net.last.tabsA = s.net.last.tabsA))))) ∧
  (∀ (s : State) (c : Instr) (u : UpdCmd) (msg : Option Msg), s.headSound updEp → s.net.last.upd = none → s.firstUpd = some (u, msg) →
    (u.op, c) ∈ [(6, Instr.ruleWrite), (7, .ruleClear)] →
    (32768 ≤ u.index → ∃ t, exec c s = .next t ∧ t.net.last.upd = some ⟨msg, 4, 6⟩ ∧ t.net.last.tabsA = s.net.last.tabsA) ∧
    (u.index < 32768 → ∃ t, exec c s = .next t ∧ t.net.last.upd = some ⟨msg, 0, 0⟩ ∧
      AMap.get? t.net.last.tabsA.rules u.index =
        (if u.op = 6 then some ⟨sliceB u.data 0 40, sliceB u.data 0x40 40, sliceB u.data 0x80 16⟩ else none) ∧
      (∀ j, j ≠ u.index → AMap.get? t.net.last.tabsA.rules j = AMap.get? s.net.last.tabsA.rules j) ∧
      t.net.last.tabsA.em = s.net.last.tabsA.em ∧ t.net.last.tabsA.prefixes = s.net.last.tabsA.prefixes)) ∧
  (∀ (s : State) (u : UpdCmd) (msg : Option Msg), s.headSound updEp → s.net.last.upd = none → s.firstUpd = some (u, msg) → u.op = 8 →
    (s.rd F.LAST_FCTX_CFG.COUNT ≤ u.index → ∃ t, exec .fctxWrite s = .next t ∧ t.net.last.upd = some ⟨msg, 4, 6⟩ ∧ t.net.last.cache = s.net.last.cache) ∧
    (u.index < s.rd F.LAST_FCTX_CFG.COUNT → s.rd F.LAST_FCTX_CFG.SPLIT ≤ u.index → s.fencedB = true →
      ∃ t, exec .fctxWrite s = .next t ∧ t.net.last.upd = some ⟨msg, 0x0E, 0x12⟩ ∧ t.net.last.cache = s.net.last.cache) ∧
    (u.index < s.rd F.LAST_FCTX_CFG.COUNT → u.index < s.rd F.LAST_FCTX_CFG.SPLIT ∨ s.fencedB = false →
      ∃ t, exec .fctxWrite s = .next t ∧ t.net.last.upd = some ⟨msg, 0, 0⟩ ∧ t.ctxCached u.index = some ⟨sliceB u.data 0 256, true⟩)) ∧
  (∀ (s : State) (x : LastUpd), s.headSound updEp → s.net.last.upd = some x →
    ∃ t, exec .lastUpdateDone s = .next t ∧ t.net.last.upd = none ∧ t.net.last.tabsA = s.net.last.tabsA ∧
      t.net.last.tabsB = (if s.fencedB then s.net.last.tabsB else s.net.last.tabsA) ∧
      t.rd F.LAST_STAT.UPDATES.CNT = min (s.rd F.LAST_STAT.UPDATES.CNT + 1) (2 ^ 32 - 1) ∧
      (x.status = 0 → t.rd F.LAST_STAT.UPDATE_FAIL.CNT = s.rd F.LAST_STAT.UPDATE_FAIL.CNT) ∧
      (x.status ≠ 0 → t.rd F.LAST_STAT.UPDATE_FAIL.CNT = min (s.rd F.LAST_STAT.UPDATE_FAIL.CNT + 1) (2 ^ 32 - 1)) ∧
      (x.msg = none → t.rd F.LAST_UPD_CMD.BUSY = 0 ∧ t.rd F.LAST_UPD_CMD.GO = 0 ∧ t.rd F.LAST_UPD_STATUS.DONE = 1 ∧
        t.rd F.LAST_UPD_STATUS.STATUS = x.status % 256 ∧ t.rd F.LAST_UPD_STATUS.DETAIL = x.detail % 256 ∧ t.yarn = s.yarn) ∧
      (∀ m, x.msg = some m → x.status < 256 → x.detail < 256 → ∃ f, t.yarn.flights = s.yarn.flights ++ [f] ∧ f.msg.dst = m.src / 4 * 4 ∧
        f.msg.tag = m.tag ∧ f.msg.epoch = m.epoch ∧ f.msg.words = [BitVec.ofNat 64 (x.status + 256 * x.detail)] ∧
        t.rd F.LAST_UPD_CMD.BUSY = s.rd F.LAST_UPD_CMD.BUSY)) ∧
  (∀ (s : State), s.headSound updEp → s.net.last.upd = none → (∀ u m, s.firstUpd = some (u, m) → 1 ≤ u.op ∧ u.op ≤ 8) → exec .lastUpdateDone s = .next s) ∧
  (∀ (s : State) (u : UpdCmd), s.headSound updEp → s.net.last.upd = none → s.firstUpd = some (u, none) → u.op = 0 ∨ 8 < u.op →
    ∃ t, exec .lastUpdateDone s = .next t ∧ t.rd F.LAST_UPD_STATUS.STATUS = 2 ∧ t.rd F.LAST_UPD_STATUS.DETAIL = 4 ∧
      t.rd F.LAST_UPD_CMD.BUSY = 0 ∧ t.net.last.tabsA = s.net.last.tabsA)

/-- R159, R161 to R165, R264, Tables 4.11 and 4.15. The detail of the ECC case is DEDUCED, log entry 160. -/
def Obligations.EditorWords : Prop :=
  (∀ w : W64, wordOk w = true ↔ ∃ fs, (w.toNat / 2 ^ 56, fs) ∈ actionFields ∧
    (∀ b < 56, w.toNat.testBit b = true → ∃ f ∈ fs, f.2 ≤ b ∧ b ≤ f.1) ∧
    (w.toNat / 2 ^ 56 = 1 → 1 ≤ bitsOf w.toNat 35 32 ∧ bitsOf w.toNat 35 32 ≤ 4)) ∧
  (∀ l : List W64, listFault l = 0 ↔ l.length ≤ 32 ∧ ∃ body w rest, l = body ++ w :: rest ∧ isDelivery (w.toNat / 2 ^ 56) = true ∧
    (∀ x ∈ body, isDelivery (x.toNat / 2 ^ 56) = false ∧ wordOk x = true) ∧ wordOk w = true ∧
    (body.filter (fun x => x.toNat / 2 ^ 56 == 0x08)).length ≤ 1 ∧ (body.filter (fun x => x.toNat / 2 ^ 56 == 0x09)).length ≤ 2) ∧
  (∀ (s : State) (id : Nat) (p : Packet), s.releaseWaits id p = true ↔ ∃ e ∈ s.net.pkts, e.1 < id ∧
    ((p.source = 0 ∧ s.rd (F.ETH_PORT_CFG.ORDERED p.port) = 1 ∧ e.2.source = 0 ∧ e.2.port = p.port ∧ e.2.tc = p.tc) ∨
     (∃ k, p.flow = some k ∧ e.2.flow = some k ∧ (leAt (s.ctxBytes k) 0 4).testBit 29 = true))) ∧
  (∀ (s : State) (id : Nat) (p : Packet), s.pkt? id = some p →
    (p.stage ≠ .editor ∨ s.releaseWaits id p = true → exec (.editorPacketRelease id) s = .next s) ∧
    (p.stage = .editor → s.releaseWaits id p = false → s.net.eth.xoff = [] → s.bobGood → p.handle < 2 ^ 24 → (∃ b ∈ s.chain p.handle, b ∈ s.bob.bad) →
      ∃ t, exec (.editorPacketRelease id) s = .next t ∧ s.toSlowPath t id p 2 15 12) ∧
    (p.stage = .editor → s.releaseWaits id p = false → listFault p.list ≠ 0 → s.net.eth.xoff = [] → s.bobGood → p.handle < 2 ^ 24 →
      (∀ b ∈ s.chain p.handle, b ∉ s.bob.bad) →
      ∃ t, exec (.editorPacketRelease id) s = .next t ∧ s.isMalformed t id p (listFault p.list) ∧ t.mem = (s.writeDirty p).mem) ∧
    (p.stage = .editor → s.releaseWaits id p = false → listFault p.list = 0 → s.solo p → p.handle ∉ s.bob.bad →
      ∃ t q, exec (.editorPacketRelease id) s = .next t ∧ q = { p with stage := .running 0, dirty := none } ∧ t.pkt? id = some q ∧
        t.rd F.EDIT_STAT.LISTS.CNT = min (s.rd F.EDIT_STAT.LISTS.CNT + 1) (2 ^ 32 - 1) ∧ s.regsKept t [F.EDIT_STAT.LISTS.CNT] ∧
        s.onlyPacket { t with csr := s.csr } id p.handle ∧
        ∀ k < p.len, (t.pktBytes q).getD k 0 = match p.dirty with
          | some (o, bs) => if o ≤ k ∧ k < o + bs.length then bs.getD (k - o) 0 else (s.pktBytes p).getD k 0
          | none => (s.pktBytes p).getD k 0)) ∧
  (∀ (ls : List Nat) (o n k l : Nat), ls[k]? = some l →
    (shiftIn ls o n)[k]? = some (if l = noLayer ∨ l < o then l else l + n) ∧
    (shiftOut ls o n)[k]? = some (if l = noLayer ∨ l < o then l else if l < o + n then noLayer else l - n)) ∧
  (∀ (s : State) (id i : Nat) (p : Packet) (w : W64) (n off len : Nat), s.standsAt id i p w → n = w.toNat → s.bobGood → p.handle < 2 ^ 24 →
    off = bitsOf n 55 48 → len = bitsOf n 35 32 → n / 2 ^ 56 = 0x01 →
    (256 < off + len → ∃ t, exec (.set id) s = .next t ∧ s.isMalformed t id p 5) ∧
    (off + len ≤ 256 → len ≤ 4 → s.solo p →
      ∃ t q, exec (.set id) s = .next t ∧ q = { p with stage := .running (i + 1) } ∧ t.pkt? id = some q ∧ s.onlyPacket t id p.handle ∧
        ∀ k < p.len, (t.pktBytes q).getD k 0 =
          if off ≤ k ∧ k < off + len then BitVec.ofNat 8 (n % 2 ^ 32 / 256 ^ (off + len - 1 - k)) else (s.pktBytes p).getD k 0)) ∧
  (∀ (s : State) (id i : Nat) (p : Packet) (w : W64) (b : Bytes), s.standsAt id i p w → b = s.pktBytes p → s.solo p → s.bobGood → p.handle < 2 ^ 24 →
    (w.toNat / 2 ^ 56 = 0x02 → p.growth + 4 ≤ 128 → 4 ≤ (s.desc p.handle).off → 12 ≤ p.len →
      ∃ t, exec (.vlanPush id) s = .next t ∧ s.onlyPacket t id p.handle ∧
        t.becomes id i p (b.take 12 ++ toBE 4 (w.toNat % 2 ^ 32) ++ b.drop 12) (shiftIn p.layers 12 4) (p.growth + 4)) ∧
    (w.toNat / 2 ^ 56 = 0x02 → 128 < p.growth + 4 → ∃ t, exec (.vlanPush id) s = .next t ∧ s.isMalformed t id p 4) ∧
    (w.toNat / 2 ^ 56 = 0x03 → p.growth ≤ 128 → 16 ≤ p.len → beAt b 12 2 = 0x8100 ∨ beAt b 12 2 = 0x88A8 →
      ∃ t, exec (.vlanPop id) s = .next t ∧ s.onlyPacket t id p.handle ∧
        t.becomes id i p (b.take 12 ++ b.drop 16) (shiftOut p.layers 12 4) p.growth) ∧
    (w.toNat / 2 ^ 56 = 0x03 → beAt b 12 2 ≠ 0x8100 → beAt b 12 2 ≠ 0x88A8 →
      ∃ t, exec (.vlanPop id) s = .next t ∧ t.pkt? id = some { p with stage := .running (i + 1) } ∧ t.mem = s.mem ∧ t.bob = s.bob ∧
        t.rd F.EDIT_STAT.SKIPPED.CNT = min (s.rd F.EDIT_STAT.SKIPPED.CNT + 1) (2 ^ 32 - 1) ∧ s.regsKept t [F.EDIT_STAT.SKIPPED.CNT]) ∧
    (∀ o, w.toNat / 2 ^ 56 = 0x06 → p.growth ≤ 128 → p.layers[w.toNat % 8]? = some o → o ≠ noLayer →
      ∃ t, exec (.decap id) s = .next t ∧ s.onlyPacket t id p.handle ∧ t.becomes id i p (b.drop o) (shiftOut p.layers 0 o) p.growth) ∧
    (w.toNat / 2 ^ 56 = 0x06 → p.layers[w.toNat % 8]? = none ∨ p.layers[w.toNat % 8]? = some noLayer →
      ∃ t, exec (.decap id) s = .next t ∧ s.isMalformed t id p 5)) ∧
  (∀ (s : State) (id i x vni : Nat) (p : Packet) (w : W64) (b tpl h : Bytes) (c : Instr), s.standsAt id i p w → b = s.pktBytes p → s.bobGood →
    p.handle < 2 ^ 24 → tpl = s.template (bitsOf w.toNat 55 48) → (w.toNat / 2 ^ 56, c, x) ∈ [(0x04, Instr.encapVxlan id, 8), (0x05, .encapGeneve id, 0)] →
    (leAt tpl 0 1 < 34 ∨ 112 < leAt tpl 0 1 → ∃ t, exec c s = .next t ∧ s.isMalformed t id p 6) ∧
    (s.solo p → h = sliceB tpl 16 (leAt tpl 0 1) → vni = w.toNat % 2 ^ 24 → (x = 8 → h.length = 42) → (x = 0 → 50 ≤ h.length ∧ h.length ≤ 112) →
      (leAt tpl 1 1) % 4 = 0 → beAt h 12 2 = 0x0800 → beAt h 14 1 = 0x45 → p.growth + h.length + x ≤ 128 → h.length + x ≤ (s.desc p.handle).off →
      p.len ≤ 16000 →
      ∃ t out, exec c s = .next t ∧ s.onlyPacket t id p.handle ∧
        t.becomes id i p out (shiftIn p.layers 0 (h.length + x)) (p.growth + h.length + x) ∧ out.length = h.length + x + p.len ∧
        out.drop (h.length + x) = b ∧ (∀ k < h.length, k ∉ [16, 17, 24, 25, 34, 35, 38, 39, 40, 41, 46, 47, 48] → out.getD k 0 = h.getD k 0) ∧
        beAt out 16 2 = out.length - 14 ∧ onesSum (sliceB out 14 20) = 65535 ∧ beAt out 38 2 = out.length - 34 ∧ beAt out 40 2 = 0 ∧
        beAt out 34 2 = 0xC000 + (hmixEval (wordOf (sliceB b 0 8)) (wordOf (sliceB b 8 8))).toNat % 2 ^ 14 ∧ beAt out 46 3 = vni ∧
        (x = 8 → beAt out 42 4 = 0x08000000 ∧ beAt out 49 1 = 0))) ∧
  (∀ (s : State) (id i l3 l4 : Nat) (p : Packet) (w : W64) (b : Bytes), s.standsAt id i p w → b = s.pktBytes p → s.solo p → s.bobGood →
    p.handle < 2 ^ 24 → w.toNat / 2 ^ 56 = 0x07 →
    (w.toNat.testBit 8 = true ∨ w.toNat.testBit 9 = true → p.layers[w.toNat % 8]? = none ∨ p.layers[w.toNat % 8]? = some noLayer →
      ∃ t, exec (.csum id) s = .next t ∧ s.isMalformed t id p 5) ∧
    (p.layers[w.toNat % 8]? = some l3 → l3 ≠ noLayer →
      (w.toNat.testBit 9 = true → p.layers[bitsOf w.toNat 6 4]? = none ∨ p.layers[bitsOf w.toNat 6 4]? = some noLayer →
        ∃ t, exec (.csum id) s = .next t ∧ s.isMalformed t id p 5) ∧
      (w.toNat.testBit 8 = true → w.toNat.testBit 9 = false → beAt b l3 1 / 16 = 4 → 20 ≤ ihl b l3 → l3 + ihl b l3 ≤ p.len →
        ∃ t q, exec (.csum id) s = .next t ∧ q = { p with stage := .running (i + 1) } ∧ t.pkt? id = some q ∧ s.onlyPacket t id p.handle ∧
          onesSum (sliceB (t.pktBytes q) l3 (ihl b l3)) = 65535 ∧
          ∀ k < p.len, k ≠ l3 + 10 → k ≠ l3 + 11 → (t.pktBytes q).getD k 0 = b.getD k 0) ∧
      (∀ n o, w.toNat.testBit 8 = false → w.toNat.testBit 9 = true → p.layers[bitsOf w.toNat 6 4]? = some l4 → l4 ≠ noLayer →
        protoAt b l3 = 6 ∨ protoAt b l3 = 17 → n = l4Len b l3 l4 → o = l4 + (if protoAt b l3 = 6 then 16 else 6) → o + 2 ≤ l4 + n →
        l4 + n ≤ p.len → l3 + 40 ≤ o →
        ∃ t q, exec (.csum id) s = .next t ∧ q = { p with stage := .running (i + 1) } ∧ t.pkt? id = some q ∧ s.onlyPacket t id p.handle ∧
          onesSum (toBE 2 (pseudoSum b l3 (protoAt b l3) n) ++ sliceB (t.pktBytes q) l4 n) = 65535 ∧
          ∀ k < p.len, k ≠ o → k ≠ o + 1 → (t.pktBytes q).getD k 0 = b.getD k 0) ∧
      (w.toNat.testBit 8 = false → w.toNat.testBit 9 = true → p.layers[bitsOf w.toNat 6 4]? = some l4 → l4 ≠ noLayer →
        protoAt b l3 ≠ 6 → protoAt b l3 ≠ 17 →
        ∃ t q, exec (.csum id) s = .next t ∧ q = { p with stage := .running (i + 1) } ∧ t.pkt? id = some q ∧ t.pktBytes q = b ∧
          t.rd F.EDIT_STAT.SKIPPED.CNT = min (s.rd F.EDIT_STAT.SKIPPED.CNT + 1) (2 ^ 32 - 1)))) ∧
  (∀ (s : State) (id i o : Nat) (p : Packet) (w : W64) (b : Bytes), s.standsAt id i p w → b = s.pktBytes p → s.bobGood → p.handle < 2 ^ 24 →
    w.toNat / 2 ^ 56 = 0x0B →
    (p.layers[w.toNat % 8]? = none ∨ p.layers[w.toNat % 8]? = some noLayer → ∃ t, exec (.ttlDec id) s = .next t ∧ s.isMalformed t id p 5) ∧
    (p.layers[w.toNat % 8]? = some o → o ≠ noLayer →
      (beAt b (if beAt b o 1 / 16 = 4 then o + 8 else o + 7) 1 ≤ 1 → ∃ t, exec (.ttlDec id) s = .next t ∧ s.toSlowPath t id p 2 4 7) ∧
      (s.solo p → beAt b o 1 / 16 = 4 → 1 < beAt b (o + 8) 1 → 20 ≤ ihl b o → o + ihl b o ≤ p.len →
        ∃ t q, exec (.ttlDec id) s = .next t ∧ q = { p with stage := .running (i + 1) } ∧ t.pkt? id = some q ∧ s.onlyPacket t id p.handle ∧
          beAt (t.pktBytes q) (o + 8) 1 = beAt b (o + 8) 1 - 1 ∧
          (onesSum (sliceB b o (ihl b o)) = 65535 → onesSum (sliceB (t.pktBytes q) o (ihl b o)) = 65535) ∧
          ∀ k < p.len, k ≠ o + 8 → k ≠ o + 10 → k ≠ o + 11 → (t.pktBytes q).getD k 0 = b.getD k 0) ∧
      (s.solo p → beAt b o 1 / 16 ≠ 4 → 1 < beAt b (o + 7) 1 →
        ∃ t q, exec (.ttlDec id) s = .next t ∧ q = { p with stage := .running (i + 1) } ∧ t.pkt? id = some q ∧ s.onlyPacket t id p.handle ∧
          beAt (t.pktBytes q) (o + 7) 1 = beAt b (o + 7) 1 - 1 ∧ ∀ k < p.len, k ≠ o + 7 → (t.pktBytes q).getD k 0 = b.getD k 0))) ∧
  (∀ (s : State) (id i : Nat) (p : Packet) (w : W64), s.standsAt id i p w → w.toNat / 2 ^ 56 = 0x08 →
    ∃ t j, exec (.crypto id) s = .next t ∧ t.pkt? id = some { p with stage := .cipher i } ∧ t.cipher.jobs = s.cipher.jobs ++ [j] ∧
      j.owner = .inline id i ∧ j.op = 16 + bitsOf w.toNat 23 20 ∧ j.session = bitsOf w.toNat 19 0 ∧ j.half = p.half ∧ j.stage = .arrived ∧
      j.urg = 3 ∧ (∀ k, k ≠ id → t.pkt? k = s.pkt? k) ∧ { t with cipher := s.cipher, net := { t.net with pkts := s.net.pkts } } = s)

/-- R129, R160, R162, R166, R167, R169, R172, R226, R343, R345. -/
def Obligations.DeliveriesAndMirrors : Prop :=
  (∀ (s : State) (p t e : Nat), e = s.half16 0xB40000 (4096 * p + t) →
    s.egNode p t = (if e.testBit 15 = true ∧ s.rd (F.EGRESS_NODE_W0.PORT (e % 4096)) = p then (e % 4096, false)
      else (p, e.testBit 15))) ∧
  (∀ (s : State) (id i port n : Nat) (p : Packet) (w : W64) (stuck : Prop), s.standsAt id i p w → n = w.toNat → n / 2 ^ 56 = 0x10 → port = n % 16 →
    s.net.eth.xoff = [] → s.bobGood → p.handle < 2 ^ 24 →
    (stuck ↔ s.portExists port = false ∨ s.linkUp port = false ∨ (8 ≤ port ∧ s.fencedB = true)) →
    (stuck ∨ s.rd (F.ETH_PORT_CFG.MTU port) < p.len →
      ∃ t, exec (.toPort id) s = .next t ∧ t.pkt? id = none ∧ t.net.egress = s.net.egress ∧ (∀ k, k ≠ id → t.pkt? k = s.pkt? k) ∧
        t.rd F.EDIT_STAT.DELIVERY_DROP.CNT = min (s.rd F.EDIT_STAT.DELIVERY_DROP.CNT + 1) (2 ^ 32 - 1) ∧
        (stuck → t.rd F.EDIT_STAT.MTU_DROP.CNT = s.rd F.EDIT_STAT.MTU_DROP.CNT) ∧
        (¬ stuck → t.rd F.EDIT_STAT.MTU_DROP.CNT = min (s.rd F.EDIT_STAT.MTU_DROP.CNT + 1) (2 ^ 32 - 1))) ∧
    (¬ stuck → p.len ≤ s.rd (F.ETH_PORT_CFG.MTU port) → p.handle / 2 ^ 23 = port / 8 →
      ∀ nd miss c used ql th, s.egNode port p.tenant = (nd, miss) → c = bitsOf n 10 8 → used = ((s.egQueue nd c).map (fun f => f.len)).sum →
        ql = s.rd (F.EGRESS_QCFG.QLIMIT (8 * port + c)) * 4096 → th = s.rd (F.EGRESS_QCFG.ECN_TH (8 * port + c)) * 4096 →
        ∃ t, exec (.toPort id) s = .next t ∧ t.pkt? id = none ∧ (∀ k, k ≠ id → t.pkt? k = s.pkt? k) ∧
          t.rd F.EGRESS_STAT.MAP_MISMATCH.CNT = min (s.rd F.EGRESS_STAT.MAP_MISMATCH.CNT + if miss then 1 else 0) (2 ^ 32 - 1) ∧
          (∀ m d, d < 8 → (m ≠ nd ∨ d ≠ c) → t.egQueue m d = s.egQueue m d) ∧
          (ql < used + p.len → t.egQueue nd c = s.egQueue nd c ∧
            t.rd F.EGRESS_STAT.DROP_QLIMIT.CNT = min (s.rd F.EGRESS_STAT.DROP_QLIMIT.CNT + 1) (2 ^ 32 - 1)) ∧
          (used + p.len ≤ ql → ∃ f, t.egQueue nd c = s.egQueue nd c ++ [f] ∧ f.handle = p.handle ∧ f.len = p.len ∧ f.tenant = p.tenant ∧
            f.tstag = (if n.testBit 12 then some (bitsOf n 47 32) else none) ∧ f.ptpOff = (if n.testBit 13 then some (bitsOf n 23 16) else none) ∧
            t.bob = s.bob ∧
            (th = 0 ∨ used < th ∨ ecnMark (s.chainBytes p.handle) = none → t.mem = s.mem ∧
              t.rd F.EGRESS_STAT.ECN_MARKED.CNT = s.rd F.EGRESS_STAT.ECN_MARKED.CNT) ∧
            (∀ b, th ≠ 0 → th ≤ used → ecnMark (s.chainBytes p.handle) = some b → s.solo p →
              t.chainBytes p.handle = b.take p.len ∧
              t.rd F.EGRESS_STAT.ECN_MARKED.CNT = min (s.rd F.EGRESS_STAT.ECN_MARKED.CNT + 1) (2 ^ 32 - 1)))) ∧
    (∀ v, ¬ stuck → p.len ≤ s.rd (F.ETH_PORT_CFG.MTU port) → p.handle / 2 ^ 23 ≠ port / 8 →
      s.moveChain p.handle p.tenant (port / 8) = (none, v) → v.net.eth.xoff = [] →
      ∃ t, exec (.toPort id) s = .next t ∧ t.pkt? id = none ∧ t.net.egress = v.net.egress)) ∧
  (∀ b : Bytes, beAt b 12 2 = 0x0800 → beAt b 14 1 = 0x45 → 34 ≤ b.length →
    (beAt b 15 1 % 4 = 0 ∨ beAt b 15 1 % 4 = 3 → ecnMark b = none) ∧
    (beAt b 15 1 % 4 = 1 ∨ beAt b 15 1 % 4 = 2 → ∃ c, ecnMark b = some c ∧ c.length = b.length ∧ beAt c 15 1 = beAt b 15 1 / 4 * 4 + 3 ∧
      (onesSum (sliceB b 14 20) = 65535 → onesSum (sliceB c 14 20) = 65535) ∧
      beAt c 24 2 = onesNot (onesSum (toBE 2 (onesNot (beAt b 24 2)) ++ toBE 2 (onesNot (beAt b 14 2)) ++ toBE 2 (beAt c 14 2))) ∧
      ∀ k, k ≠ 15 → k ≠ 24 → k ≠ 25 → c.getD k 0 = b.getD k 0)) ∧
  (∀ b : Bytes, beAt b 12 2 = 0x86DD → 54 ≤ b.length →
    (beAt b 15 1 / 16 % 4 = 0 ∨ beAt b 15 1 / 16 % 4 = 3 → ecnMark b = none) ∧
    (beAt b 15 1 / 16 % 4 = 1 ∨ beAt b 15 1 / 16 % 4 = 2 → ∃ c, ecnMark b = some c ∧ c.length = b.length ∧
      beAt c 15 1 / 16 % 4 = 3 ∧ beAt c 15 1 % 16 = beAt b 15 1 % 16 ∧ ∀ k, k ≠ 15 → c.getD k 0 = b.getD k 0)) ∧
  (∀ b : Bytes, beAt b 12 2 ∉ [0x0800, 0x86DD, 0x8100, 0x88A8] → ecnMark b = none) ∧
  (∀ (s : State) (id i q : Nat) (p : Packet) (w : W64), s.standsAt id i p w → w.toNat / 2 ^ 56 = 0x11 → q = w.toNat % 65536 →
    s.net.eth.xoff = [] → s.bobGood → p.handle < 2 ^ 24 →
    (∀ c, s.rxBuffer q p.len = .error c →
      ∃ t, exec (.toHostq id) s = .next t ∧ t.pkt? id = none ∧ t.q = s.q ∧
        t.rd F.EDIT_STAT.DELIVERY_DROP.CNT = min (s.rd F.EDIT_STAT.DELIVERY_DROP.CNT + 1) (2 ^ 32 - 1) ∧
        (∀ f, c = some f → f ∈ [F.QUEUE_STAT.RX_NOBUF.CNT, F.QUEUE_STAT.RX_TOOLONG.CNT] ∧ t.rd f = min (s.rd f + 1) (2 ^ 32 - 1))) ∧
    (∀ wq j, s.rxBuffer q p.len = .ok (wq, j) →
      s.wq? q = some wq ∧ wq.type = qtNetRx ∧ wq.state = qsReady ∧ j ∈ wq.jobs ∧ p.len ≤ leAt (j.entries.headD []) 0x10 4 ∧
      (wq.ringLoc = false → (wq.home = 1 ∧ s.seamHeld = true) ∨ s.busOn wq.func = false → exec (.toHostq id) s = .next s) ∧
      (wq.ringLoc = false → s.groupAt 4 wq.home ≠ some (s.groupOf wq.tenant) → exec (.toHostq id) s = .next s) ∧
      (wq.ringLoc = true ∨ (wq.home = 1 → s.seamHeld = false) ∧ s.busOn wq.func = true ∧ s.groupAt 4 wq.home = some (s.groupOf wq.tenant) → ∃ t, exec (.toHostq id) s = .next t ∧ t.pkt? id = none) ∧
      (wq.ringLoc = false → (wq.home = 1 → s.seamHeld = false) → s.busOn wq.func = true → s.groupAt 4 wq.home = some (s.groupOf wq.tenant) → exec (.toHostq id) s =
        .next (((((s.useChoice 4 wq.home).hostPost wq.func (leAt (j.entries.headD []) 8 8) (s.pktBytes p)).owe 4 wq.home (s.groupOf wq.tenant)
          (((s.pktBytes p).length + 511) / 512 - 1)).finishJob q j.first ⟨stOk, 0, p.timestamp, (s.pktBytes p).length, p.tc⟩).dropPacket id)) ∧
      (∀ a, wq.ringLoc = true → a = leAt (j.entries.headD []) 8 8 → s.ownedBy wq.tenant a (leAt (j.entries.headD []) 0x10 4) = true →
        s.memAccess a (s.pktBytes p).length = ((0, 0), s) → exec (.toHostq id) s =
        .next ((((s.devWrite a (s.pktBytes p)).oweMem wq.home (s.groupOf wq.tenant) a (s.pktBytes p).length true).finishJob q j.first ⟨stOk, 0, p.timestamp, (s.pktBytes p).length, p.tc⟩).dropPacket id)))) ∧
  (∀ (s : State) (id i port win off : Nat) (p : Packet) (w : W64) (x : Win), s.standsAt id i p w → w.toNat / 2 ^ 56 = 0x12 →
    port = bitsOf w.toNat 49 48 → win = bitsOf w.toNat 47 40 → off = bitsOf w.toNat 31 0 → x = s.activeWin port win → s.net.eth.xoff = [] →
    s.bobGood → p.handle < 2 ^ 24 →
    (∀ tx, s.txOf (.packet id) = some tx →
      (s.groupAt 5 tx.port ≠ some (s.groupOf p.tenant) → tx.port = port → exec (.toPeer id) s = .next s) ∧
      (s.groupAt 5 tx.port = some (s.groupOf p.tenant) → tx.port = port →
        ∃ t, exec (.toPeer id) s = .next t ∧ t.outs = s.outs ++ [.eyeWrite tx.mapping.link tx.mapping.func tx.mapping.bar
            (tx.mapping.barOff + (off + tx.moved)) (sliceB (s.pktBytes p) tx.moved (min 512 (p.len - tx.moved)))] ∧ t.groupAt 5 port = none ∧
          (p.len ≤ tx.moved + 512 → t.pkt? id = none ∧ (∀ y ∈ t.eye.txs, y.id ≠ tx.id)) ∧
          (tx.moved + 512 < p.len → t.pkt? id = some p ∧ t.txOf (.packet id) = some { tx with pieces := tx.pieces + 1, moved := tx.moved + 512 }))) ∧
    (s.txOf (.packet id) = none →
    (s.winHeld port win = true → TxOwner.packet id ∉ s.eye.held →
      ∃ t, exec (.toPeer id) s = .next t ∧ t.pkt? id = some p ∧ t.outs = s.outs ∧ t.eye.held = s.eye.held ++ [.packet id] ∧
        t.rd F.EYELET_STAT.WIN_HELD.CNT = min (s.rd F.EYELET_STAT.WIN_HELD.CNT + 1) (2 ^ 32 - 1) ∧ s.regsKept t [F.EYELET_STAT.WIN_HELD.CNT]) ∧
    (s.winHeld port win = true → TxOwner.packet id ∈ s.eye.held → exec (.toPeer id) s = .next s) ∧
    (s.winHeld port win = false → x.valid = false ∨ x.wr = false ∨ 2 ^ x.log2 < off + p.len →
      ∃ t, exec (.toPeer id) s = .next t ∧ t.pkt? id = none ∧ t.outs = s.outs ∧
        t.rd F.EDIT_STAT.DELIVERY_DROP.CNT = min (s.rd F.EDIT_STAT.DELIVERY_DROP.CNT + 1) (2 ^ 32 - 1)) ∧
    (s.winHeld port win = false → x.valid = true → x.wr = true → off + p.len ≤ 2 ^ x.log2 →
      (s.groupAt 5 port ≠ some (s.groupOf p.tenant) → exec (.toPeer id) s = .next s) ∧
      (s.groupAt 5 port = some (s.groupOf p.tenant) →
        ∃ t, exec (.toPeer id) s = .next t ∧ t.outs = s.outs ++ [.eyeWrite x.link x.func x.bar (x.barOff + off) (sliceB (s.pktBytes p) 0 (min 512 p.len))] ∧
          t.groupAt 5 port = none ∧ TxOwner.packet id ∉ t.eye.held ∧ (p.len ≤ 512 → t.pkt? id = none ∧ t.txOf (.packet id) = none) ∧
          (512 < p.len → t.pkt? id = some p ∧
            ∃ tx, t.txOf (.packet id) = some tx ∧ tx.mapping = x ∧ tx.port = port ∧ tx.moved = 512))))) ∧
  (∀ (s : State) (id i : Nat) (p : Packet) (w : W64) (m : Msg), s.standsAt id i p w → w.toNat / 2 ^ 56 = 0x13 → s.net.eth.xoff = [] → s.bobGood →
    p.handle < 2 ^ 24 → m = s.unitMsg (editorEp p.half) (w.toNat % 2 ^ 20) (bitsOf w.toNat 27 20) 0x3F (p.slowWords 3 0 0) →
    (s.judge m false = .ok → ∃ t, exec (.toControl id) s = .next t ∧ s.handedOver t id p m) ∧
    (s.judge m false ≠ .ok → ∃ t, exec (.toControl id) s = .next t ∧ t.pkt? id = none ∧ t.yarn.queues = s.yarn.queues ∧
      t.rd F.EDIT_STAT.SP_DROP.CNT = min (s.rd F.EDIT_STAT.SP_DROP.CNT + 1) (2 ^ 32 - 1))) ∧
  (∀ (p : Packet) (o st d a b c : Nat), p.handle < 2 ^ 24 → p.len < 2 ^ 16 → st < 2 ^ 8 → d < 2 ^ 8 → p.entry < 32 → p.source < 8 → o < 4 →
    p.tenant < 4096 → p.tc < 8 → p.flowIndex < 2 ^ 22 → p.port < 256 → (∀ r, p.parse = some r → r.decision < 64) → p.timestamp < 2 ^ 64 →
    p.qref < 2 ^ 32 → a = p.handle + 2 ^ 24 * p.len + 2 ^ 40 * st + 2 ^ 48 * d + 2 ^ 56 * p.entry + 2 ^ 61 * p.source →
    b = p.tenant + 2 ^ 12 * p.tc + 2 ^ 15 * p.flowValid + 2 ^ 16 * p.flowIndex + 2 ^ 38 * p.port +
      2 ^ 46 * (match p.parse with | some r => r.decision | none => 0) + 2 ^ 62 * o → c = p.stitch % 2 ^ 32 + 2 ^ 32 * p.qref →
    p.slowWords o st d = [BitVec.ofNat 64 a, BitVec.ofNat 64 b, BitVec.ofNat 64 p.timestamp, BitVec.ofNat 64 c]) ∧
  (∀ (p : Packet) (f : Option Nat),
    (f = match bitsOf p.dec 55 54, p.prof0, p.prof1 with
      | 1, some w, _ => if w.1.testBit 19 = true ∧ p.lk0.status = 0 then some (leAt p.lk0.data (bitsOf w.1 18 13 / 4 * 4) 4) else none
      | 2, _, some w => if w.1.testBit 19 = true ∧ p.lk1.status = 0 then some (leAt p.lk1.data (bitsOf w.1 18 13 / 4 * 4) 4) else none
      | _, _, _ => none) →
    (f = none → p.flowValid = 0 ∧ p.flowIndex = 0) ∧
    (∀ x, f = some x → p.flowValid = (if x.testBit 31 then 1 else 0) ∧ p.flowIndex = x % 2 ^ 22)) ∧
  (∀ (s : State) (id i : Nat) (p : Packet) (w : W64), s.standsAt id i p w → w.toNat / 2 ^ 56 = 0x14 → s.net.eth.xoff = [] →
    ∃ t, exec (.drop id) s = .next t ∧ t.pkt? id = none ∧ (∀ k, k ≠ id → t.pkt? k = s.pkt? k) ∧ t.mem = s.mem ∧ t.outs = s.outs ∧
      (p.handle ≠ 0 → (s.desc p.handle).next = 0 → (s.desc p.handle).held = true →
        s.handleForm (handleHalf p.handle) p.handle = (0, 0) → (∀ c, s.classAt (handleHalf p.handle) (handleGranule p.handle) = some c →
          s.refPool (handleHalf p.handle) c = false) → (s.desc p.handle).owner = editorEp (handleHalf p.handle) →
        (s.desc p.handle).track = false ∨ (s.desc p.handle).alloc = true →
        (t.desc p.handle).held = false ∧ ∀ b, b ≠ p.handle → t.desc b = s.desc b)) ∧
  (∀ (s : State) (id i k : Nat) (p : Packet) (w : W64), s.standsAt id i p w → w.toNat / 2 ^ 56 = 0x09 → k = w.toNat % 64 →
    (s.rd (F.EDIT_MIRROR.EN k) = 0 →
      ∃ t, exec (.mirror id) s = .next t ∧ t.pkt? id = some { p with stage := .running (i + 1) } ∧ (∀ j, j ≠ id → t.pkt? j = s.pkt? j) ∧
        { t with net := { t.net with pkts := s.net.pkts } } = s) ∧
    (∀ n, s.rd (F.EDIT_MIRROR.EN k) = 1 → n = AMap.getD s.net.mirrorSkip k 0 →
      (n ≠ 0 → ∃ t, exec (.mirror id) s = .next t ∧ t.pkt? id = some { p with stage := .running (i + 1) } ∧
        AMap.getD t.net.mirrorSkip k 0 = (if s.rd (F.EDIT_MIRROR.SAMPLE k) ≤ n then 0 else n + 1) ∧ t.mem = s.mem ∧ t.bob = s.bob ∧ s.sameRegs t) ∧
      (∀ (b : Bytes) (u : State), n = 0 → b = (if s.rd (F.EDIT_MIRROR.TRUNC k) = 0 then s.pktBytes p
            else (s.pktBytes p).take (64 * s.rd (F.EDIT_MIRROR.TRUNC k))) →
        u = (s.modPkt id (fun q => { q with stage := .running (i + 1) })) →
        (∀ v, { u with net := { u.net with mirrorSkip := AMap.setD 0 u.net.mirrorSkip k (if s.rd (F.EDIT_MIRROR.SAMPLE k) = 0 then 0 else 1) } }.storeFrom
            p.half p.tenant (editorEp p.half) 0 false [] 256 0 b = (none, v) →
          ∃ t, exec (.mirror id) s = .next t ∧ t.pkt? id = some { p with stage := .running (i + 1) } ∧ t.outs = s.outs ∧
            t.rd F.EDIT_STAT.MIRROR_DROP.CNT = min (v.rd F.EDIT_STAT.MIRROR_DROP.CNT + 1) (2 ^ 32 - 1)) ∧
        (∀ v hd m, { u with net := { u.net with mirrorSkip := AMap.setD 0 u.net.mirrorSkip k (if s.rd (F.EDIT_MIRROR.SAMPLE k) = 0 then 0 else 1) } }.storeFrom
            p.half p.tenant (editorEp p.half) 0 false [] 256 0 b = (some [hd], v) → s.rd (F.EDIT_MIRROR.KIND k) = 2 →
          m = s.unitMsg (editorEp p.half) (s.rd (F.EDIT_MIRROR.DEST k) % 2 ^ 20) (bitsOf (s.rd (F.EDIT_MIRROR.DEST k)) 27 20) 0x3F
            ({ p with handle := hd, len := b.length }.slowWords 3 0 0) → v.judge m false = .ok → v.yarn = s.yarn →
          ∃ t, exec (.mirror id) s = .next t ∧ t.pkt? id = some { p with stage := .running (i + 1) } ∧ t.queueAt m.dst = s.queueAt m.dst ++ [m] ∧
            t.mem = v.mem))))

/-- R178, R180 to R182, R191, R196, R199, R201 to R208. -/
def Obligations.CipherJobs : Prop :=
  (∀ (s : State) (id : Nat), s.noJobMessages →
    (s.jobC id = none → exec (.cipherJobAdmit id) s = .next s) ∧
    (∀ j, s.jobC id = some j → j.stage ≠ .arrived ∨ (∃ o ∈ s.cipher.ops, o.index = j.session ∧ o.id < j.id) ∨
        (∃ x ∈ s.cipher.jobs, x.session = j.session ∧ x.stage = .arrived ∧
          (x.since < j.since ∨ (x.since = j.since ∧ ((x.half = x.home ∧ j.half ≠ j.home) ∨ ((x.half = x.home ↔ j.half = j.home) ∧ x.id < j.id))))) →
      exec (.cipherJobAdmit id) s = .next s)) ∧
  (∀ (s : State) (id tid reply ref : Nat) (j : CipherJob), s.noJobMessages → s.jobC id = some j → j.stage = .arrived → j.owner = .csub tid reply ref →
    s.cipher.ops = [] → s.cipher.jobs = [j] → j.slot = none → s.txOf (.cipher j.id) = none → j.op < 256 →
    (∀ r, jobFormFault j.raw = some r → ∃ t, exec (.cipherJobAdmit id) s = .next t ∧ s.csubEnds t j r.1 r.2 0) ∧
    (jobFormFault j.raw = none →
      (s.rd F.CIPHER_SESS_CFG.COUNT ≤ j.session → ∃ t, exec (.cipherJobAdmit id) s = .next t ∧ s.csubEnds t j 4 0x0D 0) ∧
      (j.session < s.rd F.CIPHER_SESS_CFG.COUNT → j.home = 1 → s.fencedB = true →
        ∃ t, exec (.cipherJobAdmit id) s = .next t ∧ s.csubEnds t j 0x0E 0x11 0) ∧
      (j.session < s.rd F.CIPHER_SESS_CFG.COUNT → j.home ≠ 1 ∨ s.fencedB = false →
        (∀ k, j.session ∈ s.cipher.installed → s.keySlot j.session = some k → k.st.testBit 0 = false →
          ∃ t, exec (.cipherJobAdmit id) s = .next t ∧ s.csubEnds t j 3 1 0) ∧
        (j.session ∉ s.cipher.installed → ∃ t, exec (.cipherJobAdmit id) s = .next t ∧ s.csubEnds t j 3 1 0) ∧
        (j.session ∈ s.cipher.installed → s.keySlot j.session = none →
          ∃ t, exec (.cipherJobAdmit id) s = .next t ∧ (AMap.get? t.cipher.fetches j.session).isSome ∧ t.jobC id = some j ∧ s.sameRegs t) ∧
        (∀ k n, j.session ∈ s.cipher.installed → s.keySlot j.session = some k → k.st.testBit 0 = true →
          n = (if j.op = 7 then (leAt j.raw 0x18 4 + 15) / 16 else 1) →
          (sKind k.plain ≠ opKind j.op → ∃ t, exec (.cipherJobAdmit id) s = .next t ∧ s.csubEnds t j 2 3 0) ∧
          (sKind k.plain = opKind j.op →
            (j.op ≤ 2 → leAt j.raw 0x18 4 % (if sFlag k.plain 5 then 4096 else 512) ≠ 0 →
              ∃ t, exec (.cipherJobAdmit id) s = .next t ∧ s.csubEnds t j 2 4 0) ∧
            (2 < j.op ∨ leAt j.raw 0x18 4 % (if sFlag k.plain 5 then 4096 else 512) = 0 →
              (s.locOwned (leAt j.raw 1 1 / 4 % 4) (leAt j.raw 8 8) (sTenant k.plain) = false ∨
                s.locOwned (leAt j.raw 1 1 / 16 % 4) (leAt j.raw 0x10 8) (sTenant k.plain) = false →
                ∃ t, exec (.cipherJobAdmit id) s = .next t ∧ s.csubEnds t j 3 2 0) ∧
              (s.locOwned (leAt j.raw 1 1 / 4 % 4) (leAt j.raw 8 8) (sTenant k.plain) = true →
                s.locOwned (leAt j.raw 1 1 / 16 % 4) (leAt j.raw 0x10 8) (sTenant k.plain) = true →
                (k.st.testBit 1 = true ∨ (j.op ∈ [3, 4, 5, 6, 7] ∧ sHard k.plain < sCounter k.plain + n - 1) →
                  ∃ t, exec (.cipherJobAdmit id) s = .next t ∧ s.csubEnds t j 7 8 0 ∧ t.keySlot j.session = some k) ∧
                (k.st.testBit 1 = false → j.op ∉ [3, 4, 5, 6, 7] →
                  ∃ t j' k', exec (.cipherJobAdmit id) s = .next t ∧ t.jobC id = some j' ∧ j'.stage = .admitted ∧ j'.tenant = sTenant k.plain ∧
                    j'.ctr = 0 ∧ j'.made = j.made ∧ t.keySlot j.session = some k' ∧ k'.plain = k.plain ∧ k'.st = k.st ∧
                    (k'.used = s.cipher.nextId ∧ k'.used < t.cipher.nextId) ∧ s.sameRegs t) ∧
                (k.st.testBit 1 = false → j.op ∈ [3, 4, 5, 6, 7] → 1 ≤ n → sCounter k.plain + n - 1 ≤ sHard k.plain → k.plain.length = 224 →
                  ∃ t j' k', exec (.cipherJobAdmit id) s = .next t ∧ t.jobC id = some j' ∧ j'.stage = .admitted ∧ j'.tenant = sTenant k.plain ∧
                    j'.ctr = sCounter k.plain ∧ t.keySlot j.session = some k' ∧
                    sCounter k'.plain = min (sHard k.plain) (sCounter k.plain + n) ∧ sKey1 k'.plain = sKey1 k.plain ∧ sHard k'.plain = sHard k.plain ∧
                    (k'.st.testBit 1 = true ↔ sCounter k.plain + n - 1 = sHard k.plain) ∧
                    (k'.st.testBit 1 = true → t.rd F.CIPHER_EVENT.EXHAUSTED = 1) ∧
                    (k'.st.testBit 2 = true ↔ k.st.testBit 2 = true ∨ sSoft k.plain ≤ sCounter k.plain + n - 1) ∧
                    (k.st.testBit 2 = false → sSoft k.plain ≤ sCounter k.plain + n - 1 → t.rd F.CIPHER_EVENT.SOFT = 1) ∧
                    (sCounter k.plain + n - 1 < sHard k.plain → k.st.testBit 2 = true ∨ sCounter k.plain + n - 1 < sSoft k.plain → s.sameRegs t))))))))) ∧
  (∀ (s : State) (u : Nat), s.engIdle u = false ∨ s.groupAt 2 u = none ∨ (∃ g, s.groupAt 2 u = some g ∧ s.engineWork u g = []) →
    exec (.cipherJobStart u) s = .next s) ∧
  (∀ (s : State) (u g : Nat), s.engIdle u = true → s.groupAt 2 u = some g → s.engineWork u g ≠ [] → (s.cipher.jobs.map (fun j => j.id)).Nodup →
    (∀ j ∈ s.cipher.jobs, j.peer? = none) → (∀ e ∈ s.cipher.engines, e.1 ≠ u) →
    ∃ j ∈ s.engineWork u g, (∀ x ∈ s.engineWork u g, x.urg ≤ j.urg ∧ (x.urg = j.urg → j.stage = .admitted → x.stage = .admitted ∧ j.admSeq ≤ x.admSeq) ∧
        (x.urg = j.urg → j.stage ≠ .admitted → x.stage ≠ .admitted → j.susSeq ≤ x.susSeq)) ∧
      (j.stage = .admitted → s.lowestIdle (engHalf u) ≠ some u → exec (.cipherJobStart u) s = .next s) ∧
      (j.stage ≠ .admitted ∨ s.lowestIdle (engHalf u) = some u →
        ∃ t j', exec (.cipherJobStart u) s = .next t ∧ t.jobC j.id = some j' ∧ j'.stage = .running u ∧ j'.startAt = s.clk.cycles ∧
          j'.slot = (if j.stage = .admitted ∧ s.fitsTurn j = false then some (engCluster u) else j.slot) ∧ j'.made = j.made ∧
          AMap.get? t.cipher.engines u = some (j.id, s.clk.cycles + if j.made < j.light then 8 else j.cost) ∧
          (∀ v, v ≠ u → AMap.get? t.cipher.engines v = AMap.get? s.cipher.engines v) ∧ (∀ i, i ≠ j.id → t.jobC i = s.jobC i) ∧
          t.groupAt 2 u = none ∧ t.cipher.slots = s.cipher.slots)) ∧
  (∀ (s : State) (u : Nat) (err : Bool), AMap.get? s.cipher.engines u = none → exec (.cipherBlockDone u err) s = .next s) ∧
  (∀ (s : State) (u id due : Nat) (err : Bool) (j : CipherJob), AMap.get? s.cipher.engines u = some (id, due) → s.jobC id = some j →
    (s.cipher.jobs.map (fun j => j.id)).Nodup → j.id = id →
    (s.clk.cycles < due → exec (.cipherBlockDone u err) s = .next s) ∧
    (due ≤ s.clk.cycles → err = false → j.total ≤ j.made + 1 ∨ j.stop ≠ none →
      ∃ t j', exec (.cipherBlockDone u err) s = .next t ∧ t.jobC id = some j' ∧ j'.stage = .ended ∧ j'.slot = j.slot ∧ j'.made = j.made + 1 ∧
        AMap.get? t.cipher.engines u = none) ∧
    (due ≤ s.clk.cycles → err = false → j.made + 1 < j.total → j.stop = none → s.engActive u = true →
      ∃ t j', exec (.cipherBlockDone u err) s = .next t ∧ t.jobC id = some j' ∧ j'.made = j.made + 1 ∧ j'.ctr = j.ctr ∧
        ((j'.stage = j.stage ∧ j'.slot = j.slot ∧ AMap.get? t.cipher.engines u = some (id, s.clk.cycles + if j.made + 1 < j.light then 8 else j.cost)) ∨
         (j'.stage = .suspended (engCluster u) ∧ j'.slot = some (engCluster u) ∧ AMap.get? t.cipher.engines u = none ∧
          (j.slot ≠ none ∨ s.suspUsed (engCluster u) < 64) ∧
          t.rd F.CIPHER_STAT.SUSPENDS.CNT = min (s.rd F.CIPHER_STAT.SUSPENDS.CNT + 1) (2 ^ 32 - 1)))) ∧
    (due ≤ s.clk.cycles → err = true → j.made < j.total →
      ∃ t j', exec (.cipherBlockDone u err) s = .next t ∧ t.jobC id = some j' ∧ j'.made = j.made ∧ j'.ctr = j.ctr)) ∧
  (∀ (s : State) (id : Nat), (∀ j, s.jobC id = some j → j.stage ≠ .ended ∧ (j.stop = none ∨ ∀ c, j.stage ≠ .suspended c)) → exec (.cipherJobComplete id) s = .next s) ∧
  (∀ (s : State) (id tid reply ref c : Nat) (r : Nat × Nat) (j : CipherJob), s.jobC id = some j → j.owner = .csub tid reply ref → j.stop = some r →
    j.stage = .ended ∨ j.stage = .suspended c → r.1 < 256 → r.2 < 256 → j.op < 256 →
    ∃ t, exec (.cipherJobComplete id) s = .next t ∧ s.csubEnds t j r.1 r.2 j.sent) ∧
  (∀ (s : State) (id tid reply ref src dst n : Nat) (j : CipherJob) (k : KeySlot), s.jobC id = some j → j.stage = .ended → s.keySlot j.session = some k →
    j.owner = .csub tid reply ref → j.slot = none → j.op < 256 → j.peer? = none → s.txOf (.cipher j.id) = none → j.stop = none →
    src = leAt j.raw 1 1 / 4 % 4 → dst = leAt j.raw 0x10 8 → n = dstLen j.op (leAt j.raw 0x18 4) →
    (src ≠ 0 → s.memAccess (leAt j.raw 8 8) (srcLen j.op (leAt j.raw 2 2) (leAt j.raw 0x18 4)) = ((0, 0), s) →
      ∃ u, s.jobSource j = (.ok (s.devRead (leAt j.raw 8 8) (srcLen j.op (leAt j.raw 2 2) (leAt j.raw 0x18 4))), u) ∧ { u with lace := s.lace } = s) ∧
    (∀ b o, src = 0 → b = s.chainBytes (leAt j.raw 8 8 % 2 ^ 24) → o = bitsOf (leAt j.raw 8 8) 55 32 →
      s.chainAccess (leAt j.raw 8 8 % 2 ^ 24) = ((0, 0), s) → o + srcLen j.op (leAt j.raw 2 2) (leAt j.raw 0x18 4) ≤ b.length →
      s.jobSource j = (.ok (sliceB b o (srcLen j.op (leAt j.raw 2 2) (leAt j.raw 0x18 4))), s)) ∧
    (∀ r u, s.jobSource j = (.error r, u) →
      u.csr = s.csr → u.yarn = s.yarn → u.cipher = s.cipher → u.eye = s.eye → r.1 < 256 → r.2 < 256 → ∃ t, exec (.cipherJobComplete id) s = .next t ∧
        s.csubEnds t j r.1 r.2 0 ∧ t.mem = u.mem) ∧
    (∀ src out u, s.jobSource j = (.ok src, u) → { u with lace := s.lace } = s →
      jobOutput j.op k.plain j.ctr (leAt j.raw 2 2) (leAt j.raw 0x18 4) (sliceB j.raw 0x20 16) src = some out →
      leAt j.raw 1 1 / 16 % 4 = 1 → u.memAccess dst (out.take n).length = ((0, 0), u) →
      ∃ t, exec (.cipherJobComplete id) s = .next t ∧ s.csubEnds t j 0 0 (out.take n).length ∧ t.mem = Memory.write s.mem dst (out.take n)) ∧
    (∀ src u, s.jobSource j = (.ok src, u) → { u with lace := s.lace } = s →
      jobOutput j.op k.plain j.ctr (leAt j.raw 2 2) (leAt j.raw 0x18 4) (sliceB j.raw 0x20 16) src = none →
      leAt j.raw 1 1 / 16 % 4 = 1 → u.memAccess dst n = ((0, 0), u) →
      ∃ t, exec (.cipherJobComplete id) s = .next t ∧ s.csubEnds t j 8 5 n ∧ t.mem = Memory.write s.mem dst (List.replicate n 0))) ∧
  (∀ (s : State) (id tid reply ref port win off n : Nat) (j : CipherJob) (k : KeySlot) (x : EyeTx) (out : Bytes) (good : Bool), s.jobC id = some j →
    j.stage = .ended → j.stop = none → s.keySlot j.session = some k → j.owner = .csub tid reply ref → j.op < 256 → j.peer? = some (port, win, off) →
    (s.groupAt 5 port ≠ some (s.groupOf j.tenant) → exec (.cipherJobComplete id) s = .next s) ∧
    (s.groupAt 5 port = some (s.groupOf j.tenant) → s.txOf (.cipher j.id) = some x → j.out = some (out, good) →
      (n = min 512 (out.length - j.sent) → j.sent < out.length →
        ∃ t, exec (.cipherJobComplete id) s = .next t ∧ t.mem = s.mem ∧
          (j.sent + n < out.length ∨ good = false → t.jobC id = some { j with sent := j.sent + n } ∧ t.groupAt 5 port = none ∧
            t.outs = s.outs ++ [.eyeWrite x.mapping.link x.mapping.func x.mapping.bar (x.mapping.barOff + (off + j.sent)) (sliceB out j.sent n)]) ∧
          (j.sent + n = out.length → good = true → s.csubEnds t j 0 0 out.length ∧
            .eyeWrite x.mapping.link x.mapping.func x.mapping.bar (x.mapping.barOff + (off + j.sent)) (sliceB out j.sent n) ∈ t.outs)) ∧
      (n = min 512 (out.length - j.wiped) → out.length ≤ j.sent →
        ∃ t, exec (.cipherJobComplete id) s = .next t ∧ t.mem = s.mem ∧
          .eyeWrite x.mapping.link x.mapping.func x.mapping.bar (x.mapping.barOff + (off + j.wiped)) (List.replicate n 0) ∈ t.outs ∧
          (j.wiped + n ≠ out.length → t.jobC id = some { j with wiped := j.wiped + n }) ∧
          (j.wiped + n = out.length → s.csubEnds t j 8 5 out.length)))) ∧
  (∀ (s : State) (id pkt idx : Nat) (j : CipherJob) (k : KeySlot) (p : Packet) (x : Inlined), s.jobC id = some j → j.stage = .ended →
    s.keySlot j.session = some k → j.owner = .inline pkt idx → j.stop = none → j.slot = none → s.pkt? pkt = some p → s.solo p → j.op = 16 ∨ j.op = 18 ∨ j.op = 20 →
    sealPacket (j.op - 16) k.plain (Config.macsecAn j.session).toNat j.ctr (s.sessTpl k.plain) (s.pktBytes p) p.layers = .ok x → 0 ≤ x.grow →
    p.growth + x.grow.toNat ≤ 128 → x.grow.toNat ≤ (s.desc p.handle).off → s.txOf (.cipher j.id) = none →
    (s.desc p.handle).off + x.bytes.length ≤ classSize (s.desc p.handle).cls + x.grow.toNat →
    ∃ t, exec (.cipherJobComplete id) s = .next t ∧ t.becomes pkt idx p x.bytes x.layers (p.growth + x.grow.toNat) ∧ t.jobC j.id = none ∧
      t.rd F.CIPHER_STAT.INLINE.CNT = min (s.rd F.CIPHER_STAT.INLINE.CNT + 1) (2 ^ 32 - 1) ∧ s.regsKept t [F.CIPHER_STAT.INLINE.CNT])

/-- R75, R190, R191, R193 to R196, R198. The order of the checks, and the answer to an operation on a session never installed, are the
model's choice (log entry 50). -/
def Obligations.CipherSessions : Prop :=
  (∀ (s : State), (s.rd F.CIPHER_SESS_CMD.BUSY = 0 → ∀ op, exec (sessCommand op false) s = .next s) ∧
    (s.queueAt sessEp = [] → ∀ op, exec (sessCommand op true) s = .next s) ∧
    (∀ m rest op, s.queueAt sessEp = m :: rest → m.committed = true → m.kind = .poisoned →
      exec (sessCommand op true) s = exec (sessCommand op true) (s.spoiltGone sessEp rest))) ∧
  (∀ (s : State) (m : Option Msg) (op i : Nat) (data : Bytes), s.cipher.ops = [] → s.sessOffered m op i data →
    (op = 0 ∨ 4 < op → ∃ t, exec (sessCommand op m.isSome) s = .next t ∧ s.opAnswered t m (2, 3) ∧ t.cipher.slots = s.cipher.slots) ∧
    (1 ≤ op → op ≤ 4 → s.rd F.CIPHER_SESS_CFG.COUNT ≤ i →
      ∃ t, exec (sessCommand op m.isSome) s = .next t ∧ s.opAnswered t m (4, 0x0D) ∧ t.cipher.slots = s.cipher.slots) ∧
    (1 ≤ op → op ≤ 4 → i < s.rd F.CIPHER_SESS_CFG.COUNT → s.rd F.CIPHER_SESS_CFG.SPLIT ≤ i → s.fencedB = true →
      ∃ t, exec (sessCommand op m.isSome) s = .next t ∧ s.opAnswered t m (0x0E, 0x11) ∧ t.cipher.slots = s.cipher.slots) ∧
    (1 ≤ op → op ≤ 4 → i < s.rd F.CIPHER_SESS_CFG.COUNT → i < s.rd F.CIPHER_SESS_CFG.SPLIT ∨ s.fencedB = false →
      (m.isSome = true ∧ (op = 4 ∨ (op ≤ 2 ∧ leAt data 0 1 = 10) ∨ (op ≠ 1 ∧ s.sessKind i = 10))) ∨ (m = none ∧ op = 1 ∧ s.cipher.cmdCobbler = false) →
      ∃ t, exec (sessCommand op m.isSome) s = .next t ∧ s.opAnswered t m (3, 0x0A) ∧ t.cipher.slots = s.cipher.slots) ∧
    (s.sessAllowed m op i data →
      (¬ s.sessFree op i → ∃ t o, exec (sessCommand op m.isSome) s = .next t ∧ t.cipher.ops = [o] ∧ o.index = i ∧ o.op = op ∧ o.msg = m ∧
        o.data = data ∧ t.cipher.slots = s.cipher.slots ∧ t.cipher.jobs = s.cipher.jobs ∧ s.sameRegs t ∧
        (i ∈ s.cipher.installed → s.keySlot i = none → (AMap.get? t.cipher.fetches i).isSome = true)) ∧
      (s.sessFree op i → op = 1 →
        (leAt data 0 1 = 0 ∨ 10 < leAt data 0 1 → ∃ t, exec (.install m.isSome) s = .next t ∧ s.opAnswered t m (2, 9) ∧ t.cipher.slots = s.cipher.slots) ∧
        (∀ k, installFault data none = none → s.keySlot i = some k → k.st.testBit 1 = true → sKey1 k.plain = sKey1 data →
          ∃ t, exec (.install m.isSome) s = .next t ∧ s.opAnswered t m (4, 0x0B) ∧ t.cipher.slots = s.cipher.slots) ∧
        (∀ f, installFault data none = some f → ∃ t, exec (.install m.isSome) s = .next t ∧ s.opAnswered t m f ∧ t.cipher.slots = s.cipher.slots) ∧
        (installFault data (s.keySlot i) = none → (s.keySlot i).isSome = true ∨ s.slotRoom i →
          ∃ t k, exec (.install m.isSome) s = .next t ∧ s.opAnswered t m (0, 0) ∧ t.keySlot i = some k ∧ k.plain = data ∧ k.st = 1 ∧
            i ∈ t.cipher.installed ∧ (∀ x, x ≠ i → t.keySlot x = s.keySlot x) ∧ t.cipher.jobs = s.cipher.jobs)) ∧
      (s.sessFree op i → op = 2 →
        (s.keySlot i = none → ∃ t, exec (.limits m.isSome) s = .next t ∧ s.opAnswered t m (3, 1) ∧ t.cipher.slots = s.cipher.slots) ∧
        (∀ k, s.keySlot i = some k → k.plain.length = 224 → s.rd F.CIPHER_NOTIFY.EN = 0 →
          ∃ t k', exec (.limits m.isSome) s = .next t ∧ s.opAnswered t m (0, 0) ∧ t.keySlot i = some k' ∧
            sSoft k'.plain = sSoft data ∧ sHard k'.plain = sHard data ∧ (∀ o < 224, o < 0x68 ∨ 0x78 ≤ o → k'.plain[o]? = k.plain[o]?) ∧
            (k.st.testBit 1 = true → k'.st = k.st) ∧ (∀ x, x ≠ i → t.keySlot x = s.keySlot x) ∧
            (∀ c, k.st.testBit 1 = false → sKind k.plain ∈ [2, 3, 4, 6, 8, 9] → sCounter k.plain = c + 1 →
              (firstValue (sKind k.plain) ≤ c → sHard data < c → k'.st = k.st ||| 2 ∧ t.rd F.CIPHER_EVENT.EXHAUSTED = 1) ∧
              (c ≤ sHard data → k'.st = k.st ∧ t.rd F.CIPHER_EVENT.EXHAUSTED = s.rd F.CIPHER_EVENT.EXHAUSTED)) ∧
            (k.st.testBit 1 = false → sKind k.plain ∈ [5, 7] →
              (sHard data < sCounter k.plain → k'.st = k.st ||| 2 ∧ t.rd F.CIPHER_EVENT.EXHAUSTED = 1) ∧
              (sCounter k.plain ≤ sHard data → k'.st = k.st ∧ t.rd F.CIPHER_EVENT.EXHAUSTED = s.rd F.CIPHER_EVENT.EXHAUSTED)))) ∧
      (s.sessFree op i → op = 3 →
        (s.keySlot i = none → ∃ t, exec (.invalidate m.isSome) s = .next t ∧ s.opAnswered t m (0, 0) ∧ t.cipher.slots = s.cipher.slots) ∧
        (∀ k, s.keySlot i = some k → ∃ t k', exec (.invalidate m.isSome) s = .next t ∧ s.opAnswered t m (0, 0) ∧ t.keySlot i = some k' ∧
          k'.plain = k.plain ∧ k'.st.testBit 0 = false ∧ k'.st.testBit 1 = k.st.testBit 1 ∧ k'.st.testBit 2 = k.st.testBit 2 ∧
          (∀ x, x ≠ i → t.keySlot x = s.keySlot x))) ∧
      (s.sessFree op i → op = 4 →
        (s.keySlot i = none → ∃ t, exec (.sessionRead false) s = .next t ∧ t.sessReported (3, 1) ∧ t.cipher.slots = s.cipher.slots) ∧
        (∀ k, s.keySlot i = some k → k.st < 8 → ∃ t, exec (.sessionRead false) s = .next t ∧ t.sessReported (0, 0) ∧ t.cipher.slots = s.cipher.slots ∧
          t.rd F.CIPHER_SESS_STATUS.STATE = k.st ∧
          (∀ w < 56, t.rd (F.CIPHER_SESS_DATA.W w) = if 5 ≤ w ∧ w < 24 then 0 else leAt k.plain (4 * w) 4))))) ∧
  (∀ (s : State) (i : Nat), s.cipher.ops.find? (fun o => o.index == i) = none → exec (.sessionOpDone i) s = .next s) ∧
  (∀ (s : State) (o : SessOp), s.cipher.ops = [o] →
    (¬ s.sessFree o.op o.index → (s.keySlot o.index).isSome = true ∨ o.index ∉ s.cipher.installed → exec (.sessionOpDone o.index) s = .next s) ∧
    (s.sessFree o.op o.index → o.op = 1 → installFault o.data (s.keySlot o.index) = none → (s.keySlot o.index).isSome = true ∨ s.slotRoom o.index →
      ∃ t k, exec (.sessionOpDone o.index) s = .next t ∧ t.cipher.ops = [] ∧ t.keySlot o.index = some k ∧ k.plain = o.data ∧ k.st = 1 ∧
        (o.msg = none → t.sessReported (0, 0)) ∧ (∀ m, o.msg = some m → s.sessAnswered t m (0, 0))) ∧
    (∀ k, s.sessFree o.op o.index → o.op = 3 → s.keySlot o.index = some k →
      ∃ t k', exec (.sessionOpDone o.index) s = .next t ∧ t.cipher.ops = [] ∧ t.keySlot o.index = some k' ∧ k'.plain = k.plain ∧
        k'.st.testBit 0 = false ∧ (o.msg = none → t.sessReported (0, 0)) ∧ (∀ m, o.msg = some m → s.sessAnswered t m (0, 0)))) ∧
  (∀ (s : State) (i : Nat), AMap.get? s.cipher.fetches i = none → exec (.sessionUnwrap i) s = .next s) ∧
  (∀ (s : State) (i id : Nat), AMap.get? s.cipher.fetches i = some id → s.memDone id = false → exec (.sessionUnwrap i) s = .next s) ∧
  (∀ (s : State) (i id : Nat), AMap.get? s.cipher.fetches i = some id → s.memDone id = true → s.memAccess (s.sessAddr i) 256 = ((0, 0), s) →
    (∀ p st, s.unwrapRecord i (s.devRead (s.sessAddr i) 256) = some (p, st) → s.slotRoom i →
      ∃ t k, exec (.sessionUnwrap i) s = .next t ∧ t.keySlot i = some k ∧ k.plain = p ∧ k.st = st ∧ AMap.get? t.cipher.fetches i = none ∧
        (∀ x, x ≠ i → t.keySlot x = s.keySlot x) ∧ t.cipher.jobs = s.cipher.jobs ∧ s.sameRegs t) ∧
    (s.unwrapRecord i (s.devRead (s.sessAddr i) 256) = none → s.cipher.ops = [] →
      (s.cipher.jobs = [] → ∃ t, exec (.sessionUnwrap i) s = .next t ∧ t.rd F.CIPHER_EVENT.UNWRAP_FAIL = 1 ∧ t.cipher.slots = s.cipher.slots ∧
        AMap.get? t.cipher.fetches i = none ∧ s.regsKept t [F.CIPHER_EVENT.UNWRAP_FAIL]) ∧
      (∀ j tid reply ref, s.cipher.jobs = [j] → j.session = i → j.stage = .arrived → j.owner = .csub tid reply ref → j.slot = none → j.op < 256 →
        s.txOf (.cipher j.id) = none →
        ∃ t, exec (.sessionUnwrap i) s = .next t ∧ t.rd F.CIPHER_EVENT.UNWRAP_FAIL = 1 ∧ s.csubEnds t j 0x0F 0x0E 0)))

/-- R215, R216, R218 to R220, R234, R240, R241. -/
def Obligations.QueueDoorbells : Prop :=
  (∀ (s : State) (f k n : Nat) (v : W32) (w : Wq), s.barGate f = none → s.queueNo f k = some n → s.wq? n = some w →
    (w.admits (v.toNat % idxMod w.compat) →
      ∃ t, exec (.wqDoorbell f k v) s = .next t ∧ s.onlyWq t n ∧ t.wq? n = some { w with pi := v.toNat % idxMod w.compat }) ∧
    (¬ w.admits (v.toNat % idxMod w.compat) → n < 65536 → w.state = qsReady → w.fault = none → w.jobs = [] →
      ∃ t w', exec (.wqDoorbell f k v) s = .next t ∧ t.wq? n = some w' ∧ w'.state = qsError ∧ w'.errCause = 1 ∧
        w'.errIndex = v.toNat % idxMod w.compat ∧ w'.pi = w.pi ∧
        t.rd F.QUEUE_STAT.WQ_ERRORS.CNT = min (s.rd F.QUEUE_STAT.WQ_ERRORS.CNT + 1) (2 ^ 32 - 1)) ∧
    (¬ w.admits (v.toNat % idxMod w.compat) → (w.state = qsError ∨ w.state = qsStopped) →
      ∃ t, exec (.wqDoorbell f k v) s = .next t ∧ s.onlyRegs t [F.QUEUE_STAT.DB_DISCARD.CNT] ∧
        t.rd F.QUEUE_STAT.DB_DISCARD.CNT = min (s.rd F.QUEUE_STAT.DB_DISCARD.CNT + 1) (2 ^ 32 - 1))) ∧
  (∀ (s : State) (f k : Nat) (v : W32), s.barGate f = none → (∀ n, s.queueNo f k = some n → s.wq? n = none ∧ s.cq? n = none) →
    ∀ c, c = Instr.wqDoorbell f k v ∨ c = Instr.cqDoorbell f k v ∨ c = Instr.cqArm f k v →
      ∃ t, exec c s = .next t ∧ s.onlyRegs t [F.QUEUE_STAT.DB_DISCARD.CNT] ∧
        t.rd F.QUEUE_STAT.DB_DISCARD.CNT = min (s.rd F.QUEUE_STAT.DB_DISCARD.CNT + 1) (2 ^ 32 - 1)) ∧
  (∀ (s : State) (f k n : Nat) (v : W32) (c : Cq), s.barGate f = none → s.queueNo f k = some n → s.cq? n = some c →
    (idxDist c.compat c.pi (v.toNat % idxMod c.compat) ≤ ringMax c.compat c.log2 →
      ∃ t c', exec (.cqDoorbell f k v) s = .next t ∧ t.cq? n = some c' ∧ c'.ci = v.toNat % idxMod c.compat ∧ c'.pi = c.pi ∧
        c'.state = c.state ∧ { t with q := s.q } = s ∧ t.q.wqs = s.q.wqs ∧ ∀ m, m ≠ n → t.cq? m = s.cq? m) ∧
    (ringMax c.compat c.log2 < idxDist c.compat c.pi (v.toNat % idxMod c.compat) → c.state ≠ qsError → n < 65536 →
      (s.fifo queueEvq).entries.length < 1024 →
      ∃ t, exec (.cqDoorbell f k v) s = .next t ∧ t.cq? n = some { c with state := qsError, errCause := 1 } ∧
        (t.fifo queueEvq).entries = (s.fifo queueEvq).entries ++ [2 * 2 ^ 60 + 2 ^ 32 + 2 ^ 16 + n] ∧ t.q.wqs = s.q.wqs) ∧
    (v.getLsbD 0 = true →
      ∃ t c', exec (.cqArm f k v) s = .next t ∧ t.cq? n = some c' ∧ c'.new = 0 ∧ c'.armed = decide (c.pi = c.ci) ∧ c'.pi = c.pi ∧ c'.ci = c.ci ∧
        (c.pi = c.ci → { t with q := s.q } = s))) ∧
  (∀ (s : State) (f off size : Nat), s.barGate f = none → size ≠ 4 ∨ off % 4 ≠ 0 →
    (∃ t, exec (.doorbellDiscard f off size true) s = .next t ∧ s.onlyRegs t [F.QUEUE_STAT.DB_DISCARD.CNT] ∧
      t.rd F.QUEUE_STAT.DB_DISCARD.CNT = min (s.rd F.QUEUE_STAT.DB_DISCARD.CNT + 1) (2 ^ 32 - 1)) ∧
    (∃ t, exec (.doorbellDiscard f off size false) s = .next t ∧ t.outs = s.outs ++ [.barRead f (2 ^ (8 * size) - 1)] ∧
      t.rd F.QUEUE_STAT.DB_DISCARD.CNT = min (s.rd F.QUEUE_STAT.DB_DISCARD.CNT + 1) (2 ^ 32 - 1))) ∧
  (∀ (s : State) (n st cy : Nat) (c : Cq), s.cq? n = some c → c.firstNew = some (st, cy) → c.armed = true → c.modTime ≠ 0 →
    st + c.modTime < s.rd F.STITCH_COUNT.COUNT →
    ∃ t c', exec (.interruptModTimer n) s = .next t ∧ t.cq? n = some c' ∧ c'.armed = false ∧ c'.pi = c.pi ∧ c'.ci = c.ci) ∧
  (∀ (s : State) (n b : Nat) (c : Cq), s.cq? n = some c → n < 65536 → c.fullFrom = some b → c.stalled = false →
    s.rd F.STITCH_POS.CYCLE = 0 → s.rd F.STITCH_POS.TURN = 0 →
    (b + max 1 (s.rd F.QUEUE_CFG.CQ_STALL_LIMIT) ≤ s.rd F.STITCH_COUNT.COUNT → (s.fifo queueEvq).entries.length < 1024 →
      ∃ t, exec (.cqStall n) s = .next t ∧ t.cq? n = some { c with stalled := true } ∧
        (t.fifo queueEvq).entries = (s.fifo queueEvq).entries ++ [3 * 2 ^ 60 + 2 ^ 16 + n] ∧
        t.rd F.QUEUE_STAT.CQ_STALLS.CNT = min (s.rd F.QUEUE_STAT.CQ_STALLS.CNT + 1) (2 ^ 32 - 1)) ∧
    (s.rd F.STITCH_COUNT.COUNT < b + max 1 (s.rd F.QUEUE_CFG.CQ_STALL_LIMIT) → exec (.cqStall n) s = .next s)) ∧
  (∀ (s u : State) (h n v : Nat) (m : Msg) (c : Cq), s.engineMsg h 2 = some (m, u) → n = (m.words.getD 0 0).toNat / 2 ^ 32 % 65536 →
    v = (m.words.getD 1 0).toNat % 2 ^ 32 → (m.words.getD 1 0).getLsbD 32 = false → u.cq? n = some c →
    idxDist c.compat c.pi (v % idxMod c.compat) ≤ ringMax c.compat c.log2 →
    ∃ t c', exec (.cqCiMessage h) s = .next t ∧ t.cq? n = some c' ∧ c'.ci = v % idxMod c.compat ∧ c'.pi = c.pi ∧ { t with q := u.q } = u)

/-- R222 to R228, R230, R231, R233, R236. When a WQ with earlier jobs still running enters ERROR is the model's reading (DEDUCED,
log entry 30); NO_BUFFER for a frame without bobbins (155) and the status of a code outside Table 6.13 (156) are its choices. -/
def Obligations.FetchAndCompletion : Prop :=
  (∀ (s : State) (h g last : Nat) (dev : Bool) (el : List (Nat × Wq)) (cr : Wq → Nat), AMap.rising s.q.wqs = true →
    (∀ e ∈ s.q.wqs, 1 ≤ e.2.weight) → el = (s.groupWqs h g).filter (fun e => s.eligible e.2) →
    (∀ x : Wq, cr x = if (∀ e ∈ el, e.2.credit = 0) then x.weight else x.credit) → last = AMap.getD s.q.visited (visitKey h g) 0 →
    ((dev = false ∧ s.groupAt 4 h ≠ some g) ∨ (∀ e ∈ el, e.2.ringLoc = dev → cr e.2 = 0) → exec (.wqeFetch h dev g) s = .next s) ∧
    (dev = true ∨ s.groupAt 4 h = some g → (∃ e ∈ el, e.2.ringLoc = dev ∧ 0 < cr e.2) →
      ∃ (t : State) (n : Nat) (w w' : Wq) (f : Fetch), exec (.wqeFetch h dev g) s = .next t ∧ (n, w) ∈ el ∧ w.ringLoc = dev ∧ 0 < cr w ∧
        ((last ≤ n ∧ ∀ e ∈ el, e.2.ringLoc = dev → 0 < cr e.2 → last ≤ e.1 → n ≤ e.1) ∨
          (∀ e ∈ el, e.2.ringLoc = dev → 0 < cr e.2 → e.1 < last ∧ n ≤ e.1)) ∧
        t.wq? n = some w' ∧ w'.fi = (w.fi + min (min w.burst (cr w)) (w.dist w.pi w.fi)) % idxMod w.compat ∧
        w'.credit = cr w - min (min w.burst (cr w)) (w.dist w.pi w.fi) ∧ w'.fetch = w.fetch ++ [f] ∧ f.start = w.fi ∧
        f.counts.sum = min (min w.burst (cr w)) (w.dist w.pi w.fi) ∧ w'.pi = w.pi ∧ w'.ci = w.ci ∧ w'.jobs = w.jobs ∧
        AMap.getD t.q.visited (visitKey h g) 0 = n + 1 ∧ (dev = false → t.groupAt 4 h = none))) ∧
  (∀ (s : State) (n st : Nat) (w : Wq) (f : Fetch) (fs : List Fetch) (l : Leg) (e : Bytes), s.wq? n = some w → w.fetch = f :: fs → f.counts = [1] →
    f.legs = [l] → s.legResult l = some (st, e) → w.openChain = none →
    (st = 0 → w.inflight ≤ w.out → ∃ t w', exec (.fetchComplete n) s = .next t ∧ t.wq? n = some w' ∧ w'.jobs = w.jobs ∧ w'.fetch = [] ∧
      w'.fi = f.start ∧ w'.state = w.state ∧ w'.credit = min w.weight (w.credit + w.dist w.fi f.start)) ∧
    (st = 0 → w.out < w.inflight → e.length = 64 → leAt e 1 1 = 3 ∨ leAt e 1 1 = 7 →
      entryFault6 w.type (w.type == qtStorage && s.pairOf w.func n == 0) [] e = 0 →
      ∃ t w' j, exec (.fetchComplete n) s = .next t ∧ t.wq? n = some w' ∧ w'.jobs = w.jobs ++ [j] ∧ w'.fetch = fs ∧ w'.state = w.state ∧
        j.first = f.start ∧ j.last = f.start ∧ j.opcode = leAt e 0 1 ∧ j.user = leAt e 4 4 ∧ j.entries = [e] ∧ j.stage = .unstarted ∧
        j.suppress = decide (leAt e 1 1 = 7) ∧
        t.rd F.QUEUE_STAT.FETCHED.CNT = min (s.rd F.QUEUE_STAT.FETCHED.CNT + 1) (2 ^ 32 - 1)) ∧
    (∀ d, n < 65536 → w.jobs = [] → (st ≠ 0 ∧ d = 7) ∨
        (st = 0 ∧ w.out < w.inflight ∧ d ≠ 0 ∧ d = entryFault6 w.type (w.type == qtStorage && s.pairOf w.func n == 0) [] (sliceB e 0 64)) →
      ∃ t w', exec (.fetchComplete n) s = .next t ∧ t.wq? n = some w' ∧ w'.state = qsError ∧ w'.errCause = d ∧ w'.errIndex = f.start ∧
        w'.fetch = [])) ∧
  (∀ (s : State) (n : Nat) (w : Wq) (f : WqFault), n < 65536 → s.wq? n = some w → w.fault = some f → w.jobs = [] ∨ (∃ j, w.jobs = [j] ∧ j.stage = .faulting) →
    ∃ t w', exec (.errorCqeWrite n) s = .next t ∧ t.wq? n = some w' ∧ w'.state = qsError ∧ w'.errCause = f.detail ∧ w'.errIndex = f.index ∧
      w'.fault = none ∧ t.rd F.QUEUE_STAT.WQ_ERRORS.CNT = min (s.rd F.QUEUE_STAT.WQ_ERRORS.CNT + 1) (2 ^ 32 - 1)) ∧
  (∀ (s : State) (n : Nat) (w : Wq) (j : Job) (c : Cq) (i : Instr), n < 65536 → s.wq? n = some w → s.cq? w.cq = some c → w.jobs = [j] →
    (j.stage = .ended ∧ i = .jobComplete n j.first) ∨ (j.stage = .done ∧ j.seq ≠ 0 ∧ i = .parkedCqeWrite w.cq) → AMap.rising s.q.wqs = true →
    s.soleReporter n w.cq → w.fault = none → w.freeze = false → j.error = false → j.own = 1 → j.frees = true → j.errRec = [] →
    c.ringLoc = false → c.state = qsReady → c.used < ringMax c.compat c.log2 → c.armed = false → (c.home = 1 → s.seamHeld = false) → s.busOn c.func = true → s.fstate c.func ≠ fsTeardown → w.supp < 65535 →
    (j.suppress = false ∨ j.status ≠ 0 →
      ∃ t w' c', exec i s = .next t ∧ t.wq? n = some w' ∧ w'.jobs = [] ∧ w'.supp = 0 ∧ w'.ci = (j.last + 1) % idxMod w.compat ∧ w'.pi = w.pi ∧
        t.cq? w.cq = some c' ∧ c'.pi = (c.pi + 1) % idxMod c.compat ∧ c'.ci = c.ci ∧
        t.outs = s.outs ++ [.hostWrite c.func (c.ringBase + (if c.compat then 16 else 32) * (c.pi % 2 ^ c.log2))
          (cqeBytes c.compat j (if w.func = 0 then n else s.pairOf w.func n) (w.supp + 1) (1 - c.pi / 2 ^ c.log2 % 2)) (s.ideOf c.func)] ∧
        t.rd F.QUEUE_STAT.CQE_WRITTEN.CNT = min (s.rd F.QUEUE_STAT.CQE_WRITTEN.CNT + 1) (2 ^ 32 - 1)) ∧
    (j.suppress = true → j.status = 0 →
      ∃ t w', exec i s = .next t ∧ t.wq? n = some w' ∧ w'.jobs = [] ∧ w'.supp = w.supp + 1 ∧ w'.ci = w.ci ∧ t.cq? w.cq = some c ∧
        t.outs = s.outs)) ∧
  (∀ (s : State) (c : Nat) (q : Cq), s.cq? c = some q → ringMax q.compat q.log2 ≤ q.used → (∀ x ∈ s.cqHeads c, x.2.2.silent = false) →
    ∃ t, exec (.parkedCqeWrite c) s = .next t ∧ s.onlyRegs t [F.QUEUE_PARK_USE.IN_USE]) ∧
  (∀ (s : State) (n first : Nat) (w : Wq) (j : Job) (i : Instr), s.wq? n = some w → s.liveJob n first = some j → (w.jobs.map (fun x => x.first)).Nodup → w.type = qtNetTx →
    i = .netTxSend n first ∨ i = .netTxBobbinWaitEnd n first →
    (j.stage = .unstarted → s.txStop w j = true → exec i s = .next s) ∧
    (j.stage = .unstarted → s.txStop w j = false → w.abort = none → w.ringLoc = false → j.legs = [] → s.jobReads w j ≠ [] →
      (s.busOn w.func = false ∨ (w.home = 1 ∧ s.seamHeld = true) → exec i s = .next s) ∧
      (s.busOn w.func = true → (w.home = 1 → s.seamHeld = false) → s.groupAt 4 w.home = some (s.groupOf w.tenant) →
      ∃ t j', exec i s = .next t ∧ t.liveJob n first = some j' ∧ j'.stage = .started ∧ j'.legs.length = 1 ∧ j'.entries = j.entries ∧
        t.groupAt 4 w.home = none)) ∧
    (∀ rs, j.stage = .started → j.legs.length = (s.jobReads w j).length → s.legResults j.legs = some rs →
      ((∀ r ∈ rs, r.1 = 0) → s.txStop w j = true → exec i s = .next s) ∧
      (∀ u, (∀ r ∈ rs, r.1 = 0) → s.txStop w j = false →
        s.storePacket w.home w.tenant (editorEp w.home) 0 w.compat (rs.flatMap (fun r => r.2)) = (none, u) → u.wq? n = some w →
        ∃ t j' w', exec i s = .next t ∧ t.wq? n = some w' ∧ j' ∈ w'.jobs ∧ j'.first = first ∧ j'.stage = .ended ∧ j'.status = 5 ∧ j'.detail = 5) ∧
      (∀ b u, (∀ r ∈ rs, r.1 = 0) → s.txStop w j = false → s.storePacket w.home w.tenant (editorEp w.home) 0 w.compat (rs.flatMap (fun r => r.2)) = (some b, u) →
        ∃ t j' w', exec i s = .next t ∧ t.wq? n = some w' ∧ j' ∈ w'.jobs ∧ j'.first = first ∧ j'.stage = .ended ∧ j'.status = 0 ∧
          j'.length = (rs.flatMap (fun r => r.2)).length ∧ t.net.nextPkt = u.net.nextPkt + 1) ∧
      (∀ r, rs.find? (fun r => r.1 != 0) = some r →
        ∃ t j' w', exec i s = .next t ∧ t.wq? n = some w' ∧ j' ∈ w'.jobs ∧ j'.first = first ∧ j'.stage = .ended ∧ j'.status = r.1 ∧
          j'.detail = 9 ∧ t.net = s.net))) ∧
  (∀ (s : State) (n first : Nat) (w : Wq) (j : Job), s.wq? n = some w → s.liveJob n first = some j → (w.jobs.map (fun x => x.first)).Nodup →
    w.type = qtNetRx → j.stage = .unstarted →
    ∃ t j', exec (.netRxRecv n first) s = .next t ∧ s.onlyWq t n ∧ t.liveJob n first = some j' ∧ j' = { j with stage := .buffer }) ∧
  (∀ (s u : State) (n : Nat) (w : Wq) (j : Job) (r : Verdict), s.wq? n = some w → w.type = qtMsg → w.abort = none →
    w.jobs.find? (fun x => x.stage == .unstarted) = some j → s.liveJob n j.first = some j → (w.jobs.map (fun x => x.first)).Nodup →
    s.trySend (queueEp w.home) (w.target % 2 ^ 20) (w.target / 2 ^ 20 % 256) 0x3C (wordsOf 8 (j.entries.headD [])) false = (r, u) →
    (r = .ok → ∃ t j', exec (.msgDeliver n) s = .next t ∧ t.liveJob n j.first = some j' ∧ j'.stage = .started ∧ t.yarn = u.yarn) ∧
    (r = .full → exec (.msgDeliver n) s = .next s) ∧
    (∀ st d, (∃ x, r = .stale x ∧ st = 0x0C ∧ d = 0x14) ∨ (∃ x, r = .refused x ∧ st = 0x03 ∧ d = 0x15) →
      ∃ t j' w', exec (.msgDeliver n) s = .next t ∧ t.wq? n = some w' ∧ j' ∈ w'.jobs ∧ j'.first = j.first ∧ j'.stage = .ended ∧
        j'.status = st ∧ j'.detail = d)) ∧
  (∀ (s u : State) (h n i : Nat) (m : Msg) (w : Wq) (j : Job), s.engineMsg h 1 = some (m, u) → n = (m.words.getD 0 0).toNat / 2 ^ 32 % 65536 →
    i = (m.words.getD 1 0).toNat % 2 ^ 32 →
    (u.wq? n = some w → (w.jobs.map (fun x => x.first)).Nodup → w.type = qtMsg → u.liveJob n i = some j → j.stage = .started →
      ∃ t j' w', exec (.msgCompletion h) s = .next t ∧ t.wq? n = some w' ∧ j' ∈ w'.jobs ∧ j'.first = i ∧ j'.stage = .ended ∧
        ((m.words.getD 0 0).toNat / 2 ^ 8 % 256 < 16 → j'.status = (m.words.getD 0 0).toNat / 2 ^ 8 % 256) ∧ j'.status < 16 ∧ j'.detail = (m.words.getD 0 0).toNat / 2 ^ 16 % 256 ∧
        j'.result = (m.words.getD 2 0).toNat ∧ j'.length = (m.words.getD 1 0).toNat / 2 ^ 32 % 2 ^ 32) ∧
    (u.liveJob n i = none → ∃ t, exec (.msgCompletion h) s = .next t ∧ t.q = s.q))

/-- R210, R212, R213, R232, R237 to R240, R243 to R245, Table 6.11. When the copy of a context in device memory is written is the model's
choice (log entry 35). -/
def Obligations.QueueCommands : Prop :=
  (∀ (s : State) (f op : Nat) (c : Instr), (op, c) ∈ [(1, Instr.cqCreate f), (2, .wqCreate f), (3, .cqDelete f), (4, .wqDelete f),
      (5, .queueRestart f), (6, .queueAbort f), (7, .moderate f), (8, .query f), (9, .sched f)] →
    (s.cmdRuns f op = false → exec c s = .next s) ∧
    (s.cmdRuns f op = true → s.named f (s.cmdQueue f) = none → (op = 6 → s.q.aborts.any (fun a => a.1 == f) = false) →
      (op = 8 → s.cmdIndex f < 2) → (op = 9 → f = 0) → ∃ t, exec c s = .next t ∧ t.cmdReported f 4 0x0C ∧ t.q = s.q)) ∧
  (∀ (s : State) (o eb : Nat) (priv fr : Bool) (d : Bytes), s.createFault o priv fr eb d = none ↔
    (priv = true ∨ pf0Fields d = false) ∧ fr = true ∧ paramZeros d = true ∧ 4 ≤ leAt d 1 1 ∧ leAt d 1 1 ≤ 16 ∧ leAt d 0x18 2 < 4096 ∧
      (o = 0 ∨ leAt d 0x18 2 = 0 ∨ leAt d 0x18 2 = s.funcTenant o) ∧ leAt d 8 8 % min 4096 (eb * 2 ^ leAt d 1 1) = 0 ∧
      (s.createHome o d = 1 → s.rd F.SEAM_STATUS.STATE < 2) ∧ s.fstate o ≠ fsHeld) ∧
  (∀ (s : State) (f o n : Nat) (d : Bytes), s.cmdRuns f 1 = true → s.named f (s.cmdQueue f) = some (o, n) → d = s.blkData f →
    (∀ r, s.createFault o (f == 0) (s.cq? n).isNone (if s.funcCompat o then 16 else 32) d = some r →
      ∃ t, exec (.cqCreate f) s = .next t ∧ t.cmdReported f r.1 r.2 ∧ t.q = s.q) ∧
    (s.createFault o (f == 0) (s.cq? n).isNone (if s.funcCompat o then 16 else 32) d = none → leAt d 6 2 ≤ 2047 →
      ∃ t c, exec (.cqCreate f) s = .next t ∧ t.cmdReported f 0 0 ∧ t.cq? n = some c ∧ c.state = qsReady ∧ c.pi = 0 ∧ c.ci = 0 ∧
        c.log2 = leAt d 1 1 ∧ c.ringBase = leAt d 8 8 ∧ c.vector = leAt d 6 2 ∧ c.modCount = leAt d 0x10 2 ∧ c.modTime = leAt d 0x12 2 ∧
        c.func = o ∧ c.compat = s.funcCompat o ∧ c.bound = 0 ∧ c.armed = false ∧ t.q.wqs = s.q.wqs ∧ ∀ m, m ≠ n → t.cq? m = s.cq? m)) ∧
  (∀ (s : State) (f o n : Nat) (d : Bytes), s.cmdRuns f 2 = true → s.named f (s.cmdQueue f) = some (o, n) → d = s.blkData f →
    (∀ r, s.createFault o (f == 0) (s.wq? n).isNone 64 d = some r →
      ∃ t, exec (.wqCreate f) s = .next t ∧ t.cmdReported f r.1 r.2 ∧ t.q = s.q) ∧
    (s.createFault o (f == 0) (s.wq? n).isNone 64 d = none → 1 ≤ leAt d 0 1 → leAt d 0 1 ≤ 5 → 1 ≤ leAt d 4 2 →
      leAt d 4 2 ≤ min (2 ^ leAt d 1 1) 4096 → (f = 0 → 1 ≤ leAt d 0x1A 1 ∧ 1 ≤ leAt d 0x1B 1 ∧ leAt d 0x1B 1 ≤ 64) →
      (o ≠ 0 → (s.pfOf o).getD 0 ≠ typePf (leAt d 0 1) →
        ∃ t, exec (.wqCreate f) s = .next t ∧ t.cmdReported f 3 0x0E ∧ t.q = s.q) ∧
      (∀ cn c, (if f = 0 then some (leAt d 2 2) else s.queueNo f (leAt d 2 2)) = some cn → s.cq? cn = some c →
        o = 0 ∨ (s.pfOf o).getD 0 = typePf (leAt d 0 1) →
        (c.state ≠ qsReady ∨ c.func ≠ o ∨ c.compat ≠ s.funcCompat o →
          ∃ t, exec (.wqCreate f) s = .next t ∧ t.cmdReported f 3 0x0D ∧ t.q = s.q) ∧
        (c.state = qsReady → c.func = o → c.compat = s.funcCompat o →
          (262144 < s.rd F.QUEUE_PARK.RESERVED + leAt d 4 2 →
            ∃ t, exec (.wqCreate f) s = .next t ∧ t.cmdReported f 5 0x0A ∧ t.q = s.q) ∧
          (s.rd F.QUEUE_PARK.RESERVED + leAt d 4 2 ≤ 262144 →
            ∃ t w, exec (.wqCreate f) s = .next t ∧ t.cmdReported f 0 0 ∧ t.wq? n = some w ∧ w.state = qsReady ∧ w.type = leAt d 0 1 ∧
              w.log2 = leAt d 1 1 ∧ w.ringBase = leAt d 8 8 ∧ w.pi = 0 ∧ w.fi = 0 ∧ w.ci = 0 ∧ w.cq = cn ∧ w.inflight = leAt d 4 2 ∧
              w.func = o ∧ w.compat = s.funcCompat o ∧ w.jobs = [] ∧ w.weight = (if f = 0 then leAt d 0x1A 1 else 1) ∧
              w.burst = (if f = 0 then leAt d 0x1B 1 else 8) ∧
              t.cq? cn = some { c with reserved := c.reserved + leAt d 4 2, bound := c.bound + 1 } ∧
              t.rd F.QUEUE_PARK.RESERVED = s.rd F.QUEUE_PARK.RESERVED + leAt d 4 2 ∧ (∀ m, m ≠ n → t.wq? m = s.wq? m) ∧
              ∀ m, m ≠ cn → t.cq? m = s.cq? m))))) ∧
  (∀ (s : State) (f o n : Nat) (c : Cq), s.cmdRuns f 3 = true → s.named f (s.cmdQueue f) = some (o, n) → s.cq? n = some c →
    (c.bound ≠ 0 → ∃ t, exec (.cqDelete f) s = .next t ∧ t.cmdReported f 4 0x0B ∧ t.q = s.q) ∧
    (c.bound = 0 → ∃ t, exec (.cqDelete f) s = .next t ∧ t.cmdReported f 0 0 ∧ t.cq? n = none ∧ (∀ m, m ≠ n → t.cq? m = s.cq? m) ∧
      ∀ m < 65536, t.wq? m = s.wq? m)) ∧
  (∀ (s : State) (f o n : Nat) (w : Wq), s.cmdRuns f 4 = true → s.named f (s.cmdQueue f) = some (o, n) → s.wq? n = some w → n < 65536 →
    (¬ (w.state = qsStopped ∨ (w.state = qsError ∧ (∀ j ∈ w.jobs, j.own = 0)) ∨ (w.state = qsReady ∧ (∀ j ∈ w.jobs, j.own = 0) ∧ w.fi = w.pi ∧ w.fetch = [])) →
      ∃ t, exec (.wqDelete f) s = .next t ∧ t.cmdReported f 4 0x0B ∧ t.q = s.q) ∧
    (w.state = qsStopped ∨ (w.state = qsError ∧ (∀ j ∈ w.jobs, j.own = 0)) ∨ (w.state = qsReady ∧ (∀ j ∈ w.jobs, j.own = 0) ∧ w.fi = w.pi ∧ w.fetch = []) →
      ∃ t, exec (.wqDelete f) s = .next t ∧ t.cmdReported f 0 0 ∧ t.wq? n = none ∧
        t.rd F.QUEUE_PARK.RESERVED = s.rd F.QUEUE_PARK.RESERVED - w.inflight ∧
        (∀ c, s.cq? w.cq = some c → t.cq? w.cq = some { c with reserved := c.reserved - w.inflight, bound := c.bound - 1 }) ∧
        (∀ m < 65536, m ≠ n → t.wq? m = s.wq? m) ∧ ∀ m, m ≠ w.cq → t.cq? m = s.cq? m)) ∧
  (∀ (s : State) (f o n : Nat), s.cmdRuns f 5 = true → s.named f (s.cmdQueue f) = some (o, n) →
    (∀ (w : Wq) (r : Nat), s.cmdCq f = false → s.wq? n = some w → s.cmdGate o w.home = none → r = s.cmdIndex f % idxMod w.compat →
      (w.state = qsReady ∨ (∃ j ∈ w.jobs, j.own ≠ 0) → ∃ t, exec (.queueRestart f) s = .next t ∧ t.cmdReported f 4 0x0B ∧ t.q = s.q) ∧
      (w.state ≠ qsReady → (∀ j ∈ w.jobs, j.own = 0) → w.dist w.pi w.ci < w.dist r w.ci →
        ∃ t, exec (.queueRestart f) s = .next t ∧ t.cmdReported f 4 0x10 ∧ t.q = s.q) ∧
      (w.state ≠ qsReady → (∀ j ∈ w.jobs, j.own = 0) → w.dist r w.ci ≤ w.dist w.pi w.ci →
        ∃ t, exec (.queueRestart f) s = .next t ∧ t.cmdReported f 0 0 ∧ (∀ m, m ≠ n → t.wq? m = s.wq? m) ∧ t.q.cqs = s.q.cqs ∧
          t.wq? n = some { w with state := qsReady, ci := r, fi := r, freeze := false, named := false,
                                    jobs := w.jobs.map (fun j => { j with frees := false }) })) ∧
    (∀ c : Cq, s.cmdCq f = true → s.cq? n = some c → s.cmdGate o c.home = none →
      (c.state = qsReady → ∃ t, exec (.queueRestart f) s = .next t ∧ t.cmdReported f 4 0x0B ∧ t.q = s.q) ∧
      (c.state ≠ qsReady → ∃ t, exec (.queueRestart f) s = .next t ∧ t.cmdReported f 0 0 ∧
        (s.cqHeads n = [] → t.cq? n = some { c with state := qsReady } ∧ t.q.wqs = s.q.wqs ∧ t.outs = s.outs)))) ∧
  (∀ (s : State) (f o n : Nat) (w : Wq), s.cmdRuns f 6 = true → s.named f (s.cmdQueue f) = some (o, n) → n < 65536 → s.cmdCq f = false →
    s.wq? n = some w → s.cmdGate o w.home = none → s.q.aborts = [] → w.abort = none → w.fetch = [] →
    (∀ c ∈ s.welt.cmds, c.stage = .ended ∨ s.liveJob c.wq c.first ≠ none) →
    (w.jobs = [] → (s.fifo queueEvq).entries.length < 1024 →
      ∃ t, exec (.queueAbort f) s = .next t ∧ t.cmdReported f 0 0 ∧ t.q.aborts = [] ∧
        t.wq? n = some { w with state := qsStopped, ci := w.fi, fault := none } ∧ (∀ m, m ≠ n → t.wq? m = s.wq? m) ∧ t.q.cqs = s.q.cqs ∧
        (t.fifo queueEvq).entries = (s.fifo queueEvq).entries ++ [4 * 2 ^ 60 + n]) ∧
    ((∀ j ∈ w.jobs, j.notStarted = false) → (∃ j ∈ w.jobs, j.live = true) →
      ∃ t, exec (.queueAbort f) s = .next t ∧ { t with q := s.q } = s ∧ t.q.aborts = [(f, false, n, s.clk.time)] ∧
        t.wq? n = some { w with abort := some s.clk.time, fault := none } ∧ (∀ m, m ≠ n → t.wq? m = s.wq? m) ∧ t.q.cqs = s.q.cqs) ∧
    (∀ (j : Job) (c : Cq), w.jobs = [j] → j.notStarted = true → j.own = 1 → j.error = false → s.cq? w.cq = some c → c.state ≠ qsReady →
      AMap.rising s.q.wqs = true → s.soleReporter n w.cq →
      ∃ t w' j', exec (.queueAbort f) s = .next t ∧ t.cmdReported f 0 0 ∧ t.wq? n = some w' ∧ w'.state = qsStopped ∧ w'.ci = w.fi ∧
        w'.jobs = [j'] ∧ j'.stage = .done ∧ j'.status = 1 ∧ j'.detail = 0x12 ∧ j'.user = j.user ∧ j'.last = j.last ∧
        t.cq? w.cq = some c)) ∧
  (∀ (s : State) (f o n : Nat) (c : Cq), s.cmdRuns f 6 = true → s.named f (s.cmdQueue f) = some (o, n) → s.cmdCq f = true →
    s.cq? n = some c → s.cmdGate o c.home = none → s.q.aborts = [] → (∀ e ∈ s.q.wqs, e.2.cq = n → 65536 ≤ e.1) →
    ∃ t, exec (.queueAbort f) s = .next t ∧ t.cmdReported f 0 0 ∧ t.cq? n = some { c with state := qsStopped } ∧
      (∀ e ∈ t.q.wqs, e.2.cq ≠ n) ∧ (∀ m < 65536, t.wq? m = s.wq? m) ∧ ∀ m, m ≠ n → t.cq? m = s.cq? m) ∧
  (∀ (s : State) (f n b : Nat) (w : Wq), s.wq? n = some w → n < 65536 → w.abort = some b → s.q.aborts = [(f, false, n, b)] →
    ((∃ j ∈ w.jobs, j.live = true) → s.clk.time < b + usec 400 → exec (.queueAbortSquash n) s = .next s) ∧
    ((∀ j ∈ w.jobs, j.live = false) → s.clk.time < b + usec 400 →
      ∃ t w', exec (.queueAbortSquash n) s = .next t ∧ t.cmdReported f 0 0 ∧ t.q.aborts = [] ∧ t.wq? n = some w' ∧ w'.state = qsStopped ∧
        w'.ci = w.fi ∧ w'.abort = none ∧ w'.jobs.length = w.jobs.length) ∧
    (∀ (j : Job) (c : Cq), w.jobs = [j] → j.stage = .started → j.own = 1 → j.error = false → w.fault = none → s.cq? w.cq = some c →
      c.state ≠ qsReady → AMap.rising s.q.wqs = true → s.soleReporter n w.cq → b + usec 400 ≤ s.clk.time → (s.fifo queueEvq).entries.length < 1024 →
      ∃ t w' j', exec (.queueAbortSquash n) s = .next t ∧ t.cmdReported f 0 0 ∧ t.wq? n = some w' ∧ w'.state = qsStopped ∧ w'.ci = w.fi ∧
        w'.jobs = [j'] ∧ j'.stage = .done ∧ j'.status = 1 ∧ j'.detail = 0x11 ∧
        (t.fifo queueEvq).entries = (s.fifo queueEvq).entries ++ [4 * 2 ^ 60 + n])) ∧
  (∀ (s : State) (f o n : Nat) (c c' : Cq) (d : Bytes), s.cmdRuns f 7 = true → s.named f (s.cmdQueue f) = some (o, n) → s.cq? n = some c →
    s.cmdGate o c.home = none → d = s.blkData f → c' = { c with vector := leAt d 6 2, modCount := leAt d 0x10 2, modTime := leAt d 0x12 2 } →
    (2047 < leAt d 6 2 → ∃ t, exec (.moderate f) s = .next t ∧ t.cmdReported f 4 0x0F ∧ t.q = s.q) ∧
    (leAt d 6 2 ≤ 2047 → (c.armed = false ∨ c.new = 0 ∨ c.new < max 1 (leAt d 0x10 2)) →
      ∃ t, exec (.moderate f) s = .next t ∧ t.cmdReported f 0 0 ∧ t.cq? n = some c' ∧ t.q.wqs = s.q.wqs ∧ t.outs = s.outs ∧
        ∀ m, m ≠ n → t.cq? m = s.cq? m) ∧
    (leAt d 6 2 ≤ 2047 → c.armed = true → c.new ≠ 0 → max 1 (leAt d 0x10 2) ≤ c.new →
      ∃ t, exec (.moderate f) s = .next t ∧ t.cmdReported f 0 0 ∧ t.cq? n = some { c' with armed := false, firstNew := none })) ∧
  (∀ (s : State) (f o n : Nat) (wo : Option Wq) (co : Option Cq), s.cmdRuns f 8 = true → s.named f (s.cmdQueue f) = some (o, n) →
    s.wq? n = wo → s.cq? n = co →
    (2 ≤ s.cmdIndex f → ∃ t, exec (.query f) s = .next t ∧ t.cmdReported f 2 0x0F ∧ t.q = s.q) ∧
    (s.cmdIndex f < 2 → (s.cmdIndex f = 0 ∧ wo = none) ∨ (s.cmdIndex f = 1 ∧ co = none) →
      ∃ t, exec (.query f) s = .next t ∧ t.cmdReported f 0 0 ∧ t.q = s.q ∧ t.blkData f = List.replicate 64 0#8) ∧
    (∀ a, s.cmdIndex f < 2 → a = s.rd F.QUEUE_CTX_BASE.BASE * 4096 + 64 * n → n < 65536 → s.memCheck a 64 = (0, 0) →
      s.memCheck (a + 0x400000) 64 = (0, 0) → ∃ t, exec (.query f) s = .next t ∧
        t.devRead a 64 = (match wo with | some w => w.ctx w.cq | none => List.replicate 64 0#8) ∧
        t.devRead (a + 0x400000) 64 = (match co with | some c => c.ctx (s.parkedOf n) | none => List.replicate 64 0#8) ∧
        ∀ b, (b < a ∨ a + 64 ≤ b) → (b < a + 0x400000 ∨ a + 0x400040 ≤ b) → Memory.byte t.mem b = Memory.byte s.mem b) ∧
    (∀ w d, wo = some w → s.cmdIndex f = 0 →
      ∃ t, exec (.query f) s = .next t ∧ t.cmdReported f 0 0 ∧ t.q = s.q ∧ (d = t.blkData f → leAt d 0 1 = w.state % 256 ∧
        leAt d 1 1 = w.type % 256 ∧ leAt d 2 1 = w.log2 % 256 ∧ leAt d 4 2 = w.func % 65536 ∧ leAt d 8 8 = w.ringBase % 2 ^ 64 ∧
        leAt d 0x10 4 = w.pi % 2 ^ 32 ∧ leAt d 0x14 4 = w.fi % 2 ^ 32 ∧ leAt d 0x18 4 = w.ci % 2 ^ 32 ∧ leAt d 0x1E 2 = w.inflight % 65536 ∧
        leAt d 0x24 1 = w.errCause % 256 ∧ leAt d 0x28 4 = w.errIndex % 2 ^ 32 ∧ leAt d 0x2C 4 = w.supp % 2 ^ 32 ∧
        leAt d 0x38 8 = w.target % 2 ^ 64)) ∧
    (∀ c d, co = some c → s.cmdIndex f = 1 →
      ∃ t, exec (.query f) s = .next t ∧ t.cmdReported f 0 0 ∧ t.q = s.q ∧ (d = t.blkData f → leAt d 0 1 = c.state % 256 ∧
        leAt d 2 1 = c.log2 % 256 ∧ leAt d 3 1 = c.errCause % 256 ∧ leAt d 8 8 = c.ringBase % 2 ^ 64 ∧ leAt d 0x10 4 = c.pi % 2 ^ 32 ∧
        leAt d 0x14 4 = c.ci % 2 ^ 32 ∧ leAt d 0x18 4 = c.reserved % 2 ^ 32 ∧ leAt d 0x20 2 = c.vector % 65536 ∧
        leAt d 0x22 2 = c.modCount % 65536 ∧ leAt d 0x24 2 = c.modTime % 65536 ∧ leAt d 0x26 2 = c.bound % 65536))) ∧
  (∀ (s : State) (f : Nat), f ≠ 0 → s.cmdRuns f 9 = true → ∃ t, exec (.sched f) s = .next t ∧ t.cmdReported f 3 0x0D ∧ t.q = s.q) ∧
  (∀ (s : State) (o n : Nat) (w : Wq) (d : Bytes), s.cmdRuns 0 9 = true → s.named 0 (s.cmdQueue 0) = some (o, n) → s.wq? n = some w →
    s.cmdGate o w.home = none → d = s.blkData 0 →
    (leAt d 0x1A 1 = 0 ∨ leAt d 0x1B 1 = 0 ∨ 64 < leAt d 0x1B 1 →
      ∃ t, exec (.sched 0) s = .next t ∧ t.cmdReported 0 4 0x0F ∧ t.q = s.q) ∧
    (1 ≤ leAt d 0x1A 1 → 1 ≤ leAt d 0x1B 1 → leAt d 0x1B 1 ≤ 64 →
      ∃ t, exec (.sched 0) s = .next t ∧ t.cmdReported 0 0 0 ∧ (∀ m, m ≠ n → t.wq? m = s.wq? m) ∧ t.q.cqs = s.q.cqs ∧
        t.wq? n = some { w with weight := leAt d 0x1A 1, burst := leAt d 0x1B 1, qgroup := leAt d 0x1C 1,
                                mules := leAt d 0x20 8 % 2 ^ 48, target := leAt d 0x28 8 }))

/-- R247 to R249, R251 to R254, R257 to R261, R263, R264. That a disabled watermark leaves without an event (log entry 154) and that
the handle field of a reply that neither allocates nor fails reads 0 (log entry 70) are the model's readings. -/
def Obligations.BobbinStore : Prop :=
  (∀ (s : State), s.rd F.BOBBIN_STATUS.READY = 1 → exec .bobbinEnable s = .next s) ∧
  (∀ (s : State), s.rd F.BOBBIN_STATUS.READY = 0 →
    ((∀ k < 16, s.carvedWell (k / 8) (k % 8)) → ∃ t, exec .bobbinEnable s = .next t ∧ t.rd F.BOBBIN_STATUS.READY = 1 ∧ t.rd F.BOBBIN_CFG.EN = 1 ∧
      (∀ k < 16, t.poolFree (k / 8) (k % 8) = s.poolCount (k / 8) (k % 8) - (s.pool (k / 8) (k % 8)).retired.length) ∧ t.bob.descs = s.bob.descs ∧ t.mem = s.mem ∧
      s.regsKept t ([F.BOBBIN_STATUS.READY, F.BOBBIN_CFG.EN] ++ (List.range 16).map F.BOBBIN_POOL.FREE)) ∧
    (∀ k < 16, ¬ s.carvedWell (k / 8) (k % 8) → (∀ j < k, s.carvedWell (j / 8) (j % 8)) → ∃ t f, exec .bobbinEnable s = .next t ∧ 1 ≤ f ∧ f ≤ 3 ∧
      t.rd F.BOBBIN_CFG.EN = 0 ∧ t.rd F.BOBBIN_STATUS.CFG_FAIL = 1 ∧ t.rd F.BOBBIN_STATUS.FAIL_POOL = k ∧ t.rd F.BOBBIN_STATUS.FAIL_CAUSE = f ∧
      s.onlyRegs t [F.BOBBIN_CFG.EN, F.BOBBIN_STATUS.CFG_FAIL, F.BOBBIN_STATUS.FAIL_POOL, F.BOBBIN_STATUS.FAIL_CAUSE])) ∧
  (∀ (s : State) (t c : Nat) (w : W64), 4096 ≤ t ∨ 8 ≤ c → exec (.bobbinPartWrite .cobbler t c w) s = .next s) ∧
  (∀ (s : State) (ten c min' max' warn slow stop : Nat), s.reaches .cobbler = true → s.latchCob = none → ten < 4096 → c < 8 → min' < 2 ^ 20 →
    max' < 2 ^ 20 → warn < 64 → slow < 64 → stop < 64 → (∀ h < 2, s.partMin ten c ≤ s.rd (F.BOBBIN_POOL.MIN_SUM (8 * h + c))) →
    ((∀ h < 2, min' ≤ s.partMin ten c ∨
        s.rd (F.BOBBIN_POOL.MIN_SUM (8 * h + c)) - s.partMin ten c + min' ≤ s.poolCount h c - s.rd (F.BOBBIN_POOL.RETIRED (8 * h + c))) →
      (∀ h < 2, s.rd (F.BOBBIN_POOL.MIN_SUM (8 * h + c)) - s.partMin ten c + min' < 2 ^ 19) →
      ∃ t, exec (.bobbinPartWrite .cobbler ten c (BitVec.ofNat 64 (min' + 2 ^ 20 * max' + 2 ^ 40 * warn + 2 ^ 46 * slow + 2 ^ 52 * stop))) s = .next t ∧
        t.partMin ten c = min' ∧ t.partMax ten c = max' ∧ t.markW ten c 0 = warn ∧ t.markW ten c 1 = slow ∧ t.markW ten c 2 = stop ∧
        (∀ h < 2, t.rd (F.BOBBIN_POOL.MIN_SUM (8 * h + c)) = s.rd (F.BOBBIN_POOL.MIN_SUM (8 * h + c)) - s.partMin ten c + min') ∧
        s.regsKept t [⟨(F.BOBBIN_PART_W0.MIN (8 * ten + c)).addr, 63, 0⟩, F.BOBBIN_POOL.MIN_SUM c, F.BOBBIN_POOL.MIN_SUM (8 + c),
          levelF 0 ten c, levelF 1 ten c] ∧
        (∀ h < 2, (∀ i < 3, (t.marks h ten c).testBit i = ((s.marks h ten c).testBit i && decide (t.markW ten c i ≠ 0))) ∧
          t.rd (levelF h ten c) = (if t.marks h ten c = s.marks h ten c then s.rd (levelF h ten c) else highestMark (t.marks h ten c))) ∧
        t.bob.descs = s.bob.descs ∧ t.mem = s.mem) ∧
    ((∃ h < 2, s.partMin ten c < min' ∧
        s.poolCount h c - s.rd (F.BOBBIN_POOL.RETIRED (8 * h + c)) < s.rd (F.BOBBIN_POOL.MIN_SUM (8 * h + c)) - s.partMin ten c + min') →
      ∃ t, exec (.bobbinPartWrite .cobbler ten c (BitVec.ofNat 64 (min' + 2 ^ 20 * max' + 2 ^ 40 * warn + 2 ^ 46 * slow + 2 ^ 52 * stop))) s = .next t ∧
        t.bob = s.bob ∧ s.csrRecorded t 4 (0x1480000 + 16 * (8 * ten + c)) true ∧ t.partMin ten c = s.partMin ten c ∧ t.mem = s.mem)) ∧
  (∀ (s : State) (h op : Nat), s.queueAt (epUnit 3 h) = [] ∨ s.clk.cycles < AMap.getD s.yarn.served (epUnit 3 h) 0 → s.net.eth.xoff = [] →
    exec (storeInstr op h) s = .next s) ∧
  (∀ (s : State) (h c t : Nat) (p : Pool), p = s.pool h c →
    (p.freshAt ≠ s.clk.cycles → (s.poolGives h c t = true ↔ 0 < s.poolFree h c ∧ s.inUse h t c < s.partMax t c ∧
      (s.inUse h t c < s.partMin t c ∨ p.reserve < s.poolFree h c))) ∧
    (p.freshAt = s.clk.cycles → (s.poolGives h c t = true ↔ 0 < s.poolFree h c - p.fresh.length - p.freshDups ∧ s.inUse h t c < s.partMax t c ∧
      (s.inUse h t c < s.partMin t c ∨ p.reserve - p.freshReserve < s.poolFree h c - p.fresh.length - p.freshDups)))) ∧
  (∀ (s : State) (h : Nat) (m : Msg) (op chain handle len tenant : Nat) (w1 : Option W64), s.storeAsked h m op chain handle len tenant w1 →
    (op = 0 ∨ 6 < op ∨ ((op = 3 ∨ op = 5) ∧ w1 = none) →
      ∃ t, exec (storeInstr op h) s = .next t ∧ s.storeReplied t h m [storeReply (2, 9) 0 0] ∧ s.storeSame t) ∧
    (op = 1 →
      (65536 < len → ∃ t, exec (.alloc h) s = .next t ∧ s.storeReplied t h m [storeReply (4, 0x0A) 0 0] ∧ s.storeSame t) ∧
      (∀ n, n = (if len = 0 then 65536 else len) → n ≤ 65536 →
        (s.rd F.BOBBIN_STATUS.READY = 0 ∨ (∀ c < 8, s.poolCount h c = 0 ∨ classSize c < n) →
          ∃ t, exec (.alloc h) s = .next t ∧ s.storeReplied t h m [storeReply (5, 5) 0 0] ∧ t.bob = s.bob ∧
            t.rd F.BOBBIN_STAT.NO_BUFFER.CNT = min (s.rd F.BOBBIN_STAT.NO_BUFFER.CNT + 1) (2 ^ 32 - 1) ∧ s.regsKept t [F.BOBBIN_STAT.NO_BUFFER.CNT]) ∧
        (∀ c < 8, s.rd F.BOBBIN_STATUS.READY = 1 → s.poolCount h c ≠ 0 → n ≤ classSize c → (∀ d < c, s.poolCount h d = 0 ∨ classSize d < n) →
          (s.poolGives h c tenant = true →
            ∃ t b, exec (.alloc h) s = .next t ∧ s.storeReplied t h m [storeReply (0, 0) b 1] ∧ s.allocated t h c tenant m.src b ∧
              t.rd F.BOBBIN_STAT.SPILLS.CNT = s.rd F.BOBBIN_STAT.SPILLS.CNT) ∧
          (s.poolGives h c tenant = false → s.rd (F.BOBBIN_CLASS.SPILL_UP (8 * h + c)) = 0 →
            ∃ t, exec (.alloc h) s = .next t ∧ s.storeReplied t h m [storeReply (5, 5) 0 0] ∧ t.bob = s.bob ∧
              t.rd F.BOBBIN_STAT.NO_BUFFER.CNT = min (s.rd F.BOBBIN_STAT.NO_BUFFER.CNT + 1) (2 ^ 32 - 1) ∧ s.regsKept t [F.BOBBIN_STAT.NO_BUFFER.CNT]) ∧
          (∀ d < 8, c < d → (∀ x, c < x → x < d → s.poolCount h x = 0) → s.poolCount h d ≠ 0 → s.poolGives h c tenant = false →
            s.rd (F.BOBBIN_CLASS.SPILL_UP (8 * h + c)) = 1 → s.poolGives h d tenant = true →
            ∃ t b, exec (.alloc h) s = .next t ∧ s.storeReplied t h m [storeReply (0, 0) b 1] ∧ s.allocated t h d tenant m.src b ∧
              t.rd F.BOBBIN_STAT.SPILLS.CNT = min (s.rd F.BOBBIN_STAT.SPILLS.CNT + 1) (2 ^ 32 - 1))))) ∧
    (op ∈ [2, 3, 4] → chain = 0 → (op = 3 → w1 ≠ none) → (∀ c, ¬ s.names h handle c) →
      ∃ t r, exec (storeInstr op h) s = .next t ∧ s.storeReplied t h m [storeReply (4, r) handle 0] ∧ (r = 1 ∨ r = 2) ∧ s.handleRefused t 6 handle) ∧
    (∀ c, op ∈ [2, 3, 4] → chain = 0 → (op = 3 → w1 ≠ none) → s.names h handle c →
      ((op = 3 ∧ s.refPool h c = true) ∨ (op = 4 ∧ s.refPool h c = false) →
        ∃ t, exec (storeInstr op h) s = .next t ∧ s.storeReplied t h m [storeReply (2, 7) handle 0] ∧ s.storeSame t) ∧
      (op ≠ 4 → s.refPool h c = false → (s.desc handle).owner ≠ m.src →
        ∃ t, exec (storeInstr op h) s = .next t ∧ s.storeReplied t h m [storeReply (3, 3) handle 0] ∧ s.handleRefused t 7 handle) ∧
      ((op = 3 → s.refPool h c = false) → (op = 4 → s.refPool h c = true) → s.refPool h c = true ∨ (s.desc handle).owner = m.src →
        (s.desc handle).track = true → (s.desc handle).alloc = false →
        ∃ t, exec (storeInstr op h) s = .next t ∧ s.storeReplied t h m [storeReply (4, 4) handle 0] ∧ s.handleRefused t 5 handle) ∧
      ((s.desc handle).track = false ∨ (s.desc handle).alloc = true →
        (op = 2 → s.refPool h c = false → (s.desc handle).owner = m.src → (s.desc handle).held = true → (s.desc handle).tenant < 4096 →
          s.poolFree h c < 2 ^ 19 - 1 →
          ∃ t, exec (.free h) s = .next t ∧ s.storeReplied t h m [storeReply (0, 0) 0 1] ∧ (t.desc handle).held = false ∧ (t.desc handle).track = false ∧
            t.inUse h (s.desc handle).tenant c = s.inUse h (s.desc handle).tenant c - 1 ∧ t.poolFree h c = s.poolFree h c + 1 ∧
            (∀ x, x ≠ handle → t.desc x = s.desc x) ∧ t.rd F.BOBBIN_STAT.FREES.CNT = min (s.rd F.BOBBIN_STAT.FREES.CNT + 1) (2 ^ 32 - 1)) ∧
        (op = 2 ∨ op = 4 → s.refPool h c = true → (s.desc handle).refcnt = 0 ∨ (op = 4 ∧ (s.desc handle).refcnt = 255) →
          ∃ t, exec (storeInstr op h) s = .next t ∧ s.storeReplied t h m [storeReply (4, 8) handle 0] ∧ s.storeSame t) ∧
        (op = 2 → s.refPool h c = true → (s.desc handle).cls = c → 1 < (s.desc handle).refcnt →
          ∃ t, exec (.free h) s = .next t ∧ s.storeReplied t h m [storeReply (0, 0) 0 1] ∧
            t.desc handle = { s.desc handle with refcnt := (s.desc handle).refcnt - 1 } ∧ (∀ x, x ≠ handle → t.desc x = s.desc x) ∧ s.sameRegs t) ∧
        (op = 2 → s.refPool h c = true → (s.desc handle).refcnt = 1 → (s.desc handle).held = true → (s.desc handle).tenant < 4096 →
          s.poolFree h c < 2 ^ 19 - 1 →
          ∃ t, exec (.free h) s = .next t ∧ s.storeReplied t h m [storeReply (0, 0) 0 1] ∧ (t.desc handle).held = false ∧
            (t.desc handle).refcnt = 0 ∧ t.poolFree h c = s.poolFree h c + 1 ∧ (∀ x, x ≠ handle → t.desc x = s.desc x)) ∧
        (∀ v : W64, op = 3 → w1 = some v → s.refPool h c = false → (s.desc handle).owner = m.src →
          ∃ t, exec (.transfer h) s = .next t ∧ s.storeReplied t h m [storeReply (0, 0) 0 1] ∧
            t.desc handle = { s.desc handle with owner := ownerEp (v.toNat % 2 ^ 20) } ∧ (∀ x, x ≠ handle → t.desc x = s.desc x) ∧ s.sameRegs t) ∧
        (op = 4 → s.refPool h c = true → 0 < (s.desc handle).refcnt → (s.desc handle).refcnt ≠ 255 →
          ∃ t, exec (.incref h) s = .next t ∧ s.storeReplied t h m [storeReply (0, 0) 0 1] ∧
            t.desc handle = { s.desc handle with refcnt := (s.desc handle).refcnt + 1 } ∧ (∀ x, x ≠ handle → t.desc x = s.desc x) ∧ s.sameRegs t))) ∧
    (∀ v : W64, op = 3 → chain = 1 → w1 = some v → (s.chain handle).length < 256 → handle ≠ 0 →
      (∀ x ∈ s.chain handle, (∃ c, s.names h x c ∧ s.refPool h c = false) ∧ (s.desc x).owner = m.src ∧ (s.desc x).track = false) →
      ∃ t, exec (.transfer h) s = .next t ∧ s.storeReplied t h m [storeReply (0, 0) 0 (s.chain handle).length] ∧
        (∀ x, t.desc x = if x ∈ s.chain handle then { s.desc x with owner := ownerEp (v.toNat % 2 ^ 20) } else s.desc x) ∧ s.sameRegs t) ∧
    (∀ (c : Nat) (v : W64), op = 5 → w1 = some v → s.names h handle c →
      (s.refPool h c = false → (s.desc handle).owner ≠ m.src →
        ∃ t, exec (.link h) s = .next t ∧ s.storeReplied t h m [storeReply (3, 3) handle 0] ∧ s.handleRefused t 7 handle) ∧
      (s.refPool h c = true ∨ (s.desc handle).owner = m.src →
        (classSize c < bitsOf v.toNat 40 24 + bitsOf v.toNat 56 41 →
          ∃ t, exec (.link h) s = .next t ∧ s.storeReplied t h m [storeReply (4, 0x0A) handle 0] ∧ s.storeSame t) ∧
        (bitsOf v.toNat 40 24 + bitsOf v.toNat 56 41 ≤ classSize c →
          (bitsOf v.toNat 23 0 ≠ 0 → (∀ d, ¬ s.names h (bitsOf v.toNat 23 0) d) →
            ∃ t r, exec (.link h) s = .next t ∧ s.storeReplied t h m [storeReply (4, r) (bitsOf v.toNat 23 0) 0] ∧ (r = 1 ∨ r = 2) ∧
              s.handleRefused t 6 (bitsOf v.toNat 23 0)) ∧
          (bitsOf v.toNat 23 0 = 0 ∨ (∃ d, s.names h (bitsOf v.toNat 23 0) d) →
            ∃ t, exec (.link h) s = .next t ∧ s.storeReplied t h m [storeReply (0, 0) 0 1] ∧
              t.desc handle = { s.desc handle with next := bitsOf v.toNat 23 0, len := bitsOf v.toNat 40 24, off := bitsOf v.toNat 56 41 } ∧
              (∀ x, x ≠ handle → t.desc x = s.desc x) ∧ s.sameRegs t)))) ∧
    (∀ c, op = 6 → s.names h handle c →
      (s.refPool h c = false → (s.desc handle).owner ≠ m.src →
        ∃ t, exec (.bobbinInfo h) s = .next t ∧ s.storeReplied t h m [storeReply (3, 3) handle 0, 0, 0] ∧ s.handleRefused t 7 handle) ∧
      (s.refPool h c = true ∨ (s.desc handle).owner = m.src →
        ∃ t, exec (.bobbinInfo h) s = .next t ∧ s.storeReplied t h m (storeReply (0, 0) 0 1 :: { s.desc handle with cls := c }.words) ∧ s.storeSame t))) ∧
  (∀ (s : State) (handle : Nat) (u : Bool), s.rd F.BOBBIN_CFG.SCRUB_EN = 0 ∨ s.rd F.BOBBIN_STATUS.READY = 0 ∨ (∀ c, ¬ s.names (handle / 2 ^ 23) handle c) ∧
      s.classAt (handle / 2 ^ 23) (handle % 2 ^ 23) = none → exec (.bobbinScrub handle u) s = .next s) ∧
  (∀ (s : State) (handle c : Nat), handle < 2 ^ 24 → s.rd F.BOBBIN_CFG.SCRUB_EN = 1 → s.rd F.BOBBIN_STATUS.READY = 1 → s.names (handle / 2 ^ 23) handle c →
    (handle / 2 ^ 23 = 1 → s.haltedB = false) →
    (s.backgroundUnit (handle / 2 ^ 23) = none → ∀ e, exec (.bobbinScrub handle e) s = .next s) ∧
    (s.backgroundUnit (handle / 2 ^ 23) ≠ none → (∃ t p, exec (.bobbinScrub handle false) s = .next t ∧ t.bob = s.bob ∧ t.reports = s.reports ++ [p] ∧ p.1 = 6 ∧
      t.rd F.BOBBIN_STAT.SCRUB_CORR.CNT = min (s.rd F.BOBBIN_STAT.SCRUB_CORR.CNT + 1) (2 ^ 32 - 1) ∧ s.regsKept t [F.BOBBIN_STAT.SCRUB_CORR.CNT]) ∧
    ((s.desc handle).held = true → ∃ t p, exec (.bobbinScrub handle true) s = .next t ∧ t.reports = s.reports ++ [p] ∧ p.1 = 6 ∧ s.sameRegs t ∧
      handle ∈ t.bob.bad ∧ (∀ b, b ≠ handle → (b ∈ t.bob.bad ↔ b ∈ s.bob.bad)) ∧ { t.bob with bad := s.bob.bad } = s.bob) ∧
    ((s.desc handle).held = false → handle ∉ (s.pool (handle / 2 ^ 23) c).retired → 0 < s.poolFree (handle / 2 ^ 23) c →
      s.rd (F.BOBBIN_POOL.RETIRED (8 * (handle / 2 ^ 23) + c)) < s.poolCount (handle / 2 ^ 23) c →
      ∃ t p, exec (.bobbinScrub handle true) s = .next t ∧ t.reports = s.reports ++ [p] ∧ p.1 = 6 ∧
        handle ∈ (t.pool (handle / 2 ^ 23) c).retired ∧ t.poolFree (handle / 2 ^ 23) c = s.poolFree (handle / 2 ^ 23) c - 1 ∧
        t.rd (F.BOBBIN_POOL.RETIRED (8 * (handle / 2 ^ 23) + c)) = s.rd (F.BOBBIN_POOL.RETIRED (8 * (handle / 2 ^ 23) + c)) + 1 ∧
        s.regsKept t [F.BOBBIN_POOL.RETIRED (8 * (handle / 2 ^ 23) + c), F.BOBBIN_POOL.FREE (8 * (handle / 2 ^ 23) + c), evqHead bobbinEvq])))

/-- R267, R269, R271, R285. That VOL_OFFLINE of an UNUSED volume answers BUSY is the model's choice (log entry 80), how many
I/O queues there are a free value (82). -/
def Obligations.VolumesAndConnections : Prop :=
  (∀ (s : State) (op : Nat) (i : Instr), (op, i) ∈ volCommands → ¬ s.volAsked op → exec i s = .next s) ∧
  (∀ (s : State) (v : Nat), s.volAsked 1 → v = F.WELT_VOL_CMD.INDEX.get s.welt.goWord →
    (s.volState v = 1 → ∃ t, exec .volSet s = .next t ∧ s.volOnly t (4, 0x14)) ∧
    (s.volState v ≠ 1 → volConfigBad s.volData = true → ∃ t, exec .volSet s = .next t ∧ s.volOnly t (2, 0x15)) ∧
    (s.volState v ≠ 1 → volConfigBad s.volData = false → (leAt s.volData 1 1).testBit 1 = true →
      (∀ p, s.sessPlain (leAt s.volData 0x0C 4) = some p →
        sKind p ≠ 1 ∨ sTenant p ≠ leAt s.volData 4 2 ∨ sFlag p fSector ≠ (leAt s.volData 1 1).testBit 0) →
      ∃ t, exec .volSet s = .next t ∧ s.volOnly t (3, 0x0D)) ∧
    (s.volState v ≠ 1 → volConfigBad s.volData = false →
      ((leAt s.volData 1 1).testBit 1 = true → ∃ p, s.sessPlain (leAt s.volData 0x0C 4) = some p ∧ sKind p = 1 ∧ sTenant p = leAt s.volData 4 2 ∧
        sFlag p fSector = (leAt s.volData 1 1).testBit 0) →
      ∃ t, exec .volSet s = .next t ∧ t.volReported (0, 0) ∧ s.regsKept t volFields ∧ s.volMem t v ∧ { t with csr := s.csr, mem := s.mem } = s ∧
        t.devRead (s.volAddr v) 64 = toLE 1 2 ++ sliceB s.volData 1 0x23 ++ s.devRead (s.volAddr v + 0x24) 12 ++ sliceB s.volData 0x30 16)) ∧
  (∀ (s : State) (v : Nat), s.volAsked 2 → v = F.WELT_VOL_CMD.INDEX.get s.welt.goWord →
    (s.volState v = 2 → (∀ x ∈ s.welt.offline, x.1 ≠ v) → ∃ t, exec .volOnline s = .next t ∧ t.volReported (0, 0) ∧ t.volState v = 1 ∧
      (∀ a, a ≠ s.volAddr v → Memory.byte t.mem a = Memory.byte s.mem a) ∧ s.regsKept t volFields ∧ { t with csr := s.csr, mem := s.mem } = s) ∧
    (s.volState v ≠ 2 → ∃ t, exec .volOnline s = .next t ∧ s.volOnly t (4, 0x14))) ∧
  (∀ (s : State) (v : Nat), s.volAsked 3 → v = F.WELT_VOL_CMD.INDEX.get s.welt.goWord → (∀ x ∈ s.welt.offline, x.2 ≠ none) →
    (s.volState v = 0 → ∃ t, exec .volOffline s = .next t ∧ s.volOnly t (4, 0x14)) ∧
    (s.volState v ≠ 0 → ∃ t, exec .volOffline s = .next t ∧ t.volState v = 2 ∧ s.sameRegs t ∧ t.welt.offline = s.welt.offline ++ [(v, none)] ∧
      t.welt.cmds = s.welt.cmds ∧ (∀ a, a ≠ s.volAddr v → Memory.byte t.mem a = Memory.byte s.mem a))) ∧
  (∀ (s : State) (v : Nat), s.swept →
    ((∀ x ∈ s.welt.offline, x.1 ≠ v) ∨ (∃ c ∈ s.welt.cmds, c.vol = v ∧ c.stage = .started) ∨ s.vol v 0x24 4 ≠ 0 → exec (.volOfflineDone v) s = .next s) ∧
    (s.welt.offline = [(v, none)] → (∀ c ∈ s.welt.cmds, c.vol = v → c.stage ≠ .started) → s.vol v 0x24 4 = 0 →
      ∃ t, exec (.volOfflineDone v) s = .next t ∧ t.volReported (0, 0) ∧ s.regsKept t volFields ∧ t.welt.offline = [] ∧ t.mem = s.mem)) ∧
  (∀ (s : State) (v : Nat), s.volAsked 4 → v = F.WELT_VOL_CMD.INDEX.get s.welt.goWord → ∃ t, exec .volRead s = .next t ∧ t.volReported (0, 0) ∧ t.mem = s.mem ∧
    (∀ k < 64, t.rd (F.WELT_VOL_DATA.W k) = if k < 16 then s.vol v (4 * k) 4 else s.rd (F.WELT_VOL_DATA.W k)) ∧
    s.onlyRegs t (volFields ++ (List.range 64).map F.WELT_VOL_DATA.W)) ∧
  (∀ (s : State) (v : Nat), s.volAsked 5 → v = F.WELT_VOL_CMD.INDEX.get s.welt.goWord →
    (s.volState v = 2 → ∃ t, exec .volDelete s = .next t ∧ t.volReported (0, 0) ∧ t.volState v = 0 ∧ t.vol v 2 2 = 0xFFFF ∧ s.volMem t v ∧
      (∀ o, 4 ≤ o → o < 64 → t.vol v o 1 = s.vol v o 1) ∧ s.regsKept t volFields) ∧
    (s.volState v ≠ 2 → ∃ t, exec .volDelete s = .next t ∧ s.volOnly t (4, 0x14))) ∧
  (∀ (s : State) (c : Nat), s.volAsked 8 → c = F.WELT_VOL_CMD.INDEX.get s.welt.goWord % 256 →
    ((s.conn c).up = true ∨ (s.conn c).opening ≠ none → ∃ t, exec .connSet s = .next t ∧ s.volOnly t (4, 0x14)) ∧
    ((s.conn c).up = false → (s.conn c).opening = none →
      (connBad s.volData = true → ∃ t, exec .connSet s = .next t ∧ s.volOnly t (2, 0x15)) ∧
      (connBad s.volData = false → ∃ t, exec .connSet s = .next t ∧ t.volReported (0, 0) ∧ t.conn c = { s.conn c with desc := s.volData } ∧
        (∀ d, d ≠ c → t.conn d = s.conn d) ∧ s.regsKept t volFields ∧ t.mem = s.mem))) ∧
  (∀ (s : State) (c : Nat), s.volAsked 9 → c = F.WELT_VOL_CMD.INDEX.get s.welt.goWord % 256 →
    ((s.conn c).opening ≠ none → exec .connUp s = .next s) ∧
    ((s.conn c).opening = none → (s.conn c).up = true → ∃ t, exec .connUp s = .next t ∧ s.volOnly t (4, 0x14)) ∧
    ((s.conn c).opening = none → (s.conn c).up = false → connBad (s.conn c).desc = true → ∃ t, exec .connUp s = .next t ∧ s.volOnly t (2, 0x15)) ∧
    ((s.conn c).opening = none → (s.conn c).up = false → connBad (s.conn c).desc = false →
      ∃ t n, exec .connUp s = .next t ∧ 1 ≤ n ∧ n ≤ 17 ∧ t.conn c = { s.conn c with opening := some s.clk.time } ∧ (∀ d, d ≠ c → t.conn d = s.conn d) ∧
        t.outs = s.outs ++ .connOpen c (leAt (s.conn c).desc 0 1) (s.conn c).desc :: (List.range n).map (fun k => .fabricsConnect c k Config.hostNqn) ∧
        s.sameRegs t)) ∧
  (∀ (s : State) (c : Nat) (ok : Bool), (s.conn c).opening = none → exec (.connectionUpDone c ok) s = .next s) ∧
  (∀ (s : State) (c b : Nat), (s.conn c).opening = some b →
    (∃ t, exec (.connectionUpDone c true) s = .next t ∧ t.volReported (0, 0) ∧ (t.conn c).up = true ∧ (t.conn c).opening = none ∧
      (t.conn c).desc = (s.conn c).desc ∧ (∀ d, d ≠ c → t.conn d = s.conn d) ∧ s.regsKept t (evqHead weltEvq :: volFields) ∧
      ((s.fifo weltEvq).entries.length < 1024 → (t.fifo weltEvq).entries = (s.fifo weltEvq).entries ++ [weltEvent 3 c 0])) ∧
    (b + msec (max 1 (s.rd F.WELT_CFG.IO_TIMEOUT)) ≤ s.clk.time → ∃ t, exec (.connectionUpDone c false) s = .next t ∧ t.volReported (0x0B, 9) ∧
      (t.conn c).up = (s.conn c).up ∧ (t.conn c).opening = none ∧ s.regsKept t volFields) ∧
    (s.clk.time < b + msec (max 1 (s.rd F.WELT_CFG.IO_TIMEOUT)) → exec (.connectionUpDone c false) s = .next s)) ∧
  (∀ (s : State) (c : Nat), s.volAsked 10 → c = F.WELT_VOL_CMD.INDEX.get s.welt.goWord % 256 →
    ((s.conn c).up = false → (s.conn c).opening = none → ∃ t, exec .connDown s = .next t ∧ s.volOnly t (0, 0)) ∧
    ((s.conn c).up = true ∨ (s.conn c).opening ≠ none → s.welt.cmds = [] → ∃ t, exec .connDown s = .next t ∧ t.volReported (0, 0) ∧
      (t.conn c).up = false ∧ (t.conn c).opening = none ∧ t.outs = s.outs ++ [.connClose c] ∧ s.connVolumes t c ∧ s.regsKept t (evqHead weltEvq :: volFields))) ∧
  (∀ (s : State) (c : Nat), s.volAsked 11 → c = F.WELT_VOL_CMD.INDEX.get s.welt.goWord % 256 → ∃ t, exec .connRead s = .next t ∧ t.volReported (0, 0) ∧
    t.rd F.WELT_VOL_STATUS.UP = (if (s.conn c).up then 1 else 0) ∧ (∀ k < 64, t.rd (F.WELT_VOL_DATA.W k) = leAt (s.conn c).desc (4 * k) 4) ∧
    s.onlyRegs t (volFields ++ [F.WELT_VOL_STATUS.UP] ++ (List.range 64).map F.WELT_VOL_DATA.W)) ∧
  (∀ (s : State) (c : Nat), (s.conn c).up = false → (∀ b, exec (.keepAlive c b) s = .next s ∧ exec (.connectionDown c b) s = .next s)) ∧
  (∀ (s : State) (c : Nat), (s.conn c).up = true →
    (∃ t, exec (.keepAlive c true) s = .next t ∧ t.conn c = { s.conn c with kaOpen := none } ∧ t.outs = s.outs ∧ s.sameRegs t) ∧
    (s.clk.time < (s.conn c).kaAt + msec (leAt (s.conn c).desc 0x30 4) / 2 → exec (.keepAlive c false) s = .next s) ∧
    ((s.conn c).kaAt + msec (leAt (s.conn c).desc 0x30 4) / 2 ≤ s.clk.time → ∃ t, exec (.keepAlive c false) s = .next t ∧
      t.outs = s.outs ++ [.keepAlive c] ∧ t.conn c = { s.conn c with kaAt := s.clk.time, kaOpen := some ((s.conn c).kaOpen.getD s.clk.time) } ∧ s.sameRegs t) ∧
    ((∀ b, (s.conn c).kaOpen = some b → s.clk.time < b + msec (leAt (s.conn c).desc 0x30 4)) → exec (.connectionDown c false) s = .next s) ∧
    (∀ tcp, tcp = true ∨ (∃ b, (s.conn c).kaOpen = some b ∧ b + msec (leAt (s.conn c).desc 0x30 4) ≤ s.clk.time) → s.welt.cmds = [] →
      ∃ t, exec (.connectionDown c tcp) s = .next t ∧ (t.conn c).up = false ∧ (∀ d, d ≠ c → t.conn d = s.conn d) ∧ s.connVolumes t c ∧
        t.outs = s.outs ∧ s.regsKept t [evqHead weltEvq]))

/-- R268, R274 to R277, R279 to R285. -/
def Obligations.WeltCommands : Prop :=
  (∀ (s : State) (op n first : Nat) (i : Instr), ioIs op n first i → s.swept → s.cmdOf n first = none →
    (s.unnumbered.find? (fun x => x.1 == n && x.2.2.first == first) = none → exec i s = .next s) ∧
    (∀ w j, s.unnumbered.find? (fun x => x.1 == n && x.2.2.first == first) = some (n, w, j) →
      (j.opcode ≠ op ∨ (∃ y ∈ s.unnumbered, jobVol y.2.2 = jobVol j ∧ fetchedBefore y (n, w, j) = true) → exec i s = .next s) ∧
      (j.opcode = op → (∀ y ∈ s.unnumbered, jobVol y.2.2 = jobVol j → fetchedBefore y (n, w, j) = false) → j.first = first →
        s.volState (jobVol j) ≠ 0 → s.vol (jobVol j) 0x28 8 < 2 ^ 64 - 1 →
        ∃ t c, exec i s = .next t ∧ t.welt.cmds = s.welt.cmds ++ [c] ∧ c.wq = n ∧ c.first = first ∧ c.op = op ∧ c.vol = jobVol j ∧
          c.seq = s.vol (jobVol j) 0x28 8 ∧ c.slba = leAt (j.entries.headD []) 0x10 8 ∧ c.blocks = leAt (j.entries.headD []) 0x0C 2 + 1 ∧
          c.func = w.func ∧ c.stage = .numbered ∧ t.vol (jobVol j) 0x28 8 = s.vol (jobVol j) 0x28 8 + 1 ∧ s.volMem t (jobVol j) ∧ s.sameRegs t ∧
          t.q = s.q))) ∧
  (∀ (s : State) (c : WeltCmd) (j : Job), s.swept → s.weltCmd c.id = some c → s.liveJob c.wq c.first = some j →
    (c.stage ≠ .numbered ∨ j.stage ≠ .unstarted ∨ s.inOrder c = false → exec (.commandStart c.id) s = .next s) ∧
    (s.rd F.WELT_CFG.EN = 1 → s.volHome c.vol = 0 ∨ s.fencedB = false → s.rd F.WELT_ACT.PAUSED = 1 ∨
      s.storageTaker (s.volHome c.vol) = none ∨ s.groupAt 1 (s.volHome c.vol) ≠ some (s.groupOf (s.volTenant c.vol)) →
      exec (.commandStart c.id) s = .next s)) ∧
  (∀ (s : State) (c : WeltCmd) (j : Job), s.weltAt c .numbered → s.liveJob c.wq c.first = some j → j.stage = .unstarted → s.inOrder c = true →
    (s.rd F.WELT_CFG.EN = 0 → ∃ t, exec (.commandStart c.id) s = .next t ∧ t.weltEnded c 3 3 (s.endLength c 0)) ∧
    (s.rd F.WELT_CFG.EN = 1 → s.volHome c.vol = 1 → s.fencedB = true → s.volState c.vol ≠ 0 →
      ∃ t, exec (.commandStart c.id) s = .next t ∧ t.weltEnded c 0x0E 0x13 (s.endLength c 0))) ∧
  (∀ (s : State) (c : WeltCmd) (j : Job), s.startTurn c j → s.rd F.WELT_CFG.EN = 1 → s.volHome c.vol = 0 ∨ s.fencedB = false →
    (s.volState c.vol = 0 → ∃ t, exec (.commandStart c.id) s = .next t ∧ t.weltEnded c 4 1 (s.endLength c 0)) ∧
    (s.volState c.vol ≠ 0 →
      (c.func ≠ 0 → c.func ≠ s.vol c.vol 2 2 → ∃ t, exec (.commandStart c.id) s = .next t ∧ t.weltEnded c 3 2 (s.endLength c 0)) ∧
      (c.func = 0 ∨ c.func = s.vol c.vol 2 2 →
        (s.volState c.vol ≠ 1 → ∃ t, exec (.commandStart c.id) s = .next t ∧ t.weltEnded c 3 3 (s.endLength c 0)) ∧
        (s.volState c.vol = 1 →
          (c.op ∈ [2, 4, 5] → s.volFlag c.vol 3 = true → ∃ t, exec (.commandStart c.id) s = .next t ∧ t.weltEnded c 3 4 (s.endLength c 0)) ∧
          (c.op ∉ [2, 4, 5] ∨ s.volFlag c.vol 3 = false →
            (c.op ≠ 3 → s.vol c.vol 0x10 8 < c.slba + c.blocks → ∃ t, exec (.commandStart c.id) s = .next t ∧ t.weltEnded c 4 5 (s.endLength c 0)) ∧
            (c.op = 3 ∨ c.slba + c.blocks ≤ s.vol c.vol 0x10 8 →
              (c.op ∈ [1, 2, 6] → 1048576 < c.blocks * s.volBlock c.vol ∨ segSum (jobSegs qtStorage j.entries) ≠ c.blocks * s.volBlock c.vol ∨
                  (∃ g ∈ jobSegs qtStorage j.entries, g.addr % 4 ≠ 0 ∨ g.len % 4 ≠ 0) →
                ∃ t, exec (.commandStart c.id) s = .next t ∧ t.weltEnded c 4 6 (s.endLength c 0)))))))) ∧
  (∀ (s : State) (c : WeltCmd) (j : Job), s.startTurn c j → s.startFault c j = none →
    (c.op ≠ 2 → ∃ t c', exec (.commandStart c.id) s = .next t ∧ t.weltCmd c.id = some c' ∧ c'.stage = .started ∧
      c'.version = (if c.op = 4 then some [] else c.version) ∧ c'.pages = 0 ∧ t.mem = s.mem ∧ s.itemTaken t c 4 [] ∧
      t.groupAt 1 (s.volHome c.vol) = none) ∧
    (∀ p, c.op = 2 → p = (c.blocks * s.volBlock c.vol + 4095) / 4096 → p ≠ 0 →
      (s.pagesThere c p → ∃ t c', exec (.commandStart c.id) s = .next t ∧ t.weltCmd c.id = some c' ∧ c'.stage = .started ∧ c'.pages = p ∧ s.reserved t c p ∧
        s.itemTaken t c 4 [F.WELT_WBUF_USE.PAGES (s.volHome c.vol)]) ∧
      (¬ s.pagesThere c p → ∃ t c', exec (.commandStart c.id) s = .next t ∧ t.weltCmd c.id = some c' ∧ c'.stage = .waiting ∧ c'.pages = c.pages ∧
        t.mem = s.mem ∧ t.rd F.WELT_STAT.WBUF_WAITS.CNT = min (s.rd F.WELT_STAT.WBUF_WAITS.CNT + 1) (2 ^ 32 - 1) ∧
        s.itemTaken t c 4 [F.WELT_STAT.WBUF_WAITS.CNT]))) ∧
  (∀ (s : State) (c : WeltCmd) (p : Nat), s.weltAt c .waiting → p = (c.blocks * s.volBlock c.vol + 4095) / 4096 → p ≠ 0 →
    (s.volState c.vol ≠ 1 → ∃ t, exec (.wbufReserve c.id) s = .next t ∧ t.weltEnded c 3 3 (s.endLength c 0)) ∧
    (s.volState c.vol = 1 → s.pagesThere c p →
      ∃ t c', exec (.wbufReserve c.id) s = .next t ∧ t.weltCmd c.id = some c' ∧ c'.stage = .started ∧ c'.pages = p ∧ s.reserved t c p ∧
        s.regsKept t [F.WELT_WBUF_USE.PAGES (s.volHome c.vol)]) ∧
    (s.volState c.vol = 1 → ¬ s.pagesThere c p → exec (.wbufReserve c.id) s = .next s)) ∧
  (∀ (s : State) (c : WeltCmd), s.weltAt c .started → s.cmdOf c.wq c.first = some c →
    (∀ bs, c.op = 2 → c.ready = none → c.version = none → s.gather c = (.data bs, s) →
      (s.volFlag c.vol 1 = false → ∃ t, exec (.write c.wq c.first) s = .next t ∧ s.onlyWelt t c { c with ready := some bs }) ∧
      (s.volFlag c.vol 1 = true → c.sealing = false →
        ∃ t j, exec (.write c.wq c.first) s = .next t ∧ t.cipher.jobs = s.cipher.jobs ++ [j] ∧ j.owner = .welt c.id ∧ j.op = 1 ∧ j.data = bs ∧
          j.session = s.vol c.vol 0x0C 4 % 2 ^ 20 ∧ leAt j.raw 0x20 8 = c.slba % 2 ^ 64 ∧ t.weltCmd c.id = some { c with sealing := true, holds := [] } ∧
          ((∀ x ∈ s.welt.cmds, x.stage ≠ .ended) → t.mem = s.mem)) ∧
      (∀ r, s.volFlag c.vol 1 = true → c.sealing = true → s.cipher.results.find? (fun r => r.1 == c.id) = some r →
        (r.2.1 = 0 → ∃ t, exec (.write c.wq c.first) s = .next t ∧ s.onlyWelt t c { c with ready := some r.2.2.2 }) ∧
        (r.2.1 ≠ 0 → ∃ t, exec (.write c.wq c.first) s = .next t ∧ t.weltEnded c r.2.1 0x0D (s.endLength c 0)))) ∧
    (∀ st, c.op = 2 → c.ready = none → c.version = none → s.gather c = (.failed st, s) → st ≠ 0 →
      ∃ t, exec (.write c.wq c.first) s = .next t ∧ t.weltEnded c st 9 (s.endLength c 0)) ∧
    (∀ v, c.op = 2 → c.ready = some v → c.version = none →
      ∃ t, exec (.versionVisible c.id) s = .next t ∧ s.onlyWelt { t with lace := s.lace } c { c with version := some v, ready := none }) ∧
    (c.op ≠ 2 ∨ c.ready = none → exec (.versionVisible c.id) s = .next s) ∧
    (c.op ∈ [1, 6] → c.resolved = false →
      ((∃ x ∈ s.earlierWriters c, x.version = none ∧ x.stage ≠ .ended ∧ (x.op ≠ 5 ∨ x.issued = false ∨ x.unanswered = true)) →
        exec (.readResolve c.id) s = .next s) ∧
      ((∀ x ∈ s.earlierWriters c, x.version ≠ none ∨ x.stage = .ended ∨ (x.op = 5 ∧ x.issued = true ∧ x.unanswered = false)) →
        ∃ t c', exec (.readResolve c.id) s = .next t ∧ s.onlyWelt { t with lace := s.lace } c c' ∧ c'.resolved = true ∧
          (∀ k < c.blocks, AMap.get? c'.got k = (s.sourceOf c (c.slba + k)).map (fun x => x.blockBytes (c.slba + k) (s.volBlock c.vol)) ∧
            ∀ x, s.sourceOf c (c.slba + k) = some x → x.id ∈ c'.holds))) ∧
    (∀ bs w j, c.op = 1 → s.plainOf c = (.data bs, s) → s.wq? c.wq = some w → s.liveJob c.wq c.first = some j → w.ringLoc = false →
      s.fstate w.func ≠ fsTeardown →
      (s.busOn w.func = false ∨ (w.home = 1 ∧ s.seamHeld = true) ∨ s.groupAt 4 w.home ≠ some (s.groupOf (s.volTenant c.vol)) →
        exec (.read c.wq c.first) s = .next s) ∧
      (s.busOn w.func = true → w.home = 0 ∨ s.seamHeld = false → s.groupAt 4 w.home = some (s.groupOf (s.volTenant c.vol)) →
        ∃ t, exec (.read c.wq c.first) s = .next t ∧
        t.weltEnded c 0 0 ((overSegs (jobSegs qtStorage j.entries) bs).map (fun p => p.2.length)).sum ∧
        t.outs = s.outs ++ (overSegs (jobSegs qtStorage j.entries) bs).map (fun p => .hostWrite w.func p.1 p.2 (s.ideOf w.func)))) ∧
    (∀ host bs, c.op = 6 → s.gather c = (.data host, s) → s.plainOf c = (.data bs, s) →
      (host = bs → ∃ t, exec (.compare c.wq c.first) s = .next t ∧ t.weltEnded c 0 0 bs.length) ∧
      (host ≠ bs → ∃ t, exec (.compare c.wq c.first) s = .next t ∧ t.weltEnded c 4 7 (equalPrefix host bs))) ∧
    (c.op = 3 → c.issued = false →
      ((∃ x ∈ s.welt.cmds, x.vol = c.vol ∧ x.writing = true ∧ x.stage ≠ .ended ∧ x.seq < c.seq) → exec (.flushIssue c.id) s = .next s) ∧
      ((∀ x ∈ s.welt.cmds, x.vol = c.vol → x.writing = true → x.stage = .ended ∨ c.seq ≤ x.seq) →
        (s.volFlag c.vol 2 = false → s.groupAt 5 (s.volBackend c.vol % 16 / 4) ≠ some (s.groupOf (s.volTenant c.vol)) →
          exec (.flushIssue c.id) s = .next s) ∧
        (s.volFlag c.vol 2 = true ∨ s.groupAt 5 (s.volBackend c.vol % 16 / 4) = some (s.groupOf (s.volTenant c.vol)) →
        ∃ t c', exec (.flushIssue c.id) s = .next t ∧ t.outs = s.outs ++ [.nvme c.vol c.id 0 0 false (s.vol c.vol 8 4) 0 0 []] ∧
          t.weltCmd c.id = some c' ∧ c'.issued = true ∧ c'.unanswered = true ∧ c'.stage = .started ∧ t.mem = s.mem))) ∧
    (∀ v, c.op = 2 → c.issued = false → c.version = some v →
      ((∃ x ∈ s.welt.cmds, x.overlaps c = true ∧ x.seq < c.seq ∧ ((x.writing = true ∧ (x.issued = false ∨ x.unanswered = true) ∧ (x.stage ≠ .ended ∨ x.issued = true)) ∨
          (x.writing = false ∧ x.stage ≠ .ended ∧ (x.takenAll = false ∨ x.holds ≠ [])))) → exec (.backingIssue c.id 0) s = .next s) ∧
      ((∀ x ∈ s.welt.cmds, x.overlaps c = true → x.seq < c.seq → if x.writing then (x.issued = true ∧ x.unanswered = false) ∨ (x.stage = .ended ∧ x.issued = false)
          else x.stage = .ended ∨ (x.takenAll = true ∧ x.holds = [])) → c.blocks ≠ 0 →
        (s.volFlag c.vol 2 = false → s.groupAt 5 (s.volBackend c.vol % 16 / 4) ≠ some (s.groupOf (s.volTenant c.vol)) →
          exec (.backingIssue c.id 0) s = .next s) ∧
        (s.volFlag c.vol 2 = true ∨ s.groupAt 5 (s.volBackend c.vol % 16 / 4) = some (s.groupOf (s.volTenant c.vol)) →
        ∃ t c', exec (.backingIssue c.id 0) s = .next t ∧ t.outs = s.outs ++ [s.backing c 0 1 c.slba c.blocks (sliceB v 0 (c.blocks * s.volBlock c.vol))] ∧
          t.weltCmd c.id = some c' ∧ c'.issued = true ∧ c'.unanswered = true ∧ c'.version = some v ∧ t.mem = s.mem))) ∧
    (∀ b st, c.op ∈ [2, 3, 4, 5] → c.issued = true → c.back = [b] → b.status = none →
      (s.storageTaker (s.volHome c.vol) = none → exec (.backingCompletion c.id 0 st []) s = .next s) ∧
      (s.storageTaker (s.volHome c.vol) ≠ none →
        (st % 2 ^ 11 = 0 → ∃ t, exec (.backingCompletion c.id 0 st []) s = .next t ∧ t.weltEnded c 0 0 (s.endLength c 0)) ∧
        (st % 2 ^ 11 ≠ 0 → bitsOf st 10 8 ≠ 2 → ∃ t, exec (.backingCompletion c.id 0 st []) s = .next t ∧ t.weltEnded c 0x0F 0x0B (s.endLength c 0)) ∧
        (bitsOf st 10 8 = 2 → ∃ t, exec (.backingCompletion c.id 0 st []) s = .next t ∧ t.weltEnded c 9 8 (s.endLength c 0))))) ∧
  (∀ (s : State) (c : WeltCmd) (b : BackCmd) (k : Nat), s.swept → s.weltCmd c.id = some c → c.back[k]? = some b → b.status = none →
    (b.aborted = true ∨ s.clk.time < b.since + msec (max 1 (s.rd F.WELT_CFG.IO_TIMEOUT)) → exec (.backingTimeout c.id k) s = .next s) ∧
    (b.aborted = false → b.since + msec (max 1 (s.rd F.WELT_CFG.IO_TIMEOUT)) ≤ s.clk.time →
      ∃ t, exec (.backingTimeout c.id k) s = .next t ∧ t.outs = s.outs ++ [.nvmeAbort c.vol c.id k] ∧
        (c.stage = .started → t.weltEnded c 0x0B 9 (s.endLength c 0)) ∧
        (c.stage ≠ .started → t.q = s.q ∧ ∃ c', t.weltCmd c.id = some c' ∧ c'.stage = c.stage ∧ c'.back = c.back.set k { b with aborted := true }))) ∧
  (∀ (s : State) (c x : WeltCmd) (b : Nat), s.sourceOf c b = some x → x ∈ s.welt.cmds ∧ x.writing = true ∧ x.overlaps c = true ∧ x.seq < c.seq ∧
    x.slba ≤ b ∧ b < x.slba + x.blocks ∧ x.version ≠ none ∧
    (∀ y ∈ s.earlierWriters c, y.op = 5 → y.slba ≤ b → b < y.slba + y.blocks → y.seq < x.seq) ∧
    (∀ y ∈ s.earlierWriters c, y.version ≠ none → y.slba ≤ b → b < y.slba + y.blocks →
      (∀ z ∈ s.earlierWriters c, z.op = 5 → z.slba ≤ b → b < z.slba + z.blocks → z.seq < y.seq) → y.seq ≤ x.seq)) ∧
  (∀ (s : State) (n : Nat), (∀ w, s.wq? n = some w → w.freeze = false ∨ w.state ≠ qsReady ∨ ∃ j ∈ w.jobs, j.own ≠ 0) → exec (.freeze n) s = .next s) ∧
  (∀ (s : State) (n : Nat) (w : Wq), s.wq? n = some w → w.freeze = true → w.state = qsReady → (∀ j ∈ w.jobs, j.own = 0) →
    ∃ t w', exec (.freeze n) s = .next t ∧ t.wq? n = some w' ∧ w'.state = qsError ∧ w'.errCause = 0x40 ∧ w'.ci = w.fi ∧ w'.pi = w.pi ∧
      w'.jobs.length = w.jobs.length ∧ t.rd F.WELT_STAT.FREEZES.CNT = min (s.rd F.WELT_STAT.FREEZES.CNT + 1) (2 ^ 32 - 1) ∧
      s.regsKept t [F.WELT_STAT.FREEZES.CNT, evqHead queueEvq, evqHead weltEvq] ∧ t.mem = s.mem)

/-- R286 to R288, R290 to R295. -/
def Obligations.WeltAdmin : Prop :=
  (∀ (s : State) (op n : Nat) (i : Instr), adminIs op n i → s.swept → s.adminJob n op = none → exec i s = .next s) ∧
  (∀ (s : State) (op n : Nat) (i : Instr) (w : Wq) (j : Job) (e : Bytes), adminIs op n i → s.adminJob n op = some (w, j, e) →
    s.wq? n = some w → w.jobs = [j] → 0 < j.own → s.swept → s.rd F.WELT_CFG.EN = 0 → AMap.get? s.welt.aborts n = none → op ≠ 0x84 →
    ∃ t, exec i s = .next t ∧ t.jobEnded n j.first 3 3 0) ∧
  (∀ (s : State) (n : Nat) (w : Wq) (j : Job) (e : Bytes), s.adminAt n 0x81 w j e →
    (2 < leAt e 8 1 → ∃ t, exec (.identify n) s = .next t ∧ t.jobEnded n j.first 2 0x10 0) ∧
    (leAt e 8 1 = 1 → 16384 ≤ leAt e 0x0A 2 → ∃ t, exec (.identify n) s = .next t ∧ t.jobEnded n j.first 2 0x10 0) ∧
    (leAt e 8 1 = 1 → leAt e 0x0A 2 < 16384 → w.func ≠ 0 → s.volState (leAt e 0x0A 2) = 0 ∨ s.vol (leAt e 0x0A 2) 2 2 ≠ w.func →
      ∃ t, exec (.identify n) s = .next t ∧ t.jobEnded n j.first 3 2 0) ∧
    (∀ bs, leAt e 0x10 8 % 4 = 0 →
      (leAt e 8 1 = 0 ∧ bs = s.identifyFunction w.func) ∨
      (leAt e 8 1 = 1 ∧ leAt e 0x0A 2 < 16384 ∧ (w.func = 0 ∨ (s.volState (leAt e 0x0A 2) ≠ 0 ∧ s.vol (leAt e 0x0A 2) 2 2 = w.func)) ∧
        bs = s.identifyVolume (leAt e 0x0A 2)) ∨
      (leAt e 8 1 = 2 ∧ bs = s.volumeList w.func (leAt e 0x0A 2)) →
      ∃ t, exec (.identify n) s = .next t ∧ t.jobEnded n j.first 0 0 4096 ∧ bs.length = 4096 ∧ t.mem = s.mem ∧
        t.outs = s.outs ++ [.hostWrite w.func (leAt e 0x10 8) bs (s.ideOf w.func)])) ∧
  (∀ (s : State) (n : Nat) (w : Wq) (j : Job) (e : Bytes), s.adminAt n 0x82 w j e →
    (leAt e 8 1 ∉ [1, 2] ∨ leAt e 0x18 4 < 4 ∨ 4096 < leAt e 0x18 4 ∨ leAt e 0x10 8 % 4 ≠ 0 → ∃ t, exec (.getLog n) s = .next t ∧ t.jobEnded n j.first 2 0x10 0) ∧
    (∀ p, leAt e 0x10 8 % 4 = 0 → 4 ≤ leAt e 0x18 4 → leAt e 0x18 4 ≤ 4096 →
      (leAt e 8 1 = 2 ∧ p = (AMap.getD s.welt.health w.func (List.replicate 8 0)).flatMap (fun k => toLE 8 k)) ∨
      (leAt e 8 1 = 1 ∧ ∃ o q x, s.named w.func (leAt e 0x0A 2) = some (o, q) ∧ s.wq? q = some x ∧ x.type = qtStorage ∧ p = x.errRec) →
      ∃ t, exec (.getLog n) s = .next t ∧ t.jobEnded n j.first 0 0 (leAt e 0x18 4) ∧
        t.outs = s.outs ++ [.hostWrite w.func (leAt e 0x10 8) (sliceB p 0 (leAt e 0x18 4)) (s.ideOf w.func)])) ∧
  (∀ (s : State) (n : Nat) (w : Wq) (j : Job) (e : Bytes), s.adminAt n 0x83 w j e →
    (leAt e 8 1 ∈ [2, 3] → w.func ≠ 0 → ∃ t, exec (.getFeature n) s = .next t ∧ t.jobEnded n j.first 3 0x0E 0) ∧
    (leAt e 8 1 ∉ [1, 2, 3] → ∃ t, exec (.getFeature n) s = .next t ∧ t.jobEnded n j.first 2 0x10 0) ∧
    (leAt e 8 1 ∈ [2, 3] → w.func = 0 → 16384 ≤ leAt e 0x0A 2 → ∃ t, exec (.getFeature n) s = .next t ∧ t.jobEnded n j.first 2 0x10 0) ∧
    (leAt e 8 1 = 2 → w.func = 0 → leAt e 0x0A 2 < 16384 → s.volState (leAt e 0x0A 2) = 0 →
      ∃ t, exec (.getFeature n) s = .next t ∧ t.jobEnded n j.first 4 1 0) ∧
    (leAt e 8 1 = 2 → w.func = 0 → leAt e 0x0A 2 < 16384 → s.volState (leAt e 0x0A 2) ≠ 0 →
      ∃ t, exec (.getFeature n) s = .next t ∧ t.jobEnded n j.first 0 0 (s.vol (leAt e 0x0A 2) 0x20 4)) ∧
    (leAt e 8 1 = 3 → w.func = 0 → leAt e 0x0A 2 < 16384 →
      ∃ t, exec (.getFeature n) s = .next t ∧ t.jobEnded n j.first 0 0 (s.volState (leAt e 0x0A 2))) ∧
    (∀ o q c, leAt e 8 1 = 1 → s.named w.func (leAt e 0x0A 2) = some (o, q) → s.cq? q = some c →
      ∃ t, exec (.getFeature n) s = .next t ∧ t.jobEnded n j.first 0 0 (c.modCount + 65536 * c.modTime))) ∧
  (∀ (s : State) (n : Nat) (w : Wq) (j : Job) (e : Bytes), s.adminAt n 0x84 w j e →
    (leAt e 8 1 ∉ [1, 2, 3] → ∃ t, exec (.coalesce n) s = .next t ∧ t.jobEnded n j.first 2 0x10 0) ∧
    (leAt e 8 1 ∉ [2, 3] → exec (.volumeWbuf n) s = .next s ∧ exec (.volumeState n) s = .next s) ∧
    (∀ o q c, leAt e 8 1 = 1 → s.named w.func (leAt e 0x0A 2) = some (o, q) → s.cq? q = some c → s.cmdGate o c.home = none → c.vector ≤ 2047 → c.armed = false →
      ∃ t, exec (.coalesce n) s = .next t ∧ t.jobEnded n j.first 0 0 0 ∧
        t.cq? q = some { c with modCount := leAt e 0x10 2, modTime := leAt e 0x12 2 } ∧ (∀ m, m ≠ q → t.cq? m = s.cq? m)) ∧
    (leAt e 8 1 = 2 → w.func ≠ 0 → ∃ t, exec (.volumeWbuf n) s = .next t ∧ t.jobEnded n j.first 3 0x0E 0 ∧ t.mem = s.mem) ∧
    (leAt e 8 1 = 2 → w.func = 0 → leAt e 0x0A 2 < 16384 → s.volState (leAt e 0x0A 2) ≠ 0 →
      (leAt e 0x10 8 < 256 ∨ 2 ^ 32 ≤ leAt e 0x10 8 → ∃ t, exec (.volumeWbuf n) s = .next t ∧ t.jobEnded n j.first 2 0x10 0 ∧ t.mem = s.mem) ∧
      (256 ≤ leAt e 0x10 8 → leAt e 0x10 8 < 2 ^ 32 → ∃ t, exec (.volumeWbuf n) s = .next t ∧ t.jobEnded n j.first 0 0 0 ∧
        t.vol (leAt e 0x0A 2) 0x20 4 = leAt e 0x10 8 ∧ s.volMem t (leAt e 0x0A 2))) ∧
    (leAt e 8 1 = 3 → w.func = 0 → leAt e 0x0A 2 < 16384 → s.volState (leAt e 0x0A 2) = 0 → leAt e 0x10 8 = 1 ∨ (leAt e 0x10 8 = 2 ∧ j.stage = .unstarted) →
      ∃ t, exec (.volumeState n) s = .next t ∧ t.jobEnded n j.first 4 0x14 0 ∧ t.mem = s.mem) ∧
    (leAt e 8 1 = 3 → w.func = 0 → leAt e 0x0A 2 < 16384 → s.volState (leAt e 0x0A 2) ≠ 0 →
      (leAt e 0x10 8 ∉ [1, 2] → ∃ t, exec (.volumeState n) s = .next t ∧ t.jobEnded n j.first 2 0x10 0) ∧
      (leAt e 0x10 8 = 1 → s.volState (leAt e 0x0A 2) = 2 → (∀ x ∈ s.welt.offline, x.1 ≠ leAt e 0x0A 2) →
        ∃ t, exec (.volumeState n) s = .next t ∧ t.jobEnded n j.first 0 0 0 ∧ t.volState (leAt e 0x0A 2) = 1 ∧ s.volMem t (leAt e 0x0A 2)) ∧
      (leAt e 0x10 8 = 2 → j.stage = .started → exec (.volumeState n) s = .next s) ∧
      (leAt e 0x10 8 = 2 → j.stage = .unstarted → ∃ t, exec (.volumeState n) s = .next t ∧ t.volState (leAt e 0x0A 2) = 2 ∧
        t.welt.offline = s.welt.offline ++ [(leAt e 0x0A 2, some (n, j.first))] ∧ t.wq? n = some { w with jobs := [{ j with stage := .started }] } ∧
        s.volMem t (leAt e 0x0A 2)))) ∧
  (∀ (s : State) (n : Nat) (w : Wq) (j : Job) (e : Bytes), s.adminAt n 0x85 w j e →
    (w.func ≠ 0 → ∃ t, exec (.fwDownload n) s = .next t ∧ t.jobEnded n j.first 3 0x0E 0) ∧
    (w.func = 0 → leAt e 0x10 8 % 4 ≠ 0 → ∃ t, exec (.fwDownload n) s = .next t ∧ t.jobEnded n j.first 2 0x10 0) ∧
    (w.func = 0 → leAt e 0x10 8 % 4 = 0 → leAt e 8 4 % 4096 ≠ 0 ∨ leAt e 0x0C 4 % 4096 ≠ 0 ∨ 48 * 2 ^ 20 < leAt e 8 4 + leAt e 0x0C 4 →
      ∃ t, exec (.fwDownload n) s = .next t ∧ t.jobEnded n j.first 4 0x10 0 ∧ t.cob = s.cob) ∧
    (w.func = 0 → leAt e 0x10 8 % 4 = 0 → leAt e 8 4 % 4096 = 0 → leAt e 0x0C 4 % 4096 = 0 → leAt e 8 4 + leAt e 0x0C 4 ≤ 48 * 2 ^ 20 →
      (s.cob.holder ≠ none → s.cob.holder ≠ some (.welt 0) → ∃ t, exec (.fwDownload n) s = .next t ∧ t.jobEnded n j.first 4 0x14 0 ∧ t.cob = s.cob) ∧
      (s.cob.holder = none ∨ s.cob.holder = some (.welt 0) →
        (j.stage = .unstarted → ∃ t ls, exec (.fwDownload n) s = .next t ∧ t.wq? n = some { w with jobs := [{ j with stage := .started, legs := ls }] } ∧
          t.cob = s.cob ∧ ls.length = (chunkAll (s.mrrs 0) [(leAt e 0x10 8, leAt e 0x0C 4)]).length) ∧
        (∀ rs, j.stage = .started → s.legResults j.legs = some rs → (∀ r ∈ rs, r.1 = 0) →
          ∃ t, exec (.fwDownload n) s = .next t ∧ t.jobEnded n j.first 0 0 (leAt e 0x0C 4) ∧ t.cob.holder = some (.welt 0) ∧
            t.cob.staging = Memory.write s.cob.staging (leAt e 8 4) (rs.flatMap (fun r => r.2)) ∧ t.mem = s.mem)))) ∧
  (∀ (s : State) (n : Nat) (w : Wq) (j : Job) (e : Bytes), s.adminAt n 0x87 w j e →
    (∀ q f, AMap.get? s.welt.aborts n = some (q, f) →
      (s.liveJob q f ≠ none → exec (.weltAbort n) s = .next s) ∧
      (s.liveJob q f = none → ∃ t, exec (.weltAbort n) s = .next t ∧ t.jobEnded n j.first 0 0 0 ∧ AMap.get? t.welt.aborts n = none ∧
        t.rd F.WELT_STAT.ABORT_MISSED.CNT = min (s.rd F.WELT_STAT.ABORT_MISSED.CNT + 1) (2 ^ 32 - 1))) ∧
    (AMap.get? s.welt.aborts n = none →
      (s.named w.func (leAt e 8 2) = none → ∃ t, exec (.weltAbort n) s = .next t ∧ t.jobEnded n j.first 0 0 0 ∧
        t.rd F.WELT_STAT.ABORT_MISSED.CNT = min (s.rd F.WELT_STAT.ABORT_MISSED.CNT + 1) (2 ^ 32 - 1)) ∧
      (∀ o q, s.named w.func (leAt e 8 2) = some (o, q) → s.abortTarget q (leAt e 0x0A 2) = none →
        ∃ t, exec (.weltAbort n) s = .next t ∧ t.jobEnded n j.first 0 0 0 ∧
          t.rd F.WELT_STAT.ABORT_MISSED.CNT = min (s.rd F.WELT_STAT.ABORT_MISSED.CNT + 1) (2 ^ 32 - 1)) ∧
      (∀ o q y v, s.named w.func (leAt e 8 2) = some (o, q) → q ≠ n → s.wq? q = some v → v.type = qtStorage → s.isAdmin q v = false → v.jobs = [y] → 0 < y.own →
        y.stage = .unstarted →
        leAt (y.entries.headD []) 8 2 = leAt e 0x0A 2 → s.cmdOf q y.first = none →
        ∃ t, exec (.weltAbort n) s = .next t ∧ t.jobEnded n j.first 0 0 0 ∧ t.jobEnded q y.first 1 0x0C 0 ∧
          t.rd F.WELT_STAT.ABORT_CAUGHT.CNT = min (s.rd F.WELT_STAT.ABORT_CAUGHT.CNT + 1) (2 ^ 32 - 1)))) ∧
  (∀ (s : State) (n : Nat) (w : Wq) (j : Job) (e : Bytes), s.adminAt n 0x88 w j e → leAt e 0x10 8 % 4 = 0 → leAt e 0x0A 1 < 4 →
    ((leAt e 0x0A 1).testBit 0 = true → w.func ≠ 0 → ∃ t, exec (.queueCreate n) s = .next t ∧ t.jobEnded n j.first 3 0x0E 0) ∧
    ((leAt e 0x0A 1).testBit 0 = true → w.func = 0 → 64 ≤ s.rd F.WELT_PERCMD.COUNT →
      (∀ o q, s.named w.func (leAt e 8 2) = some (o, q) → s.pairOf o q ≠ 0) → ∃ t, exec (.queueCreate n) s = .next t ∧ t.jobEnded n j.first 5 0x0F 0) ∧
    ((leAt e 0x0A 1).testBit 0 = false ∨ (w.func = 0 ∧
      (s.rd F.WELT_PERCMD.COUNT < 64 ∨ ∃ o q, s.named w.func (leAt e 8 2) = some (o, q) ∧ s.pairOf o q = 0)) →
      (j.legs = [] → ∃ t l, exec (.queueCreate n) s = .next t ∧ t.wq? n = some { w with jobs := [{ j with stage := .started, legs := [l] }] }) ∧
      (∀ l st bs o q d r u, j.legs = [l] → s.legResult l = some (st, bs) → s.named w.func (leAt e 8 2) = some (o, q) → q ≠ n →
        d = putB (sliceB bs 0 64) 0 [3] → (leAt e 0x0A 1).testBit 1 = false →
        s.createWq o q (w.func == 0) ((leAt e 0x0A 1).testBit 0) (if w.func = 0 then some (leAt d 2 2) else s.queueNo w.func (leAt d 2 2)) d = (r, u) →
        (st ≠ 0 → ∃ t, exec (.queueCreate n) s = .next t ∧ t.jobEnded n j.first st 9 0) ∧
        (st = 0 → ∃ t, exec (.queueCreate n) s = .next t ∧ t.jobEnded n j.first r.1 r.2 0 ∧ (t.wq? q).map (fun x => (x.type, x.func, x.cq, x.percmd)) = (u.wq? q).map (fun x => (x.type, x.func, x.cq, x.percmd)))))) ∧
  (∀ (s : State) (n : Nat) (w : Wq) (j : Job) (e : Bytes), s.adminAt n 0x89 w j e → (leAt e 0x0A 1).testBit 1 = false →
    (s.named w.func (leAt e 8 2) = none → ∃ t, exec (.queueDelete n) s = .next t ∧ t.jobEnded n j.first 4 0x0C 0) ∧
    (∀ o q x, s.named w.func (leAt e 8 2) = some (o, q) → q ≠ n → s.wq? q = some x → q < 65536 → n < 65536 →
      (x.deletable = true → ∃ t, exec (.queueDelete n) s = .next t ∧ t.jobEnded n j.first 0 0 0 ∧ t.wq? q = none) ∧
      (x.deletable = false → ∃ t, exec (.queueDelete n) s = .next t ∧ t.jobEnded n j.first 4 0x0B 0 ∧ t.wq? q = some x))) ∧
  (∀ (s : State) (n : Nat) (w : Wq) (j : Job) (e : Bytes), s.adminAt n 0x8A w j e → (leAt e 0x0A 1).testBit 0 = false →
    (s.named w.func (leAt e 8 2) = none → ∃ t, exec (.adminQueueRestart n) s = .next t ∧ t.jobEnded n j.first 4 0x0C 0) ∧
    (∀ o q x, s.named w.func (leAt e 8 2) = some (o, q) → q ≠ n → s.wq? q = some x → s.cmdGate o x.home = none →
      (x.state = qsReady ∨ (∃ y ∈ x.jobs, y.own ≠ 0) → ∃ t, exec (.adminQueueRestart n) s = .next t ∧ t.jobEnded n j.first 4 0x0B 0 ∧ t.wq? q = some x) ∧
      (x.state ≠ qsReady → (∀ y ∈ x.jobs, y.own = 0) → x.dist (leAt e 0x0C 4 % idxMod x.compat) x.ci ≤ x.dist x.pi x.ci →
        ∃ t x', exec (.adminQueueRestart n) s = .next t ∧ t.jobEnded n j.first 0 0 0 ∧ t.wq? q = some x' ∧ x'.state = qsReady ∧
          x'.ci = leAt e 0x0C 4 % idxMod x.compat ∧ x'.fi = leAt e 0x0C 4 % idxMod x.compat ∧ x'.freeze = false ∧ x'.pi = x.pi)))

/-- R300, R301, R304, R308, R310, R321 to R324, R449. The fields of configuration space that a request names are the model's
(PRESUMED, log entry 40). -/
def Obligations.LinksAndConfiguration : Prop :=
  (∀ (s : State) (l : Nat) (perst : Bool), l < 2 → s.rd F.POWER_STRAP.RESET_SCOPE = 0 → s.q.wqs = [] → s.welt.cmds = [] →
    (∀ f, (s.func f).tear = none) → (∀ p < 4, s.fstate p ≠ fsDisabled) →
    ∃ t, exec (.hostReset l perst) s = .next t ∧ t.rd (F.HOSTLINK_LINK_STATUS.UP l) = 0 ∧ t.rd (F.HOSTLINK_LINK_STATUS.WIDTH l) = 0 ∧
      t.rd (F.HOSTLINK_LINK_STATUS.FLIT l) = 0 ∧ t.rd (F.HOSTLINK_LINK_STATUS.SPEED l) = 0 ∧ t.linkReady l = false ∧
      (∀ f, s.funcList.contains f = true → s.linkOf f = l → s.fstate f ≠ fsDisabled → t.fstate f = fsTeardown) ∧
      (∀ f, s.linkOf f ≠ l → t.fstate f = s.fstate f ∧ t.func f = s.func f) ∧
      (∀ p, 1 ≤ p → p < 4 → s.linkOfPf p = l → (t.func p).cfg.vfEnable = false ∧ (t.func p).cfg.numVfs = 0) ∧
      (∀ r ∈ t.host.reqs, (s.funcsOn l).contains r.func = false) ∧ (∀ q ∈ t.host.quar, q.link ≠ l) ∧
      (∀ k < 64, s.linkOf (s.rd (F.HOSTLINK_IDE.FIRST_FUNC k)) = l → t.rd (F.HOSTLINK_IDE.ACTIVE k) = 0) ∧
      (AMap.get? t.host.perst l = if perst then none else some s.clk.time) ∧
      (l = 0 → t.rd F.GLOBAL_CSR_ERR.VALID = 0 ∧ t.rd F.GLOBAL_CSR_ERR_CNT.COUNT = 0 ∧ t.rd F.HOSTLINK_INTX.PEND = 0 ∧
        t.rd F.HOSTLINK_STAT.CPL_TIMEOUT.CNT = 0) ∧
      t.q = s.q ∧ t.mem = s.mem ∧ t.mules = s.mules ∧ t.outs = s.outs) ∧
  (∀ (s : State) (l : Nat), l < 2 →
    (s.rd F.POWER_STRAP.RESET_SCOPE = 0 → exec (.hostRefclkLoss l) s = exec (.hostReset l false) s) ∧
    (s.rd F.POWER_STRAP.RESET_SCOPE = 1 →
      ∃ t, exec (.hostRefclkLoss l) s = .next t ∧ t.rd (F.HOSTLINK_LINK_STATUS.UP l) = 0 ∧ t.rd (F.HOSTLINK_LINK_STATUS.WIDTH l) = 0 ∧
        s.onlyRegs t [F.HOSTLINK_LINK_STATUS.UP l, F.HOSTLINK_LINK_STATUS.WIDTH l])) ∧
  (∀ (s : State) (l : Nat), l = 0 ∨ (l = 1 ∧ s.rd F.POWER_STRAP.HOST_BIFUR = 1) →
    ∃ t, exec (.perstNDeassertion l) s = .next t ∧ AMap.get? t.host.perst l = some s.clk.time ∧ t.linkReady l = false ∧
      t.pwr.perst = s.pwr.perst.filter (fun x => x != l) ∧ (s.locked = true → t.cob = s.cob) ∧
      (s.locked = false → t.cob.boot.since = max s.cob.boot.since s.clk.time ∧ t.cob.boot.stage = s.cob.boot.stage) ∧
      { t with host := s.host, pwr := s.pwr, cob := s.cob } = s ∧ { t.host with perst := s.host.perst, ready := s.host.ready } = s.host) ∧
  (∀ (s : State) (l b : Nat), AMap.get? s.host.perst l = some b →
    (s.locked = true → b + msec 20 ≤ s.clk.time →
      ∃ t, exec (.configReady l) s = .next t ∧ t.linkReady l = true ∧ { t with host := s.host } = s ∧
        { t.host with ready := s.host.ready } = s.host ∧ ∀ m, m ≠ l → t.linkReady m = s.linkReady m) ∧
    (s.cob.boot.stage ≠ .recovery → (s.locked = false ∨ s.clk.time < b + msec 20) → exec (.configReady l) s = .next s)) ∧
  (∀ (s : State) (l speed width b : Nat) (flit : Bool), l < 2 → s.pfsOn l ≠ [] → s.pwr.perst.contains l = false →
    AMap.get? s.host.perst l = some b → s.hostTrains speed width = true → s.host.reqs = [] → s.host.posted = [] →
    ∃ t, exec (.hostLinkUp l flit speed width) s = .next t ∧ t.rd (F.HOSTLINK_LINK_STATUS.UP l) = 1 ∧
      t.rd (F.HOSTLINK_LINK_STATUS.FLIT l) = (if flit ∨ speed = 6 ∨ speed = 7 then 1 else 0) ∧ t.rd (F.HOSTLINK_LINK_STATUS.SPEED l) = speed ∧
      t.rd (F.HOSTLINK_LINK_STATUS.WIDTH l) = width ∧ s.onlyRegs t [F.HOSTLINK_LINK_STATUS.UP l, F.HOSTLINK_LINK_STATUS.FLIT l,
        F.HOSTLINK_LINK_STATUS.SPEED l, F.HOSTLINK_LINK_STATUS.WIDTH l]) ∧
  (∀ (s : State) (l speed width : Nat) (flit : Bool), s.pfsOn l = [] ∨ s.hostTrains speed width = false → exec (.hostLinkUp l flit speed width) s = .next s) ∧
  (∀ (s : State) (f : Nat) (r : CfgReg) (v : Option Nat),
    (s.linkReady (s.linkOf f) = false ∨ s.fstate f = fsTeardown →
      ∃ t, exec (.configRequest f r v) s = .next t ∧ t.outs = s.outs ++ [.cfgReply f none] ∧
        t.rd F.HOSTLINK_STAT.RRS_SENT.CNT = min (s.rd F.HOSTLINK_STAT.RRS_SENT.CNT + 1) (2 ^ 32 - 1) ∧
        { t with csr := s.csr, outs := s.outs } = s ∧ s.regsKept t [F.HOSTLINK_STAT.RRS_SENT.CNT]) ∧
    (s.linkReady (s.linkOf f) = true → s.fstate f ≠ fsTeardown →
      s.funcList.contains f = false ∨ s.fstate f = fsDisabled ∨ (s.cob.boot.stage = .recovery ∧ f ≠ 0) →
      exec (.configRequest f r v) s = .next { s with outs := s.outs ++ [.cfgReply f (some (2 ^ 32 - 1))] })) ∧
  (∀ (s : State) (f : Nat), s.linkReady (s.linkOf f) = true → s.fstate f ≠ fsTeardown → s.funcList.contains f = true → s.fstate f ≠ fsDisabled →
    s.cob.boot.stage ≠ .recovery →
    (∀ r v, (r, v) ∈ [(CfgReg.vendorId, s.rd F.HOSTLINK_ID.VENDOR),
        (.deviceId, if f < 4 then 0x0960 + f else 0x0968 + (s.pfOf f).getD 1),
        (.classCode, match (s.pfOf f).getD 0 with | 0 => 0x088000 | 1 => 0x020000 | 2 => 0x018000 | _ => 0x120000),
        (.busMaster, if (s.func f).cfg.busMaster then 1 else 0), (.msixSize, s.rd (F.HOSTLINK_FUNC.VECTORS f) - 1),
        (.bar0, if f < 4 then (s.func f).cfg.bar0.toNat ||| 4 else 0), (.bar2, if f < 4 then (s.func f).cfg.bar2.toNat ||| 4 else 0),
        (.bar4, if f < 4 then (s.func f).cfg.bar4.toNat ||| 4 else 0), (.vfBar0, if 1 ≤ f ∧ f < 4 then 65536 else 0),
        (.vfStride, if 1 ≤ f ∧ f < 4 then 1 else 0), (.numVfs, (s.func f).cfg.numVfs)] →
      exec (.configRequest f r none) s = .next { s with outs := s.outs ++ [.cfgReply f (some v)] }) ∧
    (∀ x, s.host.reqs = [] → s.host.posted = [] →
      ∃ t, exec (.configRequest f .busMaster (some x)) s = .next t ∧ (t.func f).cfg = { (s.func f).cfg with busMaster := x == 1 } ∧
        t.outs = s.outs ++ [.cfgReply f (some 0)] ∧ (∀ g, g ≠ f → t.func g = s.func g) ∧
        { t with host := s.host, outs := s.outs } = s) ∧
    (∀ x n, f < 4 → n = (if f = 0 then 2 ^ 26 else 2 ^ 16) →
      ∃ t, exec (.configRequest f .bar0 (some x)) s = .next t ∧ (t.func f).cfg = { (s.func f).cfg with bar0 := BitVec.ofNat 64 (x - x % n) } ∧
        t.outs = s.outs ++ [.cfgReply f (some 0)] ∧ (∀ g, g ≠ f → t.func g = s.func g) ∧ { t with host := s.host, outs := s.outs } = s) ∧
    (∀ r x, r ∈ [CfgReg.vendorId, .deviceId, .classCode, .intxStatus, .msiPend, .msixSize, .totalVfs, .vfStride, .firstVf, .vfBar0, .vfBar2, .vfBar4] →
      exec (.configRequest f r (some x)) s = .next { s with outs := s.outs ++ [.cfgReply f (some 0)] })) ∧
  (∀ (s : State) (f size : Nat) (write : Bool),
    (s.fstate f = fsTeardown →
      ∃ t, exec (.teardownAccess f size write) s = .next t ∧ t.outs = s.outs ++ (if write then [] else [.barRead f (2 ^ (8 * size) - 1)]) ∧
        t.rd F.HOSTLINK_STAT.TEARDOWN_ACCESS.CNT = min (s.rd F.HOSTLINK_STAT.TEARDOWN_ACCESS.CNT + 1) (2 ^ 32 - 1) ∧
        { t with csr := s.csr, outs := s.outs } = s ∧ s.regsKept t [F.HOSTLINK_STAT.TEARDOWN_ACCESS.CNT]) ∧
    (s.fstate f ≠ fsTeardown → exec (.teardownAccess f size write) s = .next s))

/-- R306, R308 to R310, R318, R325 to R328. -/
def Obligations.TeardownAndAborts : Prop :=
  (∀ (s : State) (f : Nat), s.funcList.contains f = true → s.fstate f ≠ fsDisabled → f = 0 ∨ 4 ≤ f →
    ((s.func f).tear = none → s.noWork f →
      ∃ t, exec (.flr f) s = .next t ∧ t.fstate f = fsTeardown ∧ t.intxPend f = false ∧
        (t.func f).tear = some { since := s.clk.time, after := if s.fstate f = fsHeld then fsHeld else fsActive, host := false,
                                 squashed := false, abandoned := false } ∧
        (∀ w ∈ t.host.posted, w.func ≠ f) ∧ (t.func f).cfg = (s.func f).cfg ∧ t.q = s.q ∧ t.mem = s.mem ∧ t.outs = s.outs ∧
        t.host.reqs = s.host.reqs ∧ ∀ g, g ≠ f → t.fstate g = s.fstate g ∧ t.func g = s.func g) ∧
    (∀ x : Teardown, (s.func f).tear = some x → x.host = false →
      ∃ t, exec (.flr f) s = .next t ∧ (∀ g, t.func g = s.func g) ∧ t.csr = s.csr ∧ t.q = s.q ∧ t.mem = s.mem) ∧
    (∀ (n : Nat) (w : Wq) (j : Job) (c : Cq), (s.func f).tear = none → s.oneJob n f w j c → j.notStarted = true →
      ∃ t, exec (.flr f) s = .next t ∧ t.fstate f = fsTeardown ∧ t.parkedAborted n j 0x12 ∧ t.outs = s.outs)) ∧
  (∀ (s : State) (f : Nat), s.funcList.contains f = false ∨ s.fstate f = fsDisabled → exec (.flr f) s = .next s) ∧
  (∀ (s : State) (p num : Nat) (en : Bool), 1 ≤ p → p < 4 → s.linkReady (s.linkOf p) = true → s.fstate p ≠ fsTeardown → s.q.wqs = [] →
    s.welt.cmds = [] → (∀ f, (s.func f).tear = none) → (∀ f, s.fstate f ≠ fsTeardown) →
    ∃ t, exec (.vfEnableWrite p en num) s = .next t ∧ (t.func p).cfg.vfEnable = en ∧ (t.func p).cfg.numVfs = min num (s.totalVfs p) ∧
      (∀ k < s.totalVfs p, ∀ f, f = s.vfBase p + k →
        (en = true ∧ k < num → t.fstate f = (if s.fstate f = fsDisabled then fsActive else s.fstate f) ∧ (t.func f).tear = none) ∧
        (¬ (en = true ∧ k < num) → t.fstate f = (if s.fstate f = fsDisabled then fsDisabled else fsTeardown) ∧
          (s.fstate f ≠ fsDisabled → ∃ x, (t.func f).tear = some x ∧ x.after = fsDisabled ∧ x.since = s.clk.time))) ∧
      (∀ f, f < s.vfBase p ∨ s.vfBase p + s.totalVfs p ≤ f → t.fstate f = s.fstate f) ∧ t.q = s.q ∧ t.mem = s.mem ∧ t.outs = s.outs) ∧
  (∀ (s : State) (p num : Nat) (en : Bool), (p = 0 ∨ 4 ≤ p → exec (.vfEnableWrite p en num) s = .next s) ∧
    (1 ≤ p → p < 4 → s.linkReady (s.linkOf p) = false ∨ s.fstate p = fsTeardown →
      ∃ t, exec (.vfEnableWrite p en num) s = .next t ∧ t.outs = s.outs ++ [.cfgReply p none] ∧
        t.rd F.HOSTLINK_STAT.RRS_SENT.CNT = min (s.rd F.HOSTLINK_STAT.RRS_SENT.CNT + 1) (2 ^ 32 - 1) ∧
        { t with csr := s.csr, outs := s.outs } = s ∧ s.regsKept t [F.HOSTLINK_STAT.RRS_SENT.CNT])) ∧
  (∀ (s : State) (f : Nat) (x : Teardown), (s.func f).tear = some x → x.host = false →
    (x.squashed = true ∨ s.clk.time < x.since + msec 8 → exec (.teardownSquash f) s = .next s) ∧
    (x.squashed = false → x.since + msec 8 ≤ s.clk.time →
      (s.noWork f → ∃ t, exec (.teardownSquash f) s = .next t ∧ (t.func f).tear = some { x with squashed := true } ∧
        { t with host := s.host } = s ∧ ∀ g, g ≠ f → t.func g = s.func g) ∧
      (∀ (n : Nat) (w : Wq) (j : Job) (c : Cq), s.fstate f = fsTeardown → s.oneJob n f w j c → j.live = true →
        ∃ t, exec (.teardownSquash f) s = .next t ∧ t.parkedAborted n j 0x11 ∧ t.outs = s.outs)) ∧
    (x.abandoned = true ∨ s.clk.time < x.since + msec 9 → exec (.teardownReadAbandon f) s = .next s) ∧
    (x.abandoned = false → x.since + msec 9 ≤ s.clk.time →
      ∃ t, exec (.teardownReadAbandon f) s = .next t ∧ (t.func f).tear = some { x with abandoned := true } ∧
        t.host.reqs = s.host.reqs.filter (fun r => r.func != f) ∧ { t with host := s.host } = s ∧
        (∀ r ∈ s.host.reqs, ∀ g, r.func = f → r.tag = some g →
          ∃ q ∈ t.host.quar, q.tag = g ∧ q.tenant = r.tenant ∧ q.freeAt = s.clk.time + 2 * s.timeoutOf f) ∧
        ∀ q ∈ s.host.quar, q ∈ t.host.quar) ∧
    (s.tearIdle f false = false → exec (.teardownEnd f) s = .next s) ∧
    (s.tearIdle f false = true → x.after < 4 → s.q.aborts = [] → AMap.rising s.q.wqs = true → AMap.rising s.q.cqs = true →
      (∀ e ∈ s.q.wqs, e.1 < 65536 ∧ ∀ c, s.cq? e.2.cq = some c → c.func = e.2.func) →
      ∃ t, exec (.teardownEnd f) s = .next t ∧ t.fstate f = x.after ∧ (t.func f).tear = none ∧
        (t.func f).cfg = { Pcie.reset with aerCto := (s.func f).cfg.aerCto, aerUnexp := (s.func f).cfg.aerUnexp, aerIde := (s.func f).cfg.aerIde } ∧
        (∀ v < 4096, t.msix f v = Msix.reset) ∧ (∀ e ∈ t.q.wqs, e.2.func ≠ f) ∧ (∀ e ∈ t.q.cqs, e.2.func ≠ f) ∧
        (∀ n w, s.wq? n = some w → w.func ≠ f → t.wq? n = some w) ∧
        t.rd F.HOSTLINK_STAT.TEARDOWNS.CNT = min (s.rd F.HOSTLINK_STAT.TEARDOWNS.CNT + 1) (2 ^ 32 - 1))) ∧
  (∀ (s : State) (f : Nat), (s.func f).tear = none → ∀ c ∈ [Instr.teardownSquash f, .teardownReadAbandon f, .teardownEnd f], exec c s = .next s) ∧
  (∀ (s : State) (op : Nat) (c : Instr), (op, c) ∈ [(1, Instr.functionAbort), (2, .tenantAbort), (3, .releaseFunction), (4, .releaseTenant)] →
    s.hAbortRuns op = false → exec c s = .next s) ∧
  (∀ (s : State) (f : Nat), s.rd F.HOSTLINK_ABORT.TARGET = f →
    (s.hAbortRuns 1 = true → f = 0 → ∃ t, exec .functionAbort s = .next t ∧ t.abortReported 3 1 ∧ s.onlyRegs t abortFields) ∧
    (∀ op c, (op, c) ∈ [(1, Instr.functionAbort), (3, .releaseFunction)] → s.hAbortRuns op = true → (op = 1 → f ≠ 0) →
      s.funcList.contains f = false ∨ s.fstate f = fsDisabled →
      ∃ t, exec c s = .next t ∧ t.abortReported 4 2 ∧ s.onlyRegs t abortFields) ∧
    (s.hAbortRuns 1 = true → f ≠ 0 → s.funcList.contains f = true → s.fstate f ≠ fsDisabled →
      ((s.func f).tear = none → s.noWork f →
        ∃ t, exec .functionAbort s = .next t ∧ t.fstate f = fsHeld ∧ t.rd F.HOSTLINK_ABORT.BUSY = 1 ∧
          t.host.abort = some { since := s.host.goAt, tenant := false, funcs := [f], wqs := [], squashed := false } ∧
          s.regsKept t [F.HOSTLINK_FUNC.FSTATE f] ∧ { t.host with abort := none } = s.host ∧ t.q = s.q ∧ t.mem = s.mem ∧ t.outs = s.outs) ∧
      (∀ x, (s.func f).tear = some x → s.noWork f → x.after ≠ fsDisabled →
        ∃ t, exec .functionAbort s = .next t ∧ t.fstate f = s.fstate f ∧ (t.func f).tear = some { x with after := fsHeld })) ∧
    (s.hAbortRuns 3 = true → s.funcList.contains f = true → s.fstate f ≠ fsDisabled →
      (s.fstate f ≠ fsHeld → ∃ t, exec .releaseFunction s = .next t ∧ t.abortReported 4 3 ∧ s.onlyRegs t abortFields) ∧
      (s.fstate f = fsHeld →
        ∃ t, exec .releaseFunction s = .next t ∧ t.abortReported 0 0 ∧ t.fstate f = fsActive ∧
          s.onlyRegs t (F.HOSTLINK_FUNC.FSTATE f :: abortFields)))) ∧
  (∀ (s : State) (n : Nat), s.rd F.HOSTLINK_ABORT.TARGET % 4096 = n →
    (s.hAbortRuns 2 = true → n = 0 → ∃ t, exec .tenantAbort s = .next t ∧ t.abortReported 3 1 ∧ s.onlyRegs t abortFields) ∧
    (s.hAbortRuns 2 = true → n ≠ 0 → s.q.wqs = [] → s.welt.cmds = [] → (∀ f, (s.func f).tear = none) →
      ∃ t fs, exec .tenantAbort s = .next t ∧ t.host.abort = some { since := s.host.goAt, tenant := true, funcs := fs, wqs := [], squashed := false } ∧
        (∀ f, f ∈ fs ↔ f ∈ s.host.goFuncs ∧ s.fstate f ≠ fsDisabled) ∧
        (∀ f, t.fstate f = if f ∈ fs then fsHeld else s.fstate f) ∧ t.q = s.q ∧ t.mem = s.mem ∧ t.outs = s.outs) ∧
    (s.hAbortRuns 4 = true →
      ∃ t, exec .releaseTenant s = .next t ∧ t.abortReported 0 0 ∧ { t with csr := s.csr } = s ∧
        ∀ f, t.fstate f = if s.funcList.contains f = true ∧ s.funcTenant f = n ∧ s.fstate f = fsHeld then fsActive else s.fstate f)) ∧
  (∀ (s : State) (a : HostAbort), s.host.abort = some a →
    (a.squashed = true ∨ s.clk.time < a.since + usec (if a.tenant then 3200 else 1600) → exec .abortSquash s = .next s) ∧
    (a.squashed = false → a.since + usec (if a.tenant then 3200 else 1600) ≤ s.clk.time → s.welt.cmds = [] →
      (a.wqs = [] → exec .abortSquash s = .next { s with host := { s.host with abort := some { a with squashed := true } } }) ∧
      (∀ (n f : Nat) (w : Wq) (j : Job) (c : Cq), a.wqs = [n] → s.oneJob n f w j c → s.busOn f = false → j.live = true →
        ∃ t, exec .abortSquash s = .next t ∧ t.parkedAborted n j 0x11)) ∧
    (s.clk.time < a.since + usec (if a.tenant then 3600 else 1800) → exec .abortReadAbandon s = .next s) ∧
    (a.since + usec (if a.tenant then 3600 else 1800) ≤ s.clk.time → s.welt.cmds = [] → s.q.aborts = [] →
      (a.wqs = [] →
        ∃ t, exec .abortReadAbandon s = .next t ∧ t.abortReported 0 0 ∧ t.rd F.HOSTLINK_ABORT_STATUS.ELAPSED = min ((s.clk.time - a.since) / 8000) 4000 ∧
          t.host.abort = none ∧ (∀ r ∈ t.host.reqs, r.func ∉ a.funcs) ∧ t.q = s.q) ∧
      (∀ n w, a.wqs = [n] → s.wq? n = some w → w.jobs = [] →
        ∃ t, exec .abortReadAbandon s = .next t ∧ t.abortReported 0 0 ∧
          t.wq? n = some { w with state := qsStopped, ci := w.fi, abort := none, fault := none })))

/-- R309, R313, R314, R316 to R320, R331. The Stream ID of IDE stream k and the end of a stream at a failed check are the
model's (PRESUMED, log entry 41). -/
def Obligations.TagsInterruptsAndIde : Prop :=
  (∀ (s : State) (g : Nat) (r : HostReq), s.host.reqs.find? (fun x => x.tag == some g) = some r →
    (s.clk.time < r.since + s.timeoutOf r.func → exec (.completionTimeout none g) s = .next s) ∧
    (r.since + s.timeoutOf r.func ≤ s.clk.time → (∀ d ∈ s.host.done, d.id ≠ r.id) →
      ∃ t, exec (.completionTimeout none g) s = .next t ∧ (t.func r.func).cfg = { (s.func r.func).cfg with aerCto := true } ∧
        t.rd F.HOSTLINK_STAT.CPL_TIMEOUT.CNT = min (s.rd F.HOSTLINK_STAT.CPL_TIMEOUT.CNT + 1) (2 ^ 32 - 1) ∧
        s.regsKept t [F.HOSTLINK_STAT.CPL_TIMEOUT.CNT] ∧ { t with csr := s.csr, host := s.host } = s ∧
        t.hostResult r.id = (if r.wanted then some (0x0B, []) else none) ∧ (∀ x ∈ t.host.reqs, x.id ≠ r.id) ∧
        ∃ q ∈ t.host.quar, q.tag = g ∧ q.tenant = r.tenant ∧ q.freeAt = s.clk.time + 2 * s.timeoutOf r.func) ∧
    (∀ st data, st ≠ CplStatus.ok → s.host.reqs = [r] → s.host.posted = [] → r.wanted = true → (∀ d ∈ s.host.done, d.id ≠ r.id) →
      ∃ t, exec (.completionArrival none g st data) s = .next t ∧ t.hostResult r.id = some (3, []) ∧ t.host.reqs = [] ∧
        { t with host := s.host } = s) ∧
    (∀ data, s.host.reqs = [r] → s.host.posted = [] → r.wanted = true → (∀ d ∈ s.host.done, d.id ≠ r.id) →
      ∃ t, exec (.completionArrival none g .ok data) s = .next t ∧ { t with host := s.host } = s ∧
        (r.len ≤ (r.data ++ data).length → t.hostResult r.id = some (0, (r.data ++ data).take r.len) ∧ t.host.reqs = []) ∧
        ((r.data ++ data).length < r.len → t.host.reqs = [{ r with data := r.data ++ data }] ∧ t.hostResult r.id = none))) ∧
  (∀ (s : State) (g : Nat) (st : CplStatus) (data : List Byte), (∀ r ∈ s.host.reqs, r.tag ≠ some g) →
    exec (.completionTimeout none g) s = .next s ∧
    (s.host.quar.any (fun q => q.tag == g) = true →
      ∃ t, exec (.completionArrival none g st data) s = .next t ∧ s.onlyRegs t [F.HOSTLINK_STAT.LATE_CPL.CNT] ∧
        t.rd F.HOSTLINK_STAT.LATE_CPL.CNT = min (s.rd F.HOSTLINK_STAT.LATE_CPL.CNT + 1) (2 ^ 32 - 1)) ∧
    (s.host.quar.any (fun q => q.tag == g) = false →
      ∃ t, exec (.completionArrival none g st data) s = .next t ∧
        t.rd F.HOSTLINK_STAT.UNEXP_CPL.CNT = min (s.rd F.HOSTLINK_STAT.UNEXP_CPL.CNT + 1) (2 ^ 32 - 1) ∧
        (t.func 0).cfg = { (s.func 0).cfg with aerUnexp := true } ∧ { t with csr := s.csr, host := s.host } = s)) ∧
  (∀ (s : State) (g : Nat) (q : Quarantine), s.host.quar.find? (fun x => x.tag == g) = some q →
    (s.clk.time < q.freeAt → exec (.tagQuarantineEnd none g) s = .next s) ∧
    (q.freeAt ≤ s.clk.time → s.host.reqs = [] → s.host.posted = [] →
      exec (.tagQuarantineEnd none g) s = .next { s with host := { s.host with quar := s.host.quar.filter (fun x => x.tag != g) } })) ∧
  (∀ (s : State) (p g : Nat) (r : EyeReq), p < 4 → r.link < 16 → s.eye.reqs.find? (fun x => x.port == p && x.tag == g) = some r →
    (s.clk.time < r.since + s.eyeTimeoutOf p → exec (.completionTimeout (some p) g) s = .next s) ∧
    (r.since + s.eyeTimeoutOf p ≤ s.clk.time →
      ∃ t, exec (.completionTimeout (some p) g) s = .next t ∧
        t.rd F.EYELET_STAT.CPL_TIMEOUT.CNT = min (s.rd F.EYELET_STAT.CPL_TIMEOUT.CNT + 1) (2 ^ 32 - 1) ∧
        t.eye.done = s.eye.done ++ [⟨r.id, 0x0B, 7, []⟩] ∧ t.eye.reqs = s.eye.reqs.filter (fun x => x.id != r.id) ∧
        (∃ q ∈ t.eye.quar, q.port = p ∧ q.tag = g ∧ q.freeAt = s.clk.time + 2 * s.eyeTimeoutOf p) ∧
        { t with csr := s.csr, eye := s.eye } = s) ∧
    (∀ st data, st ≠ CplStatus.ok →
      ∃ t, exec (.completionArrival (some p) g st data) s = .next t ∧ t.eye.done = s.eye.done ++ [⟨r.id, 0x0F, 8, []⟩] ∧
        t.eye.reqs = s.eye.reqs.filter (fun x => x.id != r.id) ∧ { t with csr := s.csr, eye := s.eye } = s) ∧
    (∀ data, r.len ≤ (r.data ++ data).length →
      ∃ t, exec (.completionArrival (some p) g .ok data) s = .next t ∧
        t.eye.done = s.eye.done ++ [⟨r.id, 0, 0, (r.data ++ data).take r.len⟩] ∧
        t.eye.reqs = s.eye.reqs.filter (fun x => x.id != r.id) ∧ { t with csr := s.csr, eye := s.eye } = s)) ∧
  (∀ (s : State) (p g : Nat) (st : CplStatus) (data : List Byte), (∀ r ∈ s.eye.reqs, ¬ (r.port = p ∧ r.tag = g)) →
    exec (.completionTimeout (some p) g) s = .next s ∧
    ((∃ q ∈ s.eye.quar, q.port = p ∧ q.tag = g) →
      ∃ t, exec (.completionArrival (some p) g st data) s = .next t ∧ s.onlyRegs t [F.EYELET_STAT.LATE_CPL.CNT] ∧
        t.rd F.EYELET_STAT.LATE_CPL.CNT = min (s.rd F.EYELET_STAT.LATE_CPL.CNT + 1) (2 ^ 32 - 1)) ∧
    ∃ t, exec (.tagQuarantineEnd (some p) g) s = .next t ∧ { t with eye := s.eye } = s ∧
      ∀ q, q ∈ t.eye.quar ↔ q ∈ s.eye.quar ∧ ¬ (q.port = p ∧ q.tag = g ∧ q.freeAt ≤ s.clk.time)) ∧
  (∀ (s : State) (f : Nat), f < 4 → s.fstate f ≠ fsTeardown →
    (s.intxPend f = true → ∃ t, exec (.intxClear f) s = .next t ∧ t.intxPend f = false ∧ t.outs = s.outs ++ [.intx f false] ∧
      (∀ g < 4, g ≠ f → t.intxPend g = s.intxPend g) ∧ t.q = s.q ∧ t.mem = s.mem) ∧
    (s.intxPend f = false → exec (.intxClear f) s = .next s)) ∧
  (∀ (s : State) (f x w : Nat) (v : W32) (e : Msix), s.funcList.contains f = true → s.fstate f ≠ fsTeardown → s.fstate f ≠ fsDisabled →
    x < s.rd (F.HOSTLINK_FUNC.VECTORS f) → x < 2048 →
    (e.addr.toNat = (if w = 0 then (s.msix f x).addr.toNat / 2 ^ 32 * 2 ^ 32 + v.toNat
        else if w = 1 then v.toNat * 2 ^ 32 + (s.msix f x).addr.toNat % 2 ^ 32 else (s.msix f x).addr.toNat) ∧
      e.data = (if w = 2 then v else (s.msix f x).data) ∧ e.mask = (if w < 3 then (s.msix f x).mask else v.getLsbD 0) ∧
      e.pend = (s.msix f x).pend) →
    (e.pend = false ∨ e.mask = true ∨ (s.func f).cfg.msixMask = true ∨ (s.func f).cfg.msixEn = false →
      ∃ t, exec (.msixTableWrite f x w v) s = .next t ∧ t.msix f x = e ∧ { t with host := s.host } = s ∧ t.host.funcs = s.host.funcs ∧
        ∀ g y, y < 4096 → x < 4096 → (g ≠ f ∨ y ≠ x) → t.msix g y = s.msix g y) ∧
    (e.pend = true → e.mask = false → (s.func f).cfg.msixMask = false → (s.func f).cfg.msixEn = true → s.busOn f = true →
      ∃ t, exec (.msixTableWrite f x w v) s = .next t ∧ t.msix f x = { e with pend := false } ∧
        t.outs = s.outs ++ [.hostWrite f e.addr.toNat (toLE 4 e.data.toNat) (s.ideOf f)])) ∧
  (∀ (s : State) (f x w : Nat), s.locked = true → s.funcList.contains f = true → s.fstate f ≠ fsTeardown → s.fstate f ≠ fsDisabled →
    x < s.rd (F.HOSTLINK_FUNC.VECTORS f) → x < 2048 → w < 4 → s.rd (F.HOSTLINK_LINK_STATUS.UP (s.linkOf f)) = 1 →
    exec (.rcRead (.msix f) (16 * x + 4 * w) 4) s = .next { s with outs := s.outs ++ [.csrData (.msix f) (16 * x + 4 * w) 4
      (if w = 0 then (s.msix f x).addr.toNat % 2 ^ 32 else if w = 1 then (s.msix f x).addr.toNat / 2 ^ 32
       else if w = 2 then (s.msix f x).data.toNat else if (s.msix f x).mask then 1 else 0)] }) ∧
  (∀ (s : State) (pf i : Nat), s.locked = true → pf < 4 →
    exec (.doeMessage pf 0 i) s = .next { s with outs := s.outs ++ [.doe pf [1#8, 0#8, BitVec.ofNat 8 (min i 2), BitVec.ofNat 8 (if min i 2 = 2 then 0 else min i 2 + 1)]] } ∧
    ∀ ty, ty ≠ 0 → exec (.doeMessage pf ty i) s = .next s) ∧
  (∀ (s : State) (n k : Nat) (key : List Byte), s.locked = true → (n, 0) ∈ s.cob.mgmt.sessions → k < 64 →
    (∃ t, exec (.ideKm n k 2 key) s = .next t ∧ AMap.get? t.host.ideKeys k = some (key.take 32) ∧ t.rd (F.HOSTLINK_IDE.STREAM_ID k) = k ∧
      t.outs = s.outs ++ [.doe 0 [3#8, 0#8]] ∧ s.regsKept t [F.HOSTLINK_IDE.STREAM_ID k] ∧ { t with csr := s.csr, host := s.host, outs := s.outs } = s) ∧
    ((AMap.get? s.host.ideKeys k).isSome = true →
      (∀ f, s.rd (F.HOSTLINK_IDE.FIRST_FUNC k) ≤ f → f ≤ s.rd (F.HOSTLINK_IDE.LAST_FUNC k) → s.funcTenant f = s.rd (F.HOSTLINK_IDE.TENANT k)) →
      (∀ j < 64, j ≠ k → s.rd (F.HOSTLINK_IDE.ACTIVE j) = 1 → s.rd (F.HOSTLINK_IDE.LAST_FUNC k) < s.rd (F.HOSTLINK_IDE.FIRST_FUNC j) ∨
        s.rd (F.HOSTLINK_IDE.LAST_FUNC j) < s.rd (F.HOSTLINK_IDE.FIRST_FUNC k)) →
      ∃ t, exec (.ideKm n k 4 key) s = .next t ∧ t.rd (F.HOSTLINK_IDE.ACTIVE k) = 1 ∧ t.outs = s.outs ++ [.doe 0 [6#8, 0#8]] ∧
        s.regsKept t [F.HOSTLINK_IDE.ACTIVE k]) ∧
    (∀ f, s.rd (F.HOSTLINK_IDE.FIRST_FUNC k) ≤ f → f ≤ s.rd (F.HOSTLINK_IDE.LAST_FUNC k) → s.funcTenant f ≠ s.rd (F.HOSTLINK_IDE.TENANT k) →
      exec (.ideKm n k 4 key) s = .next { s with outs := s.outs ++ [.doe 0 [6#8, 1#8]] }) ∧
    (∀ j < 64, j ≠ k → s.rd (F.HOSTLINK_IDE.ACTIVE j) = 1 → s.rd (F.HOSTLINK_IDE.FIRST_FUNC j) ≤ s.rd (F.HOSTLINK_IDE.LAST_FUNC k) →
      s.rd (F.HOSTLINK_IDE.FIRST_FUNC k) ≤ s.rd (F.HOSTLINK_IDE.LAST_FUNC j) →
      exec (.ideKm n k 4 key) s = .next { s with outs := s.outs ++ [.doe 0 [6#8, 1#8]] }) ∧
    (∃ t, exec (.ideKm n k 5 key) s = .next t ∧ t.rd (F.HOSTLINK_IDE.ACTIVE k) = 0 ∧ s.regsKept t [F.HOSTLINK_IDE.ACTIVE k] ∧
      t.outs = s.outs ++ [.doe 0 [6#8, 0#8]])) ∧
  (∀ (s : State) (f : Nat), (∀ k, s.ideOf f = some k → k < 64 →
      ∃ t, exec (.ideCheckFailed f) s = .next t ∧ t.rd (F.HOSTLINK_IDE.ACTIVE k) = 0 ∧ (t.func f).cfg = { (s.func f).cfg with aerIde := true } ∧
        s.regsKept t [F.HOSTLINK_IDE.ACTIVE k] ∧ { t with csr := s.csr, host := s.host } = s) ∧
    (s.ideOf f = none → exec (.ideCheckFailed f) s = .next s))

/-- R333, R335 to R337, R339 to R341, R344 to R346, R349, R351. -/
def Obligations.EyeletPorts : Prop :=
  (∀ (s : State) (l : Nat), s.slotServes l = false → ∀ i : Instr, i ∈ [.presenceDetect l, .presenceLoss l, .pwrOn l, .pwrOff l, .slotPowerStable l,
    .powerFault l, .attentionButton l, .enumerationDone l true 0 0 [], .trainingTimeout l, .eyeletLinkDown l, .aerUncorrectable l] → exec i s = .next s) ∧
  (∀ (s : State) (l : Nat), s.slotServes l = true →
    (s.rd (F.EYELET_SLOT_STATUS.PRESENT l) = 1 → exec (.presenceDetect l) s = .next s) ∧
    (s.rd (F.EYELET_SLOT_STATUS.PRESENT l) = 0 → exec (.presenceLoss l) s = .next s ∧
      (s.slot l ≠ 0 → ∃ t, exec (.presenceDetect l) s = .next t ∧ t.rd (F.EYELET_SLOT_STATUS.PRESENT l) = 1 ∧
        t.rd (F.EYELET_SLOT_STATUS.PRESENCE_CHG l) = 1 ∧ s.onlyRegs t [F.EYELET_SLOT_STATUS.PRESENT l, F.EYELET_SLOT_STATUS.PRESENCE_CHG l]) ∧
      (s.slot l = 0 → ∃ t, exec (.presenceDetect l) s = .next t ∧ t.rd (F.EYELET_SLOT_STATUS.PRESENT l) = 1 ∧
        (s.rd (F.EYELET_SLOT_CTRL.AUTO_PWR l) = 0 → t.slot l = 1 ∧ t.eye = s.eye) ∧
        (s.rd (F.EYELET_SLOT_CTRL.AUTO_PWR l) = 1 → t.slot l = 2 ∧ t.pinPwr l = true ∧ t.pinPerst l = false ∧ s.picSet t l 2 ∧
          AMap.get? t.eye.since l = some s.clk.time) ∧
        ((s.fifo eyeletEvq).entries.length < 1024 → (t.fifo eyeletEvq).entries = (s.fifo eyeletEvq).entries ++ [eyeEvent 1 0 l]))) ∧
    (s.rd (F.EYELET_SLOT_STATUS.PRESENT l) = 1 →
      (s.slot l = 1 → ∃ t, exec (.presenceLoss l) s = .next t ∧ t.slot l = 0 ∧ t.rd (F.EYELET_SLOT_STATUS.PRESENT l) = 0 ∧
        ((s.fifo eyeletEvq).entries.length < 1024 → (t.fifo eyeletEvq).entries = (s.fifo eyeletEvq).entries ++ [eyeEvent 2 0 l])) ∧
      (s.slot l = 2 ∨ s.slot l = 3 → ∃ t, exec (.presenceLoss l) s = .next t ∧ t.slot l = 0 ∧ t.pinPwr l = false ∧ t.pinPerst l = false ∧
        s.picSet t l 3 ∧ AMap.get? t.eye.offAt l = none) ∧
      (s.slot l = 4 → s.linkQuiet l → ∃ t, exec (.presenceLoss l) s = .next t ∧ s.isContained t l 1)) ∧
    (s.slot l ≠ 1 → exec (.pwrOn l) s = .next s) ∧
    (s.slot l = 1 → ∃ t, exec (.pwrOn l) s = .next t ∧ t.slot l = 2 ∧ t.pinPwr l = true ∧ t.pinPerst l = false ∧
      s.picSet t l 2 ∧ AMap.get? t.eye.since l = some s.clk.time ∧
      s.regsKept t [F.EYELET_SLOT_STATUS.STATE l, F.EYELET_SLOT_CTRL.PIC l]) ∧
    (s.slot l ≤ 1 → exec (.pwrOff l) s = .next s ∧ exec (.powerFault l) s = .next s) ∧
    (AMap.get? s.eye.offAt l = none →
      (s.slot l = 4 → s.linkQuiet l → ∃ t, exec (.pwrOff l) s = .next t ∧ s.isContained t l 7 ∧ t.pinPerst l = false ∧ t.pinPwr l = s.pinPwr l ∧
        AMap.get? t.eye.offAt l = some s.clk.time) ∧
      (s.slot l = 5 → ∃ t, exec (.pwrOff l) s = .next t ∧ s.sameRegs t ∧ t.pinPerst l = false ∧ AMap.get? t.eye.offAt l = some s.clk.time)) ∧
    (s.slot l = 2 → AMap.get? s.eye.offAt l = none →
      (AMap.getD s.eye.since l 0 + msec (max 1 (s.rd (F.EYELET_SLOT_CTRL.PWR_STABLE l))) ≤ s.clk.time → ∃ t, exec (.slotPowerStable l) s = .next t ∧
        t.slot l = 3 ∧ t.pinPwr l = true ∧ t.pinPerst l = true ∧ AMap.get? t.eye.since l = some s.clk.time ∧ s.regsKept t [F.EYELET_SLOT_STATUS.STATE l]) ∧
      (s.clk.time < AMap.getD s.eye.since l 0 + msec (max 1 (s.rd (F.EYELET_SLOT_CTRL.PWR_STABLE l))) → exec (.slotPowerStable l) s = .next s)) ∧
    (s.slot l = 2 ∨ s.slot l = 3 → ∃ t, exec (.powerFault l) s = .next t ∧ t.slot l = (if s.rd (F.EYELET_SLOT_STATUS.PRESENT l) = 1 then 1 else 0) ∧
      t.pinPwr l = false ∧ t.pinPerst l = false ∧ t.rd (F.EYELET_SLOT_STATUS.PWR_FAULT l) = 1 ∧ t.rd (F.EYELET_SLOT_CTRL.AIC l) = 1 ∧
      s.picSet t l 3 ∧ AMap.get? t.eye.offAt l = none) ∧
    (s.slot l = 4 → s.linkQuiet l → ∃ t, exec (.powerFault l) s = .next t ∧ s.isContained t l 3 ∧ t.pinPwr l = false ∧
      t.rd (F.EYELET_SLOT_STATUS.PWR_FAULT l) = 1 ∧ t.rd (F.EYELET_SLOT_CTRL.AIC l) = 1) ∧
    (s.slot l ∉ [1, 4] → ∃ t, exec (.attentionButton l) s = .next t ∧ t.rd (F.EYELET_SLOT_STATUS.ATTN_PRESSED l) = 1 ∧
      s.onlyRegs t [F.EYELET_SLOT_STATUS.ATTN_PRESSED l]) ∧
    (s.slot l ∈ [1, 4] → AMap.get? s.eye.attn l = none → ∃ t, exec (.attentionButton l) s = .next t ∧ t.rd (F.EYELET_SLOT_STATUS.ATTN_PENDING l) = 1 ∧
      t.rd (F.EYELET_SLOT_CTRL.PIC l) = 2 ∧ AMap.get? t.eye.attn l = some (s.clk.time, s.rd (F.EYELET_SLOT_CTRL.PIC l)) ∧
      ((s.fifo eyeletEvq).entries.length < 1024 → (t.fifo eyeletEvq).entries = (s.fifo eyeletEvq).entries ++ [eyeEvent 3 0 l])) ∧
    (∀ b pic, s.slot l ∈ [1, 4] → AMap.get? s.eye.attn l = some (b, pic) → pic < 4 → ∃ t, exec (.attentionButton l) s = .next t ∧
      t.rd (F.EYELET_SLOT_STATUS.ATTN_PENDING l) = 0 ∧ t.rd (F.EYELET_SLOT_CTRL.PIC l) = pic ∧ AMap.get? t.eye.attn l = none ∧
      ((s.fifo eyeletEvq).entries.length < 1024 → (t.fifo eyeletEvq).entries = (s.fifo eyeletEvq).entries ++ [eyeEvent 4 0 l])) ∧
    (∀ (flit : Bool) (speed width : Nat), speed = 0 ∨ 7 < speed ∨ width ∉ [1, 2, 4, 8, 16] ∨ s.eyeLanes (l / 4) < width →
      exec (.eyeletLinkUp l flit speed width) s = .next s) ∧
    (∀ (flit : Bool) (speed width : Nat), 1 ≤ speed → speed ≤ 7 → width ∈ [1, 2, 4, 8, 16] → width ≤ s.eyeLanes (l / 4) → s.slot l = 3 →
      s.rd (F.EYELET_PORT_CFG.EN (l / 4)) = 1 → AMap.get? s.eye.offAt l = none →
      ∃ t, exec (.eyeletLinkUp l flit speed width) s = .next t ∧ t.rd (F.EYELET_LINK_STATUS.UP l) = 1 ∧
        t.rd (F.EYELET_LINK_STATUS.SPEED l) = min speed (max 1 (s.rd (F.EYELET_PORT_CFG.MAX_SPEED (l / 4)))) ∧
        t.rd (F.EYELET_LINK_STATUS.FLIT l) = (if flit ∨ 6 ≤ min speed (max 1 (s.rd (F.EYELET_PORT_CFG.MAX_SPEED (l / 4)))) then 1 else 0) ∧
        t.rd (F.EYELET_LINK_STATUS.WIDTH l) = width ∧ t.rd (F.EYELET_SLOT_STATUS.DLL_CHG l) = 1 ∧ t.slot l = 3 ∧ t.eye = s.eye) ∧
    (s.slot l = 3 → s.rd (F.EYELET_LINK_STATUS.UP l) = 1 → AMap.get? s.eye.offAt l = none →
      (∀ vendor device bars, vendor < 65536 → device < 65536 → ∃ t, exec (.enumerationDone l true vendor device bars) s = .next t ∧ t.slot l = 4 ∧
        t.rd (F.EYELET_DEV_ID.VENDOR l) = vendor ∧ t.rd (F.EYELET_DEV_ID.DEVICE l) = device ∧ s.picSet t l 1 ∧
        (∀ f < 8, t.rd (F.EYELET_BARSZ.PRESENT (8 * l + f)) = (if f < bars.length then 1 else 0)) ∧ { t.eye with attn := s.eye.attn } = s.eye) ∧
      (s.linkQuiet l → ∃ t, exec (.enumerationDone l false 0 0 []) s = .next t ∧ s.isContained t l 5) ∧
      (∃ t, exec (.eyeletLinkDown l) s = .next t ∧ t.rd (F.EYELET_LINK_STATUS.UP l) = 0 ∧ t.slot l = 3 ∧ t.eye = s.eye)) ∧
    (s.slot l = 3 → s.rd (F.EYELET_LINK_STATUS.UP l) = 0 → AMap.get? s.eye.offAt l = none →
      (AMap.getD s.eye.since l 0 + msec 1000 ≤ s.clk.time → s.linkQuiet l → ∃ t c, exec (.trainingTimeout l) s = .next t ∧ s.isContained t l c) ∧
      (s.clk.time < AMap.getD s.eye.since l 0 + msec 1000 → exec (.trainingTimeout l) s = .next s)) ∧
    (s.slot l = 4 → s.rd (F.EYELET_LINK_STATUS.UP l) = 1 → s.linkQuiet l → ∃ t, exec (.eyeletLinkDown l) s = .next t ∧ s.isContained t l 2) ∧
    (s.rd (F.EYELET_SLOT_CTRL.DPC_UNCOR l) = 1 → s.slot l = 4 → s.linkQuiet l → ∃ t, exec (.aerUncorrectable l) s = .next t ∧ s.isContained t l 4) ∧
    (s.rd (F.EYELET_SLOT_CTRL.DPC_UNCOR l) = 0 ∨ s.slot l ≠ 4 → exec (.aerUncorrectable l) s = .next s) ∧
    (∀ x n f w j, s.slot l = 4 → s.eye.txs = [x] → x.mapping.link = l → x.owner = .job n f → s.wq? n = some w → w.jobs = [j] → j.first = f → 0 < j.own →
      j.stage = .started → s.eye.inbound = [] → s.welt.cmds = [] → s.rd (F.EYELET_SLOT_CTRL.DPC_UNCOR l) = 1 →
      ∃ t, exec (.aerUncorrectable l) s = .next t ∧ t.jobEnded n f 1 5 x.moved ∧ t.eye.txs = [] ∧ t.slot l = 5)) ∧
  (∀ (s : State) (l b : Nat), AMap.get? s.eye.offAt l = some b →
    (s.clk.time < b + msec 1 → exec (.pwrOffPowerDrop l) s = .next s) ∧
    (b + msec 1 ≤ s.clk.time → ∃ t, exec (.pwrOffPowerDrop l) s = .next t ∧ t.slot l = (if s.rd (F.EYELET_SLOT_STATUS.PRESENT l) = 1 then 1 else 0) ∧
      t.rd (F.EYELET_SLOT_STATUS.CAUSE l) = 0 ∧ t.pinPwr l = false ∧ t.pinPerst l = false ∧ AMap.get? t.eye.offAt l = none)) ∧
  (∀ (s : State) (l : Nat), (AMap.get? s.eye.offAt l = none → exec (.pwrOffPowerDrop l) s = .next s) ∧
    (AMap.get? s.eye.attn l = none → exec (.attnRequest l) s = .next s)) ∧
  (∀ (s : State) (l b pic : Nat), AMap.get? s.eye.attn l = some (b, pic) → pic < 4 →
    (s.clk.time < b + msec 5000 → exec (.attnRequest l) s = .next s) ∧
    (b + msec 5000 ≤ s.clk.time → ∃ t, exec (.attnRequest l) s = .next t ∧ t.rd (F.EYELET_SLOT_STATUS.ATTN_PENDING l) = 0 ∧
      t.rd (F.EYELET_SLOT_CTRL.PIC l) = pic ∧ AMap.get? t.eye.attn l = none ∧
      ((s.fifo eyeletEvq).entries.length < 1024 → (t.fifo eyeletEvq).entries = (s.fifo eyeletEvq).entries ++ [eyeEvent 5 0 l]))) ∧
  (∀ (s : State) (p : Nat), 4 ≤ p ∨ s.rd (F.EYELET_WIN_COMMIT.PENDING p) = 1 → exec (.winCommit p) s = .next s) ∧
  (∀ (s : State) (p : Nat), p < 4 → s.rd (F.EYELET_WIN_COMMIT.PENDING p) = 0 →
    (∀ w < 256, s.winShadow p w ≠ s.winActive p w → s.winFault p w ≠ 0 → (∀ v < w, s.winShadow p v ≠ s.winActive p v → s.winFault p v = 0) →
      ∃ t, exec (.winCommit p) s = .next t ∧ t.rd (F.EYELET_WIN_COMMIT.FAIL p) = 1 ∧ t.rd (F.EYELET_WIN_COMMIT.FAIL_CAUSE p) = s.winFault p w ∧
        t.rd (F.EYELET_WIN_COMMIT.FAIL_WIN p) = w ∧ t.eye = s.eye ∧
        s.regsKept t [F.EYELET_WIN_COMMIT.FAIL p, F.EYELET_WIN_COMMIT.FAIL_CAUSE p, F.EYELET_WIN_COMMIT.FAIL_WIN p, evqHead eyeletEvq] ∧
        ((s.fifo eyeletEvq).entries.length < 1024 → (t.fifo eyeletEvq).entries = (s.fifo eyeletEvq).entries ++ [eyeEvent 9 0 p])) ∧
    ((∀ w < 256, s.winShadow p w ≠ s.winActive p w → s.winFault p w = 0) → ∃ t, exec (.winCommit p) s = .next t ∧
      t.rd (F.EYELET_WIN_COMMIT.PENDING p) = 1 ∧ AMap.get? t.eye.commitAt p = some s.stitch ∧ t.eye.txs = s.eye.txs ∧
      (∀ w < 256, w ∈ t.changingWins p ↔ s.winShadow p w ≠ s.winActive p w) ∧
      s.regsKept t [F.EYELET_WIN_COMMIT.PENDING p, F.EYELET_WIN_COMMIT.GO p])) ∧
  (∀ (s : State) (p : Nat), p < 4 → s.txsLive →
    (s.rd (F.EYELET_WIN_COMMIT.PENDING p) = 0 ∨ s.atBoundary = false ∨ (∃ x ∈ s.eye.txs, x.port = p ∧ x.win ∈ s.changingWins p) →
      exec (.windowSwap p) s = .next s) ∧
    (s.rd (F.EYELET_WIN_COMMIT.PENDING p) = 1 → s.atBoundary = true → (∀ x ∈ s.eye.txs, x.port = p → x.win ∉ s.changingWins p) →
      ∃ t, exec (.windowSwap p) s = .next t ∧ t.rd (F.EYELET_WIN_COMMIT.PENDING p) = 0 ∧ t.rd (F.EYELET_WIN_COMMIT.DONE p) = 1 ∧
        (∀ w < 256, t.winShadow p w = s.winShadow p w ∧
          (w ∉ s.changingWins p → t.winActive p w = s.winActive p w) ∧
          (w ∈ s.changingWins p → (s.shadowWin p w).valid = true → s.slot (s.shadowWin p w).link = 4 → 256 * p + w ∉ s.eye.lost →
            t.winActive p w = s.winShadow p w) ∧
          (w ∈ s.changingWins p → s.slot (s.shadowWin p w).link ≠ 4 → (t.activeWin p w).valid = false)) ∧
        ((s.fifo eyeletEvq).entries.length < 1024 → (t.fifo eyeletEvq).entries = (s.fifo eyeletEvq).entries ++ [eyeEvent 8 0 p])) ∧
    (s.rd (F.EYELET_WIN_COMMIT.PENDING p) = 0 ∨ s.stitch < AMap.getD s.eye.commitAt p 0 + max 1 (s.rd F.EYELET_WIN_CFG.DRAIN_LIMIT) ∨
        (∀ x ∈ s.eye.txs, x.port = p → x.win ∉ s.changingWins p ∨ s.isSeal x = true) → exec (.drainLimit p) s = .next s) ∧
    (∀ x n f w j, s.rd (F.EYELET_WIN_COMMIT.PENDING p) = 1 → AMap.getD s.eye.commitAt p 0 + max 1 (s.rd F.EYELET_WIN_CFG.DRAIN_LIMIT) ≤ s.stitch →
      s.eye.txs = [x] → x.port = p → x.win ∈ s.changingWins p → x.owner = .job n f → s.wq? n = some w → w.jobs = [j] → j.first = f →
      0 < j.own → j.stage = .started →
      ∃ t, exec (.drainLimit p) s = .next t ∧ t.jobEnded n f 1 6 x.moved ∧ t.eye.txs = [] ∧ t.rd (F.EYELET_WIN_COMMIT.LIMIT_HIT p) = 1 ∧
        t.rd F.EYELET_STAT.WIN_DRAIN.CNT = min (s.rd F.EYELET_STAT.WIN_DRAIN.CNT + 1) (2 ^ 32 - 1))) ∧
  (∀ (s : State) (op n first : Nat) (i : Instr) (w : Wq) (j : Job) (e : Bytes) (p win : Nat), peerIs op n first i → s.peerAt op n first w j →
    e = j.entries.headD [] → p = leAt e 0x0C 1 % 4 → win = leAt e 0x0D 1 →
    (j.stage = .unstarted → w.abort = none →
      (s.winHeld p win = true → .job n first ∉ s.eye.held → ∃ t, exec i s = .next t ∧ t.q = s.q ∧ t.eye.txs = s.eye.txs ∧
        t.rd F.EYELET_STAT.WIN_HELD.CNT = min (s.rd F.EYELET_STAT.WIN_HELD.CNT + 1) (2 ^ 32 - 1)) ∧
      (s.winHeld p win = false →
        ((s.activeWin p win).valid = false → ∃ t, exec i s = .next t ∧ t.jobEnded n first 3 1 0) ∧
        ((s.activeWin p win).valid = true → (s.activeWin p win).tenant ≠ w.tenant → ∃ t, exec i s = .next t ∧ t.jobEnded n first 3 2 0) ∧
        ((s.activeWin p win).valid = true → (s.activeWin p win).tenant = w.tenant →
          ((if op = 1 then (s.activeWin p win).wr else (s.activeWin p win).rd) = false → ∃ t, exec i s = .next t ∧ t.jobEnded n first 3 3 0) ∧
          ((if op = 1 then (s.activeWin p win).wr else (s.activeWin p win).rd) = true →
            (2 ^ (s.activeWin p win).log2 < leAt e 0x10 8 + leAt e 8 4 → ∃ t, exec i s = .next t ∧ t.jobEnded n first 4 4 0) ∧
            (leAt e 0x10 8 + leAt e 8 4 ≤ 2 ^ (s.activeWin p win).log2 → op = 3 → s.peerStop p (leAt e 8 4) w.tenant = true → exec i s = .next s) ∧
            (leAt e 0x10 8 + leAt e 8 4 ≤ 2 ^ (s.activeWin p win).log2 → op ≠ 3 ∨ s.peerStop p (leAt e 8 4) w.tenant = false →
              ∃ t x, exec i s = .next t ∧ t.eye.txs = s.eye.txs ++ [x] ∧ x.port = p ∧ x.win = win ∧ (x.w0, x.w8) = s.winActive p win ∧
                x.owner = .job n first ∧ t.wq? n = some { w with jobs := [{ j with stage := .started }] } ∧ s.sameRegs t))))) ∧
    (∀ x l len a bs, j.stage = .started → s.eye.txs = [x] → x.owner = .job n first → x.pieces = 0 → x.moved = 0 → j.legs = [l] →
      s.legResult l = some (0, bs) → s.peerPieces w j = [(a, len)] →
      (op = 1 → s.groupAt 5 x.port = some (s.groupOf w.tenant) → ∃ t, exec i s = .next t ∧ t.jobEnded n first 0 0 bs.length ∧ t.eye.txs = [] ∧
        t.outs = s.outs ++ [.eyeWrite x.mapping.link x.mapping.func x.mapping.bar (x.mapping.barOff + leAt e 0x10 8) bs]) ∧
      (op = 2 → w.ringLoc = false → s.groupAt 4 w.home = some (s.groupOf w.tenant) → s.busOn w.func = true → w.home = 0 ∨ s.seamHeld = false → s.fstate w.func ≠ fsTeardown →
        ∃ t, exec i s = .next t ∧ t.jobEnded n first 0 0 bs.length ∧ t.eye.txs = [] ∧
          t.outs = s.outs ++ [.hostWrite w.func a bs (s.ideOf w.func)]) ∧
      (op = 3 → s.peerStop x.port bs.length x.mapping.tenant = true → exec i s = .next s) ∧
      (∀ u, op = 3 → s.peerStop x.port bs.length x.mapping.tenant = false →
        s.storePacket (x.port / 2) x.mapping.tenant (editorEp (x.port / 2)) 0 w.compat bs = (none, u) →
        ∃ t, exec i s = .next t ∧ t.jobEnded n first stNoBuffer bdEmpty bs.length ∧ t.eye.txs = []) ∧
      (∀ b u, op = 3 → s.peerStop x.port bs.length x.mapping.tenant = false →
        s.storePacket (x.port / 2) x.mapping.tenant (editorEp (x.port / 2)) 0 w.compat bs = (some b, u) →
        ∃ t q, exec i s = .next t ∧ t.jobEnded n first 0 0 bs.length ∧ t.eye.txs = [] ∧ t.net.nextPkt = u.net.nextPkt + 1 ∧
          AMap.get? t.net.pkts u.net.nextPkt = some q ∧ q.source = 2 ∧ q.handle = b ∧ q.tenant = x.mapping.tenant ∧ q.port = x.mapping.link))) ∧
  (∀ (s : State) (l : Nat) (own mem write : Bool) (addr len tag : Nat) (data : List Byte),
    (s.linkExists l = false ∨ s.slot l ≠ 4 → exec (.inboundRequest l own mem write addr len tag data) s = .next s) ∧
    (s.linkExists l = true → s.slot l = 4 →
      (own = false ∨ mem = false ∨ s.inapFor l addr (if write then data.length else len) write = none →
        ∃ t, exec (.inboundRequest l own mem write addr len tag data) s = .next t ∧ t.eye = s.eye ∧
          t.rd F.EYELET_STAT.INB_UR.CNT = min (s.rd F.EYELET_STAT.INB_UR.CNT + 1) (2 ^ 32 - 1) ∧ s.regsKept t [F.EYELET_STAT.INB_UR.CNT] ∧
          t.outs = s.outs ++ (if write then [] else [.eyeCpl l tag none])) ∧
      (∀ a, own = true → mem = true → s.inapFor l addr (if write then data.length else len) write = some a →
        ∃ t r, exec (.inboundRequest l own mem write addr len tag data) s = .next t ∧ t.eye.inbound = s.eye.inbound ++ [r] ∧ r.link = l ∧ r.aper = a ∧
          r.write = write ∧ r.off = addr - s.inapBase l a ∧ r.data = data ∧ r.tag = tag ∧ s.sameRegs t ∧ t.outs = s.outs))) ∧
  (∀ (s : State) (l k : Nat) (r : InReq), s.eye.inbound = [r] → r.link = l → k = 8 * l + r.aper → r.leg = none →
    (s.rd (F.EYELET_INAP_W0.KIND k) = 0 →
      (s.ownedBy (s.rd (F.EYELET_INAP_W0.TENANT k)) (s.rd (F.EYELET_INAP_W10.TARGET k)) (2 ^ s.rd (F.EYELET_INAP_W0.LOG2SIZE k)) = false →
        ∃ t, exec (.inboundMem l) s = .next t ∧ t.eye.inbound = [] ∧ t.mem = s.mem ∧
          t.rd F.EYELET_STAT.INB_UR.CNT = min (s.rd F.EYELET_STAT.INB_UR.CNT + 1) (2 ^ 32 - 1)) ∧
      (s.ownedBy (s.rd (F.EYELET_INAP_W0.TENANT k)) (s.rd (F.EYELET_INAP_W10.TARGET k)) (2 ^ s.rd (F.EYELET_INAP_W0.LOG2SIZE k)) = true →
        s.ownedBy (s.rd (F.EYELET_INAP_W0.TENANT k)) (s.rd (F.EYELET_INAP_W10.TARGET k) + r.off) r.len = true →
        s.memAccess (s.rd (F.EYELET_INAP_W10.TARGET k) + r.off) r.len = ((0, 0), s) →
        ∃ t, (exec (.inboundMem l) s = .next t ∧ t.dram.nextReq = s.dram.nextReq + 1 ∧ s.sameRegs t) ∧
          (r.write = true → t.eye.inbound = []) ∧ (r.write = false → t.mem = s.mem ∧ t.eye.inbound =
            [{ r with leg := some (.mem s.dram.nextReq (s.rd (F.EYELET_INAP_W10.TARGET k) + r.off) r.len) }]))) ∧
    (s.rd (F.EYELET_INAP_W0.KIND k) = 1 →
      (∀ n w, n = s.rd (F.EYELET_INAP_W10.TARGET k) % 65536 + r.off / 4096 → n < 65536 → s.wq? n = some w → w.ringLoc = true → r.len = 4 → r.off % 4096 = 0 →
        w.tenant = s.rd (F.EYELET_INAP_W0.TENANT k) → w.admits (leAt r.data 0 4 % idxMod w.compat) →
        ∃ t, exec (.inboundDoorbell l) s = .next t ∧ t.eye.inbound = [] ∧ t.wq? n = some { w with pi := leAt r.data 0 4 % idxMod w.compat } ∧ s.sameRegs t) ∧
      (r.len ≠ 4 ∨ r.off % 4096 ≠ 0 → ∃ t, exec (.inboundDoorbell l) s = .next t ∧ t.eye.inbound = [] ∧ t.q = s.q ∧
        t.rd F.EYELET_STAT.INB_UR.CNT = min (s.rd F.EYELET_STAT.INB_UR.CNT + 1) (2 ^ 32 - 1))) ∧
    (s.rd (F.EYELET_INAP_W0.KIND k) = 2 → r.len = 4 → ∀ m, m = s.unitMsg (epUnit 0 l) (s.rd (F.EYELET_INAP_W10.TARGET k) % 2 ^ 20)
        (s.rd (F.EYELET_INAP_W10.TARGET k) / 2 ^ 20 % 2 ^ 8) 0x3A
        [BitVec.ofNat 64 (leAt r.data 0 4 + 2 ^ 32 * l + 2 ^ 36 * r.aper), BitVec.ofNat 64 r.off] → l < 16 → r.aper < 8 →
      (s.judge m false = .ok → ∃ t, exec (.inboundNotify l) s = .next t ∧ t.eye.inbound = [] ∧ t.queueAt m.dst = s.queueAt m.dst ++ [m] ∧ s.sameRegs t) ∧
      (s.judge m false ≠ .ok → ∃ t, exec (.inboundNotify l) s = .next t ∧ t.eye.inbound = [] ∧ t.yarn.queues = s.yarn.queues ∧
        t.rd F.EYELET_STAT.NOTIFY_LOST.CNT = min (s.rd F.EYELET_STAT.NOTIFY_LOST.CNT + 1) (2 ^ 32 - 1))))

/-- R358, R359, R362 to R364, R366, R368 to R370, R372, R377, R378. The due turn of a timing measurement and the pace of owed refreshes
over a change of the multiplier are the model's choices (log entry 90). -/
def Obligations.DramChannels : Prop :=
  (∀ s : State, s.locked = true →
    (s.rd F.MEM_GCFG.EN = 1 → exec .regionValidate s = .next s) ∧
    (s.rd F.MEM_GCFG.EN = 0 → ∃ t, exec .regionValidate s = .next t ∧ s.csrRecorded t 4 0x1808000 true ∧ { t with csr := s.csr } = s ∧
      s.regsKept t [⟨0x10, 63, 0⟩, F.GLOBAL_CSR_ERR_CNT.COUNT])) ∧
  (∀ s : State, s.locked = false →
    (s.rd F.MEM_GCFG.RATE = 3 → ∃ t, exec .regionValidate s = .next t ∧ t.rd F.MEM_GCFG.EN = 0 ∧ t.rd F.MEM_GSTATUS.CFG_FAIL = 1 ∧
      t.rd F.MEM_GSTATUS.FAIL_CAUSE = 7 ∧ t.rd F.MEM_GSTATUS.FAIL_REGION = 0 ∧
      s.onlyRegs t [F.MEM_GCFG.EN, F.MEM_GSTATUS.CFG_FAIL, F.MEM_GSTATUS.FAIL_CAUSE, F.MEM_GSTATUS.FAIL_REGION]) ∧
    (s.rd F.MEM_GCFG.RATE ≠ 3 → (∀ r < 32, ∀ f, ¬ s.regionBad r f) → ∃ t, exec .regionValidate s = .next t ∧ t.rd F.MEM_GCFG.EN = 1 ∧
      t.rd F.MEM_GSTATUS.READY = 1 ∧ s.onlyRegs t [F.MEM_GCFG.EN, F.MEM_GSTATUS.READY]) ∧
    (∀ r g, s.rd F.MEM_GCFG.RATE ≠ 3 → r < 32 → s.regionBad r g → (∀ q < r, ∀ f, ¬ s.regionBad q f) →
      ∃ t f, exec .regionValidate s = .next t ∧ s.regionBad r f ∧ t.rd F.MEM_GCFG.EN = 0 ∧ t.rd F.MEM_GSTATUS.CFG_FAIL = 1 ∧
        t.rd F.MEM_GSTATUS.FAIL_CAUSE = f ∧ t.rd F.MEM_GSTATUS.FAIL_REGION = r ∧
        s.onlyRegs t [F.MEM_GCFG.EN, F.MEM_GSTATUS.CFG_FAIL, F.MEM_GSTATUS.FAIL_CAUSE, F.MEM_GSTATUS.FAIL_REGION])) ∧
  (∀ (s : State) (r a b : Nat), s.regionBase r ≤ a → s.regionBase r ≤ b → 2 ≤ s.rd (F.MEM_CH_GEOM.COL 0) → a % 32 = b % 32 →
    (s.decodeAddr r a).logical = (s.decodeAddr r b).logical → (s.decodeAddr r a).sub = (s.decodeAddr r b).sub →
    (s.decodeAddr r a).bank = (s.decodeAddr r b).bank → (s.decodeAddr r a).row = (s.decodeAddr r b).row →
    (s.decodeAddr r a).col = (s.decodeAddr r b).col → a = b) ∧
  (∀ (s : State) (n a len : Nat), 0 < len → (s.ownedBy n a len = true ↔ ∀ x, a ≤ x → x < a + len → s.ownerOf (x / 2 ^ 26) = some n)) ∧
  (∀ (s : State) (a r : Nat), inDram a = true →
    (∀ n, s.rd F.MEM_GSTATUS.READY = 0 → s.memCheck a n = (0x0F, 1)) ∧
    (s.rd F.MEM_GSTATUS.READY = 1 → (s.regionOf a = none → s.memCheck a 1 = (0x04, 0)) ∧
      (s.regionOf a = some r → s.rd (F.MEM_REGION_W0.CLASS r) = 0 →
        (s.rd (F.MEM_REGION_W0.STATE r) = 1 → s.memCheck a 1 = (0x0A, 3)) ∧
        (∀ i, s.rd (F.MEM_REGION_W0.STATE r) ≠ 1 → s.chanOf (s.decodeAddr r a).logical = some i →
          (9 ≤ i → s.fencedB = true → s.memCheck a 1 = (0x0E, 5)) ∧
          (i < 9 ∨ s.fencedB = false → s.memCheck a 1 = if s.chState i = 2 then (0x0D, 2) else (0, 0)))) ∧
      (s.regionOf a = some r → s.rd (F.MEM_REGION_W0.CLASS r) = 1 →
        (s.chanOf (s.decodeAddr r a).logical = none → s.chanOf ((s.decodeAddr r a).logical + 8) = none → s.memCheck a 1 = (0x0F, 4)) ∧
        (∀ i, s.chanOf (s.decodeAddr r a).logical = some i ∨ s.chanOf ((s.decodeAddr r a).logical + 8) = some i → s.chServes i = true →
          s.memCheck a 1 = (0, 0))))) ∧
  (∀ (s : State) (i sub : Nat), s.groupAt 3 (2 * i + sub) = none → exec (.dramBurst i sub) s = .next s) ∧
  (∀ (s : State) (i sub g : Nat), s.groupAt 3 (2 * i + sub) = some g →
    (∀ b ∈ s.dram.bursts, b.chan = i → b.sub = sub → b.group = g → s.burstReady b = false) → exec (.dramBurst i sub) s = .next s) ∧
  (∀ (s : State) (i sub g : Nat) (b : Burst) (pre post : List Burst), s.groupAt 3 (2 * i + sub) = some g → s.nextBurst i sub g b pre post →
    ∃ t, exec (.dramBurst i sub) s = .next t ∧ t.dram.bursts = pre ++ post ∧ t.groupAt 3 (2 * i + sub) = none ∧
      { t with dram := s.dram, csr := s.csr, lace := s.lace, mem := s.mem } = s ∧ s.onlyBank t i sub b.bank ∧
      s.regsKept t [F.MEM_CH_STAT.PAGE_HIT.CNT i, F.MEM_CH_STAT.PAGE_MISS.CNT i] ∧
      (b.store = none → t.mem = s.mem) ∧
      (∀ a bs, b.store = some (a, bs) → ∀ x, Memory.byte t.mem x = if a ≤ x ∧ x < a + bs.length then bs.getD (x - a) 0 else Memory.byte s.mem x) ∧
      ((s.bank i sub b.bank).openRow = some b.row →
        t.rd (F.MEM_CH_STAT.PAGE_HIT.CNT i) = min (s.rd (F.MEM_CH_STAT.PAGE_HIT.CNT i) + 1) (2 ^ 32 - 1) ∧
        t.rd (F.MEM_CH_STAT.PAGE_MISS.CNT i) = s.rd (F.MEM_CH_STAT.PAGE_MISS.CNT i) ∧
        (t.bank i sub b.bank).acts = (s.bank i sub b.bank).acts ∧ (t.bank i sub b.bank).victims = (s.bank i sub b.bank).victims) ∧
      ((s.bank i sub b.bank).openRow ≠ some b.row →
        t.rd (F.MEM_CH_STAT.PAGE_MISS.CNT i) = min (s.rd (F.MEM_CH_STAT.PAGE_MISS.CNT i) + 1) (2 ^ 32 - 1) ∧
        t.rd (F.MEM_CH_STAT.PAGE_HIT.CNT i) = s.rd (F.MEM_CH_STAT.PAGE_HIT.CNT i) ∧
        s.activated i (s.bank i sub b.bank) (t.bank i sub b.bank) b.row) ∧
      (t.bank i sub b.bank).last = some b.row ∧
      (t.bank i sub b.bank).pred = (match (s.bank i sub b.bank).last with
        | none => (s.bank i sub b.bank).pred
        | some r => if r = b.row then min 3 ((s.bank i sub b.bank).pred + 1) else (s.bank i sub b.bank).pred - 1) ∧
      (s.rd (F.MEM_CH_CFG.PAGE i) = 1 → (t.bank i sub b.bank).openRow = some b.row) ∧
      (s.rd (F.MEM_CH_CFG.PAGE i) = 2 → (t.bank i sub b.bank).openRow = none) ∧
      (s.rd (F.MEM_CH_CFG.PAGE i) ∉ [1, 2] →
        (t.bank i sub b.bank).openRow = if 2 ≤ (t.bank i sub b.bank).pred then some b.row else none)) ∧
  (∀ (s : State) (i sub b : Nat),
    ((s.bank i sub b).openRow = none → exec (.rowActiveTimeout i sub b) s = .next s) ∧
    (∀ r, (s.bank i sub b).openRow = some r → ∃ t, exec (.rowActiveTimeout i sub b) s = .next t ∧ { t with dram := s.dram } = s ∧
      t.bank i sub b = { s.bank i sub b with openRow := none } ∧ s.onlyBank t i sub b ∧ t.dram.bursts = s.dram.bursts)) ∧
  (∀ (s : State) (i sub b : Nat), b < 16 * 2 ^ s.rd (F.MEM_CH_GEOM.RANK i) →
    (¬ s.maintRoom i sub ∨ s.owedNow i sub b = 0 → exec (.perBankRefresh i sub b) s = .next s) ∧
    (s.maintRoom i sub → 0 < s.owedNow i sub b → ∃ t, exec (.perBankRefresh i sub b) s = .next t ∧ s.refreshed t i sub b ∧
      { t with dram := s.dram, freeCtr := s.freeCtr } = s) ∧
    (i < 18 →
      (s.chState i ∉ [0, 3] ∨ s.owedNow i sub b < 8 → exec (.refForced i sub b) s = .next s) ∧
      (s.chState i ∈ [0, 3] → 8 ≤ s.owedNow i sub b → ∃ t, exec (.refForced i sub b) s = .next t ∧ s.refreshed t i sub b ∧
        t.rd (F.MEM_CH_STAT.REF_FORCED.CNT i) = min (s.rd (F.MEM_CH_STAT.REF_FORCED.CNT i) + 1) (2 ^ 32 - 1) ∧
        s.logged t memEvq (8 * 2 ^ 59 + i * 2 ^ 20) ∧ s.regsKept t [F.MEM_CH_STAT.REF_FORCED.CNT i, evqHead memEvq]))) ∧
  (∀ (s : State) (i sub b : Nat), 16 * 2 ^ s.rd (F.MEM_CH_GEOM.RANK i) ≤ b →
    exec (.perBankRefresh i sub b) s = .next s ∧ exec (.refForced i sub b) s = .next s) ∧
  (∀ (s : State) (i code : Nat), i < 18 →
    (s.stitch % 1024 ≠ 0 ∨ s.chState i ∉ [0, 3] ∨ 3 ≤ code → exec (.refreshMultRead i code) s = .next s) ∧
    (s.stitch % 1024 = 0 → s.chState i ∈ [0, 3] → code < 3 → ∃ t, exec (.refreshMultRead i code) s = .next t ∧
      t.rd (F.MEM_CH_STATUS.CUR_MULT i) = code ∧ { t with csr := s.csr, dram := s.dram, fifos := s.fifos } = s ∧
      s.regsKept t [F.MEM_CH_STATUS.CUR_MULT i, evqHead memEvq] ∧ (∀ sub < 2, ∀ b < 32, t.owedNow i sub b = s.owedNow i sub b) ∧
      (multOf (s.rd F.MEM_GCFG.REF_MULT_MAX) < multOf code → s.logged t memEvq (9 * 2 ^ 59 + i * 2 ^ 20)) ∧
      (multOf code ≤ multOf (s.rd F.MEM_GCFG.REF_MULT_MAX) → t.fifos = s.fifos))) ∧
  (∀ (s : State) (i sub b : Nat),
    ((s.bank i sub b).victims = [] ∨ ¬ s.maintRoom i sub → exec (.targetedRefresh i sub b) s = .next s) ∧
    (∀ row agg rest, (s.bank i sub b).victims = (row, agg) :: rest → s.maintRoom i sub → ∃ t, exec (.targetedRefresh i sub b) s = .next t ∧
      t.rd (F.MEM_CH_STAT.TRR.CNT i) = min (s.rd (F.MEM_CH_STAT.TRR.CNT i) + 1) (2 ^ 32 - 1) ∧ s.regsKept t [F.MEM_CH_STAT.TRR.CNT i] ∧
      s.activated i { s.bank i sub b with victims := rest } (t.bank i sub b) row ∧ (t.bank i sub b).openRow = none ∧
      s.clk.time ≤ (t.bank i sub b).busyUntil ∧ (t.bank i sub b).busyUntil ≤ s.clk.time + 960 ∧ s.onlyBank t i sub b ∧
      t.maintUsed i sub = s.maintUsed i sub + 1 ∧ t.mem = s.mem ∧ t.dram.bursts = s.dram.bursts)) ∧
  (∀ (s : State) (i w a0 : Nat), w = 256000000 / multOf (s.rd (F.MEM_CH_STATUS.CUR_MULT i)) → a0 = AMap.getD s.dram.windowAt i 0 →
    (s.clk.time < a0 + w → exec (.actTableClear i) s = .next s) ∧
    (a0 + w ≤ s.clk.time → ∃ t a1, exec (.actTableClear i) s = .next t ∧ { t with dram := s.dram } = s ∧
      AMap.getD t.dram.windowAt i 0 = a1 ∧ a1 ≤ s.clk.time ∧ s.clk.time < a1 + w ∧
      (∀ sub < 2, ∀ b < 32, t.bank i sub b = { s.bank i sub b with acts := [] }) ∧
      (∀ j sub b, bankKey j sub b / 64 ≠ i → t.bank j sub b = s.bank j sub b))) ∧
  (∀ (s : State) (i : Nat) (cor : Bool),
    (∀ n, n = AMap.getD s.dram.patrol i 0 → s.systemTurn i = false ∨ s.chState i ∉ [0, 3] ∨ s.rd (F.MEM_CH_CFG.SCRUB_EN i) = 0 ∨
      (n = 0 ∧ s.clk.time < AMap.getD s.dram.patrolFrom i 0) ∨ s.scrubRoom i (n % 2) = false ∨ s.unitTakes (s.patrolUnit i n) = false →
      exec (.patrolRead i cor) s = .next s) ∧
    (∀ n u t0, t0 = (if n = 0 then s.clk.time else AMap.getD s.dram.patrolFrom i 0) → n = AMap.getD s.dram.patrol i 0 → u = 2 * 2 ^ (s.rd (F.MEM_CH_GEOM.COL i) + 4 + s.rd (F.MEM_CH_GEOM.ROW i) + s.rd (F.MEM_CH_GEOM.RANK i)) →
      s.systemTurn i = true → s.chState i ∈ [0, 3] → s.rd (F.MEM_CH_CFG.SCRUB_EN i) = 1 →
      n ≠ 0 ∨ AMap.getD s.dram.patrolFrom i 0 ≤ s.clk.time → s.scrubRoom i (n % 2) = true → s.unitTakes (s.patrolUnit i n) = true →
      ∃ t, exec (.patrolRead i cor) s = .next t ∧ s.onlyBank t i (n % 2) ((s.patrolUnit i n).getD 2 0) ∧
        t.scrubUsed i (n % 2) = s.scrubUsed i (n % 2) + 1 ∧
        AMap.getD t.dram.patrolFrom i 0 = (if u ≤ n + 1 then t0 + 28800000000000 * max 1 (s.rd (F.MEM_CH_CFG.PATROL_HOURS i)) else t0) ∧
        AMap.getD t.dram.patrol i 0 = (if u ≤ n + 1 then 0 else n + 1) ∧
        t.rd (F.MEM_CH_STAT.PATROL.CNT i) = min (s.rd (F.MEM_CH_STAT.PATROL.CNT i) + if u ≤ n + 1 then 1 else 0) (2 ^ 32 - 1) ∧
        t.rd (F.MEM_CH_STAT.CE.CNT i) = min (s.rd (F.MEM_CH_STAT.CE.CNT i) + if cor then 1 else 0) (2 ^ 32 - 1) ∧
        t.reports = s.reports ++ (if cor then [(5, i)] else []) ∧
        t.dram.writebacks = s.dram.writebacks ++ (if cor then [s.patrolUnit i n] else []) ∧
        s.regsKept t [F.MEM_CH_STAT.PATROL.CNT i, F.MEM_CH_STAT.CE.CNT i, F.MEM_CH_STAT.PAGE_HIT.CNT i, F.MEM_CH_STAT.PAGE_MISS.CNT i] ∧ { t with csr := s.csr, dram := s.dram, reports := s.reports } = s)) ∧
  (∀ (s : State) (i : Nat),
    ((∀ u ∈ s.dram.writebacks, u.head? ≠ some i) ∨ s.systemTurn i = false ∨ s.chState i ∉ [0, 3] → exec (.scrubWriteback i) s = .next s) ∧
    (∀ pre u post, s.dram.writebacks = pre ++ u :: post → u.head? = some i → (∀ x ∈ pre, x.head? ≠ some i) →
      s.scrubRoom i (u.getD 1 0) = false ∨ s.unitTakes u = false → exec (.scrubWriteback i) s = .next s) ∧
    (∀ pre u post, s.dram.writebacks = pre ++ u :: post → u.head? = some i → (∀ x ∈ pre, x.head? ≠ some i) → s.systemTurn i = true →
      s.chState i ∈ [0, 3] → s.scrubRoom i (u.getD 1 0) = true → s.unitTakes u = true →
      ∃ t, exec (.scrubWriteback i) s = .next t ∧ t.dram.writebacks = pre ++ post ∧ { t with csr := s.csr, dram := s.dram } = s ∧
        s.regsKept t [F.MEM_CH_STAT.PAGE_HIT.CNT i, F.MEM_CH_STAT.PAGE_MISS.CNT i] ∧ s.onlyBank t i (u.getD 1 0) (u.getD 2 0) ∧
        t.scrubUsed i (u.getD 1 0) = s.scrubUsed i (u.getD 1 0) + 1 ∧ t.dram.bursts = s.dram.bursts)) ∧
  (∀ (s : State) (i : Nat) (up down : List Nat),
    (s.firstSystem i = false ∨ s.chState i ∉ [0, 3] ∨ 64 ≤ s.stitch % 16384 → exec (.dqTimingMeasure i up down) s = .next s) ∧
    (s.firstSystem i = true → s.chState i ∈ [0, 3] → s.stitch % 16384 < 64 → ∃ t, exec (.dqTimingMeasure i up down) s = .next t ∧
      { t with dram := { t.dram with eyes := s.dram.eyes } } = s ∧
      (∀ d < 24, AMap.getD t.dram.eyes (32 * i + d) 0 = if d ∈ up then min 255 (AMap.getD s.dram.eyes (32 * i + d) 0 + 1)
        else if d ∈ down then AMap.getD s.dram.eyes (32 * i + d) 0 - 1 else AMap.getD s.dram.eyes (32 * i + d) 0) ∧
      (∀ k, k / 32 ≠ i → AMap.getD t.dram.eyes k 0 = AMap.getD s.dram.eyes k 0))) ∧
  (∀ (s : State) (i cause loc row col syn : Nat),
    (s.chState i ∉ [0, 3] ∨ cause ∉ [1, 2] ∨ 18 ≤ i → exec (.channelFreeze i cause loc row col syn) s = .next s) ∧
    (s.chState i ∈ [0, 3] → cause ∈ [1, 2] → i < 18 → s.clk.time / 320 < 2 ^ 64 → ∃ t, exec (.channelFreeze i cause loc row col syn) s = .next t ∧
      t.rd (F.MEM_CH_STATUS.FREEZES i) = min (s.rd (F.MEM_CH_STATUS.FREEZES i) + 1) 255 ∧ t.rd (F.MEM_LAST_FREEZE.TIME i) = s.clk.time / 320 ∧
      t.rd (F.MEM_CH_STAT.UE.CNT i) = min (s.rd (F.MEM_CH_STAT.UE.CNT i) + if cause = 1 then 1 else 0) (2 ^ 32 - 1) ∧
      t.rd (F.MEM_CH_STAT.CMD_ERR.CNT i) = min (s.rd (F.MEM_CH_STAT.CMD_ERR.CNT i) + if cause = 2 then 1 else 0) (2 ^ 32 - 1) ∧
      t.reports = s.reports ++ [(5, i)] ∧ t.mem = s.mem ∧ t.hasEvent memEvq (2 ^ 59 + i * 2 ^ 20) ∧
      t.recByte i 0 = cause ∧ t.recByte i 2 = loc % 64 ∧ t.rd (F.MEM_FREEZE_REC.W i 1) = row % 2 ^ 32 ∧ t.rd (F.MEM_FREEZE_REC.W i 2) = col % 2 ^ 16 ∧
      t.rd (F.MEM_FREEZE_REC.W i 3) = (if cause = 2 then 0 else syn % 2 ^ 32) ∧
      t.rd (F.MEM_FREEZE_REC.W i 4) + 2 ^ 32 * t.rd (F.MEM_FREEZE_REC.W i 5) = s.clk.time / 320 ∧
      t.rd (F.MEM_FREEZE_REC.W i 6) = s.stitch % 2 ^ 32 ∧
      (∀ d < 24, t.recByte i (32 + d) = AMap.getD s.dram.eyes (32 * i + d) 0 % 256) ∧
      (∀ l, l = AMap.getD s.dram.cmds i [] → l.length ≤ 64 → (∀ e ∈ l, e.length = 16) →
        ∀ k < l.length, ∀ j < 16, t.recByte i (64 + 16 * k + j) = ((l.getD k []).getD j 0).toNat) ∧
      (∀ b ∈ s.dram.bursts, (b.chan ≠ i ∨ b.partner = none → b ∈ t.dram.bursts) ∧
        (∀ p, b.chan = i → b.partner = some p → b.store = none → { b with chan := p, partner := some i } ∈ t.dram.bursts)) ∧
      ((∀ b ∈ s.dram.bursts, b.partner ≠ some b.chan) → ∀ b ∈ t.dram.bursts, b.chan = i → b.partner = none ∧ b ∈ s.dram.bursts) ∧
      (s.rd (F.MEM_CH_STATUS.FREEZES i) = 0 ∨ s.rd (F.MEM_LAST_FREEZE.TIME i) + 2160000000000 ≤ s.clk.time / 320 →
        t.chState i = 2 ∧ t.recByte i 1 = 0 ∧ AMap.get? t.dram.testing i = some s.clk.time ∧
        s.regsKept t ([F.MEM_CH_STATUS.STATE i, F.MEM_CH_STATUS.FREEZES i, F.MEM_LAST_FREEZE.TIME i, F.MEM_CH_STAT.UE.CNT i,
          F.MEM_CH_STAT.CMD_ERR.CNT i, evqHead memEvq] ++ (List.range 272).map (F.MEM_FREEZE_REC.W i))) ∧
      (0 < s.rd (F.MEM_CH_STATUS.FREEZES i) → s.clk.time / 320 < s.rd (F.MEM_LAST_FREEZE.TIME i) + 2160000000000 →
        t.recByte i 1 = 2 ∧ s.channelRetired t i (s.logicalOf i)))) ∧
  (∀ (s : State) (i : Nat) (b : Bool), i < 18 →
    (AMap.get? s.dram.testing i = none ∨ s.chState i ≠ 2 → exec (.freezeTestDone i b) s = .next s) ∧
    (AMap.get? s.dram.testing i ≠ none → s.chState i = 2 →
      (∃ t, exec (.freezeTestDone i true) s = .next t ∧ t.chState i = 3 ∧ t.recByte i 1 = 1 ∧ AMap.get? t.dram.testing i = none ∧
        s.logged t memEvq (2 * 2 ^ 59 + i * 2 ^ 20) ∧ { t with csr := s.csr, dram := s.dram, fifos := s.fifos } = s ∧
        s.regsKept t [F.MEM_CH_STATUS.STATE i, F.MEM_FREEZE_REC.W i 0, evqHead memEvq]) ∧
      (∃ t, exec (.freezeTestDone i false) s = .next t ∧ t.recByte i 1 = 2 ∧ s.channelRetired t i (s.logicalOf i)))) ∧
  (∀ (s : State) (i : Nat),
    (s.chState i ≠ 3 ∨ i ∈ s.dram.copying → exec (.resyncDone i) s = .next s) ∧
    (s.chState i = 3 → i ∉ s.dram.copying → ∃ t, exec (.resyncDone i) s = .next t ∧ t.chState i = 0 ∧ s.regsKept t [F.MEM_CH_STATUS.STATE i] ∧
      (∀ k, k ∈ t.dram.resync ↔ k ∈ s.dram.resync ∧ k / 2 ^ 24 ≠ i) ∧ { t with csr := s.csr, dram := { t.dram with resync := s.dram.resync } } = s)) ∧
  (∀ (s : State) (h sp : Nat), h < 2 → sp = 9 * h + 8 →
    (AMap.get? s.dram.spareFor h = none → ∀ b, exec (.spareIn h b) s = .next s) ∧
    (∀ l b0, AMap.get? s.dram.spareFor h = some (l, b0) →
      (l < 32 → 0 < s.rd F.FAULT_SPARE.DRAM → ∃ t, exec (.spareIn h true) s = .next t ∧ t.chState sp = 3 ∧ t.rd (F.MEM_CH_STATUS.LOGICAL sp) = l ∧
        t.rd F.FAULT_SPARE.DRAM = s.rd F.FAULT_SPARE.DRAM - 1 ∧ t.rd F.FAULT_STAT.SWAPS.CNT = min (s.rd F.FAULT_STAT.SWAPS.CNT + 1) (2 ^ 32 - 1) ∧
        AMap.get? t.dram.spareFor h = none ∧ sp ∈ t.dram.copying ∧ s.logged t memEvq (4 * 2 ^ 59 + sp * 2 ^ 20) ∧
        s.logged t faultEvq (2 * 2 ^ 58 + 5 * 2 ^ 16 + sp) ∧ { t with csr := s.csr, dram := s.dram, fifos := s.fifos } = s ∧
        s.regsKept t [F.MEM_CH_STATUS.STATE sp, F.MEM_CH_STATUS.LOGICAL sp, F.FAULT_SPARE.DRAM, F.FAULT_STAT.SWAPS.CNT, evqHead memEvq, evqHead faultEvq]) ∧
      (s.chState sp = 1 → ∃ t, exec (.spareIn h false) s = .next t ∧ s.channelRetired t sp l)) ∧
    (∀ us, sp ∉ s.dram.copying ∨ s.chState sp ≠ 3 → exec (.spareActivate h us) s = .next s) ∧
    (∀ us, sp ∈ s.dram.copying → s.chState sp = 3 → s.rd F.FAULT_AVAIL.UNAVAIL_US + 2000 < 2 ^ 64 → ∃ t, exec (.spareActivate h us) s = .next t ∧
      t.chState sp = 0 ∧ sp ∉ t.dram.copying ∧ (∀ k ∈ t.dram.resync, k / 2 ^ 24 ≠ sp) ∧
      t.rd F.FAULT_AVAIL.UNAVAIL_US = s.rd F.FAULT_AVAIL.UNAVAIL_US + (if s.unavailable then 0 else min us 2000) ∧ { t with csr := s.csr, dram := s.dram } = s ∧
      s.regsKept t [F.MEM_CH_STATUS.STATE sp, F.FAULT_AVAIL.UNAVAIL_US])) ∧
  (∀ s : State,
    (s.rd F.MEM_CMD.BUSY = 0 ∨ F.MEM_CMD.OP.get s.dram.goWord ≠ 1 → exec .regionRestore s = .next s) ∧
    (s.rd F.MEM_CMD.BUSY = 0 ∨ F.MEM_CMD.OP.get s.dram.goWord ≠ 2 → exec .chRetire s = .next s) ∧
    (∀ r, r = F.MEM_CMD.TARGET.get s.dram.goWord → s.rd F.MEM_CMD.BUSY = 1 → F.MEM_CMD.OP.get s.dram.goWord = 1 →
      (s.rd (F.MEM_REGION_W0.VALID r) = 0 ∨ (∃ c, inSet (s.regionSet r) c = true ∧ s.chanOf c = none) →
        ∃ t, exec .regionRestore s = .next t ∧ t.memReported 4 6 ∧ s.onlyRegs t memCmdFields) ∧
      (s.rd (F.MEM_REGION_W0.VALID r) = 1 → (∀ c, inSet (s.regionSet r) c = true → s.chanOf c ≠ none) →
        ∃ t, exec .regionRestore s = .next t ∧ t.memReported 0 0 ∧ t.rd (F.MEM_REGION_W0.STATE r) = 0 ∧ { t with csr := s.csr, mem := s.mem } = s ∧
          s.regsKept t (F.MEM_REGION_W0.STATE r :: memCmdFields) ∧
          ∀ a, Memory.byte t.mem a = if s.regionBase r ≤ a ∧ a < s.regionBase r + s.regionSize r then 0 else Memory.byte s.mem a)) ∧
    (∀ i, i = F.MEM_CMD.TARGET.get s.dram.goWord → s.rd F.MEM_CMD.BUSY = 1 → F.MEM_CMD.OP.get s.dram.goWord = 2 →
      (18 ≤ i → ∃ t, exec .chRetire s = .next t ∧ t.memReported 4 6 ∧ s.onlyRegs t memCmdFields) ∧
      (i < 18 → ∃ t, exec .chRetire s = .next t ∧ t.memReported 0 0 ∧ t.chState i = 4 ∧
        (s.chState i ≠ 4 → s.channelRetired t i (s.logicalOf i)))))

/-- R355, R371, R383, R389, R392, R394 to R398, R405, R415. That the geometry is an operand and what a refused record of STORAGE_ASSIGN
does are the model's choices (log entries 91 and 92), and so are the Cobbler's registers when its firmware starts (log entry 165). -/
def Obligations.BootAndGate : Prop :=
  (∀ s : State, ¬ s.bootAt .choosing → exec .bootSlotStart s = .next s) ∧
  (∀ s u : State, u = s.romStart →
    (activeJBank s.pflash = none → u.rd F.COBBLER_BOOT_STATUS.JOURNAL_LOST = 1 ∧ u.rd F.COBBLER_SEQ.SEQ_A = 0 ∧ u.rd F.COBBLER_SEQ.SEQ_B = 0 ∧
      u.rd F.COBBLER_SVN.MIN_SVN = s.rd F.COBBLER_SVN.FLOOR ∧ u.repairs = []) ∧
    (∀ b g, activeJBank s.pflash = some (b, g) → u.rd F.COBBLER_SEQ.SEQ_A = leAt (governs (bankRecs s.pflash b) 1 0) 0 4 ∧
      u.rd F.COBBLER_SEQ.SEQ_B = leAt (governs (bankRecs s.pflash b) 1 1) 0 4 ∧
      (minSvnOf (bankRecs s.pflash b) < 2 ^ 32 → u.rd F.COBBLER_SVN.MIN_SVN = max (minSvnOf (bankRecs s.pflash b)) (s.rd F.COBBLER_SVN.FLOOR)) ∧
      u.repairs = repairsOf (bankRecs s.pflash b)) ∧
    u.cipher.kek = Config.deviceKek (s.flag F.COBBLER_BOOT_STATUS.DEBUG_OPENED) ∧
    (s.rd F.POWER_STRAP.FORCE_GOLDEN_N = 0 → u.candidates = [2]) ∧
    (∀ a b, s.rd F.POWER_STRAP.FORCE_GOLDEN_N = 1 → a = leAt (s.flashAt 0x4000000 0x10000) 8 4 → b = leAt (s.flashAt 0x8000000 0x10000) 8 4 →
      u.candidates = if u.rd F.COBBLER_SEQ.SEQ_A < u.rd F.COBBLER_SEQ.SEQ_B ∨ (u.rd F.COBBLER_SEQ.SEQ_A = u.rd F.COBBLER_SEQ.SEQ_B ∧ a < b)
        then [1, 0, 2] else [0, 1, 2])) ∧
  (∀ (s u : State) (pre rest : List Nat), u = s.romStart → s.bootAt .choosing → u.candidates = pre ++ rest →
    (∀ x ∈ pre, x ∈ s.cob.failed ∨ ∃ d, u.checkManifest (s.flashAt (0x4000000 * (x + 1)) 0x10000) = .error d) →
    (rest = [] → ∃ t, exec .bootSlotStart s = .next t ∧ t.bootAt .recovery ∧ t.rd F.COBBLER_BOOT_STATUS.SLOT = 3 ∧
      t.rd F.COBBLER_BOOT_STATUS.RECOVERY = 1 ∧ t.flash = s.flash ∧ t.pflash = s.pflash) ∧
    (∀ c more m k, rest = c :: more → c ∉ s.cob.failed → m = s.flashAt (0x4000000 * (c + 1)) 0x10000 → u.checkManifest m = .ok k →
      ∃ t, exec .bootSlotStart s = .next t ∧ t.bootAt (.streaming 0) ∧ t.cob.boot.slot = c ∧ t.cob.boot.manifest = m ∧ t.cob.boot.key = k ∧
        t.devRead t.bootStore 0x10000 = m ∧ t.flash = s.flash ∧ t.pflash = s.pflash ∧ t.rd F.COBBLER_BOOT_STATUS.TRIES = s.rd F.COBBLER_BOOT_STATUS.TRIES)) ∧
  (∀ s : State, (∀ k, ¬ s.bootAt (.streaming k)) → ∀ ok, exec (.chunkLanded ok) s = .next s) ∧
  (∀ (s : State) (k : Nat), s.bootAt (.streaming k) → ∃ t, exec (.chunkLanded false) s = .next t ∧ s.bootFails t 9) ∧
  (∀ (s : State) (k a : Nat) (bs m : Bytes), s.bootAt (.streaming k) → m = s.cob.boot.manifest → a = s.bootStore + 0x10000 * (k + 1) →
    bs = (if s.cob.boot.slot = 3 then s.devRead a 0x10000 else s.flashAt (0x4000000 * (s.cob.boot.slot + 1) + 0x10000 * (k + 1)) 0x10000) →
    (sha384 bs ≠ sliceB m (0x240 + 48 * k) 48 → ∃ t, exec (.chunkLanded true) s = .next t ∧ t.bootAt (.failed 8) ∧ t.cob.run = s.cob.run ∧ s.sameRegs t) ∧
    (sha384 bs = sliceB m (0x240 + 48 * k) 48 → ∃ t, exec (.chunkLanded true) s = .next t ∧ t.devRead a 0x10000 = bs ∧
      (∀ x, x < a ∨ a + 0x10000 ≤ x → Memory.byte t.mem x = Memory.byte s.mem x) ∧
      (k + 1 ≠ mfChunks m → t.bootAt (.streaming (k + 1)) ∧ t.cob.run = s.cob.run) ∧
      (k + 1 = mfCobChunks m → t.cob.boot.firmware = true ∧ t.domOn 58 = true ∧ t.domOn 59 = true ∧
        t.thr cobBase = { Thread.reset with pc := (mfComp m 0).target / 4 } ∧
        Memory.read t.cobSram 0 (mfComp m 0).len = t.devRead (s.bootStore + 0x10000 + (mfComp m 0).off) (mfComp m 0).len) ∧
      (k + 1 ≠ mfCobChunks m → t.cobSram = s.cobSram ∧ t.cob.boot.firmware = s.cob.boot.firmware) ∧
      (k + 1 = mfChunks m → t.bootAt .landed ∧ (s.cob.boot.slot < 4 → t.rd F.COBBLER_BOOT_STATUS.SLOT = s.cob.boot.slot) ∧
        t.rd F.COBBLER_BOOT_STATUS.SVN = leAt m 8 4 ∧ ∃ r, t.cob.run = some r ∧ r.slot = s.cob.boot.slot ∧ r.svn = leAt m 8 4 ∧ r.key = s.cob.boot.key ∧
          r.buildId = sliceB m 0x20 16 ∧ r.body = sliceB m 0 0xA000))) ∧
  (∀ (s : State) (bad : List Nat) (rank row col cap : Nat),
    (s.cob.boot.firmware = false ∨ s.dram.trained ≠ none → exec (.dramTrainingDone bad rank row col cap) s = .next s) ∧
    (s.cob.boot.firmware = true → s.dram.trained = none → rank < 2 → row < 32 → col < 16 → cap < 64 → ∃ t,
      exec (.dramTrainingDone bad rank row col cap) s = .next t ∧ t.dram.trained = some s.clk.time ∧
      (∀ i < 18, t.rd (F.MEM_CH_GEOM.RANK i) = rank ∧ t.rd (F.MEM_CH_GEOM.ROW i) = row ∧ t.rd (F.MEM_CH_GEOM.COL i) = col ∧
        t.rd (F.MEM_CH_GEOM.CAPACITY i) = cap) ∧ (∀ i < 18, i ∈ bad → t.chState i = 4) ∧
      (∀ h < 2, t.domOn (58 + h) = true → s.domOn (58 + h) = true ∨ ∃ i, i < 18 ∧ i ∈ bad ∧ chanHalf i = h) ∧
      (∀ h < 2, t.chState (spareOf (9 * h)) ≠ 0 → t.domOn (58 + h) = false) ∧
      (bad = [] → s.regsKept t ([F.POWER_DOM_CTRL.HW, F.POWER_DOM_STATUS.ON, F.POWER_STAT.DOM_SWITCHES.CNT] ++ (List.range 18).flatMap (fun i =>
        [F.MEM_CH_GEOM.RANK i, F.MEM_CH_GEOM.ROW i, F.MEM_CH_GEOM.COL i, F.MEM_CH_GEOM.CAPACITY i]))) ∧
      (∀ i l, bad = [i] → i < 18 → i ≠ spareOf i → s.chState i ≠ 4 → s.chState (spareOf i) = 1 → AMap.get? s.dram.spareFor (chanHalf i) = none →
        s.rd (F.MEM_CH_STATUS.LOGICAL i) = l → l < 16 → t.chState (spareOf i) = 0 ∧ t.rd (F.MEM_CH_STATUS.LOGICAL (spareOf i)) = l))) ∧
  (∀ s : State, (¬ s.bootAt .landed ∨ s.dram.trained = none → exec .configRun s = .next s) ∧
    (s.bootAt .landed → s.dram.trained ≠ none → ∃ t, exec .configRun s = .next t ∧ s.configTo t 0)) ∧
  (∀ (s : State) (op : Nat) (i : Instr), recordIsCommand op i → s.noRecord op → exec i s = .next s) ∧
  (∀ (s u : State) (o comp off value : Nat),
    (s.recordIs o 1 comp off value → ∃ t u, exec .w32 s = .next t ∧
      exec (.csrWrite .cobbler off 4 (BitVec.ofNat 64 (value % 2 ^ 32))) s = .next u ∧ s.recordEnds u t o) ∧
    (s.recordIs o 2 comp off value → ∃ t u, exec .w64 s = .next t ∧ exec (.csrWrite .cobbler off 8 (BitVec.ofNat 64 value)) s = .next u ∧
      s.recordEnds u t o) ∧
    (s.recordIs o 4 comp off value →
      (AMap.get? s.cob.boot.copies comp = none → ∃ t, exec .addr64 s = .next t ∧ s.bootFails t 0x0A) ∧
      (∀ a, AMap.get? s.cob.boot.copies comp = some a → ∃ t u, exec .addr64 s = .next t ∧
        exec (.csrWrite .cobbler off 8 (BitVec.ofNat 64 (a + value))) s = .next u ∧ s.recordEnds u t o)) ∧
    (∀ (m d : Bytes), s.recordIs o 3 comp off value → m = s.storeSetBytes s.cob.boot.manifest → d = setComp m (mfComp m comp) →
      (mfComps m ≤ comp ∨ s.ownedBy 0 value d.length = false ∨ s.memCheck value d.length ≠ (0, 0) → ∃ t, exec .copy s = .next t ∧ s.bootFails t 0x0A) ∧
      (comp < mfComps m → s.ownedBy 0 value d.length = true → s.memCheck value d.length = (0, 0) → ∃ t v : State, exec .copy s = .next t ∧
        v.configTo t (o + 16) ∧ { v with mem := s.mem, cob := { v.cob with boot := { v.cob.boot with copies := s.cob.boot.copies } } } = s ∧
        AMap.get? v.cob.boot.copies comp = some value ∧ (∀ c, c ≠ comp → AMap.get? v.cob.boot.copies c = AMap.get? s.cob.boot.copies c) ∧
        ∀ x, Memory.byte v.mem x = if value ≤ x ∧ x < value + d.length then d.getD (x - value) 0 else Memory.byte s.mem x)) ∧
    (s.recordIs o 5 comp off value →
      (mfComps s.cob.boot.manifest ≤ comp → ∃ t, exec .csrBlock s = .next t ∧ s.bootFails t 0x0A) ∧
      (∀ bs : Bytes, comp < mfComps s.cob.boot.manifest → bs = s.bootComp comp → ∃ (t : State) (f : Nat → State), exec .csrBlock s = .next t ∧ f 0 = s ∧
        (∀ k < (bs.length + 3) / 4, exec (.csrWrite .cobbler (off + 4 * k) 4 (BitVec.ofNat 64 (leAt bs (4 * k) 4))) (f k) = .next (f (k + 1))) ∧
        s.recordEnds (f ((bs.length + 3) / 4)) t o)) ∧
    (∀ (v : Option Nat) (b : Nat), s.recordIs o 6 comp off value → s.cob.boot.pollAt = some b → s.accessRead .cobbler off 4 = (v, u) →
      (s.accessRefused u → ∃ t, exec .poll s = .next t ∧ u.bootFails t 0x0A) ∧
      (¬ s.accessRefused u →
        (v.getD 0 &&& value % 2 ^ 32 = value / 2 ^ 32 → s.clk.time ≤ b + 800000000 → ∃ t, exec .poll s = .next t ∧ u.configTo t (o + 16)) ∧
        (v.getD 0 &&& value % 2 ^ 32 ≠ value / 2 ^ 32 ∨ b + 800000000 < s.clk.time → exec .poll s = .next u)) ∧
      (b + 800000000 < s.clk.time → ∃ t, exec .pollTimeout s = .next t ∧ s.bootFails t 0x0A) ∧
      (s.clk.time ≤ b + 800000000 → exec .pollTimeout s = .next s)) ∧
    (s.recordIs o 8 comp off value → ∃ t, exec .cfgEnd s = .next t ∧ s.bootMoved t ∧ t.bootAt .configured)) ∧
  (∀ (s : State) (o comp off value m mask : Nat), s.recordIs o 7 comp off value → m = value % 64 → mask = bitsOf value 31 16 →
    (∀ img, s.assignable m mask → checkImage ((s.cob.run.map (fun r => r.storage)).getD []) (budgetOf s.stitchLen) = .accepted img →
      ∃ t a, exec (.storageAssign none) s = .next t ∧ t.storageAsked m mask ∧ t.cob = { s.cob with assign := some a } ∧ a.boot = true ∧ a.mule = m ∧
        a.spindles = mask) ∧
    (48 ≤ m → s.cob.assign = none → ∃ t, exec (.storageAssign none) s = .next t ∧ s.configTo t (o + 16)) ∧
    (∀ a, s.cob.assign = some a → a.boot = true →
      ((∃ sp ∈ spinsOf a.mule a.spindles, s.rd (F.MULE_ROLE.REQ (muleOf sp) (logOf sp)) = 1) → exec (.storageAssign none) s = .next s) ∧
      ((∀ sp ∈ spinsOf a.mule a.spindles, s.rd (F.MULE_ROLE.REQ (muleOf sp) (logOf sp)) = 0) → ∃ t, exec (.storageAssign none) s = .next t ∧
        { s with cob := { s.cob with assign := none } }.configTo t (o + 16)))) ∧
  (∀ (s : State) (via : MboxVia) (args data : Bytes) (m mask : Nat), s.mboxAsked via 5 args data → m = leAt args 0 1 → mask = leAt args 2 2 →
    s.cob.assign = none →
    (48 ≤ m → ∃ t, exec (.storageAssign (some via)) s = .next t ∧ s.mboxDone t via 4 2 [] ∧ t.mules = s.mules) ∧
    (m < 48 → s.swapBlocked (spinsOf m mask) = true → ∃ t, exec (.storageAssign (some via)) s = .next t ∧ s.mboxDone t via 3 0x40 [] ∧ t.mules = s.mules) ∧
    (∀ c, s.assignable m mask → checkImage ((s.cob.run.map (fun r => r.storage)).getD []) (budgetOf s.stitchLen) = .refused c → c < 256 →
      ∃ t, exec (.storageAssign (some via)) s = .next t ∧ s.mboxDone t via (loadStatus c) c [] ∧ t.mules = s.mules) ∧
    (∀ img, s.assignable m mask → checkImage ((s.cob.run.map (fun r => r.storage)).getD []) (budgetOf s.stitchLen) = .accepted img →
      ∃ t a, exec (.storageAssign (some via)) s = .next t ∧ t.storageAsked m mask ∧ t.cob = { s.cob with assign := some a } ∧ a.boot = false ∧ a.via = via ∧
        a.mule = m ∧ a.spindles = mask ∧ t.yarn = (s.mboxHeard via).yarn ∧ t.outs = s.outs)) ∧
  (∀ (s : State) (via : MboxVia) (a : Assign), s.cob.assign = some a → a.boot = false → a.via = via →
    (via = .thread → s.mboxMsg ≠ none) →
    ((∃ sp ∈ spinsOf a.mule a.spindles, s.rd (F.MULE_ROLE.REQ (muleOf sp) (logOf sp)) = 1) → exec (.storageAssign (some via)) s = .next s) ∧
    ((∀ sp ∈ spinsOf a.mule a.spindles, s.rd (F.MULE_ROLE.REQ (muleOf sp) (logOf sp)) = 0) → ∃ t, exec (.storageAssign (some via)) s = .next t ∧
      t.cob = { s.cob with assign := none } ∧
      ((∀ sp ∈ spinsOf a.mule a.spindles, s.role sp = 1) → s.mboxDone t via 0 0 []) ∧
      ((∃ sp ∈ spinsOf a.mule a.spindles, s.role sp ≠ 1) → s.mboxDone t via 0x0F 0x0B []))) ∧
  (∀ (s : State) (ok : Bool), ¬ s.bootAt .configured → exec (.outputGateOpen ok) s = .next s) ∧
  (∀ (s : State) (ok : Bool) (us : Nat), s.bootAt .configured → us = (s.clk.time - max s.cob.boot.since (AMap.getD s.host.perst 0 0)) / 8000 →
    ∃ t, exec (.outputGateOpen ok) s = .next t ∧ t.bootAt .opened ∧ t.rd F.COBBLER_BOOT_STATUS.GATE_OPEN = 1 ∧
      t.rd F.COBBLER_GATE_TIME.US = min us (2 ^ 32 - 1) ∧ t.cob.boot.bobbinEn = none ∧ t.cob.journal.bank ≠ none ∧
      (∀ x, Memory.byte t.mem x = if s.bootStore ≤ x ∧ x < s.bootStore + 0x3000000 then 0 else Memory.byte s.mem x) ∧
      (s.cob.journal.bank = none → t.cob.journal.gen = 1 ∧ activeJBank t.pflash ≠ none) ∧
      (s.cob.boot.slot ≠ 3 → t.flash = s.flash ∧ (s.cob.boot.bobbinEn = none → s.regsKept t [F.COBBLER_BOOT_STATUS.GATE_OPEN, F.COBBLER_GATE_TIME.US])) ∧
      (s.cob.boot.bobbinEn = some 1 → s.rd F.BOBBIN_STATUS.READY = 0 → (∀ k < 16, s.carvedWell (k / 8) (k % 8)) → t.rd F.BOBBIN_STATUS.READY = 1) ∧
      (∀ slot img, s.cob.boot.slot = 3 → ok = true → slot = (if s.slotValid 0 = none then 1 else 0) →
        max (s.rd F.COBBLER_SEQ.SEQ_A) (s.rd F.COBBLER_SEQ.SEQ_B) + 1 ≤ 0xFFFFFFFE → img = s.storeSetBytes s.cob.boot.manifest →
        t.flashAt (0x4000000 * (slot + 1)) img.length = img)) ∧
  (∀ s : State, (∀ d, ¬ s.bootAt (.failed d)) → exec .slotBootFail s = .next s) ∧
  (∀ (s : State) (d : Nat), s.bootAt (.failed d) → s.cob.boot.slot < 4 → d < 256 →
    ∃ t, exec .slotBootFail s = .next t ∧ t.rd F.COBBLER_BOOT_STATUS.FAIL_SLOT = s.cob.boot.slot ∧ t.rd F.COBBLER_BOOT_STATUS.FAIL_CAUSE = d ∧
      t.rd F.COBBLER_BOOT_STATUS.TRIES = min 15 (s.rd F.COBBLER_BOOT_STATUS.TRIES + 1) ∧
      t.rd F.COBBLER_BOOT_STATUS.DEBUG_OPENED = s.rd F.COBBLER_BOOT_STATUS.DEBUG_OPENED ∧ s.cob.boot.slot ∈ t.cob.failed ∧
      (∀ x ∈ s.cob.failed, x ∈ t.cob.failed) ∧ t.flash = s.flash ∧ t.pflash = s.pflash ∧ t.mem = [] ∧ t.yarn = State.reset.yarn ∧ t.cob.revoked = s.cob.revoked ∧
      (s.cob.boot.slot = 3 → t.bootAt .recovery) ∧
      (s.cob.boot.slot ≠ 3 → t.bootAt .choosing ∧ State.reset.regsKept t (aonFields ++ strapFields))) ∧
  (∀ s : State, ∃ t, exec .lockstep s = .next t ∧ t.rd F.COBBLER_STAT.LOCKSTEP.CNT = min (s.rd F.COBBLER_STAT.LOCKSTEP.CNT + 1) (2 ^ 32 - 1) ∧
    s.logged t cobblerEvq (3 * 2 ^ 59) ∧ t.cob.mgmt = { s.cob.mgmt with sessions := [] } ∧ t.cob.boot = s.cob.boot ∧ t.reports = s.reports ++ [(7, 0)] ∧
    t.rd F.COBBLER_BOOT_STATUS.GATE_OPEN = s.rd F.COBBLER_BOOT_STATUS.GATE_OPEN ∧ t.cipher = s.cipher ∧ t.host = s.host ∧
    t.mem = s.mem ∧ (∀ tid, tid ≠ cobBase → t.thr tid = s.thr tid) ∧ { t.mules with threads := s.mules.threads } = s.mules ∧
    (s.cob.run = none → t.mules = s.mules ∧ t.cobSram = s.cobSram) ∧
    (∀ r, s.cob.run = some r → t.thr cobBase = { Thread.reset with pc := (mfComp r.body 0).target / 4 } ∧
      Memory.read t.cobSram 0 r.cobbler.length = r.cobbler) ∧
    (s.rd F.COBBLER_MBOX_CMD.BUSY = 1 → s.cob.assign = none → s.cob.act = none → s.mboxDone t .csr 0x0F 0x13 []) ∧
    (s.rd F.COBBLER_MBOX_CMD.BUSY = 0 → s.cob.assign = none → s.cob.act = none →
      s.regsKept t [F.COBBLER_STAT.LOCKSTEP.CNT, evqHead cobblerEvq] ∧ t.yarn = s.yarn ∧ t.outs = s.outs))

/-- R396, R399, R401 to R404, R406 to R415. The bytes of the management answers are the model's (log entry 43), and so is that the steps of an
activation from the swap on are one (log entry 93). -/
def Obligations.CobblerAndManagement : Prop :=
  -- the journal (R401 to R404)
  (∀ (m : Memory) (a q : Nat) (r : JRec), r.type < 65536 → r.key < 65536 → 1 ≤ r.payload.length → r.payload.length ≤ 65536 → q < 2 ^ 32 →
    countsAt (flashWrite m a (recBytes r q)) a = some ⟨r, q⟩) ∧
  (∀ (rs : List JFound) (ty key : Nat) (p : Bytes), ty ≠ 2 →
    ((⟨ty, key, p⟩ : JRec) ∈ survivors rs ↔ ∃ x, governing rs ty key = some x ∧ x.jrec = ⟨ty, key, p⟩)) ∧
  (∀ s : State, (s.cob.journal.waiting = [] ∨ s.rd F.COBBLER_BOOT_STATUS.GATE_OPEN = 0 ∨ s.cob.journal.bank = none ∨ s.cob.journal.compacting = true →
      exec .journalAppend s = .next s) ∧
    (∀ b r rest, s.cob.journal.waiting = r :: rest → s.rd F.COBBLER_BOOT_STATUS.GATE_OPEN = 1 → s.cob.journal.bank = some b →
      s.cob.journal.compacting = false →
      (0x600000 < s.cob.journal.tail + recExtent r.payload.length →
        exec .journalAppend s = .next { s with cob := { s.cob with journal := { s.cob.journal with compacting := true } } }) ∧
      (s.cob.journal.tail + recExtent r.payload.length ≤ 0x600000 → ∃ t, exec .journalAppend s = .next t ∧ s.appended t [r] ∧
        t.cob.journal.waiting = rest ∧ { t with csr := s.csr, pflash := s.pflash, cob := s.cob } = s ∧
        { t.cob with journal := s.cob.journal } = s.cob ∧
        s.regsKept t [F.COBBLER_STAT.JOURNAL_WRITES.CNT, F.COBBLER_SEQ.SEQ_A, F.COBBLER_SEQ.SEQ_B, F.COBBLER_SVN.MIN_SVN]))) ∧
  (∀ s : State, (s.cob.journal.compacting = false ∨ s.rd F.COBBLER_BOOT_STATUS.GATE_OPEN = 0 ∨ s.cob.journal.bank = none → exec .compacted s = .next s) ∧
    (∀ b bs, s.cob.journal.compacting = true → s.rd F.COBBLER_BOOT_STATUS.GATE_OPEN = 1 → s.cob.journal.bank = some b → b < 2 →
      s.cob.journal.gen + 1 < 2 ^ 32 → bs = recsBytes (survivors (bankRecs s.pflash b)) s.cob.journal.jseq →
      ∃ t, exec .compacted s = .next t ∧ t.cob.journal.bank = some (1 - b) ∧ t.cob.journal.gen = s.cob.journal.gen + 1 ∧
        t.cob.journal.compacting = false ∧ s.logged t cobblerEvq (8 * 2 ^ 59 + (s.cob.journal.gen + 1)) ∧
        (s.cob.journal.waiting = [] → t.cob.journal.waiting = [] ∧ (0x80 + bs.length ≤ 0x800000 →
          activeJBank t.pflash = some (1 - b, s.cob.journal.gen + 1) ∧ flashRead t.pflash ((1 - b) * 0x800000 + 0x80) bs.length = bs ∧
          t.cob.journal.tail = 0x80 + bs.length ∧ (∀ x, b * 0x800000 ≤ x → x < (b + 1) * 0x800000 → flashRead t.pflash x 1 = [0xFF#8]) ∧
          s.regsKept t [evqHead cobblerEvq])) ∧
        (∀ r rest, s.cob.journal.waiting = r :: rest → t.cob.journal.waiting = rest ∧
          t.rd F.COBBLER_STAT.JOURNAL_WRITES.CNT = min (s.rd F.COBBLER_STAT.JOURNAL_WRITES.CNT + 1) (2 ^ 32 - 1)))) ∧
  -- how a command of the mailbox arrives (R415)
  (∀ s : State, s.mboxIdle →
    (s.rd F.COBBLER_MBOX_CMD.BUSY = 0 → s.mboxTake .csr = none) ∧
    (s.rd F.COBBLER_MBOX_CMD.BUSY = 1 → s.mboxTake .thread = none ∧ (∀ b op args data, s.mboxTake (.mctp b op args data) = none) ∧
      ∃ args data, s.mboxAsked .csr (s.rd F.COBBLER_MBOX_CMD.OP) args data ∧ args.length = 64 ∧ data.length = 8192 ∧
        (∀ k < 64, (args.getD k 0).toNat = bitsOf (s.rd (F.COBBLER_MBOX_ARG.W (k / 4))) (8 * (k % 4) + 7) (8 * (k % 4))) ∧
        (∀ k < 8192, (data.getD k 0).toNat = bitsOf (s.rd (F.COBBLER_MBOX_DATA.W (k / 4))) (8 * (k % 4) + 7) (8 * (k % 4)))) ∧
    (s.rd F.COBBLER_MBOX_CMD.BUSY = 0 → ∀ b op args data,
      (s.rd F.COBBLER_BOOT_STATUS.GATE_OPEN = 0 → s.mboxTake (.mctp b op args data) = none) ∧
      (s.rd F.COBBLER_BOOT_STATUS.GATE_OPEN = 1 → s.mboxTake (.mctp b op args data) = some ⟨op, args, data, if op = 7 ∨ op = 9 then some 0x12 else none⟩)) ∧
    (s.rd F.COBBLER_MBOX_CMD.BUSY = 0 → s.mboxMsg = none → s.mboxTake .thread = none) ∧
    (∀ m, s.rd F.COBBLER_MBOX_CMD.BUSY = 0 → s.mboxMsg = some m →
      (m.kind ≠ .bulk ∨ 512 ≤ (m.words.getD 0 0).toNat → s.mboxTake .thread = some ⟨(m.words.getD 0 0).toNat % 256, [], [], some 1⟩) ∧
      (∀ op args, m.kind = .bulk → op < 256 → args = bytesOf ((m.words.drop 1).take 8) →
        ((m.words.getD 0 0).toNat = op → s.mboxTake .thread = some ⟨op, args, bytesOf (m.words.drop 9), if op = 6 ∨ op = 7 ∨ op = 10 then some 0x12 else none⟩) ∧
        (∀ a n, (m.words.getD 0 0).toNat = op + 256 → a = (m.words.getD 9 0).toNat → n = (m.words.getD 10 0).toNat →
          (8192 < n → s.mboxTake .thread = some ⟨op, args, [], some 2⟩) ∧
          (n ≤ 8192 → s.ownedBy 0 a n = false ∨ s.memCheck a n ≠ (0, 0) → s.mboxTake .thread = some ⟨op, args, [], some 0x12⟩) ∧
          (n ≤ 8192 → s.ownedBy 0 a n = true → s.memCheck a n = (0, 0) →
            s.mboxTake .thread = some ⟨op, args, s.devRead a n, if op = 6 ∨ op = 7 ∨ op = 10 then some 0x12 else none⟩))))) ∧
  (∀ (s : State) (via : MboxVia) (op : Nat) (i : Instr), s.mboxIdle → mailboxIs via op i →
    (s.mboxTake via = none → exec i s = .next (s.mboxHeard via)) ∧
    (∀ c, s.mboxTake via = some c → ¬ mailboxIs via c.op i → exec i s = .next (s.mboxHeard via)) ∧
    (∀ args data d, s.mboxTake via = some ⟨op, args, data, some d⟩ → d < 256 →
      ∃ t, exec i s = .next t ∧ s.mboxDone t via (mdStatus d) d [] ∧ s.onlyMailbox t)) ∧
  (∀ (s : State) (via : MboxVia) (op : Nat) (args data : Bytes), s.mboxAsked via op args data → op = 0 ∨ 10 < op →
    ∃ t, exec (.mboxInfo via) s = .next t ∧ s.mboxDone t via 2 1 [] ∧ s.onlyMailbox t) ∧
  (∀ (s : State) (via : MboxVia) (args data : Bytes) (r : RunSet), s.mboxAsked via 1 args data → s.cob.run = some r →
    ∃ t, exec (.mboxInfo via) s = .next t ∧ s.onlyMailbox t ∧
      s.mboxDone t via 0 0 (sliceB r.buildId 0 16 ++ toLE 4 r.svn ++ toLE 4 (s.rd F.COBBLER_SVN.MIN_SVN) ++ toLE 4 (s.rd F.COBBLER_SEQ.SEQ_A) ++
        toLE 4 (s.rd F.COBBLER_SEQ.SEQ_B) ++ [BitVec.ofNat 8 r.key, BitVec.ofNat 8 (s.rd F.COBBLER_BOOT_STATUS.SLOT)])) ∧
  -- FW_WRITE
  (∀ (s : State) (via : MboxVia) (args data : Bytes) (off len : Nat), s.mboxAsked via 2 args data → off = leAt args 0 4 → len = leAt args 4 4 →
    (off % 4096 ≠ 0 ∨ len % 4096 ≠ 0 ∨ 8192 < len ∨ 0x3000000 < off + len ∨ data.length < len →
      ∃ t, exec (.fwWrite via) s = .next t ∧ s.mboxDone t via 4 2 [] ∧ s.onlyMailbox t) ∧
    (off % 4096 = 0 → len % 4096 = 0 → len ≤ 8192 → off + len ≤ 0x3000000 → len ≤ data.length →
      (s.bootAt .recovery → ∃ t, exec (.fwWrite via) s = .next t ∧ s.mboxDone t via 0 0 [] ∧ s.onlyMailbox { t with mem := s.mem } ∧
        ∀ x, Memory.byte t.mem x = if s.bootStore + off ≤ x ∧ x < s.bootStore + off + len then data.getD (x - (s.bootStore + off)) 0 else Memory.byte s.mem x) ∧
      (¬ s.bootAt .recovery → s.cob.act ≠ none ∨ (∃ p, s.cob.holder = some p ∧ p ≠ .mailbox) →
        ∃ t, exec (.fwWrite via) s = .next t ∧ s.mboxDone t via 4 3 [] ∧ s.onlyMailbox t) ∧
      (¬ s.bootAt .recovery → s.cob.act = none → s.cob.holder = none ∨ s.cob.holder = some .mailbox →
        ∃ t, exec (.fwWrite via) s = .next t ∧ s.mboxDone t via 0 0 [] ∧ s.onlyMailbox { t with cob := s.cob } ∧
          t.cob = { s.cob with staging := t.cob.staging, holder := some .mailbox } ∧
          ∀ x, Memory.byte t.cob.staging x = if off ≤ x ∧ x < off + len then data.getD (x - off) 0 else Memory.byte s.cob.staging x))) ∧
  -- FW_COMMIT (R406, R407)
  (∀ s : State, (∀ r, s.cob.run = some r → (r.slot = 0 → s.targetSlot = 1) ∧ (r.slot = 1 → s.targetSlot = 0) ∧
      (2 ≤ r.slot → s.targetSlot = if s.slotValid 0 ≠ none then 0 else if s.slotValid 1 ≠ none then 1
        else if s.rd F.COBBLER_SEQ.SEQ_B < s.rd F.COBBLER_SEQ.SEQ_A then 1 else 0)) ∧ s.targetSlot < 2) ∧
  (∀ (s : State) (via : MboxVia) (args data : Bytes) (a : Activation) (i : Instr), s.mboxAsked via 3 args data → s.cob.assign = none →
    s.cob.act = some a → (∀ v, a.via ≠ .mbox v) → leAt args 0 1 ≤ 2 → commitIs (.mbox via) (leAt args 0 1) i →
    ∃ t, exec i s = .next t ∧ s.mboxDone t via 4 3 [] ∧ s.onlyMailbox t) ∧
  (∀ (s : State) (via : MboxVia) (args data : Bytes) (action : Nat), s.mboxAsked via 3 args data → s.mboxIdle → action = leAt args 0 1 →
    (2 < action → ∀ ok, ∃ t, exec (.store (.mbox via) ok) s = .next t ∧ s.mboxDone t via 4 2 [] ∧ s.onlyMailbox t) ∧
    (∀ i a, commitIs (.mbox via) a i → action ≤ 2 → a ≠ action → exec i s = .next (s.mboxHeard via)) ∧
    (∀ i p, commitIs (.mbox via) action i → s.cob.holder = some p → p ≠ .mailbox →
      ∃ t, exec i s = .next t ∧ s.mboxDone t via 4 3 [] ∧ s.onlyMailbox t) ∧
    (s.cob.holder = none ∨ s.cob.holder = some .mailbox →
      (∀ i d, commitIs (.mbox via) action i → action < 2 → s.checkSet s.staged = .error d → d < 256 →
        ∃ t, exec i s = .next t ∧ s.mboxDone t via (mdStatus d) d [] ∧ s.onlyMailbox { t with cob := s.cob } ∧ s.unstaged t) ∧
      (∀ k seq img, s.checkSet s.staged = .ok k → s.storing seq img →
        (∀ i, commitIs (.mbox via) action i → action < 2 → 0xFFFFFFFE < seq →
          ∃ t, exec i s = .next t ∧ s.mboxDone t via 4 0x0C [] ∧ s.onlyMailbox { t with cob := s.cob } ∧ s.unstaged t) ∧
        (∀ w ok i, seq ≤ 0xFFFFFFFE → (i = .store (.mbox via) ok ∧ action = 0) ∨ (i = .storeActivate (.mbox via) ok ∧ action = 1) →
          (s.mboxHeard via).appendWaits w (if ok then [⟨1, s.targetSlot, toLE 4 0⟩, ⟨1, s.targetSlot, toLE 4 seq⟩] else [⟨1, s.targetSlot, toLE 4 0⟩]) → exec i s = .next w) ∧
        (∀ i, (i = .store (.mbox via) false ∧ action = 0) ∨ (i = .storeActivate (.mbox via) false ∧ action = 1) → seq ≤ 0xFFFFFFFE →
          s.canAppend [⟨1, s.targetSlot, toLE 4 0⟩] → ∃ t, exec i s = .next t ∧ s.mboxDone t via 0x0F 9 [] ∧
            s.appended t [⟨1, s.targetSlot, toLE 4 0⟩] ∧ t.rd (seqF s.targetSlot) = 0 ∧ t.cob.staging = [] ∧ t.cob.holder = none ∧
            ∀ a n, a + n ≤ 0x4000000 * (s.targetSlot + 1) ∨ 0x4000000 * (s.targetSlot + 2) ≤ a → t.flashAt a n = s.flashAt a n) ∧
        (seq ≤ 0xFFFFFFFE → s.canAppend [⟨1, s.targetSlot, toLE 4 0⟩, ⟨1, s.targetSlot, toLE 4 seq⟩] →
          (action = 0 → ∃ t, exec (.store (.mbox via) true) s = .next t ∧ s.mboxDone t via 0 0 [] ∧ s.storedIn t s.targetSlot seq img ∧
            s.regsKept t (mboxFields ++ [F.COBBLER_STAT.JOURNAL_WRITES.CNT, seqF s.targetSlot]) ∧ t.mem = s.mem ∧ t.cob.run = s.cob.run) ∧
          (action = 1 →
            (s.swapBlocked s.storageSpindles = true ∨ (∃ c, checkImage (setType s.staged 2) (budgetOf s.stitchLen) = .refused c) →
              ∃ t, exec (.storeActivate (.mbox via) true) s = .next t ∧ s.mboxDone t via 0x0F 0x0B [] ∧ s.storedIn t s.targetSlot seq img ∧
                t.cob.act = none ∧ t.mules = s.mules ∧ t.cob.run = s.cob.run) ∧
            (∀ im, s.swapBlocked s.storageSpindles = false → checkImage (setType s.staged 2) (budgetOf s.stitchLen) = .accepted im →
              ∃ t, exec (.storeActivate (.mbox via) true) s = .next t ∧ s.storedIn t s.targetSlot seq img ∧
                s.activationBegun t (.mbox via) s.targetSlot img)))) ∧
      (action = 2 →
        (∀ d, s.checkSet (s.slotSet s.storedSlot) = .error d → ∃ t, exec (.activate (.mbox via)) s = .next t ∧
          s.mboxDone t via 8 (if d = 8 then 8 else 6) [] ∧ s.onlyMailbox { t with cob := s.cob } ∧ s.unstaged t) ∧
        (∀ k bs, s.checkSet (s.slotSet s.storedSlot) = .ok k → bs = s.slotSet s.storedSlot →
          (s.swapBlocked s.storageSpindles = true ∨ (∃ c, checkImage (setType bs 2) (budgetOf s.stitchLen) = .refused c) →
            ∃ t, exec (.activate (.mbox via)) s = .next t ∧ s.mboxDone t via 0x0F 0x0B [] ∧ s.onlyMailbox { t with cob := s.cob } ∧ s.unstaged t) ∧
          (∀ im, s.swapBlocked s.storageSpindles = false → checkImage (setType bs 2) (budgetOf s.stitchLen) = .accepted im →
            ∃ t, exec (.activate (.mbox via)) s = .next t ∧ s.activationBegun t (.mbox via) s.storedSlot bs ∧ t.flash = s.flash ∧ t.pflash = s.pflash))))) ∧
  (∀ (s : State) (via : MboxVia) (a : Activation) (i : Instr), s.cob.act = some a → a.via = .mbox via → (∀ sp ∈ a.spindles, sp < 768) →
    i = .activate (.mbox via) ∨ (∃ ok, i = .storeActivate (.mbox via) ok) → (via = .thread → s.mboxMsg ≠ none) →
    (s.atBoundary = false ∨ s.clk.cycles < a.at_ + 2048 ∨ (∃ sp ∈ a.spindles, s.swapPending sp = true) → exec i s = .next s) ∧
    (s.atBoundary = true → (∀ sp ∈ a.spindles, s.swapPending sp = false) → a.at_ + 2048 ≤ s.clk.cycles →
      (s.swapBlocked a.spindles = true → ∃ t, exec i s = .next t ∧ s.mboxDone t via 0x0F 0x0B [] ∧ t.cob = { s.cob with act := none } ∧
        t.rd F.WELT_ACT.PAUSED = 0 ∧ t.mules = s.mules ∧ t.cobSram = s.cobSram ∧
        s.regsKept t (mboxFields ++ [F.WELT_ACT.PAUSED, F.WELT_ACT.LAST_PAUSE])) ∧
      (∀ bs, s.swapBlocked a.spindles = false → bs = a.image →
        ∃ t r, exec i s = .next t ∧ t.cob.act = none ∧ t.rd F.WELT_ACT.PAUSED = 0 ∧
          t.rd F.WELT_ACT.LAST_PAUSE = min ((s.clk.time - a.since) / 8000) 200000 ∧ t.cob.run = some r ∧ r.slot = a.slot ∧ r.svn = leAt bs 8 4 ∧
          r.buildId = sliceB bs 0x20 16 ∧ r.storage = setType bs 2 ∧ r.cobbler = setType bs 1 ∧ (∀ old, s.cob.run = some old → r.config = old.config) ∧
          Memory.read t.cobSram 0 r.cobbler.length = r.cobbler ∧ t.thr cobBase = { Thread.reset with pc := (mfComp bs 0).target / 4 } ∧ t.rd F.COBBLER_BOOT_STATUS.SVN = leAt bs 8 4 ∧
          t.rd F.COBBLER_BOOT_STATUS.GATE_OPEN = s.rd F.COBBLER_BOOT_STATUS.GATE_OPEN ∧ t.cob.mgmt = { s.cob.mgmt with sessions := [] } ∧
          t.hasEvent cobblerEvq (4 * 2 ^ 59 + leAt bs 8 4) ∧ t.cipher = s.cipher ∧ t.flash = s.flash ∧ t.pflash = s.pflash ∧
          (a.spindles.Nodup → ∀ sp ∈ a.spindles, t.activeBank sp = 1 - s.activeBank sp) ∧
          (via = .csr → t.rd F.COBBLER_MBOX_CMD.BUSY = 0 ∧ t.rd F.COBBLER_MBOX_STATUS.DONE = 1 ∧ t.rd F.COBBLER_MBOX_STATUS.STATUS = 0 ∧
            t.rd F.COBBLER_MBOX_STATUS.DETAIL = 0) ∧
          (a.spindles = [] → s.mboxDone t via 0 0 [])))) ∧
  -- SVN_COMMIT (R399)
  (∀ (s : State) (via : MboxVia) (args data : Bytes), s.mboxAsked via 4 args data →
    (s.cob.run = none → ∃ t, exec (.svnCommit via) s = .next t ∧ s.mboxDone t via 3 0x0D [] ∧ s.onlyMailbox t) ∧
    (∀ r, s.cob.run = some r →
      (2 ≤ r.slot → ∃ t, exec (.svnCommit via) s = .next t ∧ s.mboxDone t via 3 0x0D [] ∧ s.onlyMailbox t) ∧
      (r.slot < 2 → s.rd F.COBBLER_BOOT_STATUS.DEBUG_OPENED = 1 → ∃ t, exec (.svnCommit via) s = .next t ∧ s.mboxDone t via 3 0x0E [] ∧ s.onlyMailbox t) ∧
      (r.slot < 2 → s.rd F.COBBLER_BOOT_STATUS.DEBUG_OPENED = 0 → r.svn ≤ s.rd F.COBBLER_SVN.MIN_SVN →
        ∃ t, exec (.svnCommit via) s = .next t ∧ s.mboxDone t via 4 7 [] ∧ s.onlyMailbox t) ∧
      (r.slot < 2 → s.rd F.COBBLER_BOOT_STATUS.DEBUG_OPENED = 0 → s.rd F.COBBLER_SVN.MIN_SVN < r.svn → r.svn < 2 ^ 32 →
        (∀ w, (s.mboxHeard via).appendWaits w [⟨2, 0, toLE 4 r.svn⟩] → exec (.svnCommit via) s = .next w) ∧
        (s.canAppend [⟨2, 0, toLE 4 r.svn⟩] → ∃ t, exec (.svnCommit via) s = .next t ∧ s.mboxDone t via 0 0 [] ∧ s.appended t [⟨2, 0, toLE 4 r.svn⟩] ∧
          t.rd F.COBBLER_SVN.MIN_SVN = r.svn ∧ s.logged t cobblerEvq (7 * 2 ^ 59 + r.svn) ∧
          (r.flags % 2 = 0 → t.cob.revoked = s.cob.revoked) ∧
          (r.flags % 2 = 1 → ∀ k < 4, k ∈ t.cob.revoked ↔ k ∈ s.cob.revoked ∨ k < r.key) ∧ t.flash = s.flash ∧
          s.regsKept t (mboxFields ++ [F.COBBLER_SVN.MIN_SVN, F.COBBLER_STAT.JOURNAL_WRITES.CNT, evqHead cobblerEvq]))))) ∧
  -- debug access (R413, R414)
  (∀ (s : State) (d : Bytes), s.tokenGood d = true ↔ s.goodToken d) ∧
  (∀ (s : State) (via : MboxVia) (args data : Bytes),
    (s.mboxAsked via 6 args data →
      (8 ≤ s.cob.tokenFails → ∃ t, exec (.debugChallenge via) s = .next t ∧ s.mboxDone t via 3 0x10 [] ∧ s.onlyMailbox t) ∧
      (s.cob.tokenFails < 8 → ∃ t, exec (.debugChallenge via) s = .next t ∧ t.cob = { s.cob with nonce := some s.freeCtr } ∧
        s.onlyMailbox { t with cob := s.cob, freeCtr := s.freeCtr } ∧
        s.mboxDone t via 0 0 (sliceB (Config.challengeNonce s.freeCtr) 0 32 ++ sliceB Config.deviceId 0 16))) ∧
    (s.mboxAsked via 7 args data →
      (¬ s.goodToken data → ∃ t, exec (.debugUnlock via) s = .next t ∧ s.mboxDone t via 8 0x0F [] ∧
        t.cob = { s.cob with nonce := none, tokenFails := s.cob.tokenFails + 1 } ∧
        t.rd F.COBBLER_STAT.DEBUG_FAIL.CNT = min (s.rd F.COBBLER_STAT.DEBUG_FAIL.CNT + 1) (2 ^ 32 - 1) ∧ t.cipher = s.cipher ∧ t.host = s.host ∧
        s.regsKept t (mboxFields ++ [F.COBBLER_STAT.DEBUG_FAIL.CNT])) ∧
      (s.goodToken data → ∃ t, exec (.debugUnlock via) s = .next t ∧ t.cob.debugOpen = true ∧ t.cob.nonce = none ∧
        t.rd F.COBBLER_BOOT_STATUS.DEBUG_OPENED = 1 ∧ t.rd F.CIPHER_EVENT.ZEROIZED = 1 ∧ t.cob.mgmt.sessions = [] ∧
        (∀ k < 64, t.rd (F.HOSTLINK_IDE.ACTIVE k) = 0) ∧ t.host.ideKeys = [] ∧ t.domOn 62 = true ∧
        (via = .csr → t.rd F.COBBLER_MBOX_CMD.BUSY = 0 ∧ t.rd F.COBBLER_MBOX_STATUS.DONE = 1 ∧ t.rd F.COBBLER_MBOX_STATUS.STATUS = 0 ∧
          t.rd F.COBBLER_MBOX_STATUS.DETAIL = 0) ∧
        ((∀ j ∈ s.cipher.jobs, j.holds = false) → s.mboxDone t via 0 0 [] ∧ s.logged t cobblerEvq (5 * 2 ^ 59) ∧
          t.cipher = { s.cipher with slots := [], installed := [], fetches := [], kek := [], engines := [] })))) ∧
  -- operator records and ROM recovery
  (∀ (s : State) (via : MboxVia) (args data : Bytes) (key n : Nat), key = leAt args 0 2 → n = leAt args 4 4 →
    (s.mboxAsked via 8 args data →
      (255 < key → ∃ t, exec (.nvRead via) s = .next t ∧ s.mboxDone t via 4 2 [] ∧ s.onlyMailbox t) ∧
      (key ≤ 255 → ∃ t, exec (.nvRead via) s = .next t ∧ s.mboxDone t via 0 0 ((governs s.journalRecs 6 key).take 4096) ∧ s.onlyMailbox t)) ∧
    (s.mboxAsked via 9 args data →
      (255 < key ∨ n = 0 ∨ 4096 < n ∨ data.length < n → ∃ t, exec (.nvWrite via) s = .next t ∧ s.mboxDone t via 4 2 [] ∧ s.onlyMailbox t) ∧
      (key ≤ 255 → 1 ≤ n → n ≤ 4096 → n ≤ data.length →
        (∀ w, (s.mboxHeard via).appendWaits w [⟨6, key, data.take n⟩] → exec (.nvWrite via) s = .next w) ∧
        (s.canAppend [⟨6, key, data.take n⟩] → ∃ t, exec (.nvWrite via) s = .next t ∧ s.mboxDone t via 0 0 [] ∧ s.appended t [⟨6, key, data.take n⟩] ∧
          s.regsKept t (mboxFields ++ [F.COBBLER_STAT.JOURNAL_WRITES.CNT])))) ∧
    (s.mboxAsked via 10 args data →
      (¬ s.bootAt .recovery → ∃ t, exec (.recoveryBoot via) s = .next t ∧ s.mboxDone t via 3 0x11 [] ∧ s.onlyMailbox t) ∧
      (s.bootAt .recovery → ∀ m, m = s.devRead s.bootStore 0x10000 →
        (∀ d, s.checkManifest m = .error d → d < 256 → ∃ t, exec (.recoveryBoot via) s = .next t ∧ s.mboxDone t via (mdStatus d) d [] ∧ t.bootAt .recovery ∧
          t.rd F.COBBLER_BOOT_STATUS.FAIL_SLOT = 3 ∧ t.rd F.COBBLER_BOOT_STATUS.FAIL_CAUSE = d) ∧
        (∀ k, s.checkManifest m = .ok k → ∃ t, exec (.recoveryBoot via) s = .next t ∧ s.mboxDone t via 0 0 [] ∧ t.bootAt (.streaming 0) ∧
          t.cob.boot.slot = 3 ∧ t.cob.boot.manifest = m ∧ t.cob.boot.key = k ∧ s.onlyMailbox { t with cob := s.cob })))) ∧
  -- MCTP and PLDM (R408 to R410)
  (∀ (s : State) (b : Nat) (rc : Bool) (i : Instr), mctpIs b rc i → ¬ s.answersOn b rc → exec i s = .next s) ∧
  (∀ (s : State) (b : Nat), s.answersOn b true →
    (∀ eid, exec (.mctpControl b 1 eid) s =
      .next ((s.withMgmt { s.cob.mgmt with eid := AMap.set s.cob.mgmt.eid b (eid % 256) }).said b 0 [0#8, BitVec.ofNat 8 (eid % 256)])) ∧
    (∀ eid, exec (.mctpControl b 2 eid) s = .next (s.said b 0 [0#8, BitVec.ofNat 8 (AMap.getD s.cob.mgmt.eid b 0)])) ∧
    (∀ eid, exec (.mctpControl b 3 eid) s = .next (s.said b 0 (0#8 :: sliceB Config.endpointUuid 0 16))) ∧
    (∀ eid, exec (.mctpControl b 4 eid) s = .next (s.said b 0 [0#8, 1#8, 0xF1#8, 0xF3#8, 0xFF#8, 0#8])) ∧
    (∀ eid, exec (.mctpControl b 5 eid) s = .next (s.said b 0 [0#8, 5#8, 0#8, 1#8, 5#8, 6#8, 0x7E#8])) ∧
    (∀ eid, exec (.mctpControl b 6 eid) s = .next (s.said b 0 ([0#8, 0xFF#8, 0#8] ++ toBE 2 (s.rd F.HOSTLINK_ID.VENDOR)))) ∧
    (∀ c eid, c = 0 ∨ 6 < c → exec (.mctpControl b c eid) s = .next (s.said b 0 [5#8])) ∧
    (∀ ty, ty ∈ [0, 1, 5, 6, 0x7E] → exec (.mctpUnsupportedMessage b ty) s = .next s) ∧
    (∀ ty, ty ∉ [0, 1, 5, 6, 0x7E] → ∃ t, exec (.mctpUnsupportedMessage b ty) s = .next t ∧ s.onlyRegs t [F.COBBLER_STAT.MCTP_DISCARD.CNT] ∧
      t.rd F.COBBLER_STAT.MCTP_DISCARD.CNT = min (s.rd F.COBBLER_STAT.MCTP_DISCARD.CNT + 1) (2 ^ 32 - 1))) ∧
  (∀ s : State, (∀ n, 1 ≤ n → n ≤ 64 → ∃ v : Int, v = signed11 (s.rd (F.POWER_TEMP.TEMP (n - 1))) ∧ 4 * s.sensorReading n ≤ v ∧ v < 4 * s.sensorReading n + 4) ∧
    s.sensorReading 65 = Int.ofNat (s.rd F.POWER_PKG.WATTS / 8) ∧ (∀ n, 66 ≤ n → n ≤ 71 → s.sensorReading n = Int.ofNat (s.rd (F.POWER_RAIL.MV (n - 66)))) ∧
    (∀ n, 116 ≤ n → n ≤ 131 → s.stateReading n = s.slot (n - 116)) ∧ s.stateReading 132 = if s.fencedB then 2 else 1) ∧
  (∀ (s : State) (b : Nat), s.answersOn b false →
    (∀ h n, n = (if h = 0 then 1 else h) →
      (1 ≤ n ∧ n ≤ 71 ∨ 100 ≤ n ∧ n ≤ 132 → exec (.getpdr b h) s = .next (s.said b 1 (0#8 :: pdrRecord n))) ∧
      (71 < n ∧ n < 100 ∨ 132 < n → exec (.getpdr b h) s = .next (s.said b 1 [0x82#8]))) ∧
    (∀ n, (1 ≤ n → n ≤ 71 →
        (n ∈ s.cob.mgmt.disabled → exec (.getsensorreading b n) s = .next (s.said b 1 [0#8, 1#8])) ∧
        (n ∉ s.cob.mgmt.disabled → exec (.getsensorreading b n) s =
          .next (s.said b 1 ([0#8, 0#8] ++ toLE 4 ((s.sensorReading n).emod (2 ^ 32)).toNat))) ∧
        (∀ en, ∃ t, exec (.setnumericsensorenable b n en) s = .next t ∧ t.outs = s.outs ++ [.mctp b 1 [0#8]] ∧
          (n ∈ t.cob.mgmt.disabled ↔ en = false) ∧ (∀ k, k ≠ n → (k ∈ t.cob.mgmt.disabled ↔ k ∈ s.cob.mgmt.disabled)) ∧
          ({ t with outs := s.outs } : State).withMgmt { t.cob.mgmt with disabled := s.cob.mgmt.disabled } = s)) ∧
      (n = 0 ∨ 71 < n → exec (.getsensorreading b n) s = .next (s.said b 1 [0x80#8]) ∧
        ∀ en, exec (.setnumericsensorenable b n en) s = .next (s.said b 1 [0x80#8])) ∧
      (100 ≤ n → n ≤ 132 → exec (.getstatesensorreadings b n) s = .next (s.said b 1 [0#8, BitVec.ofNat 8 (s.stateReading n)])) ∧
      (n < 100 ∨ 132 < n → exec (.getstatesensorreadings b n) s = .next (s.said b 1 [0x80#8]))) ∧
    (∀ eid, exec (.seteventreceiver b eid) s = .next ((s.withMgmt { s.cob.mgmt with receiver := some (256 * b + eid % 256) }).said b 1 [0#8]))) ∧
  (∀ (s : State) (b : Nat), s.answersOn b true →
    (∀ n, (s.cob.mgmt.upd ≠ .idle → exec (.requestupdate b n) s = .next (s.said b 1 [0x81#8])) ∧
      (s.cob.mgmt.upd = .idle → ¬ s.bootAt .recovery → s.cob.act ≠ none ∨ (∃ p, s.cob.holder = some p ∧ p ≠ .pldm) → exec (.requestupdate b n) s = .next (s.said b 1 [0x8A#8])) ∧
      (s.cob.mgmt.upd = .idle → s.bootAt .recovery ∨ s.cob.act = none ∧ (s.cob.holder = none ∨ s.cob.holder = some .pldm) →
        (n = 0 ∨ 0x3000000 < n → exec (.requestupdate b n) s = .next (s.said b 1 [2#8])) ∧
        (1 ≤ n → n ≤ 0x3000000 → ∃ t, exec (.requestupdate b n) s = .next t ∧ t.outs = s.outs ++ [.mctp b 1 (0#8 :: toLE 4 4096)] ∧
          t.cob.mgmt = { s.cob.mgmt with upd := .download n 0 } ∧ (¬ s.bootAt .recovery → t.cob.holder = some .pldm) ∧
          (s.bootAt .recovery → t.cob.holder = s.cob.holder) ∧ t.cob.staging = s.cob.staging ∧ t.csr = s.csr))) ∧
    (∀ data ok, (∀ n k, s.cob.mgmt.upd ≠ .download n k) → exec (.requestfirmwaredata b data ok) s = .next s) ∧
    (∀ data ok n k d, s.cob.mgmt.upd = .download n k → d = data.take (min 4096 (n - k)) →
      (k + d.length < n → ∃ t, exec (.requestfirmwaredata b data ok) s = .next t ∧ t.cob.mgmt = { s.cob.mgmt with upd := .download n (k + d.length) } ∧
        t.outs = s.outs ∧ t.csr = s.csr ∧
        (s.bootAt .recovery → t.cob.staging = s.cob.staging ∧
          ∀ x, Memory.byte t.mem x = if s.bootStore + k ≤ x ∧ x < s.bootStore + k + d.length then d.getD (x - (s.bootStore + k)) 0 else Memory.byte s.mem x) ∧
        (¬ s.bootAt .recovery → t.mem = s.mem ∧ t.cob.holder = some .pldm ∧
          ∀ x, Memory.byte t.cob.staging x = if k ≤ x ∧ x < k + d.length then d.getD (x - k) 0 else Memory.byte s.cob.staging x)) ∧
      (∀ u : State, n ≤ k + d.length → ¬ s.bootAt .recovery → s.cob.act = none →
        u = { s with cob := { s.cob with staging := Memory.write s.cob.staging k d, holder := some .pldm } } →
        (∀ e, u.checkSet u.staged = .error e → ∃ t, exec (.requestfirmwaredata b data ok) s = .next t ∧ t.cob.mgmt = { s.cob.mgmt with upd := .idle } ∧
          t.outs = s.outs ++ [.mctp b 1 [BitVec.ofNat 8 e]] ∧ t.cob.staging = [] ∧ t.cob.holder = none ∧ t.flash = s.flash ∧ t.csr = s.csr) ∧
        (∀ key seq img, u.checkSet u.staged = .ok key → u.storing seq img → seq ≤ 0xFFFFFFFE → ok = true →
          s.canAppend [⟨1, s.targetSlot, toLE 4 0⟩, ⟨1, s.targetSlot, toLE 4 seq⟩] → ∃ t, exec (.requestfirmwaredata b data ok) s = .next t ∧
            s.storedIn t s.targetSlot seq img ∧ t.cob.mgmt = { s.cob.mgmt with upd := .applied s.targetSlot } ∧
            t.outs = s.outs ++ [.mctp b 1 [0#8], .mctp b 1 [0#8]]))) ∧
    (∀ x, (∀ sl, s.cob.mgmt.upd ≠ .applied sl) → exec (.activatefirmware b x) s = .next (s.said b 1 [0x80#8])) ∧
    (∀ sl, s.cob.mgmt.upd = .applied sl → ¬ s.bootAt .recovery →
      exec (.activatefirmware b false) s = .next ((s.withMgmt { s.cob.mgmt with upd := .idle }).said b 1 [0#8]) ∧
      (s.cob.act ≠ none ∨ (∃ p, s.cob.holder = some p ∧ p ≠ .pldm) →
        exec (.activatefirmware b true) s = .next ((s.withMgmt { s.cob.mgmt with upd := .idle }).said b 1 [3#8])) ∧
      (s.cob.act = none → s.cob.holder = none ∨ s.cob.holder = some .pldm → ∀ bs, bs = s.slotSet sl →
        (∀ d, s.checkSet bs = .error d → exec (.activatefirmware b true) s =
          .next ((s.withMgmt { s.cob.mgmt with upd := .idle }).said b 1 [if d = 8 then 8#8 else 6#8])) ∧
        (∀ k im, s.checkSet bs = .ok k → s.swapBlocked s.storageSpindles = false → checkImage (setType bs 2) (budgetOf s.stitchLen) = .accepted im →
          ∃ t, exec (.activatefirmware b true) s = .next t ∧ s.activationBegun t (.pldm b) sl bs))) ∧
    exec (.getstatus b) s = .next (s.said b 1 [0#8, match s.cob.mgmt.upd with | .idle => 0#8 | .download _ _ => 3#8 | .applied _ => 6#8]) ∧
    ((∀ n k, s.cob.mgmt.upd ≠ .download n k) → exec (.cancelupdatecomponent b) s = .next (s.said b 1 [0x80#8])) ∧
    (∀ n k, s.cob.mgmt.upd = .download n k → ∃ t, exec (.cancelupdatecomponent b) s = .next t ∧ t.outs = s.outs ++ [.mctp b 1 [0#8]] ∧
      t.cob.mgmt = { s.cob.mgmt with upd := .download n 0 } ∧ t.cob.holder = s.cob.holder ∧ (¬ s.bootAt .recovery → t.cob.staging = []) ∧
      t.csr = s.csr ∧ t.mem = s.mem) ∧
    (s.cob.mgmt.upd = .idle → exec (.cancelupdate b) s = .next (s.said b 1 [0x80#8])) ∧
    (s.cob.mgmt.upd ≠ .idle → ∃ t, exec (.cancelupdate b) s = .next t ∧ t.outs = s.outs ++ [.mctp b 1 [0#8]] ∧ t.cob.mgmt = { s.cob.mgmt with upd := .idle } ∧
      (s.cob.holder = some .pldm → t.cob.holder = none ∧ t.cob.staging = []) ∧
      (s.cob.holder ≠ some .pldm → t.cob.holder = s.cob.holder ∧ t.cob.staging = s.cob.staging) ∧ t.csr = s.csr ∧ t.mem = s.mem) ∧
    exec (.querydeviceidentifiers b) s = .next (s.said b 1 (0#8 :: (toLE 2 (s.rd F.HOSTLINK_ID.VENDOR) ++ toLE 2 (s.devId 0)))) ∧
    (∀ r, s.cob.run = some r → exec (.getfirmwareparameters b) s = .next (s.said b 1 (0#8 :: (sliceB r.buildId 0 16 ++ toLE 4 r.svn ++
      (s.flashAt 0x4000020 16 ++ toLE 4 (leAt (s.flashAt 0x4000008 4) 0 4)) ++ (s.flashAt 0x8000020 16 ++ toLE 4 (leAt (s.flashAt 0x8000008 4) 0 4))))))) ∧
  -- SPDM (R411, R412)
  (∀ (s : State) (r : RunSet), s.cob.run = some r → s.measurement 1 = Config.romDigest ∧ s.measurement 2 = sha384 r.cobbler ∧
    s.measurement 3 = sha384 r.body ∧ s.measurement 4 = sha384 r.storage ∧ s.measurement 5 = sha384 r.config) ∧
  (∀ (s : State) (path : Nat), s.rd F.COBBLER_BOOT_STATUS.GATE_OPEN = 0 ∨ 6 ≤ path →
    (∀ c n p o l, exec (.spdmRequest path c n p o l) s = .next s) ∧ exec (.keyExchange path) s = .next s ∧
      ∀ n i tn so h k, exec (.sealingKeyMessage path n i tn so h k) s = .next s) ∧
  (∀ (s : State) (path n p off len : Nat), s.rd F.COBBLER_BOOT_STATUS.GATE_OPEN = 1 → path < 6 →
    exec (.spdmRequest path 0x84 n p off len) s = .next (s.spdmSaid path [4#8, 0x12#8, 0x13#8]) ∧
    exec (.spdmRequest path 0xE1 n p off len) s = .next (s.spdmSaid path [0x61#8]) ∧
    exec (.spdmRequest path 0xE3 n p off len) s = .next (s.spdmSaid path [0x63#8]) ∧
    exec (.spdmRequest path 0x81 n p off len) s = .next (s.spdmSaid path (1#8 :: 1#8 :: sha384 s.certs)) ∧
    (p = 0 → exec (.spdmRequest path 0x82 n p off len) s = .next (s.spdmSaid path (2#8 :: 0#8 :: (s.certs.drop off).take len)) ∧
      exec (.spdmRequest path 0x83 n p off len) s = .next (({ s with freeCtr := s.freeCtr + 1 } : State).spdmSaid path
        ([3#8, 0#8] ++ sha384 s.certs ++ sliceB (Config.spdmSignature s.freeCtr) 0 96))) ∧
    (p ≠ 0 → exec (.spdmRequest path 0x82 n p off len) s = .next (s.spdmSaid path [0x7F#8, 1#8]) ∧
      exec (.spdmRequest path 0x83 n p off len) s = .next (s.spdmSaid path [0x7F#8, 1#8])) ∧
    (p = 0 → exec (.spdmRequest path 0xE0 n p off len) s = .next (s.spdmSaid path [0x60#8, 6#8])) ∧
    (6 < p → p ≠ 255 → exec (.spdmRequest path 0xE0 n p off len) s = .next (s.spdmSaid path [0x7F#8, 1#8])) ∧
    (1 ≤ p → p ≤ 6 → exec (.spdmRequest path 0xE0 n p off len) s = .next (({ s with freeCtr := s.freeCtr + 1 } : State).spdmSaid path
      ([0x60#8, 1#8, BitVec.ofNat 8 p] ++ toLE 2 (s.measurement p).length ++ s.measurement p ++ sliceB (Config.spdmSignature s.freeCtr) 0 96))) ∧
    (p = 255 → exec (.spdmRequest path 0xE0 n p off len) s = .next (({ s with freeCtr := s.freeCtr + 1 } : State).spdmSaid path
      ([0x60#8, 6#8] ++ [1, 2, 3, 4, 5, 6].flatMap (fun k => toLE 1 k ++ toLE 2 (s.measurement k).length ++ s.measurement k) ++
        sliceB (Config.spdmSignature s.freeCtr) 0 96))) ∧
    (∀ c ∈ [0xE5, 0xE8, 0xE9],
      ((n, path) ∈ s.cob.mgmt.sessions → exec (.spdmRequest path c n p off len) s = .next (s.spdmSaid path [BitVec.ofNat 8 (c % 128)])) ∧
      ((n, path) ∉ s.cob.mgmt.sessions → exec (.spdmRequest path c n p off len) s = .next (s.spdmSaid path [0x7F#8, 0x0B#8]))) ∧
    ((n, path) ∈ s.cob.mgmt.sessions → ∃ t, exec (.spdmRequest path 0xEC n p off len) s = .next t ∧ (n, path) ∉ t.cob.mgmt.sessions ∧
      (∀ x, x ≠ (n, path) → (x ∈ t.cob.mgmt.sessions ↔ x ∈ s.cob.mgmt.sessions)) ∧
      t = (s.withMgmt { s.cob.mgmt with sessions := t.cob.mgmt.sessions }).spdmSaid path [0x6C#8]) ∧
    ((n, path) ∉ s.cob.mgmt.sessions → exec (.spdmRequest path 0xEC n p off len) s = .next (s.spdmSaid path [0x7F#8, 0x0B#8])) ∧
    (8 ≤ s.cob.mgmt.sessions.length → exec (.keyExchange path) s = .next (s.spdmSaid path [0x7F#8, 3#8])) ∧
    (s.cob.mgmt.sessions.length < 8 → ∀ k, k = s.cob.mgmt.nextSession → exec (.keyExchange path) s =
      .next ((({ s with freeCtr := s.freeCtr + 1 } : State).withMgmt { s.cob.mgmt with sessions := s.cob.mgmt.sessions ++ [(k, path)], nextSession := k + 1 }).spdmSaid path
        (0x64#8 :: (toLE 2 k ++ sliceB (Config.spdmSignature s.freeCtr) 0 96))))) ∧
  (∀ (s : State) (path n i tenant soft hard : Nat) (key : List Byte), s.rd F.COBBLER_BOOT_STATUS.GATE_OPEN = 1 → path < 6 →
    ((n, path) ∉ s.cob.mgmt.sessions → exec (.sealingKeyMessage path n i tenant soft hard key) s = .next s) ∧
    ((n, path) ∈ s.cob.mgmt.sessions →
      (key.length ≠ 16 → key.length ≠ 32 → exec (.sealingKeyMessage path n i tenant soft hard key) s = .next (s.spdmSaid path [2#8, 9#8])) ∧
      (key.length = 16 ∨ key.length = 32 →
        (s.rd F.CIPHER_SESS_CFG.COUNT ≤ i → exec (.sealingKeyMessage path n i tenant soft hard key) s = .next (s.spdmSaid path [4#8, 0x0D#8])) ∧
        (i < s.rd F.CIPHER_SESS_CFG.COUNT → s.sessHome i = 1 → s.fencedB = true →
          exec (.sealingKeyMessage path n i tenant soft hard key) s = .next (s.spdmSaid path [0x0E#8, 0x11#8])) ∧
        (i < s.rd F.CIPHER_SESS_CFG.COUNT → s.sessHome i ≠ 1 ∨ s.fencedB = false → s.cipher.ops = [] →
          (∀ j ∈ s.cipher.jobs, j.session = i → j.holds = false) → s.keySlot i = none → i ∉ s.cipher.installed → s.slotRoom i → tenant < 4096 →
          soft < 2 ^ 64 → hard < 2 ^ 64 →
          ∃ t k, exec (.sealingKeyMessage path n i tenant soft hard key) s = .next t ∧ t.keySlot i = some k ∧ k.st = 1 ∧
            sKind k.plain = 10 ∧ leAt k.plain 2 2 = tenant ∧ sliceB k.plain 0x20 key.length = key ∧ leAt k.plain 0x68 8 = soft ∧
            leAt k.plain 0x70 8 = hard ∧ i ∈ t.cipher.installed ∧ (∀ x, x ≠ i → t.keySlot x = s.keySlot x) ∧
            { t with cipher := s.cipher } = s.spdmSaid path [0#8, 0#8]))))

/-- R417 to R420, R422 to R424, R428 to R438. The class and position of the seam's events, and how a pending swap holds a role change
requested before it, are the model's choices (log entries 94 and 95). -/
def Obligations.SeamFencingAndSpares : Prop :=
  -- the seam (R417 to R419)
  (∀ (s : State) (dir lane : Nat), (2 ≤ dir ∨ 18 ≤ lane → exec (.flitReplay dir lane) s = .next s) ∧
    (dir < 2 → lane < 18 → ∃ t, exec (.flitReplay dir lane) s = .next t ∧
      t.rd F.SEAM_STAT.REPLAYS.CNT = min (s.rd F.SEAM_STAT.REPLAYS.CNT + 1) (2 ^ 32 - 1) ∧ t.reports = s.reports ++ [(3, 18 * dir + lane)] ∧
      { t with csr := s.csr, reports := s.reports } = s ∧ s.regsKept t [F.SEAM_STAT.REPLAYS.CNT])) ∧
  (∀ (s : State) (dir : Nat), (2 ≤ dir → exec (.seamDown dir) s = .next s) ∧
    (dir < 2 → ∃ t, exec (.seamDown dir) s = .next t ∧ t.rd (widthF dir) = 0 ∧ (if dir = 0 then t.seam.downAB = true else t.seam.downBA = true) ∧
      (s.rd F.SEAM_STATUS.STATE = 0 → t.rd F.SEAM_STATUS.STATE = 1 ∧ t.seam.downAt = some s.clk.cycles) ∧
      (s.rd F.SEAM_STATUS.STATE ≠ 0 → t.rd F.SEAM_STATUS.STATE = s.rd F.SEAM_STATUS.STATE ∧ t.rd F.SEAM_STATUS.TRAINED = 0) ∧
      (s.rd F.SEAM_STATUS.STATE = 4 → t.seam.downAt = some (s.seam.downAt.getD s.clk.cycles)) ∧
      (s.lace.bFree = none → s.seam.fenced = false → t.net.ptp = { s.net.ptp with halfB := some (s.ptpNow 1, 0) } ∧ t.lace = { s.lace with
        bFree := some { since := s.clk.cycles, count := s.stitch, phase := s.rd F.STITCH_POS.CYCLE, len := s.stitchLen, turn := s.turnNoOf 0 } }) ∧
      (s.lace.bFree ≠ none ∨ s.seam.fenced = true → t.lace = s.lace ∧ t.net.ptp = s.net.ptp) ∧
      { t with csr := s.csr, seam := s.seam, lace := s.lace, net := { t.net with ptp := s.net.ptp } } = s ∧
      s.regsKept t [widthF dir, F.SEAM_STATUS.STATE, F.SEAM_STATUS.TRAINED])) ∧
  -- Half B's own stitch and time (R23)
  (∀ s : State, s.stitchOf 0 = s.stitch ∧ s.boundaryOf 0 = s.atBoundary ∧
    (s.lace.bFree = none → s.stitchOf 1 = s.stitch ∧ s.boundaryOf 1 = s.atBoundary) ∧
    (∀ x, s.lace.bFree = some x → s.stitchOf 1 = x.count + (x.phase + (s.clk.cycles - x.since)) / x.len ∧
      (s.boundaryOf 1 = true ↔ (x.phase + (s.clk.cycles - x.since)) % x.len = 0))) ∧
  (∀ (s : State) (dir : Nat), s.seamWidth dir = if 16 ≤ s.goodLanes dir then 16 else if 8 ≤ s.goodLanes dir then 8 else 0) ∧
  (∀ s : State, (s.rd F.SEAM_STATUS.STATE ≠ 1 → ∀ ok, exec (.seamRetrainDone ok) s = .next s) ∧ exec (.seamRetrainDone false) s = .next s ∧
    (s.rd F.SEAM_STATUS.STATE = 1 → ∃ t, exec (.seamRetrainDone true) s = .next t ∧ s.widthsShown t ∧ t.seam.swapping = [] ∧
      t.rd F.SEAM_STAT.RETRAINS.CNT = min (s.rd F.SEAM_STAT.RETRAINS.CNT + 1) (2 ^ 32 - 1) ∧
      (s.seamWidth 0 ≠ 0 → s.seamWidth 1 ≠ 0 → t.rd F.SEAM_STATUS.STATE = 0 ∧ t.seam.downAt = none ∧
        t.lace = { s.lace with bFree := none } ∧ t.net.ptp = { s.net.ptp with halfB := none }) ∧
      (s.seamWidth 0 = 0 ∨ s.seamWidth 1 = 0 → t.rd F.SEAM_STATUS.STATE = 1 ∧ t.seam.downAt = s.seam.downAt ∧ t.lace = s.lace ∧ t.net.ptp = s.net.ptp) ∧
      (s.seam.swapping = [] → s.regsKept t (F.SEAM_STATUS.STATE :: trainFields)) ∧
      (∀ l, s.seam.swapping = [l] → l < 36 → t.rd F.SEAM_STAT.LANE_SWAPS.CNT = min (s.rd F.SEAM_STAT.LANE_SWAPS.CNT + 1) (2 ^ 32 - 1) ∧
        t.rd F.FAULT_STAT.SWAPS.CNT = min (s.rd F.FAULT_STAT.SWAPS.CNT + 1) (2 ^ 32 - 1) ∧ t.hasEvent faultEvq (faultWord 2 3 l) ∧
        t.rd F.FAULT_SPARE.SEAM = s.rd F.FAULT_SPARE.SEAM - 1 ∧ t.domOn (60 + l / 18) = true))) ∧
  (∀ s : State, (s.seam.downAt = none → exec .seamLoss s = .next s) ∧
    (∀ c, s.seam.downAt = some c →
      (s.rd F.SEAM_STATUS.STATE ≠ 1 ∧ s.rd F.SEAM_STATUS.STATE ≠ 4 ∨ s.clk.cycles ≤ c + 4 * s.stitchLen → exec .seamLoss s = .next s) ∧
      (s.rd F.SEAM_STATUS.STATE = 1 ∨ s.rd F.SEAM_STATUS.STATE = 4 → c + 4 * s.stitchLen < s.clk.cycles →
        ∃ t, exec .seamLoss s = .next t ∧ t.rd F.SEAM_STATUS.STATE = 2 ∧ t.fencedB = true ∧
          t.rd F.SEAM_STAT.LOSSES.CNT = min (s.rd F.SEAM_STAT.LOSSES.CNT + 1) (2 ^ 32 - 1) ∧ t.seam.lossAt = some s.clk.cycles ∧
          t.hasEvent faultEvq (faultWord 8 3 0) ∧ t.seam.fenceSeen = false ∧ t.seam.fenced = s.seam.fenced ∧
          (s.rd F.SEAM_STATUS.WITNESS_ALIVE = 1 → s.witnessed t 0 2) ∧ (s.rd F.SEAM_STATUS.WITNESS_ALIVE = 0 → t.seam.wire = s.seam.wire) ∧
          (s.seam.storage = [] → ∀ sp, sp ∈ t.seam.storage ↔ 384 ≤ sp ∧ sp < 768 ∧ s.role sp = 1)))) ∧
  -- the witness (R420)
  (∀ (s : State) (half : Nat), (2 ≤ half ∨ s.stitchOf half % 256 ≠ 0 ∨ s.boundaryOf half = false → exec (.heartbeat half) s = .next s) ∧
    (half < 2 → (if half = 0 then s.seam.beatA else s.seam.beatB) = some (s.stitchOf half) → exec (.heartbeat half) s = .next s) ∧
    (half < 2 → s.stitchOf half % 256 = 0 → s.boundaryOf half = true → (if half = 0 then s.seam.beatA else s.seam.beatB) ≠ some (s.stitchOf half) →
      ∃ t, exec (.heartbeat half) s = .next t ∧ s.witnessed t half 1 ∧ { t with outs := s.outs, seam := s.seam } = s ∧ t.seam.wire = s.seam.wire ∧
        (half = 0 → t.seam.seqA = (s.seam.seqA + 1) % 2 ^ 20 ∧ t.seam.seqB = s.seam.seqB) ∧
        (half = 1 → t.seam.seqB = (s.seam.seqB + 1) % 2 ^ 20 ∧ t.seam.seqA = s.seam.seqA))) ∧
  (∀ (s : State) (half : Nat) (ack : Bool), (2 ≤ half → ∀ ok, exec (.witnessFrameReceived half ack ok) s = .next s) ∧
    (half < 2 → ∃ t, exec (.witnessFrameReceived half ack false) s = .next t ∧
      t.rd F.SEAM_STAT.WIT_BAD.CNT = min (s.rd F.SEAM_STAT.WIT_BAD.CNT + 1) (2 ^ 32 - 1) ∧ s.onlyRegs t [F.SEAM_STAT.WIT_BAD.CNT]) ∧
    (half < 2 → ∃ t, exec (.witnessFrameReceived half ack true) s = .next t ∧ { t with csr := s.csr, seam := s.seam } = s ∧
      (half = 0 → t.rd F.SEAM_STATUS.WITNESS_ALIVE = 1 ∧ t.seam.heardA = s.stitch) ∧ (half = 1 → t.seam.heardB = s.stitch) ∧
      s.regsKept t [F.SEAM_STATUS.WITNESS_ALIVE] ∧ (ack = false → t.seam.wire = s.seam.wire) ∧
      (ack = true → t.seam.wire = s.seam.wire.erase (5, 1 - half)))) ∧
  (∀ (s : State) (half : Nat), (half ≠ 0 ∨ s.stitch < s.seam.heardA + 768 → exec (.witnessSilent half) s = .next s) ∧
    (half = 0 → s.seam.heardA + 768 ≤ s.stitch → ∃ t, exec (.witnessSilent half) s = .next t ∧ t.rd F.SEAM_STATUS.WITNESS_ALIVE = 0 ∧
      s.onlyRegs t [F.SEAM_STATUS.WITNESS_ALIVE])) ∧
  -- the fence (R422 to R424)
  (∀ s : State, ((2, 0) ∉ s.seam.wire → exec .fence s = .next s) ∧
    ((2, 0) ∈ s.seam.wire → ∃ t, exec .fence s = .next t ∧ t.seam.wire = s.seam.wire.erase (2, 0) ∧ t.seam.heardB = s.stitch ∧
      (s.seam.lossAt ≠ none → t.seam.fenceSeen = true) ∧ (s.seam.lossAt = none → t.seam.fenceSeen = s.seam.fenceSeen) ∧
      t.seam.fenced = s.seam.fenced ∧ { t with seam := s.seam } = s)) ∧
  (∀ s : State, ((3, 1) ∉ s.seam.wire → exec .fenceAck s = .next s) ∧
    ((3, 1) ∈ s.seam.wire → ∃ t, exec .fenceAck s = .next t ∧ t.seam.wire = s.seam.wire.erase (3, 1) ∧ t.rd F.SEAM_STATUS.WITNESS_ALIVE = 1 ∧
      (∀ c, s.seam.lossAt = some c → s.rd F.SEAM_STATUS.STATE = 2 → s.clk.cycles ≤ c + 64 * s.stitchLen → s.takenFenced t 0 ∧
        s.regsKept t (F.SEAM_STATUS.WITNESS_ALIVE :: fencedFields)) ∧
      (s.seam.lossAt = none ∨ s.rd F.SEAM_STATUS.STATE ≠ 2 ∨ (∃ c, s.seam.lossAt = some c ∧ c + 64 * s.stitchLen < s.clk.cycles) →
        s.regsKept t [F.SEAM_STATUS.WITNESS_ALIVE]))) ∧
  (∀ s : State, (s.seam.lossAt = none ∨ s.rd F.SEAM_STATUS.STATE ≠ 2 → exec .fenceTimeout s = .next s) ∧
    (∀ c, s.seam.lossAt = some c → (s.clk.cycles < c + 72 * s.stitchLen → exec .fenceTimeout s = .next s) ∧
      (s.rd F.SEAM_STATUS.STATE = 2 → c + 72 * s.stitchLen ≤ s.clk.cycles → ∃ t, exec .fenceTimeout s = .next t ∧ s.takenFenced t 1 ∧
        s.regsKept t fencedFields ∧ t.seam = s.seam ∧ t.mules = s.mules))) ∧
  (∀ s : State, (s.seam.lossAt = none → exec .halfFence s = .next s) ∧
    (∀ c, s.seam.lossAt = some c →
      (s.boundaryOf 1 = false ∨ (s.seam.fenceSeen = false ∧ s.clk.cycles < c + 64 * s.stitchLen) → exec .halfFence s = .next s) ∧
      (s.boundaryOf 1 = true → s.seam.fenceSeen = true ∨ c + 64 * s.stitchLen ≤ s.clk.cycles → ∃ t, exec .halfFence s = .next t ∧
        t.haltedB = true ∧ t.seam.fenceSeen = false ∧
        ((∀ l, 8 ≤ l → l < 16 → s.slot l ≠ 4) → t.mules = s.mules ∧ t.lmem = s.lmem ∧ t.scratch = s.scratch) ∧
        (s.seam.fenceSeen = true → s.witnessed t 1 3) ∧ (s.seam.fenceSeen = false → t.seam.wire = s.seam.wire) ∧
        (s.seam.fenced = false → t.lace = { s.lace with bFree := none } ∧ (∀ p, 8 ≤ p → p < 16 → t.linkUp p = false) ∧
          ∀ l, 8 ≤ l → l < 16 → s.slot l = 4 → t.slot l = 5 ∧ t.rd (F.EYELET_SLOT_STATUS.CAUSE l) = 6)))) ∧
  -- the rejoin (R428, R429)
  (∀ (s : State) (ok : Bool), ((s.rd F.SEAM_STATUS.STATE ≠ 2 ∧ s.rd F.SEAM_STATUS.STATE ≠ 3) ∨ s.rd F.SEAM_STATUS.TRAINED = 1 ∨
      s.stitch < s.seam.retrainAt + 1024 → exec (.rejoinRetrain ok) s = .next s) ∧
    (s.rd F.SEAM_STATUS.STATE = 2 ∨ s.rd F.SEAM_STATUS.STATE = 3 → s.rd F.SEAM_STATUS.TRAINED = 0 → s.seam.retrainAt + 1024 ≤ s.stitch →
      exec (.rejoinRetrain false) s = .next { s with seam := { s.seam with retrainAt := s.stitch } } ∧
      ∃ t, exec (.rejoinRetrain true) s = .next t ∧ s.retrained t ∧
        (s.seam.swapping = [] → s.regsKept t (F.SEAM_STATUS.TRAINED :: F.SEAM_CMD.REJOIN :: trainFields)))) ∧
  (∀ (s : State) (ok : Bool), (s.rd F.SEAM_CMD.RETRAIN = 0 → exec (.retrain ok) s = .next s) ∧
    (s.rd F.SEAM_CMD.RETRAIN = 1 → ∃ t, exec (.retrain ok) s = .next t ∧ t.rd F.SEAM_CMD.RETRAIN = 0 ∧
      (ok = false ∨ (s.rd F.SEAM_STATUS.STATE ≠ 2 ∧ s.rd F.SEAM_STATUS.STATE ≠ 3) ∨ s.rd F.SEAM_STATUS.TRAINED = 1 → s.regsKept t [F.SEAM_CMD.RETRAIN]) ∧
      (ok = true → s.rd F.SEAM_STATUS.STATE = 2 ∨ s.rd F.SEAM_STATUS.STATE = 3 → s.rd F.SEAM_STATUS.TRAINED = 0 → s.retrained t))) ∧
  (∀ s : State, (s.rd F.SEAM_CMD.REJOIN = 0 ∨ s.rd F.SEAM_STATUS.STATE = 4 → exec .rejoin s = .next s) ∧
    (s.rd F.SEAM_CMD.REJOIN = 1 → s.rd F.SEAM_STATUS.STATE ≠ 4 → ∃ t, exec .rejoin s = .next t ∧
      (∀ cause, (s.rd F.SEAM_STATUS.STATE ≠ 3 ∧ cause = 1) ∨ (s.rd F.SEAM_STATUS.STATE = 3 ∧ s.rd F.SEAM_STATUS.TRAINED = 0 ∧ cause = 2) ∨
          (s.rd F.SEAM_STATUS.STATE = 3 ∧ s.rd F.SEAM_STATUS.TRAINED = 1 ∧ s.rd F.SEAM_STATUS.WITNESS_ALIVE = 0 ∧ cause = 3) →
        t.rd F.SEAM_CMD.REJOIN = 0 ∧ t.rd F.SEAM_CMD.REFUSED = 1 ∧ t.rd F.SEAM_CMD.CAUSE = cause ∧
        s.onlyRegs t [F.SEAM_CMD.REJOIN, F.SEAM_CMD.REFUSED, F.SEAM_CMD.CAUSE]) ∧
      (s.rd F.SEAM_STATUS.STATE = 3 → s.rd F.SEAM_STATUS.TRAINED = 1 → s.rd F.SEAM_STATUS.WITNESS_ALIVE = 1 →
        t.rd F.SEAM_STATUS.STATE = 4 ∧ s.witnessed t 0 4 ∧ s.regsKept t [F.SEAM_STATUS.STATE] ∧ { t with csr := s.csr, seam := s.seam, outs := s.outs } = s))) ∧
  (∀ s : State, (s.rd F.SEAM_STATUS.STATE ≠ 4 ∨ (4, 0) ∉ s.seam.wire → exec .halfReset s = .next s) ∧
    (s.rd F.SEAM_STATUS.STATE = 4 → (4, 0) ∈ s.seam.wire → (∀ sp ∈ s.seam.storage, 384 ≤ sp ∧ sp < 768) → (∀ e ∈ s.flt.spared, e.2 < 16) →
      ∃ t, exec .halfReset s = .next t ∧ t.seam.fenced = false ∧ t.seam.fenceSeen = false ∧ t.seam.lossAt = none ∧ t.seam.resetDone = true ∧
        s.witnessed t 1 5 ∧ t.rd F.SEAM_STATUS.STATE = 4 ∧
        (∀ i, 9 ≤ i → i < 18 → t.chState i = if s.chState i = 0 then 3 else s.chState i) ∧
        (∀ sp, 384 ≤ sp → sp < 768 → t.rd (epochF sp) = (if s.rd (epochF sp) = 255 then 1 else s.rd (epochF sp) + 1) ∧ t.role sp = 4) ∧
        (∀ tid, 3072 ≤ tid → tid < 6144 → t.thr tid = Thread.reset ∧ t.ts tid = State.reset.ts tid) ∧
        (∀ tid < 3072, t.ts tid = s.ts tid ∧
          ((∀ m ∈ s.queuedB, epIsUnit m.src = false → epTid m.src ≠ tid) → t.thr tid = s.thr tid) ∧
          (∀ m ∈ s.queuedB, epIsUnit m.src = false → epTid m.src = tid → (t.thr tid).events.getLsbD evStale = true ∧ (t.thr tid).notice ≠ none)) ∧
        (∀ m p, 24 ≤ m → m < 48 → p < 17 → (0, 17 * m + p) ∈ s.repairs → t.rd (F.MULE_POS.STATE m p) = 2) ∧
        (∀ m l, 24 ≤ m → m < 48 → AMap.get? s.flt.spared m = some l → (0, 17 * m + 16) ∉ s.repairs → t.rd (F.MULE_ROLE.PHYS m l) = 16) ∧
        (∀ id p, (id, p) ∈ t.net.pkts ↔ (id, p) ∈ s.net.pkts ∧ p.half = 0) ∧ t.net.last.tabsB = s.net.last.tabsA ∧
        (∀ k < 4096, ∀ c < 8, t.inUse 1 k c = 0) ∧
        ((∀ m ∈ s.queuedB, epIsUnit m.src = false) → (∀ k < 4096, ∀ c < 8, t.inUse 0 k c = s.inUse 0 k c) ∧ t.mem = s.mem ∧ t.q = s.q) ∧ 1 ∈ t.net.eth.needApply ∧
        (∀ i, s.sessHome i = 0 → t.keySlot i = s.keySlot i) ∧ (∀ i, s.sessHome i = 1 → t.keySlot i = none) ∧
        (∀ img, checkImage ((s.cob.run.map (fun r => r.storage)).getD []) (budgetOf s.stitchLen) = .accepted img → ∀ sp ∈ s.seam.storage,
          t.rd (F.MULE_ROLE.REQ (muleOf sp) (logOf sp)) = 1 ∧ t.rd (F.MULE_ROLE.NEW_ROLE (muleOf sp) (logOf sp)) = 1 ∧ t.rd (standbyF sp) = 1))) ∧
  (∀ s : State, (s.rd F.SEAM_STATUS.STATE ≠ 4 ∨ s.seam.resetDone = false ∨ s.seam.downAB = true ∨ s.seam.downBA = true ∨
      (∃ i, 9 ≤ i ∧ i < 18 ∧ s.chState i = 3) ∨ (∃ sp ∈ s.seam.storage, s.rd (F.MULE_ROLE.REQ (muleOf sp) (logOf sp)) = 1) → exec .rejoinDone s = .next s) ∧
    (s.rd F.SEAM_STATUS.STATE = 4 → s.seam.resetDone = true → s.seam.downAB = false → s.seam.downBA = false →
      (∀ i, 9 ≤ i → i < 18 → s.chState i ≠ 3) → (∀ sp ∈ s.seam.storage, s.rd (F.MULE_ROLE.REQ (muleOf sp) (logOf sp)) = 0) →
      ∃ t, exec .rejoinDone s = .next t ∧ t.rd F.SEAM_STATUS.STATE = 0 ∧ t.fencedB = false ∧ t.rd F.SEAM_STATUS.TRAINED = 0 ∧ t.rd F.SEAM_CMD.REJOIN = 0 ∧
        s.logged t faultEvq (faultWord 11 3 0) ∧ t.seam.storage = [] ∧ t.seam.resetDone = false ∧ t.seam.downAt = none ∧
        t.net.last = { s.net.last with tabsB := s.net.last.tabsA } ∧
        s.regsKept t [F.SEAM_STATUS.STATE, F.SEAM_STATUS.TRAINED, F.SEAM_CMD.REJOIN, evqHead faultEvq] ∧ t.mules = s.mules)) ∧
  -- the classifier (R430)
  (∀ (s : State) (k pos row : Nat) (unc : Bool) (owner : Option Nat), (8 ≤ k ∨ posCount k ≤ pos → exec (.errorReport k pos row unc owner) s = .next s) ∧
    (k < 8 → pos < posCount k → ∃ t u, exec (.errorReport k pos row unc owner) s = .next t ∧ u.ruled t k pos row unc false owner ∧
      ((1 ≤ k ∧ k < 4) ∨ 6 ≤ k → u = { s with reports := s.reports.erase (k, pos) }) ∧
      -- class 0: a thread that meets a parity or ECC error faults (R81)
      (k = 0 → (s.servedBy pos = none ∨ (∀ sp, s.servedBy pos = some sp → s.ts (8 * sp + row % 8) ≠ tsRun) ∨ bitsOf row 4 3 = 0 ∨ bitsOf row 4 3 = 3 →
          u = { s with reports := s.reports.erase (k, pos) }) ∧
        (∀ sp, s.servedBy pos = some sp → sp < 768 → s.ts (8 * sp + row % 8) = tsRun → bitsOf row 4 3 = 1 ∨ bitsOf row 4 3 = 2 →
          u.ts (8 * sp + row % 8) = tsFault ∧ u.rd (F.MULE_STAT.FAULTS.CNT (sp / 16)) = min (s.rd (F.MULE_STAT.FAULTS.CNT (sp / 16)) + 1) (2 ^ 32 - 1) ∧
          u.rd (faultF (8 * sp + row % 8) 0) % 256 = (if bitsOf row 4 3 = 1 then fcIstore else fcLmemEcc) ∧
          u.rd (faultF (8 * sp + row % 8) 1) = (if bitsOf row 4 3 = 1 then 0 else bitsOf row 31 5) ∧
          (u.thr (8 * sp)).events.getLsbD evFault = true)) ∧
      -- class 5: an error corrected in a demand read (R370)
      (k = 5 → (s.chMaintains pos = false ∨ (5, pos) ∈ s.reports → u = { s with reports := s.reports.erase (k, pos) }) ∧
        (s.chMaintains pos = true → (5, pos) ∉ s.reports → s.regsKept u [F.MEM_CH_STAT.CE.CNT pos] ∧
          u.rd (F.MEM_CH_STAT.CE.CNT pos) = min (s.rd (F.MEM_CH_STAT.CE.CNT pos) + 1) (2 ^ 32 - 1) ∧
          { u with csr := s.csr } = { s with dram := { s.dram with writebacks := s.dram.writebacks ++ [s.patrolUnit pos row] } })) ∧
      (k = 4 → { u with csr := s.csr } = { s with reports := s.reports.erase (k, pos) }) ∧
      (∀ w f, k = 4 → w = lanesOf (s.ethMode (pos / 8)) → f = F.ETH_STAT.FEC_UNCORR.CNT (pos / w * w) → u.rd f = (s.rd f + 1) % 2 ^ f.bits ∧ s.regsKept u [f]))) ∧
  (∀ s : State, (s.rd F.FAULT_INJECT.GO = 0 → exec .faultInject s = .next s) ∧
    (∀ k pos, s.rd F.FAULT_INJECT.GO = 1 → k = s.rd F.FAULT_INJECT.CLASS → pos = s.rd F.FAULT_INJECT.POSITION →
      ∃ t u, exec .faultInject s = .next t ∧ s.onlyRegs u [F.FAULT_INJECT.GO] ∧ u.rd F.FAULT_INJECT.GO = 0 ∧
        (s.cob.debugOpen = false ∨ posCount k ≤ pos → t = u) ∧
        (s.cob.debugOpen = true → pos < posCount k → u.ruled t k pos 0 false true none))) ∧
  -- swaps (R432 to R434)
  (∀ (s : State) (sp : Nat), (s.flt.swaps.find? (fun x => x.sp == sp && !x.copied) = none → exec (.spindleSwapDrain sp) s = .next s) ∧
    (∀ x, s.flt.swaps.find? (fun x => x.sp == sp && !x.copied) = some x → sp < 768 → x.pos < 816 →
      (s.atBoundary = false ∨ s.stitch < x.stitch + 2 → exec (.spindleSwapDrain sp) s = .next s) ∧
      (s.atBoundary = true → x.stitch + 2 ≤ s.stitch →
        (x.spare = true → ∃ t, exec (.spindleSwapDrain sp) s = .next t ∧
          (∀ j < 8, (s.bounded (8 * sp + j) = false → s.ts (8 * sp + j) ≠ tsOff → t.ts (8 * sp + j) = tsHalt ∧
              AMap.get? t.flt.stopped (8 * sp + j) = some (s.ts (8 * sp + j))) ∧
            (s.bounded (8 * sp + j) = true ∨ s.ts (8 * sp + j) = tsOff → t.ts (8 * sp + j) = s.ts (8 * sp + j))) ∧
          (∀ tid < 6144, tid / 8 ≠ sp → t.ts tid = s.ts tid) ∧ t.mules = s.mules ∧ t.yarn = s.yarn ∧ t.swapPending sp = true ∧
          ∀ y ∈ t.flt.swaps, y.sp = sp → y.copied = true) ∧
        (x.spare = false → ∃ t, exec (.spindleSwapDrain sp) s = .next t ∧ t.role sp = 4 ∧
          t.rd (epochF sp) = (if s.rd (epochF sp) = 255 then 1 else s.rd (epochF sp) + 1) ∧ (∀ j < 8, t.ts (8 * sp + j) = tsOff) ∧
          t.swapPending sp = false ∧ t.hasEvent faultEvq (faultWord 3 0 x.pos) ∧ t.rd (F.MULE_POS.STATE (sp / 16) (x.pos % 17)) = 2 ∧
          t.rd F.FAULT_STAT.UNSPARED.CNT = min (s.rd F.FAULT_STAT.UNSPARED.CNT + 1) (2 ^ 32 - 1))))) ∧
  (∀ (s : State) (sp : Nat), (s.flt.swaps.find? (fun x => x.sp == sp && x.copied) = none → exec (.spindleSwapComplete sp) s = .next s) ∧
    (∀ x, s.flt.swaps.find? (fun x => x.sp == sp && x.copied) = some x → sp < 768 → x.pos < 816 →
      (s.atBoundary = false ∨ s.stitch < x.stitch + 3 → exec (.spindleSwapComplete sp) s = .next s) ∧
      (s.atBoundary = true → x.stitch + 3 ≤ s.stitch → ∃ t, exec (.spindleSwapComplete sp) s = .next t ∧
        (∀ j < 8, ∀ st < 8, AMap.get? s.flt.stopped (8 * sp + j) = some st → t.ts (8 * sp + j) = st) ∧
        (∀ j < 8, AMap.get? s.flt.stopped (8 * sp + j) = none → t.ts (8 * sp + j) = s.ts (8 * sp + j)) ∧
        t.mules.threads = s.mules.threads ∧ t.lmem = s.lmem ∧ t.yarn = s.yarn ∧ t.swapPending sp = false ∧
        t.rd F.FAULT_STAT.SWAPS.CNT = min (s.rd F.FAULT_STAT.SWAPS.CNT + 1) (2 ^ 32 - 1) ∧ t.hasEvent faultEvq (faultWord 2 0 x.pos) ∧
        (∀ n, (s.spindle sp).roleAt = some n → (t.spindle sp).roleAt = some (x.stitch + 3)) ∧
        (∀ m l, m = sp / 16 → l = sp % 16 → x.pos = 17 * m + l → AMap.get? s.flt.spared m = some l → (0, x.pos) ∈ s.repairs → (0, 17 * m + 16) ∉ s.repairs →
          t.rd (F.MULE_ROLE.PHYS m l) = 16 ∧ t.rd (F.MULE_POS.STATE m 16) = 0 ∧ t.rd (F.MULE_POS.LOGICAL m 16) = l ∧ t.rd (F.MULE_POS.STATE m l) = 2)))) ∧
  (∀ (s : State) (pos : Nat), (AMap.get? s.flt.engines pos = none → exec (.spareEngineEnable pos) s = .next s) ∧
    (∀ c n, AMap.get? s.flt.engines pos = some n → c = pos / 136 → c < 4 →
      (∀ e, e < 136 → s.rd (F.CIPHER_ENGPOS.STATE (136 * c + e)) = 1 → (∀ x < e, s.rd (F.CIPHER_ENGPOS.STATE (136 * c + x)) ≠ 1) →
        ∃ t, exec (.spareEngineEnable pos) s = .next t ∧ t.rd (F.CIPHER_ENGPOS.STATE (136 * c + e)) = 0 ∧ AMap.get? t.flt.engines pos = none ∧
          t.rd F.FAULT_SPARE.CIPHER = s.rd F.FAULT_SPARE.CIPHER - 1 ∧ s.logged t faultEvq (faultWord 2 1 pos) ∧
          s.regsKept t [F.CIPHER_ENGPOS.STATE (136 * c + e), F.FAULT_SPARE.CIPHER, F.FAULT_STAT.SWAPS.CNT, evqHead faultEvq]) ∧
      ((∀ x < 136, s.rd (F.CIPHER_ENGPOS.STATE (136 * c + x)) ≠ 1) → ∃ t, exec (.spareEngineEnable pos) s = .next t ∧
        s.logged t faultEvq (faultWord 3 1 pos) ∧ t.rd F.FAULT_STAT.UNSPARED.CNT = min (s.rd F.FAULT_STAT.UNSPARED.CNT + 1) (2 ^ 32 - 1)))) ∧
  (∀ (s : State) (l : Nat), (AMap.get? s.flt.lanes l = none → exec (.cardLaneRetire l) s = .next s) ∧
    (∀ n, AMap.get? s.flt.lanes l = some n → l < 10 →
      (s.atBoundary = false ∨ s.stitch ≤ n → exec (.cardLaneRetire l) s = .next s) ∧
      (s.atBoundary = true → n < s.stitch → ∃ t, exec (.cardLaneRetire l) s = .next t ∧ t.rd (F.CARD_LANE.STATE l) = 2 ∧ AMap.get? t.flt.lanes l = none ∧
        (s.rd (F.CARD_LANE.STATE l) = 1 → t.rd F.FAULT_SPARE.CARD = s.rd F.FAULT_SPARE.CARD - 1 ∧ s.regsKept t [F.CARD_LANE.STATE l, F.FAULT_SPARE.CARD]) ∧
        (s.rd (F.CARD_LANE.STATE l) ≠ 1 →
          (∀ e, e < 5 → s.rd (F.CARD_LANE.STATE (l / 5 * 5 + e)) = 1 → (∀ x < e, s.rd (F.CARD_LANE.STATE (l / 5 * 5 + x)) ≠ 1) →
            t.rd (F.CARD_LANE.STATE (l / 5 * 5 + e)) = 0 ∧ t.rd F.FAULT_SPARE.CARD = s.rd F.FAULT_SPARE.CARD - 1 ∧ s.logged t faultEvq (faultWord 2 2 l)) ∧
          ((∀ x < 5, s.rd (F.CARD_LANE.STATE (l / 5 * 5 + x)) ≠ 1) → s.logged t faultEvq (faultWord 3 2 l) ∧
            t.rd F.FAULT_STAT.UNSPARED.CNT = min (s.rd F.FAULT_STAT.UNSPARED.CNT + 1) (2 ^ 32 - 1)))))) ∧
  -- the wear ledger (R438)
  (∀ (s : State) (ages : List Nat), (s.stitch < s.flt.wearAt + 2 ^ 20 → exec (.wearSample ages) s = .next s) ∧
    (s.flt.wearAt + 2 ^ 20 ≤ s.stitch → (∀ i, AMap.getD s.flt.errors i 0 < 2 ^ 32) → ∃ t, exec (.wearSample ages) s = .next t ∧ t.flt.wearAt = s.stitch ∧
      t.flt.recordAt = (if s.flt.recordAt + 2 ^ 30 ≤ s.stitch then s.stitch else s.flt.recordAt) ∧
      (∀ k < 6, ∀ pos < posCount k, ∀ a g g0, a = s.sampledAge ages k pos → g = s.newGrade k pos a →
        g0 = bitsOf (s.rd (F.FAULT_LEDGER.W (1024 * k + pos))) 63 62 →
        t.rd (F.FAULT_LEDGER.W (1024 * k + pos)) = 2 ^ 62 * g + 2 ^ 32 * a + AMap.getD s.flt.errors (1024 * k + pos) 0 ∧
        (g0 = 0 → g = 1 → t.hasEvent faultEvq (faultWord 6 k pos)) ∧
        (g0 < 2 → g = 2 → s.rd (F.FAULT_CLASS.PREDICT_EN k) = 0 → t.hasEvent faultEvq (faultWord 7 k pos)) ∧
        (g = 2 → s.rd (F.FAULT_CLASS.PREDICT_EN k) = 1 → s.spareFree k pos = true → k ≠ 5 ∨ s.chState pos ≠ 4 →
          (∀ k' < 6, ∀ p < posCount k', (k', p) ≠ (k, pos) → s.newGrade k' p (s.sampledAge ages k' p) ≠ 2) → (k, pos) ∈ t.repairs)) ∧
      ((∀ k < 6, s.rd (F.FAULT_CLASS.PREDICT_EN k) = 0) → t.repairs = s.repairs ∧ t.mules = s.mules ∧ t.mem = s.mem) ∧
      (s.rd F.COBBLER_BOOT_STATUS.GATE_OPEN = 0 → s.flt.recordAt + 2 ^ 30 ≤ s.stitch → ∀ k < 6, ⟨4, k, t.wearPayload k⟩ ∈ t.cob.journal.waiting)))

/-- R321, R322, R444 to R449, R455. That a fall of a rail or of SYS_CLK is recorded only while the part is powered, and that the
straps are an operand of the reset's end, are the model's choices (log entry 60). -/
def Obligations.PowerResets : Prop :=
  (∀ (s : State) (cause : PowerCause) (straps : Nat) (lost : Bool),
    (cause = .powerUp lost ∨ (lost = false ∧ (∃ l, l < 2 ∧ cause = .hotReset l) ∧ s.flag F.POWER_STRAP.RESET_SCOPE = true ∧ s.held = false)) →
    ∃ t, exec (.powerReset cause straps) s = .next t ∧ s.cold t ∧ t.held = false ∧
      State.reset.regsKept t (aonFields ++ strapFields) ∧
      (∀ f ∈ aonFields, t.rd f = if lost then State.reset.rd f else s.rd f) ∧
      t.rd ⟨F.POWER_STRAP.RESET_SCOPE.addr, 31, 0⟩ = straps % 128 ∧
      (∀ f ∈ [F.HOSTLINK_LINKCFG.BIFUR, F.HOSTLINK_LINKCFG.PF2_LINK, F.HOSTLINK_LINKCFG.PF3_LINK], t.rd f = straps / 2 % 2) ∧
      (∀ f, f < 4100 → t.rd (F.HOSTLINK_FUNC.COMPAT_HJ420 f) = straps / 4 % 2)) ∧
  (∀ (s : State) (l straps : Nat), l < 2 →
    (s.flag F.POWER_STRAP.RESET_SCOPE = true → s.held = false →
      ∃ t, exec (.powerReset (.perst l) straps) s = .next t ∧ t.held = false ∧ t.pwr.perst = l :: s.pwr.perst.filter (· != l) ∧ t.mem = [] ∧
        t.rd ⟨F.POWER_STRAP.RESET_SCOPE.addr, 31, 0⟩ = straps % 128) ∧
    (s.flag F.POWER_STRAP.RESET_SCOPE = false → exec (.powerReset (.hotReset l) straps) s = .next s)) ∧
  (∀ (s : State) (lost : Bool), s.pwr.pwrgd = false →
    ∃ t, exec (.pwrgdRise lost) s = .next t ∧ s.cold t ∧ t.held = true ∧ t.pwr.pwrgd = true ∧ t.pwr.roseAt = some s.clk.time ∧
      State.reset.regsKept t aonFields ∧
      (∀ f ∈ aonFields, t.rd f = if lost then State.reset.rd f else s.rd f)) ∧
  (∀ (s : State) (straps t0 : Nat), s.pwr.roseAt = some t0 → t0 + 10 * 8000000 ≤ s.clk.time →
    ∃ t, exec (.powerOnResetEnd straps) s = .next t ∧ s.cold t ∧ t.held = false ∧ t.pwr.roseAt = none ∧ t.pwr.resetEnd = s.clk.time ∧
      t.pwr.xspiReset = false ∧ t.rd ⟨F.POWER_STRAP.RESET_SCOPE.addr, 31, 0⟩ = straps % 128 ∧
      (∀ f ∈ aonFields, t.rd f = s.rd f)) ∧
  (∀ s : State, s.held = false → s.pwr.resetEnd + 8000000 ≤ s.clk.time →
    exec .xspiResetRelease s = .next { s with pwr := { s.pwr with xspiReset := true } }) ∧
  (∀ s : State, ∃ t, exec .pwrgdFall s = .next t ∧ s.cold t ∧ t.held = true ∧ t.pwr.pwrgd = false ∧ t.mem = [] ∧ t.eye.pins = [] ∧
    (∀ f ∈ aonFields, t.rd f = s.rd f)) ∧
  (∀ (s : State) (rail : Nat), rail < 6 → s.powered = true →
    ∃ t, exec (.railUndervolt rail) s = .next t ∧ s.cold t ∧ t.held = true ∧ t.rd F.POWER_RESET_CAUSE.BROWNOUT = 1 ∧
      t.rd F.POWER_RESET_CAUSE.RAIL = rail ∧ (∀ straps, exec (.powerOnResetEnd straps) t = .next t) ∧
      (∀ v straps, exec (.powerReset (.hotReset v) straps) t = .next t)) ∧
  (∀ s : State, s.powered = true →
    ∃ t, exec .sysClkLoss s = .next t ∧ s.cold t ∧ t.held = true ∧ t.rd F.POWER_RESET_CAUSE.CLOCK = 1 ∧
      t.rd F.POWER_RESET_CAUSE.TRIP = s.rd F.POWER_RESET_CAUSE.TRIP)

/-- R450 to R455. That one command is one pass over the sensors, its readings operands, is the model's choice (log entry 61). -/
def Obligations.ThermalAndClock : Prop :=
  (∀ (s : State) (temps rails : List Nat) (watts : Nat), s.held = true → exec (.sensorRead temps rails watts) s = .next s) ∧
  (∀ (s : State) (temps rails : List Nat) (watts : Nat), s.held = false →
    ∃ r t, exec (.sensorRead temps rails watts) s = .next t ∧ r = s.takeReadings temps rails watts ∧
      (∀ k v, k < 64 → temps[k]? = some v → v < 2048 → r.rd (F.POWER_TEMP.TEMP k) = v ∧
        toSigned11 v ≤ toSigned11 (r.rd (F.POWER_TEMP.PEAK k)) ∧ toSigned11 (s.rd (F.POWER_TEMP.PEAK k)) ≤ toSigned11 (r.rd (F.POWER_TEMP.PEAK k)) ∧
        (r.rd (F.POWER_TEMP.PEAK k) = v ∨ r.rd (F.POWER_TEMP.PEAK k) = s.rd (F.POWER_TEMP.PEAK k)) ∧
        toSigned11 v ≤ toSigned11 (r.rd F.POWER_TEMP_MAX.TEMP)) ∧
      (∀ n v, n < 6 → rails[n]? = some v → v < 4096 → r.rd (F.POWER_RAIL.MV n) = v) ∧ (watts < 8192 → r.rd F.POWER_PKG.WATTS = watts) ∧
      ((∃ k < 64, 4 * (s.rd F.POWER_THERM_CFG.TRIP_T : Int) ≤ toSigned11 (r.rd (F.POWER_TEMP.TEMP k))) →
        r.cold t ∧ t.held = true ∧ t.pwr.tripped = true ∧ t.rd F.POWER_RESET_CAUSE.TRIP = 1) ∧
      ((∀ k < 64, toSigned11 (r.rd (F.POWER_TEMP.TEMP k)) < 4 * (s.rd F.POWER_THERM_CFG.TRIP_T : Int)) →
        t = r.throttle.sensorEvents ∧
        ((∃ k < 64, 4 * ((min 100 (s.rd F.POWER_THERM_CFG.THROTTLE_T) : Nat) : Int) ≤ toSigned11 (r.rd (F.POWER_TEMP.TEMP k))) →
          r.throttle.rd F.POWER_CLK.THROTTLE = 1 ∧ r.throttle.pwr.coolFrom = none ∧ r.throttle.rd F.POWER_CLK.CUR = s.rd F.POWER_CLK.CUR ∧
          (s.rd F.POWER_CLK.THROTTLE = 0 → s.pwr.releasedIn ≠ some (s.rd F.STITCH_COUNT.COUNT / 64) →
            r.throttle.rd F.POWER_STAT.THROTTLES.CNT = min (s.rd F.POWER_STAT.THROTTLES.CNT + 1) (2 ^ 32 - 1))) ∧
        ((∀ k < 64, toSigned11 (r.rd (F.POWER_TEMP.TEMP k)) < 4 * ((min 100 (s.rd F.POWER_THERM_CFG.THROTTLE_T) : Nat) : Int)) →
          r.throttle.rd F.POWER_CLK.THROTTLE = s.rd F.POWER_CLK.THROTTLE) ∧
        ((∀ k < 64, toSigned11 (r.rd (F.POWER_TEMP.TEMP k)) <
            4 * ((min (s.rd F.POWER_THERM_CFG.RELEASE_T) (min 100 (s.rd F.POWER_THERM_CFG.THROTTLE_T) - 1) : Nat) : Int)) →
          r.throttle.pwr.coolFrom = some (s.pwr.coolFrom.getD s.stitch)))) ∧
  (∀ (s : State) (n : Nat), s.pwr.coolFrom = some n → s.rd F.POWER_CLK.THROTTLE = 1 → n + 2 ^ 20 ≤ s.rd F.STITCH_COUNT.COUNT →
    ∃ t, exec .throttleRelease s = .next t ∧ t.rd F.POWER_CLK.THROTTLE = 0 ∧ s.regsKept t [F.POWER_CLK.THROTTLE] ∧
      t.pwr.releasedIn = some (s.rd F.STITCH_COUNT.COUNT / 64) ∧ { t with csr := s.csr, pwr := s.pwr } = s) ∧
  (∀ s : State, s.atPeriod = true → s.pwr.clkAt < s.clk.cycles → s.rd F.POWER_CLK.CUR < 2 →
    s.rd F.POWER_CLK.CUR ≠ (if s.rd F.POWER_CLK.THROTTLE = 1 ∨ s.rd F.POWER_CLK.REDUCED = 1 then 1 else 0) →
    ∃ t, exec .clockChange s = .next t ∧ t.rd F.POWER_CLK.CUR = 1 - s.rd F.POWER_CLK.CUR ∧
      (s.rd F.STITCH_PTP_CTRL.STATE = 1 ∨ s.rd F.STITCH_PTP_CTRL.STATE = 2 → t.rd F.STITCH_PTP_CTRL.STATE = 1) ∧
      t.rd F.STITCH_COUNT.COUNT = s.rd F.STITCH_COUNT.COUNT ∧ t.rd F.STITCH_POS.TURN = s.rd F.STITCH_POS.TURN ∧ t.mem = s.mem ∧ t.q = s.q ∧
      t.mules = s.mules) ∧
  (∀ (s : State) (v : W64), ∃ t, exec (.domainSwitch v) s = .next t ∧
    (∀ j < 58, v.getLsbD j = (s.word F.POWER_DOM_CTRL.ON.addr).testBit j → (t.rd F.POWER_DOM_CTRL.ON).testBit j = (s.rd F.POWER_DOM_CTRL.ON).testBit j ∧
      t.switching j = s.switching j) ∧
    (∀ k, k < 63 → s.rd F.POWER_DOM_ERR.VALID = 0 →
      (∀ j < 63, j ≠ k → v.getLsbD j = (s.word F.POWER_DOM_CTRL.ON.addr).testBit j) → v.getLsbD k ≠ (s.word F.POWER_DOM_CTRL.ON.addr).testBit k →
      (58 ≤ k → t.rd F.POWER_DOM_CTRL.HW = s.rd F.POWER_DOM_CTRL.HW ∧ t.rd F.POWER_DOM_ERR.VALID = 1 ∧ t.rd F.POWER_DOM_ERR.CAUSE = 5 ∧
        t.rd F.POWER_DOM_ERR.DOMAIN = k) ∧
      (k < 58 → v.getLsbD k = true → (t.rd F.POWER_DOM_CTRL.ON).testBit k = true ∧ t.rd F.POWER_DOM_ERR.VALID = 0 ∧
        t.switching k = (if s.switching k = some false then none else some true)) ∧
      (∀ c, k < 58 → v.getLsbD k = false → s.offRefused k = some c → (t.rd F.POWER_DOM_CTRL.ON).testBit k = true ∧
        t.rd F.POWER_DOM_ERR.VALID = 1 ∧ t.rd F.POWER_DOM_ERR.CAUSE = c % 8 ∧ t.rd F.POWER_DOM_ERR.DOMAIN = k ∧ t.switching k = s.switching k) ∧
      (k < 58 → v.getLsbD k = false → s.offRefused k = none → (t.rd F.POWER_DOM_CTRL.ON).testBit k = false ∧ t.rd F.POWER_DOM_ERR.VALID = 0 ∧
        (s.domOn k = true → t.switching k = some false)))) ∧
  (∀ (s : State) (k : Nat), (s.switching k ≠ some false ∨ (∃ c < 4, k = 48 + c ∧ s.clusterIdle c = false) → exec (.domainOffDone k) s = .next s) ∧
    (s.switching k ≠ some true → exec (.domainOnDone k) s = .next s)) ∧
  (∀ (s : State) (k : Nat), k < 58 → s.switching k = some false → (∀ c, k = 48 + c → c < 4 → s.clusterIdle c = true) →
    ∃ t, exec (.domainOffDone k) s = .next t ∧ (t.rd F.POWER_DOM_STATUS.ON).testBit k = false ∧ t.switching k = none ∧
      (k < 48 → t.rd F.POWER_STAT.DOM_SWITCHES.CNT = min (s.rd F.POWER_STAT.DOM_SWITCHES.CNT + 1) (2 ^ 32 - 1) ∧
        (∀ j < 16, t.rd (F.MULE_THR_STATE.STANDBY_VALID k j) = 0 ∧ t.rd (F.MULE_ROLE.EPOCH k j) = s.rd (F.MULE_ROLE.EPOCH k j)) ∧
        (∀ a, a / 524288 = k → Memory.byte t.scratch a = 0)) ∧
      (∀ c < 4, k = 48 + c → ∀ i, s.sessHome i = c / 2 → (∀ j ∈ s.cipher.jobs, j.session = i → j.holds = false) → t.keySlot i = none) ∧
      (∀ p < 4, k = 52 + p → ∀ j < 4, AMap.get? t.eye.pins (4 * p + j) = none) ∧
      (∀ h < 2, k = 56 + h → ∀ j < 8, t.linkUp (8 * h + j) = false)) ∧
  (∀ (s : State) (k : Nat), k < 58 → s.switching k = some true →
    ∃ t, exec (.domainOnDone k) s = .next t ∧ (t.rd F.POWER_DOM_STATUS.ON).testBit k = true ∧ t.switching k = none ∧
      (s.domOn k = false → ∀ g : FRef, domReg k g.addr = true → t.rd g = State.reset.rd g))
end

