-- ==== Sys2Proof/Laws/Map.lean ====
section
/-! SUPPORT. Laws of finite maps and memories: a read after a write, and the canonical form that every operation keeps. -/

namespace Sys2Proof.Machine

/-! ### Reading what was written -/

theorem AMap.get?_set {α : Type} (m : AMap α) (k k' : Nat) (v : α) (hm : AMap.rising m = true) :
    AMap.get? (AMap.set m k v) k' = if k' = k then some v else AMap.get? m k' := by
  induction m with
  | nil => simp [AMap.set, AMap.get?]
  | cons e t ih =>
    obtain ⟨a, x⟩ := e
    simp only [AMap.rising, Bool.and_eq_true] at hm
    simp only [AMap.set]
    split
    · simp [AMap.get?]
    · split
      · subst_vars; simp only [AMap.get?]; split <;> simp_all
      · simp only [AMap.get?, ih hm.1]; split <;> split <;> simp_all

theorem AMap.get?_set_same {α : Type} (m : AMap α) (k : Nat) (v : α) : AMap.get? (AMap.set m k v) k = some v := by
  induction m with
  | nil => simp [AMap.set, AMap.get?]
  | cons e t ih => 
    obtain ⟨a, x⟩ := e
    simp only [AMap.set]
    split
    · simp [AMap.get?]
    · split
      · simp [AMap.get?]
      · simp only [AMap.get?]; split <;> simp_all

theorem AMap.get?_set_other {α : Type} (m : AMap α) (k k' : Nat) (v : α) (h : k' ≠ k) :
    AMap.get? (AMap.set m k v) k' = AMap.get? m k' := by
  induction m with
  | nil => simp [AMap.set, AMap.get?, h]
  | cons e t ih =>
    obtain ⟨a, x⟩ := e
    simp only [AMap.set]
    split
    · simp [AMap.get?, h]
    · split
      · subst_vars; simp [AMap.get?, h]
      · simp only [AMap.get?, ih]

theorem AMap.get?_del_same {α : Type} (m : AMap α) (k : Nat) : AMap.get? (AMap.del m k) k = none := by
  induction m with
  | nil => rfl
  | cons e t ih => simp only [AMap.del]; split <;> simp_all [AMap.get?]

theorem AMap.get?_del_other {α : Type} (m : AMap α) (k k' : Nat) (h : k' ≠ k) : AMap.get? (AMap.del m k) k' = AMap.get? m k' := by
  induction m with
  | nil => rfl
  | cons e t ih =>
    simp only [AMap.del]
    split
    · subst_vars; simp [AMap.get?, ih, h]
    · simp only [AMap.get?, ih]

theorem AMap.getD_setD_same {α : Type} [DecidableEq α] (d : α) (m : AMap α) (k : Nat) (v : α) :
    AMap.getD (AMap.setD d m k v) k d = v := by
  simp only [AMap.getD, AMap.setD]
  split
  · simp_all [AMap.get?_del_same]
  · simp [AMap.get?_set_same]

theorem AMap.getD_setD_other {α : Type} [DecidableEq α] (d e : α) (m : AMap α) (k k' : Nat) (v : α) (h : k' ≠ k) :
    AMap.getD (AMap.setD d m k v) k' e = AMap.getD m k' e := by
  simp only [AMap.getD, AMap.setD]
  split
  · rw [AMap.get?_del_other _ _ _ h]
  · rw [AMap.get?_set_other _ _ _ _ h]

/-! ### The canonical form -/

theorem AMap.mem_set {α : Type} (m : AMap α) (k : Nat) (v : α) (e : Nat × α) (h : e ∈ AMap.set m k v) : e = (k, v) ∨ e ∈ m := by
  induction m with
  | nil => simpa [AMap.set] using h
  | cons a t ih =>
    simp only [AMap.set] at h
    split at h
    · simpa using h
    · split at h
      · simp only [List.mem_cons] at h ⊢; tauto
      · simp only [List.mem_cons] at h ⊢; tauto

theorem AMap.mem_del {α : Type} (m : AMap α) (k : Nat) (e : Nat × α) (h : e ∈ AMap.del m k) : e ∈ m ∧ e.1 ≠ k := by
  induction m with
  | nil => simp [AMap.del] at h
  | cons a t ih =>
    simp only [AMap.del] at h
    split at h
    · have := ih h; simp [this]
    · simp only [List.mem_cons] at h
      rcases h with rfl | h
      · simp_all [eq_comm]
      · have := ih h; simp [this]

theorem AMap.rising_set {α : Type} (m : AMap α) (k : Nat) (v : α) (h : AMap.rising m = true) : AMap.rising (AMap.set m k v) = true := by
  induction m with
  | nil => rfl
  | cons a t ih =>
    obtain ⟨a, x⟩ := a
    simp only [AMap.rising, Bool.and_eq_true, List.all_eq_true, decide_eq_true_eq] at h
    simp only [AMap.set]
    split
    · simp only [AMap.rising, Bool.and_eq_true, List.all_eq_true, decide_eq_true_eq, List.mem_cons]
      refine ⟨h, ?_⟩
      rintro p (rfl | hp)
      · assumption
      · exact Nat.lt_trans ‹k < a› (h.2 p hp)
    · split
      · subst_vars; simp only [AMap.rising, Bool.and_eq_true, List.all_eq_true, decide_eq_true_eq]; exact h
      · simp only [AMap.rising, Bool.and_eq_true, List.all_eq_true, decide_eq_true_eq]
        refine ⟨ih h.1, ?_⟩
        intro p hp
        rcases AMap.mem_set t k v p hp with rfl | hp
        · simp only; omega
        · exact h.2 p hp

theorem AMap.rising_del {α : Type} (m : AMap α) (k : Nat) (h : AMap.rising m = true) : AMap.rising (AMap.del m k) = true := by
  induction m with
  | nil => rfl
  | cons a t ih =>
    obtain ⟨a, x⟩ := a
    simp only [AMap.rising, Bool.and_eq_true, List.all_eq_true, decide_eq_true_eq] at h
    simp only [AMap.del]
    split
    · exact ih h.1
    · simp only [AMap.rising, Bool.and_eq_true, List.all_eq_true, decide_eq_true_eq]
      exact ⟨ih h.1, fun p hp => h.2 p (AMap.mem_del t k p hp).1⟩

/-- Writing a map keeps its canonical form. -/
theorem AMap.canon_setD {α : Type} [DecidableEq α] (d : α) (m : AMap α) (k : Nat) (v : α) (h : AMap.canon d m = true) :
    AMap.canon d (AMap.setD d m k v) = true := by
  simp only [AMap.canon, Bool.and_eq_true, List.all_eq_true, ne_eq, decide_eq_true_eq, AMap.setD] at *
  split
  · exact ⟨AMap.rising_del m k h.1, fun p hp => h.2 p (AMap.mem_del m k p hp).1⟩
  · refine ⟨AMap.rising_set m k v h.1, fun p hp => ?_⟩
    rcases AMap.mem_set m k v p hp with rfl | hp
    · assumption
    · exact h.2 p hp

/-! ### Memories -/

/-- A byte reads as it was last stored. -/
theorem Memory.byte_put_same (m : Memory) (a : Nat) (b : Byte) : Memory.byte (Memory.put m a b) a = b :=
  AMap.getD_setD_same 0#8 m a b

/-- A store leaves every other byte. -/
theorem Memory.byte_put_other (m : Memory) (a x : Nat) (b : Byte) (h : x ≠ a) : Memory.byte (Memory.put m a b) x = Memory.byte m x :=
  AMap.getD_setD_other 0#8 0#8 m a x b h

/-- A store of a string leaves every byte outside it. -/
theorem Memory.byte_write_outside (bs : Bytes) (m : Memory) (a x : Nat) (h : x < a ∨ a + bs.length ≤ x) :
    Memory.byte (Memory.write m a bs) x = Memory.byte m x := by
  induction bs generalizing m a with
  | nil => rfl
  | cons b t ih =>
    simp only [List.length_cons] at h
    simp only [Memory.write]
    rw [ih _ _ (by omega), Memory.byte_put_other _ _ _ _ (by omega)]

/-- A byte of a stored string reads as stored. -/
theorem Memory.byte_write_inside (bs : Bytes) (m : Memory) (a k : Nat) (h : k < bs.length) :
    Memory.byte (Memory.write m a bs) (a + k) = bs[k] := by
  induction bs generalizing m a k with
  | nil => simp at h
  | cons b t ih =>
    simp only [Memory.write]
    cases k with
    | zero =>
      rw [Memory.byte_write_outside _ _ _ _ (by omega)]; exact Memory.byte_put_same m a b
    | succ k =>
      simp only [List.length_cons] at h
      have := ih (Memory.put m a b) (a + 1) k (by omega)
      rw [show a + (k + 1) = a + 1 + k by omega, this]; rfl

/-- What has been stored reads back. -/
theorem Memory.read_write (bs : Bytes) (m : Memory) (a : Nat) : Memory.read (Memory.write m a bs) a bs.length = bs := by
  have key : ∀ (n : Nat) (x : Memory) (a : Nat) (l : Bytes), l.length = n →
      (∀ k (h : k < l.length), Memory.byte x (a + k) = l[k]) → Memory.read x a n = l := by
    intro n
    induction n with
    | zero => intro x a l hl _; simp [Memory.read, List.length_eq_zero_iff.mp hl]
    | succ n ih =>
      intro x a l hl hb
      cases l with
      | nil => simp at hl
      | cons b t =>
        simp only [Memory.read]
        congr 1
        · exact hb 0 (by simp)
        · apply ih x (a + 1) t (by simpa using hl)
          intro k hk
          have := hb (k + 1) (by simpa using hk)
          rw [show a + 1 + k = a + (k + 1) by omega, this]; rfl
  exact key bs.length _ a bs rfl (fun k h => Memory.byte_write_inside bs m a k h)

/-- A store keeps the canonical form. -/
theorem Memory.wf_write (bs : Bytes) (m : Memory) (a : Nat) (h : Memory.wf m = true) : Memory.wf (Memory.write m a bs) = true := by
  induction bs generalizing m a with
  | nil => exact h
  | cons b t ih => exact ih _ _ (AMap.canon_setD 0#8 m a b h)

end Sys2Proof.Machine
end

