-- ==== Sys2Proof/Laws/State.lean ====
section
/-! SUPPORT. What the named updates of the state leave unchanged: one lemma per field and update, each true by computation. -/

namespace Sys2Proof.Machine

/-! ### State.setWord -/

@[simp] theorem State.setWord_clk (s : State) (a v : Nat) : (s.setWord a v).clk = s.clk := rfl
@[simp] theorem State.setWord_latchPf0 (s : State) (a v : Nat) : (s.setWord a v).latchPf0 = s.latchPf0 := rfl
@[simp] theorem State.setWord_latchCob (s : State) (a v : Nat) : (s.setWord a v).latchCob = s.latchCob := rfl
@[simp] theorem State.setWord_fifos (s : State) (a v : Nat) : (s.setWord a v).fifos = s.fifos := rfl
@[simp] theorem State.setWord_lace (s : State) (a v : Nat) : (s.setWord a v).lace = s.lace := rfl
@[simp] theorem State.setWord_yarn (s : State) (a v : Nat) : (s.setWord a v).yarn = s.yarn := rfl
@[simp] theorem State.setWord_mules (s : State) (a v : Nat) : (s.setWord a v).mules = s.mules := rfl
@[simp] theorem State.setWord_bob (s : State) (a v : Nat) : (s.setWord a v).bob = s.bob := rfl
@[simp] theorem State.setWord_dram (s : State) (a v : Nat) : (s.setWord a v).dram = s.dram := rfl
@[simp] theorem State.setWord_net (s : State) (a v : Nat) : (s.setWord a v).net = s.net := rfl
@[simp] theorem State.setWord_host (s : State) (a v : Nat) : (s.setWord a v).host = s.host := rfl
@[simp] theorem State.setWord_q (s : State) (a v : Nat) : (s.setWord a v).q = s.q := rfl
@[simp] theorem State.setWord_eye (s : State) (a v : Nat) : (s.setWord a v).eye = s.eye := rfl
@[simp] theorem State.setWord_cipher (s : State) (a v : Nat) : (s.setWord a v).cipher = s.cipher := rfl
@[simp] theorem State.setWord_welt (s : State) (a v : Nat) : (s.setWord a v).welt = s.welt := rfl
@[simp] theorem State.setWord_cob (s : State) (a v : Nat) : (s.setWord a v).cob = s.cob := rfl
@[simp] theorem State.setWord_seam (s : State) (a v : Nat) : (s.setWord a v).seam = s.seam := rfl
@[simp] theorem State.setWord_flt (s : State) (a v : Nat) : (s.setWord a v).flt = s.flt := rfl
@[simp] theorem State.setWord_pwr (s : State) (a v : Nat) : (s.setWord a v).pwr = s.pwr := rfl
@[simp] theorem State.setWord_reports (s : State) (a v : Nat) : (s.setWord a v).reports = s.reports := rfl
@[simp] theorem State.setWord_repairs (s : State) (a v : Nat) : (s.setWord a v).repairs = s.repairs := rfl
@[simp] theorem State.setWord_mem (s : State) (a v : Nat) : (s.setWord a v).mem = s.mem := rfl
@[simp] theorem State.setWord_lmem (s : State) (a v : Nat) : (s.setWord a v).lmem = s.lmem := rfl
@[simp] theorem State.setWord_scratch (s : State) (a v : Nat) : (s.setWord a v).scratch = s.scratch := rfl
@[simp] theorem State.setWord_cobSram (s : State) (a v : Nat) : (s.setWord a v).cobSram = s.cobSram := rfl
@[simp] theorem State.setWord_flash (s : State) (a v : Nat) : (s.setWord a v).flash = s.flash := rfl
@[simp] theorem State.setWord_pflash (s : State) (a v : Nat) : (s.setWord a v).pflash = s.pflash := rfl
@[simp] theorem State.setWord_outs (s : State) (a v : Nat) : (s.setWord a v).outs = s.outs := rfl
@[simp] theorem State.setWord_freeCtr (s : State) (a v : Nat) : (s.setWord a v).freeCtr = s.freeCtr := rfl
@[simp] theorem State.setWord_pending (s : State) (a v : Nat) : (s.setWord a v).pending = s.pending := rfl

/-! ### State.wr -/

@[simp] theorem State.wr_clk (s : State) (f : FRef) (v : Nat) : (s.wr f v).clk = s.clk := rfl
@[simp] theorem State.wr_latchPf0 (s : State) (f : FRef) (v : Nat) : (s.wr f v).latchPf0 = s.latchPf0 := rfl
@[simp] theorem State.wr_latchCob (s : State) (f : FRef) (v : Nat) : (s.wr f v).latchCob = s.latchCob := rfl
@[simp] theorem State.wr_fifos (s : State) (f : FRef) (v : Nat) : (s.wr f v).fifos = s.fifos := rfl
@[simp] theorem State.wr_lace (s : State) (f : FRef) (v : Nat) : (s.wr f v).lace = s.lace := rfl
@[simp] theorem State.wr_yarn (s : State) (f : FRef) (v : Nat) : (s.wr f v).yarn = s.yarn := rfl
@[simp] theorem State.wr_mules (s : State) (f : FRef) (v : Nat) : (s.wr f v).mules = s.mules := rfl
@[simp] theorem State.wr_bob (s : State) (f : FRef) (v : Nat) : (s.wr f v).bob = s.bob := rfl
@[simp] theorem State.wr_dram (s : State) (f : FRef) (v : Nat) : (s.wr f v).dram = s.dram := rfl
@[simp] theorem State.wr_net (s : State) (f : FRef) (v : Nat) : (s.wr f v).net = s.net := rfl
@[simp] theorem State.wr_host (s : State) (f : FRef) (v : Nat) : (s.wr f v).host = s.host := rfl
@[simp] theorem State.wr_q (s : State) (f : FRef) (v : Nat) : (s.wr f v).q = s.q := rfl
@[simp] theorem State.wr_eye (s : State) (f : FRef) (v : Nat) : (s.wr f v).eye = s.eye := rfl
@[simp] theorem State.wr_cipher (s : State) (f : FRef) (v : Nat) : (s.wr f v).cipher = s.cipher := rfl
@[simp] theorem State.wr_welt (s : State) (f : FRef) (v : Nat) : (s.wr f v).welt = s.welt := rfl
@[simp] theorem State.wr_cob (s : State) (f : FRef) (v : Nat) : (s.wr f v).cob = s.cob := rfl
@[simp] theorem State.wr_seam (s : State) (f : FRef) (v : Nat) : (s.wr f v).seam = s.seam := rfl
@[simp] theorem State.wr_flt (s : State) (f : FRef) (v : Nat) : (s.wr f v).flt = s.flt := rfl
@[simp] theorem State.wr_pwr (s : State) (f : FRef) (v : Nat) : (s.wr f v).pwr = s.pwr := rfl
@[simp] theorem State.wr_reports (s : State) (f : FRef) (v : Nat) : (s.wr f v).reports = s.reports := rfl
@[simp] theorem State.wr_repairs (s : State) (f : FRef) (v : Nat) : (s.wr f v).repairs = s.repairs := rfl
@[simp] theorem State.wr_mem (s : State) (f : FRef) (v : Nat) : (s.wr f v).mem = s.mem := rfl
@[simp] theorem State.wr_lmem (s : State) (f : FRef) (v : Nat) : (s.wr f v).lmem = s.lmem := rfl
@[simp] theorem State.wr_scratch (s : State) (f : FRef) (v : Nat) : (s.wr f v).scratch = s.scratch := rfl
@[simp] theorem State.wr_cobSram (s : State) (f : FRef) (v : Nat) : (s.wr f v).cobSram = s.cobSram := rfl
@[simp] theorem State.wr_flash (s : State) (f : FRef) (v : Nat) : (s.wr f v).flash = s.flash := rfl
@[simp] theorem State.wr_pflash (s : State) (f : FRef) (v : Nat) : (s.wr f v).pflash = s.pflash := rfl
@[simp] theorem State.wr_outs (s : State) (f : FRef) (v : Nat) : (s.wr f v).outs = s.outs := rfl
@[simp] theorem State.wr_freeCtr (s : State) (f : FRef) (v : Nat) : (s.wr f v).freeCtr = s.freeCtr := rfl
@[simp] theorem State.wr_pending (s : State) (f : FRef) (v : Nat) : (s.wr f v).pending = s.pending := rfl

/-! ### State.count -/

@[simp] theorem State.count_clk (s : State) (f : FRef) (n : Nat) : (s.count f n).clk = s.clk := rfl
@[simp] theorem State.count_latchPf0 (s : State) (f : FRef) (n : Nat) : (s.count f n).latchPf0 = s.latchPf0 := rfl
@[simp] theorem State.count_latchCob (s : State) (f : FRef) (n : Nat) : (s.count f n).latchCob = s.latchCob := rfl
@[simp] theorem State.count_fifos (s : State) (f : FRef) (n : Nat) : (s.count f n).fifos = s.fifos := rfl
@[simp] theorem State.count_lace (s : State) (f : FRef) (n : Nat) : (s.count f n).lace = s.lace := rfl
@[simp] theorem State.count_yarn (s : State) (f : FRef) (n : Nat) : (s.count f n).yarn = s.yarn := rfl
@[simp] theorem State.count_mules (s : State) (f : FRef) (n : Nat) : (s.count f n).mules = s.mules := rfl
@[simp] theorem State.count_bob (s : State) (f : FRef) (n : Nat) : (s.count f n).bob = s.bob := rfl
@[simp] theorem State.count_dram (s : State) (f : FRef) (n : Nat) : (s.count f n).dram = s.dram := rfl
@[simp] theorem State.count_net (s : State) (f : FRef) (n : Nat) : (s.count f n).net = s.net := rfl
@[simp] theorem State.count_host (s : State) (f : FRef) (n : Nat) : (s.count f n).host = s.host := rfl
@[simp] theorem State.count_q (s : State) (f : FRef) (n : Nat) : (s.count f n).q = s.q := rfl
@[simp] theorem State.count_eye (s : State) (f : FRef) (n : Nat) : (s.count f n).eye = s.eye := rfl
@[simp] theorem State.count_cipher (s : State) (f : FRef) (n : Nat) : (s.count f n).cipher = s.cipher := rfl
@[simp] theorem State.count_welt (s : State) (f : FRef) (n : Nat) : (s.count f n).welt = s.welt := rfl
@[simp] theorem State.count_cob (s : State) (f : FRef) (n : Nat) : (s.count f n).cob = s.cob := rfl
@[simp] theorem State.count_seam (s : State) (f : FRef) (n : Nat) : (s.count f n).seam = s.seam := rfl
@[simp] theorem State.count_flt (s : State) (f : FRef) (n : Nat) : (s.count f n).flt = s.flt := rfl
@[simp] theorem State.count_pwr (s : State) (f : FRef) (n : Nat) : (s.count f n).pwr = s.pwr := rfl
@[simp] theorem State.count_reports (s : State) (f : FRef) (n : Nat) : (s.count f n).reports = s.reports := rfl
@[simp] theorem State.count_repairs (s : State) (f : FRef) (n : Nat) : (s.count f n).repairs = s.repairs := rfl
@[simp] theorem State.count_mem (s : State) (f : FRef) (n : Nat) : (s.count f n).mem = s.mem := rfl
@[simp] theorem State.count_lmem (s : State) (f : FRef) (n : Nat) : (s.count f n).lmem = s.lmem := rfl
@[simp] theorem State.count_scratch (s : State) (f : FRef) (n : Nat) : (s.count f n).scratch = s.scratch := rfl
@[simp] theorem State.count_cobSram (s : State) (f : FRef) (n : Nat) : (s.count f n).cobSram = s.cobSram := rfl
@[simp] theorem State.count_flash (s : State) (f : FRef) (n : Nat) : (s.count f n).flash = s.flash := rfl
@[simp] theorem State.count_pflash (s : State) (f : FRef) (n : Nat) : (s.count f n).pflash = s.pflash := rfl
@[simp] theorem State.count_outs (s : State) (f : FRef) (n : Nat) : (s.count f n).outs = s.outs := rfl
@[simp] theorem State.count_freeCtr (s : State) (f : FRef) (n : Nat) : (s.count f n).freeCtr = s.freeCtr := rfl
@[simp] theorem State.count_pending (s : State) (f : FRef) (n : Nat) : (s.count f n).pending = s.pending := rfl

/-! ### State.setFifo -/

@[simp] theorem State.setFifo_clk (s : State) (r : FifoRef) (f : Fifo) : (s.setFifo r f).clk = s.clk := rfl
@[simp] theorem State.setFifo_latchPf0 (s : State) (r : FifoRef) (f : Fifo) : (s.setFifo r f).latchPf0 = s.latchPf0 := rfl
@[simp] theorem State.setFifo_latchCob (s : State) (r : FifoRef) (f : Fifo) : (s.setFifo r f).latchCob = s.latchCob := rfl
@[simp] theorem State.setFifo_lace (s : State) (r : FifoRef) (f : Fifo) : (s.setFifo r f).lace = s.lace := rfl
@[simp] theorem State.setFifo_yarn (s : State) (r : FifoRef) (f : Fifo) : (s.setFifo r f).yarn = s.yarn := rfl
@[simp] theorem State.setFifo_mules (s : State) (r : FifoRef) (f : Fifo) : (s.setFifo r f).mules = s.mules := rfl
@[simp] theorem State.setFifo_bob (s : State) (r : FifoRef) (f : Fifo) : (s.setFifo r f).bob = s.bob := rfl
@[simp] theorem State.setFifo_dram (s : State) (r : FifoRef) (f : Fifo) : (s.setFifo r f).dram = s.dram := rfl
@[simp] theorem State.setFifo_net (s : State) (r : FifoRef) (f : Fifo) : (s.setFifo r f).net = s.net := rfl
@[simp] theorem State.setFifo_host (s : State) (r : FifoRef) (f : Fifo) : (s.setFifo r f).host = s.host := rfl
@[simp] theorem State.setFifo_q (s : State) (r : FifoRef) (f : Fifo) : (s.setFifo r f).q = s.q := rfl
@[simp] theorem State.setFifo_eye (s : State) (r : FifoRef) (f : Fifo) : (s.setFifo r f).eye = s.eye := rfl
@[simp] theorem State.setFifo_cipher (s : State) (r : FifoRef) (f : Fifo) : (s.setFifo r f).cipher = s.cipher := rfl
@[simp] theorem State.setFifo_welt (s : State) (r : FifoRef) (f : Fifo) : (s.setFifo r f).welt = s.welt := rfl
@[simp] theorem State.setFifo_cob (s : State) (r : FifoRef) (f : Fifo) : (s.setFifo r f).cob = s.cob := rfl
@[simp] theorem State.setFifo_seam (s : State) (r : FifoRef) (f : Fifo) : (s.setFifo r f).seam = s.seam := rfl
@[simp] theorem State.setFifo_flt (s : State) (r : FifoRef) (f : Fifo) : (s.setFifo r f).flt = s.flt := rfl
@[simp] theorem State.setFifo_pwr (s : State) (r : FifoRef) (f : Fifo) : (s.setFifo r f).pwr = s.pwr := rfl
@[simp] theorem State.setFifo_reports (s : State) (r : FifoRef) (f : Fifo) : (s.setFifo r f).reports = s.reports := rfl
@[simp] theorem State.setFifo_repairs (s : State) (r : FifoRef) (f : Fifo) : (s.setFifo r f).repairs = s.repairs := rfl
@[simp] theorem State.setFifo_mem (s : State) (r : FifoRef) (f : Fifo) : (s.setFifo r f).mem = s.mem := rfl
@[simp] theorem State.setFifo_lmem (s : State) (r : FifoRef) (f : Fifo) : (s.setFifo r f).lmem = s.lmem := rfl
@[simp] theorem State.setFifo_scratch (s : State) (r : FifoRef) (f : Fifo) : (s.setFifo r f).scratch = s.scratch := rfl
@[simp] theorem State.setFifo_cobSram (s : State) (r : FifoRef) (f : Fifo) : (s.setFifo r f).cobSram = s.cobSram := rfl
@[simp] theorem State.setFifo_flash (s : State) (r : FifoRef) (f : Fifo) : (s.setFifo r f).flash = s.flash := rfl
@[simp] theorem State.setFifo_pflash (s : State) (r : FifoRef) (f : Fifo) : (s.setFifo r f).pflash = s.pflash := rfl
@[simp] theorem State.setFifo_outs (s : State) (r : FifoRef) (f : Fifo) : (s.setFifo r f).outs = s.outs := rfl
@[simp] theorem State.setFifo_freeCtr (s : State) (r : FifoRef) (f : Fifo) : (s.setFifo r f).freeCtr = s.freeCtr := rfl
@[simp] theorem State.setFifo_pending (s : State) (r : FifoRef) (f : Fifo) : (s.setFifo r f).pending = s.pending := rfl

/-! ### State.emit -/

@[simp] theorem State.emit_clk (s : State) (o : Out) : (s.emit o).clk = s.clk := rfl
@[simp] theorem State.emit_csr (s : State) (o : Out) : (s.emit o).csr = s.csr := rfl
@[simp] theorem State.emit_latchPf0 (s : State) (o : Out) : (s.emit o).latchPf0 = s.latchPf0 := rfl
@[simp] theorem State.emit_latchCob (s : State) (o : Out) : (s.emit o).latchCob = s.latchCob := rfl
@[simp] theorem State.emit_fifos (s : State) (o : Out) : (s.emit o).fifos = s.fifos := rfl
@[simp] theorem State.emit_lace (s : State) (o : Out) : (s.emit o).lace = s.lace := rfl
@[simp] theorem State.emit_yarn (s : State) (o : Out) : (s.emit o).yarn = s.yarn := rfl
@[simp] theorem State.emit_mules (s : State) (o : Out) : (s.emit o).mules = s.mules := rfl
@[simp] theorem State.emit_bob (s : State) (o : Out) : (s.emit o).bob = s.bob := rfl
@[simp] theorem State.emit_dram (s : State) (o : Out) : (s.emit o).dram = s.dram := rfl
@[simp] theorem State.emit_net (s : State) (o : Out) : (s.emit o).net = s.net := rfl
@[simp] theorem State.emit_host (s : State) (o : Out) : (s.emit o).host = s.host := rfl
@[simp] theorem State.emit_q (s : State) (o : Out) : (s.emit o).q = s.q := rfl
@[simp] theorem State.emit_eye (s : State) (o : Out) : (s.emit o).eye = s.eye := rfl
@[simp] theorem State.emit_cipher (s : State) (o : Out) : (s.emit o).cipher = s.cipher := rfl
@[simp] theorem State.emit_welt (s : State) (o : Out) : (s.emit o).welt = s.welt := rfl
@[simp] theorem State.emit_cob (s : State) (o : Out) : (s.emit o).cob = s.cob := rfl
@[simp] theorem State.emit_seam (s : State) (o : Out) : (s.emit o).seam = s.seam := rfl
@[simp] theorem State.emit_flt (s : State) (o : Out) : (s.emit o).flt = s.flt := rfl
@[simp] theorem State.emit_pwr (s : State) (o : Out) : (s.emit o).pwr = s.pwr := rfl
@[simp] theorem State.emit_reports (s : State) (o : Out) : (s.emit o).reports = s.reports := rfl
@[simp] theorem State.emit_repairs (s : State) (o : Out) : (s.emit o).repairs = s.repairs := rfl
@[simp] theorem State.emit_mem (s : State) (o : Out) : (s.emit o).mem = s.mem := rfl
@[simp] theorem State.emit_lmem (s : State) (o : Out) : (s.emit o).lmem = s.lmem := rfl
@[simp] theorem State.emit_scratch (s : State) (o : Out) : (s.emit o).scratch = s.scratch := rfl
@[simp] theorem State.emit_cobSram (s : State) (o : Out) : (s.emit o).cobSram = s.cobSram := rfl
@[simp] theorem State.emit_flash (s : State) (o : Out) : (s.emit o).flash = s.flash := rfl
@[simp] theorem State.emit_pflash (s : State) (o : Out) : (s.emit o).pflash = s.pflash := rfl
@[simp] theorem State.emit_freeCtr (s : State) (o : Out) : (s.emit o).freeCtr = s.freeCtr := rfl
@[simp] theorem State.emit_pending (s : State) (o : Out) : (s.emit o).pending = s.pending := rfl

/-! ### State.tookFree -/

@[simp] theorem State.tookFree_clk (s : State) : (s.tookFree).clk = s.clk := rfl
@[simp] theorem State.tookFree_csr (s : State) : (s.tookFree).csr = s.csr := rfl
@[simp] theorem State.tookFree_latchPf0 (s : State) : (s.tookFree).latchPf0 = s.latchPf0 := rfl
@[simp] theorem State.tookFree_latchCob (s : State) : (s.tookFree).latchCob = s.latchCob := rfl
@[simp] theorem State.tookFree_fifos (s : State) : (s.tookFree).fifos = s.fifos := rfl
@[simp] theorem State.tookFree_lace (s : State) : (s.tookFree).lace = s.lace := rfl
@[simp] theorem State.tookFree_yarn (s : State) : (s.tookFree).yarn = s.yarn := rfl
@[simp] theorem State.tookFree_mules (s : State) : (s.tookFree).mules = s.mules := rfl
@[simp] theorem State.tookFree_bob (s : State) : (s.tookFree).bob = s.bob := rfl
@[simp] theorem State.tookFree_dram (s : State) : (s.tookFree).dram = s.dram := rfl
@[simp] theorem State.tookFree_net (s : State) : (s.tookFree).net = s.net := rfl
@[simp] theorem State.tookFree_host (s : State) : (s.tookFree).host = s.host := rfl
@[simp] theorem State.tookFree_q (s : State) : (s.tookFree).q = s.q := rfl
@[simp] theorem State.tookFree_eye (s : State) : (s.tookFree).eye = s.eye := rfl
@[simp] theorem State.tookFree_cipher (s : State) : (s.tookFree).cipher = s.cipher := rfl
@[simp] theorem State.tookFree_welt (s : State) : (s.tookFree).welt = s.welt := rfl
@[simp] theorem State.tookFree_cob (s : State) : (s.tookFree).cob = s.cob := rfl
@[simp] theorem State.tookFree_seam (s : State) : (s.tookFree).seam = s.seam := rfl
@[simp] theorem State.tookFree_flt (s : State) : (s.tookFree).flt = s.flt := rfl
@[simp] theorem State.tookFree_pwr (s : State) : (s.tookFree).pwr = s.pwr := rfl
@[simp] theorem State.tookFree_reports (s : State) : (s.tookFree).reports = s.reports := rfl
@[simp] theorem State.tookFree_repairs (s : State) : (s.tookFree).repairs = s.repairs := rfl
@[simp] theorem State.tookFree_mem (s : State) : (s.tookFree).mem = s.mem := rfl
@[simp] theorem State.tookFree_lmem (s : State) : (s.tookFree).lmem = s.lmem := rfl
@[simp] theorem State.tookFree_scratch (s : State) : (s.tookFree).scratch = s.scratch := rfl
@[simp] theorem State.tookFree_cobSram (s : State) : (s.tookFree).cobSram = s.cobSram := rfl
@[simp] theorem State.tookFree_flash (s : State) : (s.tookFree).flash = s.flash := rfl
@[simp] theorem State.tookFree_pflash (s : State) : (s.tookFree).pflash = s.pflash := rfl
@[simp] theorem State.tookFree_outs (s : State) : (s.tookFree).outs = s.outs := rfl
@[simp] theorem State.tookFree_pending (s : State) : (s.tookFree).pending = s.pending := rfl

/-! ### State.devWrite -/

@[simp] theorem State.devWrite_clk (s : State) (a : Nat) (bs : Bytes) : (s.devWrite a bs).clk = s.clk := rfl
@[simp] theorem State.devWrite_csr (s : State) (a : Nat) (bs : Bytes) : (s.devWrite a bs).csr = s.csr := rfl
@[simp] theorem State.devWrite_latchPf0 (s : State) (a : Nat) (bs : Bytes) : (s.devWrite a bs).latchPf0 = s.latchPf0 := rfl
@[simp] theorem State.devWrite_latchCob (s : State) (a : Nat) (bs : Bytes) : (s.devWrite a bs).latchCob = s.latchCob := rfl
@[simp] theorem State.devWrite_fifos (s : State) (a : Nat) (bs : Bytes) : (s.devWrite a bs).fifos = s.fifos := rfl
@[simp] theorem State.devWrite_lace (s : State) (a : Nat) (bs : Bytes) : (s.devWrite a bs).lace = s.lace := rfl
@[simp] theorem State.devWrite_yarn (s : State) (a : Nat) (bs : Bytes) : (s.devWrite a bs).yarn = s.yarn := rfl
@[simp] theorem State.devWrite_mules (s : State) (a : Nat) (bs : Bytes) : (s.devWrite a bs).mules = s.mules := rfl
@[simp] theorem State.devWrite_bob (s : State) (a : Nat) (bs : Bytes) : (s.devWrite a bs).bob = s.bob := rfl
@[simp] theorem State.devWrite_dram (s : State) (a : Nat) (bs : Bytes) : (s.devWrite a bs).dram = s.dram := rfl
@[simp] theorem State.devWrite_net (s : State) (a : Nat) (bs : Bytes) : (s.devWrite a bs).net = s.net := rfl
@[simp] theorem State.devWrite_host (s : State) (a : Nat) (bs : Bytes) : (s.devWrite a bs).host = s.host := rfl
@[simp] theorem State.devWrite_q (s : State) (a : Nat) (bs : Bytes) : (s.devWrite a bs).q = s.q := rfl
@[simp] theorem State.devWrite_eye (s : State) (a : Nat) (bs : Bytes) : (s.devWrite a bs).eye = s.eye := rfl
@[simp] theorem State.devWrite_cipher (s : State) (a : Nat) (bs : Bytes) : (s.devWrite a bs).cipher = s.cipher := rfl
@[simp] theorem State.devWrite_welt (s : State) (a : Nat) (bs : Bytes) : (s.devWrite a bs).welt = s.welt := rfl
@[simp] theorem State.devWrite_cob (s : State) (a : Nat) (bs : Bytes) : (s.devWrite a bs).cob = s.cob := rfl
@[simp] theorem State.devWrite_seam (s : State) (a : Nat) (bs : Bytes) : (s.devWrite a bs).seam = s.seam := rfl
@[simp] theorem State.devWrite_flt (s : State) (a : Nat) (bs : Bytes) : (s.devWrite a bs).flt = s.flt := rfl
@[simp] theorem State.devWrite_pwr (s : State) (a : Nat) (bs : Bytes) : (s.devWrite a bs).pwr = s.pwr := rfl
@[simp] theorem State.devWrite_reports (s : State) (a : Nat) (bs : Bytes) : (s.devWrite a bs).reports = s.reports := rfl
@[simp] theorem State.devWrite_repairs (s : State) (a : Nat) (bs : Bytes) : (s.devWrite a bs).repairs = s.repairs := rfl
@[simp] theorem State.devWrite_lmem (s : State) (a : Nat) (bs : Bytes) : (s.devWrite a bs).lmem = s.lmem := rfl
@[simp] theorem State.devWrite_scratch (s : State) (a : Nat) (bs : Bytes) : (s.devWrite a bs).scratch = s.scratch := rfl
@[simp] theorem State.devWrite_cobSram (s : State) (a : Nat) (bs : Bytes) : (s.devWrite a bs).cobSram = s.cobSram := rfl
@[simp] theorem State.devWrite_flash (s : State) (a : Nat) (bs : Bytes) : (s.devWrite a bs).flash = s.flash := rfl
@[simp] theorem State.devWrite_pflash (s : State) (a : Nat) (bs : Bytes) : (s.devWrite a bs).pflash = s.pflash := rfl
@[simp] theorem State.devWrite_outs (s : State) (a : Nat) (bs : Bytes) : (s.devWrite a bs).outs = s.outs := rfl
@[simp] theorem State.devWrite_freeCtr (s : State) (a : Nat) (bs : Bytes) : (s.devWrite a bs).freeCtr = s.freeCtr := rfl
@[simp] theorem State.devWrite_pending (s : State) (a : Nat) (bs : Bytes) : (s.devWrite a bs).pending = s.pending := rfl

/-! ### State.setThr -/

@[simp] theorem State.setThr_clk (s : State) (t : Nat) (x : Thread) : (s.setThr t x).clk = s.clk := rfl
@[simp] theorem State.setThr_csr (s : State) (t : Nat) (x : Thread) : (s.setThr t x).csr = s.csr := rfl
@[simp] theorem State.setThr_latchPf0 (s : State) (t : Nat) (x : Thread) : (s.setThr t x).latchPf0 = s.latchPf0 := rfl
@[simp] theorem State.setThr_latchCob (s : State) (t : Nat) (x : Thread) : (s.setThr t x).latchCob = s.latchCob := rfl
@[simp] theorem State.setThr_fifos (s : State) (t : Nat) (x : Thread) : (s.setThr t x).fifos = s.fifos := rfl
@[simp] theorem State.setThr_lace (s : State) (t : Nat) (x : Thread) : (s.setThr t x).lace = s.lace := rfl
@[simp] theorem State.setThr_yarn (s : State) (t : Nat) (x : Thread) : (s.setThr t x).yarn = s.yarn := rfl
@[simp] theorem State.setThr_bob (s : State) (t : Nat) (x : Thread) : (s.setThr t x).bob = s.bob := rfl
@[simp] theorem State.setThr_dram (s : State) (t : Nat) (x : Thread) : (s.setThr t x).dram = s.dram := rfl
@[simp] theorem State.setThr_net (s : State) (t : Nat) (x : Thread) : (s.setThr t x).net = s.net := rfl
@[simp] theorem State.setThr_host (s : State) (t : Nat) (x : Thread) : (s.setThr t x).host = s.host := rfl
@[simp] theorem State.setThr_q (s : State) (t : Nat) (x : Thread) : (s.setThr t x).q = s.q := rfl
@[simp] theorem State.setThr_eye (s : State) (t : Nat) (x : Thread) : (s.setThr t x).eye = s.eye := rfl
@[simp] theorem State.setThr_cipher (s : State) (t : Nat) (x : Thread) : (s.setThr t x).cipher = s.cipher := rfl
@[simp] theorem State.setThr_welt (s : State) (t : Nat) (x : Thread) : (s.setThr t x).welt = s.welt := rfl
@[simp] theorem State.setThr_cob (s : State) (t : Nat) (x : Thread) : (s.setThr t x).cob = s.cob := rfl
@[simp] theorem State.setThr_seam (s : State) (t : Nat) (x : Thread) : (s.setThr t x).seam = s.seam := rfl
@[simp] theorem State.setThr_flt (s : State) (t : Nat) (x : Thread) : (s.setThr t x).flt = s.flt := rfl
@[simp] theorem State.setThr_pwr (s : State) (t : Nat) (x : Thread) : (s.setThr t x).pwr = s.pwr := rfl
@[simp] theorem State.setThr_reports (s : State) (t : Nat) (x : Thread) : (s.setThr t x).reports = s.reports := rfl
@[simp] theorem State.setThr_repairs (s : State) (t : Nat) (x : Thread) : (s.setThr t x).repairs = s.repairs := rfl
@[simp] theorem State.setThr_mem (s : State) (t : Nat) (x : Thread) : (s.setThr t x).mem = s.mem := rfl
@[simp] theorem State.setThr_lmem (s : State) (t : Nat) (x : Thread) : (s.setThr t x).lmem = s.lmem := rfl
@[simp] theorem State.setThr_scratch (s : State) (t : Nat) (x : Thread) : (s.setThr t x).scratch = s.scratch := rfl
@[simp] theorem State.setThr_cobSram (s : State) (t : Nat) (x : Thread) : (s.setThr t x).cobSram = s.cobSram := rfl
@[simp] theorem State.setThr_flash (s : State) (t : Nat) (x : Thread) : (s.setThr t x).flash = s.flash := rfl
@[simp] theorem State.setThr_pflash (s : State) (t : Nat) (x : Thread) : (s.setThr t x).pflash = s.pflash := rfl
@[simp] theorem State.setThr_outs (s : State) (t : Nat) (x : Thread) : (s.setThr t x).outs = s.outs := rfl
@[simp] theorem State.setThr_freeCtr (s : State) (t : Nat) (x : Thread) : (s.setThr t x).freeCtr = s.freeCtr := rfl
@[simp] theorem State.setThr_pending (s : State) (t : Nat) (x : Thread) : (s.setThr t x).pending = s.pending := rfl

/-! ### State.modThr -/

@[simp] theorem State.modThr_clk (s : State) (t : Nat) (f : Thread → Thread) : (s.modThr t f).clk = s.clk := rfl
@[simp] theorem State.modThr_csr (s : State) (t : Nat) (f : Thread → Thread) : (s.modThr t f).csr = s.csr := rfl
@[simp] theorem State.modThr_latchPf0 (s : State) (t : Nat) (f : Thread → Thread) : (s.modThr t f).latchPf0 = s.latchPf0 := rfl
@[simp] theorem State.modThr_latchCob (s : State) (t : Nat) (f : Thread → Thread) : (s.modThr t f).latchCob = s.latchCob := rfl
@[simp] theorem State.modThr_fifos (s : State) (t : Nat) (f : Thread → Thread) : (s.modThr t f).fifos = s.fifos := rfl
@[simp] theorem State.modThr_lace (s : State) (t : Nat) (f : Thread → Thread) : (s.modThr t f).lace = s.lace := rfl
@[simp] theorem State.modThr_yarn (s : State) (t : Nat) (f : Thread → Thread) : (s.modThr t f).yarn = s.yarn := rfl
@[simp] theorem State.modThr_bob (s : State) (t : Nat) (f : Thread → Thread) : (s.modThr t f).bob = s.bob := rfl
@[simp] theorem State.modThr_dram (s : State) (t : Nat) (f : Thread → Thread) : (s.modThr t f).dram = s.dram := rfl
@[simp] theorem State.modThr_net (s : State) (t : Nat) (f : Thread → Thread) : (s.modThr t f).net = s.net := rfl
@[simp] theorem State.modThr_host (s : State) (t : Nat) (f : Thread → Thread) : (s.modThr t f).host = s.host := rfl
@[simp] theorem State.modThr_q (s : State) (t : Nat) (f : Thread → Thread) : (s.modThr t f).q = s.q := rfl
@[simp] theorem State.modThr_eye (s : State) (t : Nat) (f : Thread → Thread) : (s.modThr t f).eye = s.eye := rfl
@[simp] theorem State.modThr_cipher (s : State) (t : Nat) (f : Thread → Thread) : (s.modThr t f).cipher = s.cipher := rfl
@[simp] theorem State.modThr_welt (s : State) (t : Nat) (f : Thread → Thread) : (s.modThr t f).welt = s.welt := rfl
@[simp] theorem State.modThr_cob (s : State) (t : Nat) (f : Thread → Thread) : (s.modThr t f).cob = s.cob := rfl
@[simp] theorem State.modThr_seam (s : State) (t : Nat) (f : Thread → Thread) : (s.modThr t f).seam = s.seam := rfl
@[simp] theorem State.modThr_flt (s : State) (t : Nat) (f : Thread → Thread) : (s.modThr t f).flt = s.flt := rfl
@[simp] theorem State.modThr_pwr (s : State) (t : Nat) (f : Thread → Thread) : (s.modThr t f).pwr = s.pwr := rfl
@[simp] theorem State.modThr_reports (s : State) (t : Nat) (f : Thread → Thread) : (s.modThr t f).reports = s.reports := rfl
@[simp] theorem State.modThr_repairs (s : State) (t : Nat) (f : Thread → Thread) : (s.modThr t f).repairs = s.repairs := rfl
@[simp] theorem State.modThr_mem (s : State) (t : Nat) (f : Thread → Thread) : (s.modThr t f).mem = s.mem := rfl
@[simp] theorem State.modThr_lmem (s : State) (t : Nat) (f : Thread → Thread) : (s.modThr t f).lmem = s.lmem := rfl
@[simp] theorem State.modThr_scratch (s : State) (t : Nat) (f : Thread → Thread) : (s.modThr t f).scratch = s.scratch := rfl
@[simp] theorem State.modThr_cobSram (s : State) (t : Nat) (f : Thread → Thread) : (s.modThr t f).cobSram = s.cobSram := rfl
@[simp] theorem State.modThr_flash (s : State) (t : Nat) (f : Thread → Thread) : (s.modThr t f).flash = s.flash := rfl
@[simp] theorem State.modThr_pflash (s : State) (t : Nat) (f : Thread → Thread) : (s.modThr t f).pflash = s.pflash := rfl
@[simp] theorem State.modThr_outs (s : State) (t : Nat) (f : Thread → Thread) : (s.modThr t f).outs = s.outs := rfl
@[simp] theorem State.modThr_freeCtr (s : State) (t : Nat) (f : Thread → Thread) : (s.modThr t f).freeCtr = s.freeCtr := rfl
@[simp] theorem State.modThr_pending (s : State) (t : Nat) (f : Thread → Thread) : (s.modThr t f).pending = s.pending := rfl

/-! ### State.setSpindle -/

@[simp] theorem State.setSpindle_clk (s : State) (p : Nat) (x : Spindle) : (s.setSpindle p x).clk = s.clk := rfl
@[simp] theorem State.setSpindle_csr (s : State) (p : Nat) (x : Spindle) : (s.setSpindle p x).csr = s.csr := rfl
@[simp] theorem State.setSpindle_latchPf0 (s : State) (p : Nat) (x : Spindle) : (s.setSpindle p x).latchPf0 = s.latchPf0 := rfl
@[simp] theorem State.setSpindle_latchCob (s : State) (p : Nat) (x : Spindle) : (s.setSpindle p x).latchCob = s.latchCob := rfl
@[simp] theorem State.setSpindle_fifos (s : State) (p : Nat) (x : Spindle) : (s.setSpindle p x).fifos = s.fifos := rfl
@[simp] theorem State.setSpindle_lace (s : State) (p : Nat) (x : Spindle) : (s.setSpindle p x).lace = s.lace := rfl
@[simp] theorem State.setSpindle_yarn (s : State) (p : Nat) (x : Spindle) : (s.setSpindle p x).yarn = s.yarn := rfl
@[simp] theorem State.setSpindle_bob (s : State) (p : Nat) (x : Spindle) : (s.setSpindle p x).bob = s.bob := rfl
@[simp] theorem State.setSpindle_dram (s : State) (p : Nat) (x : Spindle) : (s.setSpindle p x).dram = s.dram := rfl
@[simp] theorem State.setSpindle_net (s : State) (p : Nat) (x : Spindle) : (s.setSpindle p x).net = s.net := rfl
@[simp] theorem State.setSpindle_host (s : State) (p : Nat) (x : Spindle) : (s.setSpindle p x).host = s.host := rfl
@[simp] theorem State.setSpindle_q (s : State) (p : Nat) (x : Spindle) : (s.setSpindle p x).q = s.q := rfl
@[simp] theorem State.setSpindle_eye (s : State) (p : Nat) (x : Spindle) : (s.setSpindle p x).eye = s.eye := rfl
@[simp] theorem State.setSpindle_cipher (s : State) (p : Nat) (x : Spindle) : (s.setSpindle p x).cipher = s.cipher := rfl
@[simp] theorem State.setSpindle_welt (s : State) (p : Nat) (x : Spindle) : (s.setSpindle p x).welt = s.welt := rfl
@[simp] theorem State.setSpindle_cob (s : State) (p : Nat) (x : Spindle) : (s.setSpindle p x).cob = s.cob := rfl
@[simp] theorem State.setSpindle_seam (s : State) (p : Nat) (x : Spindle) : (s.setSpindle p x).seam = s.seam := rfl
@[simp] theorem State.setSpindle_flt (s : State) (p : Nat) (x : Spindle) : (s.setSpindle p x).flt = s.flt := rfl
@[simp] theorem State.setSpindle_pwr (s : State) (p : Nat) (x : Spindle) : (s.setSpindle p x).pwr = s.pwr := rfl
@[simp] theorem State.setSpindle_reports (s : State) (p : Nat) (x : Spindle) : (s.setSpindle p x).reports = s.reports := rfl
@[simp] theorem State.setSpindle_repairs (s : State) (p : Nat) (x : Spindle) : (s.setSpindle p x).repairs = s.repairs := rfl
@[simp] theorem State.setSpindle_mem (s : State) (p : Nat) (x : Spindle) : (s.setSpindle p x).mem = s.mem := rfl
@[simp] theorem State.setSpindle_lmem (s : State) (p : Nat) (x : Spindle) : (s.setSpindle p x).lmem = s.lmem := rfl
@[simp] theorem State.setSpindle_scratch (s : State) (p : Nat) (x : Spindle) : (s.setSpindle p x).scratch = s.scratch := rfl
@[simp] theorem State.setSpindle_cobSram (s : State) (p : Nat) (x : Spindle) : (s.setSpindle p x).cobSram = s.cobSram := rfl
@[simp] theorem State.setSpindle_flash (s : State) (p : Nat) (x : Spindle) : (s.setSpindle p x).flash = s.flash := rfl
@[simp] theorem State.setSpindle_pflash (s : State) (p : Nat) (x : Spindle) : (s.setSpindle p x).pflash = s.pflash := rfl
@[simp] theorem State.setSpindle_outs (s : State) (p : Nat) (x : Spindle) : (s.setSpindle p x).outs = s.outs := rfl
@[simp] theorem State.setSpindle_freeCtr (s : State) (p : Nat) (x : Spindle) : (s.setSpindle p x).freeCtr = s.freeCtr := rfl
@[simp] theorem State.setSpindle_pending (s : State) (p : Nat) (x : Spindle) : (s.setSpindle p x).pending = s.pending := rfl

/-! ### State.setQueue -/

@[simp] theorem State.setQueue_clk (s : State) (e : Nat) (l : List Msg) : (s.setQueue e l).clk = s.clk := rfl
@[simp] theorem State.setQueue_csr (s : State) (e : Nat) (l : List Msg) : (s.setQueue e l).csr = s.csr := rfl
@[simp] theorem State.setQueue_latchPf0 (s : State) (e : Nat) (l : List Msg) : (s.setQueue e l).latchPf0 = s.latchPf0 := rfl
@[simp] theorem State.setQueue_latchCob (s : State) (e : Nat) (l : List Msg) : (s.setQueue e l).latchCob = s.latchCob := rfl
@[simp] theorem State.setQueue_fifos (s : State) (e : Nat) (l : List Msg) : (s.setQueue e l).fifos = s.fifos := rfl
@[simp] theorem State.setQueue_lace (s : State) (e : Nat) (l : List Msg) : (s.setQueue e l).lace = s.lace := rfl
@[simp] theorem State.setQueue_mules (s : State) (e : Nat) (l : List Msg) : (s.setQueue e l).mules = s.mules := rfl
@[simp] theorem State.setQueue_bob (s : State) (e : Nat) (l : List Msg) : (s.setQueue e l).bob = s.bob := rfl
@[simp] theorem State.setQueue_dram (s : State) (e : Nat) (l : List Msg) : (s.setQueue e l).dram = s.dram := rfl
@[simp] theorem State.setQueue_net (s : State) (e : Nat) (l : List Msg) : (s.setQueue e l).net = s.net := rfl
@[simp] theorem State.setQueue_host (s : State) (e : Nat) (l : List Msg) : (s.setQueue e l).host = s.host := rfl
@[simp] theorem State.setQueue_q (s : State) (e : Nat) (l : List Msg) : (s.setQueue e l).q = s.q := rfl
@[simp] theorem State.setQueue_eye (s : State) (e : Nat) (l : List Msg) : (s.setQueue e l).eye = s.eye := rfl
@[simp] theorem State.setQueue_cipher (s : State) (e : Nat) (l : List Msg) : (s.setQueue e l).cipher = s.cipher := rfl
@[simp] theorem State.setQueue_welt (s : State) (e : Nat) (l : List Msg) : (s.setQueue e l).welt = s.welt := rfl
@[simp] theorem State.setQueue_cob (s : State) (e : Nat) (l : List Msg) : (s.setQueue e l).cob = s.cob := rfl
@[simp] theorem State.setQueue_seam (s : State) (e : Nat) (l : List Msg) : (s.setQueue e l).seam = s.seam := rfl
@[simp] theorem State.setQueue_flt (s : State) (e : Nat) (l : List Msg) : (s.setQueue e l).flt = s.flt := rfl
@[simp] theorem State.setQueue_pwr (s : State) (e : Nat) (l : List Msg) : (s.setQueue e l).pwr = s.pwr := rfl
@[simp] theorem State.setQueue_reports (s : State) (e : Nat) (l : List Msg) : (s.setQueue e l).reports = s.reports := rfl
@[simp] theorem State.setQueue_repairs (s : State) (e : Nat) (l : List Msg) : (s.setQueue e l).repairs = s.repairs := rfl
@[simp] theorem State.setQueue_mem (s : State) (e : Nat) (l : List Msg) : (s.setQueue e l).mem = s.mem := rfl
@[simp] theorem State.setQueue_lmem (s : State) (e : Nat) (l : List Msg) : (s.setQueue e l).lmem = s.lmem := rfl
@[simp] theorem State.setQueue_scratch (s : State) (e : Nat) (l : List Msg) : (s.setQueue e l).scratch = s.scratch := rfl
@[simp] theorem State.setQueue_cobSram (s : State) (e : Nat) (l : List Msg) : (s.setQueue e l).cobSram = s.cobSram := rfl
@[simp] theorem State.setQueue_flash (s : State) (e : Nat) (l : List Msg) : (s.setQueue e l).flash = s.flash := rfl
@[simp] theorem State.setQueue_pflash (s : State) (e : Nat) (l : List Msg) : (s.setQueue e l).pflash = s.pflash := rfl
@[simp] theorem State.setQueue_outs (s : State) (e : Nat) (l : List Msg) : (s.setQueue e l).outs = s.outs := rfl
@[simp] theorem State.setQueue_freeCtr (s : State) (e : Nat) (l : List Msg) : (s.setQueue e l).freeCtr = s.freeCtr := rfl
@[simp] theorem State.setQueue_pending (s : State) (e : Nat) (l : List Msg) : (s.setQueue e l).pending = s.pending := rfl

/-! ### State.setFlights -/

@[simp] theorem State.setFlights_clk (s : State) (l : List Flight) : (s.setFlights l).clk = s.clk := rfl
@[simp] theorem State.setFlights_csr (s : State) (l : List Flight) : (s.setFlights l).csr = s.csr := rfl
@[simp] theorem State.setFlights_latchPf0 (s : State) (l : List Flight) : (s.setFlights l).latchPf0 = s.latchPf0 := rfl
@[simp] theorem State.setFlights_latchCob (s : State) (l : List Flight) : (s.setFlights l).latchCob = s.latchCob := rfl
@[simp] theorem State.setFlights_fifos (s : State) (l : List Flight) : (s.setFlights l).fifos = s.fifos := rfl
@[simp] theorem State.setFlights_lace (s : State) (l : List Flight) : (s.setFlights l).lace = s.lace := rfl
@[simp] theorem State.setFlights_mules (s : State) (l : List Flight) : (s.setFlights l).mules = s.mules := rfl
@[simp] theorem State.setFlights_bob (s : State) (l : List Flight) : (s.setFlights l).bob = s.bob := rfl
@[simp] theorem State.setFlights_dram (s : State) (l : List Flight) : (s.setFlights l).dram = s.dram := rfl
@[simp] theorem State.setFlights_net (s : State) (l : List Flight) : (s.setFlights l).net = s.net := rfl
@[simp] theorem State.setFlights_host (s : State) (l : List Flight) : (s.setFlights l).host = s.host := rfl
@[simp] theorem State.setFlights_q (s : State) (l : List Flight) : (s.setFlights l).q = s.q := rfl
@[simp] theorem State.setFlights_eye (s : State) (l : List Flight) : (s.setFlights l).eye = s.eye := rfl
@[simp] theorem State.setFlights_cipher (s : State) (l : List Flight) : (s.setFlights l).cipher = s.cipher := rfl
@[simp] theorem State.setFlights_welt (s : State) (l : List Flight) : (s.setFlights l).welt = s.welt := rfl
@[simp] theorem State.setFlights_cob (s : State) (l : List Flight) : (s.setFlights l).cob = s.cob := rfl
@[simp] theorem State.setFlights_seam (s : State) (l : List Flight) : (s.setFlights l).seam = s.seam := rfl
@[simp] theorem State.setFlights_flt (s : State) (l : List Flight) : (s.setFlights l).flt = s.flt := rfl
@[simp] theorem State.setFlights_pwr (s : State) (l : List Flight) : (s.setFlights l).pwr = s.pwr := rfl
@[simp] theorem State.setFlights_reports (s : State) (l : List Flight) : (s.setFlights l).reports = s.reports := rfl
@[simp] theorem State.setFlights_repairs (s : State) (l : List Flight) : (s.setFlights l).repairs = s.repairs := rfl
@[simp] theorem State.setFlights_mem (s : State) (l : List Flight) : (s.setFlights l).mem = s.mem := rfl
@[simp] theorem State.setFlights_lmem (s : State) (l : List Flight) : (s.setFlights l).lmem = s.lmem := rfl
@[simp] theorem State.setFlights_scratch (s : State) (l : List Flight) : (s.setFlights l).scratch = s.scratch := rfl
@[simp] theorem State.setFlights_cobSram (s : State) (l : List Flight) : (s.setFlights l).cobSram = s.cobSram := rfl
@[simp] theorem State.setFlights_flash (s : State) (l : List Flight) : (s.setFlights l).flash = s.flash := rfl
@[simp] theorem State.setFlights_pflash (s : State) (l : List Flight) : (s.setFlights l).pflash = s.pflash := rfl
@[simp] theorem State.setFlights_outs (s : State) (l : List Flight) : (s.setFlights l).outs = s.outs := rfl
@[simp] theorem State.setFlights_freeCtr (s : State) (l : List Flight) : (s.setFlights l).freeCtr = s.freeCtr := rfl
@[simp] theorem State.setFlights_pending (s : State) (l : List Flight) : (s.setFlights l).pending = s.pending := rfl

/-! ### State.report -/

@[simp] theorem State.report_clk (s : State) (c p : Nat) : (s.report c p).clk = s.clk := rfl
@[simp] theorem State.report_csr (s : State) (c p : Nat) : (s.report c p).csr = s.csr := rfl
@[simp] theorem State.report_latchPf0 (s : State) (c p : Nat) : (s.report c p).latchPf0 = s.latchPf0 := rfl
@[simp] theorem State.report_latchCob (s : State) (c p : Nat) : (s.report c p).latchCob = s.latchCob := rfl
@[simp] theorem State.report_fifos (s : State) (c p : Nat) : (s.report c p).fifos = s.fifos := rfl
@[simp] theorem State.report_lace (s : State) (c p : Nat) : (s.report c p).lace = s.lace := rfl
@[simp] theorem State.report_yarn (s : State) (c p : Nat) : (s.report c p).yarn = s.yarn := rfl
@[simp] theorem State.report_mules (s : State) (c p : Nat) : (s.report c p).mules = s.mules := rfl
@[simp] theorem State.report_bob (s : State) (c p : Nat) : (s.report c p).bob = s.bob := rfl
@[simp] theorem State.report_dram (s : State) (c p : Nat) : (s.report c p).dram = s.dram := rfl
@[simp] theorem State.report_net (s : State) (c p : Nat) : (s.report c p).net = s.net := rfl
@[simp] theorem State.report_host (s : State) (c p : Nat) : (s.report c p).host = s.host := rfl
@[simp] theorem State.report_q (s : State) (c p : Nat) : (s.report c p).q = s.q := rfl
@[simp] theorem State.report_eye (s : State) (c p : Nat) : (s.report c p).eye = s.eye := rfl
@[simp] theorem State.report_cipher (s : State) (c p : Nat) : (s.report c p).cipher = s.cipher := rfl
@[simp] theorem State.report_welt (s : State) (c p : Nat) : (s.report c p).welt = s.welt := rfl
@[simp] theorem State.report_cob (s : State) (c p : Nat) : (s.report c p).cob = s.cob := rfl
@[simp] theorem State.report_seam (s : State) (c p : Nat) : (s.report c p).seam = s.seam := rfl
@[simp] theorem State.report_flt (s : State) (c p : Nat) : (s.report c p).flt = s.flt := rfl
@[simp] theorem State.report_pwr (s : State) (c p : Nat) : (s.report c p).pwr = s.pwr := rfl
@[simp] theorem State.report_repairs (s : State) (c p : Nat) : (s.report c p).repairs = s.repairs := rfl
@[simp] theorem State.report_mem (s : State) (c p : Nat) : (s.report c p).mem = s.mem := rfl
@[simp] theorem State.report_lmem (s : State) (c p : Nat) : (s.report c p).lmem = s.lmem := rfl
@[simp] theorem State.report_scratch (s : State) (c p : Nat) : (s.report c p).scratch = s.scratch := rfl
@[simp] theorem State.report_cobSram (s : State) (c p : Nat) : (s.report c p).cobSram = s.cobSram := rfl
@[simp] theorem State.report_flash (s : State) (c p : Nat) : (s.report c p).flash = s.flash := rfl
@[simp] theorem State.report_pflash (s : State) (c p : Nat) : (s.report c p).pflash = s.pflash := rfl
@[simp] theorem State.report_outs (s : State) (c p : Nat) : (s.report c p).outs = s.outs := rfl
@[simp] theorem State.report_freeCtr (s : State) (c p : Nat) : (s.report c p).freeCtr = s.freeCtr := rfl
@[simp] theorem State.report_pending (s : State) (c p : Nat) : (s.report c p).pending = s.pending := rfl

/-! ### State.event -/

@[simp] theorem State.event_clk (s : State) (r : FifoRef) (e : Nat) : (s.event r e).clk = s.clk := by
  unfold State.event; dsimp only; split <;> rfl
@[simp] theorem State.event_latchPf0 (s : State) (r : FifoRef) (e : Nat) : (s.event r e).latchPf0 = s.latchPf0 := by
  unfold State.event; dsimp only; split <;> rfl
@[simp] theorem State.event_latchCob (s : State) (r : FifoRef) (e : Nat) : (s.event r e).latchCob = s.latchCob := by
  unfold State.event; dsimp only; split <;> rfl
@[simp] theorem State.event_lace (s : State) (r : FifoRef) (e : Nat) : (s.event r e).lace = s.lace := by
  unfold State.event; dsimp only; split <;> rfl
@[simp] theorem State.event_yarn (s : State) (r : FifoRef) (e : Nat) : (s.event r e).yarn = s.yarn := by
  unfold State.event; dsimp only; split <;> rfl
@[simp] theorem State.event_mules (s : State) (r : FifoRef) (e : Nat) : (s.event r e).mules = s.mules := by
  unfold State.event; dsimp only; split <;> rfl
@[simp] theorem State.event_bob (s : State) (r : FifoRef) (e : Nat) : (s.event r e).bob = s.bob := by
  unfold State.event; dsimp only; split <;> rfl
@[simp] theorem State.event_dram (s : State) (r : FifoRef) (e : Nat) : (s.event r e).dram = s.dram := by
  unfold State.event; dsimp only; split <;> rfl
@[simp] theorem State.event_net (s : State) (r : FifoRef) (e : Nat) : (s.event r e).net = s.net := by
  unfold State.event; dsimp only; split <;> rfl
@[simp] theorem State.event_host (s : State) (r : FifoRef) (e : Nat) : (s.event r e).host = s.host := by
  unfold State.event; dsimp only; split <;> rfl
@[simp] theorem State.event_q (s : State) (r : FifoRef) (e : Nat) : (s.event r e).q = s.q := by
  unfold State.event; dsimp only; split <;> rfl
@[simp] theorem State.event_eye (s : State) (r : FifoRef) (e : Nat) : (s.event r e).eye = s.eye := by
  unfold State.event; dsimp only; split <;> rfl
@[simp] theorem State.event_cipher (s : State) (r : FifoRef) (e : Nat) : (s.event r e).cipher = s.cipher := by
  unfold State.event; dsimp only; split <;> rfl
@[simp] theorem State.event_welt (s : State) (r : FifoRef) (e : Nat) : (s.event r e).welt = s.welt := by
  unfold State.event; dsimp only; split <;> rfl
@[simp] theorem State.event_cob (s : State) (r : FifoRef) (e : Nat) : (s.event r e).cob = s.cob := by
  unfold State.event; dsimp only; split <;> rfl
@[simp] theorem State.event_seam (s : State) (r : FifoRef) (e : Nat) : (s.event r e).seam = s.seam := by
  unfold State.event; dsimp only; split <;> rfl
@[simp] theorem State.event_flt (s : State) (r : FifoRef) (e : Nat) : (s.event r e).flt = s.flt := by
  unfold State.event; dsimp only; split <;> rfl
@[simp] theorem State.event_pwr (s : State) (r : FifoRef) (e : Nat) : (s.event r e).pwr = s.pwr := by
  unfold State.event; dsimp only; split <;> rfl
@[simp] theorem State.event_reports (s : State) (r : FifoRef) (e : Nat) : (s.event r e).reports = s.reports := by
  unfold State.event; dsimp only; split <;> rfl
@[simp] theorem State.event_repairs (s : State) (r : FifoRef) (e : Nat) : (s.event r e).repairs = s.repairs := by
  unfold State.event; dsimp only; split <;> rfl
@[simp] theorem State.event_mem (s : State) (r : FifoRef) (e : Nat) : (s.event r e).mem = s.mem := by
  unfold State.event; dsimp only; split <;> rfl
@[simp] theorem State.event_lmem (s : State) (r : FifoRef) (e : Nat) : (s.event r e).lmem = s.lmem := by
  unfold State.event; dsimp only; split <;> rfl
@[simp] theorem State.event_scratch (s : State) (r : FifoRef) (e : Nat) : (s.event r e).scratch = s.scratch := by
  unfold State.event; dsimp only; split <;> rfl
@[simp] theorem State.event_cobSram (s : State) (r : FifoRef) (e : Nat) : (s.event r e).cobSram = s.cobSram := by
  unfold State.event; dsimp only; split <;> rfl
@[simp] theorem State.event_flash (s : State) (r : FifoRef) (e : Nat) : (s.event r e).flash = s.flash := by
  unfold State.event; dsimp only; split <;> rfl
@[simp] theorem State.event_pflash (s : State) (r : FifoRef) (e : Nat) : (s.event r e).pflash = s.pflash := by
  unfold State.event; dsimp only; split <;> rfl
@[simp] theorem State.event_outs (s : State) (r : FifoRef) (e : Nat) : (s.event r e).outs = s.outs := by
  unfold State.event; dsimp only; split <;> rfl
@[simp] theorem State.event_freeCtr (s : State) (r : FifoRef) (e : Nat) : (s.event r e).freeCtr = s.freeCtr := by
  unfold State.event; dsimp only; split <;> rfl
@[simp] theorem State.event_pending (s : State) (r : FifoRef) (e : Nat) : (s.event r e).pending = s.pending := by
  unfold State.event; dsimp only; split <;> rfl

/-! ### State.setTs -/

@[simp] theorem State.setTs_clk (s : State) (t v : Nat) : (s.setTs t v).clk = s.clk := by
  unfold State.setTs; split <;> rfl
@[simp] theorem State.setTs_latchPf0 (s : State) (t v : Nat) : (s.setTs t v).latchPf0 = s.latchPf0 := by
  unfold State.setTs; split <;> rfl
@[simp] theorem State.setTs_latchCob (s : State) (t v : Nat) : (s.setTs t v).latchCob = s.latchCob := by
  unfold State.setTs; split <;> rfl
@[simp] theorem State.setTs_fifos (s : State) (t v : Nat) : (s.setTs t v).fifos = s.fifos := by
  unfold State.setTs; split <;> rfl
@[simp] theorem State.setTs_lace (s : State) (t v : Nat) : (s.setTs t v).lace = s.lace := by
  unfold State.setTs; split <;> rfl
@[simp] theorem State.setTs_yarn (s : State) (t v : Nat) : (s.setTs t v).yarn = s.yarn := by
  unfold State.setTs; split <;> rfl
@[simp] theorem State.setTs_mules (s : State) (t v : Nat) : (s.setTs t v).mules = s.mules := by
  unfold State.setTs; split <;> rfl
@[simp] theorem State.setTs_bob (s : State) (t v : Nat) : (s.setTs t v).bob = s.bob := by
  unfold State.setTs; split <;> rfl
@[simp] theorem State.setTs_dram (s : State) (t v : Nat) : (s.setTs t v).dram = s.dram := by
  unfold State.setTs; split <;> rfl
@[simp] theorem State.setTs_net (s : State) (t v : Nat) : (s.setTs t v).net = s.net := by
  unfold State.setTs; split <;> rfl
@[simp] theorem State.setTs_host (s : State) (t v : Nat) : (s.setTs t v).host = s.host := by
  unfold State.setTs; split <;> rfl
@[simp] theorem State.setTs_q (s : State) (t v : Nat) : (s.setTs t v).q = s.q := by
  unfold State.setTs; split <;> rfl
@[simp] theorem State.setTs_eye (s : State) (t v : Nat) : (s.setTs t v).eye = s.eye := by
  unfold State.setTs; split <;> rfl
@[simp] theorem State.setTs_cipher (s : State) (t v : Nat) : (s.setTs t v).cipher = s.cipher := by
  unfold State.setTs; split <;> rfl
@[simp] theorem State.setTs_welt (s : State) (t v : Nat) : (s.setTs t v).welt = s.welt := by
  unfold State.setTs; split <;> rfl
@[simp] theorem State.setTs_cob (s : State) (t v : Nat) : (s.setTs t v).cob = s.cob := by
  unfold State.setTs; split <;> rfl
@[simp] theorem State.setTs_seam (s : State) (t v : Nat) : (s.setTs t v).seam = s.seam := by
  unfold State.setTs; split <;> rfl
@[simp] theorem State.setTs_flt (s : State) (t v : Nat) : (s.setTs t v).flt = s.flt := by
  unfold State.setTs; split <;> rfl
@[simp] theorem State.setTs_pwr (s : State) (t v : Nat) : (s.setTs t v).pwr = s.pwr := by
  unfold State.setTs; split <;> rfl
@[simp] theorem State.setTs_reports (s : State) (t v : Nat) : (s.setTs t v).reports = s.reports := by
  unfold State.setTs; split <;> rfl
@[simp] theorem State.setTs_repairs (s : State) (t v : Nat) : (s.setTs t v).repairs = s.repairs := by
  unfold State.setTs; split <;> rfl
@[simp] theorem State.setTs_mem (s : State) (t v : Nat) : (s.setTs t v).mem = s.mem := by
  unfold State.setTs; split <;> rfl
@[simp] theorem State.setTs_lmem (s : State) (t v : Nat) : (s.setTs t v).lmem = s.lmem := by
  unfold State.setTs; split <;> rfl
@[simp] theorem State.setTs_scratch (s : State) (t v : Nat) : (s.setTs t v).scratch = s.scratch := by
  unfold State.setTs; split <;> rfl
@[simp] theorem State.setTs_cobSram (s : State) (t v : Nat) : (s.setTs t v).cobSram = s.cobSram := by
  unfold State.setTs; split <;> rfl
@[simp] theorem State.setTs_flash (s : State) (t v : Nat) : (s.setTs t v).flash = s.flash := by
  unfold State.setTs; split <;> rfl
@[simp] theorem State.setTs_pflash (s : State) (t v : Nat) : (s.setTs t v).pflash = s.pflash := by
  unfold State.setTs; split <;> rfl
@[simp] theorem State.setTs_outs (s : State) (t v : Nat) : (s.setTs t v).outs = s.outs := by
  unfold State.setTs; split <;> rfl
@[simp] theorem State.setTs_freeCtr (s : State) (t v : Nat) : (s.setTs t v).freeCtr = s.freeCtr := by
  unfold State.setTs; split <;> rfl
@[simp] theorem State.setTs_pending (s : State) (t v : Nat) : (s.setTs t v).pending = s.pending := by
  unfold State.setTs; split <;> rfl

end Sys2Proof.Machine
end

