-- ==== Sys2Proof/Laws/Regs.lean ====
section
/-! SUPPORT. Laws of the register file: a field reads as it was last set, and setting it leaves the other fields and registers. -/

namespace Sys2Proof.Machine

theorem bitsOf_testBit (w hi lo i : Nat) : (bitsOf w hi lo).testBit i = (decide (i < hi + 1 - lo) && w.testBit (lo + i)) := by
  simp [bitsOf, Nat.testBit_mod_two_pow, Nat.testBit_shiftRight]

theorem setBits_testBit (w hi lo v i : Nat) :
    (setBits w hi lo v).testBit i =
      if lo ≤ i ∧ i < lo + (hi + 1 - lo) then v.testBit (i - lo) else w.testBit i := by
  simp only [setBits, Nat.testBit_or, Nat.testBit_xor, Nat.testBit_shiftLeft, bitsOf_testBit, Nat.testBit_mod_two_pow]
  by_cases h1 : lo ≤ i
  · by_cases h2 : i - lo < hi + 1 - lo
    · have : lo + (i - lo) = i := by omega
      simp [h1, h2, this, show i < lo + (hi + 1 - lo) by omega]
    · simp [h1, h2, show ¬ i < lo + (hi + 1 - lo) by omega]
  · simp [h1]

/-- A field of a word reads as it was set. -/
theorem bitsOf_setBits_same (w hi lo v : Nat) : bitsOf (setBits w hi lo v) hi lo = v % 2 ^ (hi + 1 - lo) := by
  apply Nat.eq_of_testBit_eq
  intro i
  rw [bitsOf_testBit, setBits_testBit, Nat.testBit_mod_two_pow]
  by_cases h : i < hi + 1 - lo
  · simp [h, show lo ≤ lo + i ∧ lo + i < lo + (hi + 1 - lo) by omega]
  · simp [h]

/-- Setting a field leaves the fields above and below it. -/
theorem bitsOf_setBits_other (w hi lo v h l : Nat) (hd : h < lo ∨ hi < l) : bitsOf (setBits w hi lo v) h l = bitsOf w h l := by
  apply Nat.eq_of_testBit_eq
  intro i
  rw [bitsOf_testBit, bitsOf_testBit, setBits_testBit]
  by_cases hi' : i < h + 1 - l
  · rw [if_neg (by omega)]
  · simp [hi']

theorem setBits_lt (w hi lo v : Nat) (hw : w < 2 ^ 64) (hh : hi < 64) : setBits w hi lo v < 2 ^ 64 := by
  apply Nat.lt_pow_two_of_testBit
  intro i hi'
  rw [setBits_testBit]
  split
  · omega
  · exact Nat.testBit_lt_two_pow (lt_of_lt_of_le hw (Nat.pow_le_pow_right (by decide) hi'))

@[simp] theorem State.word_setWord_same (s : State) (a v : Nat) : (s.setWord a v).word a = v % 2 ^ 64 := by
  simp [State.word, State.setWord, AMap.getD_setD_same]

theorem State.word_setWord_other (s : State) (a b v : Nat) (h : b ≠ a) : (s.setWord a v).word b = s.word b := by
  simp [State.word, State.setWord, AMap.getD_setD_other _ _ _ _ _ _ h]

theorem State.word_lt (s : State) (a : Nat) : s.word a < 2 ^ 64 := (AMap.getD s.csr a (resetVal a)).isLt

/-- The register of a field after the field is set. -/
theorem State.word_wr (s : State) (f : FRef) (v : Nat) (h : f.hi < 64) : (s.wr f v).word f.addr = setBits (s.word f.addr) f.hi f.lo v := by
  rw [State.wr, State.word_setWord_same, Nat.mod_eq_of_lt (setBits_lt _ _ _ _ (s.word_lt _) h)]

/-- A field reads as it was last set. -/
theorem State.rd_wr_same (s : State) (f : FRef) (v : Nat) (h : f.hi < 64) : (s.wr f v).rd f = v % 2 ^ f.bits := by
  rw [State.rd, State.word_wr s f v h, bitsOf_setBits_same]; rfl

/-- Setting a field leaves every register but its own. -/
theorem State.rd_wr_addr (s : State) (f g : FRef) (v : Nat) (h : g.addr ≠ f.addr) : (s.wr f v).rd g = s.rd g := by
  simp [State.rd, State.wr, State.word_setWord_other _ _ _ _ h]

/-- Setting a field leaves the other fields of its register. -/
theorem State.rd_wr_field (s : State) (f g : FRef) (v : Nat) (hf : f.hi < 64) (ha : g.addr = f.addr) (hd : g.hi < f.lo ∨ f.hi < g.lo) :
    (s.wr f v).rd g = s.rd g := by
  rw [State.rd, State.rd, ha, State.word_wr s f v hf, bitsOf_setBits_other _ _ _ _ _ _ hd]

/-- A field that setting another leaves: another register, or other bits of the same. -/
def FRef.apart (f g : FRef) : Bool := (g.addr != f.addr) || decide (g.hi < f.lo) || decide (f.hi < g.lo)

theorem State.rd_wr_apart (s : State) (f g : FRef) (v : Nat) (hf : f.hi < 64) (h : f.apart g = true) : (s.wr f v).rd g = s.rd g := by
  by_cases ha : g.addr = f.addr
  · simp [FRef.apart, ha] at h; exact s.rd_wr_field f g v hf ha h
  · exact s.rd_wr_addr f g v ha

theorem State.rd_lt (s : State) (f : FRef) : s.rd f < 2 ^ f.bits := Nat.mod_lt _ (Nat.two_pow_pos _)

/-- A counter rises and saturates. -/
theorem State.rd_count_same (s : State) (f : FRef) (n : Nat) (h : f.hi < 64) :
    (s.count f n).rd f = min (s.rd f + n) (2 ^ f.bits - 1) := by
  rw [State.count, State.rd_wr_same _ _ _ h, Nat.mod_eq_of_lt]
  have := Nat.two_pow_pos f.bits
  omega

theorem State.rd_count_apart (s : State) (f g : FRef) (n : Nat) (hf : f.hi < 64) (h : f.apart g = true) : (s.count f n).rd g = s.rd g :=
  s.rd_wr_apart f g _ hf h

/-- An update that leaves the register file leaves every field. -/
theorem State.rd_congr {s t : State} (h : t.csr = s.csr) (f : FRef) : t.rd f = s.rd f := by simp [State.rd, State.word, h]

@[simp] theorem State.thr_setThr_same (s : State) (t : Nat) (x : Thread) : (s.setThr t x).thr t = x := by
  simp [State.thr, State.setThr, AMap.getD_setD_same]

theorem State.thr_setThr_other (s : State) (t u : Nat) (x : Thread) (h : u ≠ t) : (s.setThr t x).thr u = s.thr u := by
  simp [State.thr, State.setThr, AMap.getD_setD_other _ _ _ _ _ _ h]

@[simp] theorem State.thr_modThr_same (s : State) (t : Nat) (f : Thread → Thread) : (s.modThr t f).thr t = f (s.thr t) := by
  simp [State.modThr]

theorem State.thr_modThr_other (s : State) (t u : Nat) (f : Thread → Thread) (h : u ≠ t) : (s.modThr t f).thr u = s.thr u := by
  simp [State.modThr, State.thr_setThr_other _ _ _ _ h]

/-- g0 reads zero. -/
@[simp] theorem Thread.g_zero (x : Thread) : x.g 0 = 0 := rfl

/-- A write of g0 is discarded. -/
@[simp] theorem Thread.setG_zero (x : Thread) (v : W64) : x.setG 0 v = x := rfl

theorem Thread.g_setG_same (x : Thread) (r : Nat) (v : W64) (h : r ≠ 0) : (x.setG r v).g r = v := by
  simp [Thread.g, Thread.setG, h, AMap.getD_setD_same]

theorem Thread.g_setG_other (x : Thread) (r k : Nat) (v : W64) (h : k ≠ r) : (x.setG r v).g k = x.g k := by
  by_cases hr : r = 0
  · simp [Thread.setG, hr]
  · simp only [Thread.g, Thread.setG, hr, if_false]
    split
    · rfl
    · rw [AMap.getD_setD_other _ _ _ _ _ _ h]

end Sys2Proof.Machine
end

