-- ==== Sys2Proof/Laws/Issue.lean ====
section
/-! SUPPORT. Laws of the issue cycle: using a slot changes no register of the part and of the thread only its count of slots,
so that an instruction that may issue is performed. -/

namespace Sys2Proof.Machine

open Sys2Proof

@[simp] theorem State.takeSlot_csr (s : State) (tid : Nat) : (s.takeSlot tid).csr = s.csr := by
  unfold State.takeSlot; split <;> rfl

@[simp] theorem State.takeSlot_clk (s : State) (tid : Nat) : (s.takeSlot tid).clk = s.clk := by
  unfold State.takeSlot; split <;> rfl

@[simp] theorem State.takeSlot_yarn (s : State) (tid : Nat) : (s.takeSlot tid).yarn = s.yarn := by
  unfold State.takeSlot; split <;> rfl

@[simp] theorem State.takeSlot_thr (s : State) (tid u : Nat) : (s.takeSlot tid).thr u = s.thr u := by
  unfold State.takeSlot; split <;> rfl

@[simp] theorem State.takeSlot_rd (s : State) (tid : Nat) (f : FRef) : (s.takeSlot tid).rd f = s.rd f := State.rd_congr (s.takeSlot_csr tid) f

@[simp] theorem State.takeSlot_ts (s : State) (tid u : Nat) : (s.takeSlot tid).ts u = s.ts u := by simp [State.ts]

@[simp] theorem State.takeSlot_role (s : State) (tid sp : Nat) : (s.takeSlot tid).role sp = s.role sp := s.takeSlot_rd tid (roleF sp)
@[simp] theorem State.takeSlot_bounded (s : State) (tid u : Nat) : (s.takeSlot tid).bounded u = s.bounded u := by
  rw [State.bounded, State.bounded, State.takeSlot_role]

theorem State.takeSlot_overDue (s : State) (tid u : Nat) : (s.takeSlot tid).overDue u = s.overDue u := by simp [State.overDue]

theorem State.takeSlot_runs (s : State) (tid u : Nat) : (s.takeSlot tid).runs u = s.runs u := by simp [State.runs]

/-- A halt that is not due without the slot is not due with it. -/
theorem State.takeSlot_haltDue (s : State) (tid u : Nat) (h : s.haltDue u = none) : (s.takeSlot tid).haltDue u = none := by
  rw [State.haltDue] at h ⊢
  rw [State.takeSlot_thr, State.takeSlot_clk]
  cases hq : (s.thr u).haltReq with
  | none => rfl
  | some q =>
    obtain ⟨b, a⟩ := q
    simp only [hq] at h ⊢
    cases b
    · by_cases h1 : (s.thr u).holdsResv = false
      · simp [h1] at h
      · by_cases h2 : a + 64 ≤ s.clk.cycles
        · simp [h1, h2] at h
        · simp [h1, h2]
    · simp at h

@[simp] theorem State.countSlot_csr (s : State) (tid : Nat) : (s.countSlot tid).csr = s.csr := by
  unfold State.countSlot; split <;> rfl

@[simp] theorem State.countSlot_clk (s : State) (tid : Nat) : (s.countSlot tid).clk = s.clk := by
  unfold State.countSlot; split <;> rfl

@[simp] theorem State.countSlot_yarn (s : State) (tid : Nat) : (s.countSlot tid).yarn = s.yarn := by
  unfold State.countSlot; split <;> rfl

@[simp] theorem State.countSlot_rd (s : State) (tid : Nat) (f : FRef) : (s.countSlot tid).rd f = s.rd f :=
  State.rd_congr (s.countSlot_csr tid) f

/-- The thread's record after its slot is counted. -/
theorem State.countSlot_thr_same (s : State) (tid : Nat) :
    (s.countSlot tid).thr tid = if s.bounded tid then { s.thr tid with slots := (s.thr tid).slots + 1 } else s.thr tid := by
  unfold State.countSlot; split <;> simp

theorem State.countSlot_thr_other (s : State) (tid u : Nat) (h : u ≠ tid) : (s.countSlot tid).thr u = s.thr u := by
  unfold State.countSlot; split
  · exact s.thr_modThr_other tid u _ h
  · rfl

@[simp] theorem State.spent_csr (s : State) (tid : Nat) : (s.spent tid).csr = s.csr := by simp [State.spent]
@[simp] theorem State.spent_clk (s : State) (tid : Nat) : (s.spent tid).clk = s.clk := by simp [State.spent]
@[simp] theorem State.spent_yarn (s : State) (tid : Nat) : (s.spent tid).yarn = s.yarn := by simp [State.spent]
@[simp] theorem State.spent_rd (s : State) (tid : Nat) (f : FRef) : (s.spent tid).rd f = s.rd f := by simp [State.spent]
@[simp] theorem State.spent_ts (s : State) (tid u : Nat) : (s.spent tid).ts u = s.ts u := by simp [State.ts]
@[simp] theorem State.spent_role (s : State) (tid sp : Nat) : (s.spent tid).role sp = s.role sp := s.spent_rd tid (roleF sp)
@[simp] theorem State.spent_bounded (s : State) (tid u : Nat) : (s.spent tid).bounded u = s.bounded u := by
  rw [State.bounded, State.bounded, State.spent_role]
@[simp] theorem State.spent_ctxOf (s : State) (tid u : Nat) : (s.spent tid).ctxOf u = s.ctxOf u := by simp [State.ctxOf]

/-- The thread's record after its slot is used. -/
theorem State.spent_thr_same (s : State) (tid : Nat) :
    (s.spent tid).thr tid = if s.bounded tid then { s.thr tid with slots := (s.thr tid).slots + 1 } else s.thr tid := by
  simp [State.spent, State.countSlot_thr_same]

theorem State.spent_thr_other (s : State) (tid u : Nat) (h : u ≠ tid) : (s.spent tid).thr u = s.thr u := by
  simp [State.spent, State.countSlot_thr_other _ _ _ h]

@[simp] theorem State.spent_pc (s : State) (tid : Nat) : ((s.spent tid).thr tid).pc = (s.thr tid).pc := by
  rw [State.spent_thr_same]; split <;> rfl

@[simp] theorem State.spent_loops (s : State) (tid : Nat) : ((s.spent tid).thr tid).loops = (s.thr tid).loops := by
  rw [State.spent_thr_same]; split <;> rfl

/-- Registers read the same in the slot. -/
@[simp] theorem State.spent_reg (s : State) (tid : Nat) (r : Reg) : (s.spent tid).reg tid r = s.reg tid r := by
  rw [State.reg, State.reg, State.spent_thr_same]; split <;> rfl

@[simp] theorem State.spent_blocked (s : State) (tid : Nat) : (s.spent tid).blocked tid = s.blocked tid := by
  simp only [State.blocked, State.spent_clk, State.spent_thr_same]
  split <;> rfl

/-- A ready instruction's thread is not held back. -/
theorem State.ready_unblocked {s : State} {tid : Nat} {i : Ob} (h : s.ready tid i = true) : s.blocked tid = false := by
  simp only [State.ready, Bool.and_eq_true, Bool.not_eq_true'] at h
  exact h.1.1.1.1

/-- Readiness is the same in the slot. -/
theorem State.spent_ready (s : State) (tid : Nat) (i : Ob) : (s.spent tid).ready tid i = s.ready tid i := by
  simp only [State.ready, State.yarnsOut, State.spent_blocked, State.spent_yarn, State.spent_thr_same]
  split <;> rfl

/-- An instruction that may issue is performed in its slot. -/
theorem State.issueIn_of_mayIssue (s : State) (tid : Nat) (w : W32) (i : Ob) (h : s.MayIssue tid i) (hw : decodeOb w = .ok i) :
    s.issueIn tid (some w) = ((s.spent tid).complete tid w ((s.spent tid).perform tid i)).2 := by
  have hr : (s.takeSlot tid).runs tid = true := by rw [State.takeSlot_runs]; exact h.run
  have hts : (s.takeSlot tid).ts tid ≠ tsHalt := by
    have := h.run
    simp only [State.runs, Bool.and_eq_true, beq_iff_eq] at this
    rw [State.takeSlot_ts, this.1.1]; decide
  have hrd := h.ready
  rw [← State.spent_ready] at hrd
  have hb := State.ready_unblocked hrd
  simp only [State.issueIn, h.slot, hts, hr, State.takeSlot_haltDue s tid tid h.noHalt, State.takeSlot_overDue, h.budget, if_false,
    Bool.true_eq_false, Bool.false_eq_true, State.issueWord, hw]
  rw [show (State.countSlot (s.takeSlot tid) tid) = s.spent tid from rfl, hb, if_neg Bool.false_ne_true]
  show (State.issueOb (s.spent tid) tid w i).2 = _
  simp only [State.issueOb, hrd, State.spent_pc, h.body, State.spent_ctxOf, h.context, if_false, Bool.true_eq_false, Bool.false_eq_true]

/-- An instruction that writes a register. -/
theorem State.issueIn_wrote (s : State) (tid : Nat) (i : Ob) (rd : Reg) (v : W64) (h : s.MayIssue tid i)
    (hw : decodeOb (encodeOb i) = .ok i) (hp : (s.spent tid).perform tid i = (s.spent tid).toReg tid rd v) :
    s.issueIn tid (some (encodeOb i)) = s.wrote tid rd v := by
  rw [s.issueIn_of_mayIssue tid _ i h hw, hp]; rfl

end Sys2Proof.Machine
end

