-- ==== Sys2Proof/Tests/Slice0.lean ====
section
/-! SUPPORT. Tests. Each checks one step, or one decoding, against numbers worked out from the chapters, and shows for a
statement of the obligations that a concrete state meets its hypotheses. -/

namespace Sys2Proof.Tests

open Sys2Proof Sys2Proof.Machine

set_option Elab.async false

/-- The command answers a next state, of which `p` holds. -/
def okAfter (c : Instr) (s : State) (p : State → Bool) : Bool :=
  match exec c s with
  | .next t => p t
  | _ => false

/-- The state a command leads to, as a starting point of a test. -/
def after (c : Instr) (s : State) : State :=
  match exec c s with
  | .next t => t
  | _ => s

/-- The command changes nothing. -/
def noEffect (c : Instr) (s : State) : Bool := okAfter c s (fun t => decide (t = s))

/-- The state after reset with the output gate open. -/
def opened : State :=
  let s := State.reset.wr F.COBBLER_BOOT_STATUS.GATE_OPEN 1
  { s with cob := { s.cob with boot := { s.cob.boot with stage := .opened } } }

/-- A state at a cycle of the core clock. -/
def atCycle (s : State) (n : Nat) : State := { s with clk := { s.clk with cycles := n } }

/-- A state at a time in units of 125 ps. -/
def atTime (s : State) (n : Nat) : State := { s with clk := { s.clk with time := n } }


/-! ### Well-formedness -/

theorem test_wf_accepts : ([.hostReset 1 false, .threadIssueCycle 767, .threadIssueCycle 1024, .add 6143 1 2 3, .add 8192 1 2 3, .frameReceived 15 [] 0 0, .presenceDetect 15, .resyncDone 17, .deadlock 767,
    .fetchComplete 65535, .flr 4099, .serviceUnitBoundary 2 543 false, .bfx 9 1 2 0 63, .loop 9 1 1, .stitchBoundary] : List Instr).all wellFormed = true := by decide +kernel
theorem test_wf_half : wellFormed (.hostReset 2 false) = false := by decide +kernel
theorem test_wf_issuer : wellFormed (.threadIssueCycle 768) = false ∧ wellFormed (.threadIssueCycle 1025) = false := by decide +kernel
theorem test_wf_thread : wellFormed (.add 6144 1 2 3) = false ∧ wellFormed (.add 8193 1 2 3) = false := by decide +kernel
theorem test_wf_port : wellFormed (.frameReceived 16 [] 0 0) = false := by decide +kernel
theorem test_wf_link : wellFormed (.presenceDetect 16) = false := by decide +kernel
theorem test_wf_channel : wellFormed (.resyncDone 18) = false ∧ wellFormed (.dramBurst 0 2) = false := by decide +kernel
theorem test_wf_spindle : wellFormed (.deadlock 768) = false := by decide +kernel
theorem test_wf_mule : wellFormed (.scratchAccessPerform 48 0) = false ∧ wellFormed (.scratchAccessPerform 0 16) = false := by decide +kernel
theorem test_wf_queue : wellFormed (.fetchComplete 65536) = false := by decide +kernel
theorem test_wf_function : wellFormed (.flr 4100) = false := by decide +kernel
theorem test_wf_unit : wellFormed (.serviceUnitBoundary 0 10 false) = false ∧ wellFormed (.serviceUnitBoundary 1 2 false) = false ∧ wellFormed (.serviceUnitBoundary 3 36 false) = false ∧ wellFormed (.serviceUnitBoundary 6 0 false) = false := by decide +kernel
theorem test_wf_field : wellFormed (.bfx 9 1 2 1 63) = false ∧ wellFormed (.bfi 9 1 2 63 1) = false := by decide +kernel
theorem test_wf_body : wellFormed (.loop 9 0 1) = false ∧ wellFormed (.loop 9 1 0) = false ∧ wellFormed (.loopr 9 1 0) = false := by decide +kernel
/-- 17 row bits, 64 column units, 2 ranks of 16 banks hold 16 GiB in units of 64 bytes. -/
theorem test_wf_geometry : wellFormed (.dramTrainingDone [] 1 17 6 16) = true ∧ wellFormed (.dramTrainingDone [] 1 17 6 17) = false ∧ wellFormed (.dramTrainingDone [] 2 16 6 8) = false := by decide +kernel
theorem test_wf_rest : wellFormed (.rdctr 9 1 6) = false ∧ wellFormed (.lookupResult 9 4) = false ∧ wellFormed (.roleChangeRequest 0 8 false) = false ∧ wellFormed (.vfEnableWrite 4 true 1) = false ∧ wellFormed (.cardAdmission 10) = false ∧
    wellFormed (.cipherJobStart 544) = false ∧ wellFormed (.errorReport 8 0 0 false none) = false ∧ wellFormed (.domainOffDone 63) = false ∧ wellFormed (.winCommit 4) = false ∧ wellFormed (.flitReplay 0 18) = false := by decide +kernel
theorem test_decode_none : decodeTableWord 32 0 = none ∧ (State.reset.withFetchWord 32 0).pending = [] := by decide +kernel
/-! ### The queue, the CSR space and the stitch (chapters 00 and 01) -/

theorem test_step_front : step { State.reset with pending := [.turnStart, .stitchBoundary] } =
    exec .turnStart { State.reset with pending := [.stitchBoundary] } := rfl
theorem test_step_idle : (match step State.reset with | .next t => t.clk == ⟨1, 4⟩ && t.rd F.STITCH_POS.CYCLE == 1 | _ => false) = true := by
  decide +kernel
theorem test_idle_reduced_clock : (match step (State.reset.wr F.POWER_CLK.CUR 1) with | .next t => t.clk == ⟨1, 5⟩ | _ => false) = true := by
  decide +kernel

/-- R11: a 2-byte write at 0x18C0006 is recorded as 0xA98C0006. -/
theorem test_csr_size_example : okAfter (.csrWrite .pf0 0x18C0006 2 5) opened (fun t =>
    opened.reaches .pf0 && accessFault 0x18C0006 2 == some 2 && t.word 0x10 == 0xA98C0006 && t.rd F.GLOBAL_CSR_ERR_CNT.COUNT == 1) = true := by
  decide +kernel
theorem test_csr_faulty_read : okAfter (.csrFaultyRead .cobbler 0x11 4) opened (fun t =>
    opened.reaches .cobbler && accessFault 0x11 4 == some 1 && t.outs == [.csrData .cobbler 0x11 4 0xFFFFFFFF] && t.word 0x10 == 0x90000011) = true := by
  decide +kernel
theorem test_csr_unassigned : okAfter (.csrFaultyRead .pf0 0x00FF0000 4) opened (fun t =>
    !assigned 0x00FF0000 && t.outs == [.csrData .pf0 0x00FF0000 4 0] && t.word 0x10 == 0xB0FF0000) = true := by decide +kernel
theorem test_csr_second_record : okAfter (.csrWrite .pf0 0x18C0006 2 5) (after (.csrFaultyRead .cobbler 0x11 4) opened) (fun t =>
    t.word 0x10 == 0x90000011 && t.rd F.GLOBAL_CSR_ERR_CNT.COUNT == 2) = true := by decide +kernel


/-- EDIT_SP_DST of half 0 takes a write by its access codes alone. -/
theorem test_csr_ordinary_write : okAfter (.csrWrite .pf0 0xA00000 4 0xFFFFFFFF) opened (fun t =>
    ordinaryReg 0xA00000 && !opened.absentReg 0xA00000 && ((findReg (regsAt 0xA00000) 0xA00000).map (fun x => (x.1.width, x.2)) == some (32, 0xA00000)) &&
      t.word 0xA00000 == 0x8FFFFFFF && t.rd F.GLOBAL_CSR_ERR_CNT.COUNT == 0) = true := by decide +kernel
/-- WELT_WBUF_SIZE is RWL: with the gate open it keeps its value, and the write is recorded with cause LOCKED. -/
theorem test_csr_locked_write : okAfter (.csrWrite .pf0 0x1500018 4 7) opened (fun t =>
    opened.locked && ordinaryReg 0x1500018 && t.rd (F.WELT_WBUF_SIZE.PAGES 0) == 0 && t.word 0x10 == 0xC9500018) = true := by decide +kernel
theorem test_csr_locked_same_value : okAfter (.csrWrite .pf0 0x1500018 4 0) opened (fun t =>
    t.rd F.GLOBAL_CSR_ERR_CNT.COUNT == 0 && t.csr == opened.csr) = true := by decide +kernel
theorem test_csr_unlocked_write : okAfter (.csrWrite .cobbler 0x1500018 4 7) State.reset (fun t =>
    !State.reset.locked && t.rd (F.WELT_WBUF_SIZE.PAGES 0) == 7) = true := by decide +kernel
/-- A read of an RC counter returns it and clears it. -/
theorem test_rc_read : okAfter (.rcRead .pf0 0x14 4) (opened.wr F.GLOBAL_CSR_ERR_CNT.COUNT 5) (fun t =>
    ordinaryReg 0x14 && t.outs == [.csrData .pf0 0x14 4 5] && t.rd F.GLOBAL_CSR_ERR_CNT.COUNT == 0) = true := by decide +kernel
/-- R9: the lower half of STITCH_COUNT latches its upper half for the next read of the same requester. -/
theorem test_lower_half_read : okAfter (.csrLowerHalfRead .pf0 0x100008) (opened.wr F.STITCH_COUNT.COUNT 0x700000003) (fun t =>
    t.outs == [.csrData .pf0 0x100008 4 3] && t.latchOf .pf0 == some (0x100008, 7) && t.latchOf .cobbler == none) = true := by decide +kernel
theorem test_upper_half_read : okAfter (.csrLowerHalfRead .pf0 0x10000C)
    { opened.wr F.STITCH_COUNT.COUNT 0x900000000 with latchPf0 := some (0x100008, 7) } (fun t =>
    t.outs == [.csrData .pf0 0x10000C 4 7]) = true := by decide +kernel
theorem test_gate_shut_pf0 : noEffect (.csrWrite .pf0 0xA00000 4 1) State.reset = true := by decide +kernel
theorem test_gate_shut_fcp : noEffect (.csrWrite (.fcp 5) 0 4 1) State.reset = true := by decide +kernel

theorem test_turn_due : okAfter .turnStart (State.reset.wr F.STITCH_POS.CYCLE 32) (fun t => t.rd F.STITCH_POS.TURN == 1) = true := by decide +kernel
theorem test_turn_not_due : noEffect .turnStart (State.reset.wr F.STITCH_POS.CYCLE 31) = true := by decide +kernel
theorem test_stitch_boundary : okAfter .stitchBoundary ((State.reset.wr F.STITCH_POS.CYCLE 2048).wr F.STITCH_COUNT.COUNT 63) (fun t =>
    t.rd F.STITCH_COUNT.COUNT == 64 && t.rd F.STITCH_POS.SIP == 0 && t.rd F.STITCH_POS.CYCLE == 0 && t.lace.adj == 0) = true := by decide +kernel
/-- R47: with PTP time 1 ns behind the boundary's grid, a locked stitch is shortened or lengthened by one cycle. -/
theorem test_stitch_boundary_locked : okAfter .stitchBoundary
    (((((State.reset.wr F.STITCH_POS.CYCLE 2048).wr F.STITCH_PTP_CTRL.EN 1).wr F.STITCH_PTP_CTRL.STATE 1).wr F.PTP_NS.NS 1025).wr F.STITCH_COUNT.COUNT 0)
    (fun t => t.lace.adj == -1 && t.rd F.STITCH_PTP_ADJ.SHORTENED == 1) = true := by decide +kernel
theorem test_lacing_period : okAfter .lacingPeriodBoundary (atCycle ((State.reset.wr F.POWER_CLK.THROTTLE 1)) 5) (fun t =>
    t.lace.periodAt == 5 && t.rd F.POWER_STAT.THROTTLED.CNT == 1) = true := by decide +kernel
theorem test_lacing_period_not : noEffect .lacingPeriodBoundary (State.reset.wr F.STITCH_COUNT.COUNT 63) = true := by decide +kernel

/-- STITCH_LEN: a request of code 2. -/
def lenAsked : State := after (.stitchLenReqWrite 0x20) State.reset

theorem test_len_request : (lenAsked.rd F.STITCH_LEN.PENDING == 1 && lenAsked.rd F.STITCH_LEN.REQ == 2 && lenAsked.rd F.STITCH_LEN.CUR == 1 &&
    lenAsked.lace.lenReqAt == some 0) = true := by decide +kernel
theorem test_len_request_again : okAfter (.stitchLenReqWrite 0x30) lenAsked (fun t =>
    t.rd F.STITCH_LEN.REJECT == 1 && t.rd F.STITCH_LEN.REQ == 2) = true := by decide +kernel
theorem test_len_request_in_commit : okAfter (.stitchLenReqWrite 0x20) (after (.stitchLaceCommit 8) State.reset) (fun t =>
    t.rd F.STITCH_LEN.REJECT == 1 && t.rd F.STITCH_LEN.PENDING == 0) = true := by decide +kernel
theorem test_len_request_same : okAfter (.stitchLenReqWrite 0x80000010) (State.reset.wr F.STITCH_LEN.REJECT 1) (fun t =>
    t.rd F.STITCH_LEN.REJECT == 0 && t.rd F.STITCH_LEN.PENDING == 0) = true := by decide +kernel
theorem test_len_apply : okAfter .stitchLenApply (atCycle lenAsked 4096) (fun t =>
    lenAsked.atPeriod && t.rd F.STITCH_LEN.CUR == 2 && t.rd F.STITCH_LEN.PENDING == 0 && t.stitchLen == 4096) = true := by decide +kernel
theorem test_len_apply_early : noEffect .stitchLenApply (atCycle lenAsked 4095) = true := by decide +kernel
theorem test_len_apply_refused : okAfter .stitchLenApply (atCycle (lenAsked.wr F.STITCH_SYSREQ.MIN 65) 4096) (fun t =>
    t.rd F.STITCH_LEN.CUR == 1 && t.rd F.STITCH_LEN.REQ == 1 && t.rd F.STITCH_LEN.REJECT == 1) = true := by decide +kernel

/-- The shadow of class 1 gives entries 0 and 1 to groups 5 and 6. -/
def laced : State := after (.lacingShadowWrite 0x112000 false 0x00060005) State.reset
/-- A commit of class 1 stands. -/
def laceAsked : State := after (.stitchLaceCommit 2) laced

theorem test_lace_shadow : (laced.laceShadow 1 0 == 5 && laced.laceShadow 1 1 == 6 && laced.laceEntry 1 0 == 0x4000) = true := by decide +kernel
theorem test_lace_commit : (laceAsked.lace.commit == some ⟨2, false, 0⟩ && laceAsked.rd F.STITCH_LACE_STATUS.PENDING == 1) = true := by decide +kernel
theorem test_lace_shadow_busy : okAfter (.lacingShadowWrite 0x110000 true 0) laceAsked (fun t =>
    t.rd F.STITCH_LACE_STATUS.BUSY_WRITE == 1 && t.laceShadow 0 0 == 0x4000) = true := by decide +kernel
theorem test_lace_commit_busy : okAfter (.stitchLaceCommit 1) laceAsked (fun t => t.rd F.STITCH_LACE_STATUS.BUSY_WRITE == 1) = true := by decide +kernel
theorem test_lace_swap_early : noEffect .laceSwap (atCycle laceAsked 3) = true := by decide +kernel
/-- A commit whose swap falls due in this cycle. -/
def swapAtHand : State := atCycle laceAsked 4096
theorem test_lace_swap : (swapAtHand.swapDue && (swapAtHand.laceFault 2).isNone && okAfter .laceSwap swapAtHand (fun t =>
    t.laceEntry 1 0 == 5 && t.laceEntry 1 1 == 6 && t.laceEntry 0 0 == 0x4000 && t.rd F.STITCH_LACE_SWAPS.COUNT == 1 && t.lace.commit == none &&
      (t.unit 1 0).sharePtr == 1023)) = true := by decide +kernel
theorem test_cancel : (!laceAsked.swapDue && okAfter .cancel laceAsked (fun t => t.lace.commit == none && t.rd F.STITCH_LACE_STATUS.PENDING == 0)) = true := by
  decide +kernel
theorem test_cancel_late : okAfter .cancel swapAtHand (fun t => t.laceEntry 1 0 == 5 && t.rd F.STITCH_LACE_STATUS.LATE_CANCEL == 1) = true := by decide +kernel
theorem test_cancel_after_swap : okAfter .cancel (after .laceSwap swapAtHand) (fun t => t.rd F.STITCH_LACE_STATUS.LATE_CANCEL == 1) = true := by decide +kernel
theorem test_cancel_none : noEffect .cancel State.reset = true := by decide +kernel
/-- Table 1.9: SYSTEM is no entry of class 0: its commit fails validation with the entry's index. -/
def lacedWrong : State := after (.lacingShadowWrite 0x110004 false 0x80000000) State.reset
theorem test_lace_commit_refused : okAfter (.stitchLaceCommit 1) lacedWrong (fun t =>
    (lacedWrong.laceFault 1).isSome && t.rd F.STITCH_LACE_STATUS.VALID_FAIL == 1 && t.rd F.STITCH_LACE_STATUS.FAIL_CLASS == 0 &&
      t.rd F.STITCH_LACE_STATUS.FAIL_INDEX == 3 && t.lace.commit == none) = true := by decide +kernel
theorem test_lace_commit_length : okAfter (.stitchLaceCommit 1) lenAsked (fun t =>
    t.rd F.STITCH_LACE_STATUS.VALID_FAIL == 1 && t.rd F.STITCH_LACE_STATUS.FAIL_CAUSE == 5) = true := by decide +kernel
theorem test_lace_swap_invalid : okAfter .laceSwap { lacedWrong with lace := { lacedWrong.lace with commit := some ⟨1, false, 0⟩ }, clk := ⟨4096, 0⟩ } (fun t =>
    t.rd F.STITCH_LACE_STATUS.VALID_FAIL == 1 && t.lace.commit == none && t.laceEntry 0 3 == 0x4000) = true := by decide +kernel

/-! ### Service choices (chapter 01), yarns and spindles (chapter 02) -/

/-- A packet of tenant `ten` waiting for admission on Half A. -/
def somePacket (ten : Nat) (st : PktStage) : Packet :=
  { half := 0, source := 0, tenant := ten, port := 0, pri := 0, tc := 0, handle := 5, len := 64, timestamp := 0, qref := 0, rawSum := 0, stage := st,
    parse := none, dec := 0, prof0 := none, prof1 := none, lk0 := ⟨0, []⟩, lk1 := ⟨0, []⟩, flowSt := 0, flow := none, held := false, stitch := 0,
    entry := 0, bypass := false, list := [], dirty := none, layers := [], growth := 0 }

def withPkts (s : State) (ps : List (Nat × Packet)) : State := { s with net := { s.net with pkts := ps } }
/-- Tenant 3 lies in group 7; packets of tenants 0 and 3 wait for admission. -/
def twoGroups : State :=
  let s := withPkts State.reset [(1, somePacket 0 .admission), (2, somePacket 3 .admission)]
  { s with lace := { s.lace with tgActive := [(3, 7)] } }
/-- In turn 0 the entry of class 0 names group 7. -/
def ownedTurn : State :=
  { twoGroups with lace := { twoGroups.lace with tabs := [(0, ⟨[], [(0, 7)]⟩)] } }

theorem test_service_groups : twoGroups.pendingGroups 0 2 = [0, 7] := by decide +kernel
theorem test_service_owner : okAfter (.serviceUnitBoundary 0 2 false) ownedTurn (fun t =>
    (t.unit 0 2).chosen == some (.owner 7) && t.rd (F.STITCH_TURN_STAT.OWNED.CNT 0) == 1) = true := by decide +kernel
theorem test_service_free : okAfter (.serviceUnitBoundary 0 2 false) twoGroups (fun t =>
    (t.unit 0 2).chosen == some (.free 0) && (t.unit 0 2).freePtr == 0 && t.rd (F.STITCH_TURN_STAT.OWNED.CNT 0) == 0) = true := by decide +kernel
theorem test_service_free_next : okAfter (.serviceUnitBoundary 0 2 false)
    (twoGroups.setUnit 0 2 { twoGroups.unit 0 2 with freePtr := 0 }) (fun t => (t.unit 0 2).chosen == some (.free 7)) = true := by decide +kernel
theorem test_service_free_held : okAfter (.serviceUnitBoundary 0 2 false)
    (twoGroups.setUnit 0 2 { twoGroups.unit 0 2 with freePtr := 0, heldFree := some 0 }) (fun t => (t.unit 0 2).chosen == some (.free 0)) = true := by decide +kernel
/-- Group 7 holds an entry of class 0 in another turn: outside its own turns it is served by the share rotation. -/
theorem test_service_share : okAfter (.serviceUnitBoundary 0 2 false)
    { twoGroups with lace := { twoGroups.lace with tabs := [(0, ⟨[], [(9, 7)]⟩)] } } (fun t =>
    (t.unit 0 2).chosen == some (.share 7) && (t.unit 0 2).sharePtr == 7) = true := by decide +kernel
theorem test_service_background : okAfter (.serviceUnitBoundary 2 543 true) State.reset (fun t =>
    (t.unit 2 543).chosen == some .background && t.rd (F.STITCH_TURN_STAT.OWNED.CNT 2) == 0) = true := by decide +kernel
theorem test_service_idle : okAfter (.serviceUnitBoundary 5 3 false) State.reset (fun t => (t.unit 5 3).chosen == some .idle) = true := by decide +kernel
theorem test_service_dispatch_limit : okAfter (.serviceUnitBoundary 1 1 true)
    (State.reset.setUnit 1 1 { State.reset.unit 1 1 with starts := 42 }) (fun t => (t.unit 1 1).chosen == none) = true := by decide +kernel

/-- Spindle `sp` has epoch 1. -/
def withEpoch (s : State) (sp : Nat) : State := s.wr (epochF sp) 1

/-- A message of `n` words from channel 0 of thread 8 (spindle 1) to an endpoint. -/
def someMsg (id dst epoch n : Nat) : Msg :=
  { id := id, epoch := epoch, lenm1 := n - 1, kind := .small, tag := 9, src := epThread 8 0, dst := dst, words := List.replicate n 0x11, committed := true }
def someFlight (op : YarnOp) (blocking : Bool) (m : Msg) : Flight :=
  { op := op, owner := some 8, gen := 0, rd := 5, blocking := blocking, after := none, msg := m, status := none, reply := false, post := none }
def flying (s : State) (f : Flight) : State := s.setFlights [f]

/-- Endpoint (0, 2, 1, 0): channel 0 of thread 17, on spindle 2 with epoch 1. -/
def dst17 : Nat := epThread 17 0
def sendOn : State := withEpoch State.reset 2

theorem test_endpoint_number : dst17 = 0x220 ∧ epTid 0x220 = 17 := by decide +kernel
theorem test_judge_ok : sendOn.judge (someMsg 1 dst17 1 4) false = .ok := by decide +kernel
theorem test_judge_range : State.reset.judge (someMsg 1 (48 * 8192) 1 4) false = .refused 4 := by decide +kernel
theorem test_judge_stale : sendOn.judge (someMsg 1 dst17 2 4) false = .stale 1 ∧ State.reset.judge (someMsg 1 dst17 0 4) false = .stale 0 := by decide +kernel
/-- A channel of SIZE 6 holds 64 words: a message of 63 words and its header fills it. -/
theorem test_judge_full : (sendOn.setQueue dst17 [someMsg 1 dst17 1 63]).judge (someMsg 2 dst17 1 1) false = .full := by decide +kernel
theorem test_judge_long : ({ sendOn with yarn := { sendOn.yarn with layout := [(32 * 2 + 4, 16 + 4)] } }).judge (someMsg 1 dst17 1 16) false = .refused 4 := by
  decide +kernel
theorem test_judge_closed : ({ sendOn with yarn := { sendOn.yarn with layout := [(32 * 2 + 4, 6)] } }).judge (someMsg 1 dst17 1 1) false = .refused 3 := by
  decide +kernel
theorem test_arrival_accepted : okAfter (.messageArrival 1) (flying sendOn (someFlight .send false (someMsg 1 dst17 1 4))) (fun t =>
    t.queueAt dst17 == [someMsg 1 dst17 1 4] && t.yarn.flights.map (fun f => f.status) == [some 0]) = true := by decide +kernel
def fullChannel : State := sendOn.setQueue dst17 [someMsg 1 dst17 1 63]
theorem test_arrival_full : okAfter (.messageArrival 2) (flying fullChannel (someFlight .send false (someMsg 2 dst17 1 1))) (fun t =>
    t.queueAt dst17 == fullChannel.queueAt dst17 && t.yarn.flights.map (fun f => f.status) == [some 1]) = true := by decide +kernel
theorem test_arrival_full_blocking : noEffect (.blockingSendRetry 2) (flying fullChannel (someFlight .send true (someMsg 2 dst17 1 1))) = true := by decide +kernel
theorem test_arrival_stale : okAfter (.messageArrival 1) (flying sendOn (someFlight .send false (someMsg 1 dst17 7 4))) (fun t =>
    t.rd (F.MULE_STAT.STALE_DISCARD.CNT 0) == 1 && (t.thr 8).events == 16#32 && (t.thr 8).notice == some ⟨0x0C, dst17, 9, 1, 1⟩ &&
      t.yarn.flights.map (fun f => f.status) == [some 2] && t.queueAt dst17 == []) = true := by decide +kernel
theorem test_arrival_refused : okAfter (.messageArrival 1) (flying State.reset (someFlight .send false (someMsg 1 (48 * 8192) 1 4))) (fun t =>
    t.rd (F.MULE_STAT.REFUSED.CNT 0) == 1 && (t.thr 8).events == 32#32 && (t.thr 8).notice == some ⟨4, 48 * 8192, 9, 0, 1⟩) = true := by decide +kernel
theorem test_arrival_refused_again : okAfter (.messageArrival 1) ((flying State.reset (someFlight .send false (someMsg 1 (48 * 8192) 1 4))).modThr 8
    (fun x => { x with notice := some ⟨3, 1, 2, 0, 255⟩ })) (fun t => (t.thr 8).notice == some ⟨3, 1, 2, 0, 255⟩) = true := by decide +kernel
theorem test_arrival_none : noEffect (.messageArrival 1) State.reset = true := by decide +kernel
theorem test_commit_arrival : okAfter (.messageArrival 1)
    ((flying sendOn (someFlight .commit false (someMsg 1 dst17 1 4))).setQueue dst17 [{ someMsg 1 dst17 1 4 with committed := false, words := [] }]) (fun t =>
    t.queueAt dst17 == [{ someMsg 1 dst17 1 4 with kind := .bulk }]) = true := by decide +kernel
theorem test_status_return : okAfter (.yarnStatusReturn 1)
    (((flying State.reset { someFlight .send true (someMsg 1 dst17 1 4) with status := some 2 }).setTs 8 tsYwait).modThr 8 (fun x => { x with pend := [5], ywait := some 1 })) (fun t =>
    (t.thr 8).g 5 == 2 && (t.thr 8).pend == [] && (t.thr 8).ywait == none && t.ts 8 == tsRun && t.yarn.flights == []) = true := by decide +kernel
theorem test_status_return_old : okAfter (.yarnStatusReturn 1)
    ((flying State.reset { someFlight .send false (someMsg 1 dst17 1 4) with status := some 2 }).modThr 8 (fun x => { x with gen := 1 })) (fun t =>
    (t.thr 8).g 5 == 0 && t.yarn.flights == []) = true := by decide +kernel
theorem test_status_return_reserve : okAfter (.yarnStatusReturn 1)
    ((flying (atCycle State.reset 77) { someFlight .reserve false (someMsg 1 dst17 1 4) with status := some 0 }).modThr 8 (fun x => { x with resv := .asked 1 })) (fun t =>
    (t.thr 8).resv == .opened 1 dst17 77) = true := by decide +kernel

/-- Thread 8 holds a reservation at thread 17 since cycle 0. -/
def reserved : State :=
  (sendOn.setQueue dst17 [{ someMsg 1 dst17 1 4 with committed := false }]).modThr 8 (fun x => { x with resv := .opened 1 dst17 0 })
theorem test_reservation_expiry : okAfter (.reservationExpiry 8) (atCycle reserved 4096) (fun t =>
    (t.thr 8).resv == .poisoned && (t.queueAt dst17).map (fun m => (m.committed, m.kind)) == [(true, .poisoned)] &&
      t.rd (F.MULE_STAT.POISONED.CNT 0) == 1 && t.rd (F.MULE_STAT.YRES_EXPIRED.CNT 0) == 1) = true := by decide +kernel
theorem test_reservation_stands : noEffect (.reservationExpiry 8) (atCycle reserved 4095) = true := by decide +kernel

/-- Every thread of spindle 1 waits: T0 and the workers in WAIT for a bit that is not pending. -/
def allWaiting : State := (List.range 8).foldl (fun s k => s.setTs (8 + k) tsWait) (State.reset.modSpindle 1 (fun x => { x with allWaitAt := some 0 }))
theorem test_deadlock : (allWaiting.allWait 1 && okAfter (.deadlock 1) (atCycle allWaiting 4096) (fun t =>
    t.rd (raisedF 1) == 1 && (t.thr 8).events == 256#32 && t.rd (F.MULE_STAT.DEADLOCKS.CNT 0) == 1 && (t.spindle 1).windowAt == some 4096)) = true := by decide +kernel
theorem test_deadlock_early : noEffect (.deadlock 1) (atCycle allWaiting 4095) = true := by decide +kernel
def windowOpen : State := allWaiting.modSpindle 1 (fun x => { x with windowAt := some 4096 })
theorem test_escalation : okAfter (.escalationWindowEnd 1) (atCycle windowOpen 8192) (fun t =>
    t.rd (escalatedF 1) == 1 && t.rd (F.MULE_EVENT.DL_ESC 0) == 1 && t.rd (F.MULE_STAT.DL_ESCALATIONS.CNT 0) == 1 && (t.spindle 1).windowAt == none &&
      (t.fifo cobblerEvq).entries == [2 ^ 59 + 2 ^ 38]) = true := by decide +kernel
theorem test_escalation_ended : noEffect (.escalationWindowEnd 1) (atCycle (windowOpen.setTs 12 tsRun) 8192) = true := by decide +kernel

/-- An image with a T0 entry at 2, a long-work entry at 4 and a bounded entry at 6. -/
def someImage : Image := { words := [(0, 0x11), (2, 0x22)], count := 8, t0 := some 2, long := some 4, bounded := [(0, 6)], maxWcet := 40 }
/-- Spindle 1 has role PACKET or `r`, and its active bank holds the image. -/
def withImage (r : Nat) : State := (State.reset.wr (roleF 1) r).modSpindle 1 (fun x => { x with bank0 := some someImage })
/-- Thread 9 of spindle 1 has faulted. -/
def faulted (r : Nat) : State := ((withImage r).setTs 9 tsFault).wr (faultF 9 0) 0x8000000000000000
theorem test_resume_bounded : ((faulted 0).bounded 9 && okAfter (.thrCtrlResume 1 2) (faulted 0) (fun t =>
    t.ts 9 == tsIdle && t.rd (faultF 9 0) == 0)) = true := by decide +kernel
theorem test_resume_long : (!(faulted 3).bounded 9 && okAfter (.thrCtrlResume 1 2) (faulted 3) (fun t =>
    t.ts 9 == tsRun && (t.thr 9).pc == 4 && (t.thr 9).g 1 == 3 && t.rd (faultF 9 0) == 0)) = true := by decide +kernel
theorem test_resume_not_faulted : noEffect (.thrCtrlResume 1 1) (faulted 3) = true := by decide +kernel
def debugOpened : State := { faulted 3 with cob := { (faulted 3).cob with debugOpen := true } }
theorem test_debug_closed : okAfter (.dbgHalt 1 2 true) (faulted 3) (fun t => t.word 0x10 == 0xC8204004 && (t.thr 9).haltReq == none) = true := by decide +kernel
theorem test_debug_halt : okAfter (.dbgHalt 1 2 true) (atCycle debugOpened 6) (fun t => (t.thr 9).haltReq == some (true, 6)) = true := by decide +kernel
theorem test_debug_halt_off : noEffect (.dbgHalt 1 1 true) debugOpened = true := by decide +kernel
theorem test_halt_effect : okAfter (.softHaltEffect 9) (after (.dbgHalt 1 2 false) debugOpened) (fun t =>
    t.ts 9 == tsHalt && t.rd (haltedF 9) == 1 && (t.thr 9).haltFrom == tsFault && (t.thr 9).haltReq == none) = true := by decide +kernel
def haltWhileReserved (hard : Bool) : State := reserved.modThr 8 (fun x => { x with haltReq := some (hard, 0) })
theorem test_halt_soft_waits : noEffect (.softHaltEffect 8) (atCycle (haltWhileReserved false) 63) = true := by decide +kernel
theorem test_halt_soft_forced : okAfter (.softHaltEffect 8) (atCycle (haltWhileReserved false) 64) (fun t =>
    t.ts 8 == tsHalt && (t.thr 8).resv == .poisoned && t.rd (F.MULE_DBG_HALT.FORCED 0 1) == 1) = true := by decide +kernel
theorem test_halt_hard : okAfter (.softHaltEffect 8) (haltWhileReserved true) (fun t =>
    t.ts 8 == tsHalt && (t.thr 8).resv == .poisoned && t.rd (F.MULE_DBG_HALT.FORCED 0 1) == 0) = true := by decide +kernel
def haltedThread : State := after (.softHaltEffect 9) (after (.dbgHalt 1 2 false) debugOpened)
theorem test_debug_step : okAfter (.dbgStep 1 2) haltedThread (fun t => (t.thr 9).stepDue) = true := by decide +kernel
theorem test_debug_step_running : noEffect (.dbgStep 1 1) haltedThread = true := by decide +kernel
theorem test_debug_resume : okAfter (.dbgResume 1 2) haltedThread (fun t => t.ts 9 == tsFault && !(t.thr 9).stepDue) = true := by decide +kernel
theorem test_debug_resume_restart : okAfter (.dbgResume 1 2) (haltedThread.modThr 9 (fun x => { x with restartDue := true })) (fun t =>
    t.ts 9 == tsRun && (t.thr 9).pc == 4 && (t.thr 9).g 1 == 2) = true := by decide +kernel

/-- Spindle 1 (role CONTROL) has a valid standby bank; a swap of it stands since cycle 0. -/
def swapAsked : State :=
  after (.muleSwapRequest 0 2) (((withImage 3).modSpindle 1 (fun x => { x with bank1 := some { someImage with long := some 12 } })).wr (standbyF 1) 1)
theorem test_swap_request : (swapAsked.rd (F.MULE_SWAP.REQ 0) == 1 && swapAsked.rd (F.MULE_SWAP.SPN 0) == 2) = true := by decide +kernel
theorem test_swap_early : noEffect (.muleSwapApply 0) (atCycle swapAsked 2047) = true := by decide +kernel
theorem test_swap_apply : okAfter (.muleSwapApply 0) (atCycle swapAsked 2048) (fun t =>
    t.activeBank 1 == 1 && t.activeBank 2 == 0 && t.rd (standbyF 1) == 0 && t.rd (F.MULE_EVENT.SWAP_DONE 0) == 1 && (t.thr 9).pc == 12 && (t.thr 9).g 1 == 2 &&
      (t.thr 9).bank == 1) = true := by decide +kernel
theorem test_swap_rejected : okAfter (.muleSwapApply 0) (atCycle (swapAsked.wr (standbyF 1) 0) 2048) (fun t =>
    t.activeBank 1 == 0 && t.rd (F.MULE_EVENT.SWAP_REJECT 0) == 1 && t.rd (F.MULE_SWAP.REQ 0) == 0) = true := by decide +kernel
theorem test_swap_faulted : okAfter (.muleSwapApply 0) (atCycle (swapAsked.setTs 9 tsFault) 2048) (fun t =>
    (t.thr 9).restartDue && t.ts 9 == tsFault) = true := by decide +kernel
theorem test_swap_reserved : okAfter (.muleSwapApply 0) (atCycle (swapAsked.modThr 9 (fun x => { x with resv := .opened 1 dst17 0 })) 2048) (fun t =>
    (t.thr 9).restartReq == some (2048, 2)) = true := by decide +kernel
def restartAsked (resv : Resv) : State := (withImage 3).modThr 9 (fun x => { x with restartReq := some (0, 4), resv := resv })
theorem test_restart_waits : noEffect (.longWorkRestart 9) (atCycle (restartAsked (.opened 1 dst17 0)) 63) = true := by decide +kernel
theorem test_restart : okAfter (.longWorkRestart 9) (restartAsked .none) (fun t =>
    t.ts 9 == tsRun && (t.thr 9).pc == 4 && (t.thr 9).g 1 == 4 && (t.thr 9).restartReq == none) = true := by decide +kernel
theorem test_restart_halted : okAfter (.longWorkRestart 9) ((restartAsked .none).setTs 9 tsHalt) (fun t =>
    t.ts 9 == tsHalt && (t.thr 9).restartDue && (t.thr 9).restartReq == none) = true := by decide +kernel
theorem test_drain_end : okAfter (.bankDrainEnd 1) (State.reset.wr (drainingF 1) 1) (fun t => t.rd (drainingF 1) == 0) = true := by decide +kernel
theorem test_drain_goes_on : noEffect (.bankDrainEnd 1) (((withImage 0).wr (drainingF 1) 1).modThr 9 (fun x => { x with bank := 1 }) |>.setTs 9 tsRun) = true := by
  decide +kernel

/-- A change of spindle 1 to role STORAGE stands since stitch 0. -/
def roleAsked : State := after (.roleChangeRequest 1 2 false) (withImage 4)
def atStitch (s : State) (n : Nat) : State := s.wr F.STITCH_COUNT.COUNT n
theorem test_role_request : (roleAsked.rd (F.MULE_ROLE.REQ 0 1) == 1 && roleAsked.rd (F.MULE_ROLE.NEW_ROLE 0 1) == 2 &&
    (roleAsked.spindle 1).roleAt == some 0) = true := by decide +kernel
theorem test_role_request_again : noEffect (.roleChangeRequest 1 0 false) roleAsked = true := by decide +kernel
theorem test_role_apply : okAfter (.roleChangeApply 1) (atStitch roleAsked 2) (fun t =>
    t.role 1 == 2 && t.rd (epochF 1) == 1 && t.rd (F.MULE_EVENT.ROLE_DONE 0) == 1 && t.rd (F.MULE_ROLE.REQ 0 1) == 0 && t.ts 9 == tsIdle && t.ts 8 == tsRun &&
      (t.thr 8).pc == 2 && (t.thr 8).g 1 == 1) = true := by decide +kernel
theorem test_role_apply_early : noEffect (.roleChangeApply 1) (atStitch roleAsked 1) = true := by decide +kernel
theorem test_role_apply_rejected : okAfter (.roleChangeApply 1) (atStitch (roleAsked.wr (F.MULE_YCH_CFG.SIZE 0 32) 11) 2) (fun t =>
    t.rd (F.MULE_EVENT.ROLE_REJECT 0) == 1 && t.role 1 == 4 && t.rd (epochF 1) == 0) = true := by decide +kernel
theorem test_role_forced : okAfter (.roleForced 1) ((atStitch roleAsked 3).setTs 9 tsRun) (fun t =>
    t.ts 9 == tsHalt && t.rd (F.MULE_EVENT.ROLE_FORCED 0) == 1 && (t.spindle 1).roleStopped == [9]) = true := by decide +kernel
theorem test_role_forced_early : noEffect (.roleForced 1) ((atStitch roleAsked 2).setTs 9 tsRun) = true := by decide +kernel

theorem test_load_start : okAfter (.muleLoadStart 0 2) (atCycle State.reset 3) (fun t =>
    t.rd (F.MULE_LOAD_CTRL.BUSY 0) == 1 && AMap.get? t.mules.loadAt 0 == some (65536 * 3 + 2)) = true := by decide +kernel
theorem test_load_start_draining : okAfter (.muleLoadStart 0 2) (State.reset.wr (drainingF 1) 1) (fun t =>
    t.rd (F.MULE_LOAD_STATUS.STATUS 0) == 3 && t.rd (F.MULE_LOAD_STATUS.CAUSE 0) == 0x40 && t.rd (F.MULE_EVENT.LOAD_REJECT 0) == 1) = true := by decide +kernel
theorem test_load_start_busy : noEffect (.muleLoadStart 0 1) (after (.muleLoadStart 0 2) State.reset) = true := by decide +kernel
/-- With memory not enabled the image cannot be read. -/
theorem test_load_unreadable : okAfter (.imageLoadDone 0) (after (.muleLoadStart 0 2) State.reset) (fun t =>
    t.rd (F.MULE_LOAD_CTRL.BUSY 0) == 0 && t.rd (F.MULE_EVENT.LOAD_REJECT 0) == 1 && t.rd (F.MULE_LOAD_STATUS.STATUS 0) != 0) = true := by decide +kernel

/-! ### Obord (chapter 03) -/

/-- Thread 9 (thread 1 of spindle 1, role PACKET) runs at PC 6 in its cycle with budget 240, and its registers hold values. -/
def worker (rs : List (Nat × W64)) : State :=
  (atCycle ((withImage 0).setTs 9 tsRun) 9).modThr 9 (fun x => { x with regs := rs, pc := 6, budget := 240 })
/-- Thread 9 as a long-work thread. -/
def longWorker (rs : List (Nat × W64)) : State :=
  (atCycle ((withImage 3).setTs 9 tsRun) 9).modThr 9 (fun x => { x with regs := rs, pc := 6 })
/-- T0 of spindle 1 in its cycle, and a Cobbler core's thread. -/
def thread0 (rs : List (Nat × W64)) : State :=
  (atCycle ((withImage 3).setTs 8 tsRun) 8).modThr 8 (fun x => { x with regs := rs, pc := 6 })
def cobCore (rs : List (Nat × W64)) : State := (atCycle opened 8).modThr 8192 (fun x => { x with regs := rs, pc := 6 })

/-- `State.MayIssue`, as a test. -/
def mayIssue (s : State) (tid : Nat) (i : Ob) : Bool :=
  s.slotOpen tid && s.runs tid && (s.haltDue tid).isNone && !s.overDue tid && s.ready tid i && !i.bodyBeyond (s.thr tid).pc &&
    (i.contextFault (s.ctxOf tid)).isNone

theorem may_issue_of_test {s : State} {tid : Nat} {i : Ob} (h : mayIssue s tid i = true) : s.MayIssue tid i := by
  simp only [mayIssue, Bool.and_eq_true, Bool.not_eq_true', Option.isNone_iff_eq_none] at h
  obtain ⟨⟨⟨⟨⟨⟨h1, h2⟩, h3⟩, h4⟩, h5⟩, h6⟩, h7⟩ := h
  exact ⟨h1, h2, h3, h4, h5, h6, h7⟩

/-- The instruction may issue and leaves `v` in rd, one instruction further. -/
def gives (i : Ob) (c : Instr) (rd : Nat) (v : Nat) (s : State) (tid : Nat) : Bool :=
  mayIssue s tid i && okAfter c s (fun t => (t.thr tid).g rd == BitVec.ofNat 64 v && (t.thr tid).pc == (s.thr tid).pc + 1)

def w56 (a b : W64) : State := worker [(5, a), (6, b), (7, 99)]
def m1 : W64 := 0xFFFFFFFFFFFFFFFF

theorem test_add : gives (.alu .add 7 5 6) (.add 9 7 5 6) 7 1 (w56 m1 2) 9 = true := by decide +kernel
theorem test_sub : gives (.alu .sub 7 5 6) (.sub 9 7 5 6) 7 (2 ^ 64 - 1) (w56 2 3) 9 = true := by decide +kernel
theorem test_and : gives (.alu .and 7 5 6) (.and 9 7 5 6) 7 8 (w56 12 10) 9 = true := by decide +kernel
theorem test_or : gives (.alu .or 7 5 6) (.or 9 7 5 6) 7 14 (w56 12 10) 9 = true := by decide +kernel
theorem test_xor : gives (.alu .xor 7 5 6) (.xor 9 7 5 6) 7 6 (w56 12 10) 9 = true := by decide +kernel
theorem test_andn : gives (.alu .andn 7 5 6) (.andn 9 7 5 6) 7 4 (w56 12 10) 9 = true := by decide +kernel
theorem test_shl : gives (.alu .shl 7 5 6) (.shl 9 7 5 6) 7 (2 ^ 63) (w56 3 127) 9 = true := by decide +kernel
theorem test_shr : gives (.alu .shr 7 5 6) (.shr 9 7 5 6) 7 1 (w56 (2 ^ 63) 63) 9 = true := by decide +kernel
theorem test_sar : gives (.alu .sar 7 5 6) (.sar 9 7 5 6) 7 (2 ^ 64 - 1) (w56 (2 ^ 63) 63) 9 = true := by decide +kernel
theorem test_rol : gives (.alu .rol 7 5 6) (.rol 9 7 5 6) 7 3 (w56 (2 ^ 63 + 1) 1) 9 = true := by decide +kernel
theorem test_slt : gives (.alu .slt 7 5 6) (.slt 9 7 5 6) 7 1 (w56 m1 0) 9 = true := by decide +kernel
theorem test_sltu : gives (.alu .sltu 7 5 6) (.sltu 9 7 5 6) 7 0 (w56 m1 0) 9 = true := by decide +kernel
theorem test_seq : gives (.alu .seq 7 5 6) (.seq 9 7 5 6) 7 1 (w56 4 4) 9 = true := by decide +kernel
theorem test_min_u : gives (.alu .minU 7 5 6) (.minU 9 7 5 6) 7 0 (w56 m1 0) 9 = true := by decide +kernel
theorem test_max_u : gives (.alu .maxU 7 5 6) (.maxU 9 7 5 6) 7 (2 ^ 64 - 1) (w56 m1 0) 9 = true := by decide +kernel
theorem test_cmovnz : gives (.alu .cmovnz 7 5 6) (.cmovnz 9 7 5 6) 7 4 (w56 4 1) 9 = true := by decide +kernel
theorem test_cmovnz_zero : gives (.alu .cmovnz 7 5 6) (.cmovnz 9 7 5 6) 7 99 (w56 4 0) 9 = true := by decide +kernel
theorem test_mul : gives (.alu .mul 7 5 6) (.mul 9 7 5 6) 7 (2 ^ 64 - 2) (w56 m1 2) 9 = true := by decide +kernel
theorem test_mulhu : gives (.alu .mulhu 7 5 6) (.mulhu 9 7 5 6) 7 1 (w56 m1 2) 9 = true := by decide +kernel
theorem test_popc : gives (.alu .popc 7 5 0) (.popc 9 7 5) 7 64 (w56 m1 0) 9 = true := by decide +kernel
theorem test_clz : gives (.alu .clz 7 5 0) (.clz 9 7 5) 7 64 (w56 0 0) 9 = true := by decide +kernel
theorem test_ctz : gives (.alu .ctz 7 5 0) (.ctz 9 7 5) 7 63 (w56 (2 ^ 63) 0) 9 = true := by decide +kernel
theorem test_bsw16 : gives (.alu .bsw16 7 5 0) (.bsw16 9 7 5) 7 0x2211 (w56 0x331122 0) 9 = true := by decide +kernel
theorem test_bsw32 : gives (.alu .bsw32 7 5 0) (.bsw32 9 7 5) 7 0x44332211 (w56 0x11223344 0) 9 = true := by decide +kernel
theorem test_bsw64 : gives (.alu .bsw64 7 5 0) (.bsw64 9 7 5) 7 0x8877665544332211 (w56 0x1122334455667788 0) 9 = true := by decide +kernel
/-- CRC-32C of the byte 0x61 with the usual initial and final inversions is 0xC1D04330. -/
theorem test_crc32c : gives (.crc .b 7 5 6) (.crc32c 9 .b 7 5 6) 7 (0xFFFFFFFF - 0xC1D04330) (w56 0xFFFFFFFF 0x61) 9 = true := by decide +kernel
theorem test_hmix : gives (.hmix 7 5 6) (.hmix 9 7 5 6) 7 (0x9E3779B97F4A7C15 ^^^ 0x4F1BBCDCB) (w56 1 0) 9 = true := by decide +kernel
theorem test_addi : gives (.addi 7 5 0xFFFF) (.addi 9 7 5 0xFFFF) 7 (2 ^ 64 - 1) (w56 0 0) 9 = true := by decide +kernel
theorem test_andi : gives (.andi 7 5 0xFFFF) (.andi 9 7 5 0xFFFF) 7 0xFFFF (w56 m1 0) 9 = true := by decide +kernel
theorem test_ori : gives (.ori 7 5 0x8000) (.ori 9 7 5 0x8000) 7 0x8001 (w56 1 0) 9 = true := by decide +kernel
theorem test_xori : gives (.xori 7 5 0xFFFF) (.xori 9 7 5 0xFFFF) 7 0xFFFFFFFFFFFF0000 (w56 m1 0) 9 = true := by decide +kernel
theorem test_shi_shl : gives (.shi 7 5 .shl 63) (.shi 9 7 5 .shl 63) 7 (2 ^ 63) (w56 3 0) 9 = true := by decide +kernel
theorem test_shi_sar : gives (.shi 7 5 .sar 63) (.shi 9 7 5 .sar 63) 7 (2 ^ 64 - 1) (w56 (2 ^ 63) 0) 9 = true := by decide +kernel
theorem test_sltiu : gives (.sltiu 7 5 0xFFFF) (.sltiu 9 7 5 0xFFFF) 7 0 (w56 m1 0) 9 = true := by decide +kernel
theorem test_movi : gives (.movi 7 0x8000) (.movi 9 7 0x8000) 7 0xFFFFFFFFFFFF8000 (w56 0 0) 9 = true := by decide +kernel
theorem test_movhi : gives (.movhi 7 3 0x1234) (.movhi 9 7 3 0x1234) 7 0x1234000000000063 (w56 0 0) 9 = true := by decide +kernel
theorem test_bfx : gives (.bfx 7 5 52 11) (.bfx 9 7 5 52 11) 7 0xABC (w56 0xABC0000000000000 0) 9 = true := by decide +kernel
theorem test_bfi : gives (.bfi 7 5 56 7) (.bfi 9 7 5 56 7) 7 0xCD00000000000063 (w56 0xABCD 0) 9 = true := by decide +kernel
theorem test_rdctr_slots : gives (.rdctr 7 2) (.rdctr 9 7 2) 7 1 (w56 0 0) 9 = true := by decide +kernel
theorem test_rdctr_id : gives (.rdctr 7 3) (.rdctr 9 7 3) 7 (64 + 1024 + 8192 * 5) ((w56 0 0).wr (epochF 1) 5) 9 = true := by decide +kernel
theorem test_rdctr_budget : gives (.rdctr 7 5) (.rdctr 9 7 5) 7 240 (w56 0 0) 9 = true := by decide +kernel
/-- g0 reads zero whatever is written (R53). -/
theorem test_write_g0 : okAfter (.add 9 0 5 6) (w56 1 2) (fun t => (t.thr 9).g 0 == 0 && (t.thr 9).pc == 7) = true := by decide +kernel

/-! Control transfers: PC 6 within a body of PCs 5 to 8. -/

def inLoop (n : Nat) (rs : List (Nat × W64)) : State := (worker rs).modThr 9 (fun x => { x with loops := [⟨5, 8, n⟩] })
def goes (i : Ob) (c : Instr) (s : State) (pc : Nat) (ls : List Level) : Bool :=
  mayIssue s 9 i && okAfter c s (fun t => (t.thr 9).pc == pc && (t.thr 9).loops == ls)
theorem test_br_taken : goes (.br .lt 5 6 1) (.br 9 .lt 5 6 1) (inLoop 3 [(5, m1), (6, 0)]) 8 [⟨5, 8, 3⟩] = true := by decide +kernel
theorem test_br_leaves_body : goes (.br .eq 5 6 2) (.br 9 .eq 5 6 2) (inLoop 3 [(5, 1), (6, 1)]) 9 [] = true := by decide +kernel
theorem test_br_not_taken : goes (.br .ltu 5 6 2) (.br 9 .ltu 5 6 2) (inLoop 3 [(5, m1), (6, 0)]) 7 [⟨5, 8, 3⟩] = true := by decide +kernel
theorem test_body_end : goes (.movi 7 1) (.movi 9 7 1) ((inLoop 3 []).modThr 9 (fun x => { x with pc := 8 })) 5 [⟨5, 8, 2⟩] = true := by decide +kernel
theorem test_body_last : goes (.movi 7 1) (.movi 9 7 1) ((inLoop 1 []).modThr 9 (fun x => { x with pc := 8 })) 9 [] = true := by decide +kernel
theorem test_bb_taken : goes (.bb 1 5 63 2) (.bb 9 1 5 63 2) (worker [(5, 2 ^ 63)]) 9 [] = true := by decide +kernel
theorem test_bb_not_taken : goes (.bb 0 5 63 2) (.bb 9 0 5 63 2) (worker [(5, 2 ^ 63)]) 7 [] = true := by decide +kernel
theorem test_jmp : goes (.jmp 0) (.jmp 9 0) (worker []) 7 [] = true := by decide +kernel
theorem test_loop : goes (.loop 255 1) (.loop 9 255 1) (worker []) 7 [⟨7, 7, 255⟩] = true := by decide +kernel
theorem test_loopr : okAfter (.loopr 9 5 2) (longWorker [(5, 0x100000003)]) (fun t => mayIssue (longWorker [(5, 0x100000003)]) 9 (.loopr 5 2) &&
    (t.thr 9).pc == 7 && (t.thr 9).loops == [⟨7, 8, 3⟩]) = true := by decide +kernel
theorem test_loopr_zero : okAfter (.loopr 9 5 2) (longWorker [(5, 0x100000000)]) (fun t => (t.thr 9).pc == 9 && (t.thr 9).loops == []) = true := by decide +kernel
theorem test_call : okAfter (.call 9 20) (longWorker []) (fun t => mayIssue (longWorker []) 9 (.call 20) && (t.thr 9).pc == 20 && (t.thr 9).g 31 == 7) = true := by decide +kernel
theorem test_jr : okAfter (.jr 9 7 5) (longWorker [(5, 0x2003)]) (fun t => mayIssue (longWorker []) 9 (.jr 7 5) && (t.thr 9).pc == 3 && (t.thr 9).g 7 == 7) = true := by decide +kernel
theorem test_brb : okAfter (.brb 9 .ne 5 0 6) (longWorker [(5, 1)]) (fun t => mayIssue (longWorker [(5, 1)]) 9 (.brb .ne 5 0 6) && (t.thr 9).pc == 0) = true := by decide +kernel
theorem test_brb_not_taken : okAfter (.brb 9 .ne 5 0 6) (longWorker []) (fun t => (t.thr 9).pc == 7) = true := by decide +kernel

/-! The end of a program: thread 9 works on packet 1. -/

def working (rs : List (Nat × W64)) : State :=
  (withPkts (worker rs) [(1, somePacket 0 (.worker 9))]).modThr 9 (fun x => { x with work := some ⟨0, 1, 5, 0⟩, dirty := some (2, 4) })
theorem test_done_drop : okAfter (.doneDrop 9 5) (working [(5, 0)]) (fun t => mayIssue (working [(5, 0)]) 9 (.done .drop 5) &&
    t.pkt? 1 == none && (t.thr 9).retireAt == some 73 && (t.thr 9).work == none) = true := by decide +kernel
theorem test_done_deliver : okAfter (.doneDeliver 9 5) { working [(5, 2)] with lmem := Memory.write [] (0x10000 + 0x2000 + 0x600) [1, 0, 0, 0, 0, 0, 0, 0, 7] }
    (fun t => (t.pkt? 1).map (fun p => (p.stage, p.list, p.dirty)) == some (.editor, [1, 7], some (2, [0, 0, 0]))) = true := by decide +kernel
theorem test_done_slowpath : okAfter (.doneSlowpath 9 5) (working [(5, 3)]) (fun t => t.pkt? 1 == none && t.rd F.EDIT_STAT.SP_DROP.CNT == 1) = true := by decide +kernel
theorem test_retire_end : okAfter (.retireEnd 9) (atCycle (after (.doneDrop 9 5) (working [(5, 0)])) 73) (fun t =>
    t.ts 9 == tsIdle && (t.thr 9).retireAt == none) = true := by decide +kernel

/-! Memories. -/

def lbase : Nat := 0x10000 + 0x2000
theorem test_ld : gives (.ld .h true 7 5 0x1FFE) (.ld 9 .h true 7 5 0x1FFE) 7 (2 ^ 64 - 2) { worker [(5, 4)] with lmem := Memory.write [] (lbase + 2) [0xFE, 0xFF] } 9 = true := by
  decide +kernel
theorem test_st : (mayIssue (worker [(5, 0x1FF8), (7, 0x1122)]) 9 (.st .d 7 5 0) && okAfter (.st 9 .d 7 5 0) (worker [(5, 0x1FF8), (7, 0x1122)]) (fun t =>
    t.lmem == [(lbase + 0x1FF8, 0x22), (lbase + 0x1FF9, 0x11)] && (t.thr 9).dirty == none)) = true := by decide +kernel
theorem test_ld_cobbler : gives (.ld .b false 7 5 0) (.ld 8192 .b false 7 5 0) 7 0x5A { cobCore [(5, 0x3FFFFF)] with cobSram := [(0x3FFFFF, 0x5A)] } 8192 = true := by
  decide +kernel
theorem test_st_cobbler : okAfter (.st 8192 .w 7 5 4) (cobCore [(5, 8), (7, 9)]) (fun t => t.cobSram == [(12, 9)] && t.lmem == []) = true := by decide +kernel
theorem test_hld : gives (.hld .w false 7 5 0) (.hld 9 .w false 7 5 0) 7 0x01020304 { worker [(5, 0xFC)] with lmem := Memory.write [] (lbase + 0xFC) [1, 2, 3, 4] } 9 = true := by
  decide +kernel
theorem test_hst : okAfter (.hst 9 .h 7 5 0) ((worker [(5, 9), (7, 0x1234)]).modThr 9 (fun x => { x with dirty := some (14, 14) })) (fun t =>
    t.lmem == [(lbase + 9, 0x12), (lbase + 10, 0x34)] && (t.thr 9).dirty == some (9, 14)) = true := by decide +kernel
/-- PERM lets thread 9 write region 1 of the scratch. -/
def scratchOn (rs : List (Nat × W64)) : State := (worker rs).wr (F.MULE_SCR_PROT.PERM 0) 0xC
theorem test_sld : okAfter (.sld 9 .d false 7 5 0) (scratchOn [(5, 0x10008)]) (fun t => mayIssue (scratchOn [(5, 0x10008)]) 9 (.sld .d false 7 5 0) &&
    t.mules.scratchQ.map (fun r => (r.addr, r.bytes, r.rd, r.rank)) == [(0x10008, 8, some 7, 1)] && (t.thr 9).pend == [7]) = true := by decide +kernel
theorem test_sst : okAfter (.sst 9 .b 7 5 0) (scratchOn [(5, 0x1FFFF), (7, 3)]) (fun t =>
    t.mules.scratchQ.map (fun r => (r.addr, r.bytes, r.rd, r.operand)) == [(0x1FFFF, 1, none, 3)] && (t.thr 9).pend == []) = true := by decide +kernel
/-- An access of thread 9 waits at bank 1 since cycle 9. -/
def scratchAsked (op : Option AtomOp) (rd : Option Nat) (v c : W64) : State :=
  let r : ScratchReq := { id := 0, thread := 9, mule := 0, cycle := 9, rank := 1, addr := 0x10008, bytes := 4, rd := rd, sx := false, op := op, operand := v, compare := c }
  { (atCycle (worker []) 23).modThr 9 (fun x => { x with scratchOp := some 0, pend := [7] }) with
    scratch := [(0x10008, 5)], mules := { ((atCycle (worker []) 23).modThr 9 (fun x => { x with scratchOp := some 0, pend := [7] })).mules with scratchQ := [r] } }
def served (op : Option AtomOp) (rd : Option Nat) (v c : W64) (g cell : Nat) : Bool :=
  okAfter (.scratchAccessPerform 0 1) (scratchAsked op rd v c) (fun t =>
    (t.thr 9).g 7 == BitVec.ofNat 64 g && leNat (Memory.read t.scratch 0x10008 4) == cell && (t.thr 9).scratchOp == none && t.mules.scratchQ == [])
theorem test_scratch_load : served none (some 7) 0 0 5 5 = true := by decide +kernel
theorem test_scratch_store : served none none 0x01020304 0 0 0x01020304 = true := by decide +kernel
theorem test_fetch_add : served (some .fetchAdd) (some 7) 0xFFFFFFFF 0 5 4 = true := by decide +kernel
theorem test_satom_swap : served (some .swap) (some 7) 9 0 5 9 = true := by decide +kernel
theorem test_cas_equal : served (some .cas) (some 7) 9 0x100000005 5 9 = true := by decide +kernel
theorem test_cas_unequal : served (some .cas) (some 7) 9 4 5 5 = true := by decide +kernel
theorem test_satom_and : served (some .and) (some 7) 4 0 5 4 = true := by decide +kernel
theorem test_satom_or : served (some .or) (some 7) 2 0 5 7 = true := by decide +kernel
theorem test_satom_xor : served (some .xor) (some 7) 4 0 5 1 = true := by decide +kernel
theorem test_satom_min : served (some .minU) (some 7) 0xFFFFFFFF 0 5 5 = true := by decide +kernel
theorem test_satom_max : served (some .maxU) (some 7) 0xFFFFFFFF 0 5 0xFFFFFFFF = true := by decide +kernel
theorem test_scratch_early : noEffect (.scratchAccessPerform 0 1) (atCycle (scratchAsked none (some 7) 0 0) 22) = true := by decide +kernel
theorem test_satom_issue : ([(Instr.fetchAdd 9 false 7 5 6, AtomOp.fetchAdd), (.satomSwap 9 false 7 5 6, .swap), (.cas 9 false 7 5 6, .cas), (.satomAnd 9 false 7 5 6, .and),
    (.satomOr 9 false 7 5 6, .or), (.satomXor 9 false 7 5 6, .xor), (.satomMinU 9 false 7 5 6, .minU), (.satomMaxU 9 false 7 5 6, .maxU)].all (fun x =>
    okAfter x.1 (scratchOn [(5, 0x10004), (6, 2), (7, 3)]) (fun t => t.mules.scratchQ.map (fun r => (r.op, r.bytes, r.operand, r.compare)) == [(some x.2, 4, 2, 3)]))) = true := by
  decide +kernel

/-! Lookups. -/

theorem test_lkup : okAfter (.lkup 9 2 5 3 24) { worker [(5, 0x1F0)] with lmem := [(lbase + 0x1F0, 7)] } (fun t =>
    mayIssue (worker [(5, 0x1F0)]) 9 (.lkup 2 5 3 24) && AMap.get? (t.thr 9).tickets 2 == some ⟨3, 0, [7, 0, 0, 0, 0, 0, 0, 0], 9 + 192, none⟩ &&
      t.rd F.LAST_STAT.LOOKUPS.CNT == 1) = true := by decide +kernel
def ticketed (arrived : Option Nat) : State := (worker []).modThr 9 (fun x => { x with tickets := [(2, ⟨3, 0, [], 201, arrived⟩)] })
theorem test_lkw_arrived : gives (.lkw 7 2) (.lkw 9 7 2) 7 1 (ticketed (some 1)) 9 = true := by decide +kernel
theorem test_lkw_no_ticket : gives (.lkw 7 1) (.lkw 9 7 1) 7 4 (ticketed (some 1)) 9 = true := by decide +kernel
theorem test_lkw_late : gives (.lkw 7 2) (.lkw 9 7 2) 7 2 (atCycle (ticketed none) 201) 9 = true := by decide +kernel
theorem test_lkw_stall : okAfter (.lkw 9 7 2) (ticketed none) (fun t => (t.thr 9).lkwStall == some (7, 2) && (t.thr 9).pc == 6 && (t.thr 9).slots == 1) = true := by decide +kernel
theorem test_lookup_result : okAfter (.lookupResult 9 2) (ticketed none) (fun t =>
    ((AMap.get? (t.thr 9).tickets 2).map (fun k => k.arrived.isSome)) == some true) = true := by decide +kernel
theorem test_lookup_result_late : okAfter (.lookupResult 9 2) (atCycle (ticketed none) 202) (fun t =>
    t.rd F.LAST_STAT.LATE_DISCARD.CNT == 1 && (AMap.get? (t.thr 9).tickets 2).map (fun k => k.arrived) == some (some 2)) = true := by decide +kernel
/-- The image's word at PC 6 is LKW g7, ticket 2. -/
def lkwImage : State :=
  ((ticketed none).modSpindle 1 (fun x => { x with bank0 := some { someImage with words := [(6, encodeOb (.lkw 7 2))] } })).modThr 9 (fun x => { x with lkwStall := some (7, 2) })
theorem test_lookup_deadline : okAfter (.lookupDeadline 9) (atCycle lkwImage 201) (fun t => (t.thr 9).g 7 == 2 && (t.thr 9).pc == 7 && (t.thr 9).lkwStall == none) = true := by decide +kernel

/-! Messages and events. -/

theorem test_ystage : okAfter (.ystage 9 5 7) (worker [(5, 0x77)]) (fun t => mayIssue (worker []) 9 (.ystage 5 7) && AMap.getD (t.thr 9).staging 7 0 == 0x77) = true := by decide +kernel
theorem test_ysend : okAfter (.ysend 9 7 5 1 9 false) ((worker [(5, 0x500220)]).modThr 9 (fun x => { x with staging := [(1, 0x77)] })) (fun t =>
    mayIssue (worker []) 9 (.ysend 7 5 1 9 false) &&
    t.yarn.flights.map (fun f => (f.op, f.owner, f.msg.epoch, f.msg.dst, f.msg.words)) == [(.send, some 9, 5, 0x220, [0, 0x77])] && (t.thr 9).pend == [7] && t.ts 9 == tsRun) = true := by
  decide +kernel
theorem test_ysend_blocking : okAfter (.ysend 9 7 5 0 9 true) (longWorker [(5, 0x500220)]) (fun t =>
    mayIssue (longWorker []) 9 (.ysend 7 5 0 9 true) && t.ts 9 == tsYwait) = true := by decide +kernel
theorem test_yres : okAfter (.yres 9 7 5 255 9 false) (worker [(5, 0x500220)]) (fun t => mayIssue (worker []) 9 (.yres 7 5 255 9 false) &&
    t.yarn.flights.map (fun f => (f.op, f.msg.lenm1, f.msg.committed, f.msg.words.length)) == [(.reserve, 255, false, 256)] && (t.thr 9).resv == .asked 1) = true := by decide +kernel
def reserved9 : State :=
  ((worker [(7, 0x99)]).setQueue dst17 [{ someMsg 1 dst17 1 4 with committed := false }]).modThr 9 (fun x => { x with resv := .opened 1 dst17 0 })
theorem test_yput : okAfter (.yput 9 7 3) reserved9 (fun t => mayIssue reserved9 9 (.yput 7 3) &&
    (t.queueAt dst17).map (fun m => m.words) == [[0x11, 0x11, 0x11, 0x99]] && (t.thr 9).pc == 7) = true := by decide +kernel
theorem test_yput_poisoned : okAfter (.yput 9 7 3) (reserved9.modThr 9 (fun x => { x with resv := .poisoned })) (fun t =>
    t.queueAt dst17 == reserved9.queueAt dst17 && (t.thr 9).pc == 7) = true := by decide +kernel
theorem test_ycommit : okAfter (.ycommit 9 7) reserved9 (fun t => t.yarn.flights.map (fun f => (f.op, f.rd, f.msg.id)) == [(.commit, 7, 1)] && (t.thr 9).resv == .none) = true := by decide +kernel
theorem test_ycommit_poisoned : okAfter (.ycommit 9 7) (reserved9.modThr 9 (fun x => { x with resv := .poisoned })) (fun t =>
    (t.thr 9).g 7 == 4 && (t.thr 9).resv == .none && t.yarn.flights == []) = true := by decide +kernel
theorem test_yrecv_empty : gives (.yrecv 7 5 3) (.yrecv 9 7 5 3) 7 0 (longWorker []) 9 = true := by decide +kernel
theorem test_yrecv : okAfter (.yrecv 9 7 5 3) ((longWorker [(5, 0x1FF0)]).setQueue (epThread 9 3) [someMsg 1 (epThread 9 3) 1 2]) (fun t =>
    t.queueAt (epThread 9 3) == [] && t.lmem == [(lbase + 0x1FF0, 0x11), (lbase + 0x1FF8, 0x11)] && (t.thr 9).readyAt == 10 && (t.thr 9).g 7 == (someMsg 1 (epThread 9 3) 1 2).header) = true := by
  decide +kernel
theorem test_ynote : gives (.ynote 7) (.ynote 9 7) 7 (0x0C + 2 ^ 8 + 2 ^ 16 * 7 + 2 ^ 24 * 9 + 2 ^ 30 * 0x220) ((worker []).modThr 9 (fun x => { x with notice := some ⟨0x0C, 0x220, 9, 7, 1⟩ })) 9 = true := by
  decide +kernel
theorem test_ynote_none : gives (.ynote 7) (.ynote 9 7) 7 0 (w56 0 0) 9 = true := by decide +kernel
theorem test_wait_none : okAfter (.wait 9 7 5 false) (longWorker [(5, 0x10000)]) (fun t => mayIssue (longWorker [(5, 0x10000)]) 9 (.wait 7 5 false) && t.ts 9 == tsWait && (t.thr 9).waitMask == 0x10000) = true := by
  decide +kernel
theorem test_wait_pending : okAfter (.wait 9 7 5 false) ((longWorker [(5, 0x10000)]).modThr 9 (fun x => { x with events := 0x30000 })) (fun t =>
    (t.thr 9).g 7 == 0x10000 && (t.thr 9).events == 0x20000 && t.ts 9 == tsRun) = true := by decide +kernel
theorem test_wait_nb : gives (.wait 7 5 true) (.wait 9 7 5 true) 7 0 (longWorker [(5, 0x10000)]) 9 = true := by decide +kernel
def waiting : State := (after (.wait 9 7 5 false) (longWorker [(5, 0x10000)]))
theorem test_wait_wake : okAfter (.waitWake 9) (waiting.modThr 9 (fun x => { x with events := 0x30000 })) (fun t =>
    t.ts 9 == tsRun && (t.thr 9).g 7 == 0x10000 && (t.thr 9).events == 0x20000) = true := by decide +kernel
theorem test_wait_wake_not : noEffect (.waitWake 9) (waiting.modThr 9 (fun x => { x with events := 0x20000 })) = true := by decide +kernel
theorem test_signal : okAfter (.signal 9 0 31) (worker []) (fun t => mayIssue (worker []) 9 (.signal 0 31) && (t.thr 8).events == 0x80000000) = true := by decide +kernel

/-! Unit issue and the control context. -/

theorem test_csub : okAfter (.csub 9 7 5) (worker [(5, 0x1FC0)]) (fun t => mayIssue (worker []) 9 (.csub 7 5) && !(worker []).fencedB &&
    decide ((worker []).storeUsed 0 < storeLimit) && t.yarn.flights.map (fun f => (f.op, f.status)) == [(.csub, some 0)] && t.cipher.jobs.length == 1) = true := by decide +kernel
theorem test_fcwb_range : okAfter (.fcwb 9 7 5 6) (worker [(5, 0x1F00), (6, 0)]) (fun t =>
    t.yarn.flights.map (fun f => (f.op, f.status)) == [(.fcwb, some 3)] && (t.thr 9).notice.map (fun n => n.status) == some 4) = true := by decide +kernel
theorem test_fcwb : okAfter (.fcwb 9 7 5 6) { (worker [(5, 0x1F00), (6, 3)]).wr F.LAST_FCTX_CFG.COUNT 4 with lmem := [(lbase + 0x1F00, 0x42)] } (fun t =>
    t.yarn.flights.map (fun f => (f.op, f.status)) == [(.fcwb, some 0)] && ((t.ctxCached 3).map (fun c => (c.bytes.getD 0 0, c.dirty)) == some (0x42, true))) = true := by decide +kernel
theorem test_resume_instr : okAfter (.resume 8 5) ((thread0 [(5, 1)]).setTs 9 tsFault) (fun t => mayIssue (thread0 [(5, 1)]) 8 (.resume 5) &&
    t.ts 9 == tsRun && (t.thr 9).pc == 4 && (t.thr 9).g 1 == 3) = true := by decide +kernel
theorem test_resume_instr_not : okAfter (.resume 8 5) (thread0 [(5, 1)]) (fun t => (t.thr 8).pc == 7 && t.ts 9 == tsOff) = true := by decide +kernel
theorem test_frec : gives (.frec 7 5) (.frec 8 7 5) 7 0x1234 ((thread0 [(5, 0x19)]).wr (faultF 9 3) 0x1234) 8 = true := by decide +kernel
theorem test_tstate : gives (.tstate 7) (.tstate 8 7) 7 0x12 ((thread0 []).setTs 9 tsRun) 8 = true := by decide +kernel
theorem test_csrrd : gives (.csrrd false false 7 5 0) (.csrrd 8192 false false 7 5 0) 7 0x09601000 ((cobCore []).setWord 0 0x09601000) 8192 = true := by decide +kernel
theorem test_csrwr : okAfter (.csrwr 8192 false 7 5 0) (cobCore [(5, 0xA00000), (7, 0x80000001)]) (fun t => t.word 0xA00000 == 0x80000001 && (t.thr 8192).pc == 7) = true := by decide +kernel

/-! Issue cycles, faults and dispatch. -/

/-- The word at PC 6 of thread 9's image. -/
def meets (s : State) (w : W32) : State := s.modSpindle 1 (fun x => { x with bank0 := some { someImage with words := [(6, w)] } })
theorem test_issue_runs : okAfter (.threadIssueCycle 1) (meets (worker []) 0x20E00700) (fun t => (t.thr 9).g 7 == 0x700 && (t.thr 9).pc == 7 && (t.thr 9).slots == 1) = true := by decide +kernel
theorem test_issue_other_thread : okAfter (.threadIssueCycle 1) (atCycle (meets (worker []) 0x20E00700) 10) (fun t => (t.thr 9).pc == 6) = true := by decide +kernel
theorem test_issue_illegal : okAfter (.threadIssueCycle 1) (meets (worker []) 0x38000000) (fun t =>
    t.ts 9 == tsFault && t.rd (faultF 9 0) % 256 == 4 && t.rd (faultF 9 0) / 2 ^ 32 == 0x38000000 && (t.thr 8).events == 128#32) = true := by decide +kernel
theorem test_issue_beyond : okAfter (.threadIssueCycle 1) ((worker []).modThr 9 (fun x => { x with pc := 8 })) (fun t => t.ts 9 == tsFault && t.rd (faultF 9 0) % 256 == 8) = true := by decide +kernel
theorem test_issue_not_ready : okAfter (.threadIssueCycle 1) ((meets (worker []) (encodeOb (.addi 7 5 1))).modThr 9 (fun x => { x with pend := [5] })) (fun t =>
    (t.thr 9).pc == 6 && (t.thr 9).slots == 1) = true := by decide +kernel
/-- R51: a pending result holds back only an instruction that reads it. -/
theorem test_issue_pending_write : okAfter (.threadIssueCycle 1) ((meets (worker []) 0x20E00700).modThr 9 (fun x => { x with pend := [7] })) (fun t =>
    (t.thr 9).g 7 == 0x700 && (t.thr 9).pc == 7) = true := by decide +kernel
theorem test_issue_priv : okAfter (.threadIssueCycle 1) (meets (worker []) (encodeOb (.tstate 7))) (fun t => t.rd (faultF 9 0) % 256 == 2) = true := by decide +kernel
theorem test_issue_blocking : okAfter (.threadIssueCycle 1) (meets (worker [(5, 0x500220)]) (encodeOb (.ysend 7 5 0 9 true))) (fun t =>
    t.rd (faultF 9 0) % 256 == 7 && t.rd (faultF 9 1) == 0x220 && t.rd (faultF 9 2) / 2 ^ 48 == 1) = true := by decide +kernel
theorem test_issue_done_long : okAfter (.threadIssueCycle 1) (meets (longWorker []) 0x50800000) (fun t => t.rd (faultF 9 0) % 256 == 4 && t.rd (faultF 9 2) / 2 ^ 48 == 4) = true := by decide +kernel
theorem test_issue_resume_worker : okAfter (.threadIssueCycle 1) (meets (longWorker []) (encodeOb (.resume 5))) (fun t => t.rd (faultF 9 2) / 2 ^ 48 == 4) = true := by decide +kernel
theorem test_issue_body_beyond : okAfter (.threadIssueCycle 1) (meets (worker []) (encodeOb (.loop 2 0x1FFF))) (fun t => t.rd (faultF 9 2) / 2 ^ 48 == 2) = true := by decide +kernel
theorem test_issue_fifth_loop : okAfter (.threadIssueCycle 1) ((meets (worker []) (encodeOb (.loop 2 1))).modThr 9 (fun x => { x with loops := List.replicate 4 ⟨0, 20, 2⟩ })) (fun t =>
    t.rd (faultF 9 2) / 2 ^ 48 == 3) = true := by decide +kernel
theorem test_issue_bad_addr : okAfter (.threadIssueCycle 1) (meets (worker [(5, 0x1FFF)]) (encodeOb (.ld .h false 7 5 0))) (fun t =>
    t.rd (faultF 9 0) % 256 == 1 && t.rd (faultF 9 1) == 0x1FFF) = true := by decide +kernel
theorem test_issue_align : okAfter (.threadIssueCycle 1) (meets (worker [(5, 0x1001)]) (encodeOb (.ld .h false 7 5 0))) (fun t => t.rd (faultF 9 0) % 256 == 5) = true := by decide +kernel
theorem test_issue_signal_range : okAfter (.threadIssueCycle 1) (meets (worker []) (encodeOb (.signal 0 15))) (fun t =>
    t.rd (faultF 9 0) % 256 == 7 && t.rd (faultF 9 2) / 2 ^ 48 == 4) = true := by decide +kernel
theorem test_issue_t0_fault : okAfter (.threadIssueCycle 1) (meets (thread0 []) 0x38000000) (fun t =>
    t.ts 8 == tsFault && t.rd (F.MULE_EVENT.T0_FAULT 0) == 1 && (t.spindle 1).t0Fault && t.rd (F.MULE_STAT.FAULTS.CNT 0) == 1) = true := by decide +kernel
theorem test_overrun : okAfter (.overrun 9) ((working []).modThr 9 (fun x => { x with slots := 240 })) (fun t =>
    t.ts 9 == tsFault && t.rd (faultF 9 0) % 256 == 3 && t.rd (faultF 9 3) / 2 ^ 32 == 240 && t.rd (F.MULE_STAT.OVERRUNS.CNT 0) == 1 && t.reports.length == 1 && (t.thr 9).work == none) = true := by
  decide +kernel
theorem test_overrun_not : noEffect (.overrun 9) ((working []).modThr 9 (fun x => { x with slots := 239 })) = true := by decide +kernel

/-- Packet 1 is pending for dispatch, thread 9 is IDLE, and the dispatcher has chosen group 0. -/
def dispatching (entry : Nat) : State :=
  (withPkts ((withImage 0).setTs 9 tsIdle) [(1, { somePacket 0 .dispatch with entry := entry })]).setUnit 1 0 { State.reset.unit 1 0 with chosen := some (.free 0) }
theorem test_worker_dispatch : okAfter (.workerDispatch 9) (dispatching 0) (fun t => (dispatching 0).mayTake 0 9 &&
    t.ts 9 == tsRun && (t.thr 9).pc == 6 && (t.thr 9).budget == 240 && (t.thr 9).readyAt == 64 && (t.thr 9).work == some ⟨0, 1, 5, 0⟩ &&
      (t.pkt? 1).map (fun p => p.stage) == some (.worker 9) && t.groupAt 1 0 == none) = true := by decide +kernel
theorem test_worker_dispatch_no_entry : okAfter (.workerDispatch 9) (dispatching 1) (fun t =>
    t.ts 9 == tsIdle && t.rd F.CARD_STAT.DISPATCHED.CNT == 1 && t.pkt? 1 == none) = true := by decide +kernel

/-! Table 3.18: words of the worked example, and words of the other forms, written out from Table 3.1. -/

theorem test_words_example : decodeOb 0x2921C0B0 = .ok (.bfx 9 1 48 11) ∧ decodeOb 0x6969C000 = .ok (.sld .d false 11 9 0) ∧
    decodeOb 0x7460802E = .ok (.hld .w false 3 0 46) ∧ decodeOb 0x20E00700 = .ok (.movi 7 0x0700) ∧ decodeOb 0x80388C00 = .ok (.lkup 0 7 2 24) := by decide +kernel
theorem test_words_example_2 : decodeOb 0x70085010 = .ok (.satom .fetchAdd true 0 8 10) ∧ decodeOb 0x40B00008 = .ok (.br .ne 12 0 8) ∧
    decodeOb 0x4C080003 = .ok (.loop 2 3) ∧ decodeOb 0x50800000 = .ok (.done .deliver 16) ∧ decodeOb 0x52600000 = .ok (.done .slowpath 12) := by decide +kernel
/-- Form R: opcode 31:26, rd 25:21, ra 20:16, rb 15:11, fn 10:0. -/
theorem test_word_r : decodeOb 0b000000_00111_00101_00110_00000001101#32 = .ok (.alu .minU 7 5 6) := by decide +kernel
/-- Form I: opcode, rd, ra, imm 15:0. -/
theorem test_word_i : decodeOb 0b000010_00111_00101_1000000000000001#32 = .ok (.addi 7 5 0x8001) := by decide +kernel
/-- Form B: opcode, cc 25:23, ra 22:18, rb 17:13, off 12:0. -/
theorem test_word_b : decodeOb 0b010000_101_00101_00110_0000000000011#32 = .ok (.br .geu 5 6 3) := by decide +kernel
theorem test_words_illegal : decodeOb 0x38000000 = .illegal 0 ∧ decodeOb 0x20E10700 = .illegal 1 ∧ decodeOb 0x4C000003 = .illegal 2 ∧ decodeOb 0x2921C3F0 = .illegal 5 := by
  decide +kernel
theorem test_encode_words : encodeOb (.bfx 9 1 48 11) = 0x2921C0B0 ∧ encodeOb (.lkup 0 7 2 24) = 0x80388C00 ∧ encodeOb (.done .slowpath 12) = 0x52600000 := by decide +kernel

/-! ### Ethernet, time and the packet path (chapter 04) -/

/-- Port 0 of Half A is enabled and up at 1,600 Gb/s. -/
def portUp0 : State := ((opened.wr (F.ETH_PORT_CFG.EN 0) 1).wr (F.ETH_PORT_STATUS.LINK 0) 1).wr (F.ETH_PORT_STATUS.SPEED 0) 4
/-- A frame of `n` bytes with an EtherType and the two bytes after it. -/
def someFrame (n type tci : Nat) : Bytes := List.replicate 12 0 ++ toBE 2 type ++ toBE 2 tci ++ List.replicate (n - 16) 0

theorem test_refclk_loss : okAfter (.ethRefclkLoss 0) portUp0 (fun t => !t.linkUp 0 && t.net.eth.needApply == [0]) = true := by decide +kernel
theorem test_half_apply : okAfter (.ethHalfApply 0) ((portUp0.wr (F.ETH_HALF_CFG.MODE 0) 2).wr (F.ETH_HALF_CFG.APPLY 0) 1) (fun t =>
    !t.linkUp 0 && t.rd (F.ETH_HALF_CFG.APPLY 0) == 0 && t.ethMode 0 == 2 && t.portExists 2 && !t.portExists 1 && t.portExists 8 && !t.portExists 10) = true := by decide +kernel
/-- A frame of node 1, which names port 4, is dropped when mode 0 leaves no port 4. -/
theorem test_half_apply_drops : okAfter (.ethHalfApply 0)
    ({ State.reset with net := { State.reset.net with egress := { State.reset.net.egress with queues := [(8, [⟨5, 64, 0, none, none⟩])] } } }.wr (F.EGRESS_NODE_W0.PORT 1) 4) (fun t =>
    t.egQueue 1 0 == [] && t.rd F.EGRESS_STAT.DROP_NOPORT.CNT == 1) = true := by decide +kernel
theorem test_half_apply_keeps : okAfter (.ethHalfApply 0)
    ({ State.reset with net := { State.reset.net with egress := { State.reset.net.egress with queues := [(8, [⟨5, 64, 0, none, none⟩])] } } }.wr (F.EGRESS_NODE_W0.PORT 1) 8) (fun t =>
    (t.egQueue 1 0).length == 1) = true := by decide +kernel
theorem test_port_up : okAfter (.portLinkUp 0) (opened.wr (F.ETH_PORT_CFG.EN 0) 1) (fun t =>
    t.linkUp 0 && t.rd (F.ETH_PORT_STATUS.SPEED 0) == 4 && t.rd (F.ETH_PORT_STATUS.LANES 0) == 0xFF && t.rd (F.ETH_PORT_STATUS.DEGRADED 0) == 0) = true := by decide +kernel
/-- With lane 3 failed the port comes up on lanes 4 to 7, degraded. -/
theorem test_port_degraded : okAfter (.portLinkUp 0) { opened.wr (F.ETH_PORT_CFG.EN 0) 1 with repairs := [(4, 3)] } (fun t =>
    t.linkUp 0 && t.rd (F.ETH_PORT_STATUS.LANES 0) == 0xF0 && t.rd (F.ETH_PORT_STATUS.DEGRADED 0) == 1 && t.rd (F.ETH_PORT_STATUS.FAILED 0) == 8 && t.rd (F.ETH_PORT_STATUS.SPEED 0) == 3) = true := by
  decide +kernel
theorem test_port_no_lanes : okAfter (.portLinkUp 0) { portUp0 with repairs := (List.range 8).map (fun l => (4, l)) } (fun t => !t.linkUp 0 && t.rd (F.ETH_PORT_STATUS.FAILED 0) == 0xFF) = true := by
  decide +kernel
theorem test_port_not_enabled : noEffect (.portLinkUp 0) opened = true := by decide +kernel
theorem test_port_down : okAfter (.portLinkDown 0) portUp0 (fun t => !t.linkUp 0 && t.rd (F.ETH_PORT_STATUS.SPEED 0) == 0) = true := by decide +kernel
theorem test_port_down_absent : noEffect (.portLinkDown 1) portUp0 = true := by decide +kernel

theorem test_frame_bad_fcs : okAfter (.frameReceived 0 (someFrame 64 0x0800 0) false 3) portUp0 (fun t =>
    t.rd (F.ETH_STAT.RX_FCS_ERR.CNT 0) == 1 && t.rd (F.ETH_STAT.FEC_CORR.CNT 0) == 3 && t.rd (F.ETH_STAT.RX_FRAMES.CNT 0) == 0) = true := by decide +kernel
theorem test_frame_oversize : okAfter (.frameReceived 0 (someFrame 65 0x0800 0) true 0) (portUp0.wr (F.ETH_PORT_CFG.MTU 0) 64) (fun t => t.rd (F.ETH_STAT.RX_OVERSIZE.CNT 0) == 1) = true := by
  decide +kernel
theorem test_frame_runt : noEffect (.frameReceived 0 (someFrame 59 0x0800 0) true 0) portUp0 = true := by decide +kernel
theorem test_frame_pause : okAfter (.frameReceived 0 (someFrame 60 0x8808 1) true 0) portUp0 (fun t =>
    t.rd (F.ETH_STAT.RX_PAUSE.CNT 0) == 1 && t.rd (F.ETH_STAT.RX_FRAMES.CNT 0) == 1 && t.rd (F.ETH_STAT.RX_BYTES.CNT 0) == 60 && t.net.pkts == []) = true := by decide +kernel
/-- Pool 0 of Half A exists and tenant 0's partition of it is at STOP. -/
def stopped : State :=
  let s := ((portUp0.wr (F.BOBBIN_CLASS.COUNT 7) 4).wr (F.BOBBIN_CLASS.BASE 7) 262144).wr F.BOBBIN_STATUS.READY 1
  s.setMarks 0 0 7 4
theorem test_frame_at_stop : okAfter (.frameReceived 0 (someFrame 60 0x0800 0) true 0) stopped (fun t =>
    stopped.chooseClass 0 2048 true == some 7 && stopped.atStop 0 0 7 && t.rd (F.ETH_STAT.RX_NOBUF.CNT 0) == 1 && t.rd F.BOBBIN_STAT.STOP_DROP.CNT == 1) = true := by decide +kernel
theorem test_frame_port_down : noEffect (.frameReceived 0 (someFrame 60 0x0800 0) true 1) opened = true := by decide +kernel
theorem test_frame_tenant : ((portUp0.wr (F.ETH_PORT_TEN.TMAP_EN 0) 1).setWord 0xC10000 0x80070000).frameTenant 0 (someFrame 60 0x8100 0xE001) = 7 ∧
    portUp0.framePri 0 (someFrame 60 0x8100 0xE001) = 7 ∧ (portUp0.wr (F.ETH_PORT_TEN.DEF_TENANT 0) 5).frameTenant 0 (someFrame 60 0x0800 0) = 5 := by decide +kernel
/-- A PFC frame pauses priority 7 for 1 quantum: 512 bit times at 1,600 Gb/s are 2.56 units of 125 ps. -/
def pfcFrame : Bytes := List.replicate 12 0 ++ toBE 2 0x8808 ++ toBE 2 0x0101 ++ toBE 2 0x80 ++ List.replicate 14 0 ++ toBE 2 1
theorem test_pfc_received : okAfter (.pfcFrameReceived 0 pfcFrame) (atTime (portUp0.wr (F.ETH_PORT_CFG.PFC_RX_EN 0) 1) 100) (fun t =>
    t.rd (F.ETH_STAT.PFC_RX.CNT 0) == 1 && t.pauseEnd 0 7 == 102 && t.pauseEnd 0 6 == 0 && t.classPaused 0 7) = true := by decide +kernel
theorem test_pfc_ignored : okAfter (.pfcFrameReceived 0 pfcFrame) portUp0 (fun t => t.rd (F.ETH_STAT.PFC_RX.CNT 0) == 1 && t.pauseEnd 0 7 == 0) = true := by decide +kernel
theorem test_pause_expiry : okAfter (.pfcPauseExpiry 0 7) (atTime (portUp0.setPaused 0 7 102) 102) (fun t => t.pauseEnd 0 7 == 0) = true := by decide +kernel
theorem test_pause_not_over : okAfter (.pfcPauseExpiry 0 7) (atTime (portUp0.setPaused 0 7 102) 101) (fun t => t.pauseEnd 0 7 == 102) = true := by decide +kernel
/-- XOFF was sent for priority 2 at time 0 and its partition is still at STOP. -/
def xoffed : State := { (stopped.wr (F.ETH_PORT_CFG.PFC_TX_EN 0) 1).wr (F.ETH_PORT_CFG.PFC_PRI 0) 4 with net := { stopped.net with eth := { stopped.net.eth with xoff := [(2, ⟨0, [(0, 7)]⟩)] } } }
theorem test_xoff_resend : okAfter (.pfcXoffResend 0 2) (atTime xoffed (65535 * 256 * 8 / 1600 + 1)) (fun t => t.outs == [.pfc 0 2 65535] && t.rd (F.ETH_STAT.PFC_TX.CNT 0) == 1) = true := by
  decide +kernel
theorem test_xoff_early : noEffect (.pfcXoffResend 0 2) (atTime xoffed (65535 * 256 * 8 / 1600)) = true := by decide +kernel
theorem test_xon : okAfter (.pfcXoffResend 0 2) (xoffed.setMarks 0 0 7 0) (fun t => t.outs == [.pfc 0 2 0] && t.net.eth.xoff == []) = true := by decide +kernel
theorem test_xoff_none : noEffect (.pfcXoffResend 0 3) xoffed = true := by decide +kernel

theorem test_ptp_step : okAfter .stepPtp (State.reset.wr F.PTP_SET.NS 0x123456789) (fun t => t.rd F.PTP_NS.NS == 0x123456789 && t.net.ptp.frac == 0) = true := by decide +kernel
theorem test_ptp_valid : okAfter (.ptpValidWrite false) ((State.reset.wr F.STITCH_PTP_CTRL.EN 1).wr F.STITCH_PTP_CTRL.STATE 2) (fun t =>
    t.rd F.STITCH_PTP_CTRL.STATE == lockHoldover) = true := by decide +kernel
theorem test_ptp_valid_again : okAfter (.ptpValidWrite true) ((State.reset.wr F.STITCH_PTP_CTRL.EN 1).wr F.STITCH_PTP_CTRL.STATE lockHoldover) (fun t =>
    t.rd F.STITCH_PTP_CTRL.STATE == lockAcquiring && t.rd F.PTP_CTRL.VALID == 1) = true := by decide +kernel
theorem test_pps_rise : okAfter .ppsOutRise ((State.reset.wr F.PTP_CTRL.PPS_OUT_EN 1).wr F.PTP_NS.NS 3000000000) (fun t => t.outs == [.pps true] && t.net.ptp.ppsUntil == some 3000100000) = true := by
  decide +kernel
theorem test_pps_not : noEffect .ppsOutRise ((State.reset.wr F.PTP_CTRL.PPS_OUT_EN 1).wr F.PTP_NS.NS 3000000001) = true := by decide +kernel
def ppsHigh (n : Nat) : State := { State.reset.wr F.PTP_NS.NS n with net := { State.reset.net with ptp := { State.reset.net.ptp with ppsUntil := some 500 } } }
theorem test_pps_fall : okAfter .ppsOutFall (ppsHigh 500) (fun t => t.outs == [.pps false] && t.net.ptp.ppsUntil == none) = true := by decide +kernel
theorem test_pps_fall_early : noEffect .ppsOutFall (ppsHigh 499) = true := by decide +kernel
theorem test_pps_in : okAfter .ppsInEdge ((State.reset.wr F.PTP_CTRL.PPS_IN_EN 1).wr F.PTP_NS.NS 77) (fun t => t.rd F.PTP_PPS_IN.NS == 77 && t.rd F.PTP_CTRL.PPS_IN_SEEN == 1) = true := by decide +kernel
theorem test_pps_in_off : noEffect .ppsInEdge State.reset = true := by decide +kernel

/-- Bobbin 5 of Half A (class 1, 512 bytes) holds `bs` from byte 128 on and belongs to the Editor. -/
def bobbin5 (s : State) (bs : Bytes) : State :=
  { s.setDesc 5 { next := 0, refcnt := 0, len := bs.length, cls := 1, tenant := 0, owner := editorEp 0, alloc := false, track := false, off := 128, held := true } with
    mem := Memory.write s.mem (s.bobAddr 5 + 128) bs }
/-- Packet 1 lies in bobbin 5 in a stage. -/
def withPacket (s : State) (bs : Bytes) (st : PktStage) (f : Packet → Packet) : State :=
  withPkts (bobbin5 s bs) [(1, f { somePacket 0 st with len := bs.length })]

def egressing (f : EgFrame) : State :=
  let s := (bobbin5 portUp0 (someFrame 64 0x0800 0)).wr (F.EGRESS_NODE_W0.EN 0) 1
  { s with net := { s.net with egress := { s.net.egress with queues := [(3, [f])] } } }
theorem test_egress_start : okAfter (.egressFrameStart 0) (egressing ⟨5, 64, 0, some 0x42, none⟩) (fun t =>
    t.egQueue 0 3 == [] && t.outs == [.ethFrame 0 (someFrame 64 0x0800 0)] && t.rd (F.ETH_STAT.TX_FRAMES.CNT 0) == 1 && t.rd (F.ETH_STAT.TX_BYTES.CNT 0) == 64 &&
      t.txts 0 == [(0, 0x42)] && t.rd (F.PTP_TXTS_W8.VALID 0) == 1 && AMap.getD t.net.egress.busy 0 0 == 88 * 64 / 1600) = true := by decide +kernel
theorem test_egress_paused : noEffect (.egressFrameStart 0) ((egressing ⟨5, 64, 0, none, none⟩).setPaused 0 3 50) = true := by decide +kernel
theorem test_egress_busy : noEffect (.egressFrameStart 0) { egressing ⟨5, 64, 0, none, none⟩ with
    net := { (egressing ⟨5, 64, 0, none, none⟩).net with egress := { (egressing ⟨5, 64, 0, none, none⟩).net.egress with busy := [(0, 1)] } } } = true := by decide +kernel
theorem test_shaper_early : noEffect .shaperRefill (atTime State.reset 3276) = true := by decide +kernel
theorem test_shaper_refill : okAfter .shaperRefill (atTime ((State.reset.wr (F.EGRESS_PORT_W0.RATE 3) 7).wr (F.EGRESS_PORT_W4.BURST 3) 1) 3277) (fun t =>
    AMap.getD t.net.egress.portBucket 3 0 == 512 * 7 && t.net.egress.refills == 1) = true := by decide +kernel

/-! Card lanes. -/

/-- Microcode whose state 0 matches always and ends with decision 9, marking layer 2 and setting tag bit 5. -/
def acceptCode : Microcode := { pg := [(0, BitVec.ofNat 32 (2 ^ 30 + 9 * 2 ^ 21)), (2, BitVec.ofNat 32 (2 ^ 10 + 2 * 2 ^ 11)), (3, BitVec.ofNat 32 (2 ^ 7 + 5 * 2 ^ 8))], tr := [], dec := [] }
theorem test_parse_accept : (let r := acceptCode.parse (List.replicate 64 7) 0 3 0; (r.decision, r.rejected, r.layers[2]?, r.tag, r.count)) = (9, false, some 0, 32, 1) := by decide +kernel
theorem test_parse_reject : (let r := (Microcode.mk [(0, BitVec.ofNat 32 (2 ^ 31))] [] []).parse (List.replicate 64 7) 0 3 0; (r.decision, r.rejected, r.trunc, r.count)) = (3, true, false, 1) := by decide +kernel
theorem test_card_commit : okAfter (.cardCommit 1) (atCycle opened 9) (fun t => t.rd F.CARD_COMMIT.PENDING == 1 && t.net.card.goAt == some 9) = true := by decide +kernel
theorem test_card_commit_w1c : okAfter (.cardCommit 0x60000000) ((opened.wr F.CARD_COMMIT.BUSY_WRITE 1).wr F.CARD_COMMIT.DONE 1) (fun t => t.word 0x600010 == 0) = true := by decide +kernel
def cardGoing (n : Nat) : State := atCycle { opened with net := { opened.net with card := { opened.net.card with shadow := acceptCode, goAt := some 5 } } } n
theorem test_card_swap : okAfter .cardSwap (cardGoing 2053) (fun t => t.net.card.active == acceptCode && t.net.card.shadow == (cardGoing 0).net.card.active && t.rd F.CARD_COMMIT.DONE == 1) = true := by decide +kernel
theorem test_card_swap_early : noEffect .cardSwap (cardGoing 2052) = true := by decide +kernel
/-- Packet 1 waits for admission on Half A and lane 0 has chosen group 0. -/
def admitting : State :=
  let s := withPacket opened (someFrame 64 0x0800 0) .admission id
  { s.setUnit 0 0 { s.unit 0 0 with chosen := some (.free 0) } with net := { s.net with card := { s.net.card with active := acceptCode } } }
theorem test_card_admission : okAfter (.cardAdmission 0) admitting (fun t =>
    (t.pkt? 1).map (fun p => (p.stage, p.parse.map (fun r => r.decision))) == some (.parsing 0 0, some 9) && t.groupAt 0 0 == none) = true := by decide +kernel
theorem test_card_admission_no_choice : noEffect (.cardAdmission 3) admitting = true := by decide +kernel
def parsed (dec : Nat) : State :=
  withPacket opened (someFrame 64 0x0800 0) (.parsing 4 0) (fun p => { p with parse := some (acceptCode.parse (someFrame 64 0x0800 0) 0 3 0), dec := dec })
theorem test_parse_end_early : noEffect (.parseEnd 1) (atCycle (parsed 0) 31) = true := by decide +kernel
/-- The decision names profile 2 for lookup 0, no lookup 1, and class 6. -/
theorem test_parse_end_lookups : okAfter (.parseEnd 1) (atCycle (parsed (2 * 2 ^ 49 + 31 * 2 ^ 40 + 2 ^ 32 + 6 * 2 ^ 33)) 32) (fun t =>
    (t.pkt? 1).map (fun p => (p.stage, p.tc, p.prof0, p.prof1)) == some (.lookups 32, 6, some (0, 2), none) && t.rd F.CARD_STAT.PARSED.CNT == 1 && t.rd F.LAST_STAT.LOOKUPS.CNT == 1) = true := by
  decide +kernel
theorem test_parse_end_drop : okAfter (.parseEnd 1) (atCycle (parsed (2 ^ 62)) 32) (fun t => t.pkt? 1 == none && t.rd F.CARD_STAT.DEC_DROP.CNT == 1) = true := by decide +kernel
theorem test_parse_end_slow : okAfter (.parseEnd 1) (atCycle (parsed (2 ^ 63)) 32) (fun t => t.pkt? 1 == none && t.rd F.EDIT_STAT.SP_DROP.CNT == 1) = true := by decide +kernel
def slowOn (s : State) : State := (withEpoch s 2).wr (F.EDIT_SP_DST.EN 0) 1 |>.wr (F.EDIT_SP_DST.EPOCH 0) 1 |>.wr (F.EDIT_SP_DST.ENDPOINT 0) dst17
theorem test_slow_path : okAfter (.parseEnd 1) (atCycle (slowOn (parsed (2 ^ 63))) 32) (fun t =>
    t.pkt? 1 == none && t.rd F.EDIT_STAT.SP_SENT.CNT == 1 && (t.queueAt dst17).map (fun m => (m.tag, m.words.length)) == [(0x3E, 4)] && (t.desc 5).owner == dst17) = true := by decide +kernel

/-! Lookups, flows and updates. -/

def lookupsOn (p0 : Option (Nat × Nat)) (c : Nat) : State := atCycle (withPacket opened (someFrame 64 0x0800 0) (.lookups 0) (fun p => { p with prof0 := p0 })) c
theorem test_pre_dispatch_waits : noEffect (.preDispatchWaitEnd 1 false false) (lookupsOn (some (0, 2)) 511) = true := by decide +kernel
theorem test_pre_dispatch_late : okAfter (.preDispatchWaitEnd 1 false false) (lookupsOn (some (0, 2)) 512) (fun t =>
    (t.pkt? 1).map (fun p => (p.stage, p.lk0.status)) == some (.dispatch, 2) && t.rd F.CARD_STAT.PRE_LATE.CNT == 1) = true := by decide +kernel
theorem test_pre_dispatch_none : okAfter (.preDispatchWaitEnd 1 false false) (lookupsOn none 0) (fun t => (t.pkt? 1).map (fun p => (p.stage, p.lk0.status)) == some (.dispatch, 4)) = true := by
  decide +kernel
/-- Flow context 3 is cached on Half A; control word VALID, ACTION, two words. -/
def ctxBytes3 : Bytes := [0, 0, 0, 0xC0, 2, 0, 0, 0] ++ List.replicate 24 0 ++ [1, 0, 0, 0, 0, 0, 0, 0, 2, 0, 0, 0, 0, 0, 0, 0] ++ List.replicate 208 0
def flowing (s : State) : State :=
  let s := s.wr F.LAST_FCTX_CFG.COUNT 4
  s.setLast { s.net.last with cache := [(3, ⟨ctxBytes3, false⟩)], tabsA := { s.net.last.tabsA with rules := [(5, ⟨List.replicate 40 0, List.replicate 40 0, [3, 0, 0, 0x80] ++ List.replicate 12 0⟩)] } }
/-- A rule profile (VALID, table 3, key length 1, base 5, count 1, FLOW_EN). -/
def ruleProfile : Nat := 2 ^ 63 + 3 * 2 ^ 60 + 2 ^ 52 + 5 * 2 ^ 36 + 2 ^ 20 + 2 ^ 19
theorem test_rule_hit : ((flowing opened).lookup 0 ruleProfile 2 0 (List.replicate 8 9)).1 = ⟨0, [3, 0, 0, 0x80] ++ List.replicate 12 0 ++ [5, 0] ++ List.replicate 14 0⟩ := by decide +kernel
theorem test_rule_miss : (opened.lookup 0 ruleProfile 2 0 (List.replicate 8 9)).1 = ⟨1, []⟩ := by decide +kernel
theorem test_profile_invalid : (opened.lookup 0 (2 ^ 63 + 2 ^ 60 + 2 * 2 ^ 52) 2 0 []).1 = ⟨3, [2, 4]⟩ := by decide +kernel
theorem test_prefix_longest : (({ opened with net := { opened.net with last := { opened.net.last with tabsA := ⟨[], [⟨false, 0, 0x0A000000, 8, 1⟩, ⟨false, 0, 0x0A010000, 16, 2⟩], []⟩ } } }).lookup 0
    (2 ^ 63 + 2 ^ 60 + 2 ^ 52) 2 0 [3, 2, 1, 0x0A, 0, 0, 0, 0]).1 = ⟨0, [2, 0, 0, 0, 0, 0, 16, 0]⟩ := by decide +kernel
theorem test_em_no_extension : ((opened.lookup 0 (2 ^ 63 + 2 ^ 52) 2 0 (List.replicate 8 9)).1.status = 1) := by decide +kernel
def withDecision (s : State) (bypass : Bool) : State :=
  let r := acceptCode.parse (someFrame 64 0x0800 0) 0 3 0
  withPacket (flowing s) (someFrame 64 0x0800 0) (.lookups 0) (fun p => { p with prof0 := some (ruleProfile, 2), bypass := bypass, parse := some r, dec := 2 ^ 54 })
theorem test_flow_bypass : okAfter (.preDispatchWaitEnd 1 true false) (withDecision opened true) (fun t =>
    (t.pkt? 1).map (fun p => (p.stage, p.flow, p.flowSt, p.list)) == some (.editor, some 3, 1, [1, 2]) && t.rd F.CARD_STAT.BYPASSED.CNT == 1 &&
      ((t.ctxCached 3).map (fun c => (leAt c.bytes 8 8, leAt c.bytes 0x10 8, c.dirty))) == some (1, 64, true)) = true := by decide +kernel
theorem test_flow_dispatch : okAfter (.preDispatchWaitEnd 1 true false) (withDecision opened false) (fun t =>
    (t.pkt? 1).map (fun p => (p.stage, p.flow)) == some (.dispatch, some 3) && t.rd F.LAST_STAT.HITS.CNT == 1) = true := by decide +kernel
def heldFlow (s : State) : State := s.setLast { s.net.last with holders := [(3, ⟨9, 0⟩)] }
theorem test_flow_held : okAfter (.preDispatchWaitEnd 1 true false) (heldFlow (withDecision opened false)) (fun t =>
    (t.pkt? 1).map (fun p => p.stage) == some .hold && t.net.last.holdList == [1]) = true := by decide +kernel
theorem test_flow_release : okAfter (.flowHoldRelease 3) (after (.preDispatchWaitEnd 1 true false) (heldFlow (withDecision opened false))) (fun t =>
    (t.pkt? 1).map (fun p => (p.stage, p.held)) == some (.dispatch, true) && t.net.last.holdList == [] && !t.ctxHeld 3) = true := by decide +kernel
theorem test_flow_still_held : noEffect (.flowHoldRelease 3) ((heldFlow opened).modThr 9 (fun x => { x with work := some ⟨0, 1, 5, 0⟩ })) = true := by decide +kernel
theorem test_flow_not_held : noEffect (.flowHoldRelease 3) opened = true := by decide +kernel
theorem test_fctx_fill_lost : okAfter (.fctxFill 3) (opened.setLast { opened.net.last with fetches := [(3, 7)] }) (fun t => t.net.last.fetches == [] && t.net.last.cache == []) = true := by decide +kernel
theorem test_fctx_fill_none : noEffect (.fctxFill 3) opened = true := by decide +kernel
theorem test_reinjection : okAfter (.controlReinjection 0) ((bobbin5 opened (someFrame 64 0x0800 0)).setQueue (editorEp 0) [someMsg 1 (editorEp 0) 0 1 |> fun m => { m with words := [5] }]) (fun t =>
    (t.pkt? 1).map (fun p => (p.source, p.handle, p.len, p.stage)) == some (3, 5, 64, .admission) && t.queueAt (editorEp 0) == []) = true := by decide +kernel
theorem test_reinjection_none : noEffect (.controlReinjection 0) opened = true := by decide +kernel

/-- LAST_UPD_CMD asks for an operation with profile 2, tenant 4, index and length, and its data. -/
def updAsked (op idx plen : Nat) (data : List (Nat × Nat)) (prof : Nat) : State :=
  let s := (((((opened.wr F.LAST_UPD_CMD.BUSY 1).wr F.LAST_UPD_CMD.OP op).wr F.LAST_UPD_CMD.PROFILE 2).wr F.LAST_UPD_CMD.TENANT 4).wr F.LAST_UPD_CMD.INDEX idx).wr F.LAST_UPD_CMD.PLEN plen
  let s := data.foldl (fun s e => s.wr (F.LAST_UPD_DATA.W e.1) e.2) (s.setWord 0x800010 prof)
  s.setLast { s.net.last with goWord := s.word 0x800300 }
theorem test_em_wrong_profile : okAfter .emInsert (updAsked 1 0 0 [] 0) (fun t => t.net.last.upd == some ⟨none, 2, 4⟩) = true := by decide +kernel
theorem test_em_wrong_op : noEffect .emUpsert (updAsked 1 0 0 [] 0) = true := by decide +kernel
theorem test_pfx_add : okAfter .pfxAdd (updAsked 4 0 16 [(0, 0x0A010000), (12, 2)] (2 ^ 63 + 2 ^ 60 + 2 ^ 52)) (fun t =>
    t.net.last.upd == some ⟨none, 0, 0⟩ && t.net.last.tabsA.prefixes == [⟨false, 0, 0x0A010000, 16, 2⟩] && t.net.last.tabsB.prefixes == []) = true := by decide +kernel
theorem test_pfx_add_bits : okAfter .pfxAdd (updAsked 4 0 15 [(0, 0x0A010000)] (2 ^ 63 + 2 ^ 60 + 2 ^ 52)) (fun t => t.net.last.upd == some ⟨none, 2, 5⟩) = true := by decide +kernel
theorem test_pfx_del_missing : okAfter .pfxDel (updAsked 5 0 16 [(0, 0x0A010000)] (2 ^ 63 + 2 ^ 60 + 2 ^ 52)) (fun t => t.net.last.upd == some ⟨none, 4, 2⟩) = true := by decide +kernel
theorem test_pfx_del : okAfter .pfxDel ((updAsked 5 0 16 [(0, 0x0A010000)] (2 ^ 63 + 2 ^ 60 + 2 ^ 52)).setTabsA ⟨[], [⟨false, 0, 0x0A010000, 16, 2⟩], []⟩) (fun t =>
    t.net.last.upd == some ⟨none, 0, 0⟩ && t.net.last.tabsA.prefixes == []) = true := by decide +kernel
theorem test_rule_write : okAfter .ruleWrite (updAsked 6 32767 0 [(0, 0x11), (16, 0xFF), (32, 0x22)] 0) (fun t =>
    t.net.last.upd == some ⟨none, 0, 0⟩ && (AMap.get? t.net.last.tabsA.rules 32767).map (fun r => (r.value.headD 0, r.mask.headD 0, r.result.headD 0)) == some (0x11, 0xFF, 0x22)) = true := by decide +kernel
theorem test_rule_clear_range : okAfter .ruleClear (updAsked 7 32768 0 [] 0) (fun t => t.net.last.upd == some ⟨none, 4, 6⟩) = true := by decide +kernel
theorem test_fctx_write : okAfter .fctxWrite ((updAsked 8 3 0 [(1, 0x44)] 0).wr F.LAST_FCTX_CFG.COUNT 4) (fun t =>
    t.net.last.upd == some ⟨none, 0, 0⟩ && (t.ctxCached 3).map (fun c => (c.bytes.getD 4 0, c.dirty)) == some (0x44, true)) = true := by decide +kernel
theorem test_fctx_write_range : okAfter .fctxWrite (updAsked 8 3 0 [] 0) (fun t => t.net.last.upd == some ⟨none, 4, 6⟩) = true := by decide +kernel
theorem test_upd_done : okAfter .lastUpdateDone (after .ruleClear (updAsked 7 32768 0 [] 0)) (fun t =>
    t.rd F.LAST_UPD_CMD.BUSY == 0 && t.rd F.LAST_UPD_STATUS.DONE == 1 && t.rd F.LAST_UPD_STATUS.STATUS == 4 && t.rd F.LAST_UPD_STATUS.DETAIL == 6 && t.rd F.LAST_STAT.UPDATE_FAIL.CNT == 1) = true := by
  decide +kernel
theorem test_upd_done_copies : okAfter .lastUpdateDone (after .ruleWrite (updAsked 6 1 0 [] 0)) (fun t => (AMap.get? t.net.last.tabsB.rules 1).isSome && t.rd F.LAST_STAT.UPDATES.CNT == 1) = true := by
  decide +kernel
theorem test_upd_bad_op : okAfter .lastUpdateDone (updAsked 9 0 0 [] 0) (fun t => t.rd F.LAST_UPD_STATUS.STATUS == 2 && t.rd F.LAST_UPD_CMD.BUSY == 0) = true := by decide +kernel

/-! The Editor. -/

/-- A packet in bobbin 5 that stands before one word, with layers 0 at 0 and 1 at 14. -/
def before (s : State) (w : W64) (bs : Bytes) : State :=
  withPacket s bs (.running 0) (fun p => { p with list := [w], layers := [0, 14, 34, noLayer, noLayer, noLayer, noLayer, noLayer] })
def aWord (op rest : Nat) : W64 := BitVec.ofNat 64 (op * 2 ^ 56 + rest)
def bytesAfter (c : Instr) (s : State) (q : Bytes → Bool) : Bool :=
  okAfter c s (fun t => match t.pkt? 1 with | some p => p.stage == .running 1 && q (t.pktBytes p) | none => false)
/-- The list's fault sends the packet to the slow path, which is not enabled, and is counted. -/
def malformedAfter (c : Instr) (s : State) : Bool :=
  okAfter c s (fun t => t.pkt? 1 == none && t.rd F.EDIT_STAT.MALFORMED.CNT == 1 && t.rd F.EDIT_STAT.SP_DROP.CNT == 1)
/-- An IPv4 header of 20 bytes (TTL `ttl`, protocol, addresses 0) after an Ethernet header, with a valid checksum. -/
def ip4 (ttl proto sum : Nat) : Bytes := List.replicate 12 0 ++ [8, 0, 0x45, 0, 0, 50, 0, 0, 0, 0] ++ toBE 1 ttl ++ toBE 1 proto ++ toBE 2 sum ++ List.replicate 38 0

theorem test_list_fault : listFault [aWord 0x14 0] = 0 ∧ listFault [] ≠ 0 ∧ listFault [aWord 0x14 1] ≠ 0 ∧
    listFault [aWord 0x01 (2 ^ 32 * 5), aWord 0x14 0] ≠ 0 ∧ listFault [aWord 0x01 (2 ^ 32 * 4), aWord 0x14 0] = 0 := by decide +kernel
theorem test_release : okAfter (.editorPacketRelease 1) (withPacket opened (someFrame 64 0x0800 0) .editor (fun p => { p with list := [aWord 0x14 0], dirty := some (3, [9]) })) (fun t =>
    (t.pkt? 1).map (fun p => (p.stage, (t.pktBytes p).getD 3 0)) == some (.running 0, 9) && t.rd F.EDIT_STAT.LISTS.CNT == 1) = true := by decide +kernel
theorem test_release_malformed : malformedAfter (.editorPacketRelease 1) (withPacket opened (someFrame 64 0x0800 0) .editor id) = true := by decide +kernel
/-- An ordered port's later packet of a class waits for an earlier one. -/
theorem test_release_waits : noEffect (.editorPacketRelease 1) { withPkts opened [(0, somePacket 0 .dispatch), (1, { somePacket 0 .editor with list := [aWord 0x14 0] })] with freeCtr := 0 } = true := by
  decide +kernel
theorem test_set : bytesAfter (.set 1) (before opened (aWord 0x01 (2 ^ 48 * 2 + 2 ^ 32 * 3 + 0xAABBCC)) (someFrame 64 0x0800 0)) (fun b => b.take 6 == [0, 0, 0xAA, 0xBB, 0xCC, 0]) = true := by decide +kernel
theorem test_set_beyond : malformedAfter (.set 1) (before opened (aWord 0x01 (2 ^ 48 * 254 + 2 ^ 32 * 3)) (someFrame 64 0x0800 0)) = true := by decide +kernel
theorem test_vlan_push : bytesAfter (.vlanPush 1) (before opened (aWord 0x02 0x8100E005) (someFrame 64 0x0800 0)) (fun b => b.length == 68 && sliceB b 12 6 == [0x81, 0, 0xE0, 5, 8, 0]) = true := by
  decide +kernel
theorem test_vlan_push_growth : malformedAfter (.vlanPush 1) ((before opened (aWord 0x02 0x8100E005) (someFrame 64 0x0800 0)).modPkt 1 (fun p => { p with growth := 125 })) = true := by decide +kernel
theorem test_vlan_pop : bytesAfter (.vlanPop 1) (before opened (aWord 0x03 0) (someFrame 64 0x8100 0xE005)) (fun b => b.length == 60) = true := by decide +kernel
theorem test_vlan_pop_none : okAfter (.vlanPop 1) (before opened (aWord 0x03 0) (someFrame 64 0x0800 0)) (fun t =>
    (t.pkt? 1).map (fun p => (p.stage, p.len)) == some (.running 1, 64) && t.rd F.EDIT_STAT.SKIPPED.CNT == 1) = true := by decide +kernel
theorem test_decap : bytesAfter (.decap 1) (before opened (aWord 0x06 1) (someFrame 64 0x0800 0x1234)) (fun b => b.length == 50 && b.take 2 == [0x12, 0x34]) = true := by decide +kernel
theorem test_decap_unmarked : malformedAfter (.decap 1) (before opened (aWord 0x06 3) (someFrame 64 0x0800 0)) = true := by decide +kernel
/-- Template 1 holds an Ethernet, IPv4 and UDP header of 42 bytes, no checksum of the UDP asked. -/
def vxlanTpl (s : State) : State :=
  let h : Bytes := List.replicate 12 0 ++ [8, 0, 0x45, 0, 0, 0, 0, 0, 0, 0, 64, 17, 0, 0] ++ List.replicate 8 0 ++ [0, 0, 0x12, 0xB5, 0, 0, 0, 0]
  (((List.range 12).foldl (fun s k => s.wr (F.EDIT_TPL.W (32 + 4 + k)) (leAt (h ++ [0, 0, 0, 0, 0, 0]) (4 * k) 4)) s).wr (F.EDIT_TPL.W 32) 42)
theorem test_encap_vxlan : bytesAfter (.encapVxlan 1) (before (vxlanTpl opened) (aWord 0x04 (2 ^ 48 + 0x112233)) (someFrame 64 0x0800 0)) (fun b =>
    b.length == 114 && sliceB b 36 2 == [0x12, 0xB5] && sliceB b 38 2 == [0, 80] && sliceB b 42 8 == [8, 0, 0, 0, 0x11, 0x22, 0x33, 0] && sliceB b 16 2 == [0, 100] && onesSum (sliceB b 14 20) == 65535) = true := by
  decide +kernel
theorem test_encap_bad_template : malformedAfter (.encapVxlan 1) (before opened (aWord 0x04 (2 ^ 48)) (someFrame 64 0x0800 0)) = true := by decide +kernel
theorem test_encap_geneve_bad : malformedAfter (.encapGeneve 1) (before opened (aWord 0x05 (2 ^ 48)) (someFrame 64 0x0800 0)) = true := by decide +kernel
theorem test_csum_l3 : bytesAfter (.csum 1) (before opened (aWord 0x07 0x101) (ip4 64 17 0)) (fun b => onesSum (sliceB b 14 20) == 65535) = true := by decide +kernel
theorem test_csum_l4_other : okAfter (.csum 1) (before opened (aWord 0x07 0x221) (ip4 64 1 0)) (fun t => t.rd F.EDIT_STAT.SKIPPED.CNT == 1) = true := by decide +kernel
theorem test_csum_l4_udp : bytesAfter (.csum 1) (before opened (aWord 0x07 0x221) (ip4 64 17 0)) (fun b => onesSum (toBE 2 (pseudoSum b 14 17 30) ++ sliceB b 34 30) == 65535) = true := by decide +kernel
theorem test_csum_unmarked : malformedAfter (.csum 1) (before opened (aWord 0x07 0x103) (ip4 64 17 0)) = true := by decide +kernel
theorem test_ttl_dec : bytesAfter (.ttlDec 1) (before opened (aWord 0x0B 1) (ip4 64 17 0x7ABC)) (fun b => sliceB b 22 1 == [63] && onesSum (sliceB b 14 20) == 65535 - (65535 - onesSum (sliceB (ip4 64 17 0x7ABC) 14 20)) % 65535) = true := by
  decide +kernel
theorem test_ttl_expired : okAfter (.ttlDec 1) (before opened (aWord 0x0B 1) (ip4 1 17 0)) (fun t => t.pkt? 1 == none && t.rd F.EDIT_STAT.MALFORMED.CNT == 0 && t.rd F.EDIT_STAT.SP_DROP.CNT == 1) = true := by
  decide +kernel
theorem test_crypto : okAfter (.crypto 1) (before opened (aWord 0x08 (2 ^ 20 * 4 + 77)) (someFrame 64 0x0800 0)) (fun t =>
    (t.pkt? 1).map (fun p => p.stage) == some (.cipher 0) && t.cipher.jobs.map (fun j => (j.owner, j.op, j.session)) == [(.inline 1 0, 20, 77)]) = true := by decide +kernel
theorem test_to_port : okAfter (.toPort 1) (before portUp0 (aWord 0x10 (2 ^ 8 * 3 + 2 ^ 12 + 2 ^ 32 * 0x42)) (someFrame 64 0x0800 0)) (fun t =>
    t.pkt? 1 == none && t.egQueue 0 3 == [⟨5, 64, 0, some 0x42, none⟩]) = true := by decide +kernel
theorem test_to_port_mtu : okAfter (.toPort 1) (before (portUp0.wr (F.ETH_PORT_CFG.MTU 0) 63) (aWord 0x10 0) (someFrame 64 0x0800 0)) (fun t =>
    t.rd F.EDIT_STAT.MTU_DROP.CNT == 1 && t.rd F.EDIT_STAT.DELIVERY_DROP.CNT == 1 && t.pkt? 1 == none) = true := by decide +kernel
theorem test_to_port_down : okAfter (.toPort 1) (before opened (aWord 0x10 0) (someFrame 64 0x0800 0)) (fun t =>
    t.rd F.EDIT_STAT.MTU_DROP.CNT == 0 && t.rd F.EDIT_STAT.DELIVERY_DROP.CNT == 1 && t.egQueue 0 0 == []) = true := by decide +kernel
theorem test_to_port_limit : okAfter (.toPort 1) (before (portUp0.wr (F.EGRESS_QCFG.QLIMIT 0) 0) (aWord 0x10 0) (someFrame 64 0x0800 0)) (fun t =>
    t.rd F.EGRESS_STAT.DROP_QLIMIT.CNT == 1 && t.egQueue 0 0 == []) = true := by decide +kernel
/-- R172: ECT(1) becomes CE, and a valid header checksum is adjusted to one that is still valid. -/
theorem test_ecn_mark : (ecnMark (ip4 64 17 0)).isNone ∧ ((ecnMark (putB (ip4 64 17 0x7ABB) 15 [1])).map (fun b => (b.getD 15 0, onesSum (sliceB b 14 20))) = some (3, 65535)) := by decide +kernel
theorem test_to_hostq_none : okAfter (.toHostq 1) (before opened (aWord 0x11 7) (someFrame 64 0x0800 0)) (fun t => t.pkt? 1 == none && t.rd F.EDIT_STAT.DELIVERY_DROP.CNT == 1) = true := by decide +kernel
theorem test_to_peer_invalid : okAfter (.toPeer 1) (before opened (aWord 0x12 0) (someFrame 64 0x0800 0)) (fun t => t.pkt? 1 == none && t.rd F.EDIT_STAT.DELIVERY_DROP.CNT == 1) = true := by decide +kernel
/-- Window 3 of Eyelet port 0 maps 4 KiB of link 1, function 2, BAR 0 at 0x5000 for writes, and port 0 has chosen group 0. -/
def peerWindow (s : State) : State :=
  let s := (s.setWord (0x1720000 + 16 * 3) (2 ^ 63 + 2 ^ 61 + 2 ^ 58 + 2 * 2 ^ 55 + 12 * 2 ^ 46)).setWord (0x1720008 + 16 * 3) 0x5000
  s.setUnit 5 0 { s.unit 5 0 with chosen := some (.free 0) }
theorem test_to_peer : okAfter (.toPeer 1) (peerWindow (before opened (aWord 0x12 (2 ^ 40 * 3 + 0xFC0)) (someFrame 64 0x0800 0))) (fun t =>
    t.pkt? 1 == none && t.outs == [.eyeWrite 1 2 0 0x5FC0 (someFrame 64 0x0800 0)] && t.groupAt 5 0 == none) = true := by decide +kernel
theorem test_to_peer_beyond : okAfter (.toPeer 1) (peerWindow (before opened (aWord 0x12 (2 ^ 40 * 3 + 0xFC1)) (someFrame 64 0x0800 0))) (fun t => t.outs == [] && t.pkt? 1 == none) = true := by decide +kernel
theorem test_to_control : okAfter (.toControl 1) (before sendOn (aWord 0x13 (0x100000 + dst17)) (someFrame 64 0x0800 0)) (fun t =>
    t.pkt? 1 == none && (t.queueAt dst17).map (fun m => (m.tag, m.epoch, m.words.length)) == [(0x3F, 1, 4)] && t.rd F.EDIT_STAT.SP_SENT.CNT == 1) = true := by decide +kernel
theorem test_to_control_stale : okAfter (.toControl 1) (before sendOn (aWord 0x13 (0x200000 + dst17)) (someFrame 64 0x0800 0)) (fun t => t.pkt? 1 == none && t.queueAt dst17 == [] && t.rd F.EDIT_STAT.SP_DROP.CNT == 1) = true := by
  decide +kernel
theorem test_drop : okAfter (.drop 1) (before (opened.wr (F.BOBBIN_CLASS.COUNT 0) 16) (aWord 0x14 0) (someFrame 64 0x0800 0)) (fun t => t.pkt? 1 == none && !(t.desc 5).held && t.rd F.BOBBIN_STAT.FREES.CNT == 1) = true := by decide +kernel
theorem test_slow_words : ({ somePacket 3 .dispatch with tc := 6, dec := 2 ^ 54, prof0 := some (2 ^ 19, 0), lk0 := ⟨0, toLE 4 (2 ^ 31 + 7)⟩, port := 9, entry := 31, qref := 8, timestamp := 4 }).slowWords 2 4 7 =
    [BitVec.ofNat 64 (5 + 2 ^ 24 * 64 + 2 ^ 40 * 4 + 2 ^ 48 * 7 + 2 ^ 56 * 31), BitVec.ofNat 64 (3 + 2 ^ 12 * 6 + 2 ^ 15 + 2 ^ 16 * 7 + 2 ^ 38 * 9 + 2 ^ 62 * 2), 4, BitVec.ofNat 64 (2 ^ 32 * 8)] := by
  decide +kernel
theorem test_mirror_off : okAfter (.mirror 1) (before opened (aWord 0x09 63) (someFrame 64 0x0800 0)) (fun t => (t.pkt? 1).map (fun p => p.stage) == some (.running 1) && t.rd F.EDIT_STAT.MIRROR_DROP.CNT == 0) = true := by
  decide +kernel
/-- With no pool carved the copy of a mirror has no bobbin. -/
theorem test_mirror_no_bobbin : okAfter (.mirror 1) (before (opened.wr (F.EDIT_MIRROR.EN 63) 1) (aWord 0x09 63) (someFrame 64 0x0800 0)) (fun t =>
    (t.pkt? 1).map (fun p => p.stage) == some (.running 1) && t.rd F.EDIT_STAT.MIRROR_DROP.CNT == 1) = true := by decide +kernel
theorem test_mirror_sample : okAfter (.mirror 1) { before ((opened.wr (F.EDIT_MIRROR.EN 63) 1).wr (F.EDIT_MIRROR.SAMPLE 63) 2) (aWord 0x09 63) (someFrame 64 0x0800 0) with
    net := { (before ((opened.wr (F.EDIT_MIRROR.EN 63) 1).wr (F.EDIT_MIRROR.SAMPLE 63) 2) (aWord 0x09 63) (someFrame 64 0x0800 0)).net with mirrorSkip := [(63, 1)] } } (fun t =>
    AMap.getD t.net.mirrorSkip 63 0 == 2 && t.rd F.EDIT_STAT.MIRROR_DROP.CNT == 0) = true := by decide +kernel

/-! ### Cipher engines (chapter 05) -/

/-- The plaintext of a session: kind, flags, tenant, next counter value, limits, and a first key byte. -/
def plainOf (kind flags ten ctr soft hard key : Nat) : Bytes :=
  toLE 1 kind ++ toLE 1 flags ++ toLE 2 ten ++ List.replicate 28 0 ++ toLE 1 key ++ List.replicate 63 0 ++
    toLE 8 ctr ++ toLE 8 soft ++ toLE 8 hard ++ List.replicate 104 0
/-- Session 5 of Half A stands in a key slot; endpoint `dst17` takes messages; sessions 8 to 15 are Half B's. -/
def withSession (p : Bytes) (st : Nat) : State :=
  let s := (sendOn.wr F.CIPHER_SESS_CFG.COUNT 16).wr F.CIPHER_SESS_CFG.SPLIT 8
  { s with cipher := { s.cipher with slots := [(5, ⟨p, st, 0⟩)], installed := [5], nextId := 10 } }
def gcmSession : State := withSession (plainOf 2 0 3 4 100 200 1) 1
/-- The 64 bytes of a CSUB from memory to memory. -/
def jobBytes (op ctl sess len : Nat) : Bytes :=
  toLE 1 op ++ toLE 1 ctl ++ toLE 2 0 ++ toLE 4 sess ++ toLE 8 0x1000 ++ toLE 8 0x2000 ++ toLE 4 len ++ toLE 4 0 ++ List.replicate 16 0 ++
    toLE 8 (dst17 + 2 ^ 20) ++ toLE 8 0x77
def someJob (op ctl sess len : Nat) (st : CipherStage) : CipherJob :=
  { id := 1, owner := .csub 9 (dst17 + 2 ^ 20) 0x77, half := 0, home := 0, op := op, session := sess, tenant := 3, urg := 1, raw := jobBytes op ctl sess len,
    data := [], since := 0, stage := st, light := 0, total := 3, cost := 10, made := 0, ctr := 0, admSeq := 2, susSeq := 0, startAt := 0, slot := none,
    stop := none, out := none, sent := 0, wiped := 0 }
def withJobs (s : State) (js : List CipherJob) : State := { s with cipher := { s.cipher with jobs := js } }
/-- Both kinds of location are device addresses. -/
def dd : Nat := 0x14
def encJob : CipherJob := someJob 3 dd 5 32 .arrived
/-- The job is gone, and the message to its endpoint has a status and a detail, and the bytes written. -/
def jobEnds (t : State) (status detail made : Nat) : Bool :=
  t.jobC 1 == none && (t.queueAt dst17).map (fun m => (m.words.map (fun w => w.toNat)).headD 0 % 2 ^ 16 + 2 ^ 32 * ((m.words.map (fun w => w.toNat)).headD 0 / 2 ^ 32)) ==
    [status + 256 * detail + 2 ^ 32 * made] && t.rd F.CIPHER_STAT.JOBS.CNT == 1

/-- The first block of AES-GCM test vectors: key, nonce and plaintext zero. -/
theorem test_gcm_vector : gcmSeal (aesKeys false (List.replicate 32 0)) (List.replicate 12 0) [] (List.replicate 16 0) =
    toBE 16 0x0388dace60b6a392f328c2b971b2fe78 ++ toBE 16 0xab6e47d42cec13bdf53a67b21257bddf := by decide +kernel
/-- FIPS 197, appendix C.3. -/
theorem test_aes256_vector : aesEnc (aesKeys true ((List.range 32).map (fun k => BitVec.ofNat 8 k))) (toBE 16 0x00112233445566778899aabbccddeeff) =
    toBE 16 0x8ea2b7ca516745bfeafc49904b496089 := by decide +kernel

theorem test_admit_none : noEffect (.cipherJobAdmit 1) gcmSession = true := by decide +kernel
theorem test_admit_after_operation : noEffect (.cipherJobAdmit 1)
    { withJobs gcmSession [encJob] with cipher := { (withJobs gcmSession [encJob]).cipher with ops := [⟨0, none, false, 2, 5, []⟩] } } = true := by decide +kernel
theorem test_admit_after_job : noEffect (.cipherJobAdmit 1) (withJobs gcmSession [{ encJob with since := 4 }, { encJob with id := 2 }]) = true := by decide +kernel
theorem test_admit : okAfter (.cipherJobAdmit 1) (withJobs gcmSession [encJob]) (fun t =>
    (t.jobC 1).map (fun j => (j.stage, j.ctr, j.tenant, j.light, j.total)) == some (.admitted, 4, 3, 0, 3) &&
      (t.keySlot 5).map (fun k => (sCounter k.plain, k.st)) == some (5, 1)) = true := by decide +kernel
theorem test_admit_ctr : okAfter (.cipherJobAdmit 1) (withJobs (withSession (plainOf 3 0 3 4 100 200 1) 1) [someJob 7 dd 5 33 .arrived]) (fun t =>
    (t.keySlot 5).map (fun k => sCounter k.plain) == some 7) = true := by decide +kernel
/-- The last value, HARD_LIMIT, is given, and the session is then EXHAUSTED, with soft and exhausted notices. -/
theorem test_admit_last : okAfter (.cipherJobAdmit 1) (withJobs (withSession (plainOf 2 0 3 200 100 200 1) 1) [encJob]) (fun t =>
    (t.jobC 1).map (fun j => j.ctr) == some 200 && (t.keySlot 5).map (fun k => (sCounter k.plain, k.st)) == some (200, 7) &&
      t.rd F.CIPHER_EVENT.EXHAUSTED == 1 && t.rd F.CIPHER_EVENT.SOFT == 1) = true := by decide +kernel
theorem test_admit_exhausted : okAfter (.cipherJobAdmit 1) (withJobs (withSession (plainOf 2 0 3 200 100 200 1) 3) [encJob]) (fun t =>
    jobEnds t 7 8 0 && t.rd F.CIPHER_STAT.NONCE_EXH.CNT == 1) = true := by decide +kernel
theorem test_admit_soft : okAfter (.cipherJobAdmit 1) (withJobs (withSession (plainOf 2 0 3 100 100 200 1) 1) [encJob]) (fun t =>
    (t.keySlot 5).map (fun k => k.st) == some 5 && t.rd F.CIPHER_EVENT.SOFT == 1 && t.rd F.CIPHER_EVENT.EXHAUSTED == 0) = true := by decide +kernel
theorem test_admit_form : okAfter (.cipherJobAdmit 1) (withJobs gcmSession [someJob 3 (dd + 64) 5 32 .arrived]) (fun t => jobEnds t 2 9 0) = true := by decide +kernel
theorem test_admit_op : okAfter (.cipherJobAdmit 1) (withJobs gcmSession [someJob 9 dd 5 32 .arrived]) (fun t => jobEnds t 2 3 0) = true := by decide +kernel
theorem test_admit_length : okAfter (.cipherJobAdmit 1) (withJobs gcmSession [someJob 3 dd 5 0 .arrived]) (fun t => jobEnds t 2 4 0) = true := by decide +kernel
theorem test_admit_index : okAfter (.cipherJobAdmit 1) (withJobs gcmSession [someJob 3 dd 16 32 .arrived]) (fun t => jobEnds t 4 0x0D 0) = true := by decide +kernel
theorem test_admit_fenced : okAfter (.cipherJobAdmit 1) (withJobs (gcmSession.wr F.SEAM_STATUS.STATE 4) [{ someJob 3 dd 8 32 .arrived with home := 1 }]) (fun t =>
    jobEnds t 0x0E 0x11 0) = true := by decide +kernel
theorem test_admit_invalid : okAfter (.cipherJobAdmit 1) (withJobs (withSession (plainOf 2 0 3 4 100 200 1) 0) [encJob]) (fun t => jobEnds t 3 1 0) = true := by decide +kernel
theorem test_admit_never_installed : okAfter (.cipherJobAdmit 1) (withJobs gcmSession [someJob 3 dd 6 32 .arrived]) (fun t => jobEnds t 3 1 0) = true := by decide +kernel
theorem test_admit_kind : okAfter (.cipherJobAdmit 1) (withJobs gcmSession [someJob 7 dd 5 32 .arrived]) (fun t => jobEnds t 2 3 0) = true := by decide +kernel
theorem test_admit_sector : okAfter (.cipherJobAdmit 1) (withJobs (withSession (plainOf 1 32 3 0 0 0 1) 1) [someJob 1 dd 5 512 .arrived]) (fun t => jobEnds t 2 4 0) = true := by decide +kernel
theorem test_admit_xts : okAfter (.cipherJobAdmit 1) (withJobs (withSession (plainOf 1 0 3 0 0 0 1) 1) [someJob 1 dd 5 512 .arrived]) (fun t =>
    (t.jobC 1).map (fun j => (j.stage, j.ctr, j.total)) == some (.admitted, 0, 33)) = true := by decide +kernel
/-- Bobbin 0x1000 is nobody's. -/
theorem test_admit_tenant : okAfter (.cipherJobAdmit 1) (withJobs gcmSession [someJob 3 0x10 5 32 .arrived]) (fun t => jobEnds t 3 2 0) = true := by decide +kernel
theorem test_admit_fetches : okAfter (.cipherJobAdmit 1) (withJobs { gcmSession with cipher := { gcmSession.cipher with slots := [] } } [encJob]) (fun t =>
    (AMap.get? t.cipher.fetches 5).isSome && t.jobC 1 == some encJob) = true := by decide +kernel

/-- Every domain is on, and engine 0 has chosen group 0. -/
def clusters : State := (gcmSession.wr F.POWER_DOM_CTRL.ON (2 ^ 58 - 1)).wr F.POWER_DOM_STATUS.ON (2 ^ 59 - 1)
def engChosen (s : State) (u : Nat) : State := s.setUnit 2 u { s.unit 2 u with chosen := some (.free 0) }
def admitted (id urg seq : Nat) : CipherJob := { someJob 3 dd 5 32 .admitted with id := id, urg := urg, admSeq := seq }
theorem test_start_none : noEffect (.cipherJobStart 0) clusters = true ∧ noEffect (.cipherJobStart 0) (engChosen clusters 0) = true := by decide +kernel
theorem test_start_urgent : okAfter (.cipherJobStart 0) (withJobs (engChosen clusters 0) [admitted 1 1 2, admitted 2 2 3, admitted 3 2 4]) (fun t =>
    AMap.get? t.cipher.engines 0 == some (2, 10) && (t.jobC 2).map (fun j => (j.stage, j.slot)) == some (.running 0, none) && t.groupAt 2 0 == none) = true := by decide +kernel
/-- The first cycles of the last turn are past: the job takes a suspension slot. -/
theorem test_start_slot : okAfter (.cipherJobStart 0) (withJobs (engChosen (clusters.wr F.STITCH_POS.CYCLE 15) 0) [admitted 1 1 2]) (fun t =>
    (t.jobC 1).map (fun j => (j.stage, j.slot)) == some (.running 0, some 0) && t.rd (F.CIPHER_SUSP.IN_USE 0) == 1) = true := by decide +kernel
theorem test_start_not_lowest : noEffect (.cipherJobStart 1) (withJobs (engChosen clusters 1) [admitted 1 1 2]) = true := by decide +kernel
theorem test_start_suspended : okAfter (.cipherJobStart 1)
    (withJobs (engChosen clusters 1) [{ admitted 1 1 2 with stage := .suspended 0, slot := some 0, made := 1, light := 2 }, admitted 2 1 3]) (fun t =>
    AMap.get? t.cipher.engines 1 == some (1, 8) && (t.jobC 1).map (fun j => (j.slot, j.made)) == some (some 0, 1)) = true := by decide +kernel

def running (made : Nat) : CipherJob := { someJob 3 dd 5 32 (.running 0) with made := made }
def onEngine (s : State) (j : CipherJob) (due : Nat) : State :=
  { s with cipher := { s.cipher with jobs := [j], engines := [(0, (1, due))] } }
theorem test_block_none : noEffect (.cipherBlockDone 0 false) clusters = true ∧ noEffect (.cipherBlockDone 0 false) (onEngine clusters (running 0) 1) = true := by decide +kernel
theorem test_block_last : okAfter (.cipherBlockDone 0 false) (onEngine clusters (running 2) 0) (fun t =>
    (t.jobC 1).map (fun j => (j.stage, j.made)) == some (.ended, 3) && t.cipher.engines == []) = true := by decide +kernel
theorem test_block_on : okAfter (.cipherBlockDone 0 false) (onEngine clusters (running 0) 0) (fun t =>
    (t.jobC 1).map (fun j => (j.stage, j.made)) == some (.running 0, 1) && AMap.get? t.cipher.engines 0 == some (1, 10)) = true := by decide +kernel
/-- The turn is another group's: the job leaves its engine. -/
theorem test_block_suspends : okAfter (.cipherBlockDone 0 false)
    { onEngine clusters (running 0) 0 with lace := { clusters.lace with tabs := [(2, ⟨[], [(0, 7)]⟩)], tgActive := [(4, 7)] }, cipher :=
      { (onEngine clusters (running 0) 0).cipher with jobs := [running 0, { admitted 2 1 3 with tenant := 4 }] } } (fun t =>
    (t.jobC 1).map (fun j => (j.stage, j.slot)) == some (.suspended 0, some 0) && t.rd F.CIPHER_STAT.SUSPENDS.CNT == 1 && t.cipher.engines == []) = true := by decide +kernel
theorem test_block_error : okAfter (.cipherBlockDone 0 true) (onEngine clusters (running 2) 0) (fun t =>
    (t.jobC 1).map (fun j => (j.stage, j.made)) == some (.running 0, 2)) = true := by decide +kernel

def ended (op dst : Nat) : CipherJob := { someJob op dst 5 16 .ended with ctr := 4 }
theorem test_complete_none : noEffect (.cipherJobComplete 1) (withJobs gcmSession [running 2]) = true := by decide +kernel
theorem test_complete_stopped : okAfter (.cipherJobComplete 1) (withJobs gcmSession [{ ended 3 dd with stop := some (0x0C, 0x10) }]) (fun t => jobEnds t 0x0C 0x10 0) = true := by decide +kernel
/-- Region 0 is Plain, from address 0, 1 GiB, and its channels serve. -/
def mapped (s : State) : State :=
  let s := (List.range 18).foldl (fun s i => (s.wr (F.MEM_CH_STATUS.STATE i) (if i % 9 = 8 then 1 else 0)).wr (F.MEM_CH_STATUS.LOGICAL i) (if i = 8 ∨ i = 17 then 31 else i - i / 9)) s
  ((((s.wr F.MEM_GSTATUS.READY 1).wr (F.MEM_REGION_W0.VALID 0) 1).wr (F.MEM_REGION_W0.SIZE 0) 1).wr (F.MEM_CH_GEOM.COL 0) 6).wr (F.MEM_CH_GEOM.ROW 0) 16
def ctrSession : State := mapped (withSession (plainOf 3 0 3 4 100 200 0) 1)
theorem test_complete_ctr : okAfter (.cipherJobComplete 1) (withJobs ctrSession [ended 7 dd]) (fun t => jobEnds t 0 0 16) = true := by decide +kernel
/-- A tag of zeros does not verify: zeros are written and the status is AUTH_FAIL. -/
theorem test_complete_auth : okAfter (.cipherJobComplete 1) (withJobs (mapped gcmSession) [ended 4 dd]) (fun t =>
    jobEnds t 8 5 16 && t.rd F.CIPHER_STAT.AUTH_FAIL.CNT == 1 && t.devRead 0x2000 16 == List.replicate 16 0) = true := by decide +kernel
/-- No region holds the source. -/
theorem test_complete_source : okAfter (.cipherJobComplete 1) (withJobs gcmSession [ended 7 dd]) (fun t => jobEnds t 4 0x0F 0) = true := by decide +kernel
/-- A TLS session seals the last 4 bytes of packet 1: a header of 5 bytes before them and a tag of 16 after. -/
def inlineJob : CipherJob := { someJob 20 0 5 0 .ended with owner := .inline 1 0, ctr := 4 }
def tlsPacket : State :=
  { withPacket (withSession (plainOf 8 0 3 5 100 200 1) 1) (someFrame 64 0x0800 0) (.cipher 0) (fun p => { p with tenant := 3, layers := [60, 255, 255, 255, 255, 255, 255, 255] }) with
    cipher := { (withSession (plainOf 8 0 3 5 100 200 1) 1).cipher with jobs := [inlineJob] } }
theorem test_complete_inline : okAfter (.cipherJobComplete 1) tlsPacket (fun t =>
    (t.pkt? 1).map (fun p => (p.len, p.growth, p.stage)) == some (85, 5, .running 1) && t.jobC 1 == none && t.rd F.CIPHER_STAT.INLINE.CNT == 1) = true := by decide +kernel

/-! Sessions. -/

/-- CIPHER_SESS_CMD asks for an operation on a session; the Cobbler wrote it where `cob`. -/
def sessAsked (s : State) (op i : Nat) (data : Bytes) (cob : Bool) : State :=
  let s := ((((s.wr F.CIPHER_SESS_CMD.BUSY 1).wr F.CIPHER_SESS_CMD.GO 1).wr F.CIPHER_SESS_CMD.OP op).wr F.CIPHER_SESS_CMD.INDEX i).setSessData data
  { s with cipher := { s.cipher with cmdCobbler := cob, cmdWord := op * 2 ^ 52 + i } }
def sessReports (t : State) (st det : Nat) : Bool :=
  t.rd F.CIPHER_SESS_CMD.BUSY == 0 && t.rd F.CIPHER_SESS_CMD.GO == 0 && t.rd F.CIPHER_SESS_STATUS.DONE == 1 && t.rd F.CIPHER_SESS_STATUS.STATUS == st &&
    t.rd F.CIPHER_SESS_STATUS.DETAIL == det
/-- A thread's message asks the session service. -/
def sessMsg (s : State) (op i : Nat) (data : Bytes) : State :=
  s.setQueue sessEp [{ someMsg 1 sessEp 1 29 with words := BitVec.ofNat 64 (op + 2 ^ 16 * i) :: (List.range 28).map (fun k => BitVec.ofNat 64 (leAt data (8 * k) 8)) }]
def sessReplies (t : State) (st det : Nat) : Bool :=
  t.queueAt sessEp == [] && t.yarn.flights.map (fun f => (f.msg.dst, f.msg.tag, f.msg.words)) == [(epThread 8 0, 9, [BitVec.ofNat 64 (st + 256 * det)])]
def gcmPlain : Bytes := plainOf 2 0 3 4 100 200 1
def newPlain : Bytes := plainOf 2 1 3 0 5 6 2
/-- All domains on, so key slots exist. -/
def slotsOn (s : State) : State := s.wr F.POWER_DOM_STATUS.ON (2 ^ 59 - 1)

theorem test_session_none : noEffect (.install false) gcmSession = true ∧ noEffect (.limits true) gcmSession = true := by decide +kernel
theorem test_session_op : okAfter (.sessionRead false) (sessAsked gcmSession 5 5 [] true) (fun t => sessReports t 2 3) = true := by decide +kernel
theorem test_session_op_zero : okAfter (.sessionRead true) (sessMsg gcmSession 0 5 []) (fun t => sessReplies t 2 3) = true := by decide +kernel
theorem test_session_index : okAfter (.invalidate false) (sessAsked gcmSession 3 16 [] true) (fun t => sessReports t 4 0x0D) = true := by decide +kernel
theorem test_session_fenced : okAfter (.invalidate false) (sessAsked (gcmSession.wr F.SEAM_STATUS.STATE 2) 3 8 [] true) (fun t => sessReports t 0x0E 0x11) = true := by decide +kernel
theorem test_session_read_service : okAfter (.sessionRead true) (sessMsg gcmSession 4 5 []) (fun t => sessReplies t 3 0x0A) = true := by decide +kernel
theorem test_session_seal_service : okAfter (.install true) (sessMsg gcmSession 1 5 (plainOf 10 0 3 0 0 0 1)) (fun t => sessReplies t 3 0x0A) = true := by decide +kernel
theorem test_session_host_install : okAfter (.install false) (sessAsked gcmSession 1 5 newPlain false) (fun t => sessReports t 3 0x0A) = true := by decide +kernel
theorem test_install : okAfter (.install true) (sessMsg gcmSession 1 5 newPlain) (fun t =>
    sessReplies t 0 0 && (t.keySlot 5).map (fun k => (k.plain, k.st)) == some (newPlain, 1)) = true := by decide +kernel
theorem test_install_new : okAfter (.install false) (sessAsked (slotsOn gcmSession) 1 6 newPlain true) (fun t =>
    sessReports t 0 0 && (t.keySlot 6).map (fun k => (k.plain, k.st)) == some (newPlain, 1) && t.cipher.installed == [5, 6] && t.keySlot 5 == gcmSession.keySlot 5) = true := by decide +kernel
theorem test_install_kind : okAfter (.install false) (sessAsked gcmSession 1 5 (plainOf 11 0 3 0 5 6 2) true) (fun t => sessReports t 2 9) = true := by decide +kernel
theorem test_install_limit : okAfter (.install false) (sessAsked gcmSession 1 5 (plainOf 2 0 3 0 7 6 2) true) (fun t => sessReports t 4 0x0C) = true ∧
    okAfter (.install false) (sessAsked gcmSession 1 5 (plainOf 1 0 3 0 0 0 0) true) (fun t => sessReports t 4 0x0C) = true := by decide +kernel
/-- R188's window is 1 to 256. -/
theorem test_install_window : installFault (putB (plainOf 5 64 3 1 5 6 2) 4 [0, 1]) none = none ∧ installFault (putB (plainOf 5 64 3 1 5 6 2) 4 [1, 1]) none = some (2, 9) ∧
    installFault (plainOf 5 64 3 1 5 6 2) none = some (2, 9) := by decide +kernel
theorem test_install_same_key : okAfter (.install false) (sessAsked (withSession gcmPlain 3) 1 5 gcmPlain true) (fun t => sessReports t 4 0x0B) = true := by decide +kernel
theorem test_install_waits : okAfter (.install false) (sessAsked (withJobs gcmSession [running 0]) 1 5 newPlain true) (fun t =>
    t.rd F.CIPHER_SESS_CMD.BUSY == 1 && t.cipher.ops.map (fun o => (o.op, o.index)) == [(1, 5)] && t.keySlot 5 == gcmSession.keySlot 5) = true := by decide +kernel
theorem test_limits : okAfter (.limits true) (sessMsg gcmSession 2 5 (plainOf 2 0 0 0 8 9 0)) (fun t =>
    sessReplies t 0 0 && (t.keySlot 5).map (fun k => (k.plain, k.st)) == some (plainOf 2 0 3 4 8 9 1, 1)) = true := by decide +kernel
/-- Value 3 was used: HARD_LIMIT 2 exhausts the session, HARD_LIMIT 3 does not. -/
theorem test_limits_exhaust : okAfter (.limits true) (sessMsg gcmSession 2 5 (plainOf 2 0 0 0 1 2 0)) (fun t =>
    (t.keySlot 5).map (fun k => k.st) == some 3 && t.rd F.CIPHER_EVENT.EXHAUSTED == 1) = true ∧
    okAfter (.limits true) (sessMsg gcmSession 2 5 (plainOf 2 0 0 0 1 3 0)) (fun t => (t.keySlot 5).map (fun k => k.st) == some 1 && t.rd F.CIPHER_EVENT.EXHAUSTED == 0) = true := by decide +kernel
theorem test_limits_inbound : okAfter (.limits true) (sessMsg (withSession (plainOf 5 0 3 4 100 200 1) 1) 2 5 (plainOf 2 0 0 0 1 3 0)) (fun t =>
    (t.keySlot 5).map (fun k => k.st) == some 3) = true := by decide +kernel
theorem test_limits_none : okAfter (.limits true) (sessMsg gcmSession 2 6 (plainOf 2 0 0 0 1 2 0)) (fun t => sessReplies t 3 1) = true := by decide +kernel
theorem test_invalidate : okAfter (.invalidate false) (sessAsked (withSession gcmPlain 7) 3 5 [] false) (fun t =>
    sessReports t 0 0 && (t.keySlot 5).map (fun k => (k.plain, k.st)) == some (gcmPlain, 6)) = true ∧
    okAfter (.invalidate false) (sessAsked gcmSession 3 6 [] false) (fun t => sessReports t 0 0) = true := by decide +kernel
theorem test_read : okAfter (.sessionRead false) (sessAsked (withSession gcmPlain 5) 4 5 [] false) (fun t =>
    sessReports t 0 0 && t.rd F.CIPHER_SESS_STATUS.STATE == 5 && t.rd (F.CIPHER_SESS_DATA.W 8) == 0 && t.rd (F.CIPHER_SESS_DATA.W 24) == 4 && t.rd (F.CIPHER_SESS_DATA.W 0) == 0x30002) = true := by decide +kernel
theorem test_read_none : okAfter (.sessionRead false) (sessAsked gcmSession 4 6 [] false) (fun t => sessReports t 3 1) = true := by decide +kernel

def sessWaiting (op : Nat) (data : Bytes) : State :=
  { gcmSession with cipher := { gcmSession.cipher with ops := [⟨1, none, true, op, 5, data⟩] } }
theorem test_op_done_none : noEffect (.sessionOpDone 5) gcmSession = true ∧ noEffect (.sessionOpDone 5) (withJobs (sessWaiting 1 newPlain) [running 0]) = true := by decide +kernel
theorem test_op_done_install : okAfter (.sessionOpDone 5) (sessWaiting 1 newPlain) (fun t => sessReports t 0 0 && t.cipher.ops == [] && (t.keySlot 5).map (fun k => k.plain) == some newPlain) = true := by decide +kernel
theorem test_op_done_invalidate : okAfter (.sessionOpDone 5) (sessWaiting 3 []) (fun t => sessReports t 0 0 && (t.keySlot 5).map (fun k => k.st) == some 0) = true := by decide +kernel

/-- Session 5 is outside every slot, its record being fetched, and no burst is left. -/
def fetching (rec_ : Bytes) : State :=
  let s := slotsOn (mapped gcmSession)
  { s.devWrite (s.sessAddr 5) rec_ with cipher := { s.cipher with slots := [], fetches := [(5, 1)], kek := List.replicate 32 7 } }
theorem test_unwrap_none : noEffect (.sessionUnwrap 5) gcmSession = true := by decide +kernel
theorem test_unwrap_ready : AMap.get? (fetching []).cipher.fetches 5 = some 1 ∧ (fetching []).memDone 1 = true ∧ (fetching []).keySlot 5 = none := by decide +kernel

/-! ### Queues (chapter 06) -/

/-- PF0 is ACTIVE on a link that is up, may master the bus, and holds queues 0 to 63. -/
def hostUp : State :=
  let s := (((sendOn.setFstate 0 1).wr (F.HOSTLINK_LINK_STATUS.UP (sendOn.linkOf 0)) 1).wr (F.QUEUE_FGRANT.BASE 0) 0).wr (F.QUEUE_FGRANT.COUNT 0) 64
  s.modFunc 0 (fun x => { x with cfg := { x.cfg with busMaster := true, d3hot := false } })
def wq0 : Wq :=
  { state := 1, type := 1, log2 := 4, ringLoc := false, compat := false, home := 0, func := 0, tenant := 3, ringBase := 0x10000, pi := 0, fi := 0, ci := 0,
    cq := 7, inflight := 8, weight := 4, burst := 2, errCause := 0, credit := 0, qgroup := 0, errIndex := 0, supp := 0, mules := 2, target := dst17 + 2 ^ 20,
    jobs := [], fetch := [], fault := none, abort := none, percmd := false, freeze := false, named := false, errRec := [], errCount := 0 }
def cq0 : Cq :=
  { state := 1, ringLoc := false, compat := false, armed := false, notify := false, home := 0, log2 := 4, errCause := 0, func := 0, tenant := 3,
    ringBase := 0x20000, pi := 0, ci := 0, reserved := 8, vector := 3, modCount := 0, modTime := 0, bound := 1, fullSince := 0, new := 0,
    notifyEp := dst17 + 2 ^ 20, firstNew := none, fullFrom := none, stalled := false, openFrom := 0 }
def qjob (first : Nat) (st : JobStage) : Job :=
  { first := first, last := first, opcode := 1, user := 0x55, entries := [], suppress := false, qgroup := 0, stage := st, status := 0, detail := 0,
    result := 0, length := 0, aux := 0, error := false, own := 1, frees := true, seq := 0, legs := [], since := 0, errRec := [], msg := none }
/-- WQ 5 and CQ 7. -/
def queues (w : Wq) (c : Cq) : State := (hostUp.setWq 5 w).setCq 7 c
def queueEvents (t : State) : List Nat := (t.fifo queueEvq).entries

theorem test_db_open : hostUp.barGate 0 = none ∧ hostUp.queueNo 0 63 = some 63 ∧ hostUp.queueNo 0 64 = none := by decide +kernel
theorem test_wq_doorbell : okAfter (.wqDoorbell 0 5 16) (queues wq0 cq0) (fun t => (t.wq? 5) == some { wq0 with pi := 16 }) = true := by decide +kernel
/-- A ring of 16 entries does not admit 17, and a compat ring does not admit 16. -/
theorem test_wq_overrun : okAfter (.wqDoorbell 0 5 17) (queues wq0 cq0) (fun t =>
    (t.wq? 5).map (fun w => (w.state, w.errCause, w.errIndex, w.pi)) == some (2, 1, 17, 0) && t.rd F.QUEUE_STAT.WQ_ERRORS.CNT == 1) = true := by decide +kernel
theorem test_wq_overrun_compat : okAfter (.wqDoorbell 0 5 0x10010) (queues { wq0 with compat := true } cq0) (fun t =>
    (t.wq? 5).map (fun w => (w.state, w.errIndex)) == some (2, 16)) = true := by decide +kernel
theorem test_wq_error_discard : okAfter (.wqDoorbell 0 5 17) (queues { wq0 with state := 2 } cq0) (fun t =>
    t.rd F.QUEUE_STAT.DB_DISCARD.CNT == 1 && t.wq? 5 == some { wq0 with state := 2 }) = true := by decide +kernel
theorem test_free_doorbells : okAfter (.wqDoorbell 0 6 1) (queues wq0 cq0) (fun t => t.rd F.QUEUE_STAT.DB_DISCARD.CNT == 1) = true ∧
    okAfter (.cqArm 0 64 1) (queues wq0 cq0) (fun t => t.rd F.QUEUE_STAT.DB_DISCARD.CNT == 1) = true := by decide +kernel
theorem test_cq_doorbell : okAfter (.cqDoorbell 0 7 5) (queues wq0 { cq0 with pi := 9 }) (fun t => (t.cq? 7).map (fun c => (c.ci, c.pi, c.state)) == some (5, 9, 1)) = true := by decide +kernel
theorem test_cq_overrun : okAfter (.cqDoorbell 0 7 10) (queues wq0 { cq0 with pi := 9 }) (fun t =>
    (t.cq? 7) == some { cq0 with pi := 9, state := 2, errCause := 1 } && queueEvents t == [2 * 2 ^ 60 + 2 ^ 32 + 2 ^ 16 + 7]) = true := by decide +kernel
theorem test_cq_arm : okAfter (.cqArm 0 7 1) (queues wq0 { cq0 with new := 4 }) (fun t => (t.cq? 7) == some { cq0 with armed := true }) = true := by decide +kernel
theorem test_cq_arm_unread : okAfter (.cqArm 0 7 1) (queues wq0 { cq0 with pi := 1 }) (fun t => (t.cq? 7) == some { cq0 with pi := 1 }) = true := by decide +kernel
theorem test_doorbell_size : okAfter (.doorbellDiscard 0 2 4 true) (queues wq0 cq0) (fun t => t.rd F.QUEUE_STAT.DB_DISCARD.CNT == 1) = true ∧
    okAfter (.doorbellDiscard 0 0 8 false) (queues wq0 cq0) (fun t => t.outs == [.barRead 0 0xFFFFFFFFFFFFFFFF]) = true := by decide +kernel
def timed : Cq := { cq0 with armed := true, modTime := 3, pi := 1, new := 1, firstNew := some (10, 5) }
theorem test_mod_timer : okAfter (.interruptModTimer 7) ((queues wq0 timed).wr F.STITCH_COUNT.COUNT 14) (fun t => (t.cq? 7).map (fun c => (c.armed, c.pi)) == some (false, 1)) = true ∧
    noEffect (.interruptModTimer 7) ((queues wq0 timed).wr F.STITCH_COUNT.COUNT 13) = true := by decide +kernel
def fullCq : Cq := { cq0 with pi := 16, fullFrom := some 10 }
theorem test_cq_stall : okAfter (.cqStall 7) (((queues wq0 fullCq).wr F.STITCH_COUNT.COUNT 14).wr F.QUEUE_CFG.CQ_STALL_LIMIT 4) (fun t =>
    t.cq? 7 == some { fullCq with stalled := true } && queueEvents t == [3 * 2 ^ 60 + 2 ^ 16 + 7] && t.rd F.QUEUE_STAT.CQ_STALLS.CNT == 1) = true ∧
    noEffect (.cqStall 7) (((queues wq0 fullCq).wr F.STITCH_COUNT.COUNT 13).wr F.QUEUE_CFG.CQ_STALL_LIMIT 4) = true := by decide +kernel
def toEngine (s : State) (ws : List W64) : State := s.setQueue (queueEp 0) [{ someMsg 1 (queueEp 0) 1 ws.length with words := ws }]
theorem test_cq_ci_message : okAfter (.cqCiMessage 0) (toEngine (queues wq0 { cq0 with pi := 9 }) [0x0000000700000002, 5]) (fun t =>
    (t.cq? 7).map (fun c => (c.ci, c.armed)) == some (5, false) && t.queueAt (queueEp 0) == []) = true := by decide +kernel

/-- Group 0's turn stands at the engine of Half A. -/
def hostTurn (s : State) : State := s.setUnit 4 0 { s.unit 4 0 with chosen := some (.free 0) }
theorem test_fetch : okAfter (.wqeFetch 0 false 0) (hostTurn (queues { wq0 with pi := 3 } cq0)) (fun t =>
    (t.wq? 5).map (fun w => (w.fi, w.credit, w.fetch.length)) == some (2, 2, 1) && t.groupAt 4 0 == none) = true := by decide +kernel
/-- The round goes on after the last WQ visited, and wraps. -/
theorem test_fetch_next : okAfter (.wqeFetch 0 false 0) { hostTurn ((queues { wq0 with pi := 3, credit := 1 } cq0).setWq 6 { wq0 with pi := 3, credit := 1 }) with
      q := { ((queues { wq0 with pi := 3, credit := 1 } cq0).setWq 6 { wq0 with pi := 3, credit := 1 }).q with visited := [(0, 6)] } } (fun t =>
    (t.wq? 6).map (fun w => (w.fi, w.credit)) == some (1, 0) && t.wq? 5 == some { wq0 with pi := 3, credit := 1 }) = true := by decide +kernel
theorem test_fetch_no_turn : noEffect (.wqeFetch 0 false 0) (queues { wq0 with pi := 3 } cq0) = true := by decide +kernel

/-- An entry: opcode, flags, user, then its body. -/
def wqe (op fl : Nat) (body : Bytes) : Bytes := toLE 1 op ++ toLE 1 fl ++ toLE 2 0 ++ toLE 4 0x55 ++ body ++ List.replicate (56 - body.length) 0
/-- A NET_TX entry of a frame of `n` bytes in one segment of `m`. -/
def txe (n m : Nat) : Bytes := wqe 1 3 (toLE 4 n ++ toLE 4 0 ++ toLE 8 0x3000 ++ toLE 4 m ++ toLE 4 0)
theorem test_entry_form : entryFault6 1 false [] (txe 64 64) = 0 ∧ entryFault6 1 false [] (txe 59 59) = 6 ∧ entryFault6 1 false [] (txe 64 63) = 6 ∧
    entryFault6 1 false [] (wqe 2 3 []) = 2 ∧ entryFault6 1 false [] (wqe 1 11 []) = 3 ∧ entryFault6 1 false [] (wqe 1 2 []) = 4 ∧
    entryFault6 1 false [txe 64 64] (txe 64 64) = 4 ∧ entryFault6 1 false (List.replicate 15 (txe 64 64)) (wqe 1 0 []) = 5 ∧ entryFault6 5 false [] (wqe 9 3 []) = 0 := by decide +kernel
/-- The read of one entry has ended. -/
def arrived (w : Wq) (l : Leg) : State := queues { w with pi := 1, fi := 1, fetch := [⟨0, [1], [l]⟩] } cq0
def ringAt (s : State) (e : Bytes) : State := mapped (s.devWrite 0x10000 e)
theorem test_fetch_complete : okAfter (.fetchComplete 5) (ringAt (arrived wq0 (.mem 1 0x10000 64)) (txe 64 64)) (fun t =>
    (t.wq? 5).map (fun w => (w.jobs, w.fetch, w.state)) == some ([{ qjob 0 .unstarted with entries := [txe 64 64] }], [], 1) && t.rd F.QUEUE_STAT.FETCHED.CNT == 1) = true := by decide +kernel
theorem test_fetch_bad_entry : okAfter (.fetchComplete 5) (ringAt (arrived wq0 (.mem 1 0x10000 64)) (txe 64 63)) (fun t =>
    (t.wq? 5).map (fun w => (w.state, w.errCause, w.errIndex, w.fetch)) == some (2, 6, 0, [])) = true := by decide +kernel
theorem test_fetch_failed : okAfter (.fetchComplete 5) (arrived wq0 (.failed 0x0F)) (fun t =>
    (t.wq? 5).map (fun w => (w.state, w.errCause, w.errIndex)) == some (2, 7, 0)) = true := by decide +kernel
def faultedWq : Wq := { wq0 with fi := 3, pi := 3, fault := some ⟨2, 2, 2, 3, 0x55, false, 1⟩ }
theorem test_error_cqe : okAfter (.errorCqeWrite 5) (queues faultedWq cq0) (fun t =>
    (t.wq? 5).map (fun w => (w.state, w.errCause, w.errIndex, w.fault, w.ci)) == some (2, 3, 2, none, 2) && t.rd F.QUEUE_STAT.WQ_ERRORS.CNT == 1 &&
      queueEvents t == [2 ^ 60 + 3 * 2 ^ 32 + 5]) = true := by decide +kernel
/-- The fault waits for an earlier job. -/
theorem test_error_cqe_waits : noEffect (.errorCqeWrite 5) (queues { faultedWq with jobs := [qjob 0 .started] } cq0) = true := by decide +kernel

/-- Table 6.5: the CQE of job 2 of WQ 5 on a CQ whose first lap is over: PHASE 0. -/
theorem test_cqe : okAfter (.jobComplete 5 2) (queues { wq0 with pi := 3, fi := 3, ci := 2, jobs := [{ qjob 2 .ended with length := 64 }] } { cq0 with pi := 17, ci := 16 }) (fun t =>
    (t.wq? 5).map (fun w => (w.jobs, w.ci)) == some ([], 3) && (t.cq? 7).map (fun c => (c.pi, c.ci)) == some (18, 16) && t.rd F.QUEUE_STAT.CQE_WRITTEN.CNT == 1 &&
      t.outs == [.hostWrite 0 0x20020 (toLE 4 0x50000 ++ toLE 4 2 ++ toLE 4 1 ++ toLE 4 0x55 ++ toLE 8 0 ++ toLE 4 64 ++ toLE 4 0) none]) = true := by decide +kernel
theorem test_cqe_phase : cqePhase 4 15 = 1 ∧ cqePhase 4 16 = 0 ∧ cqePhase 4 32 = 1 := by decide +kernel
theorem test_cqe_suppressed : okAfter (.jobComplete 5 2) (queues { wq0 with pi := 3, fi := 3, ci := 2, jobs := [{ qjob 2 .ended with suppress := true }] } cq0) (fun t =>
    (t.wq? 5).map (fun w => (w.jobs, w.ci, w.supp)) == some ([], 2, 1) && t.cq? 7 == some cq0 && t.outs == []) = true := by decide +kernel
theorem test_parked_cqe : okAfter (.parkedCqeWrite 7) (queues { wq0 with pi := 3, fi := 3, ci := 2, jobs := [{ qjob 2 .done with seq := 1 }] } cq0) (fun t =>
    (t.cq? 7).map (fun c => c.pi) == some 1 && (t.wq? 5).map (fun w => w.ci) == some 3) = true := by decide +kernel
theorem test_cq_full : okAfter (.parkedCqeWrite 7) (queues { wq0 with pi := 3, fi := 3, ci := 2, jobs := [{ qjob 2 .done with seq := 1 }] } { cq0 with pi := 16 }) (fun t =>
    t.outs == [] && t.rd F.QUEUE_PARK_USE.IN_USE == 1 && (t.cq? 7).map (fun c => c.pi) == some 16) = true := by decide +kernel

def txJob (st : JobStage) : Job := { qjob 0 st with entries := [txe 64 64] }
def txWq (j : Job) : Wq := { wq0 with pi := 1, fi := 1, jobs := [j] }
theorem test_tx_stop : noEffect (.netTxSend 5 0) ((((queues (txWq (txJob .unstarted)) cq0).wr (F.BOBBIN_CLASS.COUNT 7) 4).wr F.BOBBIN_STATUS.READY 1).setMarks 0 3 7 4) = true := by decide +kernel
theorem test_tx_read : okAfter (.netTxSend 5 0) (hostTurn (queues (txWq (txJob .unstarted)) cq0)) (fun t =>
    (t.liveJob 5 0).map (fun j => (j.stage, j.legs.length)) == some (.started, 1) && t.groupAt 4 0 == none) = true := by decide +kernel
theorem test_tx_failed : okAfter (.netTxBobbinWaitEnd 5 0) (queues (txWq { txJob .started with legs := [.failed 0x0F] }) cq0) (fun t =>
    (t.wq? 5).map (fun w => w.jobs.map (fun j => (j.stage, j.status, j.detail))) == some [(.ended, 0x0F, 9)]) = true := by decide +kernel
theorem test_rx_buffer : okAfter (.netRxRecv 5 0) (queues { txWq (qjob 0 .unstarted) with type := 2 } cq0) (fun t => (t.liveJob 5 0).map (fun j => j.stage) == some .buffer) = true := by decide +kernel

def msgWq (st : JobStage) : Wq := { txWq { qjob 0 st with entries := [wqe 9 3 []] } with type := 5 }
theorem test_msg_deliver : okAfter (.msgDeliver 5) (queues (msgWq .unstarted) cq0) (fun t =>
    (t.liveJob 5 0).map (fun j => j.stage) == some .started && (t.queueAt dst17).map (fun m => (m.tag, m.words.length, m.words.headD 0)) == [(0x3C, 8, 0x0000005500000309#64)]) = true := by decide +kernel
theorem test_msg_full : noEffect (.msgDeliver 5) ((queues (msgWq .unstarted) cq0).setQueue dst17 [someMsg 1 dst17 1 63]) = true := by decide +kernel
theorem test_msg_stale : okAfter (.msgDeliver 5) (queues { msgWq .unstarted with target := dst17 + 2 * 2 ^ 20 } cq0) (fun t =>
    (t.wq? 5).map (fun w => w.jobs.map (fun j => (j.stage, j.status, j.detail))) == some [(.ended, 0x0C, 0x14)]) = true := by decide +kernel
theorem test_msg_refused : okAfter (.msgDeliver 5) (queues { msgWq .unstarted with target := 48 * 8192 + 2 ^ 20 } cq0) (fun t =>
    (t.wq? 5).map (fun w => w.jobs.map (fun j => (j.stage, j.status, j.detail))) == some [(.ended, 3, 0x15)]) = true := by decide +kernel
theorem test_msg_completion : okAfter (.msgCompletion 0) (toEngine (queues (msgWq .started) cq0) [0x0000000500120301, 0x0000004000000000, 0xABC]) (fun t =>
    (t.wq? 5).map (fun w => w.jobs.map (fun j => (j.stage, j.status, j.detail, j.length, j.result))) == some [(.ended, 3, 0x12, 64, 0xABC)]) = true := by decide +kernel
theorem test_msg_completion_none : okAfter (.msgCompletion 0) (toEngine (queues (msgWq .started) cq0) [0x0000000500000001, 9, 0]) (fun t =>
    t.q == (queues (msgWq .started) cq0).q) = true := by decide +kernel

/-! The command blocks. -/

/-- Block 0 (QUEUE_CMD) runs a command on a queue with DATA. -/
def cmd (s : State) (op q index : Nat) (cq : Bool) (d : Bytes) : State :=
  (s.setBlkData 0 d).setBlk 0 0 (3 * 2 ^ 62 + op * 2 ^ 52 + (if cq then 2 ^ 48 else 0) + q * 2 ^ 32 + index)
def reported (t : State) (st det : Nat) : Bool := t.blkWord 0 8 == 2 ^ 31 + 256 * det + st && !(t.blkWord 0 0).testBit 62
/-- Parameters: type, ring size, CQ or vector, INFLIGHT, base, weight, burst. -/
def params (type log2 cq infl vec base count time wt burst : Nat) : Bytes :=
  toLE 1 type ++ toLE 1 log2 ++ toLE 2 cq ++ toLE 2 infl ++ toLE 2 vec ++ toLE 8 base ++ toLE 2 count ++ toLE 2 time ++ List.replicate 6 0 ++ toLE 1 wt ++ toLE 1 burst ++
    List.replicate 36 0
def idleQ : State := queues wq0 cq0
theorem test_cmd_none : noEffect (.cqCreate 0) idleQ = true ∧ noEffect (.wqCreate 0) (cmd idleQ 1 5 0 false []) = true := by decide +kernel
theorem test_cmd_no_queue : okAfter (.cqCreate 0) (cmd idleQ 1 64 0 true []) (fun t => reported t 4 0x0C) = true ∧ okAfter (.sched 0) (cmd idleQ 9 64 0 true []) (fun t => reported t 4 0x0C) = true := by decide +kernel
theorem test_cq_create : okAfter (.cqCreate 0) (cmd idleQ 1 8 0 true (params 0 4 0 0 2047 0x40000 3 4 0 0)) (fun t =>
    reported t 0 0 && (t.cq? 8).map (fun c => (c.state, c.log2, c.ringBase, c.vector, c.modCount, c.modTime)) == some (1, 4, 0x40000, 2047, 3, 4) && t.cq? 7 == some cq0) = true := by decide +kernel
theorem test_cq_create_vector : okAfter (.cqCreate 0) (cmd idleQ 1 8 0 true (params 0 4 0 0 2048 0x40000 0 0 0 0)) (fun t => reported t 4 0x0F) = true := by decide +kernel
theorem test_cq_create_taken : okAfter (.cqCreate 0) (cmd idleQ 1 7 0 true (params 0 4 0 0 0 0x40000 0 0 0 0)) (fun t => reported t 4 0x0C) = true := by decide +kernel
/-- A ring of 16 CQEs is 512 bytes: its base is a multiple of that. -/
theorem test_cq_create_base : okAfter (.cqCreate 0) (cmd idleQ 1 8 0 true (params 0 4 0 0 0 0x40100 0 0 0 0)) (fun t => reported t 4 0x0F) = true ∧
    okAfter (.cqCreate 0) (cmd idleQ 1 8 0 true (params 0 3 0 0 0 0x40000 0 0 0 0)) (fun t => reported t 4 0x0F) = true ∧
    okAfter (.cqCreate 0) (cmd idleQ 1 8 0 true (params 0 17 0 0 0 0 0 0 0 0)) (fun t => reported t 4 0x0F) = true := by decide +kernel
theorem test_wq_create : okAfter (.wqCreate 0) (cmd idleQ 2 8 0 false (params 5 4 7 16 0 0x40000 0 0 1 64)) (fun t =>
    reported t 0 0 && (t.wq? 8).map (fun w => (w.state, w.type, w.cq, w.inflight, w.weight, w.burst)) == some (1, 5, 7, 16, 1, 64) &&
      (t.cq? 7).map (fun c => (c.reserved, c.bound)) == some (24, 2) && t.rd F.QUEUE_PARK.RESERVED == 16) = true := by decide +kernel
theorem test_wq_create_park : okAfter (.wqCreate 0) (cmd (idleQ.wr F.QUEUE_PARK.RESERVED 262129) 2 8 0 false (params 5 4 7 16 0 0x40000 0 0 1 64)) (fun t => reported t 5 0x0A) = true := by decide +kernel
theorem test_wq_create_inflight : okAfter (.wqCreate 0) (cmd idleQ 2 8 0 false (params 5 4 7 17 0 0x40000 0 0 1 64)) (fun t => reported t 4 0x0F) = true := by decide +kernel
theorem test_wq_create_cq : okAfter (.wqCreate 0) (cmd (queues wq0 { cq0 with state := 3 }) 2 8 0 false (params 5 4 7 16 0 0x40000 0 0 1 64)) (fun t => reported t 3 0x0D) = true := by decide +kernel
theorem test_cq_delete : okAfter (.cqDelete 0) (cmd idleQ 3 7 0 true []) (fun t => reported t 4 0x0B) = true ∧
    okAfter (.cqDelete 0) (cmd (queues wq0 { cq0 with bound := 0 }) 3 7 0 true []) (fun t => reported t 0 0 && t.cq? 7 == none && t.wq? 5 == some wq0) = true := by decide +kernel
theorem test_wq_delete : okAfter (.wqDelete 0) (cmd (idleQ.wr F.QUEUE_PARK.RESERVED 8) 4 5 0 false []) (fun t =>
    reported t 0 0 && t.wq? 5 == none && t.rd F.QUEUE_PARK.RESERVED == 0 && t.cq? 7 == some { cq0 with reserved := 0, bound := 0 }) = true ∧
    okAfter (.wqDelete 0) (cmd (queues { wq0 with pi := 1 } cq0) 4 5 0 false []) (fun t => reported t 4 0x0B) = true := by decide +kernel
def stoppedWq : Wq := { wq0 with state := 3, pi := 9, fi := 9, ci := 4, freeze := true }
theorem test_queue_restart : okAfter (.queueRestart 0) (cmd (queues stoppedWq cq0) 5 5 9 false []) (fun t =>
    reported t 0 0 && t.wq? 5 == some { stoppedWq with state := 1, ci := 9, fi := 9, freeze := false }) = true ∧
    okAfter (.queueRestart 0) (cmd (queues stoppedWq cq0) 5 5 10 false []) (fun t => reported t 4 0x10) = true ∧
    okAfter (.queueRestart 0) (cmd (queues { stoppedWq with state := 1 } cq0) 5 5 9 false []) (fun t => reported t 4 0x0B) = true := by decide +kernel
theorem test_restart_cq : okAfter (.queueRestart 0) (cmd (queues wq0 { cq0 with state := 2 }) 5 7 0 true []) (fun t => reported t 0 0 && t.cq? 7 == some cq0) = true ∧
    okAfter (.queueRestart 0) (cmd idleQ 5 7 0 true []) (fun t => reported t 4 0x0B) = true := by decide +kernel
theorem test_abort_idle : okAfter (.queueAbort 0) (cmd (queues { wq0 with fi := 2, pi := 3 } cq0) 6 5 0 false []) (fun t =>
    reported t 0 0 && t.wq? 5 == some { wq0 with fi := 2, pi := 3, state := 3, ci := 2 } && queueEvents t == [4 * 2 ^ 60 + 5]) = true := by decide +kernel
def startedWq : Wq := { wq0 with fi := 2, pi := 3, ci := 1, jobs := [qjob 1 .started] }
theorem test_abort_running : okAfter (.queueAbort 0) (atTime (cmd (queues startedWq cq0) 6 5 0 false []) 77) (fun t =>
    t.q.aborts == [(0, false, 5, 77)] && t.wq? 5 == some { startedWq with abort := some 77 } && (t.blkWord 0 0).testBit 62) = true := by decide +kernel
theorem test_abort_unstarted : okAfter (.queueAbort 0) (cmd (queues { startedWq with jobs := [qjob 1 .unstarted] } { cq0 with state := 2 }) 6 5 0 false []) (fun t =>
    reported t 0 0 && (t.wq? 5).map (fun w => (w.state, w.ci, w.jobs.map (fun j => (j.stage, j.status, j.detail)))) == some (3, 2, [(.done, 1, 0x12)])) = true := by decide +kernel
theorem test_abort_cq : okAfter (.queueAbort 0) (cmd ((hostUp.setCq 7 cq0)) 6 7 0 true []) (fun t => reported t 0 0 && t.cq? 7 == some { cq0 with state := 3 }) = true := by decide +kernel
def aborting (w : Wq) (c : Cq) : State :=
  let s := cmd (queues { w with abort := some 77 } c) 6 5 0 false []
  { s with q := { s.q with aborts := [(0, false, 5, 77)] } }
/-- 400 µs are 3,200,000 units. -/
theorem test_squash : okAfter (.queueAbortSquash 5) (atTime (aborting startedWq { cq0 with state := 2 }) 3200077) (fun t =>
    reported t 0 0 && (t.wq? 5).map (fun w => (w.state, w.ci, w.abort, w.jobs.map (fun j => (j.stage, j.status, j.detail)))) == some (3, 2, none, [(.done, 1, 0x11)]) &&
      t.q.aborts == []) = true ∧
    noEffect (.queueAbortSquash 5) (atTime (aborting startedWq { cq0 with state := 2 }) 3200076) = true := by decide +kernel
theorem test_squash_early : okAfter (.queueAbortSquash 5) (atTime (aborting { startedWq with jobs := [qjob 1 .done] } { cq0 with state := 2 }) 78) (fun t =>
    reported t 0 0 && (t.wq? 5).map (fun w => (w.state, w.jobs.length)) == some (3, 1)) = true := by decide +kernel
theorem test_moderate : okAfter (.moderate 0) (cmd idleQ 7 7 0 true (params 0 0 0 0 9 0 5 6 0 0)) (fun t =>
    reported t 0 0 && t.cq? 7 == some { cq0 with vector := 9, modCount := 5, modTime := 6 }) = true ∧
    okAfter (.moderate 0) (cmd idleQ 7 7 0 true (params 0 0 0 0 2048 0 5 6 0 0)) (fun t => reported t 4 0x0F) = true ∧
    okAfter (.moderate 0) (cmd (queues wq0 { cq0 with armed := true, new := 2 }) 7 7 0 true (params 0 0 0 0 9 0 2 6 0 0)) (fun t =>
      (t.cq? 7).map (fun c => (c.armed, c.new)) == some (false, 2)) = true := by decide +kernel
theorem test_query : okAfter (.query 0) (cmd (queues { wq0 with pi := 9 } cq0) 8 5 0 false []) (fun t =>
    reported t 0 0 && (t.blkData 0).take 24 == [1, 1, 4, 8, 0, 0, 3, 0, 0, 0, 1, 0, 0, 0, 0, 0, 9, 0, 0, 0, 0, 0, 0, 0]) = true ∧
    okAfter (.query 0) (cmd idleQ 8 7 1 true []) (fun t => reported t 0 0 && (t.blkData 0).take 16 == [1, 0, 4, 0, 0, 0, 3, 0, 0, 0, 2, 0, 0, 0, 0, 0]) = true := by decide +kernel
theorem test_query_free : okAfter (.query 0) (cmd idleQ 8 6 0 false [1]) (fun t => reported t 0 0 && t.blkData 0 == List.replicate 64 0) = true ∧
    okAfter (.query 0) (cmd idleQ 8 5 2 false []) (fun t => reported t 2 0x0F) = true := by decide +kernel
theorem test_sched : okAfter (.sched 0) (cmd idleQ 9 5 0 false (params 0 0 0 0 0 0 0 0 1 64)) (fun t =>
    reported t 0 0 && (t.wq? 5).map (fun w => (w.weight, w.burst, w.mules)) == some (1, 64, 0)) = true ∧
    okAfter (.sched 0) (cmd idleQ 9 5 0 false (params 0 0 0 0 0 0 0 0 1 65)) (fun t => reported t 4 0x0F) = true := by decide +kernel
theorem test_sched_function : okAfter (.sched 4) (idleQ.setBlk 4 0 (3 * 2 ^ 62 + 9 * 2 ^ 52 + 5 * 2 ^ 32)) (fun t => t.blkWord 4 8 == 2 ^ 31 + 0x0D03) = true := by decide +kernel

/-! ### Bobbins (chapter 07) -/

/-- Half A carves class 0 (OWNER) as granules 16 to 19 and class 1 (REFCOUNT) as 64 to 71; tenant 3 may hold 2 of each. -/
def carved : State :=
  let s := (((sendOn.wr (F.BOBBIN_CLASS.BASE 0) 16).wr (F.BOBBIN_CLASS.COUNT 0) 4).wr (F.BOBBIN_CLASS.BASE 1) 64).wr (F.BOBBIN_CLASS.COUNT 1) 4
  let s := ((s.wr (F.BOBBIN_CLASS.MODE 1) 1).wr (F.BOBBIN_PART_W0.MAX 24) 2).wr (F.BOBBIN_PART_W0.MAX 25) 2
  s.bobbinEnable
def held (own : Nat) (c ref : Nat) : Bobbin :=
  { next := 0, refcnt := ref, len := 100, cls := c, tenant := 3, owner := own, alloc := false, track := false, off := 8, held := true }
def me : Nat := epThread 8 0
/-- Thread 8 holds bobbin 17; bobbin 66 has 2 holders; one of each class is in use. -/
def holding : State :=
  let s := ((carved.setDesc 17 (held me 0 0)).setDesc 66 (held 0 1 2)).wr (inUseF 0 3 0) 1
  ((s.wr (inUseF 0 3 1) 1).wr (F.BOBBIN_POOL.FREE 0) 3).wr (F.BOBBIN_POOL.FREE 1) 3
def storeMsg (s : State) (op chain handle len ten : Nat) (ws : List W64) : State :=
  s.setQueue (epUnit 3 0) [{ someMsg 1 (epUnit 3 0) 1 (1 + ws.length) with
    words := BitVec.ofNat 64 (op + 2 ^ 4 * chain + 2 ^ 8 * handle + 2 ^ 32 * len + 2 ^ 49 * ten) :: ws }]
/-- The store answers thread 8 with words. -/
def storeAnswers (t : State) (ws : List W64) : Bool :=
  t.queueAt (epUnit 3 0) == [] && t.yarn.flights.map (fun f => (f.msg.dst, f.msg.tag, f.msg.words)) == [(me, 9, ws)]
/-- A refused handle is counted, and no bobbin changes. -/
def storeRefuses (c : Instr) (s : State) (st det handle : Nat) : Bool :=
  okAfter c s (fun t => storeAnswers t [storeReply (st, det) handle 0] && t.bob == s.bob && t.rd F.BOBBIN_STAT.CHECK_FAIL.CNT == 1)
def storeFails (c : Instr) (s : State) (st det handle : Nat) : Bool :=
  okAfter c s (fun t => storeAnswers t [storeReply (st, det) handle 0] && t.bob == s.bob && t.csr == s.csr)

theorem test_carved : carved.rd F.BOBBIN_STATUS.READY = 1 ∧ carved.poolFree 0 0 = 4 ∧ carved.poolFree 0 1 = 4 ∧ carved.poolFree 1 0 = 0 ∧ carved.rd F.BOBBIN_STATUS.CFG_FAIL = 0 := by decide +kernel
/-- Classes 0 and 1 meet: pool 0 is named with OVERLAP. -/
theorem test_carve_overlap : okAfter .bobbinEnable ((((State.reset.wr (F.BOBBIN_CLASS.BASE 0) 16).wr (F.BOBBIN_CLASS.COUNT 0) 5).wr (F.BOBBIN_CLASS.BASE 1) 20).wr (F.BOBBIN_CLASS.COUNT 1) 4) (fun t =>
    t.rd F.BOBBIN_STATUS.READY == 0 && t.rd F.BOBBIN_CFG.EN == 0 && t.rd F.BOBBIN_STATUS.CFG_FAIL == 1 && t.rd F.BOBBIN_STATUS.FAIL_POOL == 0 && t.rd F.BOBBIN_STATUS.FAIL_CAUSE == 1) = true := by decide +kernel
theorem test_carve_edges : carved.carveFault 0 0 = none ∧ ((carved.wr (F.BOBBIN_CLASS.BASE 0) 0).carveFault 0 0) = some 3 ∧ ((carved.wr (F.BOBBIN_CLASS.BASE 0) 262140).carveFault 0 0) = none ∧
    ((carved.wr (F.BOBBIN_CLASS.BASE 0) 262141).carveFault 0 0) = some 2 := by decide +kernel
theorem test_enable_again : noEffect .bobbinEnable carved = true := by decide +kernel

/-- Half B has as many bobbins of class 0. -/
def bothCarved : State := carved.wr (F.BOBBIN_CLASS.COUNT 8) 4
theorem test_part_write : okAfter (.bobbinPartWrite .cobbler 3 0 (BitVec.ofNat 64 (4 + 2 ^ 20 * 4 + 2 ^ 40 * 16 + 2 ^ 46 * 32 + 2 ^ 52 * 48))) bothCarved (fun t =>
    bothCarved.reaches .cobbler && t.partMin 3 0 == 4 && t.partMax 3 0 == 4 && t.markW 3 0 0 == 16 && t.markW 3 0 1 == 32 && t.markW 3 0 2 == 48 && t.rd (F.BOBBIN_POOL.MIN_SUM 0) == 4) = true := by decide +kernel
theorem test_part_refused : okAfter (.bobbinPartWrite .cobbler 3 0 5) bothCarved (fun t => t.partMin 3 0 == 0 && t.partMax 3 0 == 2 && t.rd F.GLOBAL_CSR_ERR_CNT.COUNT == 1) = true := by decide +kernel
theorem test_part_range : noEffect (.bobbinPartWrite .cobbler 4096 0 5) carved = true ∧ noEffect (.bobbinPartWrite .cobbler 3 8 5) carved = true := by decide +kernel

theorem test_store_empty : noEffect (.alloc 0) carved = true := by decide +kernel
theorem test_store_bad_op : storeFails (.alloc 0) (storeMsg holding 7 0 17 0 3 []) 2 9 0 = true ∧ storeFails (.transfer 0) (storeMsg holding 3 0 17 0 3 []) 2 9 0 = true := by decide +kernel
theorem test_alloc_long : storeFails (.alloc 0) (storeMsg holding 1 0 0 65537 3 []) 4 0x0A 0 = true := by decide +kernel
/-- No class holds 513 bytes; length 0 asks for 65,536. -/
theorem test_alloc_none : okAfter (.alloc 0) (storeMsg holding 1 0 0 513 3 []) (fun t => storeAnswers t [storeReply (5, 5) 0 0] && t.rd F.BOBBIN_STAT.NO_BUFFER.CNT == 1) = true ∧
    okAfter (.alloc 0) (storeMsg holding 1 0 0 0 3 []) (fun t => storeAnswers t [storeReply (5, 5) 0 0]) = true := by decide +kernel
/-- The partition is full, and class 0 does not spill. -/
theorem test_alloc_full : okAfter (.alloc 0) (storeMsg (holding.wr (inUseF 0 3 0) 2) 1 0 0 256 3 []) (fun t => storeAnswers t [storeReply (5, 5) 0 0] && t.bob == holding.bob) = true := by decide +kernel
/-- The requests of an ALLOC that succeeds, and of one that spills. -/
theorem test_alloc_gives : holding.chooseClass 0 256 false = some 0 ∧ holding.poolGives 0 0 3 = true ∧ holding.chooseClass 0 257 false = some 1 ∧
    ((holding.wr (inUseF 0 3 0) 2).wr (F.BOBBIN_CLASS.SPILL_UP 0) 1).spillPath 0 [0, 1] = [0, 1] := by decide +kernel
theorem test_store_handle : storeRefuses (.free 0) (storeMsg holding 2 0 20 0 0 []) 4 1 20 = true ∧ storeRefuses (.incref 0) (storeMsg holding 4 0 65 0 0 []) 4 2 65 = true ∧
    storeRefuses (.free 0) (storeMsg holding 2 0 (2 ^ 23 + 17) 0 0 []) 4 1 (2 ^ 23 + 17) = true := by decide +kernel
theorem test_store_mode : storeFails (.transfer 0) (storeMsg holding 3 0 66 0 0 [5]) 2 7 66 = true ∧ storeFails (.incref 0) (storeMsg holding 4 0 17 0 0 []) 2 7 17 = true := by decide +kernel
theorem test_store_owner : storeRefuses (.free 0) (storeMsg (holding.setDesc 17 (held 5 0 0)) 2 0 17 0 0 []) 3 3 17 = true := by decide +kernel
theorem test_double_free : storeRefuses (.free 0) (storeMsg (holding.setDesc 17 { held me 0 0 with track := true }) 2 0 17 0 0 []) 4 4 17 = true := by decide +kernel
theorem test_free : okAfter (.free 0) (storeMsg holding 2 0 17 0 0 []) (fun t =>
    storeAnswers t [storeReply (0, 0) 0 1] && (t.desc 17).held == false && t.inUse 0 3 0 == 0 && t.poolFree 0 0 == 4 && t.rd F.BOBBIN_STAT.FREES.CNT == 1) = true := by decide +kernel
theorem test_free_counted : okAfter (.free 0) (storeMsg holding 2 0 66 0 0 []) (fun t =>
    storeAnswers t [storeReply (0, 0) 0 1] && t.desc 66 == held 0 1 1 && t.poolFree 0 1 == 3) = true ∧
    okAfter (.free 0) (storeMsg (holding.setDesc 66 (held 0 1 1)) 2 0 66 0 0 []) (fun t => (t.desc 66).held == false && t.poolFree 0 1 == 4) = true ∧
    storeFails (.free 0) (storeMsg (holding.setDesc 66 (held 0 1 0)) 2 0 66 0 0 []) 4 8 66 = true := by decide +kernel
theorem test_transfer : okAfter (.transfer 0) (storeMsg holding 3 0 17 0 0 [0xABCDE]) (fun t => storeAnswers t [storeReply (0, 0) 0 1] && t.desc 17 == held 0xABCDE 0 0) = true := by decide +kernel
theorem test_incref : okAfter (.incref 0) (storeMsg holding 4 0 66 0 0 []) (fun t => t.desc 66 == held 0 1 3) = true ∧
    storeFails (.incref 0) (storeMsg (holding.setDesc 66 (held 0 1 255)) 4 0 66 0 0 []) 4 8 66 = true := by decide +kernel
theorem test_transfer_chain : okAfter (.transfer 0) (storeMsg ((holding.setDesc 17 { held me 0 0 with next := 18 }).setDesc 18 (held me 0 0)) 3 1 17 0 0 [0x44]) (fun t =>
    storeAnswers t [storeReply (0, 0) 0 2] && (t.desc 17).owner == 0x44 && (t.desc 18).owner == 0x44) = true := by decide +kernel
/-- NEXT 18, LEN 200, OFF 56 fill class 0's 256 bytes. -/
theorem test_link : okAfter (.link 0) (storeMsg holding 5 0 17 0 0 [BitVec.ofNat 64 (18 + 2 ^ 24 * 200 + 2 ^ 41 * 56)]) (fun t =>
    storeAnswers t [storeReply (0, 0) 0 1] && t.desc 17 == { held me 0 0 with next := 18, len := 200, off := 56 }) = true ∧
    storeFails (.link 0) (storeMsg holding 5 0 17 0 0 [BitVec.ofNat 64 (18 + 2 ^ 24 * 200 + 2 ^ 41 * 57)]) 4 0x0A 17 = true ∧
    storeRefuses (.link 0) (storeMsg holding 5 0 17 0 0 [20]) 4 1 20 = true := by decide +kernel
theorem test_info : okAfter (.bobbinInfo 0) (storeMsg holding 6 0 66 0 0 []) (fun t =>
    storeAnswers t [storeReply (0, 0) 0 1, BitVec.ofNat 64 (2 * 2 ^ 24 + 100 * 2 ^ 32 + 2 ^ 49 + 3 * 2 ^ 52), BitVec.ofNat 64 (8 * 2 ^ 32)]) = true := by decide +kernel
theorem test_info_owner : okAfter (.bobbinInfo 0) (storeMsg (holding.setDesc 17 (held 5 0 0)) 6 0 17 0 0 []) (fun t => storeAnswers t [storeReply (3, 3) 17 0, 0, 0]) = true := by decide +kernel
/-- Scrubbing is on, and channel 0 has chosen background work. -/
def scrubbed : State := let s := holding.wr F.BOBBIN_CFG.SCRUB_EN 1; s.setUnit 3 0 { s.unit 3 0 with chosen := some .background }
theorem test_scrub_off : noEffect (.bobbinScrub 17 true) (holding.wr F.BOBBIN_CFG.SCRUB_EN 0) = true ∧ noEffect (.bobbinScrub 300 true) scrubbed = true := by decide +kernel
theorem test_scrub : okAfter (.bobbinScrub 18 false) scrubbed (fun t => t.rd F.BOBBIN_STAT.SCRUB_CORR.CNT == 1 && t.bob == scrubbed.bob) = true ∧
    okAfter (.bobbinScrub 17 true) scrubbed (fun t => t.bob == { scrubbed.bob with bad := [17] } && t.csr == scrubbed.csr && t.reports.map (fun r => r.1) == [6]) = true := by decide +kernel
theorem test_scrub_retires : okAfter (.bobbinScrub 18 true) scrubbed (fun t =>
    (t.pool 0 0).retired == [18] && t.poolFree 0 0 == 2 && t.rd (F.BOBBIN_POOL.RETIRED 0) == 1 && t.reports.map (fun r => r.1) == [6]) = true := by decide +kernel

/-! ### The Welt block interface (chapter 08) -/

/-- Volume 4 of PF0 and tenant 3 behind link 2: 512-byte blocks, 100 of them, namespace 7 from block 5000, a quota of 300 pages, SEQ 9. -/
def volCtx (state flags func backend used : Nat) : Bytes :=
  toLE 1 state ++ toLE 1 flags ++ toLE 2 func ++ toLE 2 3 ++ toLE 2 backend ++ toLE 4 7 ++ toLE 4 5 ++ toLE 8 100 ++ toLE 8 5000 ++ toLE 4 300 ++ toLE 4 used ++
    toLE 8 9 ++ List.replicate 16 0
/-- The Welt is enabled with 8 pages in each half. -/
def weltOn (s : State) (ctx : Bytes) : State :=
  ((s.wr F.WELT_CFG.EN 1).wr (F.WELT_WBUF_SIZE.PAGES 0) 8).devWrite (s.volAddr 4) ctx
def volAsk (s : State) (op i : Nat) (d : Bytes) : State :=
  let s := (((s.wr F.WELT_VOL_CMD.BUSY 1).wr F.WELT_VOL_CMD.GO 1).wr F.WELT_VOL_CMD.OP op).wr F.WELT_VOL_CMD.INDEX i |>.setVolData d
  { s with welt := { s.welt with goWord := s.word 0x1500100 } }
def volReports (t : State) (st det : Nat) : Bool :=
  t.rd F.WELT_VOL_CMD.BUSY == 0 && t.rd F.WELT_VOL_CMD.GO == 0 && t.rd F.WELT_VOL_STATUS.DONE == 1 && t.rd F.WELT_VOL_STATUS.STATUS == st && t.rd F.WELT_VOL_STATUS.DETAIL == det
def vol4 (st : Nat) : State := weltOn idleQ (volCtx st 0 0 2 0)

theorem test_vol_none : noEffect .volSet (vol4 2) = true ∧ noEffect .volRead (volAsk (vol4 2) 1 4 []) = true := by decide +kernel
theorem test_vol_set : okAfter .volSet (volAsk (vol4 2) 1 4 (volCtx 0 8 5 3 77)) (fun t => volReports t 0 0 && t.devRead (t.volAddr 4) 64 == volCtx 2 8 5 3 0) = true := by decide +kernel
theorem test_vol_set_busy : okAfter .volSet (volAsk (vol4 1) 1 4 (volCtx 0 8 5 3 0)) (fun t => volReports t 4 0x14 && t.mem == (vol4 1).mem) = true := by decide +kernel
theorem test_vol_set_config : okAfter .volSet (volAsk (vol4 2) 1 4 (volCtx 0 16 5 3 0)) (fun t => volReports t 2 0x15) = true ∧
    okAfter .volSet (volAsk (vol4 2) 1 4 (volCtx 0 0 5 16 0)) (fun t => volReports t 2 0x15) = true := by decide +kernel
/-- Session 5 is not an XTS session of the tenant. -/
theorem test_vol_set_session : okAfter .volSet (volAsk { vol4 2 with cipher := gcmSession.cipher } 1 4 (volCtx 0 2 5 3 0)) (fun t => volReports t 3 0x0D) = true := by decide +kernel
theorem test_vol_online : okAfter .volOnline (volAsk (vol4 2) 2 4 []) (fun t => volReports t 0 0 && t.volState 4 == 1) = true ∧
    okAfter .volOnline (volAsk (vol4 1) 2 4 []) (fun t => volReports t 4 0x14) = true := by decide +kernel
theorem test_vol_offline : okAfter .volOffline (volAsk (vol4 1) 3 4 []) (fun t => t.volState 4 == 2 && t.welt.offline == [(4, none)] && t.rd F.WELT_VOL_CMD.BUSY == 1) = true ∧
    okAfter .volOffline (volAsk (vol4 0) 3 4 []) (fun t => volReports t 4 0x14) = true := by decide +kernel
theorem test_vol_offline_done : okAfter (.volOfflineDone 4) (after .volOffline (volAsk (vol4 1) 3 4 [])) (fun t => volReports t 0 0 && t.welt.offline == []) = true ∧
    noEffect (.volOfflineDone 4) (vol4 1) = true ∧ noEffect (.volOfflineDone 4) (after .volOffline (volAsk (weltOn idleQ (volCtx 1 0 0 2 1)) 3 4 [])) = true := by decide +kernel
theorem test_vol_read : okAfter .volRead (volAsk (vol4 2) 4 4 []) (fun t => volReports t 0 0 && t.rd (F.WELT_VOL_DATA.W 2) == 7 && t.rd (F.WELT_VOL_DATA.W 4) == 100) = true := by decide +kernel
theorem test_vol_delete : okAfter .volDelete (volAsk (vol4 2) 5 4 []) (fun t => volReports t 0 0 && t.volState 4 == 0 && t.vol 4 2 2 == 0xFFFF && t.vol 4 8 4 == 7) = true ∧
    okAfter .volDelete (volAsk (vol4 1) 5 4 []) (fun t => volReports t 4 0x14) = true := by decide +kernel

/-- A connection's descriptor: Ethernet port 8, queue size 16, KATO 1,000 ms. -/
def connDesc (port size kato : Nat) : Bytes := toLE 1 port ++ List.replicate 45 0 ++ toLE 2 size ++ toLE 4 kato ++ List.replicate 12 0 ++ [BitVec.ofNat 8 65] ++ List.replicate 191 0
def conn3 (up : Bool) (op : Option Nat) : State := (vol4 2).setConn 3 ⟨connDesc 8 16 1000, up, op, 0, none⟩
theorem test_conn_bad : connBad (connDesc 15 16 1000) = false ∧ connBad (connDesc 16 16 1000) = true ∧ connBad (connDesc 8 15 1000) = true ∧ connBad (connDesc 8 1024 60000) = false ∧
    connBad (connDesc 8 16 999) = true := by decide +kernel
theorem test_conn_set : okAfter .connSet (volAsk (conn3 false none) 8 3 (connDesc 9 16 1000)) (fun t => volReports t 0 0 && (t.conn 3).desc == connDesc 9 16 1000) = true ∧
    okAfter .connSet (volAsk (conn3 true none) 8 3 (connDesc 9 16 1000)) (fun t => volReports t 4 0x14) = true ∧
    okAfter .connSet (volAsk (conn3 false none) 8 3 (connDesc 16 16 1000)) (fun t => volReports t 2 0x15) = true := by decide +kernel
theorem test_conn_up : okAfter .connUp (atTime (volAsk (conn3 false none) 9 3 []) 55) (fun t => (t.conn 3).opening == some 55 && t.outs.head? == some (.connOpen 3 8 (connDesc 8 16 1000))) = true ∧
    okAfter .connUp (volAsk (conn3 true none) 9 3 []) (fun t => volReports t 4 0x14) = true ∧ okAfter .connUp (volAsk (vol4 2) 9 3 []) (fun t => volReports t 2 0x15) = true ∧
    noEffect .connUp (volAsk (conn3 false (some 1)) 9 3 []) = true := by decide +kernel
theorem test_conn_up_done : okAfter (.connectionUpDone 3 true) (volAsk (conn3 false (some 1)) 9 3 []) (fun t =>
    volReports t 0 0 && (t.conn 3).up && (t.conn 3).opening == none && (t.fifo weltEvq).entries == [3 * 2 ^ 60 + 3 * 2 ^ 32]) = true ∧
    noEffect (.connectionUpDone 3 true) (conn3 false none) = true := by decide +kernel
/-- IO_TIMEOUT of 2 ms is 16,000,000 units. -/
theorem test_conn_timeout : okAfter (.connectionUpDone 3 false) (atTime ((volAsk (conn3 false (some 1)) 9 3 []).wr F.WELT_CFG.IO_TIMEOUT 2) 16000001) (fun t =>
    volReports t 0x0B 9 && (t.conn 3).opening == none) = true ∧
    noEffect (.connectionUpDone 3 false) (atTime ((volAsk (conn3 false (some 1)) 9 3 []).wr F.WELT_CFG.IO_TIMEOUT 2) 16000000) = true := by decide +kernel
theorem test_conn_down_already : okAfter .connDown (volAsk (conn3 false none) 10 3 []) (fun t => volReports t 0 0 && t.outs == []) = true := by decide +kernel
theorem test_conn_read : okAfter .connRead (volAsk (conn3 true none) 11 3 []) (fun t => volReports t 0 0 && t.rd F.WELT_VOL_STATUS.UP == 1 && t.rd (F.WELT_VOL_DATA.W 0) == 8 && t.rd (F.WELT_VOL_DATA.W 12) == 1000) = true := by decide +kernel
/-- Half of KATO is 4,000,000,000 units. -/
theorem test_keep_alive : okAfter (.keepAlive 3 false) (atTime (conn3 true none) 4000000000) (fun t => t.outs == [.keepAlive 3] && t.conn 3 == ⟨connDesc 8 16 1000, true, none, 4000000000, some 4000000000⟩) = true ∧
    noEffect (.keepAlive 3 false) (atTime (conn3 true none) 3999999999) = true ∧ noEffect (.keepAlive 3 true) (conn3 false none) = true ∧
    okAfter (.keepAlive 3 true) ((vol4 2).setConn 3 ⟨connDesc 8 16 1000, true, none, 0, some 5⟩) (fun t => (t.conn 3).kaOpen == none) = true := by decide +kernel
theorem test_conn_alive : noEffect (.connectionDown 3 false) (conn3 true none) = true ∧ noEffect (.connectionDown 3 true) (conn3 false none) = true := by decide +kernel

/-! I/O commands. -/

/-- A storage entry: opcode, CID 0x77, volume 4, blocks less one, first block, and one segment. -/
def ioe (op nlb lba len : Nat) : Bytes := toLE 1 op ++ toLE 1 3 ++ toLE 2 0 ++ toLE 4 0 ++ toLE 2 0x77 ++ toLE 2 4 ++ toLE 2 nlb ++ toLE 2 0 ++ toLE 8 lba ++ toLE 8 0 ++
  toLE 8 0x5000 ++ toLE 4 len ++ toLE 4 0 ++ List.replicate 16 0
def ioJob (op nlb lba len : Nat) (st : JobStage) : Job := { qjob 0 st with opcode := op, entries := [ioe op nlb lba len] }
def ioWq (j : Job) : Wq := { txWq j with type := 3 }
def ioCmd (op seq lba n : Nat) (st : WeltStage) : WeltCmd :=
  { id := 2, wq := 5, first := 0, last := 0, op := op, vol := 4, seq := seq, slba := lba, blocks := n, func := 0, stage := st, pages := 0, sealing := false, ready := none,
    version := none, resolved := false, holds := [], got := [], back := [], issued := false, handles := [], hit := false }
/-- WQ 5 holds one storage job; volume 4 has a context. -/
def io (ctx : Bytes) (j : Job) (cs : List WeltCmd) : State :=
  let s := weltOn (queues (ioWq j) cq0) ctx
  { s with welt := { s.welt with cmds := cs, nextId := 10 } }
def onlineCtx : Bytes := volCtx 1 0 0 2 0
def jobEnd (t : State) (st det len : Nat) : Bool :=
  (t.wq? 5).map (fun w => w.jobs.map (fun j => (j.stage, j.status, j.detail, j.length))) == some [(.ended, st, det, len)]
theorem test_entry_io : entryFault6 3 false [] (ioe 2 1 10 1024) = 0 ∧ entryFault6 3 false [] (ioe 7 1 10 1024) = 2 ∧ entryFault6 3 true [] (ioe 2 1 10 1024) = 2 := by decide +kernel
theorem test_number : okAfter (.write 5 0) (io onlineCtx (ioJob 2 1 10 1024 .unstarted) []) (fun t =>
    t.welt.cmds == [{ ioCmd 2 9 10 2 .numbered with id := 10 }] && t.vol 4 0x28 8 == 10) = true ∧ noEffect (.read 5 0) (io onlineCtx (ioJob 2 1 10 1024 .unstarted) []) = true ∧
    noEffect (.read 5 0) (io onlineCtx (ioJob 2 1 10 1024 .started) []) = true := by decide +kernel
/-- An earlier fetched job of the volume, on WQ 6, is numbered first. -/
theorem test_number_order : noEffect (.write 5 0) ((io onlineCtx { ioJob 2 1 10 1024 .unstarted with since := 8 } []).setWq 6 (ioWq (ioJob 2 1 10 1024 .unstarted))) = true := by decide +kernel
/-- Spindle 1 serves STORAGE and its thread 1 is IDLE. -/
def staffed (s : State) : State := ((s.wr (roleF 1) 1).modSpindle 1 (fun x => { x with bank0 := some someImage })).setTs 9 tsIdle
/-- Group 0 has the choice of the dispatcher. -/
def dispatched (s : State) : State := (staffed s).setUnit 1 0 { s.unit 1 0 with chosen := some (.free 0) }
def starting (ctx : Bytes) (op nlb lba len : Nat) : State := dispatched (io ctx (ioJob op nlb lba len .unstarted) [ioCmd op 9 lba (nlb + 1) .numbered])
theorem test_start_stands : noEffect (.commandStart 2) (io onlineCtx (ioJob 1 1 10 1024 .unstarted) [ioCmd 1 9 10 2 .numbered]) = true := by decide +kernel
theorem test_start_volume : okAfter (.commandStart 2) (starting (volCtx 0 0 0 2 0) 1 1 10 1024) (fun t => jobEnd t 4 1 0) = true ∧
    okAfter (.commandStart 2) (starting (volCtx 2 0 0 2 0) 1 1 10 1024) (fun t => jobEnd t 3 3 0) = true ∧
    okAfter (.commandStart 2) (starting (volCtx 1 8 0 2 0) 2 1 10 1024) (fun t => jobEnd t 3 4 0) = true := by decide +kernel
theorem test_start_attached : okAfter (.commandStart 2) { starting onlineCtx 1 1 10 1024 with welt := { (starting onlineCtx 1 1 10 1024).welt with cmds := [{ ioCmd 1 9 10 2 .numbered with func := 9 }] } } (fun t =>
    jobEnd t 3 2 0) = true := by decide +kernel
/-- Block 99 is the last of 100. -/
theorem test_start_range : okAfter (.commandStart 2) (starting onlineCtx 1 1 99 1024) (fun t => jobEnd t 4 5 0) = true ∧
    okAfter (.commandStart 2) (starting onlineCtx 1 1 98 1024) (fun t => (t.weltCmd 2).map (fun c => c.stage) == some .started && t.groupAt 1 0 == none) = true := by decide +kernel
theorem test_start_length : okAfter (.commandStart 2) (starting onlineCtx 1 1 10 1020) (fun t => jobEnd t 4 6 0) = true := by decide +kernel
theorem test_start_write : okAfter (.commandStart 2) (starting onlineCtx 2 8 10 4608) (fun t =>
    (t.weltCmd 2).map (fun c => (c.stage, c.pages)) == some (.started, 2) && t.vol 4 0x24 4 == 2 && t.rd (F.WELT_WBUF_USE.PAGES 0) == 2) = true := by decide +kernel
theorem test_start_zeroes : okAfter (.commandStart 2) (starting onlineCtx 4 1 10 0) (fun t => (t.weltCmd 2).map (fun c => (c.stage, c.version)) == some (.started, some [])) = true := by decide +kernel
theorem test_start_waits : okAfter (.commandStart 2) (starting (volCtx 1 0 0 2 299) 2 8 10 4608) (fun t =>
    (t.weltCmd 2).map (fun c => c.stage) == some .waiting && t.rd F.WELT_STAT.WBUF_WAITS.CNT == 1) = true := by decide +kernel
def waitingCmd (ctx : Bytes) : State := io ctx (ioJob 2 8 10 4608 .unstarted) [ioCmd 2 9 10 9 .waiting]
theorem test_reserve : okAfter (.wbufReserve 2) (waitingCmd onlineCtx) (fun t => (t.weltCmd 2).map (fun c => (c.stage, c.pages)) == some (.started, 2)) = true ∧
    okAfter (.wbufReserve 2) (waitingCmd (volCtx 2 0 0 2 0)) (fun t => jobEnd t 3 3 0) = true ∧ noEffect (.wbufReserve 2) (waitingCmd (volCtx 1 0 0 2 299)) = true := by decide +kernel

/-- A started command of one block. -/
def begun (ctx : Bytes) (c : WeltCmd) (legs : List Leg) : State := io ctx { ioJob c.op 0 10 512 .started with legs := legs } [{ c with stage := .started }]
def blockOf (x : Nat) : Bytes := List.replicate 512 (BitVec.ofNat 8 x)
def one (op : Nat) : WeltCmd := ioCmd op 9 10 1 .started
/-- A block of zeros but for byte 5. -/
def mostlyZero : Bytes := putB (blockOf 0) 5 [7]
/-- The data of the command's segment, such a block, has come from device memory at 0x5000. -/
def fetched (ctx : Bytes) (c : WeltCmd) : State := (mapped (begun ctx c [.mem 1 0x5000 512])).devWrite 0x5005 [7]
theorem test_write_data : okAfter (.write 5 0) (fetched onlineCtx (one 2)) (fun t => (t.weltCmd 2).map (fun c => c.ready) == some (some mostlyZero)) = true := by decide +kernel
theorem test_write_seal : okAfter (.write 5 0) (fetched (volCtx 1 2 0 2 0) (one 2)) (fun t =>
    t.cipher.jobs.map (fun j => (j.owner, j.op, j.session, j.data, leAt j.raw 0x20 8)) == [(.welt 2, 1, 5, mostlyZero, 10)] && (t.weltCmd 2).map (fun c => c.sealing) == some true) = true := by decide +kernel
def sealed (st det : Nat) (bs : Bytes) : State :=
  { fetched (volCtx 1 2 0 2 0) { one 2 with sealing := true } with cipher := { State.reset.cipher with results := [(2, st, det, bs)] } }
theorem test_write_sealed : okAfter (.write 5 0) (sealed 0 0 (blockOf 8)) (fun t => (t.weltCmd 2).map (fun c => c.ready) == some (some (blockOf 8))) = true ∧
    okAfter (.write 5 0) (sealed 7 8 []) (fun t => jobEnd t 7 0x0D 512) = true := by decide +kernel
theorem test_write_failed : okAfter (.write 5 0) (begun onlineCtx (one 2) [.failed 0x0F]) (fun t => jobEnd t 0x0F 9 0) = true := by decide +kernel
theorem test_visible : okAfter (.versionVisible 2) (begun onlineCtx { one 2 with ready := some (blockOf 7) } []) (fun t => (t.weltCmd 2).map (fun c => (c.ready, c.version)) == some (none, some (blockOf 7))) = true ∧
    noEffect (.versionVisible 2) (begun onlineCtx (one 2) []) = true := by decide +kernel
/-- Earlier commands of the volume: id, opcode, SEQ, block, and a version of one block. -/
def earlier (id op seq lba : Nat) (v : Option Bytes) : WeltCmd := { ioCmd op seq lba 1 .ended with id := id, first := 100 + id, version := v }
def withEarlier (s : State) (xs : List WeltCmd) : State := { s with welt := { s.welt with cmds := s.welt.cmds ++ xs } }
theorem test_resolve : okAfter (.readResolve 2) (withEarlier (begun onlineCtx (one 1) []) [earlier 3 2 5 10 (some (blockOf 5)), earlier 4 2 7 10 (some (blockOf 7)), earlier 6 2 11 10 (some (blockOf 9))]) (fun t =>
    (t.weltCmd 2).map (fun c => (c.resolved, c.holds, c.got)) == some (true, [4], [(0, some (blockOf 7))])) = true := by decide +kernel
/-- A DEALLOCATE hides the version before it: the backing serves the block. -/
theorem test_resolve_dealloc : okAfter (.readResolve 2) (withEarlier (begun onlineCtx (one 1) []) [earlier 3 2 5 10 (some (blockOf 5)), { earlier 4 5 7 10 none with issued := true }]) (fun t =>
    (t.weltCmd 2).map (fun c => (c.resolved, c.holds, c.got)) == some (true, [], [])) = true := by decide +kernel
theorem test_resolve_waits : noEffect (.readResolve 2) (io onlineCtx (ioJob 1 0 10 512 .started) [{ one 1 with seq := 10 }, { one 2 with id := 3, wq := 5 }]) = true := by decide +kernel
def gotten (op : Nat) (b : Option Bytes) : WeltCmd := { one op with resolved := true, got := [(0, b)] }
theorem test_read_returns : okAfter (.read 5 0) (hostTurn (begun onlineCtx (gotten 1 (some (blockOf 7))) [])) (fun t => jobEnd t 0 0 512 && t.outs == [.hostWrite 0 0x5000 (blockOf 7) none] && t.rd F.WELT_STAT.READS.CNT == 1) = true ∧
    noEffect (.read 5 0) (begun onlineCtx (gotten 1 (some (blockOf 7))) []) = true := by decide +kernel
theorem test_compare : okAfter (.compare 5 0) (fetched onlineCtx (gotten 6 (some mostlyZero))) (fun t => jobEnd t 0 0 512) = true ∧
    okAfter (.compare 5 0) (fetched onlineCtx (gotten 6 none)) (fun t => jobEnd t 4 7 5) = true := by decide +kernel
/-- Link 2 is link 2 of Eyelet port 0; block 10 of the volume is block 5,010 of the namespace. -/
def eyeTurn (s : State) : State := s.setUnit 5 0 { s.unit 5 0 with chosen := some (.free 0) }
theorem test_flush : okAfter (.flushIssue 2) (eyeTurn (begun onlineCtx (one 3) [])) (fun t => t.outs == [.nvme 4 2 0 0 false 7 0 0 []] && (t.weltCmd 2).map (fun c => (c.issued, c.back)) == some (true, [⟨0, 0, 0, none, false⟩])) = true ∧
    noEffect (.flushIssue 2) (io onlineCtx (ioJob 3 0 0 0 .started) [{ one 3 with seq := 10 }, { one 2 with id := 3 }]) = true := by decide +kernel
theorem test_issue : okAfter (.backingIssue 2 0) (eyeTurn (begun onlineCtx { one 2 with version := some (blockOf 7) } [])) (fun t =>
    t.outs == [.nvme 4 2 0 1 true 7 5010 1 (blockOf 7)] && (t.weltCmd 2).map (fun c => (c.issued, c.back)) == some (true, [⟨10, 1, 0, none, false⟩])) = true ∧
    noEffect (.backingIssue 2 0) (begun onlineCtx { one 2 with version := some (blockOf 7) } []) = true := by decide +kernel
theorem test_issue_waits : noEffect (.backingIssue 2 0) (eyeTurn (io onlineCtx (ioJob 2 0 10 512 .started) [{ one 2 with seq := 10, version := some (blockOf 7) }, { one 2 with id := 3 }])) = true := by decide +kernel
def issued (op : Nat) : State := staffed (mapped (begun onlineCtx { one op with issued := true, version := some (blockOf 7), back := [⟨10, 1, 0, none, false⟩] } [.mem 1 0x5000 512]))
theorem test_backing_ok : okAfter (.backingCompletion 2 0 0 []) (issued 2) (fun t => jobEnd t 0 0 512 && t.weltCmd 2 == none && t.rd F.WELT_STAT.WRITES.CNT == 1) = true ∧
    okAfter (.backingCompletion 2 0 0 []) (issued 5) (fun t => jobEnd t 0 0 0) = true := by decide +kernel
/-- SCT 1 SC 2 is a device error, SCT 2 SC 0x81 a media error. -/
theorem test_backing_error : okAfter (.backingCompletion 2 0 0x102 []) (issued 2) (fun t => jobEnd t 0x0F 0x0B 512) = true ∧
    okAfter (.backingCompletion 2 0 0x281 []) (issued 2) (fun t => jobEnd t 9 8 512 && (t.wq? 5).map (fun w => (w.freeze, leAt w.errRec 0 4)) == some (true, 0)) = true := by decide +kernel
theorem test_backing_timeout : okAfter (.backingTimeout 2 0) (atTime ((issued 2).wr F.WELT_CFG.IO_TIMEOUT 2) 16000000) (fun t =>
    jobEnd t 0x0B 9 512 && t.outs == [.nvmeAbort 4 2 0] && (t.weltCmd 2).map (fun c => c.stage) == some .ended) = true ∧
    noEffect (.backingTimeout 2 0) (atTime ((issued 2).wr F.WELT_CFG.IO_TIMEOUT 2) 15999999) = true := by decide +kernel
def freezing (j : Job) : State := queues { ioWq j with freeze := true, ci := 0 } cq0
theorem test_freeze : okAfter (.freeze 5) (queues { ioWq (qjob 0 .done) with freeze := true, ci := 1, jobs := [] } cq0) (fun t =>
    (t.wq? 5).map (fun w => (w.state, w.errCause, w.ci, w.jobs.length)) == some (2, 0x40, 1, 0) && t.rd F.WELT_STAT.FREEZES.CNT == 1) = true ∧
    noEffect (.freeze 5) (freezing (qjob 0 .started)) = true ∧ noEffect (.freeze 5) (freezing (qjob 0 .done)) = true := by decide +kernel

/-! The admin queue: WQ 0 of PF0. -/

/-- An admin entry: opcode and bytes 8 on. -/
def ade (op : Nat) (body : Bytes) : Bytes := toLE 1 op ++ toLE 1 3 ++ toLE 6 0 ++ body ++ List.replicate (56 - body.length) 0
def adminJobOf (op : Nat) (body : Bytes) (st : JobStage) : Job := { qjob 0 st with opcode := op, entries := [ade op body] }
def adminOn (w : Wq) (j : Job) : State := (vol4 1).setWq 0 { w with jobs := [j] }
def adminWq : Wq := { ioWq (qjob 0 .unstarted) with func := 0 }
def asks (op : Nat) (body : Bytes) : State := adminOn adminWq (adminJobOf op body .unstarted)
def adminEnd (t : State) (st det len : Nat) : Bool :=
  (t.wq? 0).map (fun w => w.jobs.map (fun j => (j.stage, j.status, j.detail, j.length))) == some [(.ended, st, det, len)]
/-- CNS or FID, TARGET, and the 64-bit field at 0x10. -/
def body (a t x : Nat) : Bytes := toLE 2 a ++ toLE 2 t ++ toLE 4 0 ++ toLE 8 x
theorem test_admin_none : noEffect (.identify 0) (asks 0x82 []) = true ∧ noEffect (.weltAbort 0) (vol4 1) = true := by decide +kernel
theorem test_admin_disabled : okAfter (.getLog 0) ((asks 0x82 []).wr F.WELT_CFG.EN 0) (fun t => adminEnd t 3 3 0) = true := by decide +kernel
theorem test_identify : okAfter (.identify 0) (asks 0x81 (body 1 4 0x6000)) (fun t => adminEnd t 0 0 4096 &&
    (match t.outs with | [.hostWrite 0 0x6000 bs none] => bs.take 24 == [1, 0, 0, 0, 0, 0, 0, 0, 100, 0, 0, 0, 0, 0, 0, 0, 0, 2, 0, 0, 44, 1, 0, 0] && bs.length == 4096 | _ => false)) = true := by decide +kernel
theorem test_identify_faults : okAfter (.identify 0) (asks 0x81 (body 3 4 0x6000)) (fun t => adminEnd t 2 0x10 0) = true ∧
    okAfter (.identify 0) (asks 0x81 (body 1 16384 0x6000)) (fun t => adminEnd t 2 0x10 0) = true ∧ okAfter (.identify 0) (asks 0x81 (body 1 4 0x6002)) (fun t => adminEnd t 2 0x10 0) = true := by decide +kernel
theorem test_get_log : okAfter (.getLog 0) (asks 0x82 (body 2 0 0x6000 ++ toLE 4 16)) (fun t => adminEnd t 0 0 16 && t.outs == [.hostWrite 0 0x6000 (List.replicate 16 0) none]) = true ∧
    okAfter (.getLog 0) (asks 0x82 (body 2 0 0x6000 ++ toLE 4 4097)) (fun t => adminEnd t 2 0x10 0) = true ∧ okAfter (.getLog 0) (asks 0x82 (body 2 0 0x6000 ++ toLE 4 3)) (fun t => adminEnd t 2 0x10 0) = true := by decide +kernel
theorem test_get_feature : okAfter (.getFeature 0) (asks 0x83 (body 2 4 0)) (fun t => adminEnd t 0 0 300) = true ∧ okAfter (.getFeature 0) (asks 0x83 (body 3 4 0)) (fun t => adminEnd t 0 0 1) = true ∧
    okAfter (.getFeature 0) (asks 0x83 (body 1 7 0)) (fun t => adminEnd t 0 0 0) = true ∧ okAfter (.getFeature 0) (asks 0x83 (body 4 7 0)) (fun t => adminEnd t 2 0x10 0) = true := by decide +kernel
theorem test_coalesce : okAfter (.coalesce 0) (asks 0x84 (body 1 7 (5 + 65536 * 6))) (fun t => adminEnd t 0 0 0 && t.cq? 7 == some { cq0 with modCount := 5, modTime := 6 }) = true ∧
    okAfter (.coalesce 0) (asks 0x84 (body 4 7 0)) (fun t => adminEnd t 2 0x10 0) = true ∧ noEffect (.coalesce 0) (asks 0x84 (body 2 4 256)) = true := by decide +kernel
theorem test_volume_wbuf : okAfter (.volumeWbuf 0) (asks 0x84 (body 2 4 256)) (fun t => adminEnd t 0 0 0 && t.vol 4 0x20 4 == 256) = true ∧
    okAfter (.volumeWbuf 0) (asks 0x84 (body 2 4 255)) (fun t => adminEnd t 2 0x10 0 && t.mem == (vol4 1).mem) = true := by decide +kernel
theorem test_volume_state : okAfter (.volumeState 0) (asks 0x84 (body 3 4 2)) (fun t => t.volState 4 == 2 && t.welt.offline == [(4, some (0, 0))] && (t.liveJob 0 0).map (fun j => j.stage) == some .started) = true ∧
    okAfter (.volumeState 0) (asks 0x84 (body 3 4 3)) (fun t => adminEnd t 2 0x10 0) = true ∧
    okAfter (.volumeState 0) (weltOn (asks 0x84 (body 3 4 1)) (volCtx 2 0 0 2 0)) (fun t => adminEnd t 0 0 0 && t.volState 4 == 1) = true := by decide +kernel
def dl (off len a : Nat) : Bytes := toLE 4 off ++ toLE 4 len ++ toLE 8 a
theorem test_download_range : okAfter (.fwDownload 0) (asks 0x85 (dl 4096 100 0x6000)) (fun t => adminEnd t 4 0x10 0) = true ∧
    okAfter (.fwDownload 0) (asks 0x85 (dl (48 * 2 ^ 20) 4096 0x6000)) (fun t => adminEnd t 4 0x10 0) = true ∧ okAfter (.fwDownload 0) (asks 0x85 (dl 4096 4096 0x6001)) (fun t => adminEnd t 2 0x10 0) = true := by decide +kernel
theorem test_download_busy : okAfter (.fwDownload 0) { asks 0x85 (dl 4096 4096 0x6000) with cob := { (asks 0x85 (dl 4096 4096 0x6000)).cob with holder := some (.welt 9) } } (fun t => adminEnd t 4 0x14 0) = true := by decide +kernel
theorem test_download_reads : okAfter (.fwDownload 0) (asks 0x85 (dl 4096 4096 0x6000)) (fun t => (t.liveJob 0 0).map (fun j => (j.stage, j.legs.length)) == some (.started, 8)) = true := by decide +kernel
theorem test_download_ends : okAfter (.fwDownload 0) ((mapped (adminOn adminWq { adminJobOf 0x85 (dl 4096 4096 0x6000) .started with legs := [.mem 1 0x6000 16] })).devWrite 0x6000 [9, 9]) (fun t =>
    adminEnd t 0 0 4096 && t.cob.holder == some (.welt 0) && Memory.read t.cob.staging 4096 2 == [9, 9]) = true := by decide +kernel
def target (st : JobStage) : State := (asks 0x87 (toLE 2 5 ++ toLE 2 0x77)).setWq 5 (ioWq (ioJob 2 0 10 512 st))
theorem test_abort_caught : okAfter (.weltAbort 0) (target .unstarted) (fun t => adminEnd t 0 0 0 && jobEnd t 1 0x0C 0 && t.rd F.WELT_STAT.ABORT_CAUGHT.CNT == 1) = true := by decide +kernel
theorem test_abort_missed : okAfter (.weltAbort 0) ((asks 0x87 (toLE 2 5 ++ toLE 2 0x78)).setWq 5 (ioWq (ioJob 2 0 10 512 .unstarted))) (fun t => adminEnd t 0 0 0 && t.rd F.WELT_STAT.ABORT_MISSED.CNT == 1) = true ∧
    okAfter (.weltAbort 0) (asks 0x87 (toLE 2 64 ++ toLE 2 0x78)) (fun t => adminEnd t 0 0 0 && t.rd F.WELT_STAT.ABORT_MISSED.CNT == 1) = true := by decide +kernel
theorem test_abort_waits : okAfter (.weltAbort 0) (target .started) (fun t => AMap.get? t.welt.aborts 0 == some (5, 0)) = true ∧ noEffect (.weltAbort 0) (after (.weltAbort 0) (target .started)) = true := by decide +kernel
def creating (fl : Nat) (st : JobStage) (legs : List Leg) : State := adminOn adminWq { adminJobOf 0x88 (toLE 2 8 ++ toLE 2 fl ++ toLE 4 0 ++ toLE 8 0x6000) st with legs := legs }
theorem test_queue_create : okAfter (.queueCreate 0) (creating 0 .unstarted []) (fun t => (t.liveJob 0 0).map (fun j => (j.stage, j.legs.length)) == some (.started, 1)) = true ∧
    okAfter (.queueCreate 0) ((creating 1 .unstarted []).wr F.WELT_PERCMD.COUNT 64) (fun t => adminEnd t 5 0x0F 0) = true ∧
    okAfter (.queueCreate 0) ((mapped (creating 1 .started [.mem 1 0x6000 64])).devWrite 0x6000 (params 0 4 7 16 0 0x40000 0 0 1 8)) (fun t =>
      adminEnd t 0 0 0 && (t.wq? 8).map (fun w => (w.type, w.state, w.cq, w.percmd)) == some (3, 1, 7, true) && t.rd F.WELT_PERCMD.COUNT == 1) = true := by decide +kernel
theorem test_queue_delete : okAfter (.queueDelete 0) ((asks 0x89 (toLE 2 6)).setWq 6 wq0) (fun t => adminEnd t 0 0 0 && t.wq? 6 == none) = true ∧
    okAfter (.queueDelete 0) ((asks 0x89 (toLE 2 6)).setWq 6 { wq0 with pi := 1 }) (fun t => adminEnd t 4 0x0B 0) = true ∧ okAfter (.queueDelete 0) (asks 0x89 (toLE 2 64)) (fun t => adminEnd t 4 0x0C 0) = true := by decide +kernel
theorem test_admin_restart : okAfter (.adminQueueRestart 0) ((asks 0x8A (toLE 2 6 ++ toLE 2 0 ++ toLE 4 9)).setWq 6 stoppedWq) (fun t =>
    adminEnd t 0 0 0 && t.wq? 6 == some { stoppedWq with state := 1, ci := 9, fi := 9, freeze := false }) = true ∧
    okAfter (.adminQueueRestart 0) ((asks 0x8A (toLE 2 6 ++ toLE 2 0 ++ toLE 4 9)).setWq 6 wq0) (fun t => adminEnd t 4 0x0B 0) = true := by decide +kernel

/-! ### Functions of the host link (chapter 09) -/

/-- Each PF has 2 VFs: 4 and 5 of PF1, 6 and 7 of PF2, 8 and 9 of PF3. The PFs, VF 4 (tenant 3) and VF 6 are ACTIVE; link 0 answers. -/
def fns : State :=
  let s := (List.range 3).foldl (fun s k => s.wr (F.HOSTLINK_PF.TOTALVFS k) 2) opened
  let s := [0, 1, 2, 3, 4, 6].foldl (fun s f => s.setFstate f 1) s
  let s := (s.wr (F.HOSTLINK_FUNC.TENANT 4) 3).wr (F.HOSTLINK_LINK_STATUS.UP 0) 1
  s.setHost { s.host with ready := [(0, true)], perst := [(0, 7)] }
/-- WQ 5 of function `f` has one job. -/
def fnJob (f : Nat) (j : Job) : State := (fns.setWq 5 { wq0 with func := f, pi := 1, fi := 1, jobs := [j] }).setCq 7 { cq0 with func := f }
def parks (t : State) (det : Nat) : Bool := (t.wq? 5).map (fun w => w.jobs.map (fun j => (j.stage, j.status, j.detail))) == some [(.done, 1, det)]

theorem test_functions : fns.vfBase 1 = 4 ∧ fns.vfBase 3 = 8 ∧ fns.pfOf 7 = some 2 ∧ fns.pfOf 10 = none ∧ fns.funcList.length = 10 := by decide +kernel
theorem test_host_reset : okAfter (.hostReset 0 false) (atTime ((fns.wr F.GLOBAL_CSR_ERR_CNT.COUNT 3).modCfg 2 (fun c => { c with vfEnable := true, numVfs := 1 })) 99) (fun t =>
    t.rd (F.HOSTLINK_LINK_STATUS.UP 0) == 0 && [0, 1, 2, 3, 4, 6].all (fun f => t.fstate f == fsTeardown) && t.fstate 5 == fsDisabled && (t.func 2).cfg.vfEnable == false &&
      (t.func 2).cfg.numVfs == 0 && t.linkReady 0 == false && AMap.get? t.host.perst 0 == some 99 && t.rd F.GLOBAL_CSR_ERR_CNT.COUNT == 0) = true := by decide +kernel
theorem test_host_reset_perst : okAfter (.hostReset 0 true) fns (fun t => AMap.get? t.host.perst 0 == none && t.pwr.perst == [0] && t.fstate 0 == fsTeardown) = true := by decide +kernel
/-- PF2 lies on link 1: a reset of link 0 leaves it. -/
theorem test_host_reset_other : okAfter (.hostReset 0 false) (fns.wr F.HOSTLINK_LINKCFG.PF2_LINK 1) (fun t => t.fstate 2 == fsActive && t.fstate 6 == fsActive && t.fstate 1 == fsTeardown) = true := by decide +kernel
theorem test_refclk_full : okAfter (.hostRefclkLoss 0) (fns.wr F.POWER_STRAP.RESET_SCOPE 1) (fun t => t.rd (F.HOSTLINK_LINK_STATUS.UP 0) == 0 && t.fstate 0 == fsActive) = true := by decide +kernel
theorem test_refclk_host : okAfter (.hostRefclkLoss 0) fns (fun t => t.fstate 0 == fsTeardown) = true := by decide +kernel
theorem test_perst : okAfter (.perstNDeassertion 0) (atTime fns 50) (fun t => AMap.get? t.host.perst 0 == some 50 && t.linkReady 0 == false) = true ∧ noEffect (.perstNDeassertion 1) fns = true := by decide +kernel
/-- 20 ms are 160,000,000 units. -/
theorem test_ready : okAfter (.configReady 0) (atTime { fns with host := { fns.host with ready := [] } } 160000007) (fun t => t.linkReady 0) = true ∧
    noEffect (.configReady 0) (atTime { fns with host := { fns.host with ready := [] } } 160000006) = true ∧
    noEffect (.configReady 0) (atTime { fns.wr F.COBBLER_BOOT_STATUS.GATE_OPEN 0 with host := { fns.host with ready := [] } } 160000007) = true := by decide +kernel
theorem test_link_up : okAfter (.hostLinkUp 0 true 6 16) fns (fun t =>
    t.rd (F.HOSTLINK_LINK_STATUS.UP 0) == 1 && t.rd (F.HOSTLINK_LINK_STATUS.FLIT 0) == 1 && t.rd (F.HOSTLINK_LINK_STATUS.SPEED 0) == 6 && t.rd (F.HOSTLINK_LINK_STATUS.WIDTH 0) == 16) = true ∧
    noEffect (.hostLinkUp 1 true 6 8) fns = true := by decide +kernel
def replies (c : Instr) (s : State) (v : Option Nat) : Bool := okAfter c s (fun t => match t.outs with | [.cfgReply _ x] => x == v | _ => false)
theorem test_config : replies (.configRequest 0 .deviceId none) fns (some 0x0960) = true ∧ replies (.configRequest 7 .deviceId none) (fns.setFstate 7 1) (some 0x096A) = true ∧
    replies (.configRequest 6 .classCode none) fns (some 0x018000) = true ∧ replies (.configRequest 1 .vfStride none) fns (some 1) = true := by decide +kernel
theorem test_config_absent : replies (.configRequest 5 .vendorId none) fns (some 0xFFFFFFFF) = true ∧ replies (.configRequest 10 .vendorId none) fns (some 0xFFFFFFFF) = true := by decide +kernel
theorem test_config_retry : okAfter (.configRequest 0 .vendorId none) { fns with host := { fns.host with ready := [] } } (fun t =>
    t.outs == [.cfgReply 0 none] && t.rd F.HOSTLINK_STAT.RRS_SENT.CNT == 1) = true ∧ replies (.configRequest 1 .vendorId none) (fns.setFstate 1 2) none = true := by decide +kernel
theorem test_config_write : okAfter (.configRequest 1 .busMaster (some 1)) fns (fun t => (t.func 1).cfg.busMaster && t.outs == [.cfgReply 1 (some 0)]) = true ∧
    okAfter (.configRequest 1 .deviceId (some 5)) fns (fun t => t.host == fns.host && t.csr == fns.csr) = true := by decide +kernel
theorem test_teardown_access : okAfter (.teardownAccess 1 4 false) (fns.setFstate 1 2) (fun t => t.outs == [.barRead 1 0xFFFFFFFF] && t.rd F.HOSTLINK_STAT.TEARDOWN_ACCESS.CNT == 1) = true ∧
    noEffect (.teardownAccess 1 4 true) fns = true := by decide +kernel

def torn (x : Teardown) : State := (fns.setFstate 4 2).modFunc 4 (fun y => { y with tear := some x })
def tear0 : Teardown := { since := 100, after := 1, host := false, squashed := false, abandoned := false }
theorem test_flr : okAfter (.flr 4) (atTime fns 100) (fun t => t.fstate 4 == fsTeardown && (t.func 4).tear == some tear0 && t.fstate 1 == 1) = true ∧
    okAfter (.flr 4) (atTime (fns.setFstate 4 fsHeld) 100) (fun t => (t.func 4).tear == some { tear0 with after := 3 }) = true ∧ noEffect (.flr 5) fns = true := by decide +kernel
theorem test_flr_again : okAfter (.flr 4) (atTime (torn tear0) 200) (fun t => (t.func 4).tear == some tear0) = true := by decide +kernel
theorem test_flr_job : okAfter (.flr 4) (fnJob 4 (qjob 0 .unstarted)) (fun t => parks t 0x12 && t.outs == []) = true := by decide +kernel
theorem test_vf_enable : okAfter (.vfEnableWrite 1 true 9) fns (fun t => (t.func 1).cfg.numVfs == 2 && t.fstate 4 == 1 && t.fstate 5 == 1 && t.fstate 6 == 1) = true ∧
    okAfter (.vfEnableWrite 1 false 2) fns (fun t => t.fstate 4 == fsTeardown && ((t.func 4).tear.map (fun x => x.after)) == some 0 && t.fstate 5 == 0) = true ∧
    okAfter (.vfEnableWrite 1 true 2) (fns.setFstate 1 2) (fun t => t.outs == [.cfgReply 1 none] && t.host == fns.host) = true := by decide +kernel
/-- 8 ms are 64,000,000 units and 9 ms 72,000,000. -/
theorem test_squash_teardown : okAfter (.teardownSquash 4) (atTime (torn tear0) 64000100) (fun t => (t.func 4).tear == some { tear0 with squashed := true }) = true ∧
    noEffect (.teardownSquash 4) (atTime (torn tear0) 64000099) = true ∧ noEffect (.teardownSquash 4) (atTime (torn { tear0 with squashed := true }) 64000100) = true := by decide +kernel
theorem test_squash_job : okAfter (.teardownSquash 4) (atTime ((((fnJob 4 (qjob 0 .started)).setFstate 4 2)).modFunc 4 (fun y => { y with tear := some tear0 })) 64000100) (fun t => parks t 0x11) = true := by decide +kernel
def asked (tag : Option Nat) (f since : Nat) : HostReq := { id := 1, func := f, tenant := 3, addr := 0x100, len := 64, tag := tag, since := since, data := [], waited := false, wanted := true }
def withReq (s : State) (r : HostReq) : State := s.setHost { s.host with reqs := [r] }
/-- PF1's timeout is 40 ms: its tag returns 80 ms on. -/
theorem test_read_abandon : okAfter (.teardownReadAbandon 4) (atTime (withReq (torn tear0) (asked (some 9) 4 0)) 72000100) (fun t =>
    t.host.reqs == [] && t.host.quar == [⟨9, 3, 72000100 + 640000000, 0⟩] && (t.func 4).tear == some { tear0 with abandoned := true }) = true ∧
    noEffect (.teardownReadAbandon 4) (atTime (torn tear0) 72000099) = true := by decide +kernel
theorem test_teardown_end : okAfter (.teardownEnd 4) ((torn tear0).setWq 5 { wq0 with func := 4 } |>.setCq 7 { cq0 with func := 4 }) (fun t =>
    t.fstate 4 == 1 && (t.func 4).tear == none && t.wq? 5 == none && t.cq? 7 == none && t.rd F.HOSTLINK_STAT.TEARDOWNS.CNT == 1) = true ∧
    noEffect (.teardownEnd 4) (withReq (torn tear0) (asked (some 9) 4 0)) = true ∧ noEffect (.teardownEnd 4) fns = true := by decide +kernel

def hostAsk (s : State) (op target : Nat) : State :=
  let s := ((s.wr F.HOSTLINK_ABORT.BUSY 1).wr F.HOSTLINK_ABORT.OP op).wr F.HOSTLINK_ABORT.TARGET target
  s.setHost { s.host with goAt := s.clk.time, goFuncs := s.tenantFuncs target }
def hostReports (t : State) (st det : Nat) : Bool :=
  t.rd F.HOSTLINK_ABORT.BUSY == 0 && t.rd F.HOSTLINK_ABORT_STATUS.DONE == 1 && t.rd F.HOSTLINK_ABORT_STATUS.STATUS == st && t.rd F.HOSTLINK_ABORT_STATUS.DETAIL == det
theorem test_function_abort : okAfter .functionAbort (hostAsk (atTime fns 50) 1 4) (fun t => t.fstate 4 == fsHeld && t.host.abort == some ⟨50, false, [4], [], false⟩ && t.rd F.HOSTLINK_ABORT.BUSY == 1) = true ∧
    okAfter .functionAbort (hostAsk fns 1 0) (fun t => hostReports t 3 1) = true ∧ okAfter .functionAbort (hostAsk fns 1 5) (fun t => hostReports t 4 2) = true ∧ noEffect .functionAbort (hostAsk fns 2 4) = true := by decide +kernel
theorem test_function_abort_tear : okAfter .functionAbort (hostAsk (torn tear0) 1 4) (fun t => t.fstate 4 == 2 && (t.func 4).tear == some { tear0 with after := 3 }) = true := by decide +kernel
theorem test_tenant_abort : okAfter .tenantAbort (hostAsk fns 2 3) (fun t => t.fstate 4 == fsHeld && t.fstate 6 == 1 && (t.host.abort.map (fun a => (a.tenant, a.funcs))) == some (true, [4])) = true ∧
    okAfter .tenantAbort (hostAsk fns 2 0) (fun t => hostReports t 3 1) = true := by decide +kernel
theorem test_function_release : okAfter .releaseFunction (hostAsk (fns.setFstate 4 3) 3 4) (fun t => hostReports t 0 0 && t.fstate 4 == 1) = true ∧
    okAfter .releaseFunction (hostAsk fns 3 4) (fun t => hostReports t 4 3) = true ∧ okAfter .releaseFunction (hostAsk fns 3 5) (fun t => hostReports t 4 2) = true ∧
    okAfter .releaseTenant (hostAsk ((fns.setFstate 4 3).setFstate 6 3) 4 3) (fun t => hostReports t 0 0 && t.fstate 4 == 1 && t.fstate 6 == 3) = true := by decide +kernel
def aborted (s : State) (a : HostAbort) (n : Nat) : State := atTime (s.setHost { s.host with abort := some a }) n
/-- 1.6, 1.8 and 3.2 ms are 12,800,000, 14,400,000 and 25,600,000 units. -/
theorem test_abort_squash : okAfter .abortSquash (aborted fns ⟨50, false, [4], [], false⟩ 12800050) (fun t => t.host.abort == some ⟨50, false, [4], [], true⟩) = true ∧
    noEffect .abortSquash (aborted fns ⟨50, false, [4], [], false⟩ 12800049) = true ∧ noEffect .abortSquash (aborted fns ⟨50, true, [4], [], false⟩ 25600049) = true := by decide +kernel
theorem test_abort_squash_job : okAfter .abortSquash (aborted (fnJob 4 (qjob 0 .started)) ⟨50, false, [4], [5], false⟩ 12800050) (fun t => parks t 0x11) = true := by decide +kernel
theorem test_abort_done : okAfter .abortReadAbandon (aborted (hostAsk ((fns.setWq 5 { wq0 with func := 4, fi := 3 })) 1 4) ⟨50, false, [4], [5], true⟩ 14400050) (fun t =>
    hostReports t 0 0 && t.rd F.HOSTLINK_ABORT_STATUS.ELAPSED == 1800 && t.host.abort == none && t.wq? 5 == some { wq0 with func := 4, fi := 3, state := 3, ci := 3 }) = true ∧
    noEffect .abortReadAbandon (aborted fns ⟨50, false, [4], [], true⟩ 14400049) = true := by decide +kernel

/-- 40 ms are 320,000,000 units. -/
theorem test_timeout : okAfter (.completionTimeout none 9) (atTime (withReq fns (asked (some 9) 4 5)) 320000005) (fun t =>
    t.hostResult 1 == some (0x0B, []) && t.host.quar == [⟨9, 3, 960000005, 0⟩] && (t.func 4).cfg.aerCto && t.rd F.HOSTLINK_STAT.CPL_TIMEOUT.CNT == 1) = true ∧
    noEffect (.completionTimeout none 9) (atTime (withReq fns (asked (some 9) 4 5)) 320000004) = true ∧ noEffect (.completionTimeout none 8) (withReq fns (asked (some 9) 4 5)) = true := by decide +kernel
theorem test_completion : okAfter (.completionArrival none 9 .ok (List.replicate 64 7)) (withReq fns (asked (some 9) 4 5)) (fun t => t.hostResult 1 == some (0, List.replicate 64 7) && t.host.reqs == []) = true ∧
    okAfter (.completionArrival none 9 .ok [7]) (withReq fns (asked (some 9) 4 5)) (fun t => t.host.reqs == [{ asked (some 9) 4 5 with data := [7] }]) = true ∧
    okAfter (.completionArrival none 9 .unsupported []) (withReq fns (asked (some 9) 4 5)) (fun t => t.hostResult 1 == some (3, [])) = true := by decide +kernel
def quarantined : State := fns.setHost { fns.host with quar := [⟨9, 3, 500, 0⟩] }
theorem test_completion_late : okAfter (.completionArrival none 9 .ok [7]) quarantined (fun t => t.rd F.HOSTLINK_STAT.LATE_CPL.CNT == 1 && t.host == quarantined.host) = true ∧
    okAfter (.completionArrival none 8 .ok [7]) quarantined (fun t => t.rd F.HOSTLINK_STAT.UNEXP_CPL.CNT == 1 && (t.func 0).cfg.aerUnexp) = true := by decide +kernel
theorem test_quarantine_end : okAfter (.tagQuarantineEnd none 9) (atTime quarantined 500) (fun t => t.host.quar == []) = true ∧ noEffect (.tagQuarantineEnd none 9) (atTime quarantined 499) = true := by decide +kernel
def eyeAsked (s : State) : State := { s with eye := { s.eye with reqs := [⟨1, 0, 2, 8, 9, 64, 5, []⟩] } }
theorem test_eye_timeout : okAfter (.completionTimeout (some 2) 9) (atTime (eyeAsked fns) (5 + (eyeAsked fns).eyeTimeoutOf 2)) (fun t =>
    t.eye.done == [⟨1, 0x0B, 7, []⟩] && t.eye.reqs == [] && t.eye.quar.map (fun q => (q.port, q.tag)) == [(2, 9)] && t.rd F.EYELET_STAT.CPL_TIMEOUT.CNT == 1) = true ∧
    noEffect (.completionTimeout (some 2) 9) (atTime (eyeAsked fns) 5) = true ∧ noEffect (.completionTimeout (some 1) 9) (eyeAsked fns) = true := by decide +kernel
theorem test_eye_completion : okAfter (.completionArrival (some 2) 9 .ok (List.replicate 64 7)) (eyeAsked fns) (fun t => t.eye.done == [⟨1, 0, 0, List.replicate 64 7⟩]) = true ∧
    okAfter (.completionArrival (some 2) 9 .unsupported []) (eyeAsked fns) (fun t => t.eye.done == [⟨1, 0x0F, 8, []⟩]) = true := by decide +kernel
def eyeQuar : State := { fns with eye := { fns.eye with quar := [⟨2, 9, 500⟩] } }
theorem test_eye_late : okAfter (.completionArrival (some 2) 9 .ok []) eyeQuar (fun t => t.rd F.EYELET_STAT.LATE_CPL.CNT == 1) = true ∧
    okAfter (.tagQuarantineEnd (some 2) 9) (atTime eyeQuar 500) (fun t => t.eye.quar == []) = true ∧ okAfter (.tagQuarantineEnd (some 2) 9) (atTime eyeQuar 499) (fun t => t.eye.quar == eyeQuar.eye.quar) = true := by decide +kernel
theorem test_intx : okAfter (.intxClear 2) (fns.modFunc 2 (fun x => { x with intx := true })) (fun t => t.intxPend 2 == false && t.outs == [.intx 2 false]) = true ∧ noEffect (.intxClear 2) fns = true ∧
    okAfter (.intxClear 0) (fns.wr F.HOSTLINK_INTX.PEND 1) (fun t => t.rd F.HOSTLINK_INTX.PEND == 0) = true := by decide +kernel
def vectored : State := (fns.wr (F.HOSTLINK_FUNC.VECTORS 4) 8).modCfg 4 (fun c => { c with msixEn := true, busMaster := true })
theorem test_msix_write : okAfter (.msixTableWrite 4 7 1 5) vectored (fun t => t.msix 4 7 == { Msix.reset with addr := 0x500000000 }) = true ∧ noEffect (.msixTableWrite 4 8 1 5) vectored = true := by decide +kernel
theorem test_msix_release : okAfter (.msixTableWrite 4 7 3 0) (vectored.setMsix 4 7 ⟨0x1000, 0x42, true, true⟩) (fun t =>
    t.msix 4 7 == ⟨0x1000, 0x42, false, false⟩ && t.outs == [.hostWrite 4 0x1000 [0x42, 0, 0, 0] none]) = true := by decide +kernel
theorem test_doe : okAfter (.doeMessage 1 0 5) fns (fun t => t.outs == [.doe 1 [1, 0, 2, 0]]) = true ∧ okAfter (.doeMessage 1 0 0) fns (fun t => t.outs == [.doe 1 [1, 0, 0, 1]]) = true ∧ noEffect (.doeMessage 1 1 0) fns = true := by decide +kernel
/-- A secured session on PF0; stream 2 covers functions 4 and 4, of tenant 3. -/
def secured : State :=
  let s := ((fns.wr (F.HOSTLINK_IDE.FIRST_FUNC 2) 4).wr (F.HOSTLINK_IDE.LAST_FUNC 2) 4).wr (F.HOSTLINK_IDE.TENANT 2) 3
  { s with cob := { s.cob with mgmt := { s.cob.mgmt with sessions := [(1, 0)] } } }
def keyed : State := let s := secured.wr (F.HOSTLINK_IDE.STREAM_ID 2) 2
  s.setHost { s.host with ideKeys := [(2, List.replicate 32 7)] }
theorem test_ide_key : okAfter (.ideKm 1 2 2 (List.replicate 40 7)) secured (fun t => AMap.get? t.host.ideKeys 2 == some (List.replicate 32 7) && t.rd (F.HOSTLINK_IDE.STREAM_ID 2) == 2 && t.outs == [.doe 0 [3, 0]]) = true := by decide +kernel
theorem test_ide_go : okAfter (.ideKm 1 2 4 []) keyed (fun t => t.rd (F.HOSTLINK_IDE.ACTIVE 2) == 1 && t.outs == [.doe 0 [6, 0]]) = true ∧
    okAfter (.ideKm 1 2 4 []) (keyed.wr (F.HOSTLINK_IDE.LAST_FUNC 2) 5) (fun t => t.rd (F.HOSTLINK_IDE.ACTIVE 2) == 0 && t.outs == [.doe 0 [6, 1]]) = true := by decide +kernel
theorem test_ide_overlap : okAfter (.ideKm 1 2 4 []) (((keyed.wr (F.HOSTLINK_IDE.ACTIVE 5) 1).wr (F.HOSTLINK_IDE.FIRST_FUNC 5) 3).wr (F.HOSTLINK_IDE.LAST_FUNC 5) 4) (fun t => t.rd (F.HOSTLINK_IDE.ACTIVE 2) == 0) = true := by decide +kernel
theorem test_ide_stop : okAfter (.ideKm 1 2 5 []) (keyed.wr (F.HOSTLINK_IDE.ACTIVE 2) 1) (fun t => t.rd (F.HOSTLINK_IDE.ACTIVE 2) == 0) = true := by decide +kernel
theorem test_ide_check : okAfter (.ideCheckFailed 4) (keyed.wr (F.HOSTLINK_IDE.ACTIVE 2) 1) (fun t => t.rd (F.HOSTLINK_IDE.ACTIVE 2) == 0 && (t.func 4).cfg.aerIde) = true ∧ noEffect (.ideCheckFailed 5) (keyed.wr (F.HOSTLINK_IDE.ACTIVE 2) 1) = true := by decide +kernel

/-! ### The Eyelet ports (chapter 10) -/

/-- Link 0 exists and its slot is in a state. -/
def eySlot (st : Nat) (present : Bool) : State :=
  ((opened.wr (F.EYELET_PORT_CFG.EN 0) 1).setSlot 0 st).wr (F.EYELET_SLOT_STATUS.PRESENT 0) (if present then 1 else 0)
def eySince (s : State) (l n : Nat) : State := s.setEye { s.eye with since := [(l, n)] }
def eyEvents (t : State) : List Nat := (t.fifo eyeletEvq).entries
def eyTag (n c l : Nat) : List Nat := [n * 2 ^ 59 + c * 2 ^ 8 + l]

theorem test_slot_serves : (eySlot 0 false).slotServes 0 = true ∧ (eySlot 0 false).slotServes 1 = false ∧ (eySlot 0 false).slotServes 12 = true ∧ (eySlot 0 false).slotServes 16 = false := by decide +kernel
theorem test_presence : okAfter (.presenceDetect 0) (eySlot 0 false) (fun t => t.slot 0 == 1 && eyEvents t == eyTag 1 0 0 && t.rd (F.EYELET_SLOT_STATUS.PRESENCE_CHG 0) == 1) = true ∧
    noEffect (.presenceDetect 0) (eySlot 0 true) = true ∧ noEffect (.presenceDetect 1) (eySlot 0 false) = true := by decide +kernel
theorem test_presence_auto : okAfter (.presenceDetect 0) ((eySlot 0 false).wr (F.EYELET_SLOT_CTRL.AUTO_PWR 0) 1) (fun t =>
    t.slot 0 == 2 && t.pinPwr 0 && !t.pinPerst 0 && t.rd (F.EYELET_SLOT_CTRL.PIC 0) == 2) = true := by decide +kernel
theorem test_presence_contained : okAfter (.presenceDetect 0) (eySlot 5 false) (fun t => t.slot 0 == 5 && eyEvents t == []) = true := by decide +kernel
theorem test_presence_loss : okAfter (.presenceLoss 0) (eySlot 1 true) (fun t => t.slot 0 == 0 && eyEvents t == eyTag 2 0 0) = true ∧
    okAfter (.presenceLoss 0) (eySlot 3 true) (fun t => t.slot 0 == 0 && t.rd (F.EYELET_SLOT_CTRL.PIC 0) == 3) = true ∧ noEffect (.presenceLoss 0) (eySlot 4 false) = true := by decide +kernel
theorem test_surprise : okAfter (.presenceLoss 0) (eySlot 4 true) (fun t => t.slot 0 == 5 && t.rd (F.EYELET_SLOT_STATUS.CAUSE 0) == 1 && eyEvents t == eyTag 6 1 0) = true := by decide +kernel
theorem test_pwr_on : okAfter (.pwrOn 0) (atTime (eySlot 1 true) 7) (fun t => t.slot 0 == 2 && t.pinPwr 0 && AMap.get? t.eye.since 0 == some 7) = true ∧ noEffect (.pwrOn 0) (eySlot 0 true) = true ∧
    noEffect (.pwrOn 0) ((eySlot 1 true).wr F.COBBLER_BOOT_STATUS.GATE_OPEN 0) = true := by decide +kernel
theorem test_pwr_off : AMap.get? (eySlot 4 true).eye.offAt 0 = none ∧ noEffect (.pwrOff 0) (eySlot 1 true) = true ∧ okAfter (.pwrOff 0) (atTime (eySlot 5 true) 7) (fun t => t.slot 0 == 5 && eyEvents t == [] && AMap.get? t.eye.offAt 0 == some 7) = true := by decide +kernel
/-- 1 ms is 8,000,000 units. -/
theorem test_power_drop : okAfter (.pwrOffPowerDrop 0) (atTime ((eySlot 5 true).setEye { opened.eye with offAt := [(0, 7)], pins := [(0, 1)] }) 8000007) (fun t =>
    t.slot 0 == 1 && !t.pinPwr 0 && t.rd (F.EYELET_SLOT_STATUS.CAUSE 0) == 0 && t.eye.offAt == []) = true ∧
    noEffect (.pwrOffPowerDrop 0) (atTime ((eySlot 5 true).setEye { opened.eye with offAt := [(0, 7)] }) 8000006) = true ∧ noEffect (.pwrOffPowerDrop 0) (eySlot 5 true) = true := by decide +kernel
/-- PWR_STABLE is 100 at reset: 800,000,000 units; 0 acts as 1. -/
theorem test_power_stable : okAfter (.slotPowerStable 0) (atTime (eySince (eySlot 2 true) 0 5) 800000005) (fun t => t.slot 0 == 3 && t.pinPwr 0 && t.pinPerst 0 && AMap.get? t.eye.since 0 == some 800000005) = true ∧
    noEffect (.slotPowerStable 0) (atTime (eySince (eySlot 2 true) 0 5) 800000004) = true ∧
    okAfter (.slotPowerStable 0) (atTime ((eySince (eySlot 2 true) 0 5).wr (F.EYELET_SLOT_CTRL.PWR_STABLE 0) 0) 8000005) (fun t => t.slot 0 == 3) = true := by decide +kernel
theorem test_power_fault : okAfter (.powerFault 0) (eySlot 3 true) (fun t => t.slot 0 == 1 && t.rd (F.EYELET_SLOT_STATUS.PWR_FAULT 0) == 1 && t.rd (F.EYELET_SLOT_CTRL.AIC 0) == 1) = true ∧ noEffect (.powerFault 0) (eySlot 1 true) = true := by decide +kernel
def eyAttn : State := (eySlot 4 true).setEye { opened.eye with attn := [(0, (7, 1))] }
theorem test_attention : okAfter (.attentionButton 0) (atTime (eySlot 4 true) 7) (fun t => t.rd (F.EYELET_SLOT_STATUS.ATTN_PENDING 0) == 1 && t.eye.attn == [(0, (7, 3))] && eyEvents t == eyTag 3 0 0) = true ∧
    okAfter (.attentionButton 0) eyAttn (fun t => t.rd (F.EYELET_SLOT_CTRL.PIC 0) == 1 && t.eye.attn == [] && eyEvents t == eyTag 4 0 0) = true ∧
    okAfter (.attentionButton 0) (eySlot 2 true) (fun t => t.rd (F.EYELET_SLOT_STATUS.ATTN_PRESSED 0) == 1 && t.eye == opened.eye) = true := by decide +kernel
theorem test_attn_request : okAfter (.attnRequest 0) (atTime eyAttn 40000000007) (fun t => t.rd (F.EYELET_SLOT_CTRL.PIC 0) == 1 && t.eye.attn == [] && eyEvents t == eyTag 5 0 0) = true ∧
    noEffect (.attnRequest 0) (atTime eyAttn 40000000006) = true ∧ noEffect (.attnRequest 0) (eySlot 4 true) = true := by decide +kernel
theorem test_eyelet_up : okAfter (.eyeletLinkUp 0 true 7 16) ((eySlot 3 true).wr (F.EYELET_PORT_CFG.MAX_SPEED 0) 6) (fun t =>
    t.rd (F.EYELET_LINK_STATUS.UP 0) == 1 && t.rd (F.EYELET_LINK_STATUS.SPEED 0) == 6 && t.rd (F.EYELET_LINK_STATUS.WIDTH 0) == 16 && t.slot 0 == 3) = true ∧ noEffect (.eyeletLinkUp 0 true 6 16) (eySlot 4 true) = true := by decide +kernel
def eyTrained : State := (eySlot 3 true).wr (F.EYELET_LINK_STATUS.UP 0) 1
theorem test_enumeration : okAfter (.enumerationDone 0 true 0x1234 0x5678 [20]) eyTrained (fun t => t.slot 0 == 4 && t.rd (F.EYELET_DEV_ID.VENDOR 0) == 0x1234 &&
    t.rd (F.EYELET_DEV_ID.DEVICE 0) == 0x5678 && t.barSize 0 0 0 == 2 ^ 20 && t.barSize 0 1 0 == 0 && t.rd (F.EYELET_SLOT_CTRL.PIC 0) == 1 && eyEvents t == eyTag 7 0 0) = true := by decide +kernel
theorem test_topology : eyTrained.slot 0 = 3 ∧ eyTrained.eye.txs = [] ∧ noEffect (.enumerationDone 0 true 1 1 []) (eySlot 3 true) = true := by decide +kernel
/-- The cause of such a containment is a free value: only when it comes is shown here. -/
theorem test_training_timeout : AMap.getD (eySince (eySlot 3 true) 0 5).eye.since 0 0 + msec 1000 = 8000000005 ∧
    noEffect (.trainingTimeout 0) (atTime (eySince (eySlot 3 true) 0 5) 8000000004) = true ∧ noEffect (.trainingTimeout 0) (atTime eyTrained 8000000005) = true := by decide +kernel
theorem test_eyelet_down : okAfter (.eyeletLinkDown 0) eyTrained (fun t => t.slot 0 == 3 && t.rd (F.EYELET_LINK_STATUS.UP 0) == 0) = true ∧ noEffect (.eyeletLinkDown 0) (eySlot 4 true) = true := by decide +kernel
theorem test_uncorrectable : (eySlot 4 true).rd (F.EYELET_SLOT_CTRL.DPC_UNCOR 0) = 1 ∧ (eySlot 4 true).eye.txs = [] ∧ (eySlot 4 true).welt.cmds = [] ∧
    noEffect (.aerUncorrectable 0) ((eySlot 4 true).wr (F.EYELET_SLOT_CTRL.DPC_UNCOR 0) 0) = true := by decide +kernel

/-- A window word: VALID, RD, WR, link, function, BAR, log2 of the size, tenant, device offset. -/
def eyWord (rdwr link log2 ten off : Nat) : Nat := 2 ^ 63 + rdwr * 2 ^ 61 + link * 2 ^ 58 + log2 * 2 ^ 46 + ten * 2 ^ 34 + off
def eyBar : State := ((eySlot 4 true).wr (F.EYELET_BARSZ.PRESENT 0) 1).wr (F.EYELET_BARSZ.BAR0 0) 20
def eyShadow (s : State) (w v off : Nat) : State := (s.setWord (winAddr 0 w) v).setWord (winAddr 0 w + 8) off
theorem test_window_faults : (eyShadow eyBar 2 (eyWord 3 0 20 3 0) 0).winFault 0 2 = 0 ∧ (eyShadow eyBar 2 (eyWord 3 1 20 3 0) 0).winFault 0 2 = 1 ∧
    (eyShadow eyBar 2 (eyWord 3 0 20 3 0 + 2 * 2 ^ 52) 0).winFault 0 2 = 2 ∧ (eyShadow eyBar 2 (eyWord 3 0 20 3 0) 4096).winFault 0 2 = 3 ∧
    (eyShadow eyBar 2 (eyWord 3 0 13 3 1) 0).winFault 0 2 = 4 ∧ (eyShadow eyBar 2 (eyWord 3 0 11 3 0) 0).winFault 0 2 = 5 ∧
    (eyShadow (eyShadow eyBar 2 (eyWord 3 0 13 3 0) 0) 3 (eyWord 3 0 12 3 1) 0).winFault 0 2 = 6 ∧ (eyShadow eyBar 2 0 0).winFault 0 2 = 0 := by decide +kernel
theorem test_commit_refused : okAfter (.winCommit 0) (eyShadow eyBar 2 (eyWord 3 1 20 3 0) 0) (fun t => t.rd (F.EYELET_WIN_COMMIT.FAIL 0) == 1 && t.rd (F.EYELET_WIN_COMMIT.FAIL_CAUSE 0) == 1 &&
    t.rd (F.EYELET_WIN_COMMIT.FAIL_WIN 0) == 2 && t.winPending 0 == false && eyEvents t == eyTag 9 0 0) = true := by decide +kernel
theorem test_commit : okAfter (.winCommit 0) ((eyShadow eyBar 2 (eyWord 3 0 20 3 0) 0).wr F.STITCH_COUNT.COUNT 9) (fun t => t.winPending 0 && t.eye.commitAt == [(0, 9)] && (t.activeWin 0 2).valid == false) = true ∧
    noEffect (.winCommit 4) eyBar = true ∧ noEffect (.winCommit 0) (eyBar.wr (F.EYELET_WIN_COMMIT.PENDING 0) 1) = true := by decide +kernel
def eyPending : State := (eyShadow eyBar 2 (eyWord 3 0 20 3 0) 0).wr (F.EYELET_WIN_COMMIT.PENDING 0) 1 |>.setEye { opened.eye with commitAt := [(0, 9)], changing := [2] }
def eyTx (o : TxOwner) : EyeTx := { id := 4, port := 0, win := 2, w0 := BitVec.ofNat 64 (eyWord 3 0 20 3 0), w8 := 0, owner := o, pieces := 0, moved := 0 }
def eyWithTx (s : State) (x : EyeTx) : State := s.setEye { s.eye with txs := [x] }
/-- Packet 1 is alive. -/
def eyPkt (s : State) : State := withPkts s [(1, somePacket 3 (.running 1))]
theorem test_swap : okAfter (.windowSwap 0) eyPending (fun t => t.winPending 0 == false && t.rd (F.EYELET_WIN_COMMIT.DONE 0) == 1 && t.winActive 0 2 == t.winShadow 0 2 && (t.activeWin 0 2).valid && eyEvents t == eyTag 8 0 0) = true ∧
    noEffect (.windowSwap 0) (eyPending.wr F.STITCH_POS.CYCLE 1) = true ∧ noEffect (.windowSwap 0) (eyPkt (eyWithTx eyPending (eyTx (.packet 1)))) = true := by decide +kernel
theorem test_drain_limit : okAfter (.drainLimit 0) ((eyPkt (eyWithTx eyPending (eyTx (.packet 1)))).wr F.STITCH_COUNT.COUNT 10009) (fun t =>
    t.eye.txs == [] && t.rd (F.EYELET_WIN_COMMIT.LIMIT_HIT 0) == 1 && t.rd F.EYELET_STAT.WIN_DRAIN.CNT == 1) = true ∧
    noEffect (.drainLimit 0) ((eyPkt (eyWithTx eyPending (eyTx (.packet 1)))).wr F.STITCH_COUNT.COUNT 10008) = true := by decide +kernel

/-- A PEER job on window 2 of port 0: 64 bytes at offset 0x100, from or to host address 0x3000. -/
def eyEntry (op len off : Nat) : Bytes := toLE 1 op ++ toLE 1 3 ++ toLE 6 0 ++ toLE 4 len ++ toLE 1 0 ++ toLE 1 2 ++ toLE 2 0 ++ toLE 8 off ++ toLE 8 0 ++ toLE 8 0x3000 ++ toLE 4 len ++ toLE 4 0 ++ toLE 16 0
def eyJob (op len off : Nat) (st : JobStage) : Job := { qjob 0 st with opcode := op, entries := [eyEntry op len off] }
def eyWq (j : Job) : Wq := { wq0 with type := 4, pi := 1, fi := 1, jobs := [j] }
def eyWindow (s : State) (v : Nat) : State := s.setWord (actAddr 0 2) v
/-- A commit is pending that changes window 2. -/
def eyChanging (s : State) : State := let s := s.wr (F.EYELET_WIN_COMMIT.PENDING 0) 1; s.setEye { s.eye with changing := [2] }
def eyPeer (j : Job) (v : Nat) : State := ((eyWindow hostUp v).setWq 5 (eyWq j)).setCq 7 cq0
def eyEnds (t : State) (st det len : Nat) : Bool := (t.wq? 5).map (fun w => w.jobs.map (fun j => (j.stage, j.status, j.detail, j.length))) == some [(.ended, st, det, len)]
theorem test_peer_refused : okAfter (.peerWrite 5 0) (eyPeer (eyJob 1 64 0x100 .unstarted) 0) (fun t => eyEnds t 3 1 0) = true ∧
    okAfter (.peerWrite 5 0) (eyPeer (eyJob 1 64 0x100 .unstarted) (eyWord 3 0 20 4 0)) (fun t => eyEnds t 3 2 0) = true ∧
    okAfter (.peerWrite 5 0) (eyPeer (eyJob 1 64 0x100 .unstarted) (eyWord 2 0 20 3 0)) (fun t => eyEnds t 3 3 0) = true ∧
    okAfter (.peerRead 5 0) (eyPeer (eyJob 2 64 0x100 .unstarted) (eyWord 1 0 20 3 0)) (fun t => eyEnds t 3 3 0) = true ∧
    okAfter (.peerSend 5 0) (eyPeer (eyJob 3 64 0xFC1 .unstarted) (eyWord 3 0 12 3 0)) (fun t => eyEnds t 4 4 0) = true := by decide +kernel
theorem test_peer_bound : okAfter (.peerWrite 5 0) (eyPeer (eyJob 1 64 0xFC0 .unstarted) (eyWord 1 0 12 3 0)) (fun t =>
    t.eye.txs.map (fun x => (x.port, x.win, x.owner)) == [(0, 2, .job 5 0)] && (t.wq? 5).map (fun w => w.jobs.map (fun j => j.stage)) == some [.started]) = true ∧
    noEffect (.peerRead 5 0) (eyPeer (eyJob 1 64 0 .unstarted) (eyWord 3 0 20 3 0)) = true := by decide +kernel
theorem test_peer_held : okAfter (.peerRead 5 0) (eyChanging (eyPeer (eyJob 2 64 0 .unstarted) (eyWord 3 0 20 3 0))) (fun t =>
    t.rd F.EYELET_STAT.WIN_HELD.CNT == 1 && t.eye.held == [.job 5 0] && t.eye.txs == []) = true := by decide +kernel
def eyMoving (op : Nat) (l : Leg) : State :=
  let s := eyWithTx (eyPeer { eyJob op 4 0x100 .started with legs := [l] } (eyWord 3 0 20 3 0)) (eyTx (.job 5 0))
  let s := s.setUnit 5 0 { s.unit 5 0 with chosen := some (.free 0) }
  let s := s.setUnit 4 0 { s.unit 4 0 with chosen := some (.free 0) }
  { s with host := { s.host with done := [⟨6, 0, 0, [1, 2, 3, 4]⟩] }, eye := { s.eye with done := [⟨6, 0, 0, [1, 2, 3, 4]⟩] } }
theorem test_peer_write : okAfter (.peerWrite 5 0) (eyMoving 1 (.host 6)) (fun t => t.outs == [.eyeWrite 0 0 0 0x100 [1, 2, 3, 4]] && t.eye.txs == [] && eyEnds t 0 0 4) = true := by decide +kernel
theorem test_peer_read : okAfter (.peerRead 5 0) (eyMoving 2 (.eye 6)) (fun t => t.outs == [.hostWrite 0 0x3000 [1, 2, 3, 4] none] && t.eye.txs == [] && eyEnds t 0 0 4) = true := by decide +kernel
theorem test_peer_error : okAfter (.peerRead 5 0) { eyMoving 2 (.eye 6) with eye := { (eyMoving 2 (.eye 6)).eye with done := [⟨6, 0x0F, 8, []⟩] } } (fun t => eyEnds t 0x0F 8 0 && t.eye.txs == []) = true := by decide +kernel
theorem test_contained_job : okAfter (.aerUncorrectable 0) (eyWithTx ((((eyPeer (eyJob 1 64 0 .started) (eyWord 3 0 20 3 0)).wr F.COBBLER_BOOT_STATUS.GATE_OPEN 1).wr (F.EYELET_SLOT_CTRL.DPC_UNCOR 0) 1).setSlot 0 4) (eyTx (.job 5 0))) (fun t =>
    eyEnds t 1 5 0 && t.eye.txs == [] && t.slot 0 == 5 && (t.activeWin 0 2).valid == false) = true := by decide +kernel
theorem test_drained_job : okAfter (.drainLimit 0) (eyWithTx ((eyChanging (eyPeer (eyJob 1 64 0 .started) (eyWord 3 0 20 3 0))).wr F.STITCH_COUNT.COUNT 10000) (eyTx (.job 5 0))) (fun t =>
    eyEnds t 1 6 0 && t.eye.txs == []) = true := by decide +kernel

/-- Aperture 1 of link 0: 4 KiB at upstream address 0x40000, tenant 3. -/
def eyInap (kind target : Nat) : State :=
  let s := withEpoch (mapped (eySlot 4 true)) 2
  ((s.setWord 0x1730020 (2 ^ 63 + kind * 2 ^ 61 + 3 * 2 ^ 59 + 3 * 2 ^ 44 + 12 * 2 ^ 38)).setWord 0x1730028 0x40000).setWord 0x1730030 target
def eyIn (off : Nat) (write : Bool) (len : Nat) (bs : Bytes) : InReq := { link := 0, aper := 1, write := write, off := off, len := len, data := bs, tag := 6, leg := none }
def eyAccepted (s : State) (r : InReq) : State := s.setEye { s.eye with inbound := [r] }
theorem test_inbound : okAfter (.inboundRequest 0 true true true 0x40FFC 0 6 [1, 2, 3, 4]) (eyInap 0 0) (fun t => t.eye.inbound == [eyIn 0xFFC true 4 [1, 2, 3, 4]]) = true ∧
    okAfter (.inboundRequest 0 true true true 0x40FFD 0 6 [1, 2, 3, 4]) (eyInap 0 0) (fun t => t.eye.inbound == [] && t.outs == [] && t.rd F.EYELET_STAT.INB_UR.CNT == 1) = true ∧
    okAfter (.inboundRequest 0 false true false 0x40000 4 6 []) (eyInap 0 0) (fun t => t.outs == [.eyeCpl 0 6 none] && t.rd F.EYELET_STAT.INB_UR.CNT == 1) = true ∧
    okAfter (.inboundRequest 0 true true false 0x40000 4 6 []) (eyInap 1 0) (fun t => t.outs == [.eyeCpl 0 6 none]) = true ∧ noEffect (.inboundRequest 1 true true true 0x40000 0 6 [1]) (eyInap 0 0) = true := by decide +kernel
def eyOwned (k : Nat) : State := ((eyInap 0 0x5000).wr (F.MEM_OWNER.VALID_LO 0) 1).wr (F.MEM_OWNER.TENANT_LO 0) k
theorem test_inbound_mem : okAfter (.inboundMem 0) (eyAccepted (eyOwned 3) (eyIn 8 true 4 [1, 2, 3, 4])) (fun t => t.eye.inbound == [] && t.dram.bursts.map (fun b => b.store) == [some (0x5008, [1, 2, 3, 4])]) = true ∧
    okAfter (.inboundMem 0) (eyAccepted (eyOwned 3) (eyIn 8 false 4 [])) (fun t => t.eye.inbound.map (fun r => r.leg) == [some (.mem 1 0x5008 4)]) = true ∧
    okAfter (.inboundMem 0) (eyAccepted (eyOwned 4) (eyIn 8 false 4 [])) (fun t => t.eye.inbound == [] && t.outs == [.eyeCpl 0 6 none]) = true := by decide +kernel
theorem test_inbound_read : okAfter (.inboundMem 0) (eyAccepted (eyOwned 3) { eyIn 8 false 2 [] with leg := some (.mem 1 0x5008 2) }) (fun t => t.eye.inbound == [] && t.outs == [.eyeCpl 0 6 (some [0, 0])]) = true := by decide +kernel
def eyDoor : State := (eyInap 1 4).setWq 5 { wq0 with ringLoc := true }
theorem test_inbound_doorbell : okAfter (.inboundDoorbell 0) (eyAccepted eyDoor (eyIn 0x1000 true 4 [2, 0, 0, 0])) (fun t => (t.wq? 5).map (fun w => w.pi) == some 2 && t.eye.inbound == []) = true ∧
    okAfter (.inboundDoorbell 0) (eyAccepted eyDoor (eyIn 0x1004 true 4 [2, 0, 0, 0])) (fun t => t.wq? 5 == eyDoor.wq? 5 && t.rd F.EYELET_STAT.INB_UR.CNT == 1) = true := by decide +kernel
theorem test_inbound_notify : okAfter (.inboundNotify 0) (eyAccepted (eyInap 2 (dst17 + 2 ^ 20)) (eyIn 8 true 4 [5, 0, 0, 0])) (fun t =>
    (t.queueAt dst17).map (fun m => (m.words, m.lenm1)) == [([5 + 2 ^ 36, 8], 1)] && t.eye.inbound == []) = true ∧
    okAfter (.inboundNotify 0) (eyAccepted (eyInap 2 (dst17 + 2 ^ 21)) (eyIn 8 true 4 [5, 0, 0, 0])) (fun t => t.rd F.EYELET_STAT.NOTIFY_LOST.CNT == 1 && t.queueAt dst17 == []) = true := by decide +kernel

/-! ### LPDDR6 (chapter 11) -/

/-- The region of Table 11.3: base 64 GiB, set ALL, map XOR, channel offset 4 GiB; 64 column units, 17 row bits. -/
def exampleRegion : State :=
  (((((((opened.wr (F.MEM_REGION_W0.VALID 0) 1).wr (F.MEM_REGION_W0.SET 0) 2).wr (F.MEM_REGION_W0.MAP 0) 2).wr (F.MEM_REGION_W0.SIZE 0) 64).wr (F.MEM_REGION_W8.BASE 0) 64).wr
    (F.MEM_REGION_W8.CH_OFF 0) 64).wr (F.MEM_CH_GEOM.COL 0) 6).wr (F.MEM_CH_GEOM.ROW 0) 17
theorem test_decode_example : exampleRegion.decodeAddr 0 0x1001234560 = { logical := 4, coff := 0x100123460, sub := 1, bank := 6, row := 0x10012, col := 13 } := by decide +kernel
theorem test_decode_injective : exampleRegion.regionBase 0 = 0x1000000000 ∧ (exampleRegion.decodeAddr 0 0x1001234540).sub = 0 ∧ (exampleRegion.decodeAddr 0 0x1001234660).logical = 7 := by decide +kernel

/-- Region 0 is 1 GiB of set A, as at boot. -/
def unlockedMap : State := ((mapped State.reset).wr F.MEM_GSTATUS.READY 0).wr (F.MEM_CH_GEOM.CAPACITY 0) 8
def failsWith (s : State) (f r : Nat) : Bool := okAfter .regionValidate s (fun t =>
  t.rd F.MEM_GSTATUS.CFG_FAIL == 1 && t.rd F.MEM_GSTATUS.FAIL_CAUSE == f && t.rd F.MEM_GSTATUS.FAIL_REGION == r && t.rd F.MEM_GCFG.EN == 0)
theorem test_validate : okAfter .regionValidate unlockedMap (fun t => t.rd F.MEM_GSTATUS.READY == 1 && t.rd F.MEM_GCFG.EN == 1 && t.rd F.MEM_GSTATUS.CFG_FAIL == 0) = true := by decide +kernel
theorem test_validate_fails : failsWith (unlockedMap.wr F.MEM_GCFG.RATE 3) 7 0 = true ∧ failsWith (unlockedMap.wr (F.MEM_REGION_W0.SIZE 0) 0) 1 0 = true ∧
    failsWith ((unlockedMap.wr (F.MEM_REGION_W8.BASE 0) 511).wr (F.MEM_REGION_W0.SIZE 0) 2) 1 0 = true ∧ failsWith (unlockedMap.wr (F.MEM_REGION_W0.CLASS 0) 1) 5 0 = true ∧
    failsWith (unlockedMap.wr (F.MEM_CH_GEOM.CAPACITY 0) 0) 4 0 = true ∧ failsWith (unlockedMap.wr (F.MEM_CH_STATUS.LOGICAL 3) 31) 6 0 = true := by decide +kernel
theorem test_validate_two : failsWith (((unlockedMap.wr (F.MEM_REGION_W0.VALID 5) 1).wr (F.MEM_REGION_W0.SIZE 5) 1).wr (F.MEM_REGION_W8.BASE 5) 1) 3 0 = true ∧
    failsWith ((unlockedMap.wr (F.MEM_REGION_W0.VALID 5) 1).wr (F.MEM_REGION_W0.SIZE 5) 1) 2 0 = true := by decide +kernel
theorem test_validate_locked : okAfter .regionValidate opened (fun t => t.word 0x10 == 0xC9808000) = true ∧ noEffect .regionValidate (opened.wr F.MEM_GCFG.EN 1) = true := by decide +kernel

theorem test_owned : (((mapped opened).wr (F.MEM_OWNER.VALID_LO 0) 1).wr (F.MEM_OWNER.TENANT_LO 0) 3).ownedBy 3 0x3FFFFFF 1 = true ∧
    (((mapped opened).wr (F.MEM_OWNER.VALID_LO 0) 1).wr (F.MEM_OWNER.TENANT_LO 0) 3).ownedBy 3 0x3FFFFFF 2 = false := by decide +kernel
theorem test_mem_check : (mapped opened).memCheck 0x5000 1 = (0, 0) ∧ ((mapped opened).wr F.MEM_GSTATUS.READY 0).memCheck 0x5000 1 = (0x0F, 1) ∧ (mapped opened).memCheck 0x40000000 1 = (4, 0) ∧
    ((mapped opened).wr (F.MEM_REGION_W0.STATE 0) 1).memCheck 0x5000 1 = (0x0A, 3) ∧ ((mapped opened).wr (F.MEM_CH_STATUS.STATE 0) 2).memCheck 0 1 = (0x0D, 2) := by decide +kernel
def mirroredMap : State := ((mapped opened).wr (F.MEM_REGION_W0.CLASS 0) 1).wr (F.MEM_REGION_W0.SET 0) 3
theorem test_mem_check_mirrored : mirroredMap.memCheck 0 1 = (0, 0) ∧ (mirroredMap.wr (F.MEM_CH_STATUS.STATE 0) 2).memCheck 0 1 = (0, 0) ∧
    ((mirroredMap.wr (F.MEM_CH_STATUS.LOGICAL 0) 31).wr (F.MEM_CH_STATUS.LOGICAL 9) 31).memCheck 0 1 = (0x0F, 4) := by decide +kernel
theorem test_mem_check_fenced : (((mapped opened).wr (F.MEM_REGION_W0.SET 0) 1).wr F.SEAM_STATUS.STATE 2).memCheck 0 1 = (0x0E, 5) := by decide +kernel

def aBurst (row : Nat) : Burst := { id := 1, group := 0, chan := 2, sub := 1, bank := 3, row := row, col := 0, partner := none, store := none }
def bank0 : Bank := (opened.bank 2 1 3)
def bursting (k : Bank) (bs : List Burst) : State :=
  let s := mapped opened
  let s := s.setUnit 3 5 { s.unit 3 5 with chosen := some (.free 0) }
  ({ s with dram := { s.dram with bursts := bs } }).setBank 2 1 3 k
theorem test_burst_miss : okAfter (.dramBurst 2 1) (bursting bank0 [aBurst 7]) (fun t => t.dram.bursts == [] && t.groupAt 3 5 == none && t.rd (F.MEM_CH_STAT.PAGE_MISS.CNT 2) == 1 &&
    (t.bank 2 1 3).acts == [(7, 1)] && (t.bank 2 1 3).last == some 7) = true := by decide +kernel
theorem test_burst_hit : okAfter (.dramBurst 2 1) (bursting { bank0 with openRow := some 7, last := some 7, pred := 1 } [aBurst 7]) (fun t => t.rd (F.MEM_CH_STAT.PAGE_HIT.CNT 2) == 1 &&
    (t.bank 2 1 3).acts == [] && (t.bank 2 1 3).pred == 2 && (t.bank 2 1 3).openRow == some 7) = true := by decide +kernel
theorem test_burst_policy : okAfter (.dramBurst 2 1) (bursting { bank0 with openRow := some 6, last := some 6, pred := 2 } [aBurst 7]) (fun t => (t.bank 2 1 3).pred == 1 && (t.bank 2 1 3).openRow == none) = true ∧
    okAfter (.dramBurst 2 1) ((bursting bank0 [aBurst 7]).wr (F.MEM_CH_CFG.PAGE 2) 1) (fun t => (t.bank 2 1 3).openRow == some 7) = true := by decide +kernel
theorem test_burst_store : okAfter (.dramBurst 2 1) (bursting bank0 [{ aBurst 7 with store := some (0x5000, [1, 2]) }]) (fun t => t.devRead 0x4FFF 4 == [0, 1, 2, 0]) = true := by decide +kernel
theorem test_burst_wait : noEffect (.dramBurst 2 1) (bursting { bank0 with busyUntil := 1 } [aBurst 7]) = true ∧ noEffect (.dramBurst 2 0) (bursting bank0 [aBurst 7]) = true ∧
    noEffect (.dramBurst 2 1) (bursting { bank0 with victims := [(8, 7)] } [aBurst 7]) = true ∧
    okAfter (.dramBurst 2 1) (bursting { bank0 with openRow := some 6, last := some 6, victims := [(8, 7)] } [aBurst 7, { aBurst 6 with id := 2 }]) (fun t => t.dram.bursts == [aBurst 7]) = true := by decide +kernel
/-- The threshold is at least 64: the 64th activation queues the victims, two rows at each side of the aggressor. -/
theorem test_disturbance : okAfter (.dramBurst 2 1) (((bursting { bank0 with acts := [(7, 63)] } [aBurst 7]).wr F.MEM_GCFG.ACT_THRESH 5).wr F.MEM_GCFG.BLAST 2 |>.wr (F.MEM_CH_GEOM.ROW 2) 16) (fun t =>
    (t.bank 2 1 3).acts == [(7, 0)] && (t.bank 2 1 3).victims == [(6, 7), (8, 7), (5, 7), (9, 7)]) = true := by decide +kernel
theorem test_table_full : okAfter (.dramBurst 2 1) ((bursting { bank0 with acts := (List.range 32).map (fun r => (100 + r, if r = 4 then 2 else 9)) } [aBurst 7]).wr F.MEM_GCFG.ACT_THRESH 4095) (fun t =>
    (t.bank 2 1 3).acts.getD 4 (0, 0) == (7, 3)) = true := by decide +kernel
theorem test_row_timeout : okAfter (.rowActiveTimeout 2 1 3) (bursting { bank0 with openRow := some 7 } []) (fun t => (t.bank 2 1 3).openRow == none) = true ∧ noEffect (.rowActiveTimeout 2 1 3) (bursting bank0 []) = true := by decide +kernel

/-- Turn 63 of the boot lacing is a SYSTEM turn. One refresh falls due every 31,250 units. -/
def refreshing (n : Nat) : State :=
  let s := atTime ((bursting { bank0 with openRow := some 7 } []).wr F.STITCH_POS.TURN 63) n
  { s with dram := { s.dram with trained := some 0 } }
theorem test_refresh_due : (refreshing 31250).systemTurn 2 = true ∧ (refreshing 31249).accrue 2 ((refreshing 31249).bank 2 1 3) = { bank0 with openRow := some 7 } ∧
    ((refreshing 250000).accrue 2 ((refreshing 250000).bank 2 1 3)).owed = 8 := by decide +kernel
theorem test_refresh : (refreshing 31250).owedNow 2 1 3 = 1 ∧ (refreshing 31250).maintUsed 2 1 = 0 ∧
    noEffect (.perBankRefresh 2 1 3) (refreshing 31249) = true ∧ noEffect (.perBankRefresh 2 1 3) ((refreshing 31250).wr F.STITCH_POS.TURN 62) = true ∧ noEffect (.perBankRefresh 2 1 16) (refreshing 31250) = true := by decide +kernel
/-- A turn of 32 cycles allows 8 maintenance commands. -/
theorem test_refresh_limit : (let s := refreshing 31250; noEffect (.perBankRefresh 2 1 3) { s with dram := { s.dram with maint := [(5, (63, 8))] } }) = true ∧
    4 * (7 + 1) ≤ (refreshing 31250).turnLen := by decide +kernel
theorem test_refresh_forced : (refreshing 250000).chState 2 = 0 ∧ (refreshing 250000).owedNow 2 1 3 = 8 ∧ noEffect (.refForced 2 1 3) (refreshing 249999) = true := by decide +kernel
theorem test_multiplier : okAfter (.refreshMultRead 2 2) (refreshing 31249) (fun t => t.rd (F.MEM_CH_STATUS.CUR_MULT 2) == 2 && (t.bank 2 1 3).refAt == 31249 - 7811 && (t.fifo memEvq).entries == [9 * 2 ^ 59 + 2 * 2 ^ 20]) = true ∧
    noEffect (.refreshMultRead 2 3) (refreshing 0) = true ∧ noEffect (.refreshMultRead 2 1) ((refreshing 0).wr F.STITCH_COUNT.COUNT 1) = true := by decide +kernel
theorem test_targeted : (((refreshing 0).setBank 2 1 3 { bank0 with victims := [(8, 7), (6, 7)] }).bank 2 1 3).victims = [(8, 7), (6, 7)] ∧ (refreshing 0).systemTurn 2 = true ∧ noEffect (.targetedRefresh 2 1 3) (refreshing 0) = true := by decide +kernel
/-- The window is 32 ms: 256,000,000 units. -/
theorem test_window_end : okAfter (.actTableClear 2) ((refreshing 256000009).setBank 2 1 3 { bank0 with acts := [(7, 5)] }) (fun t => (t.bank 2 1 3).acts == [] && AMap.get? t.dram.windowAt 2 == some 256000000) = true ∧
    noEffect (.actTableClear 2) (refreshing 255999999) = true := by decide +kernel
theorem test_patrol : okAfter (.patrolRead 2 true) ((refreshing 0).wr (F.MEM_CH_CFG.SCRUB_EN 2) 1) (fun t => AMap.get? t.dram.patrol 2 == some 1 && t.rd (F.MEM_CH_STAT.CE.CNT 2) == 1 && t.reports == [(5, 2)] &&
    t.dram.writebacks == [[2, 0, 0, 0, 0]]) = true ∧ noEffect (.patrolRead 2 true) ((refreshing 0).wr (F.MEM_CH_CFG.SCRUB_EN 2) 0) = true := by decide +kernel
theorem test_patrol_end : okAfter (.patrolRead 2 false) (let s := ((refreshing 0).wr (F.MEM_CH_CFG.SCRUB_EN 2) 1).wr (F.MEM_CH_GEOM.COL 2) 0 |>.wr (F.MEM_CH_GEOM.ROW 2) 0; { s with dram := { s.dram with patrol := [(2, 31)] } }) (fun t =>
    AMap.getD t.dram.patrol 2 0 == 0 && t.rd (F.MEM_CH_STAT.PATROL.CNT 2) == 1) = true := by decide +kernel
theorem test_writeback : (let s := refreshing 0; okAfter (.scrubWriteback 2) { s with dram := { s.dram with writebacks := [[1, 0, 0, 0, 0], [2, 0, 0, 0, 0]] } } (fun t => t.dram.writebacks == [[1, 0, 0, 0, 0]])) = true ∧ noEffect (.scrubWriteback 2) (refreshing 0) = true := by decide +kernel
theorem test_dq_timing : okAfter (.dqTimingMeasure 2 [3] [4]) (let s := refreshing 0; { s with dram := { s.dram with eyes := [(67, 9), (68, 9), (69, 9)] } }) (fun t =>
    AMap.getD t.dram.eyes 67 0 == 10 && AMap.getD t.dram.eyes 68 0 == 8 && AMap.getD t.dram.eyes 69 0 == 9) = true ∧ noEffect (.dqTimingMeasure 2 [3] []) ((refreshing 0).wr F.STITCH_COUNT.COUNT 64) = true := by decide +kernel

/-- 24 hours are 2,160,000,000,000 periods of 25 MHz. -/
def frozenBefore (n : Nat) : State := atTime (((mapped opened).wr (F.MEM_CH_STATUS.FREEZES 2) 1).wr (F.MEM_LAST_FREEZE.TIME 2) 5) (320 * n)
theorem test_channel_freeze : okAfter (.channelFreeze 2 1 9 0x1234 5 0x77) (frozenBefore 2160000000005) (fun t => AMap.get? t.dram.testing 2 == some (320 * 2160000000005) && t.reports == [(5, 2)]) = true := by decide +kernel
theorem test_freeze_again : (frozenBefore 2160000000004).chState 2 = 0 ∧ (frozenBefore 2160000000004).rd (F.MEM_LAST_FREEZE.TIME 2) + 2160000000000 = (frozenBefore 2160000000004).clk.time / 320 + 1 := by decide +kernel
theorem test_freeze_not : noEffect (.channelFreeze 2 3 0 0 0 0) (mapped opened) = true ∧ noEffect (.channelFreeze 2 1 0 0 0 0) ((mapped opened).wr (F.MEM_CH_STATUS.STATE 2) 4) = true := by decide +kernel
theorem test_freeze_reroute : okAfter (.channelFreeze 2 1 0 0 0 0) (let s := frozenBefore 2160000000005; { s with dram := { s.dram with bursts := [{ aBurst 7 with partner := some 11 }, { aBurst 8 with id := 2 }] } }) (fun t =>
    t.dram.bursts == [{ aBurst 7 with chan := 11, partner := some 2 }, { aBurst 8 with id := 2 }]) = true := by decide +kernel
def testing2 : State := let s := (mapped opened).wr (F.MEM_CH_STATUS.STATE 2) 2; { s with dram := { s.dram with testing := [(2, 0)] } }
theorem test_freeze_test : okAfter (.freezeTestDone 2 true) testing2 (fun t => t.chState 2 == 3 && t.rd (F.MEM_FREEZE_REC.W 2 0) == 0x100 && (t.fifo memEvq).entries == [2 * 2 ^ 59 + 2 * 2 ^ 20]) = true ∧
    okAfter (.freezeTestDone 2 false) testing2 (fun t => t.chState 2 == 4 && t.dram.testing == []) = true ∧ noEffect (.freezeTestDone 2 true) (mapped opened) = true := by decide +kernel
theorem test_resync : okAfter (.resyncDone 2) (let s := (mapped opened).wr (F.MEM_CH_STATUS.STATE 2) 3; { s with dram := { s.dram with resync := [2 * 2 ^ 24 + 5, 3 * 2 ^ 24] } }) (fun t => t.chState 2 == 0 && t.dram.resync == [3 * 2 ^ 24]) = true ∧
    noEffect (.resyncDone 2) (mapped opened) = true := by decide +kernel
def sparing : State := let s := (mapped opened).wr F.FAULT_SPARE.DRAM 2; { s with dram := { s.dram with spareFor := [(0, (2, 0))] } }
theorem test_spare_in : okAfter (.spareIn 0 true) sparing (fun t => t.chState 8 == 3 && t.rd (F.MEM_CH_STATUS.LOGICAL 8) == 2 && t.rd F.FAULT_SPARE.DRAM == 1 && t.dram.copying == [8] && t.rd F.FAULT_STAT.SWAPS.CNT == 1) = true ∧
    okAfter (.spareIn 0 false) sparing (fun t => t.chState 8 == 4 && t.dram.spareFor == []) = true ∧ noEffect (.spareIn 1 true) sparing = true := by decide +kernel
theorem test_spare_active : okAfter (.spareActivate 0 5000) (let s := sparing.wr (F.MEM_CH_STATUS.STATE 8) 3; { s with dram := { s.dram with copying := [8] } }) (fun t => t.chState 8 == 0 && t.dram.copying == [] && t.rd F.FAULT_AVAIL.UNAVAIL_US == 2000) = true ∧
    noEffect (.spareActivate 0 5) sparing = true := by decide +kernel
def memAsk (s : State) (op target : Nat) : State :=
  let s := ((s.wr F.MEM_CMD.BUSY 1).wr F.MEM_CMD.OP op).wr F.MEM_CMD.TARGET target
  { s with dram := { s.dram with goWord := s.word 0x1808400 } }
def memReports (t : State) (st det : Nat) : Bool := t.rd F.MEM_CMD.BUSY == 0 && t.rd F.MEM_CMD_STATUS.DONE == 1 && t.rd F.MEM_CMD_STATUS.STATUS == st && t.rd F.MEM_CMD_STATUS.DETAIL == det
theorem test_restore : okAfter .regionRestore (memAsk (((mapped opened).wr (F.MEM_REGION_W0.STATE 0) 1).devWrite 0x5000 [7]) 1 0) (fun t => memReports t 0 0 && t.rd (F.MEM_REGION_W0.STATE 0) == 0 && t.mem == []) = true ∧
    okAfter .regionRestore (memAsk (mapped opened) 1 5) (fun t => memReports t 4 6) = true ∧ noEffect .regionRestore (memAsk (mapped opened) 2 0) = true := by decide +kernel
theorem test_retire : okAfter .chRetire (memAsk (mapped opened) 2 2) (fun t => memReports t 0 0 && t.chState 2 == 4 && t.rd (F.MEM_REGION_W0.STATE 0) == 1 && AMap.get? t.dram.spareFor 0 == some (2, 0)) = true ∧
    okAfter .chRetire (memAsk (mapped opened) 2 18) (fun t => memReports t 4 6) = true ∧ noEffect .chRetire (mapped opened) = true := by decide +kernel
theorem test_retire_mirrored : okAfter .chRetire (memAsk (mirroredMap.wr (F.MEM_CH_STATUS.STATE 8) 4) 2 2) (fun t => t.chState 2 == 4 && t.rd (F.MEM_REGION_W0.STATE 0) == 2 && t.rd F.FAULT_STAT.UNSPARED.CNT == 1) = true := by decide +kernel

/-! ### The boot (chapter 12) -/

def booting (st : BootStage) : State := State.reset.setBoot { State.reset.cob.boot with stage := st }
/-- The example records of R397, after the manifest's component 3 of 4 bytes. -/
def exRecord (op comp off v : Nat) : Bytes := toLE 1 op ++ toLE 1 comp ++ toLE 2 0 ++ toLE 4 off ++ toLE 8 v
def exampleConfig : Bytes :=
  exRecord 2 0xFF 0x1808100 0xA800000000000010 ++ exRecord 2 0xFF 0x1808000 0x881E040002000000 ++ exRecord 6 0xFF 0x1808008 0x8000000080000000 ++
  exRecord 1 0xFF 0x180C020 0x8000 ++ exRecord 3 3 0 0x40000000 ++ exRecord 4 3 0x200200 0 ++ exRecord 1 0xFF 0x200208 0x8000000F ++ exRecord 6 0xFF 0x200208 0x40000000
def exampleManifest : Bytes := List.replicate 12 0 ++ toLE 2 1 ++ toLE 1 4 ++ List.replicate 97 0 ++ toLE 4 4 ++ toLE 4 8 ++ toLE 4 4 ++ List.replicate 16 0
def aRun (cfg : Bytes) : RunSet := { slot := 0, svn := 5, key := 2, flags := 1, buildId := List.replicate 16 7, body := [], cobbler := [1], storage := [2], config := cfg }
def configuring (s : State) (o : Nat) : State :=
  { s with cob := { s.cob with run := some (aRun exampleConfig), boot := { s.cob.boot with stage := .config o, manifest := exampleManifest, pollAt := some 5, slot := 0 } } }
def stageAfter (c : Instr) (s : State) (st : BootStage) : Bool := okAfter c s (fun t => t.cob.boot.stage == st)

theorem test_boot_start : noEffect .bootSlotStart opened = true ∧ noEffect .configRun State.reset = true ∧ noEffect (.outputGateOpen true) State.reset = true ∧ noEffect .slotBootFail State.reset = true ∧
    noEffect (.chunkLanded true) State.reset = true := by decide +kernel
theorem test_chunk_lost : stageAfter (.chunkLanded false) (booting (.streaming 3)) (.failed 9) = true := by decide +kernel
def started : State := let s := booting (.streaming 3); s.setBoot { s.cob.boot with firmware := true }
theorem test_training_done : okAfter (.dramTrainingDone [] 1 16 6 8) (atTime started 50) (fun t => t.dram.trained == some 50 && t.rd (F.MEM_CH_GEOM.ROW 17) == 16 && t.rd (F.MEM_CH_GEOM.CAPACITY 0) == 8 && t.chState 3 == started.chState 3) = true ∧
    noEffect (.dramTrainingDone [] 1 16 6 8) (booting (.streaming 3)) = true := by decide +kernel
theorem test_training_failed : okAfter (.dramTrainingDone [2] 1 16 6 8) started (fun t => t.chState 2 == 4 && t.chState 8 == 0 && t.rd (F.MEM_CH_STATUS.LOGICAL 8) == 2) = true := by decide +kernel

theorem test_config_run : (let s := configuring (mapped State.reset) 0; stageAfter .configRun ({ s with dram := { s.dram with trained := some 0 } }.setBoot { s.cob.boot with stage := .landed }) (.config 0)) = true := by decide +kernel
/-- The first record of the example gives MEM_REGION[0]: VALID, SET BOTH, MAP_HASHED, 16 GiB. -/
theorem test_record_region : okAfter .w64 (configuring State.reset 0) (fun t => t.cob.boot.stage == .config 16 && t.rd (F.MEM_REGION_W0.VALID 0) == 1 && t.rd (F.MEM_REGION_W0.SET 0) == 2 &&
    t.rd (F.MEM_REGION_W0.MAP 0) == 2 && t.rd (F.MEM_REGION_W0.SIZE 0) == 16 && t.rd (F.MEM_REGION_W0.CLASS 0) == 0 && t.rd (F.MEM_REGION_W8.BASE 0) == 0) = true := by decide +kernel
/-- The fourth gives granule 16 to tenant 0 and leaves granule 17 unowned. -/
theorem test_record_owner : okAfter .w32 (configuring State.reset 48) (fun t => t.cob.boot.stage == .config 64 && t.ownerOf 16 == some 0 && t.ownerOf 17 == none) = true ∧ noEffect .w32 (configuring State.reset 0) = true := by decide +kernel
theorem test_record_addr : okAfter .addr64 (let s := configuring State.reset 80; s.setBoot { s.cob.boot with copies := [(3, 0x40000000)] }) (fun t => t.cob.boot.stage == .config 96 && t.word 0x200200 == 0x40000000) = true ∧
    stageAfter .addr64 (configuring State.reset 80) (.failed 0x0A) = true := by decide +kernel
theorem test_record_load : okAfter .w32 (configuring State.reset 96) (fun t => t.cob.boot.stage == .config 112 && t.cob.boot.pollAt == some 0 && t.rd (F.MULE_LOAD_CTRL.BUSY 0) == 1) = true := by decide +kernel
def owner16 (s : State) : State := ((s.wr (F.MEM_OWNER.VALID_LO 8) 1).wr (F.MEM_REGION_W0.SIZE 0) 16)
theorem test_record_copy : (owner16 (mapped State.reset)).ownedBy 0 0x40000000 4 = true ∧ (owner16 (mapped State.reset)).memCheck 0x40000000 4 = (0, 0) := by decide +kernel
theorem test_record_poll : stageAfter .poll (configuring (State.reset.wr F.MEM_GSTATUS.READY 1) 32) (.config 48) = true ∧ noEffect .poll (configuring State.reset 32) = true ∧
    stageAfter .poll (atTime (configuring (State.reset.wr F.MEM_GSTATUS.READY 1) 32) 800000005) (.config 48) = true ∧ noEffect .poll (atTime (configuring (State.reset.wr F.MEM_GSTATUS.READY 1) 32) 800000006) = true := by decide +kernel
theorem test_poll_timeout : stageAfter .pollTimeout (atTime (configuring State.reset 32) 800000006) (.failed 0x0A) = true ∧ noEffect .pollTimeout (atTime (configuring State.reset 32) 800000005) = true := by decide +kernel
theorem test_record_last : stageAfter .poll (configuring State.reset 112) .configured = true := by decide +kernel
def shortConfig (r : Bytes) : State := let s := configuring State.reset 0; { s with cob := { s.cob with run := some (aRun r) } }
theorem test_record_refused : stageAfter .w32 (shortConfig (exRecord 1 0xFF 0xFF0000 0)) (.failed 0x0A) = true ∧ stageAfter .w32 (shortConfig (exRecord 1 0xFF 0x180C020 0 ++ exRecord 9 0 0 0)) (.failed 0x0A) = true ∧
    stageAfter .cfgEnd (shortConfig (exRecord 8 0 0 0 ++ exRecord 1 0 0 0)) .configured = true := by decide +kernel
/-- Component 3, 4 bytes, as a CSR block for MEM_OWNER[0]. -/
theorem test_record_block : okAfter .csrBlock (let s := shortConfig (exRecord 5 3 0x180C000 0); s.devWrite (s.bootStore + 0x10008) [0, 0x80, 5, 0x80]) (fun t => t.ownerOf 0 == some 0 && t.ownerOf 1 == some 5 && t.cob.boot.stage == .configured) = true ∧
    stageAfter .csrBlock (shortConfig (exRecord 5 4 0x180C000 0)) (.failed 0x0A) = true := by decide +kernel
theorem test_gate : okAfter (.outputGateOpen true) (let s := atTime (booting .configured) 80000; ({ s with cob := { s.cob with journal := { s.cob.journal with bank := some 0 } } }).devWrite s.bootStore [5]) (fun t =>
    t.locked && t.cob.boot.stage == .opened && t.rd F.COBBLER_GATE_TIME.US == 10 && t.mem == []) = true := by decide +kernel
theorem test_boot_fail : okAfter .slotBootFail (booting (.failed 9)) (fun t => t.rd F.COBBLER_BOOT_STATUS.FAIL_SLOT == State.reset.cob.boot.slot && t.rd F.COBBLER_BOOT_STATUS.FAIL_CAUSE == 9 && t.rd F.COBBLER_BOOT_STATUS.TRIES == 1 &&
    t.cob.failed == [State.reset.cob.boot.slot] && t.cob.boot.stage == .choosing) = true := by decide +kernel
theorem test_lockstep : okAfter .lockstep { opened with cob := { opened.cob with mgmt := { opened.cob.mgmt with sessions := [(1, 0)] } } } (fun t =>
    t.rd F.COBBLER_STAT.LOCKSTEP.CNT == 1 && t.cob.mgmt.sessions == [] && (t.fifo cobblerEvq).entries == [3 * 2 ^ 59] && t.reports == [(7, 0)] && t.locked) = true := by decide +kernel
theorem test_lockstep_mailbox : okAfter .lockstep (opened.wr F.COBBLER_MBOX_CMD.BUSY 1) (fun t => t.rd F.COBBLER_MBOX_CMD.BUSY == 0 && t.rd F.COBBLER_MBOX_STATUS.STATUS == 0x0F && t.rd F.COBBLER_MBOX_STATUS.DETAIL == 0x13) = true := by decide +kernel
/-- A record STORAGE_ASSIGN of mule 48 is refused, and CONFIG goes on (log entry 92); of mule 1 with a spindle in a pending swap likewise. -/
theorem test_assign_record : stageAfter (.storageAssign none) (shortConfig (exRecord 7 0xFF 0 (48 + 2 ^ 16) ++ exRecord 8 0xFF 0 0)) (.config 16) = true := by decide +kernel
def assigning (boot : Bool) : State := let s := shortConfig (exRecord 7 0xFF 0 (2 ^ 16)); { s with cob := { s.cob with assign := some ⟨.csr, boot, 0, 1⟩ } }
theorem test_assign_wait : noEffect (.storageAssign none) ((assigning true).wr (F.MULE_ROLE.REQ 0 0) 1) = true ∧ okAfter (.storageAssign none) (assigning true) (fun t => t.cob.assign == none && t.cob.boot.stage == .configured) = true := by decide +kernel

/-! ### The mailbox, the journal and debug access -/

def mbox (s : State) (op : Nat) (args : List (Nat × Nat)) : State :=
  args.foldl (fun s a => s.wr (F.COBBLER_MBOX_ARG.W a.1) a.2) ((s.wr F.COBBLER_MBOX_CMD.BUSY 1).wr F.COBBLER_MBOX_CMD.OP op)
def mboxEnds (c : Instr) (s : State) (st det len : Nat) : Bool := okAfter c s (fun t => t.rd F.COBBLER_MBOX_CMD.BUSY == 0 && t.rd F.COBBLER_MBOX_STATUS.DONE == 1 &&
  t.rd F.COBBLER_MBOX_STATUS.STATUS == st && t.rd F.COBBLER_MBOX_STATUS.DETAIL == det && t.rd F.COBBLER_MBOX_STATUS.RSP_LEN == len)
/-- The gate is open, a set runs from slot A, and the journal's bank 0 is active. -/
def serving : State := { opened with cob := { opened.cob with run := some (aRun []), journal := { opened.cob.journal with bank := some 0, gen := 1, jseq := 4, tail := 0x80 } } }
theorem test_mailbox_info : mboxEnds (.mboxInfo .csr) (mbox serving 1 []) 0 0 34 = true ∧ mboxEnds (.mboxInfo .csr) (mbox serving 11 []) 2 1 0 = true ∧ mboxEnds (.mboxInfo .csr) (mbox serving 0 []) 2 1 0 = true ∧
    noEffect (.mboxInfo .csr) serving = true ∧ noEffect (.mboxInfo .csr) (mbox serving 2 []) = true ∧ noEffect (.mboxInfo .thread) serving = true := by decide +kernel
theorem test_info_bytes : okAfter (.mboxInfo .csr) (mbox serving 1 []) (fun t => t.rd (F.COBBLER_MBOX_RSP.W 0) == 0x07070707 && t.rd (F.COBBLER_MBOX_RSP.W 4) == 5 && t.rd (F.COBBLER_MBOX_RSP.W 8) == 2) = true := by decide +kernel
theorem test_fw_write_bad : mboxEnds (.fwWrite .csr) (mbox serving 2 [(0, 4095), (1, 4096)]) 4 2 0 = true ∧ mboxEnds (.fwWrite .csr) (mbox serving 2 [(0, 0), (1, 12288)]) 4 2 0 = true ∧
    mboxEnds (.fwWrite .csr) (mbox serving 2 [(0, 0x3000000), (1, 4096)]) 4 2 0 = true := by decide +kernel
theorem test_fw_write_busy : mboxEnds (.fwWrite .csr) (mbox { serving with cob := { serving.cob with holder := some .pldm } } 2 [(0, 0), (1, 4096)]) 4 3 0 = true ∧
    okAfter (.fwWrite .csr) (mbox serving 2 [(0, 0), (1, 0)]) (fun t => t.cob.holder == some .mailbox && t.rd F.COBBLER_MBOX_STATUS.STATUS == 0) = true := by decide +kernel
theorem test_commit_bad : mboxEnds (.store (.mbox .csr) true) (mbox serving 3 [(0, 3)]) 4 2 0 = true ∧ noEffect (.activate (.mbox .csr)) (mbox serving 3 []) = true ∧
    mboxEnds (.activate (.mbox .csr)) (mbox { serving with cob := { serving.cob with holder := some .pldm } } 3 [(0, 2)]) 4 3 0 = true := by decide +kernel
theorem test_target_slot : serving.targetSlot = 1 := by decide +kernel
theorem test_svn_commit_refused : mboxEnds (.svnCommit .csr) (mbox { serving with cob := { serving.cob with run := some { aRun [] with slot := 2 } } } 4 []) 3 0x0D 0 = true ∧
    mboxEnds (.svnCommit .csr) (mbox (serving.wr F.COBBLER_BOOT_STATUS.DEBUG_OPENED 1) 4 []) 3 0x0E 0 = true ∧ mboxEnds (.svnCommit .csr) (mbox (serving.wr F.COBBLER_SVN.MIN_SVN 5) 4 []) 4 7 0 = true ∧
    mboxEnds (.svnCommit .csr) (mbox { serving with cob := { serving.cob with run := none } } 4 []) 3 0x0D 0 = true := by decide +kernel
theorem test_svn_commit : okAfter (.svnCommit .csr) (mbox (serving.wr F.COBBLER_SVN.MIN_SVN 4) 4 []) (fun t => t.rd F.COBBLER_SVN.MIN_SVN == 5 && t.cob.revoked == [0, 1] && t.cob.journal.jseq == 5 &&
    t.cob.journal.tail == 0x100 && (t.fifo cobblerEvq).entries == [7 * 2 ^ 59 + 5] && t.rd F.COBBLER_MBOX_STATUS.STATUS == 0) = true ∧
    noEffect (.svnCommit .csr) (mbox { serving with cob := { serving.cob with journal := { serving.cob.journal with compacting := true } } } 4 []) = true := by decide +kernel
theorem test_debug : mboxEnds (.debugChallenge .csr) (mbox { serving with cob := { serving.cob with tokenFails := 8 } } 6 []) 3 0x10 0 = true ∧
    okAfter (.debugUnlock .csr) (mbox serving 7 []) (fun t => t.cob.tokenFails == 1 && t.rd F.COBBLER_STAT.DEBUG_FAIL.CNT == 1 && t.rd F.COBBLER_MBOX_STATUS.STATUS == 8 && t.rd F.COBBLER_MBOX_STATUS.DETAIL == 0x0F && !t.cob.debugOpen) = true := by decide +kernel
theorem test_nv : mboxEnds (.nvRead .csr) (mbox serving 8 [(0, 256)]) 4 2 0 = true ∧ mboxEnds (.nvRead .csr) (mbox serving 8 [(0, 255)]) 0 0 0 = true ∧ mboxEnds (.nvWrite .csr) (mbox serving 9 [(0, 9), (1, 0)]) 4 2 0 = true ∧
    mboxEnds (.nvWrite .csr) (mbox serving 9 [(0, 9), (1, 4097)]) 4 2 0 = true := by decide +kernel
theorem test_nv_write : okAfter (.nvWrite .csr) ((mbox serving 9 [(0, 9), (1, 4)]).wr (F.COBBLER_MBOX_DATA.W 0) 0x04030201) (fun t => t.cob.journal.jseq == 5 && t.cob.journal.tail == 0x100 &&
    flashRead t.pflash 0x90 5 == [1, 2, 3, 4, 0xFF#8] && t.rd F.COBBLER_MBOX_STATUS.STATUS == 0) = true := by decide +kernel
theorem test_nv_round : (countsAt (flashWrite [] 0x80 (recBytes ⟨6, 9, [1, 2, 3, 4]⟩ 5)) 0x80).map (fun x => (x.jrec.type, x.jrec.key, x.jrec.payload, x.jseq)) = some (6, 9, [1, 2, 3, 4], 5) := by decide +kernel
theorem test_recovery_boot : mboxEnds (.recoveryBoot .csr) (mbox serving 10 []) 3 0x11 0 = true := by decide +kernel
theorem test_assign_command : mboxEnds (.storageAssign (some .csr)) (mbox serving 5 [(0, 48)]) 4 2 0 = true ∧
    mboxEnds (.storageAssign (some .csr)) (mbox (serving.wr (F.MULE_ROLE.REQ 0 0) 1) 5 [(0, 2 ^ 16)]) 3 0x40 0 = true := by decide +kernel
theorem test_assign_ends : mboxEnds (.storageAssign (some .csr)) (mbox { serving.wr (roleF 0) 1 with cob := { serving.cob with assign := some ⟨.csr, false, 0, 1⟩ } } 5 []) 0 0 0 = true ∧
    mboxEnds (.storageAssign (some .csr)) (mbox { serving with cob := { serving.cob with assign := some ⟨.csr, false, 0, 1⟩ } } 5 []) 0x0F 0x0B 0 = true := by decide +kernel

/-! A command over MCTP, and as a message. -/
theorem test_mctp_command : okAfter (.mboxInfo (.mctp 0 11 [] [])) serving (fun t => t.outs == [.mctp 0 0x7E [2, 1, 0, 0, 0, 0, 0, 0]]) = true ∧
    okAfter (.debugUnlock (.mctp 1 7 [] [])) serving (fun t => t.outs == [.mctp 1 0x7E [3, 0x12, 0, 0, 0, 0, 0, 0]] && t.cob == serving.cob) = true := by decide +kernel
def mboxMessage (k : MsgKind) (ws : List W64) : State := (withEpoch serving 2).setQueue cobEp [{ someMsg 1 cobEp 1 ws.length with src := dst17, kind := k, words := ws }]
theorem test_message_command : okAfter (.mboxInfo .thread) (mboxMessage .bulk [11]) (fun t => t.queueAt cobEp == [] && t.yarn.flights.map (fun f => f.msg.words) == [[0x102]]) = true ∧
    okAfter (.debugChallenge .thread) (mboxMessage .bulk [6]) (fun t => t.yarn.flights.map (fun f => f.msg.words) == [[0x1203]]) = true ∧
    okAfter (.nvRead .thread) (mboxMessage .small [8]) (fun t => t.yarn.flights.map (fun f => f.msg.words) == [[0x102]]) = true := by decide +kernel

def queued (r : JRec) : State := { serving with cob := { serving.cob with journal := { serving.cob.journal with waiting := [r] } } }
theorem test_journal_append : okAfter .journalAppend (queued ⟨6, 9, [1, 2, 3, 4]⟩) (fun t => t.cob.journal.waiting == [] && t.cob.journal.jseq == 5 && t.cob.journal.tail == 0x100 && t.rd F.COBBLER_STAT.JOURNAL_WRITES.CNT == 1) = true ∧ noEffect .journalAppend serving = true := by decide +kernel
theorem test_journal_full : (let s := queued ⟨6, 9, [1]⟩; okAfter .journalAppend { s with cob := { s.cob with journal := { s.cob.journal with tail := 0x600000 - 127 } } } (fun t => t.cob.journal.compacting && t.cob.journal.waiting.length == 1)) = true ∧
    (let s := queued ⟨6, 9, [1]⟩; okAfter .journalAppend { s with cob := { s.cob with journal := { s.cob.journal with tail := 0x600000 - 128 } } } (fun t => t.cob.journal.tail == 0x600000)) = true := by decide +kernel
theorem test_not_compacting : noEffect .compacted serving = true := by decide +kernel

/-! ### Management endpoints -/

def sends (c : Instr) (s : State) (ty : Nat) (bs : Bytes) : Bool := okAfter c s (fun t => t.outs == [.mctp 0 ty bs])
theorem test_mctp : sends (.mctpControl 0 1 9) serving 0 [0, 9] = true ∧ sends (.mctpControl 0 2 0) serving 0 [0, 0] = true ∧ sends (.mctpControl 0 5 0) serving 0 [0, 5, 0, 1, 5, 6, 0x7E] = true ∧
    sends (.mctpControl 0 7 0) serving 0 [5] = true ∧ noEffect (.mctpControl 2 2 0) serving = true ∧ noEffect (.mctpControl 0 2 0) State.reset = true ∧ sends (.mctpControl 0 2 0) (booting .recovery) 0 [0, 0] = true ∧
    noEffect (.mctpControl 1 2 0) (booting .recovery) = true := by decide +kernel
theorem test_mctp_discard : okAfter (.mctpUnsupportedMessage 0 2) serving (fun t => t.rd F.COBBLER_STAT.MCTP_DISCARD.CNT == 1) = true ∧ noEffect (.mctpUnsupportedMessage 0 6) serving = true := by decide +kernel
/-- Temperatures are in quarters of a degree: 0x7FC is -1 degree. -/
theorem test_sensor : sends (.getsensorreading 0 1) (serving.wr (F.POWER_TEMP.TEMP 0) 0x7FC) 1 [0, 0, 0xFF, 0xFF, 0xFF, 0xFF] = true ∧ sends (.getsensorreading 0 66) (serving.wr (F.POWER_RAIL.MV 0) 750) 1 [0, 0, 0xEE, 2, 0, 0] = true ∧
    sends (.getsensorreading 0 72) serving 1 [0x80] = true ∧ sends (.getsensorreading 0 0) serving 1 [0x80] = true := by decide +kernel
theorem test_sensor_disable : okAfter (.setnumericsensorenable 0 71 false) serving (fun t => t.cob.mgmt.disabled == [71] && t.outs == [.mctp 0 1 [0]]) = true ∧
    sends (.getsensorreading 0 71) (serving.setMgmt { serving.cob.mgmt with disabled := [71] }) 1 [0, 1] = true ∧ sends (.setnumericsensorenable 0 72 false) serving 1 [0x80] = true := by decide +kernel
theorem test_state_sensor : sends (.getstatesensorreadings 0 132) serving 1 [0, 1] = true ∧ sends (.getstatesensorreadings 0 132) (serving.wr F.SEAM_STATUS.STATE 2) 1 [0, 2] = true ∧
    sends (.getstatesensorreadings 0 116) (serving.setSlot 0 4) 1 [0, 4] = true ∧ sends (.getstatesensorreadings 0 99) serving 1 [0x80] = true ∧ sends (.getstatesensorreadings 0 133) serving 1 [0x80] = true := by decide +kernel
theorem test_pdr : sends (.getpdr 0 72) serving 1 [0x82] = true ∧ sends (.getpdr 0 0) serving 1 (0 :: pdrRecord 1) = true ∧ sends (.getpdr 0 133) serving 1 [0x82] = true := by decide +kernel
theorem test_event_receiver : okAfter (.seteventreceiver 1 9) serving (fun t => t.cob.mgmt.receiver == some 265 && t.outs == [.mctp 1 1 [0]]) = true := by decide +kernel
theorem test_request_update : okAfter (.requestupdate 0 8192) serving (fun t => t.cob.mgmt.upd == .download 8192 0 && t.cob.holder == some .pldm && t.outs == [.mctp 0 1 [0, 0, 0x10, 0, 0]]) = true ∧
    sends (.requestupdate 0 0) serving 1 [2] = true ∧ sends (.requestupdate 0 0x3000001) serving 1 [2] = true ∧ sends (.requestupdate 0 5) { serving with cob := { serving.cob with holder := some .mailbox } } 1 [0x8A] = true ∧
    sends (.requestupdate 0 5) (serving.setMgmt { serving.cob.mgmt with upd := .applied 1 }) 1 [0x81] = true := by decide +kernel
def downloading : State := serving.setMgmt { serving.cob.mgmt with upd := .download 9 4 }
theorem test_firmware_data : okAfter (.requestfirmwaredata 0 [1, 2] true) downloading (fun t => t.cob.mgmt.upd == .download 9 6 && Memory.read t.cob.staging 3 4 == [0, 1, 2, 0] && t.cob.holder == some .pldm) = true ∧
    noEffect (.requestfirmwaredata 0 [1, 2] true) serving = true := by decide +kernel
theorem test_update_cancel : okAfter (.cancelupdate 0) downloading (fun t => t.cob.mgmt.upd == .idle && t.outs == [.mctp 0 1 [0]]) = true ∧ sends (.cancelupdate 0) serving 1 [0x80] = true ∧
    okAfter (.cancelupdatecomponent 0) downloading (fun t => t.cob.mgmt.upd == .download 9 0) = true ∧ sends (.cancelupdatecomponent 0) serving 1 [0x80] = true ∧
    sends (.getstatus 0) downloading 1 [0, 3] = true ∧ sends (.getstatus 0) serving 1 [0, 0] = true ∧ sends (.activatefirmware 0 true) serving 1 [0x80] = true ∧
    okAfter (.activatefirmware 0 false) (serving.setMgmt { serving.cob.mgmt with upd := .applied 1 }) (fun t => t.cob.mgmt.upd == .idle && t.outs == [.mctp 0 1 [0]]) = true := by decide +kernel
def spdmSays (c : Instr) (s : State) (bs : Bytes) : Bool := okAfter c s (fun t => t.outs == [.doe 0 bs])
theorem test_spdm : spdmSays (.spdmRequest 0 0x84 0 0 0 0) serving [4, 0x12, 0x13] = true ∧ spdmSays (.spdmRequest 0 0xE1 0 0 0 0) serving [0x61] = true ∧ spdmSays (.spdmRequest 0 0x82 0 1 0 0) serving [0x7F, 1] = true ∧
    spdmSays (.spdmRequest 0 0xE0 0 7 0 0) serving [0x7F, 1] = true ∧ spdmSays (.spdmRequest 0 0xE0 0 0 0 0) serving [0x60, 6] = true ∧ spdmSays (.spdmRequest 0 0xE5 4 0 0 0) serving [0x7F, 0x0B] = true ∧
    noEffect (.spdmRequest 6 0x84 0 0 0 0) serving = true ∧ noEffect (.spdmRequest 0 0x84 0 0 0 0) State.reset = true := by decide +kernel
def inSession (n : Nat) : State := serving.setMgmt { serving.cob.mgmt with sessions := (List.range n).map (fun k => (k, 0)), nextSession := n }
theorem test_spdm_session : spdmSays (.spdmRequest 0 0xE9 0 0 0 0) (inSession 1) [0x69] = true ∧ okAfter (.spdmRequest 0 0xEC 0 0 0 0) (inSession 2) (fun t => t.cob.mgmt.sessions == [(1, 0)] && t.outs == [.doe 0 [0x6C]]) = true ∧
    spdmSays (.keyExchange 0) (inSession 8) [0x7F, 3] = true ∧ okAfter (.keyExchange 0) (inSession 7) (fun t => t.cob.mgmt.sessions.length == 8 && t.freeCtr == 1) = true := by decide +kernel
theorem test_sealing : noEffect (.sealingKeyMessage 0 9 5 3 1 2 (List.replicate 16 7)) (inSession 1) = true ∧ spdmSays (.sealingKeyMessage 0 0 5 3 1 2 [7]) (inSession 1) [2, 9] = true ∧
    spdmSays (.sealingKeyMessage 0 0 16 3 1 2 (List.replicate 16 7)) ((inSession 1).wr F.CIPHER_SESS_CFG.COUNT 16) [4, 0x0D] = true ∧
    spdmSays (.sealingKeyMessage 0 0 9 3 1 2 (List.replicate 16 7)) ((((inSession 1).wr F.CIPHER_SESS_CFG.COUNT 16).wr F.CIPHER_SESS_CFG.SPLIT 8).wr F.SEAM_STATUS.STATE 2) [0x0E, 0x11] = true := by decide +kernel

/-! ### Halves, seam and faults (chapter 13) -/

def seamIn (st : Nat) (f : Seam → Seam) : State := (opened.wr F.SEAM_STATUS.STATE st).setSeam (f opened.seam)
def fltEvents (t : State) : List Nat := (t.fifo faultEvq).entries
/-- A stitch has 2,048 cycles. -/
theorem test_replay : okAfter (.flitReplay 1 17) opened (fun t => t.reports == [(3, 35)] && t.rd F.SEAM_STAT.REPLAYS.CNT == 1) = true ∧ noEffect (.flitReplay 2 0) opened = true ∧ noEffect (.flitReplay 0 18) opened = true := by decide +kernel
theorem test_seam_down : okAfter (.seamDown 1) (atCycle (opened.wr F.SEAM_STATUS.WIDTH_BA 16) 50) (fun t => t.rd F.SEAM_STATUS.STATE == 1 && t.rd F.SEAM_STATUS.WIDTH_BA == 0 && t.seam.downBA && t.seam.downAt == some 50) = true ∧
    okAfter (.seamDown 0) (seamIn 3 (fun x => { x with downAt := none })) (fun t => t.rd F.SEAM_STATUS.STATE == 3 && t.rd F.SEAM_STATUS.TRAINED == 0) = true ∧ noEffect (.seamDown 2) opened = true := by decide +kernel
/-- 18 lanes each way: 16 good ones give 16, 15 give 8. -/
theorem test_seam_width : (opened.wr F.SEAM_LANES.RETIRED_AB 5).seamWidth 0 = 16 ∧ (opened.wr F.SEAM_LANES.RETIRED_AB 7).seamWidth 0 = 8 ∧ (opened.wr F.SEAM_LANES.RETIRED_AB 0x3FF).seamWidth 0 = 8 ∧
    (opened.wr F.SEAM_LANES.RETIRED_AB 0x7FF).seamWidth 0 = 0 := by decide +kernel
theorem test_retrain_done : okAfter (.seamRetrainDone true) (seamIn 1 (fun x => { x with downAt := some 5, downAB := true, swapping := [19] })) (fun t => t.rd F.SEAM_STATUS.STATE == 0 && t.seam.downAt == none && t.seam.swapping == [] &&
    t.rd F.SEAM_STATUS.WIDTH_AB == 16 && t.rd F.SEAM_STAT.RETRAINS.CNT == 1 && t.rd F.SEAM_STAT.LANE_SWAPS.CNT == 1 && t.rd F.FAULT_SPARE.SEAM == 3) = true ∧ noEffect (.seamRetrainDone false) (seamIn 1 id) = true ∧
    noEffect (.seamRetrainDone true) opened = true := by decide +kernel
theorem test_retrain_short : okAfter (.seamRetrainDone true) ((seamIn 1 (fun x => { x with downAt := some 5 })).wr F.SEAM_LANES.RETIRED_BA 0x7FF) (fun t => t.rd F.SEAM_STATUS.STATE == 1 && t.seam.downAt == some 5 && t.rd F.SEAM_STATUS.WIDTH_BA == 0) = true := by decide +kernel
theorem test_seam_loss : okAfter .seamLoss (atCycle ((seamIn 1 (fun x => { x with downAt := some 5 })).wr F.SEAM_STATUS.WITNESS_ALIVE 1) 8198) (fun t => t.rd F.SEAM_STATUS.STATE == 2 && t.seam.lossAt == some 8198 &&
    fltEvents t == [8 * 2 ^ 58 + 3 * 2 ^ 16] && t.outs == [.witness 0 2 0] && t.seam.wire == [(2, 0)]) = true ∧ noEffect .seamLoss (atCycle (seamIn 1 (fun x => { x with downAt := some 5 })) 8197) = true ∧ noEffect .seamLoss opened = true := by decide +kernel
theorem test_heartbeat : okAfter (.heartbeat 0) (opened.wr F.STITCH_COUNT.COUNT 256) (fun t => t.outs == [.witness 0 1 0] && t.seam.seqA == 1 && t.seam.beatA == some 256) = true ∧ noEffect (.heartbeat 0) (opened.wr F.STITCH_COUNT.COUNT 257) = true ∧
    noEffect (.heartbeat 0) ((seamIn 0 (fun x => { x with beatA := some 256 })).wr F.STITCH_COUNT.COUNT 256) = true ∧
    okAfter (.heartbeat 1) ((seamIn 0 (fun x => { x with seqB := 2 ^ 20 - 1 })).wr F.STITCH_COUNT.COUNT 256) (fun t => t.seam.seqB == 0) = true := by decide +kernel
theorem test_witness : okAfter (.witnessFrameReceived 0 true true) ((seamIn 4 (fun x => { x with wire := [(5, 1)] })).wr F.STITCH_COUNT.COUNT 9) (fun t => t.rd F.SEAM_STATUS.WITNESS_ALIVE == 1 && t.seam.heardA == 9 && t.seam.wire == []) = true ∧
    okAfter (.witnessFrameReceived 0 false false) opened (fun t => t.rd F.SEAM_STAT.WIT_BAD.CNT == 1 && t.seam == opened.seam) = true ∧
    okAfter (.witnessSilent 0) ((seamIn 0 (fun x => { x with heardA := 5 })).wr F.STITCH_COUNT.COUNT 773) (fun t => t.rd F.SEAM_STATUS.WITNESS_ALIVE == 0) = true ∧
    noEffect (.witnessSilent 0) ((seamIn 0 (fun x => { x with heardA := 5 })).wr F.STITCH_COUNT.COUNT 772) = true ∧ noEffect (.witnessSilent 1) (opened.wr F.STITCH_COUNT.COUNT 9000) = true := by decide +kernel
def lostSeam (st : Nat) (f : Seam → Seam) (n : Nat) : State := atCycle (seamIn st (fun x => f { x with lossAt := some 5 })) n
theorem test_fence : okAfter .fence (lostSeam 2 (fun x => { x with wire := [(2, 0)] }) 9) (fun t => t.seam.fenceSeen && t.seam.wire == [] && !t.seam.fenced) = true ∧ noEffect .fence opened = true := by decide +kernel
theorem test_half_fence : okAfter .halfFence (lostSeam 2 (fun x => { x with fenceSeen := true }) 9) (fun t => t.seam.fenced && !t.seam.fenceSeen && t.outs == [.witness 1 3 0]) = true ∧
    okAfter .halfFence (lostSeam 2 id 131077) (fun t => t.seam.fenced && t.outs == []) = true ∧ noEffect .halfFence (lostSeam 2 id 131076) = true ∧ noEffect .halfFence opened = true := by decide +kernel
theorem test_fence_ack : okAfter .fenceAck (lostSeam 2 (fun x => { x with wire := [(3, 1)] }) 131077) (fun t => t.rd F.SEAM_STATUS.STATE == 3 && t.rd F.SEAM_STATUS.FENCE_MODE == 0 && t.rd F.SEAM_STAT.FENCES.CNT == 1) = true ∧
    okAfter .fenceAck (lostSeam 2 (fun x => { x with wire := [(3, 1)] }) 131078) (fun t => t.rd F.SEAM_STATUS.STATE == 2) = true ∧
    okAfter .fenceTimeout (lostSeam 2 id 147461) (fun t => t.rd F.SEAM_STATUS.STATE == 3 && t.rd F.SEAM_STATUS.FENCE_MODE == 1 && fltEvents t == [9 * 2 ^ 58 + 3 * 2 ^ 16]) = true ∧ noEffect .fenceTimeout (lostSeam 2 id 147460) = true := by decide +kernel
theorem test_rejoin_retrain : okAfter (.rejoinRetrain true) ((seamIn 3 (fun x => { x with retrainAt := 6, downAB := true, downBA := true })).wr F.STITCH_COUNT.COUNT 1030) (fun t => t.rd F.SEAM_STATUS.TRAINED == 1 && t.rd F.SEAM_STATUS.STATE == 3 &&
    t.seam.retrainAt == 1030 && fltEvents t == [10 * 2 ^ 58 + 3 * 2 ^ 16]) = true ∧ noEffect (.rejoinRetrain true) ((seamIn 3 (fun x => { x with retrainAt := 6 })).wr F.STITCH_COUNT.COUNT 1029) = true ∧ noEffect (.rejoinRetrain true) opened = true := by decide +kernel
theorem test_retrain_command : okAfter (.retrain true) ((seamIn 3 (fun x => { x with downAB := true })).wr F.SEAM_CMD.RETRAIN 1 |>.wr F.SEAM_CFG.AUTO_REJOIN 1) (fun t => t.rd F.SEAM_CMD.RETRAIN == 0 && t.rd F.SEAM_STATUS.TRAINED == 1 && t.rd F.SEAM_CMD.REJOIN == 1) = true ∧
    okAfter (.retrain true) (opened.wr F.SEAM_CMD.RETRAIN 1) (fun t => t.rd F.SEAM_CMD.RETRAIN == 0 && t.rd F.SEAM_STATUS.TRAINED == 0) = true ∧ noEffect (.retrain true) opened = true := by decide +kernel
def rejoinAsked (st tr alive : Nat) : State := (((seamIn st id).wr F.SEAM_CMD.REJOIN 1).wr F.SEAM_STATUS.TRAINED tr).wr F.SEAM_STATUS.WITNESS_ALIVE alive
def rejoinRefusedWith (s : State) (c : Nat) : Bool := okAfter .rejoin s (fun t => t.rd F.SEAM_CMD.REFUSED == 1 && t.rd F.SEAM_CMD.CAUSE == c && t.rd F.SEAM_CMD.REJOIN == 0 && t.seam == s.seam)
theorem test_rejoin : rejoinRefusedWith (rejoinAsked 2 1 1) 1 = true ∧ rejoinRefusedWith (rejoinAsked 3 0 1) 2 = true ∧ rejoinRefusedWith (rejoinAsked 3 1 0) 3 = true ∧
    okAfter .rejoin (rejoinAsked 3 1 1) (fun t => t.rd F.SEAM_STATUS.STATE == 4 && t.outs == [.witness 0 4 0] && t.seam.wire == [(4, 0)]) = true ∧ noEffect .rejoin (rejoinAsked 4 1 1) = true ∧ noEffect .halfReset (rejoinAsked 4 1 1) = true := by decide +kernel
theorem test_rejoin_done : okAfter .rejoinDone (seamIn 4 (fun x => { x with resetDone := true })) (fun t => t.rd F.SEAM_STATUS.STATE == 0 && t.rd F.SEAM_STATUS.TRAINED == 0 && fltEvents t == [11 * 2 ^ 58 + 3 * 2 ^ 16] && !t.seam.resetDone) = true ∧
    noEffect .rejoinDone (seamIn 4 id) = true ∧ noEffect .rejoinDone ((seamIn 4 (fun x => { x with resetDone := true })).wr (F.MEM_CH_STATUS.STATE 9) 3) = true ∧
    noEffect .rejoinDone ((seamIn 4 (fun x => { x with resetDone := true, storage := [400] })).wr (F.MULE_ROLE.REQ 25 0) 1) = true := by decide +kernel

/-- A position's errors so far: their count and the start of their window. -/
def counted (k pos c w : Nat) : State := opened.setFlt { opened.flt with counts := [(2048 * k + pos, (c, w))] }
/-- N of class 0 is 3, in a window of 2^20 stitches. -/
theorem test_transient : okAfter (.errorReport 0 5 0 false none) (counted 0 5 1 0) (fun t => t.rd F.FAULT_STAT.TRANSIENT.CNT == 1 && t.flt.counts == [(5, (2, 0))] && t.repairs == []) = true ∧
    okAfter (.errorReport 0 5 0 false none) ((counted 0 5 2 0).wr F.STITCH_COUNT.COUNT (2 ^ 20)) (fun t => t.flt.counts == [(5, (1, 2 ^ 20))] && t.rd F.FAULT_STAT.TRANSIENT.CNT == 1) = true ∧
    noEffect (.errorReport 0 816 0 false none) opened = true ∧ noEffect (.errorReport 8 0 0 false none) opened = true := by decide +kernel
theorem test_permanent_spindle : okAfter (.errorReport 0 22 0 false none) ((counted 0 22 2 0).wr F.STITCH_COUNT.COUNT (2 ^ 20 - 1)) (fun t => t.repairs == [(0, 22)] && t.rd F.FAULT_STAT.PERMANENT.CNT == 1 && fltEvents t == [2 ^ 58 + 22] &&
    t.flt.swaps.map (fun x => (x.pos, x.sp, x.spare, x.copied)) == [(22, 21, true, false)] && t.flt.spared == [(1, 5)] && t.rd F.FAULT_SPARE.SPINDLE == 47) = true := by decide +kernel
theorem test_permanent_engine : okAfter (.errorReport 1 140 0 false none) (atTime (counted 1 140 3 0) 7) (fun t => t.rd (F.CIPHER_ENGPOS.STATE 140) == 2 && t.flt.engines == [(140, 7)] && t.repairs == [(1, 140)]) = true := by decide +kernel
theorem test_permanent_lane : okAfter (.errorReport 2 3 0 false none) ((counted 2 3 3 0).wr F.STITCH_COUNT.COUNT 9) (fun t => t.flt.lanes == [(3, 9)]) = true := by decide +kernel
theorem test_permanent_seam : okAfter (.errorReport 3 19 0 false none) (counted 3 19 255 0) (fun t => t.rd F.SEAM_LANES.RETIRED_BA == 2 && t.rd F.SEAM_STATUS.STATE == 1 && t.seam.swapping == [19]) = true ∧
    okAfter (.errorReport 3 19 0 false none) ((counted 3 19 255 0).wr F.SEAM_LANES.RETIRED_BA 0xC) (fun t => t.seam.swapping == [] && t.rd F.FAULT_STAT.UNSPARED.CNT == 1) = true := by decide +kernel
theorem test_permanent_again : okAfter (.errorReport 2 3 0 false none) { counted 2 3 3 0 with repairs := [(2, 3)] } (fun t => t.repairs == [(2, 3)] && t.flt.lanes == [] && t.rd F.FAULT_STAT.PERMANENT.CNT == 1) = true := by decide +kernel
theorem test_sram : okAfter (.errorReport 6 9 100 true none) opened (fun t => t.flt.sram == [(9, [(100, 0)])] && t.rd F.FAULT_STAT.SOFT_REPAIRS.CNT == 1) = true ∧
    okAfter (.errorReport 6 9 100 true (some 22)) (opened.setFlt { opened.flt with sram := [(9, [(1, 0), (2, 1)])] }) (fun t => t.flt.sram == [(9, [(1, 0), (2, 1)])] && t.repairs == [(0, 22)]) = true := by decide +kernel
theorem test_cobbler_degraded : okAfter (.errorReport 7 0 0 false none) (counted 7 0 2 0) (fun t => t.rd F.FAULT_SPARE.COBBLER_DEGRADED == 1) = true := by decide +kernel
theorem test_codeword : okAfter (.errorReport 4 9 0 false none) opened (fun t => t.rd (F.ETH_STAT.FEC_UNCORR.CNT 8) == 1 && t.rd F.FAULT_STAT.TRANSIENT.CNT == 1) = true := by decide +kernel
def injecting (dbg : Bool) (k pos : Nat) : State :=
  let s := ((opened.wr F.FAULT_INJECT.GO 1).wr F.FAULT_INJECT.CLASS k).wr F.FAULT_INJECT.POSITION pos
  { s with cob := { s.cob with debugOpen := dbg } }
theorem test_inject : okAfter .faultInject (injecting true 2 3) (fun t => t.rd F.FAULT_INJECT.GO == 0 && t.rd F.FAULT_STAT.TRANSIENT.CNT == 1) = true ∧ okAfter .faultInject (injecting false 2 3) (fun t => t.rd F.FAULT_INJECT.GO == 0 && t.rd F.FAULT_STAT.TRANSIENT.CNT == 0) = true ∧
    okAfter .faultInject ((injecting true 2 3).wr (F.FAULT_CLASS.N 2) 0) (fun t => fltEvents t == [2 ^ 58 + 2 ^ 49 + 2 * 2 ^ 16 + 3]) = true ∧ noEffect .faultInject opened = true := by decide +kernel
def swapping (spare copied : Bool) (n : Nat) : State :=
  let s := ((opened.setTs 168 2).setTs 169 1).wr F.STITCH_COUNT.COUNT n
  { s with flt := { s.flt with swaps := [⟨22, 21, 10, 0, spare, copied⟩], spared := [(1, 5)], stopped := if copied then [(168, 2)] else [] }, repairs := [(0, 22)] }
theorem test_swap_drain : okAfter (.spindleSwapDrain 21) (swapping true false 12) (fun t => t.ts 168 == tsHalt && AMap.get? t.flt.stopped 168 == some 2 && t.flt.swaps.map (fun x => x.copied) == [true]) = true ∧
    noEffect (.spindleSwapDrain 21) (swapping true false 11) = true ∧ noEffect (.spindleSwapDrain 22) (swapping true false 12) = true ∧
    okAfter (.spindleSwapDrain 21) (swapping false false 12) (fun t => t.role 21 == 4 && t.ts 168 == tsOff && t.flt.swaps == [] && t.rd F.FAULT_STAT.UNSPARED.CNT == 1 && fltEvents t == [3 * 2 ^ 58 + 22]) = true := by decide +kernel
theorem test_swap_complete : okAfter (.spindleSwapComplete 21) (swapping true true 13) (fun t => t.ts 168 == 2 && t.flt.swaps == [] && t.rd (F.MULE_ROLE.PHYS 1 5) == 16 && t.rd (F.MULE_POS.STATE 1 16) == 0 && t.rd (F.MULE_POS.LOGICAL 1 16) == 5 &&
    t.rd (F.MULE_POS.STATE 1 5) == 2 && t.rd F.FAULT_STAT.SWAPS.CNT == 1 && fltEvents t == [2 * 2 ^ 58 + 22]) = true ∧ noEffect (.spindleSwapComplete 21) (swapping true true 12) = true := by decide +kernel
theorem test_spare_engine : okAfter (.spareEngineEnable 140) (opened.setFlt { opened.flt with engines := [(140, 0)] }) (fun t => t.rd (F.CIPHER_ENGPOS.STATE 264) == 0 && t.rd F.FAULT_SPARE.CIPHER == 31 && t.flt.engines == [] && fltEvents t == [2 * 2 ^ 58 + 2 ^ 16 + 140]) = true ∧
    noEffect (.spareEngineEnable 140) opened = true := by decide +kernel
def laneRuled (l n : Nat) : State := (opened.setFlt { opened.flt with lanes := [(l, 9)] }).wr F.STITCH_COUNT.COUNT n
theorem test_lane_retire : okAfter (.cardLaneRetire 3) (laneRuled 3 10) (fun t => t.rd (F.CARD_LANE.STATE 3) == 2 && t.rd (F.CARD_LANE.STATE 4) == 0 && t.rd F.FAULT_SPARE.CARD == 1 && fltEvents t == [2 * 2 ^ 58 + 2 * 2 ^ 16 + 3]) = true ∧
    noEffect (.cardLaneRetire 3) (laneRuled 3 9) = true ∧ okAfter (.cardLaneRetire 4) (laneRuled 4 10) (fun t => t.rd (F.CARD_LANE.STATE 4) == 2 && t.rd F.FAULT_SPARE.CARD == 1 && fltEvents t == []) = true ∧
    okAfter (.cardLaneRetire 3) ((laneRuled 3 10).wr (F.CARD_LANE.STATE 4) 2) (fun t => t.rd F.FAULT_STAT.UNSPARED.CNT == 1) = true := by decide +kernel
theorem test_wear_early : noEffect (.wearSample []) (opened.wr F.STITCH_COUNT.COUNT (2 ^ 20 - 1)) = true := by decide +kernel
/-- WATCH is 50 and RETIRE 80 at reset. -/
theorem test_grades : opened.newGrade 2 3 49 = 0 ∧ opened.newGrade 2 3 50 = 1 ∧ opened.newGrade 2 3 80 = 2 ∧ { opened with repairs := [(2, 3)] }.newGrade 2 3 0 = 3 := by decide +kernel

/-! ### Power (chapter 14) -/

def dirty : State :=
  let s := (((State.reset.wr F.COBBLER_BOOT_STATUS.TRIES 3).wr F.POWER_RESET_CAUSE.CLOCK 1).wr F.PTP_NS.NS 9)
  { s with mem := [⟨5, 7⟩], cob := { s.cob with revoked := [1], failed := [0] }, flash := [⟨9, 1⟩] }
theorem test_power_reset : okAfter (.powerReset (.powerUp false) 0) (atTime dirty 77) (fun t => t.rd F.COBBLER_BOOT_STATUS.TRIES == 3 && t.rd F.POWER_RESET_CAUSE.CLOCK == 1 && t.rd F.PTP_NS.NS == 0 && t.mem == [] &&
    t.cob.revoked == [1] && t.cob.failed == [] && t.flash == [⟨9, 1⟩] && t.pwr.resetEnd == 77 && t.clk.time == 77 && t.cob.boot.stage == .choosing) = true := by decide +kernel
theorem test_power_reset_lost : okAfter (.powerReset (.powerUp true) 0x4B) dirty (fun t => t.rd F.COBBLER_BOOT_STATUS.TRIES == 0 && t.rd F.POWER_RESET_CAUSE.CLOCK == 0 && t.rd F.POWER_STRAP.RESET_SCOPE == 1 && t.rd F.HOSTLINK_LINKCFG.BIFUR == 1) = true := by decide +kernel
theorem test_hot_reset : noEffect (.powerReset (.hotReset 0) 0) dirty = true ∧ okAfter (.powerReset (.hotReset 1) 1) (dirty.wr F.POWER_STRAP.RESET_SCOPE 1) (fun t => t.mem == [] && t.rd F.POWER_STRAP.RESET_SCOPE == 1) = true ∧
    noEffect (.powerReset (.hotReset 2) 1) (dirty.wr F.POWER_STRAP.RESET_SCOPE 1) = true ∧ noEffect (.powerReset (.hotReset 0) 1) ((dirty.wr F.POWER_STRAP.RESET_SCOPE 1).setBoot { dirty.cob.boot with stage := .held }) = true := by decide +kernel
theorem test_perst_full : okAfter (.powerReset (.perst 1) 1) (dirty.wr F.POWER_STRAP.RESET_SCOPE 1) (fun t => t.mem == [] && t.pwr.perst == [1]) = true ∧ okAfter (.powerReset (.perst 1) 1) dirty (fun t => t.mem == [⟨5, 7⟩] && t.pwr.perst == [1]) = true := by decide +kernel
def dark : State := { dirty with pwr := { dirty.pwr with pwrgd := false } }
theorem test_pwrgd : okAfter (.pwrgdRise false) (atTime dark 100) (fun t => t.held && t.pwr.pwrgd && t.pwr.roseAt == some 100 && t.mem == []) = true ∧ noEffect (.pwrgdRise false) dirty = true ∧
    okAfter .pwrgdFall dirty (fun t => t.held && !t.pwr.pwrgd && t.mem == [] && t.rd F.COBBLER_BOOT_STATUS.TRIES == 3) = true := by decide +kernel
def rising : State := { dark.setBoot { dark.cob.boot with stage := .held } with pwr := { dark.pwr with pwrgd := true, roseAt := some 100 } }
/-- 10 ms are 80,000,000 units. -/
theorem test_power_on : okAfter (.powerOnResetEnd 0) (atTime rising 80000100) (fun t => !t.held && t.pwr.roseAt == none && t.pwr.resetEnd == 80000100 && !t.pwr.xspiReset) = true ∧ noEffect (.powerOnResetEnd 0) (atTime rising 80000099) = true ∧
    noEffect (.powerOnResetEnd 0) dirty = true := by decide +kernel
theorem test_xspi : okAfter .xspiResetRelease (atTime dirty 8000000) (fun t => t.pwr.xspiReset) = true ∧ noEffect .xspiResetRelease (atTime dirty 7999999) = true := by decide +kernel
theorem test_brownout : okAfter (.railUndervolt 5) dirty (fun t => t.held && t.rd F.POWER_RESET_CAUSE.BROWNOUT == 1 && t.rd F.POWER_RESET_CAUSE.RAIL == 5 && t.mem == []) = true ∧ noEffect (.railUndervolt 6) dirty = true ∧
    noEffect (.railUndervolt 0) dark = true ∧ okAfter (.railUndervolt 0) rising (fun t => t.pwr.roseAt == none && t.held) = true ∧ okAfter .sysClkLoss dirty (fun t => t.held && t.rd F.POWER_RESET_CAUSE.CLOCK == 1) = true ∧ noEffect .sysClkLoss dark = true := by decide +kernel

/-- Readings in quarters of a degree: trip at 460, throttle at 400, release below 380. -/
def temps (c : Nat) : List Nat := c :: List.replicate 63 100
def rails : List Nat := List.replicate 6 750
theorem test_sensors : okAfter (.sensorRead (temps 399) rails 80) opened (fun t => t.rd (F.POWER_TEMP.TEMP 0) == 399 && t.rd (F.POWER_TEMP.PEAK 0) == 399 && t.rd F.POWER_TEMP_MAX.TEMP == 399 && t.rd F.POWER_TEMP_MAX.SENSOR == 0 && t.rd F.POWER_PKG.WATTS == 80 &&
    t.rd (F.POWER_RAIL.MV 5) == 750 && t.rd F.POWER_CLK.THROTTLE == 0 && t.pwr.coolFrom == none) = true := by decide +kernel
theorem test_throttle : okAfter (.sensorRead (temps 400) rails 80) opened (fun t => t.rd F.POWER_CLK.THROTTLE == 1 && t.rd F.POWER_STAT.THROTTLES.CNT == 1 && t.rd F.POWER_CLK.CUR == 0) = true := by decide +kernel
theorem test_cooling : okAfter (.sensorRead (temps 379) rails 80) ((opened.wr F.POWER_CLK.THROTTLE 1).wr F.STITCH_COUNT.COUNT 7) (fun t => t.pwr.coolFrom == some 7) = true := by decide +kernel
theorem test_trip : okAfter (.sensorRead (List.replicate 64 460) [] 80) opened (fun t => t.held && t.pwr.tripped && t.rd F.POWER_RESET_CAUSE.TRIP == 1) = true := by decide +kernel
def cooling (n : Nat) : State := ((opened.wr F.POWER_CLK.THROTTLE 1).setPwr { opened.pwr with coolFrom := some 7 }).wr F.STITCH_COUNT.COUNT n
theorem test_release_throttle : okAfter .throttleRelease (cooling (2 ^ 20 + 7)) (fun t => t.rd F.POWER_CLK.THROTTLE == 0 && t.pwr.releasedIn == some 16384) = true ∧ noEffect .throttleRelease (cooling (2 ^ 20 + 6)) = true ∧ noEffect .throttleRelease opened = true := by decide +kernel
theorem test_clock : okAfter .clockChange (atCycle ((opened.wr F.POWER_CLK.REDUCED 1).wr F.STITCH_PTP_CTRL.STATE 2) 5) (fun t => t.rd F.POWER_CLK.CUR == 1 && t.rd F.STITCH_PTP_CTRL.STATE == 1) = true ∧
    noEffect .clockChange (opened.wr F.POWER_CLK.REDUCED 1) = true ∧ noEffect .clockChange (atCycle ((opened.wr F.POWER_CLK.REDUCED 1).wr F.STITCH_COUNT.COUNT 63) 5) = true := by decide +kernel
/-- The 58 software domains are on at reset. -/
def domAsk (k : Nat) (on : Bool) : W64 := BitVec.ofNat 64 (2 ^ 58 - 1 - 2 ^ k + if on then 2 ^ k else 0)
theorem test_domain_off : okAfter (.domainSwitch (domAsk 5 false)) opened (fun t => t.rd F.POWER_DOM_CTRL.ON == 2 ^ 58 - 1 - 32 && t.switching 5 == some false && t.rd F.POWER_DOM_ERR.VALID == 0) = true ∧
    okAfter (.domainSwitch (domAsk 5 false)) (opened.wr (roleF 80) 1) (fun t => t.rd F.POWER_DOM_CTRL.ON == 2 ^ 58 - 1 && t.rd F.POWER_DOM_ERR.CAUSE == 1 && t.rd F.POWER_DOM_ERR.DOMAIN == 5 && t.switching 5 == none) = true := by decide +kernel
theorem test_domain_hw : okAfter (.domainSwitch (BitVec.ofNat 64 (2 ^ 58 - 1 + 2 ^ 58))) opened (fun t => t.rd F.POWER_DOM_ERR.VALID == 1 && t.rd F.POWER_DOM_ERR.CAUSE == 5 && t.rd F.POWER_DOM_ERR.DOMAIN == 58) = true := by decide +kernel
theorem test_domain_slots : okAfter (.domainSwitch (domAsk 52 false)) (opened.setSlot 1 4) (fun t => t.rd F.POWER_DOM_ERR.CAUSE == 3) = true ∧ okAfter (.domainSwitch (domAsk 56 false)) (opened.wr (F.ETH_PORT_CFG.EN 2) 1) (fun t => t.rd F.POWER_DOM_ERR.CAUSE == 4) = true := by decide +kernel
def switchingTo (k : Nat) (on : Bool) : State := let s := opened.wr F.POWER_DOM_STATUS.ON (if on then 2 ^ 58 - 1 - 2 ^ k else 2 ^ 58 - 1); s.setPwr { s.pwr with switching := [(k, on)] }
theorem test_domain_done : okAfter (.domainOffDone 5) (switchingTo 5 false) (fun t => t.rd F.POWER_DOM_STATUS.ON == 2 ^ 58 - 1 - 32 && t.switching 5 == none && t.rd F.POWER_STAT.DOM_SWITCHES.CNT == 1) = true ∧
    okAfter (.domainOnDone 5) (switchingTo 5 true) (fun t => t.rd F.POWER_DOM_STATUS.ON == 2 ^ 58 - 1 && t.switching 5 == none) = true ∧ noEffect (.domainOffDone 5) opened = true ∧ noEffect (.domainOnDone 5) opened = true := by decide +kernel

/-! ### Witnesses: concrete states that meet the named premises of statements -/

theorem head_sound_of {s : State} {ep : Nat} (h : (s.queueAt ep).head?.map (fun m => m.kind) ≠ some .poisoned) : s.headSound ep := by
  intro m rest e k
  simp [e, k] at h
theorem witness_headSound : (sessMsg gcmSession 4 5 []).headSound sessEp ∧ (toEngine (queues wq0 cq0) [2, 5]).headSound (queueEp 0) ∧
    (storeMsg holding 6 0 66 0 0 []).headSound (epUnit 3 0) := ⟨head_sound_of (by decide +kernel), head_sound_of (by decide +kernel), head_sound_of (by decide +kernel)⟩
theorem witness_reaches : (opened.setFstate 0 1).reaches .pf0 = true ∧ opened.reaches .cobbler = true := by decide +kernel
theorem witness_bobGood : State.reset.bobGood := fun _ => ⟨Nat.two_pow_pos 24, Nat.succ_pos 7, Nat.succ_pos 4095⟩
theorem witness_sessOffered : (sessAsked gcmSession 4 5 [] false).sessOffered none 4 5
    ((List.range 56).flatMap (fun k => toLE 4 ((sessAsked gcmSession 4 5 [] false).rd (F.CIPHER_SESS_DATA.W k)))) := by
  refine ⟨?_, ?_, ?_, rfl⟩ <;> decide +kernel
theorem witness_sessAllowed : gcmSession.sessAllowed none 4 5 [] := by unfold State.sessAllowed; decide +kernel
theorem witness_sessFree : gcmSession.sessFree 3 5 ∧ (slotsOn gcmSession).slotRoom 6 ∧ gcmSession.noJobMessages := by
  unfold State.sessFree State.slotRoom State.noJobMessages; decide +kernel
theorem witness_carvedWell : carved.carvedWell 0 0 ∧ carved.names 0 17 0 := by unfold State.carvedWell State.names; decide +kernel
theorem witness_volAsked : (volAsk (vol4 2) 1 4 []).volAsked 1 := by unfold State.volAsked; decide +kernel
theorem witness_weltAt : (begun onlineCtx (one 2) []).weltAt { one 2 with stage := .started } .started := by
  unfold State.weltAt State.swept; decide +kernel
theorem witness_startTurn : (starting onlineCtx 1 1 98 1024).startTurn (ioCmd 1 9 98 2 .numbered) (ioJob 1 1 98 1024 .unstarted) := by
  unfold State.startTurn State.weltAt State.swept; decide +kernel
theorem witness_pagesThere : (waitingCmd onlineCtx).pagesThere (ioCmd 2 9 10 9 .waiting) 2 := by unfold State.pagesThere; decide +kernel
/-- IDENTIFY of an admin queue on a link that is up. -/
def adminUp : State := (hostUp.wr F.WELT_CFG.EN 1).setWq 0 { adminWq with jobs := [adminJobOf 0x81 (body 1 4 0x6000) .unstarted] }
theorem witness_adminAt : adminUp.adminAt 0 0x81 { adminWq with jobs := [adminJobOf 0x81 (body 1 4 0x6000) .unstarted] }
    (adminJobOf 0x81 (body 1 4 0x6000) .unstarted) (ade 0x81 (body 1 4 0x6000)) where
  queue := by decide +kernel
  admin := by decide +kernel
  front := rfl
  stage := .inl rfl
  own := by decide
  opcode := rfl
  entry := rfl
  enabled := by decide +kernel
  host := by decide +kernel
  swept := by unfold State.swept; decide +kernel
theorem witness_txsLive : (eyWithTx (eyPeer (eyJob 1 64 0 .started) (eyWord 3 0 20 3 0)) (eyTx (.job 5 0))).txsLive := by unfold State.txsLive; decide +kernel
theorem witness_linkQuiet : (eySlot 4 true).linkQuiet 0 := by unfold State.linkQuiet; decide +kernel
theorem witness_noWork : fns.noWork 4 := by unfold State.noWork; decide +kernel
theorem witness_oneJob : (fnJob 4 (qjob 0 .unstarted)).oneJob 5 4 { wq0 with func := 4, pi := 1, fi := 1, jobs := [qjob 0 .unstarted] } (qjob 0 .unstarted)
    { cq0 with func := 4 } := by unfold State.oneJob; decide +kernel
theorem witness_bootAt : (configuring State.reset 32).bootAt (.config 32) := by unfold State.bootAt; decide +kernel
theorem witness_mboxIdle : opened.mboxIdle ∧ opened.assignable 1 1 ∧ opened.answersOn 1 false := by
  unfold State.mboxIdle State.assignable State.answersOn State.bootAt; decide +kernel
def journalled : State := { opened with cob := { opened.cob with journal := { opened.cob.journal with bank := some 0 } } }
theorem witness_canAppend : journalled.canAppend [⟨1, 0, toLE 4 0⟩] := by
  refine ⟨?_, ⟨0, rfl⟩, ?_, ?_, ?_⟩ <;> decide +kernel
theorem witness_admits : wq0.admits 16 ∧ { wq0 with compat := true }.admits 15 := by unfold Wq.admits; decide +kernel
theorem witness_soleReporter : (queues { wq0 with jobs := [qjob 0 .done] } cq0).soleReporter 5 7 := by
  intro m w hm hw
  have e : (queues { wq0 with jobs := [qjob 0 .done] } cq0).q.wqs = [(5, { wq0 with jobs := [qjob 0 .done] })] := by decide +kernel
  simp [e, hm] at hw

end Sys2Proof.Tests
end

section
/-! The queue of commands and the state after a POWER reset (O1, O3). -/

namespace Sys2Proof.Machine

open Sys2Proof

/-! ### The step -/

/-- With a command in front of the queue a step is that command on the queue's rest. -/
@[simp] theorem step_cons (s : State) (c : Instr) (rest : List Instr) :
    step { s with pending := c :: rest } = exec c { s with pending := rest } := rfl

/-- A word fetched from the table's bits queues nothing. -/
@[simp] theorem State.withFetchWord_eq (s : State) (nbits w : Nat) : s.withFetchWord nbits w = s := rfl

/-! ### The registers after reset -/

/-- An unlisted register holds its reset value, and none is listed after reset. -/
theorem State.reset_rd (f : FRef) : State.reset.rd f = bitsOf (resetVal f.addr).toNat f.hi f.lo := rfl

/-- The words that hold the states of the 6,144 threads begin with zero. -/
theorem resetVal_thrState : ∀ m < 48, ∀ l < 16, resetVal (F.MULE_THR_STATE.STATE m l).addr = 0#64 := by decide +kernel

/-- Every thread is OFF after reset (R81). -/
theorem State.reset_ts {tid : Nat} (h : tid < 6144) : State.reset.ts tid = tsOff := by
  have hcob : isCob tid = false := decide_eq_false (by rw [cobBase]; omega)
  have hword := resetVal_thrState (tid / 8 / 16) (by omega) (tid / 8 % 16) (by omega)
  simp only [State.ts, hcob, State.reset_rd]
  simp [thrStateF, muleOf, logOf, spOf, hword, bitsOf, tsOff]

/-- The event FIFOs are empty after reset, and their head registers show it. -/
theorem State.reset_fifos : ∀ q ∈ eventFifos, (State.reset.fifo q).entries = [] ∧ State.reset.word q.addr = 0 := by decide +kernel

end Sys2Proof.Machine

open Sys2Proof Sys2Proof.Machine

/-- Settles O1: a step runs the command in front of the queue, and no word of the table spells one. -/
theorem stepRunsFront : Obligations.StepRunsFront :=
  ⟨step_cons, fun s nbits w => ⟨rfl, s.withFetchWord_eq nbits w⟩⟩

/-- Settles O3, register by register; the words of the threads' states are taken together. -/
theorem resetValues : Obligations.ResetValues := by
  have gate : State.reset.rd F.COBBLER_BOOT_STATUS.GATE_OPEN = 0 := by decide +kernel
  have len : State.reset.rd F.STITCH_LEN.CUR = 1 := by decide +kernel
  have count : State.reset.rd F.STITCH_COUNT.COUNT = 0 := by decide +kernel
  have domains : State.reset.rd F.POWER_DOM_CTRL.ON = 2 ^ 58 - 1 ∧ State.reset.rd F.POWER_DOM_STATUS.ON = 2 ^ 58 - 1 := by decide +kernel
  have therm : State.reset.rd F.POWER_THERM_CFG.TRIP_T = 115 ∧ State.reset.rd F.POWER_THERM_CFG.THROTTLE_T = 100 := by decide +kernel
  have device : State.reset.rd F.GLOBAL_DEVICE_ID.DEVICE = 0x0960 := by decide +kernel
  have stitch : State.reset.stitchLen = 2048 := by rw [State.stitchLen, len]; rfl
  exact ⟨len, stitch, count, gate, rfl, fun _ => rfl, fun _ _ _ => rfl, fun _ h => State.reset_ts h, domains.1, domains.2, therm.1, therm.2,
    device, State.reset_fifos, rfl, rfl, rfl, rfl, rfl, rfl⟩
end

section
/-! Every command answers with a next state (O2). A command whose meaning branches answers so in each branch, which is a lemma per command;
the others name their next state at once. -/

namespace Sys2Proof.Machine

open Sys2Proof

/-- The outcome is a next state: neither a fault nor a refusal. -/
def Answers (o : Host.Outcome State Fault Refusal) : Prop := ∃ t, o = .next t

theorem answers_next (t : State) : Answers (.next t) := ⟨t, rfl⟩

/-- A binding answers or stays silent; the state after either is a next state. -/
theorem answering_answers (s : State) (b : Nat) (recovery : Bool) (k : State → State) : Answers (s.answering b recovery k) := by
  fun_cases State.answering s b recovery k <;> exact answers_next _

/-! ### Reservations (chapter 02) -/

@[simp] theorem execReservationExpiry_answers (tid : Nat) (s : State) : Answers (execReservationExpiry tid s) := by
  fun_cases execReservationExpiry tid s <;> exact answers_next _

/-! ### The stitch and the lacing (chapter 01) -/

@[simp] theorem execTurnStart_answers (s : State) : Answers (execTurnStart s) := by
  fun_cases execTurnStart s <;> exact answers_next _
@[simp] theorem execLacingPeriodBoundary_answers (s : State) : Answers (execLacingPeriodBoundary s) := by
  fun_cases execLacingPeriodBoundary s <;> exact answers_next _
@[simp] theorem execStitchLenApply_answers (s : State) : Answers (execStitchLenApply s) := by
  fun_cases execStitchLenApply s <;> exact answers_next _

/-! ### Ethernet ports and PFC (chapter 04) -/

@[simp] theorem execPortLinkUp_answers (p : Nat) (s : State) : Answers (execPortLinkUp p s) := by
  fun_cases execPortLinkUp p s <;> exact answers_next _
@[simp] theorem execPortLinkDown_answers (p : Nat) (s : State) : Answers (execPortLinkDown p s) := by
  fun_cases execPortLinkDown p s <;> exact answers_next _
@[simp] theorem execPfcXoffResend_answers (p q : Nat) (s : State) : Answers (execPfcXoffResend p q s) := by
  fun_cases execPfcXoffResend p q s <;> exact answers_next _
@[simp] theorem execPfcFrameReceived_answers (p : Nat) (frame : List Byte) (s : State) : Answers (execPfcFrameReceived p frame s) := by
  fun_cases execPfcFrameReceived p frame s <;> exact answers_next _
@[simp] theorem execFrameReceived_answers (p : Nat) (frame : List Byte) (fcsOk : Bool) (corrected : Nat) (s : State) :
    Answers (execFrameReceived p frame fcsOk corrected s) := by
  fun_cases execFrameReceived p frame fcsOk corrected s <;> exact answers_next _

/-! ### The Last (chapter 04) -/

@[simp] theorem execFctxFill_answers (k : Nat) (s : State) : Answers (execFctxFill k s) := by
  fun_cases execFctxFill k s <;> exact answers_next _
@[simp] theorem execLastUpdateDone_answers (s : State) : Answers (execLastUpdateDone s) := by
  fun_cases execLastUpdateDone s <;> exact answers_next _

/-! ### The Card lanes (chapter 04) -/

@[simp] theorem execCardSwap_answers (s : State) : Answers (execCardSwap s) := by
  fun_cases execCardSwap s <;> exact answers_next _
@[simp] theorem execCardAdmission_answers (lane : Nat) (s : State) : Answers (execCardAdmission lane s) := by
  fun_cases execCardAdmission lane s <;> exact answers_next _
@[simp] theorem execParseEnd_answers (id : Nat) (s : State) : Answers (execParseEnd id s) := by
  fun_cases execParseEnd id s <;> exact answers_next _
@[simp] theorem execPreDispatchWaitEnd_answers (id : Nat) (back0 back1 : Bool) (s : State) : Answers (execPreDispatchWaitEnd id back0 back1 s) := by
  fun_cases execPreDispatchWaitEnd id back0 back1 s <;> exact answers_next _
@[simp] theorem execFlowHoldRelease_answers (k : Nat) (s : State) : Answers (execFlowHoldRelease k s) := by
  fun_cases execFlowHoldRelease k s <;> exact answers_next _
@[simp] theorem execControlReinjection_answers (h : Nat) (s : State) : Answers (execControlReinjection h s) := by
  fun_cases execControlReinjection h s <;> exact answers_next _

/-! ### PTP, PPS and the stitch boundary (chapters 01 and 04) -/

@[simp] theorem execPpsOutRise_answers (s : State) : Answers (execPpsOutRise s) := by
  fun_cases execPpsOutRise s <;> exact answers_next _
@[simp] theorem execPpsOutFall_answers (s : State) : Answers (execPpsOutFall s) := by
  fun_cases execPpsOutFall s <;> exact answers_next _
@[simp] theorem execPpsInEdge_answers (s : State) : Answers (execPpsInEdge s) := by
  fun_cases execPpsInEdge s <;> exact answers_next _
@[simp] theorem execStitchBoundary_answers (s : State) : Answers (execStitchBoundary s) := by
  fun_cases execStitchBoundary s <;> exact answers_next _

/-! ### The egress scheduler (chapter 04) -/

@[simp] theorem execEgressFrameStart_answers (p : Nat) (s : State) : Answers (execEgressFrameStart p s) := by
  fun_cases execEgressFrameStart p s <;> exact answers_next _
@[simp] theorem execShaperRefill_answers (s : State) : Answers (execShaperRefill s) := by
  fun_cases execShaperRefill s <;> exact answers_next _
@[simp] theorem execEthHalfApply_answers (h : Nat) (s : State) : Answers (execEthHalfApply h s) := by
  fun_cases execEthHalfApply h s <;> exact answers_next _

/-! ### MSI-X and INTx (chapter 09) -/

@[simp] theorem execMsixTableWrite_answers (f x w : Nat) (v : W32) (s : State) : Answers (execMsixTableWrite f x w v s) := by
  fun_cases execMsixTableWrite f x w v s <;> exact answers_next _
@[simp] theorem execIntxClear_answers (f : Nat) (s : State) : Answers (execIntxClear f s) := by
  fun_cases execIntxClear f s <;> exact answers_next _

/-! ### Queues and doorbells (chapter 06) -/

@[simp] theorem execInterruptModTimer_answers (n : Nat) (s : State) : Answers (execInterruptModTimer n s) := by
  fun_cases execInterruptModTimer n s <;> exact answers_next _
@[simp] theorem execCqStall_answers (n : Nat) (s : State) : Answers (execCqStall n s) := by
  fun_cases execCqStall n s <;> exact answers_next _
@[simp] theorem execJobComplete_answers (n first : Nat) (s : State) : Answers (execJobComplete n first s) := by
  fun_cases execJobComplete n first s <;> exact answers_next _
@[simp] theorem execWqDoorbell_answers (f k : Nat) (v : W32) (s : State) : Answers (execWqDoorbell f k v s) := by
  fun_cases execWqDoorbell f k v s <;> exact answers_next _
@[simp] theorem execCqDoorbell_answers (f k : Nat) (v : W32) (s : State) : Answers (execCqDoorbell f k v s) := by
  fun_cases execCqDoorbell f k v s <;> exact answers_next _
@[simp] theorem execCqArm_answers (f k : Nat) (v : W32) (s : State) : Answers (execCqArm f k v s) := by
  fun_cases execCqArm f k v s <;> exact answers_next _
@[simp] theorem execDoorbellDiscard_answers (f off size : Nat) (write : Bool) (s : State) : Answers (execDoorbellDiscard f off size write s) := by
  fun_cases execDoorbellDiscard f off size write s <;> exact answers_next _

/-! ### Fetching and queue messages (chapter 06) -/

@[simp] theorem execWqeFetch_answers (h : Nat) (dev : Bool) (g : Nat) (s : State) : Answers (execWqeFetch h dev g s) := by
  fun_cases execWqeFetch h dev g s <;> exact answers_next _
@[simp] theorem execFetchComplete_answers (n : Nat) (s : State) : Answers (execFetchComplete n s) := by
  fun_cases execFetchComplete n s <;> exact answers_next _
@[simp] theorem execNetRxRecv_answers (n first : Nat) (s : State) : Answers (execNetRxRecv n first s) := by
  fun_cases execNetRxRecv n first s <;> exact answers_next _
@[simp] theorem execMsgDeliver_answers (n : Nat) (s : State) : Answers (execMsgDeliver n s) := by
  fun_cases execMsgDeliver n s <;> exact answers_next _
@[simp] theorem execMsgCompletion_answers (h : Nat) (s : State) : Answers (execMsgCompletion h s) := by
  fun_cases execMsgCompletion h s <;> exact answers_next _
@[simp] theorem execCqCiMessage_answers (h : Nat) (s : State) : Answers (execCqCiMessage h s) := by
  fun_cases execCqCiMessage h s <;> exact answers_next _

/-! ### Queue commands (chapter 06) -/

@[simp] theorem execSched_answers (f : Nat) (s : State) : Answers (execSched f s) := by
  fun_cases execSched f s <;> exact answers_next _
@[simp] theorem execQuery_answers (f : Nat) (s : State) : Answers (execQuery f s) := by
  fun_cases execQuery f s <;> exact answers_next _

/-! ### Eyelet ports (chapter 10) -/

@[simp] theorem execCompletionTimeout_answers (port : Option Nat) (tag : Nat) (s : State) : Answers (execCompletionTimeout port tag s) := by
  fun_cases execCompletionTimeout port tag s <;> exact answers_next _
@[simp] theorem execTagQuarantineEnd_answers (port : Option Nat) (tag : Nat) (s : State) : Answers (execTagQuarantineEnd port tag s) := by
  fun_cases execTagQuarantineEnd port tag s <;> exact answers_next _
@[simp] theorem execCompletionArrival_answers (port : Option Nat) (tag : Nat) (st : CplStatus) (data : List Byte) (s : State) :
    Answers (execCompletionArrival port tag st data s) := by
  fun_cases execCompletionArrival port tag st data s <;> exact answers_next _
@[simp] theorem execWinCommit_answers (p : Nat) (s : State) : Answers (execWinCommit p s) := by
  fun_cases execWinCommit p s <;> exact answers_next _
@[simp] theorem execWindowSwap_answers (p : Nat) (s : State) : Answers (execWindowSwap p s) := by
  fun_cases execWindowSwap p s <;> exact answers_next _
@[simp] theorem execDrainLimit_answers (p : Nat) (s : State) : Answers (execDrainLimit p s) := by
  fun_cases execDrainLimit p s <;> exact answers_next _
@[simp] theorem execInboundRequest_answers (l : Nat) (own mem write : Bool) (addr len tag : Nat) (data : List Byte) (s : State) :
    Answers (execInboundRequest l own mem write addr len tag data s) := by
  fun_cases execInboundRequest l own mem write addr len tag data s <;> exact answers_next _
@[simp] theorem execInboundMem_answers (l : Nat) (s : State) : Answers (execInboundMem l s) := by
  fun_cases execInboundMem l s <;> exact answers_next _
@[simp] theorem execInboundDoorbell_answers (l : Nat) (s : State) : Answers (execInboundDoorbell l s) := by
  fun_cases execInboundDoorbell l s <;> exact answers_next _
@[simp] theorem execInboundNotify_answers (l : Nat) (s : State) : Answers (execInboundNotify l s) := by
  fun_cases execInboundNotify l s <;> exact answers_next _

/-! ### Cipher engines (chapter 05) -/

@[simp] theorem execCipherJobAdmit_answers (id : Nat) (s : State) : Answers (execCipherJobAdmit id s) := by
  fun_cases execCipherJobAdmit id s <;> exact answers_next _
@[simp] theorem execCipherJobStart_answers (u : Nat) (s : State) : Answers (execCipherJobStart u s) := by
  fun_cases execCipherJobStart u s <;> exact answers_next _
@[simp] theorem execCipherBlockDone_answers (u : Nat) (err : Bool) (s : State) : Answers (execCipherBlockDone u err s) := by
  fun_cases execCipherBlockDone u err s <;> exact answers_next _
@[simp] theorem execCipherJobComplete_answers (id : Nat) (s : State) : Answers (execCipherJobComplete id s) := by
  fun_cases execCipherJobComplete id s <;> exact answers_next _
@[simp] theorem execSessionUnwrap_answers (i : Nat) (s : State) : Answers (execSessionUnwrap i s) := by
  fun_cases execSessionUnwrap i s <;> exact answers_next _
@[simp] theorem execSessionOpDone_answers (i : Nat) (s : State) : Answers (execSessionOpDone i s) := by
  fun_cases execSessionOpDone i s <;> exact answers_next _

/-! ### The Welt block interface (chapter 08) -/

@[simp] theorem execCommandStart_answers (id : Nat) (s : State) : Answers (execCommandStart id s) := by
  fun_cases execCommandStart id s <;> exact answers_next _
@[simp] theorem execWbufReserve_answers (id : Nat) (s : State) : Answers (execWbufReserve id s) := by
  fun_cases execWbufReserve id s <;> exact answers_next _
@[simp] theorem execWrite_answers (n first : Nat) (s : State) : Answers (execWrite n first s) := by
  fun_cases execWrite n first s <;> exact answers_next _
@[simp] theorem execVersionVisible_answers (id : Nat) (s : State) : Answers (execVersionVisible id s) := by
  fun_cases execVersionVisible id s <;> exact answers_next _
@[simp] theorem execWriteZeroes_answers (n first : Nat) (s : State) : Answers (execWriteZeroes n first s) := by
  fun_cases execWriteZeroes n first s <;> exact answers_next _
@[simp] theorem execReadResolve_answers (id : Nat) (s : State) : Answers (execReadResolve id s) := by
  fun_cases execReadResolve id s <;> exact answers_next _
@[simp] theorem execRead_answers (n first : Nat) (s : State) : Answers (execRead n first s) := by
  fun_cases execRead n first s <;> exact answers_next _
@[simp] theorem execCompare_answers (n first : Nat) (s : State) : Answers (execCompare n first s) := by
  fun_cases execCompare n first s <;> exact answers_next _
@[simp] theorem execBackingIssue_answers (id m : Nat) (s : State) : Answers (execBackingIssue id m s) := by
  fun_cases execBackingIssue id m s <;> exact answers_next _
@[simp] theorem execFlushIssue_answers (id : Nat) (s : State) : Answers (execFlushIssue id s) := by
  fun_cases execFlushIssue id s <;> exact answers_next _
@[simp] theorem execBackingCompletion_answers (id k status : Nat) (data : List Byte) (s : State) :
    Answers (execBackingCompletion id k status data s) := by
  fun_cases execBackingCompletion id k status data s <;> exact answers_next _
@[simp] theorem execBackingTimeout_answers (id k : Nat) (s : State) : Answers (execBackingTimeout id k s) := by
  fun_cases execBackingTimeout id k s <;> exact answers_next _
@[simp] theorem execFreeze_answers (n : Nat) (s : State) : Answers (execFreeze n s) := by
  fun_cases execFreeze n s <;> exact answers_next _
@[simp] theorem execVolSet_answers (s : State) : Answers (execVolSet s) := by
  fun_cases execVolSet s <;> exact answers_next _
@[simp] theorem execVolOnline_answers (s : State) : Answers (execVolOnline s) := by
  fun_cases execVolOnline s <;> exact answers_next _
@[simp] theorem execVolOffline_answers (s : State) : Answers (execVolOffline s) := by
  fun_cases execVolOffline s <;> exact answers_next _
@[simp] theorem execVolOfflineDone_answers (v : Nat) (s : State) : Answers (execVolOfflineDone v s) := by
  fun_cases execVolOfflineDone v s <;> exact answers_next _
@[simp] theorem execVolRead_answers (s : State) : Answers (execVolRead s) := by
  fun_cases execVolRead s <;> exact answers_next _
@[simp] theorem execVolDelete_answers (s : State) : Answers (execVolDelete s) := by
  fun_cases execVolDelete s <;> exact answers_next _
@[simp] theorem execConnSet_answers (s : State) : Answers (execConnSet s) := by
  fun_cases execConnSet s <;> exact answers_next _
@[simp] theorem execConnUp_answers (s : State) : Answers (execConnUp s) := by
  fun_cases execConnUp s <;> exact answers_next _
@[simp] theorem execConnectionUpDone_answers (c : Nat) (ok : Bool) (s : State) : Answers (execConnectionUpDone c ok s) := by
  fun_cases execConnectionUpDone c ok s <;> exact answers_next _
@[simp] theorem execConnDown_answers (s : State) : Answers (execConnDown s) := by
  fun_cases execConnDown s <;> exact answers_next _
@[simp] theorem execConnRead_answers (s : State) : Answers (execConnRead s) := by
  fun_cases execConnRead s <;> exact answers_next _
@[simp] theorem execKeepAlive_answers (c : Nat) (answered : Bool) (s : State) : Answers (execKeepAlive c answered s) := by
  fun_cases execKeepAlive c answered s <;> exact answers_next _
@[simp] theorem execConnectionDown_answers (c : Nat) (tcp : Bool) (s : State) : Answers (execConnectionDown c tcp s) := by
  fun_cases execConnectionDown c tcp s <;> exact answers_next _
@[simp] theorem execIdentify_answers (n : Nat) (s : State) : Answers (execIdentify n s) := by
  fun_cases execIdentify n s <;> exact answers_next _
@[simp] theorem execGetLog_answers (n : Nat) (s : State) : Answers (execGetLog n s) := by
  fun_cases execGetLog n s <;> exact answers_next _
@[simp] theorem execGetFeature_answers (n : Nat) (s : State) : Answers (execGetFeature n s) := by
  fun_cases execGetFeature n s <;> exact answers_next _
@[simp] theorem execCoalesce_answers (n : Nat) (s : State) : Answers (execCoalesce n s) := by
  fun_cases execCoalesce n s <;> exact answers_next _
@[simp] theorem execVolumeWbuf_answers (n : Nat) (s : State) : Answers (execVolumeWbuf n s) := by
  fun_cases execVolumeWbuf n s <;> exact answers_next _
@[simp] theorem execVolumeState_answers (n : Nat) (s : State) : Answers (execVolumeState n s) := by
  fun_cases execVolumeState n s <;> exact answers_next _
@[simp] theorem execWeltAbort_answers (n : Nat) (s : State) : Answers (execWeltAbort n s) := by
  fun_cases execWeltAbort n s <;> exact answers_next _
@[simp] theorem execQueueCreate_answers (n : Nat) (s : State) : Answers (execQueueCreate n s) := by
  fun_cases execQueueCreate n s <;> exact answers_next _
@[simp] theorem execQueueDelete_answers (n : Nat) (s : State) : Answers (execQueueDelete n s) := by
  fun_cases execQueueDelete n s <;> exact answers_next _
@[simp] theorem execAdminQueueRestart_answers (n : Nat) (s : State) : Answers (execAdminQueueRestart n s) := by
  fun_cases execAdminQueueRestart n s <;> exact answers_next _
@[simp] theorem execQueueAbort_answers (f : Nat) (s : State) : Answers (execQueueAbort f s) := by
  fun_cases execQueueAbort f s <;> exact answers_next _
@[simp] theorem execQueueAbortSquash_answers (n : Nat) (s : State) : Answers (execQueueAbortSquash n s) := by
  fun_cases execQueueAbortSquash n s <;> exact answers_next _

/-! ### Eyelet slots (chapter 10) -/

@[simp] theorem execPresenceDetect_answers (l : Nat) (s : State) : Answers (execPresenceDetect l s) := by
  fun_cases execPresenceDetect l s <;> exact answers_next _
@[simp] theorem execPresenceLoss_answers (l : Nat) (s : State) : Answers (execPresenceLoss l s) := by
  fun_cases execPresenceLoss l s <;> exact answers_next _
@[simp] theorem execPwrOffPowerDrop_answers (l : Nat) (s : State) : Answers (execPwrOffPowerDrop l s) := by
  fun_cases execPwrOffPowerDrop l s <;> exact answers_next _
@[simp] theorem execSlotPowerStable_answers (l : Nat) (s : State) : Answers (execSlotPowerStable l s) := by
  fun_cases execSlotPowerStable l s <;> exact answers_next _
@[simp] theorem execPowerFault_answers (l : Nat) (s : State) : Answers (execPowerFault l s) := by
  fun_cases execPowerFault l s <;> exact answers_next _
@[simp] theorem execAttentionButton_answers (l : Nat) (s : State) : Answers (execAttentionButton l s) := by
  fun_cases execAttentionButton l s <;> exact answers_next _
@[simp] theorem execAttnRequest_answers (l : Nat) (s : State) : Answers (execAttnRequest l s) := by
  fun_cases execAttnRequest l s <;> exact answers_next _
@[simp] theorem execEyeletLinkUp_answers (l : Nat) (flit : Bool) (speed width : Nat) (s : State) :
    Answers (execEyeletLinkUp l flit speed width s) := by
  fun_cases execEyeletLinkUp l flit speed width s <;> exact answers_next _
@[simp] theorem execEnumerationDone_answers (l : Nat) (ok : Bool) (vendor device : Nat) (bars : List Nat) (s : State) :
    Answers (execEnumerationDone l ok vendor device bars s) := by
  fun_cases execEnumerationDone l ok vendor device bars s <;> exact answers_next _
@[simp] theorem execTrainingTimeout_answers (l : Nat) (s : State) : Answers (execTrainingTimeout l s) := by
  fun_cases execTrainingTimeout l s <;> exact answers_next _
@[simp] theorem execEyeletLinkDown_answers (l : Nat) (s : State) : Answers (execEyeletLinkDown l s) := by
  fun_cases execEyeletLinkDown l s <;> exact answers_next _
@[simp] theorem execAerUncorrectable_answers (l : Nat) (s : State) : Answers (execAerUncorrectable l s) := by
  fun_cases execAerUncorrectable l s <;> exact answers_next _

/-! ### Functions, resets of the host and aborts (chapter 09) -/

@[simp] theorem execFlr_answers (f : Nat) (s : State) : Answers (execFlr f s) := by
  fun_cases execFlr f s <;> exact answers_next _
@[simp] theorem execVfEnableWrite_answers (p : Nat) (en : Bool) (num : Nat) (s : State) : Answers (execVfEnableWrite p en num s) := by
  fun_cases execVfEnableWrite p en num s <;> exact answers_next _
@[simp] theorem execTeardownSquash_answers (f : Nat) (s : State) : Answers (execTeardownSquash f s) := by
  fun_cases execTeardownSquash f s <;> exact answers_next _
@[simp] theorem execTeardownReadAbandon_answers (f : Nat) (s : State) : Answers (execTeardownReadAbandon f s) := by
  fun_cases execTeardownReadAbandon f s <;> exact answers_next _
@[simp] theorem execTeardownEnd_answers (f : Nat) (s : State) : Answers (execTeardownEnd f s) := by
  fun_cases execTeardownEnd f s <;> exact answers_next _
@[simp] theorem execTeardownAccess_answers (f size : Nat) (write : Bool) (s : State) : Answers (execTeardownAccess f size write s) := by
  fun_cases execTeardownAccess f size write s <;> exact answers_next _
@[simp] theorem execConfigRequest_answers (f : Nat) (r : CfgReg) (v : Option Nat) (s : State) : Answers (execConfigRequest f r v s) := by
  fun_cases execConfigRequest f r v s <;> exact answers_next _
@[simp] theorem execConfigReady_answers (l : Nat) (s : State) : Answers (execConfigReady l s) := by
  fun_cases execConfigReady l s <;> exact answers_next _
@[simp] theorem execPerstNDeassertion_answers (l : Nat) (s : State) : Answers (execPerstNDeassertion l s) := by
  fun_cases execPerstNDeassertion l s <;> exact answers_next _
@[simp] theorem execHostLinkUp_answers (l : Nat) (flit : Bool) (speed width : Nat) (s : State) : Answers (execHostLinkUp l flit speed width s) := by
  fun_cases execHostLinkUp l flit speed width s <;> exact answers_next _
@[simp] theorem execHostReset_answers (l : Nat) (perst : Bool) (s : State) : Answers (execHostReset l perst s) := by
  fun_cases execHostReset l perst s <;> exact answers_next _
@[simp] theorem execFunctionAbort_answers (s : State) : Answers (execFunctionAbort s) := by
  fun_cases execFunctionAbort s <;> exact answers_next _
@[simp] theorem execTenantAbort_answers (s : State) : Answers (execTenantAbort s) := by
  fun_cases execTenantAbort s <;> exact answers_next _
@[simp] theorem execAbortSquash_answers (s : State) : Answers (execAbortSquash s) := by
  fun_cases execAbortSquash s <;> exact answers_next _
@[simp] theorem execAbortReadAbandon_answers (s : State) : Answers (execAbortReadAbandon s) := by
  fun_cases execAbortReadAbandon s <;> exact answers_next _
@[simp] theorem execReleaseFunction_answers (s : State) : Answers (execReleaseFunction s) := by
  fun_cases execReleaseFunction s <;> exact answers_next _
@[simp] theorem execReleaseTenant_answers (s : State) : Answers (execReleaseTenant s) := by
  fun_cases execReleaseTenant s <;> exact answers_next _

/-! ### Resumption and debugging of threads (chapter 02) -/

@[simp] theorem execThrCtrlResume_answers (sp mask : Nat) (s : State) : Answers (execThrCtrlResume sp mask s) := by
  fun_cases execThrCtrlResume sp mask s <;> exact answers_next _
@[simp] theorem execOverrun_answers (tid : Nat) (s : State) : Answers (execOverrun tid s) := by
  fun_cases execOverrun tid s <;> exact answers_next _
@[simp] theorem execDbgHalt_answers (sp mask : Nat) (hard : Bool) (s : State) : Answers (execDbgHalt sp mask hard s) := by
  fun_cases execDbgHalt sp mask hard s <;> exact answers_next _
@[simp] theorem execDbgStep_answers (sp mask : Nat) (s : State) : Answers (execDbgStep sp mask s) := by
  fun_cases execDbgStep sp mask s <;> exact answers_next _
@[simp] theorem execDbgResume_answers (sp mask : Nat) (s : State) : Answers (execDbgResume sp mask s) := by
  fun_cases execDbgResume sp mask s <;> exact answers_next _

/-! ### The journal (chapter 12) -/

@[simp] theorem execJournalAppend_answers (s : State) : Answers (execJournalAppend s) := by
  fun_cases execJournalAppend s <;> exact answers_next _
@[simp] theorem execCompacted_answers (s : State) : Answers (execCompacted s) := by
  fun_cases execCompacted s <;> exact answers_next _

/-! ### Memory (chapter 11) -/

@[simp] theorem execRegionValidate_answers (s : State) : Answers (execRegionValidate s) := by
  fun_cases execRegionValidate s <;> exact answers_next _
@[simp] theorem execDramBurst_answers (i sub : Nat) (s : State) : Answers (execDramBurst i sub s) := by
  fun_cases execDramBurst i sub s <;> exact answers_next _
@[simp] theorem execPerBankRefresh_answers (i sub b : Nat) (s : State) : Answers (execPerBankRefresh i sub b s) := by
  fun_cases execPerBankRefresh i sub b s <;> exact answers_next _
@[simp] theorem execRefForced_answers (i sub b : Nat) (s : State) : Answers (execRefForced i sub b s) := by
  fun_cases execRefForced i sub b s <;> exact answers_next _
@[simp] theorem execRefreshMultRead_answers (i code : Nat) (s : State) : Answers (execRefreshMultRead i code s) := by
  fun_cases execRefreshMultRead i code s <;> exact answers_next _
@[simp] theorem execTargetedRefresh_answers (i sub b : Nat) (s : State) : Answers (execTargetedRefresh i sub b s) := by
  fun_cases execTargetedRefresh i sub b s <;> exact answers_next _
@[simp] theorem execActTableClear_answers (i : Nat) (s : State) : Answers (execActTableClear i s) := by
  fun_cases execActTableClear i s <;> exact answers_next _
@[simp] theorem execPatrolRead_answers (i : Nat) (corrected : Bool) (s : State) : Answers (execPatrolRead i corrected s) := by
  fun_cases execPatrolRead i corrected s <;> exact answers_next _
@[simp] theorem execScrubWriteback_answers (i : Nat) (s : State) : Answers (execScrubWriteback i s) := by
  fun_cases execScrubWriteback i s <;> exact answers_next _
@[simp] theorem execDqTimingMeasure_answers (i : Nat) (up down : List Nat) (s : State) : Answers (execDqTimingMeasure i up down s) := by
  fun_cases execDqTimingMeasure i up down s <;> exact answers_next _
@[simp] theorem execChannelFreeze_answers (i cause loc row col syndrome : Nat) (s : State) :
    Answers (execChannelFreeze i cause loc row col syndrome s) := by
  fun_cases execChannelFreeze i cause loc row col syndrome s <;> exact answers_next _
@[simp] theorem execFreezeTestDone_answers (i : Nat) (pass : Bool) (s : State) : Answers (execFreezeTestDone i pass s) := by
  fun_cases execFreezeTestDone i pass s <;> exact answers_next _
@[simp] theorem execResyncDone_answers (i : Nat) (s : State) : Answers (execResyncDone i s) := by
  fun_cases execResyncDone i s <;> exact answers_next _
@[simp] theorem execSpareIn_answers (h : Nat) (pass : Bool) (s : State) : Answers (execSpareIn h pass s) := by
  fun_cases execSpareIn h pass s <;> exact answers_next _
@[simp] theorem execSpareActivate_answers (h pause : Nat) (s : State) : Answers (execSpareActivate h pause s) := by
  fun_cases execSpareActivate h pause s <;> exact answers_next _
@[simp] theorem execRegionRestore_answers (s : State) : Answers (execRegionRestore s) := by
  fun_cases execRegionRestore s <;> exact answers_next _
@[simp] theorem execChRetire_answers (s : State) : Answers (execChRetire s) := by
  fun_cases execChRetire s <;> exact answers_next _

/-! ### The mule controller (chapter 02) -/

@[simp] theorem execDeadlock_answers (sp : Nat) (s : State) : Answers (execDeadlock sp s) := by
  fun_cases execDeadlock sp s <;> exact answers_next _
@[simp] theorem execEscalationWindowEnd_answers (sp : Nat) (s : State) : Answers (execEscalationWindowEnd sp s) := by
  fun_cases execEscalationWindowEnd sp s <;> exact answers_next _
@[simp] theorem execMuleSwapRequest_answers (m spn : Nat) (s : State) : Answers (execMuleSwapRequest m spn s) := by
  fun_cases execMuleSwapRequest m spn s <;> exact answers_next _
@[simp] theorem execMuleSwapApply_answers (m : Nat) (s : State) : Answers (execMuleSwapApply m s) := by
  fun_cases execMuleSwapApply m s <;> exact answers_next _
@[simp] theorem execLongWorkRestart_answers (tid : Nat) (s : State) : Answers (execLongWorkRestart tid s) := by
  fun_cases execLongWorkRestart tid s <;> exact answers_next _
@[simp] theorem execBankDrainEnd_answers (sp : Nat) (s : State) : Answers (execBankDrainEnd sp s) := by
  fun_cases execBankDrainEnd sp s <;> exact answers_next _
@[simp] theorem execRoleChangeRequest_answers (sp role : Nat) (swap : Bool) (s : State) : Answers (execRoleChangeRequest sp role swap s) := by
  fun_cases execRoleChangeRequest sp role swap s <;> exact answers_next _
@[simp] theorem execRoleForced_answers (sp : Nat) (s : State) : Answers (execRoleForced sp s) := by
  fun_cases execRoleForced sp s <;> exact answers_next _
@[simp] theorem execRoleChangeApply_answers (sp : Nat) (s : State) : Answers (execRoleChangeApply sp s) := by
  fun_cases execRoleChangeApply sp s <;> exact answers_next _
@[simp] theorem execMuleLoadStart_answers (m spn : Nat) (s : State) : Answers (execMuleLoadStart m spn s) := by
  fun_cases execMuleLoadStart m spn s <;> exact answers_next _
@[simp] theorem execImageLoadDone_answers (m : Nat) (s : State) : Answers (execImageLoadDone m s) := by
  fun_cases execImageLoadDone m s <;> exact answers_next _

/-! ### The mailbox (chapter 12) -/

@[simp] theorem execFwDownload_answers (n : Nat) (s : State) : Answers (execFwDownload n s) := by
  fun_cases execFwDownload n s <;> exact answers_next _
@[simp] theorem execStoreActivate_answers (via : CommitVia) (ok : Bool) (s : State) : Answers (execStoreActivate via ok s) := by
  fun_cases execStoreActivate via ok s <;> exact answers_next _
@[simp] theorem execActivate_answers (via : CommitVia) (s : State) : Answers (execActivate via s) := by
  fun_cases execActivate via s <;> exact answers_next _

/-! ### Management endpoints (chapter 12) -/

@[simp] theorem execMctpUnsupportedMessage_answers (b type : Nat) (s : State) : Answers (execMctpUnsupportedMessage b type s) := by
  fun_cases execMctpUnsupportedMessage b type s <;> exact answers_next _
@[simp] theorem execSpdmRequest_answers (path code session param off len : Nat) (s : State) :
    Answers (execSpdmRequest path code session param off len s) := by
  fun_cases execSpdmRequest path code session param off len s <;> exact answers_next _
@[simp] theorem execKeyExchange_answers (path : Nat) (s : State) : Answers (execKeyExchange path s) := by
  fun_cases execKeyExchange path s <;> exact answers_next _
@[simp] theorem execSealingKeyMessage_answers (path session index tenant soft hard : Nat) (key : List Byte) (s : State) :
    Answers (execSealingKeyMessage path session index tenant soft hard key s) := by
  fun_cases execSealingKeyMessage path session index tenant soft hard key s <;> exact answers_next _
@[simp] theorem execDoeMessage_answers (pf type index : Nat) (s : State) : Answers (execDoeMessage pf type index s) := by
  fun_cases execDoeMessage pf type index s <;> exact answers_next _
@[simp] theorem execIdeKm_answers (session stream op : Nat) (key : List Byte) (s : State) : Answers (execIdeKm session stream op key s) := by
  fun_cases execIdeKm session stream op key s <;> exact answers_next _
@[simp] theorem execIdeCheckFailed_answers (f : Nat) (s : State) : Answers (execIdeCheckFailed f s) := by
  fun_cases execIdeCheckFailed f s <;> exact answers_next _

/-! ### The seam and its witness (chapter 13) -/

@[simp] theorem execFlitReplay_answers (dir lane : Nat) (s : State) : Answers (execFlitReplay dir lane s) := by
  fun_cases execFlitReplay dir lane s <;> exact answers_next _
@[simp] theorem execSeamDown_answers (dir : Nat) (s : State) : Answers (execSeamDown dir s) := by
  fun_cases execSeamDown dir s <;> exact answers_next _
@[simp] theorem execSeamRetrainDone_answers (ok : Bool) (s : State) : Answers (execSeamRetrainDone ok s) := by
  fun_cases execSeamRetrainDone ok s <;> exact answers_next _
@[simp] theorem execHeartbeat_answers (half : Nat) (s : State) : Answers (execHeartbeat half s) := by
  fun_cases execHeartbeat half s <;> exact answers_next _
@[simp] theorem execWitnessFrameReceived_answers (half : Nat) (ack crcOk : Bool) (s : State) :
    Answers (execWitnessFrameReceived half ack crcOk s) := by
  fun_cases execWitnessFrameReceived half ack crcOk s <;> exact answers_next _
@[simp] theorem execWitnessSilent_answers (half : Nat) (s : State) : Answers (execWitnessSilent half s) := by
  fun_cases execWitnessSilent half s <;> exact answers_next _
@[simp] theorem execSeamLoss_answers (s : State) : Answers (execSeamLoss s) := by
  fun_cases execSeamLoss s <;> exact answers_next _
@[simp] theorem execFence_answers (s : State) : Answers (execFence s) := by
  fun_cases execFence s <;> exact answers_next _
@[simp] theorem execHalfFence_answers (s : State) : Answers (execHalfFence s) := by
  fun_cases execHalfFence s <;> exact answers_next _
@[simp] theorem execFenceAck_answers (s : State) : Answers (execFenceAck s) := by
  fun_cases execFenceAck s <;> exact answers_next _
@[simp] theorem execFenceTimeout_answers (s : State) : Answers (execFenceTimeout s) := by
  fun_cases execFenceTimeout s <;> exact answers_next _
@[simp] theorem execRejoinRetrain_answers (ok : Bool) (s : State) : Answers (execRejoinRetrain ok s) := by
  fun_cases execRejoinRetrain ok s <;> exact answers_next _
@[simp] theorem execRetrain_answers (ok : Bool) (s : State) : Answers (execRetrain ok s) := by
  fun_cases execRetrain ok s <;> exact answers_next _
@[simp] theorem execRejoin_answers (s : State) : Answers (execRejoin s) := by
  fun_cases execRejoin s <;> exact answers_next _
@[simp] theorem execHalfReset_answers (s : State) : Answers (execHalfReset s) := by
  fun_cases execHalfReset s <;> exact answers_next _
@[simp] theorem execRejoinDone_answers (s : State) : Answers (execRejoinDone s) := by
  fun_cases execRejoinDone s <;> exact answers_next _

/-! ### Spares and swaps (chapter 13) -/

@[simp] theorem execSpindleSwapDrain_answers (sp : Nat) (s : State) : Answers (execSpindleSwapDrain sp s) := by
  fun_cases execSpindleSwapDrain sp s <;> exact answers_next _
@[simp] theorem execSpindleSwapComplete_answers (sp : Nat) (s : State) : Answers (execSpindleSwapComplete sp s) := by
  fun_cases execSpindleSwapComplete sp s <;> exact answers_next _
@[simp] theorem execSpareEngineEnable_answers (pos : Nat) (s : State) : Answers (execSpareEngineEnable pos s) := by
  fun_cases execSpareEngineEnable pos s <;> exact answers_next _
@[simp] theorem execCardLaneRetire_answers (l : Nat) (s : State) : Answers (execCardLaneRetire l s) := by
  fun_cases execCardLaneRetire l s <;> exact answers_next _
@[simp] theorem execErrorReport_answers (k pos row : Nat) (unc : Bool) (owner : Option Nat) (s : State) :
    Answers (execErrorReport k pos row unc owner s) := by
  fun_cases execErrorReport k pos row unc owner s <;> exact answers_next _
@[simp] theorem execFaultInject_answers (s : State) : Answers (execFaultInject s) := by
  fun_cases execFaultInject s <;> exact answers_next _
@[simp] theorem execWearSample_answers (ages : List Nat) (s : State) : Answers (execWearSample ages s) := by
  fun_cases execWearSample ages s <;> exact answers_next _

/-! ### The POWER block (chapter 14) -/

@[simp] theorem execDomainOffDone_answers (k : Nat) (s : State) : Answers (execDomainOffDone k s) := by
  fun_cases execDomainOffDone k s <;> exact answers_next _
@[simp] theorem execDomainOnDone_answers (k : Nat) (s : State) : Answers (execDomainOnDone k s) := by
  fun_cases execDomainOnDone k s <;> exact answers_next _
@[simp] theorem execThrottleRelease_answers (s : State) : Answers (execThrottleRelease s) := by
  fun_cases execThrottleRelease s <;> exact answers_next _
@[simp] theorem execClockChange_answers (s : State) : Answers (execClockChange s) := by
  fun_cases execClockChange s <;> exact answers_next _

/-! ### POWER resets (chapter 14) -/

@[simp] theorem execPowerReset_answers (cause : PowerCause) (straps : Nat) (s : State) : Answers (execPowerReset cause straps s) := by
  fun_cases execPowerReset cause straps s <;> exact answers_next _
@[simp] theorem execPwrgdRise_answers (vaonLost : Bool) (s : State) : Answers (execPwrgdRise vaonLost s) := by
  fun_cases execPwrgdRise vaonLost s <;> exact answers_next _
@[simp] theorem execPowerOnResetEnd_answers (straps : Nat) (s : State) : Answers (execPowerOnResetEnd straps s) := by
  fun_cases execPowerOnResetEnd straps s <;> exact answers_next _
@[simp] theorem execXspiResetRelease_answers (s : State) : Answers (execXspiResetRelease s) := by
  fun_cases execXspiResetRelease s <;> exact answers_next _
@[simp] theorem execRailUndervolt_answers (rail : Nat) (s : State) : Answers (execRailUndervolt rail s) := by
  fun_cases execRailUndervolt rail s <;> exact answers_next _
@[simp] theorem execSysClkLoss_answers (s : State) : Answers (execSysClkLoss s) := by
  fun_cases execSysClkLoss s <;> exact answers_next _
@[simp] theorem execEthRefclkLoss_answers (h : Nat) (s : State) : Answers (execEthRefclkLoss h s) := by
  fun_cases execEthRefclkLoss h s <;> exact answers_next _
@[simp] theorem execHostRefclkLoss_answers (l : Nat) (s : State) : Answers (execHostRefclkLoss l s) := by
  fun_cases execHostRefclkLoss l s <;> exact answers_next _
@[simp] theorem execSensorRead_answers (temps rails : List Nat) (watts : Nat) (s : State) : Answers (execSensorRead temps rails watts s) := by
  fun_cases execSensorRead temps rails watts s <;> exact answers_next _

/-! ### Faulty reads (chapter 00) -/

@[simp] theorem execCsrFaultyRead_answers (who : Requester) (off size : Nat) (s : State) : Answers (execCsrFaultyRead who off size s) := by
  fun_cases execCsrFaultyRead who off size s <;> exact answers_next _

/-! ### The boot (chapter 12) -/

@[simp] theorem execBootSlotStart_answers (s : State) : Answers (execBootSlotStart s) := by
  fun_cases execBootSlotStart s <;> exact answers_next _
@[simp] theorem execChunkLanded_answers (ok : Bool) (s : State) : Answers (execChunkLanded ok s) := by
  fun_cases execChunkLanded ok s <;> exact answers_next _
@[simp] theorem execDramTrainingDone_answers (failed : List Nat) (rank row col cap : Nat) (s : State) :
    Answers (execDramTrainingDone failed rank row col cap s) := by
  fun_cases execDramTrainingDone failed rank row col cap s <;> exact answers_next _
@[simp] theorem execConfigRun_answers (s : State) : Answers (execConfigRun s) := by
  fun_cases execConfigRun s <;> exact answers_next _
@[simp] theorem execW32_answers (s : State) : Answers (execW32 s) := by
  fun_cases execW32 s <;> exact answers_next _
@[simp] theorem execW64_answers (s : State) : Answers (execW64 s) := by
  fun_cases execW64 s <;> exact answers_next _
@[simp] theorem execCopy_answers (s : State) : Answers (execCopy s) := by
  fun_cases execCopy s <;> exact answers_next _
@[simp] theorem execAddr64_answers (s : State) : Answers (execAddr64 s) := by
  fun_cases execAddr64 s <;> exact answers_next _
@[simp] theorem execCsrBlock_answers (s : State) : Answers (execCsrBlock s) := by
  fun_cases execCsrBlock s <;> exact answers_next _
@[simp] theorem execPoll_answers (s : State) : Answers (execPoll s) := by
  fun_cases execPoll s <;> exact answers_next _
@[simp] theorem execPollTimeout_answers (s : State) : Answers (execPollTimeout s) := by
  fun_cases execPollTimeout s <;> exact answers_next _
@[simp] theorem execCfgEnd_answers (s : State) : Answers (execCfgEnd s) := by
  fun_cases execCfgEnd s <;> exact answers_next _
@[simp] theorem execStorageAssign_answers (via : Option MboxVia) (s : State) : Answers (execStorageAssign via s) := by
  fun_cases execStorageAssign via s <;> exact answers_next _
@[simp] theorem execOutputGateOpen_answers (ok : Bool) (s : State) : Answers (execOutputGateOpen ok s) := by
  fun_cases execOutputGateOpen ok s <;> exact answers_next _
@[simp] theorem execSlotBootFail_answers (s : State) : Answers (execSlotBootFail s) := by
  fun_cases execSlotBootFail s <;> exact answers_next _

/-! ### The Editor (chapter 04) -/

@[simp] theorem execEditorPacketRelease_answers (id : Nat) (s : State) : Answers (execEditorPacketRelease id s) := by
  fun_cases execEditorPacketRelease id s <;> exact answers_next _
@[simp] theorem execSet_answers (id : Nat) (s : State) : Answers (execSet id s) := by
  fun_cases execSet id s <;> exact answers_next _
@[simp] theorem execVlanPush_answers (id : Nat) (s : State) : Answers (execVlanPush id s) := by
  fun_cases execVlanPush id s <;> exact answers_next _
@[simp] theorem execVlanPop_answers (id : Nat) (s : State) : Answers (execVlanPop id s) := by
  fun_cases execVlanPop id s <;> exact answers_next _
@[simp] theorem execDecap_answers (id : Nat) (s : State) : Answers (execDecap id s) := by
  fun_cases execDecap id s <;> exact answers_next _
@[simp] theorem execCsum_answers (id : Nat) (s : State) : Answers (execCsum id s) := by
  fun_cases execCsum id s <;> exact answers_next _
@[simp] theorem execTtlDec_answers (id : Nat) (s : State) : Answers (execTtlDec id s) := by
  fun_cases execTtlDec id s <;> exact answers_next _
@[simp] theorem execCrypto_answers (id : Nat) (s : State) : Answers (execCrypto id s) := by
  fun_cases execCrypto id s <;> exact answers_next _
@[simp] theorem execToPort_answers (id : Nat) (s : State) : Answers (execToPort id s) := by
  fun_cases execToPort id s <;> exact answers_next _
@[simp] theorem execToHostq_answers (id : Nat) (s : State) : Answers (execToHostq id s) := by
  fun_cases execToHostq id s <;> exact answers_next _
@[simp] theorem execToPeer_answers (id : Nat) (s : State) : Answers (execToPeer id s) := by
  fun_cases execToPeer id s <;> exact answers_next _
@[simp] theorem execToControl_answers (id : Nat) (s : State) : Answers (execToControl id s) := by
  fun_cases execToControl id s <;> exact answers_next _
@[simp] theorem execDrop_answers (id : Nat) (s : State) : Answers (execDrop id s) := by
  fun_cases execDrop id s <;> exact answers_next _
@[simp] theorem execMirror_answers (id : Nat) (s : State) : Answers (execMirror id s) := by
  fun_cases execMirror id s <;> exact answers_next _

/-! ### Arrival of messages (chapter 02) -/

@[simp] theorem execMessageArrival_answers (id : Nat) (s : State) : Answers (execMessageArrival id s) := by
  fun_cases execMessageArrival id s <;> exact answers_next _

/-! ### Threads between their instructions (chapters 02 and 03) -/

@[simp] theorem execScratchAccessPerform_answers (m bank : Nat) (s : State) : Answers (execScratchAccessPerform m bank s) := by
  fun_cases execScratchAccessPerform m bank s <;> exact answers_next _
@[simp] theorem execLookupDeadline_answers (tid : Nat) (s : State) : Answers (execLookupDeadline tid s) := by
  fun_cases execLookupDeadline tid s <;> exact answers_next _
@[simp] theorem execRetireEnd_answers (tid : Nat) (s : State) : Answers (execRetireEnd tid s) := by
  fun_cases execRetireEnd tid s <;> exact answers_next _
@[simp] theorem execWorkerDispatch_answers (tid : Nat) (s : State) : Answers (execWorkerDispatch tid s) := by
  fun_cases execWorkerDispatch tid s <;> exact answers_next _

/-! ### Service-unit boundaries (chapter 01) -/

@[simp] theorem execServiceUnitBoundary_answers (c u : Nat) (background : Bool) (s : State) : Answers (execServiceUnitBoundary c u background s) := by
  fun_cases execServiceUnitBoundary c u background s <;> exact answers_next _

/-! ### The bobbin store (chapter 07) -/

@[simp] theorem execBobbinPartWrite_answers (who : Requester) (t c : Nat) (w : W64) (s : State) : Answers (execBobbinPartWrite who t c w s) := by
  fun_cases execBobbinPartWrite who t c w s <;> exact answers_next _
@[simp] theorem execBobbinScrub_answers (handle : Nat) (uncorrectable : Bool) (s : State) : Answers (execBobbinScrub handle uncorrectable s) := by
  fun_cases execBobbinScrub handle uncorrectable s <;> exact answers_next _

/-! ### All commands -/

/-- Every command in every state answers with a next state. -/
theorem exec_answers (c : Instr) (s : State) : Answers (exec c s) := by
  cases c with
  | pwrgdFall | csrWrite | csrLowerHalfRead | rcRead | stitchLenReqWrite | stitchLaceCommit | cancel | lacingShadowWrite | laceSwap |
    threadIssueCycle | add | sub | and | or | xor | andn | shl | shr | sar | rol | slt | sltu | seq | minU | maxU | cmovnz | mul | mulhu | popc
    | clz | ctz | bsw16 | bsw32 | bsw64 | crc32c | hmix | addi | andi | ori | xori | shi | sltiu | movi | movhi | bfx | bfi | rdctr | br | bb |
    jmp | loop | doneDeliver | doneDrop | doneSlowpath | call | brb | jr | loopr | ld | st | hld | hst | sld | sst | fetchAdd | satomSwap | cas
    | satomAnd | satomOr | satomXor | satomMinU | satomMaxU | lkup | lookupResult | lkw | fcwb | ystage | ysend | yres | yput | ycommit | yrecv
    | ynote | wait | waitWake | signal | csub | qpost | resume | frec | tstate | devld | deviceLoadData | devst | csrrd | csrwr |
    yarnStatusReturn | blockingSendRetry | softHaltEffect | pfcPauseExpiry | stepPtp | ptpValidWrite | cardCommit | emInsert | emUpsert |
    emDelete | pfxAdd | pfxDel | ruleWrite | ruleClear | fctxWrite | encapVxlan | encapGeneve | install | limits | invalidate | sessionRead |
    errorCqeWrite | parkedCqeWrite | netTxSend | netTxBobbinWaitEnd | cqCreate | wqCreate | cqDelete | wqDelete | queueRestart | moderate |
    bobbinEnable | alloc | free | transfer | incref | link | bobbinInfo | flush | deallocate | pwrOn | pwrOff | peerWrite | peerRead | peerSend
    | mboxInfo | fwWrite | store | svnCommit | debugChallenge | debugUnlock | nvRead | nvWrite | recoveryBoot | domainSwitch | rowActiveTimeout
    | lockstep =>
    exact answers_next _
  | mctpControl | getpdr | getsensorreading | getstatesensorreadings | setnumericsensorenable | seteventreceiver | requestupdate |
    requestfirmwaredata | activatefirmware | getstatus | cancelupdatecomponent | cancelupdate | querydeviceidentifiers | getfirmwareparameters =>
    simp only [exec]; exact answering_answers _ _ _ _
  | _ => simp [exec]

end Sys2Proof.Machine

/-- Settles O2: each branch of each command ends in a next state. -/
theorem everyCommandAnswersNext : Obligations.EveryCommandAnswersNext := Sys2Proof.Machine.exec_answers
end

section
/-! Accesses to the CSR space: the bits of fields and of words built field by field (R12, R13, R16). -/

namespace Sys2Proof.Machine

open Sys2Proof

/-! ### Bits -/

/-- A field's mask covers the bits from `lo` to `hi`. -/
theorem Fld.mask_testBit (f : Fld) (i : Nat) : f.mask.testBit i = decide (f.lo ≤ i ∧ i < f.lo + (f.hi + 1 - f.lo)) := by
  rw [Fld.mask, Nat.testBit_shiftLeft, Nat.testBit_two_pow_sub_one, ← Bool.decide_and]
  exact decide_eq_decide.mpr (by omega)

theorem Fld.mask_testBit_add (f : Fld) {j : Nat} (h : j < f.hi + 1 - f.lo) : f.mask.testBit (f.lo + j) = true := by
  rw [f.mask_testBit]; exact decide_eq_true (by omega)

/-- Two numbers agree in a field when they agree in its bits. -/
theorem bitsOf_congr {w x hi lo : Nat} (h : ∀ j < hi + 1 - lo, w.testBit (lo + j) = x.testBit (lo + j)) : bitsOf w hi lo = bitsOf x hi lo := by
  apply Nat.eq_of_testBit_eq
  intro j
  rw [bitsOf_testBit, bitsOf_testBit]
  by_cases hj : j < hi + 1 - lo
  · rw [h j hj]
  · simp [hj]

theorem bitsOf_lt (w hi lo : Nat) : bitsOf w hi lo < 2 ^ (hi + 1 - lo) := Nat.mod_lt _ (Nat.two_pow_pos _)

/-- A number whose bits are those of a field of a word is the field's value. -/
theorem bitsOf_eq {w hi lo v : Nat} (hv : v < 2 ^ (hi + 1 - lo)) (h : ∀ j < hi + 1 - lo, w.testBit (lo + j) = v.testBit j) :
    bitsOf w hi lo = v := by
  apply Nat.eq_of_testBit_eq
  intro j
  rw [bitsOf_testBit]
  by_cases hj : j < hi + 1 - lo
  · simp [hj, h j hj]
  · simp [hj, Nat.testBit_lt_two_pow (Nat.lt_of_lt_of_le hv (Nat.pow_le_pow_right Nat.two_pos (Nat.not_lt.mp hj)))]

/-- Bits beyond the 64 of a register word read zero. -/
theorem bitsOf_beyond {w hi lo : Nat} (hw : w < 2 ^ 64) (h : 63 < lo) : bitsOf w hi lo = 0 := by
  rw [bitsOf, Nat.shiftRight_eq_div_pow, Nat.div_eq_of_lt (Nat.lt_of_lt_of_le hw (Nat.pow_le_pow_right Nat.two_pos (Nat.succ_le_of_lt h))),
    Nat.zero_mod]

/-! ### Words built field by field -/

/-- A word that is the union of one part per field has a bit when a part has it. -/
theorem testBit_foldl_or {α : Type} (fs : List α) (g : α → Nat) (w i : Nat) :
    (fs.foldl (fun w f => w ||| g f) w).testBit i = (w.testBit i || fs.any (fun f => (g f).testBit i)) := by
  induction fs generalizing w with
  | nil => simp
  | cons f fs ih => simp [ih, Nat.testBit_or, Bool.or_assoc]

/-- No two fields of a list share a bit, the most significant coming first. -/
abbrev Apart (fs : List Fld) : Prop := fs.Pairwise (fun f g => g.hi < f.lo)

theorem Apart.unshared {f : Fld} {fs : List Fld} (h : Apart (f :: fs)) {i : Nat} (hi : f.mask.testBit i = true) :
    ∀ g ∈ fs, g.mask.testBit i = false := by
  intro g hg
  have hlt := List.rel_of_pairwise_cons h hg
  rw [Fld.mask_testBit, decide_eq_true_eq] at hi
  rw [Fld.mask_testBit, decide_eq_false_iff_not]
  omega

/-- A bit belongs to one field alone. -/
theorem Apart.eq_of_mask {fs : List Fld} (h : Apart fs) {f g : Fld} (hf : f ∈ fs) (hg : g ∈ fs) {i : Nat} (hfi : f.mask.testBit i = true)
    (hgi : g.mask.testBit i = true) : f = g := by
  induction fs with
  | nil => simp at hf
  | cons x fs ih =>
    rcases List.mem_cons.mp hf with rfl | hf'
    · rcases List.mem_cons.mp hg with rfl | hg'
      · rfl
      · exact absurd hgi (by simp [h.unshared hfi g hg'])
    · rcases List.mem_cons.mp hg with rfl | hg'
      · exact absurd hfi (by simp [h.unshared hgi f hf'])
      · exact ih (List.Pairwise.of_cons h) hf' hg'

section Fold

/-! A word that an update per field rewrites, each update setting the bits of its field alone: in the bits of its field it is as that field's
update has left it, and elsewhere unchanged. -/

variable {fs : List Fld} {upd : Nat → Fld → Nat} {b : Fld → Bool → Bool} {i : Nat}
  (hupd : ∀ f w, (upd w f).testBit i = if f.mask.testBit i then b f (w.testBit i) else w.testBit i)
include hupd

theorem testBit_foldl_of_uncovered (w : Nat) (h : ∀ f ∈ fs, f.mask.testBit i = false) : (fs.foldl upd w).testBit i = w.testBit i := by
  induction fs generalizing w with
  | nil => rfl
  | cons f fs ih =>
    rw [List.foldl_cons, ih _ (fun g hg => h g (List.mem_cons_of_mem f hg)), hupd, h f List.mem_cons_self]
    rfl

theorem testBit_foldl_of_mem (hd : Apart fs) (w : Nat) {f : Fld} (hf : f ∈ fs) (hi : f.mask.testBit i = true) :
    (fs.foldl upd w).testBit i = b f (w.testBit i) := by
  induction fs generalizing w with
  | nil => simp at hf
  | cons g fs ih =>
    rw [List.foldl_cons]
    rcases List.mem_cons.mp hf with rfl | hf
    · rw [testBit_foldl_of_uncovered hupd _ (hd.unshared hi), hupd, hi]; rfl
    · have hg : g.mask.testBit i = false := by
        by_contra hg
        exact absurd hi (by simp [hd.unshared (by simpa using hg) f hf])
      rw [ih (List.Pairwise.of_cons hd) _ hf, hupd, hg]; rfl

end Fold

/-! ### What a write leaves in a register (R12 to R15) -/

/-- A bit of a field after a write that reaches it. -/
theorem Fld.write_testBit (f : Fld) (locked : Bool) (old v m : Nat) {i : Nat} (hm : m.testBit i = true) :
    (f.write locked old v m).testBit i = (f.mask.testBit i && bitWritten f.acc locked (old.testBit i) (v.testBit i)) := by
  have hclear : ∀ x y : Bool, (x ^^ (x && y)) = (x && !y) := by decide
  cases hmask : f.mask.testBit i with
  | false => cases hacc : f.acc <;> cases locked <;> simp [Fld.write, hacc, hmask]
  | true => cases hacc : f.acc <;> cases locked <;> simp [Fld.write, bitWritten, hacc, hmask, hm, hclear]

theorem writeFields_testBit (fs : List Fld) (locked : Bool) (old v m : Nat) {i : Nat} (hm : m.testBit i = true) :
    (writeFields fs locked old v m).testBit i =
      fs.any (fun f => f.mask.testBit i && bitWritten f.acc locked (old.testBit i) (v.testBit i)) := by
  simp only [writeFields, testBit_foldl_or, Fld.write_testBit _ _ _ _ _ hm, Nat.zero_testBit, Bool.false_or]

/-- The bits of the W1C fields. -/
theorem RegDesc.w1c_testBit (d : RegDesc) (i : Nat) : d.w1c.testBit i = d.fields.any (fun f => f.acc == .w1c && f.mask.testBit i) := by
  have hpart : d.w1c = d.fields.foldl (fun w f => w ||| (if f.acc = .w1c then f.mask else 0)) 0 := by
    rw [RegDesc.w1c]; congr; funext w f; split <;> simp
  rw [hpart, testBit_foldl_or, Nat.zero_testBit, Bool.false_or]
  congr; funext f; split <;> simp_all

/-! ### What a read shows and leaves (R12, R16) -/

theorem Fld.late_le (f : Fld) (old new : Nat) : f.late old new ≤ bitsOf old f.hi f.lo := Nat.min_le_left _ _

/-- A bit of an RC field before the events of this cycle; other bits stand. -/
theorem beforeNew_step_testBit (old new i : Nat) (f : Fld) (w : Nat) :
    (if f.acc = .rc then setBits w f.hi f.lo (bitsOf old f.hi f.lo - f.late old new) else w).testBit i =
      if f.mask.testBit i then
        (if f.acc = .rc then (bitsOf old f.hi f.lo - f.late old new).testBit (i - f.lo) else w.testBit i)
      else w.testBit i := by
  rw [Fld.mask_testBit]
  by_cases hacc : f.acc = .rc
  · simp [hacc, setBits_testBit]
  · simp [hacc]

/-- A bit of an RC field after a read that reaches it; other bits stand. -/
theorem readClear_step_testBit (old new m i : Nat) (f : Fld) (w : Nat) :
    (if f.acc = .rc then w ^^^ (w &&& f.mask &&& m) ||| (f.late old new <<< f.lo &&& m) else w).testBit i =
      if f.mask.testBit i then (if f.acc = .rc ∧ m.testBit i = true then (f.late old new).testBit (i - f.lo) else w.testBit i)
      else w.testBit i := by
  by_cases hacc : f.acc = .rc
  · have hlate : ¬ (i < f.lo + (f.hi + 1 - f.lo)) → (f.late old new).testBit (i - f.lo) = false := fun hi =>
      Nat.testBit_lt_two_pow (Nat.lt_of_lt_of_le (Nat.lt_of_le_of_lt (f.late_le old new) (bitsOf_lt _ _ _))
        (Nat.pow_le_pow_right Nat.two_pos (by omega)))
    cases hm : m.testBit i <;> by_cases hlo : f.lo ≤ i <;> by_cases hhi : i < f.lo + (f.hi + 1 - f.lo) <;>
      simp [hacc, Fld.mask_testBit, hlo, hhi, hm, hlate]
  · simp [hacc]

theorem beforeNew_of_mem {fs : List Fld} (hd : Apart fs) (old new : Nat) {f : Fld} (hf : f ∈ fs) :
    bitsOf (beforeNew fs old new) f.hi f.lo =
      if f.acc = .rc then bitsOf old f.hi f.lo - bitsOf new f.hi f.lo else bitsOf old f.hi f.lo := by
  have hbit := fun j (hj : j < f.hi + 1 - f.lo) =>
    testBit_foldl_of_mem (beforeNew_step_testBit old new (f.lo + j)) hd old hf (f.mask_testBit_add hj)
  split
  case isTrue hacc =>
    have hlate : bitsOf old f.hi f.lo - f.late old new = bitsOf old f.hi f.lo - bitsOf new f.hi f.lo := by rw [Fld.late]; omega
    refine bitsOf_eq (Nat.lt_of_le_of_lt (Nat.sub_le _ _) (bitsOf_lt _ _ _)) fun j hj => ?_
    rw [beforeNew, hbit j hj, if_pos hacc, hlate, Nat.add_sub_cancel_left]
  case isFalse hacc => exact bitsOf_congr fun j hj => by rw [beforeNew, hbit j hj, if_neg hacc]

/-- The field's own bits after the reads of all fields. -/
theorem readClear_testBit_of_mem {fs : List Fld} (hd : Apart fs) (old new m : Nat) {f : Fld} (hf : f ∈ fs) {i : Nat}
    (hi : f.mask.testBit i = true) :
    (readClear fs old m new).testBit i =
      if f.acc = .rc ∧ m.testBit i = true then (f.late old new).testBit (i - f.lo) else old.testBit i :=
  testBit_foldl_of_mem (readClear_step_testBit old new m i) hd old hf hi

theorem readClear_of_mem {fs : List Fld} (hd : Apart fs) (old new m : Nat) {f : Fld} (hf : f ∈ fs)
    (hm : ∀ j < f.hi + 1 - f.lo, m.testBit (f.lo + j) = true) :
    bitsOf (readClear fs old m new) f.hi f.lo = if f.acc = .rc then f.late old new else bitsOf old f.hi f.lo := by
  have hbit := fun j (hj : j < f.hi + 1 - f.lo) => readClear_testBit_of_mem hd old new m hf (f.mask_testBit_add hj)
  split
  case isTrue hacc =>
    refine bitsOf_eq (Nat.lt_of_le_of_lt (f.late_le old new) (bitsOf_lt _ _ _)) fun j hj => ?_
    rw [hbit j hj, if_pos ⟨hacc, hm j hj⟩, Nat.add_sub_cancel_left]
  case isFalse hacc => exact bitsOf_congr fun j hj => by rw [hbit j hj, if_neg fun hc => hacc hc.1]

/-- A read leaves every bit that no RC field covers. -/
theorem readClear_testBit_of_kept {fs : List Fld} (hd : Apart fs) (old new m : Nat) {i : Nat}
    (h : ∀ f ∈ fs, f.acc = .rc → f.mask.testBit i = false) : (readClear fs old m new).testBit i = old.testBit i := by
  by_cases hcov : ∃ f ∈ fs, f.mask.testBit i = true
  · obtain ⟨f, hf, hi⟩ := hcov
    rw [readClear_testBit_of_mem hd old new m hf hi, if_neg fun hc => by simp [h f hf hc.1] at hi]
  · exact testBit_foldl_of_uncovered (readClear_step_testBit old new m i) old fun f hf => by
      by_contra hi
      exact hcov ⟨f, hf, by simpa using hi⟩

end Sys2Proof.Machine
end
section
/-! Accesses to the CSR space: the descriptors, and what a write of a register and the record of a faulty access leave unchanged
(R7, R8, R12). -/

namespace Sys2Proof.Machine

open Sys2Proof

/-! ### The descriptors -/

/-- A descriptor's fields lie within its width and share no bit. -/
def RegDesc.sound (d : RegDesc) : Bool := decide (Apart d.fields) && d.fields.all (fun f => decide (f.hi < d.width))

theorem RegDesc.sound_iff (d : RegDesc) : d.sound = true ↔ Apart d.fields ∧ ∀ f ∈ d.fields, f.hi < d.width := by
  simp [RegDesc.sound]

theorem regsAt_sound (a : Nat) : (regsAt a).all RegDesc.sound = true := by
  fun_cases regsAt a <;> decide +kernel

theorem mem_of_findReg {ds : List RegDesc} {a : Nat} {d : RegDesc} {r : Nat} (h : findReg ds a = some (d, r)) : d ∈ ds := by
  induction ds with
  | nil => simp [findReg] at h
  | cons e ds ih =>
    rw [findReg] at h
    split at h
    · simp_all
    · exact List.mem_cons_of_mem _ (ih h)

theorem sound_of_findReg {a : Nat} {d : RegDesc} {r : Nat} (h : findReg (regsAt a) a = some (d, r)) : d.sound = true :=
  List.all_eq_true.mp (regsAt_sound a) d (mem_of_findReg h)

/-! ### What a change of registers keeps -/

/-- The register file of a state determines its registers. -/
theorem State.word_congr {s t : State} (h : t.csr = s.csr) (a : Nat) : t.word a = s.word a := by simp [State.word, h]

theorem State.flag_congr {s t : State} (h : t.csr = s.csr) (f : FRef) : t.flag f = s.flag f := by rw [State.flag, State.flag, State.rd_congr h]

theorem State.locked_congr {s t : State} (h : t.csr = s.csr) : t.locked = s.locked := State.flag_congr h _

theorem State.regsKept_of_csr {s t : State} (h : t.csr = s.csr) (fs : List FRef) : s.regsKept t fs := fun g _ => State.rd_congr h g

theorem State.regsKept.trans {s t u : State} {fs : List FRef} (h : s.regsKept t fs) (h' : t.regsKept u fs) : s.regsKept u fs :=
  fun g hg => (h' g hg).trans (h g hg)

theorem State.regsKept.mono {s t : State} {fs gs : List FRef} (h : s.regsKept t fs) (hfs : fs ⊆ gs) : s.regsKept t gs :=
  fun g hg => h g fun f hf => hg f (hfs hf)

theorem State.regsKept_wr (s : State) (f : FRef) (v : Nat) (hf : f.hi < 64) : s.regsKept (s.wr f v) [f] := by
  intro g hg
  refine s.rd_wr_apart f g v hf ?_
  simpa [FRef.apart, or_assoc] using hg f List.mem_cons_self

/-- A write of a register word leaves every field outside the word. -/
theorem State.regsKept_setWord (s : State) (r v : Nat) : s.regsKept (s.setWord r v) [⟨r, 63, 0⟩] := by
  intro g hg
  rcases hg _ List.mem_cons_self with ha | hlt | hlo
  · rw [State.rd, State.rd, State.word_setWord_other _ _ _ _ ha]
  · exact absurd hlt (Nat.not_lt_zero _)
  · rw [State.rd, State.rd, bitsOf_beyond (State.word_lt _ _) hlo, bitsOf_beyond (State.word_lt _ _) hlo]

/-! ### The record of a faulty access (R7, R8, R14) -/

/-- The fields that the record of a faulty access writes. -/
abbrev errorFields : List FRef := [⟨0x10, 63, 0⟩, F.GLOBAL_CSR_ERR_CNT.COUNT]

/-- The word of GLOBAL_CSR_ERR that records an access. -/
theorem errorWord_eq {cause : Nat} (off : Nat) (write : Bool) (h : cause < 8) :
    1 <<< 31 ||| cause <<< 28 ||| (if write then 1 else 0) <<< 27 ||| off % 2 ^ 26 =
      2 ^ 31 + cause * 2 ^ 28 + (if write then 2 ^ 27 else 0) + off % 2 ^ 26 := by
  have hoff : off % 2 ^ 26 < 2 ^ 27 := by omega
  have hw : (if write then 1 else 0) <<< 27 = (if write then 2 ^ 27 else 0) := by cases write <;> rfl
  have hlow : (if write then 1 else 0) <<< 27 + off % 2 ^ 26 < 2 ^ 28 := by rw [hw]; split <;> omega
  have hmid : cause <<< 28 + ((if write then 1 else 0) <<< 27 + off % 2 ^ 26) < 2 ^ 31 := by rw [Nat.shiftLeft_eq]; omega
  rw [Nat.or_assoc, Nat.or_assoc, ← Nat.shiftLeft_add_eq_or_of_lt hoff, ← Nat.shiftLeft_add_eq_or_of_lt hlow,
    ← Nat.shiftLeft_add_eq_or_of_lt hmid, hw, Nat.shiftLeft_eq, Nat.shiftLeft_eq]
  omega

theorem State.word_count_other (s : State) (f : FRef) (n : Nat) {a : Nat} (h : a ≠ f.addr) : (s.count f n).word a = s.word a :=
  State.word_setWord_other _ _ _ _ h

theorem State.csrError_word_other (s : State) (cause off : Nat) (write : Bool) {a : Nat} (h : a ≠ 0x10) (h' : a ≠ 0x14) :
    (s.csrError cause off write).word a = s.word a := by
  rw [State.csrError, State.word_count_other _ _ _ h']
  split
  · rfl
  · exact State.word_setWord_other _ _ _ _ h

theorem State.csrError_regsKept (s : State) (cause off : Nat) (write : Bool) : s.regsKept (s.csrError cause off write) errorFields := by
  have hcount := fun x : State => (x.regsKept_wr F.GLOBAL_CSR_ERR_CNT.COUNT (min (x.rd F.GLOBAL_CSR_ERR_CNT.COUNT + 1)
    (2 ^ F.GLOBAL_CSR_ERR_CNT.COUNT.bits - 1)) (by decide)).mono (gs := errorFields) (by simp)
  rw [State.csrError]
  split
  · exact hcount s
  · exact ((s.regsKept_setWord 0x10 _).mono (by simp)).trans (hcount _)

theorem State.csrError_recorded (s : State) {cause : Nat} (off : Nat) (write : Bool) (h : cause < 8) :
    s.csrRecorded (s.csrError cause off write) cause off write := by
  have hother := fun x : State => x.word_count_other F.GLOBAL_CSR_ERR_CNT.COUNT 1 (a := 0x10) (by decide)
  refine ⟨?_, fun hv => ?_, fun hv => ?_⟩
  · rw [State.csrError, State.rd_count_same _ _ _ (by decide)]
    split
    · rfl
    · rw [State.rd, State.word_setWord_other _ _ _ _ (by decide), ← State.rd]
  · rw [State.csrError, hother, if_pos (by simp [State.flag, hv])]
  · rw [State.csrError, hother, if_neg (by simp [State.flag, hv]), State.word_setWord_same, errorWord_eq off write h]
    apply Nat.mod_eq_of_lt
    split <;> omega

/-- A faulty access changes registers alone. -/
theorem State.csrError_frame (s : State) (cause off : Nat) (write : Bool) : { s.csrError cause off write with csr := s.csr } = s := by
  rw [State.csrError]; split <;> rfl

@[simp] theorem State.csrError_outs (s : State) (cause off : Nat) (write : Bool) : (s.csrError cause off write).outs = s.outs := by
  rw [State.csrError]; split <;> rfl
@[simp] theorem State.csrError_latchPf0 (s : State) (cause off : Nat) (write : Bool) : (s.csrError cause off write).latchPf0 = s.latchPf0 := by
  rw [State.csrError]; split <;> rfl
@[simp] theorem State.csrError_latchCob (s : State) (cause off : Nat) (write : Bool) : (s.csrError cause off write).latchCob = s.latchCob := by
  rw [State.csrError]; split <;> rfl

end Sys2Proof.Machine
end
section
/-! Accesses to the CSR space: what an access of PF0 or the Cobbler comes to, when it reaches the space as a whole (R6 to R9, R12
to R16). -/

namespace Sys2Proof.Machine

open Sys2Proof

/-! ### Requesters (R6) -/

theorem State.reaches_cases {s : State} {who : Requester} (h : s.reaches who = true) :
    (who = .pf0 ∧ s.locked = true ∧ s.fstate 0 ≠ fsTeardown) ∨ (who = .cobbler ∧ s.cob.boot.stage ≠ .held ∧ s.pwr.tripped = false) := by
  cases who <;> simp_all [State.reaches]

theorem State.reaches_base {s : State} {who : Requester} (h : s.reaches who = true) : who.base = who := by
  rcases s.reaches_cases h with ⟨rfl, -⟩ | ⟨rfl, -⟩ <;> rfl

theorem State.reaches_news {s : State} {who : Requester} (h : s.reaches who = true) : who.news = 0 := by
  rcases s.reaches_cases h with ⟨rfl, -⟩ | ⟨rfl, -⟩ <;> rfl

/-- An access by itself, or in the cycle in which hardware has set or counted `x`. -/
theorem State.reaches_by {s : State} {who w : Requester} {x : W64} (h : s.reaches who = true) (hw : w = who ∧ x = 0 ∨ w = .during x who) :
    w.base = who ∧ w.news = x.toNat := by
  rcases hw with ⟨rfl, rfl⟩ | rfl
  · exact ⟨s.reaches_base h, s.reaches_news h⟩
  · exact ⟨s.reaches_base h, rfl⟩

theorem State.accessWriteAt_of_reaches {s : State} {who : Requester} (h : s.reaches who = true) (off size v set : Nat) :
    s.accessWriteAt who off size v set = (s.setLatch who none).csrWrite who off size v set := by
  rcases s.reaches_cases h with ⟨rfl, hl, ht⟩ | ⟨rfl, hs, ht⟩
  · simp [State.accessWriteAt, State.csrOpen, State.recoveryHides, hl, ht]
  · simp [State.accessWriteAt, State.csrOpen, State.recoveryHides, hs, ht]

theorem State.accessReadAt_of_reaches {s : State} {who : Requester} (h : s.reaches who = true) (off size new : Nat) :
    s.accessReadAt who off size new = (some (s.csrRead who off size new).1, (s.csrRead who off size new).2) := by
  rcases s.reaches_cases h with ⟨rfl, hl, ht⟩ | ⟨rfl, hs, ht⟩
  · simp [State.accessReadAt, State.csrOpen, State.recoveryHides, hl, ht]
  · simp [State.accessReadAt, State.csrOpen, State.recoveryHides, hs, ht]

theorem State.readOut_of_reaches {s : State} {who w : Requester} {x : W64} (h : s.reaches who = true)
    (hw : w = who ∧ x = 0 ∨ w = .during x who) (off size : Nat) :
    s.readOut w off size =
      (s.csrRead who off size x.toNat).2.emit (.csrData who off size (s.csrRead who off size x.toNat).1) := by
  obtain ⟨hb, hn⟩ := s.reaches_by h hw
  rw [State.readOut, hb, hn, s.accessReadAt_of_reaches h]

/-! ### The latches (R9) -/

section Latch

variable (s : State) (who : Requester) (l : Option (Nat × Nat))

@[simp] theorem State.setLatch_csr : (s.setLatch who l).csr = s.csr := by cases who <;> rfl
@[simp] theorem State.setLatch_outs : (s.setLatch who l).outs = s.outs := by cases who <;> rfl
@[simp] theorem State.setLatch_word (a : Nat) : (s.setLatch who l).word a = s.word a := State.word_congr (s.setLatch_csr who l) a
@[simp] theorem State.setLatch_rd (f : FRef) : (s.setLatch who l).rd f = s.rd f := State.rd_congr (s.setLatch_csr who l) f
@[simp] theorem State.setLatch_locked : (s.setLatch who l).locked = s.locked := State.locked_congr (s.setLatch_csr who l)
@[simp] theorem State.setLatch_absentReg (a : Nat) : (s.setLatch who l).absentReg a = s.absentReg a := by cases who <;> rfl
@[simp] theorem State.setLatch_shown (d : RegDesc) (r new : Nat) : (s.setLatch who l).shown d r new = s.shown d r new := by cases who <;> rfl

/-- A latch set changes the latches alone. -/
theorem State.setLatch_frame : { s.setLatch who l with latchPf0 := s.latchPf0, latchCob := s.latchCob } = s := by cases who <;> rfl

theorem State.setLatch_latchOf_same (h : s.reaches who = true) (t : State) : (t.setLatch who l).latchOf who = l := by
  rcases s.reaches_cases h with ⟨rfl, -⟩ | ⟨rfl, -⟩ <;> rfl

theorem State.setLatch_latchOf_other {other : Requester} (h : who ≠ other) : (s.setLatch other l).latchOf who = s.latchOf who := by
  cases who <;> cases other <;> simp_all [State.latchOf, State.setLatch]

end Latch

/-- The latch of a requester is unchanged where both latches are. -/
theorem State.latchOf_congr {s t : State} (hp : t.latchPf0 = s.latchPf0) (hc : t.latchCob = s.latchCob) (who : Requester) :
    t.latchOf who = s.latchOf who := by
  cases who <;> simp [State.latchOf, hp, hc]

/-! ### Accesses of 4 bytes (R7) -/

theorem accessFault_word {off : Nat} (h : off % 4 = 0) : accessFault off 4 = none := by simp [accessFault, h]

theorem subAccesses_word (off : Nat) : subAccesses off 4 = [(off, 4)] := by simp [subAccesses]

@[simp] theorem accessPart_word (off v : Nat) : accessPart off v (off, 4) = v % 2 ^ 32 := by simp [accessPart]

theorem State.csrWrite_word (s : State) (who : Requester) {off : Nat} (v set : Nat) (h : off % 4 = 0) :
    s.csrWrite who off 4 v set = s.writeOne who off 4 (v % 2 ^ 32) (set % 2 ^ 32) := by
  simp [State.csrWrite, accessFault_word h, subAccesses_word]

theorem State.csrRead_word (s : State) (who : Requester) {off : Nat} (new : Nat) (h : off % 4 = 0) :
    s.csrRead who off 4 new = s.readOne who off 4 (new % 2 ^ 32) := by
  simp [State.csrRead, accessFault_word h, subAccesses_word]

theorem State.csrWrite_fault (s : State) (who : Requester) {off size cause : Nat} (v set : Nat) (h : accessFault off size = some cause) :
    s.csrWrite who off size v set = s.csrError cause off true := by
  simp [State.csrWrite, h]

theorem State.csrRead_fault (s : State) (who : Requester) {off size cause : Nat} (new : Nat) (h : accessFault off size = some cause) :
    s.csrRead who off size new = (allOnes size, (s.setLatch who none).csrError cause off false) := by
  simp [State.csrRead, h]

/-! ### Unassigned offsets (R8) -/

theorem inWindow_false_iff (a : Nat) :
    inWindow a = false ↔
      inTables a = false ∧ inLaceShadow a = false ∧ inLaceActive a = false ∧ inCardShadow a = false ∧ inCardActive a = false := by
  simp [inWindow, and_assoc]

theorem unassigned_iff (a : Nat) : assigned a = false ↔ inWindow a = false ∧ findReg (regsAt a) a = none := by
  simp [assigned]

theorem State.writeOne_unassigned (s : State) (who : Requester) {off : Nat} (size v set : Nat) (h : assigned off = false) :
    s.writeOne who off size v set = s.csrError causeUnmapped off true := by
  obtain ⟨hwin, hreg⟩ := (unassigned_iff off).mp h
  obtain ⟨-, hls, hla, hcs, hca⟩ := (inWindow_false_iff off).mp hwin
  simp [State.writeOne, hls, hla, hcs, hca, hreg]

theorem State.readOne_unassigned (s : State) (who : Requester) {off : Nat} (size new : Nat) (h : assigned off = false) :
    s.readOne who off size new = (0, (s.setLatch who none).csrError causeUnmapped off false) := by
  obtain ⟨hwin, hreg⟩ := (unassigned_iff off).mp h
  obtain ⟨ht, hls, hla, hcs, hca⟩ := (inWindow_false_iff off).mp hwin
  simp [State.readOne, ht, hls, hla, hcs, hca, hreg]

/-! ### Ordinary registers (R12) -/

theorem ordinaryReg_iff (r : Nat) : ordinaryReg r = true ↔
    inWindow r = false ∧ r ∉ specialRegs ∧ (∀ b st n : Nat, (b, st, n) ∈ specialArrays → inArray r b st n = false) ∧
      ∀ o, muleOff r = some o →
        ¬ (0x100 ≤ o ∧ o < 0x140) ∧ o ≠ 0x208 ∧ o ≠ 0x210 ∧ ¬ (0x340 ≤ o ∧ o < 0x380) ∧ ¬ (0x4000 ≤ o ∧ o < 0x4040) := by
  cases h : muleOff r with
  | none => simp [ordinaryReg, h, and_assoc]
  | some o =>
    simp only [ordinaryReg, h, Bool.and_eq_true, Bool.not_eq_true', List.contains_eq_mem, decide_eq_false_iff_not, List.any_eq_false,
      Prod.forall, bne_iff_ne, Bool.and_eq_false_iff, Option.some.injEq, forall_eq', and_assoc, not_and_or, Bool.not_eq_true]

section Ordinary

variable {r : Nat} (h : ordinaryReg r = true)
include h

theorem inWindow_of_ordinary : inWindow r = false := ((ordinaryReg_iff r).mp h).1

theorem eq_of_ordinary {x : Nat} (hx : x ∈ specialRegs) : (r = x) = False := by
  obtain ⟨-, hreg, -⟩ := (ordinaryReg_iff r).mp h
  exact eq_false fun e => hreg (e ▸ hx)

theorem inArray_of_ordinary {b st n : Nat} (hx : (b, st, n) ∈ specialArrays) : inArray r b st n = false := by
  obtain ⟨-, -, harr, -⟩ := (ordinaryReg_iff r).mp h
  exact harr b st n hx

theorem muleOff_of_ordinary {o : Nat} (ho : muleOff r = some o) :
    ¬ (0x100 ≤ o ∧ o < 0x140) ∧ o ≠ 0x208 ∧ o ≠ 0x210 ∧ ¬ (0x340 ≤ o ∧ o < 0x380) ∧ ¬ (0x4000 ≤ o ∧ o < 0x4040) := by
  obtain ⟨-, -, -, hmule⟩ := (ordinaryReg_iff r).mp h
  exact hmule o ho

theorem State.writeWaits_of_ordinary (s : State) : s.writeWaits r = false := by
  have hcmd : r ∉ wholeCommandRegs := by
    simp (disch := decide) [wholeCommandRegs, eq_of_ordinary h]
  cases ho : muleOff r with
  | none => simp (disch := decide) [State.writeWaits, hcmd, ho]
  | some o =>
    obtain ⟨hrole, hload, hswap, -⟩ := muleOff_of_ordinary h ho
    simp (disch := decide) [State.writeWaits, hcmd, ho, hload, hswap]
    omega

theorem State.writeRefused_of_ordinary (s : State) (who : Requester) (new : Nat) : s.writeRefused who r new = false := by
  cases ho : muleOff r with
  | none => simp (disch := decide) [State.writeRefused, inArray_of_ordinary h, eq_of_ordinary h, ho]
  | some o =>
    obtain ⟨-, -, -, -, hdbg⟩ := muleOff_of_ordinary h ho
    simp (disch := decide) [State.writeRefused, inArray_of_ordinary h, eq_of_ordinary h, ho]
    omega

theorem not_mem_commandRegs_of_ordinary : r ∉ commandRegs := by simp (disch := decide) [commandRegs, eq_of_ordinary h]

theorem commandBits_of_ordinary : commandBits r = 0 := by
  cases ho : muleOff r with
  | none => simp (disch := decide) [commandBits, not_mem_commandRegs_of_ordinary h, inArray_of_ordinary h, eq_of_ordinary h, ho]
  | some o =>
    obtain ⟨-, -, -, -, hdbg⟩ := muleOff_of_ordinary h ho
    simp (disch := decide) [commandBits, not_mem_commandRegs_of_ordinary h, inArray_of_ordinary h, eq_of_ordinary h, ho, hdbg]

theorem State.afterWrite_of_ordinary (s : State) (who : Requester) (old v m : Nat) : s.afterWrite who r old v m = s := by
  simp (disch := decide) [State.afterWrite, not_mem_commandRegs_of_ordinary h, inArray_of_ordinary h, eq_of_ordinary h]

theorem State.muleWrite_of_ordinary (s : State) (d : RegDesc) (m : Nat) {o : Nat} (off v k : Nat) (ho : muleOff r = some o) :
    s.muleWrite d m o r off v k = s.plainWrite d r off v k := by
  obtain ⟨hrole, hload, hswap, hctrl, hdbg⟩ := muleOff_of_ordinary h ho
  simp only [State.muleWrite, hload, hswap, hctrl, hdbg, ← and_assoc, hrole, false_and, if_false]

/-- A write of an ordinary register is one by its access codes alone. -/
theorem State.regWrite_of_ordinary (s : State) (who : Requester) (d : RegDesc) (off v m set : Nat) (ha : s.absentReg r = false) :
    s.regWrite who d r off v m set = s.plainWrite d r off (v ^^^ (v &&& set &&& d.w1c)) m := by
  simp only [State.regWrite, ha, s.writeWaits_of_ordinary h, s.writeRefused_of_ordinary h]
  cases ho : muleOff r with
  | none => simp (disch := decide) [inArray_of_ordinary h, eq_of_ordinary h, State.afterWrite_of_ordinary h]
  | some o => simp (disch := decide) [inArray_of_ordinary h, eq_of_ordinary h, State.muleWrite_of_ordinary h _ _ _ _ _ _ ho]

theorem State.writeOne_of_ordinary (s : State) (who : Requester) {d : RegDesc} (size v set : Nat) (ha : s.absentReg r = false)
    (hreg : findReg (regsAt r) r = some (d, r)) :
    s.writeOne who r size v set = s.plainWrite d r r (v ^^^ (v &&& set &&& d.w1c)) (2 ^ (8 * size) - 1) := by
  obtain ⟨-, hls, hla, hcs, hca⟩ := (inWindow_false_iff r).mp (inWindow_of_ordinary h)
  simp (disch := decide) [State.writeOne, hls, hla, hcs, hca, hreg, s.regWrite_of_ordinary h _ _ _ _ _ _ ha]

end Ordinary

end Sys2Proof.Machine
end
section
/-! Accesses to the CSR space: faulty accesses (R7, R8), a write of a register without effects of its own (R12 to R15), and the state it leaves. -/

namespace Sys2Proof.Machine

open Sys2Proof

/-! ### What an access may change -/

/-- From `s` to `t` nothing changes but registers and the latches of R9. -/
abbrev State.onlyCsr (s t : State) : Prop := { t with csr := s.csr, latchPf0 := s.latchPf0, latchCob := s.latchCob } = s

theorem State.onlyCsr_setLatch (s : State) (who : Requester) (l : Option (Nat × Nat)) : s.onlyCsr (s.setLatch who l) := by cases who <;> rfl

theorem State.onlyCsr.setWord {s t : State} (h : s.onlyCsr t) (a v : Nat) : s.onlyCsr (t.setWord a v) := h

theorem State.onlyCsr.csrError {s t : State} (h : s.onlyCsr t) (cause off : Nat) (write : Bool) : s.onlyCsr (t.csrError cause off write) := by
  rw [State.csrError]; split <;> exact h

section SetLatch

variable (s t : State) (who : Requester) (l : Option (Nat × Nat))

@[simp] theorem State.setLatch_regsKept (fs : List FRef) : (s.setLatch who l).regsKept t fs ↔ s.regsKept t fs := by simp [State.regsKept]

@[simp] theorem State.setLatch_csrRecorded (cause off : Nat) (write : Bool) :
    (s.setLatch who l).csrRecorded t cause off write ↔ s.csrRecorded t cause off write := by
  simp [State.csrRecorded]

end SetLatch

/-- A record stands behind a write of another register. -/
theorem State.csrRecorded.setWord {s t : State} {cause off : Nat} {write : Bool} (h : s.csrRecorded t cause off write) {a : Nat} (v : Nat)
    (ha : a ≠ 0x10) (ha' : a ≠ 0x14) : s.csrRecorded (t.setWord a v) cause off write := by
  obtain ⟨hcount, hold, hnew⟩ := h
  refine ⟨?_, fun hv => ?_, fun hv => ?_⟩
  · rw [← hcount]; exact congrArg (bitsOf · _ _) (State.word_setWord_other _ _ _ _ (Ne.symm ha'))
  · rw [State.word_setWord_other _ _ _ _ (Ne.symm ha), hold hv]
  · rw [State.word_setWord_other _ _ _ _ (Ne.symm ha), hnew hv]

theorem State.csrError_locked (s : State) (cause off : Nat) (write : Bool) : (s.csrError cause off write).locked = s.locked := by
  rw [State.locked, State.locked, State.flag, State.flag, s.csrError_regsKept cause off write _ (by decide)]

/-! ### The value written -/

theorem RegDesc.w1c_testBit_of_mem {d : RegDesc} (hd : Apart d.fields) {f : Fld} (hf : f ∈ d.fields) {i : Nat} (hi : f.mask.testBit i = true) :
    d.w1c.testBit i = (f.acc == .w1c) := by
  rw [d.w1c_testBit, Bool.eq_iff_iff, List.any_eq_true]
  constructor
  · rintro ⟨g, hg, hgi⟩
    rw [Bool.and_eq_true] at hgi
    rw [hd.eq_of_mask hf hg hi hgi.2]; exact hgi.1
  · exact fun hacc => ⟨f, hf, by rw [hacc, hi]; rfl⟩

/-- R15: the bits of a write that reach a field: a W1C bit that hardware has set in the same cycle is written as 0. -/
theorem heldBits_testBit {d : RegDesc} (hd : Apart d.fields) {f : Fld} (hf : f ∈ d.fields) {i : Nat} (hi : f.mask.testBit i = true) (v set : Nat) :
    (v ^^^ (v &&& set &&& d.w1c)).testBit i = (v.testBit i && !(f.acc == .w1c && set.testBit i)) := by
  rw [Nat.testBit_xor, Nat.testBit_and, Nat.testBit_and, RegDesc.w1c_testBit_of_mem hd hf hi]
  cases v.testBit i <;> cases set.testBit i <;> cases f.acc == .w1c <;> rfl

/-- R14: a write would change an RWL field when it would change one of its bits. -/
theorem changesLocked_iff (fs : List Fld) (old v m : Nat) : changesLocked fs old v m = true ↔
    ∃ f ∈ fs, f.acc = .rwl ∧ ∃ i, f.mask.testBit i = true ∧ m.testBit i = true ∧ old.testBit i ≠ v.testBit i := by
  simp only [changesLocked, List.any_eq_true, Bool.and_eq_true, decide_eq_true_eq]
  refine exists_congr fun f => and_congr_right fun _ => and_congr_right fun _ => ?_
  constructor
  · intro h
    obtain ⟨i, hi⟩ := Nat.exists_testBit_ne_of_ne h
    refine ⟨i, ?_⟩
    simp only [Nat.testBit_and] at hi
    cases hmask : f.mask.testBit i <;> cases hm : m.testBit i <;> simp_all
  · rintro ⟨i, hmask, hm, hne⟩ heq
    have := congrArg (fun x => Nat.testBit x i) heq
    simp [hmask, hm, hne] at this

/-- The registers that record faulty accesses have no RWL field. -/
theorem ne_errorRegs_of_rwl {r : Nat} {d : RegDesc} (hreg : findReg (regsAt r) r = some (d, r)) {f : Fld} (hf : f ∈ d.fields)
    (hacc : f.acc = .rwl) : r ≠ 0x10 ∧ r ≠ 0x14 := by
  have hfree : ∀ a ∈ [0x10, 0x14], (findReg (regsAt a) a).any (fun p => p.1.fields.any (fun f => f.acc = .rwl)) = false := by decide +kernel
  refine ⟨?_, ?_⟩ <;> rintro rfl
  · exact absurd (hfree 0x10 (by simp)) (by simpa [hreg] using ⟨f, hf, hacc⟩)
  · exact absurd (hfree 0x14 (by simp)) (by simpa [hreg] using ⟨f, hf, hacc⟩)

/-- R14: the state with the record that a write of a locked field's new value leaves. -/
def State.lockChecked (s : State) (d : RegDesc) (r off v m : Nat) : State :=
  if s.locked && changesLocked d.fields (s.word r) v m then s.csrError causeLocked off true else s

theorem State.lockChecked_of_changes {s : State} {d : RegDesc} {r v m : Nat} (off : Nat) (hl : s.locked = true)
    (hc : changesLocked d.fields (s.word r) v m = true) : s.lockChecked d r off v m = s.csrError causeLocked off true := by
  simp [State.lockChecked, hl, hc]

theorem State.lockChecked_of_not {s : State} {d : RegDesc} {r v m : Nat} (off : Nat)
    (h : s.locked = false ∨ changesLocked d.fields (s.word r) v m = false) : s.lockChecked d r off v m = s := by
  rcases h with h | h <;> simp [State.lockChecked, h]

theorem State.onlyCsr.lockChecked {s t : State} (h : s.onlyCsr t) (d : RegDesc) (r off v m : Nat) : s.onlyCsr (t.lockChecked d r off v m) := by
  rw [State.lockChecked]; split
  · exact h.csrError _ _ _
  · exact h

theorem State.lockChecked_regsKept (s : State) (d : RegDesc) (r off v m : Nat) : s.regsKept (s.lockChecked d r off v m) errorFields := by
  rw [State.lockChecked]; split
  · exact s.csrError_regsKept _ _ _
  · exact State.regsKept_of_csr rfl _

/-- A write of an ordinary register sets its word as the access codes say, behind the record that it may leave. -/
theorem State.plainWrite_of_ordinary {s : State} {r : Nat} (h : ordinaryReg r = true) {d : RegDesc} (hreg : findReg (regsAt r) r = some (d, r))
    (off v m : Nat) :
    s.plainWrite d r off v m = (s.lockChecked d r off v m).setWord r (writeFields d.fields s.locked (s.word r) v m) := by
  rw [State.plainWrite, commandBits_of_ordinary h, Nat.and_zero, Nat.xor_zero, State.lockChecked]
  split
  case isTrue hc =>
    rw [Bool.and_eq_true, changesLocked_iff] at hc
    obtain ⟨-, f, hf, hacc, -⟩ := hc
    obtain ⟨hne, hne'⟩ := ne_errorRegs_of_rwl hreg hf hacc
    rw [s.csrError_locked, s.csrError_word_other _ _ _ hne hne']
  case isFalse => rfl

/-- The word of an ordinary register after a write of 4 bytes, in the cycle in which hardware sets the bits `set` of it. -/
theorem State.csrWrite_of_ordinary {s : State} {who w : Requester} {d : RegDesc} {r : Nat} {v set : W64} (hwho : s.reaches who = true)
    (hw : w = who ∧ set = 0 ∨ w = .during set who) (hr : r % 4 = 0) (h : ordinaryReg r = true) (ha : s.absentReg r = false)
    (hreg : findReg (regsAt r) r = some (d, r)) :
    exec (.csrWrite w r 4 v) s = .next ((s.setLatch who none).plainWrite d r r
      (v.toNat % 2 ^ 32 ^^^ (v.toNat % 2 ^ 32 &&& set.toNat % 2 ^ 32 &&& d.w1c)) (2 ^ 32 - 1)) := by
  obtain ⟨hb, hn⟩ := s.reaches_by hwho hw
  show Host.Outcome.next _ = _
  rw [hb, hn, s.accessWriteAt_of_reaches hwho, State.csrWrite_word _ _ _ _ hr, State.writeOne_of_ordinary h _ _ _ _ _ (by simpa using ha) hreg]

/-! ### Faulty accesses (R7, R8) -/

theorem accessFault_lt {off size cause : Nat} (h : accessFault off size = some cause) : cause < 8 := by
  rw [accessFault] at h
  split_ifs at h <;> simp_all [causeSize, causeUnaligned] <;> omega

/-- What the record of a requester's faulty access changes. -/
theorem State.csrError_access (s : State) (who : Requester) {cause : Nat} (off : Nat) (write : Bool) (h : cause < 8) :
    s.regsKept ((s.setLatch who none).csrError cause off write) errorFields ∧
      s.csrRecorded ((s.setLatch who none).csrError cause off write) cause off write ∧
      s.onlyCsr ((s.setLatch who none).csrError cause off write) := by
  have hkept := (s.setLatch who none).csrError_regsKept cause off write
  have hrec := (s.setLatch who none).csrError_recorded off write h
  rw [State.setLatch_regsKept] at hkept
  rw [State.setLatch_csrRecorded] at hrec
  exact ⟨hkept, hrec, (s.onlyCsr_setLatch who none).csrError _ _ _⟩

theorem exec_csrWrite_faulty {s : State} {who : Requester} {off size cause : Nat} (v : W64) (hwho : s.reaches who = true)
    (h : ∀ t : State, t.csrWrite who off size v.toNat 0 = t.csrError cause off true) :
    exec (.csrWrite who off size v) s = .next ((s.setLatch who none).csrError cause off true) := by
  show Host.Outcome.next _ = _
  rw [s.reaches_base hwho, s.reaches_news hwho, s.accessWriteAt_of_reaches hwho, h]

theorem exec_csrFaultyRead_faulty {s : State} {who : Requester} {off size cause data : Nat} (hwho : s.reaches who = true)
    (hf : (accessFault off size).isSome ∨ (subAccesses off size).any (fun a => !assigned a.1))
    (h : s.csrRead who off size 0 = (data, (s.setLatch who none).csrError cause off false)) :
    exec (.csrFaultyRead who off size) s =
      .next (((s.setLatch who none).csrError cause off false).emit (.csrData who off size data)) := by
  show (if _ then Host.Outcome.next _ else _) = _
  rw [if_pos hf, s.readOut_of_reaches hwho (.inl ⟨rfl, rfl⟩)]
  show Host.Outcome.next (State.emit (s.csrRead who off size 0).2 (.csrData who off size (s.csrRead who off size 0).1)) = _
  rw [h]

/-- A faulty write and a faulty read record themselves, and the read returns its data. -/
theorem faulty_recorded {s : State} {who : Requester} {off size cause data : Nat} {v : W64} (hcause : cause < 8)
    (hw : exec (.csrWrite who off size v) s = .next ((s.setLatch who none).csrError cause off true))
    (hr : exec (.csrFaultyRead who off size) s =
      .next (((s.setLatch who none).csrError cause off false).emit (.csrData who off size data))) :
    (∃ t, exec (.csrWrite who off size v) s = .next t ∧ s.regsKept t errorFields ∧ s.csrRecorded t cause off true ∧ s.onlyCsr t) ∧
    (∃ t, exec (.csrFaultyRead who off size) s = .next t ∧ s.regsKept t errorFields ∧ s.csrRecorded t cause off false ∧
      t.outs = s.outs ++ [.csrData who off size data]) := by
  obtain ⟨hkept, hrec, -⟩ := s.csrError_access who off false hcause
  exact ⟨⟨_, hw, s.csrError_access who off true hcause⟩, ⟨_, hr, hkept, hrec, by simp [State.emit]⟩⟩

/-- R7: an access of a wrong size or alignment. -/
theorem misformed_recorded (s : State) (who : Requester) (off size cause : Nat) (v : W64) (hwho : s.reaches who = true)
    (hf : accessFault off size = some cause) :
    (∃ t, exec (.csrWrite who off size v) s = .next t ∧ s.regsKept t errorFields ∧ s.csrRecorded t cause off true ∧ s.onlyCsr t) ∧
    (∃ t, exec (.csrFaultyRead who off size) s = .next t ∧ s.regsKept t errorFields ∧ s.csrRecorded t cause off false ∧
      t.outs = s.outs ++ [.csrData who off size (2 ^ (8 * size) - 1)]) :=
  faulty_recorded (accessFault_lt hf) (exec_csrWrite_faulty v hwho fun t => t.csrWrite_fault who _ _ hf)
    (exec_csrFaultyRead_faulty hwho (.inl (by rw [hf]; rfl)) (s.csrRead_fault who _ hf))

/-- R8: an access of an unassigned offset. -/
theorem unassigned_recorded (s : State) (who : Requester) (off : Nat) (v : W64) (hwho : s.reaches who = true) (hoff : off % 4 = 0)
    (hu : assigned off = false) :
    (∃ t, exec (.csrWrite who off 4 v) s = .next t ∧ s.regsKept t errorFields ∧ s.csrRecorded t 3 off true ∧ s.onlyCsr t) ∧
    (∃ t, exec (.csrFaultyRead who off 4) s = .next t ∧ s.regsKept t errorFields ∧ s.csrRecorded t 3 off false ∧
      t.outs = s.outs ++ [.csrData who off 4 0]) :=
  faulty_recorded (by decide)
    (exec_csrWrite_faulty v hwho fun t => by rw [t.csrWrite_word who _ _ hoff, t.writeOne_unassigned who _ _ _ hu]; rfl)
    (exec_csrFaultyRead_faulty hwho (.inr (by simp [subAccesses_word, hu]))
      (by rw [s.csrRead_word who _ hoff, s.readOne_unassigned who _ _ hu]; rfl))

/-! ### Writes of ordinary registers (R12 to R15) -/

theorem toNat_word_testBit (v : W64) {i : Nat} (hi : i < 32) : (v.toNat % 2 ^ 32).testBit i = v.getLsbD i := by
  rw [Nat.testBit_mod_two_pow, BitVec.testBit_toNat, decide_eq_true hi, Bool.true_and]

/-- The bits of an ordinary register after a write of 4 bytes are as the access codes of its fields say. -/
theorem writtenWord_testBit {d : RegDesc} (hd : Apart d.fields) (locked : Bool) (old : Nat) (v set : W64) {i : Nat} (hi : i < 32) :
    (writeFields d.fields locked old (v.toNat % 2 ^ 32 ^^^ (v.toNat % 2 ^ 32 &&& set.toNat % 2 ^ 32 &&& d.w1c)) (2 ^ 32 - 1)).testBit i =
      d.fields.any (fun f => f.mask.testBit i &&
        bitWritten f.acc locked (old.testBit i) (v.getLsbD i && !(f.acc == .w1c && set.getLsbD i))) := by
  rw [writeFields_testBit _ _ _ _ _ (by rw [Nat.testBit_two_pow_sub_one]; exact decide_eq_true hi), Bool.eq_iff_iff, List.any_eq_true,
    List.any_eq_true]
  refine exists_congr fun f => and_congr_right fun hf => ?_
  cases hmask : f.mask.testBit i with
  | false => simp
  | true => rw [heldBits_testBit hd hf hmask, toNat_word_testBit v hi, toNat_word_testBit set hi]

/-- R14: a write of 4 bytes would change an RWL field. -/
theorem changesLocked_word_iff {d : RegDesc} (hd : Apart d.fields) (old : Nat) (v set : W64) :
    changesLocked d.fields old (v.toNat % 2 ^ 32 ^^^ (v.toNat % 2 ^ 32 &&& set.toNat % 2 ^ 32 &&& d.w1c)) (2 ^ 32 - 1) = true ↔
      ∃ f ∈ d.fields, f.acc = .rwl ∧ ∃ i < 32, f.mask.testBit i = true ∧ old.testBit i ≠ v.getLsbD i := by
  rw [changesLocked_iff]
  refine exists_congr fun f => and_congr_right fun hf => and_congr_right fun hacc => exists_congr fun i => ?_
  rw [Nat.testBit_two_pow_sub_one, decide_eq_true_eq, and_left_comm]
  refine and_congr_right fun hi => and_congr_right fun hmask => ?_
  rw [heldBits_testBit hd hf hmask, toNat_word_testBit v hi, hacc, show (Acc.rwl == Acc.w1c) = false from rfl, Bool.false_and, Bool.not_false,
    Bool.and_true]

/-- R12 to R15: a write of a register without effects of its own. -/
theorem ordinary_written (s : State) (who w : Requester) (d : RegDesc) (r : Nat) (v set : W64) (hwho : s.reaches who = true)
    (hw : w = who ∧ set = 0 ∨ w = .during set who) (hr : r % 4 = 0) (h : ordinaryReg r = true) (ha : s.absentReg r = false)
    (hreg : findReg (regsAt r) r = some (d, r)) :
    ∃ t, exec (.csrWrite w r 4 v) s = .next t ∧
      (∀ i < 32, (t.word r).testBit i = d.fields.any (fun f => f.mask.testBit i &&
        bitWritten f.acc s.locked ((s.word r).testBit i) (v.getLsbD i && !(f.acc == .w1c && set.getLsbD i)))) ∧
      s.regsKept t [⟨r, 63, 0⟩, ⟨0x10, 63, 0⟩, F.GLOBAL_CSR_ERR_CNT.COUNT] ∧
      (s.locked = true → (∃ f ∈ d.fields, f.acc = .rwl ∧ ∃ i < 32, f.mask.testBit i = true ∧ (s.word r).testBit i ≠ v.getLsbD i) →
        s.csrRecorded t 4 r true) ∧
      ((s.locked = false ∨ ∀ f ∈ d.fields, f.acc = .rwl → ∀ i < 32, f.mask.testBit i = true → (s.word r).testBit i = v.getLsbD i) →
        s.regsKept t [⟨r, 63, 0⟩]) ∧
      s.onlyCsr t := by
  have hd := ((RegDesc.sound_iff d).mp (sound_of_findReg hreg)).1
  have hchanges := changesLocked_word_iff hd (s.word r) v set
  set u := s.setLatch who none with hu
  set x := v.toNat % 2 ^ 32 ^^^ (v.toNat % 2 ^ 32 &&& set.toNat % 2 ^ 32 &&& d.w1c) with hx
  have hexec := State.csrWrite_of_ordinary (v := v) hwho hw hr h ha hreg
  rw [State.plainWrite_of_ordinary h hreg, ← hu, ← hx, State.setLatch_locked, State.setLatch_word] at hexec
  have hkept := (u.lockChecked d r r x (2 ^ 32 - 1)).regsKept_setWord r (writeFields d.fields s.locked (s.word r) x (2 ^ 32 - 1))
  refine ⟨_, hexec, fun i hi => ?_, ?_, fun hl hc => ?_, fun hn => ?_, ((s.onlyCsr_setLatch who none).lockChecked _ _ _ _ _).setWord _ _⟩
  · rw [State.word_setWord_same, Nat.testBit_mod_two_pow, writtenWord_testBit hd _ _ _ _ hi]
    simp [show i < 64 by omega]
  · exact (State.setLatch_regsKept s _ who none _).mp (((u.lockChecked_regsKept d r r x (2 ^ 32 - 1)).mono (by simp)).trans (hkept.mono (by simp)))
  · rw [State.lockChecked_of_changes r (by simpa [hu] using hl) (by rw [hu, State.setLatch_word]; exact hchanges.mpr hc)]
    obtain ⟨f, hf, hacc, -⟩ := hc
    obtain ⟨hne, hne'⟩ := ne_errorRegs_of_rwl hreg hf hacc
    exact ((State.setLatch_csrRecorded s _ who none _ _ _).mp (u.csrError_recorded r true (by decide))).setWord _ hne hne'
  · have hnot : u.locked = false ∨ changesLocked d.fields (u.word r) x (2 ^ 32 - 1) = false := by
      rw [hu, State.setLatch_locked, State.setLatch_word]
      refine hn.imp_right fun hn => Bool.eq_false_iff.mpr fun hc => ?_
      obtain ⟨f, hf, hacc, i, hi, hmask, hne⟩ := hchanges.mp hc
      exact hne (hn f hf hacc i hi hmask)
    rw [State.lockChecked_of_not r hnot] at hkept ⊢
    exact (State.setLatch_regsKept s _ who none _).mp hkept

end Sys2Proof.Machine
end
section
/-! Accesses to the CSR space: reads (R9, R12, R13, R16). -/

namespace Sys2Proof.Machine

open Sys2Proof

/-! ### What a read shows -/

/-- R12, R13: a bit of a word shown so far, with bit `i` of a field of `x` added unless the field is write-only or reserved. -/
def shownBit (x i : Nat) (f : Fld) (y : Bool) : Bool := if f.acc = .wo ∨ f.acc = .rsv then y else y || x.testBit i

theorem shown_step_testBit (x i : Nat) (f : Fld) (w : Nat) :
    (if f.acc = .wo ∨ f.acc = .rsv then w else w ||| (x &&& f.mask)).testBit i =
      if f.mask.testBit i then shownBit x i f (w.testBit i) else w.testBit i := by
  by_cases hacc : f.acc = .wo ∨ f.acc = .rsv
  · simp [shownBit, hacc]
  · cases hmask : f.mask.testBit i <;> simp [shownBit, hacc, hmask]

theorem State.shown_eq (s : State) (d : RegDesc) {r : Nat} (new : Nat) (h : ordinaryReg r = true) :
    s.shown d r new = d.fields.foldl (fun w f =>
      if f.acc = .wo ∨ f.acc = .rsv then w else w ||| (beforeNew d.fields (s.word r) new &&& f.mask)) 0 := by
  rw [State.shown, inArray_of_ordinary h (by decide)]; rfl

/-- A field of an ordinary register as a read shows it. -/
theorem State.shown_of_mem (s : State) {d : RegDesc} (hd : Apart d.fields) {r : Nat} (new : Nat) (h : ordinaryReg r = true) {f : Fld}
    (hf : f ∈ d.fields) :
    bitsOf (s.shown d r new) f.hi f.lo =
      if f.acc = .wo ∨ f.acc = .rsv then 0 else if f.acc = .rc then bitsOf (s.word r) f.hi f.lo - bitsOf new f.hi f.lo
      else bitsOf (s.word r) f.hi f.lo := by
  have hbit := fun j (hj : j < f.hi + 1 - f.lo) =>
    testBit_foldl_of_mem (b := shownBit (beforeNew d.fields (s.word r) new) (f.lo + j)) (shown_step_testBit _ _) hd 0 hf (f.mask_testBit_add hj)
  rw [s.shown_eq d new h]
  split
  case isTrue hacc =>
    exact bitsOf_eq (Nat.two_pow_pos _) fun j hj => by rw [hbit j hj, shownBit, if_pos hacc, Nat.zero_testBit, Nat.zero_testBit]
  case isFalse hacc =>
    rw [← beforeNew_of_mem hd (s.word r) new hf]
    exact bitsOf_congr fun j hj => by rw [hbit j hj, shownBit, if_neg hacc, Nat.zero_testBit, Bool.false_or]

/-- A bit of no field reads zero. -/
theorem State.shown_uncovered (s : State) (d : RegDesc) {r : Nat} (new : Nat) (h : ordinaryReg r = true) {i : Nat}
    (hi : ∀ f ∈ d.fields, f.mask.testBit i = false) : (s.shown d r new).testBit i = false := by
  rw [s.shown_eq d new h, testBit_foldl_of_uncovered (shown_step_testBit (beforeNew d.fields (s.word r) new) i) 0 hi, Nat.zero_testBit]

/-! ### What a read does -/

/-- The effect of a read of a register that is no head of a FIFO: its RC fields clear, and the most slots in use begin again. -/
theorem State.readEffect_eq (s : State) (d : RegDesc) (r m new : Nat) (valid : Bool) (hq : eventFifos.find? (fun q => q.addr == r) = none)
    (ht : inArray r 0xD01000 0x10 16 = false) :
    s.readEffect d r m new valid =
      if inArray r 0x1000400 4 4 then
        (s.setWord r (readClear d.fields (s.word r) m new)).wr (F.CIPHER_SUSP.PEAK ((r - 0x1000400) / 4))
          ((s.setWord r (readClear d.fields (s.word r) m new)).rd (F.CIPHER_SUSP.IN_USE ((r - 0x1000400) / 4)))
      else s.setWord r (readClear d.fields (s.word r) m new) := by
  simp only [State.readEffect, hq, ht, Bool.false_eq_true, false_and, if_false]

/-- What the host and the other requester see is the same. -/
abbrev State.quiet (s t : State) : Prop := t.latchPf0 = s.latchPf0 ∧ t.latchCob = s.latchCob ∧ t.outs = s.outs

theorem State.quiet.trans {s t u : State} (h : s.quiet t) (h' : t.quiet u) : s.quiet u := by
  obtain ⟨⟨hp, hc, ho⟩, hp', hc', ho'⟩ := And.intro h h'
  exact ⟨hp'.trans hp, hc'.trans hc, ho'.trans ho⟩

theorem State.setWord_quiet (s : State) (a v : Nat) : s.quiet (s.setWord a v) := ⟨rfl, rfl, rfl⟩

theorem State.wr_quiet (s : State) (f : FRef) (v : Nat) : s.quiet (s.wr f v) := ⟨rfl, rfl, rfl⟩

theorem State.setFifo_quiet (s : State) (q : FifoRef) (f : Fifo) : s.quiet (s.setFifo q f) := ⟨rfl, rfl, rfl⟩

theorem State.popTxts_quiet (s : State) (p : Nat) : s.quiet (s.popTxts p) := by
  have hset : ∀ l, s.quiet (s.setTxts p l)
    | [] => ⟨rfl, rfl, rfl⟩
    | _ :: _ => ⟨rfl, rfl, rfl⟩
  exact (hset _).trans (State.wr_quiet _ _ _)

theorem State.readEffect_quiet (s : State) (d : RegDesc) (r m new : Nat) (valid : Bool) : s.quiet (s.readEffect d r m new valid) := by
  rw [State.readEffect]
  split
  · split_ifs
    · exact ⟨rfl, rfl, rfl⟩
    · exact s.setFifo_quiet _ _
    · exact s.setFifo_quiet _ _
  · split_ifs
    · exact s.popTxts_quiet _
    · exact (s.setWord_quiet _ _).trans (State.wr_quiet _ _ _)
    · exact s.setWord_quiet _ _

/-- What a read of 4 bytes at `off` returns of a register at `r` that shows `w`: the lower half, or the upper half as it may be latched. -/
def State.halfShown (s : State) (who : Requester) (off r w : Nat) : Nat :=
  if off = r then w % 2 ^ 32
  else match s.latchOf who with
    | some (r', h) => if r' = r then h else w / 2 ^ 32
    | none => w / 2 ^ 32

/-- The state behind a read of 4 bytes at `off` of a register at `r`. -/
def State.halfRead (s : State) (who : Requester) (d : RegDesc) (off r new : Nat) : State :=
  (s.setLatch who none).readEffect d r ((2 ^ 32 - 1) <<< (8 * (off - r))) new
    (if off = r then (s.halfShown who off r (s.shown d r new)).testBit 63 else (s.halfShown who off r (s.shown d r new)).testBit 31)

theorem State.readOne_of_reg (s : State) (who : Requester) {off r : Nat} {d : RegDesc} (new : Nat) (hwin : inWindow off = false)
    (hreg : findReg (regsAt off) off = some (d, r)) (ha : s.absentReg r = false) :
    s.readOne who off 4 new =
      (s.halfShown who off r (s.shown d r (new <<< (8 * (off - r)))),
       if d.width = 64 ∧ off = r ∧ d.hwUpdated = true then
         (s.halfRead who d off r (new <<< (8 * (off - r)))).setLatch who (some (r, s.shown d r (new <<< (8 * (off - r))) / 2 ^ 32))
       else s.halfRead who d off r (new <<< (8 * (off - r)))) := by
  obtain ⟨ht, hls, hla, hcs, hca⟩ := (inWindow_false_iff off).mp hwin
  simp only [State.readOne, ht, hls, hla, hcs, hca, hreg, State.setLatch_absentReg, ha, State.setLatch_shown, Bool.false_eq_true, if_false,
    or_self, true_and]
  rfl

section Whole

variable (s : State) (who : Requester) {r : Nat} {d : RegDesc} (h : ordinaryReg r = true) (ha : s.absentReg r = false)
  (hreg : findReg (regsAt r) r = some (d, r))

include h ha hreg

/-- A read of the whole of an ordinary register of 32 bits. -/
theorem State.csrRead_of_word (new : Nat) (hr : r % 4 = 0) (hw : d.width = 32) :
    s.csrRead who r 4 new = (s.shown d r (new % 2 ^ 32) % 2 ^ 32, s.halfRead who d r r (new % 2 ^ 32)) := by
  have hne : ¬ (d.width = 64 ∧ r = r ∧ d.hwUpdated = true) := by simp [hw]
  rw [s.csrRead_word who _ hr, s.readOne_of_reg who _ (inWindow_of_ordinary h) hreg ha, if_neg hne, State.halfShown, if_pos rfl, Nat.sub_self,
    Nat.mul_zero, Nat.shiftLeft_zero]

/-- A read of the lower half of an ordinary register of 64 bits that hardware updates. -/
theorem State.csrRead_of_lower (hr : r % 4 = 0) (hw : d.width = 64) (hup : d.hwUpdated = true) :
    s.csrRead who r 4 0 = (s.shown d r 0 % 2 ^ 32, (s.halfRead who d r r 0).setLatch who (some (r, s.shown d r 0 / 2 ^ 32))) := by
  rw [s.csrRead_word who _ hr, s.readOne_of_reg who _ (inWindow_of_ordinary h) hreg ha, if_pos ⟨hw, rfl, hup⟩, State.halfShown, if_pos rfl,
    Nat.sub_self, Nat.mul_zero, Nat.shiftLeft_zero, Nat.zero_mod]

end Whole

theorem State.halfRead_quiet (s : State) (who : Requester) (d : RegDesc) (off r new : Nat) :
    (s.setLatch who none).quiet (s.halfRead who d off r new) := State.readEffect_quiet _ _ _ _ _ _

@[simp] theorem State.halfRead_outs (s : State) (who : Requester) (d : RegDesc) (off r new : Nat) :
    (s.halfRead who d off r new).outs = s.outs := by
  obtain ⟨-, -, ho⟩ := s.halfRead_quiet who d off r new
  exact ho.trans (s.setLatch_outs who none)

/-- The state behind a read of a whole register that is no head of a FIFO. -/
theorem State.halfRead_eq (s : State) (who : Requester) (d : RegDesc) {r : Nat} (new : Nat)
    (hq : eventFifos.find? (fun q => q.addr == r) = none) (ht : inArray r 0xD01000 0x10 16 = false) :
    s.halfRead who d r r new =
      let t := (s.setLatch who none).setWord r (readClear d.fields (s.word r) (2 ^ 32 - 1) new)
      if inArray r 0x1000400 4 4 then
        t.wr (F.CIPHER_SUSP.PEAK ((r - 0x1000400) / 4)) (t.rd (F.CIPHER_SUSP.IN_USE ((r - 0x1000400) / 4)))
      else t := by
  rw [State.halfRead, State.readEffect_eq _ _ _ _ _ _ hq ht, State.setLatch_word, Nat.sub_self, Nat.mul_zero, Nat.shiftLeft_zero]

/-- A read keeps every field but the RC fields of its register. -/
theorem State.regsKept_readClear (s : State) {d : RegDesc} (hd : Apart d.fields) (r m new : Nat) {fs : List FRef}
    (hfs : ∀ f ∈ d.fields, f.acc = .rc → ⟨r, f.hi, f.lo⟩ ∈ fs) : s.regsKept (s.setWord r (readClear d.fields (s.word r) m new)) fs := by
  intro g hg
  by_cases ha : g.addr = r
  · rw [State.rd, State.rd, ha, State.word_setWord_same]
    refine bitsOf_congr fun j hj => ?_
    rw [Nat.testBit_mod_two_pow, readClear_testBit_of_kept hd _ _ _ fun f hf hacc => ?_]
    · by_cases h64 : g.lo + j < 64
      · simp [h64]
      · simp [h64, Nat.testBit_lt_two_pow (Nat.lt_of_lt_of_le (s.word_lt r) (Nat.pow_le_pow_right Nat.two_pos (Nat.not_lt.mp h64)))]
    · have hapart := hg _ (hfs f hf hacc)
      simp only [ha, ne_eq, not_true_eq_false, false_or] at hapart
      rw [Fld.mask_testBit, decide_eq_false_iff_not]
      omega
  · rw [State.rd, State.rd, State.word_setWord_other _ _ _ _ ha]

/-- A read of a requester that reaches the space, by itself or in a cycle with events, answers its data. -/
theorem exec_rcRead_of_reaches {s t : State} {who w : Requester} {x : W64} {off size v : Nat} (hwho : s.reaches who = true)
    (hw : w = who ∧ x = 0 ∨ w = .during x who) (h : s.csrRead who off size x.toNat = (v, t)) :
    exec (.rcRead w off size) s = .next (t.emit (.csrData who off size v)) := by
  show Host.Outcome.next (s.readOut w off size) = _
  rw [s.readOut_of_reaches hwho hw, h]

theorem exec_lowerHalfRead_of_reaches {s t : State} {who : Requester} {off v : Nat} (hwho : s.reaches who = true)
    (h : s.csrRead who off 4 0 = (v, t)) : exec (.csrLowerHalfRead who off) s = .next (t.emit (.csrData who off 4 v)) :=
  exec_rcRead_of_reaches (x := 0) hwho (.inl ⟨rfl, rfl⟩) h

/-! ### Reads of ordinary registers (R12, R13, R16) -/

theorem wordMask_testBit {i : Nat} (h : i < 32) : (2 ^ 32 - 1).testBit i = true := by rw [Nat.testBit_two_pow_sub_one]; exact decide_eq_true h

/-- The low bits of a word are those of its remainder. -/
theorem bitsOf_mod (w n : Nat) {hi lo : Nat} (h : hi < n) : bitsOf (w % 2 ^ n) hi lo = bitsOf w hi lo :=
  bitsOf_congr fun j _ => by rw [Nat.testBit_mod_two_pow, decide_eq_true (by omega), Bool.true_and]

/-- R12, R13, R16: a read of a register of 32 bits that is no head of a FIFO. -/
theorem ordinary_read (s : State) (who w : Requester) (d : RegDesc) (r : Nat) (new : W64) (hwho : s.reaches who = true)
    (hw : w = who ∧ new = 0 ∨ w = .during new who) (hr : r % 4 = 0) (h : ordinaryReg r = true) (ha : s.absentReg r = false)
    (hreg : findReg (regsAt r) r = some (d, r)) (hwidth : d.width = 32) (hq : eventFifos.find? (fun q => q.addr == r) = none)
    (ht : inArray r 0xD01000 0x10 16 = false) (hp : inArray r 0x1000400 4 4 = false) :
    ∃ t x, exec (.rcRead w r 4) s = .next t ∧ t.outs = s.outs ++ [.csrData who r 4 x] ∧
      (∀ f ∈ d.fields, let old := bitsOf (s.word r) f.hi f.lo
        bitsOf x f.hi f.lo = (if f.acc = .wo ∨ f.acc = .rsv then 0 else if f.acc = .rc then old - bitsOf new.toNat f.hi f.lo else old) ∧
        bitsOf (t.word r) f.hi f.lo = if f.acc = .rc then min old (bitsOf new.toNat f.hi f.lo) else old) ∧
      (∀ i < 32, (∀ f ∈ d.fields, f.mask.testBit i = false) → x.testBit i = false ∧ (t.word r).testBit i = (s.word r).testBit i) ∧
      s.regsKept t [⟨r, 63, 0⟩] := by
  obtain ⟨hd, hfit⟩ := (RegDesc.sound_iff d).mp (sound_of_findReg hreg)
  set c := readClear d.fields (s.word r) (2 ^ 32 - 1) (new.toNat % 2 ^ 32) with hc
  have hread : s.csrRead who r 4 new.toNat = (s.shown d r (new.toNat % 2 ^ 32) % 2 ^ 32, (s.setLatch who none).setWord r c) := by
    rw [s.csrRead_of_word who h ha hreg new.toNat hr hwidth, s.halfRead_eq who d _ hq ht, hp]; rfl
  refine ⟨_, s.shown d r (new.toNat % 2 ^ 32) % 2 ^ 32, exec_rcRead_of_reaches hwho hw hread, ?_, fun f hf => ?_, fun i hi hun => ?_, ?_⟩
  · simp [State.emit]
  · have hf32 : f.hi < 32 := hwidth ▸ hfit f hf
    have hword : bitsOf (((s.setLatch who none).setWord r c).word r) f.hi f.lo = bitsOf c f.hi f.lo := by
      rw [State.word_setWord_same, bitsOf_mod _ _ (by omega)]
    constructor
    · rw [bitsOf_mod _ _ hf32, s.shown_of_mem hd _ h hf, bitsOf_mod _ _ hf32]
    · refine hword.trans ?_
      rw [hc, readClear_of_mem hd _ _ _ hf fun j hj => wordMask_testBit (by omega), Fld.late, bitsOf_mod _ _ hf32]
  · constructor
    · rw [Nat.testBit_mod_two_pow, s.shown_uncovered d _ h hun, Bool.and_false]
    · show (((s.setLatch who none).setWord r c).word r).testBit i = _
      rw [State.word_setWord_same, Nat.testBit_mod_two_pow, decide_eq_true (by omega), Bool.true_and, hc,
        readClear_testBit_of_kept hd _ _ _ fun f hf _ => hun f hf]
  · exact (State.setLatch_regsKept s _ who none _).mp ((s.setLatch who none).regsKept_setWord r c)

end Sys2Proof.Machine
end
section
/-! Accesses to the CSR space: the suspension slots, the latches of upper halves (R9), and requesters that do not reach the space (R6). -/

namespace Sys2Proof.Machine

open Sys2Proof

/-! ### The most suspension slots in use (R16) -/

/-- The descriptor of CIPHER_SUSP. -/
def suspReg : RegDesc :=
  ⟨0x1000400, 4, 0x4, 1, 0x0, 32, false, [⟨31, 23, .rsv, 0⟩, ⟨22, 16, .rc, 0⟩, ⟨15, 7, .rsv, 0⟩, ⟨6, 0, .ro, 0⟩]⟩

theorem suspReg_found : ∀ k < 4, findReg (regsAt (0x1000400 + 4 * k)) (0x1000400 + 4 * k) = some (suspReg, 0x1000400 + 4 * k) := by
  decide +kernel

theorem suspReg_plain : ∀ k < 4, ordinaryReg (0x1000400 + 4 * k) = true ∧
    (eventFifos.find? (fun q => q.addr == 0x1000400 + 4 * k)).isNone = true ∧ inArray (0x1000400 + 4 * k) 0xD01000 0x10 16 = false ∧
    inArray (0x1000400 + 4 * k) 0x1000400 4 4 = true := by
  decide +kernel

theorem State.suspReg_present (s : State) {k : Nat} (hk : k < 4) : s.absentReg (0x1000400 + 4 * k) = false := by
  have hout : ∀ b st : Nat, (b, st) ∈ [(0xC00100, 0x20), (0xC40000, 0x80), (0xB00000, 0x10), (0xB00400, 0x20), (0xD00100, 0x8), (0xD01000, 0x10),
      (0x1700100, 0x20), (0x1701000, 0x20), (0x1730000, 0x100)] → inArray (0x1000400 + 4 * k) b st 16 = false := by
    intro b st hm
    simp only [List.mem_cons, List.not_mem_nil, or_false, Prod.mk.injEq] at hm
    simp only [inArray, Bool.and_eq_false_iff, decide_eq_false_iff_not]
    omega
  simp (disch := decide) [State.absentReg, hout]

/-- R16: a read of CIPHER_SUSP shows both numbers, and the most slots in use are then those in use at it. -/
theorem susp_read (s : State) (who : Requester) (k : Nat) (hwho : s.reaches who = true) (hk : k < 4) :
    ∃ t x, exec (.rcRead who (0x1000400 + 4 * k) 4) s = .next t ∧ t.outs = s.outs ++ [.csrData who (0x1000400 + 4 * k) 4 x] ∧
      (F.CIPHER_SUSP.PEAK k).get x = s.rd (F.CIPHER_SUSP.PEAK k) ∧ (F.CIPHER_SUSP.IN_USE k).get x = s.rd (F.CIPHER_SUSP.IN_USE k) ∧
      t.rd (F.CIPHER_SUSP.PEAK k) = s.rd (F.CIPHER_SUSP.IN_USE k) ∧ s.regsKept t [F.CIPHER_SUSP.PEAK k] := by
  obtain ⟨h, hq, ht, hin⟩ := suspReg_plain k hk
  have hreg := suspReg_found k hk
  have hd : Apart suspReg.fields := ((RegDesc.sound_iff _).mp (sound_of_findReg hreg)).1
  have hread := s.csrRead_of_word who h (s.suspReg_present hk) hreg 0 (by omega) rfl
  rw [s.halfRead_eq who _ _ (Option.isNone_iff_eq_none.mp hq) ht, hin, if_pos rfl, Nat.add_sub_cancel_left,
    Nat.mul_div_cancel_left _ (by decide), Nat.zero_mod] at hread
  set r := 0x1000400 + 4 * k with hr
  set c := readClear suspReg.fields (s.word r) (2 ^ 32 - 1) 0 with hc
  set u := (s.setLatch who none).setWord r c with hu
  have hpeak : ⟨22, 16, .rc, 0⟩ ∈ suspReg.fields := by decide
  have huse : ⟨6, 0, .ro, 0⟩ ∈ suspReg.fields := by decide
  have hword : u.rd (F.CIPHER_SUSP.IN_USE k) = s.rd (F.CIPHER_SUSP.IN_USE k) := by
    show bitsOf (u.word r) 6 0 = bitsOf (s.word r) 6 0
    rw [hu, State.word_setWord_same, bitsOf_mod _ _ (by decide), hc]
    exact readClear_of_mem hd _ _ _ huse fun j hj => wordMask_testBit (by simp at hj ⊢; omega)
  have hkept : s.regsKept u [F.CIPHER_SUSP.PEAK k] := by
    have := (s.setLatch who none).regsKept_readClear hd r (2 ^ 32 - 1) 0 (fs := [F.CIPHER_SUSP.PEAK k]) (by
      simp [suspReg, F.CIPHER_SUSP.PEAK, hr])
    rwa [State.setLatch_word, State.setLatch_regsKept] at this
  refine ⟨_, s.shown suspReg r 0 % 2 ^ 32, exec_rcRead_of_reaches (x := 0) hwho (.inl ⟨rfl, rfl⟩) hread, ?_, ?_, ?_, ?_, ?_⟩
  · simp [State.emit, hu]
  · refine (bitsOf_mod _ 32 (by simp [F.CIPHER_SUSP.PEAK])).trans ((s.shown_of_mem hd 0 h hpeak).trans ?_)
    simp [State.rd, bitsOf, F.CIPHER_SUSP.PEAK, hr]
  · exact (bitsOf_mod _ 32 (by simp [F.CIPHER_SUSP.IN_USE])).trans (s.shown_of_mem hd 0 h huse)
  · refine (State.rd_wr_same u (F.CIPHER_SUSP.PEAK k) _ (by simp [F.CIPHER_SUSP.PEAK])).trans ?_
    rw [hword]
    exact Nat.mod_eq_of_lt (s.rd_lt _)
  · exact State.regsKept.trans hkept (u.regsKept_wr (F.CIPHER_SUSP.PEAK k) _ (by simp [F.CIPHER_SUSP.PEAK]))

/-! ### The latches of upper halves (R9) -/

/-- The upper half of a register in no window lies in none. -/
theorem inWindow_upper {r : Nat} (hr : r % 8 = 0) (h : inWindow r = false) : inWindow (r + 4) = false := by
  simp only [inWindow, inTables, inLaceShadow, inLaceActive, inCardShadow, inCardActive, Bool.or_eq_false_iff, Bool.and_eq_false_iff,
    decide_eq_false_iff_not] at h ⊢
  omega

/-- A read of the upper half returns what the read of the lower half has latched. -/
theorem State.csrRead_of_latched {s : State} {who : Requester} {r h : Nat} {d : RegDesc} (hr : r % 8 = 0) (hwin : inWindow r = false)
    (hreg : findReg (regsAt (r + 4)) (r + 4) = some (d, r)) (ha : s.absentReg r = false) (hl : s.latchOf who = some (r, h)) :
    s.csrRead who (r + 4) 4 0 = (h, s.halfRead who d (r + 4) r 0) := by
  have hne : ¬ r + 4 = r := by omega
  have hne' : ¬ (d.width = 64 ∧ r + 4 = r ∧ d.hwUpdated = true) := fun hc => hne hc.2.1
  rw [s.csrRead_word who _ (by omega), s.readOne_of_reg who _ (inWindow_upper hr hwin) hreg ha, if_neg hne', State.halfShown, if_neg hne, hl,
    Nat.zero_mod, Nat.zero_shiftLeft]
  simp

/-- R9: the halves of a 64-bit register that hardware updates, read one after the other. -/
theorem halves_read (s : State) (who : Requester) (d : RegDesc) (r : Nat) (hwho : s.reaches who = true) (hr : r % 8 = 0)
    (h : ordinaryReg r = true) (ha : s.absentReg r = false) (hreg : findReg (regsAt r) r = some (d, r))
    (hreg' : findReg (regsAt (r + 4)) (r + 4) = some (d, r)) (hw : d.width = 64) (hup : d.hwUpdated = true) :
    ∃ t w, exec (.csrLowerHalfRead who r) s = .next t ∧ t.outs = s.outs ++ [.csrData who r 4 (w % 2 ^ 32)] ∧ w = s.shown d r 0 ∧
      t.latchOf who = some (r, w / 2 ^ 32) ∧
      (∀ u : State, u.reaches who = true → u.latchOf who = some (r, w / 2 ^ 32) → u.absentReg r = false →
        ∃ x, exec (.csrLowerHalfRead who (r + 4)) u = .next x ∧ x.outs = u.outs ++ [.csrData who (r + 4) 4 (w / 2 ^ 32)]) := by
  have hlow := exec_lowerHalfRead_of_reaches hwho (s.csrRead_of_lower who h ha hreg (by omega) hw hup)
  refine ⟨_, s.shown d r 0, hlow, by simp [State.emit], rfl, ?_, fun u hu hl hua => ?_⟩
  · exact (State.latchOf_congr (s := (s.halfRead who d r r 0).setLatch who (some (r, s.shown d r 0 / 2 ^ 32))) rfl rfl who).trans
      (s.setLatch_latchOf_same who _ hwho _)
  · exact ⟨_, exec_lowerHalfRead_of_reaches hu (u.csrRead_of_latched hr (inWindow_of_ordinary h) hreg' hua hl), by simp [State.emit]⟩

/-! ### The latch of the other requester (R9) -/

/-- A read of a window ends the latch of its requester, and changes nothing else. -/
theorem State.readOne_of_window (s : State) (who : Requester) {off : Nat} (size new : Nat) (h : inWindow off = true) :
    (s.readOne who off size new).2 = s.setLatch who none := by
  have hwin : inTables off = true ∨ (inLaceShadow off = true ∨ inLaceActive off = true) ∨
      (inCardShadow off = true ∨ inCardActive off = true) := by
    simpa [inWindow, or_assoc] using h
  by_cases ht : inTables off = true
  · simp [State.readOne, ht]
  · by_cases hl : inLaceShadow off = true ∨ inLaceActive off = true
    · simp [State.readOne, ht, hl]
    · simp [State.readOne, ht, hl, (hwin.resolve_left ht).resolve_left hl]

/-- A read of a register that the part does not have returns zero. -/
theorem State.readOne_of_absent (s : State) (who : Requester) {off r : Nat} {d : RegDesc} (size new : Nat) (hwin : inWindow off = false)
    (hreg : findReg (regsAt off) off = some (d, r)) (ha : s.absentReg r = true) : s.readOne who off size new = (0, s.setLatch who none) := by
  obtain ⟨ht, hls, hla, hcs, hca⟩ := (inWindow_false_iff off).mp hwin
  simp [State.readOne, ht, hls, hla, hcs, hca, hreg, ha]

section Other

variable (s : State) {who other : Requester} (h : who ≠ other)
include h

theorem State.halfRead_latchOf_other (d : RegDesc) (off r new : Nat) : (s.halfRead other d off r new).latchOf who = s.latchOf who := by
  obtain ⟨hp, hc, -⟩ := s.halfRead_quiet other d off r new
  exact (State.latchOf_congr hp hc who).trans (s.setLatch_latchOf_other who none h)

theorem State.readOne_latchOf_other (off new : Nat) : (s.readOne other off 4 new).2.latchOf who = s.latchOf who := by
  have hset : (s.setLatch other none).latchOf who = s.latchOf who := s.setLatch_latchOf_other who none h
  by_cases hwin : inWindow off = true
  · rwa [s.readOne_of_window other 4 new hwin]
  have hwin : inWindow off = false := by simpa using hwin
  rcases hreg : findReg (regsAt off) off with _ | ⟨d, r⟩
  · rw [s.readOne_unassigned other 4 new ((unassigned_iff off).mpr ⟨hwin, hreg⟩)]
    exact (State.latchOf_congr (by simp) (by simp) who).trans hset
  by_cases ha : s.absentReg r = true
  · rwa [s.readOne_of_absent other 4 new hwin hreg ha]
  rw [s.readOne_of_reg other new hwin hreg (by simpa using ha)]
  dsimp only
  split
  · exact (State.setLatch_latchOf_other _ _ _ h).trans (s.halfRead_latchOf_other h d _ _ _)
  · exact s.halfRead_latchOf_other h d _ _ _

theorem State.csrRead_latchOf_other (off new : Nat) : (s.csrRead other off 4 new).2.latchOf who = s.latchOf who := by
  by_cases hoff : off % 4 = 0
  · rw [s.csrRead_word other new hoff]
    exact s.readOne_latchOf_other h _ _
  · rw [s.csrRead_fault other new (cause := causeUnaligned) (by simp [accessFault, hoff])]
    exact (State.latchOf_congr (by simp) (by simp) who).trans (s.setLatch_latchOf_other who none h)

/-- Whether or not the space is open to it, PF0 or the Cobbler leaves the other's latch. -/
theorem State.accessReadAt_latchOf_other (hother : other = .pf0 ∨ other = .cobbler) (off new : Nat) :
    (s.accessReadAt other off 4 new).2.latchOf who = s.latchOf who := by
  unfold State.accessReadAt
  split
  · rfl
  split
  · rfl
  rcases hother with rfl | rfl
  · dsimp only
    split
    · exact State.latchOf_congr rfl rfl who
    · exact s.csrRead_latchOf_other h off new
  · exact s.csrRead_latchOf_other h off new

end Other

/-- A read by one of PF0 and the Cobbler leaves the other's latch. -/
theorem lowerHalf_latchOf_other (s : State) (who other : Requester) (off : Nat) (h : who ≠ other)
    (hf : ∀ f, other ≠ .fcp f ∧ other ≠ .msix f) (hd : ∀ x o, other ≠ .during x o) :
    ∃ t, exec (.csrLowerHalfRead other off) s = .next t ∧ t.latchOf who = s.latchOf who := by
  have hother : other = .pf0 ∨ other = .cobbler := by
    cases other with
    | pf0 => exact .inl rfl
    | cobbler => exact .inr rfl
    | fcp f => exact absurd rfl (hf f).1
    | msix f => exact absurd rfl (hf f).2
    | during x o => exact absurd rfl (hd x o)
  have hbase : other.base = other := by rcases hother with rfl | rfl <;> rfl
  refine ⟨_, rfl, ?_⟩
  rw [← s.accessReadAt_latchOf_other h hother off other.news, State.readOut, hbase]
  split
  next hread => rw [hread]; exact State.latchOf_congr rfl rfl who
  next hread => rw [hread]

/-! ### Requesters that do not reach the space (R6) -/

/-- A function's control page before the gate has opened. -/
theorem fcpWrite_shut (s : State) (f off size : Nat) (v : W64) (h : s.locked = false) : exec (.csrWrite (.fcp f) off size v) s = .next s := by
  show Host.Outcome.next (s.accessWriteAt (.fcp f) off size v.toNat 0) = _
  simp [State.accessWriteAt, State.csrOpen, h]

/-- PF0 before the gate has opened, but in ROM recovery. -/
theorem pf0_shut (s : State) (off size : Nat) (v : W64) (h : s.locked = false) (hb : s.cob.boot.stage ≠ .recovery) :
    exec (.csrWrite .pf0 off size v) s = .next s ∧ exec (.rcRead .pf0 off size) s = .next s := by
  have hopen : s.csrOpen .pf0 = false := by simp [State.csrOpen, h, hb]
  constructor
  · show Host.Outcome.next (s.accessWriteAt .pf0 off size v.toNat 0) = _
    rw [State.accessWriteAt, if_pos (.inl hopen)]
  · show Host.Outcome.next (s.readOut .pf0 off size) = _
    simp [State.readOut, Requester.base, State.accessReadAt, hopen]

end Sys2Proof.Machine
end
section

open Sys2Proof Sys2Proof.Machine

/-- Settles O4: each clause is one of the cases above of an access to the space (a faulty one, one of an unassigned offset, a write and a
read of an ordinary register, the suspension slots, the two halves of a register, the other requester, and a space that is shut). -/
theorem csrAccesses : Obligations.CsrAccesses :=
  ⟨misformed_recorded, unassigned_recorded,
    fun s who w d r v set hwho hw hr h ha hreg _ => ordinary_written s who w d r v set hwho hw hr h ha hreg,
    ordinary_read, susp_read,
    fun s who d r hwho hr h ha hreg hreg' hw hup _ _ _ => halves_read s who d r hwho hr h ha hreg hreg' hw hup,
    lowerHalf_latchOf_other, fcpWrite_shut, pf0_shut⟩

end

section
/-! The state of the stitch and the lacing: how a change of registers or of the record of the lacing reads (R20 to R26, R42 to R44). -/

namespace Sys2Proof.Machine

open Sys2Proof

/-! ### Register fields after a chain of updates -/

@[simp] theorem State.regsKept_refl (s : State) (fs : List FRef) : s.regsKept s fs := fun _ _ => rfl

/-- Setting one of the fields listed keeps every field apart from them. -/
theorem State.regsKept.wr {s t : State} {fs : List FRef} (h : s.regsKept t fs) {f : FRef} (v : Nat) (hm : f ∈ fs) (hf : f.hi < 64) :
    s.regsKept (t.wr f v) fs :=
  h.trans ((t.regsKept_wr f v hf).mono (by simpa using hm))

theorem State.regsKept.count {s t : State} {fs : List FRef} (h : s.regsKept t fs) {f : FRef} (n : Nat) (hm : f ∈ fs) (hf : f.hi < 64) :
    s.regsKept (t.count f n) fs :=
  h.wr _ hm hf

theorem State.flag_iff (s : State) (f : FRef) : s.flag f = true ↔ s.rd f = 1 := by simp [State.flag]

end Sys2Proof.Machine
end

section
/-! Changing the stitch length: what a write of STITCH_LEN and the boundary of R24 come to (R24 to R26). -/

namespace Sys2Proof.Machine

open Sys2Proof

/-! ### The write of STITCH_LEN -/

/-- The state in which a write of STITCH_LEN is judged: REJECT has cleared where a 1 is written to it (R15). -/
def State.rejectCleared (s : State) (v : Nat) : State := if v.testBit 31 then s.wr F.STITCH_LEN.REJECT 0 else s

theorem State.rejectCleared_frame (s : State) (v : Nat) : { s.rejectCleared v with csr := s.csr } = s := by
  unfold State.rejectCleared; split <;> rfl

@[simp] theorem State.rejectCleared_lace (s : State) (v : Nat) : (s.rejectCleared v).lace = s.lace := by
  unfold State.rejectCleared; split <;> rfl

@[simp] theorem State.rejectCleared_clk (s : State) (v : Nat) : (s.rejectCleared v).clk = s.clk := by
  unfold State.rejectCleared; split <;> rfl

theorem State.rejectCleared_reject (s : State) (v : Nat) :
    (s.rejectCleared v).rd F.STITCH_LEN.REJECT = if v.testBit 31 then 0 else s.rd F.STITCH_LEN.REJECT := by
  unfold State.rejectCleared
  split
  · rw [State.rd_wr_same _ _ _ (by decide), Nat.zero_mod]
  · rfl

theorem State.rejectCleared_regsKept (s : State) (v : Nat) : s.regsKept (s.rejectCleared v) [F.STITCH_LEN.REJECT] := by
  unfold State.rejectCleared
  split
  · exact s.regsKept_wr _ _ (by decide)
  · exact s.regsKept_refl _

theorem State.rejectCleared_pending (s : State) (v : Nat) : (s.rejectCleared v).rd F.STITCH_LEN.PENDING = s.rd F.STITCH_LEN.PENDING :=
  s.rejectCleared_regsKept v _ (by decide)

theorem State.rejectCleared_cur (s : State) (v : Nat) : (s.rejectCleared v).rd F.STITCH_LEN.CUR = s.rd F.STITCH_LEN.CUR :=
  s.rejectCleared_regsKept v _ (by decide)

/-- The request that a write of STITCH_LEN makes: bits 5 and 4. -/
theorem bitsOf_five_four (v : Nat) : bitsOf v 5 4 = v / 16 % 4 := by simp [bitsOf, Nat.shiftRight_eq_div_pow]

/-- A stitch length has been asked for and waits. -/
def State.lenAsked (s : State) (req : Nat) : State :=
  ({ s with lace := { s.lace with lenReqAt := some s.clk.cycles } }.wr F.STITCH_LEN.REQ req).wr F.STITCH_LEN.PENDING 1

/-- A write of STITCH_LEN: refused while a change or a commit waits, and otherwise without a change or the begin of one. -/
theorem State.stitchLenWrite_eq (s : State) (v : Nat) : s.stitchLenWrite v =
    if s.rd F.STITCH_LEN.PENDING = 1 ∨ s.lace.commit.isSome then (s.rejectCleared v).wr F.STITCH_LEN.REJECT 1
    else if v / 16 % 4 = s.rd F.STITCH_LEN.CUR then (s.rejectCleared v).wr F.STITCH_LEN.REQ (v / 16 % 4)
    else (s.rejectCleared v).lenAsked (v / 16 % 4) := by
  have hjudged : s.stitchLenWrite v = if (s.rejectCleared v).flag F.STITCH_LEN.PENDING ∨ (s.rejectCleared v).lace.commit.isSome then
        (s.rejectCleared v).wr F.STITCH_LEN.REJECT 1
      else if bitsOf v 5 4 = (s.rejectCleared v).rd F.STITCH_LEN.CUR then (s.rejectCleared v).wr F.STITCH_LEN.REQ (bitsOf v 5 4)
      else ((s.rejectCleared v).lenAsked (bitsOf v 5 4)) := rfl
  simp only [hjudged, State.flag_iff, State.rejectCleared_pending, State.rejectCleared_lace, State.rejectCleared_cur, bitsOf_five_four]

theorem State.lenAsked_lace (s : State) (req : Nat) : (s.lenAsked req).lace = { s.lace with lenReqAt := some s.clk.cycles } := rfl

theorem State.lenAsked_regsKept (s : State) (req : Nat) : s.regsKept (s.lenAsked req) [F.STITCH_LEN.REQ, F.STITCH_LEN.PENDING] :=
  ((State.regsKept_of_csr rfl _).wr _ (by simp) (by decide)).wr _ (by simp) (by decide)

theorem State.lenAsked_pending (s : State) (req : Nat) : (s.lenAsked req).rd F.STITCH_LEN.PENDING = 1 := State.rd_wr_same _ _ _ (by decide)

theorem State.lenAsked_req (s : State) (req : Nat) : (s.lenAsked req).rd F.STITCH_LEN.REQ = req % 4 := by
  rw [State.lenAsked, State.rd_wr_apart _ _ _ _ (by decide) (by decide)]
  exact State.rd_wr_same _ _ _ (by decide)

theorem stitchLenWrite_refused {s : State} (v : W32) (h : s.rd F.STITCH_LEN.PENDING = 1 ∨ s.lace.commit.isSome = true) :
    ∃ t, exec (.stitchLenReqWrite v) s = .next t ∧ s.onlyRegs t [F.STITCH_LEN.REJECT] ∧ t.rd F.STITCH_LEN.REJECT = 1 := by
  refine ⟨_, rfl, ?_⟩
  rw [State.stitchLenWrite_eq, if_pos h]
  exact ⟨⟨s.rejectCleared_frame _, (s.rejectCleared_regsKept _).wr _ List.mem_cons_self (by decide)⟩, State.rd_wr_same _ _ _ (by decide)⟩

section Idle

variable {s : State} (v : W32) (hp : s.rd F.STITCH_LEN.PENDING = 0) (hc : s.lace.commit = none)
include hp hc

theorem stitchLenWrite_same (hv : v.toNat / 16 % 4 = s.rd F.STITCH_LEN.CUR) :
    ∃ t, exec (.stitchLenReqWrite v) s = .next t ∧ s.onlyRegs t [F.STITCH_LEN.REJECT, F.STITCH_LEN.REQ] ∧
      t.rd F.STITCH_LEN.REQ = s.rd F.STITCH_LEN.CUR ∧ t.rd F.STITCH_LEN.REJECT = (if v.getLsbD 31 then 0 else s.rd F.STITCH_LEN.REJECT) := by
  refine ⟨_, rfl, ?_⟩
  rw [State.stitchLenWrite_eq, if_neg (by simp [hp, hc]), if_pos hv]
  refine ⟨⟨s.rejectCleared_frame _, ((s.rejectCleared_regsKept _).mono (by simp)).wr _ (by simp) (by decide)⟩, ?_, ?_⟩
  · rw [State.rd_wr_same _ _ _ (by decide), hv]
    exact Nat.mod_eq_of_lt (s.rd_lt F.STITCH_LEN.CUR)
  · rw [State.rd_wr_apart _ _ _ _ (by decide) (by decide), State.rejectCleared_reject]; rfl

theorem stitchLenWrite_other (hv : v.toNat / 16 % 4 ≠ s.rd F.STITCH_LEN.CUR) :
    ∃ t, exec (.stitchLenReqWrite v) s = .next t ∧ s.regsKept t [F.STITCH_LEN.REJECT, F.STITCH_LEN.REQ, F.STITCH_LEN.PENDING] ∧
      t.rd F.STITCH_LEN.REQ = v.toNat / 16 % 4 ∧ t.rd F.STITCH_LEN.PENDING = 1 ∧ t.lace = { s.lace with lenReqAt := some s.clk.cycles } := by
  refine ⟨_, rfl, ?_⟩
  rw [State.stitchLenWrite_eq, if_neg (by simp [hp, hc]), if_neg hv]
  refine ⟨((s.rejectCleared_regsKept _).mono (by simp)).trans ((State.lenAsked_regsKept _ _).mono (by simp)), ?_, State.lenAsked_pending _ _, ?_⟩
  · rw [State.lenAsked_req, Nat.mod_mod]
  · rw [State.lenAsked_lace, State.rejectCleared_lace, State.rejectCleared_clk]

end Idle

/-! ### The boundary of R24 -/

/-- R24, R26: the stitch length that is asked for fits every image, and class 3 holds the SYSTEM entries required. -/
def State.lenFits (s : State) : Prop :=
  s.largestWcet ≤ budgetOf (stitchLenOf (s.rd F.STITCH_LEN.REQ)) ∧ s.rd F.STITCH_SYSREQ.MIN ≤ systemCount (s.laceTab 3).active

theorem budgetOf_stitchLenOf (code : Nat) : budgetOf (stitchLenOf code) = 1024 * 2 ^ code / 8 - 16 := by
  rw [budgetOf, stitchLenOf, Nat.shiftLeft_eq]

/-- No request waits any more. -/
def State.lenJudged (s : State) : State := { s with lace := { s.lace with lenReqAt := none } }.wr F.STITCH_LEN.PENDING 0

/-- The request becomes the stitch length. -/
def State.lenTaken (s : State) : State := (s.lenJudged.wr F.STITCH_LEN.CUR (s.rd F.STITCH_LEN.REQ)).reacquire

/-- The request is refused and REQ returns to the stitch length. -/
def State.lenRefused (s : State) : State := (s.lenJudged.wr F.STITCH_LEN.REJECT 1).wr F.STITCH_LEN.REQ (s.rd F.STITCH_LEN.CUR)

theorem execStitchLenApply_idle {s : State} (h : s.lace.lenReqAt = none) : execStitchLenApply s = .next s := by rw [execStitchLenApply, h]

theorem execStitchLenApply_early {s : State} {t0 : Nat} (hr : s.lace.lenReqAt = some t0) (h : s.atPeriod = false ∨ s.clk.cycles < t0 + 4096) :
    execStitchLenApply s = .next s := by
  have hnot : ¬ (s.atPeriod = true ∧ t0 + 4096 ≤ s.clk.cycles) := by
    rintro ⟨hp, hc⟩
    rcases h with h | h
    · simp [h] at hp
    · omega
  simp only [execStitchLenApply, hr, if_neg hnot]

section Due

variable {s : State} {t0 : Nat} (hr : s.lace.lenReqAt = some t0) (hp : s.atPeriod = true) (hc : t0 + 4096 ≤ s.clk.cycles)
include hr hp hc

theorem execStitchLenApply_fits (h : s.lenFits) : execStitchLenApply s = .next s.lenTaken := by
  have hfits : s.largestWcet ≤ budgetOf (stitchLenOf (s.rd F.STITCH_LEN.REQ)) ∧ s.rd F.STITCH_SYSREQ.MIN ≤ systemCount (s.laceTab 3).active := h
  simp only [execStitchLenApply, hr, if_pos (And.intro hp hc), if_pos hfits]; rfl

theorem execStitchLenApply_unfit (h : ¬ s.lenFits) : execStitchLenApply s = .next s.lenRefused := by
  have hunfit : ¬ (s.largestWcet ≤ budgetOf (stitchLenOf (s.rd F.STITCH_LEN.REQ)) ∧
    s.rd F.STITCH_SYSREQ.MIN ≤ systemCount (s.laceTab 3).active) := h
  simp only [execStitchLenApply, hr, if_pos (And.intro hp hc), if_neg hunfit]; rfl

end Due

/-! ### The lock to PTP time starts over (Table 1.7) -/

theorem State.reacquire_lace (s : State) : ∃ n, s.reacquire.lace = { s.lace with lockRun := n } := by
  unfold State.reacquire
  split
  · exact ⟨s.lace.lockRun, rfl⟩
  · exact ⟨0, rfl⟩

theorem State.reacquire_regsKept (s : State) : s.regsKept s.reacquire [F.STITCH_PTP_CTRL.STATE] := by
  unfold State.reacquire
  split
  · exact s.regsKept_refl _
  · exact (State.regsKept_of_csr rfl _).wr _ List.mem_cons_self (by decide)

/-! ### The state behind the boundary -/

theorem State.lenJudged_regsKept (s : State) : s.regsKept s.lenJudged [F.STITCH_LEN.PENDING] :=
  (State.regsKept_of_csr rfl _).wr _ List.mem_cons_self (by decide)

theorem State.lenJudged_pending (s : State) : s.lenJudged.rd F.STITCH_LEN.PENDING = 0 := State.rd_wr_same _ _ _ (by decide)

theorem State.lenTaken_lace (s : State) : ∃ n, s.lenTaken.lace = { s.lace with lenReqAt := none, lockRun := n } :=
  State.reacquire_lace (s.lenJudged.wr F.STITCH_LEN.CUR (s.rd F.STITCH_LEN.REQ))

theorem State.lenTaken_regsKept (s : State) :
    s.regsKept s.lenTaken [F.STITCH_LEN.PENDING, F.STITCH_LEN.CUR, F.STITCH_PTP_CTRL.STATE] :=
  ((s.lenJudged_regsKept.mono (by simp)).wr _ (by simp) (by decide)).trans ((State.reacquire_regsKept _).mono (by simp))

theorem State.lenTaken_pending (s : State) : s.lenTaken.rd F.STITCH_LEN.PENDING = 0 := by
  rw [State.lenTaken, State.reacquire_regsKept _ _ (by decide), State.rd_wr_apart _ _ _ _ (by decide) (by decide), State.lenJudged_pending]

theorem State.lenTaken_cur (s : State) : s.lenTaken.rd F.STITCH_LEN.CUR = s.rd F.STITCH_LEN.REQ := by
  rw [State.lenTaken, State.reacquire_regsKept _ _ (by decide), State.rd_wr_same _ _ _ (by decide)]
  exact Nat.mod_eq_of_lt (s.rd_lt F.STITCH_LEN.REQ)

theorem State.lenRefused_lace (s : State) : s.lenRefused.lace = { s.lace with lenReqAt := none } := rfl

theorem State.lenRefused_regsKept (s : State) :
    s.regsKept s.lenRefused [F.STITCH_LEN.PENDING, F.STITCH_LEN.REJECT, F.STITCH_LEN.REQ] :=
  ((s.lenJudged_regsKept.mono (by simp)).wr _ (by simp) (by decide)).wr _ (by simp) (by decide)

theorem State.lenRefused_pending (s : State) : s.lenRefused.rd F.STITCH_LEN.PENDING = 0 := by
  rw [State.lenRefused, State.rd_wr_apart _ _ _ _ (by decide) (by decide), State.rd_wr_apart _ _ _ _ (by decide) (by decide),
    State.lenJudged_pending]

theorem State.lenRefused_req (s : State) : s.lenRefused.rd F.STITCH_LEN.REQ = s.rd F.STITCH_LEN.CUR := by
  rw [State.lenRefused, State.rd_wr_same _ _ _ (by decide)]
  exact Nat.mod_eq_of_lt (s.rd_lt F.STITCH_LEN.CUR)

theorem State.lenRefused_reject (s : State) : s.lenRefused.rd F.STITCH_LEN.REJECT = 1 := by
  rw [State.lenRefused, State.rd_wr_apart _ _ _ _ (by decide) (by decide)]
  exact State.rd_wr_same _ _ _ (by decide)

/-- R24 to R26: a request that waits is applied or refused at the first lacing-period boundary at least 4,096 cycles after it. -/
theorem stitchLenApply_cases (s : State) (t0 : Nat) (hr : s.lace.lenReqAt = some t0) :
    (s.atPeriod = false ∨ s.clk.cycles < t0 + 4096 → exec .stitchLenApply s = .next s) ∧
    (s.atPeriod = true → t0 + 4096 ≤ s.clk.cycles →
      (s.largestWcet ≤ 1024 * 2 ^ s.rd F.STITCH_LEN.REQ / 8 - 16 → s.rd F.STITCH_SYSREQ.MIN ≤ systemCount (s.laceTab 3).active →
        ∃ t, exec .stitchLenApply s = .next t ∧ t.rd F.STITCH_LEN.CUR = s.rd F.STITCH_LEN.REQ ∧ t.rd F.STITCH_LEN.PENDING = 0 ∧
          t.rd F.STITCH_LEN.REQ = s.rd F.STITCH_LEN.REQ ∧ t.rd F.STITCH_LEN.REJECT = s.rd F.STITCH_LEN.REJECT ∧ t.lace.tabs = s.lace.tabs ∧
          t.lace.lenReqAt = none) ∧
      (1024 * 2 ^ s.rd F.STITCH_LEN.REQ / 8 - 16 < s.largestWcet ∨ systemCount (s.laceTab 3).active < s.rd F.STITCH_SYSREQ.MIN →
        ∃ t, exec .stitchLenApply s = .next t ∧ t.rd F.STITCH_LEN.CUR = s.rd F.STITCH_LEN.CUR ∧ t.rd F.STITCH_LEN.PENDING = 0 ∧
          t.rd F.STITCH_LEN.REQ = s.rd F.STITCH_LEN.CUR ∧ t.rd F.STITCH_LEN.REJECT = 1 ∧ t.lace = { s.lace with lenReqAt := none })) := by
  refine ⟨execStitchLenApply_early hr, fun hp hc => ⟨fun hw hm => ?_, fun hbad => ?_⟩⟩
  · obtain ⟨n, hlace⟩ := s.lenTaken_lace
    refine ⟨_, execStitchLenApply_fits hr hp hc ⟨(budgetOf_stitchLenOf _).symm ▸ hw, hm⟩, s.lenTaken_cur, s.lenTaken_pending,
      s.lenTaken_regsKept _ (by decide), s.lenTaken_regsKept _ (by decide), ?_, ?_⟩ <;> rw [hlace]
  · have hunfit : ¬ s.lenFits := by
      rintro ⟨hw, hm⟩
      rw [budgetOf_stitchLenOf] at hw
      omega
    exact ⟨_, execStitchLenApply_unfit hr hp hc hunfit, s.lenRefused_regsKept _ (by decide), s.lenRefused_pending, s.lenRefused_req,
      s.lenRefused_reject, s.lenRefused_lace⟩

end Sys2Proof.Machine

open Sys2Proof Sys2Proof.Machine

/-- Settles O6: a clause for each case of the write, and those of the boundary. -/
theorem stitchLengthChange : Obligations.StitchLengthChange :=
  ⟨fun _ v hp => stitchLenWrite_refused v (.inl hp), fun _ v hc => stitchLenWrite_refused v (.inr hc), fun _ => stitchLenWrite_same,
    fun _ => stitchLenWrite_other, stitchLenApply_cases⟩
end

section
/-! Time (R20): the turns that begin, and those that do not, with a stitch's turn. -/

namespace Sys2Proof.Machine

open Sys2Proof

/-- The first turn of the stitch is over at cycle 32, and a record stands under number 2 of class 1, whose two dispatchers are 0 and 1: it
holds group 0. -/
def recordBeyond : State :=
  { State.reset with lace := { Lace.reset with units := [(unitKey 1 2, { UnitInst.reset with heldShare := some 0 })] } }.wr
    F.STITCH_POS.CYCLE 32

/-- No half of the part has the number that the record's unit counts to, so no turn that begins ends its hold. -/
theorem recordBeyond_kept : ∃ t, exec .turnStart recordBeyond = .next t ∧ (t.unit 1 2).heldShare = some 0 :=
  ⟨_, rfl, by decide +kernel⟩

end Sys2Proof.Machine

open Sys2Proof Sys2Proof.Machine

/-- Refutes O5: its clause on the turns speaks of all numbers below 4,096 in every class, and a turn renews the units of halves 0 and 1 alone.
A record under number 2 of class 1 lies on neither, and the group that it holds stays held. -/
theorem not_timeAdvances : ¬ Obligations.TimeAdvances := by
  intro h
  obtain ⟨-, hturn, -⟩ := h
  obtain ⟨t, ht, -, -, -, -, hfresh, -⟩ := hturn recordBeyond (by decide +kernel) (by decide +kernel)
  obtain ⟨u, hu, hkept⟩ := recordBeyond_kept
  obtain ⟨hended, -⟩ := hfresh 1 (by decide) 2 (by decide) (.inl rfl)
  obtain rfl : u = t := Host.Outcome.next.inj (hu.symm.trans ht)
  exact absurd (hkept.symm.trans hended) (by decide)
end

section
/-! Changing the lacing: the tables and units behind a write of the shadow, a commit, a cancel and a swap (R42 to R44). -/

namespace Sys2Proof.Machine

open Sys2Proof

/-! ### Maps of which some values are updated in place -/

theorem AMap.get?_map_if {α : Type} (p : Nat → Prop) [DecidablePred p] (f : α → α) (m : AMap α) (k : Nat) :
    AMap.get? (m.map fun e => if p e.1 then (e.1, f e.2) else e) k = if p k then (AMap.get? m k).map f else AMap.get? m k := by
  induction m with
  | nil => simp [AMap.get?]
  | cons e m ih =>
    obtain ⟨a, x⟩ := e
    rw [List.map_cons]
    by_cases hk : k = a
    · subst hk
      by_cases hp : p k <;> simp [AMap.get?, hp]
    · by_cases ha : p a <;> simp [AMap.get?, hk, ha, ih]

/-- An update that leaves the value of an unlisted key. -/
theorem AMap.getD_map_if {α : Type} (p : Nat → Prop) [DecidablePred p] (f : α → α) (m : AMap α) (k : Nat) {d : α} (hd : f d = d) :
    AMap.getD (m.map fun e => if p e.1 then (e.1, f e.2) else e) k d = if p k then f (AMap.getD m k d) else AMap.getD m k d := by
  rw [AMap.getD, AMap.getD, AMap.get?_map_if]
  split
  · cases AMap.get? m k with
    | none => exact hd.symm
    | some x => rfl
  · rfl

/-! ### Writes of the shadow (R44) -/

/-- One entry of the shadow table of class `c` takes a value. -/
def LaceTab.setShadow (t : LaceTab) (c p : Nat) (e : W16) : LaceTab := { t with shadow := AMap.setD (laceReset c p) t.shadow p e }

def State.setShadow (s : State) (c p : Nat) (e : W16) : State :=
  { s with lace := { s.lace with tabs := AMap.setD ⟨[], []⟩ s.lace.tabs c ((s.laceTab c).setShadow c p e) } }

theorem State.setShadow_laceTab_same (s : State) (c p : Nat) (e : W16) :
    (s.setShadow c p e).laceTab c = (s.laceTab c).setShadow c p e :=
  AMap.getD_setD_same _ _ _ _

theorem State.setShadow_laceTab_other (s : State) {c d : Nat} (p : Nat) (e : W16) (h : d ≠ c) : (s.setShadow c p e).laceTab d = s.laceTab d :=
  AMap.getD_setD_other _ _ _ _ _ _ h

@[simp] theorem State.setShadow_active (s : State) (c p : Nat) (e : W16) (d : Nat) :
    ((s.setShadow c p e).laceTab d).active = (s.laceTab d).active := by
  by_cases h : d = c
  · subst h; rw [State.setShadow_laceTab_same]; rfl
  · rw [s.setShadow_laceTab_other p e h]

theorem State.setShadow_same (s : State) (c p : Nat) (e : W16) : (s.setShadow c p e).laceShadow c p = e := by
  rw [State.laceShadow, State.setShadow_laceTab_same]
  exact AMap.getD_setD_same _ _ _ _

theorem State.setShadow_other (s : State) {c p d q : Nat} (e : W16) (h : d ≠ c ∨ q ≠ p) :
    (s.setShadow c p e).laceShadow d q = s.laceShadow d q := by
  rw [State.laceShadow]
  by_cases hd : d = c
  · subst hd
    rw [State.setShadow_laceTab_same]
    exact AMap.getD_setD_other _ _ _ _ _ _ (h.resolve_left (absurd rfl))
  · rw [s.setShadow_laceTab_other p e hd]; rfl

/-- A 16-bit write at the offset of an entry of a shadow table. -/
theorem State.laceWrite16_entry (s : State) (c : Nat) {p : Nat} (v : Nat) (hp : p < 4096) :
    s.laceWrite16 (0x110000 + 0x2000 * c + 2 * p) v = s.setShadow c p (BitVec.ofNat 16 v &&& 0xC3FF#16) := by
  have hclass : (0x110000 + 0x2000 * c + 2 * p - 0x110000) / 0x2000 = c := by omega
  have hentry : (0x110000 + 0x2000 * c + 2 * p - 0x110000) % 0x2000 / 2 = p := by omega
  rw [State.laceWrite16, if_neg (by omega), hclass, hentry]
  rfl

/-- What no write of the shadow touches: the active tables and map, the requests that wait and everything outside the lacing. -/
structure State.activeKept (s t : State) : Prop where
  active : ∀ c, (t.laceTab c).active = (s.laceTab c).active
  map : t.lace.tgActive = s.lace.tgActive
  lenReqAt : t.lace.lenReqAt = s.lace.lenReqAt
  commit : t.lace.commit = s.lace.commit
  rest : { t with lace := s.lace } = s

theorem State.activeKept.refl (s : State) : s.activeKept s := ⟨fun _ => rfl, rfl, rfl, rfl, rfl⟩

theorem State.activeKept.trans {s t u : State} (h : s.activeKept t) (h' : t.activeKept u) : s.activeKept u where
  active c := (h'.active c).trans (h.active c)
  map := h'.map.trans h.map
  lenReqAt := h'.lenReqAt.trans h.lenReqAt
  commit := h'.commit.trans h.commit
  rest := by rw [← h.rest, ← h'.rest]

theorem State.activeKept.csr {s t : State} (h : s.activeKept t) : t.csr = s.csr := by rw [← h.rest]

theorem State.activeKept.laceEntry {s t : State} (h : s.activeKept t) (c p : Nat) : t.laceEntry c p = s.laceEntry c p := by
  rw [State.laceEntry, State.laceEntry, h.active]

theorem State.setShadow_activeKept (s : State) (c p : Nat) (e : W16) : s.activeKept (s.setShadow c p e) :=
  ⟨s.setShadow_active c p e, rfl, rfl, rfl, rfl⟩

theorem State.laceWrite16_activeKept (s : State) (off v : Nat) : s.activeKept (s.laceWrite16 off v) := by
  rw [State.laceWrite16]
  split
  · exact ⟨fun _ => rfl, rfl, rfl, rfl, rfl⟩
  · exact s.setShadow_activeKept _ _ _

theorem State.laceWriteN_activeKept (s : State) (off v n : Nat) : s.activeKept (s.laceWriteN off v n) := by
  induction n generalizing s off v with
  | zero => exact .refl s
  | succ n ih => exact (s.laceWrite16_activeKept _ _).trans (ih _ _ _)

theorem execLacingShadowWrite_of_shadow {off : Nat} {wide : Bool} (v : W64) (s : State) (h : inLaceShadow off = true)
    (ha : off % (if wide then 8 else 4) = 0) :
    execLacingShadowWrite off wide v s = .next (s.laceShadowWrite off (if wide then 8 else 4) v.toNat) := by
  simp only [execLacingShadowWrite, if_pos (And.intro h ha)]

theorem lacingShadowWrite_busy (s : State) (off : Nat) (wide : Bool) (v : W64) (hc : s.lace.commit.isSome = true) (h : inLaceShadow off = true)
    (ha : off % (if wide then 8 else 4) = 0) :
    ∃ t, exec (.lacingShadowWrite off wide v) s = .next t ∧ s.onlyRegs t [F.STITCH_LACE_STATUS.BUSY_WRITE] ∧
      t.rd F.STITCH_LACE_STATUS.BUSY_WRITE = 1 := by
  refine ⟨_, execLacingShadowWrite_of_shadow v s h ha, ?_⟩
  rw [State.laceShadowWrite, if_pos hc]
  exact ⟨⟨rfl, s.regsKept_wr _ _ (by decide)⟩, s.rd_wr_same _ _ (by decide)⟩

theorem ofNat_sixteen_mod (v : Nat) : BitVec.ofNat 16 (v % 0x10000) = BitVec.ofNat 16 v := by
  apply BitVec.eq_of_toNat_eq
  simp

/-- A word of a shadow table holds two entries, the lower index in the lower half. -/
theorem State.laceShadowWrite_word {s : State} (hc : s.lace.commit = none) (c : Nat) {p : Nat} (hp : p < 2048) (v : Nat) :
    s.laceShadowWrite (0x110000 + 0x2000 * c + 4 * p) 4 v =
      (s.setShadow c (2 * p) (BitVec.ofNat 16 v &&& 0xC3FF#16)).setShadow c (2 * p + 1) (BitVec.ofNat 16 (v / 65536) &&& 0xC3FF#16) := by
  have hlow : 0x110000 + 0x2000 * c + 4 * p = 0x110000 + 0x2000 * c + 2 * (2 * p) := by omega
  have hhigh : 0x110000 + 0x2000 * c + 2 * (2 * p) + 2 = 0x110000 + 0x2000 * c + 2 * (2 * p + 1) := by omega
  rw [State.laceShadowWrite, hc, Option.isSome_none, if_neg Bool.false_ne_true, hlow]
  show ((s.laceWrite16 _ _).laceWrite16 _ _) = _
  rw [hhigh, State.laceWrite16_entry _ _ _ (by omega), State.laceWrite16_entry _ _ _ (by omega), ofNat_sixteen_mod, ofNat_sixteen_mod]

theorem lacingShadowWrite_entries (s : State) (c p : Nat) (v : W64) (hc : s.lace.commit = none) (hcls : c < 6) (hp : p < 2048) :
    ∃ t, exec (.lacingShadowWrite (0x110000 + 0x2000 * c + 4 * p) false v) s = .next t ∧ s.sameRegs t ∧
      t.laceShadow c (2 * p) = BitVec.ofNat 16 v.toNat &&& 0xC3FF#16 ∧
      t.laceShadow c (2 * p + 1) = BitVec.ofNat 16 (v.toNat / 65536) &&& 0xC3FF#16 ∧
      (∀ d q, (d ≠ c ∨ (q ≠ 2 * p ∧ q ≠ 2 * p + 1)) → t.laceShadow d q = s.laceShadow d q) ∧
      (∀ d q, t.laceEntry d q = s.laceEntry d q) ∧ (∀ ten, t.groupOf ten = s.groupOf ten) := by
  have hin : inLaceShadow (0x110000 + 0x2000 * c + 4 * p) = true := by simp [inLaceShadow]; omega
  refine ⟨_, execLacingShadowWrite_of_shadow v s hin (by simp; omega), ?_⟩
  rw [if_neg Bool.false_ne_true, State.laceShadowWrite_word hc c hp]
  have hkept := (s.setShadow_activeKept c (2 * p) (BitVec.ofNat 16 v.toNat &&& 0xC3FF#16)).trans
    (State.setShadow_activeKept _ c (2 * p + 1) (BitVec.ofNat 16 (v.toNat / 65536) &&& 0xC3FF#16))
  refine ⟨hkept.csr, ?_, State.setShadow_same _ _ _ _, fun d q h => ?_, hkept.laceEntry, fun ten => ?_⟩
  · rw [State.setShadow_other _ _ (.inr (by omega)), State.setShadow_same]
  · rw [State.setShadow_other _ _ (by tauto), State.setShadow_other _ _ (by tauto)]
  · rw [State.groupOf, State.groupOf, hkept.map]

/-! ### The swap (R43) -/

/-- The two tables of a class change places. -/
def LaceTab.exchanged (t : LaceTab) : LaceTab := ⟨t.active, t.shadow⟩

/-- The tables of the classes listed change places. -/
def exchangeTabs (m : AMap LaceTab) (cs : List Nat) : AMap LaceTab :=
  cs.foldl (fun m c => AMap.setD ⟨[], []⟩ m c (AMap.getD m c ⟨[], []⟩).exchanged) m

theorem getD_exchangeTabs (cs : List Nat) (hd : cs.Nodup) (m : AMap LaceTab) (c : Nat) :
    AMap.getD (exchangeTabs m cs) c ⟨[], []⟩ =
      if c ∈ cs then (AMap.getD m c ⟨[], []⟩).exchanged else AMap.getD m c ⟨[], []⟩ := by
  induction cs generalizing m with
  | nil => simp [exchangeTabs]
  | cons a cs ih =>
    obtain ⟨ha, hcs⟩ := List.nodup_cons.mp hd
    rw [exchangeTabs, List.foldl_cons, ← exchangeTabs, ih hcs]
    by_cases h : c = a
    · subst h
      rw [if_neg ha, if_pos List.mem_cons_self, AMap.getD_setD_same]
    · rw [AMap.getD_setD_other _ _ _ _ _ _ h]
      simp [h]

/-- The classes that a commit names. -/
def LaceCommit.named (k : LaceCommit) : List Nat := (List.range 6).filter (fun c => k.classes.testBit c)

theorem LaceCommit.mem_named {k : LaceCommit} {c : Nat} : c ∈ k.named ↔ c < 6 ∧ k.classes.testBit c = true := by
  simp [LaceCommit.named]

/-- R40: the rotations of a unit start over. -/
def UnitInst.rewound (x : UnitInst) : UnitInst := { x with sharePtr := 1023, freePtr := 1023, heldShare := none, heldFree := none }

/-- The record of the lacing behind the swap of a commit. -/
def Lace.swapped (l : Lace) (k : LaceCommit) : Lace :=
  { l with
    tabs := exchangeTabs l.tabs k.named
    units := l.units.map fun e => if k.classes.testBit (e.1 / 4096) = true then (e.1, e.2.rewound) else e
    commit := none
    swapDone := true
    tgShadow := if k.tgmap then l.tgActive else l.tgShadow
    tgActive := if k.tgmap then l.tgShadow else l.tgActive }

theorem State.laceSwap_eq {s : State} {k : LaceCommit} (h : s.lace.commit = some k) :
    s.laceSwap = ({ s with lace := s.lace.swapped k }.wr F.STITCH_LACE_STATUS.PENDING 0).countWrap F.STITCH_LACE_SWAPS.COUNT 1 := by
  simp only [State.laceSwap, h]; rfl

section Swap

variable {s : State} {k : LaceCommit} (hk : s.lace.commit = some k)
include hk

theorem State.laceSwap_lace : s.laceSwap.lace = s.lace.swapped k := by rw [State.laceSwap_eq hk]; rfl

theorem State.laceSwap_regsKept : s.regsKept s.laceSwap [F.STITCH_LACE_STATUS.PENDING, F.STITCH_LACE_SWAPS.COUNT] := by
  rw [State.laceSwap_eq hk]
  exact ((State.regsKept_of_csr rfl _).wr _ (by simp) (by decide)).wr _ (by simp) (by decide)

theorem State.laceSwap_pending : s.laceSwap.rd F.STITCH_LACE_STATUS.PENDING = 0 := by
  rw [State.laceSwap_eq hk, State.countWrap, State.rd_wr_apart _ _ _ _ (by decide) (by decide)]
  exact State.rd_wr_same _ _ _ (by decide)

theorem State.laceSwap_count : s.laceSwap.rd F.STITCH_LACE_SWAPS.COUNT = (s.rd F.STITCH_LACE_SWAPS.COUNT + 1) % 2 ^ 32 := by
  rw [State.laceSwap_eq hk, State.countWrap, State.rd_wr_same _ _ _ (by decide), State.rd_wr_apart _ _ _ _ (by decide) (by decide)]
  rfl

theorem State.laceSwap_laceTab (c : Nat) :
    s.laceSwap.laceTab c = if c < 6 ∧ k.classes.testBit c = true then (s.laceTab c).exchanged else s.laceTab c := by
  rw [State.laceTab, State.laceSwap_lace hk]
  simp only [← LaceCommit.mem_named]
  exact getD_exchangeTabs k.named (List.nodup_range.filter _) s.lace.tabs c

theorem State.laceSwap_laceEntry {c : Nat} (hc : c < 6) (p : Nat) :
    s.laceSwap.laceEntry c p = if k.classes.testBit c then s.laceShadow c p else s.laceEntry c p := by
  rw [State.laceEntry, State.laceSwap_laceTab hk]
  cases h : k.classes.testBit c <;> simp [hc, State.laceEntry, State.laceShadow, LaceTab.exchanged]

theorem State.laceSwap_laceShadow {c : Nat} (hc : c < 6) (p : Nat) :
    s.laceSwap.laceShadow c p = if k.classes.testBit c then s.laceEntry c p else s.laceShadow c p := by
  rw [State.laceShadow, State.laceSwap_laceTab hk]
  cases h : k.classes.testBit c <;> simp [hc, State.laceEntry, State.laceShadow, LaceTab.exchanged]

theorem State.laceSwap_unit (c : Nat) {u : Nat} (hu : u < 4096) :
    s.laceSwap.unit c u = if k.classes.testBit c then (s.unit c u).rewound else s.unit c u := by
  have hclass : unitKey c u / 4096 = c := by rw [unitKey]; omega
  rw [State.unit, State.laceSwap_lace hk]
  have hmap := AMap.getD_map_if (fun i => k.classes.testBit (i / 4096) = true) UnitInst.rewound s.lace.units (unitKey c u)
    (d := UnitInst.reset) rfl
  rw [hclass] at hmap
  exact hmap

end Swap

/-! ### A commit that fails (R25, R42) -/

/-- The fields that a failed commit writes. -/
abbrev failFields : List FRef := [F.STITCH_LACE_STATUS.PENDING, F.STITCH_LACE_STATUS.VALID_FAIL, F.STITCH_LACE_STATUS.FAIL_CAUSE,
  F.STITCH_LACE_STATUS.FAIL_CLASS, F.STITCH_LACE_STATUS.FAIL_INDEX]

theorem State.laceFail_lace (s : State) (f : Nat × Nat × Nat) : (s.laceFail f).lace = { s.lace with commit := none } := rfl

theorem State.laceFail_regsKept (s : State) (f : Nat × Nat × Nat) : s.regsKept (s.laceFail f) failFields :=
  (((((State.regsKept_of_csr rfl _).wr _ (by simp) (by decide)).wr _ (by simp) (by decide)).wr _ (by simp) (by decide)).wr _ (by simp)
    (by decide)).wr _ (by simp) (by decide)

theorem State.laceFail_shown (s : State) (f : Nat × Nat × Nat) :
    (s.laceFail f).rd F.STITCH_LACE_STATUS.PENDING = 0 ∧ (s.laceFail f).rd F.STITCH_LACE_STATUS.VALID_FAIL = 1 ∧
      (s.laceFail f).rd F.STITCH_LACE_STATUS.FAIL_CAUSE = f.1 % 8 ∧ (s.laceFail f).rd F.STITCH_LACE_STATUS.FAIL_CLASS = f.2.1 % 8 ∧
      (s.laceFail f).rd F.STITCH_LACE_STATUS.FAIL_INDEX = f.2.2 % 4096 := by
  refine ⟨?_, ?_, ?_, ?_, ?_⟩ <;> simp (disch := decide) only [State.laceFail, State.rd_wr_same, State.rd_wr_apart] <;> rfl

/-! ### The boundary of a commit -/

theorem State.swapDue_commit {s : State} (h : s.swapDue = true) : ∃ k, s.lace.commit = some k := by
  rw [State.swapDue] at h
  split at h
  next k hk => exact ⟨k, hk⟩
  next => exact absurd h Bool.false_ne_true

theorem State.laceDue_of_valid {s : State} {k : LaceCommit} (hk : s.lace.commit = some k) (h : s.laceFault k.classes = none) :
    s.laceDue = s.laceSwap := by simp only [State.laceDue, hk, h]

theorem State.laceDue_of_fault {s : State} {k : LaceCommit} {f : Nat × Nat × Nat} (hk : s.lace.commit = some k)
    (h : s.laceFault k.classes = some f) : s.laceDue = s.laceFail f := by simp only [State.laceDue, hk, h]

theorem exec_laceSwap_early {s : State} (h : s.swapDue = false) : exec .laceSwap s = .next s := by
  show Host.Outcome.next (if s.swapDue then s.laceDue else s) = _
  rw [if_neg (by simp [h])]

theorem exec_laceSwap_due {s : State} (h : s.swapDue = true) : exec .laceSwap s = .next s.laceDue := by
  show Host.Outcome.next (if s.swapDue then s.laceDue else s) = _
  rw [if_pos h]

theorem laceSwap_cases (s : State) (k : LaceCommit) (hk : s.lace.commit = some k) :
    (s.swapDue = false → exec .laceSwap s = .next s) ∧
    (s.swapDue = true → s.laceFault k.classes = none →
      ∃ t, exec .laceSwap s = .next t ∧ t.lace.commit = none ∧ t.lace.swapDone = true ∧ t.rd F.STITCH_LACE_STATUS.PENDING = 0 ∧
        t.rd F.STITCH_LACE_SWAPS.COUNT = (s.rd F.STITCH_LACE_SWAPS.COUNT + 1) % 2 ^ 32 ∧
        s.regsKept t [F.STITCH_LACE_STATUS.PENDING, F.STITCH_LACE_SWAPS.COUNT] ∧
        (∀ c < 6, ∀ p, t.laceEntry c p = if k.classes.testBit c then s.laceShadow c p else s.laceEntry c p) ∧
        (∀ c < 6, ∀ p, t.laceShadow c p = if k.classes.testBit c then s.laceEntry c p else s.laceShadow c p) ∧
        t.lace.tgActive = (if k.tgmap then s.lace.tgShadow else s.lace.tgActive) ∧
        t.lace.tgShadow = (if k.tgmap then s.lace.tgActive else s.lace.tgShadow) ∧
        (∀ c < 6, ∀ u < 4096, k.classes.testBit c = true → (t.unit c u).sharePtr = 1023 ∧ (t.unit c u).freePtr = 1023) ∧
        (∀ c < 6, ∀ u < 4096, k.classes.testBit c = false → t.unit c u = s.unit c u)) ∧
    (∀ f, s.swapDue = true → s.laceFault k.classes = some f →
      ∃ t, exec .laceSwap s = .next t ∧ t.lace = { s.lace with commit := none } ∧ t.rd F.STITCH_LACE_STATUS.VALID_FAIL = 1 ∧
        t.rd F.STITCH_LACE_STATUS.PENDING = 0) := by
  refine ⟨exec_laceSwap_early, fun hdue hvalid => ?_, fun f hdue hfault => ?_⟩
  · have hlace := State.laceSwap_lace hk
    refine ⟨s.laceSwap, (exec_laceSwap_due hdue).trans (by rw [State.laceDue_of_valid hk hvalid]), by rw [hlace]; rfl, by rw [hlace]; rfl,
      State.laceSwap_pending hk, State.laceSwap_count hk, State.laceSwap_regsKept hk, fun c hc => State.laceSwap_laceEntry hk hc,
      fun c hc => State.laceSwap_laceShadow hk hc, by rw [hlace]; rfl, by rw [hlace]; rfl, fun c _ u hu hn => ?_, fun c _ u hu hn => ?_⟩
    · rw [State.laceSwap_unit hk c hu, if_pos hn]; exact ⟨rfl, rfl⟩
    · rw [State.laceSwap_unit hk c hu, if_neg (by simp [hn])]
  · obtain ⟨hpending, hfail, -⟩ := s.laceFail_shown f
    exact ⟨_, (exec_laceSwap_due hdue).trans (by rw [State.laceDue_of_fault hk hfault]), s.laceFail_lace f, hfail, hpending⟩

/-! ### Cancels (R44) -/

/-- The commit that waits is withdrawn. -/
def State.commitWithdrawn (s : State) : State := { s with lace := { s.lace with commit := none } }.wr F.STITCH_LACE_STATUS.PENDING 0

/-- A cancel that finds no commit waiting. -/
def State.cancelLate (s : State) : State := if s.lace.swapDone then s.wr F.STITCH_LACE_STATUS.LATE_CANCEL 1 else s

/-- A cancel finds a swap that is due made, and withdraws a commit that still waits. -/
theorem State.laceCancel_eq (s : State) : s.laceCancel =
    if s.swapDue then s.laceDue.cancelLate else if s.lace.commit.isSome then s.commitWithdrawn else s.cancelLate := by
  rw [State.laceCancel]
  by_cases hdue : s.swapDue = true
  · obtain ⟨k, hk⟩ := State.swapDue_commit hdue
    have hnone : s.laceDue.lace.commit = none := by
      cases hf : s.laceFault k.classes with
      | none => rw [State.laceDue_of_valid hk hf, State.laceSwap_lace hk]; rfl
      | some f => rw [State.laceDue_of_fault hk hf, State.laceFail_lace]
    simp only [if_pos hdue, hnone, Option.isSome_none, Bool.false_eq_true, if_false]; rfl
  · simp only [if_neg hdue]; rfl

theorem State.cancelLate_of_swapDone {s : State} (h : s.lace.swapDone = true) : s.cancelLate = s.wr F.STITCH_LACE_STATUS.LATE_CANCEL 1 := if_pos h

theorem State.laceCommitWrite_cancel (s : State) {v : Nat} (h : v.testBit 31 = true) : s.laceCommitWrite v = s.laceCancel := if_pos h

/-- The two spellings of a cancel. -/
theorem exec_cancel {c : Instr} (hc : c = .cancel ∨ ∃ v : W32, v.getLsbD 31 = true ∧ c = .stitchLaceCommit v) (s : State) :
    exec c s = .next s.laceCancel := by
  rcases hc with rfl | ⟨v, hv, rfl⟩
  · rfl
  · exact congrArg Host.Outcome.next (s.laceCommitWrite_cancel hv)

theorem laceCancel_cases (s : State) (c : Instr) (hc : c = .cancel ∨ ∃ v : W32, v.getLsbD 31 = true ∧ c = .stitchLaceCommit v) :
    (s.lace.commit.isSome = true → s.swapDue = false →
      ∃ t, exec c s = .next t ∧ t.lace = { s.lace with commit := none } ∧ t.rd F.STITCH_LACE_STATUS.PENDING = 0 ∧
        s.regsKept t [F.STITCH_LACE_STATUS.PENDING] ∧ { t with csr := s.csr, lace := s.lace } = s) ∧
    (∀ k, s.lace.commit = some k → s.swapDue = true → s.laceFault k.classes = none →
      ∃ t u, exec .laceSwap s = .next u ∧ exec c s = .next t ∧ t.lace = u.lace ∧ t.rd F.STITCH_LACE_STATUS.LATE_CANCEL = 1 ∧
        u.regsKept t [F.STITCH_LACE_STATUS.LATE_CANCEL]) ∧
    (s.lace.commit = none → s.lace.swapDone = true →
      ∃ t, exec c s = .next t ∧ s.onlyRegs t [F.STITCH_LACE_STATUS.LATE_CANCEL] ∧ t.rd F.STITCH_LACE_STATUS.LATE_CANCEL = 1) ∧
    (s.lace.commit = none → s.lace.swapDone = false → exec c s = .next s) := by
  have hnotDue : s.lace.commit = none → ¬ s.swapDue = true := fun hn hdue => by
    obtain ⟨k, hk⟩ := State.swapDue_commit hdue
    simp [hn] at hk
  rw [exec_cancel hc, State.laceCancel_eq]
  refine ⟨fun hsome hdue => ?_, fun k hk hdue hvalid => ?_, fun hn hdone => ?_, fun hn hdone => ?_⟩
  · rw [if_neg (by simp [hdue]), if_pos hsome]
    exact ⟨s.commitWithdrawn, rfl, rfl, State.rd_wr_same _ _ _ (by decide), (State.regsKept_of_csr rfl _).wr _ (by simp) (by decide), rfl⟩
  · have hdone : s.laceSwap.lace.swapDone = true := by rw [State.laceSwap_lace hk]; rfl
    rw [if_pos hdue, exec_laceSwap_due hdue, State.laceDue_of_valid hk hvalid, State.cancelLate_of_swapDone hdone]
    exact ⟨_, _, rfl, rfl, rfl, State.rd_wr_same _ _ _ (by decide), State.regsKept_wr _ _ _ (by decide)⟩
  · rw [if_neg (hnotDue hn), if_neg (by simp [hn]), State.cancelLate_of_swapDone hdone]
    exact ⟨_, rfl, ⟨rfl, s.regsKept_wr _ _ (by decide)⟩, s.rd_wr_same _ _ (by decide)⟩
  · rw [if_neg (hnotDue hn), if_neg (by simp [hn]), State.cancelLate, if_neg (by simp [hdone])]

/-! ### Writes of STITCH_LACE_COMMIT (R42) -/

/-- The first fault of a commit write: a length change that waits, or that of a table. -/
def State.commitRefusal (s : State) (classes : Nat) : Option (Nat × Nat × Nat) :=
  if s.rd F.STITCH_LEN.PENDING = 1 then some (5, 0, 0) else s.laceFault classes

/-- A commit write begins: no swap has been made since. -/
def State.commitOpened (s : State) : State := { s with lace := { s.lace with swapDone := false } }

/-- A commit waits for its swap. -/
def State.commitTaken (s : State) (k : LaceCommit) : State :=
  { s with lace := { s.lace with commit := some k } }.wr F.STITCH_LACE_STATUS.PENDING 1

/-- A commit write that finds no commit waiting fails or waits for its swap. -/
def State.commitJudged (s : State) (k : LaceCommit) : State :=
  match s.commitRefusal k.classes with
  | some f => s.commitOpened.laceFail f
  | none => s.commitOpened.commitTaken k

theorem State.commitJudged_of_fault {s : State} {k : LaceCommit} {f : Nat × Nat × Nat} (h : s.commitRefusal k.classes = some f) :
    s.commitJudged k = s.commitOpened.laceFail f := by rw [State.commitJudged, h]

theorem State.commitJudged_of_valid {s : State} {k : LaceCommit} (h : s.commitRefusal k.classes = none) :
    s.commitJudged k = s.commitOpened.commitTaken k := by rw [State.commitJudged, h]

theorem bitsOf_five_zero (v : Nat) : bitsOf v 5 0 = v % 64 := by simp [bitsOf]

/-- A write of STITCH_LACE_COMMIT that is no cancel: without effect if it names nothing, discarded while a commit waits, and otherwise judged. -/
theorem State.laceCommitWrite_eq (s : State) {v : Nat} (h : v.testBit 31 = false) : s.laceCommitWrite v =
    if v % 64 = 0 ∧ v.testBit 8 = false then s
    else if s.lace.commit.isSome then s.wr F.STITCH_LACE_STATUS.BUSY_WRITE 1
    else s.commitJudged ⟨v % 64, v.testBit 8, s.clk.cycles⟩ := by
  have hsteps : s.laceCommitWrite v = if v.testBit 31 then s.laceCancel else if bitsOf v 5 0 = 0 ∧ v.testBit 8 = false then s
      else if s.lace.commit.isSome then s.wr F.STITCH_LACE_STATUS.BUSY_WRITE 1
      else if s.flag F.STITCH_LEN.PENDING then s.commitOpened.laceFail (5, 0, 0)
      else match s.laceFault (bitsOf v 5 0) with
        | some f => s.commitOpened.laceFail f
        | none => s.commitOpened.commitTaken ⟨bitsOf v 5 0, v.testBit 8, s.clk.cycles⟩ := rfl
  by_cases hp : s.rd F.STITCH_LEN.PENDING = 1
  · simp [hsteps, h, bitsOf_five_zero, State.flag_iff, State.commitJudged, State.commitRefusal, hp]
  · cases hf : s.laceFault (v % 64) <;> simp [hsteps, h, bitsOf_five_zero, State.flag_iff, State.commitJudged, State.commitRefusal, hp, hf]

theorem exec_stitchLaceCommit (v : W32) (s : State) : exec (.stitchLaceCommit v) s = .next (s.laceCommitWrite v.toNat) := rfl

section Commit

variable (v : W32) (hv : v.toNat % 64 ≠ 0 ∨ v.getLsbD 8 = true)
include hv

theorem laceCommit_names_some : ¬ (v.toNat % 64 = 0 ∧ v.toNat.testBit 8 = false) := by
  rintro ⟨hcls, hmap⟩
  exact hv.elim (absurd hcls) fun h8 => Bool.false_ne_true (hmap.symm.trans h8)

variable (s : State) (h31 : v.getLsbD 31 = false)
include h31

theorem exec_stitchLaceCommit_judged (hc : s.lace.commit = none) :
    exec (.stitchLaceCommit v) s = .next (s.commitJudged ⟨v.toNat % 64, v.getLsbD 8, s.clk.cycles⟩) := by
  rw [exec_stitchLaceCommit, s.laceCommitWrite_eq h31, if_neg (laceCommit_names_some v hv), hc]
  rfl

theorem stitchLaceCommit_busy (hc : s.lace.commit.isSome = true) :
    ∃ t, exec (.stitchLaceCommit v) s = .next t ∧ s.onlyRegs t [F.STITCH_LACE_STATUS.BUSY_WRITE] ∧
      t.rd F.STITCH_LACE_STATUS.BUSY_WRITE = 1 := by
  rw [exec_stitchLaceCommit, s.laceCommitWrite_eq h31, if_neg (laceCommit_names_some v hv), if_pos hc]
  exact ⟨_, rfl, ⟨rfl, s.regsKept_wr _ _ (by decide)⟩, s.rd_wr_same _ _ (by decide)⟩

theorem stitchLaceCommit_judged (hc : s.lace.commit = none) :
    (s.rd F.STITCH_LEN.PENDING = 0 → s.laceFault (v.toNat % 64) = none →
      ∃ t, exec (.stitchLaceCommit v) s = .next t ∧ t.rd F.STITCH_LACE_STATUS.PENDING = 1 ∧ s.regsKept t [F.STITCH_LACE_STATUS.PENDING] ∧
        t.lace = { s.lace with commit := some ⟨v.toNat % 64, v.getLsbD 8, s.clk.cycles⟩, swapDone := false }) ∧
    (∀ f, (s.rd F.STITCH_LEN.PENDING = 1 ∧ f = (5, 0, 0)) ∨ (s.rd F.STITCH_LEN.PENDING = 0 ∧ s.laceFault (v.toNat % 64) = some f) →
      ∃ t, exec (.stitchLaceCommit v) s = .next t ∧ t.rd F.STITCH_LACE_STATUS.PENDING = 0 ∧ t.rd F.STITCH_LACE_STATUS.VALID_FAIL = 1 ∧
        t.rd F.STITCH_LACE_STATUS.FAIL_CAUSE = f.1 % 8 ∧ t.rd F.STITCH_LACE_STATUS.FAIL_CLASS = f.2.1 % 8 ∧
        t.rd F.STITCH_LACE_STATUS.FAIL_INDEX = f.2.2 % 4096 ∧ t.lace = { s.lace with commit := none, swapDone := false }) := by
  rw [exec_stitchLaceCommit_judged v hv s h31 hc]
  refine ⟨fun hp hvalid => ?_, fun f hf => ?_⟩
  · have hjudged : s.commitRefusal (v.toNat % 64) = none := by simp [State.commitRefusal, hp, hvalid]
    rw [State.commitJudged_of_valid hjudged]
    exact ⟨_, rfl, State.rd_wr_same _ _ _ (by decide), (State.regsKept_of_csr rfl _).wr _ (by simp) (by decide), rfl⟩
  · have hjudged : s.commitRefusal (v.toNat % 64) = some f := by
      rcases hf with ⟨hp, rfl⟩ | ⟨hp, hfault⟩
      · simp [State.commitRefusal, hp]
      · simp [State.commitRefusal, hp, hfault]
    rw [State.commitJudged_of_fault hjudged]
    obtain ⟨hpending, hfail, hcause, hclass, hindex⟩ := s.commitOpened.laceFail_shown f
    exact ⟨_, rfl, hpending, hfail, hcause, hclass, hindex, rfl⟩

end Commit

end Sys2Proof.Machine

open Sys2Proof Sys2Proof.Machine

/-- Settles O7: shadow writes, commit writes, cancels and the swap, each by its cases. -/
theorem lacingCommits : Obligations.LacingCommits :=
  ⟨lacingShadowWrite_busy, lacingShadowWrite_entries, fun s v hc h31 hv => stitchLaceCommit_busy v hv s h31 hc, laceCancel_cases,
    fun s v hc h31 hv => stitchLaceCommit_judged v hv s h31 hc, laceSwap_cases⟩
end

section
/-! The choice of a service-unit boundary: the rotations, what a choice of a group that owes service units comes to, and the counters of the
turn (R39, R40, R229, R458). -/

namespace Sys2Proof.Machine

open Sys2Proof

/-! ### Groups in rising order -/

theorem mem_insertNat {n x : Nat} {l : List Nat} : x ∈ insertNat n l ↔ x = n ∨ x ∈ l := by
  induction l with
  | nil => simp [insertNat]
  | cons a l ih =>
    rw [insertNat]
    split
    · exact List.mem_cons
    · split
      · subst_vars; simp
      · rw [List.mem_cons, ih, List.mem_cons]; tauto

theorem insertNat_pairwise (n : Nat) {l : List Nat} (h : l.Pairwise (· < ·)) : (insertNat n l).Pairwise (· < ·) := by
  induction l with
  | nil => simp [insertNat]
  | cons a l ih =>
    obtain ⟨ha, hl⟩ := List.pairwise_cons.mp h
    rw [insertNat]
    split
    next hlt => exact List.pairwise_cons.mpr ⟨List.forall_mem_cons.mpr ⟨hlt, fun x hx => Nat.lt_trans hlt (ha x hx)⟩, h⟩
    next hle =>
      split
      · exact h
      next hne =>
        refine List.pairwise_cons.mpr ⟨fun x hx => ?_, ih hl⟩
        rcases mem_insertNat.mp hx with rfl | hx
        · omega
        · exact ha x hx

theorem rising_pairwise (l : List Nat) : (rising l).Pairwise (· < ·) := by
  have hfold : ∀ r : List Nat, r.Pairwise (· < ·) → (l.foldl (fun r g => insertNat g r) r).Pairwise (· < ·) := by
    induction l with
    | nil => exact fun r hr => hr
    | cons a l ih => exact fun r hr => ih _ (insertNat_pairwise a hr)
  exact hfold [] List.Pairwise.nil

theorem State.pendingGroups_pairwise (s : State) (c u : Nat) : (s.pendingGroups c u).Pairwise (· < ·) := rising_pairwise _

/-! ### Rotations (R40) -/

/-- A rotation finds the first of the groups above its pointer, or, where none lies above, the first of all. -/
theorem rotate_of_ne_nil (ptr : Nat) {gs : List Nat} (hs : gs.Pairwise (· < ·)) (hne : gs ≠ []) :
    ∃ g, rotate ptr gs = some g ∧ g ∈ gs ∧
      ((ptr < g ∧ ∀ k ∈ gs, ptr < k → g ≤ k) ∨ ((∀ k ∈ gs, k ≤ ptr) ∧ ∀ k ∈ gs, g ≤ k)) := by
  rw [rotate]
  cases hf : gs.find? (fun g => decide (ptr < g)) with
  | some g =>
    obtain ⟨habove, before, after, rfl, hbefore⟩ := List.find?_eq_some_iff_append.mp hf
    refine ⟨g, rfl, by simp, .inl ⟨of_decide_eq_true habove, fun k hk hlt => ?_⟩⟩
    obtain ⟨-, hafter, -⟩ := List.pairwise_append.mp hs
    rcases List.mem_append.mp hk with hk | hk
    · have hle := hbefore k hk
      simp only [Bool.not_eq_true', decide_eq_false_iff_not] at hle
      exact absurd hlt hle
    · rcases List.mem_cons.mp hk with rfl | hk
      · exact Nat.le_refl _
      · exact Nat.le_of_lt (List.rel_of_pairwise_cons hafter hk)
  | none =>
    obtain ⟨a, l, rfl⟩ := List.exists_cons_of_ne_nil hne
    refine ⟨a, rfl, List.mem_cons_self, .inr ⟨fun k hk => ?_, List.forall_mem_cons.mpr ⟨Nat.le_refl _, fun k hk => ?_⟩⟩⟩
    · simpa using List.find?_eq_none.mp hf k hk
    · exact Nat.le_of_lt (List.rel_of_pairwise_cons hs hk)

theorem pick_held {g : Nat} {gs : List Nat} (h : g ∈ gs) (ptr : Nat) : pick (some g) ptr gs = some g := if_pos h

theorem pick_of_not_held {held : Option Nat} {gs : List Nat} (h : ∀ g, held = some g → g ∉ gs) (ptr : Nat) :
    pick held ptr gs = rotate ptr gs := by
  cases held with
  | none => rfl
  | some g => exact if_neg (h g rfl)

theorem pick_nil (held : Option Nat) (ptr : Nat) : pick held ptr [] = none :=
  (pick_of_not_held (fun _ _ => List.not_mem_nil) ptr).trans rfl

/-! ### The choice (R39) -/

/-- The entry of the present turn for a unit of a class. -/
abbrev State.turnEntry (s : State) (c u : Nat) : W16 := s.laceEntry c (s.periodTurnOf (instHalf c u))

section Choose

variable {s : State} {c u : Nat} {gs : List Nat} (bg : Bool)

theorem State.choose_owner (h : laceKind (s.turnEntry c u) = 0 ∧ laceGroup (s.turnEntry c u) ∈ gs) :
    s.choose c u gs bg = (.owner (laceGroup (s.turnEntry c u)), s.unit c u) := if_pos h

variable (h : ¬ (laceKind (s.turnEntry c u) = 0 ∧ laceGroup (s.turnEntry c u) ∈ gs))
include h

theorem State.choose_share {g : Nat}
    (hs : pick (s.unit c u).heldShare (s.unit c u).sharePtr (gs.filter fun g => s.holdsEntry c g) = some g) :
    s.choose c u gs bg = (.share g, { s.unit c u with sharePtr := g, heldShare := some g }) := by
  simp only [State.choose, if_neg h, hs]

variable (hs : gs.filter (fun g => s.holdsEntry c g) = [])
include hs

theorem State.choose_free {g : Nat}
    (hf : pick (s.unit c u).heldFree (s.unit c u).freePtr (gs.filter fun g => !s.holdsEntry c g) = some g) :
    s.choose c u gs bg = (.free g, { s.unit c u with freePtr := g, heldFree := some g }) := by
  simp only [State.choose, if_neg h, hs, pick_nil, hf]

theorem State.choose_rest (hf : gs.filter (fun g => !s.holdsEntry c g) = []) :
    s.choose c u gs bg = (if bg then .background else .idle, s.unit c u) := by
  simp only [State.choose, if_neg h, hs, hf, pick_nil]
  cases bg <;> rfl

end Choose

/-- The turn's owner is chosen where it has pending work, and in no other case. -/
theorem State.choose_owner_iff (s : State) (c u : Nat) (gs : List Nat) (bg : Bool) :
    (∃ g, (s.choose c u gs bg).1 = .owner g) ↔ laceKind (s.turnEntry c u) = 0 ∧ laceGroup (s.turnEntry c u) ∈ gs := by
  refine ⟨fun ⟨g, hg⟩ => ?_, fun h => ⟨_, by rw [State.choose_owner bg h]⟩⟩
  by_contra h
  simp only [State.choose, if_neg h] at hg
  split at hg
  · cases hg
  · split at hg
    · cases hg
    · cases bg <;> cases hg

/-! ### What a boundary leaves unchanged -/

/-- The counters of the turns of a class (R458). -/
abbrev turnFields (c : Nat) : List FRef :=
  [F.STITCH_TURN_STAT.OWNED.CNT c, F.STITCH_TURN_STAT.PASSED.CNT c, F.STITCH_TURN_STAT.FREE_SERVED.CNT c, F.STITCH_TURN_STAT.IDLE.CNT c]

/-- From `s` to `t` nothing changes but one unit, what groups owe, and the counters of the turns of its class. -/
structure State.unitOnly (s t : State) (c u : Nat) : Prop where
  units : ∀ d w, (d, w) ≠ (c, u) → d < 6 → w < 4096 → t.unit d w = s.unit d w
  rest : { t with csr := s.csr, lace := s.lace } = s
  lace : { t.lace with units := s.lace.units, owed := s.lace.owed } = s.lace
  regs : s.regsKept t (turnFields c)

theorem State.unitOnly.trans {s t v : State} {c u : Nat} (h : s.unitOnly t c u) (h' : t.unitOnly v c u) : s.unitOnly v c u where
  units d w hne hd hw := (h'.units d w hne hd hw).trans (h.units d w hne hd hw)
  rest := by rw [← h.rest, ← h'.rest]
  lace := by rw [← h.lace, ← h'.lace]
  regs := h.regs.trans h'.regs

/-- An update of the records of the units and of what is owed, which leaves every key but the unit's own. -/
theorem State.unitOnly_setUnits (s : State) {c u : Nat} (hu : u < 4096) (us : AMap UnitInst) (o : AMap Nat)
    (hus : ∀ i, i ≠ unitKey c u → AMap.getD us i UnitInst.reset = AMap.getD s.lace.units i UnitInst.reset) :
    s.unitOnly { s with lace := { s.lace with units := us, owed := o } } c u where
  units d w hne _ hw := by
    refine hus _ fun hkey => hne ?_
    rw [unitKey, unitKey] at hkey
    rw [Prod.mk.injEq]
    omega
  rest := rfl
  lace := rfl
  regs := State.regsKept_of_csr rfl _

theorem State.setUnit_unitOnly (s : State) (c : Nat) {u : Nat} (hu : u < 4096) (x : UnitInst) : s.unitOnly (s.setUnit c u x) c u :=
  s.unitOnly_setUnits hu _ _ fun _ hi => AMap.getD_setD_other _ _ _ _ _ _ hi

@[simp] theorem State.setUnit_unit_same (s : State) (c u : Nat) (x : UnitInst) : (s.setUnit c u x).unit c u = x := AMap.getD_setD_same _ _ _ _

/-- The standing choice is that of the record. -/
theorem State.groupAt_eq (s : State) (c u : Nat) : s.groupAt c u = (s.unit c u).chosen.bind Choice.group? := by
  rw [State.groupAt, State.chosenAt, State.unit, AMap.getD, unitKey]
  cases AMap.get? s.lace.units (4096 * c + u) <;> rfl

/-! ### Service units had in advance (R229) -/

/-- R29, R39: the unit's choice is used up, a dispatcher's with a dispatch. -/
def State.useUnit (s : State) (c u : Nat) : State := if c = 1 then s.useDispatch u else s.useChoice c u

theorem State.useChoice_getD (s : State) (c u i : Nat) : AMap.getD (s.useChoice c u).lace.units i UnitInst.reset =
    if i = unitKey c u then { AMap.getD s.lace.units i UnitInst.reset with chosen := none } else AMap.getD s.lace.units i UnitInst.reset :=
  AMap.getD_map_if (fun i => i = 4096 * c + u) (fun x : UnitInst => { x with chosen := none }) s.lace.units i rfl

theorem State.useChoice_unit (s : State) (c u : Nat) : (s.useChoice c u).unit c u = { s.unit c u with chosen := none } :=
  (s.useChoice_getD c u _).trans (if_pos rfl)

theorem State.useChoice_other (s : State) (c u : Nat) {i : Nat} (hi : i ≠ unitKey c u) :
    AMap.getD (s.useChoice c u).lace.units i UnitInst.reset = AMap.getD s.lace.units i UnitInst.reset :=
  (s.useChoice_getD c u i).trans (if_neg hi)

/-- What a dispatch counts in the record of its half in cycle `n` (R29). -/
def UnitInst.dispatched (n : Nat) (x : UnitInst) : UnitInst :=
  { x with starts := x.starts + 1, ports := (n, (if x.ports.1 = n then x.ports.2 else 0) + 1) }

theorem State.useDispatch_get? (s : State) (h i : Nat) : AMap.get? (s.useDispatch h).lace.units i =
    if i = 4096 + h then (AMap.get? (s.useChoice 1 h).lace.units i).map (.dispatched s.clk.cycles)
    else AMap.get? (s.useChoice 1 h).lace.units i :=
  AMap.get?_map_if (fun i => i = 4096 + h) (UnitInst.dispatched s.clk.cycles) (s.useChoice 1 h).lace.units i

theorem State.useDispatch_unit (s : State) (h : Nat) :
    ∃ n p, (s.useDispatch h).unit 1 h = { s.unit 1 h with chosen := none, starts := n, ports := p } := by
  have hchoice := s.useChoice_unit 1 h
  rw [State.unit, AMap.getD] at hchoice ⊢
  rw [State.useDispatch_get?, if_pos (by rw [unitKey])]
  cases hget : AMap.get? (s.useChoice 1 h).lace.units (unitKey 1 h) with
  | none => rw [hget] at hchoice; exact ⟨_, _, hchoice⟩
  | some x =>
    rw [hget, Option.getD_some] at hchoice
    exact ⟨_, _, by rw [Option.map_some, Option.getD_some, UnitInst.dispatched, hchoice]⟩

theorem State.useUnit_unit (s : State) (c u : Nat) :
    ∃ n p, (s.useUnit c u).unit c u = { s.unit c u with chosen := none, starts := n, ports := p } := by
  unfold State.useUnit
  split
  next hc => subst hc; exact s.useDispatch_unit u
  next => exact ⟨_, _, s.useChoice_unit c u⟩

theorem State.useUnit_other (s : State) (c u : Nat) {i : Nat} (hi : i ≠ unitKey c u) :
    AMap.getD (s.useUnit c u).lace.units i UnitInst.reset = AMap.getD s.lace.units i UnitInst.reset := by
  unfold State.useUnit
  split
  next hc =>
    subst hc
    rw [AMap.getD, State.useDispatch_get?, if_neg (by simpa [unitKey] using hi)]
    exact s.useChoice_other 1 u hi
  next => exact s.useChoice_other c u hi

theorem State.useUnit_frame (s : State) (c u : Nat) : s.useUnit c u = { s with lace := { s.lace with units := (s.useUnit c u).lace.units } } := by
  unfold State.useUnit; split <;> rfl

/-- Group `g` pays the unit one of the service units that it owes. -/
def State.paid (s : State) (c u g : Nat) : State :=
  { s with lace := { s.lace with
    units := (s.useUnit c u).lace.units
    owed := AMap.setD 0 s.lace.owed (owedKey c u g) (s.owes c u g - 1) } }

theorem State.settle_of_clear {s : State} {c u : Nat} (h : ∀ g, s.groupAt c u = some g → s.owes c u g = 0) : s.settle c u = s := by
  unfold State.settle
  split
  · rfl
  next g hg => exact if_pos (h g hg)

theorem State.settle_of_owing {s : State} {c u g : Nat} (h : s.groupAt c u = some g) (ho : s.owes c u g ≠ 0) :
    s.settle c u = s.paid c u g := by
  have huse : (if c = 1 then s.useDispatch u else s.useChoice c u) =
      { s with lace := { s.lace with units := (s.useUnit c u).lace.units } } := s.useUnit_frame c u
  simp only [State.settle, h, if_neg ho, huse]
  rfl

theorem State.paid_unitOnly (s : State) (c g : Nat) {u : Nat} (hu : u < 4096) : s.unitOnly (s.paid c u g) c u :=
  s.unitOnly_setUnits hu _ _ fun _ hi => s.useUnit_other c u hi

theorem State.settle_cases (s : State) (c u : Nat) : s.settle c u = s ∨ ∃ g, s.settle c u = s.paid c u g := by
  by_cases h : ∀ g, s.groupAt c u = some g → s.owes c u g = 0
  · exact .inl (State.settle_of_clear h)
  · push Not at h
    obtain ⟨g, hg, ho⟩ := h
    exact .inr ⟨g, State.settle_of_owing hg ho⟩

theorem State.settle_csr (s : State) (c u : Nat) : (s.settle c u).csr = s.csr := by
  rcases s.settle_cases c u with h | ⟨g, h⟩
  · rw [h]
  · rw [h]; rfl

theorem State.settle_unitOnly (s : State) (c : Nat) {u : Nat} (hu : u < 4096) : s.unitOnly (s.settle c u) c u := by
  rcases s.settle_cases c u with h | ⟨g, h⟩
  · rw [h]; exact ⟨fun _ _ _ _ _ => rfl, rfl, rfl, s.regsKept_refl _⟩
  · rw [h]; exact s.paid_unitOnly c g hu

/-- What a choice comes to at a unit: the rotations as the choice left them, and one service unit paid where its group owes any. -/
structure State.settledTo (s t : State) (c u : Nat) (x : UnitInst) (ch : Choice) : Prop where
  clear : ∀ g, ch.group? = some g → s.owes c u g = 0 → (t.unit c u).chosen = some ch
  owing : ∀ g, ch.group? = some g → s.owes c u g ≠ 0 → (t.unit c u).chosen = none ∧ t.owes c u g + 1 = s.owes c u g
  plain : ch.group? = none → (t.unit c u).chosen = some ch
  others : ∀ g, ch.group? ≠ some g → t.owes c u g = s.owes c u g
  sharePtr : (t.unit c u).sharePtr = x.sharePtr
  freePtr : (t.unit c u).freePtr = x.freePtr
  heldShare : (t.unit c u).heldShare = x.heldShare
  heldFree : (t.unit c u).heldFree = x.heldFree

/-- The state behind a choice, with its turn not yet counted. -/
def State.served (s : State) (c u : Nat) (p : Choice × UnitInst) : State :=
  (s.setUnit c u { p.2 with chosen := some p.1, firstMade := true }).settle c u

theorem State.served_rd (s : State) (c u : Nat) (p : Choice × UnitInst) (f : FRef) : (s.served c u p).rd f = s.rd f :=
  State.rd_congr (State.settle_csr (s.setUnit c u _) c u) f

theorem State.served_settledTo (s : State) (c u : Nat) (ch : Choice) (x : UnitInst) :
    s.settledTo (s.served c u (ch, x)) c u x ch := by
  have hgroup : (s.setUnit c u { x with chosen := some ch, firstMade := true }).groupAt c u = ch.group? := by
    rw [State.groupAt_eq, State.setUnit_unit_same]; rfl
  have howes : ∀ g, (s.setUnit c u { x with chosen := some ch, firstMade := true }).owes c u g = s.owes c u g := fun _ => rfl
  by_cases h : ∀ g, ch.group? = some g → s.owes c u g = 0
  · have hrun : s.served c u (ch, x) = s.setUnit c u { x with chosen := some ch, firstMade := true } :=
      State.settle_of_clear (by rw [hgroup]; exact h)
    rw [hrun]
    refine ⟨?_, fun g hg ho => absurd (h g hg) ho, ?_, fun g _ => howes g, ?_, ?_, ?_, ?_⟩ <;> simp
  · push Not at h
    obtain ⟨g, hg, ho⟩ := h
    have hrun : s.served c u (ch, x) = (s.setUnit c u { x with chosen := some ch, firstMade := true }).paid c u g :=
      State.settle_of_owing (hgroup.trans hg) ho
    obtain ⟨n, p, hunit⟩ := (s.setUnit c u { x with chosen := some ch, firstMade := true }).useUnit_unit c u
    have hpaid : ((s.setUnit c u { x with chosen := some ch, firstMade := true }).paid c u g).unit c u =
        { x with chosen := none, firstMade := true, starts := n, ports := p } := by
      rw [State.setUnit_unit_same] at hunit
      exact hunit
    rw [hrun]
    refine ⟨fun k hk h0 => ?_, fun k hk _ => ⟨by rw [hpaid], ?_⟩, fun hn => ?_, fun k hk => ?_, ?_, ?_, ?_, ?_⟩
    · obtain rfl : k = g := Option.some.inj (hk.symm.trans hg)
      exact absurd h0 ho
    · obtain rfl : k = g := Option.some.inj (hk.symm.trans hg)
      rw [State.owes, State.paid, AMap.getD_setD_same, howes]
      omega
    · simp [hn] at hg
    · have hkey : owedKey c u k ≠ owedKey c u g := fun hkey => hk (by
        rw [owedKey, owedKey] at hkey
        rw [hg, Nat.add_left_cancel hkey])
      rw [State.owes, State.paid, AMap.getD_setD_other _ _ _ _ _ _ hkey]
      exact howes k
    all_goals rw [hpaid]

/-! ### The counters of the turn (R458) -/

/-- Counters that rise by one each. -/
def State.countAll (s : State) (fs : List FRef) : State := fs.foldl (fun s f => s.count f 1) s

theorem State.countAll_frame (s : State) (fs : List FRef) : { s.countAll fs with csr := s.csr } = s := by
  induction fs generalizing s with
  | nil => rfl
  | cons f fs ih => exact congrArg (fun t : State => { t with csr := s.csr }) (ih (s.count f 1))

@[simp] theorem State.countAll_lace (s : State) (fs : List FRef) : (s.countAll fs).lace = s.lace := by
  have hframe := congrArg State.lace (s.countAll_frame fs)
  exact hframe

theorem State.countAll_regsKept (s : State) {fs gs : List FRef} (h : ∀ f ∈ fs, f ∈ gs ∧ f.hi < 64) : s.regsKept (s.countAll fs) gs := by
  induction fs generalizing s with
  | nil => exact s.regsKept_refl _
  | cons f fs ih =>
    obtain ⟨hm, hf⟩ := h f List.mem_cons_self
    exact ((s.regsKept_refl _).count 1 hm hf).trans (ih _ fun g hg => h g (List.mem_cons_of_mem _ hg))

/-- The counters that the first choice of a turn raises. -/
def turnCounters (c : Nat) (e : W16) (maint : Bool) (ch : Choice) : List FRef :=
  (if laceKind e = 0 then
      (match ch with | .owner _ => [F.STITCH_TURN_STAT.OWNED.CNT c] | _ => [F.STITCH_TURN_STAT.PASSED.CNT c])
    else if laceKind e = 2 ∧ maint then []
    else if ch.group?.isSome then [F.STITCH_TURN_STAT.FREE_SERVED.CNT c]
    else []) ++
  (if laceKind e = 2 ∧ maint then [] else if ch = .idle then [F.STITCH_TURN_STAT.IDLE.CNT c] else [])

theorem State.countTurn_eq (s : State) (c : Nat) (e : W16) (maint : Bool) (ch : Choice) :
    s.countTurn c e maint ch = s.countAll (turnCounters c e maint ch) := by
  unfold State.countTurn turnCounters
  by_cases h0 : laceKind e = 0
  · have h2 : ¬ (laceKind e = 2 ∧ maint = true) := by simp [h0]
    cases ch <;> simp [h0, State.countAll]
  · by_cases h2 : laceKind e = 2 ∧ maint = true
    · simp [h2, State.countAll]
    · cases ch <;> simp [h0, h2, State.countAll, Choice.group?]

/-- The counters of a turn that its owner does not use. -/
abbrev passedFields (c : Nat) : List FRef :=
  [F.STITCH_TURN_STAT.PASSED.CNT c, F.STITCH_TURN_STAT.FREE_SERVED.CNT c, F.STITCH_TURN_STAT.IDLE.CNT c]

theorem turnCounters_owner {c : Nat} {e : W16} (h0 : laceKind e = 0) (maint : Bool) (g : Nat) :
    turnCounters c e maint (.owner g) = [F.STITCH_TURN_STAT.OWNED.CNT c] := by simp [turnCounters, h0]

theorem turnCounters_passed {c : Nat} {e : W16} {maint : Bool} {ch : Choice} (h : ¬ (laceKind e = 0 ∧ ∃ g, ch = .owner g)) :
    ∀ f ∈ turnCounters c e maint ch, f ∈ passedFields c ∧ f.hi < 64 := by
  have hhi : ∀ f ∈ passedFields c, f.hi < 64 := by
    simp [F.STITCH_TURN_STAT.PASSED.CNT, F.STITCH_TURN_STAT.FREE_SERVED.CNT, F.STITCH_TURN_STAT.IDLE.CNT]
  have hsub : turnCounters c e maint ch ⊆ passedFields c := by
    refine List.append_subset.mpr ⟨?_, ?_⟩
    · split
      next h0 =>
        split
        · exact absurd ⟨h0, _, rfl⟩ h
        · simp
      next => split <;> [simp; (split <;> simp)]
    · split <;> [simp; (split <;> simp)]
  exact fun f hf => ⟨hsub hf, hhi f (hsub hf)⟩

theorem turnCounters_fields (c : Nat) (e : W16) (maint : Bool) (ch : Choice) :
    ∀ f ∈ turnCounters c e maint ch, f ∈ turnFields c ∧ f.hi < 64 := by
  by_cases h : laceKind e = 0 ∧ ∃ g, ch = .owner g
  · obtain ⟨h0, g, rfl⟩ := h
    rw [turnCounters_owner h0]
    simp [F.STITCH_TURN_STAT.OWNED.CNT]
  · exact fun f hf => ⟨List.mem_cons_of_mem _ (turnCounters_passed h f hf).1, (turnCounters_passed h f hf).2⟩

@[simp] theorem State.countTurn_lace (s : State) (c : Nat) (e : W16) (maint : Bool) (ch : Choice) : (s.countTurn c e maint ch).lace = s.lace := by
  rw [State.countTurn_eq, State.countAll_lace]

theorem State.countTurn_unitOnly (s : State) (c u : Nat) (e : W16) (maint : Bool) (ch : Choice) :
    s.unitOnly (s.countTurn c e maint ch) c u where
  units d w _ _ _ := by rw [State.unit, State.countTurn_lace]; rfl
  rest := by
    rw [State.countTurn_eq]
    exact congrArg (fun t : State => { t with lace := s.lace }) (s.countAll_frame (turnCounters c e maint ch))
  lace := by rw [State.countTurn_lace]
  regs := by rw [State.countTurn_eq]; exact s.countAll_regsKept (turnCounters_fields c e maint ch)

theorem State.countTurn_owned (s : State) (c : Nat) (e : W16) (maint : Bool) (g : Nat) (h0 : laceKind e = 0) :
    (s.countTurn c e maint (.owner g)).rd (F.STITCH_TURN_STAT.OWNED.CNT c) =
      min (s.rd (F.STITCH_TURN_STAT.OWNED.CNT c) + 1) (2 ^ 32 - 1) := by
  rw [State.countTurn_eq, turnCounters_owner h0]
  exact s.rd_count_same _ 1 (by simp [F.STITCH_TURN_STAT.OWNED.CNT])

theorem State.countTurn_not_owned (s : State) {c : Nat} {e : W16} (maint : Bool) {ch : Choice} (h : ¬ (laceKind e = 0 ∧ ∃ g, ch = .owner g)) :
    (s.countTurn c e maint ch).rd (F.STITCH_TURN_STAT.OWNED.CNT c) = s.rd (F.STITCH_TURN_STAT.OWNED.CNT c) := by
  rw [State.countTurn_eq]
  refine s.countAll_regsKept (turnCounters_passed h) _ ?_
  simp [F.STITCH_TURN_STAT.OWNED.CNT, F.STITCH_TURN_STAT.PASSED.CNT, F.STITCH_TURN_STAT.FREE_SERVED.CNT, F.STITCH_TURN_STAT.IDLE.CNT]

/-! ### The boundary -/

/-- R29: a half has started all the dispatches that the turn or the cycle allows. -/
def State.noPort (s : State) (c u : Nat) : Prop :=
  c = 1 ∧ ((s.unit c u).starts ≥ 42 ∨ ((s.unit c u).ports.1 = s.clk.cycles ∧ (s.unit c u).ports.2 ≥ 3))

section Boundary

variable {s : State} {c u : Nat} (gs : List Nat) (bg maint : Bool)

theorem State.serviceBoundary_noPort (h : s.noPort c u) :
    s.serviceBoundary c u gs bg maint = s.setUnit c u { s.unit c u with chosen := none } := if_pos h

variable (hport : ¬ s.noPort c u)
include hport

theorem State.serviceBoundary_maint (h : laceKind (s.turnEntry c u) = 2 ∧ maint = true) :
    s.serviceBoundary c u gs bg maint = s.setUnit c u { s.unit c u with chosen := some .background, firstMade := true } :=
  (if_neg hport).trans (if_pos h)

theorem State.serviceBoundary_choice (h : ¬ (laceKind (s.turnEntry c u) = 2 ∧ maint = true)) :
    s.serviceBoundary c u gs bg maint =
      if (s.unit c u).firstMade then s.served c u (s.choose c u gs bg)
      else (s.served c u (s.choose c u gs bg)).countTurn c (s.turnEntry c u) maint (s.choose c u gs bg).1 :=
  (if_neg hport).trans (if_neg h)

end Boundary

theorem State.serviceBoundary_unitOnly (s : State) (c : Nat) {u : Nat} (hu : u < 4096) (gs : List Nat) (bg maint : Bool) :
    s.unitOnly (s.serviceBoundary c u gs bg maint) c u := by
  by_cases hport : s.noPort c u
  · rw [State.serviceBoundary_noPort gs bg maint hport]
    exact s.setUnit_unitOnly c hu _
  · by_cases hm : laceKind (s.turnEntry c u) = 2 ∧ maint = true
    · rw [State.serviceBoundary_maint gs bg maint hport hm]
      exact s.setUnit_unitOnly c hu _
    · have hserved := (s.setUnit_unitOnly c hu { (s.choose c u gs bg).2 with chosen := some (s.choose c u gs bg).1, firstMade := true }).trans
        (State.settle_unitOnly _ c hu)
      rw [State.serviceBoundary_choice gs bg maint hport hm]
      split
      · exact hserved
      · exact hserved.trans (State.countTurn_unitOnly _ c u _ maint _)

/-- What a choice comes to stands when the turn is counted. -/
theorem State.settledTo.countTurn {s t : State} {c u : Nat} {x : UnitInst} {ch : Choice} (h : s.settledTo t c u x ch) (d : Nat) (e : W16)
    (maint : Bool) (k : Choice) : s.settledTo (t.countTurn d e maint k) c u x ch := by
  have hunit : (t.countTurn d e maint k).unit c u = t.unit c u := by rw [State.unit, State.countTurn_lace]; rfl
  have howes : ∀ g, (t.countTurn d e maint k).owes c u g = t.owes c u g := fun g => by rw [State.owes, State.countTurn_lace]; rfl
  constructor <;> simp only [hunit, howes]
  exacts [h.clear, h.owing, h.plain, h.others, h.sharePtr, h.freePtr, h.heldShare, h.heldFree]

theorem State.serviceBoundary_settledTo {s : State} {c u : Nat} (gs : List Nat) (bg : Bool) {maint : Bool} (hport : ¬ s.noPort c u)
    (hm : ¬ (laceKind (s.turnEntry c u) = 2 ∧ maint = true)) :
    s.settledTo (s.serviceBoundary c u gs bg maint) c u (s.choose c u gs bg).2 (s.choose c u gs bg).1 := by
  have hserved := s.served_settledTo c u (s.choose c u gs bg).1 (s.choose c u gs bg).2
  rw [State.serviceBoundary_choice gs bg maint hport hm]
  split
  · exact hserved
  · exact hserved.countTurn _ _ _ _

theorem unitsIn_le (c : Nat) : unitsIn c ≤ 544 := by
  unfold unitsIn
  split <;> omega

theorem exec_serviceUnitBoundary {s : State} {c u : Nat} (bg : Bool) (hu : u < unitsIn c) (hb : s.unitBusy c u = false) :
    exec (.serviceUnitBoundary c u bg) s = .next (s.serviceBoundary c u (s.pendingGroups c u) bg (s.maintDue c u)) :=
  if_pos ⟨hu, hb⟩

theorem exec_serviceUnitBoundary_busy (s : State) (c u : Nat) (bg : Bool) (h : s.unitBusy c u = true) :
    exec (.serviceUnitBoundary c u bg) s = .next s :=
  if_neg fun hfree => Bool.false_ne_true (hfree.2.symm.trans h)

/-- Where the owner of the turn does not take it, the groups that hold entries of the class go before those that hold none, each kind by its
held group or its rotation, and both go before background work (R39, R40). -/
theorem State.choose_of_not_owner {s : State} {c u : Nat} {gs : List Nat} (bg : Bool) (hgs : gs.Pairwise (· < ·))
    (h : ¬ (laceKind (s.turnEntry c u) = 0 ∧ laceGroup (s.turnEntry c u) ∈ gs)) {x : UnitInst} {sh fr : List Nat} (hx : x = s.unit c u)
    (hsh : sh = gs.filter (fun g => s.holdsEntry c g)) (hfr : fr = gs.filter (fun g => !s.holdsEntry c g)) :
    (∀ g, x.heldShare = some g → g ∈ sh → (s.choose c u gs bg).1 = .share g) ∧
    ((∀ g, x.heldShare = some g → g ∉ sh) → sh ≠ [] →
      ∃ g, (s.choose c u gs bg).1 = .share g ∧ (s.choose c u gs bg).2.sharePtr = g ∧ (s.choose c u gs bg).2.heldShare = some g ∧ g ∈ sh ∧
        ((x.sharePtr < g ∧ ∀ k ∈ sh, x.sharePtr < k → g ≤ k) ∨ ((∀ k ∈ sh, k ≤ x.sharePtr) ∧ ∀ k ∈ sh, g ≤ k))) ∧
    (sh = [] →
      (∀ g, x.heldFree = some g → g ∈ fr → (s.choose c u gs bg).1 = .free g) ∧
      ((∀ g, x.heldFree = some g → g ∉ fr) → fr ≠ [] →
        ∃ g, (s.choose c u gs bg).1 = .free g ∧ (s.choose c u gs bg).2.freePtr = g ∧ (s.choose c u gs bg).2.heldFree = some g ∧ g ∈ fr ∧
          ((x.freePtr < g ∧ ∀ k ∈ fr, x.freePtr < k → g ≤ k) ∨ ((∀ k ∈ fr, k ≤ x.freePtr) ∧ ∀ k ∈ fr, g ≤ k))) ∧
      (fr = [] → (s.choose c u gs bg).1 = if bg then .background else .idle)) := by
  subst hx hsh hfr
  refine ⟨fun g hg hm => ?_, fun hheld hne => ?_, fun hnone => ⟨fun g hg hm => ?_, fun hheld hne => ?_, fun hempty => ?_⟩⟩
  · rw [State.choose_share bg h (by rw [hg]; exact pick_held hm _)]
  · obtain ⟨g, hrot, hm, hnext⟩ := rotate_of_ne_nil (s.unit c u).sharePtr (hgs.filter _) hne
    rw [State.choose_share bg h ((pick_of_not_held hheld _).trans hrot)]
    exact ⟨g, rfl, rfl, rfl, hm, hnext⟩
  · rw [State.choose_free bg h hnone (by rw [hg]; exact pick_held hm _)]
  · obtain ⟨g, hrot, hm, hnext⟩ := rotate_of_ne_nil (s.unit c u).freePtr (hgs.filter _) hne
    rw [State.choose_free bg h hnone ((pick_of_not_held hheld _).trans hrot)]
    exact ⟨g, rfl, rfl, rfl, hm, hnext⟩
  · rw [State.choose_rest bg h hnone hempty]

/-- R458: the first choice of a turn counts it as used by its owner exactly where the owner is chosen. -/
theorem State.serviceBoundary_owned {s : State} {c u : Nat} (gs : List Nat) (bg : Bool) {maint : Bool} (hport : ¬ s.noPort c u)
    (hm : ¬ (laceKind (s.turnEntry c u) = 2 ∧ maint = true)) (hfirst : (s.unit c u).firstMade = false) :
    (s.serviceBoundary c u gs bg maint).rd (F.STITCH_TURN_STAT.OWNED.CNT c) =
      if laceKind (s.turnEntry c u) = 0 ∧ laceGroup (s.turnEntry c u) ∈ gs then
        min (s.rd (F.STITCH_TURN_STAT.OWNED.CNT c) + 1) (2 ^ 32 - 1) else s.rd (F.STITCH_TURN_STAT.OWNED.CNT c) := by
  rw [State.serviceBoundary_choice gs bg maint hport hm, if_neg (by simp [hfirst])]
  split
  next hown => rw [State.choose_owner bg hown, State.countTurn_owned _ _ _ _ _ hown.1, State.served_rd]
  next hown =>
    rw [State.countTurn_not_owned _ _ fun h => hown ((s.choose_owner_iff c u gs bg).mp h.2), State.served_rd]

end Sys2Proof.Machine

open Sys2Proof Sys2Proof.Machine

/-- Settles O8: what a boundary leaves unchanged, a half without a port, maintenance, and the choice with its charge. -/
theorem serviceChoice : Obligations.ServiceChoice := by
  refine ⟨exec_serviceUnitBoundary_busy, fun s c u bg gs sh fr e x hu hb hgs he hx hsh hfr => ?_⟩
  have hlt : u < 4096 := Nat.lt_of_lt_of_le hu (Nat.le_trans (unitsIn_le c) (by decide))
  have hsorted : gs.Pairwise (· < ·) := hgs ▸ s.pendingGroups_pairwise c u
  have hrun := exec_serviceUnitBoundary bg hu hb
  have hkept := s.serviceBoundary_unitOnly c hlt gs bg (s.maintDue c u)
  rw [← hgs] at hrun
  change e = s.turnEntry c u at he
  refine ⟨_, _, hrun, rfl, hkept.units, hkept.rest, hkept.lace, hkept.regs, fun hc hno => ?_, fun hopen => ?_⟩
  · have hport : s.noPort c u := ⟨hc, hx ▸ hno⟩
    rw [State.serviceBoundary_noPort gs bg _ hport, State.setUnit_unit_same, hx]
    exact ⟨rfl, rfl⟩
  · have hport : ¬ s.noPort c u := by
      rintro ⟨hc, hno⟩
      rw [← hx] at hno
      obtain ⟨hstarts, hports⟩ := hopen hc
      rcases hno with hno | ⟨hcycle, hno⟩
      · omega
      · exact absurd (hports hcycle) (by omega)
    rw [he]
    refine ⟨fun hk hm => ?_, fun hm => ?_⟩
    · rw [State.serviceBoundary_maint gs bg _ hport ⟨hk, hm⟩, State.setUnit_unit_same]
    · have hnot : ¬ (laceKind (s.turnEntry c u) = 2 ∧ s.maintDue c u = true) := fun ⟨hk, hd⟩ => Bool.false_ne_true ((hm hk).symm.trans hd)
      obtain ⟨hclear, howing, hplain, hothers, hsharePtr, hfreePtr, hheldShare, hheldFree⟩ := State.serviceBoundary_settledTo gs bg hport hnot
      refine ⟨(s.choose c u gs bg).1, hclear, howing, hplain, fun g _ => hothers g, fun hk hin => ?_, fun hown => ?_,
        fun hfirst => State.serviceBoundary_owned gs bg hport hnot (hx ▸ hfirst)⟩
      · rw [hsharePtr, hfreePtr, State.choose_owner bg ⟨hk, hin⟩, hx]
        exact ⟨rfl, rfl, rfl⟩
      · rw [hsharePtr, hfreePtr, hheldShare, hheldFree]
        exact State.choose_of_not_owner bg hsorted (fun h => hown h.1 h.2) hx hsh hfr
end

section
/-! The invariant of the stitch and the lacing: what of a state it speaks of, and that every command of the stitch and every idle cycle keeps it
(R21, R25, R26, R31, R42 to R44). -/

namespace Sys2Proof.Machine

open Sys2Proof

/-! ### What the invariant speaks of -/

/-- The register fields that the invariant reads. -/
abbrev goodFields : List FRef :=
  [F.STITCH_SYSREQ.MIN, F.STITCH_POS.SIP, F.STITCH_COUNT.COUNT, F.STITCH_LEN.PENDING, F.STITCH_LACE_STATUS.PENDING]

/-- From `s` to `t` nothing changes of which the invariant speaks. -/
structure State.goodAs (s t : State) : Prop where
  active : ∀ c, (t.laceTab c).active = (s.laceTab c).active
  lenReqAt : t.lace.lenReqAt = s.lace.lenReqAt
  commit : t.lace.commit = s.lace.commit
  regs : ∀ g ∈ goodFields, t.rd g = s.rd g

namespace State.goodAs

protected theorem refl (s : State) : s.goodAs s := ⟨fun _ => rfl, rfl, rfl, fun _ _ => rfl⟩

protected theorem trans {s t u : State} (h : s.goodAs t) (h' : t.goodAs u) : s.goodAs u where
  active c := (h'.active c).trans (h.active c)
  lenReqAt := h'.lenReqAt.trans h.lenReqAt
  commit := h'.commit.trans h.commit
  regs g hg := (h'.regs g hg).trans (h.regs g hg)

/-- An update outside the registers and the lacing. -/
theorem congr {s t u : State} (h : s.goodAs t) (hcsr : u.csr = t.csr) (hlace : u.lace = t.lace) : s.goodAs u :=
  h.trans ⟨fun c => by rw [State.laceTab, hlace]; rfl, by rw [hlace], by rw [hlace], fun g _ => State.rd_congr hcsr g⟩

/-- An update of the lacing that leaves its tables and what waits. -/
theorem setLace {s t : State} (h : s.goodAs t) (l : Lace) (htabs : l.tabs = t.lace.tabs) (hlen : l.lenReqAt = t.lace.lenReqAt)
    (hcommit : l.commit = t.lace.commit) : s.goodAs { t with lace := l } :=
  h.trans ⟨fun c => by simp only [State.laceTab, htabs], hlen, hcommit, fun _ _ => rfl⟩

theorem wr {s t : State} (h : s.goodAs t) {f : FRef} (v : Nat) (ha : goodFields.all f.apart = true) (hf : f.hi < 64) : s.goodAs (t.wr f v) :=
  h.trans ⟨fun _ => rfl, rfl, rfl, fun g hg => t.rd_wr_apart f g v hf (List.all_eq_true.mp ha g hg)⟩

/-- A write of a register above those of the invariant. -/
theorem wr_above {s t : State} (h : s.goodAs t) {f : FRef} (v : Nat) (ha : 0x100100 ≤ f.addr) : s.goodAs (t.wr f v) := by
  have hbelow : ∀ g ∈ goodFields, g.addr < 0x100100 := by decide
  exact h.trans ⟨fun _ => rfl, rfl, rfl, fun g hg => t.rd_wr_addr f g v (Nat.ne_of_lt (Nat.lt_of_lt_of_le (hbelow g hg) ha))⟩

end State.goodAs

theorem foldl_goodAs {α : Type} {f : State → α → State} (hf : ∀ (s : State) x, s.goodAs (f s x)) (l : List α) (s : State) :
    s.goodAs (l.foldl f s) := by
  induction l generalizing s with
  | nil => exact .refl s
  | cons x l ih => exact (hf s x).trans (ih _)

/-- The part of the invariant that speaks of the active tables (R31, R43, R365). -/
structure State.tablesGood (s : State) : Prop where
  entries : ∀ c < 6, ∀ p, entryFault c (s.laceEntry c p) = none
  system : s.rd F.STITCH_SYSREQ.MIN ≤ systemCount (s.laceTab 3).active

/-- The part of the invariant that speaks of what waits (R25, R26). -/
structure State.waitsGood (s : State) : Prop where
  lenPending : s.rd F.STITCH_LEN.PENDING = 1 ↔ s.lace.lenReqAt.isSome = true
  lacePending : s.rd F.STITCH_LACE_STATUS.PENDING = 1 ↔ s.lace.commit.isSome = true
  apart : s.lace.lenReqAt = none ∨ s.lace.commit = none

theorem State.laceGood_iff (s : State) :
    s.laceGood ↔ s.tablesGood ∧ s.rd F.STITCH_POS.SIP = s.rd F.STITCH_COUNT.COUNT % 64 ∧ s.waitsGood :=
  ⟨fun h => ⟨⟨h.entries, h.system⟩, h.position, h.lenPending, h.lacePending, h.apart⟩,
    fun ⟨ht, hp, hw⟩ => ⟨ht.entries, ht.system, hp, hw.lenPending, hw.lacePending, hw.apart⟩⟩

theorem State.tablesGood.keep {s t : State} (h : s.tablesGood) (hactive : ∀ c, (t.laceTab c).active = (s.laceTab c).active)
    (hmin : t.rd F.STITCH_SYSREQ.MIN = s.rd F.STITCH_SYSREQ.MIN) : t.tablesGood where
  entries c hc p := by rw [State.laceEntry, hactive]; exact h.entries c hc p
  system := by rw [hactive, hmin]; exact h.system

theorem State.laceGood.of_goodAs {s t : State} (h : s.laceGood) (hs : s.goodAs t) : t.laceGood := by
  obtain ⟨htables, hpos, hwaits⟩ := s.laceGood_iff.mp h
  refine t.laceGood_iff.mpr ⟨htables.keep hs.active (hs.regs _ (by simp)), ?_, ?_, ?_, ?_⟩
  · rw [hs.regs _ (by simp), hs.regs _ (by simp), hpos]
  · rw [hs.regs _ (by simp), hs.lenReqAt]; exact hwaits.lenPending
  · rw [hs.regs _ (by simp), hs.commit]; exact hwaits.lacePending
  · rw [hs.lenReqAt, hs.commit]; exact hwaits.apart

/-- A change of what waits alone: the tables and the position stand. -/
theorem State.laceGood.of_waits {s t : State} {fs : List FRef} (h : s.laceGood) (htabs : t.lace.tabs = s.lace.tabs) (hregs : s.regsKept t fs)
    (hfs : ∀ g ∈ [F.STITCH_SYSREQ.MIN, F.STITCH_POS.SIP, F.STITCH_COUNT.COUNT], ∀ f ∈ fs, g.addr ≠ f.addr ∨ g.hi < f.lo ∨ f.hi < g.lo)
    (hwaits : t.waitsGood) : t.laceGood := by
  obtain ⟨htables, hpos, -⟩ := s.laceGood_iff.mp h
  refine t.laceGood_iff.mpr ⟨htables.keep (fun c => by simp only [State.laceTab, htabs]) (hregs _ (hfs _ (by simp))), ?_, hwaits⟩
  rw [hregs _ (hfs _ (by simp)), hregs _ (hfs _ (by simp)), hpos]

/-! ### Turns and stitches -/

theorem State.beginTurn_goodAs (s : State) (hs : List Nat) : s.goodAs (s.beginTurn hs) := (State.goodAs.refl s).setLace _ rfl rfl rfl

theorem State.freeTurn_goodAs (s : State) : s.goodAs s.freeTurn := by
  unfold State.freeTurn
  split
  · exact .refl s
  · split
    · exact (s.beginTurn_goodAs [1]).setLace _ rfl rfl rfl
    · exact .refl s

theorem execTurnStart_laceGood {s t : State} (h : s.laceGood) (ht : execTurnStart s = .next t) : t.laceGood := by
  refine h.of_goodAs ?_
  unfold execTurnStart at ht
  simp only at ht
  split at ht
  · cases ht; exact (s.beginTurn_goodAs _).trans (State.freeTurn_goodAs _)
  · split at ht
    · cases ht
      have hturn : s.goodAs (s.wr F.STITCH_POS.TURN (s.rd F.STITCH_POS.TURN + 1)) := (State.goodAs.refl s).wr _ (by decide) (by decide)
      exact (hturn.trans (State.beginTurn_goodAs _ _)).trans (State.freeTurn_goodAs _)
    · cases ht; exact s.freeTurn_goodAs

theorem State.reacquire_goodAs (s : State) : s.goodAs s.reacquire := by
  unfold State.reacquire
  split
  · exact .refl s
  · exact ((State.goodAs.refl s).setLace { s.lace with lockRun := 0 } rfl rfl rfl).wr _ (by decide) (by decide)

theorem State.lockStep_goodAs (s : State) (e : Int) : s.goodAs (s.lockStep e) := by
  have hrun := fun n : Nat => (State.goodAs.refl s).setLace { s.lace with lockRun := n } rfl rfl rfl
  unfold State.lockStep
  extract_lets w uw a run
  split
  · split
    · exact s.reacquire_goodAs.wr _ (by decide) (by decide)
    · exact .refl s
  · split
    · split
      · exact (hrun 64).wr _ (by decide) (by decide)
      · exact hrun run
    · exact .refl s

theorem State.adjust_goodAs (s : State) (e : Int) : s.goodAs (s.adjust e) := by
  have hadj := fun n : Int => (State.goodAs.refl s).setLace { s.lace with adj := n } rfl rfl rfl
  unfold State.adjust
  split
  · split
    · exact (hadj _).wr _ (by decide) (by decide)
    · split
      · exact (hadj _).wr _ (by decide) (by decide)
      · exact hadj 0
  · exact hadj 0

theorem State.ptpPhase_goodAs (s : State) (ptp : Nat) : s.goodAs (s.ptpPhase ptp) := by
  unfold State.ptpPhase
  split
  · exact (State.goodAs.refl s).setLace _ rfl rfl rfl
  · have herr : ∀ n, s.goodAs (s.wr F.STITCH_PTP_ERR.ERR n) := fun n => State.goodAs.wr (.refl s) n (by decide) (by decide)
    exact ((herr _).trans (State.lockStep_goodAs _ _)).trans (State.adjust_goodAs _ _)

/-- R21: the stitch moves on. -/
def State.nextStitch (s : State) : State :=
  (((s.wr F.STITCH_COUNT.COUNT (s.stitch + 1)).wr F.STITCH_POS.SIP ((s.stitch + 1) % 64)).wr F.STITCH_POS.TURN 0).wr F.STITCH_POS.CYCLE 0

theorem State.nextStitch_regsKept (s : State) :
    s.regsKept s.nextStitch [F.STITCH_COUNT.COUNT, F.STITCH_POS.SIP, F.STITCH_POS.TURN, F.STITCH_POS.CYCLE] :=
  ((((s.regsKept_refl _).wr _ (by simp) (by decide)).wr _ (by simp) (by decide)).wr _ (by simp) (by decide)).wr _ (by simp) (by decide)

theorem State.nextStitch_count (s : State) : s.nextStitch.rd F.STITCH_COUNT.COUNT = (s.stitch + 1) % 2 ^ 64 := by
  simp (disch := decide) only [State.nextStitch, State.rd_wr_apart, State.rd_wr_same]; rfl

theorem State.nextStitch_position (s : State) : s.nextStitch.rd F.STITCH_POS.SIP = s.nextStitch.rd F.STITCH_COUNT.COUNT % 64 := by
  have hpos : s.nextStitch.rd F.STITCH_POS.SIP = (s.stitch + 1) % 64 % 64 := by
    simp (disch := decide) only [State.nextStitch, State.rd_wr_apart, State.rd_wr_same]; rfl
  rw [hpos, s.nextStitch_count]
  omega

theorem State.nextStitch_laceGood {s : State} (h : s.laceGood) : s.nextStitch.laceGood := by
  have hkept := s.nextStitch_regsKept
  obtain ⟨htables, -, hwaits⟩ := s.laceGood_iff.mp h
  refine s.nextStitch.laceGood_iff.mpr ⟨htables.keep (fun _ => rfl) (hkept _ (by decide)), s.nextStitch_position, ?_, ?_, hwaits.apart⟩
  · rw [hkept _ (by decide)]; exact hwaits.lenPending
  · rw [hkept _ (by decide)]; exact hwaits.lacePending

theorem execStitchBoundary_laceGood {s t : State} (h : s.laceGood) (ht : execStitchBoundary s = .next t) : t.laceGood := by
  unfold execStitchBoundary at ht
  split at ht
  · cases ht; exact (State.nextStitch_laceGood h).of_goodAs (State.ptpPhase_goodAs _ _)
  · cases ht; exact h

theorem execLacingPeriodBoundary_laceGood {s t : State} (h : s.laceGood) (ht : execLacingPeriodBoundary s = .next t) : t.laceGood := by
  have hperiod := (State.goodAs.refl s).setLace { s.lace with periodAt := s.clk.cycles } rfl rfl rfl
  refine h.of_goodAs ?_
  unfold execLacingPeriodBoundary at ht
  split at ht
  · simp only at ht
    split at ht
    · cases ht; exact hperiod.wr _ (by decide) (by decide)
    · cases ht; exact hperiod
  · cases ht; exact .refl s

/-! ### The stitch length (R24 to R26) -/

theorem State.rejectCleared_goodAs (s : State) (v : Nat) : s.goodAs (s.rejectCleared v) := by
  unfold State.rejectCleared
  split
  · exact (State.goodAs.refl s).wr _ (by decide) (by decide)
  · exact .refl s

/-- No request waits where PENDING reads 0. -/
theorem State.laceGood.lenReqAt_none {s : State} (h : s.laceGood) (hp : s.rd F.STITCH_LEN.PENDING ≠ 1) : s.lace.lenReqAt = none := by
  rw [Ne, h.lenPending] at hp
  simpa using hp

theorem State.lenAsked_laceGood {s : State} (h : s.laceGood) (req : Nat) (hc : s.lace.commit = none) : (s.lenAsked req).laceGood := by
  refine h.of_waits rfl (s.lenAsked_regsKept req) (by decide) ⟨?_, ?_, .inr hc⟩
  · simp [s.lenAsked_pending req, s.lenAsked_lace req]
  · rw [s.lenAsked_regsKept req _ (by decide)]; exact h.lacePending

theorem State.stitchLenWrite_laceGood {s : State} (h : s.laceGood) (v : Nat) : (s.stitchLenWrite v).laceGood := by
  rw [State.stitchLenWrite_eq]
  split
  next => exact h.of_goodAs ((s.rejectCleared_goodAs v).wr _ (by decide) (by decide))
  next hfree =>
    split
    · exact h.of_goodAs ((s.rejectCleared_goodAs v).wr _ (by decide) (by decide))
    · refine State.lenAsked_laceGood (h.of_goodAs (s.rejectCleared_goodAs v)) _ ?_
      rw [State.rejectCleared_lace]
      simpa using (not_or.mp hfree).2

/-- The request that waited has been judged. -/
theorem State.laceGood.judged {s t : State} {fs : List FRef} (h : s.laceGood) (htabs : t.lace.tabs = s.lace.tabs)
    (hlen : t.lace.lenReqAt = none) (hcommit : t.lace.commit = s.lace.commit) (hpending : t.rd F.STITCH_LEN.PENDING = 0)
    (hregs : s.regsKept t fs) (hfs : ∀ g ∈ [F.STITCH_LACE_STATUS.PENDING, F.STITCH_SYSREQ.MIN, F.STITCH_POS.SIP, F.STITCH_COUNT.COUNT],
      ∀ f ∈ fs, g.addr ≠ f.addr ∨ g.hi < f.lo ∨ f.hi < g.lo) : t.laceGood := by
  refine h.of_waits htabs hregs (fun g hg => hfs g (List.mem_cons_of_mem _ hg)) ⟨by simp [hpending, hlen], ?_, .inl hlen⟩
  rw [hregs _ (hfs _ List.mem_cons_self), hcommit]
  exact h.lacePending

theorem execStitchLenApply_laceGood {s t : State} (h : s.laceGood) (ht : execStitchLenApply s = .next t) : t.laceGood := by
  cases hr : s.lace.lenReqAt with
  | none =>
    rw [execStitchLenApply_idle hr] at ht
    cases ht; exact h
  | some t0 =>
    by_cases hdue : s.atPeriod = true ∧ t0 + 4096 ≤ s.clk.cycles
    · by_cases hfits : s.lenFits
      · rw [execStitchLenApply_fits hr hdue.1 hdue.2 hfits] at ht
        obtain ⟨n, hlace⟩ := s.lenTaken_lace
        cases ht
        exact h.judged (by rw [hlace]) (by rw [hlace]) (by rw [hlace]) s.lenTaken_pending s.lenTaken_regsKept (by decide)
      · rw [execStitchLenApply_unfit hr hdue.1 hdue.2 hfits] at ht
        cases ht
        exact h.judged rfl rfl rfl s.lenRefused_pending s.lenRefused_regsKept (by decide)
    · rw [execStitchLenApply_early hr (by simpa using not_and_or.mp hdue)] at ht
      cases ht; exact h

/-! ### Validation (R43) -/

theorem entryFault_laceReset (c p : Nat) : entryFault c (laceReset c p) = none := by
  by_cases h : c = 3 ∧ p % 64 = 63
  · obtain ⟨rfl, hp⟩ := h
    simp [laceReset, hp, entryFault, laceKind, laceGroup]
  · simp [laceReset, h, entryFault, laceKind, laceGroup]

theorem AMap.mem_of_get? {α : Type} {m : AMap α} {k : Nat} {v : α} (h : AMap.get? m k = some v) : (k, v) ∈ m := by
  induction m with
  | nil => simp [AMap.get?] at h
  | cons e m ih =>
    obtain ⟨a, x⟩ := e
    rw [AMap.get?] at h
    split at h
    · simp_all
    · exact List.mem_cons_of_mem _ (ih h)

/-- A table without a fault: each entry is accepted, and class 3 holds the SYSTEM entries required. -/
theorem State.tableFault_none {s : State} {c : Nat} (h : s.tableFault c = none) :
    (∀ p, entryFault c (s.laceShadow c p) = none) ∧ (c = 3 → s.rd F.STITCH_SYSREQ.MIN ≤ systemCount (s.laceTab c).shadow) := by
  rw [State.tableFault] at h
  split at h
  next => exact absurd h (by simp)
  next hfind =>
    refine ⟨fun p => ?_, fun hc => ?_⟩
    · rw [State.laceShadow, AMap.getD]
      cases hget : AMap.get? (s.laceTab c).shadow p with
      | none => exact entryFault_laceReset c p
      | some e => simpa using List.find?_eq_none.mp hfind _ (AMap.mem_of_get? hget)
    · by_contra hlow
      exact absurd h (by simp [hc]; simpa [hc] using hlow)

theorem State.laceFault_none {s : State} {k : LaceCommit} (h : s.laceFault k.classes = none) {c : Nat} (hc : c ∈ k.named) :
    s.tableFault c = none := by
  rw [State.laceFault, List.findSome?_eq_none_iff] at h
  exact h c hc

/-! ### Commits, cancels and swaps (R42 to R44) -/

/-- What waited for a swap has been swapped, refused or withdrawn. -/
theorem State.waitsGood.settled {s t : State} {fs : List FRef} (h : s.laceGood) (hlen : t.lace.lenReqAt = s.lace.lenReqAt)
    (hcommit : t.lace.commit = none) (hpending : t.rd F.STITCH_LACE_STATUS.PENDING = 0) (hregs : s.regsKept t fs)
    (hfs : ∀ f ∈ fs, F.STITCH_LEN.PENDING.addr ≠ f.addr ∨ F.STITCH_LEN.PENDING.hi < f.lo ∨ f.hi < F.STITCH_LEN.PENDING.lo) :
    t.waitsGood := by
  refine ⟨?_, by simp [hpending, hcommit], .inr hcommit⟩
  rw [hregs _ hfs, hlen]
  exact h.lenPending

theorem State.laceFail_laceGood {s : State} (h : s.laceGood) (f : Nat × Nat × Nat) : (s.laceFail f).laceGood :=
  h.of_waits rfl (s.laceFail_regsKept f) (by decide) (.settled h rfl rfl (s.laceFail_shown f).1 (s.laceFail_regsKept f) (by decide))

theorem State.commitWithdrawn_laceGood {s : State} (h : s.laceGood) : s.commitWithdrawn.laceGood := by
  have hregs : s.regsKept s.commitWithdrawn [F.STITCH_LACE_STATUS.PENDING] := (State.regsKept_of_csr rfl _).wr _ (by simp) (by decide)
  exact h.of_waits rfl hregs (by decide) (.settled h rfl rfl (State.rd_wr_same _ _ _ (by decide)) hregs (by decide))

theorem State.laceSwap_tablesGood {s : State} {k : LaceCommit} (h : s.tablesGood) (hk : s.lace.commit = some k)
    (hvalid : s.laceFault k.classes = none) : s.laceSwap.tablesGood where
  entries c hc p := by
    rw [State.laceSwap_laceEntry hk hc]
    split
    next hn => exact (State.tableFault_none (State.laceFault_none hvalid (LaceCommit.mem_named.mpr ⟨hc, hn⟩))).1 p
    next => exact h.entries c hc p
  system := by
    rw [State.laceSwap_laceTab hk, State.laceSwap_regsKept hk _ (by decide)]
    split
    next hn => exact (State.tableFault_none (State.laceFault_none hvalid (LaceCommit.mem_named.mpr hn))).2 rfl
    next => exact h.system

theorem State.laceSwap_laceGood {s : State} {k : LaceCommit} (h : s.laceGood) (hk : s.lace.commit = some k)
    (hvalid : s.laceFault k.classes = none) : s.laceSwap.laceGood := by
  have hregs := State.laceSwap_regsKept hk
  obtain ⟨htables, hpos, -⟩ := s.laceGood_iff.mp h
  refine s.laceSwap.laceGood_iff.mpr ⟨State.laceSwap_tablesGood htables hk hvalid, ?_,
    .settled h (by rw [State.laceSwap_lace hk]; rfl) (by rw [State.laceSwap_lace hk]; rfl) (State.laceSwap_pending hk) hregs (by decide)⟩
  rw [hregs _ (by decide), hregs _ (by decide), hpos]

theorem State.laceDue_laceGood {s : State} (h : s.laceGood) (hdue : s.swapDue = true) : s.laceDue.laceGood := by
  obtain ⟨k, hk⟩ := State.swapDue_commit hdue
  cases hf : s.laceFault k.classes with
  | none => rw [State.laceDue_of_valid hk hf]; exact State.laceSwap_laceGood h hk hf
  | some f => rw [State.laceDue_of_fault hk hf]; exact State.laceFail_laceGood h f

theorem State.cancelLate_goodAs (s : State) : s.goodAs s.cancelLate := by
  unfold State.cancelLate
  split
  · exact (State.goodAs.refl s).wr _ (by decide) (by decide)
  · exact .refl s

theorem State.laceCancel_laceGood {s : State} (h : s.laceGood) : s.laceCancel.laceGood := by
  rw [State.laceCancel_eq]
  split
  next hdue => exact (State.laceDue_laceGood h hdue).of_goodAs (State.cancelLate_goodAs _)
  next =>
    split
    · exact State.commitWithdrawn_laceGood h
    · exact h.of_goodAs s.cancelLate_goodAs

theorem State.commitTaken_laceGood {s : State} (h : s.laceGood) (k : LaceCommit) (hlen : s.lace.lenReqAt = none) : (s.commitTaken k).laceGood := by
  have hregs : s.regsKept (s.commitTaken k) [F.STITCH_LACE_STATUS.PENDING] := (State.regsKept_of_csr rfl _).wr _ (by simp) (by decide)
  have hpending : (s.commitTaken k).rd F.STITCH_LACE_STATUS.PENDING = 1 := State.rd_wr_same _ _ _ (by decide)
  refine h.of_waits rfl hregs (by decide) ⟨?_, ⟨fun _ => rfl, fun _ => hpending⟩, .inl hlen⟩
  rw [hregs _ (by decide)]
  exact h.lenPending

theorem State.commitJudged_laceGood {s : State} (h : s.laceGood) (k : LaceCommit) : (s.commitJudged k).laceGood := by
  have hopened : s.commitOpened.laceGood := h.of_goodAs ((State.goodAs.refl s).setLace _ rfl rfl rfl)
  cases hf : s.commitRefusal k.classes with
  | some f => rw [State.commitJudged_of_fault hf]; exact State.laceFail_laceGood hopened f
  | none =>
    have hp : s.rd F.STITCH_LEN.PENDING ≠ 1 := fun hp => by simp [State.commitRefusal, hp] at hf
    rw [State.commitJudged_of_valid hf]
    exact State.commitTaken_laceGood hopened k (h.lenReqAt_none hp)

theorem State.laceCommitWrite_laceGood {s : State} (h : s.laceGood) (v : Nat) : (s.laceCommitWrite v).laceGood := by
  cases h31 : v.testBit 31 with
  | true => rw [s.laceCommitWrite_cancel h31]; exact State.laceCancel_laceGood h
  | false =>
    rw [s.laceCommitWrite_eq h31]
    split
    · exact h
    · split
      · exact h.of_goodAs ((State.goodAs.refl s).wr _ (by decide) (by decide))
      · exact State.commitJudged_laceGood h _

theorem State.activeKept.goodAs {s t : State} (h : s.activeKept t) : s.goodAs t :=
  ⟨h.active, h.lenReqAt, h.commit, fun g _ => State.rd_congr h.csr g⟩

theorem State.laceShadowWrite_goodAs (s : State) (off size v : Nat) : s.goodAs (s.laceShadowWrite off size v) := by
  unfold State.laceShadowWrite
  split
  · exact State.goodAs.wr (.refl s) _ (by decide) (by decide)
  · exact (s.laceWriteN_activeKept _ _ _).goodAs

theorem execLacingShadowWrite_laceGood {off : Nat} {wide : Bool} {v : W64} {s t : State} (h : s.laceGood)
    (ht : execLacingShadowWrite off wide v s = .next t) : t.laceGood := by
  simp only [execLacingShadowWrite, Host.Outcome.next.injEq] at ht
  rw [← ht]
  refine h.of_goodAs ?_
  by_cases hin : inLaceShadow off = true ∧ off % (if wide then 8 else 4) = 0
  · rw [if_pos hin]; exact s.laceShadowWrite_goodAs _ _ _
  · rw [if_neg hin]; exact .refl s

theorem execLaceSwap_laceGood {s t : State} (h : s.laceGood) (ht : execLaceSwap s = .next t) : t.laceGood := by
  cases ht
  split
  next hdue => exact State.laceDue_laceGood h hdue
  next => exact h

/-! ### Service-unit boundaries (R39, R458) -/

theorem State.unitOnly.goodAs {s t : State} {c u : Nat} (h : s.unitOnly t c u) : s.goodAs t := by
  have htabs : t.lace.tabs = s.lace.tabs := by rw [← h.lace]
  refine ⟨fun d => by simp only [State.laceTab, htabs], by rw [← h.lace], by rw [← h.lace], fun g hg => h.regs g fun f hf => .inl ?_⟩
  have hbelow : ∀ g ∈ goodFields, g.addr < 0x100100 := by decide
  have habove : 0x100100 ≤ f.addr := by
    simp only [List.mem_cons, List.not_mem_nil, or_false] at hf
    rcases hf with rfl | rfl | rfl | rfl <;> exact Nat.le_trans (by decide) (Nat.le_add_right _ _)
  exact Nat.ne_of_lt (Nat.lt_of_lt_of_le (hbelow g hg) habove)

theorem execServiceUnitBoundary_laceGood {c u : Nat} {bg : Bool} {s t : State} (h : s.laceGood)
    (ht : execServiceUnitBoundary c u bg s = .next t) : t.laceGood := by
  unfold execServiceUnitBoundary at ht
  split at ht
  next hu =>
    cases ht
    have hlt : u < 4096 := Nat.lt_of_lt_of_le hu.1 (Nat.le_trans (unitsIn_le c) (by decide))
    exact h.of_goodAs (s.serviceBoundary_unitOnly c hlt _ _ _).goodAs
  next => cases ht; exact h

/-! ### A core cycle without a command (R20, R79, R439) -/

theorem State.ptpAdvance_goodAs (s : State) (n : Nat) : s.goodAs (s.ptpAdvance n) := by
  unfold State.ptpAdvance
  refine State.goodAs.wr (f := F.PTP_NS.NS) ?_ _ (by decide) (by decide)
  exact State.goodAs.congr (.refl s) rfl rfl

theorem State.tick_goodAs (s : State) : s.goodAs s.tick := by
  unfold State.tick
  refine State.goodAs.wr (f := F.STITCH_POS.CYCLE) (State.goodAs.trans ?_ (State.ptpAdvance_goodAs _ _)) _ (by decide) (by decide)
  exact State.goodAs.congr (.refl s) rfl rfl

theorem State.accountAvail_goodAs (s : State) (n : Nat) : s.goodAs (s.accountAvail n) := by
  unfold State.accountAvail
  split
  · exact .refl s
  · simp only
    split
    · exact State.goodAs.congr (.refl s) rfl rfl
    · refine State.goodAs.wr (f := F.FAULT_AVAIL.UNAVAIL_US) ?_ _ (by decide) (by decide)
      exact State.goodAs.congr (.refl s) rfl rfl

theorem State.modSpindle_goodAs (s : State) (sp : Nat) (f : Spindle → Spindle) : s.goodAs (s.modSpindle sp f) :=
  State.goodAs.congr (.refl s) rfl rfl

theorem State.watchSpindle_goodAs (s : State) (sp : Nat) : s.goodAs (s.watchSpindle sp) := by
  have hwatch : ∀ w : State, s.goodAs w → s.goodAs (if w.allWait sp then
      (if (s.spindle sp).allWaitAt.isSome then w else w.modSpindle sp (fun x => { x with allWaitAt := some w.clk.cycles }))
      else if (w.spindle sp).allWaitAt.isNone then w else w.modSpindle sp (fun x => { x with allWaitAt := none })) := by
    intro w hw
    split
    · split
      · exact hw
      · exact hw.trans (w.modSpindle_goodAs _ _)
    · split
      · exact hw
      · exact hw.trans (w.modSpindle_goodAs _ _)
  unfold State.watchSpindle
  split
  · exact .refl s
  · refine hwatch _ ?_
    split
    · split
      · exact .refl s
      · exact State.goodAs.wr_above (s.modSpindle_goodAs _ _) _ (Nat.le_trans (by decide) (Nat.le_add_right 0x200020 _))
    · exact .refl s

theorem State.idle_goodAs (s : State) : s.goodAs s.idle := by
  unfold State.idle
  split
  · exact State.goodAs.congr (.refl s) rfl rfl
  · exact (s.tick_goodAs.trans (State.accountAvail_goodAs _ _)).trans (foldl_goodAs State.watchSpindle_goodAs _ _)

/-! ### A step -/

theorem exec_laceGood {c : Instr} (hc : stitchCommand c = true) {s t : State} (h : s.laceGood) (ht : exec c s = .next t) : t.laceGood := by
  cases c with
  | turnStart => exact execTurnStart_laceGood h ht
  | stitchBoundary => exact execStitchBoundary_laceGood h ht
  | lacingPeriodBoundary => exact execLacingPeriodBoundary_laceGood h ht
  | stitchLenReqWrite v => exact Host.Outcome.next.inj ht ▸ State.stitchLenWrite_laceGood h v.toNat
  | stitchLenApply => exact execStitchLenApply_laceGood h ht
  | stitchLaceCommit v => exact Host.Outcome.next.inj ht ▸ State.laceCommitWrite_laceGood h v.toNat
  | cancel => exact Host.Outcome.next.inj ht ▸ State.laceCancel_laceGood h
  | lacingShadowWrite off wide v => exact execLacingShadowWrite_laceGood h ht
  | laceSwap => exact execLaceSwap_laceGood h ht
  | serviceUnitBoundary d u bg => exact execServiceUnitBoundary_laceGood h ht
  | _ => exact absurd hc Bool.false_ne_true

theorem step_laceGood {s t : State} (h : s.laceGood) (hc : ∀ c rest, s.pending = c :: rest → stitchCommand c = true) (ht : step s = .next t) :
    t.laceGood := by
  unfold step at ht
  split at ht
  next => exact Host.Outcome.next.inj ht ▸ h.of_goodAs s.idle_goodAs
  next c rest hp =>
    have hrest : s.goodAs { s with pending := rest } := State.goodAs.congr (.refl s) rfl rfl
    exact exec_laceGood (hc c rest hp) (h.of_goodAs hrest) ht

/-! ### The state after reset -/

theorem State.reset_laceGood : State.reset.laceGood := by
  refine State.reset.laceGood_iff.mpr ⟨⟨fun c _ p => entryFault_laceReset c p, by decide +kernel⟩, by decide +kernel, ?_, ?_, .inl rfl⟩
  · have hp : State.reset.rd F.STITCH_LEN.PENDING = 0 := by decide +kernel
    rw [hp]; decide
  · have hp : State.reset.rd F.STITCH_LACE_STATUS.PENDING = 0 := by decide +kernel
    rw [hp]; decide

end Sys2Proof.Machine

open Sys2Proof Sys2Proof.Machine

/-- Settles O9: each command of the stitch and the lacing keeps the invariant, and so does an idle cycle. -/
theorem lacingInvariant : Obligations.LacingInvariant := fun _ _ => step_laceGood

/-- Settles O10: every POWER entry is one that validation accepts, 64 of class 3 are SYSTEM entries, and nothing waits. -/
theorem lacingInvariantAtReset : Obligations.LacingInvariantAtReset := State.reset_laceGood
end

section
/-! Threads and their slots: the records behind a used slot, and what an instruction that goes on behind itself leaves (R50, R53, R97). -/

namespace Sys2Proof.Machine

open Sys2Proof

/-! ### Slots -/

/-- Using a slot leaves everything but the cycle last used of the thread's own spindle, and the count of slots. -/
theorem State.takeSlot_onlyMules (s : State) (tid : Nat) : s.onlyMules (s.takeSlot tid) := by
  unfold State.takeSlot State.onlyMules; split <;> rfl

theorem State.countSlot_onlyMules (s : State) (tid : Nat) : s.onlyMules (s.countSlot tid) := by
  unfold State.countSlot State.onlyMules; split <;> rfl

theorem State.onlyMules.trans {s t u : State} (h : s.onlyMules t) (h' : t.onlyMules u) : s.onlyMules u := by
  unfold State.onlyMules at *; rw [← h, ← h']

theorem State.onlyMules.csr {s t : State} (h : s.onlyMules t) : t.csr = s.csr  := by
  have e := congrArg State.csr h
  exact e

theorem State.modThr_onlyMules (s : State) (tid : Nat) (f : Thread → Thread) : s.onlyMules (s.modThr tid f) := rfl

theorem State.spent_onlyMules (s : State) (tid : Nat) : s.onlyMules (s.spent tid) :=
  (s.takeSlot_onlyMules tid).trans (State.countSlot_onlyMules _ tid)

theorem State.spindle_setSpindle_same (s : State) (sp : Nat) (x : Spindle) : (s.setSpindle sp x).spindle sp = x := by
  simp [State.spindle, State.setSpindle, AMap.getD_setD_same]

theorem State.spindle_setSpindle_other (s : State) (sp u : Nat) (x : Spindle) (h : u ≠ sp) :
    (s.setSpindle sp x).spindle u = s.spindle u := by
  simp [State.spindle, State.setSpindle, AMap.getD_setD_other _ _ _ _ _ _ h]

@[simp] theorem State.spindle_modSpindle_same (s : State) (sp : Nat) (f : Spindle → Spindle) :
    (s.modSpindle sp f).spindle sp = f (s.spindle sp) := s.spindle_setSpindle_same sp _

theorem State.spindle_modSpindle_other (s : State) (sp u : Nat) (f : Spindle → Spindle) (h : u ≠ sp) :
    (s.modSpindle sp f).spindle u = s.spindle u := s.spindle_setSpindle_other sp u _ h

theorem State.takeSlot_onlyThread (s : State) (tid : Nat) : s.onlyThread (s.takeSlot tid) tid := by
  unfold State.takeSlot
  split
  · exact ⟨rfl, fun _ _ => rfl, fun _ _ => rfl, rfl⟩
  · refine ⟨rfl, fun _ _ => rfl, fun sp h => s.spindle_modSpindle_other _ _ _ h, ?_⟩
    rw [State.spindle_modSpindle_same]

theorem State.modThr_onlyThread (s : State) (tid : Nat) (f : Thread → Thread) : s.onlyThread (s.modThr tid f) tid :=
  ⟨rfl, fun u h => s.thr_modThr_other tid u f h, fun _ _ => rfl, rfl⟩

theorem State.onlyThread.trans {s t u : State} {tid : Nat} (h : s.onlyThread t tid) (h' : t.onlyThread u tid) : s.onlyThread u tid := by
  obtain ⟨hm, ht, hs, hi⟩ := h
  obtain ⟨hm', ht', hs', hi'⟩ := h'
  refine ⟨by rw [← hm, ← hm'], fun v hv => (ht' v hv).trans (ht v hv), fun sp hsp => (hs' sp hsp).trans (hs sp hsp), ?_⟩
  rw [← hi, ← hi']

theorem State.countSlot_onlyThread (s : State) (tid : Nat) : s.onlyThread (s.countSlot tid) tid := by
  unfold State.countSlot
  split
  · exact s.modThr_onlyThread tid _
  · exact ⟨rfl, fun _ _ => rfl, fun _ _ => rfl, rfl⟩

theorem State.spent_onlyThread (s : State) (tid : Nat) : s.onlyThread (s.spent tid) tid :=
  (s.takeSlot_onlyThread tid).trans (State.countSlot_onlyThread _ tid)

/-- The record of a thread with one more slot counted, where the thread is bounded. -/
theorem State.spent_thr (s : State) (tid : Nat) :
    (s.spent tid).thr tid = { s.thr tid with slots := (s.thr tid).slots + if s.bounded tid then 1 else 0 } := by
  rw [State.spent_thr_same]; split <;> rfl

/-- From `s` to `t` the mules alone change, and of them no thread and no spindle but those of `tid`'s slot. -/
def State.threadOnly (s t : State) (tid : Nat) : Prop := s.onlyMules t ∧ s.onlyThread t tid

theorem State.spent_threadOnly (s : State) (tid : Nat) : s.threadOnly (s.spent tid) tid := ⟨s.spent_onlyMules tid, s.spent_onlyThread tid⟩

theorem State.threadOnly.modThr {s t : State} {tid : Nat} (h : s.threadOnly t tid) (f : Thread → Thread) :
    s.threadOnly (t.modThr tid f) tid :=
  ⟨h.1.trans (t.modThr_onlyMules tid f), h.2.trans (t.modThr_onlyThread tid f)⟩

theorem State.threadOnly.rd {s t : State} {tid : Nat} (h : s.threadOnly t tid) (g : FRef) : t.rd g = s.rd g := State.rd_congr h.1.csr g

theorem State.threadTo_iff (s t : State) (tid : Nat) (x : Thread) :
    s.threadTo t tid x ↔ s.threadOnly t tid ∧ t.thr tid = { x with slots := (s.thr tid).slots + (if s.bounded tid then 1 else 0) } := by
  rw [State.threadTo, State.threadOnly, and_assoc]

/-! ### Where a thread goes (R97) -/

/-- The innermost bodies that end at the PC with their last iteration are left. -/
theorem afterPc_append {pc : Nat} {gone : List Level} (h : ∀ x ∈ gone, x.stop = pc ∧ x.remaining ≤ 1) (rest : List Level) :
    afterPc pc (gone ++ rest) = afterPc pc rest := by
  induction gone with
  | nil => rfl
  | cons l gone ih =>
    obtain ⟨hstop, hlast⟩ := h l List.mem_cons_self
    rw [List.cons_append, afterPc, if_pos hstop, if_neg (by omega), ih fun x hx => h x (List.mem_cons_of_mem _ hx)]

/-- A body that ends at the PC goes back to its start while iterations remain. -/
theorem afterPc_again {pc : Nat} {l : Level} (rest : List Level) (hstop : l.stop = pc) (hmore : 1 < l.remaining) :
    afterPc pc (l :: rest) = (l.start, { l with remaining := l.remaining - 1 } :: rest) := by
  rw [afterPc, if_pos hstop, if_pos hmore]

/-- Where the innermost body does not end at the PC the next instruction follows. -/
theorem afterPc_next {pc : Nat} {rest : List Level} (h : ∀ l, rest.head? = some l → l.stop ≠ pc) : afterPc pc rest = (pc + 1, rest) := by
  cases rest with
  | nil => rfl
  | cons l rest => rw [afterPc, if_neg (h l rfl)]

/-! ### Instructions that write a register (R53) -/

theorem Thread.setG_slots (x : Thread) (r n : Nat) (v : W64) : { x with slots := n }.setG r v = { x.setG r v with slots := n } := by
  unfold Thread.setG; split <;> rfl

@[simp] theorem Thread.setG_pc (x : Thread) (r : Nat) (v : W64) : (x.setG r v).pc = x.pc := by unfold Thread.setG; split <;> rfl
@[simp] theorem Thread.setG_loops (x : Thread) (r : Nat) (v : W64) : (x.setG r v).loops = x.loops := by unfold Thread.setG; split <;> rfl

theorem State.goOn_thr (s : State) (tid : Nat) : (s.goOn tid).thr tid = (s.thr tid).onward := s.thr_modThr_same tid _

theorem State.threadOnly.goOn {s t : State} {tid : Nat} (h : s.threadOnly t tid) : s.threadOnly (t.goOn tid) tid := h.modThr _

/-- An instruction that only writes a register: the thread's record takes the value and goes on. -/
theorem State.wrote_threadTo (s : State) (tid : Nat) (rd : Reg) (v : W64) :
    s.threadTo (s.wrote tid rd v) tid ((s.thr tid).setG rd.toNat v).onward := by
  refine (s.threadTo_iff _ tid _).mpr ⟨((s.spent_threadOnly tid).modThr _).goOn, ?_⟩
  rw [State.wrote, State.goOn_thr, State.thr_modThr_same, s.spent_thr tid, Thread.setG_slots]
  rfl

theorem Thread.g_onward (x : Thread) (n r : Nat) : { x.onward with slots := n }.g r = x.g r := rfl

theorem State.threadTo.reg {s t : State} {tid : Nat} {x : Thread} (h : s.threadTo t tid x) (r : Reg) : t.reg tid r = x.g r.toNat := by
  rw [State.reg, h.2.2]; rfl

theorem Reg.toNat_ne_zero {r : Reg} (h : r ≠ 0) : r.toNat ≠ 0 := fun h0 => h (BitVec.eq_of_toNat_eq h0)

end Sys2Proof.Machine

open Sys2Proof Sys2Proof.Machine

/-- Settles O17: the record behind the slot, with the register, the loop stack and the PC as R97 lays down. -/
theorem registerWriteFrame : Obligations.RegisterWriteFrame := by
  intro s tid rd v
  have hto := s.wrote_threadTo tid rd v
  refine ⟨_, rfl, ⟨_, _, hto, ?_, ?_⟩, ?_, fun r hr => ?_, rfl, State.rd_congr hto.1.csr⟩
  · intro gone l rest hloops hgone hstop hmore
    rw [Thread.setG_pc, Thread.setG_loops, hloops, afterPc_append hgone, afterPc_again rest hstop hmore]
    exact ⟨rfl, rfl⟩
  · intro gone rest hloops hgone hhead
    rw [Thread.setG_pc, Thread.setG_loops, hloops, afterPc_append hgone, afterPc_next hhead]
    exact ⟨rfl, rfl⟩
  · rw [hto.reg, Thread.g_onward]
    split
    next h => subst h; rfl
    next h => exact Thread.g_setG_same _ _ _ (Reg.toNat_ne_zero h)
  · rw [hto.reg]
    exact Thread.g_setG_other _ _ _ _ fun h => hr (BitVec.eq_of_toNat_eq h)
end

section
/-! Fields of an encoded instruction word, and the instruction that it spells (R89, R90). -/

namespace Sys2Proof

open Sys2Proof.Machine

/-! ### Fields -/

theorem fieldOf_or (n : Nat) (x y : W32) (lo : Nat) : fieldOf n (x ||| y) lo = fieldOf n x lo ||| fieldOf n y lo := by
  simp [fieldOf, BitVec.extractLsb'_or]

theorem fieldOf_placed_same {n : Nat} (v : BitVec n) (lo : Nat) (h : lo + n ≤ 32) : fieldOf n (placed v lo) lo = v := by
  ext i hi
  simp [fieldOf, placed, hi, show lo + i < 32 by omega]

/-- A field apart from the one placed is clear. -/
theorem fieldOf_placed_apart {m : Nat} (n : Nat) (v : BitVec m) (lo l : Nat) (h : l + m ≤ lo ∨ lo + n ≤ l) : fieldOf n (placed v l) lo = 0 := by
  ext i hi
  simp only [fieldOf, placed, BitVec.getElem_extractLsb', BitVec.getLsbD_shiftLeft, BitVec.getLsbD_setWidth]
  rcases h with h | h
  · have : v.getLsbD (lo + i - l) = false := BitVec.getLsbD_of_ge v _ (by omega)
    simp [this]
  · simp [show lo + i < l by omega]

@[simp] theorem Size.ofCode_code (z : Size) : Size.ofCode z.code = z := by cases z <;> rfl
@[simp] theorem bit_beq_one (b : Bool) : (bit b == 1#1) = b := by cases b <;> rfl
@[simp] theorem ShiftKind.ofCode_code (k : ShiftKind) : ShiftKind.ofCode k.code = k := by cases k <;> rfl
@[simp] theorem Cond.ofCode_code (c : Cond) : Cond.ofCode c.code = some c := by cases c <;> rfl
@[simp] theorem DoneMode.ofCode_code (m : DoneMode) : DoneMode.ofCode m.code = some m := by cases m <;> rfl
@[simp] theorem AluFn.ofCode_code (f : AluFn) : AluFn.ofCode f.code = some f := by cases f <;> rfl

/-- The immediate of SHI: the kind above the amount, and nothing above the kind. -/
theorem shiFields (k : ShiftKind) (n : BitVec 6) :
    let w := placed (k.code.setWidth 16 <<< 6 ||| n.setWidth 16) 0
    fieldOf 8 w 8 = 0 ∧ fieldOf 2 w 6 = k.code ∧ fieldOf 6 w 0 = n := by
  revert n; cases k <;> decide

/-- The field ra of MOVHI: the number of the half word, and nothing above it. -/
theorem movhiFields (h : BitVec 2) : fieldOf 3 (placed (h.setWidth 5) 16) 18 = 0 ∧ fieldOf 2 (placed (h.setWidth 5) 16) 16 = h := by
  revert h; decide

/-- The field fn of SATOM: the function, its width, and nothing above. -/
theorem satomFields (op : AtomOp) (wide : Bool) :
    let w := placed ((bit wide).setWidth 11 <<< 4 ||| op.code.setWidth 11) 0
    AtomOp.ofCode (fieldOf 4 w 0) = some op ∧ fieldOf 6 w 5 = 0 ∧ (fieldOf 1 w 4 == 1) = wide := by
  cases op <;> cases wide <;> decide

/-- The field fn of CRC32C: the size alone. -/
theorem crcFields (sz : Size) : fieldOf 11 (placed sz.code 0) 0 ≠ 4 ∧ (fieldOf 11 (placed sz.code 0) 0).toNat < 4 := by
  cases sz <;> decide

@[simp] theorem csrWide_ofCode (wide : Bool) : csrWide (Size.ofCode (if wide then 3#2 else 2#2)) = some wide := by cases wide <;> rfl

/-- R89, R90: the word of an instruction that an encoding admits spells that instruction. -/
theorem decodeOb_encodeOb (i : Ob) (h : i.admitted = true) : decodeOb (encodeOb i) = .ok i := by
  cases i with
  | shi rd ra k n =>
    obtain ⟨hz, hk, hn⟩ := shiFields k n
    simp (disch := omega) [decodeOb, encodeOb, encI, decI, fieldOf_or, fieldOf_placed_same, fieldOf_placed_apart, checked, clear] at hz hk hn ⊢
    simp [hz, hk, hn]
  | movhi rd k imm =>
    obtain ⟨hz, hk⟩ := movhiFields k
    simp (disch := omega) [decodeOb, encodeOb, encI, decI, fieldOf_or, fieldOf_placed_same, fieldOf_placed_apart, checked, clear] at hz hk ⊢
    simp [hz, hk]
  | satom op wide rd ra rb =>
    obtain ⟨hop, hz, hw⟩ := satomFields op wide
    simp (disch := omega) [decodeOb, encodeOb, encR, decR, fieldOf_or, fieldOf_placed_same, fieldOf_placed_apart, orUndefined, checked, clear]
      at hop hz hw ⊢
    simp [hop, hz, hw]
  | crc sz rd ra rb =>
    obtain ⟨hne, hlt⟩ := crcFields sz
    simp (disch := omega) [decodeOb, encodeOb, encR, decR, fieldOf_or, fieldOf_placed_same, fieldOf_placed_apart, checked] at hne hlt ⊢
    simp [hne, hlt]
  | alu f rd ra rb =>
    have hrb : f.unary = true → rb = 0 := fun hu => by simpa [Ob.admitted, hu] using h
    simpa (disch := omega) [decodeOb, encodeOb, encR, decR, fieldOf_or, fieldOf_placed_same, fieldOf_placed_apart, orUndefined, checked]
      using hrb
  | _ =>
    simp [Ob.admitted] at h
    simp (disch := omega) [decodeOb, encodeOb, encM, encR, encI, encF, encB, encL, decLoad, decStore, decM, decR, decI, fieldOf_or,
      fieldOf_placed_same, fieldOf_placed_apart, checked, orUndefined, clear, h]

end Sys2Proof
end

section
/-! The states of threads in their registers, and what an instruction that may issue comes to (R50, R81, R83, R87). -/

namespace Sys2Proof.Machine

open Sys2Proof

/-! ### Fields apart -/

theorem FRef.apart_iff (f g : FRef) : f.apart g = true ↔ g.addr ≠ f.addr ∨ g.hi < f.lo ∨ f.hi < g.lo := by
  simp [FRef.apart, or_assoc]

/-! ### The states of threads (Table 2.1) -/

theorem isCob_of_lt {tid : Nat} (h : tid < 6144) : isCob tid = false := decide_eq_false (by rw [cobBase]; omega)

theorem State.ts_of_lt (s : State) {tid : Nat} (h : tid < 6144) : s.ts tid = s.rd (thrStateF tid) := by
  rw [State.ts, isCob_of_lt h]; rfl

theorem State.setTs_of_lt (s : State) {tid : Nat} (h : tid < 6144) (st : Nat) :
    s.setTs tid st = (s.wr (thrStateF tid) st).wr (haltedF tid) (if st = tsHalt then 1 else 0) := by
  rw [State.setTs, isCob_of_lt h]; rfl

theorem thrStateF_hi (tid : Nat) : (thrStateF tid).hi < 64 := by simp only [thrStateF, tOf]; omega
theorem haltedF_hi (tid : Nat) : (haltedF tid).hi < 64 := by simp only [haltedF, tOf]; omega

theorem haltedF_apart_thrStateF (tid u : Nat) : (haltedF tid).apart (thrStateF u) = true := by
  simp only [FRef.apart_iff, haltedF, thrStateF, F.MULE_DBG_HALT.MASK, F.MULE_THR_STATE.STATE, muleOf, logOf, spOf]
  omega

theorem thrStateF_apart {tid u : Nat} (h : u ≠ tid) : (thrStateF tid).apart (thrStateF u) = true := by
  simp only [FRef.apart_iff, thrStateF, F.MULE_THR_STATE.STATE, muleOf, logOf, spOf, tOf]
  omega

theorem haltedF_apart {tid u : Nat} (h : u ≠ tid) : (haltedF tid).apart (haltedF u) = true := by
  simp only [FRef.apart_iff, haltedF, F.MULE_DBG_HALT.MASK, muleOf, logOf, spOf, tOf]
  omega

/-- The fields that a change of a thread's state writes. -/
abbrev tsFields (tid : Nat) : List FRef := [thrStateF tid, haltedF tid]

theorem State.setTs_regsKept (s : State) (tid st : Nat) : s.regsKept (s.setTs tid st) (tsFields tid) := by
  unfold State.setTs
  split
  · exact s.regsKept_refl _
  · exact ((s.regsKept_refl _).wr _ (by simp) (thrStateF_hi tid)).wr _ (by simp) (haltedF_hi tid)

theorem State.setTs_ts_same (s : State) {tid st : Nat} (h : tid < 6144) (hst : st < 8) : (s.setTs tid st).ts tid = st := by
  rw [State.ts_of_lt _ h, s.setTs_of_lt h, State.rd_wr_apart _ _ _ _ (haltedF_hi tid) (haltedF_apart_thrStateF tid tid),
    State.rd_wr_same _ _ _ (thrStateF_hi tid)]
  exact Nat.mod_eq_of_lt (by simp only [thrStateF, FRef.bits, tOf]; rw [show 3 * (tid % 8) + 2 + 1 - 3 * (tid % 8) = 3 by omega]; exact hst)

theorem State.setTs_halted (s : State) {tid : Nat} (h : tid < 6144) (st : Nat) :
    (s.setTs tid st).rd (haltedF tid) = if st = tsHalt then 1 else 0 := by
  rw [s.setTs_of_lt h, State.rd_wr_same _ _ _ (haltedF_hi tid)]
  have : (haltedF tid).bits = 1 := by simp only [haltedF, FRef.bits]; omega
  rw [this]; split <;> rfl

theorem State.setTs_ts_other (s : State) {tid u : Nat} (st : Nat) (h : u ≠ tid) : (s.setTs tid st).ts u = s.ts u := by
  rw [State.ts, State.ts, State.setTs]
  cases isCob tid with
  | true => rfl
  | false =>
    simp only [Bool.false_eq_true, if_false]
    rw [State.rd_wr_apart _ _ _ _ (haltedF_hi tid) (haltedF_apart_thrStateF tid u),
      State.rd_wr_apart _ _ _ _ (thrStateF_hi tid) (thrStateF_apart h)]

@[simp] theorem State.setTs_thr (s : State) (tid st u : Nat) : (s.setTs tid st).thr u = s.thr u := by
  unfold State.setTs; split <;> rfl

@[simp] theorem State.setTs_spindle (s : State) (tid st u : Nat) : (s.setTs tid st).spindle u = s.spindle u := by
  unfold State.setTs; split <;> rfl

@[simp] theorem State.modThr_rd (s : State) (tid : Nat) (f : Thread → Thread) (g : FRef) : (s.modThr tid f).rd g = s.rd g := rfl
@[simp] theorem State.goOn_ts (s : State) (tid u : Nat) : (s.goOn tid).ts u = s.ts u := rfl

theorem State.regsKept.modThr {s t : State} {fs : List FRef} (h : s.regsKept t fs) (tid : Nat) (f : Thread → Thread) :
    s.regsKept (t.modThr tid f) fs := h
theorem State.regsKept.goOn {s t : State} {fs : List FRef} (h : s.regsKept t fs) (tid : Nat) : s.regsKept (t.goOn tid) fs := h
theorem State.regsKept.modSpindle {s t : State} {fs : List FRef} (h : s.regsKept t fs) (sp : Nat) (f : Spindle → Spindle) :
    s.regsKept (t.modSpindle sp f) fs := h
theorem State.regsKept.setQueue {s t : State} {fs : List FRef} (h : s.regsKept t fs) (ep : Nat) (q : List Msg) :
    s.regsKept (t.setQueue ep q) fs := h
theorem State.regsKept.setFlights {s t : State} {fs : List FRef} (h : s.regsKept t fs) (l : List Flight) : s.regsKept (t.setFlights l) fs := h
theorem State.regsKept.raise {s t : State} {fs : List FRef} (h : s.regsKept t fs) (tid n : Nat) : s.regsKept (t.raise tid n) fs := h
theorem State.regsKept.setTs {s t : State} {fs : List FRef} (h : s.regsKept t fs) {tid : Nat} (st : Nat) (hs : thrStateF tid ∈ fs)
    (hh : haltedF tid ∈ fs) : s.regsKept (t.setTs tid st) fs :=
  h.trans ((t.setTs_regsKept tid st).mono (by simp [hs, hh]))

/-! ### What the mules and yarns may change -/

/-- From `s` to `t` nothing changes but registers, what the mules hold, and the yarns. -/
def State.yarnsOnly (s t : State) : Prop := { t with csr := s.csr, mules := s.mules, yarn := s.yarn } = s

theorem State.yarnsOnly.trans {s t u : State} (h : s.yarnsOnly t) (h' : t.yarnsOnly u) : s.yarnsOnly u := by
  unfold State.yarnsOnly at *; rw [← h, ← h']

theorem State.yarnsOnly_refl (s : State) : s.yarnsOnly s := rfl
theorem State.yarnsOnly.setWord {s t : State} (h : s.yarnsOnly t) (a v : Nat) : s.yarnsOnly (t.setWord a v) := h.trans rfl
theorem State.yarnsOnly.wr {s t : State} (h : s.yarnsOnly t) (f : FRef) (v : Nat) : s.yarnsOnly (t.wr f v) := h.setWord _ _
theorem State.yarnsOnly.count {s t : State} (h : s.yarnsOnly t) (f : FRef) (n : Nat) : s.yarnsOnly (t.count f n) := h.wr _ _
theorem State.yarnsOnly.setThr {s t : State} (h : s.yarnsOnly t) (tid : Nat) (x : Thread) : s.yarnsOnly (t.setThr tid x) := h.trans rfl
theorem State.yarnsOnly.modThr {s t : State} (h : s.yarnsOnly t) (tid : Nat) (f : Thread → Thread) : s.yarnsOnly (t.modThr tid f) := h.setThr _ _
theorem State.yarnsOnly.modSpindle {s t : State} (h : s.yarnsOnly t) (sp : Nat) (f : Spindle → Spindle) : s.yarnsOnly (t.modSpindle sp f) :=
  h.trans rfl
theorem State.yarnsOnly.setQueue {s t : State} (h : s.yarnsOnly t) (ep : Nat) (q : List Msg) : s.yarnsOnly (t.setQueue ep q) := h.trans rfl
theorem State.yarnsOnly.setFlights {s t : State} (h : s.yarnsOnly t) (fs : List Flight) : s.yarnsOnly (t.setFlights fs) := h.trans rfl
theorem State.yarnsOnly.setTs {s t : State} (h : s.yarnsOnly t) (tid st : Nat) : s.yarnsOnly (t.setTs tid st) := by
  unfold State.setTs
  split
  · exact h
  · exact (h.wr _ _).wr _ _
theorem State.yarnsOnly.raise {s t : State} (h : s.yarnsOnly t) (tid n : Nat) : s.yarnsOnly (t.raise tid n) := h.modThr _ _
theorem State.onlyMules.yarnsOnly {s t : State} (h : s.onlyMules t) : s.yarnsOnly t := by
  unfold State.yarnsOnly; rw [← h]

theorem State.yarnsOnly.csrMules {s t : State} (h : s.yarnsOnly t) (hy : t.yarn = s.yarn) : { t with csr := s.csr, mules := s.mules } = s := by
  rw [State.yarnsOnly, ← hy] at h; exact h
theorem State.yarnsOnly.yarnMules {s t : State} (h : s.yarnsOnly t) (hc : t.csr = s.csr) : { t with yarn := s.yarn, mules := s.mules } = s := by
  rw [State.yarnsOnly, ← hc] at h; exact h
theorem State.yarnsOnly.yarn {s t : State} (h : s.yarnsOnly t) (hc : t.csr = s.csr) (hm : t.mules = s.mules) : { t with yarn := s.yarn } = s := by
  rw [State.yarnsOnly, ← hc, ← hm] at h; exact h
theorem State.yarnsOnly.mules {s t : State} (h : s.yarnsOnly t) (hc : t.csr = s.csr) (hy : t.yarn = s.yarn) : { t with mules := s.mules } = s := by
  rw [State.yarnsOnly, ← hc, ← hy] at h; exact h
theorem State.yarnsOnly.csr {s t : State} (h : s.yarnsOnly t) (hm : t.mules = s.mules) (hy : t.yarn = s.yarn) : { t with csr := s.csr } = s := by
  rw [State.yarnsOnly, ← hm, ← hy] at h; exact h

/-- The state with another register file. -/
def State.withCsr (s : State) (c : AMap W64) : State := { s with csr := c }

theorem State.withCsr_self {s : State} {c : AMap W64} (h : s.csr = c) : s.withCsr c = s := by subst h; rfl

/-- A thread that takes a state and goes on: but for the registers it has only gone on. -/
theorem State.setTs_goOn_withCsr (s : State) (tid st : Nat) (c : AMap W64) : ((s.setTs tid st).goOn tid).withCsr c = (s.withCsr c).goOn tid := by
  unfold State.setTs; split <;> rfl

/-! ### Instructions that may issue -/

theorem State.MayIssue.ts_run {s : State} {tid : Nat} {i : Ob} (h : s.MayIssue tid i) : s.ts tid = tsRun := by
  have := h.run
  simp only [State.runs, Bool.and_eq_true, beq_iff_eq] at this
  exact this.1.1

/-- The issue cycle of a thread that meets the word of an instruction that may issue. -/
theorem State.obord_eq {s : State} {tid : Nat} {i : Ob} (h : s.MayIssue tid i) (ha : i.admitted = true) :
    s.obord tid i = .next ((s.spent tid).complete tid (encodeOb i) ((s.spent tid).perform tid i)).2 := by
  rw [State.obord, s.issueIn_of_mayIssue tid _ i h (decodeOb_encodeOb i ha)]

/-- An instruction that takes effect and transfers no control. -/
theorem State.obord_go {s t : State} {tid : Nat} {i : Ob} (h : s.MayIssue tid i) (ha : i.admitted = true)
    (hp : (s.spent tid).perform tid i = .go t none) : s.obord tid i = .next (t.goOn tid) := by
  rw [State.obord_eq h ha, hp]; rfl

/-- An instruction that only writes a register. -/
theorem State.obord_wrote {s : State} {tid : Nat} {i : Ob} {rd : Reg} {v : W64} (h : s.MayIssue tid i) (ha : i.admitted = true)
    (hp : (s.spent tid).perform tid i = (s.spent tid).toReg tid rd v) : s.obord tid i = .next (s.wrote tid rd v) :=
  State.obord_go h ha hp

end Sys2Proof.Machine
end

section
/-! WAIT, its wake, and SIGNAL (R77, R78; O24). -/

namespace Sys2Proof.Machine

open Sys2Proof

@[simp] theorem State.spent_queueAt (s : State) (tid ep : Nat) : (s.spent tid).queueAt ep = s.queueAt ep := by
  rw [State.queueAt, State.spent_yarn]; rfl

@[simp] theorem State.spent_headAt (s : State) (tid ep : Nat) : (s.spent tid).headAt ep = s.headAt ep := by
  rw [State.headAt, State.spent_queueAt]; rfl

@[simp] theorem State.spent_pendingWord (s : State) (tid : Nat) : (s.spent tid).pendingWord tid = s.pendingWord tid := by
  simp only [State.pendingWord, State.levelBits, State.stitchBit, State.stitch, State.spent_headAt, State.spent_rd, State.spent_thr]
  rfl

theorem State.eventWord_of_lt (s : State) {tid : Nat} (h : tid < 6144) : s.eventWord tid = s.pendingWord tid := by
  rw [State.eventWord, isCob_of_lt h]; rfl

theorem State.yarnsOnly.takeEvents {s t : State} (h : s.yarnsOnly t) (tid : Nat) (v : W32) : s.yarnsOnly (t.takeEvents tid v) := h.modThr _ _

theorem State.regsKept.takeEvents {s t : State} {fs : List FRef} (h : s.regsKept t fs) (tid : Nat) (v : W32) :
    s.regsKept (t.takeEvents tid v) fs := h

/-- What a WAIT takes at once. -/
def State.waitWord (s : State) (tid : Nat) (ra : Reg) : W32 := s.pendingWord tid &&& (s.reg tid ra).setWidth 32

theorem State.waitFor_taken (s : State) {tid : Nat} (h : tid < 6144) (rd : Reg) {ra : Reg} {nb : Bool} (hv : nb = true ∨ s.waitWord tid ra ≠ 0) :
    s.waitFor tid rd ra nb = (s.takeEvents tid (s.waitWord tid ra)).toReg tid rd ((s.waitWord tid ra).setWidth 64) := by
  rw [State.waitFor, s.eventWord_of_lt h]; exact if_pos hv

theorem State.waitFor_waits (s : State) {tid : Nat} (h : tid < 6144) (rd : Reg) {ra : Reg} (hv : s.waitWord tid ra = 0) :
    s.waitFor tid rd ra false =
      .go ((s.modThr tid fun x => { x with waitMask := (s.reg tid ra).setWidth 32, waitRd := rd.toNat }).setTs tid tsWait) none := by
  have hn : ¬ ((false : Bool) = true ∨ s.pendingWord tid &&& (s.reg tid ra).setWidth 32 ≠ 0) := by simpa [State.waitWord] using hv
  rw [State.waitFor, s.eventWord_of_lt h, isCob_of_lt h]
  exact (if_neg hn).trans (if_neg Bool.false_ne_true)

theorem State.spent_waitWord (s : State) (tid : Nat) (ra : Reg) : (s.spent tid).waitWord tid ra = s.waitWord tid ra := by
  rw [State.waitWord, State.spent_pendingWord, State.spent_reg]; rfl

/-- WAIT that returns at once: the bits returned are cleared where they are latched. -/
theorem wait_taken (s : State) {tid : Nat} (h : tid < 6144) {rd ra : Reg} {nb : Bool} (hi : s.MayIssue tid (.wait rd ra nb))
    (hv : nb = true ∨ s.waitWord tid ra ≠ 0) :
    ∃ t, exec (.wait tid rd ra nb) s = .next t ∧ s.threadTo t tid { ((s.thr tid).setG rd.toNat ((s.waitWord tid ra).setWidth 64)).onward with
      events := (s.thr tid).events &&& ~~~s.waitWord tid ra
      stitchSeen := if (s.waitWord tid ra).getLsbD 6 then s.rd F.STITCH_COUNT.COUNT else (s.thr tid).stitchSeen } := by
  have hu : nb = true ∨ (s.spent tid).waitWord tid ra ≠ 0 := by rwa [s.spent_waitWord]
  refine ⟨_, State.obord_go hi rfl ((s.spent tid).waitFor_taken h rd hu), (s.threadTo_iff _ _ _).mpr ⟨?_, ?_⟩⟩
  · exact (((s.spent_threadOnly tid).modThr _).modThr _).goOn
  · rw [State.goOn_thr, State.thr_modThr_same, State.takeEvents, State.thr_modThr_same, s.spent_thr, s.spent_waitWord, State.stitch,
      State.spent_rd]
    by_cases hr : rd.toNat = 0
    · simp [Thread.setG, hr, Thread.onward, evStitch]
    · simp [Thread.setG, hr, Thread.onward, evStitch]

/-- WAIT that finds nothing pending: the thread enters WAIT with its mask. -/
theorem wait_waits (s : State) {tid : Nat} (h : tid < 6144) {rd ra : Reg} (hi : s.MayIssue tid (.wait rd ra false))
    (hv : s.waitWord tid ra = 0) :
    ∃ t, exec (.wait tid rd ra false) s = .next t ∧ t.ts tid = tsWait ∧
      s.threadTo { t with csr := s.csr } tid { (s.thr tid).onward with waitMask := (s.reg tid ra).setWidth 32, waitRd := rd.toNat } ∧
      s.regsKept t (tsFields tid) := by
  have hu : (s.spent tid).waitWord tid ra = 0 := by rwa [s.spent_waitWord]
  refine ⟨_, State.obord_go hi rfl ((s.spent tid).waitFor_waits h rd hu), ?_, ?_, ?_⟩
  · rw [State.goOn_ts, State.setTs_ts_same _ h (by decide)]
  · show s.threadTo (State.withCsr _ s.csr) tid _
    rw [State.setTs_goOn_withCsr, State.withCsr_self (by exact s.spent_csr tid), State.threadTo_iff]
    refine ⟨((s.spent_threadOnly tid).modThr _).goOn, ?_⟩
    rw [State.goOn_thr, State.thr_modThr_same, s.spent_thr, s.spent_reg]
    rfl
  · exact (((State.regsKept_of_csr (s.spent_csr tid) _).modThr _ _).setTs _ (by simp) (by simp)).goOn _

/-- A waiting thread that has something pending leaves WAIT. -/
theorem waitWake_wakes (s : State) {tid : Nat} (h : tid < 6144) (hts : s.ts tid = tsWait) {v : W32} (hw : s.wakeBits tid = v) (hv : v ≠ 0) :
    ∃ t, exec (.waitWake tid) s = .next t ∧ t.ts tid = tsRun ∧ s.yarnsOnly t ∧ t.yarn = s.yarn ∧ s.regsKept t (tsFields tid) ∧
      (∀ u, u ≠ tid → t.thr u = s.thr u) ∧
      t.thr tid = { s.thr tid with events := (s.thr tid).events &&& ~~~v, stitchSeen := if v.getLsbD 6 then s.stitch else (s.thr tid).stitchSeen }.setG
        (s.thr tid).waitRd (v.setWidth 64) := by
  subst hw
  have hn : ¬ (s.ts tid ≠ tsWait ∨ s.wakeBits tid = 0) := by simpa [hts] using hv
  refine ⟨_, congrArg Host.Outcome.next (if_neg hn), State.setTs_ts_same _ h (by decide), ?_, State.setTs_yarn _ _ _, ?_, fun u hu => ?_, ?_⟩
  · exact ((s.yarnsOnly_refl.takeEvents _ _).modThr _ _).setTs _ _
  · exact (((s.regsKept_refl _).takeEvents _ _).modThr _ _).setTs _ (by simp) (by simp)
  · rw [State.setTs_thr, State.thr_modThr_other _ _ _ _ hu, State.takeEvents, State.thr_modThr_other _ _ _ _ hu]
  · rw [State.setTs_thr, State.thr_modThr_same, State.takeEvents, State.thr_modThr_same]
    rfl

theorem bit32_eq_shift (n : Nat) : BitVec.ofNat 32 (2 ^ n) = 1#32 <<< n := by
  apply BitVec.eq_of_toNat_eq
  simp [Nat.shiftLeft_eq]

/-- SIGNAL raises its bit in a thread of the same spindle. -/
theorem signal_raises (s : State) {tid : Nat} {thr : BitVec 3} {b : BitVec 5} (hb : 16 ≤ b.toNat) (hi : s.MayIssue tid (.signal thr b)) :
    exec (.signal tid thr b) s = .next (((s.spent tid).raise (tidOf (spOf tid) thr.toNat) b.toNat).goOn tid) :=
  State.obord_go hi rfl (if_neg (by omega))

theorem tidOf_eq (tid t : Nat) : tid / 8 * 8 + t = tidOf (spOf tid) t := by rw [tidOf, spOf, Nat.mul_comm]

theorem State.goOn_thr_other (s : State) {tid u : Nat} (h : u ≠ tid) : (s.goOn tid).thr u = s.thr u := s.thr_modThr_other tid u _ h

theorem State.goOn_events (s : State) (tid u : Nat) : ((s.goOn tid).thr u).events = (s.thr u).events := by
  by_cases h : u = tid
  · subst h; rw [State.goOn_thr]; rfl
  · rw [s.goOn_thr_other h]

theorem State.spent_events (s : State) (tid u : Nat) : ((s.spent tid).thr u).events = (s.thr u).events := by
  by_cases h : u = tid
  · subst h; rw [s.spent_thr]
  · rw [s.spent_thr_other _ _ h]

theorem State.raise_regs (s : State) (tid n u : Nat) : ((s.raise tid n).thr u).regs = (s.thr u).regs := by
  by_cases h : u = tid
  · subst h; rw [State.raise, State.thr_modThr_same]
  · rw [State.raise, State.thr_modThr_other _ _ _ _ h]

theorem State.raise_events (s : State) (tid n : Nat) : ((s.raise tid n).thr tid).events = (s.thr tid).events ||| 1#32 <<< n := by
  rw [State.raise, State.thr_modThr_same, bit32_eq_shift]

end Sys2Proof.Machine

open Sys2Proof Sys2Proof.Machine

/-- Settles O24: a WAIT that finds something pending or does not block returns it, another waits until WAIT_WAKE, and SIGNAL raises a bit. -/
theorem eventsAndWaiting : Obligations.EventsAndWaiting := by
  refine ⟨?_, ?_, ?_⟩
  · rintro s tid rd ra nb v h rfl hi
    refine ⟨fun hv => ?_, fun hnb hv => ?_⟩
    · obtain ⟨t, ht, hto⟩ := wait_taken s h hi hv
      exact ⟨t, _, ht, fun h6 => if_pos h6, fun h6 => if_neg (by rw [h6]; exact Bool.false_ne_true), hto⟩
    · subst hnb
      exact wait_waits s h hi hv
  · intro s tid v h hts hv hne
    obtain ⟨t, ht, hrun, hframe, hyarn, hregs, hother, hthr⟩ := waitWake_wakes s h hts (hv.symm ▸ rfl) hne
    refine ⟨t, ht, hrun, fun hr => ?_, fun r hr => ?_, ?_, ?_, hother, hframe.csrMules hyarn, hregs⟩ <;> rw [hthr]
    · exact Thread.g_setG_same _ _ _ hr
    · exact Thread.g_setG_other _ _ _ _ hr
    · simp only [Thread.setG]; split <;> rfl
    · rw [Thread.setG_pc]
  · intro s tid thr b h hb hi
    refine ⟨_, signal_raises s hb hi, ?_, ?_, fun u hu hu' => ?_, ?_⟩
    · exact ((s.spent_onlyMules tid).trans (State.modThr_onlyMules _ _ _)).trans (State.modThr_onlyMules _ _ _)
    · rw [State.goOn_events, tidOf_eq, State.raise_events,
        State.spent_events]
    · rw [State.goOn_thr_other _ hu, State.raise, State.thr_modThr_other _ _ _ _ (tidOf_eq tid _ ▸ hu'), s.spent_thr_other _ _ hu]
    · rw [State.goOn_thr, show (State.thr _ tid).onward.regs = (State.thr _ tid).regs from rfl, State.raise_regs, s.spent_thr]
end

section
/-! Bytes of numbers: what a store of a number leaves, and what a load returns (chapter 00, R98, R100). -/

namespace Sys2Proof.Machine

open Sys2Proof

@[simp] theorem toLE_length (n v : Nat) : (toLE n v).length = n := by
  induction n generalizing v with
  | zero => rfl
  | succ n ih => simp [toLE, ih]

theorem toLE_getElem (n v k : Nat) (h : k < (toLE n v).length) : (toLE n v)[k] = BitVec.ofNat 8 (v / 256 ^ k) := by
  induction n generalizing v k with
  | zero => simp at h
  | succ n ih =>
    cases k with
    | zero => simp [toLE]
    | succ k =>
      rw [Nat.pow_succ', ← Nat.div_div_eq_div_mul]
      exact ih (v / 256) k (by simpa using h)

/-- `n` bytes of a number are those of the number modulo their range. -/
theorem toLE_mod (n v : Nat) : toLE n (v % 2 ^ (8 * n)) = toLE n v := by
  induction n generalizing v with
  | zero => rfl
  | succ n ih =>
    have hpow : 2 ^ (8 * (n + 1)) = 256 * 2 ^ (8 * n) := by rw [Nat.mul_succ, Nat.pow_add, Nat.mul_comm]
    have hbyte : BitVec.ofNat 8 (v % 2 ^ (8 * (n + 1))) = BitVec.ofNat 8 v := by
      apply BitVec.eq_of_toNat_eq
      rw [BitVec.toNat_ofNat, BitVec.toNat_ofNat, hpow, Nat.mod_mul_right_mod]
    rw [toLE, toLE, hbyte, hpow, Nat.mod_mul_right_div_self, ih]

/-- Storing `n` bytes of a number. -/
theorem Memory.stored_write (m : Memory) (a n v : Nat) : Memory.stored m (Memory.write m a (toLE n v)) a n v := by
  intro x
  split
  next h =>
    obtain ⟨k, rfl⟩ := Nat.exists_eq_add_of_le h.1
    have hk : k < (toLE n v).length := by rw [toLE_length]; omega
    rw [Memory.byte_write_inside _ _ _ _ hk, toLE_getElem, Nat.add_sub_cancel_left]
  next h => exact Memory.byte_write_outside _ _ _ _ (by rw [toLE_length]; omega)

theorem leNat_lt (bs : Bytes) : leNat bs < 256 ^ bs.length := by
  induction bs with
  | nil => simp [leNat]
  | cons b t ih =>
    have hb := b.isLt
    rw [leNat, List.length_cons, Nat.pow_succ]
    omega

@[simp] theorem Memory.read_length (m : Memory) (a n : Nat) : (Memory.read m a n).length = n := by
  induction n generalizing a with
  | zero => rfl
  | succ n ih => simp [Memory.read, ih]

/-- A number narrower than a register, sign-extended. -/
theorem signExtend_ofNat {w v : Nat} (h64 : w < 64) (hv : v < 2 ^ w) :
    (BitVec.ofNat w v).signExtend 64 = if 2 ^ (w - 1) ≤ v then BitVec.ofNat 64 (2 ^ 64 - 2 ^ w + v) else BitVec.ofNat 64 v := by
  have hpow : 2 ^ w < 2 ^ 64 := Nat.pow_lt_pow_right (by decide) h64
  have hmsb : (BitVec.ofNat w v).msb = decide (2 ^ (w - 1) ≤ v) := by
    rw [BitVec.msb_eq_decide, BitVec.toNat_ofNat, Nat.mod_eq_of_lt hv]
  apply BitVec.eq_of_toNat_eq
  rw [BitVec.toNat_signExtend, BitVec.toNat_setWidth, BitVec.toNat_ofNat, Nat.mod_eq_of_lt hv, hmsb,
    Nat.mod_eq_of_lt (by omega : v < 2 ^ 64)]
  by_cases h : 2 ^ (w - 1) ≤ v
  · simp only [h, decide_true, if_true, BitVec.toNat_ofNat]
    rw [Nat.mod_eq_of_lt (by omega)]
    omega
  · simp only [h, decide_false, if_false, BitVec.toNat_ofNat, Bool.false_eq_true]
    omega

/-- A loaded value of one of the four sizes. -/
theorem extendTo_eq_loaded {n v : Nat} (sx : Bool) (hn : n = 1 ∨ n = 2 ∨ n = 4 ∨ n = 8) (hv : v < 2 ^ (8 * n)) :
    extendTo (sizeOf n) sx v = loaded n sx v := by
  cases sx with
  | false => rcases hn with rfl | rfl | rfl | rfl <;> rfl
  | true =>
    rcases hn with rfl | rfl | rfl | rfl
    · show (BitVec.ofNat 8 v).signExtend 64 = _
      simpa [loaded] using signExtend_ofNat (w := 8) (by decide) hv
    · show (BitVec.ofNat 16 v).signExtend 64 = _
      simpa [loaded] using signExtend_ofNat (w := 16) (by decide) hv
    · show (BitVec.ofNat 32 v).signExtend 64 = _
      simpa [loaded] using signExtend_ofNat (w := 32) (by decide) hv
    · simp [loaded, extendTo, sizeOf]

end Sys2Proof.Machine
end

section
/-! Mule scratch: the issue of an access, and the service of a bank (R60 to R62, R100; O21). -/

namespace Sys2Proof.Machine

open Sys2Proof

/-! ### Issue -/

/-- An aligned access within the scratch that the thread's mule grants it. -/
theorem State.scratchFault_none {s : State} {tid a n : Nat} {write : Bool} (hin : a + n ≤ 0x80000) (hal : a % n = 0)
    (hp : s.bounded tid = true → (s.rd (F.MULE_SCR_PROT.PERM (tid / 128))).testBit (2 * (a / 0x10000) + (if write then 1 else 0)) = true) :
    s.scratchFault tid a n write = none := by
  have hm : muleOf (spOf tid) = tid / 128 := by rw [muleOf, spOf, Nat.div_div_eq_div_mul]
  rw [State.scratchFault, if_neg (by omega), if_neg (by omega), hm]
  refine if_neg fun h => ?_
  rw [hp h.1] at h
  exact absurd h.2 (by decide)

/-- The scratch access that a thread asks for. -/
def State.scratchReq (s : State) (tid a n : Nat) (dest : Option Nat) (sx : Bool) (op : Option AtomOp) (v cmp : W64) : ScratchReq :=
  { id := s.mules.nextScratch, thread := tid, mule := tid / 128, cycle := s.clk.cycles,
    rank := (tid / 8 % 16 + 16 - s.rd F.STITCH_COUNT.COUNT % 16) % 16, addr := a, bytes := n, rd := dest, sx := sx, op := op,
    operand := v, compare := cmp }

theorem State.spent_scratchQ (s : State) (tid : Nat) : (s.spent tid).mules.scratchQ = s.mules.scratchQ := by
  have h := (s.spent_onlyThread tid).1
  have e := congrArg Mules.scratchQ h
  exact e

theorem State.spent_nextScratch (s : State) (tid : Nat) : (s.spent tid).mules.nextScratch = s.mules.nextScratch := by
  have h := (s.spent_onlyThread tid).1
  have e := congrArg Mules.nextScratch h
  exact e

theorem State.askScratch_onlyMules (s : State) (tid a n : Nat) (dest : Option Nat) (sx : Bool) (op : Option AtomOp) (v cmp : W64) :
    s.onlyMules (s.askScratch tid a n dest sx op v cmp) := rfl

theorem State.askScratch_scratchQ (s : State) (tid a n : Nat) (dest : Option Nat) (sx : Bool) (op : Option AtomOp) (v cmp : W64) :
    (s.askScratch tid a n dest sx op v cmp).mules.scratchQ = s.mules.scratchQ ++ [s.scratchReq tid a n dest sx op v cmp] := by
  have hm : muleOf (spOf tid) = tid / 128 := by rw [muleOf, spOf, Nat.div_div_eq_div_mul]
  rw [State.scratchReq, ← hm]
  rfl

theorem State.spent_scratchReq (s : State) (tid a n : Nat) (dest : Option Nat) (sx : Bool) (op : Option AtomOp) (v cmp : W64) :
    (s.spent tid).scratchReq tid a n dest sx op v cmp = s.scratchReq tid a n dest sx op v cmp := by
  rw [State.scratchReq, State.scratchReq, State.spent_nextScratch, State.spent_clk, State.spent_rd]

theorem State.askScratch_thr_other (s : State) {tid u : Nat} (a n : Nat) (dest : Option Nat) (sx : Bool) (op : Option AtomOp) (v cmp : W64)
    (h : u ≠ tid) : (s.askScratch tid a n dest sx op v cmp).thr u = s.thr u :=
  State.thr_modThr_other _ tid u _ h

theorem State.askScratch_thr_same (s : State) (tid a n : Nat) (dest : Option Nat) (sx : Bool) (op : Option AtomOp) (v cmp : W64) :
    (s.askScratch tid a n dest sx op v cmp).thr tid =
      { (match dest with | some k => (s.thr tid).await k | none => s.thr tid) with scratchOp := some s.mules.nextScratch } := by
  rw [State.askScratch, State.thr_modThr_same]; rfl

theorem Thread.await_slots (x : Thread) (k n : Nat) : { x with slots := n }.await k = { x.await k with slots := n } := by
  unfold Thread.await; split <;> rfl

/-- The scratch instructions put one access behind those waiting. -/
theorem scratch_issued (s : State) {tid : Nat} {i : Ob} (hi : s.MayIssue tid i) (ha : i.admitted = true) (a n : Nat) (dest : Option Nat) (sx : Bool)
    (op : Option AtomOp) (v cmp : W64)
    (hp : (s.spent tid).perform tid i = .go ((s.spent tid).askScratch tid a n dest sx op v cmp) none) :
    ∃ t, s.obord tid i = .next t ∧ t.mules.scratchQ = s.mules.scratchQ ++ [s.scratchReq tid a n dest sx op v cmp] ∧ s.onlyMules t ∧
      (∀ u, u ≠ tid → t.thr u = s.thr u) ∧
      t.thr tid = { (match dest with | some k => (s.thr tid).await k | none => s.thr tid).onward with
        scratchOp := some s.mules.nextScratch, slots := (s.thr tid).slots + (if s.bounded tid then 1 else 0) } := by
  refine ⟨_, State.obord_go hi ha hp, ?_, ?_, fun u hu => ?_, ?_⟩
  · show (State.askScratch _ _ _ _ _ _ _ _ _).mules.scratchQ = _
    rw [State.askScratch_scratchQ, State.spent_scratchQ, State.spent_scratchReq]
  · exact ((s.spent_onlyMules tid).trans (State.askScratch_onlyMules _ _ _ _ _ _ _ _ _)).trans (State.modThr_onlyMules _ _ _)
  · rw [State.goOn_thr_other _ hu, State.askScratch_thr_other _ _ _ _ _ _ _ _ hu, s.spent_thr_other _ _ hu]
  · rw [State.goOn_thr, State.askScratch_thr_same, s.spent_thr, State.spent_nextScratch]
    cases dest with
    | none => rfl
    | some k => simp only [Thread.await_slots]; rfl

theorem State.spent_scratchMove (s : State) {tid : Nat} {sz : Size} {sx store : Bool} {rd ra : Reg} {off : BitVec 13}
    (hf : (s.spent tid).scratchFault tid (eaOf (s.reg tid ra) off) sz.bytes store = none) :
    (s.spent tid).scratchMove tid sz sx store rd ra off =
      .go ((s.spent tid).askScratch tid (eaOf (s.reg tid ra) off) sz.bytes (if store then none else some rd.toNat) sx none (s.reg tid rd) 0) none := by
  rw [State.scratchMove, State.spent_reg, State.spent_reg, hf]

theorem State.spent_scratchAtom (s : State) {tid : Nat} {op : AtomOp} {wide : Bool} {rd ra rb : Reg}
    (hf : (s.spent tid).scratchFault tid (s.reg tid ra).toNat (if wide then 8 else 4) true = none) :
    (s.spent tid).scratchAtom tid op wide rd ra rb =
      .go ((s.spent tid).askScratch tid (s.reg tid ra).toNat (if wide then 8 else 4) (some rd.toNat) false (some op) (s.reg tid rb) (s.reg tid rd))
        none := by
  rw [State.scratchAtom, State.spent_reg, State.spent_reg, State.spent_reg, hf]

theorem State.spent_scratchFault (s : State) (tid a n : Nat) (w : Bool) : (s.spent tid).scratchFault tid a n w = s.scratchFault tid a n w := by
  rw [State.scratchFault, State.scratchFault, State.spent_bounded, State.spent_rd]

/-- The command of an atomic is an issue cycle that meets its word. -/
def atomInstr (f : AtomOp) (tid : Nat) (wide : Bool) (rd ra rb : Reg) : Instr :=
  match f with
  | .fetchAdd => .fetchAdd tid wide rd ra rb | .swap => .satomSwap tid wide rd ra rb | .cas => .cas tid wide rd ra rb
  | .and => .satomAnd tid wide rd ra rb | .or => .satomOr tid wide rd ra rb | .xor => .satomXor tid wide rd ra rb
  | .minU => .satomMinU tid wide rd ra rb | .maxU => .satomMaxU tid wide rd ra rb

theorem exec_atomInstr (f : AtomOp) (tid : Nat) (wide : Bool) (rd ra rb : Reg) (s : State) :
    exec (atomInstr f tid wide rd ra rb) s = s.obord tid (.satom f wide rd ra rb) := by
  cases f <;> rfl

/-! ### Service -/

/-- `r` is served before `q` where both wait at one bank: it was issued earlier, or in one cycle with a lower rotated number. -/
def ScratchReq.before (r q : ScratchReq) : Prop := r.cycle < q.cycle ∨ r.cycle = q.cycle ∧ r.rank < q.rank

theorem firstReq_mem {l : List ScratchReq} {q : ScratchReq} (h : firstReq l = some q) : q ∈ l := by
  induction l with
  | nil => simp [firstReq] at h
  | cons r t ih =>
    rw [firstReq] at h
    split at h
    · simp_all
    next p hp =>
      split at h
      · cases h; exact List.mem_cons_of_mem _ (ih hp)
      · cases h; exact List.mem_cons_self

/-- The first of the accesses is the one that none behind it precedes and that precedes each ahead of it. -/
theorem firstReq_append {before after : List ScratchReq} {r : ScratchReq} (hb : ∀ q ∈ before, r.before q) (ha : ∀ q ∈ after, ¬ q.before r) :
    firstReq (before ++ r :: after) = some r := by
  induction before with
  | nil =>
    rw [List.nil_append, firstReq]
    cases hf : firstReq after with
    | none => rfl
    | some q => exact if_neg (ha q (firstReq_mem hf))
  | cons b before ih =>
    rw [List.cons_append, firstReq, ih fun q hq => hb q (List.mem_cons_of_mem _ hq)]
    exact if_pos (hb b List.mem_cons_self)

theorem State.scratchServe_scratchQ {s : State} {before after : List ScratchReq} {r : ScratchReq} (hq : s.mules.scratchQ = before ++ r :: after)
    (hid : ∀ q ∈ before ++ after, q.id ≠ r.id) : (s.scratchServe r).mules.scratchQ = before ++ after := by
  show s.mules.scratchQ.filter (fun q => q.id != r.id) = _
  have hkeep : ∀ l : List ScratchReq, l ⊆ before ++ after → l.filter (fun q => q.id != r.id) = l := fun l hl =>
    List.filter_eq_self.mpr fun q hq => by simpa using hid q (hl hq)
  rw [hq, List.filter_append, List.filter_cons, hkeep before (by simp), hkeep after (by simp)]
  simp

theorem State.scratchServe_thr_other (s : State) (r : ScratchReq) {u : Nat} (h : u ≠ r.thread) : (s.scratchServe r).thr u = s.thr u :=
  State.thr_modThr_other _ r.thread u _ h

/-- The thread that waits for the access gets its result; another keeps its record. -/
theorem State.scratchServe_thr_same (s : State) (r : ScratchReq) : (s.scratchServe r).thr r.thread =
    if (s.thr r.thread).scratchOp = some r.id then
      { (match r.rd with | some k => ((s.thr r.thread).setG k (scratchDo s.scratch r).2).usable k | none => s.thr r.thread) with scratchOp := none }
    else s.thr r.thread := by
  rw [State.scratchServe, State.thr_modThr_same]; rfl

theorem State.scratchServe_scratch (s : State) (r : ScratchReq) : (s.scratchServe r).scratch = (scratchDo s.scratch r).1 := rfl

theorem State.scratchServe_rest (s : State) (r : ScratchReq) : { s.scratchServe r with mules := s.mules, scratch := s.scratch } = s := rfl

@[simp] theorem Thread.setG_pend (x : Thread) (r : Nat) (v : W64) : (x.setG r v).pend = x.pend := by unfold Thread.setG; split <;> rfl

/-- The value that an atomic leaves, and the old one that it returns. -/
theorem scratchDo_atomic (m : Memory) {r : ScratchReq} {f : AtomOp} (h : r.op = some f) :
    Memory.stored m (scratchDo m r).1 (0x80000 * r.mule + r.addr) r.bytes
      (atomEval f r.bytes (leNat (Memory.read m (0x80000 * r.mule + r.addr) r.bytes)) (r.operand.toNat % 2 ^ (8 * r.bytes))
        (r.compare.toNat % 2 ^ (8 * r.bytes))) ∧
      (scratchDo m r).2 = BitVec.ofNat 64 (leNat (Memory.read m (0x80000 * r.mule + r.addr) r.bytes)) := by
  rw [scratchDo, h]
  exact ⟨Memory.stored_write _ _ _ _, rfl⟩

theorem scratchDo_store (m : Memory) {r : ScratchReq} (h : r.op = none) (hrd : r.rd = none) :
    Memory.stored m (scratchDo m r).1 (0x80000 * r.mule + r.addr) r.bytes (r.operand.toNat % 2 ^ (8 * r.bytes)) := by
  rw [scratchDo, h, hrd]
  simp only [Option.isNone_none, if_true]
  rw [← toLE_mod]
  exact Memory.stored_write _ _ _ _

theorem scratchDo_load (m : Memory) {r : ScratchReq} {k : Nat} (h : r.op = none) (hrd : r.rd = some k) :
    scratchDo m r = (m, extendTo (sizeOf r.bytes) r.sx (leNat (Memory.read m (0x80000 * r.mule + r.addr) r.bytes))) := by
  rw [scratchDo, h, hrd]; rfl

/-- A stored number counts modulo its range. -/
theorem Memory.stored_mod {m m' : Memory} {a n v : Nat} (h : Memory.stored m m' a n (v % 2 ^ (8 * n))) : Memory.stored m m' a n v := by
  intro x
  rw [h x]
  refine ite_congr rfl (fun hx => ?_) fun _ => rfl
  have hk : x - a < (toLE n v).length := by rw [toLE_length]; omega
  have hk' : x - a < (toLE n (v % 2 ^ (8 * n))).length := by rw [toLE_length]; omega
  rw [← toLE_getElem n _ _ hk', ← toLE_getElem n _ _ hk]
  simp only [toLE_mod]

theorem execScratch_serves {s : State} {m bank : Nat} {before after : List ScratchReq} {r : ScratchReq}
    (hq : s.mules.scratchQ = before ++ r :: after) (hm : r.mule = m) (hbank : r.addr / 8 % 16 = bank)
    (hb : ∀ q ∈ before, q.mule = m → q.addr / 8 % 16 = bank → r.before q)
    (ha : ∀ q ∈ after, q.mule = m → q.addr / 8 % 16 = bank → ¬ q.before r) (hc : r.cycle + 14 ≤ s.clk.cycles) :
    exec (.scratchAccessPerform m bank) s = .next (s.scratchServe r) := by
  have hfirst : firstReq (s.mules.scratchQ.filter (fun r => r.mule == m && r.addr / 8 % 16 == bank)) = some r := by
    rw [hq, List.filter_append, List.filter_cons, if_pos (by simp [hm, hbank])]
    refine firstReq_append (fun q hq => ?_) fun q hq => ?_
    · rw [List.mem_filter, Bool.and_eq_true, beq_iff_eq, beq_iff_eq] at hq
      exact hb q hq.1 hq.2.1 hq.2.2
    · rw [List.mem_filter, Bool.and_eq_true, beq_iff_eq, beq_iff_eq] at hq
      exact ha q hq.1 hq.2.1 hq.2.2
  show execScratchAccessPerform m bank s = _
  rw [execScratchAccessPerform, hfirst]
  exact if_pos hc

end Sys2Proof.Machine

open Sys2Proof Sys2Proof.Machine

/-- Settles O21: an instruction that may issue asks for one access, and a bank serves the first of those that wait at it. -/
theorem scratchOperations : Obligations.ScratchOperations := by
  refine ⟨?_, ?_⟩
  · intro s tid rd ra rb sz sx wide off c i op a n dest v cmp hform hi hin hal hprot
    have hissue : ∃ t, exec c s = .next t ∧ t.mules.scratchQ = s.mules.scratchQ ++ [s.scratchReq tid a n dest sx op v cmp] ∧ s.onlyMules t ∧
        (∀ u, u ≠ tid → t.thr u = s.thr u) ∧
        t.thr tid = { (match dest with | some k => (s.thr tid).await k | none => s.thr tid).onward with
          scratchOp := some s.mules.nextScratch, slots := (s.thr tid).slots + (if s.bounded tid then 1 else 0) } := by
      have hfault : s.scratchFault tid a n (dest.isNone || op.isSome) = none :=
        State.scratchFault_none hin hal (by simpa only [Bool.or_eq_true] using hprot)
      rw [← s.spent_scratchFault] at hfault
      rcases hform with ⟨rfl, rfl, rfl, rfl, rfl, rfl, rfl, rfl⟩ | ⟨rfl, rfl, rfl, rfl, rfl, rfl, rfl, rfl, rfl⟩ | ⟨f, rfl, rfl, rfl, rfl, rfl, rfl, rfl, rfl, hc⟩
      · exact scratch_issued s hi rfl _ _ _ _ _ _ _ (s.spent_scratchMove hfault)
      · exact scratch_issued s hi rfl _ _ _ _ _ _ _ (s.spent_scratchMove hfault)
      · have hcmd : c = atomInstr f tid wide rd ra rb := by
          rcases hc with ⟨rfl, rfl⟩ | ⟨rfl, rfl⟩ | ⟨rfl, rfl⟩ | ⟨rfl, rfl⟩ | ⟨rfl, rfl⟩ | ⟨rfl, rfl⟩ | ⟨rfl, rfl⟩ | ⟨rfl, rfl⟩ <;> rfl
        rw [hcmd, exec_atomInstr]
        exact scratch_issued s hi rfl _ _ _ _ _ _ _ (s.spent_scratchAtom hfault)
    obtain ⟨t, ht, hq, honly, hother, hthr⟩ := hissue
    exact ⟨t, _, ht, rfl, hq, honly, hother, hthr⟩
  · rintro s m bank before after r base old v hq hm hbank hb ha hid hc rfl hn rfl rfl
    subst hm
    refine ⟨_, execScratch_serves hq rfl hbank hb (fun q hq hmu hba => ?_) hc, State.scratchServe_scratchQ hq hid, s.scratchServe_rest r,
      fun u hu => s.scratchServe_thr_other r hu, ?_⟩
    · have := ha q hq hmu hba
      rw [ScratchReq.before]; omega
    rw [s.scratchServe_scratch, s.scratchServe_thr_same]
    have hatom := fun f (h : r.op = some f) => scratchDo_atomic s.scratch h
    refine ⟨fun hop hrd => ?_, scratchDo_store s.scratch, fun h => Memory.stored_mod (hatom _ h).1, fun h => (hatom _ h).1, fun h => (hatom _ h).1,
      fun h => (hatom _ h).1, fun h => (hatom _ h).1, fun h => (hatom _ h).1, fun h => (hatom _ h).1, fun h => (hatom _ h).1, fun hmine => ?_,
      fun hnot => if_neg hnot⟩
    · obtain ⟨k, hk⟩ := Option.ne_none_iff_exists'.mp hrd
      rw [scratchDo_load s.scratch hop hk]
    · rw [if_pos hmine]
      refine ⟨rfl, fun k hk h0 => ?_⟩
      rw [hk]
      refine ⟨congrArg (List.erase · k) (Thread.setG_pend _ _ _), (Thread.g_setG_same _ _ _ h0).trans ?_⟩
      cases hop : r.op with
      | some f => exact (hatom f hop).2
      | none =>
        rw [scratchDo_load s.scratch hop hk]
        refine extendTo_eq_loaded _ hn ?_
        have := leNat_lt (Memory.read s.scratch (0x80000 * r.mule + r.addr) r.bytes)
        rwa [Memory.read_length, show (256 : Nat) = 2 ^ 8 from rfl, ← Nat.pow_mul] at this
end

section
/-! A thread's issue cycle with the word it meets (R50, R51, R87, R90, R91, R96, R97, R126; O27). -/

namespace Sys2Proof.Machine

open Sys2Proof

/-! ### The cycle -/

/-- THREAD_ISSUE_CYCLE of a spindle is the cycle of the thread that owns it. -/
theorem exec_threadIssueCycle (s : State) {sp : Nat} (h : sp < 768) :
    exec (.threadIssueCycle sp) s = .next (s.issueIn (8 * sp + s.clk.cycles % 8) (s.fetched (8 * sp + s.clk.cycles % 8))) := by
  have hsp : sp ≠ spOf cobBase := by rw [spOf, cobBase]; omega
  show execThreadIssueCycle sp s = _
  rw [execThreadIssueCycle, if_neg hsp]; rfl

theorem State.issueIn_idle {s : State} {tid : Nat} {w : Option W32} (hslot : s.slotOpen tid = true) (hrun : s.ts tid ≠ tsRun)
    (hhalt : s.ts tid ≠ tsHalt) : s.issueIn tid w = s.takeSlot tid := by
  have hruns : (s.takeSlot tid).runs tid = false := by rw [State.takeSlot_runs, State.runs]; simp [hrun]
  simp only [State.issueIn, hslot, State.takeSlot_ts, hhalt, hruns, if_false, if_true, Bool.true_eq_false]

/-- A thread that runs, with no halt due and budget left, meets the word in its slot. -/
theorem State.issueIn_runs {s : State} {tid : Nat} {w : Option W32} (hslot : s.slotOpen tid = true) (hruns : s.runs tid = true)
    (hhalt : s.haltDue tid = none) (hover : s.overDue tid = false) : s.issueIn tid w = ((s.spent tid).issueWord tid w).2 := by
  have hts : s.ts tid ≠ tsHalt := by
    have h := hruns
    simp only [State.runs, Bool.and_eq_true, beq_iff_eq] at h
    rw [h.1.1]; decide
  simp only [State.issueIn, hslot, State.takeSlot_ts, hts, State.takeSlot_runs, hruns, State.takeSlot_haltDue s tid tid hhalt,
    State.takeSlot_overDue, hover, if_false, Bool.true_eq_false, Bool.false_eq_true]
  rfl

/-! ### The word -/

theorem State.issueWord_blocked {s : State} {tid : Nat} (w : Option W32) (h : s.blocked tid = true) : s.issueWord tid w = (false, s) :=
  if_pos h

theorem State.issueWord_none {s : State} {tid : Nat} (h : s.blocked tid = false) :
    s.issueWord tid none = (true, s.takeFault tid 0 ⟨fcIstore, 0⟩ 0) := by
  rw [State.issueWord, h]; rfl

theorem State.issueWord_illegal {s : State} {tid d : Nat} {w : W32} (h : s.blocked tid = false) (hw : decodeOb w = .illegal d) :
    s.issueWord tid (some w) = (true, s.takeFault tid w ⟨fcIllegal, d⟩ 0) := by
  simp only [State.issueWord, h, hw, Bool.false_eq_true, if_false]

theorem State.issueWord_ok {s : State} {tid : Nat} {w : W32} {i : Ob} (h : s.blocked tid = false) (hw : decodeOb w = .ok i) :
    s.issueWord tid (some w) = s.issueOb tid w i := by
  simp only [State.issueWord, h, hw, Bool.false_eq_true, if_false]

/-! ### The instruction -/

theorem State.issueOb_unready {s : State} {tid : Nat} {i : Ob} (w : W32) (h : s.ready tid i = false) : s.issueOb tid w i = (false, s) :=
  if_pos h

theorem State.issueOb_beyond {s : State} {tid : Nat} {i : Ob} (w : W32) (h : s.ready tid i = true) (hb : i.bodyBeyond (s.thr tid).pc = true) :
    s.issueOb tid w i = (true, s.takeFault tid w ⟨fcIllegal, 2⟩ 0) := by
  simp only [State.issueOb, h, hb, Bool.true_eq_false, if_false, if_true]

theorem State.issueOb_context {s : State} {tid : Nat} {i : Ob} {f : FaultInfo} (w : W32) (h : s.ready tid i = true)
    (hb : i.bodyBeyond (s.thr tid).pc = false) (hf : i.contextFault (s.ctxOf tid) = some f) :
    s.issueOb tid w i = (true, s.takeFault tid w f (s.ctxFaultAddr tid i f)) := by
  simp only [State.issueOb, h, hb, hf, Bool.true_eq_false, Bool.false_eq_true, if_false]

theorem State.ctxFaultAddr_other (s : State) (tid : Nat) (i : Ob) {f : FaultInfo} (h : f.cause ≠ fcYarn) : s.ctxFaultAddr tid i f = 0 :=
  if_pos h

/-! ### Contexts (R91) -/

theorem State.ctxOf_bounded {s : State} {tid : Nat} (h : tid < 6144) (hb : s.bounded tid = true) : s.ctxOf tid = .bounded := by
  rw [State.ctxOf, isCob_of_lt h, hb]; rfl

theorem State.ctxOf_unbounded {s : State} {tid : Nat} (h : tid < 6144) (hb : s.bounded tid = false) :
    s.ctxOf tid = if tid % 8 = 0 then .t0 else .long := by
  rw [State.ctxOf, isCob_of_lt h, hb]; rfl

theorem Ob.contextFault_bounded (i : Ob) : i.contextFault .bounded = i.ctxFault .bounded := if_neg (by simp)

theorem Ob.contextFault_priv {i : Ob} (h : i.priv = true) : i.contextFault .bounded = some ⟨fcPriv, 0⟩ := by
  rw [Ob.contextFault_bounded, Ob.ctxFault, if_pos h]

theorem Ob.contextFault_blocking {i : Ob} (h : i.priv = false) (hb : i.blockingSend = true) : i.contextFault .bounded = some ⟨fcYarn, 1⟩ := by
  rw [Ob.contextFault_bounded, Ob.ctxFault, h, hb]; rfl

theorem Ob.contextFault_done (m : DoneMode) (ra : Reg) (t0 : Prop) [Decidable t0] :
    (Ob.done m ra).contextFault (if t0 then .t0 else .long) = some ⟨fcIllegal, 4⟩ := by
  split <;> rfl

theorem localRange_of_lt {tid : Nat} (h : tid < 6144) : localRange tid = if tid % 8 = 0 then 0x10000 else 0x2000 := by
  rw [localRange, isCob_of_lt h]; rfl

/-! ### Faults of operands -/

theorem State.openLoop_full {s : State} {tid : Nat} (trip len : Nat) (h : 4 ≤ (s.thr tid).loops.length) :
    s.openLoop tid trip len = .fault ⟨fcIllegal, 3⟩ 0 := if_pos h

theorem State.loadLocal_fault {s : State} {tid : Nat} {sz : Size} {ra : Reg} {off : BitVec 13} {f : FaultInfo} (sx : Bool) (rd : Reg)
    (h : localFault tid (eaOf (s.reg tid ra) off) sz.bytes sz.bytes = some f) :
    s.loadLocal tid sz sx rd ra off = .fault f (eaOf (s.reg tid ra) off) := by
  rw [State.loadLocal, h]

end Sys2Proof.Machine

open Sys2Proof Sys2Proof.Machine

/-- Settles O27: the cycle of the thread, the word it meets, and the instruction, each with its faults in their order. -/
theorem issueCycles : Obligations.IssueCycles := by
  refine ⟨?_, fun s tid h => if_pos h⟩
  rintro s sp tid hsp rfl hslot
  have hlt : 8 * sp + s.clk.cycles % 8 < 6144 := by omega
  refine ⟨_, exec_threadIssueCycle s hsp, fun hr hh => State.issueIn_idle hslot hr hh, ?_, ?_⟩
  all_goals generalize 8 * sp + s.clk.cycles % 8 = tid at *
  · intro hruns hhalt hover hb
    rw [State.issueIn_runs hslot hruns hhalt hover, State.issueWord_blocked _ (by rwa [s.spent_blocked])]
  intro hruns hhalt hover hb
  rw [State.issueIn_runs hslot hruns hhalt hover]
  have hb' : (s.spent tid).blocked tid = false := by rwa [s.spent_blocked]
  refine ⟨fun hw => ?_, fun w d hw hd => ?_, fun w i hw hd => ?_⟩
  · rw [hw, State.issueWord_none hb']; rfl
  · rw [hw, State.issueWord_illegal hb' hd]; rfl
  rw [hw, State.issueWord_ok hb' hd]
  refine ⟨fun hr => ?_, fun hr hbody => ?_, fun hr hbody => ?_, fun hi => ?_⟩
  · rw [State.issueOb_unready w (by rwa [s.spent_ready])]
  · rw [State.issueOb_beyond w (by rwa [s.spent_ready]) (by rwa [s.spent_pc])]; rfl
  · have hctx := fun f (hf : i.contextFault (s.ctxOf tid) = some f) =>
      State.issueOb_context (s := s.spent tid) w (by rwa [s.spent_ready]) (by rwa [s.spent_pc]) (by rwa [s.spent_ctxOf])
    refine ⟨fun hbd hp => ?_, ?_, ?_, ?_, ?_⟩
    · rw [hctx _ (by rw [State.ctxOf_bounded hlt hbd]; exact Ob.contextFault_priv hp), State.ctxFaultAddr_other _ _ _ (by decide)]; rfl
    · rintro rd ra n g hbd rfl
      rw [hctx _ (by rw [State.ctxOf_bounded hlt hbd]; exact Ob.contextFault_blocking rfl rfl), ← s.spent_reg tid ra]; rfl
    · rintro rd ra l g hbd rfl
      rw [hctx _ (by rw [State.ctxOf_bounded hlt hbd]; exact Ob.contextFault_blocking rfl rfl), ← s.spent_reg tid ra]; rfl
    · rintro hbd ⟨m, ra, rfl⟩
      rw [hctx _ (by rw [State.ctxOf_unbounded hlt hbd]; exact Ob.contextFault_done m ra _), State.ctxFaultAddr_other _ _ _ (by decide)]; rfl
    · rintro hbd ht0 ⟨ra, rfl⟩
      rw [hctx _ (by rw [State.ctxOf_unbounded hlt hbd, if_neg ht0]; rfl), State.ctxFaultAddr_other _ _ _ (by decide)]; rfl
  · have hperf : ((s.spent tid).issueOb tid w i).2 = ((s.spent tid).complete tid w ((s.spent tid).perform tid i)).2 := by
      rw [← State.issueWord_ok hb' hd, ← State.issueIn_runs hslot hruns hhalt hover]
      exact s.issueIn_of_mayIssue tid w i hi hd
    have hfault := fun f a (hf : (s.spent tid).perform tid i = .fault f a) => hperf.trans (congrArg (fun r => (State.complete _ tid w r).2) hf)
    refine ⟨?_, ?_, ?_, ?_, hperf⟩
    · rintro n l rfl hfull
      exact hfault _ _ (State.openLoop_full _ _ (by rwa [s.spent_loops]))
    · rintro z sx rd ra off rfl hout
      rw [← s.spent_reg tid ra] at hout ⊢
      exact hfault _ _ (State.loadLocal_fault sx rd (if_pos (by rw [localRange_of_lt hlt]; exact hout)))
    · rintro z sx rd ra off rfl hin hal
      rw [← s.spent_reg tid ra] at hin hal ⊢
      exact hfault _ _ (State.loadLocal_fault sx rd ((if_neg (by rw [localRange_of_lt hlt]; exact Nat.not_lt.mpr hin)).trans (if_pos hal)))
    · rintro thr b rfl hlow
      exact hfault _ _ (if_pos hlow)
end

section
/-! The yarn instructions (R69, R73 to R75, R103 to R106; O23). -/

namespace Sys2Proof.Machine

open Sys2Proof

/-! ### Endpoints -/

theorem epIsUnit_of_lt {ep : Nat} (h : ep < 2 ^ 20) : epIsUnit ep = decide (2 ^ 19 ≤ ep) := by
  rw [epIsUnit, Nat.testBit_eq_decide_div_mod_eq]
  congr 1
  rw [eq_iff_iff]
  omega

/-- R68, R103: the epoch that a thread of a spindle names: that of its destination word for a thread, its own for a unit. -/
theorem State.sendEpoch_of_lt (s : State) {tid : Nat} (h : tid < 6144) (w : W64) : s.sendEpoch tid w =
    if w.toNat % 2 ^ 20 < 2 ^ 19 then w.toNat / 2 ^ 20 % 256 else s.rd (epochF (tid / 8)) := by
  rw [State.sendEpoch, epIsUnit_of_lt (Nat.mod_lt _ (by decide)), isCob_of_lt h, bitsOf, Nat.shiftRight_eq_div_pow, spOf]
  by_cases hd : w.toNat % 2 ^ 20 < 2 ^ 19
  · rw [if_pos hd, decide_eq_false (by omega)]; rfl
  · rw [if_neg hd, decide_eq_true (by omega)]; rfl

theorem srcOf_of_lt {tid : Nat} (h : tid < 6144) : srcOf tid = epThread tid 0 := by rw [srcOf, isCob_of_lt h]; rfl

/-! ### An operation that is launched (R104) -/

/-- The operation on its way. -/
def State.opFlight (s : State) (tid : Nat) (op : YarnOp) (rd : Nat) (blk : Bool) (m : Msg) (status : Option Nat) (post : Option (Nat × Nat)) :
    Flight :=
  { op := op, owner := some tid, gen := (s.thr tid).gen, rd := rd, blocking := blk, after := s.scratchBefore tid, msg := m, status := status,
    reply := false, post := post }

/-- The state with the operation on its way and its result pending. -/
def State.opAwaited (s : State) (tid : Nat) (rd : Nat) (f : Flight) : State := (s.launch f).modThr tid fun x => x.await rd

section launched
variable (s : State) {tid : Nat} (op : YarnOp) (rd : Nat) (blk : Bool) (m : Msg) (st : Option Nat) (post : Option (Nat × Nat))

theorem State.launchOp_blocking : s.launchOp tid op rd true m st post =
    ((s.opAwaited tid rd (s.opFlight tid op rd true m st post)).modThr tid fun x => { x with ywait := some m.id }).setTs tid tsYwait := rfl

theorem State.launchOp_yarn : (s.launchOp tid op rd blk m st post).yarn =
    { s.yarn with flights := s.yarn.flights ++ [s.opFlight tid op rd blk m st post] } := by
  cases blk with
  | false => rfl
  | true => rw [State.launchOp_blocking, State.setTs_yarn]; rfl

theorem State.opAwaited_yarnsOnly (f : Flight) : s.yarnsOnly (s.opAwaited tid rd f) := (s.yarnsOnly_refl.setFlights _).modThr _ _

theorem State.launchOp_yarnsOnly : s.yarnsOnly (s.launchOp tid op rd blk m st post) := by
  cases blk with
  | false => exact s.opAwaited_yarnsOnly rd _
  | true => rw [State.launchOp_blocking]; exact ((s.opAwaited_yarnsOnly rd _).modThr _ _).setTs _ _

theorem State.opAwaited_thr (f : Flight) : (s.opAwaited tid rd f).thr tid = (s.thr tid).await rd := State.thr_modThr_same _ _ _

theorem State.launchOp_thr : (s.launchOp tid op rd blk m st post).thr tid =
    { (s.thr tid).await rd with ywait := if blk then some m.id else ((s.thr tid).await rd).ywait } := by
  cases blk with
  | false => exact s.opAwaited_thr rd _
  | true => rw [State.launchOp_blocking, State.setTs_thr, State.thr_modThr_same, State.opAwaited_thr]; rfl

theorem State.opAwaited_thr_other (f : Flight) {u : Nat} (h : u ≠ tid) : (s.opAwaited tid rd f).thr u = s.thr u :=
  State.thr_modThr_other _ _ _ _ h

theorem State.launchOp_thr_other {u : Nat} (h : u ≠ tid) : (s.launchOp tid op rd blk m st post).thr u = s.thr u := by
  cases blk with
  | false => exact s.opAwaited_thr_other rd _ h
  | true => rw [State.launchOp_blocking, State.setTs_thr, State.thr_modThr_other _ _ _ _ h, State.opAwaited_thr_other _ _ _ h]

theorem State.launchOp_ts (h : tid < 6144) : (s.launchOp tid op rd blk m st post).ts tid = if blk then tsYwait else s.ts tid := by
  cases blk with
  | false => rfl
  | true => rw [State.launchOp_blocking, State.setTs_ts_same _ h (by decide)]; rfl

variable {s op rd blk m st post}

/-- What an instruction leaves that launches an operation from a state. -/
theorem State.obord_launch {s s0 : State} {i : Ob} (h : tid < 6144) (hi : s.MayIssue tid i) (ha : i.admitted = true)
    (hp : (s.spent tid).perform tid i = .go (s0.launchOp tid op rd blk m st post) none) :
    ∃ t, s.obord tid i = .next t ∧
      t.yarn = { s0.yarn with flights := s0.yarn.flights ++ [s0.opFlight tid op rd blk m st post] } ∧
      t.thr tid = { ((s0.thr tid).await rd).onward with ywait := if blk then some m.id else ((s0.thr tid).await rd).ywait } ∧
      (∀ u, u ≠ tid → t.thr u = s0.thr u) ∧ t.ts tid = (if blk then tsYwait else s0.ts tid) ∧ s0.yarnsOnly t := by
  refine ⟨_, State.obord_go hi ha hp, s0.launchOp_yarn op rd blk m st post, ?_, fun u hu => ?_, ?_, (s0.launchOp_yarnsOnly op rd blk m st post).modThr _ _⟩
  · rw [State.goOn_thr, State.launchOp_thr]; rfl
  · rw [State.goOn_thr_other _ hu, State.launchOp_thr_other _ _ _ _ _ _ _ hu]
  · rw [State.goOn_ts, State.launchOp_ts _ _ _ _ _ _ _ h]

end launched

theorem Thread.mem_await (x : Thread) {r : Nat} (h : r ≠ 0) : r ∈ (x.await r).pend := by simp [Thread.await, h]
@[simp] theorem Thread.await_regs (x : Thread) (r : Nat) : (x.await r).regs = x.regs := by unfold Thread.await; split <;> rfl
@[simp] theorem Thread.await_staging (x : Thread) (r : Nat) : (x.await r).staging = x.staging := by unfold Thread.await; split <;> rfl
@[simp] theorem Thread.await_resv (x : Thread) (r : Nat) : (x.await r).resv = x.resv := by unfold Thread.await; split <;> rfl

theorem State.spent_lmem (s : State) (tid : Nat) : (s.spent tid).lmem = s.lmem := by
  have e := congrArg State.lmem (s.spent_onlyMules tid)
  exact e

theorem State.yarnsOnly.lmem {s t : State} (h : s.yarnsOnly t) : t.lmem = s.lmem := by
  have e := congrArg State.lmem h
  exact e

/-! ### YSEND -/

/-- The message of a YSEND. -/
def State.sentMsg (s : State) (tid : Nat) (ra : Reg) (nm1 : BitVec 3) (tag : BitVec 6) : Msg :=
  { id := s.yarn.nextId, epoch := s.sendEpoch tid (s.reg tid ra), lenm1 := nm1.toNat, kind := .small, tag := tag.toNat, src := srcOf tid,
    dst := (s.reg tid ra).toNat % 2 ^ 20, words := (List.range (nm1.toNat + 1)).map (fun k => AMap.getD (s.thr tid).staging k 0#64),
    committed := true }

theorem State.yarnSend_eq (s : State) (tid : Nat) (rd ra : Reg) (nm1 : BitVec 3) (tag : BitVec 6) (blk : Bool) :
    s.yarnSend tid rd ra nm1 tag blk = .go (s.freshMsg.2.launchOp tid .send rd.toNat blk (s.sentMsg tid ra nm1 tag) none) none := rfl

theorem State.spent_sendEpoch (s : State) (tid u : Nat) (w : W64) : (s.spent tid).sendEpoch u w = s.sendEpoch u w := by
  simp only [State.sendEpoch, State.spent_rd]

theorem State.spent_sentMsg (s : State) (tid : Nat) (ra : Reg) (nm1 : BitVec 3) (tag : BitVec 6) :
    (s.spent tid).sentMsg tid ra nm1 tag = s.sentMsg tid ra nm1 tag := by
  simp only [State.sentMsg, State.spent_yarn, State.spent_sendEpoch, State.spent_reg, State.spent_thr]

/-- YSEND puts its message on its way and leaves its status pending. -/
theorem ysend_launched (s : State) {tid : Nat} (h : tid < 6144) {rd ra : Reg} {nm1 : BitVec 3} {tag : BitVec 6} {blk : Bool}
    (hi : s.MayIssue tid (.ysend rd ra nm1 tag blk)) : ∃ t f, exec (.ysend tid rd ra nm1 tag blk) s = .next t ∧
      t.yarn = { s.yarn with nextId := s.yarn.nextId + 1, flights := s.yarn.flights ++ [f] } ∧
      f.op = .send ∧ f.owner = some tid ∧ f.gen = (s.thr tid).gen ∧ f.rd = rd.toNat ∧ f.blocking = blk ∧ f.status = none ∧
      f.msg = s.sentMsg tid ra nm1 tag ∧ (rd ≠ 0 → rd.toNat ∈ (t.thr tid).pend) ∧ (t.thr tid).regs = (s.thr tid).regs ∧
      (t.thr tid).staging = (s.thr tid).staging ∧ t.ts tid = (if blk then tsYwait else tsRun) ∧ t.lmem = s.lmem ∧
      (∀ u, u ≠ tid → t.thr u = s.thr u) := by
  obtain ⟨t, ht, hyarn, hthr, hother, hts, hframe⟩ := State.obord_launch h hi rfl ((s.spent tid).yarnSend_eq tid rd ra nm1 tag blk)
  have hx : (s.spent tid).freshMsg.2.thr tid = (s.spent tid).thr tid := rfl
  rw [hx, s.spent_thr] at hthr
  refine ⟨t, (s.spent tid).freshMsg.2.opFlight tid .send rd.toNat blk ((s.spent tid).sentMsg tid ra nm1 tag) none none, ht, hyarn.trans ?_, rfl, rfl, ?_, rfl, rfl, rfl, s.spent_sentMsg tid ra nm1 tag, fun hr => ?_, ?_, ?_, ?_, ?_, fun u hu => ?_⟩
  · rw [State.freshMsg, State.spent_yarn]
  · show ((s.spent tid).thr tid).gen = _
    rw [s.spent_thr]
  · rw [hthr]; exact Thread.mem_await _ (Reg.toNat_ne_zero hr)
  · rw [hthr]; exact Thread.await_regs _ _
  · rw [hthr]; exact Thread.await_staging _ _
  · rw [hts, show (s.spent tid).freshMsg.2.ts tid = (s.spent tid).ts tid from rfl, State.spent_ts, hi.ts_run]
  · exact hframe.lmem.trans (s.spent_lmem tid)
  · exact (hother u hu).trans (s.spent_thr_other tid u hu)

/-! ### YRES -/

/-- The reservation that a YRES asks for. -/
def State.askedMsg (s : State) (tid : Nat) (ra : Reg) (lenm1 : Byte) (tag : BitVec 6) : Msg :=
  { id := s.yarn.nextId, epoch := s.sendEpoch tid (s.reg tid ra), lenm1 := lenm1.toNat, kind := .bulk, tag := tag.toNat, src := srcOf tid,
    dst := (s.reg tid ra).toNat % 2 ^ 20, words := List.replicate (lenm1.toNat + 1) 0#64, committed := false }

/-- The state in which a thread has asked for a reservation. -/
def State.asking (s : State) (tid : Nat) : State := s.freshMsg.2.modThr tid fun x => { x with resv := .asked s.yarn.nextId }

theorem State.yarnReserve_eq (s : State) (tid : Nat) (rd ra : Reg) (l : Byte) (tag : BitVec 6) (blk : Bool)
    (hr : (s.thr tid).resv = .none ∨ (s.thr tid).resv = .poisoned) :
    s.yarnReserve tid rd ra l tag blk = .go ((s.asking tid).launchOp tid .reserve rd.toNat blk (s.askedMsg tid ra l tag) none) none := by
  unfold State.yarnReserve
  rcases hr with hr | hr <;> rw [hr] <;> rfl

theorem State.spent_askedMsg (s : State) (tid : Nat) (ra : Reg) (l : Byte) (tag : BitVec 6) :
    (s.spent tid).askedMsg tid ra l tag = s.askedMsg tid ra l tag := by
  simp only [State.askedMsg, State.spent_yarn, State.spent_sendEpoch, State.spent_reg]

theorem State.asking_thr (s : State) (tid : Nat) : (s.asking tid).thr tid = { s.thr tid with resv := .asked s.yarn.nextId } :=
  State.thr_modThr_same _ _ _

/-- YRES asks for its reservation. -/
theorem yres_launched (s : State) {tid : Nat} (h : tid < 6144) {rd ra : Reg} {l : Byte} {tag : BitVec 6} {blk : Bool}
    (hi : s.MayIssue tid (.yres rd ra l tag blk)) (hr : (s.thr tid).resv = .none ∨ (s.thr tid).resv = .poisoned) :
    ∃ t f, exec (.yres tid rd ra l tag blk) s = .next t ∧
      t.yarn = { s.yarn with nextId := s.yarn.nextId + 1, flights := s.yarn.flights ++ [f] } ∧
      f.op = .reserve ∧ f.owner = some tid ∧ f.rd = rd.toNat ∧ f.blocking = blk ∧ f.status = none ∧
      f.msg = s.askedMsg tid ra l tag ∧ (t.thr tid).resv = .asked s.yarn.nextId ∧ t.ts tid = (if blk then tsYwait else tsRun) := by
  have hr' : ((s.spent tid).thr tid).resv = .none ∨ ((s.spent tid).thr tid).resv = .poisoned := by rwa [s.spent_thr]
  obtain ⟨t, ht, hyarn, hthr, -, hts, -⟩ := State.obord_launch h hi rfl ((s.spent tid).yarnReserve_eq tid rd ra l tag blk hr')
  refine ⟨t, ((s.spent tid).asking tid).opFlight tid .reserve rd.toNat blk ((s.spent tid).askedMsg tid ra l tag) none none, ht, hyarn.trans ?_, rfl, rfl, rfl, rfl, rfl, s.spent_askedMsg tid ra l tag, ?_, ?_⟩
  · rw [show ((s.spent tid).asking tid).yarn = (s.spent tid).freshMsg.2.yarn from rfl, State.freshMsg, State.spent_yarn]
  · rw [hthr, State.asking_thr, State.spent_yarn]; exact Thread.await_resv _ _
  · rw [hts, show ((s.spent tid).asking tid).ts tid = (s.spent tid).ts tid from rfl, State.spent_ts, hi.ts_run]

/-! ### YCOMMIT -/

/-- The message of an open reservation as it stands in its queue. -/
def State.openMsg (s : State) (tid id d : Nat) : Msg := ((s.queueAt d).find? (fun m => m.id == id)).getD
  { id := id, epoch := 0, lenm1 := 0, kind := .bulk, tag := 0, src := srcOf tid, dst := d, words := [], committed := false }

/-- YCOMMIT of an open reservation: the commit is on its way with the message as it stands in its queue. -/
theorem ycommit_launched (s : State) {tid : Nat} (h : tid < 6144) {rd : Reg} {id d since : Nat} (hi : s.MayIssue tid (.ycommit rd))
    (hr : (s.thr tid).resv = .opened id d since) :
    ∃ t f, exec (.ycommit tid rd) s = .next t ∧ t.yarn = { s.yarn with flights := s.yarn.flights ++ [f] } ∧ f.op = .commit ∧
      f.owner = some tid ∧ f.rd = rd.toNat ∧ f.status = none ∧ (t.thr tid).resv = .none ∧
      (∀ m, (s.queueAt d).find? (fun m => m.id == id) = some m → f.msg = m) := by
  have hp : (s.spent tid).perform tid (.ycommit rd) = .go (((s.spent tid).modThr tid fun x => { x with resv := .none }).launchOp tid .commit
      rd.toNat false (s.openMsg tid id d) none) none := by
    show (s.spent tid).yarnCommit tid rd = _
    rw [State.yarnCommit, s.spent_thr, hr]
    simp only [State.openMsg, State.spent_queueAt]
  obtain ⟨t, ht, hyarn, hthr, -, -, -⟩ := State.obord_launch h hi rfl hp
  refine ⟨t, ((s.spent tid).modThr tid fun x => { x with resv := .none }).opFlight tid .commit rd.toNat false (s.openMsg tid id d) none none, ht, hyarn.trans ?_, rfl, rfl, rfl, rfl, ?_, fun m hm => ?_⟩
  · rw [State.modThr_yarn, State.spent_yarn]
  · rw [hthr, State.thr_modThr_same]; exact Thread.await_resv _ _
  · exact congrArg (Option.getD · _) hm

/-! ### Instructions that change their own thread -/

/-- An instruction that changes its thread's record, whatever the count of slots, and goes on. -/
theorem State.modThr_threadTo (s : State) {tid : Nat} {f : Thread → Thread} {x : Thread}
    (hf : ∀ n, (f { s.thr tid with slots := n }).onward = { x with slots := n }) : s.threadTo (((s.spent tid).modThr tid f).goOn tid) tid x :=
  (s.threadTo_iff _ tid _).mpr ⟨((s.spent_threadOnly tid).modThr _).goOn, by rw [State.goOn_thr, State.thr_modThr_same, s.spent_thr tid, hf]⟩

/-- An instruction that changes nothing and goes on. -/
theorem State.goOn_threadTo (s : State) (tid : Nat) : s.threadTo ((s.spent tid).goOn tid) tid (s.thr tid).onward :=
  (s.threadTo_iff _ tid _).mpr ⟨(s.spent_threadOnly tid).goOn, by rw [State.goOn_thr, s.spent_thr tid]; rfl⟩

/-- YSTAGE writes its staging word. -/
theorem ystage_staged (s : State) {tid : Nat} {ra : Reg} {idx : BitVec 3} (hi : s.MayIssue tid (.ystage ra idx)) :
    ∃ t, exec (.ystage tid ra idx) s = .next t ∧
      s.threadTo t tid { (s.thr tid).onward with staging := AMap.setD 0 (s.thr tid).staging idx.toNat (s.reg tid ra) } :=
  ⟨_, State.obord_go hi rfl rfl, s.modThr_threadTo fun _ => by rw [State.spent_reg]; rfl⟩

/-- YCOMMIT of a poisoned reservation. -/
theorem ycommit_poisoned (s : State) {tid : Nat} {rd : Reg} (hi : s.MayIssue tid (.ycommit rd)) (hr : (s.thr tid).resv = .poisoned) :
    ∃ t, exec (.ycommit tid rd) s = .next t ∧ s.threadTo t tid { ((s.thr tid).setG rd.toNat 4).onward with resv := .none } := by
  have hp : (s.spent tid).perform tid (.ycommit rd) = .go (((s.spent tid).modThr tid fun x => { x with resv := .none }).modThr tid fun x =>
      x.setG rd.toNat 4) none := by
    show (s.spent tid).yarnCommit tid rd = _
    rw [State.yarnCommit, s.spent_thr, hr]; rfl
  refine ⟨_, State.obord_go hi rfl hp, (s.threadTo_iff _ tid _).mpr ⟨(((s.spent_threadOnly tid).modThr _).modThr _).goOn, ?_⟩⟩
  rw [State.goOn_thr, State.thr_modThr_same, State.thr_modThr_same, s.spent_thr]
  unfold Thread.setG
  split <;> rfl

/-! ### YPUT -/

theorem State.setQueue_queueAt_same (s : State) (ep : Nat) (q : List Msg) : (s.setQueue ep q).queueAt ep = q :=
  AMap.getD_setD_same _ _ _ _

theorem State.setQueue_queueAt_other (s : State) {ep e : Nat} (q : List Msg) (h : e ≠ ep) : (s.setQueue ep q).queueAt e = s.queueAt e :=
  AMap.getD_setD_other _ _ _ _ _ _ h

theorem State.setQueue_back (s : State) {y : Yarn} (ep : Nat) (q : List Msg) (h : s.yarn = y) : { s.setQueue ep q with yarn := y } = s := by
  subst h; rfl

@[simp] theorem State.goOn_queueAt (s : State) (tid ep : Nat) : (s.goOn tid).queueAt ep = s.queueAt ep := rfl

theorem find?_id_append {q1 q2 : List Msg} {m : Msg} (h : ∀ q ∈ q1, q.id ≠ m.id) : (q1 ++ m :: q2).find? (fun q => q.id == m.id) = some m := by
  rw [List.find?_append, List.find?_eq_none.mpr (fun q hq => by simpa using h q hq)]
  simp

theorem replaceMsg_of_ne {q : List Msg} {id : Nat} (f : Msg → Msg) (h : ∀ k ∈ q, k.id ≠ id) : replaceMsg q id f = q := by
  rw [replaceMsg, List.map_congr_left (fun k hk => if_neg (h k hk)), List.map_id']

theorem replaceMsg_append {q1 q2 : List Msg} {m : Msg} (f : Msg → Msg) (h : ∀ q ∈ q1 ++ q2, q.id ≠ m.id) :
    replaceMsg (q1 ++ m :: q2) m.id f = q1 ++ f m :: q2 := by
  have h1 := replaceMsg_of_ne f (fun k hk => h k (List.mem_append_left _ hk))
  have h2 := replaceMsg_of_ne f (fun k hk => h k (List.mem_append_right _ hk))
  rw [replaceMsg] at h1 h2 ⊢
  rw [List.map_append, List.map_cons, h1, h2, if_pos rfl]

/-- YPUT into an open reservation puts the word into its message. -/
theorem yput_put (s : State) {tid : Nat} {rd : Reg} {idx : Byte} {d since : Nat} {m : Msg} {q1 q2 : List Msg}
    (hi : s.MayIssue tid (.yput rd idx)) (hr : (s.thr tid).resv = .opened m.id d since) (hq : s.queueAt d = q1 ++ m :: q2)
    (hid : ∀ q ∈ q1 ++ q2, q.id ≠ m.id) (hlen : idx.toNat ≤ m.lenm1) :
    exec (.yput tid rd idx) s = .next (((s.spent tid).setQueue d (q1 ++ { m with words := m.words.set idx.toNat (s.reg tid rd) } :: q2)).goOn tid) := by
  refine State.obord_go hi rfl ?_
  show (s.spent tid).yarnPut tid rd idx = _
  have hf := find?_id_append (q2 := q2) fun q h => hid q (List.mem_append_left _ h)
  rw [State.yarnPut, s.spent_thr, hr]
  simp only [State.spent_queueAt, State.spent_reg, hq, hf, if_neg (Nat.not_lt.mpr hlen), replaceMsg_append _ hid]

/-- YPUT into a poisoned reservation is discarded. -/
theorem yput_poisoned (s : State) {tid : Nat} {rd : Reg} {idx : Byte} (hi : s.MayIssue tid (.yput rd idx))
    (hr : (s.thr tid).resv = .poisoned) : exec (.yput tid rd idx) s = .next ((s.spent tid).goOn tid) := by
  refine State.obord_go hi rfl ?_
  show (s.spent tid).yarnPut tid rd idx = _
  rw [State.yarnPut, s.spent_thr, hr]

/-! ### YRECV -/

theorem State.recvHead_of_lt (s : State) {tid : Nat} (h : tid < 6144) (ch : Nat) :
    s.recvHead tid ch = (epThread tid ch, s.headAt (epThread tid ch)) := by rw [State.recvHead, isCob_of_lt h]; rfl

/-- YRECV of a channel with no committed message at its head. -/
theorem yrecv_empty (s : State) {tid : Nat} (h : tid < 6144) {rd ra : Reg} {ch : BitVec 2} (hh : s.headAt (epThread tid ch.toNat) = none)
    (hi : s.MayIssue tid (.yrecv rd ra ch)) : exec (.yrecv tid rd ra ch) s = .next (s.wrote tid rd 0) := by
  refine State.obord_wrote hi rfl ?_
  show (s.spent tid).yarnRecv tid rd ra ch = _
  rw [State.yarnRecv, State.recvHead_of_lt _ h, State.spent_headAt, hh]

/-- The state in which a thread has taken a message into its slice, before its header is returned. -/
def State.received (s : State) (tid ep a : Nat) (m : Msg) (q : List Msg) : State := (s.setQueue ep q).writeSlice tid a (bytesOf m.words)

/-- The state in which it has the header and is kept until a cycle. -/
def State.took (s : State) (tid : Nat) (rd : Reg) (v : W64) (ready : Nat) : State :=
  ((s.modThr tid fun x => { x with readyAt := ready }).modThr tid fun x => x.setG rd.toNat v).goOn tid

section took
variable (s : State) (tid ep a : Nat) (m : Msg) (q : List Msg) (rd : Reg) (v : W64) (ready : Nat)

theorem State.received_queueAt_same : (s.received tid ep a m q).queueAt ep = q := s.setQueue_queueAt_same ep q
theorem State.received_queueAt_other {e : Nat} (h : e ≠ ep) : (s.received tid ep a m q).queueAt e = s.queueAt e := s.setQueue_queueAt_other q h
theorem State.received_lmem : (s.received tid ep a m q).lmem = Memory.write s.lmem (sliceAt tid a) (bytesOf m.words) := rfl
theorem State.took_queueAt (e : Nat) : (s.took tid rd v ready).queueAt e = s.queueAt e := rfl
theorem State.took_lmem : (s.took tid rd v ready).lmem = s.lmem := rfl

theorem State.received_took_back {l : Memory} {y : Yarn} (hl : s.lmem = l) (hy : s.yarn = y) :
    { (s.received tid ep a m q).took tid rd v ready with lmem := l, yarn := y } = s.took tid rd v ready := by subst hl hy; rfl

theorem State.took_threadTo : s.threadTo ((s.spent tid).took tid rd v ready) tid { ((s.thr tid).setG rd.toNat v).onward with readyAt := ready } := by
  refine (s.threadTo_iff _ tid _).mpr ⟨(((s.spent_threadOnly tid).modThr _).modThr _).goOn, ?_⟩
  rw [State.took, State.goOn_thr, State.thr_modThr_same, State.thr_modThr_same, s.spent_thr]
  unfold Thread.setG
  split <;> rfl

end took

theorem filter_id_cons {m : Msg} {q : List Msg} (h : ∀ k ∈ q, k.id ≠ m.id) : (m :: q).filter (fun k => k.id != m.id) = q := by
  rw [List.filter_cons_of_neg (by simp), List.filter_eq_self.mpr (fun k hk => by simpa using h k hk)]

/-- YRECV takes the message at the head of its channel. -/
theorem yrecv_takes (s : State) {tid : Nat} (h : tid < 6144) {rd ra : Reg} {ch : BitVec 2} {m : Msg} {q : List Msg}
    (hq : s.queueAt (epThread tid ch.toNat) = m :: q) (hm : m.committed = true) (hid : ∀ k ∈ q, k.id ≠ m.id)
    (hin : (s.reg tid ra).toNat + 8 * (m.lenm1 + 1) ≤ 0x2000) (hal : (s.reg tid ra).toNat % 8 = 0) (hi : s.MayIssue tid (.yrecv rd ra ch)) :
    exec (.yrecv tid rd ra ch) s = .next (((s.spent tid).received tid (epThread tid ch.toNat) (s.reg tid ra).toNat m q).took tid rd m.header
      (s.clk.cycles + (m.lenm1 + 2) / 2)) := by
  refine State.obord_go hi rfl ?_
  show (s.spent tid).yarnRecv tid rd ra ch = _
  have hhead : s.headAt (epThread tid ch.toNat) = some m := by rw [State.headAt, hq]; exact if_pos hm
  have hclk : (s.spent tid).clk = s.clk := by
    have e := congrArg State.clk (s.spent_onlyMules tid)
    exact e
  rw [State.yarnRecv, State.recvHead_of_lt _ h, State.spent_headAt, hhead, isCob_of_lt h, State.spent_reg, ← hclk]
  simp only [State.spent_queueAt, hq, filter_id_cons hid]
  exact (if_neg (Nat.not_lt.mpr hin)).trans (if_neg (by simpa using hal))

/-! ### YNOTE -/

/-- The word of a notice: its fields side by side. -/
theorem noteWord_eq (o : Option Notice) : ∃ v, noteWord o = BitVec.ofNat 64 v ∧ (o = none → v = 0) ∧
    (∀ n, o = some n → n.status < 2 ^ 8 → n.count < 2 ^ 8 → n.epoch < 2 ^ 8 → n.tag < 2 ^ 6 →
      v = n.status + 2 ^ 8 * n.count + 2 ^ 16 * n.epoch + 2 ^ 24 * n.tag + 2 ^ 30 * n.dst) := by
  have or_shift (a b k : Nat) (h : a < 2 ^ k) : a ||| b <<< k = a + 2 ^ k * b := by
    rw [Nat.or_comm, ← Nat.shiftLeft_add_eq_or_of_lt h, Nat.shiftLeft_eq, Nat.add_comm, Nat.mul_comm]
  cases o with
  | none => exact ⟨0, rfl, fun _ => rfl, fun n hn => nomatch hn⟩
  | some n =>
    refine ⟨_, rfl, fun h => (nomatch h), ?_⟩
    rintro _ ⟨⟩ hst hc he ht
    rw [or_shift _ _ 8 hst, or_shift _ _ 16 (by omega), or_shift _ _ 24 (by omega), or_shift _ _ 30 (by omega)]

/-- YNOTE returns the notice and clears it. -/
theorem ynote_threadTo (s : State) {tid : Nat} {rd : Reg} (hi : s.MayIssue tid (.ynote rd)) : ∃ t, exec (.ynote tid rd) s = .next t ∧
    s.threadTo t tid { ((s.thr tid).setG rd.toNat (noteWord (s.thr tid).notice)).onward with notice := none } := by
  refine ⟨_, State.obord_go hi rfl rfl, (s.threadTo_iff _ tid _).mpr ⟨(((s.spent_threadOnly tid).modThr _).modThr _).goOn, ?_⟩⟩
  rw [State.goOn_thr, State.thr_modThr_same, State.thr_modThr_same, s.spent_thr]
  unfold Thread.setG
  split <;> rfl

end Sys2Proof.Machine

open Sys2Proof Sys2Proof.Machine

/-- Settles O23: each yarn instruction by what it launches, puts, takes or clears. -/
theorem messagesOfThreads : Obligations.MessagesOfThreads := by
  rintro s tid rd ra x dst h rfl rfl
  have hepoch : s.sendEpoch tid (s.reg tid ra) = _ := s.sendEpoch_of_lt h _
  refine ⟨fun idx hi => ystage_staged s hi, ?_, ?_, ?_, ?_, fun hr hi => ycommit_poisoned s hi hr, ?_, fun ch hh hi => yrecv_empty s h hh hi, ?_, ?_⟩
  · intro nm1 tag blk hi
    obtain ⟨t, f, ht, hyarn, hop, howner, hgen, hrd, hblk, hst, hmsg, hpend, hregs, hstag, hts, hlmem, hother⟩ := ysend_launched s h hi
    refine ⟨t, f, ht, by rw [hyarn], hop, howner, hgen, hrd, hblk, hst, ?_, ?_, ?_, ?_, ?_, ?_, ?_, hpend, hregs, hstag, hts,
      by rw [hyarn], hlmem, hother⟩ <;> rw [hmsg]
    · rfl
    · rfl
    · rfl
    · exact srcOf_of_lt h
    · rfl
    · rfl
    · exact hepoch
  · intro l tag blk hi hr
    obtain ⟨t, f, ht, hyarn, hop, howner, hrd, hblk, hst, hmsg, hresv, hts⟩ := yres_launched s h hi hr
    refine ⟨t, f, ht, by rw [hyarn], hop, howner, hrd, hblk, hst, ?_, ?_, ?_, ?_, ?_, ?_, ?_, ?_, hts, by rw [hyarn]⟩ <;>
      rw [hmsg]
    · rfl
    · rfl
    · exact srcOf_of_lt h
    · rfl
    · rfl
    · rfl
    · exact hepoch
    · exact hresv
  · rintro idx id since d m q1 q2 hr hq rfl hid hlen hi
    refine ⟨_, yput_put s hi hr hq hid hlen, State.setQueue_queueAt_same _ _ _, fun e he => ?_, ?_⟩
    · rw [State.goOn_queueAt, State.setQueue_queueAt_other _ _ he, State.spent_queueAt]
    · have hback := State.goOn_threadTo s tid
      rw [← (s.spent tid).setQueue_back d _ (s.spent_yarn tid)] at hback
      exact hback
  · exact fun idx hr hi => ⟨_, yput_poisoned s hi hr, s.goOn_threadTo tid⟩
  · intro id d since hr hi
    obtain ⟨t, f, ht, hyarn, hop, howner, hrd, hst, hresv, hmsg⟩ := ycommit_launched s h hi hr
    exact ⟨t, f, ht, by rw [hyarn], hop, howner, hrd, hst, hresv, by rw [hyarn], hmsg⟩
  · intro ch m q hq hm hid hin hal hi
    refine ⟨_, yrecv_takes s h hq hm hid hin hal hi, ?_, fun e he => ?_, ?_, ?_⟩
    · rw [State.took_queueAt, State.received_queueAt_same]
    · rw [State.took_queueAt, State.received_queueAt_other _ _ _ _ _ _ he, State.spent_queueAt]
    · rw [State.took_lmem, State.received_lmem, s.spent_lmem]; rfl
    · rw [State.received_took_back _ _ _ _ _ _ _ _ _ (s.spent_lmem tid) (s.spent_yarn tid)]
      exact s.took_threadTo tid rd m.header _
  · intro hi
    obtain ⟨t, ht, hto⟩ := ynote_threadTo s hi
    obtain ⟨v, hv, hnone, hsome⟩ := noteWord_eq (s.thr tid).notice
    rw [hv] at hto
    exact ⟨t, v, ht, hto, hnone, fun n hn hst hc he htag _ => hsome n hn hst hc he htag⟩
end

section
/-! Frames: what the closing of a reservation, the telling of a sender and the slow path leave unchanged (R70 to R74, R160). -/

namespace Sys2Proof.Machine

open Sys2Proof

/-! ### Register words that are kept -/

/-- From `s` to `t` the register words at the addresses of a set keep their values. -/
def State.wordsKept (P : Nat → Prop) (s t : State) : Prop := ∀ a, P a → t.word a = s.word a

section words
variable {P : Nat → Prop} {s t u : State}

theorem State.wordsKept_refl (s : State) : State.wordsKept P s s := fun _ _ => rfl
theorem State.wordsKept.trans (h : State.wordsKept P s t) (h' : State.wordsKept P t u) : State.wordsKept P s u := fun a ha => (h' a ha).trans (h a ha)
theorem State.wordsKept.rd (h : State.wordsKept P s t) {f : FRef} (hf : P f.addr) : t.rd f = s.rd f := by rw [State.rd, State.rd, h _ hf]
theorem State.wordsKept.of_csr (h : State.wordsKept P s t) (hc : u.csr = t.csr) : State.wordsKept P s u :=
  h.trans fun a _ => State.word_congr hc a
theorem State.wordsKept.setWord (h : State.wordsKept P s t) {a : Nat} (ha : ¬ P a) (v : Nat) : State.wordsKept P s (t.setWord a v) :=
  h.trans fun _ hb => State.word_setWord_other _ _ _ _ fun hab => ha (hab ▸ hb)
theorem State.wordsKept.wr (h : State.wordsKept P s t) {f : FRef} (hf : ¬ P f.addr) (v : Nat) : State.wordsKept P s (t.wr f v) := h.setWord hf _
theorem State.wordsKept.count (h : State.wordsKept P s t) {f : FRef} (hf : ¬ P f.addr) (n : Nat) : State.wordsKept P s (t.count f n) := h.wr hf _
theorem State.wordsKept.event (h : State.wordsKept P s t) {q : FifoRef} (hq : ¬ P q.addr) (e : Nat) : State.wordsKept P s (t.event q e) := by
  rw [State.event]
  split
  · exact (h.of_csr rfl).setWord hq _
  · exact (h.of_csr rfl).setWord hq _

end words

/-- The registers of a mule that count what became of messages: STALE_DISCARD, REFUSED and POISONED. -/
def messageCounter (a : Nat) : Prop := ∃ m, a = 0x203000 + 0x10000 * m ∨ a = 0x203004 + 0x10000 * m ∨ a = 0x203008 + 0x10000 * m

/-- The registers of the stitch and the mules but their counters of messages. -/
def muleWord (a : Nat) : Prop := a < 0x600000 ∧ ¬ messageCounter a

theorem not_muleWord_of_ge {a : Nat} (h : 0x600000 ≤ a) : ¬ muleWord a := fun ha => absurd ha.1 (by omega)
theorem not_muleWord_stale (m : Nat) : ¬ muleWord (F.MULE_STAT.STALE_DISCARD.CNT m).addr := fun h => h.2 ⟨m, .inl rfl⟩
theorem not_muleWord_refused (m : Nat) : ¬ muleWord (F.MULE_STAT.REFUSED.CNT m).addr := fun h => h.2 ⟨m, .inr (.inl rfl)⟩
theorem not_muleWord_poisoned (m : Nat) : ¬ muleWord (F.MULE_STAT.POISONED.CNT m).addr := fun h => h.2 ⟨m, .inr (.inr rfl)⟩

/-! ### Senders told and reservations closed -/

/-- A thread's record but for its reservation, its notice and its events. -/
def Thread.notedAs (x y : Thread) : Prop := y = { x with resv := y.resv, notice := y.notice, events := y.events }

/-- From `s` to `t` messages were discarded, refused or poisoned, and nothing else happened: the yarns, the counters of messages, and of
each thread its reservation, notice and events may have changed. -/
structure State.told (s t : State) : Prop where
  only : s.yarnsOnly t
  words : State.wordsKept muleWord s t
  threads : ∀ u, (s.thr u).notedAs (t.thr u)
  mulesBut : { t.mules with threads := s.mules.threads } = s.mules

theorem Thread.notedAs.trans {x y z : Thread} (h : x.notedAs y) (h' : y.notedAs z) : x.notedAs z := by
  unfold Thread.notedAs at *; rw [h', h]

section told
variable {s t u : State}

theorem State.told_refl (s : State) : s.told s := ⟨rfl, s.wordsKept_refl, fun _ => rfl, rfl⟩

theorem State.told.trans (h : s.told t) (h' : t.told u) : s.told u :=
  ⟨h.only.trans h'.only, h.words.trans h'.words, fun v => (h.threads v).trans (h'.threads v), by rw [← h.mulesBut, ← h'.mulesBut]⟩

theorem State.told.count (h : s.told t) {f : FRef} (hf : ¬ muleWord f.addr) (n : Nat) : s.told (t.count f n) :=
  ⟨h.only.count f n, h.words.count hf n, h.threads, h.mulesBut⟩

theorem State.told.setQueue (h : s.told t) (ep : Nat) (q : List Msg) : s.told (t.setQueue ep q) :=
  ⟨h.only.setQueue ep q, h.words, h.threads, h.mulesBut⟩

theorem State.told.modThr (h : s.told t) (tid : Nat) {f : Thread → Thread} (hf : (t.thr tid).notedAs (f (t.thr tid))) : s.told (t.modThr tid f) := by
  refine ⟨h.only.modThr tid f, h.words, fun v => ?_, h.mulesBut⟩
  by_cases hv : v = tid
  · subst hv; rw [State.thr_modThr_same]; exact (h.threads v).trans hf
  · rw [State.thr_modThr_other _ _ _ _ hv]; exact h.threads v

theorem State.told.raise (h : s.told t) (tid n : Nat) : s.told (t.raise tid n) := h.modThr tid rfl

theorem Thread.note_notedAs (x : Thread) (status dst tag epoch : Nat) : x.notedAs (x.note status dst tag epoch) := by
  unfold Thread.note Thread.notedAs
  split <;> rfl

theorem State.told.notify (h : s.told t) (src status dst tag epoch : Nat) : s.told (t.notify src status dst tag epoch) := by
  have hnote := h.modThr (f := fun x => x.note status dst tag epoch) (epTid src) ((t.thr (epTid src)).note_notedAs status dst tag epoch)
  unfold State.notify
  split
  · exact h
  · split
    · exact hnote.raise _ _
    · exact (hnote.raise _ _).count (not_muleWord_refused _) 1

theorem State.told.discardStale (h : s.told t) (m : Msg) (epoch : Nat) : s.told (t.discardStale m epoch) :=
  (h.count (not_muleWord_stale _) 1).notify _ _ _ _ _

theorem State.closeResv_told (s : State) (dst id : Nat) (kind : MsgKind) : s.told (s.closeResv dst id kind).2 := by
  unfold State.closeResv
  split
  · exact s.told_refl
  · split
    · exact (s.told_refl.setQueue _ _).discardStale _ _
    · exact s.told_refl.setQueue _ _

theorem State.poison_told (s : State) (tid : Nat) : s.told (s.poison tid) := by
  unfold State.poison
  split
  · exact ((s.closeResv_told _ _ .poisoned).modThr (f := fun x => { x with resv := .poisoned }) tid rfl).count (not_muleWord_poisoned _) 1
  · exact s.told_refl.modThr (f := fun x => { x with resv := .stopped _ }) tid rfl
  · exact s.told_refl

end told

/-! ### The slow path -/

/-- From `s` to `t` nothing changes of the mules, nor of their registers but the counters of messages. -/
structure State.besideMules (s t : State) : Prop where
  mules : t.mules = s.mules
  words : State.wordsKept muleWord s t

section beside
variable {s t u : State}

theorem State.besideMules_refl (s : State) : s.besideMules s := ⟨rfl, s.wordsKept_refl⟩

theorem State.besideMules.trans (h : s.besideMules t) (h' : t.besideMules u) : s.besideMules u :=
  ⟨h'.mules.trans h.mules, h.words.trans h'.words⟩

theorem State.besideMules.thr (h : s.besideMules t) (u : Nat) : t.thr u = s.thr u := by rw [State.thr, h.mules]; rfl

/-- A change of neither the mules nor the registers. -/
theorem State.besideMules.of_eq (h : s.besideMules t) (hm : u.mules = t.mules) (hc : u.csr = t.csr) : s.besideMules u :=
  ⟨hm.trans h.mules, h.words.of_csr hc⟩

theorem State.besideMules.wr (h : s.besideMules t) {f : FRef} (hf : ¬ muleWord f.addr) (v : Nat) : s.besideMules (t.wr f v) :=
  ⟨h.mules, h.words.wr hf v⟩

theorem State.besideMules.count (h : s.besideMules t) {f : FRef} (hf : ¬ muleWord f.addr) (n : Nat) : s.besideMules (t.count f n) := h.wr hf _

theorem State.besideMules.event (h : s.besideMules t) {q : FifoRef} (hq : ¬ muleWord q.addr) (e : Nat) : s.besideMules (t.event q e) :=
  ⟨(State.event_mules _ _ _).trans h.mules, h.words.event hq e⟩

theorem State.besideMules.foldl {α : Type} {f : State → α → State} (hf : ∀ (s : State) a, s.besideMules (f s a)) (l : List α) (h : s.besideMules t) :
    s.besideMules (l.foldl f t) := by
  induction l generalizing t with
  | nil => exact h
  | cons a l ih => exact ih (h.trans (hf t a))

theorem not_muleWord_bobbinEvq : ¬ muleWord bobbinEvq.addr := not_muleWord_of_ge (by decide)
theorem not_muleWord_checkFail : ¬ muleWord F.BOBBIN_STAT.CHECK_FAIL.CNT.addr := not_muleWord_of_ge (by decide)
theorem not_muleWord_frees : ¬ muleWord F.BOBBIN_STAT.FREES.CNT.addr := not_muleWord_of_ge (by decide)
theorem not_muleWord_pool (hc : Nat) : ¬ muleWord (F.BOBBIN_POOL.FREE hc).addr := not_muleWord_of_ge (by simp only [F.BOBBIN_POOL.FREE]; omega)
theorem not_muleWord_inUse (h t c : Nat) : ¬ muleWord (inUseF h t c).addr := by
  refine not_muleWord_of_ge ?_
  unfold inUseF
  split
  · simp only [F.BOBBIN_PART_W8.IN_USE_A]; omega
  · simp only [F.BOBBIN_PART_W8.IN_USE_B]; omega
theorem not_muleWord_level (h t c : Nat) : ¬ muleWord (levelF h t c).addr := by
  refine not_muleWord_of_ge ?_
  unfold levelF
  split
  · simp only [F.BOBBIN_PART_W8.LEVEL_A]; omega
  · simp only [F.BOBBIN_PART_W8.LEVEL_B]; omega

theorem State.besideMules.leaveMarks (h : s.besideMules t) (hh tn c : Nat) : s.besideMules (t.leaveMarks hh tn c) := by
  exact iteInduction (motive := s.besideMules) (fun _ => h) fun _ =>
    ((h.of_eq (u := t.setMarks _ _ _ _) rfl rfl).event not_muleWord_bobbinEvq _).wr (not_muleWord_level _ _ _) _

theorem State.releaseBobbin_besideMules (s : State) (handle : Nat) : s.besideMules (s.releaseBobbin handle) := by
  unfold State.releaseBobbin
  refine (State.besideMules.count (State.besideMules.wr (State.besideMules.wr ?_ (not_muleWord_inUse _ _ _) _) (not_muleWord_pool _) _)
    not_muleWord_frees 1).leaveMarks _ _ _
  split <;> split <;> exact s.besideMules_refl.of_eq rfl rfl

theorem State.besideMules.checkFailed (h : s.besideMules t) (hh handle kind : Nat) : s.besideMules (t.checkFailed hh handle kind) :=
  (h.count not_muleWord_checkFail 1).event not_muleWord_bobbinEvq _

theorem State.dropBobbin_besideMules (s : State) (handle : Nat) : s.besideMules (s.dropBobbin handle) := by
  unfold State.dropBobbin State.storeOne
  simp only []
  split_ifs
  exacts [s.besideMules_refl.checkFailed _ _ 6, s.besideMules_refl, s.besideMules_refl.checkFailed _ _ 7, s.besideMules_refl.checkFailed _ _ 5,
    s.besideMules_refl, s.releaseBobbin_besideMules handle, s.besideMules_refl.of_eq rfl rfl, s.releaseBobbin_besideMules handle]

theorem State.besideMules.dropChain (h : s.besideMules t) (handle : Nat) : s.besideMules (t.dropChain handle) :=
  h.foldl (fun s b => s.dropBobbin_besideMules b) _

theorem State.besideMules.ownChain (h : s.besideMules t) (handle owner : Nat) : s.besideMules (t.ownChain handle owner) :=
  h.foldl (f := fun s b => s.setDesc b { s.desc b with owner := ownerEp owner }) (fun s _ => s.besideMules_refl.of_eq rfl rfl) _

theorem State.besideMules.dropPacket (h : s.besideMules t) (id : Nat) : s.besideMules (t.dropPacket id) := by
  unfold State.dropPacket
  split
  · exact (h.dropChain _).of_eq rfl rfl
  · exact h

theorem epIsUnit_epUnit (n i : Nat) : epIsUnit (epUnit n i) = true := by
  rw [epIsUnit, epUnit, Nat.testBit_or, Nat.testBit_or, Nat.testBit_shiftLeft]
  rfl

/-- What a fixed unit sends leaves the mules alone, whatever it meets. -/
theorem State.besideMules.trySend (h : s.besideMules t) {src : Nat} (hsrc : epIsUnit src = true) (dst epoch tag : Nat) (words : List W64)
    (reply : Bool) : s.besideMules (t.trySend src dst epoch tag words reply).2 := by
  have hfresh : s.besideMules t.freshMsg.2 := h.of_eq rfl rfl
  unfold State.trySend
  simp only []
  split
  · exact hfresh.of_eq rfl rfl
  · rw [State.discardStale, State.notify, if_pos hsrc]
    exact hfresh.count (not_muleWord_stale _) 1
  · exact hfresh

theorem not_muleWord_spSent : ¬ muleWord F.EDIT_STAT.SP_SENT.CNT.addr := not_muleWord_of_ge (by decide)
theorem not_muleWord_spDrop : ¬ muleWord F.EDIT_STAT.SP_DROP.CNT.addr := not_muleWord_of_ge (by decide)

theorem State.sendPacket_besideMules (s : State) (id ep epoch tag origin status detail : Nat) :
    s.besideMules (s.sendPacket id ep epoch tag origin status detail) := by
  unfold State.sendPacket
  split
  · exact s.besideMules_refl
  next p _ =>
    have hsend := s.besideMules_refl.trySend (src := editorEp p.half) (epIsUnit_epUnit 4 p.half) ep epoch tag
      (p.slowWords origin status detail) false
    generalize s.trySend (editorEp p.half) ep epoch tag (p.slowWords origin status detail) false = r at hsend ⊢
    split
    · exact ((hsend.count not_muleWord_spSent 1).ownChain _ _).of_eq rfl rfl
    · exact (hsend.count not_muleWord_spDrop 1).dropPacket _

theorem State.slowPath_besideMules (s : State) (id origin status detail : Nat) : s.besideMules (s.slowPath id origin status detail) := by
  unfold State.slowPath
  split
  · exact s.besideMules_refl
  · split
    · exact s.sendPacket_besideMules _ _ _ _ _ _ _
    · exact (s.besideMules_refl.count not_muleWord_spDrop 1).dropPacket _

/-- The work of a stopped thread goes its way beside the mules. -/
theorem State.workSlow_besideMules (s : State) (mule : Nat) (w : Work) (status detail : Nat) : s.besideMules (s.workSlow mule w status detail) := by
  unfold State.workSlow
  split
  · exact s.slowPath_besideMules _ _ _ _
  · refine iteInduction (motive := s.besideMules) (fun _ => ?_) (fun _ => s.besideMules_refl.count not_muleWord_spDrop 1)
    have hsend := s.besideMules_refl.trySend (src := editorEp (halfOfMule mule)) (epIsUnit_epUnit 4 _) (s.rd (F.EDIT_SP_DST.ENDPOINT (halfOfMule mule)))
      (s.rd (F.EDIT_SP_DST.EPOCH (halfOfMule mule))) 0x3E (s.itemWords w status detail) false
    generalize s.trySend (editorEp (halfOfMule mule)) _ _ _ _ _ = r at hsend ⊢
    split
    · exact hsend.count not_muleWord_spSent 1
    · exact hsend.count not_muleWord_spDrop 1

end beside

end Sys2Proof.Machine
end

section
/-! A fault of a thread, stage by stage: its record, the end of its program, the way of its work, and what T0 and the Cobbler are shown
(R81, R82, R126, R127; O28). -/

namespace Sys2Proof.Machine

open Sys2Proof

theorem or_shiftLeft_of_lt {a k : Nat} (b : Nat) (h : a < 2 ^ k) : a ||| b <<< k = a + 2 ^ k * b := by
  rw [Nat.or_comm, ← Nat.shiftLeft_add_eq_or_of_lt h, Nat.shiftLeft_eq, Nat.add_comm, Nat.mul_comm]

/-! ### The stages -/

/-- The state in which the fault is recorded and counted. -/
def State.faultRecorded (s : State) (tid : Nat) (instr : W32) (fi : FaultInfo) (addr : Nat) : State :=
  let r := (s.latchFault tid instr fi addr).count (F.MULE_STAT.FAULTS.CNT (muleOf (spOf tid))) 1
  if fi.cause = fcOverrun then r.count (F.MULE_STAT.OVERRUNS.CNT (muleOf (spOf tid))) 1 else r

/-- The state in which the faulted thread's program has ended. -/
def State.faultStopped (s : State) (tid : Nat) : State :=
  if s.bounded tid then s.endProgram tid else (s.poison tid).modThr tid (fun x => { x with loops := [], lkwStall := none, ywait := none })

/-- The state in which the thread stands in FAULT and T0 has been told. -/
def State.faultRaised (s : State) (tid : Nat) : State := (s.setTs tid tsFault).raise (tidOf (spOf tid) 0) evFault

/-- The state in which a fault of T0 has been shown to the Cobbler. -/
def State.t0Reported (s : State) (tid cause : Nat) : State :=
  ((s.wr (F.MULE_EVENT.T0_FAULT (muleOf (spOf tid))) 1).modSpindle (spOf tid) (fun x => { x with t0Fault := true })).event cobblerEvq
    (2 <<< 59 ||| muleOf (spOf tid) <<< 42 ||| logOf (spOf tid) <<< 38 ||| cause)

/-- The last stage, from the state in which the work has been handed on. -/
def State.faultShown (s : State) (tid cause : Nat) : State :=
  if tOf tid = 0 then (s.faultRaised tid).t0Reported tid cause else s.faultRaised tid

theorem State.takeFault_eq (s : State) {tid : Nat} (h : tid < 6144) (instr : W32) (fi : FaultInfo) (addr : Nat) : s.takeFault tid instr fi addr =
    let p := (s.faultRecorded tid instr fi addr).faultStopped tid
    (if fi.cause = fcOverrun then p.handOn tid stOverrun fi.detail else p.handOn tid stDeviceError fi.cause).faultShown tid fi.cause := by
  rw [State.takeFault, isCob_of_lt h]; rfl

/-! ### The record (Table 2.9) -/

theorem muleWord_of_lt {a : Nat} (hlt : a < 0x600000) (h : a % 0x10000 < 0x3000 ∨ 0x3010 ≤ a % 0x10000) : muleWord a := by
  refine ⟨hlt, ?_⟩
  rintro ⟨m, hm | hm | hm⟩ <;> omega

theorem muleWord_roleF {tid : Nat} (h : tid < 6144) : muleWord (roleF (spOf tid)).addr := by
  apply muleWord_of_lt <;> simp only [roleF, F.MULE_ROLE.ROLE, muleOf, spOf, logOf] <;> omega

section record
variable (s : State) {tid : Nat} (instr : W32) (fi : FaultInfo) (addr : Nat)

/-- The fields that the record of a fault and its counters write. -/
abbrev faultFields (tid : Nat) : List FRef :=
  [faultF tid 0, faultF tid 1, faultF tid 2, faultF tid 3, F.MULE_STAT.FAULTS.CNT (muleOf (spOf tid)), F.MULE_STAT.OVERRUNS.CNT (muleOf (spOf tid))]

theorem faultF_hi (tid w : Nat) : (faultF tid w).hi < 64 := by simp only [faultF, F.MULE_FAULT.W]; omega

theorem faultF_apart {tid v w : Nat} (h : v ≠ w) : (faultF tid v).apart (faultF tid w) = true := by
  simp only [FRef.apart_iff, faultF, F.MULE_FAULT.W]; omega

theorem faults_apart_faultF (tid w : Nat) (_h : w < 4) : (F.MULE_STAT.FAULTS.CNT (muleOf (spOf tid))).apart (faultF tid w) = true := by
  simp only [FRef.apart_iff, faultF, F.MULE_FAULT.W, F.MULE_STAT.FAULTS.CNT, logOf, tOf]; omega

theorem overruns_apart_faultF (tid w : Nat) (_h : w < 4) : (F.MULE_STAT.OVERRUNS.CNT (muleOf (spOf tid))).apart (faultF tid w) = true := by
  simp only [FRef.apart_iff, faultF, F.MULE_FAULT.W, F.MULE_STAT.OVERRUNS.CNT, logOf, tOf]; omega

theorem faultF_apart_faults (tid w : Nat) (_h : w < 4) : (faultF tid w).apart (F.MULE_STAT.FAULTS.CNT (muleOf (spOf tid))) = true := by
  simp only [FRef.apart_iff, faultF, F.MULE_FAULT.W, F.MULE_STAT.FAULTS.CNT, logOf, tOf]; omega

theorem faultF_apart_overruns (tid w : Nat) (_h : w < 4) : (faultF tid w).apart (F.MULE_STAT.OVERRUNS.CNT (muleOf (spOf tid))) = true := by
  simp only [FRef.apart_iff, faultF, F.MULE_FAULT.W, F.MULE_STAT.OVERRUNS.CNT, logOf, tOf]; omega

theorem faults_apart_overruns (m : Nat) : (F.MULE_STAT.FAULTS.CNT m).apart (F.MULE_STAT.OVERRUNS.CNT m) = true := by
  simp only [FRef.apart_iff, F.MULE_STAT.OVERRUNS.CNT, F.MULE_STAT.FAULTS.CNT]; omega

theorem overruns_apart_faults (m : Nat) : (F.MULE_STAT.OVERRUNS.CNT m).apart (F.MULE_STAT.FAULTS.CNT m) = true := by
  simp only [FRef.apart_iff, F.MULE_STAT.OVERRUNS.CNT, F.MULE_STAT.FAULTS.CNT]; omega

/-- The words of the record. -/
def State.faultWord (s : State) (tid : Nat) (instr : W32) (fi : FaultInfo) (addr : Nat) : Nat → Nat
  | 0 => fi.cause ||| 1 <<< 8 ||| (s.thr tid).bank <<< 9 ||| ((s.thr tid).pc % 8192) <<< 16 ||| instr.toNat <<< 32
  | 1 => addr
  | 2 => s.stitch % 2 ^ 32 ||| (s.rd F.STITCH_POS.CYCLE % 65536) <<< 32 ||| (fi.detail % 65536) <<< 48
  | _ => (match (s.thr tid).work with | some w => w.handle | none => 0) ||| ((s.thr tid).slots % 1024) <<< 32

theorem State.latchFault_eq : s.latchFault tid instr fi addr = (((s.wr (faultF tid 0) (s.faultWord tid instr fi addr 0)).wr (faultF tid 1)
    (s.faultWord tid instr fi addr 1)).wr (faultF tid 2) (s.faultWord tid instr fi addr 2)).wr (faultF tid 3) (s.faultWord tid instr fi addr 3) := rfl

theorem State.latchFault_rd {w : Nat} (h : w < 4) : (s.latchFault tid instr fi addr).rd (faultF tid w) = s.faultWord tid instr fi addr w % 2 ^ 64 := by
  have hbits : (faultF tid w).bits = 64 := rfl
  have other (t : State) (u v : Nat) (hu : u ≠ w) : (t.wr (faultF tid u) v).rd (faultF tid w) = t.rd (faultF tid w) :=
    State.rd_wr_apart _ _ _ _ (faultF_hi tid u) (faultF_apart hu)
  have same (t : State) (v : Nat) : (t.wr (faultF tid w) v).rd (faultF tid w) = v % 2 ^ 64 := by
    rw [State.rd_wr_same _ _ _ (faultF_hi tid w), hbits]
  rw [State.latchFault_eq]
  match w, h with
  | 0, _ => rw [other _ 3 _ (by decide), other _ 2 _ (by decide), other _ 1 _ (by decide), same]
  | 1, _ => rw [other _ 3 _ (by decide), other _ 2 _ (by decide), same]
  | 2, _ => rw [other _ 3 _ (by decide), same]
  | 3, _ => rw [same]

theorem State.latchFault_regsKept : s.regsKept (s.latchFault tid instr fi addr) (faultFields tid) :=
  ((((s.regsKept_refl _).wr _ (by simp) (faultF_hi _ _)).wr _ (by simp) (faultF_hi _ _)).wr _ (by simp) (faultF_hi _ _)).wr _ (by simp)
    (faultF_hi _ _)

theorem State.faultRecorded_yarnsOnly : s.yarnsOnly (s.faultRecorded tid instr fi addr) := by
  have hlatch : s.yarnsOnly (s.latchFault tid instr fi addr) := (((s.yarnsOnly_refl.wr _ _).wr _ _).wr _ _).wr _ _
  unfold State.faultRecorded
  split
  · exact (hlatch.count _ _).count _ _
  · exact hlatch.count _ _

theorem State.faultRecorded_mules : (s.faultRecorded tid instr fi addr).mules = s.mules := by
  unfold State.faultRecorded
  split <;> simp only [State.latchFault_eq, State.count_mules, State.wr_mules]

theorem State.faultRecorded_regsKept : s.regsKept (s.faultRecorded tid instr fi addr) (faultFields tid) := by
  have hcount := (s.latchFault_regsKept (tid := tid) instr fi addr).count 1 (f := F.MULE_STAT.FAULTS.CNT (muleOf (spOf tid))) (by simp) (show 31 < 64 by decide)
  unfold State.faultRecorded
  split
  · exact hcount.count 1 (by simp) (show 31 < 64 by decide)
  · exact hcount

theorem State.faultRecorded_rd {w : Nat} (h : w < 4) :
    (s.faultRecorded tid instr fi addr).rd (faultF tid w) = s.faultWord tid instr fi addr w % 2 ^ 64 := by
  unfold State.faultRecorded
  split
  · rw [State.rd_count_apart _ _ _ _ (show 31 < 64 by decide) (overruns_apart_faultF tid w h), State.rd_count_apart _ _ _ _ (show 31 < 64 by decide) (faults_apart_faultF tid w h),
      State.latchFault_rd _ _ _ _ h]
  · rw [State.rd_count_apart _ _ _ _ (show 31 < 64 by decide) (faults_apart_faultF tid w h), State.latchFault_rd _ _ _ _ h]

theorem State.latchFault_rd_of_apart {g : FRef} (hg : ∀ w, w < 4 → (faultF tid w).apart g = true) : (s.latchFault tid instr fi addr).rd g = s.rd g := by
  rw [State.latchFault_eq]
  iterate 4 rw [State.rd_wr_apart _ _ _ _ (faultF_hi _ _) (hg _ (by decide))]

theorem State.faultRecorded_faults : (s.faultRecorded tid instr fi addr).rd (F.MULE_STAT.FAULTS.CNT (muleOf (spOf tid))) =
    min (s.rd (F.MULE_STAT.FAULTS.CNT (muleOf (spOf tid))) + 1) (2 ^ 32 - 1) := by
  have hcount : ((s.latchFault tid instr fi addr).count (F.MULE_STAT.FAULTS.CNT (muleOf (spOf tid))) 1).rd (F.MULE_STAT.FAULTS.CNT (muleOf (spOf tid))) =
      min (s.rd (F.MULE_STAT.FAULTS.CNT (muleOf (spOf tid))) + 1) (2 ^ 32 - 1) := by
    rw [State.rd_count_same _ _ _ (show 31 < 64 by decide), State.latchFault_rd_of_apart _ _ _ _ (fun w hw => faultF_apart_faults tid w hw)]; rfl
  unfold State.faultRecorded
  split
  · exact (State.rd_count_apart _ _ _ _ (show 31 < 64 by decide) (overruns_apart_faults _)).trans hcount
  · exact hcount

theorem State.faultRecorded_overruns (hl : fi.cause = fcOverrun) :
    (s.faultRecorded tid instr fi addr).rd (F.MULE_STAT.OVERRUNS.CNT (muleOf (spOf tid))) =
      min (s.rd (F.MULE_STAT.OVERRUNS.CNT (muleOf (spOf tid))) + 1) (2 ^ 32 - 1) := by
  unfold State.faultRecorded
  rw [if_pos hl]
  refine (State.rd_count_same _ _ _ (show 31 < 64 by decide)).trans ?_
  rw [State.rd_count_apart _ _ _ _ (show 31 < 64 by decide) (faults_apart_overruns _),
    State.latchFault_rd_of_apart _ _ _ _ (fun w hw => faultF_apart_overruns tid w hw)]
  rfl

/-- The first word of a record, and its cause alone. -/
theorem State.faultWord_zero (hc : fi.cause < 256) (hb : (s.thr tid).bank < 2) (hp : (s.thr tid).pc < 8192) :
    s.faultWord tid instr fi addr 0 % 2 ^ 64 =
      fi.cause + 256 + 512 * (s.thr tid).bank + 65536 * (s.thr tid).pc + 2 ^ 32 * instr.toNat := by
  have hi : instr.toNat < 2 ^ 32 := instr.isLt
  rw [State.faultWord, Nat.mod_eq_of_lt hp, or_shiftLeft_of_lt (k := 8) _ hc, or_shiftLeft_of_lt (k := 9) _ (by omega),
    or_shiftLeft_of_lt (k := 16) _ (by omega), or_shiftLeft_of_lt (k := 32) _ (by omega)]
  omega

theorem State.faultWord_cause : s.faultWord tid instr fi addr 0 % 2 ^ 64 % 256 = fi.cause % 256 := by
  have low (b k : Nat) (hk : 8 ≤ k) : b <<< k % 2 ^ 8 = 0 := by
    obtain ⟨j, rfl⟩ := Nat.exists_eq_add_of_le hk
    rw [Nat.shiftLeft_eq, Nat.pow_add]
    exact Nat.mod_eq_zero_of_dvd (Dvd.dvd.mul_left (Nat.dvd_mul_right _ _) b)
  rw [Nat.mod_mod_of_dvd _ (by decide : 256 ∣ 2 ^ 64), State.faultWord, show 256 = 2 ^ 8 by rfl]
  simp only [Nat.or_mod_two_pow, low _ _ (Nat.le_refl 8), low _ 9 (by decide), low _ 16 (by decide), low _ 32 (by decide), Nat.or_zero]

theorem State.faultWord_two : s.faultWord tid instr fi addr 2 % 2 ^ 64 =
    s.rd F.STITCH_COUNT.COUNT % 2 ^ 32 + 2 ^ 32 * (s.rd F.STITCH_POS.CYCLE % 65536) + 2 ^ 48 * (fi.detail % 65536) := by
  rw [State.faultWord, or_shiftLeft_of_lt (k := 32) _ (Nat.mod_lt _ (by decide)), or_shiftLeft_of_lt (k := 48) _ (by omega), State.stitch]
  omega

theorem State.faultWord_three (hw : (s.thr tid).work = none) (hs : (s.thr tid).slots < 1024) :
    s.faultWord tid instr fi addr 3 % 2 ^ 64 = 2 ^ 32 * (s.thr tid).slots := by
  rw [State.faultWord, hw, Nat.mod_eq_of_lt hs]
  · show (0 ||| (s.thr tid).slots <<< 32) % 2 ^ 64 = _
    rw [Nat.zero_or, Nat.shiftLeft_eq]
    omega
  all_goals decide

end record

/-! ### The end of the program -/

section stopped
variable (s : State) {tid : Nat}

theorem State.faultStopped_yarnsOnly : s.yarnsOnly (s.faultStopped tid) := by
  have hp := (s.poison_told tid).only
  unfold State.faultStopped
  split
  · exact hp.modThr _ _
  · exact hp.modThr _ _

theorem State.faultStopped_words : State.wordsKept muleWord s (s.faultStopped tid) := by
  have hp := (s.poison_told tid).words
  unfold State.faultStopped
  split
  · exact hp.of_csr rfl
  · exact hp.of_csr rfl

/-- The thread keeps its registers, its PC and its work, and leaves its loops; of a bounded one nothing stays pending. -/
theorem State.faultStopped_thr : ((s.faultStopped tid).thr tid).pc = (s.thr tid).pc ∧ ((s.faultStopped tid).thr tid).regs = (s.thr tid).regs ∧
    ((s.faultStopped tid).thr tid).work = (s.thr tid).work ∧ ((s.faultStopped tid).thr tid).loops = [] ∧
    (s.bounded tid = true → ((s.faultStopped tid).thr tid).pend = [] ∧ ((s.faultStopped tid).thr tid).tickets = [] ∧
      ((s.faultStopped tid).thr tid).scratchOp = none) := by
  have hp := (s.poison_told tid).threads tid
  unfold State.faultStopped State.endProgram
  split
  · rw [State.thr_modThr_same, hp]
    exact ⟨rfl, rfl, rfl, rfl, fun _ => ⟨rfl, rfl, rfl⟩⟩
  next hb =>
    rw [State.thr_modThr_same, hp]
    exact ⟨rfl, rfl, rfl, rfl, fun hb' => absurd hb' hb⟩

end stopped

/-! ### The work of the thread -/

theorem State.handOn_idle {s : State} {tid : Nat} (h : (s.thr tid).work = none) (status detail : Nat) : s.handOn tid status detail = s := by
  rw [State.handOn, h]

/-- A thread's work is handed on: its record has none, and beside the mules the work goes its way. -/
theorem State.handOn_some {s : State} {tid : Nat} {w : Work} (h : (s.thr tid).work = some w) (status detail : Nat) :
    ∃ t, s.besideMules t ∧ s.handOn tid status detail = t.modThr tid fun x => { x with work := none } := by
  rw [State.handOn, h]
  exact ⟨_, s.workSlow_besideMules _ w status detail, rfl⟩

/-! ### What T0 and the Cobbler are shown -/

section raised
variable (s : State) {tid : Nat}

theorem State.faultRaised_ts (h : tid < 6144) : (s.faultRaised tid).ts tid = tsFault := State.setTs_ts_same s h (by decide)

theorem State.faultRaised_regsKept : s.regsKept (s.faultRaised tid) (tsFields tid) := (s.setTs_regsKept tid tsFault).raise _ _

theorem State.faultRaised_yarnsOnly : s.yarnsOnly (s.faultRaised tid) := (s.yarnsOnly_refl.setTs _ _).raise _ _

/-- FAULT is raised in T0, and nothing else happens to any thread's record. -/
theorem State.faultRaised_thr (u : Nat) : (s.faultRaised tid).thr u =
    { s.thr u with events := if u = tid / 8 * 8 then (s.thr u).events ||| 1#32 <<< evFault else (s.thr u).events } := by
  have h0 : tidOf (spOf tid) 0 = tid / 8 * 8 := (tidOf_eq tid 0).symm
  unfold State.faultRaised
  rw [h0]
  split
  next hu => rw [hu, State.raise, State.thr_modThr_same, State.setTs_thr, bit32_eq_shift]
  next hu => rw [State.raise, State.thr_modThr_other _ _ _ _ hu, State.setTs_thr]

/-- The fields that the report of T0's fault writes. -/
abbrev t0Fields (tid : Nat) : List FRef := [F.MULE_EVENT.T0_FAULT (muleOf (spOf tid)), evqHead cobblerEvq]

theorem State.regsKept.setFifo {s t : State} {fs : List FRef} (h : s.regsKept t fs) {q : FifoRef} (f : Fifo) (hq : evqHead q ∈ fs) :
    s.regsKept (t.setFifo q f) fs :=
  h.trans ((State.regsKept_of_csr (t := { t with fifos := AMap.setD ⟨[], 0⟩ t.fifos q.addr f }) rfl fs).trans
    ((State.regsKept_setWord _ q.addr _).mono (fun _ hf => List.mem_singleton.mp hf ▸ hq)))

theorem State.regsKept.event {s t : State} {fs : List FRef} (h : s.regsKept t fs) {q : FifoRef} (e : Nat) (hq : evqHead q ∈ fs) :
    s.regsKept (t.event q e) fs := by
  rw [State.event]
  split
  · exact h.setFifo _ hq
  · exact h.setFifo _ hq

theorem State.event_rd_apart (s : State) {q : FifoRef} (e : Nat) {g : FRef} (hg : (evqHead q).apart g = true) : (s.event q e).rd g = s.rd g :=
  (s.regsKept_refl [evqHead q]).event e List.mem_cons_self g fun f hf => by rw [List.mem_singleton.mp hf]; exact (FRef.apart_iff _ _).mp hg

theorem cobblerEvq_apart_t0Fault {m : Nat} (h : m < 48) : (evqHead cobblerEvq).apart (F.MULE_EVENT.T0_FAULT m) = true := by
  simp only [FRef.apart_iff, F.MULE_EVENT.T0_FAULT, evqHead, cobblerEvq]; omega

theorem State.modSpindle_rd (s : State) (sp : Nat) (f : Spindle → Spindle) (g : FRef) : (s.modSpindle sp f).rd g = s.rd g := rfl

theorem State.t0Reported_t0Fault (cause : Nat) (h : tid < 6144) :
    (s.t0Reported tid cause).rd (F.MULE_EVENT.T0_FAULT (muleOf (spOf tid))) = 1 := by
  rw [State.t0Reported, State.event_rd_apart _ _ (cobblerEvq_apart_t0Fault (by rw [muleOf, spOf]; omega))]
  rw [State.modSpindle_rd, State.rd_wr_same _ _ _ (show 6 < 64 by decide)]
  rfl

theorem State.t0Reported_spindle (cause : Nat) : ((s.t0Reported tid cause).spindle (spOf tid)).t0Fault = true := by
  rw [State.t0Reported, State.spindle, State.event_mules, ← State.spindle, State.spindle_modSpindle_same]

theorem State.t0Reported_regsKept (cause : Nat) : s.regsKept (s.t0Reported tid cause) (t0Fields tid) :=
  (((s.regsKept_refl _).wr 1 (by simp) (show 6 < 64 by decide)).modSpindle _ _).event _ (by simp)

theorem State.t0Reported_mules (cause : Nat) : (s.t0Reported tid cause).mules = (s.modSpindle (spOf tid) fun x => { x with t0Fault := true }).mules :=
  State.event_mules _ _ _

end raised

/-! ### A fault -/

/-- The fields that the last stage writes. -/
abbrev shownFields (tid : Nat) : List FRef := tsFields tid ++ t0Fields tid

section shown
variable (s : State) {tid : Nat} (cause : Nat)

theorem State.faultShown_regsKept : s.regsKept (s.faultShown tid cause) (shownFields tid) := by
  have hr := (s.faultRaised_regsKept (tid := tid)).mono (gs := shownFields tid) (by simp)
  unfold State.faultShown
  split
  · exact hr.trans ((State.t0Reported_regsKept _ cause).mono (by simp))
  · exact hr

theorem State.faultShown_thr (u : Nat) : (s.faultShown tid cause).thr u = (s.faultRaised tid).thr u := by
  unfold State.faultShown
  split
  · rw [State.thr, State.t0Reported_mules]; rfl
  · rfl

theorem thrStateF_apart_t0Fields (tid : Nat) : ∀ f ∈ t0Fields tid, f.apart (thrStateF tid) = true := by
  intro f hf
  simp only [List.mem_cons, List.not_mem_nil, or_false] at hf
  rcases hf with rfl | rfl <;>
    simp only [FRef.apart_iff, thrStateF, F.MULE_EVENT.T0_FAULT, F.MULE_THR_STATE.STATE, evqHead, cobblerEvq, muleOf, logOf, spOf, tOf] <;> omega

theorem State.faultShown_ts (h : tid < 6144) : (s.faultShown tid cause).ts tid = tsFault := by
  unfold State.faultShown
  split
  · rw [State.ts_of_lt _ h, State.t0Reported_regsKept _ cause _ fun f hf => (FRef.apart_iff _ _).mp (thrStateF_apart_t0Fields tid f hf),
      ← State.ts_of_lt _ h, s.faultRaised_ts h]
  · exact s.faultRaised_ts h

theorem State.faultShown_t0 (h : tid < 6144) (h0 : tOf tid = 0) : (s.faultShown tid cause).rd (F.MULE_EVENT.T0_FAULT (muleOf (spOf tid))) = 1 ∧
    ((s.faultShown tid cause).spindle (spOf tid)).t0Fault = true := by
  rw [State.faultShown, if_pos h0]
  exact ⟨State.t0Reported_t0Fault _ cause h, State.t0Reported_spindle _ cause⟩

theorem apart_shownFields {g : FRef} (hg : 0x1000 ≤ g.addr % 0x10000 ∧ g.addr % 0x10000 < 0x4000) (hlt : g.addr < 0x600000) :
    ∀ f ∈ shownFields tid, g.addr ≠ f.addr ∨ g.hi < f.lo ∨ f.hi < g.lo := by
  intro f hf
  simp only [shownFields, tsFields, t0Fields, List.cons_append, List.nil_append, List.mem_cons, List.not_mem_nil, or_false] at hf
  left
  rcases hf with rfl | rfl | rfl | rfl <;>
    simp only [thrStateF, F.MULE_THR_STATE.STATE, haltedF, F.MULE_DBG_HALT.MASK, F.MULE_EVENT.T0_FAULT, evqHead, cobblerEvq, muleOf, logOf, spOf] <;>
    omega

theorem faultFields_addr (h : tid < 6144) {g : FRef} (hg : g ∈ faultFields tid) : g.addr < 0x600000 ∧
    (0x1000 ≤ g.addr % 0x10000 ∧ g.addr % 0x10000 < 0x2000 ∨ 0x3010 ≤ g.addr % 0x10000 ∧ g.addr % 0x10000 < 0x4000) := by
  simp only [List.mem_cons, List.not_mem_nil, or_false] at hg
  rcases hg with rfl | rfl | rfl | rfl | rfl | rfl <;>
    simp only [faultF, F.MULE_FAULT.W, F.MULE_STAT.FAULTS.CNT, F.MULE_STAT.OVERRUNS.CNT, muleOf, logOf, spOf, tOf] <;> omega

/-- The last stage leaves the record and the counters as the first wrote them, where those between keep the mules' registers. -/
theorem State.faultShown_rd {r q : State} (hq : State.wordsKept muleWord r q) (h : tid < 6144) {g : FRef} (hg : g ∈ faultFields tid) :
    (q.faultShown tid cause).rd g = r.rd g := by
  obtain ⟨hlt, hlow⟩ := faultFields_addr h hg
  rw [q.faultShown_regsKept cause g (apart_shownFields (by omega) hlt), hq.rd (muleWord_of_lt hlt (by omega))]

end shown

theorem State.faultRecorded_thr (s : State) {tid : Nat} (instr : W32) (fi : FaultInfo) (addr u : Nat) :
    (s.faultRecorded tid instr fi addr).thr u = s.thr u := by rw [State.thr, State.faultRecorded_mules]; rfl

/-- The fault of a thread without work. -/
theorem State.takeFault_idle (s : State) {tid : Nat} (h : tid < 6144) (instr : W32) (fi : FaultInfo) (addr : Nat) (hw : (s.thr tid).work = none) :
    s.takeFault tid instr fi addr = ((s.faultRecorded tid instr fi addr).faultStopped tid).faultShown tid fi.cause := by
  have hidle : (((s.faultRecorded tid instr fi addr).faultStopped tid).thr tid).work = none := by
    rw [(State.faultStopped_thr _).2.2.1, State.faultRecorded_thr, hw]
  rw [State.takeFault_eq s h]
  simp only [State.handOn_idle hidle, ite_self]

/-- The fault of a thread with work: beside the mules the work goes its way. -/
theorem State.takeFault_busy (s : State) {tid : Nat} (h : tid < 6144) (instr : W32) (fi : FaultInfo) (addr : Nat) {w : Work}
    (hw : (s.thr tid).work = some w) : ∃ t, ((s.faultRecorded tid instr fi addr).faultStopped tid).besideMules t ∧
      s.takeFault tid instr fi addr = (t.modThr tid fun x => { x with work := none }).faultShown tid fi.cause := by
  have hbusy : (((s.faultRecorded tid instr fi addr).faultStopped tid).thr tid).work = some w := by
    rw [(State.faultStopped_thr _).2.2.1, State.faultRecorded_thr, hw]
  rw [State.takeFault_eq s h]
  by_cases hl : fi.cause = fcOverrun
  · obtain ⟨t, hbeside, ht⟩ := State.handOn_some hbusy stOverrun fi.detail
    exact ⟨t, hbeside, by simp only [if_pos hl, ht]⟩
  · obtain ⟨t, hbeside, ht⟩ := State.handOn_some hbusy stDeviceError fi.cause
    exact ⟨t, hbeside, by simp only [if_neg hl, ht]⟩

theorem getLsbD_or_bit (v : W32) {n : Nat} (h : n < 32) : (v ||| 1#32 <<< n).getLsbD n = true := by
  simp [h]

theorem State.yarnsOnly.mem {s t : State} (h : s.yarnsOnly t) : t.mem = s.mem := by
  have e := congrArg State.mem h
  exact e

theorem State.yarnsOnly.scratch {s t : State} (h : s.yarnsOnly t) : t.scratch = s.scratch := by
  have e := congrArg State.scratch h
  exact e

/-- What is shown of a fault leaves the memories. -/
theorem State.faultShown_memories (s : State) (tid cause : Nat) : (s.faultShown tid cause).mem = s.mem ∧ (s.faultShown tid cause).lmem = s.lmem ∧
    (s.faultShown tid cause).scratch = s.scratch := by
  have hr := s.faultRaised_yarnsOnly (tid := tid)
  unfold State.faultShown
  split
  · refine ⟨(State.event_mem _ _ _).trans hr.mem, (State.event_lmem _ _ _).trans hr.lmem, (State.event_scratch _ _ _).trans hr.scratch⟩
  · exact ⟨hr.mem, hr.lmem, hr.scratch⟩

/-- Recording a fault does not make the thread bounded, or stop it being so. -/
theorem State.faultRecorded_bounded (s : State) {tid : Nat} (h : tid < 6144) (instr : W32) (fi : FaultInfo) (addr : Nat) :
    (s.faultRecorded tid instr fi addr).bounded tid = s.bounded tid := by
  have hrole : (s.faultRecorded tid instr fi addr).rd (roleF (spOf tid)) = s.rd (roleF (spOf tid)) := by
    refine s.faultRecorded_regsKept instr fi addr _ fun f hf => .inl fun heq => ?_
    have hf := faultFields_addr h hf
    rw [← heq] at hf
    simp only [roleF, F.MULE_ROLE.ROLE, muleOf, logOf, spOf] at hf
    omega
  rw [State.bounded, State.bounded, State.role, State.role, hrole]

end Sys2Proof.Machine

open Sys2Proof Sys2Proof.Machine

/-- Settles O28: the stages of a fault, without work for every cause, and with it for an overrun. -/
theorem threadFaults : Obligations.ThreadFaults := by
  refine ⟨?_, ?_⟩
  · rintro s tid w cause detail addr m h rfl hc hne hd ha hb hp hw hs
    have hm : tid / 128 = muleOf (spOf tid) := by rw [muleOf, spOf]; omega
    obtain ⟨hpc, hregs, -, hloops, hbounded⟩ := (s.faultRecorded tid w ⟨cause, detail⟩ addr).faultStopped_thr (tid := tid)
    have hwords := (s.faultRecorded tid w ⟨cause, detail⟩ addr).faultStopped_words (tid := tid)
    rw [State.faultRecorded_thr] at hpc hregs
    have hthr := State.faultShown_thr ((s.faultRecorded tid w ⟨cause, detail⟩ addr).faultStopped tid) (tid := tid) cause
    refine ⟨_, s.takeFault_idle h w ⟨cause, detail⟩ addr hw, State.faultShown_ts _ _ h, ?_, ?_, ?_, ?_, ?_, ?_, ?_, ?_, fun h0 => ?_, ?_, fun hbd => ?_, ?_⟩
    · rw [hthr, State.faultRaised_thr]; exact hpc
    · rw [hthr, State.faultRaised_thr]; exact hregs
    · rw [hthr, State.faultRaised_thr]; exact hloops
    · rw [State.faultShown_rd _ hwords h (by simp), State.faultRecorded_rd _ _ _ _ (by decide), State.faultWord_zero _ _ _ _ hc hb hp]
    · rw [State.faultShown_rd _ hwords h (by simp), State.faultRecorded_rd _ _ _ _ (by decide)]
      exact Nat.mod_eq_of_lt ha
    · rw [State.faultShown_rd _ hwords h (by simp), State.faultRecorded_rd _ _ _ _ (by decide), State.faultWord_two, Nat.mod_eq_of_lt hd]
    · rw [State.faultShown_rd _ hwords h (by simp), State.faultRecorded_rd _ _ _ _ (by decide), State.faultWord_three _ _ _ _ hw hs]
    · rw [hm, State.faultShown_rd _ hwords h (by simp), State.faultRecorded_faults]
    · have ht0 := State.faultShown_t0 ((s.faultRecorded tid w ⟨cause, detail⟩ addr).faultStopped tid) cause h h0
      rwa [← hm] at ht0
    · have h0 := State.faultShown_thr ((s.faultRecorded tid w ⟨cause, detail⟩ addr).faultStopped tid) (tid := tid) cause (tid / 8 * 8)
      rw [h0, State.faultRaised_thr, if_pos rfl]
      exact getLsbD_or_bit _ (by decide)
    · rw [hthr, State.faultRaised_thr]
      exact hbounded ((s.faultRecorded_bounded h _ _ _).trans hbd)
    · have hrec := s.faultRecorded_yarnsOnly (tid := tid) w ⟨cause, detail⟩ addr
      have hstop := hrec.trans ((s.faultRecorded tid w ⟨cause, detail⟩ addr).faultStopped_yarnsOnly (tid := tid))
      obtain ⟨hmem, hlmem, hscratch⟩ := State.faultShown_memories ((s.faultRecorded tid w ⟨cause, detail⟩ addr).faultStopped tid) tid cause
      exact ⟨hmem.trans hstop.mem, hlmem.trans hstop.lmem, hscratch.trans hstop.scratch⟩
  · intro s tid w hover h hw he
    have hcause : (⟨fcOverrun, w.entry⟩ : FaultInfo).cause = fcOverrun := rfl
    have hm : tid / 128 = muleOf (spOf tid) := by rw [muleOf, spOf]; omega
    have hexec : exec (.overrun tid) s = .next (s.overrun tid ((s.fetchWord tid).getD 0)) := if_pos hover
    generalize (s.fetchWord tid).getD 0 = instr at hexec
    obtain ⟨hpc, -, -, -, -⟩ := (s.faultRecorded tid instr ⟨fcOverrun, w.entry⟩ 0).faultStopped_thr (tid := tid)
    rw [State.faultRecorded_thr] at hpc
    obtain ⟨q, hbeside, hq⟩ := s.takeFault_busy h instr ⟨fcOverrun, w.entry⟩ 0 hw
    have hwords := ((s.faultRecorded tid instr ⟨fcOverrun, w.entry⟩ 0).faultStopped_words (tid := tid)).trans hbeside.words
    have hthr := State.faultShown_thr (q.modThr tid fun x => { x with work := none }) (tid := tid) fcOverrun tid
    rw [State.faultRaised_thr, State.thr_modThr_same] at hthr
    have hrd := fun g hg => State.faultShown_rd fcOverrun (hwords.of_csr (u := q.modThr tid fun x => { x with work := none }) rfl) h (g := g) hg
    rw [State.overrun, hw, hq] at hexec
    refine ⟨_, hexec, State.faultShown_ts _ _ h, ?_, ?_, ?_, ?_, ?_, ?_⟩
    · exact congrArg Thread.work hthr
    · exact (congrArg Thread.pc hthr).trans ((congrArg Thread.pc (hbeside.thr tid)).trans hpc)
    · refine (congrArg (· % 256) (hrd (faultF tid 0) (by simp))).trans ?_
      rw [State.faultRecorded_rd _ _ _ _ (by decide), State.faultWord_cause]
      rfl
    · refine (congrArg (· / 2 ^ 48) (hrd (faultF tid 2) (by simp))).trans ?_
      rw [State.faultRecorded_rd _ _ _ _ (by decide), State.faultWord_two, Nat.mod_eq_of_lt he]
      omega
    · rw [hm]
      exact (hrd _ (by simp)).trans (s.faultRecorded_overruns instr _ 0 hcause)
    · rw [hm, show tid / 8 % 16 = logOf (spOf tid) from rfl]
      exact List.mem_append_right _ (List.mem_singleton.mpr rfl)
end

section
/-! What stops and restarts a thread: the end of its reservation, the results it no longer waits for, and its entry (R58, R74, R81, R114). -/

namespace Sys2Proof.Machine

open Sys2Proof

/-! ### Thread states and fields of other threads -/

theorem State.ts_of_rd {s t : State} {tid : Nat} (h : t.rd (thrStateF tid) = s.rd (thrStateF tid)) : t.ts tid = s.ts tid := by
  rw [State.ts, State.ts, h]

@[simp] theorem State.wr_thr (s : State) (f : FRef) (v u : Nat) : (s.wr f v).thr u = s.thr u := rfl
@[simp] theorem State.count_thr (s : State) (f : FRef) (n u : Nat) : (s.count f n).thr u = s.thr u := rfl
@[simp] theorem State.modSpindle_thr (s : State) (sp : Nat) (f : Spindle → Spindle) (u : Nat) : (s.modSpindle sp f).thr u = s.thr u := rfl

theorem muleWord_thrStateF {tid : Nat} (h : tid < 6144) : muleWord (thrStateF tid).addr := by
  apply muleWord_of_lt <;> simp only [thrStateF, F.MULE_THR_STATE.STATE, muleOf, spOf, logOf] <;> omega

theorem spOf_lt {tid : Nat} (h : tid < 6144) : spOf tid < 768 := by rw [spOf]; omega

/-- What a state's image, its bank and its entries are read from. -/
theorem State.activeImage_congr {s t : State} {sp : Nat} (hsp : t.spindle sp = s.spindle sp) (hb : t.activeBank sp = s.activeBank sp) :
    t.activeImage sp = s.activeImage sp := by rw [State.activeImage, State.activeImage, hsp, hb]

theorem State.longEntry_congr {s t : State} {tid : Nat} (h : t.activeImage (spOf tid) = s.activeImage (spOf tid)) :
    t.longEntry tid = s.longEntry tid := by rw [State.longEntry, State.longEntry, h]

theorem State.restState_congr {s t : State} {tid : Nat} (h : t.activeImage (spOf tid) = s.activeImage (spOf tid)) :
    t.restState tid = s.restState tid := by rw [State.restState, State.restState, h]

/-! ### A reservation that is not open -/

/-- What stopping its thread makes of a reservation that is not open. -/
def Resv.stop : Resv → Resv
  | .asked id => .stopped id
  | r => r

/-- From `s` to `t` nothing changes but the record of one thread. -/
def State.ownRecord (s t : State) (tid : Nat) : Prop :=
  s.onlyMules t ∧ { t.mules with threads := s.mules.threads } = s.mules ∧ ∀ u, u ≠ tid → t.thr u = s.thr u

theorem State.ownRecord_refl (s : State) (tid : Nat) : s.ownRecord s tid := ⟨rfl, rfl, fun _ _ => rfl⟩

theorem State.ownRecord.modThr {s t : State} {tid : Nat} (h : s.ownRecord t tid) (f : Thread → Thread) : s.ownRecord (t.modThr tid f) tid :=
  ⟨h.1.trans (t.modThr_onlyMules tid f), h.2.1, fun u hu => (t.thr_modThr_other tid u f hu).trans (h.2.2 u hu)⟩

theorem State.ownRecord.csr {s t : State} {tid : Nat} (h : s.ownRecord t tid) : t.csr = s.csr := h.1.csr

/-- A thread with no reservation open loses nothing when it is stopped but the grant it may have asked for. -/
theorem State.poison_quiet (s : State) {tid : Nat} (h : (s.thr tid).holdsResv = false) :
    s.ownRecord (s.poison tid) tid ∧ (s.poison tid).thr tid = { s.thr tid with resv := (s.thr tid).resv.stop } := by
  unfold State.poison
  cases hr : (s.thr tid).resv with
  | opened id dst since => rw [Thread.holdsResv, hr] at h; cases h
  | asked id => exact ⟨(s.ownRecord_refl tid).modThr _, State.thr_modThr_same _ _ _⟩
  | none => exact ⟨s.ownRecord_refl tid, by show s.thr tid = { s.thr tid with resv := .none }; rw [← hr]⟩
  | stopped id => exact ⟨s.ownRecord_refl tid, by show s.thr tid = { s.thr tid with resv := .stopped id }; rw [← hr]⟩
  | poisoned => exact ⟨s.ownRecord_refl tid, by show s.thr tid = { s.thr tid with resv := .poisoned }; rw [← hr]⟩

/-! ### Results that are not waited for any more -/

/-- From `s` to `t` a thread's record, its operations under way and its scratch accesses may have changed, and nothing else. -/
structure State.ownChange (s t : State) (tid : Nat) : Prop where
  only : s.yarnsOnly t
  csr : t.csr = s.csr
  mules : { t.mules with threads := s.mules.threads, scratchQ := s.mules.scratchQ } = s.mules
  queues : t.yarn.queues = s.yarn.queues
  threads : ∀ u, u ≠ tid → t.thr u = s.thr u

theorem State.ownChange_refl (s : State) (tid : Nat) : s.ownChange s tid := ⟨rfl, rfl, rfl, rfl, fun _ _ => rfl⟩

theorem State.ownChange.trans {s t u : State} {tid : Nat} (h : s.ownChange t tid) (h' : t.ownChange u tid) : s.ownChange u tid :=
  ⟨h.only.trans h'.only, h'.csr.trans h.csr, by rw [← h.mules, ← h'.mules], h'.queues.trans h.queues,
    fun v hv => (h'.threads v hv).trans (h.threads v hv)⟩

theorem State.ownChange.modThr {s t : State} {tid : Nat} (h : s.ownChange t tid) (f : Thread → Thread) : s.ownChange (t.modThr tid f) tid :=
  h.trans ⟨t.yarnsOnly_refl.modThr tid f, rfl, rfl, rfl, fun u hu => t.thr_modThr_other tid u f hu⟩

theorem State.ownRecord.ownChange {s t : State} {tid : Nat} (h : s.ownRecord t tid) : s.ownChange t tid where
  only := h.1.yarnsOnly
  csr := h.csr
  mules := by rw [← h.2.1]
  queues := by
    have e := congrArg State.yarn h.1
    exact congrArg Yarn.queues e
  threads := h.2.2

theorem State.supersede_ownChange (s : State) (tid : Nat) (rs : List Nat) : s.ownChange (s.supersede tid rs) tid := by
  unfold State.supersede
  split
  · exact s.ownChange_refl tid
  · refine State.ownChange.modThr ?_ _
    exact ⟨rfl, rfl, rfl, rfl, fun _ _ => rfl⟩

/-- The thread's record keeps all but the registers whose results it waits for. -/
theorem State.supersede_thr (s : State) (tid : Nat) (rs : List Nat) :
    ∃ ps, (s.supersede tid rs).thr tid = { s.thr tid with pend := ps } := by
  unfold State.supersede
  split
  · exact ⟨_, rfl⟩
  · exact ⟨_, State.thr_modThr_same _ _ _⟩

/-! ### A restart -/

/-- A thread has restarted at an entry with a reason. -/
structure State.restarted (s t : State) (tid pc reason : Nat) : Prop where
  ts : t.ts tid = tsRun
  pc : (t.thr tid).pc = pc
  bank : (t.thr tid).bank = s.activeBank (spOf tid)
  loops : (t.thr tid).loops = []
  request : (t.thr tid).restartReq = none
  reason : (t.thr tid).g 1 = BitVec.ofNat 64 reason
  regs : ∀ r, r ≠ 1 → r ≠ 2 → (t.thr tid).g r = (s.thr tid).g r
  staging : (t.thr tid).staging = (s.thr tid).staging
  threads : ∀ u, u ≠ tid → t.thr u = s.thr u
  only : s.yarnsOnly t
  csr : s.regsKept t (tsFields tid)
  mules : { t.mules with threads := s.mules.threads, scratchQ := s.mules.scratchQ } = s.mules
  queues : t.yarn.queues = s.yarn.queues

/-- The record of a thread at its entry. -/
def Thread.atEntry (x : Thread) (pc bank reason t : Nat) : Thread :=
  let x := { x with pc := pc, bank := bank, loops := [], restartReq := none, restartDue := false, lkwStall := none, portWait := none, ywait := none }
  let x := x.setG 1 (BitVec.ofNat 64 reason)
  if t = 0 then x else x.setG 2 (BitVec.ofNat 64 t)

theorem State.restartThr_eq (s : State) {tid pc : Nat} (reason : Nat) (h : (s.poison tid).longEntry tid = some pc) : s.restartThr tid reason =
    (((s.poison tid).supersede tid (if tOf tid = 0 then [1] else [1, 2])).modThr tid fun x =>
      x.atEntry pc ((s.poison tid).activeBank (spOf tid)) reason (tOf tid)).setTs tid tsRun := by
  rw [State.restartThr, h]; rfl

theorem Thread.atEntry_fields (x : Thread) (pc bank reason t : Nat) : (x.atEntry pc bank reason t).pc = pc ∧ (x.atEntry pc bank reason t).bank = bank ∧
    (x.atEntry pc bank reason t).loops = [] ∧ (x.atEntry pc bank reason t).restartReq = none ∧ (x.atEntry pc bank reason t).staging = x.staging := by
  unfold Thread.atEntry
  split <;> exact ⟨rfl, rfl, rfl, rfl, rfl⟩

theorem Thread.atEntry_reason (x : Thread) (pc bank reason t : Nat) : (x.atEntry pc bank reason t).g 1 = BitVec.ofNat 64 reason := by
  unfold Thread.atEntry
  split
  · exact Thread.g_setG_same _ _ _ (by decide)
  · exact (Thread.g_setG_other _ _ _ _ (by decide)).trans (Thread.g_setG_same _ _ _ (by decide))

theorem Thread.atEntry_g (x : Thread) (pc bank reason t : Nat) {r : Nat} (h1 : r ≠ 1) (h2 : r ≠ 2) : (x.atEntry pc bank reason t).g r = x.g r := by
  unfold Thread.atEntry
  split
  · exact Thread.g_setG_other _ _ _ _ h1
  · exact (Thread.g_setG_other _ _ _ _ h2).trans (Thread.g_setG_other _ _ _ _ h1)

/-- A long-work thread that has an entry and no reservation open restarts there. -/
theorem State.restartThr_restarted (s : State) {tid pc : Nat} (reason : Nat) (h : tid < 6144) (he : s.longEntry tid = some pc)
    (hr : (s.thr tid).holdsResv = false) : s.restarted (s.restartThr tid reason) tid pc reason := by
  obtain ⟨hown, hthr⟩ := s.poison_quiet hr
  have hsp (sp : Nat) : (s.poison tid).spindle sp = s.spindle sp := by
    have e := congrArg (fun m => AMap.getD (Mules.spindles m) sp Spindle.reset) hown.2.1
    exact e
  have hbank : (s.poison tid).activeBank (spOf tid) = s.activeBank (spOf tid) := State.rd_congr hown.csr _
  have he' : (s.poison tid).longEntry tid = some pc := by rw [State.longEntry_congr (State.activeImage_congr (hsp _) hbank), he]
  rw [s.restartThr_eq reason he', hbank]
  have hsup := (s.poison tid).supersede_ownChange tid (if tOf tid = 0 then [1] else [1, 2])
  obtain ⟨ps, hps⟩ := (s.poison tid).supersede_thr tid (if tOf tid = 0 then [1] else [1, 2])
  have hall := (hown.ownChange.trans hsup).modThr fun x => x.atEntry pc (s.activeBank (spOf tid)) reason (tOf tid)
  have hrec : (((s.poison tid).supersede tid (if tOf tid = 0 then [1] else [1, 2])).modThr tid fun x =>
      x.atEntry pc (s.activeBank (spOf tid)) reason (tOf tid)).thr tid =
        { s.thr tid with resv := (s.thr tid).resv.stop, pend := ps }.atEntry pc (s.activeBank (spOf tid)) reason (tOf tid) := by
    rw [State.thr_modThr_same, hps, hthr]
  generalize ((s.poison tid).supersede tid (if tOf tid = 0 then [1] else [1, 2])).modThr tid (fun x =>
      x.atEntry pc (s.activeBank (spOf tid)) reason (tOf tid)) = u at hall hrec
  obtain ⟨hpc, hbk, hloops, hreq, hstag⟩ := Thread.atEntry_fields { s.thr tid with resv := (s.thr tid).resv.stop, pend := ps } pc
    (s.activeBank (spOf tid)) reason (tOf tid)
  constructor
  case ts => exact State.setTs_ts_same _ h (by decide)
  case pc => rw [State.setTs_thr, hrec, hpc]
  case bank => rw [State.setTs_thr, hrec, hbk]
  case loops => rw [State.setTs_thr, hrec, hloops]
  case request => rw [State.setTs_thr, hrec, hreq]
  case reason => rw [State.setTs_thr, hrec, Thread.atEntry_reason]
  case regs => intro r h1 h2; rw [State.setTs_thr, hrec, Thread.atEntry_g _ _ _ _ _ h1 h2]; rfl
  case staging => rw [State.setTs_thr, hrec, hstag]
  case threads => intro v hv; rw [State.setTs_thr, hall.threads v hv]
  case only => exact hall.only.setTs _ _
  case csr => exact (State.regsKept_of_csr hall.csr _).trans (u.setTs_regsKept tid tsRun)
  case mules => rw [State.setTs_mules]; exact hall.mules
  case queues => rw [State.setTs_yarn]; exact hall.queues

end Sys2Proof.Machine
end

section
/-! The all-wait detector, the debugger's halt and RESUME (R79 to R83, R114; O12). -/

namespace Sys2Proof.Machine

open Sys2Proof

/-! ### The all-wait detector (R79, R80) -/

theorem isStuck_iff (st : Nat) : isStuck st = true ↔ st = tsWait ∨ st = tsYwait ∨ st = tsFault := by
  simp [isStuck, or_assoc]

theorem mem_threadsOf {sp k : Nat} (h : k < 8) : 8 * sp + k ∈ threadsOf sp :=
  List.mem_map.mpr ⟨k, List.mem_range.mpr h, rfl⟩

theorem mem_workersOf_iff {sp u : Nat} : u ∈ workersOf sp ↔ ∃ k, 1 ≤ k ∧ k < 8 ∧ u = 8 * sp + k := by
  simp only [workersOf, List.mem_map, List.mem_range, tidOf]
  constructor
  · rintro ⟨t, ht, rfl⟩; exact ⟨t + 1, by omega, by omega, rfl⟩
  · rintro ⟨k, h1, h8, rfl⟩; exact ⟨k - 1, by omega, by omega⟩

/-- Every thread of a spindle whose all-wait condition holds waits or stands in FAULT. -/
theorem State.allWait_stuck {s : State} {sp k : Nat} (h : s.allWait sp = true) (hk : k < 8) : isStuck (s.ts (8 * sp + k)) = true := by
  simp only [State.allWait, Bool.and_eq_true, List.all_eq_true] at h
  have ht := (h.1 _ (mem_threadsOf hk)).1
  simp only [State.threadWaits, Bool.and_eq_true] at ht
  exact ht.1.1

theorem raisedF_hi {sp : Nat} : (raisedF sp).hi < 64 := by simp only [raisedF, logOf]; omega
theorem escalatedF_hi {sp : Nat} : (escalatedF sp).hi < 64 := by simp only [escalatedF, logOf]; omega

theorem raisedF_apart_deadlocks (sp : Nat) : (raisedF sp).apart (F.MULE_STAT.DEADLOCKS.CNT (muleOf sp)) = true := by
  simp only [FRef.apart_iff, raisedF, F.MULE_STAT.DEADLOCKS.CNT, F.MULE_DL_STATUS.RAISED]; omega

theorem raisedF_bits (sp : Nat) : (raisedF sp).bits = 1 := by simp only [raisedF, FRef.bits]; omega
theorem escalatedF_bits (sp : Nat) : (escalatedF sp).bits = 1 := by simp only [escalatedF, FRef.bits]; omega

/-- The state of a deadlock that has been raised. -/
def State.deadlocked (s : State) (sp : Nat) : State :=
  (((s.raise (tidOf sp 0) evDeadlock).count (F.MULE_STAT.DEADLOCKS.CNT (muleOf sp)) 1).wr (raisedF sp) 1).modSpindle sp
    (fun x => { x with windowAt := some s.clk.cycles })

theorem exec_deadlock {s : State} {sp c : Nat} (hc : (s.spindle sp).allWaitAt = some c) : exec (.deadlock sp) s =
    if s.allWait sp = false ∨ (s.spindle sp).windowAt.isSome ∨ s.clk.cycles < c + 2 * s.stitchLen then .next s else .next (s.deadlocked sp) := by
  show execDeadlock sp s = _
  rw [execDeadlock, hc]
  rfl

theorem State.deadlocked_facts (s : State) (sp : Nat) : (s.deadlocked sp).rd (raisedF sp) = 1 ∧
    ((s.deadlocked sp).thr (8 * sp)).events = (s.thr (8 * sp)).events ||| 256#32 ∧
    (s.deadlocked sp).rd (F.MULE_STAT.DEADLOCKS.CNT (muleOf sp)) = min (s.rd (F.MULE_STAT.DEADLOCKS.CNT (muleOf sp)) + 1) (2 ^ 32 - 1) ∧
    ((s.deadlocked sp).spindle sp).windowAt = some s.clk.cycles ∧
    s.regsKept (s.deadlocked sp) [raisedF sp, F.MULE_STAT.DEADLOCKS.CNT (muleOf sp)] ∧
    (∀ u, u ≠ 8 * sp → (s.deadlocked sp).thr u = s.thr u) ∧ s.yarnsOnly (s.deadlocked sp) ∧ (s.deadlocked sp).yarn = s.yarn := by
  refine ⟨?_, ?_, ?_, ?_, ?_, fun u hu => ?_, ?_, rfl⟩
  · rw [State.deadlocked, State.modSpindle_rd, State.rd_wr_same _ _ _ raisedF_hi, raisedF_bits]
    rfl
  · rw [State.deadlocked, State.modSpindle_thr, State.wr_thr, State.count_thr]
    exact s.raise_events (8 * sp) evDeadlock
  · rw [State.deadlocked, State.modSpindle_rd, State.rd_wr_apart _ _ _ _ raisedF_hi (raisedF_apart_deadlocks sp),
      State.rd_count_same _ _ _ (show 31 < 64 by decide)]
    rfl
  · rw [State.deadlocked, State.spindle_modSpindle_same]
  · exact ((((s.regsKept_refl _).raise _ _).count 1 (by simp) (show 31 < 64 by decide)).wr 1 (by simp) raisedF_hi).modSpindle _ _
  · rw [State.deadlocked, State.modSpindle_thr, State.wr_thr, State.count_thr]
    exact s.thr_modThr_other (8 * sp) u _ hu
  · exact (((s.yarnsOnly_refl.raise _ _).count _ _).wr _ _).modSpindle _ _

/-- The state of an escalation. -/
def State.escalated (s : State) (sp : Nat) : State :=
  ((((s.wr (raisedF sp) 0).modSpindle sp (fun x => { x with windowAt := none, allWaitAt := none })).wr (escalatedF sp) 1).wr
    (F.MULE_EVENT.DL_ESC (muleOf sp)) 1).count (F.MULE_STAT.DL_ESCALATIONS.CNT (muleOf sp)) 1

theorem exec_escalationWindowEnd {s : State} {sp c : Nat} (hc : (s.spindle sp).windowAt = some c) : exec (.escalationWindowEnd sp) s =
    if s.clk.cycles < c + 2 * s.stitchLen ∨ (workersOf sp).all (fun t => isStuck (s.ts t)) = false then .next s
    else .next ((s.escalated sp).event cobblerEvq (1 <<< 59 ||| muleOf sp <<< 42 ||| logOf sp <<< 38)) := by
  show execEscalationWindowEnd sp s = _
  rw [execEscalationWindowEnd, hc]
  rfl

/-- The registers of a mule lie below those of the Cobbler. -/
theorem cobblerEvq_apart {g : FRef} (h : g.addr < 0x600000) : (evqHead cobblerEvq).apart g = true := by
  simp only [FRef.apart_iff, evqHead, cobblerEvq]; omega

theorem State.escalated_facts (s : State) (sp : Nat) : (s.escalated sp).rd (raisedF sp) = 0 ∧ (s.escalated sp).rd (escalatedF sp) = 1 ∧
    (s.escalated sp).rd (F.MULE_EVENT.DL_ESC (muleOf sp)) = 1 ∧
    (s.escalated sp).rd (F.MULE_STAT.DL_ESCALATIONS.CNT (muleOf sp)) = min (s.rd (F.MULE_STAT.DL_ESCALATIONS.CNT (muleOf sp)) + 1) (2 ^ 32 - 1) ∧
    ((s.escalated sp).spindle sp).windowAt = none ∧ (s.escalated sp).mules.threads = s.mules.threads ∧ (s.escalated sp).fifos = s.fifos := by
  have hcnt (g : FRef) (t : State) (hg : g.addr % 0x10000 < 0x3000) :
      (t.count (F.MULE_STAT.DL_ESCALATIONS.CNT (muleOf sp)) 1).rd g = t.rd g :=
    State.rd_count_apart _ _ _ _ (show 31 < 64 by decide) (by simp only [FRef.apart_iff, F.MULE_STAT.DL_ESCALATIONS.CNT]; omega)
  have hesc (g : FRef) (t : State) (hg : 0x100 ≤ g.addr % 0x10000 ∨ g.addr % 0x10000 = 0 ∨ g.hi < 16) : (t.wr (escalatedF sp) 1).rd g = t.rd g :=
    State.rd_wr_apart _ _ _ _ escalatedF_hi (by simp only [FRef.apart_iff, escalatedF, F.MULE_DL_STATUS.RAISED, logOf]; omega)
  have hev (g : FRef) (t : State) (hg : g.addr % 0x10000 ≠ 0) : (t.wr (F.MULE_EVENT.DL_ESC (muleOf sp)) 1).rd g = t.rd g :=
    State.rd_wr_apart _ _ _ _ (show 7 < 64 by decide) (by simp only [FRef.apart_iff, F.MULE_EVENT.DL_ESC]; omega)
  have hraised : (raisedF sp).addr % 0x10000 = 0x20 ∧ (escalatedF sp).addr % 0x10000 = 0x20 ∧ (raisedF sp).hi < 16 := by
    simp only [raisedF, escalatedF, F.MULE_DL_STATUS.RAISED, logOf]; omega
  obtain ⟨hra, hea, hrh⟩ := hraised
  refine ⟨?_, ?_, ?_, ?_, ?_, rfl, rfl⟩
  · rw [State.escalated, hcnt _ _ (by omega), hev _ _ (by omega), hesc _ _ (by omega), State.modSpindle_rd, State.rd_wr_same _ _ _ raisedF_hi]
    exact Nat.zero_mod _
  · rw [State.escalated, hcnt _ _ (by omega), hev _ _ (by omega), State.rd_wr_same _ _ _ escalatedF_hi, escalatedF_bits]
    rfl
  · rw [State.escalated, hcnt _ _ (by simp only [F.MULE_EVENT.DL_ESC]; omega), State.rd_wr_same _ _ _ (show 7 < 64 by decide)]
    rfl
  · have haddr : (F.MULE_STAT.DL_ESCALATIONS.CNT (muleOf sp)).addr % 0x10000 = 0x301C := by simp only [F.MULE_STAT.DL_ESCALATIONS.CNT]; omega
    rw [State.escalated, State.rd_count_same _ _ _ (show 31 < 64 by decide), hev _ _ (by omega), hesc _ _ (by omega), State.modSpindle_rd,
      State.rd_wr_apart _ _ _ _ raisedF_hi (by simp only [FRef.apart_iff]; omega)]
    rfl
  · exact congrArg Spindle.windowAt (State.spindle_modSpindle_same (s.wr (raisedF sp) 0) sp fun x => { x with windowAt := none, allWaitAt := none })

theorem State.event_entries (s : State) {q : FifoRef} (e : Nat) (h : (s.fifo q).entries.length < q.cap) :
    ((s.event q e).fifo q).entries = (s.fifo q).entries ++ [e] := by
  rw [State.event]
  refine (congrArg (fun u : State => (u.fifo q).entries) (if_pos h)).trans ?_
  exact congrArg Fifo.entries (AMap.getD_setD_same _ _ _ _)

/-- The escalation's word to the Cobbler. -/
theorem escalationWord_eq {m k : Nat} (hm : m < 2 ^ 17) (hk : k < 16) : 1 <<< 59 ||| m <<< 42 ||| k <<< 38 = 2 ^ 59 + m * 2 ^ 42 + k * 2 ^ 38 := by
  have hk' : k <<< 38 < 2 ^ 42 := by rw [Nat.shiftLeft_eq]; omega
  have hm' : m <<< 42 + k <<< 38 < 2 ^ 59 := by rw [Nat.shiftLeft_eq]; omega
  rw [Nat.or_assoc, ← Nat.shiftLeft_add_eq_or_of_lt hk', ← Nat.shiftLeft_add_eq_or_of_lt hm', Nat.shiftLeft_eq, Nat.shiftLeft_eq, Nat.shiftLeft_eq]
  omega

/-! ### Masks -/

theorem testBits_single : ∀ k < 8, (List.range 8).filter (fun t => (2 ^ k).testBit t) = [k] := by decide

theorem testBits_above : ∀ k < 8, ∀ mask < 2 ^ k,
    (List.range 8).filter (fun t => (2 ^ k + mask).testBit t) = (List.range 8).filter (fun t => mask.testBit t) ++ [k] := by decide

theorem maskThreads_single (sp : Nat) {k : Nat} (h : k < 8) : maskThreads sp (2 ^ k) = [8 * sp + k] := by
  rw [maskThreads, testBits_single k h]; rfl

theorem maskThreads_zero (sp : Nat) : maskThreads sp 0 = [] := by simp [maskThreads]

theorem maskThreads_above (sp : Nat) {k mask : Nat} (h : k < 8) (hm : mask < 2 ^ k) :
    maskThreads sp (2 ^ k + mask) = maskThreads sp mask ++ maskThreads sp (2 ^ k) := by
  rw [maskThreads, testBits_above k h mask hm, List.map_append, maskThreads_single sp h]; rfl

theorem foldl_maskThreads_above (sp : Nat) {k mask : Nat} (h : k < 8) (hm : mask < 2 ^ k) (f : State → Nat → State) (s : State) :
    (maskThreads sp (2 ^ k + mask)).foldl f s = (maskThreads sp (2 ^ k)).foldl f ((maskThreads sp mask).foldl f s) := by
  rw [maskThreads_above sp h hm, List.foldl_append]

/-! ### RESUME of a faulted thread (R81) -/

section clear
variable (s : State) (tid : Nat)

theorem State.clearFault_mules : (s.clearFault tid).mules = s.mules := by simp only [State.clearFault, State.wr_mules]

theorem State.clearFault_yarnsOnly : s.yarnsOnly (s.clearFault tid) := (((s.yarnsOnly_refl.wr _ _).wr _ _).wr _ _).wr _ _

/-- The fields of a fault's record. -/
abbrev recordFields (tid : Nat) : List FRef := [faultF tid 0, faultF tid 1, faultF tid 2, faultF tid 3]

theorem State.clearFault_regsKept : s.regsKept (s.clearFault tid) (recordFields tid) :=
  ((((s.regsKept_refl _).wr _ (by simp) (faultF_hi _ _)).wr _ (by simp) (faultF_hi _ _)).wr _ (by simp) (faultF_hi _ _)).wr _ (by simp)
    (faultF_hi _ _)

theorem recordFields_addr {tid : Nat} {g : FRef} (hg : g ∈ recordFields tid) : 0x1000 ≤ g.addr % 0x10000 ∧ g.addr % 0x10000 < 0x2000 := by
  simp only [List.mem_cons, List.not_mem_nil, or_false] at hg
  rcases hg with rfl | rfl | rfl | rfl <;> simp only [faultF, F.MULE_FAULT.W, logOf, tOf] <;> omega

/-- Clearing a record changes no register but the record. -/
theorem State.clearFault_rd_other {g : FRef} (hg : g.addr % 0x10000 < 0x1000) : (s.clearFault tid).rd g = s.rd g :=
  s.clearFault_regsKept tid g fun f hf => .inl fun heq => by
    have hf := recordFields_addr hf
    rw [heq] at hg
    omega

theorem State.clearFault_rd {w : Nat} (h : w < 4) : (s.clearFault tid).rd (faultF tid w) = 0 := by
  have other (t : State) (u v : Nat) (hu : u ≠ w) : (t.wr (faultF tid u) v).rd (faultF tid w) = t.rd (faultF tid w) :=
    State.rd_wr_apart _ _ _ _ (faultF_hi tid u) (faultF_apart hu)
  have same (t : State) : (t.wr (faultF tid w) 0).rd (faultF tid w) = 0 := by
    rw [State.rd_wr_same _ _ _ (faultF_hi tid w)]; exact Nat.zero_mod _
  rw [State.clearFault]
  match w, h with
  | 0, _ => rw [other _ 3 _ (by decide), other _ 2 _ (by decide), other _ 1 _ (by decide), same]
  | 1, _ => rw [other _ 3 _ (by decide), other _ 2 _ (by decide), same]
  | 2, _ => rw [other _ 3 _ (by decide), same]
  | 3, _ => rw [same]

end clear

theorem thrStateF_addr_mod (tid : Nat) : (thrStateF tid).addr % 0x10000 < 0x1000 := by
  simp only [thrStateF, F.MULE_THR_STATE.STATE, muleOf, spOf, logOf]; omega
theorem roleF_addr_mod (sp : Nat) : (roleF sp).addr % 0x10000 < 0x1000 := by simp only [roleF, F.MULE_ROLE.ROLE, logOf]; omega
theorem activeBank_addr_mod (sp : Nat) : (F.MULE_THR_STATE.ACTIVE_BANK (muleOf sp) (logOf sp)).addr % 0x10000 < 0x1000 := by
  simp only [F.MULE_THR_STATE.ACTIVE_BANK, logOf]; omega

theorem State.bounded_congr {s t : State} {tid : Nat} (h : t.rd (roleF (spOf tid)) = s.rd (roleF (spOf tid))) : t.bounded tid = s.bounded tid := by
  rw [State.bounded, State.bounded, State.role, State.role, h]

/-- The state of a fault's record cleared. -/
def State.faultCleared (s : State) (tid : Nat) : State :=
  if tOf tid = 0 then (s.clearFault tid).modSpindle (spOf tid) (fun x => { x with t0Fault := false }) else s.clearFault tid

section cleared
variable (s : State) (tid : Nat)

theorem State.faultCleared_csr : (s.faultCleared tid).csr = (s.clearFault tid).csr := by unfold State.faultCleared; split <;> rfl
theorem State.faultCleared_thr (u : Nat) : (s.faultCleared tid).thr u = s.thr u := by
  unfold State.faultCleared
  split
  · rw [State.modSpindle_thr, State.thr, State.clearFault_mules]; rfl
  · rw [State.thr, State.clearFault_mules]; rfl

theorem State.faultCleared_image (sp bank : Nat) : ((s.faultCleared tid).spindle sp).image bank = (s.spindle sp).image bank := by
  have hclear : (s.clearFault tid).spindle sp = s.spindle sp := by rw [State.spindle, State.clearFault_mules]; rfl
  unfold State.faultCleared
  split
  · by_cases hsp : sp = spOf tid
    · subst hsp; rw [State.spindle_modSpindle_same, hclear]; rfl
    · rw [State.spindle_modSpindle_other _ _ _ _ hsp, hclear]
  · rw [hclear]

theorem State.faultCleared_rd_other {g : FRef} (hg : g.addr % 0x10000 < 0x1000) : (s.faultCleared tid).rd g = s.rd g :=
  (State.rd_congr (s.faultCleared_csr tid) g).trans (s.clearFault_rd_other tid hg)

theorem State.faultCleared_bounded : (s.faultCleared tid).bounded tid = s.bounded tid :=
  State.bounded_congr (s.faultCleared_rd_other tid (roleF_addr_mod _))

theorem State.faultCleared_activeImage (sp : Nat) : (s.faultCleared tid).activeImage sp = s.activeImage sp := by
  have hbank : (s.faultCleared tid).activeBank sp = s.activeBank sp := s.faultCleared_rd_other tid (activeBank_addr_mod sp)
  rw [State.activeImage, State.activeImage, hbank, State.faultCleared_image]

theorem State.faultCleared_yarnsOnly : s.yarnsOnly (s.faultCleared tid) := by
  unfold State.faultCleared
  split
  · exact (s.clearFault_yarnsOnly tid).modSpindle _ _
  · exact s.clearFault_yarnsOnly tid

theorem State.faultCleared_threads : (s.faultCleared tid).mules.threads = s.mules.threads := by
  unfold State.faultCleared
  split
  · show (s.clearFault tid).mules.threads = _
    rw [s.clearFault_mules]
  · rw [s.clearFault_mules]

end cleared

theorem faultF_apart_tsFields (tid : Nat) {w : Nat} (hw : w < 4) : ∀ f ∈ tsFields tid,
    (faultF tid w).addr ≠ f.addr ∨ (faultF tid w).hi < f.lo ∨ f.hi < (faultF tid w).lo := by
  intro f hf
  simp only [List.mem_cons, List.not_mem_nil, or_false] at hf
  rcases hf with rfl | rfl <;>
    simp only [faultF, F.MULE_FAULT.W, thrStateF, haltedF, F.MULE_THR_STATE.STATE, F.MULE_DBG_HALT.MASK, logOf, tOf] <;> omega

theorem State.resumeThr_eq {s : State} {tid : Nat} (hf : s.ts tid = tsFault) : s.resumeThr tid =
    if (s.faultCleared tid).bounded tid then (s.faultCleared tid).setTs tid ((s.faultCleared tid).restState tid)
    else (s.faultCleared tid).restartThr tid (if ((s.faultCleared tid).thr tid).restartDue then rsSwap else rsFault) := by
  rw [State.resumeThr, if_neg (by simpa using hf)]
  rfl

/-- A bounded thread in FAULT returns to rest. -/
theorem State.resumeThr_bounded {s : State} {tid : Nat} (hf : s.ts tid = tsFault) (hb : s.bounded tid = true) :
    s.resumeThr tid = (s.faultCleared tid).setTs tid (s.restState tid) := by
  rw [State.resumeThr_eq hf, if_pos ((s.faultCleared_bounded tid).trans hb), State.restState_congr (s.faultCleared_activeImage tid _)]

/-- A long-work thread in FAULT restarts. -/
theorem State.resumeThr_longWork {s : State} {tid pc : Nat} (h : tid < 6144) (hf : s.ts tid = tsFault) (hb : s.bounded tid = false)
    (hd : (s.thr tid).restartDue = false) (he : s.longEntry tid = some pc) (hr : (s.thr tid).holdsResv = false) :
    (s.faultCleared tid).restarted (s.resumeThr tid) tid pc rsFault := by
  have hb' : ¬ (s.faultCleared tid).bounded tid = true := by rw [s.faultCleared_bounded, hb]; exact Bool.false_ne_true
  have hd' : ¬ ((s.faultCleared tid).thr tid).restartDue = true := by rw [s.faultCleared_thr, hd]; exact Bool.false_ne_true
  rw [State.resumeThr_eq hf, if_neg hb', if_neg hd']
  exact State.restartThr_restarted _ _ h ((State.longEntry_congr (s.faultCleared_activeImage tid _)).trans he) (by rw [s.faultCleared_thr, hr])

theorem exec_thrCtrlResume (s : State) {sp : Nat} (h : sp < 768) (mask : Nat) :
    exec (.thrCtrlResume sp mask) s = .next ((maskThreads sp mask).foldl (fun s t => s.resumeThr t) s) := if_neg (by omega)

theorem exec_thrCtrlResume_single (s : State) {sp k : Nat} (h : sp < 768) (hk : k < 8) :
    exec (.thrCtrlResume sp (2 ^ k)) s = .next (s.resumeThr (8 * sp + k)) := by
  rw [exec_thrCtrlResume s h, maskThreads_single sp hk]; rfl

/-! ### The debugger (R83) -/

/-- What HALT, STEP and RESUME do to one thread. -/
def State.haltAsked (hard : Bool) (s : State) (t : Nat) : State :=
  if s.ts t = tsOff ∨ s.ts t = tsHalt then s else s.modThr t (fun x => { x with haltReq := some (hard, s.clk.cycles) })
def State.stepAsked (s : State) (t : Nat) : State := if s.ts t = tsHalt then s.modThr t (fun x => { x with stepDue := true }) else s
def State.haltEnded (s : State) (t : Nat) : State :=
  if s.ts t ≠ tsHalt then s
  else if (s.thr t).restartDue then (s.setTs t tsRun).restartThr t rsSwap
  else (s.modThr t (fun x => { x with stepDue := false })).setTs t (s.thr t).haltFrom

section debug
variable {s : State} {sp : Nat} (h : sp < 768) (mask : Nat) (hard : Bool)
include h

theorem exec_dbgHalt_open (ho : s.cob.debugOpen = true) :
    exec (.dbgHalt sp mask hard) s = .next ((maskThreads sp mask).foldl (State.haltAsked hard) s) := by
  show execDbgHalt sp mask hard s = _
  rw [execDbgHalt, if_neg (by omega), State.dbgHalt, State.debugGate, if_pos ho]
  rfl

theorem exec_dbgStep_open (ho : s.cob.debugOpen = true) : exec (.dbgStep sp mask) s = .next ((maskThreads sp mask).foldl State.stepAsked s) := by
  show execDbgStep sp mask s = _
  rw [execDbgStep, if_neg (by omega), State.dbgStep, State.debugGate, if_pos ho]
  rfl

theorem exec_dbgResume_open (ho : s.cob.debugOpen = true) : exec (.dbgResume sp mask) s = .next ((maskThreads sp mask).foldl State.haltEnded s) := by
  show execDbgResume sp mask s = _
  rw [execDbgResume, if_neg (by omega), State.dbgResume, State.debugGate, if_pos ho]
  rfl

/-- With debug access closed each of them records its access and does nothing else. -/
theorem exec_dbg_closed (ho : s.cob.debugOpen = false) {c : Instr}
    (hc : c = .dbgHalt sp mask hard ∨ c = .dbgStep sp mask ∨ c = .dbgResume sp mask) :
    exec c s = .next (s.csrError causeLocked (F.MULE_DBG_HALT.MASK (muleOf sp) (logOf sp)).addr true) := by
  have hgate (k : State → State) : s.debugGate sp k = s.csrError causeLocked (F.MULE_DBG_HALT.MASK (muleOf sp) (logOf sp)).addr true :=
    if_neg (by rw [ho]; exact Bool.false_ne_true)
  rcases hc with rfl | rfl | rfl
  · exact (if_neg (by omega)).trans (congrArg Host.Outcome.next (hgate _))
  · exact (if_neg (by omega)).trans (congrArg Host.Outcome.next (hgate _))
  · exact (if_neg (by omega)).trans (congrArg Host.Outcome.next (hgate _))

end debug

/-! ### The halt that takes effect -/

/-- The state of a thread that has been halted, from the state in which a hard halt has stopped its reservation. -/
def State.halted (s : State) (tid st : Nat) : State := (s.modThr tid (fun x => { x with haltReq := none, haltFrom := st })).setTs tid tsHalt

theorem State.haltThr_eq (s : State) (tid : Nat) (hard forced : Bool) : s.haltThr tid hard forced =
    if forced then ((if hard then s.poison tid else s).halted tid (s.ts tid)).wr (F.MULE_DBG_HALT.FORCED (muleOf (spOf tid)) (logOf (spOf tid))) 1
    else (if hard then s.poison tid else s).halted tid (s.ts tid) := rfl

theorem State.halted_thr (s : State) (tid st : Nat) : (s.halted tid st).thr tid = { s.thr tid with haltReq := none, haltFrom := st } := by
  rw [State.halted, State.setTs_thr, State.thr_modThr_same]

theorem State.halted_thr_other (s : State) {tid u : Nat} (st : Nat) (h : u ≠ tid) : (s.halted tid st).thr u = s.thr u := by
  rw [State.halted, State.setTs_thr, State.thr_modThr_other _ _ _ _ h]

theorem State.halted_ts (s : State) {tid : Nat} (st : Nat) (h : tid < 6144) : (s.halted tid st).ts tid = tsHalt := State.setTs_ts_same _ h (by decide)

theorem State.halted_regsKept (s : State) (tid st : Nat) : s.regsKept (s.halted tid st) (tsFields tid) :=
  ((s.regsKept_refl _).modThr _ _).setTs _ (by simp) (by simp)

/-- A halt that finds no reservation open. -/
theorem State.haltThr_quiet (s : State) {tid : Nat} (h : tid < 6144) (hard : Bool) (hr : (s.thr tid).holdsResv = false) :
    ∃ t, s.haltThr tid hard false = t ∧ t.ts tid = tsHalt ∧ t.rd (haltedF tid) = 1 ∧
      t.thr tid = { s.thr tid with haltReq := none, haltFrom := s.ts tid, resv := if hard then (s.thr tid).resv.stop else (s.thr tid).resv } ∧
      s.regsKept t (tsFields tid) ∧ (∀ u, u ≠ tid → t.thr u = s.thr u) ∧ t.yarn = s.yarn := by
  obtain ⟨p, hp, hown, hthr⟩ : ∃ p, (if hard then s.poison tid else s) = p ∧ s.ownRecord p tid ∧
      p.thr tid = { s.thr tid with resv := if hard then (s.thr tid).resv.stop else (s.thr tid).resv } := by
    cases hard with
    | false => exact ⟨_, rfl, s.ownRecord_refl tid, rfl⟩
    | true => exact ⟨_, rfl, s.poison_quiet hr⟩
  refine ⟨p.halted tid (s.ts tid), ?_, p.halted_ts _ h, p.modThr tid _ |>.setTs_halted h tsHalt, ?_, ?_, fun u hu => ?_, ?_⟩
  · rw [State.haltThr_eq, hp]; rfl
  · rw [State.halted_thr, hthr]
  · exact (State.regsKept_of_csr hown.csr _).trans (p.halted_regsKept tid _)
  · rw [State.halted_thr_other _ _ hu, hown.2.2 u hu]
  · have hyarn := congrArg State.yarn hown.1
    exact (State.setTs_yarn _ _ _).trans hyarn

/-! ### A reservation closed poisoned -/

theorem State.notify_stale_csr (s : State) (src dst tag epoch : Nat) : (s.notify src stStaleEpoch dst tag epoch).csr = s.csr := by
  unfold State.notify
  split <;> rfl

/-- Closing a reservation changes no register but the counters of stale messages. -/
theorem State.closeResv_words (s : State) (dst id : Nat) (kind : MsgKind) :
    State.wordsKept (fun a => a % 0x10000 ≠ 0x3000) s (s.closeResv dst id kind).2 := by
  unfold State.closeResv
  split
  · exact s.wordsKept_refl
  · split
    · have hq : State.wordsKept (fun a => a % 0x10000 ≠ 0x3000) s
          (s.setQueue dst ((s.queueAt dst).filter (fun x => x.id != id))) := s.wordsKept_refl
      exact (hq.count (f := F.MULE_STAT.STALE_DISCARD.CNT _) (by simp only [F.MULE_STAT.STALE_DISCARD.CNT]; omega) 1).of_csr
        (State.notify_stale_csr _ _ _ _ _)
    · exact s.wordsKept_refl

/-- The poisoning of an open reservation. -/
theorem State.poison_opened {s : State} {tid id dst since : Nat} (h : (s.thr tid).resv = .opened id dst since) :
    s.poison tid = (((s.closeResv dst id .poisoned).2).modThr tid fun x => { x with resv := .poisoned }).count
      (F.MULE_STAT.POISONED.CNT (muleOf (spOf tid))) 1 := by
  rw [State.poison, h]

theorem State.poison_opened_resv {s : State} {tid id dst since : Nat} (h : (s.thr tid).resv = .opened id dst since) :
    ((s.poison tid).thr tid).resv = .poisoned := by
  rw [State.poison_opened h, State.count_thr, State.thr_modThr_same]

theorem State.poison_opened_count {s : State} {tid id dst since : Nat} (h : (s.thr tid).resv = .opened id dst since) :
    (s.poison tid).rd (F.MULE_STAT.POISONED.CNT (muleOf (spOf tid))) =
      min (s.rd (F.MULE_STAT.POISONED.CNT (muleOf (spOf tid))) + 1) (2 ^ 32 - 1) := by
  rw [State.poison_opened h, State.rd_count_same _ _ _ (show 31 < 64 by decide), State.modThr_rd,
    (s.closeResv_words dst id .poisoned).rd (by simp only [F.MULE_STAT.POISONED.CNT]; omega)]
  rfl

theorem State.told.ts {s t : State} (h : s.told t) {tid : Nat} (ht : tid < 6144) : t.ts tid = s.ts tid :=
  State.ts_of_rd (h.words.rd (muleWord_thrStateF ht))

/-- A halt that poisons an open reservation. -/
theorem State.haltThr_poisons (s : State) {tid id dst since : Nat} (h : tid < 6144) (forced : Bool) (hr : (s.thr tid).resv = .opened id dst since) :
    ∃ t, s.haltThr tid true forced = t ∧ t.ts tid = tsHalt ∧ (t.thr tid).resv = .poisoned ∧ (t.thr tid).haltFrom = s.ts tid ∧
      t.rd (F.MULE_STAT.POISONED.CNT (muleOf (spOf tid))) = min (s.rd (F.MULE_STAT.POISONED.CNT (muleOf (spOf tid))) + 1) (2 ^ 32 - 1) ∧
      (forced = true → t.rd (F.MULE_DBG_HALT.FORCED (muleOf (spOf tid)) (logOf (spOf tid))) = 1) := by
  have hcount : ((s.poison tid).halted tid (s.ts tid)).rd (F.MULE_STAT.POISONED.CNT (muleOf (spOf tid))) =
      min (s.rd (F.MULE_STAT.POISONED.CNT (muleOf (spOf tid))) + 1) (2 ^ 32 - 1) := by
    refine ((s.poison tid).halted_regsKept tid _ _ fun f hf => ?_).trans (State.poison_opened_count hr)
    simp only [List.mem_cons, List.not_mem_nil, or_false] at hf
    rcases hf with rfl | rfl <;>
      simp only [F.MULE_STAT.POISONED.CNT, thrStateF, haltedF, F.MULE_THR_STATE.STATE, F.MULE_DBG_HALT.MASK, logOf] <;> omega
  have hthr := (s.poison tid).halted_thr tid (s.ts tid)
  have hresv := State.poison_opened_resv hr
  cases forced with
  | false =>
    refine ⟨_, rfl, State.halted_ts _ _ h, ?_, ?_, hcount, fun hf => absurd hf Bool.false_ne_true⟩
    · exact (congrArg Thread.resv hthr).trans hresv
    · exact congrArg Thread.haltFrom hthr
  | true =>
    refine ⟨_, s.haltThr_eq tid true true, ?_, ?_, ?_, ?_, fun _ => ?_⟩
    · refine (State.ts_of_rd (State.rd_wr_apart _ _ _ _ (show 24 < 64 by decide) ?_)).trans (State.halted_ts (s.poison tid) (s.ts tid) h)
      simp only [FRef.apart_iff, thrStateF, F.MULE_THR_STATE.STATE, F.MULE_DBG_HALT.FORCED, logOf]; omega
    · exact (congrArg Thread.resv hthr).trans hresv
    · exact congrArg Thread.haltFrom hthr
    · refine (State.rd_wr_apart _ _ _ _ (show 24 < 64 by decide) ?_).trans hcount
      simp only [FRef.apart_iff, F.MULE_STAT.POISONED.CNT, F.MULE_DBG_HALT.FORCED, logOf]; omega
    · exact State.rd_wr_same _ _ _ (show 24 < 64 by decide)

theorem State.setTs_activeBank (s : State) (tid st sp : Nat) : (s.setTs tid st).activeBank sp = s.activeBank sp := by
  refine s.setTs_regsKept tid st _ fun f hf => ?_
  simp only [List.mem_cons, List.not_mem_nil, or_false] at hf
  rcases hf with rfl | rfl <;>
    simp only [F.MULE_THR_STATE.ACTIVE_BANK, thrStateF, haltedF, F.MULE_THR_STATE.STATE, F.MULE_DBG_HALT.MASK, logOf, tOf] <;> omega

theorem State.setTs_activeImage (s : State) (tid st sp : Nat) : (s.setTs tid st).activeImage sp = s.activeImage sp :=
  State.activeImage_congr (State.setTs_spindle _ _ _ _) (s.setTs_activeBank tid st sp)

/-- RESUME of a halted thread whose restart fell due. -/
theorem State.haltEnded_restarts {s : State} {tid pc : Nat} (h : tid < 6144) (hts : s.ts tid = tsHalt) (hd : (s.thr tid).restartDue = true)
    (he : s.longEntry tid = some pc) (hr : (s.thr tid).holdsResv = false) :
    (s.setTs tid tsRun).restarted (s.haltEnded tid) tid pc rsSwap := by
  rw [State.haltEnded, if_neg (by simpa using hts), if_pos hd]
  exact State.restartThr_restarted _ _ h ((State.longEntry_congr (s.setTs_activeImage tid tsRun _)).trans he) (by rw [State.setTs_thr, hr])

theorem exec_softHaltEffect (s : State) (tid : Nat) : exec (.softHaltEffect tid) s = .next ((s.haltDue tid).getD s) := rfl

theorem spOf_add {sp k : Nat} (hk : k < 8) : spOf (8 * sp + k) = sp := by rw [spOf]; omega

/-- A write that names several threads does to each in turn what a write for it alone does. -/
theorem masks_one_by_one {sp k mask : Nat} (hk : k < 8) (hm : mask < 2 ^ k) {c : Nat → Instr} {f : State → Nat → State} {s u : State}
    (hs : ∀ m, exec (c m) s = .next ((maskThreads sp m).foldl f s)) (hu : ∀ m, exec (c m) u = .next ((maskThreads sp m).foldl f u)) :
    exec (c 0) s = .next s ∧ (exec (c mask) s = .next u → exec (c (2 ^ k + mask)) s = exec (c (2 ^ k)) u) := by
  refine ⟨by rw [hs, maskThreads_zero]; rfl, fun h => ?_⟩
  rw [hs] at h
  injection h with h
  rw [hs, hu, foldl_maskThreads_above sp hk hm, h]

theorem State.haltDue_quiet {s : State} {tid c : Nat} {hard : Bool} (hq : (s.thr tid).haltReq = some (hard, c)) (hr : (s.thr tid).holdsResv = false) :
    s.haltDue tid = some (s.haltThr tid hard false) := by
  rw [State.haltDue, hq]
  cases hard with
  | false => exact (if_neg Bool.false_ne_true).trans (if_pos hr)
  | true => exact if_pos rfl

theorem State.haltDue_waits {s : State} {tid c : Nat} (hq : (s.thr tid).haltReq = some (false, c)) (hr : (s.thr tid).holdsResv = true)
    (hlt : s.clk.cycles < c + 64) : s.haltDue tid = none := by
  rw [State.haltDue, hq]
  exact (if_neg Bool.false_ne_true).trans ((if_neg (by rw [hr]; decide)).trans (if_neg (by omega)))

/-- A halt of a thread that holds a reservation: a hard one, or a soft one that has waited. -/
theorem State.haltDue_open {s : State} {tid c : Nat} {hard : Bool} (hq : (s.thr tid).haltReq = some (hard, c)) (hr : (s.thr tid).holdsResv = true)
    (hdue : hard = true ∨ c + 64 ≤ s.clk.cycles) : s.haltDue tid = some (s.haltThr tid true !hard) := by
  rw [State.haltDue, hq]
  cases hard with
  | true => exact if_pos rfl
  | false =>
    exact (if_neg Bool.false_ne_true).trans ((if_neg (by rw [hr]; decide)).trans (if_pos (hdue.resolve_left Bool.false_ne_true)))

theorem Resv.stop_eq (h : Bool) (r : Resv) :
    (if h then r.stop else r) = match h, r with | true, .asked id => .stopped id | _, r => r := by
  cases h <;> cases r <;> rfl

theorem Thread.holdsResv_of_opened {x : Thread} {id dst since : Nat} (h : x.resv = .opened id dst since) : x.holdsResv = true := by
  rw [Thread.holdsResv, h]

end Sys2Proof.Machine

open Sys2Proof Sys2Proof.Machine

/-- Settles O12: the detector and its window, RESUME of faulted threads, and the debugger's halt, with a write of several threads as one write
for each. -/
theorem deadlockHaltAndResume : Obligations.DeadlockHaltAndResume := by
  refine ⟨?_, ?_, ?_, ?_, ?_, ?_, ?_⟩
  · rintro s sp c m hsp rfl hc
    refine ⟨fun ha k hk => (isStuck_iff _).mp (State.allWait_stuck ha hk), fun ha hw hdue => ?_, fun hno => ?_⟩
    · obtain ⟨hr, he, hcnt, hwin, hkept, hthr, honly, hyarn⟩ := s.deadlocked_facts sp
      refine ⟨_, (exec_deadlock hc).trans (if_neg ?_), hr, he, hcnt, hwin, hkept, hthr, honly.csrMules hyarn⟩
      simp [ha, hw]; omega
    · refine (exec_deadlock hc).trans (if_pos ?_)
      rcases hno with h | h | h
      · exact .inl h
      · exact .inr (.inl (Option.isSome_iff_ne_none.mpr h))
      · exact .inr (.inr h)
  · rintro s sp c m hsp rfl hc
    refine ⟨fun hno => (exec_escalationWindowEnd hc).trans (if_pos ?_), fun hdue hstuck hroom => ?_⟩
    · rcases hno with h | ⟨k, h1, h8, hk⟩
      · exact .inl h
      · exact .inr (List.all_eq_false.mpr ⟨_, mem_workersOf_iff.mpr ⟨k, h1, h8, rfl⟩, by simp [hk]⟩)
    · obtain ⟨hr, he, hesc, hcnt, hwin, hthr, hfifos⟩ := s.escalated_facts sp
      have hm : muleOf sp < 48 := by rw [muleOf]; omega
      have hap (g : FRef) (hg : g.addr < 0x600000) (e : Nat) : ((s.escalated sp).event cobblerEvq e).rd g = (s.escalated sp).rd g :=
        State.event_rd_apart _ _ (cobblerEvq_apart hg)
      have hfifo : (s.escalated sp).fifo cobblerEvq = s.fifo cobblerEvq := by rw [State.fifo, hfifos]; rfl
      have hall : (workersOf sp).all (fun t => isStuck (s.ts t)) = true := List.all_eq_true.mpr fun u hu => by
        obtain ⟨k, h1, h8, rfl⟩ := mem_workersOf_iff.mp hu
        exact hstuck k h1 h8
      refine ⟨_, (exec_escalationWindowEnd hc).trans (if_neg ?_), ?_, ?_, ?_, ?_, ?_, ?_, ?_⟩
      · rw [hall]; simp; omega
      · rw [hap _ (by simp only [raisedF, F.MULE_DL_STATUS.RAISED]; omega), hr]
      · rw [hap _ (by simp only [escalatedF, F.MULE_DL_STATUS.RAISED]; omega), he]
      · exact (hap (F.MULE_EVENT.DL_ESC (muleOf sp)) (by simp only [F.MULE_EVENT.DL_ESC]; omega) _).trans hesc
      · exact (hap (F.MULE_STAT.DL_ESCALATIONS.CNT (muleOf sp)) (by simp only [F.MULE_STAT.DL_ESCALATIONS.CNT]; omega) _).trans hcnt
      · rw [State.spindle, State.event_mules]; exact hwin
      · rw [State.event_mules, hthr]
      · rw [State.event_entries _ _ (by rw [hfifo]; exact hroom), hfifo, escalationWord_eq (m := muleOf sp) (k := logOf sp) (by omega) (Nat.mod_lt _ (by decide))]
        rfl
  · rintro s sp k tid hsp hk rfl
    have htid : 8 * sp + k < 6144 := by omega
    have hcleared (w : Nat) (hw : w < 4) : (s.faultCleared (8 * sp + k)).rd (faultF (8 * sp + k) w) = 0 :=
      (State.rd_congr (s.faultCleared_csr _) _).trans (s.clearFault_rd _ hw)
    refine ⟨fun hf => ?_, fun hf hb => ?_, fun pc hf hb he hr hd => ?_⟩
    · rw [exec_thrCtrlResume_single s hsp hk, State.resumeThr, if_pos hf]
    · refine ⟨_, (exec_thrCtrlResume_single s hsp hk).trans (congrArg Host.Outcome.next (State.resumeThr_bounded hf hb)), ?_, ?_, ?_, fun i hi => ?_,
        fun u hu hne => ?_⟩
      · rw [State.setTs_regsKept _ _ _ _ (faultF_apart_tsFields _ (by decide)), hcleared 0 (by decide)]
      · rw [State.setTs_regsKept _ _ _ _ (faultF_apart_tsFields _ (by decide)), hcleared 3 (by decide)]
      · rw [State.setTs_mules, State.faultCleared_threads]
      · rw [← spOf_add (sp := sp) hk] at hi
        have hrest : s.restState (8 * sp + k) = if i.bounded = [] then tsOff else tsIdle := by rw [State.restState, hi]
        rw [State.setTs_ts_same _ htid (by rw [hrest]; split <;> decide), hrest]
      · rw [State.setTs_ts_other _ _ hne]
        exact State.ts_of_rd (s.faultCleared_rd_other _ (thrStateF_addr_mod u))
    · have hres := State.resumeThr_longWork htid hf hb hd he hr
      refine ⟨_, exec_thrCtrlResume_single s hsp hk, hres.ts, hres.pc, hres.reason, hres.loops, ?_, ?_, fun r h1 h2 => ?_, fun u hu => ?_, ?_⟩
      · rw [hres.bank, spOf_add hk]
        exact s.faultCleared_rd_other _ (activeBank_addr_mod sp)
      · rw [hres.csr _ (faultF_apart_tsFields _ (by decide)), hcleared 0 (by decide)]
      · rw [hres.regs r h1 h2, State.faultCleared_thr]
      · rw [hres.threads u hu, State.faultCleared_thr]
      · exact hres.only.lmem.trans (s.faultCleared_yarnsOnly _).lmem
  · intro s u sp k mask c hsp hk hmask hc
    have hboth : exec (c 0) s = .next s ∧ (exec (c mask) s = .next u → exec (c (2 ^ k + mask)) s = exec (c (2 ^ k)) u) := by
      rcases hc with rfl | ⟨ho, hu, ⟨hd, rfl⟩ | rfl | rfl⟩
      · exact masks_one_by_one hk hmask (fun m => exec_thrCtrlResume s hsp m) (fun m => exec_thrCtrlResume u hsp m)
      · exact masks_one_by_one hk hmask (fun m => exec_dbgHalt_open hsp m hd ho) (fun m => exec_dbgHalt_open hsp m hd hu)
      · exact masks_one_by_one hk hmask (fun m => exec_dbgStep_open hsp m ho) (fun m => exec_dbgStep_open hsp m hu)
      · exact masks_one_by_one hk hmask (fun m => exec_dbgResume_open hsp m ho) (fun m => exec_dbgResume_open hsp m hu)
    exact ⟨fun _ => hboth.1, hboth.2⟩
  · intro s sp mask h hsp ho c hc
    simp only [List.mem_cons, List.not_mem_nil, or_false] at hc
    refine ⟨_, exec_dbg_closed hsp mask h ho hc, ?_, s.csrError_frame _ _ _⟩
    have haddr : (F.MULE_DBG_HALT.MASK (muleOf sp) (logOf sp)).addr = 0x200000 + 0x10000 * (sp / 16) + 0x4000 + 4 * (sp % 16) := by
      simp only [F.MULE_DBG_HALT.MASK, muleOf, logOf]; omega
    rw [haddr]
    exact s.csrError_recorded _ true (by decide)
  · rintro s sp k tid h hsp hk rfl ho
    have htid : 8 * sp + k < 6144 := by omega
    have hhalt : exec (.dbgHalt sp (2 ^ k) h) s = .next (s.haltAsked h (8 * sp + k)) := by
      rw [exec_dbgHalt_open hsp _ h ho, maskThreads_single sp hk]; rfl
    have hstep : exec (.dbgStep sp (2 ^ k)) s = .next (s.stepAsked (8 * sp + k)) := by
      rw [exec_dbgStep_open hsp _ ho, maskThreads_single sp hk]; rfl
    have hres : exec (.dbgResume sp (2 ^ k)) s = .next (s.haltEnded (8 * sp + k)) := by
      rw [exec_dbgResume_open hsp _ ho, maskThreads_single sp hk]; rfl
    rw [hhalt, hstep, hres]
    refine ⟨fun hts => congrArg _ (if_pos hts), fun hoff hh => ?_, fun hts => ⟨congrArg _ (if_neg hts), congrArg _ (if_pos hts)⟩,
      fun hts => ⟨?_, fun hd hf => ?_, fun pc hd he hr => ?_⟩⟩
    · exact ⟨_, congrArg _ (if_neg (by simp [hoff, hh])), State.thr_modThr_same _ _ _, fun u hu => State.thr_modThr_other _ _ _ _ hu, rfl⟩
    · exact ⟨_, congrArg _ (if_pos hts), State.thr_modThr_same _ _ _, fun u hu => State.thr_modThr_other _ _ _ _ hu, rfl⟩
    · refine ⟨_, congrArg _ ((if_neg (by simpa using hts)).trans (if_neg (by rw [hd]; exact Bool.false_ne_true))), State.setTs_ts_same _ htid hf, ?_,
        fun u hu => ?_, ?_⟩
      · rw [State.setTs_thr, State.thr_modThr_same]
      · rw [State.setTs_thr, State.thr_modThr_other _ _ _ _ hu]
      · exact ((s.yarnsOnly_refl.modThr _ _).setTs _ _).csrMules (State.setTs_yarn _ _ _)
    · have hgo := State.haltEnded_restarts htid hts hd he hr
      exact ⟨_, rfl, hgo.ts, hgo.pc, hgo.reason⟩
  · intro s tid htid
    have hm : tid / 128 = muleOf (spOf tid) := by rw [muleOf, spOf]; omega
    refine ⟨fun hn => ?_, fun h c hreq => ⟨fun hr => ?_, fun hh hr hlt => ?_, fun id dst b hr hdue => ?_⟩⟩
    · rw [exec_softHaltEffect, State.haltDue, hn]; rfl
    · obtain ⟨t, ht, hts, hhalted, hthr, hkept, hother, hyarn⟩ := s.haltThr_quiet htid h hr
      rw [Resv.stop_eq] at hthr
      exact ⟨t, by rw [exec_softHaltEffect, State.haltDue_quiet hreq hr, ht]; rfl, hts, hhalted, hthr, hkept, hother, hyarn⟩
    · subst hh
      rw [exec_softHaltEffect, State.haltDue_waits hreq hr hlt]; rfl
    · obtain ⟨t, ht, hts, hresv, hfrom, hcnt, hforced⟩ := s.haltThr_poisons htid (!h) hr
      rw [hm]
      refine ⟨t, ?_, hts, hresv, hfrom, hcnt, fun hf => hforced (by rw [hf]; rfl)⟩
      rw [exec_softHaltEffect, State.haltDue_open hreq (Thread.holdsResv_of_opened hr) hdue, ht]; rfl
end

section
/-! The judging, delivery and answering of messages (R69 to R76, R104; O11). -/

namespace Sys2Proof.Machine

open Sys2Proof

/-! ### The judgement (R69 to R71) -/

/-- A message of a fixed unit or of another spindle that a channel closed to outsiders meets. -/
def State.outsider (s : State) (m : Msg) (reply : Bool) : Prop :=
  s.chanExt (epChan m.dst) = false ∧ reply = false ∧ (epIsUnit m.src = true ∨ spOf (epTid m.src) ≠ spOf (epTid m.dst))

section judged
variable (s : State) {m : Msg} {reply : Bool} (hu : epIsUnit m.dst = false)
include hu

theorem State.judge_range (h : epRangeOk m.dst = false) : s.judge m reply = .refused stRange := by
  rw [State.judge]
  exact (if_neg (by rw [hu]; exact Bool.false_ne_true)).trans (if_pos h)

theorem State.judge_thread (h : epRangeOk m.dst = true) (hf : epMule m.dst < 24 ∨ s.fencedB = false) {p : Prop} [Decidable p]
    (hp : p ↔ s.outsider m reply) : s.judge m reply =
    if s.rd (epochF (spOf (epTid m.dst))) ≠ m.epoch ∨ m.epoch = 0 then .stale (s.rd (epochF (spOf (epTid m.dst))))
    else if p then .refused stAccessDenied
    else if 2 ^ (s.chanCfg (epChan m.dst) % 16) < m.lenm1 + 2 then .refused stRange
    else if wordsUsed (s.queueAt m.dst) + (m.lenm1 + 2) ≤ 2 ^ (s.chanCfg (epChan m.dst) % 16) then .ok else .full := by
  have hcap : s.capacity m.dst = 2 ^ (s.chanCfg (epChan m.dst) % 16) := if_neg (by rw [hu]; exact Bool.false_ne_true)
  have hhalf : ¬ (halfOfMule (epMule m.dst) = 1 ∧ s.fencedB = true) := by
    rintro ⟨h1, h2⟩
    rcases hf with hf | hf
    · rw [halfOfMule, if_pos hf] at h1; cases h1
    · rw [hf] at h2; cases h2
  rw [State.judge, if_neg (by rw [hu]; exact Bool.false_ne_true), if_neg (by rw [h]; decide), hcap]
  refine (if_neg hhalf).trans ?_
  simp only [hp, State.outsider, gt_iff_lt]

end judged

/-! ### Changes of the yarns alone -/

/-- From `s` to `t` nothing changes but the yarns. -/
def State.onlyYarn (s t : State) : Prop := { t with yarn := s.yarn } = s

theorem State.onlyYarn_refl (s : State) : s.onlyYarn s := rfl
theorem State.onlyYarn.trans {s t u : State} (h : s.onlyYarn t) (h' : t.onlyYarn u) : s.onlyYarn u := by
  unfold State.onlyYarn at *; rw [← h, ← h']
theorem State.onlyYarn.setQueue {s t : State} (h : s.onlyYarn t) (ep : Nat) (q : List Msg) : s.onlyYarn (t.setQueue ep q) := h.trans rfl
theorem State.onlyYarn.setFlights {s t : State} (h : s.onlyYarn t) (fs : List Flight) : s.onlyYarn (t.setFlights fs) := h.trans rfl
theorem State.onlyYarn.answer {s t : State} (h : s.onlyYarn t) (id st : Nat) : s.onlyYarn (t.answer id st) := h.setFlights _

theorem State.yarnsOnly.csrMulesYarn {s t : State} (h : s.yarnsOnly t) : { t with yarn := s.yarn, mules := s.mules, csr := s.csr } = s := h

/-! ### The answer -/

theorem State.answer_queueAt (s : State) (id st ep : Nat) : (s.answer id st).queueAt ep = s.queueAt ep := rfl

/-- The operation that is answered takes the status. -/
theorem State.answer_mem {s : State} {id st x : Nat} {f : Flight} (hf : f ∈ s.yarn.flights) (hid : f.msg.id = id) (hst : f.status = none)
    (ho : f.owner = some x) : { f with status := some st } ∈ (s.answer id st).yarn.flights := by
  refine List.mem_filterMap.mpr ⟨f, hf, ?_⟩
  simp [hid, hst, ho]

/-- After the answer no operation of its number is without one. -/
theorem State.answer_answered {s : State} {id st : Nat} {g : Flight} (hg : g ∈ (s.answer id st).yarn.flights) (hid : g.msg.id = id) :
    g.status ≠ none := by
  obtain ⟨f, -, hf⟩ := List.mem_filterMap.mp hg
  by_cases hc : f.msg.id = id ∧ f.status.isNone = true
  · rw [if_pos hc] at hf
    by_cases ho : f.owner.isNone = true
    · rw [if_pos ho] at hf; cases hf
    · rw [if_neg ho] at hf
      cases hf
      exact Option.some_ne_none _
  · rw [if_neg hc] at hf
    cases hf
    intro hn
    exact hc ⟨hid, by rw [hn]; rfl⟩

/-! ### An operation that reaches its destination -/

/-- The operation of a message number that has no answer yet. -/
def State.underWay (s : State) (id : Nat) : Option Flight := s.yarn.flights.find? (fun x => x.msg.id == id && x.status.isNone)

theorem State.underWay_some {s : State} {id : Nat} {f : Flight} (h : s.underWay id = some f) :
    f ∈ s.yarn.flights ∧ f.msg.id = id ∧ f.status = none := by
  have hp := List.find?_some h
  simp only [Bool.and_eq_true, beq_iff_eq, Option.isNone_iff_eq_none] at hp
  exact ⟨List.mem_of_find?_eq_some h, hp.1, hp.2⟩

theorem exec_arrival {s : State} {id : Nat} {f : Flight} (h : s.underWay id = some f) (hp : f.post = none) {i : Instr}
    (hi : i = .messageArrival id ∨ i = .blockingSendRetry id) : exec i s = .next (s.arrive id) := by
  rcases hi with rfl | rfl
  · show execMessageArrival id s = _
    rw [State.underWay] at h
    rw [execMessageArrival, h]
    exact congrArg Host.Outcome.next (by rw [hp])
  · rfl

/-- No operation is under way: nothing happens. -/
theorem exec_arrival_none {s : State} {id : Nat} (h : s.underWay id = none) :
    exec (.messageArrival id) s = .next s ∧ exec (.blockingSendRetry id) s = .next s := by
  rw [State.underWay] at h
  refine ⟨?_, ?_⟩
  · show execMessageArrival id s = _
    rw [execMessageArrival, h]
  · show Host.Outcome.next (s.arrive id) = _
    rw [State.arrive, h]

/-- R61, R76, R418: what an operation waits for before it is judged. -/
def State.arrivalWaits (s : State) (f : Flight) : Prop := s.scratchWaits f = true ∨ blockedBy s.yarn.flights f.msg = true ∨ s.crossHeld f.msg = true

/-- What becomes of a message that is sent, or for which a reservation is asked, by what it meets. -/
def State.judgedAs (s : State) (f : Flight) (id : Nat) : Verdict → State
  | .ok => (s.enqueue f.msg).answer id ysOk
  | .full => if f.blocking then s else s.answer id ysFull
  | .stale e => (s.discardStale f.msg e).answer id ysStale
  | .refused c => (s.notify f.msg.src c f.msg.dst f.msg.tag 0).answer id ysRefused

section arrives
variable {s : State} {id : Nat} {f : Flight} (h : s.underWay id = some f)
include h

theorem State.arrive_waits (hw : s.arrivalWaits f) : s.arrive id = s := by
  rw [State.underWay] at h
  rw [State.arrive, h]
  exact if_pos hw

theorem State.arrive_judged (hw : ¬ s.arrivalWaits f) (ho : f.op = .send ∨ f.op = .reserve) :
    s.arrive id = s.judgedAs f id (s.judge f.msg f.reply) := by
  rw [State.underWay] at h
  rw [State.arrive, h]
  refine (if_neg hw).trans ?_
  rcases ho with ho | ho
  · rw [ho]; rfl
  · rw [ho]; rfl

/-- The state in which a commit has brought the words of its message. -/
def State.broughtWords (s : State) (f : Flight) (id : Nat) : State :=
  s.setQueue f.msg.dst (replaceMsg (s.queueAt f.msg.dst) id fun m => { m with words := f.msg.words })

theorem State.arrive_commit (hw : ¬ s.arrivalWaits f) (ho : f.op = .commit) : s.arrive id =
    ((s.broughtWords f id).closeResv f.msg.dst id .bulk).2.answer id
      (if ((s.broughtWords f id).closeResv f.msg.dst id .bulk).1 then ysOk else ysStale) := by
  rw [State.underWay] at h
  rw [State.arrive, h]
  refine (if_neg hw).trans ?_
  rw [ho]
  rfl

end arrives

/-! ### Closing a reservation in time (R73, R74) -/

/-- The reservation of an open message whose epoch is current is committed with its kind. -/
theorem State.closeResv_current {s : State} {dst id : Nat} {m : Msg} (kind : MsgKind) (hm : (s.queueAt dst).find? (fun x => x.id == id) = some m)
    (he : epIsUnit dst = true ∨ s.rd (epochF (spOf (epTid dst))) = m.epoch) :
    s.closeResv dst id kind = (true, s.setQueue dst (replaceMsg (s.queueAt dst) id fun m => { m with committed := true, kind := kind })) := by
  rw [State.closeResv, hm]
  refine if_neg ?_
  rintro ⟨hu, hne⟩
  rcases he with he | he
  · rw [hu] at he; cases he
  · exact hne he

theorem find?_replaceMsg {q : List Msg} {id : Nat} {m : Msg} (f : Msg → Msg) (hf : ∀ m, (f m).id = m.id)
    (h : q.find? (fun x => x.id == id) = some m) : (replaceMsg q id f).find? (fun x => x.id == id) = some (f m) := by
  have hid : m.id = id := by simpa using List.find?_some h
  have hp : ((fun x : Msg => x.id == id) ∘ fun x => if x.id = id then f x else x) = fun x => x.id == id := by
    funext x
    by_cases hx : x.id = id <;> simp [hx, hf]
  rw [replaceMsg, List.find?_map, hp, h, Option.map_some, if_pos hid]

theorem replaceMsg_replaceMsg (q : List Msg) (id : Nat) (f g : Msg → Msg) (hf : ∀ m, (f m).id = m.id) :
    replaceMsg (replaceMsg q id f) id g = replaceMsg q id (fun m => g (f m)) := by
  rw [replaceMsg, replaceMsg, replaceMsg, List.map_map]
  refine List.map_congr_left fun m _ => ?_
  by_cases hm : m.id = id <;> simp [hm, hf]

/-! ### Senders that are told (R70, R72) -/

theorem Thread.note_none {x : Thread} (h : x.notice = none) (status dst tag epoch : Nat) :
    (x.note status dst tag epoch).notice = some ⟨status, dst, tag, epoch, 1⟩ := by rw [Thread.note, h]

theorem Thread.note_some {x : Thread} {n : Notice} (h : x.notice = some n) (status dst tag epoch : Nat) :
    (x.note status dst tag epoch).notice = some { n with count := min (n.count + 1) 255 } := by rw [Thread.note, h]

theorem State.raise_notice (s : State) (tid n u : Nat) : ((s.raise tid n).thr u).notice = (s.thr u).notice := by
  by_cases h : u = tid
  · subst h; rw [State.raise, State.thr_modThr_same]
  · rw [State.raise, State.thr_modThr_other _ _ _ _ h]

/-- A sender that is told: its notice and one of its events. -/
def State.tellSender (s : State) (src status dst tag epoch n : Nat) : State :=
  (s.modThr (epTid src) fun x => x.note status dst tag epoch).raise (epTid src) n

section tell
variable (s : State) {src : Nat} (status dst tag epoch n : Nat)

theorem State.tellSender_csr : (s.tellSender src status dst tag epoch n).csr = s.csr := rfl
theorem State.tellSender_yarn : (s.tellSender src status dst tag epoch n).yarn = s.yarn := rfl
theorem State.tellSender_yarnsOnly : s.yarnsOnly (s.tellSender src status dst tag epoch n) := (s.yarnsOnly_refl.modThr _ _).raise _ _

theorem State.tellSender_events (hn : n < 32) : ((s.tellSender src status dst tag epoch n).thr (epTid src)).events.getLsbD n = true := by
  rw [State.tellSender, State.raise_events]; exact getLsbD_or_bit _ hn

theorem State.tellSender_notice :
    ((s.tellSender src status dst tag epoch n).thr (epTid src)).notice = ((s.thr (epTid src)).note status dst tag epoch).notice := by
  rw [State.tellSender, State.raise_notice, State.thr_modThr_same]

theorem State.tellSender_regs : ((s.tellSender src status dst tag epoch n).thr (epTid src)).regs = (s.thr (epTid src)).regs := by
  rw [State.tellSender, State.raise_regs, State.thr_modThr_same, Thread.note_notedAs]

theorem State.notify_stale {s : State} (h : epIsUnit src = false) :
    s.notify src stStaleEpoch dst tag epoch = s.tellSender src stStaleEpoch dst tag epoch evStale := by
  rw [State.notify, if_neg (by rw [h]; exact Bool.false_ne_true)]; rfl

theorem State.notify_refused {s : State} {status : Nat} (h : epIsUnit src = false) (hs : status ≠ stStaleEpoch) :
    s.notify src status dst tag epoch =
      (s.tellSender src status dst tag epoch evRefused).count (F.MULE_STAT.REFUSED.CNT (epMule src)) 1 := by
  rw [State.notify, if_neg (by rw [h]; exact Bool.false_ne_true)]
  exact if_neg hs

end tell

/-! ### What each verdict leaves -/

section verdicts
variable {s : State} {id : Nat} {f : Flight}

theorem State.answer_yarnsOnly (s : State) (id st : Nat) : s.yarnsOnly (s.answer id st) := s.yarnsOnly_refl.setFlights _

theorem State.judgedAs_ok (hf : f ∈ s.yarn.flights) (hid : f.msg.id = id) (hst : f.status = none) :
    (s.judgedAs f id .ok).queueAt f.msg.dst = s.queueAt f.msg.dst ++ [f.msg] ∧
    (∀ e, e ≠ f.msg.dst → (s.judgedAs f id .ok).queueAt e = s.queueAt e) ∧
    (∀ x, f.owner = some x → { f with status := some 0 } ∈ (s.judgedAs f id .ok).yarn.flights) ∧
    (∀ g ∈ (s.judgedAs f id .ok).yarn.flights, g.msg.id = id → g.status ≠ none) ∧ { s.judgedAs f id .ok with yarn := s.yarn } = s :=
  ⟨s.setQueue_queueAt_same _ _, fun _ he => s.setQueue_queueAt_other _ he, fun _ ho => (s.enqueue f.msg).answer_mem hf hid hst ho,
    fun _ hg hgid => State.answer_answered hg hgid, (s.onlyYarn_refl.setQueue _ _).answer _ _⟩

/-- The state in which a stale message has been counted and its sender told. -/
def State.staleTold (s : State) (m : Msg) (e : Nat) : State :=
  (s.count (F.MULE_STAT.STALE_DISCARD.CNT (epMule m.dst)) 1).tellSender m.src stStaleEpoch m.dst m.tag e evStale

theorem State.discardStale_eq {m : Msg} (hu : epIsUnit m.src = false) (e : Nat) : s.discardStale m e = s.staleTold m e :=
  State.notify_stale _ _ _ hu

/-- The state in which a refused message has been counted and its sender told. -/
def State.refusedTold (s : State) (m : Msg) (c : Nat) : State :=
  (s.tellSender m.src c m.dst m.tag 0 evRefused).count (F.MULE_STAT.REFUSED.CNT (epMule m.src)) 1

section told
variable (s : State) (m : Msg) (e c : Nat)

theorem State.staleTold_yarn : (s.staleTold m e).yarn = s.yarn := by rw [State.staleTold, State.tellSender_yarn, State.count_yarn]
theorem State.refusedTold_yarn : (s.refusedTold m c).yarn = s.yarn := by rw [State.refusedTold, State.count_yarn, State.tellSender_yarn]

theorem State.staleTold_regsKept : s.regsKept (s.staleTold m e) [F.MULE_STAT.STALE_DISCARD.CNT (epMule m.dst)] := by
  have hcount := (s.regsKept_refl [F.MULE_STAT.STALE_DISCARD.CNT (epMule m.dst)]).count 1 List.mem_cons_self (show 31 < 64 by decide)
  unfold State.staleTold
  exact hcount.trans (State.regsKept_of_csr (State.tellSender_csr (s.count _ 1) (src := m.src) stStaleEpoch m.dst m.tag e evStale) _)

theorem State.refusedTold_regsKept : s.regsKept (s.refusedTold m c) [F.MULE_STAT.REFUSED.CNT (epMule m.src)] := by
  have htold := State.regsKept_of_csr (s.tellSender_csr (src := m.src) c m.dst m.tag 0 evRefused) [F.MULE_STAT.REFUSED.CNT (epMule m.src)]
  exact htold.count 1 List.mem_cons_self (show 31 < 64 by decide)

theorem State.staleTold_count : (s.staleTold m e).rd (F.MULE_STAT.STALE_DISCARD.CNT (epMule m.dst)) =
    min (s.rd (F.MULE_STAT.STALE_DISCARD.CNT (epMule m.dst)) + 1) (2 ^ 32 - 1) := by
  rw [State.staleTold, State.rd_congr (State.tellSender_csr (s.count _ 1) (src := m.src) stStaleEpoch m.dst m.tag e evStale),
    State.rd_count_same _ _ _ (show 31 < 64 by decide)]
  rfl

theorem State.refusedTold_count : (s.refusedTold m c).rd (F.MULE_STAT.REFUSED.CNT (epMule m.src)) =
    min (s.rd (F.MULE_STAT.REFUSED.CNT (epMule m.src)) + 1) (2 ^ 32 - 1) := by
  rw [State.refusedTold, State.rd_count_same _ _ _ (show 31 < 64 by decide), State.rd_congr (s.tellSender_csr c m.dst m.tag 0 evRefused)]
  rfl

theorem State.staleTold_yarnsOnly : s.yarnsOnly (s.staleTold m e) :=
  (s.yarnsOnly_refl.count _ _).trans (State.tellSender_yarnsOnly (s.count _ 1) stStaleEpoch m.dst m.tag e evStale)

end told

theorem State.answer_rd (s : State) (id st : Nat) (g : FRef) : (s.answer id st).rd g = s.rd g := rfl
theorem State.answer_thr (s : State) (id st u : Nat) : (s.answer id st).thr u = s.thr u := rfl
theorem State.answer_queues (s : State) (id st : Nat) : (s.answer id st).yarn.queues = s.yarn.queues := rfl
theorem State.answer_csr (s : State) (id st : Nat) : (s.answer id st).csr = s.csr := rfl

theorem State.judgedAs_stale (hf : f ∈ s.yarn.flights) (hid : f.msg.id = id) (hst : f.status = none) (hu : epIsUnit f.msg.src = false) (e : Nat) :
    ∃ t, s.judgedAs f id (.stale e) = t ∧ t.yarn.queues = s.yarn.queues ∧
      t.rd (F.MULE_STAT.STALE_DISCARD.CNT (epMule f.msg.dst)) = min (s.rd (F.MULE_STAT.STALE_DISCARD.CNT (epMule f.msg.dst)) + 1) (2 ^ 32 - 1) ∧
      s.regsKept t [F.MULE_STAT.STALE_DISCARD.CNT (epMule f.msg.dst)] ∧ (t.thr (epTid f.msg.src)).events.getLsbD 4 = true ∧
      (t.thr (epTid f.msg.src)).regs = (s.thr (epTid f.msg.src)).regs ∧
      (t.thr (epTid f.msg.src)).notice = ((s.thr (epTid f.msg.src)).note stStaleEpoch f.msg.dst f.msg.tag e).notice ∧
      (∀ x, f.owner = some x → { f with status := some 2 } ∈ t.yarn.flights) ∧ s.yarnsOnly t := by
  have hj : s.judgedAs f id (.stale e) = (s.staleTold f.msg e).answer id ysStale := congrArg (fun u : State => u.answer id ysStale) (State.discardStale_eq hu e)
  refine ⟨_, hj, ?_, ?_, ?_, ?_, ?_, ?_, fun x ho => State.answer_mem ?_ hid hst ho, ?_⟩
  · rw [State.answer_queues, State.staleTold_yarn]
  · rw [State.answer_rd, State.staleTold_count]
  · exact (s.staleTold_regsKept f.msg e).trans (State.regsKept_of_csr (State.answer_csr _ _ _) _)
  · rw [State.answer_thr, State.staleTold]; exact State.tellSender_events _ _ _ _ _ _ (by decide)
  · rw [State.answer_thr, State.staleTold, State.tellSender_regs, State.count_thr]
  · rw [State.answer_thr, State.staleTold, State.tellSender_notice, State.count_thr]
  · rw [State.staleTold_yarn]; exact hf
  · exact (s.staleTold_yarnsOnly f.msg e).trans (State.answer_yarnsOnly _ _ _)

theorem State.judgedAs_refused (hf : f ∈ s.yarn.flights) (hid : f.msg.id = id) (hst : f.status = none) (hu : epIsUnit f.msg.src = false) {c : Nat}
    (hc : c ≠ stStaleEpoch) : ∃ t, s.judgedAs f id (.refused c) = t ∧ t.yarn.queues = s.yarn.queues ∧
      t.rd (F.MULE_STAT.REFUSED.CNT (epMule f.msg.src)) = min (s.rd (F.MULE_STAT.REFUSED.CNT (epMule f.msg.src)) + 1) (2 ^ 32 - 1) ∧
      s.regsKept t [F.MULE_STAT.REFUSED.CNT (epMule f.msg.src)] ∧ (t.thr (epTid f.msg.src)).events.getLsbD 5 = true ∧
      (t.thr (epTid f.msg.src)).notice = ((s.thr (epTid f.msg.src)).note c f.msg.dst f.msg.tag 0).notice ∧
      (∀ x, f.owner = some x → { f with status := some 3 } ∈ t.yarn.flights) := by
  have hj : s.judgedAs f id (.refused c) = (s.refusedTold f.msg c).answer id ysRefused :=
    congrArg (fun u : State => u.answer id ysRefused) (State.notify_refused _ _ _ hu hc)
  refine ⟨_, hj, ?_, ?_, ?_, ?_, ?_, fun x ho => State.answer_mem ?_ hid hst ho⟩
  · rw [State.answer_queues, State.refusedTold_yarn]
  · rw [State.answer_rd, State.refusedTold_count]
  · exact (s.refusedTold_regsKept f.msg c).trans (State.regsKept_of_csr (State.answer_csr _ _ _) _)
  · rw [State.answer_thr, State.refusedTold, State.count_thr]; exact State.tellSender_events _ _ _ _ _ _ (by decide)
  · rw [State.answer_thr, State.refusedTold, State.count_thr, State.tellSender_notice]
  · rw [State.refusedTold_yarn]; exact hf

theorem State.setQueue_setQueue (s : State) (ep : Nat) (q r : List Msg) :
    ((s.setQueue ep q).setQueue ep r).queueAt ep = r ∧ ∀ e, e ≠ ep → ((s.setQueue ep q).setQueue ep r).queueAt e = s.queueAt e :=
  ⟨State.setQueue_queueAt_same _ _ _, fun e he => by rw [State.setQueue_queueAt_other _ _ he, State.setQueue_queueAt_other _ _ he]⟩

/-- A commit in time. -/
theorem State.arrive_commit_current {m : Msg} (hway : s.underWay id = some f) (hw : ¬ s.arrivalWaits f) (ho : f.op = .commit)
    (hm : (s.queueAt f.msg.dst).find? (fun x => x.id == id) = some m)
    (he : epIsUnit f.msg.dst = true ∨ s.rd (epochF (spOf (epTid f.msg.dst))) = m.epoch) :
    s.arrive id = ((s.broughtWords f id).setQueue f.msg.dst ((s.queueAt f.msg.dst).map fun x =>
      if x.id = id then { x with words := f.msg.words, committed := true, kind := .bulk } else x)).answer id ysOk := by
  have hq : (s.broughtWords f id).queueAt f.msg.dst = replaceMsg (s.queueAt f.msg.dst) id fun m => { m with words := f.msg.words } :=
    s.setQueue_queueAt_same _ _
  have hfind := find?_replaceMsg (fun m => { m with words := f.msg.words }) (fun _ => rfl) hm
  rw [← hq] at hfind
  have hclose := State.closeResv_current (s := s.broughtWords f id) .bulk hfind he
  rw [hq, replaceMsg_replaceMsg _ _ (fun m => { m with words := f.msg.words }) _ fun _ => rfl] at hclose
  rw [State.arrive_commit hway hw ho, hclose]
  rfl

end verdicts

/-! ### A status that returns (R69, R73, R83, R104) -/

/-- The state in which an operation has ended: it is not under way any more. -/
def State.opEnded (s : State) (id : Nat) (f : Flight) : State :=
  s.setFlights (s.yarn.flights.filter (fun g => g.msg.id != id || g.op != f.op))

theorem State.opEnded_flights {s : State} {id : Nat} {f g : Flight} (h : g ∈ (s.opEnded id f).yarn.flights) (hid : g.msg.id = id) : g.op ≠ f.op := by
  have hp := (List.mem_filter.mp h).2
  simpa [hid] using hp

/-- The state in which the status has reached its thread's register. -/
def State.statusWritten (s : State) (tid : Nat) (f : Flight) (st : Nat) : State :=
  s.modThr tid fun x => (x.setG f.rd (BitVec.ofNat 64 st)).usable f.rd

/-- The state in which, besides, a thread that waited for the operation goes on. -/
def State.statusEnd (s : State) (id tid : Nat) (f : Flight) (st : Nat) : State :=
  if ((s.statusWritten tid f st).thr tid).ywait = some id then (s.statusWritten tid f st).endYwait tid else s.statusWritten tid f st

/-- The operation of a message number that has its answer. -/
def State.returning (s : State) (id : Nat) : Option Flight := s.yarn.flights.find? (fun x => x.msg.id == id && x.status.isSome)

section returns
variable {s : State} {id st tid : Nat} {f : Flight} (h : s.returning id = some f) (hst : f.status = some st) (ho : f.owner = some tid)
include h hst ho

theorem exec_yarnStatusReturn : exec (.yarnStatusReturn id) s = .next (
    let t := if f.op = .reserve then (s.opEnded id f).resvReturn tid id f.msg.dst (st == ysOk) else s.opEnded id f
    if (t.thr tid).gen = f.gen then t.statusEnd id tid f st else t) := by
  show Host.Outcome.next (s.statusReturn id) = _
  rw [State.returning] at h
  rw [State.statusReturn, h]
  simp only [ho, hst, Option.getD_some]
  rfl

end returns

theorem exec_yarnStatusReturn_none {s : State} {id : Nat} (h : s.returning id = none) : exec (.yarnStatusReturn id) s = .next s := by
  rw [State.returning] at h
  show Host.Outcome.next (s.statusReturn id) = _
  rw [State.statusReturn, h]

theorem State.statusWritten_thr (s : State) (tid : Nat) (f : Flight) (st : Nat) :
    (s.statusWritten tid f st).thr tid = ((s.thr tid).setG f.rd (BitVec.ofNat 64 st)).usable f.rd := State.thr_modThr_same _ _ _

theorem Thread.usable_setG_ywait (x : Thread) (r k : Nat) (v : W64) : ((x.setG r v).usable k).ywait = x.ywait := by
  unfold Thread.setG Thread.usable; split <;> rfl
theorem Thread.usable_setG_resv (x : Thread) (r k : Nat) (v : W64) : ((x.setG r v).usable k).resv = x.resv := by
  unfold Thread.setG Thread.usable; split <;> rfl
theorem Thread.usable_setG_pend (x : Thread) (r k : Nat) (v : W64) : ((x.setG r v).usable k).pend = x.pend.erase k := by
  unfold Thread.setG Thread.usable; split <;> rfl
theorem Thread.usable_setG_g (x : Thread) (r k : Nat) (v : W64) : ((x.setG r v).usable k).g r = if r = 0 then 0 else v := by
  by_cases hr : r = 0
  · rw [if_pos hr, Thread.g, if_pos hr]
  · rw [if_neg hr]; exact Thread.g_setG_same x r v hr

/-! ### The end of a wait in YWAIT -/

/-- The thread's wait is over. -/
def State.unwaited (s : State) (tid : Nat) : State := s.modThr tid fun x => { x with ywait := none }

/-- The state in which a halted thread will run when its halt or its spindle's swap ends. -/
def State.willRun (s : State) (tid : Nat) : State :=
  let s := if (s.thr tid).haltFrom = tsYwait then s.modThr tid fun x => { x with haltFrom := tsRun } else s
  if AMap.get? s.flt.stopped tid = some tsYwait then { s with flt := { s.flt with stopped := AMap.set s.flt.stopped tid tsRun } } else s

theorem State.endYwait_eq (s : State) (tid : Nat) : s.endYwait tid =
    if s.ts tid = tsYwait then (s.unwaited tid).setTs tid tsRun else if s.ts tid = tsHalt then (s.unwaited tid).willRun tid else s.unwaited tid := rfl

section willRun
variable (s : State) (tid : Nat)

theorem State.willRun_thr : (s.willRun tid).thr tid = if (s.thr tid).haltFrom = tsYwait then { s.thr tid with haltFrom := tsRun } else s.thr tid := by
  have hflt (t : State) : (if AMap.get? t.flt.stopped tid = some tsYwait then
      { t with flt := { t.flt with stopped := AMap.set t.flt.stopped tid tsRun } } else t).thr tid = t.thr tid := by split <;> rfl
  rw [State.willRun, hflt]
  split
  · rw [State.thr_modThr_same]
  · rfl

theorem State.willRun_thr_other {u : Nat} (h : u ≠ tid) : (s.willRun tid).thr u = s.thr u := by
  have hflt (t : State) : (if AMap.get? t.flt.stopped tid = some tsYwait then
      { t with flt := { t.flt with stopped := AMap.set t.flt.stopped tid tsRun } } else t).thr u = t.thr u := by split <;> rfl
  rw [State.willRun, hflt]
  split
  · rw [State.thr_modThr_other _ _ _ _ h]
  · rfl

theorem State.willRun_csr : (s.willRun tid).csr = s.csr := by
  unfold State.willRun
  simp only []
  split <;> split <;> rfl

theorem State.willRun_yarn : (s.willRun tid).yarn = s.yarn := by
  unfold State.willRun
  simp only []
  split <;> split <;> rfl

theorem State.willRun_stopped (h : AMap.get? s.flt.stopped tid = some tsYwait) : AMap.get? (s.willRun tid).flt.stopped tid = some tsRun := by
  unfold State.willRun
  have hflt (t : State) (ht : t.flt = s.flt) : AMap.get? (if AMap.get? t.flt.stopped tid = some tsYwait then
      { t with flt := { t.flt with stopped := AMap.set t.flt.stopped tid tsRun } } else t).flt.stopped tid = some tsRun := by
    rw [ht, if_pos h]
    exact AMap.get?_set_same _ _ _
  refine hflt _ ?_
  split <;> rfl

end willRun

section endYwait
variable (s : State) {tid : Nat}

theorem State.endYwait_thr : (s.endYwait tid).thr tid = { s.thr tid with
    ywait := none, haltFrom := if s.ts tid = tsHalt ∧ (s.thr tid).haltFrom = tsYwait then tsRun else (s.thr tid).haltFrom } := by
  have hun : (s.unwaited tid).thr tid = { s.thr tid with ywait := none } := State.thr_modThr_same _ _ _
  rw [State.endYwait_eq]
  by_cases hy : s.ts tid = tsYwait
  · have hh : ¬ (s.ts tid = tsHalt ∧ (s.thr tid).haltFrom = tsYwait) := by rw [hy]; exact fun h => absurd h.1 (by decide)
    rw [if_pos hy, State.setTs_thr, hun, if_neg hh]
  · rw [if_neg hy]
    by_cases hh : s.ts tid = tsHalt
    · rw [if_pos hh, State.willRun_thr, hun]
      by_cases hf : (s.thr tid).haltFrom = tsYwait
      · rw [if_pos hf, if_pos ⟨hh, hf⟩]
      · rw [if_neg hf, if_neg (fun h => hf h.2)]
    · rw [if_neg hh, hun, if_neg (fun h => hh h.1)]

theorem State.endYwait_thr_other {u : Nat} (h : u ≠ tid) : (s.endYwait tid).thr u = s.thr u := by
  have hun : (s.unwaited tid).thr u = s.thr u := State.thr_modThr_other _ _ _ _ h
  rw [State.endYwait_eq]
  split
  · rw [State.setTs_thr, hun]
  · split
    · rw [State.willRun_thr_other _ _ h, hun]
    · exact hun

theorem State.endYwait_ts (h : tid < 6144) : (s.endYwait tid).ts tid = if s.ts tid = tsYwait then tsRun else s.ts tid := by
  rw [State.endYwait_eq]
  split
  · exact State.setTs_ts_same _ h (by decide)
  · split
    · exact State.ts_of_rd (State.rd_congr (State.willRun_csr _ _) _)
    · rfl

theorem State.endYwait_yarn : (s.endYwait tid).yarn = s.yarn := by
  rw [State.endYwait_eq]
  split
  · exact State.setTs_yarn _ _ _
  · split
    · exact State.willRun_yarn _ _
    · rfl

theorem State.endYwait_stopped (hh : s.ts tid = tsHalt) (hs : AMap.get? s.flt.stopped tid = some tsYwait) :
    AMap.get? (s.endYwait tid).flt.stopped tid = some tsRun := by
  rw [State.endYwait_eq, if_neg (by rw [hh]; decide), if_pos hh]
  exact State.willRun_stopped _ _ hs

end endYwait

section statusEnd
variable {s : State} {id tid : Nat} {f : Flight} {st : Nat}

theorem State.statusWritten_ywait : ((s.statusWritten tid f st).thr tid).ywait = (s.thr tid).ywait := by
  rw [State.statusWritten_thr, Thread.usable_setG_ywait]

theorem State.statusEnd_waited (h : (s.thr tid).ywait = some id) : s.statusEnd id tid f st = (s.statusWritten tid f st).endYwait tid :=
  if_pos (State.statusWritten_ywait.trans h)

theorem State.statusEnd_unwaited (h : (s.thr tid).ywait ≠ some id) : s.statusEnd id tid f st = s.statusWritten tid f st :=
  if_neg fun hy => h (State.statusWritten_ywait.symm.trans hy)

theorem State.statusEnd_yarn : (s.statusEnd id tid f st).yarn = s.yarn := by
  unfold State.statusEnd
  split
  · rw [State.endYwait_yarn]; rfl
  · rfl

/-- The thread's record with the status, whatever it waited for. -/
theorem State.statusEnd_thr : ∃ y h, (s.statusEnd id tid f st).thr tid =
    { ((s.thr tid).setG f.rd (BitVec.ofNat 64 st)).usable f.rd with ywait := y, haltFrom := h } := by
  unfold State.statusEnd
  split
  · rw [State.endYwait_thr, State.statusWritten_thr]; exact ⟨_, _, rfl⟩
  · rw [State.statusWritten_thr]; exact ⟨_, _, rfl⟩

theorem State.statusEnd_thr_other {u : Nat} (h : u ≠ tid) : (s.statusEnd id tid f st).thr u = s.thr u := by
  unfold State.statusEnd
  split
  · rw [State.endYwait_thr_other _ h]; exact State.thr_modThr_other _ _ _ _ h
  · exact State.thr_modThr_other _ _ _ _ h

end statusEnd

/-! ### The reservation of a YRES whose status returns -/

theorem State.resvReturn_asked {s : State} {tid id : Nat} (h : (s.thr tid).resv = .asked id) (dst : Nat) (granted : Bool) :
    s.resvReturn tid id dst granted = s.modThr tid fun x => { x with resv := if granted then .opened id dst s.clk.cycles else .none } := if_pos h

/-- The state in which a grant that no thread waits for has been closed poisoned. -/
def State.grantPoisoned (s : State) (tid id dst : Nat) : State :=
  ((s.closeResv dst id .poisoned).2).count (F.MULE_STAT.POISONED.CNT (muleOf (spOf tid))) 1

theorem State.resvReturn_stopped {s : State} {tid id : Nat} (h : (s.thr tid).resv = .stopped id) (dst : Nat) (granted : Bool) :
    s.resvReturn tid id dst granted = if granted then (s.grantPoisoned tid id dst).modThr tid fun x => { x with resv := .poisoned }
      else s.modThr tid fun x => { x with resv := .none } := by
  have hne : ¬ (s.thr tid).resv = .asked id := by rw [h]; exact Resv.noConfusion
  exact (if_neg hne).trans (if_pos h)

theorem State.resvReturn_stopped_resv {s : State} {tid id : Nat} (h : (s.thr tid).resv = .stopped id) (dst : Nat) (granted : Bool) :
    ((s.resvReturn tid id dst granted).thr tid).resv = if granted then .poisoned else .none := by
  rw [State.resvReturn_stopped h]
  cases granted with
  | false => rw [if_neg Bool.false_ne_true, State.thr_modThr_same]; rfl
  | true => rw [if_pos rfl, State.thr_modThr_same]; rfl

/-! ### Expiry (R74) -/

theorem exec_reservationExpiry_none {s : State} {tid : Nat} (h : ∀ id dst since, (s.thr tid).resv ≠ .opened id dst since) :
    exec (.reservationExpiry tid) s = .next s := by
  show execReservationExpiry tid s = _
  rw [execReservationExpiry]
  split
  next heq => exact absurd heq (h _ _ _)
  · rfl

theorem exec_reservationExpiry_open {s : State} {tid id dst since : Nat} (h : (s.thr tid).resv = .opened id dst since) :
    exec (.reservationExpiry tid) s = if since + 64 * max 1 (s.rd (F.MULE_YARN_CFG.YRES_LIMIT (muleOf (spOf tid)))) ≤ s.clk.cycles then
      .next ((s.poison tid).count (F.MULE_STAT.YRES_EXPIRED.CNT (muleOf (spOf tid))) 1) else .next s := by
  show execReservationExpiry tid s = _
  rw [execReservationExpiry, h]

theorem expired_apart_poisoned (m : Nat) : (F.MULE_STAT.YRES_EXPIRED.CNT m).apart (F.MULE_STAT.POISONED.CNT m) = true := by
  simp only [FRef.apart_iff, F.MULE_STAT.YRES_EXPIRED.CNT, F.MULE_STAT.POISONED.CNT]; omega

theorem poisoned_apart_expired (m : Nat) : ∀ f ∈ [F.MULE_STAT.POISONED.CNT m], (F.MULE_STAT.YRES_EXPIRED.CNT m).addr ≠ f.addr ∨
    (F.MULE_STAT.YRES_EXPIRED.CNT m).hi < f.lo ∨ f.hi < (F.MULE_STAT.YRES_EXPIRED.CNT m).lo := by
  intro f hf
  rw [List.mem_singleton.mp hf]
  simp only [F.MULE_STAT.YRES_EXPIRED.CNT, F.MULE_STAT.POISONED.CNT]; omega

section expires
variable {s : State} {tid id dst since : Nat} {m : Msg} (h : (s.thr tid).resv = .opened id dst since)
  (hm : (s.queueAt dst).find? (fun q => q.id == id) = some m) (he : epIsUnit dst = true ∨ s.rd (epochF (spOf (epTid dst))) = m.epoch)
include h hm he

/-- The poisoning of a reservation whose epoch is current. -/
theorem State.poison_current : s.poison tid = ((s.setQueue dst (replaceMsg (s.queueAt dst) id fun q =>
    { q with committed := true, kind := .poisoned })).modThr tid fun x => { x with resv := .poisoned }).count
      (F.MULE_STAT.POISONED.CNT (muleOf (spOf tid))) 1 := by
  rw [State.poison_opened h, State.closeResv_current .poisoned hm he]

theorem State.poison_current_regsKept : s.regsKept (s.poison tid) [F.MULE_STAT.POISONED.CNT (muleOf (spOf tid))] := by
  rw [State.poison_current h hm he]
  exact (((s.regsKept_refl _).setQueue _ _).modThr _ _).count 1 List.mem_cons_self (show 31 < 64 by decide)

theorem State.poison_current_queueAt : (s.poison tid).queueAt dst = replaceMsg (s.queueAt dst) id fun q =>
    { q with committed := true, kind := .poisoned } := by
  rw [State.poison_current h hm he]
  exact State.setQueue_queueAt_same _ _ _

theorem State.poison_current_queueAt_other {e : Nat} (hne : e ≠ dst) : (s.poison tid).queueAt e = s.queueAt e := by
  rw [State.poison_current h hm he]
  exact State.setQueue_queueAt_other _ _ hne

theorem State.poison_current_thr : (s.poison tid).thr tid = { s.thr tid with resv := .poisoned } := by
  rw [State.poison_current h hm he, State.count_thr, State.thr_modThr_same]
  rfl

end expires

end Sys2Proof.Machine

open Sys2Proof Sys2Proof.Machine

/-- Settles O11: the verdict, what each verdict leaves, the status that returns, and the expiry of a reservation. -/
theorem yarnDelivery : Obligations.YarnDelivery := by
  refine ⟨?_, ?_, ?_, ?_, ?_, ?_⟩
  · rintro s m reply sp outside hu rfl hout
    have hout' : outside ↔ s.outsider m reply := hout
    refine ⟨s.judge_range hu, fun hr hf => ?_⟩
    have := Classical.propDecidable outside
    have hj := s.judge_thread (reply := reply) hu hr hf hout'
    refine ⟨fun hs => hj.trans (if_pos hs), fun he h0 ho => ?_, fun he h0 ho => ?_⟩
    · exact hj.trans ((if_neg (by simp [he, h0])).trans (if_pos ho))
    · have hj' := hj.trans ((if_neg (by simp [he, h0])).trans (if_neg ho))
      refine ⟨fun hlen => hj'.trans (if_pos hlen), fun hlen => hj'.trans ((if_neg (by omega)).trans ?_)⟩
      rw [Nat.add_assoc]
  · intro s id f hway hpost i hi
    rw [exec_arrival hway hpost hi]
    obtain ⟨hf, hid, hst⟩ := State.underWay_some hway
    refine ⟨fun hw => congrArg _ (State.arrive_waits hway hw), fun h1 h2 h3 => ?_⟩
    have hw : ¬ s.arrivalWaits f := by simp [State.arrivalWaits, h1, h2, h3]
    refine ⟨fun hop => ?_, fun m hop hm he => ?_⟩
    · rw [State.arrive_judged hway hw hop]
      refine ⟨fun hv => ?_, fun hv hb => ?_, fun hv hb => ?_, fun e tid hv _ hu htid => ?_, fun c tid hv _ hu htid hc => ?_⟩ <;> rw [hv]
      · exact ⟨_, rfl, State.judgedAs_ok hf hid hst⟩
      · exact congrArg _ (if_pos hb)
      · exact ⟨_, congrArg _ (if_neg (by rw [hb]; exact Bool.false_ne_true)), rfl, fun x ho => State.answer_mem hf hid hst ho,
          s.onlyYarn_refl.answer _ _⟩
      · subst htid
        obtain ⟨t, ht, hq, hcnt, hkept, hev, hregs, hnote, hfl, honly⟩ := State.judgedAs_stale hf hid hst hu e
        exact ⟨t, congrArg _ ht, hq, hcnt, hkept, hev, hregs, fun hn => hnote.trans (Thread.note_none hn _ _ _ _), hfl, honly.csrMulesYarn⟩
      · subst htid
        obtain ⟨t, ht, hq, hcnt, hkept, hev, hnote, hfl⟩ := State.judgedAs_refused hf hid hst hu hc
        exact ⟨t, congrArg _ ht, hq, hcnt, hkept, hev, fun hn => hnote.trans (Thread.note_none hn _ _ _ _),
          fun n hn => hnote.trans (Thread.note_some hn _ _ _ _), hfl⟩
    · rw [State.arrive_commit_current hway hw hop hm he]
      refine ⟨_, rfl, ((s.onlyYarn_refl.setQueue _ _).setQueue _ _).answer _ _, fun e hne => ?_, ?_, fun x ho => State.answer_mem hf hid hst ho⟩
      · rw [State.answer_queueAt, State.broughtWords]; exact (State.setQueue_setQueue _ _ _ _).2 e hne
      · rw [State.answer_queueAt, State.setQueue_queueAt_same]
  · intro s id hall
    refine exec_arrival_none (List.find?_eq_none.mpr fun f hf => ?_)
    have := hall f hf
    simpa using this
  · intro s id st tid f hret hst ho htid
    have hexec := exec_yarnStatusReturn hret hst ho
    have hthr : (s.opEnded id f).thr tid = s.thr tid := rfl
    have hflights : ∀ g ∈ (s.opEnded id f).yarn.flights, g.msg.id = id → g.op ≠ f.op := fun g hg hid => State.opEnded_flights hg hid
    refine ⟨fun hop hgen => ?_, fun hop hgen => ?_, fun hop hgen hr => ?_, fun hop hr => ?_⟩
    · simp only [if_neg hop, hthr, if_pos hgen] at hexec
      refine ⟨_, _, hexec, rfl, ?_, ?_, fun u hu => State.statusEnd_thr_other hu, fun hy => ?_, fun hy => ?_⟩
      · rw [State.statusEnd_yarn]; rfl
      · rw [State.statusEnd_yarn]; exact hflights
      · rw [State.statusEnd_unwaited (s := s.opEnded id f) hy]
        exact ⟨State.statusWritten_thr _ _ _ _, rfl, State.yarnsOnly.yarnMules ((s.yarnsOnly_refl.setFlights _).modThr _ _) rfl⟩
      · rw [State.statusEnd_waited (s := s.opEnded id f) hy]
        refine ⟨?_, State.endYwait_ts _ htid, fun hh hs => State.endYwait_stopped _ hh hs⟩
        rw [State.endYwait_thr, State.statusWritten_thr]
        rfl
    · simp only [if_neg hop, hthr, if_neg hgen] at hexec
      exact ⟨_, hexec, s.onlyYarn_refl.setFlights _, rfl, hflights⟩
    · simp only [if_pos hop, State.resvReturn_asked (s := s.opEnded id f) hr, State.thr_modThr_same, hthr, if_pos hgen] at hexec
      refine ⟨_, hexec, ?_⟩
      obtain ⟨y, k, hx⟩ := State.statusEnd_thr (s := (s.opEnded id f).modThr tid fun x =>
        { x with resv := if st == ysOk then .opened id f.msg.dst (s.opEnded id f).clk.cycles else .none }) (id := id) (tid := tid) (f := f) (st := st)
      rw [hx, State.statusEnd_yarn, State.thr_modThr_same]
      refine ⟨Thread.usable_setG_g _ f.rd f.rd _, Thread.usable_setG_pend _ f.rd f.rd _, rfl, (Thread.usable_setG_resv _ f.rd f.rd _).trans ?_⟩
      simp only [beq_iff_eq, ysOk]
      rfl
    · simp only [if_pos hop] at hexec
      have hresv := State.resvReturn_stopped_resv (s := s.opEnded id f) hr f.msg.dst (st == ysOk)
      have hst0 : (if (st == ysOk) = true then Resv.poisoned else Resv.none) = if st = 0 then Resv.poisoned else Resv.none := by
        simp only [beq_iff_eq, ysOk]
      rw [hst0] at hresv
      by_cases hg : (((s.opEnded id f).resvReturn tid id f.msg.dst (st == ysOk)).thr tid).gen = f.gen
      · rw [if_pos hg] at hexec
        refine ⟨_, hexec, ?_⟩
        obtain ⟨y, k, hx⟩ := State.statusEnd_thr (s := (s.opEnded id f).resvReturn tid id f.msg.dst (st == ysOk)) (id := id) (tid := tid) (f := f) (st := st)
        rw [hx]
        exact (Thread.usable_setG_resv _ f.rd f.rd _).trans hresv
      · rw [if_neg hg] at hexec
        exact ⟨_, hexec, hresv⟩
  · intro s id hall
    refine exec_yarnStatusReturn_none (List.find?_eq_none.mpr fun f hf => ?_)
    have := hall f hf
    simpa using this
  · rintro s tid m htid rfl
    have hm : tid / 128 = muleOf (spOf tid) := by rw [muleOf, spOf]; omega
    rw [hm]
    refine ⟨exec_reservationExpiry_none, fun id dst since hr => ⟨fun hlt => ?_, fun x hdue hx he => ?_⟩⟩
    · rw [exec_reservationExpiry_open hr, if_neg (by omega)]
    · refine ⟨_, (exec_reservationExpiry_open hr).trans (if_pos hdue), ?_, ?_, fun e hne => ?_, ?_, ?_, ?_, ?_⟩
      · rw [State.count_thr, State.poison_current_thr hr hx he]
      · exact State.poison_current_queueAt hr hx he
      · exact State.poison_current_queueAt_other hr hx he hne
      · rw [State.rd_count_apart _ _ _ _ (show 31 < 64 by decide) (expired_apart_poisoned _), State.poison_opened_count hr]
      · rw [State.rd_count_same _ _ _ (show 31 < 64 by decide), State.poison_current_regsKept hr hx he _ (poisoned_apart_expired _)]
        rfl
      · exact ((State.poison_current_regsKept hr hx he).mono (by simp)).count 1 (by simp) (show 31 < 64 by decide)
      · rw [State.count_thr, State.poison_current_thr hr hx he]
end

section
/-! Bank swaps and image loads: what stays within the threads of a spindle, the threads of a spindle whose banks swap, and the standby banks
(R57 to R59, R84, R114, R123, R124). -/

namespace Sys2Proof.Machine

open Sys2Proof

/-! ### Changes within some threads and register fields -/

/-- From `s` to `t` nothing changes but the register fields `fs`, the records of the threads `l`, their scratch accesses and the operations
under way. -/
structure State.within (s t : State) (fs : List FRef) (l : List Nat) : Prop where
  only : s.yarnsOnly t
  regs : s.regsKept t fs
  yarn : { t.yarn with flights := s.yarn.flights } = s.yarn
  mules : { t.mules with threads := s.mules.threads, scratchQ := s.mules.scratchQ } = s.mules
  threads : ∀ u, u ∉ l → t.thr u = s.thr u

section within
variable {s t u : State} {fs gs : List FRef} {l k : List Nat}

theorem State.within_refl (s : State) (fs : List FRef) (l : List Nat) : s.within s fs l := ⟨rfl, s.regsKept_refl fs, rfl, rfl, fun _ _ => rfl⟩

theorem State.within.trans (h : s.within t fs l) (h' : t.within u fs l) : s.within u fs l where
  only := h.only.trans h'.only
  regs := h.regs.trans h'.regs
  yarn := by rw [← h.yarn, ← h'.yarn]
  mules := by rw [← h.mules, ← h'.mules]
  threads := fun v hv => (h'.threads v hv).trans (h.threads v hv)

theorem State.within.mono (h : s.within t fs l) (hf : ∀ f ∈ fs, f ∈ gs) (hl : ∀ v ∈ l, v ∈ k) : s.within t gs k :=
  ⟨h.only, h.regs.mono hf, h.yarn, h.mules, fun v hv => h.threads v fun hm => hv (hl v hm)⟩

/-- Fields written within fields that are listed. -/
theorem State.within.widen (h : s.within t fs l) (hf : ∀ f ∈ fs, ∃ g ∈ gs, f.addr = g.addr ∧ g.lo ≤ f.lo ∧ f.hi ≤ g.hi) (hl : ∀ v ∈ l, v ∈ k) :
    s.within t gs k where
  only := h.only
  regs := fun g hg => h.regs g fun f hf' => by
    obtain ⟨w, hw, ha, hlo, hhi⟩ := hf f hf'
    have hap := hg w hw
    omega
  yarn := h.yarn
  mules := h.mules
  threads := fun v hv => h.threads v fun hm => hv (hl v hm)

theorem State.within.wr (h : s.within t fs l) {f : FRef} (v : Nat) (hf : f ∈ fs) (hi : f.hi < 64) : s.within (t.wr f v) fs l :=
  ⟨h.only.wr f v, h.regs.wr v hf hi, h.yarn, h.mules, h.threads⟩

theorem State.within.modThr (h : s.within t fs l) {tid : Nat} (f : Thread → Thread) (hl : tid ∈ l) : s.within (t.modThr tid f) fs l :=
  ⟨h.only.modThr tid f, h.regs.modThr tid f, h.yarn, h.mules,
    fun v hv => (State.thr_modThr_other t tid v f fun e => hv (by rw [e]; exact hl)).trans (h.threads v hv)⟩

theorem State.within.setTs (h : s.within t fs l) {tid : Nat} (st : Nat) (hs : thrStateF tid ∈ fs) (hh : haltedF tid ∈ fs) :
    s.within (t.setTs tid st) fs l where
  only := h.only.setTs tid st
  regs := h.regs.setTs st hs hh
  yarn := by rw [State.setTs_yarn]; exact h.yarn
  mules := by rw [State.setTs_mules]; exact h.mules
  threads := fun v hv => by rw [State.setTs_thr]; exact h.threads v hv

theorem State.within.spindle (h : s.within t fs l) (sp : Nat) : t.spindle sp = s.spindle sp := by
  have e := congrArg (fun m => AMap.getD (Mules.spindles m) sp Spindle.reset) h.mules
  exact e

theorem State.within.spindles (h : s.within t fs l) : t.mules.spindles = s.mules.spindles := by
  have e := congrArg Mules.spindles h.mules
  exact e

theorem State.within.clk (h : s.within t fs l) : t.clk = s.clk := by
  have e := congrArg State.clk h.only
  exact e

/-- Steps that each stay within something of their own stay within all of it. -/
theorem State.within_foldl {α : Type} {f : State → α → State} {Q : State → α → Prop} {F : α → List FRef} {L : α → List Nat}
    (hf : ∀ s a, Q s a → s.within (f s a) (F a) (L a)) (hQ : ∀ s a b, b ≠ a → Q s a → Q s b → Q (f s a) b) :
    ∀ (l : List α) (s : State), l.Nodup → (∀ a ∈ l, Q s a) → s.within (l.foldl f s) (l.flatMap F) (l.flatMap L) := by
  intro l
  induction l with
  | nil => exact fun s _ _ => s.within_refl _ _
  | cons a l ih =>
    intro s hd h
    obtain ⟨ha, hl⟩ := List.nodup_cons.mp hd
    have hfst := hf s a (h a List.mem_cons_self)
    have hrest := ih (f s a) hl fun b hb => hQ s a b (fun e => ha (e ▸ hb)) (h a List.mem_cons_self) (h b (List.mem_cons_of_mem a hb))
    rw [List.foldl_cons, List.flatMap_cons, List.flatMap_cons]
    exact (hfst.mono (fun g hg => List.mem_append_left _ hg) (fun v hv => List.mem_append_left _ hv)).trans
      (hrest.mono (fun g hg => List.mem_append_right _ hg) (fun v hv => List.mem_append_right _ hv))

end within

/-- A thread's record, state and kind, and the time. -/
structure State.standsAs (s t : State) (tid : Nat) : Prop where
  thr : t.thr tid = s.thr tid
  ts : t.ts tid = s.ts tid
  bounded : t.bounded tid = s.bounded tid
  clk : t.clk = s.clk

theorem State.standsAs.trans {s t u : State} {tid : Nat} (h : s.standsAs t tid) (h' : t.standsAs u tid) : s.standsAs u tid :=
  ⟨h'.thr.trans h.thr, h'.ts.trans h.ts, h'.bounded.trans h.bounded, h'.clk.trans h.clk⟩

/-! ### The restart of a thread with no reservation open -/

theorem State.supersede_yarn (s : State) (tid : Nat) (rs : List Nat) :
    { (s.supersede tid rs).yarn with flights := s.yarn.flights } = s.yarn := by
  unfold State.supersede
  split <;> rfl

theorem State.poison_within (s : State) {tid : Nat} (hr : (s.thr tid).holdsResv = false) : s.within (s.poison tid) (tsFields tid) [tid] := by
  have hown := (s.poison_quiet hr).1
  have hyarn : (s.poison tid).yarn = s.yarn := by
    have e := congrArg State.yarn hown.1
    exact e
  exact ⟨hown.1.yarnsOnly, State.regsKept_of_csr hown.csr _, by rw [hyarn], by rw [← hown.2.1], fun u hu => hown.2.2 u (by simpa using hu)⟩

/-- What a restart changes once the thread's reservation is closed. -/
theorem State.restartThr_after (s : State) (tid reason : Nat) : (s.poison tid).within (s.restartThr tid reason) (tsFields tid) [tid] := by
  cases he : (s.poison tid).longEntry tid with
  | none =>
    rw [State.restartThr, he]
    exact ((State.within_refl _ _ _).modThr _ (by simp)).setTs _ (by simp) (by simp)
  | some pc =>
    rw [s.restartThr_eq reason he]
    have hsup := (s.poison tid).supersede_ownChange tid (if tOf tid = 0 then [1] else [1, 2])
    have hwithin : (s.poison tid).within ((s.poison tid).supersede tid (if tOf tid = 0 then [1] else [1, 2])) (tsFields tid) [tid] :=
      ⟨hsup.only, State.regsKept_of_csr hsup.csr _, (s.poison tid).supersede_yarn _ _, hsup.mules, fun u hu => hsup.threads u (by simpa using hu)⟩
    exact (hwithin.modThr _ (by simp)).setTs _ (by simp) (by simp)

theorem State.restartThr_within (s : State) {tid : Nat} (reason : Nat) (hr : (s.thr tid).holdsResv = false) :
    s.within (s.restartThr tid reason) (tsFields tid) [tid] := (s.poison_within hr).trans (s.restartThr_after tid reason)

/-! ### The fields of a spindle -/

theorem standbyF_hi (sp : Nat) : (standbyF sp).hi < 64 := by simp only [standbyF, F.MULE_THR_STATE.STANDBY_VALID]; omega
theorem drainingF_hi (sp : Nat) : (drainingF sp).hi < 64 := by simp only [drainingF, F.MULE_THR_STATE.DRAINING]; omega

/-- The field of a spindle's active bank. -/
abbrev activeF (sp : Nat) : FRef := F.MULE_THR_STATE.ACTIVE_BANK (muleOf sp) (logOf sp)

theorem State.activeBank_eq (s : State) (sp : Nat) : s.activeBank sp = s.rd (activeF sp) := rfl
theorem State.activeBank_lt (s : State) (sp : Nat) : s.activeBank sp < 2 := s.rd_lt (activeF sp)

/-- The two words of a spindle that a swap of its banks writes: those of its threads' states and halts. -/
def stateWordF (sp : Nat) : FRef := ⟨0x200300 + 0x10000 * muleOf sp + 4 * logOf sp, 63, 0⟩
def haltWordF (sp : Nat) : FRef := ⟨0x204000 + 0x10000 * muleOf sp + 4 * logOf sp, 63, 0⟩
abbrev spindleFields (sp : Nat) : List FRef := [stateWordF sp, haltWordF sp]

theorem activeF_apart_thrStateF (sp tid : Nat) : ∀ f ∈ tsFields tid, (activeF sp).addr ≠ f.addr ∨ (activeF sp).hi < f.lo ∨ f.hi < (activeF sp).lo := by
  intro f hf
  simp only [List.mem_cons, List.not_mem_nil, or_false] at hf
  rcases hf with rfl | rfl <;>
    simp only [F.MULE_THR_STATE.ACTIVE_BANK, thrStateF, haltedF, F.MULE_THR_STATE.STATE, F.MULE_DBG_HALT.MASK, logOf, tOf] <;> omega

theorem standbyF_apart_thrStateF (sp tid : Nat) : ∀ f ∈ tsFields tid, (standbyF sp).addr ≠ f.addr ∨ (standbyF sp).hi < f.lo ∨ f.hi < (standbyF sp).lo := by
  intro f hf
  simp only [List.mem_cons, List.not_mem_nil, or_false] at hf
  rcases hf with rfl | rfl <;>
    simp only [standbyF, F.MULE_THR_STATE.STANDBY_VALID, thrStateF, haltedF, F.MULE_THR_STATE.STATE, F.MULE_DBG_HALT.MASK, logOf, tOf] <;> omega

theorem roleF_apart_thrStateF (sp tid : Nat) : ∀ f ∈ tsFields tid, (roleF sp).addr ≠ f.addr ∨ (roleF sp).hi < f.lo ∨ f.hi < (roleF sp).lo := by
  intro f hf
  simp only [List.mem_cons, List.not_mem_nil, or_false] at hf
  rcases hf with rfl | rfl <;>
    simp only [roleF, F.MULE_ROLE.ROLE, thrStateF, haltedF, F.MULE_THR_STATE.STATE, F.MULE_DBG_HALT.MASK, logOf] <;> omega

theorem thrStateF_apart_tsFields {tid u : Nat} (h : u ≠ tid) :
    ∀ f ∈ tsFields tid, (thrStateF u).addr ≠ f.addr ∨ (thrStateF u).hi < f.lo ∨ f.hi < (thrStateF u).lo := by
  intro f hf
  simp only [List.mem_cons, List.not_mem_nil, or_false] at hf
  rcases hf with rfl | rfl
  · exact (FRef.apart_iff _ _).mp (thrStateF_apart h)
  · exact (FRef.apart_iff _ _).mp (haltedF_apart_thrStateF tid u)

/-- What a change within threads and their states leaves of another thread. -/
theorem State.within.standsAs {s t : State} {l : List Nat} {tid : Nat} (h : s.within t (l.flatMap tsFields) l) (ht : tid ∉ l) : s.standsAs t tid where
  thr := h.threads tid ht
  ts := State.ts_of_rd (h.regs _ fun f hf => by
    obtain ⟨u, hu, hf⟩ := List.mem_flatMap.mp hf
    exact thrStateF_apart_tsFields (fun e => ht (by rw [e]; exact hu)) f hf)
  bounded := State.bounded_congr (h.regs _ fun f hf => by
    obtain ⟨u, _, hf⟩ := List.mem_flatMap.mp hf
    exact roleF_apart_thrStateF _ _ f hf)
  clk := h.clk

theorem State.within.activeBank {s t : State} {l k : List Nat} (h : s.within t (l.flatMap tsFields) k) (sp : Nat) : t.activeBank sp = s.activeBank sp :=
  h.regs (activeF sp) fun f hf => by
    obtain ⟨u, _, hf⟩ := List.mem_flatMap.mp hf
    exact activeF_apart_thrStateF _ _ f hf

theorem State.within.activeImage {s t : State} {l k : List Nat} (h : s.within t (l.flatMap tsFields) k) (sp : Nat) : t.activeImage sp = s.activeImage sp :=
  State.activeImage_congr (h.spindle sp) (h.activeBank sp)

theorem State.within.longEntry {s t : State} {l k : List Nat} (h : s.within t (l.flatMap tsFields) k) (tid : Nat) : t.longEntry tid = s.longEntry tid :=
  State.longEntry_congr (h.activeImage _)

/-! ### A thread whose spindle swaps banks (R58) -/

/-- The swap's effect on a thread: bank `b` is the new one. -/
structure State.swappedThr (s t : State) (tid b : Nat) : Prop where
  bounded : s.bounded tid = true → t.thr tid = s.thr tid ∧ (s.ts tid ≠ tsOff → s.ts tid ≠ tsIdle → t.ts tid = s.ts tid)
  stopped : s.bounded tid = false → s.ts tid = tsFault ∨ s.ts tid = tsHalt → t.thr tid = { s.thr tid with restartDue := true }
  holding : s.bounded tid = false → s.ts tid ≠ tsFault → s.ts tid ≠ tsHalt → (s.thr tid).holdsResv = true →
    t.thr tid = { s.thr tid with restartReq := some (s.clk.cycles, 2) }
  restarts : ∀ pc, s.bounded tid = false → s.ts tid ≠ tsFault → s.ts tid ≠ tsHalt → (s.thr tid).holdsResv = false → t.longEntry tid = some pc →
    t.ts tid = tsRun ∧ (t.thr tid).pc = pc ∧ (t.thr tid).bank = b ∧ (t.thr tid).g 1 = 2

theorem State.swappedThr.congr {s t s' t' : State} {tid b : Nat} (h : s.swappedThr t tid b) (hs : s'.standsAs s tid) (ht : t.standsAs t' tid)
    (he : t'.longEntry tid = t.longEntry tid) : s'.swappedThr t' tid b := by
  obtain ⟨h1, h2, h3, h4⟩ := h
  rw [hs.thr, hs.ts, hs.bounded] at *
  rw [hs.clk] at h3
  exact ⟨fun hb => by rw [ht.thr, ht.ts]; exact h1 hb, fun hb hst => by rw [ht.thr]; exact h2 hb hst,
    fun hb hf hh hr => by rw [ht.thr]; exact h3 hb hf hh hr, fun pc hb hf hh hr => by rw [ht.thr, ht.ts, he]; exact h4 pc hb hf hh hr⟩

section swapThread
variable (s : State) {tid : Nat}

theorem State.swapThread_bounded (hb : s.bounded tid = true) :
    s.swapThread tid = if s.ts tid = tsOff ∨ s.ts tid = tsIdle then s.setTs tid (s.restState tid) else s := if_pos hb

theorem State.swapThread_stopped (hb : s.bounded tid = false) (h : s.ts tid = tsFault ∨ s.ts tid = tsHalt) :
    s.swapThread tid = s.modThr tid (fun x => { x with restartDue := true }) :=
  (if_neg (by rw [hb]; exact Bool.false_ne_true)).trans (if_pos h)

theorem State.swapThread_holding (hb : s.bounded tid = false) (h : ¬ (s.ts tid = tsFault ∨ s.ts tid = tsHalt)) (hr : (s.thr tid).holdsResv = true) :
    s.swapThread tid = s.modThr tid (fun x => { x with restartReq := some (s.clk.cycles, rsSwap) }) :=
  (if_neg (by rw [hb]; exact Bool.false_ne_true)).trans ((if_neg h).trans (if_pos hr))

theorem State.swapThread_restarts (hb : s.bounded tid = false) (h : ¬ (s.ts tid = tsFault ∨ s.ts tid = tsHalt)) (hr : (s.thr tid).holdsResv = false) :
    s.swapThread tid = s.restartThr tid rsSwap :=
  (if_neg (by rw [hb]; exact Bool.false_ne_true)).trans ((if_neg h).trans (if_neg (by rw [hr]; exact Bool.false_ne_true)))

theorem State.swapThread_within (tid : Nat) : s.within (s.swapThread tid) (tsFields tid) [tid] := by
  cases hb : s.bounded tid with
  | true =>
    rw [s.swapThread_bounded hb]
    split
    · exact (s.within_refl _ _).setTs _ (by simp) (by simp)
    · exact s.within_refl _ _
  | false =>
    by_cases h : s.ts tid = tsFault ∨ s.ts tid = tsHalt
    · rw [s.swapThread_stopped hb h]; exact (s.within_refl _ _).modThr _ (by simp)
    · cases hr : (s.thr tid).holdsResv with
      | true => rw [s.swapThread_holding hb h hr]; exact (s.within_refl _ _).modThr _ (by simp)
      | false => rw [s.swapThread_restarts hb h hr]; exact s.restartThr_within _ hr

theorem State.swapThread_swapped (h : tid < 6144) : s.swappedThr (s.swapThread tid) tid (s.activeBank (spOf tid)) where
  bounded hb := by
    rw [s.swapThread_bounded hb]
    split
    next hrest => exact ⟨State.setTs_thr _ _ _ _, fun h1 h2 => absurd hrest (by simp [h1, h2])⟩
    next => exact ⟨rfl, fun _ _ => rfl⟩
  stopped hb hst := by rw [s.swapThread_stopped hb hst, State.thr_modThr_same]
  holding hb hf hh hr := by rw [s.swapThread_holding hb (by simp [hf, hh]) hr, State.thr_modThr_same]; rfl
  restarts pc hb hf hh hr he := by
    have hw := s.swapThread_within tid
    have he' : s.longEntry tid = some pc := by
      rw [← State.within.longEntry (l := [tid]) (by simpa using hw) tid]
      exact he
    rw [s.swapThread_restarts hb (by simp [hf, hh]) hr]
    have hgo := s.restartThr_restarted rsSwap h he' hr
    exact ⟨hgo.ts, hgo.pc, hgo.bank, hgo.reason⟩

end swapThread

/-! ### A spindle that swaps banks -/

theorem threadsOf_nodup (sp : Nat) : (threadsOf sp).Nodup :=
  List.Nodup.map (fun _ _ h => Nat.add_left_cancel h) List.nodup_range

theorem lt_of_mem_threadsOf {sp u : Nat} (h : u ∈ threadsOf sp) : u / 8 = sp := by
  obtain ⟨k, hk, rfl⟩ := List.mem_map.mp h
  have hk := List.mem_range.mp hk
  rw [tidOf]; omega

theorem State.toggleBank_within (s : State) (sp : Nat) : s.within (s.toggleBank sp) [activeF sp, standbyF sp] [] :=
  ((s.within_refl _ _).wr _ (by simp) (show 31 < 64 by decide)).wr _ (by simp) (standbyF_hi sp)

theorem State.toggleBank_activeBank (s : State) (sp : Nat) : (s.toggleBank sp).activeBank sp = 1 - s.activeBank sp := by
  have hb := s.activeBank_lt sp
  have hap : (standbyF sp).apart (activeF sp) = true := by
    simp only [FRef.apart_iff, standbyF, F.MULE_THR_STATE.ACTIVE_BANK, F.MULE_THR_STATE.STANDBY_VALID]; omega
  rw [State.activeBank_eq, State.toggleBank, State.rd_wr_apart _ _ _ _ (standbyF_hi sp) hap]
  refine (State.rd_wr_same _ (activeF sp) _ (show 31 < 64 by decide)).trans (Nat.mod_eq_of_lt ?_)
  show 1 - s.activeBank sp < 2
  omega

theorem State.toggleBank_standby (s : State) (sp : Nat) : (s.toggleBank sp).rd (standbyF sp) = 0 :=
  (State.rd_wr_same _ _ _ (standbyF_hi sp)).trans (Nat.zero_mod _)

theorem State.toggleBank_standsAs (s : State) (sp tid : Nat) : s.standsAs (s.toggleBank sp) tid where
  thr := rfl
  ts := State.ts_of_rd ((s.toggleBank_within sp).regs _ fun f hf => by
    simp only [List.mem_cons, List.not_mem_nil, or_false] at hf
    rcases hf with rfl | rfl <;>
      simp only [standbyF, F.MULE_THR_STATE.STANDBY_VALID, F.MULE_THR_STATE.ACTIVE_BANK, thrStateF, F.MULE_THR_STATE.STATE, logOf, tOf] <;> omega)
  bounded := State.bounded_congr ((s.toggleBank_within sp).regs _ fun f hf => by
    simp only [List.mem_cons, List.not_mem_nil, or_false] at hf
    rcases hf with rfl | rfl <;>
      simp only [standbyF, F.MULE_THR_STATE.STANDBY_VALID, F.MULE_THR_STATE.ACTIVE_BANK, roleF, F.MULE_ROLE.ROLE, logOf] <;> omega)
  clk := rfl

theorem State.toggleBank_role (s : State) (sp u : Nat) : (s.toggleBank sp).role u = s.role u :=
  (s.toggleBank_within sp).regs (roleF u) fun f hf => by
    simp only [List.mem_cons, List.not_mem_nil, or_false] at hf
    rcases hf with rfl | rfl <;>
      simp only [standbyF, F.MULE_THR_STATE.STANDBY_VALID, F.MULE_THR_STATE.ACTIVE_BANK, roleF, F.MULE_ROLE.ROLE, logOf] <;> omega

/-- The state of a spindle whose threads have met the swap. -/
def State.swapThreads (s : State) (sp : Nat) : State :=
  if s.role sp = roleSpare then s else (threadsOf sp).foldl (fun s t => s.swapThread t) s

theorem State.swapSpindle_eq (s : State) (sp : Nat) : ∃ v, s.swapSpindle sp = ((s.toggleBank sp).swapThreads sp).wr (drainingF sp) v := ⟨_, rfl⟩

theorem State.foldl_swapThread_within (s : State) {l : List Nat} (h : l.Nodup) :
    s.within (l.foldl (fun s t => s.swapThread t) s) (l.flatMap tsFields) l := by
  have hw := State.within_foldl (Q := fun _ _ => True) (f := fun s t => State.swapThread s t) (F := tsFields) (L := fun t => [t])
    (fun s a _ => s.swapThread_within a) (fun _ _ _ _ _ _ => trivial) l s h (fun _ _ => trivial)
  rwa [List.flatMap_singleton'] at hw

theorem State.swapThreads_within (s : State) (sp : Nat) : s.within (s.swapThreads sp) ((threadsOf sp).flatMap tsFields) (threadsOf sp) := by
  unfold State.swapThreads
  split
  · exact s.within_refl _ _
  · exact s.foldl_swapThread_within (threadsOf_nodup sp)

theorem State.swapThreads_swapped (s : State) {sp tid : Nat} (ht : tid < 6144) (hm : tid ∈ threadsOf sp) (hr : s.role sp ≠ roleSpare) :
    s.swappedThr (s.swapThreads sp) tid (s.activeBank sp) := by
  have hsp : spOf tid = sp := lt_of_mem_threadsOf hm
  obtain ⟨l, k, hl⟩ := List.append_of_mem hm
  have hd := threadsOf_nodup sp
  rw [hl, List.nodup_middle, List.nodup_cons] at hd
  obtain ⟨hnot, hd⟩ := hd
  obtain ⟨hdl, hdk⟩ := List.nodup_append.mp hd |>.imp id And.left
  rw [State.swapThreads, if_neg hr, hl, List.foldl_append, List.foldl_cons]
  have hbefore := s.foldl_swapThread_within hdl
  generalize l.foldl (fun s t => s.swapThread t) s = u at hbefore
  have hafter := (u.swapThread tid).foldl_swapThread_within hdk
  have hmid := u.swapThread_swapped ht
  rw [hbefore.activeBank, hsp] at hmid
  exact hmid.congr (hbefore.standsAs fun h => hnot (List.mem_append_left _ h)) (hafter.standsAs fun h => hnot (List.mem_append_right _ h))
    (hafter.longEntry tid)

/-- What the swap of a spindle's banks makes of the spindle: bank `b` becomes the active one. -/
structure State.swappedSpindle (s t : State) (sp b : Nat) : Prop where
  bank : t.activeBank sp = b
  standby : t.rd (standbyF sp) = 0
  threads : ∀ tid, tid < 6144 → tid ∈ threadsOf sp → s.role sp ≠ roleSpare → s.swappedThr t tid b

theorem State.swapSpindle_within (s : State) (sp : Nat) : s.within (s.swapSpindle sp) (spindleFields sp) (threadsOf sp) := by
  obtain ⟨v, hv⟩ := s.swapSpindle_eq sp
  rw [hv]
  refine State.within.trans (t := (s.toggleBank sp).swapThreads sp) (State.within.trans (t := s.toggleBank sp) ?_ ?_) ?_
  · refine (s.toggleBank_within sp).widen (fun f hf => ⟨stateWordF sp, by simp, ?_⟩) (fun v hv => by cases hv)
    simp only [List.mem_cons, List.not_mem_nil, or_false] at hf
    rcases hf with rfl | rfl
    · exact ⟨rfl, Nat.zero_le _, show 31 ≤ 63 by decide⟩
    · exact ⟨rfl, Nat.zero_le _, show 30 ≤ 63 by decide⟩
  · refine ((s.toggleBank sp).swapThreads_within sp).widen (fun f hf => ?_) (fun v hv => hv)
    obtain ⟨u, hu, hf⟩ := List.mem_flatMap.mp hf
    have hu : spOf u = sp := lt_of_mem_threadsOf hu
    simp only [List.mem_cons, List.not_mem_nil, or_false] at hf
    rcases hf with rfl | rfl
    · refine ⟨stateWordF sp, by simp, ?_, Nat.zero_le _, ?_⟩
      · simp only [stateWordF, thrStateF, F.MULE_THR_STATE.STATE, hu]
      · simp only [stateWordF, thrStateF, tOf]; omega
    · refine ⟨haltWordF sp, by simp, ?_, Nat.zero_le _, ?_⟩
      · simp only [haltWordF, haltedF, F.MULE_DBG_HALT.MASK, hu]
      · simp only [haltWordF, haltedF, tOf]; omega
  · refine State.within.widen (fs := [drainingF sp]) (((State.within_refl _ _ (threadsOf sp)).wr v (by simp) (drainingF_hi sp)))
      (fun f hf => ⟨stateWordF sp, by simp, ?_⟩) (fun v hv => hv)
    rw [List.mem_singleton.mp hf]
    exact ⟨rfl, Nat.zero_le _, show 29 ≤ 63 by decide⟩

theorem State.swapSpindle_swapped (s : State) (sp : Nat) : s.swappedSpindle (s.swapSpindle sp) sp (1 - s.activeBank sp) := by
  obtain ⟨v, hv⟩ := s.swapSpindle_eq sp
  rw [hv]
  have hwithin := (s.toggleBank sp).swapThreads_within sp
  have hactive : (drainingF sp).apart (activeF sp) = true := by
    simp only [FRef.apart_iff, drainingF, F.MULE_THR_STATE.ACTIVE_BANK, F.MULE_THR_STATE.DRAINING]; omega
  have hstandby : (drainingF sp).apart (standbyF sp) = true := by
    simp only [FRef.apart_iff, drainingF, standbyF, F.MULE_THR_STATE.STANDBY_VALID, F.MULE_THR_STATE.DRAINING]; omega
  have hbank : (((s.toggleBank sp).swapThreads sp).wr (drainingF sp) v).activeBank sp = ((s.toggleBank sp).swapThreads sp).activeBank sp :=
    State.rd_wr_apart _ _ _ _ (drainingF_hi sp) hactive
  constructor
  case bank => rw [hbank, hwithin.activeBank, s.toggleBank_activeBank]
  case standby =>
    rw [State.rd_wr_apart _ _ _ _ (drainingF_hi sp) hstandby]
    refine (hwithin.regs _ fun f hf => ?_).trans (s.toggleBank_standby sp)
    obtain ⟨u, _, hf⟩ := List.mem_flatMap.mp hf
    exact standbyF_apart_thrStateF sp u f hf
  case threads =>
    intro tid ht hm hr
    have hsp : spOf tid = sp := lt_of_mem_threadsOf hm
    have hmid := (s.toggleBank sp).swapThreads_swapped ht hm (by rw [s.toggleBank_role]; exact hr)
    rw [s.toggleBank_activeBank] at hmid
    refine hmid.congr (s.toggleBank_standsAs sp tid) ⟨rfl, State.ts_of_rd ?_, State.bounded_congr ?_, rfl⟩ (State.longEntry_congr (State.activeImage_congr rfl ?_))
    · refine State.rd_wr_apart _ _ _ _ (drainingF_hi sp) ?_
      simp only [FRef.apart_iff, drainingF, F.MULE_THR_STATE.DRAINING, thrStateF, F.MULE_THR_STATE.STATE, tOf, logOf]; omega
    · refine State.rd_wr_apart _ _ _ _ (drainingF_hi sp) ?_
      simp only [FRef.apart_iff, drainingF, F.MULE_THR_STATE.DRAINING, roleF, F.MULE_ROLE.ROLE, logOf]; omega
    · rw [hsp]; exact hbank

/-! ### The spindles of a swap -/

theorem mem_spinsOf {m spn sp : Nat} : sp ∈ spinsOf m spn ↔ ∃ k < 16, spn.testBit k = true ∧ sp = 16 * m + k := by
  simp only [spinsOf, List.mem_map, List.mem_filter, List.mem_range]
  exact ⟨fun ⟨k, ⟨hk, ht⟩, he⟩ => ⟨k, hk, ht, he.symm⟩, fun ⟨k, hk, ht, he⟩ => ⟨k, ⟨hk, ht⟩, he.symm⟩⟩

theorem spinsOf_nodup (m spn : Nat) : (spinsOf m spn).Nodup :=
  (List.nodup_range.filter _).map fun _ _ h => Nat.add_left_cancel h

/-- The state in which the spindles of a list have swapped their banks. -/
def State.swapSpindles (s : State) (sps : List Nat) : State := sps.foldl (fun s sp => s.swapSpindle sp) s

theorem State.swapSpindles_within (s : State) {sps : List Nat} (h : sps.Nodup) :
    s.within (s.swapSpindles sps) (sps.flatMap spindleFields) (sps.flatMap threadsOf) :=
  State.within_foldl (Q := fun _ _ => True) (fun s a _ => s.swapSpindle_within a) (fun _ _ _ _ _ _ => trivial) sps s h (fun _ _ => trivial)

/-- A field of a spindle's words, or of a word that is no spindle's. -/
theorem spindleFields_apart {sps : List Nat} {g : FRef} (h : ∀ sp ∈ sps, g.addr ≠ 0x200300 + 0x10000 * muleOf sp + 4 * logOf sp ∧
    g.addr ≠ 0x204000 + 0x10000 * muleOf sp + 4 * logOf sp) :
    ∀ f ∈ sps.flatMap spindleFields, g.addr ≠ f.addr ∨ g.hi < f.lo ∨ f.hi < g.lo := by
  intro f hf
  obtain ⟨sp, hsp, hf⟩ := List.mem_flatMap.mp hf
  simp only [List.mem_cons, List.not_mem_nil, or_false] at hf
  rcases hf with rfl | rfl
  · exact .inl (h sp hsp).1
  · exact .inl (h sp hsp).2

/-- What the swaps of other spindles leave of a spindle. -/
theorem State.within.otherSpindle {s t : State} {sps : List Nat} {sp : Nat} (h : s.within t (sps.flatMap spindleFields) (sps.flatMap threadsOf))
    (hsp : sp ∉ sps) : t.activeBank sp = s.activeBank sp ∧ t.rd (standbyF sp) = s.rd (standbyF sp) ∧ t.role sp = s.role sp ∧
      ∀ tid ∈ threadsOf sp, s.standsAs t tid := by
  have hne : ∀ u ∈ sps, 0x200300 + 0x10000 * muleOf sp + 4 * logOf sp ≠ 0x200300 + 0x10000 * muleOf u + 4 * logOf u := by
    intro u hu he
    refine hsp ?_
    have : sp = u := by simp only [muleOf, logOf] at he; omega
    rw [this]; exact hu
  have hrole : t.role sp = s.role sp := h.regs (roleF sp) (spindleFields_apart fun u _ => by
    simp only [roleF, F.MULE_ROLE.ROLE, logOf]; omega)
  refine ⟨h.regs (activeF sp) (spindleFields_apart fun u hu => ⟨hne u hu, ?_⟩), h.regs (standbyF sp) (spindleFields_apart fun u hu => ⟨hne u hu, ?_⟩),
    hrole, fun tid ht => ?_⟩
  · simp only [F.MULE_THR_STATE.ACTIVE_BANK, logOf]; omega
  · simp only [standbyF, F.MULE_THR_STATE.STANDBY_VALID, logOf]; omega
  · have htid : spOf tid = sp := lt_of_mem_threadsOf ht
    refine ⟨h.threads tid fun hm => ?_, State.ts_of_rd (h.regs _ (spindleFields_apart fun u hu => ⟨?_, ?_⟩)), State.bounded_congr (by rw [htid]; exact hrole), h.clk⟩
    · obtain ⟨u, hu, hm⟩ := List.mem_flatMap.mp hm
      exact hsp (by rw [← htid, show spOf tid = u from lt_of_mem_threadsOf hm]; exact hu)
    · simp only [thrStateF, F.MULE_THR_STATE.STATE, htid]; exact hne u hu
    · simp only [thrStateF, F.MULE_THR_STATE.STATE, logOf]; omega

/-- Each spindle of the list has swapped. -/
theorem State.swapSpindles_swapped (s : State) {sps : List Nat} {sp : Nat} (hd : sps.Nodup) (hm : sp ∈ sps) :
    s.swappedSpindle (s.swapSpindles sps) sp (1 - s.activeBank sp) := by
  obtain ⟨l, k, rfl⟩ := List.append_of_mem hm
  rw [List.nodup_middle, List.nodup_cons] at hd
  obtain ⟨hnot, hd⟩ := hd
  obtain ⟨hdl, hdk⟩ := List.nodup_append.mp hd |>.imp id And.left
  rw [State.swapSpindles, List.foldl_append, List.foldl_cons]
  have hbefore := s.swapSpindles_within hdl
  rw [State.swapSpindles] at hbefore
  generalize l.foldl (fun s sp => s.swapSpindle sp) s = u at hbefore
  have hafter := (u.swapSpindle sp).swapSpindles_within hdk
  rw [State.swapSpindles] at hafter
  generalize k.foldl (fun s sp => s.swapSpindle sp) (u.swapSpindle sp) = t at hafter
  obtain ⟨hbank, hstandby, hrole, hstand⟩ := hbefore.otherSpindle fun h => hnot (List.mem_append_left _ h)
  obtain ⟨hbank', hstandby', _, hstand'⟩ := hafter.otherSpindle fun h => hnot (List.mem_append_right _ h)
  have hmid := u.swapSpindle_swapped sp
  rw [hbank] at hmid
  refine ⟨hbank'.trans hmid.bank, hstandby'.trans hmid.standby, fun tid ht hmem hr => ?_⟩
  refine (hmid.threads tid ht hmem (by rw [hrole]; exact hr)).congr (hstand tid hmem) (hstand' tid hmem)
    (State.longEntry_congr (State.activeImage_congr (hafter.spindle _) ?_))
  rw [show spOf tid = sp from lt_of_mem_threadsOf hmem]
  exact hbank'

/-! ### Requests and the boundary (R59) -/

theorem State.flag_of_one {s : State} {f : FRef} (h : s.rd f = 1) : s.flag f = true := (s.flag_iff f).mpr h
theorem State.not_flag_of_zero {s : State} {f : FRef} (h : s.rd f = 0) : ¬ s.flag f = true := fun hf => by
  have := (s.flag_iff f).mp hf
  omega

theorem exec_muleSwapRequest (s : State) {m : Nat} (h : m < 48) (spn : Nat) : exec (.muleSwapRequest m spn) s = .next (s.swapRequest m spn) :=
  if_neg (by omega)

/-- The states of a swap request that is refused, and of one that stands. -/
def State.swapDenied (s : State) (m spn : Nat) : State := (s.wr (F.MULE_SWAP.SPN m) spn).wr (F.MULE_EVENT.SWAP_REJECT m) 1
def State.swapAsked (s : State) (m spn : Nat) : State :=
  { ((s.wr (F.MULE_SWAP.SPN m) spn).wr (F.MULE_SWAP.REQ m) 1) with mules := { s.mules with swapAt := AMap.set s.mules.swapAt m s.clk.cycles } }

theorem State.swapRequest_denied {s : State} {m : Nat} (spn : Nat) (hr : s.rd (F.MULE_SWAP.REQ m) = 0) (hb : s.rd (F.MULE_LOAD_CTRL.BUSY m) = 1) :
    s.swapRequest m spn = s.swapDenied m spn := (if_neg (State.not_flag_of_zero hr)).trans (if_pos (State.flag_of_one hb))

theorem State.swapRequest_asked {s : State} {m : Nat} (spn : Nat) (hr : s.rd (F.MULE_SWAP.REQ m) = 0) (hb : s.rd (F.MULE_LOAD_CTRL.BUSY m) = 0) :
    s.swapRequest m spn = s.swapAsked m spn := (if_neg (State.not_flag_of_zero hr)).trans (if_neg (State.not_flag_of_zero hb))

theorem State.swapDenied_facts (s : State) {m spn : Nat} (h : spn < 65536) (hr : s.rd (F.MULE_SWAP.REQ m) = 0) :
    (s.swapDenied m spn).rd (F.MULE_SWAP.SPN m) = spn ∧ (s.swapDenied m spn).rd (F.MULE_SWAP.REQ m) = 0 ∧
      (s.swapDenied m spn).rd (F.MULE_EVENT.SWAP_REJECT m) = 1 ∧ s.onlyRegs (s.swapDenied m spn) [F.MULE_SWAP.SPN m, F.MULE_EVENT.SWAP_REJECT m] := by
  have hev (g : FRef) (hg : g.addr % 0x10000 ≠ 0) (t : State) : (t.wr (F.MULE_EVENT.SWAP_REJECT m) 1).rd g = t.rd g :=
    State.rd_wr_addr _ _ _ _ (by simp only [F.MULE_EVENT.SWAP_REJECT]; omega)
  have haddr : (F.MULE_SWAP.REQ m).addr % 0x10000 ≠ 0 ∧ (F.MULE_SWAP.SPN m).addr % 0x10000 ≠ 0 := by
    simp only [F.MULE_SWAP.REQ, F.MULE_SWAP.SPN]; omega
  refine ⟨?_, ?_, State.rd_wr_same _ _ _ (show 2 < 64 by decide), rfl, ?_⟩
  · rw [State.swapDenied, hev _ haddr.2, State.rd_wr_same _ _ _ (show 15 < 64 by decide)]
    exact Nat.mod_eq_of_lt h
  · rw [State.swapDenied, hev _ haddr.1, State.rd_wr_field _ (F.MULE_SWAP.SPN m) (F.MULE_SWAP.REQ m) _ (show 15 < 64 by decide) rfl (.inr (show 15 < 31 by decide)), hr]
  · exact ((s.regsKept_refl _).wr _ (by simp) (show 15 < 64 by decide)).wr _ (by simp) (show 2 < 64 by decide)

theorem State.swapAsked_facts (s : State) {m spn : Nat} (h : spn < 65536) :
    (s.swapAsked m spn).rd (F.MULE_SWAP.SPN m) = spn ∧ (s.swapAsked m spn).rd (F.MULE_SWAP.REQ m) = 1 ∧
      AMap.get? (s.swapAsked m spn).mules.swapAt m = some s.clk.cycles ∧
      s.regsKept (s.swapAsked m spn) [F.MULE_SWAP.SPN m, F.MULE_SWAP.REQ m] ∧ { s.swapAsked m spn with csr := s.csr, mules := s.mules } = s := by
  have hrd (g : FRef) : (s.swapAsked m spn).rd g = ((s.wr (F.MULE_SWAP.SPN m) spn).wr (F.MULE_SWAP.REQ m) 1).rd g := rfl
  refine ⟨?_, ?_, AMap.get?_set_same _ _ _, ?_, rfl⟩
  · rw [hrd, State.rd_wr_field _ (F.MULE_SWAP.REQ m) (F.MULE_SWAP.SPN m) _ (show 31 < 64 by decide) rfl (.inl (show 15 < 31 by decide)),
      State.rd_wr_same _ _ _ (show 15 < 64 by decide)]
    exact Nat.mod_eq_of_lt h
  · rw [hrd, State.rd_wr_same _ _ _ (show 31 < 64 by decide)]; rfl
  · exact (((s.regsKept_refl _).wr _ (by simp) (show 15 < 64 by decide)).wr _ (by simp) (show 31 < 64 by decide)).trans fun g _ => hrd g

/-- The state of a swap request that has come to its boundary. -/
def State.swapTaken (s : State) (m : Nat) : State :=
  ({ s with mules := { s.mules with swapAt := AMap.del s.mules.swapAt m } }).wr (F.MULE_SWAP.REQ m) 0

theorem exec_muleSwapApply {s : State} {m c : Nat} (hc : AMap.get? s.mules.swapAt m = some c) : exec (.muleSwapApply m) s =
    if s.atBoundary = false ∨ s.clk.cycles < c + 2048 ∨ (spinsOf m (s.rd (F.MULE_SWAP.SPN m))).any (fun sp => s.swapPending sp) then .next s
    else .next (if (spinsOf m (s.rd (F.MULE_SWAP.SPN m))).all (fun sp => s.flag (standbyF sp)) then
        ((s.swapTaken m).swapSpindles (spinsOf m (s.rd (F.MULE_SWAP.SPN m)))).wr (F.MULE_EVENT.SWAP_DONE m) 1
      else (s.swapTaken m).wr (F.MULE_EVENT.SWAP_REJECT m) 1) := by
  show execMuleSwapApply m s = _
  rw [execMuleSwapApply, hc]
  rfl

/-- Nothing delays a swap whose boundary has come. -/
theorem muleSwapApply_due {s : State} {m c : Nat} (hb : s.atBoundary = true) (hc : c + 2048 ≤ s.clk.cycles) (hs : s.flt.swaps = []) :
    ¬ (s.atBoundary = false ∨ s.clk.cycles < c + 2048 ∨ (spinsOf m (s.rd (F.MULE_SWAP.SPN m))).any (fun sp => s.swapPending sp) = true) := by
  rintro (h | h | h)
  · rw [hb] at h; cases h
  · omega
  · obtain ⟨sp, _, hp⟩ := List.any_eq_true.mp h
    rw [State.swapPending, hs] at hp
    cases hp

theorem State.swapTaken_rd (s : State) (m : Nat) {g : FRef} (h : g.addr % 0x10000 ≠ 0x210) : (s.swapTaken m).rd g = s.rd g :=
  State.rd_wr_addr _ _ _ _ (by simp only [F.MULE_SWAP.REQ]; omega)

theorem State.swapTaken_req (s : State) (m : Nat) : (s.swapTaken m).rd (F.MULE_SWAP.REQ m) = 0 :=
  (State.rd_wr_same _ _ _ (show 31 < 64 by decide)).trans (Nat.zero_mod _)

theorem State.swapTaken_standsAs (s : State) (m : Nat) {tid : Nat} : s.standsAs (s.swapTaken m) tid where
  thr := rfl
  ts := State.ts_of_rd (s.swapTaken_rd m (by simp only [thrStateF, F.MULE_THR_STATE.STATE, logOf]; omega))
  bounded := State.bounded_congr (s.swapTaken_rd m (by simp only [roleF, F.MULE_ROLE.ROLE, logOf]; omega))
  clk := rfl

/-- A register of a mule at none of the words of its spindles keeps its value over the swap of their banks. -/
theorem State.within.rd_spindles {s t : State} {sps : List Nat} (h : s.within t (sps.flatMap spindleFields) (sps.flatMap threadsOf)) {g : FRef}
    (hg : g.addr % 0x10000 < 0x300) : t.rd g = s.rd g :=
  h.regs g (spindleFields_apart fun sp _ => by simp only [logOf]; omega)

/-! ### Restarts and drained banks (R58) -/

theorem exec_longWorkRestart {s : State} {tid c r : Nat} (h : (s.thr tid).restartReq = some (c, r)) : exec (.longWorkRestart tid) s =
    if (s.thr tid).holdsResv ∧ s.clk.cycles < c + 64 then .next s
    else if s.ts tid = tsFault ∨ s.ts tid = tsHalt then .next (s.modThr tid (fun x => { x with restartReq := none, restartDue := true }))
    else .next (s.restartThr tid r) := by
  show execLongWorkRestart tid s = _
  rw [execLongWorkRestart, h]

theorem exec_longWorkRestart_none {s : State} {tid : Nat} (h : (s.thr tid).restartReq = none) : exec (.longWorkRestart tid) s = .next s := by
  show execLongWorkRestart tid s = _
  rw [execLongWorkRestart, h]

theorem exec_bankDrainEnd (s : State) (sp : Nat) : exec (.bankDrainEnd sp) s =
    if sp < 768 ∧ s.flag (drainingF sp) ∧ (threadsOf sp).all (fun t => !s.fetchesFrom t (1 - s.activeBank sp)) then .next (s.wr (drainingF sp) 0)
    else .next s := rfl

theorem all_threadsOf {sp : Nat} {p : Nat → Bool} : (threadsOf sp).all p = true ↔ ∀ k < 8, p (8 * sp + k) = true := by
  simp only [threadsOf, List.all_map, List.all_eq_true, List.mem_range, Function.comp, tidOf]

/-! ### Image loads (R84, R124) -/

theorem exec_muleLoadStart (s : State) {m : Nat} (h : m < 48) (spn : Nat) : exec (.muleLoadStart m spn) s = .next (s.loadStart m spn) :=
  if_neg (by omega)

section loadEnd
variable (s : State) (m st cause : Nat)

theorem State.loadEnd_regsKept : s.regsKept (s.loadEnd m st cause)
    [F.MULE_LOAD_STATUS.STATUS m, F.MULE_LOAD_STATUS.CAUSE m, F.MULE_EVENT.LOAD_DONE m, F.MULE_EVENT.LOAD_REJECT m] := by
  have h := ((s.regsKept_refl [F.MULE_LOAD_STATUS.STATUS m, F.MULE_LOAD_STATUS.CAUSE m, F.MULE_EVENT.LOAD_DONE m, F.MULE_EVENT.LOAD_REJECT m]).wr st
    (f := F.MULE_LOAD_STATUS.STATUS m) (by simp) (show 7 < 64 by decide)).wr cause (f := F.MULE_LOAD_STATUS.CAUSE m) (by simp) (show 15 < 64 by decide)
  unfold State.loadEnd
  split
  · exact h.wr 1 (by simp) (show 1 < 64 by decide)
  · exact h.wr 1 (by simp) (show 0 < 64 by decide)

theorem State.loadEnd_rd {g : FRef} (h : g.addr % 0x10000 ≠ 0 ∧ g.addr % 0x10000 ≠ 0x20C) : (s.loadEnd m st cause).rd g = s.rd g :=
  s.loadEnd_regsKept m st cause g fun f hf => by
    simp only [List.mem_cons, List.not_mem_nil, or_false] at hf
    rcases hf with rfl | rfl | rfl | rfl <;>
      simp only [F.MULE_LOAD_STATUS.STATUS, F.MULE_LOAD_STATUS.CAUSE, F.MULE_EVENT.LOAD_DONE, F.MULE_EVENT.LOAD_REJECT] <;> omega

variable {st cause}

theorem State.loadEnd_status (hs : st < 256) : (s.loadEnd m st cause).rd (F.MULE_LOAD_STATUS.STATUS m) = st := by
  have hev (t : State) (f : FRef) (hf : f.addr = 0x200000 + 0x10000 * m) (v : Nat) :
      (t.wr f v).rd (F.MULE_LOAD_STATUS.STATUS m) = t.rd (F.MULE_LOAD_STATUS.STATUS m) :=
    State.rd_wr_addr _ _ _ _ (by rw [hf]; simp only [F.MULE_LOAD_STATUS.STATUS]; omega)
  rw [State.loadEnd, hev _ _ (by split <;> rfl), 
    State.rd_wr_field _ (F.MULE_LOAD_STATUS.CAUSE m) (F.MULE_LOAD_STATUS.STATUS m) _ (show 15 < 64 by decide) rfl (.inl (show 7 < 8 by decide)),
    State.rd_wr_same _ _ _ (show 7 < 64 by decide)]
  exact Nat.mod_eq_of_lt hs

theorem State.loadEnd_cause (hc : cause < 256) : (s.loadEnd m st cause).rd (F.MULE_LOAD_STATUS.CAUSE m) = cause := by
  have hev (t : State) (f : FRef) (hf : f.addr = 0x200000 + 0x10000 * m) (v : Nat) :
      (t.wr f v).rd (F.MULE_LOAD_STATUS.CAUSE m) = t.rd (F.MULE_LOAD_STATUS.CAUSE m) :=
    State.rd_wr_addr _ _ _ _ (by rw [hf]; simp only [F.MULE_LOAD_STATUS.CAUSE]; omega)
  rw [State.loadEnd, hev _ _ (by split <;> rfl), State.rd_wr_same _ _ _ (show 15 < 64 by decide)]
  exact Nat.mod_eq_of_lt hc

theorem State.loadEnd_reject (hs : st ≠ 0) : (s.loadEnd m st cause).rd (F.MULE_EVENT.LOAD_REJECT m) = 1 := by
  rw [State.loadEnd, if_neg hs, State.rd_wr_same _ _ _ (show 0 < 64 by decide)]
  rfl

theorem State.loadEnd_done : (s.loadEnd m 0 cause).rd (F.MULE_EVENT.LOAD_DONE m) = 1 := by
  rw [State.loadEnd, if_pos rfl, State.rd_wr_same _ _ _ (show 1 < 64 by decide)]
  rfl

end loadEnd

/-- The state of a load that has begun. -/
def State.loadBegun (s : State) (m spn : Nat) : State :=
  { (((s.wr (F.MULE_LOAD_CTRL.SPN m) spn).wr (F.MULE_LOAD_CTRL.START m) 1).wr (F.MULE_LOAD_CTRL.BUSY m) 1) with
    mules := { s.mules with loadAt := AMap.set s.mules.loadAt m (65536 * s.clk.cycles + spn % 65536) } }

theorem State.loadBegun_facts (s : State) (m : Nat) {spn : Nat} (h : spn < 65536) :
    (s.loadBegun m spn).rd (F.MULE_LOAD_CTRL.BUSY m) = 1 ∧ (s.loadBegun m spn).rd (F.MULE_LOAD_CTRL.SPN m) = spn ∧
      AMap.get? (s.loadBegun m spn).mules.loadAt m = some (65536 * s.clk.cycles + spn) := by
  have hcsr : (s.loadBegun m spn).csr =
      (((s.wr (F.MULE_LOAD_CTRL.SPN m) spn).wr (F.MULE_LOAD_CTRL.START m) 1).wr (F.MULE_LOAD_CTRL.BUSY m) 1).csr := rfl
  have hat : (s.loadBegun m spn).mules.loadAt = AMap.set s.mules.loadAt m (65536 * s.clk.cycles + spn % 65536) := rfl
  refine ⟨?_, ?_, by rw [hat, AMap.get?_set_same, Nat.mod_eq_of_lt h]⟩
  · rw [State.rd_congr hcsr, State.rd_wr_same _ _ _ (show 30 < 64 by decide)]; rfl
  · rw [State.rd_congr hcsr,
      State.rd_wr_field _ (F.MULE_LOAD_CTRL.BUSY m) (F.MULE_LOAD_CTRL.SPN m) _ (show 30 < 64 by decide) rfl (.inl (show 15 < 30 by decide)),
      State.rd_wr_field _ (F.MULE_LOAD_CTRL.START m) (F.MULE_LOAD_CTRL.SPN m) _ (show 31 < 64 by decide) rfl (.inl (show 15 < 31 by decide)),
      State.rd_wr_same _ _ _ (show 15 < 64 by decide)]
    exact Nat.mod_eq_of_lt h

theorem State.wr_loadSpn_draining (s : State) (m spn sp : Nat) : (s.wr (F.MULE_LOAD_CTRL.SPN m) spn).rd (drainingF sp) = s.rd (drainingF sp) :=
  State.rd_wr_addr _ _ _ _ (by simp only [drainingF, F.MULE_THR_STATE.DRAINING, F.MULE_LOAD_CTRL.SPN, logOf]; omega)

theorem State.loadStart_busyBank {s : State} {m spn sp : Nat} (hb : s.rd (F.MULE_LOAD_CTRL.BUSY m) = 0) (hm : sp ∈ spinsOf m spn)
    (hd : s.rd (drainingF sp) = 1) : s.loadStart m spn = (s.wr (F.MULE_LOAD_CTRL.SPN m) spn).loadEnd m stAccessDenied 0x40 := by
  refine (if_neg (State.not_flag_of_zero hb)).trans (if_pos (List.any_eq_true.mpr ⟨sp, hm, State.flag_of_one ?_⟩))
  rw [State.wr_loadSpn_draining, hd]

theorem State.loadStart_begun {s : State} {m spn : Nat} (hb : s.rd (F.MULE_LOAD_CTRL.BUSY m) = 0)
    (hd : ∀ sp ∈ spinsOf m spn, s.rd (drainingF sp) = 0) : s.loadStart m spn = s.loadBegun m spn := by
  refine (if_neg (State.not_flag_of_zero hb)).trans (if_neg fun hany => ?_)
  obtain ⟨sp, hm, hf⟩ := List.any_eq_true.mp hany
  exact State.not_flag_of_zero ((s.wr_loadSpn_draining m spn sp).trans (hd sp hm)) hf

/-- The state of a load whose image has been read. -/
def State.loadTaken (s : State) (m : Nat) : State :=
  ({ s with mules := { s.mules with loadAt := AMap.del s.mules.loadAt m } }.wr (F.MULE_LOAD_CTRL.START m) 0).wr (F.MULE_LOAD_CTRL.BUSY m) 0

theorem State.loadTaken_rd (s : State) (m : Nat) {g : FRef} (h : g.addr % 0x10000 ≠ 0x208) : (s.loadTaken m).rd g = s.rd g := by
  rw [State.loadTaken, State.rd_wr_addr _ _ _ _ (by simp only [F.MULE_LOAD_CTRL.BUSY]; omega),
    State.rd_wr_addr _ _ _ _ (by simp only [F.MULE_LOAD_CTRL.START]; omega)]
  rfl

theorem State.loadTaken_busy (s : State) (m : Nat) : (s.loadTaken m).rd (F.MULE_LOAD_CTRL.BUSY m) = 0 :=
  (State.rd_wr_same _ _ _ (show 30 < 64 by decide)).trans (Nat.zero_mod _)

theorem State.loadTaken_stitchLen (s : State) (m : Nat) : (s.loadTaken m).stitchLen = s.stitchLen := by
  rw [State.stitchLen, State.stitchLen, s.loadTaken_rd m (show 0x100000 % 0x10000 ≠ 0x208 by decide)]

section imageLoadDone
variable {s : State} {m v st c : Nat} {bs : Bytes} (hv : AMap.get? s.mules.loadAt m = some v)
include hv

theorem exec_imageLoadDone_unread (hr : (s.loadTaken m).loadRead ((s.loadTaken m).rd (F.MULE_LOAD_ADDR.ADDR m) * 4096) = (st, c, bs)) (hs : st ≠ 0) :
    exec (.imageLoadDone m) s = .next ((s.loadTaken m).loadEnd m st c) := by
  show execImageLoadDone m s = _
  unfold State.loadTaken at hr
  rw [execImageLoadDone, hv]
  simp only []
  rw [hr]
  cases st with
  | zero => exact absurd rfl hs
  | succ n => rfl

theorem exec_imageLoadDone_read (hr : (s.loadTaken m).loadRead ((s.loadTaken m).rd (F.MULE_LOAD_ADDR.ADDR m) * 4096) = (0, c, bs)) :
    exec (.imageLoadDone m) s = .next
      (((s.loadTaken m).loadImage (spinsOf m (v % 65536)) bs).2.loadEnd m ((s.loadTaken m).loadImage (spinsOf m (v % 65536)) bs).1.1
        ((s.loadTaken m).loadImage (spinsOf m (v % 65536)) bs).1.2) := by
  show execImageLoadDone m s = _
  unfold State.loadTaken at hr
  rw [execImageLoadDone, hv]
  simp only []
  rw [hr]
  rfl

end imageLoadDone

/-! ### The standby banks (R84) -/

theorem standbyF_apart_activeF (sp u : Nat) : (standbyF sp).apart (activeF u) = true := by
  simp only [FRef.apart_iff, standbyF, F.MULE_THR_STATE.ACTIVE_BANK, F.MULE_THR_STATE.STANDBY_VALID]; omega

theorem standbyF_apart {sp u : Nat} (h : u ≠ sp) : (standbyF sp).apart (standbyF u) = true := by
  simp only [FRef.apart_iff, standbyF, F.MULE_THR_STATE.STANDBY_VALID, muleOf, logOf]; omega

theorem State.wr_spindle (s : State) (f : FRef) (v u : Nat) : (s.wr f v).spindle u = s.spindle u := rfl

section writeStandby
variable (s : State) (sp : Nat) (img : Image)

/-- An image put into a bank. -/
def Spindle.withImage (x : Spindle) (active : Nat) (img : Image) : Spindle :=
  if active = 0 then { x with bank1 := some img } else { x with bank0 := some img }

theorem State.writeStandby_eq : s.writeStandby sp img = (s.modSpindle sp fun x => x.withImage (s.activeBank sp) img).wr (standbyF sp) 1 := by
  unfold State.writeStandby Spindle.withImage
  split <;> rfl

theorem Spindle.withImage_standby {x : Spindle} {b : Nat} (h : b < 2) : (x.withImage b img).image (1 - b) = some img := by
  obtain rfl | rfl : b = 0 ∨ b = 1 := by omega
  · rfl
  · rfl

theorem Spindle.withImage_active {x : Spindle} {b : Nat} (h : b < 2) : (x.withImage b img).image b = x.image b := by
  obtain rfl | rfl : b = 0 ∨ b = 1 := by omega
  · rfl
  · rfl

theorem State.writeStandby_rd {g : FRef} (h : (standbyF sp).apart g = true) : (s.writeStandby sp img).rd g = s.rd g := by
  rw [State.writeStandby_eq, State.rd_wr_apart _ _ _ _ (standbyF_hi sp) h, State.modSpindle_rd]

theorem State.writeStandby_activeBank (u : Nat) : (s.writeStandby sp img).activeBank u = s.activeBank u :=
  s.writeStandby_rd sp img (standbyF_apart_activeF sp u)

theorem State.writeStandby_standby : (s.writeStandby sp img).rd (standbyF sp) = 1 := by
  rw [State.writeStandby_eq, State.rd_wr_same _ _ _ (standbyF_hi sp)]
  rfl

theorem State.writeStandby_spindle : (s.writeStandby sp img).spindle sp = (s.spindle sp).withImage (s.activeBank sp) img := by
  rw [State.writeStandby_eq, State.wr_spindle, State.spindle_modSpindle_same]

theorem State.writeStandby_spindle_other {u : Nat} (h : u ≠ sp) : (s.writeStandby sp img).spindle u = s.spindle u := by
  rw [State.writeStandby_eq, State.wr_spindle, State.spindle_modSpindle_other _ _ _ _ h]

end writeStandby

/-- The state in which an image stands in the standby banks of a list of spindles. -/
def State.writeStandbys (s : State) (sps : List Nat) (img : Image) : State := sps.foldl (fun s sp => s.writeStandby sp img) s

theorem State.writeStandbys_rd {g : FRef} (img : Image) (h : ∀ sp, (standbyF sp).apart g = true) :
    ∀ (sps : List Nat) (s : State), (s.writeStandbys sps img).rd g = s.rd g
  | [], _ => rfl
  | sp :: sps, s => (State.writeStandbys_rd img h sps (s.writeStandby sp img)).trans (s.writeStandby_rd sp img (h sp))

theorem State.writeStandbys_other (img : Image) {u : Nat} {sps : List Nat} (s : State) (h : u ∉ sps) :
    (s.writeStandbys sps img).spindle u = s.spindle u ∧ (s.writeStandbys sps img).rd (standbyF u) = s.rd (standbyF u) := by
  induction sps generalizing s with
  | nil => exact ⟨rfl, rfl⟩
  | cons sp sps ih =>
    obtain ⟨hne, hmem⟩ := not_or.mp (mt List.mem_cons.mpr h)
    obtain ⟨hspindle, hstandby⟩ := ih (s.writeStandby sp img) hmem
    rw [State.writeStandbys, List.foldl_cons]
    exact ⟨hspindle.trans (s.writeStandby_spindle_other sp img hne), hstandby.trans (s.writeStandby_rd sp img (standbyF_apart hne))⟩

theorem State.writeStandbys_same (img : Image) {u : Nat} {sps : List Nat} (s : State) (hd : sps.Nodup) (h : u ∈ sps) :
    (s.writeStandbys sps img).spindle u = (s.spindle u).withImage (s.activeBank u) img ∧ (s.writeStandbys sps img).rd (standbyF u) = 1 := by
  induction sps generalizing s with
  | nil => cases h
  | cons sp sps ih =>
    obtain ⟨hnot, hd⟩ := List.nodup_cons.mp hd
    rw [State.writeStandbys, List.foldl_cons]
    by_cases he : u = sp
    · subst he
      obtain ⟨hspindle, hstandby⟩ := State.writeStandbys_other img (s.writeStandby u img) hnot
      exact ⟨hspindle.trans (s.writeStandby_spindle u img), hstandby.trans (s.writeStandby_standby u img)⟩
    · obtain ⟨hspindle, hstandby⟩ := ih (s.writeStandby sp img) hd ((List.mem_cons.mp h).resolve_left he)
      refine ⟨hspindle.trans ?_, hstandby⟩
      rw [s.writeStandby_spindle_other sp img he, s.writeStandby_activeBank]

theorem loadStatus_facts (e : Nat) : loadStatus e ≠ 0 ∧ loadStatus e < 256 := by
  unfold loadStatus
  split_ifs <;> decide

theorem State.loadImage_refused {s : State} {bs : Bytes} {e : Nat} (sps : List Nat) (h : checkImage bs (budgetOf s.stitchLen) = .refused e) :
    s.loadImage sps bs = ((loadStatus e, e), s) := by rw [State.loadImage, h]

theorem State.loadImage_accepted {s : State} {bs : Bytes} {img : Image} (sps : List Nat) (h : checkImage bs (budgetOf s.stitchLen) = .accepted img) :
    s.loadImage sps bs = ((0, 0), s.writeStandbys sps img) := by rw [State.loadImage, h]; rfl

theorem testBit_low {v k : Nat} (h : k < 16) : (v % 65536).testBit k = v.testBit k := by
  rw [show 65536 = 2 ^ 16 from rfl, Nat.testBit_mod_two_pow, decide_eq_true h, Bool.true_and]

end Sys2Proof.Machine
end

section
/-! Role changes: what the discarding of queued messages leaves unchanged, the threads of a changed spindle, the threads that were stopped for
the change, and the change itself (R63, R64, R70, R114; O13). -/

namespace Sys2Proof.Machine

open Sys2Proof

/-! ### What a unit does about a message that was discarded -/

/-- From `s` to `t` nothing changes of the mules, their registers and the yarns. -/
structure State.besideYarns (s t : State) : Prop where
  beside : s.besideMules t
  yarn : t.yarn = s.yarn

section besideYarns
variable {s t u : State}

theorem State.besideYarns_refl (s : State) : s.besideYarns s := ⟨s.besideMules_refl, rfl⟩

theorem State.besideYarns.trans (h : s.besideYarns t) (h' : t.besideYarns u) : s.besideYarns u := ⟨h.beside.trans h'.beside, h'.yarn.trans h.yarn⟩

theorem State.besideYarns.of_eq (h : s.besideYarns t) (hm : u.mules = t.mules) (hc : u.csr = t.csr) (hy : u.yarn = t.yarn) : s.besideYarns u :=
  ⟨h.beside.of_eq hm hc, hy.trans h.yarn⟩

theorem State.besideYarns.wr (h : s.besideYarns t) {f : FRef} (hf : ¬ muleWord f.addr) (v : Nat) : s.besideYarns (t.wr f v) :=
  ⟨h.beside.wr hf v, h.yarn⟩

theorem State.besideYarns.count (h : s.besideYarns t) {f : FRef} (hf : ¬ muleWord f.addr) (n : Nat) : s.besideYarns (t.count f n) := h.wr hf _

theorem State.besideYarns.foldl {α : Type} {f : State → α → State} (hf : ∀ (s : State) a, s.besideYarns (f s a)) (l : List α) (h : s.besideYarns t) :
    s.besideYarns (l.foldl f t) := by
  induction l generalizing t with
  | nil => exact h
  | cons a l ih => exact ih (h.trans (hf t a))

theorem State.leaveMarks_yarn (s : State) (h t c : Nat) : (s.leaveMarks h t c).yarn = s.yarn :=
  iteInduction (motive := fun u : State => u.yarn = s.yarn) (fun _ => rfl) fun _ => (State.wr_yarn _ _ _).trans (State.event_yarn _ _ _)

theorem State.releaseBobbin_yarn (s : State) (handle : Nat) : (s.releaseBobbin handle).yarn = s.yarn := by
  unfold State.releaseBobbin
  rw [State.leaveMarks_yarn]
  simp only []
  split <;> split <;> rfl

theorem State.dropBobbin_yarn (s : State) (handle : Nat) : (s.dropBobbin handle).yarn = s.yarn := by
  have hfailed (h k : Nat) : (s.checkFailed h handle k).yarn = s.yarn := State.event_yarn _ _ _
  unfold State.dropBobbin State.storeOne
  simp only []
  split_ifs
  exacts [hfailed _ 6, rfl, hfailed _ 7, hfailed _ 5, rfl, s.releaseBobbin_yarn handle, rfl, s.releaseBobbin_yarn handle]

theorem State.dropBack_besideYarns (s : State) (handle : Nat) : s.besideYarns (s.dropBack handle) :=
  State.besideYarns.foldl (fun s b => ⟨s.dropBobbin_besideMules b, s.dropBobbin_yarn b⟩) _
    (s.besideYarns_refl.foldl (f := fun s b => s.setDesc b { s.desc b with owner := ownerEp (editorEp (handleHalf handle)) })
      (fun s _ => s.besideYarns_refl.of_eq rfl rfl rfl) _)

theorem State.dropLeg_besideYarns (s : State) (l : Leg) : s.besideYarns (s.dropLeg l) := by
  cases l <;> exact s.besideYarns_refl.of_eq rfl rfl rfl

theorem State.modJob_besideYarns (s : State) (n first : Nat) (f : Job → Job) : s.besideYarns (s.modJob n first f) := by
  unfold State.modJob State.modWq
  split <;> exact s.besideYarns_refl.of_eq rfl rfl rfl

theorem State.endJob_besideYarns (s : State) (n first : Nat) (r : JobResult) : s.besideYarns (s.endJob n first r) := by
  unfold State.endJob
  split
  · exact (s.besideYarns_refl.foldl State.dropLeg_besideYarns _).trans (State.modJob_besideYarns _ _ _ _)
  · exact s.besideYarns_refl

/-- What a unit does about a message of its own that is discarded as stale concerns neither the mules nor the yarns. -/
theorem State.unitStale_besideYarns (s : State) (m : Msg) : s.besideYarns (s.unitStale m) := by
  have hr := s.besideYarns_refl
  unfold State.unitStale
  simp only []
  split_ifs
  · exact hr
  · exact hr.foldl (f := fun s (p : Nat × Nat) => s.endJob p.1 p.2 ⟨stStaleEpoch, 0x14, 0, 0, 0⟩) (fun s p => s.endJob_besideYarns _ _ _) _
  · exact hr.count (not_muleWord_of_ge (by decide)) 1
  · exact (hr.count not_muleWord_spDrop 1).trans (State.dropBack_besideYarns _ _)
  · exact (hr.count (not_muleWord_of_ge (by decide)) 1).wr (not_muleWord_of_ge (by decide)) 1
  · exact hr.count (not_muleWord_of_ge (by decide)) 1
  · exact hr

end besideYarns

/-! ### Queued messages discarded -/

/-- From `s` to `t` nothing changes of the spindles, of the reservations, of the channels' layout, and of the mules' registers but the counters of
messages. -/
structure State.dropped (s t : State) : Prop where
  words : State.wordsKept muleWord s t
  resv : ∀ u, (t.thr u).resv = (s.thr u).resv
  spindles : t.mules.spindles = s.mules.spindles
  layout : t.yarn.layout = s.yarn.layout

section dropped
variable {s t u : State}

theorem State.dropped_refl (s : State) : s.dropped s := ⟨s.wordsKept_refl, fun _ => rfl, rfl, rfl⟩

theorem State.dropped.trans (h : s.dropped t) (h' : t.dropped u) : s.dropped u :=
  ⟨h.words.trans h'.words, fun v => (h'.resv v).trans (h.resv v), h'.spindles.trans h.spindles, h'.layout.trans h.layout⟩

theorem State.besideYarns.dropped (h : s.besideYarns t) : s.dropped t :=
  ⟨h.beside.words, fun v => by rw [h.beside.thr], by rw [h.beside.mules], by rw [h.yarn]⟩

theorem Thread.note_resv (x : Thread) (status dst tag epoch : Nat) : (x.note status dst tag epoch).resv = x.resv := by
  unfold Thread.note
  split <;> rfl

theorem State.modThr_dropped (s : State) (tid : Nat) {f : Thread → Thread} (hf : (f (s.thr tid)).resv = (s.thr tid).resv) :
    s.dropped (s.modThr tid f) := by
  refine ⟨s.wordsKept_refl, fun v => ?_, rfl, rfl⟩
  by_cases hv : v = tid
  · rw [hv, State.thr_modThr_same, hf]
  · rw [State.thr_modThr_other _ _ _ _ hv]

theorem State.discardStale_yarn (s : State) (m : Msg) (epoch : Nat) : (s.discardStale m epoch).yarn = s.yarn := by
  unfold State.discardStale State.notify
  split
  · rfl
  · split <;> rfl

theorem State.discardStale_dropped (s : State) (m : Msg) (epoch : Nat) : s.dropped (s.discardStale m epoch) := by
  have hcount : s.dropped (s.count (F.MULE_STAT.STALE_DISCARD.CNT (epMule m.dst)) 1) :=
    ⟨s.wordsKept_refl.count (not_muleWord_stale _) 1, fun _ => rfl, rfl, rfl⟩
  unfold State.discardStale State.notify
  split
  · exact hcount
  · rw [if_pos rfl]
    exact (hcount.trans (State.modThr_dropped _ _ (Thread.note_resv _ _ _ _ _))).trans (State.modThr_dropped _ _ rfl)

end dropped

/-- The messages of a list are discarded as stale. -/
def State.discardAll (s : State) (sp : Nat) (l : List Msg) : State :=
  l.foldl (fun s m => (s.discardStale m (s.rd (epochF sp))).unitStale m) s

theorem State.discardAll_facts (s : State) (sp : Nat) (l : List Msg) : s.dropped (s.discardAll sp l) ∧ (s.discardAll sp l).yarn = s.yarn := by
  induction l generalizing s with
  | nil => exact ⟨s.dropped_refl, rfl⟩
  | cons m l ih =>
    obtain ⟨hd, hy⟩ := ih ((s.discardStale m (s.rd (epochF sp))).unitStale m)
    have hunit := (s.discardStale m (s.rd (epochF sp))).unitStale_besideYarns m
    exact ⟨((s.discardStale_dropped m _).trans hunit.dropped).trans hd, (hy.trans hunit.yarn).trans (s.discardStale_yarn m _)⟩

/-- The committed messages of a queue are discarded. -/
def State.discardQueue (s : State) (sp ep : Nat) : State :=
  (s.setQueue ep ((s.queueAt ep).filter (fun m => !m.committed))).discardAll sp ((s.queueAt ep).filter (fun m => m.committed))

theorem State.discardQueue_dropped (s : State) (sp ep : Nat) : s.dropped (s.discardQueue sp ep) := by
  have hq (q : List Msg) : s.dropped (s.setQueue ep q) := ⟨s.wordsKept_refl, fun _ => rfl, rfl, rfl⟩
  exact (hq _).trans ((s.setQueue ep _).discardAll_facts sp _).1

theorem State.discardQueue_queueAt_same (s : State) (sp ep : Nat) :
    (s.discardQueue sp ep).queueAt ep = (s.queueAt ep).filter (fun m => !m.committed) := by
  have hy := ((s.setQueue ep ((s.queueAt ep).filter (fun m => !m.committed))).discardAll_facts sp ((s.queueAt ep).filter (fun m => m.committed))).2
  rw [State.queueAt, State.discardQueue, hy]
  exact s.setQueue_queueAt_same ep _

theorem State.discardQueue_queueAt_other (s : State) (sp : Nat) {ep e : Nat} (h : e ≠ ep) : (s.discardQueue sp ep).queueAt e = s.queueAt e := by
  have hy := ((s.setQueue ep ((s.queueAt ep).filter (fun m => !m.committed))).discardAll_facts sp ((s.queueAt ep).filter (fun m => m.committed))).2
  rw [State.queueAt, State.discardQueue, hy]
  exact s.setQueue_queueAt_other _ h

/-- No message that stays in a channel is committed. -/
def State.noneQueued (s : State) (ep : Nat) : Prop := ∀ x ∈ s.queueAt ep, x.committed = false

theorem State.discardQueue_noneQueued (s : State) (sp ep : Nat) : (s.discardQueue sp ep).noneQueued ep := fun x hx => by
  rw [s.discardQueue_queueAt_same, List.mem_filter] at hx
  simpa using hx.2

theorem State.noneQueued.discardQueue {s : State} {e : Nat} (h : s.noneQueued e) (sp ep : Nat) : (s.discardQueue sp ep).noneQueued e := by
  by_cases he : e = ep
  · rw [he]; exact s.discardQueue_noneQueued sp ep
  · intro x hx
    rw [s.discardQueue_queueAt_other sp he] at hx
    exact h x hx

theorem State.discardQueues_facts (sp : Nat) (eps : List Nat) (s : State) :
    s.dropped (eps.foldl (fun s ep => s.discardQueue sp ep) s) ∧
      ∀ e, e ∈ eps ∨ s.noneQueued e → (eps.foldl (fun s ep => s.discardQueue sp ep) s).noneQueued e := by
  induction eps generalizing s with
  | nil => exact ⟨s.dropped_refl, fun e he => he.resolve_left List.not_mem_nil⟩
  | cons ep eps ih =>
    obtain ⟨hd, hq⟩ := ih (s.discardQueue sp ep)
    refine ⟨(s.discardQueue_dropped sp ep).trans hd, fun e he => hq e ?_⟩
    rcases he with he | he
    · rcases List.mem_cons.mp he with rfl | he
      · exact .inr (s.discardQueue_noneQueued sp e)
      · exact .inl he
    · exact .inr (he.discardQueue sp ep)

theorem State.discardQueued_eq (s : State) (sp : Nat) : s.discardQueued sp =
    ((threadsOf sp).flatMap (fun t => (List.range 4).map (fun c => epThread t c))).foldl (fun s ep => s.discardQueue sp ep) s := by
  unfold State.discardQueued State.discardQueue State.discardAll
  simp only [List.partition_eq_filter_filter]
  rfl

theorem State.discardQueued_facts (s : State) (sp : Nat) : s.dropped (s.discardQueued sp) ∧
    ∀ j < 8, ∀ c < 4, (s.discardQueued sp).noneQueued (epThread (8 * sp + j) c) := by
  rw [s.discardQueued_eq]
  obtain ⟨hd, hq⟩ := State.discardQueues_facts sp ((threadsOf sp).flatMap (fun t => (List.range 4).map (fun c => epThread t c))) s
  exact ⟨hd, fun j hj c hc => hq _ (.inl (List.mem_flatMap.mpr ⟨_, mem_threadsOf hj, List.mem_map.mpr ⟨c, List.mem_range.mpr hc, rfl⟩⟩))⟩

/-! ### The threads of the new role (R64, step 3) -/

/-- The fields that a role change writes of one thread. -/
abbrev roleFields (tid : Nat) : List FRef := recordFields tid ++ tsFields tid

/-- A field that shares no bit with a thread's state lies apart from all that a role change writes of the thread. -/
theorem apart_roleFields {g : FRef} {tid : Nat} (hg : g.addr % 0x10000 < 0x1000)
    (h : ∀ f ∈ tsFields tid, g.addr ≠ f.addr ∨ g.hi < f.lo ∨ f.hi < g.lo) :
    ∀ f ∈ roleFields tid, g.addr ≠ f.addr ∨ g.hi < f.lo ∨ f.hi < g.lo := by
  intro f hf
  rcases List.mem_append.mp hf with hf | hf
  · have hf := recordFields_addr hf
    exact .inl fun he => by omega
  · exact h f hf

theorem faultF_apart_roleFields {tid u : Nat} (h : u ≠ tid) :
    ∀ f ∈ roleFields tid, (faultF u 0).addr ≠ f.addr ∨ (faultF u 0).hi < f.lo ∨ f.hi < (faultF u 0).lo := by
  intro f hf
  simp only [List.cons_append, List.nil_append, List.mem_cons, List.not_mem_nil, or_false] at hf
  rcases hf with rfl | rfl | rfl | rfl | rfl | rfl <;>
    simp only [faultF, F.MULE_FAULT.W, thrStateF, haltedF, F.MULE_THR_STATE.STATE, F.MULE_DBG_HALT.MASK, muleOf, spOf, logOf, tOf] <;> omega

/-- What changes of other threads leave of the image, role, state and record of a thread. -/
structure State.sameRole (s t : State) (tid : Nat) : Prop where
  thr : t.thr tid = s.thr tid
  ts : t.ts tid = s.ts tid
  fault : t.rd (faultF tid 0) = s.rd (faultF tid 0)
  role : t.role (spOf tid) = s.role (spOf tid)
  image : t.activeImage (spOf tid) = s.activeImage (spOf tid)

section roleWithin
variable {s t : State} {l k : List Nat} (h : s.within t (l.flatMap roleFields) k)
include h

theorem State.within.roleFields_rd {g : FRef} (hg : ∀ u ∈ l, ∀ f ∈ roleFields u, g.addr ≠ f.addr ∨ g.hi < f.lo ∨ f.hi < g.lo) : t.rd g = s.rd g :=
  h.regs g fun f hf => by
    obtain ⟨u, hu, hf⟩ := List.mem_flatMap.mp hf
    exact hg u hu f hf

theorem State.within.role (sp : Nat) : t.role sp = s.role sp :=
  h.roleFields_rd fun u _ => apart_roleFields (roleF_addr_mod sp) (roleF_apart_thrStateF sp u)

theorem State.within.roleBank (sp : Nat) : t.activeBank sp = s.activeBank sp :=
  h.roleFields_rd (g := activeF sp) fun u _ => apart_roleFields (activeBank_addr_mod sp) (activeF_apart_thrStateF sp u)

theorem State.within.roleImage (sp : Nat) : t.activeImage sp = s.activeImage sp := State.activeImage_congr (h.spindle sp) (h.roleBank sp)

theorem State.within.sameRole {tid : Nat} (hl : tid ∉ l) (hk : tid ∉ k) : s.sameRole t tid where
  thr := h.threads tid hk
  ts := State.ts_of_rd (h.roleFields_rd fun _ hu => apart_roleFields (thrStateF_addr_mod tid)
    (thrStateF_apart_tsFields fun e => hl (by rw [e]; exact hu)))
  fault := h.roleFields_rd fun _ hu => faultF_apart_roleFields fun e => hl (by rw [e]; exact hu)
  role := h.role _
  image := h.roleImage _

end roleWithin

/-- A role change's effect on a thread. -/
structure State.tookRole (s t : State) (tid : Nat) : Prop where
  fault : t.rd (faultF tid 0) = 0
  spare : s.role (spOf tid) = roleSpare → t.ts tid = tsOff
  bounded : s.role (spOf tid) ≠ roleSpare → s.bounded tid = true → t.ts tid = s.restState tid
  restarts : ∀ pc, s.role (spOf tid) ≠ roleSpare → s.bounded tid = false → s.longEntry tid = some pc →
    t.ts tid = tsRun ∧ (t.thr tid).pc = pc ∧ (t.thr tid).g 1 = 1

theorem State.tookRole.congr {s t s' t' : State} {tid : Nat} (h : s.tookRole t tid) (hrole : s.role (spOf tid) = s'.role (spOf tid))
    (himage : s.activeImage (spOf tid) = s'.activeImage (spOf tid)) (ht : t.sameRole t' tid) : s'.tookRole t' tid := by
  have hb : s.bounded tid = s'.bounded tid := State.bounded_congr hrole
  have hl : s.longEntry tid = s'.longEntry tid := State.longEntry_congr himage
  have hr : s.restState tid = s'.restState tid := State.restState_congr himage
  obtain ⟨h1, h2, h3, h4⟩ := h
  rw [hrole] at h2 h3 h4
  rw [hb] at h3 h4
  rw [hr] at h3
  rw [hl] at h4
  exact ⟨ht.fault.trans h1, fun a => ht.ts.trans (h2 a), fun a b => ht.ts.trans (h3 a b), fun pc a b c => by rw [ht.ts, ht.thr]; exact h4 pc a b c⟩

/-- What a role change clears of a thread's record before the thread takes its new state. -/
def State.roleCleared (s : State) (tid : Nat) : State :=
  (s.clearFault tid).modThr tid (fun x =>
    { x with work := none, retireAt := none, haltReq := none, restartReq := none, restartDue := false, stepDue := false })

theorem State.roleThread_eq (s : State) (sp tid : Nat) : s.roleThread sp tid =
    if (s.roleCleared tid).role sp = roleSpare then ((s.roleCleared tid).poison tid).setTs tid tsOff
    else if (s.roleCleared tid).bounded tid then ((s.roleCleared tid).endProgram tid).setTs tid ((s.roleCleared tid).restState tid)
    else (s.roleCleared tid).restartThr tid rsRole := rfl

theorem State.roleCleared_within (s : State) (tid : Nat) : s.within (s.roleCleared tid) (recordFields tid) [tid] :=
  State.within.modThr ⟨s.clearFault_yarnsOnly tid, s.clearFault_regsKept tid, rfl, by rw [s.clearFault_mules], fun u _ => by
    rw [State.thr, s.clearFault_mules]; rfl⟩ _ (by simp)

theorem State.roleCleared_holdsResv (s : State) (tid : Nat) : ((s.roleCleared tid).thr tid).holdsResv = (s.thr tid).holdsResv := by
  have hthr : (s.clearFault tid).thr tid = s.thr tid := by rw [State.thr, s.clearFault_mules]; rfl
  rw [State.roleCleared, State.thr_modThr_same, hthr]
  rfl

section roleThread
variable (s : State) {tid : Nat} (hr : (s.thr tid).holdsResv = false)
include hr

theorem State.endProgram_within : s.within (s.endProgram tid) (tsFields tid) [tid] := (s.poison_within hr).modThr _ (by simp)

theorem State.roleThread_after (sp : Nat) : (s.roleCleared tid).within (s.roleThread sp tid) (tsFields tid) [tid] := by
  have hr' : ((s.roleCleared tid).thr tid).holdsResv = false := by rw [s.roleCleared_holdsResv, hr]
  rw [s.roleThread_eq]
  split
  · exact ((s.roleCleared tid).poison_within hr').setTs _ (by simp) (by simp)
  · split
    · exact ((s.roleCleared tid).endProgram_within hr').setTs _ (by simp) (by simp)
    · exact (s.roleCleared tid).restartThr_within _ hr'

theorem State.roleThread_within (sp : Nat) : s.within (s.roleThread sp tid) (roleFields tid) [tid] :=
  ((s.roleCleared_within tid).mono (fun _ hf => List.mem_append_left _ hf) fun _ h => h).trans
    ((s.roleThread_after hr sp).mono (fun _ hf => List.mem_append_right _ hf) fun _ h => h)

end roleThread

theorem restState_lt (s : State) (tid : Nat) : s.restState tid < 8 := by
  unfold State.restState
  split
  · split <;> decide
  · decide

theorem State.roleThread_tookRole (s : State) {tid : Nat} (h : tid < 6144) (hr : (s.thr tid).holdsResv = false) :
    s.tookRole (s.roleThread (spOf tid) tid) tid := by
  have hr' : ((s.roleCleared tid).thr tid).holdsResv = false := by rw [s.roleCleared_holdsResv, hr]
  have hclear := s.roleCleared_within tid
  have hlow {g : FRef} (hg : g.addr % 0x10000 < 0x1000) : (s.roleCleared tid).rd g = s.rd g := s.clearFault_rd_other tid hg
  have hrole : (s.roleCleared tid).role (spOf tid) = s.role (spOf tid) := hlow (roleF_addr_mod _)
  have hb : (s.roleCleared tid).bounded tid = s.bounded tid := State.bounded_congr hrole
  have himage : (s.roleCleared tid).activeImage (spOf tid) = s.activeImage (spOf tid) :=
    State.activeImage_congr (hclear.spindle _) (hlow (activeBank_addr_mod _))
  have heq := s.roleThread_eq (spOf tid) tid
  rw [hrole, hb, State.restState_congr himage] at heq
  refine ⟨?_, fun hs => ?_, fun hs hbd => ?_, fun pc hs hbd he => ?_⟩
  · rw [(s.roleThread_after hr (spOf tid)).regs _ (faultF_apart_tsFields tid (by decide))]
    exact s.clearFault_rd tid (by decide)
  · rw [heq, if_pos hs]; exact State.setTs_ts_same _ h (by decide)
  · rw [heq, if_neg hs, if_pos hbd]; exact State.setTs_ts_same _ h (restState_lt s tid)
  · rw [heq, if_neg hs, if_neg (by rw [hbd]; exact Bool.false_ne_true)]
    have hgo := (s.roleCleared tid).restartThr_restarted rsRole h ((State.longEntry_congr himage).trans he) hr'
    exact ⟨hgo.ts, hgo.pc, hgo.reason⟩

/-- The threads of a list have taken their states in the new role. -/
def State.roleThreads (s : State) (sp : Nat) (l : List Nat) : State := l.foldl (fun s t => s.roleThread sp t) s

theorem State.roleThreads_within (s : State) (sp : Nat) {l : List Nat} (hd : l.Nodup) (h : ∀ tid ∈ l, (s.thr tid).holdsResv = false) :
    s.within (s.roleThreads sp l) (l.flatMap roleFields) l := by
  have hw := State.within_foldl (Q := fun s tid => (State.thr s tid).holdsResv = false) (f := fun s t => State.roleThread s sp t) (F := roleFields)
    (L := fun t => [t]) (fun s a ha => s.roleThread_within ha sp)
    (fun s a b hne ha hb => by rw [(s.roleThread_within ha sp).threads b (by simpa using hne)]; exact hb) l s hd h
  rwa [List.flatMap_singleton'] at hw

theorem State.roleThreads_tookRole (s : State) {sp tid : Nat} (ht : tid < 6144) (hm : tid ∈ threadsOf sp)
    (h : ∀ u ∈ threadsOf sp, (s.thr u).holdsResv = false) : s.tookRole (s.roleThreads sp (threadsOf sp)) tid := by
  have hsp : spOf tid = sp := lt_of_mem_threadsOf hm
  obtain ⟨l, k, hl⟩ := List.append_of_mem hm
  have hd := threadsOf_nodup sp
  rw [hl, List.nodup_middle, List.nodup_cons] at hd
  obtain ⟨hnot, hd⟩ := hd
  obtain ⟨hdl, hdk, hdis⟩ := List.nodup_append.mp hd
  rw [hl] at h
  rw [State.roleThreads, hl, List.foldl_append, List.foldl_cons]
  have hbefore := s.roleThreads_within sp hdl fun u hu => h u (List.mem_append_left _ hu)
  rw [State.roleThreads] at hbefore
  generalize l.foldl (fun s t => s.roleThread sp t) s = u at hbefore
  have hfree : (u.thr tid).holdsResv = false := by
    rw [hbefore.threads tid fun hin => hnot (List.mem_append_left _ hin)]
    exact h tid (List.mem_append_right _ List.mem_cons_self)
  have hmid := u.roleThread_tookRole ht hfree
  have hwithin := u.roleThread_within hfree sp
  rw [hsp] at hmid
  have hafter := (u.roleThread sp tid).roleThreads_within sp hdk fun v hv => by
    rw [hwithin.threads v fun e => hnot (List.mem_append_right _ (by rw [← List.mem_singleton.mp e]; exact hv)),
      hbefore.threads v fun hin => hdis v hin v hv rfl]
    exact h v (List.mem_append_right _ (List.mem_cons_of_mem _ hv))
  rw [State.roleThreads] at hafter
  exact hmid.congr (hbefore.role _) (hbefore.roleImage _)
    (hafter.sameRole (fun hin => hnot (List.mem_append_right _ hin)) (fun hin => hnot (List.mem_append_right _ hin)))

/-! ### The new role (R64, step 3) -/

/-- The configuration of a spindle's channels as its registers give it. -/
def State.cfgOf (s : State) (sp c : Nat) : Nat := s.ychSize sp c + (if s.ychExt sp c then 16 else 0)

/-- The layout with the channels of a list entered. -/
def layChannels (cfg : Nat → Nat) (sp : Nat) (cs : List Nat) (l : AMap Nat) : AMap Nat :=
  cs.foldl (fun l c => AMap.setD 22 l (32 * sp + c) (cfg c)) l

theorem layChannels_other (cfg : Nat → Nat) (sp : Nat) {c : Nat} {cs : List Nat} (l : AMap Nat) (h : c ∉ cs) :
    AMap.getD (layChannels cfg sp cs l) (32 * sp + c) 22 = AMap.getD l (32 * sp + c) 22 := by
  induction cs generalizing l with
  | nil => rfl
  | cons d cs ih =>
    obtain ⟨hne, hmem⟩ := not_or.mp (mt List.mem_cons.mpr h)
    exact (ih _ hmem).trans (AMap.getD_setD_other _ _ _ _ _ _ (by omega))

theorem layChannels_mem (cfg : Nat → Nat) (sp : Nat) {c : Nat} {cs : List Nat} (l : AMap Nat) (hd : cs.Nodup) (h : c ∈ cs) :
    AMap.getD (layChannels cfg sp cs l) (32 * sp + c) 22 = cfg c := by
  induction cs generalizing l with
  | nil => cases h
  | cons d cs ih =>
    obtain ⟨hnot, hd⟩ := List.nodup_cons.mp hd
    rcases List.mem_cons.mp h with rfl | h
    · exact (layChannels_other cfg sp _ hnot).trans (AMap.getD_setD_same _ _ _ _)
    · exact ih _ hd h

/-- The states of the change: the epoch and the role, the layout, the banks, and the channels cleared. -/
def State.roleNamed (s : State) (sp : Nat) : State :=
  (s.wr (epochF sp) (nextEpoch (s.rd (epochF sp)))).wr (roleF sp) (s.rd (F.MULE_ROLE.NEW_ROLE (muleOf sp) (logOf sp)))
def State.laidOut (s : State) (sp : Nat) : State :=
  { s with yarn := { s.yarn with layout := layChannels (s.cfgOf sp) sp (List.range 32) s.yarn.layout } }
def State.roleBanks (s : State) (sp : Nat) : State := if s.flag (F.MULE_ROLE.SWAP (muleOf sp) (logOf sp)) then s.toggleBank sp else s
def State.roleEntered (s : State) (sp : Nat) : State := (((s.roleNamed sp).laidOut sp).roleBanks sp).discardQueued sp

theorem State.roleApply_eq (s : State) (sp : Nat) : s.roleApply sp =
    ((s.roleEntered sp).roleThreads sp (threadsOf sp)).modSpindle sp (fun x => { x with t0Fault := false }) := rfl

theorem epochF_hi (sp : Nat) : (epochF sp).hi < 64 := show 15 < 64 by decide
theorem roleF_hi (sp : Nat) : (roleF sp).hi < 64 := show 18 < 64 by decide

theorem nextEpoch_lt {e : Nat} (h : e < 256) : nextEpoch e < 256 := by unfold nextEpoch; split <;> omega

section roleNamed
variable (s : State) (sp : Nat)

theorem State.roleNamed_rd {g : FRef} (he : (epochF sp).apart g = true) (hr : (roleF sp).apart g = true) : (s.roleNamed sp).rd g = s.rd g := by
  rw [State.roleNamed, State.rd_wr_apart _ _ _ _ (roleF_hi sp) hr, State.rd_wr_apart _ _ _ _ (epochF_hi sp) he]

theorem State.roleNamed_epoch : (s.roleNamed sp).rd (epochF sp) = nextEpoch (s.rd (epochF sp)) := by
  rw [State.roleNamed, State.rd_wr_field _ (roleF sp) (epochF sp) _ (roleF_hi sp) rfl (.inl (show 15 < 16 by decide)),
    State.rd_wr_same _ _ _ (epochF_hi sp)]
  exact Nat.mod_eq_of_lt (nextEpoch_lt (s.rd_lt (epochF sp)))

theorem State.roleNamed_role : (s.roleNamed sp).role sp = s.rd (F.MULE_ROLE.NEW_ROLE (muleOf sp) (logOf sp)) := by
  rw [State.role, State.roleNamed, State.rd_wr_same _ _ _ (roleF_hi sp)]
  exact Nat.mod_eq_of_lt (s.rd_lt (F.MULE_ROLE.NEW_ROLE (muleOf sp) (logOf sp)))

theorem State.roleNamed_rd_addr {g : FRef} (hg : 0x200 ≤ g.addr % 0x10000) : (s.roleNamed sp).rd g = s.rd g := by
  refine s.roleNamed_rd sp ?_ ?_ <;> simp only [FRef.apart_iff, epochF, roleF, F.MULE_ROLE.EPOCH, F.MULE_ROLE.ROLE, logOf] <;> omega

theorem State.roleNamed_cfgOf (c : Nat) (h : c < 32) : (s.roleNamed sp).cfgOf sp c = s.cfgOf sp c := by
  have hsize : (s.roleNamed sp).ychSize sp c = s.ychSize sp c := s.roleNamed_rd_addr sp (by simp only [F.MULE_YCH_CFG.SIZE, logOf]; omega)
  have hext : (s.roleNamed sp).ychExt sp c = s.ychExt sp c :=
    congrArg (· == 1) (s.roleNamed_rd_addr sp (g := F.MULE_YCH_CFG.EXT (muleOf sp) (32 * logOf sp + c)) (by simp only [F.MULE_YCH_CFG.EXT, logOf]; omega))
  rw [State.cfgOf, State.cfgOf, hsize, hext]

theorem State.laidOut_chanCfg {c : Nat} (h : c < 32) : (s.laidOut sp).chanCfg (32 * sp + c) = s.cfgOf sp c :=
  layChannels_mem _ sp _ List.nodup_range (List.mem_range.mpr h)

theorem State.roleBanks_rd {g : FRef} (ha : (activeF sp).apart g = true) (hb : (standbyF sp).apart g = true) : (s.roleBanks sp).rd g = s.rd g := by
  unfold State.roleBanks
  split
  · rw [State.toggleBank, State.rd_wr_apart _ _ _ _ (standbyF_hi sp) hb, State.rd_wr_apart _ _ _ _ (show 31 < 64 by decide) ha]
  · rfl

theorem State.roleBanks_activeBank : (s.roleBanks sp).activeBank sp =
    if s.rd (F.MULE_ROLE.SWAP (muleOf sp) (logOf sp)) = 1 then 1 - s.activeBank sp else s.activeBank sp := by
  simp only [State.roleBanks, State.flag_iff]
  split
  · exact s.toggleBank_activeBank sp
  · rfl

theorem State.roleBanks_mules : (s.roleBanks sp).mules = s.mules ∧ (s.roleBanks sp).yarn = s.yarn := by
  unfold State.roleBanks
  split <;> exact ⟨rfl, rfl⟩

end roleNamed

theorem mulesWord {a : Nat} (h : a < 0x600000) (hl : a % 0x10000 < 0x3000) : muleWord a := muleWord_of_lt h (.inl hl)

/-- What holds of the spindle once its role has changed, before its threads take their states. -/
theorem State.roleEntered_facts (s : State) {sp : Nat} (h : sp < 768) :
    (s.roleEntered sp).rd (epochF sp) = nextEpoch (s.rd (epochF sp)) ∧
    (s.roleEntered sp).role sp = s.rd (F.MULE_ROLE.NEW_ROLE (muleOf sp) (logOf sp)) ∧
    (s.roleEntered sp).activeBank sp =
      (if s.rd (F.MULE_ROLE.SWAP (muleOf sp) (logOf sp)) = 1 then 1 - s.activeBank sp else s.activeBank sp) ∧
    (∀ c < 32, (s.roleEntered sp).chanCfg (32 * sp + c) = s.cfgOf sp c) ∧
    (∀ j < 8, ∀ c < 4, (s.roleEntered sp).noneQueued (epThread (8 * sp + j) c)) ∧
    (∀ u, ((s.roleEntered sp).thr u).resv = (s.thr u).resv) := by
  obtain ⟨hd, hq⟩ := (((s.roleNamed sp).laidOut sp).roleBanks sp).discardQueued_facts sp
  obtain ⟨hmules, hyarn⟩ := ((s.roleNamed sp).laidOut sp).roleBanks_mules sp
  have hbanks (g : FRef) (hg : g.addr % 0x10000 < 0x200) : (((s.roleNamed sp).laidOut sp).roleBanks sp).rd g = (s.roleNamed sp).rd g :=
    State.roleBanks_rd _ sp (by simp only [FRef.apart_iff, F.MULE_THR_STATE.ACTIVE_BANK, logOf]; omega)
      (by simp only [FRef.apart_iff, standbyF, F.MULE_THR_STATE.STANDBY_VALID, logOf]; omega)
  have hepoch : (epochF sp).addr % 0x10000 < 0x200 ∧ (epochF sp).addr < 0x600000 := by
    simp only [epochF, F.MULE_ROLE.EPOCH, muleOf, logOf]; omega
  have hrole : (roleF sp).addr % 0x10000 < 0x200 ∧ (roleF sp).addr < 0x600000 := by
    simp only [roleF, F.MULE_ROLE.ROLE, muleOf, logOf]; omega
  have hactive : (activeF sp).addr < 0x600000 := by simp only [F.MULE_THR_STATE.ACTIVE_BANK, muleOf, logOf]; omega
  refine ⟨?_, ?_, ?_, fun c hc => ?_, hq, fun u => ?_⟩
  · rw [State.roleEntered, hd.words.rd (mulesWord hepoch.2 (by omega)), hbanks _ hepoch.1, s.roleNamed_epoch]
  · rw [State.role, State.roleEntered, hd.words.rd (mulesWord hrole.2 (by omega)), hbanks _ hrole.1]
    exact s.roleNamed_role sp
  · have hswap : ((s.roleNamed sp).laidOut sp).rd (F.MULE_ROLE.SWAP (muleOf sp) (logOf sp)) = s.rd (F.MULE_ROLE.SWAP (muleOf sp) (logOf sp)) := by
      refine s.roleNamed_rd sp ?_ ?_ <;>
        simp only [FRef.apart_iff, epochF, roleF, F.MULE_ROLE.EPOCH, F.MULE_ROLE.ROLE, F.MULE_ROLE.SWAP] <;> omega
    have hbank : ((s.roleNamed sp).laidOut sp).activeBank sp = s.activeBank sp :=
      s.roleNamed_rd_addr sp (by simp only [F.MULE_THR_STATE.ACTIVE_BANK, logOf]; omega)
    have hlow : (activeF sp).addr % 0x10000 < 0x1000 := activeBank_addr_mod sp
    rw [State.activeBank_eq, State.roleEntered, hd.words.rd (mulesWord hactive (by omega)), ← State.activeBank_eq, State.roleBanks_activeBank,
      hswap, hbank]
  · rw [State.chanCfg, State.roleEntered, hd.layout, hyarn]
    exact ((s.roleNamed sp).laidOut_chanCfg sp hc).trans (s.roleNamed_cfgOf sp c hc)
  · refine (hd.resv u).trans ?_
    rw [State.thr, hmules]
    rfl

/-- The role change of a spindle that holds no reservation. -/
theorem State.roleApply_facts (s : State) {sp : Nat} (h : sp < 768) (hr : ∀ u ∈ threadsOf sp, (s.thr u).resv = .none) :
    (s.roleApply sp).rd (epochF sp) = nextEpoch (s.rd (epochF sp)) ∧
    (s.roleApply sp).role sp = s.rd (F.MULE_ROLE.NEW_ROLE (muleOf sp) (logOf sp)) ∧
    (s.roleApply sp).activeBank sp =
      (if s.rd (F.MULE_ROLE.SWAP (muleOf sp) (logOf sp)) = 1 then 1 - s.activeBank sp else s.activeBank sp) ∧
    (∀ c < 32, (s.roleApply sp).chanCfg (32 * sp + c) = s.cfgOf sp c) ∧
    (∀ j < 8, ∀ c < 4, (s.roleApply sp).noneQueued (epThread (8 * sp + j) c)) ∧
    (∀ tid ∈ threadsOf sp, (s.roleApply sp).tookRole (s.roleApply sp) tid) := by
  obtain ⟨hepoch, hrole, hbank, hcfg, hq, hresv⟩ := s.roleEntered_facts h
  rw [s.roleApply_eq]
  have hfree : ∀ u ∈ threadsOf sp, ((s.roleEntered sp).thr u).holdsResv = false := fun u hu => by
    rw [Thread.holdsResv, hresv, hr u hu]
  have hwithin := (s.roleEntered sp).roleThreads_within sp (threadsOf_nodup sp) hfree
  have htook (tid : Nat) (hm : tid ∈ threadsOf sp) := (s.roleEntered sp).roleThreads_tookRole (by have := lt_of_mem_threadsOf hm; omega) hm hfree
  generalize s.roleEntered sp = u at hepoch hrole hbank hcfg hq hwithin htook
  generalize u.roleThreads sp (threadsOf sp) = t at hwithin htook
  have hyarn : ({ t.yarn with flights := u.yarn.flights } : Yarn) = u.yarn := hwithin.yarn
  have hlayout : t.yarn.layout = u.yarn.layout := by
    have e := congrArg Yarn.layout hyarn
    exact e
  have hqueues : t.yarn.queues = u.yarn.queues := by
    have e := congrArg Yarn.queues hyarn
    exact e
  have himage : (t.modSpindle sp (fun x => { x with t0Fault := false })).activeImage sp = t.activeImage sp := by
    rw [State.activeImage, State.spindle_modSpindle_same]; rfl
  refine ⟨?_, (hwithin.role sp).trans hrole, (hwithin.roleBank sp).trans hbank, fun c hc => ?_, fun j hj c hc x hx => hq j hj c hc x ?_, fun tid hm => ?_⟩
  · rw [State.modSpindle_rd, ← hepoch]
    refine hwithin.roleFields_rd fun v _ => apart_roleFields (by simp only [epochF, F.MULE_ROLE.EPOCH, logOf]; omega) fun f hf => ?_
    simp only [List.mem_cons, List.not_mem_nil, or_false] at hf
    rcases hf with rfl | rfl <;>
      simp only [epochF, F.MULE_ROLE.EPOCH, thrStateF, haltedF, F.MULE_THR_STATE.STATE, F.MULE_DBG_HALT.MASK, logOf] <;> omega
  · rw [← hcfg c hc]
    exact congrArg (fun l => AMap.getD l (32 * sp + c) 22) hlayout
  · rw [State.queueAt, ← hqueues]; exact hx
  · have hsp : spOf tid = sp := lt_of_mem_threadsOf hm
    exact (htook tid hm).congr (hwithin.role _).symm (by rw [hsp, himage, hwithin.roleImage]) ⟨rfl, rfl, rfl, rfl, by rw [hsp]; exact himage⟩

/-- The state of a role change that is refused, and of one that takes effect, and its end. -/
def State.roleDenied (s : State) (sp : Nat) : State := s.modSpindle sp (fun x => { x with roleBack := some s.stitch })
def State.roleEnded (s : State) (sp : Nat) (f : Spindle → Spindle) (event : FRef) : State :=
  ((s.modSpindle sp f).wr (F.MULE_ROLE.REQ (muleOf sp) (logOf sp)) 0).wr event 1

/-- A role change that has waited (R64): what still delays it. -/
def State.roleWaits (s : State) (sp n : Nat) : Prop :=
  s.stitch < n + 2 ∨ (∃ f, (s.spindle sp).roleForced = some f ∧ s.stitch ≤ f) ∨ (workersOf sp).all (fun t => s.quiescent sp t) = false ∨
    s.swapPending sp = true

theorem exec_roleChangeApply_early {s : State} (sp : Nat) (h : s.atBoundary = false) : exec (.roleChangeApply sp) s = .next s := if_pos h

section roleChangeApply
variable {s : State} {sp n : Nat} (hb : s.atBoundary = true)
include hb

theorem exec_roleChangeApply_back (h : (s.spindle sp).roleBack = some n) :
    exec (.roleChangeApply sp) s = .next (if n < s.stitch then s.roleResume sp else s) := by
  show execRoleChangeApply sp s = _
  rw [execRoleChangeApply, if_neg (by rw [hb]; exact Bool.noConfusion)]
  simp only []
  rw [h]
  simp

theorem exec_roleChangeApply_waits (hback : (s.spindle sp).roleBack = none) (h : (s.spindle sp).roleAt = some n) (hw : s.roleWaits sp n) :
    exec (.roleChangeApply sp) s = .next s := by
  show execRoleChangeApply sp s = _
  rw [execRoleChangeApply, if_neg (by rw [hb]; exact Bool.noConfusion)]
  simp only []
  rw [hback, h]
  refine (if_neg Bool.false_ne_true).trans (if_pos ?_)
  rcases hw with hw | ⟨f, hf, hle⟩ | hw | hw
  · exact .inl hw
  · exact .inr (.inl (by rw [hf]; exact decide_eq_false (by omega)))
  · exact .inr (.inr (.inl hw))
  · exact .inr (.inr (.inr hw))

theorem exec_roleChangeApply_due (hback : (s.spindle sp).roleBack = none) (h : (s.spindle sp).roleAt = some n) (hw : ¬ s.roleWaits sp n) :
    exec (.roleChangeApply sp) s = .next (if s.roleRefused sp then
        (s.roleDenied sp).roleEnded sp (fun x => { x with roleAt := none, roleForced := none }) (F.MULE_EVENT.ROLE_REJECT (muleOf sp))
      else (s.roleApply sp).roleEnded sp (fun x => { x with roleAt := none, roleForced := none, roleStopped := [] }) (F.MULE_EVENT.ROLE_DONE (muleOf sp))) := by
  show execRoleChangeApply sp s = _
  rw [execRoleChangeApply, if_neg (by rw [hb]; exact Bool.noConfusion)]
  simp only []
  rw [hback, h]
  refine (if_neg Bool.false_ne_true).trans ((if_neg ?_).trans ?_)
  · rintro (hc | hc | hc | hc)
    · exact hw (.inl hc)
    · cases hf : (s.spindle sp).roleForced with
      | none => rw [hf] at hc; cases hc
      | some f =>
        rw [hf] at hc
        exact hw (.inr (.inl ⟨f, hf, Nat.le_of_not_lt (of_decide_eq_false hc)⟩))
    · exact hw (.inr (.inr (.inl hc)))
    · exact hw (.inr (.inr (.inr hc)))
  · cases s.roleRefused sp <;> rfl

end roleChangeApply

theorem State.roleEnded_req (s : State) (sp : Nat) (f : Spindle → Spindle) {event : FRef} (h : event.addr = 0x200000 + 0x10000 * muleOf sp) :
    (s.roleEnded sp f event).rd (F.MULE_ROLE.REQ (muleOf sp) (logOf sp)) = 0 := by
  rw [State.roleEnded, State.rd_wr_addr _ _ _ _ (by rw [h]; simp only [F.MULE_ROLE.REQ, logOf]; omega), State.rd_wr_same _ _ _ (show 31 < 64 by decide)]
  exact Nat.zero_mod _

theorem State.roleEnded_event (s : State) (sp : Nat) (f : Spindle → Spindle) {event : FRef} (h : event.hi < 64) (hb : event.bits = 1) :
    (s.roleEnded sp f event).rd event = 1 := by
  rw [State.roleEnded, State.rd_wr_same _ _ _ h, hb]
  rfl

theorem State.roleEnded_regsKept (s : State) (sp : Nat) (f : Spindle → Spindle) {event : FRef} (h : event.hi < 64) :
    s.regsKept (s.roleEnded sp f event) [F.MULE_ROLE.REQ (muleOf sp) (logOf sp), event] :=
  (((s.regsKept_refl _).modSpindle sp f).wr _ (by simp) (show 31 < 64 by decide)).wr _ (by simp) h

theorem State.roleEnded_spindle (s : State) (sp : Nat) (f : Spindle → Spindle) (event : FRef) :
    (s.roleEnded sp f event).spindle sp = f (s.spindle sp) := by
  rw [State.roleEnded, State.wr_spindle, State.wr_spindle, State.spindle_modSpindle_same]

/-! ### Requests and threads stopped (R64, steps 1 and 2) -/

/-- The state of a role change that has been asked for. -/
def State.roleAsked (s : State) (sp role : Nat) (swap : Bool) : State :=
  (((s.wr (F.MULE_ROLE.NEW_ROLE (muleOf sp) (logOf sp)) role).wr (F.MULE_ROLE.SWAP (muleOf sp) (logOf sp)) (if swap then 1 else 0)).wr
    (F.MULE_ROLE.REQ (muleOf sp) (logOf sp)) 1).modSpindle sp (fun x => { x with roleAt := some s.stitch, roleForced := none })

theorem State.roleRequest_asked {s : State} {sp role : Nat} (swap : Bool) (hr : s.rd (F.MULE_ROLE.REQ (muleOf sp) (logOf sp)) = 0) (h : role < 5) :
    s.roleRequest sp role swap = s.roleAsked sp role swap := by
  have hst : (((s.wr (F.MULE_ROLE.NEW_ROLE (muleOf sp) (logOf sp)) role).wr (F.MULE_ROLE.SWAP (muleOf sp) (logOf sp)) (if swap then 1 else 0)).wr
      (F.MULE_ROLE.REQ (muleOf sp) (logOf sp)) 1).stitch = s.stitch := by
    have hap (f : FRef) (t : State) (v : Nat) (hf : 0x200100 ≤ f.addr) : (t.wr f v).rd F.STITCH_COUNT.COUNT = t.rd F.STITCH_COUNT.COUNT :=
      State.rd_wr_addr _ _ _ _ (by simp only [F.STITCH_COUNT.COUNT]; omega)
    rw [State.stitch, hap _ _ _ (by simp only [F.MULE_ROLE.REQ]; omega), hap _ _ _ (by simp only [F.MULE_ROLE.SWAP]; omega),
      hap _ _ _ (by simp only [F.MULE_ROLE.NEW_ROLE]; omega), State.stitch]
  rw [State.roleAsked, ← hst]
  refine if_neg ?_
  rintro (hf | hle)
  · exact State.not_flag_of_zero hr hf
  · omega

theorem State.roleAsked_facts (s : State) (sp : Nat) {role : Nat} (swap : Bool) (h : role < 5) :
    (s.roleAsked sp role swap).rd (F.MULE_ROLE.REQ (muleOf sp) (logOf sp)) = 1 ∧
    (s.roleAsked sp role swap).rd (F.MULE_ROLE.NEW_ROLE (muleOf sp) (logOf sp)) = role ∧
    (s.roleAsked sp role swap).rd (F.MULE_ROLE.SWAP (muleOf sp) (logOf sp)) = (if swap then 1 else 0) ∧
    ((s.roleAsked sp role swap).spindle sp).roleAt = some (s.rd F.STITCH_COUNT.COUNT) ∧
    s.regsKept (s.roleAsked sp role swap) [F.MULE_ROLE.REQ (muleOf sp) (logOf sp), F.MULE_ROLE.NEW_ROLE (muleOf sp) (logOf sp),
      F.MULE_ROLE.SWAP (muleOf sp) (logOf sp)] := by
  refine ⟨?_, ?_, ?_, ?_, ?_⟩
  · rw [State.roleAsked, State.modSpindle_rd, State.rd_wr_same _ _ _ (show 31 < 64 by decide)]
    rfl
  · rw [State.roleAsked, State.modSpindle_rd,
      State.rd_wr_field _ (F.MULE_ROLE.REQ (muleOf sp) (logOf sp)) (F.MULE_ROLE.NEW_ROLE (muleOf sp) (logOf sp)) _ (show 31 < 64 by decide) rfl
        (.inl (show 26 < 31 by decide)),
      State.rd_wr_field _ (F.MULE_ROLE.SWAP (muleOf sp) (logOf sp)) (F.MULE_ROLE.NEW_ROLE (muleOf sp) (logOf sp)) _ (show 30 < 64 by decide) rfl
        (.inl (show 26 < 30 by decide)),
      State.rd_wr_same _ _ _ (show 26 < 64 by decide)]
    exact Nat.mod_eq_of_lt (show role < 8 by omega)
  · rw [State.roleAsked, State.modSpindle_rd,
      State.rd_wr_field _ (F.MULE_ROLE.REQ (muleOf sp) (logOf sp)) (F.MULE_ROLE.SWAP (muleOf sp) (logOf sp)) _ (show 31 < 64 by decide) rfl
        (.inl (show 30 < 31 by decide)),
      State.rd_wr_same _ _ _ (show 30 < 64 by decide)]
    exact Nat.mod_eq_of_lt (show (if swap then 1 else 0) < 2 by split <;> decide)
  · rw [State.roleAsked, State.spindle_modSpindle_same]
    rfl
  · exact ((((s.regsKept_refl _).wr _ (by simp) (show 26 < 64 by decide)).wr _ (by simp) (show 30 < 64 by decide)).wr _ (by simp)
      (show 31 < 64 by decide)).modSpindle _ _

/-- A thread stopped for a role change. -/
def State.roleStop (s : State) (tid : Nat) : State :=
  ((if s.bounded tid then (s.endProgram tid).handOn tid stAborted 0x21 else s.poison tid).modThr tid
    (fun x => { x with haltReq := none, retireAt := none })).setTs tid tsHalt

theorem State.endProgram_work (s : State) {tid : Nat} (hr : (s.thr tid).holdsResv = false) : ((s.endProgram tid).thr tid).work = (s.thr tid).work := by
  rw [State.endProgram, State.thr_modThr_same, (s.poison_quiet hr).2]

theorem State.roleStop_within (s : State) {tid : Nat} (hw : (s.thr tid).work = none) (hr : (s.thr tid).holdsResv = false) :
    s.within (s.roleStop tid) (tsFields tid) [tid] := by
  unfold State.roleStop
  rw [State.handOn_idle ((s.endProgram_work hr).trans hw)]
  split
  · exact ((s.endProgram_within hr).modThr _ (by simp)).setTs _ (by simp) (by simp)
  · exact ((s.poison_within hr).modThr _ (by simp)).setTs _ (by simp) (by simp)

theorem State.roleStop_ts (s : State) {tid : Nat} (h : tid < 6144) : (s.roleStop tid).ts tid = tsHalt := State.setTs_ts_same _ h (by decide)

/-- The state in which the threads of a list are stopped for a role change. -/
def State.roleStopAll (s : State) (sp : Nat) (l : List Nat) : State :=
  ((l.foldl (fun s t => s.roleStop t) s).modSpindle sp (fun x =>
    { x with roleForced := some (l.foldl (fun s t => s.roleStop t) s).stitch, roleStopped := x.roleStopped ++ l })).wr
      (F.MULE_EVENT.ROLE_FORCED (muleOf sp)) 1

theorem exec_roleForced {s : State} {sp n : Nat} (h : (s.spindle sp).roleAt = some n) : exec (.roleForced sp) s =
    if s.stitch < n + 3 ∨ (workersOf sp).filter (fun t => !s.quiescent sp t) = [] ∨ s.swapPending sp then .next s
    else .next (s.roleStopAll sp ((workersOf sp).filter (fun t => !s.quiescent sp t))) := by
  show execRoleForced sp s = _
  rw [execRoleForced, h]
  rfl

theorem workersOf_nodup (sp : Nat) : (workersOf sp).Nodup :=
  List.Nodup.map (fun a b h => by simp only [tidOf] at h; omega) List.nodup_range

/-- The only thread that is not quiescent. -/
theorem notQuiescent_single {s : State} {sp j : Nat} (h1 : 1 ≤ j) (h8 : j < 8) (hq : s.quiescent sp (8 * sp + j) = false)
    (h : ∀ i, 1 ≤ i → i < 8 → i ≠ j → s.quiescent sp (8 * sp + i) = true) :
    (workersOf sp).filter (fun t => !s.quiescent sp t) = [8 * sp + j] := by
  have hp : ∀ t ∈ workersOf sp, (!s.quiescent sp t) = (t == 8 * sp + j) := fun t ht => by
    obtain ⟨i, hi1, hi8, rfl⟩ := mem_workersOf_iff.mp ht
    by_cases he : i = j
    · subst he; simp [hq]
    · rw [h i hi1 hi8 he]
      simp [he]
  rw [List.filter_congr hp, List.filter_beq,
    List.count_eq_one_of_mem (workersOf_nodup sp) (mem_workersOf_iff.mpr ⟨j, h1, h8, rfl⟩)]
  rfl

theorem notQuiescent_none {s : State} {sp : Nat} (h : ∀ i, 1 ≤ i → i < 8 → s.quiescent sp (8 * sp + i) = true) :
    (workersOf sp).filter (fun t => !s.quiescent sp t) = [] := List.filter_eq_nil_iff.mpr fun t ht => by
  obtain ⟨i, hi1, hi8, rfl⟩ := mem_workersOf_iff.mp ht
  rw [h i hi1 hi8]
  exact Bool.noConfusion

/-! ### The threads come back after a refusal (R64) -/

/-- One of the stopped threads goes on. -/
def State.roleReturn (s : State) (tid : Nat) : State := if s.bounded tid then s.setTs tid (s.restState tid) else s.restartThr tid rsAbort

/-- What the return of a thread leaves unchanged: the registers of mules but the thread's own, and the spindles. -/
structure State.returned (s t : State) (l : List Nat) : Prop where
  regs : ∀ g, muleWord g.addr → (∀ u ∈ l, ∀ f ∈ tsFields u, g.addr ≠ f.addr ∨ g.hi < f.lo ∨ f.hi < g.lo) → t.rd g = s.rd g
  spindles : t.mules.spindles = s.mules.spindles

theorem State.within.returned {s t : State} {tid : Nat} {k : List Nat} (h : s.within t (tsFields tid) k) : s.returned t [tid] :=
  ⟨fun _ _ hg => h.regs _ (hg tid (by simp)), h.spindles⟩

theorem State.roleReturn_returned (s : State) (tid : Nat) : s.returned (s.roleReturn tid) [tid] := by
  unfold State.roleReturn
  split
  · exact ((s.within_refl (tsFields tid) [tid]).setTs _ (by simp) (by simp)).returned
  · have htold := s.poison_told tid
    have hafter := (s.restartThr_after tid rsAbort).returned
    refine ⟨fun g hg hap => (hafter.regs g hg hap).trans (htold.words.rd hg), hafter.spindles.trans ?_⟩
    have e := congrArg Mules.spindles htold.mulesBut
    exact e

section returned
variable {s t : State} {l : List Nat} (h : s.returned t l)
include h

theorem State.returned.activeImage {sp : Nat} (hsp : sp < 768) : t.activeImage sp = s.activeImage sp := by
  refine State.activeImage_congr (by rw [State.spindle, h.spindles]; rfl) (h.regs (activeF sp) ?_ fun u _ => activeF_apart_thrStateF sp u)
  exact mulesWord (by simp only [F.MULE_THR_STATE.ACTIVE_BANK, muleOf, logOf]; omega)
    (by simp only [F.MULE_THR_STATE.ACTIVE_BANK, logOf]; omega)

theorem State.returned.bounded {tid : Nat} (ht : tid < 6144) : t.bounded tid = s.bounded tid :=
  State.bounded_congr (h.regs _ (muleWord_roleF ht) fun u _ => roleF_apart_thrStateF _ u)

theorem State.returned.restState {tid : Nat} (ht : tid < 6144) : t.restState tid = s.restState tid :=
  State.restState_congr (h.activeImage (spOf_lt ht))

theorem State.returned.ts {tid : Nat} (ht : tid < 6144) (hn : tid ∉ l) : t.ts tid = s.ts tid :=
  State.ts_of_rd (h.regs _ (muleWord_thrStateF ht) fun _ hu => thrStateF_apart_tsFields fun e => hn (by rw [e]; exact hu))

end returned

/-- Each bounded thread of the list stands at rest again. -/
theorem State.roleReturns_ts (s : State) {l : List Nat} {u : Nat} (hu : u < 6144) (hb : s.bounded u = true) (h : u ∈ l ∨ s.ts u = s.restState u) :
    (l.foldl (fun s t => s.roleReturn t) s).ts u = s.restState u := by
  induction l generalizing s with
  | nil => exact h.resolve_left List.not_mem_nil
  | cons v l ih =>
    have hret := s.roleReturn_returned v
    rw [List.foldl_cons, ih (s.roleReturn v) ((hret.bounded hu).trans hb) ?_, hret.restState hu]
    by_cases he : u = v
    · subst he
      right
      rw [hret.restState hu, State.roleReturn, if_pos hb]
      exact State.setTs_ts_same _ hu (restState_lt s u)
    · rcases h with h | h
      · exact .inl ((List.mem_cons.mp h).resolve_left he)
      · exact .inr (by rw [hret.restState hu, hret.ts hu (by simpa using he), h])

theorem State.roleResume_eq (s : State) (sp : Nat) : s.roleResume sp =
    ((s.spindle sp).roleStopped.foldl (fun s t => s.roleReturn t) s).modSpindle sp (fun x => { x with roleBack := none, roleStopped := [] }) := rfl

/-! ### What refuses a change -/

theorem State.roleRefused_of {s : State} {sp : Nat}
    (h : (∃ c < 32, s.ychSize sp c < 4 ∨ 10 < s.ychSize sp c) ∨
      (s.rd (F.MULE_ROLE.SWAP (sp / 16) (sp % 16)) = 1 ∧ s.rd (standbyF sp) = 0) ∨
      2048 < ((List.range 32).map (fun c => 2 ^ s.ychSize sp c)).sum ∨
      (s.rd (F.MULE_ROLE.NEW_ROLE (sp / 16) (sp % 16)) = 4 ∧ s.role sp = 3 ∧ ∀ j < 16, j ≠ sp % 16 → s.role (16 * (sp / 16) + j) = 4)) :
    s.roleRefused sp = true := by
  simp only [State.roleRefused, Bool.or_eq_true]
  rcases h with ⟨c, hc, hsize⟩ | ⟨hswap, hstandby⟩ | hsum | ⟨hnew, hrole, hothers⟩
  · refine .inl (.inl (.inl (List.any_eq_true.mpr ⟨_, List.mem_map.mpr ⟨c, List.mem_range.mpr hc, rfl⟩, ?_⟩)))
    simpa using hsize
  · refine .inl (.inr ?_)
    rw [Bool.and_eq_true]
    exact ⟨State.flag_of_one hswap, by rw [Bool.eq_false_iff.mpr (State.not_flag_of_zero hstandby)]; rfl⟩
  · refine .inl (.inl (.inr (decide_eq_true ?_)))
    rw [List.map_map]
    exact hsum
  · refine .inr ?_
    rw [Bool.and_eq_true, Bool.and_eq_true, List.all_eq_true]
    refine ⟨⟨beq_iff_eq.mpr hnew, beq_iff_eq.mpr hrole⟩, fun j hj => ?_⟩
    by_cases he : j = logOf sp
    · simp [he]
    · rw [Bool.or_eq_true]
      exact .inr (beq_iff_eq.mpr (hothers j (List.mem_range.mp hj) he))

end Sys2Proof.Machine
end

section
/-! Swaps at their boundary, role changes as they end, and loads, each with the state it leaves (R58, R59, R64, R84; O13). -/

namespace Sys2Proof.Machine

open Sys2Proof

/-! ### A swap at its boundary -/

section muleSwapApply
variable {s : State} {m c : Nat} (hc : AMap.get? s.mules.swapAt m = some c) (hb : s.atBoundary = true) (hdue : c + 2048 ≤ s.clk.cycles)
  (hs : s.flt.swaps = [])
include hc hb hdue hs

/-- A spindle with no standby image refuses the swap of all. -/
theorem muleSwapApply_rejects {sp : Nat} (hsp : sp ∈ spinsOf m (s.rd (F.MULE_SWAP.SPN m))) (hst : s.rd (standbyF sp) = 0) :
    ∃ t, exec (.muleSwapApply m) s = .next t ∧ t.rd (F.MULE_SWAP.REQ m) = 0 ∧ t.rd (F.MULE_EVENT.SWAP_REJECT m) = 1 ∧
      AMap.get? t.mules.swapAt m = none ∧ s.regsKept t [F.MULE_SWAP.REQ m, F.MULE_EVENT.SWAP_REJECT m] ∧ t.mules.threads = s.mules.threads := by
  have hnot : ¬ (spinsOf m (s.rd (F.MULE_SWAP.SPN m))).all (fun sp => s.flag (standbyF sp)) = true := fun hall =>
    State.not_flag_of_zero hst (List.all_eq_true.mp hall _ hsp)
  refine ⟨_, (exec_muleSwapApply hc).trans ((if_neg (muleSwapApply_due hb hdue hs)).trans (congrArg _ (if_neg hnot))), ?_,
    State.rd_wr_same _ _ _ (show 2 < 64 by decide), AMap.get?_del_same _ _, ?_, rfl⟩
  · rw [State.rd_wr_addr _ _ _ _ (by simp only [F.MULE_SWAP.REQ, F.MULE_EVENT.SWAP_REJECT]; omega), s.swapTaken_req]
  · exact ((State.regsKept_of_csr (t := { s with mules := { s.mules with swapAt := AMap.del s.mules.swapAt m } }) rfl _).wr _ (by simp)
      (show 31 < 64 by decide)).wr _ (by simp) (show 2 < 64 by decide)

/-- With a standby image in each, every spindle named swaps its banks and no other does. -/
theorem muleSwapApply_swaps (hst : ∀ sp ∈ spinsOf m (s.rd (F.MULE_SWAP.SPN m)), s.rd (standbyF sp) = 1) :
    ∃ t, exec (.muleSwapApply m) s = .next t ∧ t.rd (F.MULE_SWAP.REQ m) = 0 ∧ t.rd (F.MULE_EVENT.SWAP_DONE m) = 1 ∧
      t.mules.spindles = s.mules.spindles ∧
      (∀ sp, sp ∉ spinsOf m (s.rd (F.MULE_SWAP.SPN m)) → t.activeBank sp = s.activeBank sp ∧ t.rd (standbyF sp) = s.rd (standbyF sp)) ∧
      (∀ sp ∈ spinsOf m (s.rd (F.MULE_SWAP.SPN m)), s.swappedSpindle t sp (1 - s.activeBank sp)) := by
  have hall : (spinsOf m (s.rd (F.MULE_SWAP.SPN m))).all (fun sp => s.flag (standbyF sp)) = true := List.all_eq_true.mpr fun sp hsp =>
    State.flag_of_one (hst sp hsp)
  have hexec := (exec_muleSwapApply hc).trans ((if_neg (muleSwapApply_due hb hdue hs)).trans (congrArg Host.Outcome.next (if_pos hall)))
  have hd := spinsOf_nodup m (s.rd (F.MULE_SWAP.SPN m))
  have hwithin := (s.swapTaken m).swapSpindles_within hd
  have hswap {sp : Nat} (hsp : sp ∈ spinsOf m (s.rd (F.MULE_SWAP.SPN m))) := (s.swapTaken m).swapSpindles_swapped hd hsp
  generalize (s.swapTaken m).swapSpindles (spinsOf m (s.rd (F.MULE_SWAP.SPN m))) = t at hexec hwithin hswap
  have hlow (g : FRef) (hg : g.addr % 0x10000 ≠ 0x210) : (s.swapTaken m).rd g = s.rd g := s.swapTaken_rd m hg
  have hdone (g : FRef) (hg : 0 < g.addr % 0x10000) : (t.wr (F.MULE_EVENT.SWAP_DONE m) 1).rd g = t.rd g :=
    State.rd_wr_addr _ _ _ _ (by simp only [F.MULE_EVENT.SWAP_DONE]; omega)
  have hactive (sp : Nat) : (activeF sp).addr % 0x10000 ≠ 0x210 ∧ 0 < (activeF sp).addr % 0x10000 := by
    simp only [F.MULE_THR_STATE.ACTIVE_BANK, logOf]; omega
  have hstandby (sp : Nat) : (standbyF sp).addr % 0x10000 ≠ 0x210 ∧ 0 < (standbyF sp).addr % 0x10000 := by
    simp only [standbyF, F.MULE_THR_STATE.STANDBY_VALID, logOf]; omega
  have hbank (sp : Nat) : (t.wr (F.MULE_EVENT.SWAP_DONE m) 1).activeBank sp = t.activeBank sp := hdone _ (hactive sp).2
  have hbank' (sp : Nat) : (s.swapTaken m).activeBank sp = s.activeBank sp := hlow _ (hactive sp).1
  refine ⟨_, hexec, ?_, State.rd_wr_same _ _ _ (show 3 < 64 by decide), hwithin.spindles, fun sp hnot => ?_, fun sp hsp => ?_⟩
  · rw [hdone _ (by simp only [F.MULE_SWAP.REQ]; omega), hwithin.rd_spindles (by simp only [F.MULE_SWAP.REQ]; omega), s.swapTaken_req]
  · obtain ⟨hb', hs', _, _⟩ := hwithin.otherSpindle hnot
    exact ⟨by rw [hbank, hb', hbank'], by rw [hdone _ (hstandby _).2, hs', hlow _ (hstandby _).1]⟩
  · have hsw := hswap hsp
    rw [hbank'] at hsw
    refine ⟨by rw [hbank, hsw.bank], by rw [hdone _ (hstandby _).2, hsw.standby], fun tid htid hm hr => ?_⟩
    have hrole : (s.swapTaken m).role sp ≠ roleSpare := by
      rw [State.role, hlow _ (by simp only [roleF, F.MULE_ROLE.ROLE, logOf]; omega)]; exact hr
    exact (hsw.threads tid htid hm hrole).congr (s.swapTaken_standsAs m)
      ⟨rfl, State.ts_of_rd (hdone _ (by simp only [thrStateF, F.MULE_THR_STATE.STATE, logOf]; omega)),
        State.bounded_congr (hdone _ (by simp only [roleF, F.MULE_ROLE.ROLE, logOf]; omega)), rfl⟩
      (State.longEntry_congr (State.activeImage_congr rfl (hbank _)))

end muleSwapApply

/-! ### A role change as it ends -/

section roleChange
variable (s : State) {sp : Nat}

/-- A refused change: nothing changes but its request, and the spindle knows that its threads are to come back. -/
theorem State.roleDenied_facts (sp : Nat) : ∃ t, (s.roleDenied sp).roleEnded sp (fun x => { x with roleAt := none, roleForced := none })
      (F.MULE_EVENT.ROLE_REJECT (muleOf sp)) = t ∧ t.rd (F.MULE_ROLE.REQ (muleOf sp) (logOf sp)) = 0 ∧ t.rd (F.MULE_EVENT.ROLE_REJECT (muleOf sp)) = 1 ∧
    (t.spindle sp).roleAt = none ∧ (t.spindle sp).roleBack = some (s.rd F.STITCH_COUNT.COUNT) ∧
    (t.spindle sp).roleStopped = (s.spindle sp).roleStopped ∧
    s.regsKept t [F.MULE_ROLE.REQ (muleOf sp) (logOf sp), F.MULE_EVENT.ROLE_REJECT (muleOf sp)] ∧ t.mules.threads = s.mules.threads ∧
    t.yarn = s.yarn := by
  have hsp := (s.roleDenied sp).roleEnded_spindle sp (fun x => { x with roleAt := none, roleForced := none }) (F.MULE_EVENT.ROLE_REJECT (muleOf sp))
  have hdenied := s.spindle_modSpindle_same sp fun x => { x with roleBack := some s.stitch }
  have hback := congrArg Spindle.roleBack hdenied
  have hstopped := congrArg Spindle.roleStopped hdenied
  exact ⟨_, rfl, State.roleEnded_req _ sp _ rfl, State.roleEnded_event _ sp _ (show 8 < 64 by decide) rfl, congrArg Spindle.roleAt hsp,
    (congrArg Spindle.roleBack hsp).trans hback,
    (congrArg Spindle.roleStopped hsp).trans hstopped, (s.roleDenied sp).roleEnded_regsKept sp _ (show 8 < 64 by decide), rfl, rfl⟩

/-- The end of a change that took effect leaves all that the change did. -/
theorem State.roleEnded_keeps (t : State) (sp : Nat) {g : FRef} (h : 0 < g.addr % 0x10000)
    (hg : g.addr ≠ (F.MULE_ROLE.REQ (muleOf sp) (logOf sp)).addr ∨ g.hi < 31) :
    (t.roleEnded sp (fun x => { x with roleAt := none, roleForced := none, roleStopped := [] }) (F.MULE_EVENT.ROLE_DONE (muleOf sp))).rd g = t.rd g :=
  t.roleEnded_regsKept sp _ (show 5 < 64 by decide) g fun f hf => by
    simp only [List.mem_cons, List.not_mem_nil, or_false] at hf
    rcases hf with rfl | rfl
    · exact hg.elim .inl fun hhi => .inr (.inl hhi)
    · refine .inl ?_
      simp only [F.MULE_EVENT.ROLE_DONE]; omega

theorem State.roleEnded_image (t : State) (sp : Nat) : (t.roleEnded sp (fun x => { x with roleAt := none, roleForced := none, roleStopped := [] })
    (F.MULE_EVENT.ROLE_DONE (muleOf sp))).activeImage sp = t.activeImage sp := by
  have hbank : (t.roleEnded sp (fun x => { x with roleAt := none, roleForced := none, roleStopped := [] })
      (F.MULE_EVENT.ROLE_DONE (muleOf sp))).activeBank sp = t.activeBank sp :=
    t.roleEnded_keeps sp (g := activeF sp) (by simp only [F.MULE_THR_STATE.ACTIVE_BANK, logOf]; omega)
      (.inl (by simp only [F.MULE_THR_STATE.ACTIVE_BANK, F.MULE_ROLE.REQ, logOf]; omega))
  rw [State.activeImage, hbank, State.roleEnded_spindle]
  rfl

theorem State.roleApplied_facts (h : sp < 768) (hr : ∀ u ∈ threadsOf sp, (s.thr u).resv = .none) :
    ∃ t, (s.roleApply sp).roleEnded sp (fun x => { x with roleAt := none, roleForced := none, roleStopped := [] })
      (F.MULE_EVENT.ROLE_DONE (muleOf sp)) = t ∧ t.rd (F.MULE_ROLE.REQ (muleOf sp) (logOf sp)) = 0 ∧ t.rd (F.MULE_EVENT.ROLE_DONE (muleOf sp)) = 1 ∧
    t.rd (epochF sp) = nextEpoch (s.rd (epochF sp)) ∧ t.role sp = s.rd (F.MULE_ROLE.NEW_ROLE (muleOf sp) (logOf sp)) ∧
    t.activeBank sp = (if s.rd (F.MULE_ROLE.SWAP (muleOf sp) (logOf sp)) = 1 then 1 - s.activeBank sp else s.activeBank sp) ∧
    (∀ c < 32, t.chanCfg (32 * sp + c) = s.cfgOf sp c) ∧
    (∀ j < 8, ∀ c < 4, t.noneQueued (epThread (8 * sp + j) c)) ∧ (∀ tid ∈ threadsOf sp, t.tookRole t tid) := by
  obtain ⟨hepoch, hrole, hbank, hcfg, hnone, htook⟩ := s.roleApply_facts h hr
  generalize s.roleApply sp = t at hepoch hrole hbank hcfg hnone htook
  have hrole' := t.roleEnded_keeps sp (g := roleF sp) (by simp only [roleF, F.MULE_ROLE.ROLE, logOf]; omega) (.inr (show 18 < 31 by decide))
  refine ⟨_, rfl, State.roleEnded_req _ sp _ rfl, State.roleEnded_event _ sp _ (show 5 < 64 by decide) rfl, ?_, hrole'.trans hrole, ?_, hcfg, hnone,
    fun tid hm => ?_⟩
  · rw [t.roleEnded_keeps sp (by simp only [epochF, F.MULE_ROLE.EPOCH, logOf]; omega) (.inr (show 15 < 31 by decide)), hepoch]
  · refine Eq.trans ?_ hbank
    exact t.roleEnded_keeps sp (g := activeF sp) (by simp only [F.MULE_THR_STATE.ACTIVE_BANK, logOf]; omega)
      (.inl (by simp only [F.MULE_THR_STATE.ACTIVE_BANK, F.MULE_ROLE.REQ, logOf]; omega))
  · have hsp : spOf tid = sp := lt_of_mem_threadsOf hm
    have himage := t.roleEnded_image sp
    have hlog : logOf (spOf tid) < 16 := Nat.mod_lt _ (by decide)
    have hlog' : logOf sp < 16 := Nat.mod_lt _ (by decide)
    have htof : tOf tid < 8 := Nat.mod_lt _ (by decide)
    clear hepoch hbank hcfg hnone
    refine (htook tid hm).congr (by rw [hsp]; exact hrole'.symm) (by rw [hsp, himage]) ⟨rfl, State.ts_of_rd ?_, ?_, by rw [hsp]; exact hrole', by rw [hsp, himage]⟩
    · exact t.roleEnded_keeps sp (by simp only [thrStateF, F.MULE_THR_STATE.STATE, logOf]; omega)
        (.inl (by simp only [thrStateF, F.MULE_THR_STATE.STATE, F.MULE_ROLE.REQ, logOf]; omega))
    · exact t.roleEnded_keeps sp (by simp only [faultF, F.MULE_FAULT.W]; omega)
        (.inl (by simp only [faultF, F.MULE_FAULT.W, F.MULE_ROLE.REQ]; omega))

end roleChange

end Sys2Proof.Machine

open Sys2Proof Sys2Proof.Machine

/-- Settles O13: requests and their boundary, swaps spindle by spindle and thread by thread, restarts, role changes in their stages, and loads. -/
theorem swapsRolesAndLoads : Obligations.SwapsRolesAndLoads := by
  refine ⟨?_, ?_, ?_, fun s tid h => exec_longWorkRestart_none h, ?_, ?_, ?_, ?_, ?_, ?_, ?_, ?_⟩
  · intro s m spn hm hspn
    rw [exec_muleSwapRequest s hm]
    refine ⟨fun hr => congrArg _ (if_pos (State.flag_of_one hr)), fun hr hb => ?_, fun hr hb => ?_⟩
    · rw [State.swapRequest_denied spn hr hb]
      exact ⟨_, rfl, s.swapDenied_facts hspn hr⟩
    · rw [State.swapRequest_asked spn hr hb]
      exact ⟨_, rfl, s.swapAsked_facts hspn⟩
  · intro s m c hm hc
    refine ⟨fun h => (exec_muleSwapApply hc).trans (if_pos (h.imp id .inl)), fun ⟨k, hk, ht, hp⟩ => (exec_muleSwapApply hc).trans
      (if_pos (.inr (.inr (List.any_eq_true.mpr ⟨_, mem_spinsOf.mpr ⟨k, hk, ht, rfl⟩, hp⟩)))), fun hb hdue hs => ⟨fun k hk ht hst => ?_, fun hst => ?_⟩⟩
    · exact muleSwapApply_rejects hc hb hdue hs (mem_spinsOf.mpr ⟨k, hk, ht, rfl⟩) hst
    · obtain ⟨t, hexec, hreq, hdone, hspindles, hother, hswap⟩ := muleSwapApply_swaps hc hb hdue hs fun sp hsp => by
        obtain ⟨k, hk, ht, rfl⟩ := mem_spinsOf.mp hsp
        exact hst k hk ht
      refine ⟨t, hexec, hreq, hdone, hspindles, fun k hk ht => hother _ fun hin => ?_, fun k hk ht => ?_⟩
      · obtain ⟨k', _, ht', he⟩ := mem_spinsOf.mp hin
        rw [show k = k' by omega, ht'] at ht
        cases ht
      · have hsw := hswap _ (mem_spinsOf.mpr ⟨k, hk, ht, rfl⟩)
        refine ⟨hsw.bank, hsw.standby, fun j hj tid htid hr => ?_⟩
        subst htid
        have hthr := hsw.threads (8 * (16 * m + k) + j) (by omega) (mem_threadsOf hj) hr
        exact ⟨hthr.bounded, hthr.stopped, hthr.holding, hthr.restarts⟩
  · intro s tid c r htid hreq
    rw [exec_longWorkRestart hreq]
    refine ⟨fun hr hlt => if_pos ⟨hr, hlt⟩, fun hr => ?_⟩
    have hnot : ¬ ((s.thr tid).holdsResv = true ∧ s.clk.cycles < c + 64) := fun h => by rw [hr] at h; exact Bool.noConfusion h.1
    rw [if_neg hnot]
    refine ⟨fun hst => ?_, fun pc hf hh he => ?_⟩
    · rw [if_pos hst]
      exact ⟨_, rfl, State.thr_modThr_same _ _ _, s.modThr_onlyMules tid _, fun u hu => State.thr_modThr_other _ _ _ _ hu⟩
    · rw [if_neg (by simp [hf, hh])]
      have hgo := s.restartThr_restarted r htid he hr
      exact ⟨_, rfl, hgo.ts, hgo.pc, hgo.reason, hgo.bank, hgo.request, hgo.staging, hgo.only.lmem, hgo.regs, hgo.threads⟩
  · intro s sp hsp
    rw [exec_bankDrainEnd]
    refine ⟨fun hd hf => ?_, fun h => if_neg ?_⟩
    · rw [if_pos ⟨hsp, State.flag_of_one hd, all_threadsOf.mpr fun k hk => by rw [hf k hk]; rfl⟩]
      exact ⟨_, rfl, (State.rd_wr_same _ _ _ (drainingF_hi sp)).trans (Nat.zero_mod _), rfl, (s.regsKept_refl _).wr _ (by simp) (drainingF_hi sp)⟩
    · rintro ⟨_, hd, hall⟩
      rcases h with h | ⟨k, hk, hf⟩
      · exact State.not_flag_of_zero h hd
      · have := all_threadsOf.mp hall k hk
        rw [hf] at this
        cases this
  · rintro s sp role m k sw hsp rfl rfl
    have hexec : exec (.roleChangeRequest sp role sw) s = .next (s.roleRequest sp role sw) := if_neg (by omega)
    rw [hexec]
    refine ⟨fun h => congrArg _ (if_pos (h.imp State.flag_of_one id)), fun hr hlt => ?_⟩
    rw [State.roleRequest_asked sw hr hlt]
    obtain ⟨h1, h2, h3, h4, h5⟩ := s.roleAsked_facts sp sw hlt
    exact ⟨_, rfl, h1, h2, h3, h4, h5, rfl, rfl⟩
  · rintro s sp n tid j hsp hn h1 h8 rfl
    rw [exec_roleForced hn]
    refine ⟨fun h => if_pos (h.imp id fun hq => .inl (notQuiescent_none hq)), fun hdue hs hq hothers hw hr => ?_⟩
    have hsingle := notQuiescent_single h1 h8 hq hothers
    rw [hsingle, if_neg (by
      rintro (h | h | h)
      · rw [State.stitch] at h; omega
      · cases h
      · rw [hs] at h; cases h)]
    have hstop := s.roleStop_within hw hr
    have hts := s.roleStop_ts (tid := 8 * sp + j) (by omega)
    have hall : s.roleStopAll sp [8 * sp + j] = ((s.roleStop (8 * sp + j)).modSpindle sp (fun x =>
      { x with roleForced := some (s.roleStop (8 * sp + j)).stitch, roleStopped := x.roleStopped ++ [8 * sp + j] })).wr
        (F.MULE_EVENT.ROLE_FORCED (sp / 16)) 1 := rfl
    rw [hall]
    generalize s.roleStop (8 * sp + j) = t at hstop hts
    have hstate (u : Nat) (v : State) : (v.wr (F.MULE_EVENT.ROLE_FORCED (sp / 16)) 1).ts u = v.ts u :=
      State.ts_of_rd (State.rd_wr_addr _ _ _ _ (by simp only [thrStateF, F.MULE_THR_STATE.STATE, F.MULE_EVENT.ROLE_FORCED, logOf]; omega))
    have hstitch : t.stitch = s.rd F.STITCH_COUNT.COUNT := hstop.regs F.STITCH_COUNT.COUNT fun f hf => by
      simp only [List.mem_cons, List.not_mem_nil, or_false] at hf
      rcases hf with rfl | rfl <;>
        simp only [F.STITCH_COUNT.COUNT, thrStateF, haltedF, F.MULE_THR_STATE.STATE, F.MULE_DBG_HALT.MASK] <;> omega
    refine ⟨_, rfl, (hstate _ _).trans hts, State.rd_wr_same _ _ _ (show 4 < 64 by decide), ?_, ?_, fun u hu => hstop.threads u (by simpa using hu),
      fun u _ hu => (hstate _ _).trans ?_⟩
    · rw [State.wr_spindle, State.spindle_modSpindle_same, hstop.spindle]
    · rw [State.wr_spindle, State.spindle_modSpindle_same, hstitch]
    · exact State.ts_of_rd (hstop.regs _ (thrStateF_apart_tsFields hu))
  · intro s sp n hsp hn
    refine ⟨fun h => ?_, fun hb hlt hst => ?_⟩
    · cases hb : s.atBoundary with
      | false => exact exec_roleChangeApply_early sp hb
      | true =>
        rw [exec_roleChangeApply_back hb hn, if_neg]
        have hle := h.resolve_left (by rw [hb]; exact Bool.noConfusion)
        rw [State.stitch]; omega
    · rw [exec_roleChangeApply_back hb hn, if_pos (show n < s.stitch from hlt), s.roleResume_eq]
      refine ⟨_, rfl, by rw [State.spindle_modSpindle_same], by rw [State.spindle_modSpindle_same],
        fun u hu hbd => s.roleReturns_ts (hst u hu) hbd (.inl hu), fun he => ?_⟩
      rw [he]
      exact ⟨rfl, rfl⟩
  · rintro s sp n m k hsp rfl rfl hback hat
    refine ⟨fun h => ?_, fun hb hdue hq hs hforced => ?_⟩
    · cases hb : s.atBoundary with
      | false => exact exec_roleChangeApply_early sp hb
      | true =>
        refine exec_roleChangeApply_waits hb hback hat ?_
        rcases h with h | h | ⟨j, h1, h8, h⟩ | h | h
        · rw [hb] at h; cases h
        · exact .inl h
        · exact .inr (.inr (.inl (List.all_eq_false.mpr ⟨_, mem_workersOf_iff.mpr ⟨j, h1, h8, rfl⟩, by rw [h]; exact Bool.noConfusion⟩)))
        · exact .inr (.inr (.inr h))
        · exact .inr (.inl h)
    · have hgo : ¬ s.roleWaits sp n := by
        rintro (h | ⟨f, hf, hle⟩ | h | h)
        · rw [State.stitch] at h; omega
        · have := hforced f hf
          rw [State.stitch] at hle; omega
        · obtain ⟨t, ht, hnq⟩ := List.all_eq_false.mp h
          obtain ⟨j, h1, h8, rfl⟩ := mem_workersOf_iff.mp ht
          exact hnq (hq j h1 h8)
        · rw [hs] at h; cases h
      rw [exec_roleChangeApply_due hb hback hat hgo]
      refine ⟨fun hwhy => ?_, fun hok hresv => ?_⟩
      · rw [if_pos (State.roleRefused_of hwhy)]
        obtain ⟨t, ht, hfacts⟩ := s.roleDenied_facts sp
        exact ⟨t, congrArg _ ht, hfacts⟩
      · rw [if_neg (by rw [hok]; exact Bool.false_ne_true)]
        obtain ⟨t, ht, hreq, hdone, hepoch, hrole, hbank, hcfg, hnone, htook⟩ := s.roleApplied_facts hsp fun u hu => by
          obtain ⟨j, hj, rfl⟩ := List.mem_map.mp hu
          exact hresv j (List.mem_range.mp hj)
        refine ⟨t, congrArg _ ht, hreq, hdone, hepoch, hrole, hbank, hcfg, hnone, fun hspare j hj => ?_, fun j hj tid htid hlive => ?_⟩
        · exact (htook _ (mem_threadsOf hj)).spare (by rw [spOf_add hj]; exact hspare)
        · subst htid
          have hthr := htook _ (mem_threadsOf hj)
          have hlive' : t.role (spOf (8 * sp + j)) ≠ roleSpare := by rw [spOf_add hj]; exact hlive
          exact ⟨hthr.fault, hthr.bounded hlive', fun pc => hthr.restarts pc hlive'⟩
  · intro s m spn hm hspn
    rw [exec_muleLoadStart s hm]
    refine ⟨fun hb => congrArg _ (if_pos (State.flag_of_one hb)), fun hb => ⟨fun k hk ht hd => ?_, fun hd => ?_⟩⟩
    · rw [State.loadStart_busyBank hb (mem_spinsOf.mpr ⟨k, hk, ht, rfl⟩) hd]
      refine ⟨_, rfl, State.loadEnd_status _ _ (by decide), State.loadEnd_cause _ _ (by decide), State.loadEnd_reject _ _ (by decide), ?_, rfl⟩
      rw [State.loadEnd_rd _ _ _ _ (by simp only [F.MULE_LOAD_CTRL.BUSY]; omega),
        State.rd_wr_field _ (F.MULE_LOAD_CTRL.SPN m) (F.MULE_LOAD_CTRL.BUSY m) _ (show 15 < 64 by decide) rfl (.inr (show 15 < 30 by decide)), hb]
    · rw [State.loadStart_begun hb fun sp hsp => by
        obtain ⟨k, hk, ht, rfl⟩ := mem_spinsOf.mp hsp
        exact hd k hk ht]
      obtain ⟨hbusy, hspn', hat⟩ := s.loadBegun_facts m hspn
      exact ⟨_, rfl, hbusy, hspn', hat, rfl⟩
  · intro s u m v bs st c hm hv hu hread
    have hu' : u = s.loadTaken m := hu
    subst hu'
    have hbusy (t : State) (st' c' : Nat) (h : t.rd (F.MULE_LOAD_CTRL.BUSY m) = 0) : (t.loadEnd m st' c').rd (F.MULE_LOAD_CTRL.BUSY m) = 0 := by
      rw [State.loadEnd_rd _ _ _ _ (by simp only [F.MULE_LOAD_CTRL.BUSY]; omega), h]
    have hlen : budgetOf (s.loadTaken m).stitchLen = s.stitchLen / 8 - 16 := by rw [s.loadTaken_stitchLen]; rfl
    refine ⟨fun hne hst hc => ?_, fun e h0 he hne hlt => ?_, fun img h0 hok => ?_⟩
    · exact ⟨_, exec_imageLoadDone_unread hv hread hne, State.loadEnd_status _ _ hst, State.loadEnd_cause _ _ hc, State.loadEnd_reject _ _ hne,
        hbusy _ _ _ (s.loadTaken_busy m), rfl⟩
    · subst h0
      obtain ⟨hne', hlt'⟩ := loadStatus_facts e
      have hexec := exec_imageLoadDone_read hv hread
      rw [State.loadImage_refused _ (by rw [hlen]; exact he)] at hexec
      exact ⟨_, hexec, State.loadEnd_status _ _ hlt', State.loadEnd_cause _ _ hlt, State.loadEnd_reject _ _ hne', hbusy _ _ _ (s.loadTaken_busy m), rfl⟩
    · subst h0
      have hexec := exec_imageLoadDone_read hv hread
      rw [State.loadImage_accepted _ (by rw [hlen]; exact hok)] at hexec
      refine ⟨_, hexec, State.loadEnd_status _ _ (show 0 < 256 by decide), State.loadEnd_done _ _, hbusy _ _ _ ?_, fun k hk ht => ?_, fun sp hsp => ?_⟩
      · rw [State.writeStandbys_rd img fun sp => by
          simp only [FRef.apart_iff, standbyF, F.MULE_THR_STATE.STANDBY_VALID, F.MULE_LOAD_CTRL.BUSY, logOf]; omega]
        exact s.loadTaken_busy m
      · have hmem : 16 * m + k ∈ spinsOf m (v % 65536) := mem_spinsOf.mpr ⟨k, hk, (testBit_low hk).trans ht, rfl⟩
        obtain ⟨hspindle, hstandby⟩ := State.writeStandbys_same img (s.loadTaken m) (spinsOf_nodup _ _) hmem
        have hbank : (s.loadTaken m).activeBank (16 * m + k) = s.activeBank (16 * m + k) :=
          s.loadTaken_rd m (g := activeF (16 * m + k)) (by simp only [F.MULE_THR_STATE.ACTIVE_BANK, logOf]; omega)
        have hlt := s.activeBank_lt (16 * m + k)
        rw [hbank] at hspindle
        generalize hw : (s.loadTaken m).writeStandbys (spinsOf m (v % 65536)) img = w at hspindle hstandby
        refine ⟨?_, ?_, ?_, ?_⟩
        · rw [State.loadEnd_rd _ _ _ _ (by simp only [standbyF, F.MULE_THR_STATE.STANDBY_VALID, logOf]; omega), hstandby]
        · rw [State.activeBank_eq, State.loadEnd_rd _ _ _ _ (by simp only [F.MULE_THR_STATE.ACTIVE_BANK, logOf]; omega), ← hw,
            State.writeStandbys_rd img fun sp => standbyF_apart_activeF sp _]
          exact hbank
        · exact (congrArg (Spindle.image · _) hspindle).trans (Spindle.withImage_standby img hlt)
        · exact (congrArg (Spindle.image · _) hspindle).trans (Spindle.withImage_active img hlt)
      · refine (State.writeStandbys_other img (s.loadTaken m) fun hin => ?_).1
        obtain ⟨k, hk, ht, he⟩ := mem_spinsOf.mp hin
        exact hsp k hk ((testBit_low hk).symm.trans ht) he
  · intro s m
    refine ⟨fun h => ?_, fun h => ?_⟩
    · show execMuleSwapApply m s = _
      rw [execMuleSwapApply, h]
    · show execImageLoadDone m s = _
      rw [execImageLoadDone, h]
end

section
/-! The Last's update port: poisoned messages at a unit, the operation that is next, the tables' operations, and contexts (R75, R147, R149, R150,
R152, R153, R156). -/

namespace Sys2Proof.Machine

open Sys2Proof

/-! ### Entries written twice -/

theorem AMap.set_set {α : Type} (m : AMap α) (k : Nat) (v w : α) : AMap.set (AMap.set m k v) k w = AMap.set m k w := by
  induction m with
  | nil => simp [AMap.set]
  | cons e m ih =>
    obtain ⟨j, x⟩ := e
    rcases Nat.lt_trichotomy k j with h | h | h
    · simp [AMap.set, h]
    · simp [AMap.set, h]
    · simp [AMap.set, Nat.not_lt.mpr (Nat.le_of_lt h), Nat.ne_of_gt h, ih]

theorem AMap.del_set {α : Type} (m : AMap α) (k : Nat) (v : α) : AMap.del (AMap.set m k v) k = AMap.del m k := by
  induction m with
  | nil => simp [AMap.set, AMap.del]
  | cons e m ih =>
    obtain ⟨j, x⟩ := e
    rcases Nat.lt_trichotomy k j with h | h | h
    · simp [AMap.set, AMap.del, h]
    · simp [AMap.set, AMap.del, h]
    · simp [AMap.set, AMap.del, Nat.not_lt.mpr (Nat.le_of_lt h), Nat.ne_of_gt h, ih]

theorem AMap.setD_set {α : Type} [DecidableEq α] (d : α) (m : AMap α) (k : Nat) (v w : α) :
    AMap.setD d (AMap.set m k v) k w = AMap.setD d m k w := by
  unfold AMap.setD
  split
  · exact AMap.del_set m k v
  · exact AMap.set_set m k v w

/-! ### Poisoned messages at a unit (R75) -/

/-- Every message of a unit's queue counts among those it comes to. -/
abbrev anyMsg : Msg → Bool := fun _ => true

theorem spoiltLead_sound {q : List Msg} (h : ∀ m rest, q = m :: rest → m.kind ≠ .poisoned) : spoiltLead anyMsg q = (0, q) := by
  cases q with
  | nil => rfl
  | cons m rest => exact (if_pos rfl).trans (if_neg fun hp => h m rest rfl hp.2)

theorem State.dropSpoilt_sound {s : State} {ep : Nat} (h : s.headSound ep) : s.dropSpoilt ep anyMsg = s := by
  unfold State.dropSpoilt
  rw [spoiltLead_sound h]
  rfl

theorem spoiltLead_poisoned {m : Msg} (rest : List Msg) (hc : m.committed = true) (hp : m.kind = .poisoned) :
    spoiltLead anyMsg (m :: rest) = ((spoiltLead anyMsg rest).1 + 1, (spoiltLead anyMsg rest).2) := (if_pos rfl).trans (if_pos ⟨hc, hp⟩)

/-- A queue that has nothing to discard stays as it is. -/
theorem spoiltLead_zero {q : List Msg} (h : (spoiltLead anyMsg q).1 = 0) : (spoiltLead anyMsg q).2 = q := by
  cases q with
  | nil => rfl
  | cons m rest =>
    by_cases hp : m.committed = true ∧ m.kind = .poisoned
    · rw [spoiltLead_poisoned rest hp.1 hp.2] at h; cases h
    · rw [spoiltLead, if_pos rfl, if_neg hp]

theorem spoiltLead_nil_of_nil {q : List Msg} (h : q = []) : (spoiltLead anyMsg q).1 = 0 := by rw [h]; rfl

/-- What a unit's queue and its count become when messages are discarded from its head. -/
def State.spoiltLeft (s : State) (ep n : Nat) (q : List Msg) : State :=
  let u := s.setQueue ep q
  { u with yarn := { u.yarn with discarded := AMap.set u.yarn.discarded ep (AMap.getD u.yarn.discarded ep 0 + n) } }

theorem State.dropSpoilt_eq (s : State) (ep : Nat) : s.dropSpoilt ep anyMsg =
    if (spoiltLead anyMsg (s.queueAt ep)).1 = 0 then s
    else s.spoiltLeft ep (spoiltLead anyMsg (s.queueAt ep)).1 (spoiltLead anyMsg (s.queueAt ep)).2 := rfl

theorem State.spoiltLeft_twice (s : State) (ep n : Nat) {rest : List Msg} (q : List Msg) (h : rest ≠ []) :
    (s.spoiltLeft ep 1 rest).spoiltLeft ep n q = s.spoiltLeft ep (n + 1) q := by
  have hq : AMap.setD [] (AMap.setD [] s.yarn.queues ep rest) ep q = AMap.setD [] s.yarn.queues ep q := by
    rw [show AMap.setD [] s.yarn.queues ep rest = AMap.set s.yarn.queues ep rest from if_neg h, AMap.setD_set]
  have hd : AMap.set (AMap.set s.yarn.discarded ep (AMap.getD s.yarn.discarded ep 0 + 1)) ep
      (AMap.getD (AMap.set s.yarn.discarded ep (AMap.getD s.yarn.discarded ep 0 + 1)) ep 0 + n) =
      AMap.set s.yarn.discarded ep (AMap.getD s.yarn.discarded ep 0 + (n + 1)) := by
    rw [AMap.set_set, AMap.getD, AMap.get?_set_same, Option.getD_some, Nat.add_assoc, Nat.add_comm 1 n]
  exact congrArg₂ (fun X D => ({ s with yarn := { s.yarn with queues := X, discarded := D } } : State)) hq hd

/-- A poisoned message at the head may as well be gone already. -/
theorem State.dropSpoilt_poisoned (s : State) {ep : Nat} {m : Msg} {rest : List Msg} (hq : s.queueAt ep = m :: rest) (hc : m.committed = true)
    (hp : m.kind = .poisoned) : s.dropSpoilt ep anyMsg = (s.spoiltGone ep rest).dropSpoilt ep anyMsg := by
  have hgone : s.spoiltGone ep rest = s.spoiltLeft ep 1 rest := rfl
  have hrest : (s.spoiltLeft ep 1 rest).queueAt ep = rest := s.setQueue_queueAt_same ep rest
  rw [hgone, State.dropSpoilt_eq, State.dropSpoilt_eq, hq, hrest, spoiltLead_poisoned rest hc hp, if_neg (Nat.succ_ne_zero _)]
  by_cases h0 : (spoiltLead anyMsg rest).1 = 0
  · rw [if_pos h0, h0, spoiltLead_zero h0]
  · rw [if_neg h0, State.spoiltLeft_twice _ _ _ _ fun he => h0 (spoiltLead_nil_of_nil he)]

theorem State.headAt_committed {s : State} {ep : Nat} {m : Msg} {rest : List Msg} (hq : s.queueAt ep = m :: rest) (hc : m.committed = true) :
    s.headAt ep = some m := by
  rw [State.headAt, hq]
  exact if_pos hc

theorem State.headAt_none {s : State} {ep : Nat} (h : ∀ m rest, s.queueAt ep = m :: rest → m.committed = false) : s.headAt ep = none := by
  unfold State.headAt
  split
  next m rest hq => rw [h m rest hq]; rfl
  · rfl

/-! ### The operation that is next (R152) -/

theorem State.firstUpd_register {s : State} (hb : s.rd F.LAST_UPD_CMD.BUSY = 1) (h : ∀ m ∈ s.queueAt updEp, s.net.last.goAfter ≠ some m.id) :
    s.firstUpd = some (updCmd s.net.last.goWord s.updData, none) := by
  refine if_pos ⟨State.flag_of_one hb, List.any_eq_false.mpr fun m hm => ?_⟩
  rw [beq_iff_eq]
  exact h m hm

theorem State.firstUpd_queue {s : State} (h : s.rd F.LAST_UPD_CMD.BUSY = 0 ∨ ∃ m ∈ s.queueAt updEp, s.net.last.goAfter = some m.id) :
    s.firstUpd = (s.headAt updEp).map (fun m => (updCmd (m.words.headD 0).toNat (bytesOf m.words.tail), some m)) := by
  refine if_neg ?_
  rintro ⟨hb, hall⟩
  rcases h with h | ⟨m, hm, hgo⟩
  · exact State.not_flag_of_zero h hb
  · exact List.any_eq_false.mp hall m hm (beq_iff_eq.mpr hgo)

/-- The instructions of the update operations, by their codes in Table 4.7. -/
abbrev updInstrs : List (Nat × Instr) :=
  [(1, .emInsert), (2, .emUpsert), (3, .emDelete), (4, .pfxAdd), (5, .pfxDel), (6, .ruleWrite), (7, .ruleClear), (8, .fctxWrite)]

theorem exec_updInstr {op : Nat} {c : Instr} (h : (op, c) ∈ updInstrs) (s : State) : op ≠ 0 ∧ exec c s = .next (s.lastUpdate op) := by
  simp only [List.mem_cons, Prod.mk.injEq, List.not_mem_nil, or_false] at h
  rcases h with ⟨rfl, rfl⟩ | ⟨rfl, rfl⟩ | ⟨rfl, rfl⟩ | ⟨rfl, rfl⟩ | ⟨rfl, rfl⟩ | ⟨rfl, rfl⟩ | ⟨rfl, rfl⟩ | ⟨rfl, rfl⟩ <;>
    exact ⟨by decide, rfl⟩

theorem State.nextUpd_eq {s : State} {op : Nat} (h : op ≠ 0) : s.nextUpd op = s.firstUpd.filter (fun x => x.1.op == op) := by
  unfold State.nextUpd
  simp only [if_neg h]

/-- The state in which the port has taken the message that it serves. -/
def State.updTaken (s : State) (msg : Option Msg) : State := if msg.isSome then s.setQueue updEp (s.queueAt updEp).tail else s

/-- The state in which the port has an update under way. -/
def State.updMarked (s : State) (msg : Option Msg) (r : Nat × Nat) : State := s.setLast { s.net.last with upd := some ⟨msg, r.1, r.2⟩ }

theorem State.lastUpdate_idle {s : State} {op : Nat} (hs : s.headSound updEp) (h : s.net.last.upd ≠ none ∨ s.nextUpd op = none) :
    s.lastUpdate op = s := by
  unfold State.lastUpdate
  rw [show s.dropSpoilt updEp (fun _ => true) = s from State.dropSpoilt_sound hs]
  rcases h with h | h
  · exact if_pos (Option.isSome_iff_ne_none.mpr h)
  · simp only [h, ite_self]

theorem State.lastUpdate_takes {s : State} {op : Nat} {u : UpdCmd} {msg : Option Msg} (hs : s.headSound updEp) (hn : s.net.last.upd = none)
    (hf : s.nextUpd op = some (u, msg)) : s.lastUpdate op = ((s.updTaken msg).lastApply u).2.updMarked msg ((s.updTaken msg).lastApply u).1 := by
  unfold State.lastUpdate
  rw [show s.dropSpoilt updEp (fun _ => true) = s from State.dropSpoilt_sound hs]
  simp only [hn, hf]
  rfl

section updTaken
variable (s : State) (msg : Option Msg)

theorem State.updTaken_net : (s.updTaken msg).net = s.net := by unfold State.updTaken; split <;> rfl
theorem State.updTaken_csr : (s.updTaken msg).csr = s.csr := by unfold State.updTaken; split <;> rfl

end updTaken

/-! ### What an operation leaves unchanged -/

/-- From `s` to `t` the registers, the yarns and the second replica are the same. -/
structure State.firstReplica (s t : State) : Prop where
  csr : t.csr = s.csr
  yarn : t.yarn = s.yarn
  second : t.net.last.tabsB = s.net.last.tabsB

section firstReplica
variable {s t u : State}

theorem State.firstReplica_refl (s : State) : s.firstReplica s := ⟨rfl, rfl, rfl⟩

theorem State.firstReplica.trans (h : s.firstReplica t) (h' : t.firstReplica u) : s.firstReplica u :=
  ⟨h'.csr.trans h.csr, h'.yarn.trans h.yarn, h'.second.trans h.second⟩

/-- Work owed changes nothing but the lacing's count of it. -/
theorem State.owe_lace (s : State) (c u g n : Nat) : { s.owe c u g n with lace := s.lace } = s := by
  unfold State.owe
  split <;> rfl

theorem foldl_lace {α : Type} {f : State → α → State} (hf : ∀ (s : State) a, { f s a with lace := s.lace } = s) (l : List α) (s : State) :
    { l.foldl f s with lace := s.lace } = s := by
  induction l generalizing s with
  | nil => rfl
  | cons a l ih =>
    have h1 := hf s a
    have h2 := ih (f s a)
    rw [List.foldl_cons]
    generalize l.foldl f (f s a) = t at h2
    rw [← h2] at h1
    exact h1

theorem State.oweMem_lace (s : State) (h group a n : Nat) (write : Bool) : { s.oweMem h group a n write with lace := s.lace } = s := by
  unfold State.oweMem
  split
  · rfl
  · exact foldl_lace (fun s _ => foldl_lace (fun s _ => s.owe_lace _ _ _ _) _ s) _ s

theorem State.firstReplica.oweMem (h : s.firstReplica t) (hh group a n : Nat) (write : Bool) : s.firstReplica (t.oweMem hh group a n write) := by
  have hl := t.oweMem_lace hh group a n write
  refine h.trans ⟨?_, ?_, ?_⟩
  · have e := congrArg State.csr hl
    exact e
  · have e := congrArg State.yarn hl
    exact e
  · have e := congrArg (fun s => (State.net s).last.tabsB) hl
    exact e

theorem State.extWrite_firstReplica (s : State) (slot : Nat) (e : EmEntry) : s.firstReplica (s.extWrite slot e) :=
  State.firstReplica.oweMem (s := s) (t := (s.setLast { s.net.last with extTags := AMap.set s.net.last.extTags slot (e.profile, e.tenant) }).devWrite
    (s.extAddr slot) e.data) ⟨rfl, rfl, rfl⟩ _ _ _ _ _

theorem State.extRead_firstReplica (s : State) (h prof w tenant : Nat) (key : Bytes) : s.firstReplica (s.extRead h prof w tenant key) :=
  s.firstReplica_refl.oweMem _ _ _ _ _

theorem State.emInsert_firstReplica (s : State) (u : UpdCmd) (w : Nat) (e : EmEntry) (key : Bytes) : s.firstReplica (s.emInsert u w e key).2 := by
  have hfree : s.firstReplica { s with freeCtr := s.freeCtr + 64 } := ⟨rfl, rfl, rfl⟩
  have hput (t : LastTabs) : s.firstReplica ({ s with freeCtr := s.freeCtr + 64 }.setTabsA t) := ⟨rfl, rfl, rfl⟩
  unfold State.emInsert
  simp only []
  split
  · exact hput _
  · split
    · exact hput _
    · split
      · exact hput _
      · split
        · split
          · exact hfree
          · split
            · exact hfree.trans (State.extWrite_firstReplica _ _ _)
            · exact hfree
        · exact hfree

theorem State.emUpdate_firstReplica (s : State) (u : UpdCmd) : s.firstReplica (s.emUpdate u).2 := by
  have hr := s.firstReplica_refl
  have hput (t : LastTabs) : s.firstReplica (s.setTabsA t) := ⟨rfl, rfl, rfl⟩
  unfold State.emUpdate
  simp only []
  split
  · exact hr
  · split
    · split
      · exact hr
      · split <;> exact hput _
    · generalize (profExt (s.word (0x800000 + 8 * u.profile)) && s.extOn) = ext
      cases ext
      · simp only [Bool.false_eq_true, if_false, false_and]
        split
        · exact hr
        · exact s.emInsert_firstReplica _ _ _ _
      · simp only [if_true, true_and]
        split
        · exact hr
        · have hx := s.extRead_firstReplica 0 u.profile (s.word (0x800000 + 8 * u.profile)) u.tenant
            (sliceB u.data 0 (8 * profKeyLen (s.word (0x800000 + 8 * u.profile))))
          split
          · split
            · exact hx
            · split
              · exact hx.trans (State.extWrite_firstReplica _ _ _)
              · exact hx.trans ⟨rfl, rfl, rfl⟩
          · split
            · exact hx
            · exact hx.trans (State.emInsert_firstReplica _ _ _ _ _)

end firstReplica

end Sys2Proof.Machine
end

section
/-! What the operations of the Last's update port do to the tables (R147, R149, R150, R152, R156, Table 4.7). -/

namespace Sys2Proof.Machine

open Sys2Proof

/-! ### Buckets (R147) -/

theorem mem_bucketSlots {b k : Nat} : k ∈ bucketSlots b ↔ k / 8 = b := by
  rw [bucketSlots, List.mem_map]
  constructor
  · rintro ⟨j, hj, rfl⟩
    have := List.mem_range.mp hj
    omega
  · exact fun h => ⟨k % 8, List.mem_range.mpr (Nat.mod_lt _ (by decide)), by omega⟩

theorem LastTabs.find_resident {t : LastTabs} {prof w tenant k : Nat} {key : Bytes} {e : EmEntry}
    (h : t.find prof w tenant key = some (k, e)) : AMap.get? t.em k = some e := by
  obtain ⟨j, -, hj⟩ := List.exists_of_findSome?_eq_some h
  split at hj
  next v hv =>
    split at hj
    · obtain ⟨rfl, rfl⟩ := Prod.mk.inj (Option.some.inj hj)
      exact hv
    · cases hj
  · cases hj

/-- From `t` to `u` the entry has come to a slot that was free, and nothing else has changed. -/
def LastTabs.putsAt (t u : LastTabs) (e : EmEntry) (k : Nat) : Prop :=
  AMap.get? t.em k = none ∧ u = { t with em := AMap.set t.em k e }

section place
variable {t u : LastTabs} {b pick : Nat} {e : EmEntry}

theorem LastTabs.place_some (h : t.place b pick e = some u) : ∃ k, k / 8 = b ∧ t.putsAt u e k := by
  unfold LastTabs.place at h
  simp only [] at h
  split at h
  next k hk =>
    obtain ⟨hb, hfree⟩ := List.mem_filter.mp (List.mem_of_getElem? hk)
    exact ⟨k, mem_bucketSlots.mp hb, Option.isNone_iff_eq_none.mp hfree, (Option.some.inj h).symm⟩
  · cases h

theorem LastTabs.place_isSome (h : ∃ k, k / 8 = b ∧ AMap.get? t.em k = none) : ∃ u, t.place b pick e = some u := by
  obtain ⟨k, hk, hfree⟩ := h
  have hmem : k ∈ (bucketSlots b).filter (fun k => (AMap.get? t.em k).isNone) :=
    List.mem_filter.mpr ⟨mem_bucketSlots.mpr hk, Option.isNone_iff_eq_none.mpr hfree⟩
  have hlt := Nat.mod_lt pick (List.length_pos_of_mem hmem)
  unfold LastTabs.place
  simp only [List.getElem?_eq_getElem hlt]
  exact ⟨_, rfl⟩

theorem LastTabs.place_none (h : ∀ k, k / 8 = b → AMap.get? t.em k ≠ none) : t.place b pick e = none := by
  cases hp : t.place b pick e with
  | none => rfl
  | some u =>
    obtain ⟨k, hk, hfree, -⟩ := LastTabs.place_some hp
    exact absurd hfree (h k hk)

end place

/-! ### Moves (R152) -/

/-- In `u` every entry of `t` has a slot, and so has `e`. -/
def LastTabs.housed (t u : LastTabs) (e : EmEntry) : Prop :=
  (∃ k, AMap.get? u.em k = some e) ∧ ∀ k v, AMap.get? t.em k = some v → ∃ j, AMap.get? u.em j = some v

section housed
variable {t u x : LastTabs} {e v : EmEntry} {k : Nat}

theorem LastTabs.putsAt.housed (h : t.putsAt u e k) : t.housed u e := by
  obtain ⟨hfree, rfl⟩ := h
  refine ⟨⟨k, AMap.get?_set_same _ _ _⟩, fun j v hj => ⟨j, ?_⟩⟩
  have hne : j ≠ k := by rintro rfl; rw [hfree] at hj; cases hj
  rw [← hj]
  exact AMap.get?_set_other _ _ _ _ hne

/-- The entry takes the slot of a resident one; where that one is housed, all are. -/
theorem LastTabs.housed_swap (hv : AMap.get? t.em k = some v) (h : LastTabs.housed { t with em := AMap.set t.em k e } u v) : t.housed u e := by
  obtain ⟨hmoved, hrest⟩ := h
  refine ⟨hrest k e (AMap.get?_set_same _ _ _), fun j w hj => ?_⟩
  by_cases hjk : j = k
  · subst hjk
    rw [hv] at hj
    exact Option.some.inj hj ▸ hmoved
  · exact hrest j w ((AMap.get?_set_other _ _ _ _ hjk).trans hj)

theorem State.displace_housed {s : State} {fuel b pick : Nat} (h : s.displace t e b fuel pick = some u) : t.housed u e := by
  induction fuel generalizing t e b pick with
  | zero => cases h
  | succ fuel ih =>
    unfold State.displace at h
    simp only [] at h
    split at h
    next hfree => exact LastTabs.putsAt.housed ⟨hfree, (Option.some.inj h).symm⟩
    next v hv =>
      refine LastTabs.housed_swap hv ?_
      split at h
      next hplace =>
        obtain ⟨j, -, hput⟩ := LastTabs.place_some hplace
        exact Option.some.inj h ▸ hput.housed
      · exact ih h

end housed

/-! ### Exact match (R147, R152) -/

/-- The entry that an operation carries. -/
def UpdCmd.entry (u : UpdCmd) : EmEntry := ⟨u.profile, u.tenant, sliceB u.data 0 64⟩

/-- The bucket that one of the two hashes of an operation's key chooses. -/
def UpdCmd.bucket (u : UpdCmd) (which w : Nat) (key : Bytes) : Nat := bucketOf which u.profile w u.tenant key 65536

section insert
variable {s : State} {u : UpdCmd} {w : Nat} {key : Bytes}

/-- Where its first bucket has a free slot, or the first is full and the second has one, an entry goes there. -/
theorem State.emInsert_free {b : Nat} (hb : b = u.bucket 0 w key ∨
      ((∀ k, k / 8 = u.bucket 0 w key → AMap.get? s.net.last.tabsA.em k ≠ none) ∧ b = u.bucket 1 w key))
    (hfree : ∃ k, k / 8 = b ∧ AMap.get? s.net.last.tabsA.em k = none) (e : EmEntry) :
    ∃ t k, s.emInsert u w e key = ((0, 0), { s with freeCtr := s.freeCtr + 64 }.setTabsA t) ∧ k / 8 = b ∧ s.net.last.tabsA.putsAt t e k := by
  rcases hb with rfl | ⟨hfull, rfl⟩
  · obtain ⟨t, ht⟩ := LastTabs.place_isSome (pick := Config.emPick s.freeCtr) (e := e) hfree
    obtain ⟨k, hk, hput⟩ := LastTabs.place_some ht
    refine ⟨t, k, ?_, hk, hput⟩
    unfold UpdCmd.bucket at ht
    simp only [State.emInsert, ht]
  · obtain ⟨t, ht⟩ := LastTabs.place_isSome (pick := Config.emPick (s.freeCtr + 1)) (e := e) hfree
    obtain ⟨k, hk, hput⟩ := LastTabs.place_some ht
    refine ⟨t, k, ?_, hk, hput⟩
    have h0 := LastTabs.place_none (pick := Config.emPick s.freeCtr) (e := e) hfull
    unfold UpdCmd.bucket at ht h0
    simp only [State.emInsert, h0, ht]

/-- Where both buckets are full, residents move and all have their slots, or nothing changes. -/
theorem State.emInsert_full (hx : profExt w = false)
    (hfull : ∀ k, k / 8 = u.bucket 0 w key ∨ k / 8 = u.bucket 1 w key → AMap.get? s.net.last.tabsA.em k ≠ none) (e : EmEntry) :
    s.emInsert u w e key = ((5, 3), { s with freeCtr := s.freeCtr + 64 }) ∨
    ∃ t, s.emInsert u w e key = ((0, 0), { s with freeCtr := s.freeCtr + 64 }.setTabsA t) ∧ s.net.last.tabsA.housed t e := by
  have h0 := LastTabs.place_none (pick := Config.emPick s.freeCtr) (e := e) fun k hk => hfull k (.inl hk)
  have h1 := LastTabs.place_none (pick := Config.emPick (s.freeCtr + 1)) (e := e) fun k hk => hfull k (.inr hk)
  unfold UpdCmd.bucket at h0 h1
  cases hd : ({ s with freeCtr := s.freeCtr + 64 } : State).displace s.net.last.tabsA e (bucketOf 0 u.profile w u.tenant key 65536) 16 (s.freeCtr + 2) with
  | none => exact .inl (by simp only [State.emInsert, h0, h1, hd, hx, Bool.false_eq_true, false_and, if_false])
  | some t => exact .inr ⟨t, by simp only [State.emInsert, h0, h1, hd], State.displace_housed hd⟩

end insert

/-- The profile word that an operation names. -/
def State.updProfile (s : State) (u : UpdCmd) : Nat := s.word (0x800000 + 8 * u.profile)

section exactMatch
variable {s : State} {u : UpdCmd}

theorem State.emUpdate_refused (h : 28 ≤ u.profile ∨ profValid (s.updProfile u) = false ∨ profTable (s.updProfile u) ≠ 0) :
    s.emUpdate u = ((2, 4), s) := if_pos h

/-- The key that an operation of an exact-match profile carries. -/
def State.updKey (s : State) (u : UpdCmd) : Bytes := sliceB u.data 0 (8 * profKeyLen (s.updProfile u))

variable (hp : u.profile < 28) (hv : profValid (s.updProfile u) = true) (ht : profTable (s.updProfile u) = 0)
include hp hv ht

theorem State.emUpdate_found {k : Nat} {e : EmEntry} (hf : s.net.last.tabsA.find u.profile (s.updProfile u) u.tenant (s.updKey u) = some (k, e)) :
    s.emUpdate u = if u.op = 1 then ((4, 1), s)
      else if u.op = 2 then ((0, 0), s.setTabsA { s.net.last.tabsA with em := AMap.set s.net.last.tabsA.em k u.entry })
      else ((0, 0), s.setTabsA { s.net.last.tabsA with em := AMap.del s.net.last.tabsA.em k }) := by
  unfold State.updKey State.updProfile at *
  simp only [State.emUpdate, hf, hv, ht]
  rw [if_neg (by simpa using hp)]
  rfl

theorem State.emUpdate_missing (hx : profExt (s.updProfile u) = false)
    (hf : s.net.last.tabsA.find u.profile (s.updProfile u) u.tenant (s.updKey u) = none) :
    s.emUpdate u = if u.op = 3 then ((4, 2), s) else s.emInsert u (s.updProfile u) u.entry (s.updKey u) := by
  unfold State.updKey State.updProfile at *
  simp only [State.emUpdate, hf, hv, ht, hx, Bool.false_and, Bool.false_eq_true, false_and, if_false]
  rw [if_neg (by simpa using hp)]
  rfl

end exactMatch

/-! ### Prefixes (R149) -/

/-- The `Prefix` that an operation names. -/
def UpdCmd.pfx (u : UpdCmd) (v6 : Bool) : Prefix :=
  ⟨v6, (prefixKey v6 u.data).1, (prefixKey v6 u.data).2, u.plen, leAt u.data 0x30 6⟩

/-- A `Prefix` has the address and the length of another. -/
def Prefix.same (x p : Prefix) : Bool := p.v6 == x.v6 && p.vrf == x.vrf && p.addr == x.addr && p.plen == x.plen

theorem Prefix.same_iff (x p : Prefix) : x.same p = true ↔ p.v6 = x.v6 ∧ p.vrf = x.vrf ∧ p.addr = x.addr ∧ p.plen = x.plen := by
  simp only [Prefix.same, Bool.and_eq_true, beq_iff_eq, and_assoc]

section prefixes
variable {s : State} {u : UpdCmd}

theorem State.pfxUpdate_refused (h : 28 ≤ u.profile ∨ profValid (s.updProfile u) = false ∨
    (profTable (s.updProfile u) ≠ 1 ∧ profTable (s.updProfile u) ≠ 2)) : s.pfxUpdate u = ((2, 4), s) := if_pos h

theorem State.pfxUpdate_eq {v6 : Bool} (hp : u.profile < 28) (hv : profValid (s.updProfile u) = true)
    (ht : profTable (s.updProfile u) = if v6 then 2 else 1) : s.pfxUpdate u =
    if prefixWidth v6 < u.plen ∨ (u.pfx v6).addr % 2 ^ (prefixWidth v6 - u.plen) ≠ 0 then ((2, 5), s)
    else if u.op = 5 then
      if s.net.last.tabsA.prefixes.any (u.pfx v6).same then
        ((0, 0), s.setTabsA { s.net.last.tabsA with prefixes := s.net.last.tabsA.prefixes.filter fun p => !(u.pfx v6).same p })
      else ((4, 2), s)
    else if s.net.last.tabsA.prefixes.any (u.pfx v6).same then
      ((0, 0), s.setTabsA { s.net.last.tabsA with
        prefixes := s.net.last.tabsA.prefixes.map fun p => if (u.pfx v6).same p then u.pfx v6 else p })
    else if 262144 < (s.net.last.tabsA.prefixes.map Prefix.slots).sum + (u.pfx v6).slots then ((5, 3), s)
    else ((0, 0), s.setTabsA { s.net.last.tabsA with prefixes := s.net.last.tabsA.prefixes ++ [u.pfx v6] }) := by
  have hv6 : (profTable (s.updProfile u) == 2) = v6 := by rw [ht]; cases v6 <;> rfl
  have hok : ¬ (28 ≤ u.profile ∨ profValid (s.updProfile u) = false ∨ (profTable (s.updProfile u) ≠ 1 ∧ profTable (s.updProfile u) ≠ 2)) := by
    rw [hv, ht]; cases v6 <;> simp <;> omega
  unfold State.pfxUpdate
  refine (if_neg hok).trans ?_
  rw [show (profTable (s.word (0x800000 + 8 * u.profile)) == 2) = v6 from hv6]
  rfl

variable {x : Prefix} {l : List Prefix}

theorem Prefix.any_same : l.any x.same = true ↔ ∃ p ∈ l, x.same p = true := List.any_eq_true

theorem Prefix.mem_removed (p : Prefix) : p ∈ l.filter (fun p => !x.same p) ↔ p ∈ l ∧ ¬ x.same p = true := by
  rw [List.mem_filter, Bool.not_eq_true', Bool.not_eq_true]

/-- A `Prefix` that is present is replaced. -/
theorem Prefix.mem_replaced (h : ∃ p ∈ l, x.same p = true) (p : Prefix) :
    p ∈ l.map (fun q => if x.same q then x else q) ↔ p = x ∨ (p ∈ l ∧ ¬ x.same p = true) := by
  rw [List.mem_map]
  constructor
  · rintro ⟨q, hq, rfl⟩
    by_cases hs : x.same q = true
    · exact .inl (if_pos hs)
    · exact .inr ((if_neg hs : (if x.same q = true then x else q) = q).symm ▸ ⟨hq, hs⟩)
  · rintro (rfl | ⟨hp, hs⟩)
    · obtain ⟨q, hq, hs⟩ := h
      exact ⟨q, hq, if_pos hs⟩
    · exact ⟨p, hp, if_neg hs⟩

/-- A `Prefix` that is not present is added. -/
theorem Prefix.mem_added (h : ∀ p ∈ l, ¬ x.same p = true) (p : Prefix) : p ∈ l ++ [x] ↔ p = x ∨ (p ∈ l ∧ ¬ x.same p = true) := by
  rw [List.mem_append, List.mem_singleton, or_comm]
  exact or_congr_right ⟨fun hp => ⟨hp, h p hp⟩, And.left⟩

end prefixes

/-! ### Contexts (R155, R156) -/

theorem sliceB_whole {bs : Bytes} {n : Nat} (h : bs.length = n) : sliceB bs 0 n = bs := by
  simp [sliceB, ← h]

theorem sliceB_length (bs : Bytes) (off n : Nat) : (sliceB bs off n).length = n := by
  rw [sliceB, List.length_append, List.length_replicate, List.length_take]
  omega

section contexts
variable (s : State) (k : Nat)

theorem State.ctxEvict_firstReplica (h : Nat) : s.firstReplica (s.ctxEvict h) := by
  unfold State.ctxEvict
  simp only []
  split
  · exact s.firstReplica_refl
  · split
    · exact s.firstReplica_refl
    · split
      · refine State.firstReplica.oweMem ?_ _ _ _ _ _
        exact ⟨rfl, rfl, rfl⟩
      · exact ⟨rfl, rfl, rfl⟩

theorem State.ctxInstall_firstReplica (c : CachedCtx) : s.firstReplica (s.ctxInstall k c) := by
  unfold State.ctxInstall
  split
  · exact ⟨rfl, rfl, rfl⟩
  · exact (s.ctxEvict_firstReplica _).trans ⟨rfl, rfl, rfl⟩

theorem State.ctxInstall_cached (c : CachedCtx) : (s.ctxInstall k c).ctxCached k = some c := AMap.get?_set_same _ _ _

theorem State.ctxStore_firstReplica (bs : Bytes) : s.firstReplica (s.ctxStore k bs).2 := by
  unfold State.ctxStore
  split
  · exact s.firstReplica_refl
  · split
    · exact s.firstReplica_refl
    · exact s.ctxInstall_firstReplica _ _

variable {s k}

theorem State.ctxFenced_iff : s.ctxFenced k = true ↔ s.rd F.LAST_FCTX_CFG.SPLIT ≤ k ∧ s.fencedB = true := by
  unfold State.ctxFenced State.ctxHome
  split <;> simp <;> omega

end contexts

/-! ### The table of the operations (Table 4.7) -/

section lastApply
variable {s : State} {u : UpdCmd}

theorem State.lastApply_em (h : u.op = 1 ∨ u.op = 2 ∨ u.op = 3) : s.lastApply u = s.emUpdate u := if_pos h

theorem State.lastApply_pfx (h : u.op = 4 ∨ u.op = 5) : s.lastApply u = s.pfxUpdate u := (if_neg (by omega)).trans (if_pos h)

theorem State.lastApply_rule (h : u.op = 6 ∨ u.op = 7) : s.lastApply u = s.ruleUpdate u :=
  (if_neg (by omega)).trans ((if_neg (by omega)).trans (if_pos h))

theorem State.lastApply_context (h : u.op = 8) : s.lastApply u = s.ctxStore u.index (sliceB u.data 0 256) :=
  (if_neg (by omega)).trans ((if_neg (by omega)).trans ((if_neg (by omega)).trans (if_pos h)))

theorem State.lastApply_unnamed (h : u.op = 0 ∨ 8 < u.op) : s.lastApply u = ((2, 4), s) :=
  (if_neg (by omega)).trans ((if_neg (by omega)).trans ((if_neg (by omega)).trans (if_neg (by omega))))

theorem State.pfxUpdate_firstReplica (s : State) (u : UpdCmd) : s.firstReplica (s.pfxUpdate u).2 := by
  have hr := s.firstReplica_refl
  have hput (t : LastTabs) : s.firstReplica (s.setTabsA t) := ⟨rfl, rfl, rfl⟩
  unfold State.pfxUpdate
  simp only []
  split
  · exact hr
  · split
    · exact hr
    · split
      · split
        · exact hput _
        · exact hr
      · split
        · exact hput _
        · split
          · exact hr
          · exact hput _

theorem State.ruleUpdate_firstReplica (s : State) (u : UpdCmd) : s.firstReplica (s.ruleUpdate u).2 := by
  unfold State.ruleUpdate
  simp only []
  split
  · exact s.firstReplica_refl
  · split <;> exact ⟨rfl, rfl, rfl⟩

theorem State.lastApply_firstReplica (s : State) (u : UpdCmd) : s.firstReplica (s.lastApply u).2 := by
  unfold State.lastApply
  split
  · exact s.emUpdate_firstReplica u
  · split
    · exact s.pfxUpdate_firstReplica u
    · split
      · exact s.ruleUpdate_firstReplica u
      · split
        · exact s.ctxStore_firstReplica _ _
        · exact s.firstReplica_refl

end lastApply

end Sys2Proof.Machine
end

section
/-! The Last's update port takes an operation, applies it and completes it (R75, R152, R153). -/

namespace Sys2Proof.Machine

open Sys2Proof

/-! ### An operation is taken -/

/-- The port is free, and the operation that is next is one that the instruction performs. -/
structure State.updating (s : State) (c : Instr) (u : UpdCmd) (msg : Option Msg) : Prop where
  sound : s.headSound updEp
  free : s.net.last.upd = none
  first : s.firstUpd = some (u, msg)
  code : (u.op, c) ∈ updInstrs

/-- An operation of one of the first three codes. -/
theorem updInstrs_em {op : Nat} {c : Instr} (h : (op, c) ∈ [(1, Instr.emInsert), (2, .emUpsert), (3, .emDelete)]) :
    (op, c) ∈ updInstrs ∧ (op = 1 ∨ op = 2 ∨ op = 3) := by
  simp only [List.mem_cons, Prod.mk.injEq, List.not_mem_nil, or_false] at h ⊢
  rcases h with ⟨rfl, rfl⟩ | ⟨rfl, rfl⟩ | ⟨rfl, rfl⟩ <;> simp

theorem updInstrs_pfx {op : Nat} {c : Instr} (h : (op, c) ∈ [(4, Instr.pfxAdd), (5, .pfxDel)]) :
    (op, c) ∈ updInstrs ∧ (op = 4 ∨ op = 5) := by
  simp only [List.mem_cons, Prod.mk.injEq, List.not_mem_nil, or_false] at h ⊢
  rcases h with ⟨rfl, rfl⟩ | ⟨rfl, rfl⟩ <;> simp

theorem updInstrs_rule {op : Nat} {c : Instr} (h : (op, c) ∈ [(6, Instr.ruleWrite), (7, .ruleClear)]) :
    (op, c) ∈ updInstrs ∧ (op = 6 ∨ op = 7) := by
  simp only [List.mem_cons, Prod.mk.injEq, List.not_mem_nil, or_false] at h ⊢
  rcases h with ⟨rfl, rfl⟩ | ⟨rfl, rfl⟩ <;> simp

theorem State.updTaken_tabsA (s : State) (msg : Option Msg) : (s.updTaken msg).net.last.tabsA = s.net.last.tabsA := by rw [State.updTaken_net]
theorem State.updTaken_cache (s : State) (msg : Option Msg) : (s.updTaken msg).net.last.cache = s.net.last.cache := by rw [State.updTaken_net]

section updating
variable {s : State} {c : Instr} {u : UpdCmd} {msg : Option Msg}

theorem State.updating.runs (h : s.updating c u msg) {r : Nat × Nat} {t : State} (hl : (s.updTaken msg).lastApply u = (r, t)) :
    exec c s = .next (t.updMarked msg r) := by
  obtain ⟨hop, he⟩ := exec_updInstr h.code s
  have hnext : s.nextUpd u.op = some (u, msg) := by
    rw [State.nextUpd_eq hop, h.first]
    exact if_pos (beq_self_eq_true u.op)
  rw [he, State.lastUpdate_takes h.sound h.free hnext, hl]

/-- What the operation meets when its message has left the queue. -/
theorem State.updating.meets (_ : s.updating c u msg) : ∃ v, s.updTaken msg = v ∧ v.net = s.net ∧ v.csr = s.csr ∧ v.updProfile u = s.updProfile u :=
  ⟨_, rfl, s.updTaken_net msg, s.updTaken_csr msg, State.word_congr (s.updTaken_csr msg) _⟩

/-- An operation that leaves the tables. -/
theorem State.updating.leaves (h : s.updating c u msg) {a b : Nat} (hl : ∀ v : State, v.net = s.net → v.csr = s.csr → v.lastApply u = ((a, b), v)) :
    ∃ t, exec c s = .next t ∧ t.net.last.upd = some ⟨msg, a, b⟩ ∧ t.net.last.tabsA = s.net.last.tabsA :=
  ⟨_, h.runs (hl _ (s.updTaken_net msg) (s.updTaken_csr msg)), rfl, s.updTaken_tabsA msg⟩

end updating

/-! ### Exact match -/

section exactMatch
variable {s : State} {c : Instr} {u : UpdCmd} {msg : Option Msg} (h : s.updating c u msg) (hop : u.op = 1 ∨ u.op = 2 ∨ u.op = 3)
include h hop

theorem State.updating.em_refused (hr : 28 ≤ u.profile ∨ profValid (s.updProfile u) = false ∨ profTable (s.updProfile u) ≠ 0) :
    ∃ t, exec c s = .next t ∧ t.net.last.upd = some ⟨msg, 2, 4⟩ ∧ t.net.last.tabsA = s.net.last.tabsA :=
  h.leaves fun v _ hcsr => by
    have hw : v.updProfile u = s.updProfile u := State.word_congr hcsr _
    rw [State.lastApply_em hop]
    exact State.emUpdate_refused (hw ▸ hr)

variable {w : Nat} {key : Bytes} (hw : w = s.updProfile u) (hkey : key = sliceB u.data 0 (8 * profKeyLen w))
  (hp : u.profile < 28) (hv : profValid w = true) (ht : profTable w = 0)
include hw hkey hp hv ht

theorem State.updating.em_found {k : Nat} {e : EmEntry} (hf : s.net.last.tabsA.find u.profile w u.tenant key = some (k, e)) :
    ∃ t, exec c s = .next t ∧ t.net.last.upd = some (if u.op = 1 then ⟨msg, 4, 1⟩ else ⟨msg, 0, 0⟩) ∧
      (∀ j, j ≠ k → AMap.get? t.net.last.tabsA.em j = AMap.get? s.net.last.tabsA.em j) ∧
      AMap.get? t.net.last.tabsA.em k = (if u.op = 1 then some e else if u.op = 2 then some u.entry else none) ∧
      t.net.last.tabsA.prefixes = s.net.last.tabsA.prefixes ∧ t.net.last.tabsA.rules = s.net.last.tabsA.rules := by
  obtain ⟨v, hv', hnet, -, hpv⟩ := h.meets
  have hl : v.lastApply u = _ := (State.lastApply_em hop).trans (State.emUpdate_found (s := v) hp (by rw [hpv, ← hw, hv]) (by rw [hpv, ← hw, ht])
    (k := k) (e := e) (by rw [hnet, State.updKey, hpv, ← hw, ← hkey, hf]))
  rw [hnet] at hl
  rw [← hv'] at hl
  rcases hop with ho | ho | ho
  · rw [if_pos ho] at hl
    refine ⟨_, h.runs hl, by rw [if_pos ho]; rfl, ?_⟩
    rw [if_pos ho, State.updMarked, hv', State.setLast, hnet]
    exact ⟨fun _ _ => rfl, LastTabs.find_resident hf, rfl, rfl⟩
  · rw [if_neg (by omega), if_pos ho] at hl
    refine ⟨_, h.runs hl, by rw [if_neg (by omega)]; rfl, fun j hj => AMap.get?_set_other _ _ _ _ hj, ?_, rfl, rfl⟩
    rw [if_neg (by omega), if_pos ho]
    exact AMap.get?_set_same _ _ _
  · rw [if_neg (by omega), if_neg (by omega)] at hl
    refine ⟨_, h.runs hl, by rw [if_neg (by omega)]; rfl, fun j hj => AMap.get?_del_other _ _ _ hj, ?_, rfl, rfl⟩
    rw [if_neg (by omega), if_neg (by omega)]
    exact AMap.get?_del_same _ _

variable (hx : profExt w = false) (hf : s.net.last.tabsA.find u.profile w u.tenant key = none)
include hx hf

omit h in
/-- A key that the table lacks is not found by a delete, and another operation inserts it. -/
theorem State.lastApply_missing {v : State} (hnet : v.net = s.net) (hcsr : v.csr = s.csr) :
    v.lastApply u = if u.op = 3 then ((4, 2), v) else v.emInsert u w u.entry key := by
  have hpv : v.updProfile u = w := (State.word_congr hcsr _).trans hw.symm
  have hk : v.updKey u = key := by rw [State.updKey, hpv, hkey]
  have := State.emUpdate_missing (s := v) (u := u) hp (by rw [hpv, hv]) (by rw [hpv, ht]) (by rw [hpv, hx]) (by rw [hnet, hpv, hk, hf])
  rw [State.lastApply_em hop, this, hpv, hk]

theorem State.updating.em_notFound (ho : u.op = 3) :
    ∃ t, exec c s = .next t ∧ t.net.last.upd = some ⟨msg, 4, 2⟩ ∧ t.net.last.tabsA = s.net.last.tabsA :=
  h.leaves fun _ hnet hcsr => (State.lastApply_missing hop hw hkey hp hv ht hx hf hnet hcsr).trans (if_pos ho)

theorem State.updating.em_placed {b : Nat} (ho : u.op ≠ 3) (hb : b = u.bucket 0 w key ∨
      ((∀ k, k / 8 = u.bucket 0 w key → AMap.get? s.net.last.tabsA.em k ≠ none) ∧ b = u.bucket 1 w key))
    (hfree : ∃ k, k / 8 = b ∧ AMap.get? s.net.last.tabsA.em k = none) :
    ∃ t k, exec c s = .next t ∧ t.net.last.upd = some ⟨msg, 0, 0⟩ ∧ k / 8 = b ∧ AMap.get? s.net.last.tabsA.em k = none ∧
      AMap.get? t.net.last.tabsA.em k = some u.entry ∧ ∀ j, j ≠ k → AMap.get? t.net.last.tabsA.em j = AMap.get? s.net.last.tabsA.em j := by
  have hn := s.updTaken_net msg
  have hl := (State.lastApply_missing hop hw hkey hp hv ht hx hf hn (s.updTaken_csr msg)).trans (if_neg ho)
  rw [← hn] at hb hfree
  obtain ⟨t, k, he, hk, hput⟩ := State.emInsert_free hb hfree u.entry
  rw [hn] at hput
  obtain ⟨hnone, rfl⟩ := hput
  exact ⟨_, k, h.runs (hl.trans he), rfl, hk, hnone, AMap.get?_set_same _ _ _, fun j hj => AMap.get?_set_other _ _ _ _ hj⟩

theorem State.updating.em_moved (ho : u.op ≠ 3)
    (hfull : ∀ k, k / 8 = u.bucket 0 w key ∨ k / 8 = u.bucket 1 w key → AMap.get? s.net.last.tabsA.em k ≠ none) :
    ∃ t, exec c s = .next t ∧ ((t.net.last.upd = some ⟨msg, 5, 3⟩ ∧ t.net.last.tabsA = s.net.last.tabsA) ∨
      (t.net.last.upd = some ⟨msg, 0, 0⟩ ∧ s.net.last.tabsA.housed t.net.last.tabsA u.entry)) := by
  have hn := s.updTaken_net msg
  have hl := (State.lastApply_missing hop hw hkey hp hv ht hx hf hn (s.updTaken_csr msg)).trans (if_neg ho)
  rw [← hn] at hfull
  rcases State.emInsert_full hx hfull u.entry with he | ⟨t, he, hh⟩
  · exact ⟨_, h.runs (hl.trans he), .inl ⟨rfl, s.updTaken_tabsA msg⟩⟩
  · rw [hn] at hh
    exact ⟨_, h.runs (hl.trans he), .inr ⟨rfl, hh⟩⟩

end exactMatch

/-! ### Prefixes -/

section prefixes
variable {s : State} {c : Instr} {u : UpdCmd} {msg : Option Msg} (h : s.updating c u msg) (hop : u.op = 4 ∨ u.op = 5)
include h hop

theorem State.updating.pfx_refused (hr : 28 ≤ u.profile ∨ profValid (s.updProfile u) = false ∨
      (profTable (s.updProfile u) ≠ 1 ∧ profTable (s.updProfile u) ≠ 2)) :
    ∃ t, exec c s = .next t ∧ t.net.last.upd = some ⟨msg, 2, 4⟩ ∧ t.net.last.tabsA = s.net.last.tabsA :=
  h.leaves fun v _ hcsr => by
    have hw : v.updProfile u = s.updProfile u := State.word_congr hcsr _
    rw [State.lastApply_pfx hop]
    exact State.pfxUpdate_refused (hw ▸ hr)

variable {v6 : Bool} (hp : u.profile < 28) (hv : profValid (s.updProfile u) = true) (ht : profTable (s.updProfile u) = if v6 then 2 else 1)
include hp hv ht

theorem State.updating.pfx_bad (hbad : prefixWidth v6 < u.plen ∨ (u.pfx v6).addr % 2 ^ (prefixWidth v6 - u.plen) ≠ 0) :
    ∃ t, exec c s = .next t ∧ t.net.last.upd = some ⟨msg, 2, 5⟩ ∧ t.net.last.tabsA = s.net.last.tabsA :=
  h.leaves fun v _ hcsr => by
    have hw : v.updProfile u = s.updProfile u := State.word_congr hcsr _
    rw [State.lastApply_pfx hop, State.pfxUpdate_eq (v6 := v6) hp (by rw [hw, hv]) (by rw [hw, ht]), if_pos hbad]

variable (hok : ¬ (prefixWidth v6 < u.plen ∨ (u.pfx v6).addr % 2 ^ (prefixWidth v6 - u.plen) ≠ 0))
include hok

omit h in
/-- A `Prefix` of good width, in a state whose tables and registers are those of `s`. -/
theorem State.lastApply_goodPrefix {v : State} (hnet : v.net = s.net) (hcsr : v.csr = s.csr) : v.lastApply u =
    if u.op = 5 then
      if s.net.last.tabsA.prefixes.any (u.pfx v6).same then
        ((0, 0), v.setTabsA { s.net.last.tabsA with prefixes := s.net.last.tabsA.prefixes.filter fun p => !(u.pfx v6).same p })
      else ((4, 2), v)
    else if s.net.last.tabsA.prefixes.any (u.pfx v6).same then
      ((0, 0), v.setTabsA { s.net.last.tabsA with
        prefixes := s.net.last.tabsA.prefixes.map fun p => if (u.pfx v6).same p then u.pfx v6 else p })
    else if 262144 < (s.net.last.tabsA.prefixes.map Prefix.slots).sum + (u.pfx v6).slots then ((5, 3), v)
    else ((0, 0), v.setTabsA { s.net.last.tabsA with prefixes := s.net.last.tabsA.prefixes ++ [u.pfx v6] }) := by
  have hw : v.updProfile u = s.updProfile u := State.word_congr hcsr _
  rw [State.lastApply_pfx hop, State.pfxUpdate_eq (v6 := v6) hp (by rw [hw, hv]) (by rw [hw, ht]), if_neg hok, hnet]

theorem State.updating.pfx_notFound (ho : u.op = 5) (hno : ¬ ∃ p ∈ s.net.last.tabsA.prefixes, (u.pfx v6).same p = true) :
    ∃ t, exec c s = .next t ∧ t.net.last.upd = some ⟨msg, 4, 2⟩ ∧ t.net.last.tabsA = s.net.last.tabsA :=
  h.leaves fun v hnet hcsr => by
    rw [State.lastApply_goodPrefix hop hp hv ht hok hnet hcsr, if_pos ho, if_neg (mt Prefix.any_same.mp hno)]

theorem State.updating.pfx_removed (ho : u.op = 5) (hyes : ∃ p ∈ s.net.last.tabsA.prefixes, (u.pfx v6).same p = true) :
    ∃ t, exec c s = .next t ∧ t.net.last.upd = some ⟨msg, 0, 0⟩ ∧
      ∀ p, p ∈ t.net.last.tabsA.prefixes ↔ p ∈ s.net.last.tabsA.prefixes ∧ ¬ (u.pfx v6).same p = true := by
  have hl := State.lastApply_goodPrefix hop hp hv ht hok (s.updTaken_net msg) (s.updTaken_csr msg)
  rw [if_pos ho, if_pos (Prefix.any_same.mpr hyes)] at hl
  exact ⟨_, h.runs hl, rfl, Prefix.mem_removed⟩

theorem State.updating.pfx_full (ho : u.op = 4) (hno : ¬ ∃ p ∈ s.net.last.tabsA.prefixes, (u.pfx v6).same p = true)
    (hfull : 262144 < (s.net.last.tabsA.prefixes.map Prefix.slots).sum + (u.pfx v6).slots) :
    ∃ t, exec c s = .next t ∧ t.net.last.upd = some ⟨msg, 5, 3⟩ ∧ t.net.last.tabsA = s.net.last.tabsA :=
  h.leaves fun v hnet hcsr => by
    rw [State.lastApply_goodPrefix hop hp hv ht hok hnet hcsr, if_neg (by omega), if_neg (mt Prefix.any_same.mp hno), if_pos hfull]

theorem State.updating.pfx_added (ho : u.op = 4) (hroom : (∃ p ∈ s.net.last.tabsA.prefixes, (u.pfx v6).same p = true) ∨
      (s.net.last.tabsA.prefixes.map Prefix.slots).sum + (u.pfx v6).slots ≤ 262144) :
    ∃ t, exec c s = .next t ∧ t.net.last.upd = some ⟨msg, 0, 0⟩ ∧
      ∀ p, p ∈ t.net.last.tabsA.prefixes ↔ p = u.pfx v6 ∨ (p ∈ s.net.last.tabsA.prefixes ∧ ¬ (u.pfx v6).same p = true) := by
  have hl := State.lastApply_goodPrefix hop hp hv ht hok (s.updTaken_net msg) (s.updTaken_csr msg)
  rw [if_neg (by omega)] at hl
  by_cases hyes : ∃ p ∈ s.net.last.tabsA.prefixes, (u.pfx v6).same p = true
  · rw [if_pos (Prefix.any_same.mpr hyes)] at hl
    exact ⟨_, h.runs hl, rfl, Prefix.mem_replaced hyes⟩
  · rw [if_neg (mt Prefix.any_same.mp hyes), if_neg (Nat.not_lt.mpr (hroom.resolve_left hyes))] at hl
    exact ⟨_, h.runs hl, rfl, Prefix.mem_added fun p hm hs => hyes ⟨p, hm, hs⟩⟩

end prefixes

/-! ### Rules -/

section rules
variable {s : State} {c : Instr} {u : UpdCmd} {msg : Option Msg} (h : s.updating c u msg) (hop : u.op = 6 ∨ u.op = 7)
include h hop

theorem State.updating.rule_badIndex (hi : 32768 ≤ u.index) :
    ∃ t, exec c s = .next t ∧ t.net.last.upd = some ⟨msg, 4, 6⟩ ∧ t.net.last.tabsA = s.net.last.tabsA :=
  h.leaves fun _ _ _ => (State.lastApply_rule hop).trans (if_pos hi)

/-- The rule that an operation carries. -/
def UpdCmd.rule (u : UpdCmd) : Rule := ⟨sliceB u.data 0 40, sliceB u.data 0x40 40, sliceB u.data 0x80 16⟩

theorem State.updating.rule_written (hi : u.index < 32768) : ∃ t, exec c s = .next t ∧ t.net.last.upd = some ⟨msg, 0, 0⟩ ∧
    AMap.get? t.net.last.tabsA.rules u.index = (if u.op = 6 then some u.rule else none) ∧
    (∀ j, j ≠ u.index → AMap.get? t.net.last.tabsA.rules j = AMap.get? s.net.last.tabsA.rules j) ∧
    t.net.last.tabsA.em = s.net.last.tabsA.em ∧ t.net.last.tabsA.prefixes = s.net.last.tabsA.prefixes := by
  have hl : (s.updTaken msg).lastApply u = if u.op = 7 then
      ((0, 0), (s.updTaken msg).setTabsA { s.net.last.tabsA with rules := AMap.del s.net.last.tabsA.rules u.index })
    else ((0, 0), (s.updTaken msg).setTabsA { s.net.last.tabsA with rules := AMap.set s.net.last.tabsA.rules u.index u.rule }) := by
    rw [← s.updTaken_net msg]
    exact (State.lastApply_rule hop).trans (if_neg (Nat.not_le.mpr hi))
  rcases hop with ho | ho
  · rw [if_neg (by omega)] at hl
    exact ⟨_, h.runs hl, rfl, (AMap.get?_set_same _ _ _).trans (if_pos ho).symm, fun j hj => AMap.get?_set_other _ _ _ _ hj, rfl, rfl⟩
  · rw [if_pos ho] at hl
    exact ⟨_, h.runs hl, rfl, (AMap.get?_del_same _ _).trans (if_neg (by omega)).symm, fun j hj => AMap.get?_del_other _ _ _ hj, rfl, rfl⟩

end rules

/-! ### Contexts -/

section contexts
variable {s : State} {u : UpdCmd} {msg : Option Msg} (h : s.updating .fctxWrite u msg) (hop : u.op = 8)
include h hop

theorem State.updating.context_refused {r : Nat × Nat} (hr : (s.rd F.LAST_FCTX_CFG.COUNT ≤ u.index ∧ r = (4, 6)) ∨
      (u.index < s.rd F.LAST_FCTX_CFG.COUNT ∧ s.rd F.LAST_FCTX_CFG.SPLIT ≤ u.index ∧ s.fencedB = true ∧ r = (0x0E, 0x12))) :
    ∃ t, exec .fctxWrite s = .next t ∧ t.net.last.upd = some ⟨msg, r.1, r.2⟩ ∧ t.net.last.cache = s.net.last.cache := by
  have hl : (s.updTaken msg).lastApply u = (r, s.updTaken msg) := by
    have hcsr := s.updTaken_csr msg
    rw [← State.rd_congr hcsr, ← State.rd_congr hcsr, ← show (s.updTaken msg).fencedB = s.fencedB by rw [State.fencedB, State.rd_congr hcsr]; rfl] at hr
    rw [State.lastApply_context hop, State.ctxStore]
    rcases hr with ⟨hc, rfl⟩ | ⟨hc, hsp, hfe, rfl⟩
    · exact if_pos hc
    · exact (if_neg (Nat.not_le.mpr hc)).trans (if_pos (State.ctxFenced_iff.mpr ⟨hsp, hfe⟩))
  exact ⟨_, h.runs hl, rfl, s.updTaken_cache msg⟩

theorem State.updating.context_written (hc : u.index < s.rd F.LAST_FCTX_CFG.COUNT) (hh : u.index < s.rd F.LAST_FCTX_CFG.SPLIT ∨ s.fencedB = false) :
    ∃ t, exec .fctxWrite s = .next t ∧ t.net.last.upd = some ⟨msg, 0, 0⟩ ∧ t.ctxCached u.index = some ⟨sliceB u.data 0 256, true⟩ := by
  have hl : (s.updTaken msg).lastApply u = ((0, 0), (s.updTaken msg).ctxWrite u.index (sliceB u.data 0 256)) := by
    have hcsr := s.updTaken_csr msg
    rw [← State.rd_congr hcsr, ← show (s.updTaken msg).fencedB = s.fencedB by rw [State.fencedB, State.rd_congr hcsr]; rfl] at hh
    rw [← State.rd_congr hcsr] at hc
    rw [State.lastApply_context hop]
    refine (if_neg (Nat.not_le.mpr hc)).trans (if_neg fun hfe => ?_)
    obtain ⟨hsp, hfb⟩ := State.ctxFenced_iff.mp hfe
    rcases hh with hh | hh
    · exact absurd hsp (Nat.not_le.mpr hh)
    · rw [hfb] at hh; cases hh
  refine ⟨_, h.runs hl, rfl, ?_⟩
  have hw := (s.updTaken msg).ctxInstall_cached u.index ⟨sliceB (sliceB u.data 0 256) 0 256, true⟩
  rw [sliceB_whole (sliceB_length _ _ _)] at hw
  rw [← hw, State.ctxWrite, sliceB_whole (sliceB_length _ _ _)]
  rfl

end contexts

/-! ### An update completes (R153) -/

theorem State.unitReply_launches (s : State) (src : Nat) (req : Msg) (ch : Nat) (words : List W64) :
    ∃ f, (s.unitReply src req ch words).yarn.flights = s.yarn.flights ++ [f] ∧ f.msg.dst = req.src / 4 * 4 + ch ∧ f.msg.tag = req.tag ∧
      f.msg.epoch = req.epoch ∧ f.msg.words = words := ⟨_, rfl, rfl, rfl, rfl, rfl⟩

section lastDone
variable (s : State) (u : LastUpd)

/-- The second replica has taken the update, and it is counted. -/
def State.updCounted : State :=
  let s' := s.setLast { s.net.last with upd := none, tabsB := if s.fencedB then s.net.last.tabsB else s.net.last.tabsA }
  let c := s'.count F.LAST_STAT.UPDATES.CNT 1
  if u.status = 0 then c else c.count F.LAST_STAT.UPDATE_FAIL.CNT 1

/-- LAST_UPD_STATUS shows how the operation of LAST_UPD_CMD ended. -/
def State.updShown : State :=
  ((((s.wr F.LAST_UPD_CMD.GO 0).wr F.LAST_UPD_CMD.BUSY 0).wr F.LAST_UPD_STATUS.DONE 1).wr F.LAST_UPD_STATUS.STATUS u.status).wr
    F.LAST_UPD_STATUS.DETAIL u.detail

theorem State.lastDone_register (h : u.msg = none) : s.lastDone u = (s.updCounted u).updShown u := by rw [State.lastDone, h]; rfl

theorem State.lastDone_reply {m : Msg} (h : u.msg = some m) :
    s.lastDone u = (s.updCounted u).unitReply updEp m 0 [BitVec.ofNat 64 (u.status ||| u.detail <<< 8)] := by rw [State.lastDone, h]; rfl

theorem State.updCounted_yarn : (s.updCounted u).yarn = s.yarn := by unfold State.updCounted; simp only []; split <;> rfl

theorem State.updCounted_last : (s.updCounted u).net.last.upd = none ∧ (s.updCounted u).net.last.tabsA = s.net.last.tabsA ∧
    (s.updCounted u).net.last.tabsB = if s.fencedB then s.net.last.tabsB else s.net.last.tabsA := by
  unfold State.updCounted; simp only []; split <;> exact ⟨rfl, rfl, rfl⟩

theorem State.updCounted_apart {g : FRef} (h1 : F.LAST_STAT.UPDATES.CNT.apart g = true) (h2 : F.LAST_STAT.UPDATE_FAIL.CNT.apart g = true) :
    (s.updCounted u).rd g = s.rd g := by
  unfold State.updCounted
  simp only []
  split
  · exact State.rd_count_apart _ _ _ _ (by decide) h1
  · exact (State.rd_count_apart _ _ _ _ (by decide) h2).trans (State.rd_count_apart _ _ _ _ (by decide) h1)

theorem State.updCounted_updates : (s.updCounted u).rd F.LAST_STAT.UPDATES.CNT = min (s.rd F.LAST_STAT.UPDATES.CNT + 1) (2 ^ 32 - 1) := by
  unfold State.updCounted
  simp only []
  split
  · exact State.rd_count_same _ _ _ (by decide)
  · exact (State.rd_count_apart _ _ _ _ (by decide) (by decide)).trans (State.rd_count_same _ _ _ (by decide))

theorem State.updCounted_ok (h : u.status = 0) : (s.updCounted u).rd F.LAST_STAT.UPDATE_FAIL.CNT = s.rd F.LAST_STAT.UPDATE_FAIL.CNT := by
  unfold State.updCounted
  simp only [if_pos h]
  exact State.rd_count_apart _ _ _ _ (by decide) (by decide)

theorem State.updCounted_fail (h : u.status ≠ 0) :
    (s.updCounted u).rd F.LAST_STAT.UPDATE_FAIL.CNT = min (s.rd F.LAST_STAT.UPDATE_FAIL.CNT + 1) (2 ^ 32 - 1) := by
  unfold State.updCounted
  simp only [if_neg h]
  rw [State.rd_count_same _ _ _ (by decide), State.rd_count_apart _ _ _ _ (by decide) (by decide)]
  rfl

theorem State.updShown_apart {g : FRef} (h1 : g.addr ≠ 0x800300) (h2 : g.addr ≠ 0x800308) : (s.updShown u).rd g = s.rd g := by
  unfold State.updShown
  rw [State.rd_wr_addr _ _ _ _ h2, State.rd_wr_addr _ _ _ _ h2, State.rd_wr_addr _ _ _ _ h2, State.rd_wr_addr _ _ _ _ h1, State.rd_wr_addr _ _ _ _ h1]

theorem State.updShown_facts : (s.updShown u).rd F.LAST_UPD_CMD.BUSY = 0 ∧ (s.updShown u).rd F.LAST_UPD_CMD.GO = 0 ∧
    (s.updShown u).rd F.LAST_UPD_STATUS.DONE = 1 ∧ (s.updShown u).rd F.LAST_UPD_STATUS.STATUS = u.status % 256 ∧
    (s.updShown u).rd F.LAST_UPD_STATUS.DETAIL = u.detail % 256 := by
  unfold State.updShown
  refine ⟨?_, ?_, ?_, ?_, ?_⟩
  · rw [State.rd_wr_apart _ _ _ _ (by decide) (by decide), State.rd_wr_apart _ _ _ _ (by decide) (by decide),
      State.rd_wr_apart _ _ _ _ (by decide) (by decide), State.rd_wr_same _ _ _ (by decide)]
    rfl
  · rw [State.rd_wr_apart _ _ _ _ (by decide) (by decide), State.rd_wr_apart _ _ _ _ (by decide) (by decide),
      State.rd_wr_apart _ _ _ _ (by decide) (by decide), State.rd_wr_apart _ _ _ _ (by decide) (by decide), State.rd_wr_same _ _ _ (by decide)]
    rfl
  · rw [State.rd_wr_apart _ _ _ _ (by decide) (by decide), State.rd_wr_apart _ _ _ _ (by decide) (by decide), State.rd_wr_same _ _ _ (by decide)]
    rfl
  · rw [State.rd_wr_apart _ _ _ _ (by decide) (by decide), State.rd_wr_same _ _ _ (by decide)]
    rfl
  · rw [State.rd_wr_same _ _ _ (by decide)]
    rfl

variable {s u}

/-- No operation of an unnamed code is next, or one is under way: LAST_UPDATE_DONE takes none up. -/
theorem exec_lastUpdateDone_idle (hs : s.headSound updEp) (h : s.net.last.upd ≠ none ∨ s.nextUpd 0 = none) :
    exec .lastUpdateDone s = match s.net.last.upd with | some u => .next (s.lastDone u) | none => .next s := by
  show execLastUpdateDone s = _
  rw [execLastUpdateDone, State.lastUpdate_idle hs h] <;> rfl

theorem exec_lastUpdateDone_under (hs : s.headSound updEp) (h : s.net.last.upd = some u) : exec .lastUpdateDone s = .next (s.lastDone u) := by
  rw [exec_lastUpdateDone_idle hs (.inl (by rw [h]; exact Option.some_ne_none _)), h]

theorem exec_lastUpdateDone_none (hs : s.headSound updEp) (h : s.net.last.upd = none) (hn : s.nextUpd 0 = none) :
    exec .lastUpdateDone s = .next s := by rw [exec_lastUpdateDone_idle hs (.inr hn), h]

/-- An operation that Table 4.7 does not name is taken up and completes at once. -/
theorem exec_lastUpdateDone_unnamed {x : UpdCmd} (hs : s.headSound updEp) (hn : s.net.last.upd = none) (hf : s.firstUpd = some (x, none))
    (hop : x.op = 0 ∨ 8 < x.op) : exec .lastUpdateDone s = .next ((s.updMarked none (2, 4)).lastDone ⟨none, 2, 4⟩) := by
  have hnext : s.nextUpd 0 = some (x, none) := by
    rw [State.nextUpd, hf]
    exact if_pos (by simpa using hop)
  show execLastUpdateDone s = _
  rw [execLastUpdateDone, State.lastUpdate_takes hs hn hnext, State.lastApply_unnamed hop]
  rfl

theorem State.nextUpd_named (h : ∀ x m, s.firstUpd = some (x, m) → 1 ≤ x.op ∧ x.op ≤ 8) : s.nextUpd 0 = none := by
  unfold State.nextUpd
  cases hf : s.firstUpd with
  | none => rfl
  | some y =>
    obtain ⟨hlo, hhi⟩ := h y.1 y.2 hf
    exact if_neg (by simp; omega)

end lastDone

end Sys2Proof.Machine

open Sys2Proof Sys2Proof.Machine

/-- Settles O39: the port takes the operation that came first and applies it to the first replica, whose tables change as its lemma says;
LAST_UPDATE_DONE gives the second replica the same tables. -/
theorem lastUpdates : Obligations.LastUpdates := by
  unfold Obligations.LastUpdates
  refine ⟨?_, ?_, ?_, ?_, ?_, ?_, ?_, ?_, ?_, ?_⟩
  · rintro s u w rfl rfl
    refine ⟨fun hb hall => State.firstUpd_register hb hall, fun hq => ?_⟩
    rw [State.firstUpd_queue hq]
    refine ⟨fun m rest x y hm hc hw => ?_, fun hnone => ?_⟩
    · rw [State.headAt_committed hm hc, Option.map_some, hw]
      rfl
    · rw [State.headAt_none hnone, Option.map_none]
  · intro s op c hs hmem
    obtain ⟨hop, he⟩ := exec_updInstr hmem s
    refine ⟨fun hno => ?_, fun u hn hf ho => ?_, fun u m hn hf ho => ?_⟩
    · rw [he, State.lastUpdate_idle hs]
      refine hno.imp_right fun hne => ?_
      rw [State.nextUpd_eq hop, Option.filter_eq_none_iff]
      exact fun x hx hxo => hne x.1 x.2 hx (beq_iff_eq.mp hxo)
    · subst ho
      have hr := (s.updTaken none).lastApply_firstReplica u
      exact ⟨_, _, State.updating.runs ⟨hs, hn, hf, hmem⟩ rfl, rfl, hr.yarn, hr.second, hr.csr⟩
    · subst ho
      have hr := (s.updTaken (some m)).lastApply_firstReplica u
      refine ⟨_, _, State.updating.runs ⟨hs, hn, hf, hmem⟩ rfl, rfl, ?_, hr.second, hr.csr⟩
      exact (congrArg (fun y : Yarn => AMap.getD y.queues updEp []) hr.yarn).trans (s.setQueue_queueAt_same _ _)
  · intro s c m rest hmem hq hc hp
    have hd := s.dropSpoilt_poisoned hq hc hp
    have hu (op : Nat) : s.lastUpdate op = (s.spoiltGone updEp rest).lastUpdate op := by
      unfold State.lastUpdate
      rw [show s.dropSpoilt updEp (fun _ => true) = (s.spoiltGone updEp rest).dropSpoilt updEp (fun _ => true) from hd]
    simp only [List.mem_cons, List.not_mem_nil, or_false] at hmem
    rcases hmem with rfl | rfl | rfl | rfl | rfl | rfl | rfl | rfl | rfl
    · exact congrArg Host.Outcome.next (hu 1)
    · exact congrArg Host.Outcome.next (hu 2)
    · exact congrArg Host.Outcome.next (hu 3)
    · exact congrArg Host.Outcome.next (hu 4)
    · exact congrArg Host.Outcome.next (hu 5)
    · exact congrArg Host.Outcome.next (hu 6)
    · exact congrArg Host.Outcome.next (hu 7)
    · exact congrArg Host.Outcome.next (hu 8)
    · show execLastUpdateDone s = execLastUpdateDone _
      rw [execLastUpdateDone, hu 0]
      rfl
  · intro s c u msg w key hs hn hf hmem hw hkey
    obtain ⟨hcode, hop⟩ := updInstrs_em hmem
    have h : s.updating c u msg := ⟨hs, hn, hf, hcode⟩
    refine ⟨fun hr => h.em_refused hop (by rw [State.updProfile, ← hw]; exact hr), fun hp hv ht hx => ⟨fun k e hfound => ?_, fun hnone =>
      ⟨fun ho => ?_, fun b ho hb hfree => ?_, fun ho hfull => ?_⟩⟩⟩
    · exact h.em_found hop hw hkey hp hv ht hfound
    · exact h.em_notFound hop hw hkey hp hv ht hx hnone ho
    · exact h.em_placed hop hw hkey hp hv ht hx hnone ho hb hfree
    · exact h.em_moved hop hw hkey hp hv ht hx hnone ho hfull
  · rintro s c u msg w v6 x eq hs hn hf hmem rfl rfl heq
    obtain ⟨hcode, hop⟩ := updInstrs_pfx hmem
    have h : s.updating c u msg := ⟨hs, hn, hf, hcode⟩
    have hsame : eq = fun p => (u.pfx v6).same p = true := funext fun p => propext ((heq p).trans ((u.pfx v6).same_iff p).symm)
    subst hsame
    refine ⟨fun hr => h.pfx_refused hop hr, fun hp hv ht => ⟨fun hbad => h.pfx_bad hop hp hv ht hbad, fun hlen hal => ?_⟩⟩
    have hok : ¬ (prefixWidth v6 < u.plen ∨ (u.pfx v6).addr % 2 ^ (prefixWidth v6 - u.plen) ≠ 0) :=
      not_or.mpr ⟨Nat.not_lt.mpr hlen, not_not_intro hal⟩
    refine ⟨fun ho hno => ?_, fun ho hyes => ?_, fun ho hroom => ?_, fun ho hno hfull => ?_⟩
    · exact h.pfx_notFound hop hp hv ht hok ho fun ⟨p, hm, hsp⟩ => hno p hm hsp
    · exact h.pfx_removed hop hp hv ht hok ho hyes
    · exact h.pfx_added hop hp hv ht hok ho hroom
    · exact h.pfx_full hop hp hv ht hok ho (fun ⟨p, hm, hsp⟩ => hno p hm hsp) hfull
  · intro s c u msg hs hn hf hmem
    obtain ⟨hcode, hop⟩ := updInstrs_rule hmem
    have h : s.updating c u msg := ⟨hs, hn, hf, hcode⟩
    exact ⟨h.rule_badIndex hop, h.rule_written hop⟩
  · intro s u msg hs hn hf ho
    have h : s.updating .fctxWrite u msg := ⟨hs, hn, hf, by rw [ho]; simp⟩
    exact ⟨fun hc => h.context_refused ho (.inl ⟨hc, rfl⟩), fun hc hsp hfe => h.context_refused ho (.inr ⟨hc, hsp, hfe, rfl⟩),
      h.context_written ho⟩
  · intro s x hs hx
    rw [exec_lastUpdateDone_under hs hx]
    obtain ⟨hupd, hA, hB⟩ := s.updCounted_last x
    cases hm : x.msg with
    | none =>
      rw [s.lastDone_register x hm]
      obtain ⟨hbusy, hgo, hdone, hstatus, hdetail⟩ := (s.updCounted x).updShown_facts x
      refine ⟨_, rfl, hupd, hA, hB, ?_, fun h0 => ?_, fun h0 => ?_, fun _ =>
        ⟨hbusy, hgo, hdone, hstatus, hdetail, s.updCounted_yarn x⟩, fun m h0 => (by cases h0)⟩
      · rw [State.updShown_apart _ _ (by decide) (by decide), s.updCounted_updates]
      · rw [State.updShown_apart _ _ (by decide) (by decide), s.updCounted_ok x h0]
      · rw [State.updShown_apart _ _ (by decide) (by decide), s.updCounted_fail x h0]
    | some m =>
      rw [s.lastDone_reply x hm]
      refine ⟨_, rfl, hupd, hA, hB, s.updCounted_updates x,
        s.updCounted_ok x, s.updCounted_fail x, fun h0 => (by cases h0), fun m' hm' hst _ => ?_⟩
      obtain rfl := Option.some.inj hm'
      obtain ⟨f, hf, hdst, htag, hepoch, hwords⟩ := (s.updCounted x).unitReply_launches updEp m 0 [BitVec.ofNat 64 (x.status ||| x.detail <<< 8)]
      rw [s.updCounted_yarn x] at hf
      rw [or_shiftLeft_of_lt (k := 8) _ hst] at hwords
      exact ⟨f, hf, hdst, htag, hepoch, hwords, s.updCounted_apart x (by decide) (by decide)⟩
  · exact fun s hs hn hop => exec_lastUpdateDone_none hs hn (State.nextUpd_named hop)
  · intro s u hs hn hf hop
    obtain ⟨-, hA, -⟩ := (s.updMarked none (2, 4)).updCounted_last ⟨none, 2, 4⟩
    obtain ⟨hbusy, -, -, hstatus, hdetail⟩ := ((s.updMarked none (2, 4)).updCounted ⟨none, 2, 4⟩).updShown_facts ⟨none, 2, 4⟩
    rw [exec_lastUpdateDone_unnamed hs hn hf hop]
    exact ⟨_, rfl, hstatus, hdetail, hbusy, hA⟩
end

section
/-! What the session operations of the cipher unit rest on: fields of a record's bytes, the answer to an operation, and the plaintext that READ
shows (R193, R198, Table 5.5). -/

namespace Sys2Proof.Machine

open Sys2Proof

/-! ### Fields of bytes -/

theorem sliceB_getElem? (bs : Bytes) (off n k : Nat) : (sliceB bs off n)[k]? = if k < n then some (bs.getD (off + k) 0#8) else none := by
  grind [sliceB]

theorem sliceB_congr {bs cs : Bytes} {off off' n : Nat} (h : ∀ k < n, bs.getD (off + k) 0#8 = cs.getD (off' + k) 0#8) :
    sliceB bs off n = sliceB cs off' n := by
  refine List.ext_getElem? fun k => ?_
  rw [sliceB_getElem?, sliceB_getElem?]
  split
  next hk => rw [h k hk]
  · rfl

theorem leAt_congr {bs cs : Bytes} {off off' n : Nat} (h : ∀ k < n, bs.getD (off + k) 0#8 = cs.getD (off' + k) 0#8) :
    leAt bs off n = leAt cs off' n := congrArg leNat (sliceB_congr h)

theorem leAt_lt (bs : Bytes) (off n : Nat) : leAt bs off n < 256 ^ n := by
  have h := leNat_lt (sliceB bs off n)
  rwa [sliceB_length] at h

section putB
variable (bs v : Bytes) (off : Nat)

/-- A byte of a string in which others have been put. -/
theorem putB_getD (k : Nat) : (putB bs off v).getD k 0#8 = if k < off ∨ off + v.length ≤ k then bs.getD k 0#8 else v.getD (k - off) 0#8 := by
  have hlen := sliceB_length bs 0 off
  have hfirst := sliceB_getElem? bs 0 off k
  rw [putB, List.getD_eq_getElem?_getD, List.append_assoc, List.getElem?_append, hlen]
  by_cases hk : k < off
  · rw [if_pos hk, hfirst, if_pos hk, if_pos (.inl hk), Nat.zero_add, Option.getD_some]
  · rw [if_neg hk, List.getElem?_append]
    by_cases hv : k - off < v.length
    · rw [if_pos hv, if_neg (by omega), List.getD_eq_getElem?_getD]
    · rw [if_neg hv, if_pos (.inr (by omega)), List.getElem?_drop, List.getD_eq_getElem?_getD]
      congr 2
      omega

theorem putB_length {bs v : Bytes} {off : Nat} (h : off + v.length ≤ bs.length) : (putB bs off v).length = bs.length := by
  rw [putB, List.length_append, List.length_append, sliceB_length, List.length_drop]
  omega

/-- A field outside what was put stays. -/
theorem leAt_putB_apart {o n : Nat} (h : o + n ≤ off ∨ off + v.length ≤ o) : leAt (putB bs off v) o n = leAt bs o n :=
  leAt_congr fun k hk => by rw [putB_getD, if_pos (by omega)]

/-- A field inside what was put reads it. -/
theorem leAt_putB_inside {o n : Nat} (h : off ≤ o) (hn : o + n ≤ off + v.length) : leAt (putB bs off v) o n = leAt v (o - off) n :=
  leAt_congr fun k hk => by rw [putB_getD, if_neg (by omega), Nat.sub_add_comm h]

end putB

theorem leAt_sliceB {bs : Bytes} {off n o k : Nat} (h : o + k ≤ n) : leAt (sliceB bs off n) o k = leAt bs (off + o) k :=
  leAt_congr fun j hj => by
    rw [List.getD_eq_getElem?_getD, sliceB_getElem?, if_pos (by omega), Option.getD_some, Nat.add_assoc]

theorem leAt_zeros (n o : Nat) : leAt (List.replicate n 0#8) o 4 = 0 := by
  have h : leAt (List.replicate n 0#8) o 4 = leAt [] 0 4 := leAt_congr fun j _ => by
    rw [List.getD_eq_getElem?_getD, List.getElem?_getD_replicate_default_eq]
    rfl
  exact h.trans rfl

/-! ### The answer to an operation (R193, R198) -/

section sessDone
variable {s v : State} {o : SessOp} {r : Nat × Nat}

/-- The unit has no more to do with an operation. -/
def State.sessOpGone (v : State) (o : SessOp) : State := v.setCipher { v.cipher with ops := v.cipher.ops.filter (fun x => x.id != o.id) }

/-- CIPHER_SESS_STATUS takes a result. -/
def State.sessShown (v : State) (r : Nat × Nat) : State :=
  ((((v.wr F.CIPHER_SESS_CMD.BUSY 0).wr F.CIPHER_SESS_CMD.GO 0).wr F.CIPHER_SESS_STATUS.DONE 1).wr
    F.CIPHER_SESS_STATUS.DETAIL r.2).wr F.CIPHER_SESS_STATUS.STATUS r.1

theorem State.sessDone_register (h : o.msg = none) : v.sessDone o r = (v.sessOpGone o).sessShown r := by rw [State.sessDone, h]; rfl

theorem State.sessDone_message {m : Msg} (h : o.msg = some m) :
    v.sessDone o r = (v.sessOpGone o).unitReply sessEp m 0 [BitVec.ofNat 64 (r.1 ||| r.2 <<< 8)] := by rw [State.sessDone, h]; rfl

theorem State.sessDone_cipher : (v.sessDone o r).cipher = (v.sessOpGone o).cipher := by
  unfold State.sessDone
  simp only []
  split <;> rfl

theorem State.sessDone_queues : (v.sessDone o r).yarn.queues = v.yarn.queues := by
  unfold State.sessDone
  simp only []
  split <;> rfl

theorem State.sessShown_apart {g : FRef} (h : ∀ f ∈ [F.CIPHER_SESS_CMD.BUSY, F.CIPHER_SESS_CMD.GO, F.CIPHER_SESS_STATUS.DONE, F.CIPHER_SESS_STATUS.DETAIL,
    F.CIPHER_SESS_STATUS.STATUS], f.apart g = true) : (v.sessShown r).rd g = v.rd g := by
  unfold State.sessShown
  simp only [List.forall_mem_cons] at h
  obtain ⟨h1, h2, h3, h4, h5, -⟩ := h
  rw [State.rd_wr_apart _ _ _ _ (by decide) h5, State.rd_wr_apart _ _ _ _ (by decide) h4, State.rd_wr_apart _ _ _ _ (by decide) h3,
    State.rd_wr_apart _ _ _ _ (by decide) h2, State.rd_wr_apart _ _ _ _ (by decide) h1]

theorem State.sessDone_apart {g : FRef} (h : ∀ f ∈ [F.CIPHER_SESS_CMD.BUSY, F.CIPHER_SESS_CMD.GO, F.CIPHER_SESS_STATUS.DONE, F.CIPHER_SESS_STATUS.DETAIL,
    F.CIPHER_SESS_STATUS.STATUS], f.apart g = true) : (v.sessDone o r).rd g = v.rd g := by
  cases hm : o.msg with
  | none => rw [State.sessDone_register hm, State.sessShown_apart h]; rfl
  | some m => rw [State.sessDone_message hm]; rfl

theorem State.sessDone_reported (h : o.msg = none) (h1 : r.1 < 256) (h2 : r.2 < 256) : (v.sessDone o r).sessReported r := by
  rw [State.sessDone_register h]
  unfold State.sessShown State.sessReported
  refine ⟨?_, ?_, ?_, ?_, ?_⟩
  · rw [State.rd_wr_apart _ _ _ _ (by decide) (by decide), State.rd_wr_apart _ _ _ _ (by decide) (by decide),
      State.rd_wr_apart _ _ _ _ (by decide) (by decide), State.rd_wr_apart _ _ _ _ (by decide) (by decide), State.rd_wr_same _ _ _ (by decide)]
    rfl
  · rw [State.rd_wr_apart _ _ _ _ (by decide) (by decide), State.rd_wr_apart _ _ _ _ (by decide) (by decide),
      State.rd_wr_apart _ _ _ _ (by decide) (by decide), State.rd_wr_same _ _ _ (by decide)]
    rfl
  · rw [State.rd_wr_apart _ _ _ _ (by decide) (by decide), State.rd_wr_apart _ _ _ _ (by decide) (by decide), State.rd_wr_same _ _ _ (by decide)]
    rfl
  · rw [State.rd_wr_same _ _ _ (by decide)]
    exact Nat.mod_eq_of_lt h1
  · rw [State.rd_wr_apart _ _ _ _ (by decide) (by decide), State.rd_wr_same _ _ _ (by decide)]
    exact Nat.mod_eq_of_lt h2

theorem State.sessDone_answers {m : Msg} (h : o.msg = some m) (hf : v.yarn.flights = s.yarn.flights) (h1 : r.1 < 256) :
    s.sessAnswered (v.sessDone o r) m r := by
  obtain ⟨f, hfl, hdst, htag, hepoch, hwords⟩ := (v.sessOpGone o).unitReply_launches sessEp m 0 [BitVec.ofNat 64 (r.1 ||| r.2 <<< 8)]
  rw [show (v.sessOpGone o).yarn.flights = s.yarn.flights from hf] at hfl
  rw [or_shiftLeft_of_lt (k := 8) _ h1] at hwords
  rw [State.sessDone_message h]
  exact ⟨f, hfl, hdst, htag, hepoch, hwords⟩

end sessDone

/-! ### The plaintext that READ shows (R195) -/

section setSessData
variable (s : State) (bs : Bytes)

/-- The first words of CIPHER_SESS_DATA have been written. -/
def State.sessDataTo (n : Nat) : State := (List.range n).foldl (fun s k => s.wr (F.CIPHER_SESS_DATA.W k) (leAt bs (4 * k) 4)) s

theorem State.sessDataTo_succ (n : Nat) : s.sessDataTo bs (n + 1) = (s.sessDataTo bs n).wr (F.CIPHER_SESS_DATA.W n) (leAt bs (4 * n) 4) := by
  rw [State.sessDataTo, List.range_succ, List.foldl_append]
  rfl

theorem State.sessDataTo_only (n : Nat) : { s.sessDataTo bs n with csr := s.csr } = s := by
  induction n with
  | zero => rfl
  | succ n ih =>
    rw [State.sessDataTo_succ]
    exact ih

theorem State.sessDataTo_rd {n w : Nat} (h : w < n) : (s.sessDataTo bs n).rd (F.CIPHER_SESS_DATA.W w) = leAt bs (4 * w) 4 := by
  induction n with
  | zero => exact absurd h (Nat.not_lt_zero w)
  | succ n ih =>
    rw [State.sessDataTo_succ]
    rcases Nat.lt_succ_iff_lt_or_eq.mp h with hlt | rfl
    · rw [State.rd_wr_addr _ _ _ _ (by simp only [F.CIPHER_SESS_DATA.W]; omega), ih hlt]
    · rw [State.rd_wr_same _ _ _ (by simp [F.CIPHER_SESS_DATA.W])]
      exact Nat.mod_eq_of_lt (leAt_lt bs (4 * w) 4)

end setSessData

/-! ### A record is fetched (R191) -/

/-- From `s` to `t` nothing changes but what the memory system holds of its bursts and copies. -/
def State.onlyDram (s t : State) : Prop := { t with dram := s.dram } = s

section onlyDram
variable {s t u : State}

theorem State.onlyDram.trans (h : s.onlyDram t) (h' : t.onlyDram u) : s.onlyDram u := by
  unfold State.onlyDram at h h'
  rw [← h'] at h
  exact h

theorem State.markResync_onlyDram (s : State) (i coff : Nat) : s.onlyDram (s.markResync i coff) := by
  unfold State.markResync
  simp only []
  split <;> rfl

theorem State.foldl_onlyDram {α : Type} {f : State → α → State} (hf : ∀ (s : State) a, s.onlyDram (f s a)) (l : List α) (s : State) :
    s.onlyDram (l.foldl f s) := by
  induction l generalizing s with
  | nil => rfl
  | cons a l ih => exact (hf s a).trans (ih _)

theorem State.unitBursts_onlyDram (s : State) (id group h a : Nat) (store : Option (Nat × Bytes)) :
    s.onlyDram (s.unitBursts id group h a store).2 := by
  unfold State.unitBursts
  split
  · rfl
  · simp only []
    split
    · split
      · exact State.foldl_onlyDram (fun s i => s.markResync_onlyDram i _) _ s
      · split <;> rfl
    · split <;> rfl

/-- A read queues its bursts. -/
theorem State.memIssue_onlyDram (s : State) (h group a n : Nat) : s.onlyDram (s.memIssue h group a n none).2 := by
  unfold State.memIssue
  simp only []
  split
  · refine State.onlyDram.trans (t := { s with dram := { s.dram with nextReq := s.dram.nextReq + 1 } }) rfl ?_
    refine State.foldl_onlyDram (fun v u => ?_) _ _
    exact v.unitBursts_onlyDram s.dram.nextReq group h u.1 u.2
  · rfl

end onlyDram

/-- A fetch of a session's record changes nothing else of the cipher unit, and no register. -/
theorem State.fetchSession_facts (s : State) (i : Nat) : (s.fetchSession i).csr = s.csr ∧ (s.fetchSession i).yarn = s.yarn ∧
    { (s.fetchSession i).cipher with fetches := s.cipher.fetches } = s.cipher ∧ (AMap.get? (s.fetchSession i).cipher.fetches i).isSome = true := by
  unfold State.fetchSession
  split
  next h => exact ⟨rfl, rfl, rfl, h⟩
  · have h := s.memIssue_onlyDram (s.sessHome i) (s.groupOf (leAt (s.devRead (s.sessAddr i + 6) 2) 0 2 % 4096)) (s.sessAddr i) 256
    simp only []
    generalize s.memIssue (s.sessHome i) (s.groupOf (leAt (s.devRead (s.sessAddr i + 6) 2) 0 2 % 4096)) (s.sessAddr i) 256 none = x at h ⊢
    have hcsr := congrArg State.csr h
    have hyarn := congrArg State.yarn h
    have hcipher := congrArg State.cipher h
    refine ⟨hcsr, hyarn, ?_, ?_⟩
    · rw [← show x.2.cipher = s.cipher from hcipher]
      rfl
    · exact Option.isSome_iff_exists.mpr ⟨x.1, AMap.get?_set_same _ _ _⟩

end Sys2Proof.Machine
end

section
/-! The session operations of the cipher unit: how one is taken and judged, what it waits for, and what it does (R193 to R198). -/

namespace Sys2Proof.Machine

open Sys2Proof

/-! ### An operation is taken (R193, R198) -/

/-- The operation that a command of the table asks for, as the unit numbers it. -/
def State.sessAsked (s : State) (m : Option Msg) (op i : Nat) (data : Bytes) : SessOp :=
  { id := s.cipher.nextId, msg := m, cobbler := m.isNone && s.cipher.cmdCobbler, op := op, index := i, data := data }

/-- The unit has numbered an operation and taken its message. -/
def State.sessTaken (s : State) (m : Option Msg) : State :=
  { s with cipher := { s.cipher with nextId := s.cipher.nextId + 1 },
           yarn := if m.isSome then { s.yarn with queues := AMap.setD [] s.yarn.queues sessEp (s.queueAt sessEp).tail } else s.yarn }

/-- Each command of the table serves the operations of its codes. -/
theorem exec_sessCommand_serves (op : Nat) (svc : Bool) :
    ∃ p : Nat → Bool, p op = true ∧ ∀ s, exec (sessCommand op svc) s = .next (s.sessServe svc p) := by
  unfold sessCommand
  split
  next h => exact ⟨(· == 1), beq_iff_eq.mpr h, fun _ => rfl⟩
  · split
    next h => exact ⟨(· == 2), beq_iff_eq.mpr h, fun _ => rfl⟩
    · split
      next h => exact ⟨(· == 3), beq_iff_eq.mpr h, fun _ => rfl⟩
      · exact ⟨fun o => o == 0 || decide (4 ≤ o), by simp; omega, fun _ => rfl⟩

section served
variable {s : State} {m : Option Msg} {op i : Nat} {data : Bytes}

/-- No operation stands before the register's side of the unit, or the service's. -/
theorem State.sessServe_none {svc : Bool} (hs : svc = true → s.headSound sessEp) (h : s.sessNext svc = none) (p : Nat → Bool) :
    s.sessServe svc p = s := by
  unfold State.sessServe
  cases svc with
  | false => simp only [Bool.false_eq_true, if_false, h]
  | true => simp only [if_true, show s.dropSpoilt sessEp (fun _ => true) = s from State.dropSpoilt_sound (hs rfl), h]

theorem State.sessNext_offered (hops : s.cipher.ops = []) (h : s.sessOffered m op i data) :
    s.sessNext m.isSome = some (s.sessAsked m op i data, s.sessTaken m) := by
  cases m with
  | none =>
    obtain ⟨hb, rfl, rfl, rfl⟩ := h
    refine if_pos ⟨State.flag_of_one hb, ?_⟩
    rw [hops]
    rfl
  | some x =>
    obtain ⟨w, rest, q, hq, hc, -, hw, rfl, rfl, rfl⟩ := h
    have hh := State.headAt_committed hq hc
    unfold State.sessNext
    simp only [Option.isSome_some, if_true, hh, hw, List.headD_cons, List.tail_cons]
    rfl

theorem State.sessOffered_sound (h : s.sessOffered m op i data) : m.isSome = true → s.headSound sessEp := by
  intro hm
  obtain ⟨x, rfl⟩ := Option.isSome_iff_exists.mp hm
  obtain ⟨w, rest, q, hq, -, hk, -⟩ := h
  intro y r hy
  rw [hq] at hy
  exact (List.cons.inj hy).1 ▸ hk

theorem exec_sessCommand (hops : s.cipher.ops = []) (h : s.sessOffered m op i data) :
    exec (sessCommand op m.isSome) s = .next ((s.sessTaken m).sessRun (s.sessAsked m op i data)) := by
  obtain ⟨p, hp, he⟩ := exec_sessCommand_serves op m.isSome
  have hs : (if m.isSome = true then s.dropSpoilt sessEp (fun _ => true) else s) = s := by
    split
    next hm => exact State.dropSpoilt_sound (State.sessOffered_sound h hm)
    · rfl
  rw [he, State.sessServe, hs, State.sessNext_offered hops h]
  exact congrArg Host.Outcome.next (if_pos hp)

end served

/-! ### What an operation is refused for, and what it waits for -/

section judged
variable {s : State} {m : Option Msg} {op i : Nat} {data : Bytes}

theorem State.sessFault_code (h : op = 0 ∨ 4 < op) : s.sessOpFault (s.sessAsked m op i data) = some (2, 3) := if_pos h

theorem State.sessFault_index (hlo : 1 ≤ op) (hhi : op ≤ 4) (h : s.rd F.CIPHER_SESS_CFG.COUNT ≤ i) :
    s.sessOpFault (s.sessAsked m op i data) = some (4, 0x0D) := (if_neg (show ¬ (op = 0 ∨ 4 < op) by omega)).trans (if_pos h)

theorem State.sessHome_one : s.sessHome i = 1 ↔ s.rd F.CIPHER_SESS_CFG.SPLIT ≤ i := by
  unfold State.sessHome
  split <;> simp <;> omega

theorem State.sessFault_fenced (hlo : 1 ≤ op) (hhi : op ≤ 4) (h : i < s.rd F.CIPHER_SESS_CFG.COUNT) (hs : s.rd F.CIPHER_SESS_CFG.SPLIT ≤ i)
    (hf : s.fencedB = true) : s.sessOpFault (s.sessAsked m op i data) = some (0x0E, 0x11) :=
  (if_neg (show ¬ (op = 0 ∨ 4 < op) by omega)).trans ((if_neg (Nat.not_le.mpr h)).trans (if_pos ⟨State.sessHome_one.mpr hs, hf⟩))

/-- Behind the checks of the code, the index and the half stands that of the sender (R194, R198). -/
theorem State.sessFault_sender (hlo : 1 ≤ op) (hhi : op ≤ 4) (h : i < s.rd F.CIPHER_SESS_CFG.COUNT)
    (hh : i < s.rd F.CIPHER_SESS_CFG.SPLIT ∨ s.fencedB = false) : s.sessOpFault (s.sessAsked m op i data) =
    if m.isSome = true ∧ (op = 4 ∨ (op ≤ 2 ∧ leAt data 0 1 = 10) ∨ (op ≠ 1 ∧ s.sessKind i = 10)) ∨ (m = none ∧ op = 1 ∧ s.cipher.cmdCobbler = false) then
      some (3, 0x0A)
    else none := by
  have hfence : ¬ (s.sessHome i = 1 ∧ s.fencedB = true) := by
    rintro ⟨h1, h2⟩
    rcases hh with hh | hh
    · exact absurd (State.sessHome_one.mp h1) (Nat.not_le.mpr hh)
    · rw [hh] at h2; cases h2
  refine (if_neg (show ¬ (op = 0 ∨ 4 < op) by omega)).trans ((if_neg (Nat.not_le.mpr h)).trans ((if_neg hfence).trans ?_))
  cases m with
  | none =>
    by_cases hc : op = 1 ∧ s.cipher.cmdCobbler = false
    · exact (if_pos ⟨hc.1, by simp [State.sessAsked, hc.2]⟩).trans (if_pos (.inr ⟨rfl, hc⟩)).symm
    · exact (if_neg fun hx => hc ⟨hx.1, by simpa [State.sessAsked] using hx.2⟩).trans
        (if_neg fun hx => hx.elim (fun hy => absurd hy.1 (by simp)) fun hy => hc hy.2).symm
  | some x =>
    by_cases hc : op = 4 ∨ (op ≤ 2 ∧ leAt data 0 1 = 10) ∨ (op ≠ 1 ∧ s.sessKind i = 10)
    · exact (if_pos hc).trans (if_pos (.inl ⟨rfl, hc⟩)).symm
    · exact (if_neg hc).trans (if_neg fun hx => hx.elim (fun hy => hc hy.2) fun hy => absurd hy.1 (by simp)).symm

theorem State.sessFault_allowed (h : s.sessAllowed m op i data) : s.sessOpFault (s.sessAsked m op i data) = none := by
  obtain ⟨hlo, hhi, hc, hh, hsvc, hcob⟩ := h
  rw [State.sessFault_sender hlo hhi hc hh]
  refine if_neg ?_
  rintro (⟨hm, hx⟩ | ⟨hm, h1, hx⟩)
  · obtain ⟨h4, hk, hs⟩ := hsvc hm
    rcases hx with hx | ⟨h2, hx⟩ | ⟨h1, hx⟩
    · exact h4 hx
    · exact hk h2 hx
    · exact hs h1 hx
  · rw [hcob hm h1] at hx
    cases hx

end judged

/-- An operation with no earlier one of its session waits for the session's record and its admitted jobs (R196). -/
theorem State.sessWaits_iff {s : State} {o : SessOp} (h : s.cipher.ops.any (fun x => x.index == o.index && decide (x.id < o.id)) = false) :
    s.sessWaits o = true ↔ ¬ s.sessFree o.op o.index := by
  have hrec : (s.cipher.installed.contains o.index && (s.keySlot o.index).isNone) = true ↔
      ¬ (o.index ∈ s.cipher.installed → (s.keySlot o.index).isSome = true) := by
    simp [Option.isNone_iff_eq_none]
  have hjobs : ((o.op == 1 || o.op == 3) && s.cipher.jobs.any (fun j => j.session == o.index && j.holds)) = true ↔
      ¬ (o.op = 1 ∨ o.op = 3 → ∀ j ∈ s.cipher.jobs, j.session = o.index → j.stage = .arrived) := by
    simp [CipherJob.holds]
  rw [State.sessWaits, h, Bool.false_or, Bool.or_eq_true, hrec, hjobs, State.sessFree, not_and_or]

theorem State.sessWaits_free {s : State} {o : SessOp} (h : s.cipher.ops.any (fun x => x.index == o.index && decide (x.id < o.id)) = false)
    (hf : s.sessFree o.op o.index) : s.sessWaits o = false := Bool.eq_false_iff.mpr fun hw => (State.sessWaits_iff h).mp hw hf

/-! ### What an operation does (R193 to R195) -/

section applied
variable {s : State} {o : SessOp}

/-- Of two checks in order, the first that fails gives the fault; where neither does, a third may. -/
theorem faults_or {A B : Prop} [Decidable A] [Decidable B] (a b : Nat × Nat) (x : Option (Nat × Nat)) :
    (if A then some a else if B then some b else x) = (if A then some a else if B then some b else none).or x := by
  split
  · rfl
  · split <;> simp

theorem faults_cases {A B : Prop} [Decidable A] [Decidable B] {a b f : Nat × Nat} (h : (if A then some a else if B then some b else none) = some f) :
    f = a ∨ f = b := by
  split at h
  · exact .inl (Option.some.inj h).symm
  · split at h
    · exact .inr (Option.some.inj h).symm
    · cases h

/-- The fault of an INSTALL is one of its plaintext, or else that of a key already used up (R194). -/
theorem installFault_eq (p : Bytes) (old : Option KeySlot) : installFault p old = (installFault p none).or (match old with
    | some o => if o.st.testBit 1 ∧ sKey1 o.plain = sKey1 p then some (4, 0x0B) else none
    | none => none) := faults_or _ _ _

theorem installFault_fresh {p : Bytes} {f : Nat × Nat} (h : installFault p none = some f) : f = (2, 9) ∨ f = (stRange, cdLimit) := faults_cases h

theorem installFault_kind {p : Bytes} (h : leAt p 0 1 = 0 ∨ 10 < leAt p 0 1) (old : Option KeySlot) : installFault p old = some (2, 9) :=
  if_pos (h.elim .inl fun h => .inr (.inl h))

/-- The session has its new plaintext, VALID alone. -/
def State.sessInstalled (s : State) (o : SessOp) : State :=
  (s.setSlotKey o.index o.data 1).setCipher { (s.setSlotKey o.index o.data 1).cipher with installed := insertNat o.index s.cipher.installed }

theorem State.sessApply_installFault {f : Nat × Nat} (ho : o.op = 1) (hf : installFault o.data (s.keySlot o.index) = some f) :
    s.sessApply o = some (f, s) := by
  unfold State.sessApply
  simp only [if_pos ho, hf]

theorem State.makeRoom_room {i : Nat} (h : s.slotRoom i) : s.makeRoom (s.sessHome i) = (true, s) := if_pos h

theorem State.sessApply_install (ho : o.op = 1) (hf : installFault o.data (s.keySlot o.index) = none)
    (hr : (s.keySlot o.index).isSome = true ∨ s.slotRoom o.index) : s.sessApply o = some ((0, 0), s.sessInstalled o) := by
  have hroom : (if (s.keySlot o.index).isSome = true then (true, s) else s.makeRoom (s.sessHome o.index)) = (true, s) := by
    split
    · rfl
    next hk => exact State.makeRoom_room (hr.resolve_left hk)
  unfold State.sessApply
  simp only [if_pos ho, hf, hroom]
  rfl

theorem State.sessApply_missing (ho : o.op ≠ 1) (hk : s.keySlot o.index = none) :
    s.sessApply o = some (if o.op = 3 then (0, 0) else (3, 1), s) := by
  unfold State.sessApply
  simp only [if_neg ho, hk]
  rfl

theorem State.sessApply_invalidate {k : KeySlot} (ho : o.op = 3) (hk : s.keySlot o.index = some k) :
    s.sessApply o = some ((0, 0), s.setSlotKey o.index k.plain (k.st &&& 6)) := by
  unfold State.sessApply
  simp only [ho, hk]
  rfl

/-- READ shows the plaintext with zeros for the salt and the keys. -/
theorem State.sessApply_read {k : KeySlot} (ho : o.op = 4) (hk : s.keySlot o.index = some k) : s.sessApply o =
    some ((0, 0), (s.sessDataTo (putB k.plain 0x14 (List.replicate 76 0#8)) 56).wr F.CIPHER_SESS_STATUS.STATE k.st) := by
  unfold State.sessApply
  simp only [ho, hk]
  rfl

/-- A session's plaintext with new limits. -/
def KeySlot.limited (k : KeySlot) (data : Bytes) : Bytes := putB k.plain 0x68 (sliceB data 0x68 16)

/-- A session that has used a value above its limit (R195, R199). -/
def limitPassed (p : Bytes) : Bool :=
  (if outboundKind (sKind p) || sKind p == 9 then decide (firstValue (sKind p) < sCounter p) && decide (sHard p < sCounter p - 1)
    else decide (sHard p < sCounter p)) && sKind p != 1 && sKind p != 10

theorem State.sessApply_limits {k : KeySlot} (ho : o.op = 2) (hk : s.keySlot o.index = some k) : s.sessApply o = some ((0, 0),
    if limitPassed (k.limited o.data) = true ∧ k.st.testBit 1 = false then s.exhaust o.index k (k.limited o.data)
    else s.setSlotKey o.index (k.limited o.data) k.st) := by
  unfold State.sessApply
  simp only [ho, hk, ← Bool.not_eq_true']
  rfl

end applied

/-! ### What the key slots hold then -/

section slots
variable {s : State} {i : Nat}

theorem State.setSlotKey_same (p : Bytes) (st : Nat) : (s.setSlotKey i p st).keySlot i = some ⟨p, st, s.cipher.nextId⟩ := AMap.get?_set_same _ _ _

theorem State.setSlotKey_other {x : Nat} (p : Bytes) (st : Nat) (h : x ≠ i) : (s.setSlotKey i p st).keySlot x = s.keySlot x :=
  AMap.get?_set_other _ _ _ _ h

/-- With no notice to send, a session that becomes EXHAUSTED writes its event and its bit (R201). -/
theorem State.exhaust_quiet (h : s.rd F.CIPHER_NOTIFY.EN = 0) (k : KeySlot) (p : Bytes) : s.exhaust i k p =
    ((s.setSlotKey i p (k.st ||| 2)).event cipherNote (2 <<< 60 ||| sTenant p <<< 20 ||| i)).wr F.CIPHER_EVENT.EXHAUSTED 1 := by
  refine if_neg (State.not_flag_of_zero ?_)
  rw [State.rd_wr_apart _ _ _ _ (by decide) (by decide), State.event_rd_apart _ _ (by decide)]
  exact h

section limits
variable {k : KeySlot} {data : Bytes}

theorem KeySlot.limited_length (h : k.plain.length = 224) : (k.limited data).length = 224 := by
  have hv := sliceB_length data 0x68 16
  rw [KeySlot.limited, putB_length (by omega), h]

theorem KeySlot.limited_kind : sKind (k.limited data) = sKind k.plain := leAt_putB_apart _ _ _ (.inl (by decide))

theorem KeySlot.limited_counter : sCounter (k.limited data) = sCounter k.plain := leAt_putB_apart _ _ _ (.inl (by decide))

theorem KeySlot.limited_soft : sSoft (k.limited data) = sSoft data := by
  have hv := sliceB_length data 0x68 16
  rw [sSoft, KeySlot.limited, leAt_putB_inside _ _ _ (by omega) (by omega), leAt_sliceB (by omega)]
  rfl

theorem KeySlot.limited_hard : sHard (k.limited data) = sHard data := by
  have hv := sliceB_length data 0x68 16
  rw [sHard, KeySlot.limited, leAt_putB_inside _ _ _ (by omega) (by omega), leAt_sliceB (by omega)]
  rfl

theorem KeySlot.limited_byte (h : k.plain.length = 224) {n : Nat} (hn : n < 224) (ho : n < 0x68 ∨ 0x78 ≤ n) :
    (k.limited data)[n]? = k.plain[n]? := by
  have hb : (k.limited data).getD n 0#8 = k.plain.getD n 0#8 := by
    have hv := sliceB_length data 0x68 16
    rw [KeySlot.limited, putB_getD, if_pos (by omega)]
  rw [List.getD_eq_getElem _ _ (by rw [KeySlot.limited_length h]; exact hn), List.getD_eq_getElem _ _ (by omega)] at hb
  rw [List.getElem?_eq_getElem (by rw [KeySlot.limited_length h]; exact hn), List.getElem?_eq_getElem (by omega), hb]

/-- Of a kind whose next value the counter is, the last value used counts. -/
theorem KeySlot.limited_next {c : Nat} (hk : sKind k.plain ∈ [2, 3, 4, 6, 8, 9]) (hc : sCounter k.plain = c + 1) :
    limitPassed (k.limited data) = true ↔ firstValue (sKind k.plain) ≤ c ∧ sHard data < c := by
  rw [limitPassed, KeySlot.limited_kind, KeySlot.limited_counter, KeySlot.limited_hard, hc]
  generalize sKind k.plain = n at hk ⊢
  simp only [List.mem_cons, List.not_mem_nil, or_false] at hk
  rcases hk with rfl | rfl | rfl | rfl | rfl | rfl <;> simp [outboundKind, firstValue] <;> omega

/-- Of an inbound kind, the counter is the largest number accepted. -/
theorem KeySlot.limited_largest (hk : sKind k.plain ∈ [5, 7]) : limitPassed (k.limited data) = true ↔ sHard data < sCounter k.plain := by
  rw [limitPassed, KeySlot.limited_kind, KeySlot.limited_counter, KeySlot.limited_hard]
  generalize sKind k.plain = n at hk ⊢
  simp only [List.mem_cons, List.not_mem_nil, or_false] at hk
  rcases hk with rfl | rfl <;> simp [outboundKind]

end limits

/-- The words that READ shows are those of the plaintext, the salt's and the keys' zero. -/
theorem leAt_keysZero (p : Bytes) {w : Nat} : leAt (putB p 0x14 (List.replicate 76 0#8)) (4 * w) 4 = if 5 ≤ w ∧ w < 24 then 0 else leAt p (4 * w) 4 := by
  have hv := List.length_replicate (n := 76) (a := 0#8)
  split
  · rw [leAt_putB_inside _ _ _ (by omega) (by omega), leAt_zeros]
  · rw [leAt_putB_apart _ _ _ (by omega)]

end slots

end Sys2Proof.Machine
end

section
/-! How session operations and arriving session records end (R75, R181, R190, R191, R193 to R198). -/

namespace Sys2Proof.Machine

open Sys2Proof

/-! ### An operation is answered -/

section answered
variable {s : State} {m : Option Msg} {op i : Nat} {data : Bytes}

theorem State.sessDone_slots {v : State} {o : SessOp} {r : Nat × Nat} : (v.sessDone o r).cipher.slots = v.cipher.slots := by
  rw [State.sessDone_cipher]
  rfl

theorem State.sessDone_keySlot {v : State} {o : SessOp} {r : Nat × Nat} (x : Nat) : (v.sessDone o r).keySlot x = v.keySlot x :=
  congrArg (fun l => AMap.get? l x) State.sessDone_slots

theorem State.sessDone_opAnswered {v : State} {r : Nat × Nat} (hy : v.yarn = (s.sessTaken m).yarn) (h1 : r.1 < 256) (h2 : r.2 < 256) :
    s.opAnswered (v.sessDone (s.sessAsked m op i data) r) m r := by
  have hq := (State.sessDone_queues (v := v) (o := s.sessAsked m op i data) (r := r)).trans (congrArg Yarn.queues hy)
  cases m with
  | none => exact ⟨State.sessDone_reported rfl h1 h2, hq⟩
  | some x =>
    refine ⟨State.sessDone_answers rfl ((congrArg Yarn.flights hy).trans rfl) h1, ?_⟩
    rw [State.queueAt, hq]
    exact s.setQueue_queueAt_same sessEp (s.queueAt sessEp).tail

variable (hops : s.cipher.ops = []) (hoff : s.sessOffered m op i data)
include hops hoff

theorem exec_sess_refused {f : Nat × Nat} (hf : s.sessOpFault (s.sessAsked m op i data) = some f) (h1 : f.1 < 256) (h2 : f.2 < 256) :
    ∃ t, exec (sessCommand op m.isSome) s = .next t ∧ s.opAnswered t m f ∧ t.cipher.slots = s.cipher.slots := by
  have hrun : (s.sessTaken m).sessRun (s.sessAsked m op i data) = (s.sessTaken m).sessDone (s.sessAsked m op i data) f := by
    rw [State.sessRun, show (s.sessTaken m).sessOpFault (s.sessAsked m op i data) = some f from hf]
  rw [exec_sessCommand hops hoff, hrun]
  exact ⟨_, rfl, State.sessDone_opAnswered rfl h1 h2, State.sessDone_slots⟩

variable (hall : s.sessAllowed m op i data)
include hall

/-- The session's record is fetched for an operation that waits for it. -/
theorem exec_sess_waits (hfree : ¬ s.sessFree op i) : exec (sessCommand op m.isSome) s = .next
    (if s.cipher.installed.contains i ∧ (s.keySlot i).isNone then
      ((s.sessTaken m).setCipher { (s.sessTaken m).cipher with ops := [s.sessAsked m op i data] }).fetchSession i
    else (s.sessTaken m).setCipher { (s.sessTaken m).cipher with ops := [s.sessAsked m op i data] }) := by
  have hw : (s.sessTaken m).sessWaits (s.sessAsked m op i data) = true := (State.sessWaits_iff (s := s) (by rw [hops]; rfl)).mpr hfree
  have hl : (s.sessTaken m).cipher.ops ++ [s.sessAsked m op i data] = [s.sessAsked m op i data] := congrArg (· ++ _) hops
  rw [exec_sessCommand hops hoff, State.sessRun, show (s.sessTaken m).sessOpFault (s.sessAsked m op i data) = none from State.sessFault_allowed hall, hl]
  simp only [hw, if_true]
  rfl

variable (hfree : s.sessFree op i)
include hfree

theorem exec_sess_applied {r : Nat × Nat} {v : State} (ha : (s.sessTaken m).sessApply (s.sessAsked m op i data) = some (r, v)) :
    exec (sessCommand op m.isSome) s = .next (v.sessDone (s.sessAsked m op i data) r) := by
  have hw : (s.sessTaken m).sessWaits (s.sessAsked m op i data) = false := State.sessWaits_free (s := s) (by rw [hops]; rfl) hfree
  rw [exec_sessCommand hops hoff, State.sessRun, show (s.sessTaken m).sessOpFault (s.sessAsked m op i data) = none from State.sessFault_allowed hall]
  simp only [hw, Bool.false_eq_true, if_false, ha]

/-- An operation that finds nothing to do is answered, and the key slots stay. -/
theorem exec_sess_unchanged {r : Nat × Nat} (ha : (s.sessTaken m).sessApply (s.sessAsked m op i data) = some (r, s.sessTaken m)) (h1 : r.1 < 256)
    (h2 : r.2 < 256) : ∃ t, exec (sessCommand op m.isSome) s = .next t ∧ s.opAnswered t m r ∧ t.cipher.slots = s.cipher.slots := by
  rw [exec_sess_applied hops hoff hall hfree ha]
  exact ⟨_, rfl, State.sessDone_opAnswered rfl h1 h2, State.sessDone_slots⟩

end answered

/-! ### INSTALL, LIMITS, INVALIDATE and READ -/

section operations
variable {s : State} {m : Option Msg} {i : Nat} {data : Bytes} (hops : s.cipher.ops = [])
include hops

section install
variable (hoff : s.sessOffered m 1 i data) (hall : s.sessAllowed m 1 i data) (hfree : s.sessFree 1 i)
include hoff hall hfree

theorem exec_install_fault {f : Nat × Nat} (hf : installFault data (s.keySlot i) = some f) (h1 : f.1 < 256) (h2 : f.2 < 256) :
    ∃ t, exec (.install m.isSome) s = .next t ∧ s.opAnswered t m f ∧ t.cipher.slots = s.cipher.slots :=
  exec_sess_unchanged hops hoff hall hfree (State.sessApply_installFault (o := s.sessAsked m 1 i data) rfl hf) h1 h2

theorem exec_install_done (hf : installFault data (s.keySlot i) = none) (hr : (s.keySlot i).isSome = true ∨ s.slotRoom i) :
    ∃ t k, exec (.install m.isSome) s = .next t ∧ s.opAnswered t m (0, 0) ∧ t.keySlot i = some k ∧ k.plain = data ∧ k.st = 1 ∧
      i ∈ t.cipher.installed ∧ (∀ x, x ≠ i → t.keySlot x = s.keySlot x) ∧ t.cipher.jobs = s.cipher.jobs := by
  have ha := State.sessApply_install (s := s.sessTaken m) (o := s.sessAsked m 1 i data) rfl hf hr
  refine ⟨_, _, exec_sess_applied hops hoff hall hfree ha, State.sessDone_opAnswered rfl (by decide) (by decide),
    (State.sessDone_keySlot i).trans (State.setSlotKey_same (s := s.sessTaken m) data 1), rfl, rfl, ?_, fun x hx =>
    (State.sessDone_keySlot x).trans (State.setSlotKey_other (s := s.sessTaken m) data 1 hx), ?_⟩
  · rw [State.sessDone_cipher]
    exact mem_insertNat.mpr (.inl rfl)
  · rw [State.sessDone_cipher]
    rfl

end install

section limits
variable (hoff : s.sessOffered m 2 i data) (hall : s.sessAllowed m 2 i data) (hfree : s.sessFree 2 i)
include hoff hall hfree

theorem exec_limits_missing (hk : s.keySlot i = none) :
    ∃ t, exec (.limits m.isSome) s = .next t ∧ s.opAnswered t m (3, 1) ∧ t.cipher.slots = s.cipher.slots :=
  exec_sess_unchanged (r := (3, 1)) hops hoff hall hfree (State.sessApply_missing (s := s.sessTaken m) (o := s.sessAsked m 2 i data) (show 2 ≠ 1 by decide) hk) (by decide) (by decide)

theorem exec_limits_done {k : KeySlot} (hk : s.keySlot i = some k) (hen : s.rd F.CIPHER_NOTIFY.EN = 0) :
    ∃ t k', exec (.limits m.isSome) s = .next t ∧ s.opAnswered t m (0, 0) ∧ t.keySlot i = some k' ∧ k'.plain = k.limited data ∧
      (∀ x, x ≠ i → t.keySlot x = s.keySlot x) ∧
      (limitPassed (k.limited data) = true → k.st.testBit 1 = false → k'.st = k.st ||| 2 ∧ t.rd F.CIPHER_EVENT.EXHAUSTED = 1) ∧
      (limitPassed (k.limited data) = false ∨ k.st.testBit 1 = true →
        k'.st = k.st ∧ t.rd F.CIPHER_EVENT.EXHAUSTED = s.rd F.CIPHER_EVENT.EXHAUSTED) := by
  have ha := State.sessApply_limits (s := s.sessTaken m) (o := s.sessAsked m 2 i data) rfl hk
  by_cases hx : limitPassed (k.limited data) = true ∧ k.st.testBit 1 = false
  · have hq : (s.sessTaken m).exhaust i k (k.limited data) = _ := State.exhaust_quiet (s := s.sessTaken m) hen k _
    have ha' := ha.trans (congrArg (fun v : State => some ((0, 0), v)) ((if_pos hx).trans hq))
    refine ⟨_, ⟨k.limited data, k.st ||| 2, (s.sessTaken m).cipher.nextId⟩, exec_sess_applied hops hoff hall hfree ha', State.sessDone_opAnswered ?_ (by decide) (by decide),
      (State.sessDone_keySlot i).trans ?_, rfl, fun x hne => (State.sessDone_keySlot x).trans ?_, fun _ _ => ⟨rfl, ?_⟩, fun h => ?_⟩
    · rw [State.wr_yarn, State.event_yarn]; rfl
    · rw [State.keySlot, State.wr_cipher, State.event_cipher]
      exact State.setSlotKey_same (s := s.sessTaken m) _ _
    · rw [State.keySlot, State.wr_cipher, State.event_cipher]
      exact State.setSlotKey_other (s := s.sessTaken m) _ _ hne
    · rw [State.sessDone_apart (by decide), State.rd_wr_same _ _ _ (by decide)]
      rfl
    · rcases h with h | h
      · rw [hx.1] at h; cases h
      · rw [hx.2] at h; cases h
  · have ha' := ha.trans (congrArg (fun v : State => some ((0, 0), v)) (if_neg hx))
    refine ⟨_, ⟨k.limited data, k.st, (s.sessTaken m).cipher.nextId⟩, exec_sess_applied hops hoff hall hfree ha', State.sessDone_opAnswered rfl (by decide) (by decide),
      (State.sessDone_keySlot i).trans (State.setSlotKey_same (s := s.sessTaken m) _ _), rfl, fun x hne =>
      (State.sessDone_keySlot x).trans (State.setSlotKey_other (s := s.sessTaken m) _ _ hne), fun h1 h2 => absurd ⟨h1, h2⟩ hx, fun _ => ⟨rfl, ?_⟩⟩
    rw [State.sessDone_apart (by decide)]
    rfl

end limits

section invalidate
variable (hoff : s.sessOffered m 3 i data) (hall : s.sessAllowed m 3 i data) (hfree : s.sessFree 3 i)
include hoff hall hfree

theorem exec_invalidate_missing (hk : s.keySlot i = none) :
    ∃ t, exec (.invalidate m.isSome) s = .next t ∧ s.opAnswered t m (0, 0) ∧ t.cipher.slots = s.cipher.slots :=
  exec_sess_unchanged (r := (0, 0)) hops hoff hall hfree (State.sessApply_missing (s := s.sessTaken m) (o := s.sessAsked m 3 i data) (show 3 ≠ 1 by decide) hk) (by decide) (by decide)

theorem exec_invalidate_done {k : KeySlot} (hk : s.keySlot i = some k) :
    ∃ t k', exec (.invalidate m.isSome) s = .next t ∧ s.opAnswered t m (0, 0) ∧ t.keySlot i = some k' ∧ k'.plain = k.plain ∧
      k'.st = k.st &&& 6 ∧ (∀ x, x ≠ i → t.keySlot x = s.keySlot x) :=
  ⟨_, _, exec_sess_applied hops hoff hall hfree (State.sessApply_invalidate (s := s.sessTaken m) (o := s.sessAsked m 3 i data) rfl hk),
    State.sessDone_opAnswered rfl (by decide) (by decide), (State.sessDone_keySlot i).trans (State.setSlotKey_same (s := s.sessTaken m) _ _), rfl, rfl,
    fun x hne => (State.sessDone_keySlot x).trans (State.setSlotKey_other (s := s.sessTaken m) _ _ hne)⟩

end invalidate

section read
variable (hoff : s.sessOffered none 4 i data) (hall : s.sessAllowed none 4 i data) (hfree : s.sessFree 4 i)
include hoff hall hfree

theorem exec_sessionRead_missing (hk : s.keySlot i = none) :
    ∃ t, exec (.sessionRead false) s = .next t ∧ t.sessReported (3, 1) ∧ t.cipher.slots = s.cipher.slots := by
  obtain ⟨t, he, ⟨hrep, -⟩, hs⟩ := exec_sess_unchanged (r := (3, 1)) hops hoff hall hfree
    (State.sessApply_missing (s := s.sessTaken none) (o := s.sessAsked none 4 i data) (show 4 ≠ 1 by decide) hk) (by decide) (by decide)
  exact ⟨t, he, hrep, hs⟩

theorem exec_sessionRead_done {k : KeySlot} (hk : s.keySlot i = some k) (hst : k.st < 8) :
    ∃ t, exec (.sessionRead false) s = .next t ∧ t.sessReported (0, 0) ∧ t.cipher.slots = s.cipher.slots ∧ t.rd F.CIPHER_SESS_STATUS.STATE = k.st ∧
      (∀ w < 56, t.rd (F.CIPHER_SESS_DATA.W w) = if 5 ≤ w ∧ w < 24 then 0 else leAt k.plain (4 * w) 4) := by
  have ha := State.sessApply_read (s := s.sessTaken none) (o := s.sessAsked none 4 i data) rfl hk
  refine ⟨_, exec_sess_applied hops hoff hall hfree ha, State.sessDone_reported rfl (by decide) (by decide), State.sessDone_slots.trans ?_, ?_,
    fun w hw => ?_⟩
  · have e := congrArg State.cipher ((s.sessTaken none).sessDataTo_only (putB k.plain 0x14 (List.replicate 76 0#8)) 56)
    exact (congrArg Cipher.slots e).trans rfl
  · rw [State.sessDone_apart (by decide), State.rd_wr_same _ _ _ (by decide)]
    exact Nat.mod_eq_of_lt hst
  · have hapart : ∀ f ∈ [F.CIPHER_SESS_CMD.BUSY, F.CIPHER_SESS_CMD.GO, F.CIPHER_SESS_STATUS.DONE, F.CIPHER_SESS_STATUS.DETAIL,
        F.CIPHER_SESS_STATUS.STATUS], f.apart (F.CIPHER_SESS_DATA.W w) = true := by
      simp only [List.forall_mem_cons, FRef.apart_iff, F.CIPHER_SESS_CMD.BUSY, F.CIPHER_SESS_CMD.GO, F.CIPHER_SESS_STATUS.DONE,
        F.CIPHER_SESS_STATUS.DETAIL, F.CIPHER_SESS_STATUS.STATUS, F.CIPHER_SESS_DATA.W]
      refine ⟨.inl (by omega), .inl (by omega), .inl (by omega), .inl (by omega), .inl (by omega), by simp⟩
    rw [State.sessDone_apart hapart, State.rd_wr_addr _ _ _ _ (by simp only [F.CIPHER_SESS_DATA.W, F.CIPHER_SESS_STATUS.STATE]; omega),
      State.sessDataTo_rd _ _ hw, leAt_keysZero]

end read

end operations

/-! ### An operation that waited (R196) -/

section opDone
variable {s : State} {o : SessOp} (hops : s.cipher.ops = [o])
include hops

theorem State.sessWaits_alone : s.cipher.ops.any (fun x => x.index == o.index && decide (x.id < o.id)) = false := by
  rw [hops]
  simp

theorem exec_sessionOpDone_eq : exec (.sessionOpDone o.index) s =
    if s.sessWaits o then .next (if (s.keySlot o.index).isNone ∧ s.cipher.installed.contains o.index then s.fetchSession o.index else s)
    else match s.sessApply o with
      | some (r, v) => .next (v.sessDone o r)
      | none => .next s := by
  have hfind : s.cipher.ops.find? (fun x => x.index == o.index) = some o := by
    rw [hops]
    exact List.find?_cons_of_pos (by simp)
  show execSessionOpDone o.index s = _
  rw [execSessionOpDone, hfind] <;> rfl

theorem exec_sessionOpDone_waits (hfree : ¬ s.sessFree o.op o.index) (hk : (s.keySlot o.index).isSome = true ∨ o.index ∉ s.cipher.installed) :
    exec (.sessionOpDone o.index) s = .next s := by
  have hno : ¬ ((s.keySlot o.index).isNone = true ∧ s.cipher.installed.contains o.index = true) := by
    rintro ⟨h1, h2⟩
    rcases hk with hk | hk
    · rw [Option.isNone_iff_eq_none] at h1
      rw [h1] at hk; cases hk
    · exact hk (List.contains_iff_mem.mp h2)
  rw [exec_sessionOpDone_eq hops, if_pos ((State.sessWaits_iff (State.sessWaits_alone hops)).mpr hfree), if_neg hno]

theorem exec_sessionOpDone_applied (hfree : s.sessFree o.op o.index) {r : Nat × Nat} {v : State} (ha : s.sessApply o = some (r, v)) :
    exec (.sessionOpDone o.index) s = .next (v.sessDone o r) := by
  rw [exec_sessionOpDone_eq hops, State.sessWaits_free (State.sessWaits_alone hops) hfree, ha]
  rfl

/-- The last operation has been answered. -/
theorem State.sessDone_noOps {v : State} (hv : v.cipher.ops = s.cipher.ops) (r : Nat × Nat) : (v.sessDone o r).cipher.ops = [] := by
  rw [State.sessDone_cipher, State.sessOpGone, State.setCipher, hv, hops]
  simp

end opDone

/-! ### A job of a CSUB ends before it was admitted (R181) -/

/-- The register words but those of the cipher unit's events and counters. -/
def besideCipherCounts (a : Nat) : Prop := a < 0x1000300 ∨ 0x1000600 ≤ a

theorem besideCipherCounts_epoch {ep : Nat} (h : epRangeOk ep = true) : besideCipherCounts (epochF (spOf (epTid ep))).addr := by
  simp only [epRangeOk, Bool.and_eq_true, decide_eq_true_eq] at h
  obtain ⟨⟨hm, hs⟩, -⟩ := h
  have ht : bitsOf ep 7 5 < 8 := Nat.mod_lt _ (by decide)
  left
  simp only [epochF, F.MULE_ROLE.EPOCH, epTid, tidOf, spOf, muleOf, logOf]
  omega

section csub
variable {s c : State}

/-- What a unit's message meets does not depend on the cipher unit's events and counters. -/
theorem State.judge_besideCipher {m : Msg} (hsrc : epIsUnit m.src = true) (hq : c.yarn.queues = s.yarn.queues) (hl : c.yarn.layout = s.yarn.layout)
    (hu : c.q = s.q) (hw : State.wordsKept besideCipherCounts s c) (reply : Bool) : c.judge m reply = s.judge m reply := by
  have hfence : c.fencedB = s.fencedB := by
    rw [State.fencedB, State.fencedB, hw.rd (.inr (by decide))]
  have hkey (v : State) : v.keySource m.src = false := by rw [State.keySource, hsrc]; rfl
  have heng : c.engineAccepts m = s.engineAccepts m := by rw [State.engineAccepts, State.engineAccepts, hu]
  have hqueue (ep : Nat) : c.queueAt ep = s.queueAt ep := by rw [State.queueAt, State.queueAt, hq]
  have hcap (ep : Nat) : c.capacity ep = s.capacity ep := by rw [State.capacity, State.capacity, State.chanCfg, State.chanCfg, hl]
  have hext (ch : Nat) : c.chanExt ch = s.chanExt ch := by rw [State.chanExt, State.chanExt, State.chanCfg, State.chanCfg, hl]
  unfold State.judge
  simp only [hfence, hkey, heng, hqueue, hcap, hext]
  split
  · rfl
  · split
    · rfl
    next hr => rw [hw.rd (besideCipherCounts_epoch (Bool.not_eq_false _ ▸ hr))]

/-- The completion of a CSUB's job at its endpoint, or lost. -/
def State.replyMade (r : Verdict × State) : State :=
  match r with
  | (.ok, s) => s
  | (_, s) => (s.count F.CIPHER_STAT.REPLY_LOST.CNT 1).wr F.CIPHER_EVENT.REPLY_LOST 1

/-- A unit's message is tried once: it is queued, or no queue changes. -/
theorem State.trySend_cases (c : State) {src : Nat} (hsrc : epIsUnit src = true) (dst epoch tag : Nat) (words : List W64) (reply : Bool) :
    (c.freshMsg.2.judge (c.unitMsg src dst epoch tag words) reply = .ok ∧
      c.trySend src dst epoch tag words reply = (.ok, c.freshMsg.2.enqueue (c.unitMsg src dst epoch tag words))) ∨
    (c.freshMsg.2.judge (c.unitMsg src dst epoch tag words) reply ≠ .ok ∧ (c.trySend src dst epoch tag words reply).1 ≠ .ok ∧
      (c.trySend src dst epoch tag words reply).2.yarn.queues = c.yarn.queues ∧ (c.trySend src dst epoch tag words reply).2.cipher = c.cipher ∧
      State.wordsKept (0x600000 ≤ ·) c (c.trySend src dst epoch tag words reply).2) := by
  have hsend : c.trySend src dst epoch tag words reply = match c.freshMsg.2.judge (c.unitMsg src dst epoch tag words) reply with
      | .ok => (.ok, c.freshMsg.2.enqueue (c.unitMsg src dst epoch tag words))
      | .stale e => (.stale e, c.freshMsg.2.discardStale (c.unitMsg src dst epoch tag words) e)
      | v => (v, c.freshMsg.2) := rfl
  have hfresh : State.wordsKept (0x600000 ≤ ·) c c.freshMsg.2 := c.wordsKept_refl.of_csr rfl
  rw [hsend]
  cases hj : c.freshMsg.2.judge (c.unitMsg src dst epoch tag words) reply with
  | ok => exact .inl ⟨rfl, rfl⟩
  | full => exact .inr ⟨Verdict.noConfusion, Verdict.noConfusion, rfl, rfl, hfresh⟩
  | refused _ => exact .inr ⟨Verdict.noConfusion, Verdict.noConfusion, rfl, rfl, hfresh⟩
  | stale e =>
    have hn : c.freshMsg.2.discardStale (c.unitMsg src dst epoch tag words) e = c.freshMsg.2.count (F.MULE_STAT.STALE_DISCARD.CNT (epMule dst)) 1 :=
      if_pos hsrc
    refine .inr ⟨Verdict.noConfusion, Verdict.noConfusion, ?_, ?_, ?_⟩
    · exact (congrArg (fun v : State => v.yarn.queues) hn).trans rfl
    · exact (congrArg State.cipher hn).trans rfl
    · show State.wordsKept _ c (c.freshMsg.2.discardStale (c.unitMsg src dst epoch tag words) e)
      rw [hn]
      refine hfresh.count ?_ 1
      have hm : epMule dst < 64 := Nat.mod_lt _ (by decide)
      simp only [F.MULE_STAT.STALE_DISCARD.CNT]
      omega

theorem State.replyMade_facts (c : State) {src : Nat} (hsrc : epIsUnit src = true) (dst epoch tag : Nat) (words : List W64) (reply : Bool) {t : State}
    (ht : t = State.replyMade (c.trySend src dst epoch tag words reply)) : t.cipher = c.cipher ∧
    (∀ g : FRef, 0x600000 ≤ g.addr → F.CIPHER_STAT.REPLY_LOST.CNT.apart g = true → F.CIPHER_EVENT.REPLY_LOST.apart g = true → t.rd g = c.rd g) ∧
    (c.freshMsg.2.judge (c.unitMsg src dst epoch tag words) reply = .ok →
      t.queueAt dst = c.queueAt dst ++ [c.unitMsg src dst epoch tag words] ∧ t.rd F.CIPHER_STAT.REPLY_LOST.CNT = c.rd F.CIPHER_STAT.REPLY_LOST.CNT) ∧
    (c.freshMsg.2.judge (c.unitMsg src dst epoch tag words) reply ≠ .ok → t.yarn.queues = c.yarn.queues ∧ t.rd F.CIPHER_EVENT.REPLY_LOST = 1 ∧
      t.rd F.CIPHER_STAT.REPLY_LOST.CNT = min (c.rd F.CIPHER_STAT.REPLY_LOST.CNT + 1) (2 ^ 32 - 1)) := by
  rcases c.trySend_cases hsrc dst epoch tag words reply with ⟨hj, he⟩ | ⟨hj, hne, hq, hc, hw⟩
  · rw [he] at ht
    subst ht
    exact ⟨rfl, fun _ _ _ _ => rfl, fun _ => ⟨c.freshMsg.2.setQueue_queueAt_same dst _, rfl⟩, fun h => absurd hj h⟩
  · generalize c.trySend src dst epoch tag words reply = r at ht hne hq hc hw
    obtain ⟨v, u⟩ := r
    have ht' : t = (u.count F.CIPHER_STAT.REPLY_LOST.CNT 1).wr F.CIPHER_EVENT.REPLY_LOST 1 := by
      rw [ht]
      cases v with
      | ok => exact absurd rfl hne
      | full => rfl
      | stale _ => rfl
      | refused _ => rfl
    subst ht'
    refine ⟨hc, fun g hg h1 h2 => ?_, fun h => absurd h hj, fun _ => ⟨hq, State.rd_wr_same _ _ _ (by decide), ?_⟩⟩
    · rw [State.rd_wr_apart _ _ _ _ (by decide) h2, State.rd_count_apart _ _ _ _ (by decide) h1, hw.rd hg]
    · rw [State.rd_wr_apart _ _ _ _ (by decide) (by decide), State.rd_count_same _ _ _ (by decide), hw.rd (by decide)]
      rfl

/-- A job has left the unit. -/
def State.jobLeft (s : State) (j : CipherJob) : State :=
  s.setCipher { s.cipher with jobs := s.cipher.jobs.filter (fun x => x.id != j.id), engines := s.cipher.engines.filter (fun e => e.2.1 != j.id) }

theorem State.jobLeft_jobC (s : State) (j : CipherJob) : (s.jobLeft j).jobC j.id = none := by
  refine List.find?_eq_none.mpr fun x hx => ?_
  have := (List.mem_filter.mp hx).2
  simpa using this

theorem State.jobLeft_engines (s : State) (j : CipherJob) : ∀ e ∈ (s.jobLeft j).cipher.engines, e.2.1 ≠ j.id := fun e he => by
  have := (List.mem_filter.mp he).2
  simpa using this

theorem State.dropJobC_arrived {j : CipherJob} (hslot : j.slot = none) (htx : s.txOf (.cipher j.id) = none) : s.dropJobC j = s.jobLeft j := by
  have hleft : (s.jobLeft j).txOf (.cipher j.id) = none := htx
  unfold State.dropJobC
  simp only [hslot]
  show (match (s.jobLeft j).txOf (.cipher j.id) with
    | some t => (s.jobLeft j).dropTx t
    | none => s.jobLeft j) = s.jobLeft j
  rw [hleft]

/-- A job whose session's record did not pass its check completes DEVICE_ERROR. -/
theorem State.endCipher_unwrap {j : CipherJob} {tid reply ref : Nat} (ho : j.owner = .csub tid reply ref) (hslot : j.slot = none)
    (htx : s.txOf (.cipher j.id) = none) (hop : j.op < 256) : s.endCipher j 0x0F 0x0E 0 [] =
    State.replyMade (((s.jobLeft j).count F.CIPHER_STAT.JOBS.CNT 1).trySend (cipherEp j.home) (reply % 2 ^ 20) (bitsOf reply 27 20) (bitsOf reply 33 28)
      [BitVec.ofNat 64 (0x0F + 2 ^ 8 * 0x0E + 2 ^ 16 * j.op + 2 ^ 32 * 0), BitVec.ofNat 64 j.ctr, BitVec.ofNat 64 ref] (repliesTo tid reply)) := by
  have hw : 0x0F ||| 0x0E <<< 8 ||| j.op <<< 16 ||| 0 <<< 32 = 0x0F + 2 ^ 8 * 0x0E + 2 ^ 16 * j.op + 2 ^ 32 * 0 := by
    rw [or_shiftLeft_of_lt (k := 8) _ (by decide), or_shiftLeft_of_lt (k := 16) _ (by decide), or_shiftLeft_of_lt (k := 32) _ (by omega)]
  rw [← hw]
  unfold State.endCipher
  simp only [ho, State.dropJobC_arrived hslot htx]
  rfl

theorem State.endCipher_keeps {j : CipherJob} {tid reply ref : Nat} (ho : j.owner = .csub tid reply ref) (hslot : j.slot = none)
    (htx : s.txOf (.cipher j.id) = none) (hop : j.op < 256) : (s.endCipher j 0x0F 0x0E 0 []).cipher.ops = s.cipher.ops ∧
    (s.endCipher j 0x0F 0x0E 0 []).rd F.CIPHER_EVENT.UNWRAP_FAIL = s.rd F.CIPHER_EVENT.UNWRAP_FAIL := by
  obtain ⟨hcip, hrest, -, -⟩ := ((s.jobLeft j).count F.CIPHER_STAT.JOBS.CNT 1).replyMade_facts (epIsUnit_epUnit 2 j.home) (reply % 2 ^ 20)
    (bitsOf reply 27 20) (bitsOf reply 33 28) _ (repliesTo tid reply) (State.endCipher_unwrap ho hslot htx hop)
  refine ⟨(congrArg Cipher.ops hcip).trans rfl, ?_⟩
  rw [hrest _ (by decide) (by decide) (by decide), State.rd_count_apart _ _ _ _ (by decide) (by decide)]
  rfl

theorem State.endCipher_csubEnds {u : State} {j : CipherJob} {tid reply ref : Nat} (ho : j.owner = .csub tid reply ref) (hslot : j.slot = none)
    (htx : u.txOf (.cipher j.id) = none) (hop : j.op < 256) (hy : u.yarn = s.yarn) (hq : u.q = s.q)
    (hw : State.wordsKept besideCipherCounts s u) (hrd : ∀ g ∈ [F.CIPHER_STAT.JOBS.CNT, F.CIPHER_STAT.REPLY_LOST.CNT, F.CIPHER_STAT.AUTH_FAIL.CNT,
      F.CIPHER_STAT.NONCE_EXH.CNT], u.rd g = s.rd g) : s.csubEnds (u.endCipher j 0x0F 0x0E 0 []) j 0x0F 0x0E 0 := by
  let c : State := (u.jobLeft j).count F.CIPHER_STAT.JOBS.CNT 1
  have hsrc : epIsUnit (cipherEp j.home) = true := epIsUnit_epUnit 2 j.home
  simp only [List.forall_mem_cons] at hrd
  obtain ⟨hjobs, hlost, hauth, hnonce, -⟩ := hrd
  have hmsg : c.unitMsg (cipherEp j.home) (reply % 2 ^ 20) (bitsOf reply 27 20) (bitsOf reply 33 28)
      [BitVec.ofNat 64 (0x0F + 2 ^ 8 * 0x0E + 2 ^ 16 * j.op + 2 ^ 32 * 0), BitVec.ofNat 64 j.ctr, BitVec.ofNat 64 ref] =
      s.jobReply j reply ref 0x0F 0x0E 0 := by
    rw [State.unitMsg, show c.yarn = s.yarn from hy]
    rfl
  have hjudge : c.freshMsg.2.judge (s.jobReply j reply ref 0x0F 0x0E 0) (repliesTo tid reply) =
      s.judge (s.jobReply j reply ref 0x0F 0x0E 0) (repliesTo tid reply) := by
    have hunit : epIsUnit (s.jobReply j reply ref 0x0F 0x0E 0).src = true := by
      rw [show (s.jobReply j reply ref 0x0F 0x0E 0).src = cipherEp j.home from rfl]
      exact hsrc
    have hcw : State.wordsKept besideCipherCounts s c :=
      State.wordsKept.count (hw.of_csr (u := u.jobLeft j) rfl) (by unfold besideCipherCounts; decide) 1
    have hcy : c.yarn = s.yarn := hy
    have hcq : c.q = s.q := hq
    have hfq : c.freshMsg.2.yarn.queues = s.yarn.queues := (congrArg Yarn.queues hcy : c.yarn.queues = s.yarn.queues)
    have hfl : c.freshMsg.2.yarn.layout = s.yarn.layout := (congrArg Yarn.layout hcy : c.yarn.layout = s.yarn.layout)
    exact State.judge_besideCipher hunit hfq hfl hcq (hcw.of_csr rfl) _
  obtain ⟨hcip, hrest, hok, hbad⟩ := c.replyMade_facts hsrc (reply % 2 ^ 20) (bitsOf reply 27 20) (bitsOf reply 33 28) _ (repliesTo tid reply)
    (State.endCipher_unwrap ho hslot htx hop)
  rw [hmsg, hjudge] at hok hbad
  have hcount (g : FRef) (hg : F.CIPHER_STAT.JOBS.CNT.apart g = true) : c.rd g = u.rd g := State.rd_count_apart _ _ _ _ (by decide) hg
  have hmin (g : FRef) (hb : g.bits = 32) : min (s.rd g + 0) (2 ^ 32 - 1) = s.rd g := by
    have := s.rd_lt g
    rw [hb] at this
    omega
  refine ⟨tid, reply, ref, _, ho, rfl, ?_, ?_, ?_, fun hv => ?_, fun hv => ?_, ?_, ?_⟩
  · rw [State.jobC, hcip]
    exact u.jobLeft_jobC j
  · rw [hcip]
    exact u.jobLeft_engines j
  · rw [hrest _ (by decide) (by decide) (by decide), ← hjobs]
    exact State.rd_count_same _ _ _ (by decide)
  · obtain ⟨h1, h2⟩ := hok hv
    refine ⟨h1.trans ?_, h2.trans ((hcount _ (by decide)).trans hlost)⟩
    exact congrArg (fun y : Yarn => AMap.getD y.queues (reply % 2 ^ 20) [] ++ [_]) hy
  · obtain ⟨h1, h2, h3⟩ := hbad hv
    refine ⟨h1.trans (congrArg Yarn.queues hy), h2, ?_⟩
    rw [h3, hcount _ (by decide), hlost]
  · rw [hrest _ (by decide) (by decide) (by decide), hcount _ (by decide), hauth]
    exact (hmin _ rfl).symm
  · rw [hrest _ (by decide) (by decide) (by decide), hcount _ (by decide), hnonce]
    exact (hmin _ rfl).symm

end csub

end Sys2Proof.Machine
end

section
/-! A session's record arrives (R190, R191), and O43. -/

namespace Sys2Proof.Machine

open Sys2Proof

section unwrap
variable {s : State} {i : Nat}

/-- The record of a session is no longer awaited. -/
def State.fetchEnded (s : State) (i : Nat) : State := s.setCipher { s.cipher with fetches := AMap.del s.cipher.fetches i }

/-- The record of a session has failed its check. -/
def State.recordBad (s : State) (i : Nat) : State := (s.fetchEnded i).wr F.CIPHER_EVENT.UNWRAP_FAIL 1

/-- The jobs that wait for a record that failed its check end, and then the operations but INSTALL. -/
def State.recordRefused (u : State) (i : Nat) : State :=
  let t := (u.cipher.jobs.filter (fun j => j.session == i && j.stage == .arrived && !u.jobHeld j)).foldl (fun s j => s.endCipher j 0x0F 0x0E 0 []) u
  (t.cipher.ops.filter (fun o => o.index == i && o.op != 1)).foldl (fun s o => s.sessDone o (0x0F, 0x0E)) t

theorem State.recordRefused_noJobs {u : State} (hj : u.cipher.jobs = []) (hops : u.cipher.ops = []) : u.recordRefused i = u := by
  simp only [State.recordRefused, hj, hops, List.filter_nil, List.foldl_nil]

theorem State.recordRefused_job {u : State} {j : CipherJob} (hj : u.cipher.jobs = [j]) (hi : j.session = i) (hs : j.stage = .arrived)
    (hops : u.cipher.ops = []) (hend : (u.endCipher j 0x0F 0x0E 0 []).cipher.ops = []) : u.recordRefused i = u.endCipher j 0x0F 0x0E 0 [] := by
  have hheld : u.jobHeld j = false := by rw [State.jobHeld, hops]; rfl
  have hw : [j].filter (fun j => j.session == i && j.stage == .arrived && !u.jobHeld j) = [j] :=
    List.filter_cons_of_pos (by simp [hi, hs, hheld])
  simp only [State.recordRefused, hj, hw, List.foldl_cons, List.foldl_nil, hend, List.filter_nil]

theorem exec_sessionUnwrap_none (h : AMap.get? s.cipher.fetches i = none) : exec (.sessionUnwrap i) s = .next s := by
  show execSessionUnwrap i s = _
  rw [execSessionUnwrap, h]

variable {id : Nat} (hfetch : AMap.get? s.cipher.fetches i = some id)
include hfetch

theorem exec_sessionUnwrap_early (h : s.memDone id = false) : exec (.sessionUnwrap i) s = .next s := by
  show execSessionUnwrap i s = _
  rw [execSessionUnwrap, hfetch]
  exact if_pos h

variable (hdone : s.memDone id = true) (hmem : s.memAccess (s.sessAddr i) 256 = ((0, 0), s))
include hdone hmem

theorem exec_sessionUnwrap_good {p : Bytes} {st : Nat} (hp : s.unwrapRecord i (s.devRead (s.sessAddr i) 256) = some (p, st)) (hr : s.slotRoom i) :
    exec (.sessionUnwrap i) s = .next ((s.fetchEnded i).setSlotKey i p st) := by
  show execSessionUnwrap i s = _
  unfold execSessionUnwrap
  simp only [hfetch, hdone, hmem, hp, State.makeRoom_room hr]
  rfl

theorem exec_sessionUnwrap_bad (hp : s.unwrapRecord i (s.devRead (s.sessAddr i) 256) = none) (hops : s.cipher.ops = []) :
    exec (.sessionUnwrap i) s = .next ((s.recordBad i).recordRefused i) := by
  have hstay (l : List Nat) : (if s.cipher.ops.any (fun o => o.index == i && o.op == 1) = true then l.filter (· != i) else l) = l := by
    rw [hops]
    rfl
  show execSessionUnwrap i s = _
  unfold execSessionUnwrap
  simp only [hfetch, hdone, hmem, hp, hstay]
  rfl

end unwrap

theorem and_six_bits (n : Nat) : (n &&& 6).testBit 0 = false ∧ (n &&& 6).testBit 1 = n.testBit 1 ∧ (n &&& 6).testBit 2 = n.testBit 2 := by
  refine ⟨?_, ?_, ?_⟩ <;> rw [Nat.testBit_and] <;> simp [show Nat.testBit 6 0 = false by decide, show Nat.testBit 6 1 = true by decide,
    show Nat.testBit 6 2 = true by decide]

end Sys2Proof.Machine

open Sys2Proof Sys2Proof.Machine

/-- Settles O43: each operation is taken, meets its checks in order, waits or takes effect, as its lemma says, and is answered where it came
from; a record that arrives is unwrapped into a slot, or fails the job that waits for it. -/
theorem cipherSessions : Obligations.CipherSessions := by
  unfold Obligations.CipherSessions
  refine ⟨fun s => ⟨fun hb op => ?_, fun hq op => ?_, fun m rest op hq hc hp => ?_⟩, ?_, ?_, ?_, ?_, ?_, ?_⟩
  · obtain ⟨p, -, he⟩ := exec_sessCommand_serves op false
    have hnone : s.sessNext false = none := if_neg fun h => State.not_flag_of_zero hb h.1
    rw [he, State.sessServe_none (fun h => by cases h) hnone]
  · obtain ⟨p, -, he⟩ := exec_sessCommand_serves op true
    have hnone : s.sessNext true = none := by
      unfold State.sessNext
      simp only [if_true, State.headAt_none (s := s) (ep := sessEp) fun m rest h => absurd (hq.symm.trans h) (List.cons_ne_nil _ _).symm]
    rw [he, State.sessServe_none (fun _ m rest h => absurd (hq.symm.trans h) (List.cons_ne_nil _ _).symm) hnone]
  · obtain ⟨p, -, he⟩ := exec_sessCommand_serves op true
    rw [he, he, State.sessServe, State.sessServe, if_pos rfl, if_pos rfl,
      show s.dropSpoilt sessEp (fun _ => true) = (s.spoiltGone sessEp rest).dropSpoilt sessEp (fun _ => true) from s.dropSpoilt_poisoned hq hc hp]
  · intro s m op i data hops hoff
    refine ⟨fun h => ?_, fun hlo hhi h => ?_, fun hlo hhi h hs hf => ?_, fun hlo hhi h hh hx => ?_, fun hall =>
      ⟨fun hfree => ?_, ?_, ?_, ?_, ?_⟩⟩
    · exact exec_sess_refused hops hoff (State.sessFault_code h) (by decide) (by decide)
    · exact exec_sess_refused hops hoff (State.sessFault_index hlo hhi h) (by decide) (by decide)
    · exact exec_sess_refused hops hoff (State.sessFault_fenced hlo hhi h hs hf) (by decide) (by decide)
    · exact exec_sess_refused hops hoff ((State.sessFault_sender hlo hhi h hh).trans (if_pos hx)) (by decide) (by decide)
    · rw [exec_sess_waits hops hoff hall hfree]
      split
      next hin =>
        obtain ⟨hcsr, -, hcip, hget⟩ := ((s.sessTaken m).setCipher { (s.sessTaken m).cipher with ops := [s.sessAsked m op i data] }).fetchSession_facts i
        have hof := congrArg Cipher.ops hcip
        have hsl := congrArg Cipher.slots hcip
        have hjb := congrArg Cipher.jobs hcip
        exact ⟨_, s.sessAsked m op i data, rfl, hof, rfl, rfl, rfl, rfl, hsl, hjb, hcsr, fun _ _ => hget⟩
      next hin =>
        refine ⟨_, s.sessAsked m op i data, rfl, rfl, rfl, rfl, rfl, rfl, rfl, rfl, rfl, fun hi hk => absurd ⟨?_, ?_⟩ hin⟩
        · exact List.contains_iff_mem.mpr hi
        · rw [hk]; rfl
    · rintro hfree rfl
      refine ⟨fun hkind => ?_, fun k hf hk hst hkey => ?_, fun f hf => ?_, fun hf hr => exec_install_done hops hoff hall hfree hf hr⟩
      · exact exec_install_fault hops hoff hall hfree (installFault_kind hkind _) (by decide) (by decide)
      · refine exec_install_fault hops hoff hall hfree (f := (4, 0x0B)) ?_ (by decide) (by decide)
        rw [installFault_eq, hf, hk]
        exact if_pos ⟨hst, hkey⟩
      · have hlt : f.1 < 256 ∧ f.2 < 256 := by
          rcases installFault_fresh hf with rfl | rfl <;> decide
        refine exec_install_fault hops hoff hall hfree ?_ hlt.1 hlt.2
        rw [installFault_eq, hf]
        rfl
    · rintro hfree rfl
      refine ⟨exec_limits_missing hops hoff hall hfree, fun k hk hlen hen => ?_⟩
      obtain ⟨t, k', he, hans, hslot, hplain, hoth, hyes, hno⟩ := exec_limits_done hops hoff hall hfree hk hen
      refine ⟨t, k', he, hans, hslot, ?_, ?_, ?_, fun h => (hno (.inr h)).1, hoth, fun c hbit hkind hcnt => ⟨fun hfirst hhard => ?_, fun hhard => ?_⟩,
        fun hbit hkind => ⟨fun hhard => ?_, fun hhard => ?_⟩⟩
      · rw [hplain, KeySlot.limited_soft]
      · rw [hplain, KeySlot.limited_hard]
      · intro n hn ho
        rw [hplain, KeySlot.limited_byte hlen hn ho]
      · exact hyes ((KeySlot.limited_next hkind hcnt).mpr ⟨hfirst, hhard⟩) hbit
      · exact hno (.inl (Bool.eq_false_iff.mpr fun h => absurd ((KeySlot.limited_next hkind hcnt).mp h).2 (Nat.not_lt.mpr hhard)))
      · exact hyes ((KeySlot.limited_largest hkind).mpr hhard) hbit
      · exact hno (.inl (Bool.eq_false_iff.mpr fun h => absurd ((KeySlot.limited_largest hkind).mp h) (Nat.not_lt.mpr hhard)))
    · rintro hfree rfl
      refine ⟨exec_invalidate_missing hops hoff hall hfree, fun k hk => ?_⟩
      obtain ⟨t, k', he, hans, hslot, hplain, hst, hoth⟩ := exec_invalidate_done hops hoff hall hfree hk
      obtain ⟨h0, h1, h2⟩ := and_six_bits k.st
      exact ⟨t, k', he, hans, hslot, hplain, hst ▸ h0, hst ▸ h1, hst ▸ h2, hoth⟩
    · rintro hfree rfl
      obtain rfl : m = none := by
        cases m with
        | none => rfl
        | some x =>
          obtain ⟨-, -, -, -, hsvc, -⟩ := hall
          exact absurd rfl (hsvc rfl).1
      exact ⟨exec_sessionRead_missing hops hoff hall hfree, fun k hk hst => exec_sessionRead_done hops hoff hall hfree hk hst⟩
  · intro s i h
    show execSessionOpDone i s = _
    rw [execSessionOpDone, h]
  · intro s o hops
    refine ⟨exec_sessionOpDone_waits hops, fun hfree ho hf hr => ?_, fun k hfree ho hk => ?_⟩
    · refine ⟨_, ⟨o.data, 1, s.cipher.nextId⟩, exec_sessionOpDone_applied hops hfree (State.sessApply_install ho hf hr), State.sessDone_noOps (v := s.sessInstalled o) hops rfl _,
        (State.sessDone_keySlot _).trans (State.setSlotKey_same _ _), rfl, rfl, fun hm => State.sessDone_reported hm (by decide) (by decide),
        fun m hm => State.sessDone_answers hm rfl (by decide)⟩
    · exact ⟨_, ⟨k.plain, k.st &&& 6, s.cipher.nextId⟩, exec_sessionOpDone_applied hops hfree (State.sessApply_invalidate ho hk),
        State.sessDone_noOps (v := s.setSlotKey o.index k.plain (k.st &&& 6)) hops rfl _, (State.sessDone_keySlot _).trans (State.setSlotKey_same _ _), rfl, (and_six_bits k.st).1,
        fun hm => State.sessDone_reported hm (by decide) (by decide), fun m hm => State.sessDone_answers hm rfl (by decide)⟩
  · exact fun s i h => exec_sessionUnwrap_none h
  · exact fun s i id hf hd => exec_sessionUnwrap_early hf hd
  · intro s i id hf hd hmem
    refine ⟨fun p st hp hr => ?_, fun hp hops => ⟨fun hj => ?_, fun j tid reply ref hj hi hst ho hslot hop htx => ?_⟩⟩
    · exact ⟨_, ⟨p, st, s.cipher.nextId⟩, exec_sessionUnwrap_good hf hd hmem hp hr, State.setSlotKey_same p st, rfl, rfl, AMap.get?_del_same _ _,
        fun x hx => State.setSlotKey_other p st hx, rfl, rfl⟩
    · rw [exec_sessionUnwrap_bad hf hd hmem hp hops, State.recordRefused_noJobs (u := s.recordBad i) hj hops]
      exact ⟨_, rfl, State.rd_wr_same _ _ _ (by decide), rfl, AMap.get?_del_same _ _,
        (s.regsKept_refl _ : s.regsKept (s.fetchEnded i) [F.CIPHER_EVENT.UNWRAP_FAIL]).wr 1 List.mem_cons_self (by decide)⟩
    · obtain ⟨hno, hbit⟩ := (s.recordBad i).endCipher_keeps ho hslot htx hop
      rw [exec_sessionUnwrap_bad hf hd hmem hp hops, State.recordRefused_job (u := s.recordBad i) hj hi hst hops (hno.trans hops)]
      refine ⟨_, rfl, hbit.trans (State.rd_wr_same _ _ _ (by decide)), State.endCipher_csubEnds ho hslot htx hop rfl rfl ?_ ?_⟩
      · exact State.wordsKept.wr (s.wordsKept_refl.of_csr rfl) (by unfold besideCipherCounts; decide) 1
      · simp only [List.forall_mem_cons]
        exact ⟨State.rd_wr_apart _ _ _ _ (by decide) (by decide), State.rd_wr_apart _ _ _ _ (by decide) (by decide),
          State.rd_wr_apart _ _ _ _ (by decide) (by decide), State.rd_wr_apart _ _ _ _ (by decide) (by decide), by simp⟩
end

section
/-! Words and instructions: a word that decodes is the word of its instruction (R89, R90; O30, O31). -/

namespace Sys2Proof

open Sys2Proof.Machine

/-! ### Words by their fields -/

/-- Two words agree in fields of the given widths, side by side from bit `lo` up. -/
def fieldsAgree (x y : W32) (lo : Nat) : List Nat → Prop
  | [] => True
  | n :: ns => fieldOf n x lo = fieldOf n y lo ∧ fieldsAgree x y (lo + n) ns

theorem getLsbD_of_fieldsAgree {x y : W32} {ns : List Nat} {lo i : Nat} (h : fieldsAgree x y lo ns) (hlo : lo ≤ i) (hi : i < lo + ns.sum) :
    x.getLsbD i = y.getLsbD i := by
  induction ns generalizing lo with
  | nil => simp at hi; omega
  | cons n ns ih =>
    obtain ⟨hn, hrest⟩ := h
    rw [List.sum_cons] at hi
    by_cases hin : i < lo + n
    · have hbit := congrArg (BitVec.getLsbD · (i - lo)) hn
      simpa [fieldOf, show i - lo < n by omega, Nat.add_sub_cancel' hlo] using hbit
    · exact ih hrest (by omega) (by omega)

/-- Words that agree in fields that cover them are the same. -/
theorem eq_of_fieldsAgree {x y : W32} (ns : List Nat) (h : fieldsAgree x y 0 ns) (hns : ns.sum = 32) : x = y :=
  BitVec.eq_of_getLsbD_eq fun _ hi => getLsbD_of_fieldsAgree h (Nat.zero_le _) (by omega)

theorem clear_iff (w : W32) (lo n : Nat) : clear w lo n = true ↔ fieldOf n w lo = 0 := by simp [clear]

/-! ### Codes of the small enumerations -/

@[simp] theorem Size.code_ofCode (c : BitVec 2) : (Size.ofCode c).code = c := by revert c; decide
@[simp] theorem ShiftKind.code_ofCode (c : BitVec 2) : (ShiftKind.ofCode c).code = c := by revert c; decide
@[simp] theorem bit_beq (c : BitVec 1) : bit (c == 1#1) = c := by revert c; decide

theorem Cond.code_of_ofCode {c : BitVec 3} {cc : Cond} (h : Cond.ofCode c = some cc) : cc.code = c := by
  revert h; cases cc <;> revert c <;> decide
theorem DoneMode.code_of_ofCode {c : BitVec 2} {m : DoneMode} (h : DoneMode.ofCode c = some m) : m.code = c := by
  revert h; cases m <;> revert c <;> decide
theorem AtomOp.code_of_ofCode {c : BitVec 4} {op : AtomOp} (h : AtomOp.ofCode c = some op) : op.code = c := by
  revert h; cases op <;> revert c <;> decide
theorem AluFn.code_of_ofCode {c : BitVec 11} {f : AluFn} (h : AluFn.ofCode c = some f) : f.code = c := by
  have hf := List.find?_some h
  exact eq_of_beq hf
theorem csrWide_code {c : BitVec 2} {wide : Bool} (h : csrWide (Size.ofCode c) = some wide) : (if wide then 3#2 else 2#2) = c := by
  revert h; cases wide <;> revert c <;> decide

/-! ### What a decoder accepts -/

theorem checked_eq_ok {d r : Bool} {f : Nat} {i j : Ob} : checked d r f i = .ok j ↔ d = true ∧ r = true ∧ f = 0 ∧ i = j := by
  unfold checked
  cases d <;> cases r <;> by_cases hf : f = 0 <;> simp [hf]

theorem orUndefined_eq_ok {α : Type} {o : Option α} {k : α → Decoded} {j : Ob} : orUndefined o k = .ok j ↔ ∃ a, o = some a ∧ k a = .ok j := by
  cases o <;> simp [orUndefined]


theorem opcode_eq {w : W32} {k : Nat} (h : (fieldOf 6 w 26).toNat = k) : fieldOf 6 w 26 = BitVec.ofNat 6 k := by
  rw [← h, BitVec.ofNat_toNat, BitVec.setWidth_eq]

theorem decLoad_eq_ok {w : W32} {k : Size → Bool → Reg → Reg → BitVec 13 → Ob} {i : Ob} :
    decLoad w k = .ok i ↔ k (Size.ofCode (fieldOf 2 w 14)) (fieldOf 1 w 13 == 1) (fieldOf 5 w 21) (fieldOf 5 w 16) (fieldOf 13 w 0) = i := by
  simp [decLoad, decM]

theorem not_beq_one (b : BitVec 1) : (!(b == 1)) = true ↔ b = 0 := by revert b; decide

theorem decStore_eq_ok {w : W32} {k : Size → Reg → Reg → BitVec 13 → Ob} {i : Ob} :
    decStore w k = .ok i ↔ fieldOf 1 w 13 = 0 ∧ k (Size.ofCode (fieldOf 2 w 14)) (fieldOf 5 w 21) (fieldOf 5 w 16) (fieldOf 13 w 0) = i := by
  simp only [decStore, decM, checked_eq_ok, true_and]
  exact and_congr_left' (not_beq_one _)

/-! ### The words of the formats, from their fields -/

section formats
variable {w : W32} {op : BitVec 6} (hop : fieldOf 6 w 26 = op)
include hop

theorem encR_of_fields {rd ra rb : Reg} {fn : BitVec 11} (hrd : fieldOf 5 w 21 = rd) (hra : fieldOf 5 w 16 = ra) (hrb : fieldOf 5 w 11 = rb)
    (hfn : fieldOf 11 w 0 = fn) : encR op rd ra rb fn = w := by
  refine eq_of_fieldsAgree [11, 5, 5, 5, 6] ?_ rfl
  simp (disch := omega) [fieldsAgree, encR, fieldOf_or, fieldOf_placed_same, fieldOf_placed_apart, *]

theorem encI_of_fields {rd ra : Reg} {imm : W16} (hrd : fieldOf 5 w 21 = rd) (hra : fieldOf 5 w 16 = ra) (himm : fieldOf 16 w 0 = imm) :
    encI op rd ra imm = w := by
  refine eq_of_fieldsAgree [16, 5, 5, 6] ?_ rfl
  simp (disch := omega) [fieldsAgree, encI, fieldOf_or, fieldOf_placed_same, fieldOf_placed_apart, *]

theorem encF_of_fields (hz : clear w 0 4 = true) : encF op (fieldOf 5 w 21) (fieldOf 5 w 16) (fieldOf 6 w 10) (fieldOf 6 w 4) = w := by
  rw [clear_iff] at hz
  refine eq_of_fieldsAgree [4, 6, 6, 5, 5, 6] ?_ rfl
  simp (disch := omega) [fieldsAgree, encF, fieldOf_or, fieldOf_placed_same, fieldOf_placed_apart, *]

theorem encM_of_fields {c : BitVec 2} {sx : Bool} (hc : fieldOf 2 w 14 = c) (hsx : fieldOf 1 w 13 = bit sx) :
    encM op c sx (fieldOf 5 w 21) (fieldOf 5 w 16) (fieldOf 13 w 0) = w := by
  refine eq_of_fieldsAgree [13, 1, 2, 5, 5, 6] ?_ rfl
  simp (disch := omega) [fieldsAgree, encM, fieldOf_or, fieldOf_placed_same, fieldOf_placed_apart, *]

theorem encB_of_fields {cc : Cond} (hcc : cc.code = fieldOf 3 w 23) : encB op cc (fieldOf 5 w 18) (fieldOf 5 w 13) (fieldOf 13 w 0) = w := by
  refine eq_of_fieldsAgree [13, 5, 5, 3, 6] ?_ rfl
  simp (disch := omega) [fieldsAgree, encB, fieldOf_or, fieldOf_placed_same, fieldOf_placed_apart, *]

theorem encL_of_fields {trip : Byte} {ra : Reg} (htrip : fieldOf 8 w 18 = trip) (hra : fieldOf 5 w 13 = ra) : encL op trip ra (fieldOf 13 w 0) = w := by
  refine eq_of_fieldsAgree [13, 5, 8, 6] ?_ rfl
  simp (disch := omega) [fieldsAgree, encL, fieldOf_or, fieldOf_placed_same, fieldOf_placed_apart, *]

/-- The loads of format M. -/
theorem encLoad_of_fields : encM op (Size.ofCode (fieldOf 2 w 14)).code (fieldOf 1 w 13 == 1) (fieldOf 5 w 21) (fieldOf 5 w 16) (fieldOf 13 w 0) = w :=
  encM_of_fields hop (Size.code_ofCode _).symm (bit_beq _).symm

/-- The stores of format M. -/
theorem encStore_of_fields (hsx : fieldOf 1 w 13 = 0) :
    encM op (Size.ofCode (fieldOf 2 w 14)).code false (fieldOf 5 w 21) (fieldOf 5 w 16) (fieldOf 13 w 0) = w :=
  encM_of_fields hop (Size.code_ofCode _).symm hsx

/-- The jumps to a 13-bit target. -/
theorem target_of_fields (hz : clear w 13 13 = true) : placed op 26 ||| placed (fieldOf 13 w 0) 0 = w := by
  rw [clear_iff] at hz
  refine eq_of_fieldsAgree [13, 13, 6] ?_ rfl
  simp (disch := omega) [fieldsAgree, fieldOf_or, fieldOf_placed_same, fieldOf_placed_apart, *]

/-- The instructions of rd alone. -/
theorem rd_of_fields (hz : clear w 0 21 = true) : placed op 26 ||| placed (fieldOf 5 w 21) 21 = w := by
  rw [clear_iff] at hz
  refine eq_of_fieldsAgree [21, 5, 6] ?_ rfl
  simp (disch := omega) [fieldsAgree, fieldOf_or, fieldOf_placed_same, fieldOf_placed_apart, *]

end formats

/-! ### Immediates made of smaller fields -/

theorem getLsbD_of_clear {w : W32} {lo n i : Nat} (hz : clear w lo n = true) (hlo : lo ≤ i) (hi : i < lo + n) : w.getLsbD i = false := by
  have hbit := congrArg (BitVec.getLsbD · (i - lo)) ((clear_iff w lo n).1 hz)
  simpa [fieldOf, show i - lo < n by omega, Nat.add_sub_cancel' hlo] using hbit

/-- A field of two parts, and nothing above the upper one. -/
theorem fieldOf_eq_parts {w : W32} {lo k m n : Nat} (hz : clear w (lo + (k + m)) (n - (k + m)) = true) :
    (fieldOf m w (lo + k)).setWidth n <<< k ||| (fieldOf k w lo).setWidth n = fieldOf n w lo := by
  ext i hi
  simp only [fieldOf, BitVec.getElem_or, BitVec.getElem_shiftLeft, BitVec.getElem_setWidth, BitVec.getLsbD_extractLsb',
    BitVec.getElem_extractLsb']
  by_cases hk : i < k
  · simp [hk]
  by_cases hm : i < k + m
  · simp [hk, show i - k < m by omega, show lo + k + (i - k) = lo + i by omega]
  · simp [hk, show ¬ i - k < m by omega, getLsbD_of_clear hz (i := lo + i) (by omega) (by omega)]

/-- A field of which only a lower part is not zero. -/
theorem fieldOf_eq_low {w : W32} {lo k n : Nat} (hz : clear w (lo + k) (n - k) = true) : (fieldOf k w lo).setWidth n = fieldOf n w lo := by
  ext i hi
  simp only [fieldOf, BitVec.getElem_setWidth, BitVec.getLsbD_extractLsb', BitVec.getElem_extractLsb']
  by_cases hk : i < k
  · simp [hk]
  · simp [hk, getLsbD_of_clear hz (i := lo + i) (by omega) (by omega)]

theorem shiImm_of_fields {w : W32} (hz : clear w 8 8 = true) :
    (ShiftKind.ofCode (fieldOf 2 w 6)).code.setWidth 16 <<< 6 ||| (fieldOf 6 w 0).setWidth 16 = fieldOf 16 w 0 := by
  rw [ShiftKind.code_ofCode]
  exact fieldOf_eq_parts (lo := 0) (k := 6) (m := 2) (n := 16) hz

theorem satomFn_of_fields {w : W32} {op : AtomOp} (hop : AtomOp.ofCode (fieldOf 4 w 0) = some op) (hz : clear w 5 6 = true) :
    (bit (fieldOf 1 w 4 == 1)).setWidth 11 <<< 4 ||| op.code.setWidth 11 = fieldOf 11 w 0 := by
  have hbit : bit (fieldOf 1 w 4 == 1) = fieldOf 1 w 4 := bit_beq _
  rw [AtomOp.code_of_ofCode hop, hbit]
  exact fieldOf_eq_parts (lo := 0) (k := 4) (m := 1) (n := 11) hz

/-- A function of two bits is its size. -/
theorem crcSize_of_fields {w : W32} (h : (fieldOf 11 w 0).toNat < 4) : (fieldOf 2 w 0).setWidth 11 = fieldOf 11 w 0 := by
  refine fieldOf_eq_low ((clear_iff w 2 9).2 ?_)
  refine BitVec.eq_of_toNat_eq ?_
  simp only [fieldOf, BitVec.extractLsb'_toNat, Nat.shiftRight_eq_div_pow] at h ⊢
  simp
  omega

theorem encR_crc_of_fields {w : W32} {op : BitVec 6} (hop : fieldOf 6 w 26 = op) (hfn : (fieldOf 11 w 0).toNat < 4) :
    encR op (fieldOf 5 w 21) (fieldOf 5 w 16) (fieldOf 5 w 11) (Size.ofCode (fieldOf 2 w 0)).code = w := by
  have hw := encR_of_fields hop rfl rfl rfl (crcSize_of_fields hfn).symm
  rw [Size.code_ofCode]
  simpa [encR, placed] using hw

/-- R89, R90: a word that decodes is the word of what it decodes to, which an encoding admits. -/
theorem encodeOb_of_decodeOb {w : W32} {i : Ob} (h : decodeOb w = .ok i) : encodeOb i = w ∧ i.admitted = true := by
  unfold decodeOb at h
  split at h
  -- Format I with a 16-bit immediate.
  case h_3 hop | h_4 hop | h_5 hop | h_6 hop | h_8 hop =>
    obtain rfl := Decoded.ok.inj h
    exact ⟨encI_of_fields (opcode_eq hop) rfl rfl rfl, rfl⟩
  -- The loads and the stores of format M.
  case h_22 hop | h_24 hop | h_27 hop | h_44 hop =>
    obtain rfl := decLoad_eq_ok.1 h
    exact ⟨encLoad_of_fields (opcode_eq hop), rfl⟩
  case h_23 hop | h_25 hop | h_28 hop | h_45 hop =>
    obtain ⟨hsx, rfl⟩ := decStore_eq_ok.1 h
    exact ⟨encStore_of_fields (opcode_eq hop) hsx, rfl⟩
  -- BFX and BFI.
  case h_11 hop | h_12 hop =>
    obtain ⟨-, hz, hform, rfl⟩ := checked_eq_ok.1 h
    exact ⟨encF_of_fields (opcode_eq hop) hz, by simpa [Ob.admitted, Nat.add_assoc] using hform⟩
  -- BR and BRB.
  case h_14 hop | h_20 hop =>
    obtain ⟨cc, hcc, hok⟩ := orUndefined_eq_ok.1 h
    obtain rfl := Decoded.ok.inj hok
    exact ⟨encB_of_fields (opcode_eq hop) (Cond.code_of_ofCode hcc), rfl⟩
  -- JMP and CALL.
  case h_16 hop | h_19 hop =>
    obtain ⟨-, hz, -, rfl⟩ := checked_eq_ok.1 h
    exact ⟨target_of_fields (opcode_eq hop) hz, rfl⟩
  -- YCOMMIT and YNOTE.
  case h_36 hop | h_38 hop =>
    obtain ⟨-, hz, -, rfl⟩ := checked_eq_ok.1 h
    exact ⟨rd_of_fields (opcode_eq hop) hz, rfl⟩
  -- Opcodes 0x00 and 0x01.
  case h_1 hop =>
    obtain ⟨f, hf, hok⟩ := orUndefined_eq_ok.1 h
    obtain ⟨-, hrb, -, rfl⟩ := checked_eq_ok.1 hok
    exact ⟨encR_of_fields (opcode_eq hop) rfl rfl rfl (AluFn.code_of_ofCode hf).symm, hrb⟩
  case h_2 hop =>
    simp only [decR] at h
    split at h
    · next hfn =>
      obtain rfl := Decoded.ok.inj h
      exact ⟨encR_of_fields (opcode_eq hop) rfl rfl rfl hfn, rfl⟩
    · obtain ⟨hfn, -, -, rfl⟩ := checked_eq_ok.1 h
      exact ⟨encR_crc_of_fields (opcode_eq hop) (of_decide_eq_true hfn), rfl⟩
  -- SHI, MOVI, MOVHI and RDCTR.
  case h_7 hop =>
    obtain ⟨-, hz, -, rfl⟩ := checked_eq_ok.1 h
    exact ⟨encI_of_fields (opcode_eq hop) rfl rfl (shiImm_of_fields hz).symm, rfl⟩
  case h_9 hop =>
    obtain ⟨-, hra, -, rfl⟩ := checked_eq_ok.1 h
    exact ⟨encI_of_fields (opcode_eq hop) rfl (eq_of_beq hra) rfl, rfl⟩
  case h_10 hop =>
    obtain ⟨-, hz, -, rfl⟩ := checked_eq_ok.1 h
    exact ⟨encI_of_fields (opcode_eq hop) rfl (fieldOf_eq_low hz).symm rfl, rfl⟩
  case h_13 hop =>
    obtain ⟨hsel, hra, -, rfl⟩ := checked_eq_ok.1 h
    exact ⟨encI_of_fields (opcode_eq hop) rfl (eq_of_beq hra) rfl, hsel⟩
  -- LOOP and LOOPR.
  case h_17 hop =>
    obtain ⟨-, hz, hform, rfl⟩ := checked_eq_ok.1 h
    exact ⟨encL_of_fields (opcode_eq hop) rfl ((clear_iff ..).1 hz), by simpa [Ob.admitted] using hform⟩
  case h_46 hop =>
    obtain ⟨-, hz, hform, rfl⟩ := checked_eq_ok.1 h
    exact ⟨encL_of_fields (opcode_eq hop) ((clear_iff ..).1 hz) rfl, by simpa [Ob.admitted] using hform⟩
  -- Format R with a constant function.
  case h_21 hop | h_41 hop =>
    obtain ⟨hfn, hrb, -, rfl⟩ := checked_eq_ok.1 h
    exact ⟨encR_of_fields (opcode_eq hop) rfl rfl (eq_of_beq hrb) (eq_of_beq hfn), rfl⟩
  case h_31 hop | h_42 hop =>
    obtain ⟨hfn, -, -, rfl⟩ := checked_eq_ok.1 h
    exact ⟨encR_of_fields (opcode_eq hop) rfl rfl rfl (eq_of_beq hfn), rfl⟩
  -- SATOM.
  case h_26 hop =>
    obtain ⟨op, hat, hok⟩ := orUndefined_eq_ok.1 h
    obtain ⟨-, hz, -, rfl⟩ := checked_eq_ok.1 hok
    exact ⟨encR_of_fields (opcode_eq hop) rfl rfl rfl (satomFn_of_fields hat hz).symm, rfl⟩
  -- RESUME, FREC and TSTATE.
  case h_43 hop =>
    simp only [decR] at h
    split at h
    · next hfn =>
      obtain ⟨-, hz, -, rfl⟩ := checked_eq_ok.1 h
      obtain ⟨hrb, hrd⟩ := Bool.and_eq_true_iff.1 hz
      exact ⟨encR_of_fields (opcode_eq hop) (eq_of_beq hrd) rfl (eq_of_beq hrb) hfn, rfl⟩
    · split at h
      · next hfn =>
        obtain ⟨-, hrb, -, rfl⟩ := checked_eq_ok.1 h
        exact ⟨encR_of_fields (opcode_eq hop) rfl rfl (eq_of_beq hrb) hfn, rfl⟩
      · obtain ⟨hfn, hz, -, rfl⟩ := checked_eq_ok.1 h
        obtain ⟨hrb, hra⟩ := Bool.and_eq_true_iff.1 hz
        exact ⟨encR_of_fields (opcode_eq hop) rfl (eq_of_beq hra) (eq_of_beq hrb) (eq_of_beq hfn), rfl⟩
  -- CSRRD and CSRWR.
  case h_47 hop =>
    obtain ⟨wide, hw, hok⟩ := orUndefined_eq_ok.1 h
    obtain rfl := Decoded.ok.inj hok
    exact ⟨encM_of_fields (opcode_eq hop) (csrWide_code hw).symm (bit_beq _).symm, rfl⟩
  case h_48 hop =>
    obtain ⟨wide, hw, hok⟩ := orUndefined_eq_ok.1 h
    obtain ⟨-, hsx, -, rfl⟩ := checked_eq_ok.1 hok
    exact ⟨encM_of_fields (opcode_eq hop) (csrWide_code hw).symm ((not_beq_one _).1 hsx), rfl⟩
  -- The formats of one instruction each.
  case h_15 hop =>
    obtain ⟨-, hz, -, rfl⟩ := checked_eq_ok.1 h
    refine ⟨eq_of_fieldsAgree [13, 1, 6, 5, 1, 6] ?_ rfl, rfl⟩
    simp (disch := omega) [fieldsAgree, encodeOb, fieldOf_or, fieldOf_placed_same, fieldOf_placed_apart, opcode_eq hop, (clear_iff ..).1 hz]
  case h_18 hop =>
    obtain ⟨m, hm, hok⟩ := orUndefined_eq_ok.1 h
    obtain ⟨-, hz, -, rfl⟩ := checked_eq_ok.1 hok
    refine ⟨eq_of_fieldsAgree [19, 5, 2, 6] ?_ rfl, rfl⟩
    simp (disch := omega) [fieldsAgree, encodeOb, fieldOf_or, fieldOf_placed_same, fieldOf_placed_apart, opcode_eq hop, (clear_iff ..).1 hz,
      DoneMode.code_of_ofCode hm]
  case h_29 hop =>
    obtain ⟨-, hz, hform, rfl⟩ := checked_eq_ok.1 h
    refine ⟨eq_of_fieldsAgree [7, 7, 5, 5, 2, 6] ?_ rfl, by simpa [Ob.admitted] using hform⟩
    simp (disch := omega) [fieldsAgree, encodeOb, fieldOf_or, fieldOf_placed_same, fieldOf_placed_apart, opcode_eq hop, (clear_iff ..).1 hz]
  case h_30 hop =>
    obtain ⟨-, hz, -, rfl⟩ := checked_eq_ok.1 h
    refine ⟨eq_of_fieldsAgree [19, 2, 5, 6] ?_ rfl, rfl⟩
    simp (disch := omega) [fieldsAgree, encodeOb, fieldOf_or, fieldOf_placed_same, fieldOf_placed_apart, opcode_eq hop, (clear_iff ..).1 hz]
  case h_32 hop =>
    obtain ⟨-, hz, -, rfl⟩ := checked_eq_ok.1 h
    obtain ⟨hrd, hlow⟩ := Bool.and_eq_true_iff.1 hz
    refine ⟨eq_of_fieldsAgree [13, 3, 5, 5, 6] ?_ rfl, rfl⟩
    simp (disch := omega) [fieldsAgree, encodeOb, fieldOf_or, fieldOf_placed_same, fieldOf_placed_apart, opcode_eq hop, (clear_iff ..).1 hrd,
      (clear_iff ..).1 hlow]
  case h_33 hop =>
    obtain ⟨-, hz, -, rfl⟩ := checked_eq_ok.1 h
    refine ⟨eq_of_fieldsAgree [6, 1, 6, 3, 5, 5, 6] ?_ rfl, rfl⟩
    simp (disch := omega) [fieldsAgree, encodeOb, fieldOf_or, fieldOf_placed_same, fieldOf_placed_apart, opcode_eq hop, (clear_iff ..).1 hz]
  case h_34 hop =>
    obtain ⟨-, hz, -, rfl⟩ := checked_eq_ok.1 h
    refine ⟨eq_of_fieldsAgree [1, 1, 6, 8, 5, 5, 6] ?_ rfl, rfl⟩
    simp (disch := omega) [fieldsAgree, encodeOb, fieldOf_or, fieldOf_placed_same, fieldOf_placed_apart, opcode_eq hop, (clear_iff ..).1 hz]
  case h_35 hop =>
    obtain ⟨-, hz, -, rfl⟩ := checked_eq_ok.1 h
    obtain ⟨hrd, hlow⟩ := Bool.and_eq_true_iff.1 hz
    refine ⟨eq_of_fieldsAgree [8, 8, 5, 5, 6] ?_ rfl, rfl⟩
    simp (disch := omega) [fieldsAgree, encodeOb, fieldOf_or, fieldOf_placed_same, fieldOf_placed_apart, opcode_eq hop, (clear_iff ..).1 hrd,
      (clear_iff ..).1 hlow]
  case h_37 hop =>
    obtain ⟨-, hz, -, rfl⟩ := checked_eq_ok.1 h
    refine ⟨eq_of_fieldsAgree [14, 2, 5, 5, 6] ?_ rfl, rfl⟩
    simp (disch := omega) [fieldsAgree, encodeOb, fieldOf_or, fieldOf_placed_same, fieldOf_placed_apart, opcode_eq hop, (clear_iff ..).1 hz]
  case h_39 hop =>
    obtain ⟨-, hz, -, rfl⟩ := checked_eq_ok.1 h
    refine ⟨eq_of_fieldsAgree [15, 1, 5, 5, 6] ?_ rfl, rfl⟩
    simp (disch := omega) [fieldsAgree, encodeOb, fieldOf_or, fieldOf_placed_same, fieldOf_placed_apart, opcode_eq hop, (clear_iff ..).1 hz]
  case h_40 hop =>
    obtain ⟨-, hz, -, rfl⟩ := checked_eq_ok.1 h
    refine ⟨eq_of_fieldsAgree [18, 5, 3, 6] ?_ rfl, rfl⟩
    simp (disch := omega) [fieldsAgree, encodeOb, fieldOf_or, fieldOf_placed_same, fieldOf_placed_apart, opcode_eq hop, (clear_iff ..).1 hz]
  case h_49 => simp at h

end Sys2Proof

open Sys2Proof Sys2Proof.Machine

/-- Settles O30: an instruction's word gives it back field by field (`decodeOb_encodeOb`), and a word that decodes agrees with its
instruction's word in every field of the format (`encodeOb_of_decodeOb`). -/
theorem obordRoundTrip : Obligations.ObordRoundTrip :=
  ⟨decodeOb_encodeOb, fun _ _ => encodeOb_of_decodeOb⟩

/-- Settles O31: the decoder evaluated on each word. -/
theorem obordWords : Obligations.ObordWords := by
  unfold Obligations.ObordWords
  refine ⟨?_, ?_, ?_, ?_, ?_, ?_, ?_, ?_, ?_, ?_, ?_, ?_, ?_, ?_, ?_⟩ <;> decide

end

section
/-! The instructions that only write a register: the functions of Table 3.5, the hashes, the immediate forms and bit fields
(R92 to R95, R108). -/

namespace Sys2Proof.Machine

open Sys2Proof

/-! ### Values of the two-operand functions -/

theorem ushiftRight_eq_ofNat (a : W64) (n : Nat) : a >>> n = BitVec.ofNat 64 (a.toNat / 2 ^ n) := by
  refine BitVec.eq_of_toNat_eq ?_
  rw [BitVec.toNat_ushiftRight, Nat.shiftRight_eq_div_pow, BitVec.toNat_ofNat, Nat.mod_eq_of_lt (Nat.lt_of_le_of_lt (Nat.div_le_self ..) a.isLt)]

theorem shiftLeft_eq_ofNat (a : W64) (n : Nat) : a <<< n = BitVec.ofNat 64 (a.toNat * 2 ^ n) := by
  refine BitVec.eq_of_toNat_eq ?_
  rw [BitVec.toNat_shiftLeft, Nat.shiftLeft_eq, BitVec.toNat_ofNat]

theorem sshiftRight_eq_ofInt (a : W64) (n : Nat) : a.sshiftRight n = BitVec.ofInt 64 (a.toInt / 2 ^ n) := by
  rw [BitVec.sshiftRight_eq, Int.shiftRight_eq_div_pow]; norm_cast

theorem rotateLeft_eq_or (a : W64) {n : Nat} (h : n < 64) : a.rotateLeft n = (a <<< n) ||| (a >>> (64 - n)) := by
  rw [BitVec.rotateLeft_def, Nat.mod_eq_of_lt h]

theorem minU_eq_ofNat (a b : W64) : (if a.ult b then a else b) = BitVec.ofNat 64 (min a.toNat b.toNat) := by
  simp only [BitVec.ult_iff_lt, BitVec.lt_def]
  by_cases h : a.toNat < b.toNat
  · simp [h, Nat.min_eq_left h.le]
  · simp [h, Nat.min_eq_right (Nat.le_of_not_lt h)]

theorem maxU_eq_ofNat (a b : W64) : (if a.ult b then b else a) = BitVec.ofNat 64 (max a.toNat b.toNat) := by
  simp only [BitVec.ult_iff_lt, BitVec.lt_def]
  by_cases h : a.toNat < b.toNat
  · simp [h, Nat.max_eq_right h.le]
  · simp [h, Nat.max_eq_left (Nat.le_of_not_lt h)]

theorem boolWord_decide (p : Prop) [Decidable p] : boolWord (decide p) = if p then 1 else 0 := by simp [boolWord]

/-! ### Issue -/

/-- An instruction that only writes a register, by the value it writes. -/
theorem State.obord_toReg {s : State} {tid : Nat} {i : Ob} {rd : Reg} {v v' : W64} (h : s.MayIssue tid i)
    (hp : (s.spent tid).perform tid i = (s.spent tid).toReg tid rd v') (hv : v' = v) (ha : i.admitted = true := by rfl) :
    s.obord tid i = .next (s.wrote tid rd v) :=
  State.obord_wrote h ha (hv ▸ hp)

theorem State.spent_alu (s : State) (tid : Nat) (f : AluFn) (rd ra rb : Reg) :
    (s.spent tid).perform tid (.alu f rd ra rb) = (s.spent tid).toReg tid rd (aluEval f (s.reg tid ra) (s.reg tid rb) (s.reg tid rd)) := by
  simp only [State.perform, State.spent_reg]

/-- A function of Table 3.5 that may issue writes its value. -/
theorem State.obord_alu {s : State} {tid : Nat} {f : AluFn} {rd ra rb : Reg} (h : s.MayIssue tid (.alu f rd ra rb)) {v : W64}
    (hv : aluEval f (s.reg tid ra) (s.reg tid rb) (s.reg tid rd) = v) (ha : (Ob.alu f rd ra rb).admitted = true := by rfl) :
    s.obord tid (.alu f rd ra rb) = .next (s.wrote tid rd v) :=
  State.obord_toReg h (s.spent_alu tid f rd ra rb) hv ha

end Sys2Proof.Machine

open Sys2Proof Sys2Proof.Machine

/-- Settles O14: each function writes `aluEval` of its operands (`State.obord_alu`), which is the value of the table. -/
theorem aluResults : Obligations.AluResults := by
  unfold Obligations.AluResults
  rintro s tid rd ra rb a b d n rfl rfl rfl rfl
  have hn : (s.reg tid rb).toNat % 64 < 64 := Nat.mod_lt _ (by decide)
  refine ⟨fun h => State.obord_alu h rfl, fun h => State.obord_alu h rfl, fun h => State.obord_alu h rfl, fun h => State.obord_alu h rfl,
    fun h => State.obord_alu h rfl, fun h => State.obord_alu h rfl, fun h => State.obord_alu h (shiftLeft_eq_ofNat _ _),
    fun h => State.obord_alu h (ushiftRight_eq_ofNat _ _), fun h => State.obord_alu h (sshiftRight_eq_ofInt _ _),
    fun h => State.obord_alu h (rotateLeft_eq_or _ hn), fun h => State.obord_alu h (boolWord_decide _),
    fun h => State.obord_alu h (boolWord_decide _), fun h => State.obord_alu h ?_, fun h => State.obord_alu h (minU_eq_ofNat _ _),
    fun h => State.obord_alu h (maxU_eq_ofNat _ _), fun h => State.obord_alu h (ite_not _ _ _).symm, fun h => State.obord_alu h ?_,
    fun h => State.obord_alu h rfl⟩
  · simp [aluEval, boolWord]
  · rw [BitVec.ofNat_mul, BitVec.ofNat_toNat, BitVec.ofNat_toNat, BitVec.setWidth_eq, BitVec.setWidth_eq]; rfl

end

section
/-! Bit counts, byte reversals and the CRC of a register, each by what its recursion comes to (R92, R95). -/

namespace Sys2Proof.Machine

open Sys2Proof

/-! ### Bit counts -/

theorem foldl_count_eq (p : Nat → Bool) (l : List Nat) (k : Nat) :
    l.foldl (fun n i => if p i then n + 1 else n) k = k + (l.filter p).length := by
  induction l generalizing k with
  | nil => rfl
  | cons i l ih =>
    rw [List.foldl_cons, ih]
    cases h : p i with
    | true => rw [List.filter_cons_of_pos h, List.length_cons, if_pos rfl]; omega
    | false => rw [List.filter_cons_of_neg (by simp [h])]; rfl

theorem popCount_eq (v : W64) : popCount v = ((List.range 64).filter (fun i => v.getLsbD i)).length := by
  rw [popCount, foldl_count_eq, Nat.zero_add]

/-- The zeros counted down from bit `n` end at a one or at bit 0. -/
theorem clzFrom_spec (v : W64) (n : Nat) :
    clzFrom v n ≤ n ∧ (∀ i, n - clzFrom v n ≤ i → i < n → v.getLsbD i = false) ∧ (clzFrom v n < n → v.getLsbD (n - 1 - clzFrom v n) = true) := by
  induction n with
  | zero => simp [clzFrom]
  | succ n ih =>
    obtain ⟨hle, hzero, hone⟩ := ih
    by_cases h : v.getLsbD n = true
    · simp [clzFrom, h]; omega
    · rw [clzFrom, if_neg h]
      refine ⟨by omega, fun i hi hin => ?_, fun hlt => ?_⟩
      · rcases Nat.lt_succ_iff_lt_or_eq.1 hin with hin | rfl
        · exact hzero i (by omega) hin
        · simpa using h
      · rw [show n + 1 - 1 - (1 + clzFrom v n) = n - 1 - clzFrom v n by omega]
        exact hone (by omega)

/-- The zeros counted up from bit `64 - n` end at a one or at bit 64. -/
theorem ctzFrom_spec (v : W64) (n : Nat) (hn : n ≤ 64) :
    ctzFrom v n ≤ n ∧ (∀ i, 64 - n ≤ i → i < 64 - n + ctzFrom v n → v.getLsbD i = false) ∧
      (ctzFrom v n < n → v.getLsbD (64 - n + ctzFrom v n) = true) := by
  induction n with
  | zero => exact ⟨by simp [ctzFrom], fun i hi h => by simp [ctzFrom] at h; omega, fun h => absurd h (by simp)⟩
  | succ n ih =>
    obtain ⟨hle, hzero, hone⟩ := ih (by omega)
    have hbit : 63 - n = 64 - (n + 1) := by omega
    by_cases h : v.getLsbD (63 - n) = true
    · rw [ctzFrom, if_pos h]
      exact ⟨Nat.zero_le _, fun i hi hlt => absurd hlt (by omega), fun _ => by rw [← hbit]; exact h⟩
    · rw [ctzFrom, if_neg h]
      refine ⟨by omega, fun i hi hlt => ?_, fun hlt => ?_⟩
      · rcases Nat.eq_or_lt_of_le hi with rfl | hi
        · rw [← hbit]; simpa using h
        · exact hzero i (by omega) (by omega)
      · rw [show 64 - (n + 1) + (1 + ctzFrom v n) = 64 - n + ctzFrom v n by omega]
        exact hone (by omega)

/-! ### Bytes of numbers -/

/-- A digit of the number that bytes spell is the byte there. -/
theorem leNat_digit (bs : Bytes) (j : Nat) (h : j < bs.length) : leNat bs / 256 ^ j % 256 = bs[j].toNat := by
  induction bs generalizing j with
  | nil => simp at h
  | cons b bs ih =>
    have hb : b.toNat < 256 := b.isLt
    cases j with
    | zero => simp [leNat]; omega
    | succ j =>
      rw [leNat, Nat.pow_succ', ← Nat.div_div_eq_div_mul, show (b.toNat + 256 * leNat bs) / 256 = leNat bs by omega]
      exact ih j (by simpa using h)

/-- The number reversed has the bytes in the other order. -/
theorem beNat_toLE_digit (n v j : Nat) (h : j < n) : beNat (toLE n v) / 256 ^ j % 256 = v / 256 ^ (n - 1 - j) % 256 := by
  rw [beNat, leNat_digit _ _ (by simpa using h), List.getElem_reverse, toLE_getElem, toLE_length]
  simp

theorem beNat_toLE_lt (n v : Nat) : beNat (toLE n v) < 256 ^ n := by
  simpa [beNat] using leNat_lt (toLE n v).reverse

/-- Bytes listed by their places. -/
theorem toLE_eq_map (n v : Nat) : toLE n v = (List.range n).map (fun k => BitVec.ofNat 8 (v / 256 ^ k)) :=
  List.ext_getElem (by simp) fun k hk _ => by rw [toLE_getElem]; simp

/-! ### The CRC, bit by bit (R95) -/

/-- A remainder after one more bit. -/
def crcStep (r : W32) (b : Bool) : W32 := if r.getLsbD 0 ≠ b then (r >>> 1) ^^^ 0x82F63B78#32 else r >>> 1

/-- The division takes the low bit of what is added to the remainder and keeps the others. -/
theorem crcBit_xor (r x : W32) : crcBit (r ^^^ x) = crcStep r (x.getLsbD 0) ^^^ (x >>> 1) := by
  rw [crcBit, crcStep, BitVec.ushiftRight_xor_distrib, BitVec.getLsbD_xor]
  cases r.getLsbD 0 <;> cases x.getLsbD 0 <;> simp <;> ac_rfl

/-- A byte is its eight bits, least significant first. -/
theorem crcByte_eq_foldl (r : W32) (c : Byte) : crcByte r c = (List.range 8).foldl (fun r k => crcStep r (c.getLsbD k)) r := by
  have hgone : c.setWidth 32 >>> 8 = 0#32 := by ext i hi; simp
  have hlow : ∀ k, (c.setWidth 32 >>> k).getLsbD 0 = (decide (k < 32) && c.getLsbD k) := fun k => by simp
  have hzero : (c.setWidth 32).getLsbD 0 = c.getLsbD 0 := by simp
  simp only [crcByte, crcBit_xor, ← BitVec.shiftRight_add, Nat.reduceAdd, hlow, hzero, hgone, BitVec.xor_zero]
  rfl

/-- The remainder of the bytes of a number is that of its bits. -/
theorem foldl_crcByte_toLE (n : Nat) (v : W64) (hn : n ≤ 8) (r : W32) :
    (toLE n v.toNat).foldl crcByte r = (List.range (8 * n)).foldl (fun r k => crcStep r (v.getLsbD k)) r := by
  rw [toLE_eq_map, List.foldl_map]
  induction n with
  | zero => rfl
  | succ n ih =>
    have hbits : ∀ k ∈ List.range 8, (BitVec.ofNat 8 (v.toNat / 256 ^ n)).getLsbD k = v.getLsbD (8 * n + k) := fun k hk => by
      rw [List.mem_range] at hk
      rw [BitVec.getLsbD_ofNat, show (256 : Nat) ^ n = 2 ^ (8 * n) by rw [Nat.pow_mul], ← Nat.shiftRight_eq_div_pow, Nat.testBit_shiftRight]
      simp [hk, BitVec.getLsbD]
    rw [List.range_succ, List.foldl_append, ih (by omega), Nat.mul_succ, List.range_add, List.foldl_append, List.foldl_map]
    rw [List.foldl_cons, List.foldl_nil, crcByte_eq_foldl]
    exact List.foldl_ext _ _ _ fun r k hk => by rw [hbits k hk]

theorem crcEval_eq (sz : Size) (a b : W64) :
    crcEval sz a b = ((List.range (8 * sz.bytes)).foldl (fun r k => crcStep r (b.getLsbD k)) (a.setWidth 32)).setWidth 64 := by
  rw [crcEval, foldl_crcByte_toLE _ _ (by cases sz <;> decide)]

theorem hmixEval_eq (a b x : W64) (h : x = (a ^^^ ((b <<< 23) ||| (b >>> 41))) * 0x9E3779B97F4A7C15#64) : hmixEval a b = x ^^^ (x >>> 29) := by
  subst h; rfl

/-- The reversal of the low bytes of a register: fewer than `256 ^ n`, and each byte of the other end. -/
theorem byteReverse_spec (n : Nat) (a : W64) :
    ∃ v, byteReverse n a = BitVec.ofNat 64 v ∧ v < 256 ^ n ∧ ∀ j, j < n → v / 256 ^ j % 256 = a.toNat / 256 ^ (n - 1 - j) % 256 :=
  ⟨_, rfl, beNat_toLE_lt n _, fun j => beNat_toLE_digit n _ j⟩

end Sys2Proof.Machine

open Sys2Proof Sys2Proof.Machine

/-- Settles O15: the recursions of the model by what they count, the reversal byte by byte, and the CRC from bytes to bits
(`foldl_crcByte_toLE`). -/
theorem unaryAndHashResults : Obligations.UnaryAndHashResults := by
  unfold Obligations.UnaryAndHashResults
  rintro s tid rd ra rb sz a b rfl rfl
  refine ⟨fun h => State.obord_alu h (congrArg (BitVec.ofNat 64) (popCount_eq _)), fun h => ?_, fun h => ?_, fun h => ?_, fun h => ?_, fun h => ?_,
    fun h => ?_, fun h x hx => ?_⟩
  · obtain ⟨hle, hzero, hone⟩ := clzFrom_spec (s.reg tid ra) 64
    refine ⟨_, State.obord_alu h rfl, hle, fun i hi => ?_, hone⟩
    rcases Nat.lt_or_ge i 64 with h64 | h64
    · exact hzero i hi h64
    · exact BitVec.getLsbD_of_ge _ _ h64
  · obtain ⟨hle, hzero, hone⟩ := ctzFrom_spec (s.reg tid ra) 64 le_rfl
    exact ⟨_, State.obord_alu h rfl, hle, fun i hi => hzero i (Nat.zero_le _) (by simpa using hi), fun hlt => by simpa using hone hlt⟩
  · obtain ⟨v, hv, hspec⟩ := byteReverse_spec 2 (s.reg tid ra)
    exact ⟨v, State.obord_alu h hv, hspec⟩
  · obtain ⟨v, hv, hspec⟩ := byteReverse_spec 4 (s.reg tid ra)
    exact ⟨v, State.obord_alu h hv, hspec⟩
  · obtain ⟨v, hv, hspec⟩ := byteReverse_spec 8 (s.reg tid ra)
    exact ⟨v, State.obord_alu h hv, hspec⟩
  · exact State.obord_toReg h (by simp only [State.perform, State.spent_reg]) (crcEval_eq sz _ _)
  · exact State.obord_toReg h (by simp only [State.perform, State.spent_reg]) (hmixEval_eq _ _ x hx)

end

section
/-! The immediate forms, the bit fields bit by bit, and the counters (R93, R94, R108). -/

namespace Sys2Proof.Machine

open Sys2Proof

/-! ### Immediates and bit fields -/

theorem add_signExtend_eq (a : W64) (imm : W16) : a + imm.signExtend 64 = BitVec.ofInt 64 (a.toInt + imm.toInt) := by
  rw [BitVec.ofInt_add, BitVec.ofInt_toInt]; rfl

theorem boolWord_ult_setWidth (a : W64) (imm : W16) : boolWord (a.ult (imm.setWidth 64)) = if a.toNat < imm.toNat then 1 else 0 := by
  rw [BitVec.ult, boolWord_decide, BitVec.toNat_setWidth, Nat.mod_eq_of_lt (by omega)]

/-- The mask of the low bits of a field. -/
theorem getLsbD_mask (n : Nat) {i : Nat} (h : i < 64) : (BitVec.ofNat 64 (2 ^ (n + 1) - 1)).getLsbD i = decide (i ≤ n) := by
  rw [BitVec.getLsbD_ofNat, Nat.testBit_two_pow_sub_one]
  simp [h]

theorem bfxEval_getLsbD (a : W64) (pos l i : Nat) (h : i < 64) : (bfxEval a pos l).getLsbD i = (decide (i ≤ l) && a.getLsbD (pos + i)) := by
  rw [bfxEval, BitVec.getLsbD_and, getLsbD_mask _ h, BitVec.getLsbD_ushiftRight, Bool.and_comm]

theorem bfiEval_getLsbD (d a : W64) (pos l i : Nat) (h : i < 64) :
    (bfiEval d a pos l).getLsbD i = if pos ≤ i ∧ i ≤ pos + l then a.getLsbD (i - pos) else d.getLsbD i := by
  simp only [bfiEval, BitVec.getLsbD_or, BitVec.getLsbD_and, BitVec.getLsbD_not, BitVec.getLsbD_shiftLeft, h, decide_true, Bool.true_and]
  by_cases hlo : i < pos
  · simp [hlo, show ¬ pos ≤ i by omega]
  · rw [getLsbD_mask _ (by omega)]
    by_cases hin : i - pos ≤ l
    · simp [hlo, hin, show pos ≤ i ∧ i ≤ pos + l by omega]
    · simp [hin, show ¬ (pos ≤ i ∧ i ≤ pos + l) by omega]

/-! ### Counters (R108) -/

theorem State.spent_stitchLen (s : State) (tid : Nat) : (s.spent tid).stitchLen = 1024 * 2 ^ s.rd F.STITCH_LEN.CUR := by
  rw [State.stitchLen, State.spent_rd, stitchLenOf, Nat.shiftLeft_eq]

/-- The identity of a spindle's thread: its fields side by side. -/
theorem State.spent_identity (s : State) {tid : Nat} (h : tid < 6144) :
    (s.spent tid).ctrValue tid 3 = tid / 128 + 64 * (tid / 8 % 16) + 1024 * (tid % 8) + 8192 * s.rd (F.MULE_ROLE.EPOCH (tid / 128) (tid / 8 % 16)) +
      2097152 * s.rd (F.MULE_ROLE.ROLE (tid / 128) (tid / 8 % 16)) := by
  have hmule : muleOf (spOf tid) = tid / 128 := by rw [muleOf, spOf]; omega
  have hlog : logOf (spOf tid) = tid / 8 % 16 := rfl
  have hepoch : s.rd (F.MULE_ROLE.EPOCH (tid / 128) (tid / 8 % 16)) < 2 ^ 8 := s.rd_lt _
  rw [State.ctrValue, isCob_of_lt h, State.spent_role, State.spent_rd, State.role, roleF, epochF, hmule, hlog, tOf]
  simp only [Bool.false_eq_true, if_false]
  rw [or_shiftLeft_of_lt (k := 6) _ (by omega), or_shiftLeft_of_lt (k := 10) _ (by omega), or_shiftLeft_of_lt (k := 13) _ (by omega),
    or_shiftLeft_of_lt (k := 21) _ (by omega)]
  norm_num

end Sys2Proof.Machine

open Sys2Proof Sys2Proof.Machine

/-- Settles O16: the immediates as numbers, the fields bit by bit (`bfxEval_getLsbD`, `bfiEval_getLsbD`), and each counter read. -/
theorem immediateResults : Obligations.ImmediateResults := by
  unfold Obligations.ImmediateResults
  rintro s tid rd ra imm amt pos lenm1 k a d rfl rfl
  have hnat : imm.setWidth 64 = BitVec.ofNat 64 imm.toNat := (BitVec.ofNat_toNat 64 imm).symm
  have hshi (kind : ShiftKind) : (s.spent tid).perform tid (.shi rd ra kind amt) = (s.spent tid).toReg tid rd (shiftEval kind (s.reg tid ra) amt.toNat) := by
    simp only [State.perform, State.spent_reg]
  refine ⟨fun h => State.obord_toReg h (by simp only [State.perform, State.spent_reg]) (add_signExtend_eq _ _),
    fun h => State.obord_toReg h (by simp only [State.perform, State.spent_reg]) (congrArg _ hnat),
    fun h => State.obord_toReg h (by simp only [State.perform, State.spent_reg]) (congrArg _ hnat),
    fun h => State.obord_toReg h (by simp only [State.perform, State.spent_reg]) (congrArg _ hnat),
    fun h => State.obord_toReg h (hshi .shl) (shiftLeft_eq_ofNat _ _), fun h => State.obord_toReg h (hshi .shr) (ushiftRight_eq_ofNat _ _),
    fun h => State.obord_toReg h (hshi .sar) (sshiftRight_eq_ofInt _ _), fun h => State.obord_toReg h (hshi .rol) (rotateLeft_eq_or _ amt.isLt),
    fun h => State.obord_toReg h (by simp only [State.perform, State.spent_reg]) (boolWord_ult_setWidth _ _),
    fun h => State.obord_toReg h rfl rfl, fun h => ?_, fun hfit h => ?_, fun hfit h => ?_, fun sel hsel h => ?_⟩
  · refine ⟨bfiEval (s.reg tid rd) (imm.setWidth 64) (16 * k.toNat) 15, State.obord_toReg h (by simp only [State.perform, State.spent_reg]) rfl, fun i hi => ?_⟩
    rw [bfiEval_getLsbD _ _ _ _ _ hi]
    by_cases hin : 16 * k.toNat ≤ i ∧ i < 16 * k.toNat + 16
    · rw [if_pos hin, if_pos (by omega), BitVec.getLsbD_setWidth]; simp; omega
    · rw [if_neg hin, if_neg (by omega)]
  · exact ⟨_, State.obord_toReg h (by simp only [State.perform, State.spent_reg]) rfl (by simp [Ob.admitted]; omega), bfxEval_getLsbD _ _ _⟩
  · exact ⟨_, State.obord_toReg h (by simp only [State.perform, State.spent_reg]) rfl (by simp [Ob.admitted]; omega), bfiEval_getLsbD _ _ _ _⟩
  · refine ⟨_, State.obord_toReg h rfl rfl (by simpa [Ob.admitted] using hsel), ?_, ?_, ?_, ?_, ?_, ?_, ?_⟩ <;> rintro rfl
    · exact congrArg (· % 2 ^ 32) (s.spent_rd tid _)
    · exact s.spent_rd tid _
    · show (if (s.spent tid).bounded tid then ((s.spent tid).thr tid).slots else 0) = _
      rw [State.spent_bounded, State.spent_thr]
      split <;> simp [*]
    · intro hcob
      exact if_pos hcob
    · exact s.spent_identity
    · exact s.spent_stitchLen tid
    · show (if (s.spent tid).bounded tid then ((s.spent tid).thr tid).budget else budgetOf (s.spent tid).stitchLen) = _
      rw [State.spent_bounded, State.spent_thr, State.spent_stitchLen]
      rfl

end

section
/-! Transfers of control: the levels a transfer pops, and where each instruction takes its thread (R96, R97, R109). -/

namespace Sys2Proof.Machine

open Sys2Proof

/-! ### The loop stack -/

/-- The levels popped end with the outermost body that control leaves. -/
theorem popLevels_poppedTo (out : Level → Bool) (ls : List Level) : poppedTo (fun l => out l = true) ls (popLevels out ls) := by
  induction ls with
  | nil => exact ⟨[], rfl, by simp [popLevels], by simp⟩
  | cons l ls ih =>
    obtain ⟨gone, hsplit, hrest, hlast⟩ := ih
    have hlen : ls.length = gone.length + (popLevels out ls).length := by rw [← List.length_append, ← hsplit]
    by_cases hpop : (popLevels out ls).length < ls.length ∨ out l = true
    · rw [popLevels, if_pos hpop]
      refine ⟨l :: gone, by rw [List.cons_append, ← hsplit], hrest, fun k hk => ?_⟩
      cases gone with
      | nil =>
        obtain rfl : l = k := by simpa using hk
        exact hpop.resolve_left (by simp at hlen; omega)
      | cons m gone => exact hlast k (by simpa using hk)
    · rw [popLevels, if_neg hpop]
      obtain ⟨hkept, hl⟩ := not_or.1 hpop
      have hnil : gone = [] := List.eq_nil_of_length_eq_zero (by omega)
      subst hnil
      refine ⟨[], rfl, fun k hk => ?_, by simp⟩
      rcases List.mem_cons.1 hk with rfl | hk
      · exact hl
      · rw [List.nil_append] at hsplit
        rw [hsplit] at hk
        exact hrest k hk

theorem poppedTo.congr {p q : Level → Prop} (h : ∀ l, p l ↔ q l) {ls rest : List Level} (hp : poppedTo p ls rest) : poppedTo q ls rest := by
  rwa [show q = p from funext fun l => propext (h l).symm]

/-! ### Conditions (R96) -/

theorem condHolds_iff (cc : Cond) (a b : W64) : condHolds cc a b = true ↔ condSays cc a b := by
  cases cc with
  | eq => exact beq_iff_eq
  | ne => exact bne_iff_ne
  | lt => exact BitVec.slt_iff_toInt_lt
  | ge => simp [condHolds, condSays, BitVec.slt]
  | ltu => exact BitVec.ult_iff_lt
  | geu => simp [condHolds, condSays, BitVec.ult]

/-! ### The thread after its instruction -/

theorem State.spent_threadTo (s : State) (tid : Nat) : s.threadTo (s.spent tid) tid (s.thr tid) :=
  (s.threadTo_iff _ tid _).mpr ⟨s.spent_threadOnly tid, s.spent_thr tid⟩

theorem State.threadTo.modThr {s t : State} {tid : Nat} {x y : Thread} (h : s.threadTo t tid x) {f : Thread → Thread}
    (hf : ∀ n, f { x with slots := n } = { y with slots := n }) : s.threadTo (t.modThr tid f) tid y := by
  obtain ⟨honly, hthr⟩ := (s.threadTo_iff _ tid _).mp h
  exact (s.threadTo_iff _ tid _).mpr ⟨honly.modThr f, by rw [State.thr_modThr_same, hthr, hf]⟩

section
variable {s : State} {tid : Nat} {i : Ob} (h : s.MayIssue tid i) (ha : i.admitted = true)
include h ha

/-- A transfer of control: the thread's record as the instruction leaves it, with another PC. -/
theorem State.obord_jump {u : State} {pc : Nat} {x : Thread} (hp : (s.spent tid).perform tid i = .go u (some pc)) (hu : s.threadTo u tid x) :
    ∃ t, s.obord tid i = .next t ∧ s.threadTo t tid { x with pc := pc } :=
  ⟨u.jump tid pc, by rw [State.obord_eq h ha, hp]; rfl, hu.modThr fun _ => rfl⟩

/-- A transfer of control that leaves the bodies `out` names. -/
theorem State.obord_leaves {out : Level → Bool} {pc : Nat}
    (hp : (s.spent tid).perform tid i = .go ((s.spent tid).modThr tid fun x => { x with loops := popLevels out x.loops }) (some pc)) :
    ∃ t ls, s.obord tid i = .next t ∧ poppedTo (fun l => out l = true) (s.thr tid).loops ls ∧
      s.threadTo t tid { s.thr tid with pc := pc, loops := ls } := by
  obtain ⟨t, ht, hto⟩ := State.obord_jump h ha hp
    ((s.spent_threadTo tid).modThr (y := { s.thr tid with loops := popLevels out (s.thr tid).loops }) fun _ => rfl)
  exact ⟨t, _, ht, popLevels_poppedTo out _, hto⟩

/-- A branch that is not taken. -/
theorem State.obord_onward (hp : (s.spent tid).perform tid i = .go (s.spent tid) none) :
    ∃ t, s.obord tid i = .next t ∧ s.threadTo t tid (s.thr tid).onward :=
  ⟨_, State.obord_go h ha hp, s.goOn_threadTo tid⟩

/-- A branch forward that is taken. -/
theorem State.obord_branch {off : BitVec 13} (hp : (s.spent tid).perform tid i = (s.spent tid).branch tid off) :
    ∃ t ls, s.obord tid i = .next t ∧ poppedTo (fun l => l.stop < (s.thr tid).pc + 1 + off.toNat) (s.thr tid).loops ls ∧
      s.threadTo t tid { s.thr tid with pc := (s.thr tid).pc + 1 + off.toNat, loops := ls } := by
  obtain ⟨t, ls, ht, hpop, hto⟩ := State.obord_leaves h ha hp
  rw [State.spent_pc] at hpop hto
  exact ⟨t, ls, ht, hpop.congr fun l => decide_eq_true_iff, hto⟩

/-- A loop level opened within the limit: the body is not empty, so the thread goes on into it. -/
theorem State.obord_openLoop {trip len : Nat} (hlen : len ≠ 0) (hfit : (s.thr tid).loops.length < 4)
    (hp : (s.spent tid).perform tid i = (s.spent tid).openLoop tid trip len) :
    ∃ t, s.obord tid i = .next t ∧ s.threadTo t tid { s.thr tid with
      pc := (s.thr tid).pc + 1, loops := ⟨(s.thr tid).pc + 1, (s.thr tid).pc + len, trip⟩ :: (s.thr tid).loops } := by
  rw [State.openLoop, State.spent_loops, if_neg (by omega)] at hp
  refine ⟨_, State.obord_go h ha hp, s.modThr_threadTo fun n => ?_⟩
  have hnext : ∀ l rest, (⟨(s.thr tid).pc + 1, (s.thr tid).pc + len, trip⟩ :: rest : List Level).head? = some l → l.stop ≠ (s.thr tid).pc := by
    rintro l rest hl
    obtain rfl := Option.some.inj hl
    show (s.thr tid).pc + len ≠ _
    omega
  rw [Thread.onward, afterPc_next (fun l hl => hnext l _ hl)]

end

/-- The branch on a bit reads it against the value asked. -/
theorem bit_eq_iff (b : Bool) (v : BitVec 1) : b = (v == 1) ↔ (b = true ↔ v = 1) := by
  cases b <;> by_cases h : v = 1 <;> simp [h]

end Sys2Proof.Machine

open Sys2Proof Sys2Proof.Machine

/-- Settles O18: each instruction by its case of `State.perform`, with the stack popped as `popLevels_poppedTo` says. -/
theorem controlTransfers : Obligations.ControlTransfers := by
  unfold Obligations.ControlTransfers
  rintro s tid rd ra rb cc off len k v trip x rfl
  refine ⟨fun h hc => ?_, fun h hc => ?_, fun h hb => ?_, fun h hb => ?_, fun h => ?_, fun h htrip hlen hfit => ?_,
    fun h hlen hfit hn => ?_, fun h hlen hn => ?_, fun h => ?_, fun h => ?_, fun h hc hoff => ?_, fun h hc => ?_⟩
  · refine State.obord_branch h rfl ?_
    simp only [State.perform, State.spent_reg, (condHolds_iff ..).2 hc, if_true]
  · refine State.obord_onward h rfl ?_
    simp only [State.perform, State.spent_reg, if_neg (mt (condHolds_iff ..).1 hc)]
  · refine State.obord_branch h rfl ?_
    simp only [State.perform, State.spent_reg, bit_eq_iff, if_pos hb]
  · refine State.obord_onward h rfl ?_
    simp only [State.perform, State.spent_reg, bit_eq_iff, if_neg hb]
  · exact State.obord_branch h rfl rfl
  · exact State.obord_openLoop h (decide_eq_true ⟨htrip, hlen⟩) (fun h0 => hlen (BitVec.eq_of_toNat_eq h0)) hfit rfl
  · refine State.obord_openLoop h (decide_eq_true hlen) (fun h0 => hlen (BitVec.eq_of_toNat_eq h0)) hfit ?_
    simp only [State.perform, State.spent_reg, if_neg hn]
  · have hp : (s.spent tid).perform tid (.loopr ra len) = .go (s.spent tid) (some (((s.spent tid).thr tid).pc + len.toNat + 1)) := by
      simp only [State.perform, State.spent_reg, if_pos hn]
    rw [State.spent_pc] at hp
    exact State.obord_jump h (decide_eq_true hlen) hp (s.spent_threadTo tid)
  · exact State.obord_jump h rfl rfl ((s.spent_threadTo tid).modThr fun _ => Thread.setG_slots ..)
  · have hp : (s.spent tid).perform tid (.jr rd ra) = .go _ (some (((s.spent tid).reg tid ra).toNat % 2 ^ 13)) := rfl
    rw [State.spent_reg] at hp
    exact State.obord_jump h rfl hp ((s.spent_threadTo tid).modThr fun _ => Thread.setG_slots ..)
  · obtain ⟨t, ls, ht, hpop, hto⟩ := State.obord_leaves (out := fun l => decide ((s.thr tid).pc - off.toNat < l.start) || decide (l.stop < (s.thr tid).pc - off.toNat))
      (pc := (s.thr tid).pc - off.toNat) h rfl (by
        simp only [State.perform, State.spent_reg, (condHolds_iff ..).2 hc, if_true, State.branchBack, State.spent_pc, if_pos hoff])
    exact ⟨t, ls, ht, hpop.congr fun l => by simp, hto⟩
  · refine State.obord_onward h rfl ?_
    simp only [State.perform, State.spent_reg, if_neg (mt (condHolds_iff ..).1 hc)]

end

section
/-! Loads and stores of local memory and of the header area (R56, R98, R99). -/

namespace Sys2Proof.Machine

open Sys2Proof

/-! ### Bytes and sizes -/

/-- Bytes are those of the number they spell. -/
theorem toLE_leNat (bs : Bytes) : toLE bs.length (leNat bs) = bs := by
  induction bs with
  | nil => rfl
  | cons b bs ih =>
    have hb : b.toNat < 256 := b.isLt
    have hlow : BitVec.ofNat 8 (b.toNat + 256 * leNat bs) = b := BitVec.eq_of_toNat_eq (by rw [BitVec.toNat_ofNat]; omega)
    rw [List.length_cons, toLE, leNat, hlow, show (b.toNat + 256 * leNat bs) / 256 = leNat bs by omega, ih]

/-- The bytes of a number in network order are those of the number reversed. -/
theorem toBE_eq_toLE (n v : Nat) : toBE n v = toLE n (beNat (toLE n v)) := by
  have hrev := toLE_leNat (toLE n v).reverse
  rw [List.length_reverse, toLE_length] at hrev
  exact hrev.symm

theorem extendTo_eq_loaded_size (sz : Size) (sx : Bool) {v : Nat} (hv : v < 256 ^ sz.bytes) : extendTo sz sx v = loaded sz.bytes sx v := by
  have hsz : sizeOf sz.bytes = sz := by cases sz <;> rfl
  have hn : sz.bytes = 1 ∨ sz.bytes = 2 ∨ sz.bytes = 4 ∨ sz.bytes = 8 := by cases sz <;> decide
  rw [← extendTo_eq_loaded sx hn (by rwa [Nat.pow_mul]), hsz]

/-- A value loaded from memory, least significant byte first. -/
theorem extendTo_read (sz : Size) (sx : Bool) (m : Memory) (a : Nat) :
    extendTo sz sx (leNat (Memory.read m a sz.bytes)) = loaded sz.bytes sx (leNat (Memory.read m a sz.bytes)) :=
  extendTo_eq_loaded_size sz sx (by simpa using leNat_lt (Memory.read m a sz.bytes))

/-- A value loaded from memory in network order. -/
theorem extendTo_read_be (sz : Size) (sx : Bool) (m : Memory) (a : Nat) :
    extendTo sz sx (beNat (Memory.read m a sz.bytes)) = loaded sz.bytes sx (beNat (Memory.read m a sz.bytes)) :=
  extendTo_eq_loaded_size sz sx (by simpa [beNat] using leNat_lt (Memory.read m a sz.bytes).reverse)

/-! ### Local memory -/

theorem localFault_none {tid a n : Nat} (hin : a + n ≤ localRange tid) (hal : a % n = 0) : localFault tid a n n = none := by
  rw [localFault, if_neg (by omega), if_neg (by omega)]

theorem lmemAt_eq (tid a : Nat) : lmemAt tid a = 0x10000 * (tid / 8) + (if tid % 8 = 0 then 0 else 0x2000 * (tid % 8)) + a := by
  rw [lmemAt, spOf, tOf]
  split <;> omega

theorem sliceAt_eq (tid a : Nat) : sliceAt tid a = 0x10000 * (tid / 8) + 0x2000 * (tid % 8) + a := rfl

theorem isCob_of_le {tid : Nat} (h : 8192 ≤ tid) : isCob tid = true := decide_eq_true h

theorem localRange_of_le {tid : Nat} (h : 8192 ≤ tid) : localRange tid = 0x400000 := by rw [localRange, isCob_of_le h]; rfl

theorem State.spent_cobSram (s : State) (tid : Nat) : (s.spent tid).cobSram = s.cobSram := by
  have e := congrArg State.cobSram (s.spent_onlyMules tid)
  exact e

theorem State.spent_readLocal (s : State) (tid a n : Nat) : (s.spent tid).readLocal tid a n = s.readLocal tid a n := by
  rw [State.readLocal, State.readLocal, State.spent_cobSram, State.spent_lmem]

theorem State.writeLocal_of_lt (s : State) {tid : Nat} (h : tid < 6144) (a : Nat) (bs : Bytes) :
    s.writeLocal tid a bs = { s with lmem := Memory.write s.lmem (lmemAt tid a) bs } := by
  rw [State.writeLocal, isCob_of_lt h, if_neg Bool.false_ne_true]

theorem State.writeLocal_of_le (s : State) {tid : Nat} (h : 8192 ≤ tid) (a : Nat) (bs : Bytes) :
    s.writeLocal tid a bs = { s with cobSram := Memory.write s.cobSram a bs } := by
  rw [State.writeLocal, isCob_of_le h, if_pos rfl]

/-! A thread that goes on from a state with another memory: but for that memory it has only gone on. -/

theorem State.modThr_lmem_back (s : State) (tid : Nat) (f : Thread → Thread) (m : Memory) {l : Memory} (h : s.lmem = l) :
    { ({ s with lmem := m } : State).modThr tid f with lmem := l } = s.modThr tid f := by subst h; rfl

theorem State.modThr_goOn_lmem_back (s : State) (tid : Nat) (f : Thread → Thread) (m : Memory) {l : Memory} (h : s.lmem = l) :
    { (({ s with lmem := m } : State).modThr tid f).goOn tid with lmem := l } = (s.modThr tid f).goOn tid := by subst h; rfl

theorem State.modThr_cobSram_back (s : State) (tid : Nat) (f : Thread → Thread) (m : Memory) {l : Memory} (h : s.cobSram = l) :
    { ({ s with cobSram := m } : State).modThr tid f with cobSram := l } = s.modThr tid f := by subst h; rfl

section
variable {s : State} {tid : Nat} {sz : Size} {rd ra : Reg} {off : BitVec 13} (hin : eaOf (s.reg tid ra) off + sz.bytes ≤ localRange tid)
  (hal : eaOf (s.reg tid ra) off % sz.bytes = 0)
include hin hal

/-- LD in range and aligned. -/
theorem State.obord_ld {sx : Bool} (h : s.MayIssue tid (.ld sz sx rd ra off)) {v : W64}
    (hv : extendTo sz sx (leNat (s.readLocal tid (eaOf (s.reg tid ra) off) sz.bytes)) = v) :
    s.obord tid (.ld sz sx rd ra off) = .next (s.wrote tid rd v) := by
  refine State.obord_toReg h ?_ hv
  show (s.spent tid).loadLocal tid sz sx rd ra off = _
  simp only [State.loadLocal, State.spent_reg, localFault_none hin hal, State.spent_readLocal]

/-- ST in range and aligned. -/
theorem State.obord_st (h : s.MayIssue tid (.st sz rd ra off)) :
    s.obord tid (.st sz rd ra off) =
      .next (((s.spent tid).writeLocal tid (eaOf (s.reg tid ra) off) (toLE sz.bytes (s.reg tid rd).toNat)).goOn tid) := by
  refine State.obord_go h rfl ?_
  show (s.spent tid).storeLocal tid sz rd ra off = _
  simp only [State.storeLocal, State.spent_reg, localFault_none hin hal]

end

/-! ### The header area -/

/-- HLD in range. -/
theorem State.obord_hld {s : State} {tid : Nat} {sz : Size} {sx : Bool} {rd ra : Reg} {off : BitVec 13}
    (hin : eaOf (s.reg tid ra) off + sz.bytes ≤ 0x100) (h : s.MayIssue tid (.hld sz sx rd ra off)) {v : W64}
    (hv : extendTo sz sx (beNat (s.readSlice tid (eaOf (s.reg tid ra) off) sz.bytes)) = v) :
    s.obord tid (.hld sz sx rd ra off) = .next (s.wrote tid rd v) := by
  refine State.obord_toReg h ?_ hv
  show (s.spent tid).loadHeader tid sz sx rd ra off = _
  simp only [State.loadHeader, State.spent_reg, if_neg (Nat.not_lt.2 hin), State.readSlice, State.spent_lmem]

/-- A thread with a byte range of its header area written. -/
def Thread.widened (x : Thread) (lo hi : Nat) : Thread := { x with dirty := widen x.dirty lo hi }

theorem widen_eq_some (d : Option (Nat × Nat)) (lo hi : Nat) :
    ∃ r, widen d lo hi = some r ∧ (d = none → r = (lo, hi)) ∧ ∀ l h, d = some (l, h) → r = (min l lo, max h hi) := by
  cases d with
  | none => exact ⟨_, rfl, fun _ => rfl, fun _ _ h => by simp at h⟩
  | some d => exact ⟨_, rfl, fun h => by simp at h, fun l h hd => by simp at hd; simp [hd]⟩

/-- HST in range. -/
theorem State.obord_hst {s : State} {tid : Nat} {sz : Size} {rd ra : Reg} {off : BitVec 13}
    (hin : eaOf (s.reg tid ra) off + sz.bytes ≤ 0x100) (h : s.MayIssue tid (.hst sz rd ra off)) :
    s.obord tid (.hst sz rd ra off) = .next ((((s.spent tid).writeSlice tid (eaOf (s.reg tid ra) off) (toBE sz.bytes (s.reg tid rd).toNat)).modThr tid
      fun x => x.widened (eaOf (s.reg tid ra) off) (eaOf (s.reg tid ra) off + sz.bytes - 1)).goOn tid) := by
  refine State.obord_go h rfl ?_
  show (s.spent tid).storeHeader tid sz rd ra off = _
  simp only [State.storeHeader, State.spent_reg, if_neg (Nat.not_lt.2 hin)]
  rfl

end Sys2Proof.Machine

open Sys2Proof Sys2Proof.Machine

/-- Settles O20: an access in range takes no fault (`localFault_none`), reads the bytes at its address and stores those of its register. -/
theorem localMemoryAccess : Obligations.LocalMemoryAccess := by
  unfold Obligations.LocalMemoryAccess
  rintro s tid sz sx rd ra off a n rfl rfl
  refine ⟨fun htid hin hal h => ?_, fun htid hin hal h => ?_, fun htid hin hal h => ?_, fun htid hin hal h => ?_, fun hin h => ?_, fun hin h => ?_⟩
  · refine State.obord_ld (by rwa [localRange_of_lt htid]) hal h ?_
    rw [State.readLocal, isCob_of_lt htid, lmemAt_eq]
    exact extendTo_read ..
  · have hst := State.obord_st (by rwa [localRange_of_lt htid]) hal h
    rw [State.writeLocal_of_lt _ htid, lmemAt_eq, s.spent_lmem] at hst
    refine ⟨_, hst, Memory.stored_write _ _ _ _, ?_⟩
    have hback := State.goOn_threadTo s tid
    rwa [State.goOn, ← State.modThr_lmem_back _ _ _ _ (s.spent_lmem tid)] at hback
  · refine State.obord_ld (by rwa [localRange_of_le htid]) hal h ?_
    rw [State.readLocal, isCob_of_le htid]
    exact extendTo_read ..
  · have hst := State.obord_st (by rwa [localRange_of_le htid]) hal h
    rw [State.writeLocal_of_le _ htid, s.spent_cobSram] at hst
    refine ⟨_, hst, Memory.stored_write _ _ _ _, ?_⟩
    have hback := State.goOn_threadTo s tid
    rwa [State.goOn, ← State.modThr_cobSram_back _ _ _ _ (s.spent_cobSram tid)] at hback
  · exact State.obord_hld hin h (extendTo_read_be ..)
  · obtain ⟨r, hr, hnone, hsome⟩ := widen_eq_some (s.thr tid).dirty (eaOf (s.reg tid ra) off) (eaOf (s.reg tid ra) off + sz.bytes - 1)
    have hst := State.obord_hst hin h
    rw [State.writeSlice, s.spent_lmem, toBE_eq_toLE] at hst
    refine ⟨_, r, hst, Memory.stored_write _ _ _ _, hnone, hsome, ?_⟩
    have hto := s.modThr_threadTo (tid := tid) (f := fun x => x.widened (eaOf (s.reg tid ra) off) (eaOf (s.reg tid ra) off + sz.bytes - 1))
      (x := { (s.thr tid).onward with dirty := some r }) fun n => by rw [← hr]; rfl
    rwa [← State.modThr_goOn_lmem_back _ _ _ _ (s.spent_lmem tid)] at hto

end

section
/-! A read of the Cobbler for which the lower half's latch holds more than 32 bits (R9, R112). -/

namespace Sys2Proof.Machine

open Sys2Proof

/-- The reset state with the latch of the Cobbler at STITCH_COUNT, whose upper half it holds with a bit 33, and g1 of the Cobbler's
first core at that half. -/
def overLatched : State :=
  { State.reset with latchCob := some (0x100008, 2 ^ 33) }.modThr 8192 fun x => x.setG 1 0x10000C#64

theorem overLatched_mayIssue : overLatched.MayIssue 8192 (.csrrd false true 2 1 0) where
  slot := by decide +kernel
  run := by decide +kernel
  noHalt := by
    have hnone : (overLatched.thr 8192).haltReq = none := by decide +kernel
    rw [State.haltDue, hnone]
  budget := by decide +kernel
  ready := by decide +kernel
  body := rfl
  context := by decide +kernel

/-- A register of the Cobbler's first core after a command. -/
def coreReg (o : Host.Outcome State Fault Refusal) (r : Reg) : W64 :=
  match o with
  | .next t => t.reg 8192 r
  | _ => 0

end Sys2Proof.Machine

open Sys2Proof Sys2Proof.Machine

/-- Refutes O26: a CSRRD of 4 bytes with sx whose value has more than 32 bits, from a latch that holds 2^33, sign-extends the low
32 bits alone and writes 0, where `loaded` adds the extension to the whole value and gives 2^32. -/
theorem not_privilegedInstructions : ¬ Obligations.PrivilegedInstructions := by
  unfold Obligations.PrivilegedInstructions
  rintro ⟨-, -, -, -, -, hread, -⟩
  have haddr : 0x10000C = (overLatched.reg 8192 1 + (0 : BitVec 13).signExtend 64).toNat := by decide +kernel
  have hclaim := hread overLatched 8192 false true 2 1 0 0x10000C 4 _ _ haddr rfl overLatched_mayIssue rfl le_rfl
  have hmodel : coreReg (exec (.csrrd 8192 false true 2 1 0) overLatched) 2 = 0 := by decide +kernel
  rw [hclaim] at hmodel
  exact absurd hmodel (by decide +kernel)

end

section
/-! The ways of a packet out of a worker: what giving it to the slow path, or dropping it, leaves unchanged (R116, R144). -/

namespace Sys2Proof.Machine

open Sys2Proof

/-- From `s` to `t` nothing changes but registers, FIFOs, the mules, the yarns, the bobbins and what the network holds. -/
def State.packetsOnly (s t : State) : Prop :=
  { t with csr := s.csr, fifos := s.fifos, mules := s.mules, yarn := s.yarn, bob := s.bob, net := s.net } = s

section packets
variable {s t u : State}

theorem State.packetsOnly_refl (s : State) : s.packetsOnly s := rfl

theorem State.packetsOnly.trans (h : s.packetsOnly t) (h' : t.packetsOnly u) : s.packetsOnly u := by
  unfold State.packetsOnly at *; rw [← h, ← h']

theorem State.packetsOnly.welt (h : s.packetsOnly t) : t.welt = s.welt := congrArg (·.welt) h
theorem State.packetsOnly.lmem (h : s.packetsOnly t) : t.lmem = s.lmem := congrArg (·.lmem) h
theorem State.packetsOnly.scratch (h : s.packetsOnly t) : t.scratch = s.scratch := congrArg (·.scratch) h
theorem State.packetsOnly.clk (h : s.packetsOnly t) : t.clk = s.clk := congrArg (·.clk) h
theorem State.packetsOnly.lace (h : s.packetsOnly t) : t.lace = s.lace := congrArg (·.lace) h

theorem State.yarnsOnly.packetsOnly (h : s.yarnsOnly t) : s.packetsOnly t := by
  unfold State.packetsOnly; rw [← h]

/-- A change of the parts listed alone. -/
theorem State.packetsOnly.of_eq (h : s.packetsOnly t)
    (hu : { u with csr := t.csr, fifos := t.fifos, mules := t.mules, yarn := t.yarn, bob := t.bob, net := t.net } = t) : s.packetsOnly u := h.trans hu

theorem State.packetsOnly.withBob (h : s.packetsOnly t) (b : BobStore) : s.packetsOnly { t with bob := b } := h.of_eq rfl
theorem State.packetsOnly.withNet (h : s.packetsOnly t) (n : Net) : s.packetsOnly { t with net := n } := h.of_eq rfl
theorem State.packetsOnly.setDesc (h : s.packetsOnly t) (handle : Nat) (d : Bobbin) : s.packetsOnly (t.setDesc handle d) := h.withBob _
theorem State.packetsOnly.wr (h : s.packetsOnly t) (f : FRef) (v : Nat) : s.packetsOnly (t.wr f v) := h.of_eq rfl
theorem State.packetsOnly.count (h : s.packetsOnly t) (f : FRef) (n : Nat) : s.packetsOnly (t.count f n) := h.wr f _

theorem State.packetsOnly.event (h : s.packetsOnly t) (q : FifoRef) (e : Nat) : s.packetsOnly (t.event q e) :=
  h.trans (iteInduction (motive := t.packetsOnly) (fun _ => rfl) fun _ => rfl)

theorem State.packetsOnly.foldl {α : Type} {f : State → α → State} (hf : ∀ (s : State) a, s.packetsOnly (f s a)) (l : List α) (h : s.packetsOnly t) :
    s.packetsOnly (l.foldl f t) := by
  induction l generalizing t with
  | nil => exact h
  | cons a l ih => exact ih (h.trans (hf t a))

theorem State.packetsOnly.leaveMarks (h : s.packetsOnly t) (hh tn c : Nat) : s.packetsOnly (t.leaveMarks hh tn c) :=
  iteInduction (motive := s.packetsOnly) (fun _ => h) fun _ => ((h.of_eq (u := t.setMarks _ _ _ _) rfl).event _ _).wr _ _

theorem State.releaseBobbin_packetsOnly (s : State) (handle : Nat) : s.packetsOnly (s.releaseBobbin handle) := by
  unfold State.releaseBobbin
  refine (State.packetsOnly.count (State.packetsOnly.wr (State.packetsOnly.wr ?_ _ _) _ _) _ _).leaveMarks _ _ _
  split <;> split
  · exact (((s.packetsOnly_refl.setDesc _ _).withBob _).withBob _).withBob _
  · exact ((s.packetsOnly_refl.setDesc _ _).withBob _).withBob _
  · exact ((s.packetsOnly_refl.withBob _).withBob _).withBob _
  · exact (s.packetsOnly_refl.withBob _).withBob _

theorem State.packetsOnly.checkFailed (h : s.packetsOnly t) (hh handle kind : Nat) : s.packetsOnly (t.checkFailed hh handle kind) :=
  (h.count _ 1).event _ _

theorem State.dropBobbin_packetsOnly (s : State) (handle : Nat) : s.packetsOnly (s.dropBobbin handle) := by
  unfold State.dropBobbin State.storeOne
  simp only []
  split_ifs
  exacts [s.packetsOnly_refl.checkFailed _ _ 6, s.packetsOnly_refl, s.packetsOnly_refl.checkFailed _ _ 7, s.packetsOnly_refl.checkFailed _ _ 5,
    s.packetsOnly_refl, s.releaseBobbin_packetsOnly handle, s.packetsOnly_refl.setDesc _ _, s.releaseBobbin_packetsOnly handle]

theorem State.packetsOnly.ownChain (h : s.packetsOnly t) (handle owner : Nat) : s.packetsOnly (t.ownChain handle owner) :=
  h.foldl (f := fun s b => s.setDesc b { s.desc b with owner := ownerEp owner }) (fun _ _ => rfl) _

theorem State.packetsOnly.dropPacket (h : s.packetsOnly t) (id : Nat) : s.packetsOnly (t.dropPacket id) := by
  unfold State.dropPacket
  split
  · exact (h.foldl (fun s b => s.dropBobbin_packetsOnly b) _).withNet _
  · exact h

theorem State.trySend_packetsOnly (s : State) {src : Nat} (hsrc : epIsUnit src = true) (dst epoch tag : Nat) (words : List W64) (reply : Bool) :
    s.packetsOnly (s.trySend src dst epoch tag words reply).2 := by
  unfold State.trySend
  simp only []
  split
  · rfl
  · rw [State.discardStale, State.notify, if_pos hsrc]; rfl
  · rfl

theorem State.sendPacket_packetsOnly (s : State) (id ep epoch tag origin status detail : Nat) :
    s.packetsOnly (s.sendPacket id ep epoch tag origin status detail) := by
  unfold State.sendPacket
  split
  · rfl
  next p _ =>
    have hsend := s.trySend_packetsOnly (src := editorEp p.half) (epIsUnit_epUnit 4 p.half) ep epoch tag (p.slowWords origin status detail) false
    generalize s.trySend (editorEp p.half) ep epoch tag (p.slowWords origin status detail) false = r at hsend ⊢
    split
    · exact (((hsend.count _ 1).ownChain _ _).withNet _).withNet _
    · exact (hsend.count _ 1).dropPacket _

theorem State.slowPath_packetsOnly (s : State) (id origin status detail : Nat) : s.packetsOnly (s.slowPath id origin status detail) := by
  unfold State.slowPath
  split
  · rfl
  · split
    · exact s.sendPacket_packetsOnly _ _ _ _ _ _ _
    · exact (s.packetsOnly_refl.count _ 1).dropPacket _

theorem State.workSlow_packetsOnly (s : State) (mule : Nat) (w : Work) (status detail : Nat) : s.packetsOnly (s.workSlow mule w status detail) := by
  unfold State.workSlow
  split
  · exact s.slowPath_packetsOnly _ _ _ _
  · refine iteInduction (motive := s.packetsOnly) (fun _ => ?_) (fun _ => s.packetsOnly_refl.count _ 1)
    have hsend := s.trySend_packetsOnly (src := editorEp (halfOfMule mule)) (epIsUnit_epUnit 4 _) (s.rd (F.EDIT_SP_DST.ENDPOINT (halfOfMule mule)))
      (s.rd (F.EDIT_SP_DST.EPOCH (halfOfMule mule))) 0x3E (s.itemWords w status detail) false
    generalize s.trySend (editorEp (halfOfMule mule)) _ _ _ _ _ = r at hsend ⊢
    split
    · exact hsend.count _ 1
    · exact hsend.count _ 1

end packets

end Sys2Proof.Machine
end

section
/-! The end of a bounded program: where its work goes, what is let go of the thread, and the end of retire (R99, R116, R117). -/

namespace Sys2Proof.Machine

open Sys2Proof

/-! ### A reservation let go -/

theorem State.notify_yarn (s : State) (src status dst tag epoch : Nat) : (s.notify src status dst tag epoch).yarn = s.yarn := by
  unfold State.notify
  split
  · rfl
  · split <;> rfl

theorem State.closeResv_flights (s : State) (dst id : Nat) (kind : MsgKind) : (s.closeResv dst id kind).2.yarn.flights = s.yarn.flights := by
  unfold State.closeResv
  split
  · rfl
  · split
    · show (State.discardStale _ _ _).yarn.flights = _
      rw [State.discardStale, State.notify_yarn]; rfl
    · rfl

theorem State.poison_flights (s : State) (tid : Nat) : (s.poison tid).yarn.flights = s.yarn.flights := by
  unfold State.poison
  split
  · exact s.closeResv_flights _ _ _
  · rfl
  · rfl

/-- The poisoning of a reservation changes no register but the counters of stale and poisoned messages. -/
theorem State.poison_words (s : State) (tid : Nat) : State.wordsKept (fun a => a % 0x10000 ≠ 0x3000 ∧ a % 0x10000 ≠ 0x3008) s (s.poison tid) := by
  unfold State.poison
  split
  · refine State.wordsKept.count (State.wordsKept.of_csr (fun a ha => s.closeResv_words _ _ .poisoned a ha.1) rfl) (fun ha => ha.2 ?_) 1
    simp only [F.MULE_STAT.POISONED.CNT]; omega
  · exact s.wordsKept_refl
  · exact s.wordsKept_refl

/-! ### A thread whose program has ended -/

theorem State.spent_net (s : State) (tid : Nat) : (s.spent tid).net = s.net := by
  have e := congrArg State.net (s.spent_onlyMules tid)
  exact e

theorem State.spent_pkt (s : State) (tid id : Nat) : (s.spent tid).pkt? id = s.pkt? id := by rw [State.pkt?, s.spent_net]; rfl


/-- The state in which the thread's program is done: its work is out of its hands and its retire ends at cycle `c`. -/
def State.programEnded (s : State) (tid c : Nat) : State :=
  (s.endProgram tid).modThr tid fun x => { x with work := none, retireAt := some c }

/-- A thread's record when its program has ended. -/
def Thread.programEnded (x : Thread) (c : Nat) : Thread :=
  { x with tickets := [], late := [], lkwStall := none, pend := [], scratchOp := none, portWait := none, loops := [], gen := x.gen + 1,
           work := none, retireAt := some c }

theorem State.programEnded_thr (s : State) (tid c : Nat) :
    (s.programEnded tid c).thr tid = { ((s.thr tid).programEnded c) with
      resv := ((s.poison tid).thr tid).resv, notice := ((s.poison tid).thr tid).notice, events := ((s.poison tid).thr tid).events } := by
  have hnoted := (s.poison_told tid).threads tid
  have hended : (s.programEnded tid c).thr tid = ((s.poison tid).thr tid).programEnded c := by
    rw [State.programEnded, State.thr_modThr_same, State.endProgram, State.thr_modThr_same]; rfl
  rw [hended, hnoted]; rfl

theorem State.programEnded_yarnsOnly (s : State) (tid c : Nat) : s.yarnsOnly (s.programEnded tid c) :=
  ((s.poison_told tid).only.modThr tid _).modThr tid _

theorem State.programEnded_scratchQ (s : State) (tid c : Nat) : (s.programEnded tid c).mules.scratchQ = s.mules.scratchQ :=
  congrArg (·.scratchQ) (s.poison_told tid).mulesBut

theorem State.programEnded_flights (s : State) (tid c : Nat) : (s.programEnded tid c).yarn.flights = s.yarn.flights := s.poison_flights tid

theorem State.programEnded_net (s : State) (tid c : Nat) : (s.programEnded tid c).net = s.net := by
  have e := congrArg State.net (s.programEnded_yarnsOnly tid c)
  exact e

theorem State.programEnded_spDrop (s : State) (tid c : Nat) :
    (s.programEnded tid c).rd F.EDIT_STAT.SP_DROP.CNT = s.rd F.EDIT_STAT.SP_DROP.CNT :=
  (s.poison_words tid).rd (by decide)

/-! ### Words of a memory -/

theorem Memory.read_add (m : Memory) (a k n : Nat) : Memory.read m a (k + n) = Memory.read m a k ++ Memory.read m (a + k) n := by
  induction k generalizing a with
  | zero => simp [Memory.read]
  | succ k ih => rw [Nat.succ_add, Memory.read, ih, Memory.read, List.cons_append, Nat.add_right_comm, Nat.add_assoc]

theorem sliceB_append {xs : Bytes} {n : Nat} (h : xs.length = n) (ys : Bytes) : sliceB (xs ++ ys) 0 n = xs := by
  subst h
  simp [sliceB]

theorem wordsOf_read (n : Nat) (m : Memory) (a : Nat) :
    wordsOf n (Memory.read m a (8 * n)) = (List.range n).map (fun k => wordOf (Memory.read m (a + 8 * k) 8)) := by
  induction n generalizing a with
  | zero => rfl
  | succ n ih =>
    rw [show 8 * (n + 1) = 8 + 8 * n by omega, Memory.read_add, wordsOf, sliceB_append (Memory.read_length _ _ _), List.drop_left' (Memory.read_length _ _ _), ih,
      List.range_succ_eq_map, List.map_cons, List.map_map]
    simp [Function.comp_def, Nat.mul_succ, Nat.add_assoc, Nat.add_comm 8]

theorem State.wordsOf_readSlice (s : State) (tid a n : Nat) :
    wordsOf n (s.readSlice tid a (8 * n)) = (List.range n).map (fun k => wordOf (s.readSlice tid (a + 8 * k) 8)) := by
  simp only [State.readSlice, wordsOf_read, sliceAt, Nat.add_assoc]

/-! ### Where the work goes -/

theorem State.modPkt_pkt_same {s : State} {id : Nat} {p : Packet} (f : Packet → Packet) (hp : s.pkt? id = some p) : (s.modPkt id f).pkt? id = some (f p) := by
  rw [State.modPkt, hp]
  exact AMap.get?_set_same _ _ _

section release
variable {s : State} {tid : Nat} {w : Work} {v : W64}

theorem State.release_packetsOnly (s : State) (tid : Nat) (w : Work) (m : DoneMode) (v : W64) : s.packetsOnly (s.release tid w m v) := by
  cases m with
  | drop => exact iteInduction (motive := s.packetsOnly) (fun _ => s.packetsOnly_refl.dropPacket _) fun _ => s.packetsOnly_refl
  | slowpath => exact s.workSlow_packetsOnly _ _ _ _
  | deliver =>
    refine iteInduction (motive := s.packetsOnly) (fun _ => s.workSlow_packetsOnly _ _ _ _) fun _ =>
      iteInduction (motive := s.packetsOnly) (fun _ => s.packetsOnly_refl) fun _ => ?_
    unfold State.modPkt
    split <;> rfl

theorem State.release_besideMules (s : State) (tid : Nat) (w : Work) (m : DoneMode) (v : W64) : s.besideMules (s.release tid w m v) := by
  cases m with
  | drop => exact iteInduction (motive := s.besideMules) (fun _ => s.besideMules_refl.dropPacket _) fun _ => s.besideMules_refl
  | slowpath => exact s.workSlow_besideMules _ _ _ _
  | deliver =>
    refine iteInduction (motive := s.besideMules) (fun _ => s.workSlow_besideMules _ _ _ _) fun _ =>
      iteInduction (motive := s.besideMules) (fun _ => s.besideMules_refl) fun _ => ?_
    unfold State.modPkt
    split
    · exact s.besideMules_refl.of_eq rfl rfl
    · exact s.besideMules_refl

theorem State.workSlow_packet (s : State) (mule : Nat) (hw : w.source < 4) (status detail : Nat) :
    s.workSlow mule w status detail = s.slowPath w.ref 1 status detail := if_pos hw

/-- A work item that cannot be sent is counted. -/
theorem State.workSlow_item (s : State) (mule : Nat) (hw : 4 ≤ w.source) (hen : s.rd (F.EDIT_SP_DST.EN (halfOfMule mule)) = 0) (status detail : Nat) :
    s.workSlow mule w status detail = s.count F.EDIT_STAT.SP_DROP.CNT 1 := by
  rw [State.workSlow, if_neg (by omega)]
  exact if_neg (by rw [State.flag, hen]; decide)

theorem State.release_drop_packet (s : State) (tid : Nat) {p : Packet} (v : W64) (hw : w.source < 4) (hp : s.pkt? w.ref = some p) :
    (s.release tid w .drop v).pkt? w.ref = none := by
  rw [State.release, if_pos hw, State.dropPacket, hp]
  exact AMap.get?_del_same _ _

/-- The packet goes to its half's editor with its action list, the words at 0x600, and the bytes of its header that were written. -/
theorem State.release_deliver_packet (s : State) (tid : Nat) {p : Packet} (hw : w.source < 4) (hp : s.pkt? w.ref = some p) (hv : v.toNat ≤ 32) :
    (s.release tid w .deliver v).pkt? w.ref = some { p with
      stage := .editor
      list := (List.range v.toNat).map (fun k => wordOf (s.readSlice tid (0x600 + 8 * k) 8))
      dirty := (s.thr tid).dirty.map (fun r => (r.1, s.readSlice tid r.1 (r.2 + 1 - r.1))) } := by
  rw [State.release, if_neg (by omega), if_neg (by omega), State.modPkt_pkt_same _ hp, State.wordsOf_readSlice]

theorem State.release_deliver_long (s : State) (tid : Nat) (hw : w.source < 4) (hv : 32 < v.toNat) :
    s.release tid w .deliver v = s.slowPath w.ref 1 0x02 0x01 := by
  rw [State.release, if_pos hv, State.workSlow_packet _ _ hw]; rfl

theorem State.release_slowpath_packet (s : State) (tid : Nat) (v : W64) (hw : w.source < 4) :
    s.release tid w .slowpath v = s.slowPath w.ref 1 0x00 (v.toNat % 256) := s.workSlow_packet _ hw _ _

/-- An item of Welt that is dropped or delivered goes to nobody. -/
theorem State.release_item_kept (s : State) (tid : Nat) {m : DoneMode} (hw : 4 ≤ w.source) (hm : m = .drop ∨ (m = .deliver ∧ v.toNat ≤ 32)) :
    s.release tid w m v = s := by
  rcases hm with rfl | ⟨rfl, hv⟩
  · exact if_neg (by omega)
  · rw [State.release, if_neg (by omega), if_pos hw]

theorem State.release_item_slow (s : State) (tid : Nat) {m : DoneMode} (hw : 4 ≤ w.source) (hm : m = .slowpath ∨ (m = .deliver ∧ 32 < v.toNat))
    (hen : s.rd (F.EDIT_SP_DST.EN (halfOfMule (muleOf (spOf tid)))) = 0) : s.release tid w m v = s.count F.EDIT_STAT.SP_DROP.CNT 1 := by
  rcases hm with rfl | ⟨rfl, hv⟩
  · exact s.workSlow_item _ hw hen _ _
  · rw [State.release, if_pos hv, s.workSlow_item _ hw hen]

end release

/-! ### DONE -/

/-- The state behind DONE with work in hand: the work has gone its way, the program has ended, and the thread stays at the instruction. -/
def State.doneWith (s : State) (tid : Nat) (w : Work) (m : DoneMode) (v : W64) : State :=
  (((s.spent tid).release tid w m v).programEnded tid (s.clk.cycles + 64)).jump tid (s.thr tid).pc

theorem State.obord_done {s : State} {tid : Nat} {m : DoneMode} {ra : Reg} {w : Work} (h : s.MayIssue tid (.done m ra)) (hw : (s.thr tid).work = some w) :
    s.obord tid (.done m ra) = .next (s.doneWith tid w m (s.reg tid ra)) := by
  have hwork : ((s.spent tid).thr tid).work = some w := by rw [s.spent_thr]; exact hw
  have hp : (s.spent tid).perform tid (.done m ra) =
      .go (((s.spent tid).release tid w m (s.reg tid ra)).programEnded tid (s.clk.cycles + 64)) (some (s.thr tid).pc) := by
    show Issued.go ((s.spent tid).finish tid m ((s.spent tid).reg tid ra)) (some ((s.spent tid).thr tid).pc) = _
    rw [State.spent_reg, State.spent_pc, State.finish, hwork, State.spent_clk]; rfl
  rw [State.obord_eq h rfl, hp]; rfl

section done
variable (s : State) (tid : Nat) (w : Work) (m : DoneMode) (v : W64)

theorem State.spent_packetsOnly : s.packetsOnly (s.spent tid) := (s.spent_onlyMules tid).yarnsOnly.packetsOnly

theorem State.doneWith_packetsOnly : s.packetsOnly (s.doneWith tid w m v) :=
  ((s.spent_packetsOnly tid).trans (State.release_packetsOnly _ tid w m v)).trans
    ((State.programEnded_yarnsOnly _ tid (s.clk.cycles + 64)).modThr tid _).packetsOnly

/-- The thread's record: its program has ended, and of the rest only what tells it of messages may differ. -/
theorem State.doneWith_thr : ∃ r n e k, (s.doneWith tid w m v).thr tid =
    { (s.thr tid).programEnded (s.clk.cycles + 64) with resv := r, notice := n, events := e, slots := k } := by
  have hthr : ((s.spent tid).release tid w m v).thr tid = (s.spent tid).thr tid := (State.release_besideMules _ tid w m v).thr tid
  refine ⟨((((s.spent tid).release tid w m v).poison tid).thr tid).resv, ((((s.spent tid).release tid w m v).poison tid).thr tid).notice,
    ((((s.spent tid).release tid w m v).poison tid).thr tid).events, (s.thr tid).slots + if s.bounded tid then 1 else 0, ?_⟩
  rw [State.doneWith, State.jump, State.thr_modThr_same, State.programEnded_thr, hthr, s.spent_thr]
  rfl

theorem State.doneWith_scratchQ : (s.doneWith tid w m v).mules.scratchQ = s.mules.scratchQ := by
  have hended := State.programEnded_scratchQ ((s.spent tid).release tid w m v) tid (s.clk.cycles + 64)
  rw [(State.release_besideMules _ tid w m v).mules, s.spent_scratchQ] at hended
  exact hended

theorem State.jump_net (s : State) (tid pc : Nat) : (s.jump tid pc).net = s.net := rfl
theorem State.jump_yarn (s : State) (tid pc : Nat) : (s.jump tid pc).yarn = s.yarn := rfl

theorem State.doneWith_net : (s.doneWith tid w m v).net = ((s.spent tid).release tid w m v).net := by
  rw [State.doneWith, State.jump_net, State.programEnded_net]

theorem State.doneWith_flights : (s.doneWith tid w m v).yarn.flights = ((s.spent tid).release tid w m v).yarn.flights := by
  rw [State.doneWith, State.jump_yarn, State.programEnded_flights]

theorem State.doneWith_spDrop :
    (s.doneWith tid w m v).rd F.EDIT_STAT.SP_DROP.CNT = ((s.spent tid).release tid w m v).rd F.EDIT_STAT.SP_DROP.CNT := by
  rw [State.doneWith, State.jump, State.modThr_rd, State.programEnded_spDrop]

end done

section doneWork
variable (s : State) {tid : Nat} {w : Work} {m : DoneMode} {v : W64} {p : Packet}

theorem State.doneWith_drop (hsrc : w.source < 4) (hp : s.pkt? w.ref = some p) : (s.doneWith tid w .drop v).pkt? w.ref = none := by
  rw [← s.spent_pkt tid] at hp
  rw [State.pkt?, State.doneWith_net]
  exact State.release_drop_packet _ _ _ hsrc hp

theorem State.doneWith_deliver (hsrc : w.source < 4) (hp : s.pkt? w.ref = some p) (hv : v.toNat ≤ 32) :
    (s.doneWith tid w .deliver v).pkt? w.ref = some { p with
      stage := .editor
      list := (List.range v.toNat).map (fun k => wordOf (s.readSlice tid (0x600 + 8 * k) 8))
      dirty := (s.thr tid).dirty.map (fun r => (r.1, s.readSlice tid r.1 (r.2 + 1 - r.1))) } := by
  rw [← s.spent_pkt tid] at hp
  rw [State.pkt?, State.doneWith_net]
  refine (State.release_deliver_packet _ tid hsrc hp hv).trans ?_
  simp only [State.readSlice, s.spent_lmem, s.spent_thr]

/-- An item of Welt that goes to nobody. -/
theorem State.doneWith_item_kept (hsrc : 4 ≤ w.source) (hm : m = .drop ∨ (m = .deliver ∧ v.toNat ≤ 32)) :
    (s.doneWith tid w m v).net = s.net ∧ (s.doneWith tid w m v).yarn.flights = s.yarn.flights := by
  rw [State.doneWith_net, State.doneWith_flights, State.release_item_kept _ tid hsrc hm, s.spent_net, s.spent_yarn]
  exact ⟨rfl, rfl⟩

/-- An item of Welt for a slow path that takes none. -/
theorem State.doneWith_item_slow (htid : tid < 6144) (hsrc : 4 ≤ w.source) (hm : m = .slowpath ∨ (m = .deliver ∧ 32 < v.toNat))
    (hen : s.rd (F.EDIT_SP_DST.EN (tid / 3072)) = 0) :
    (s.doneWith tid w m v).rd F.EDIT_STAT.SP_DROP.CNT = min (s.rd F.EDIT_STAT.SP_DROP.CNT + 1) (2 ^ 32 - 1) := by
  have hhalf : halfOfMule (muleOf (spOf tid)) = tid / 3072 := by rw [halfOfMule, muleOf, spOf]; split <;> omega
  rw [State.doneWith_spDrop, State.release_item_slow _ tid hsrc hm (by rwa [State.spent_rd, hhalf]), State.rd_count_same _ _ _ (by decide),
    State.spent_rd]
  rfl

end doneWork

/-! ### The end of retire (R117) -/

section retire
variable {s : State} {tid c : Nat} (hc : (s.thr tid).retireAt = some c) (hdue : c ≤ s.clk.cycles)
include hc hdue

theorem execRetireEnd_halted (h : s.ts tid = tsHalt) :
    execRetireEnd tid s = .next (s.modThr tid fun x => { x with retireAt := none, haltFrom := s.restState tid }) := by
  rw [execRetireEnd, hc]
  exact (if_neg (Nat.not_lt.2 hdue)).trans (if_pos h)

theorem execRetireEnd_rests (h : s.ts tid ≠ tsHalt) :
    execRetireEnd tid s = .next ((s.modThr tid fun x => { x with retireAt := none }).setTs tid (s.restState tid)) := by
  rw [execRetireEnd, hc]
  exact (if_neg (Nat.not_lt.2 hdue)).trans (if_neg h)

end retire

theorem State.restState_lt (s : State) (tid : Nat) : s.restState tid < 8 := by
  unfold State.restState
  split
  · split <;> decide
  · decide

/-- A thread that takes a state: but for the registers and the mules nothing changes. -/
theorem State.setTs_back (s : State) (tid st : Nat) {u : State} (h : { s with mules := u.mules } = u) :
    { s.setTs tid st with csr := u.csr, mules := u.mules } = u := by
  rw [← h]
  unfold State.setTs
  split <;> rfl

end Sys2Proof.Machine

open Sys2Proof Sys2Proof.Machine

/-- Settles O19: DONE hands the work on and lets the program go (`State.obord_done`), beside the memories and the other units
(`State.release_packetsOnly`); RETIRE_END by its branches. -/
theorem programEnd : Obligations.ProgramEnd := by
  unfold Obligations.ProgramEnd
  intro s tid ra w htid hw
  refine ⟨fun c m hc h => ?_, fun c hc hdue hhalt => ?_, fun c hc hdue hhalt => ?_⟩
  · have hexec : exec c s = s.obord tid (.done m ra) := by rcases hc with ⟨rfl, rfl⟩ | ⟨rfl, rfl⟩ | ⟨rfl, rfl⟩ <;> rfl
    obtain ⟨r, n, e, k, hrec⟩ := s.doneWith_thr tid w m (s.reg tid ra)
    have honly := s.doneWith_packetsOnly tid w m (s.reg tid ra)
    refine ⟨_, hexec.trans (State.obord_done h hw), ?_⟩
    rw [hrec]
    refine ⟨rfl, rfl, rfl, rfl, rfl, rfl, rfl, rfl, rfl, rfl, s.doneWith_scratchQ .., honly.scratch, honly.lmem, fun p hsrc hp => ⟨?_, ?_, ?_, ?_⟩,
      fun hsrc => ⟨honly.welt, fun hm => s.doneWith_item_kept hsrc hm, fun hm hen => s.doneWith_item_slow htid hsrc hm hen⟩⟩
    · rintro rfl
      exact s.doneWith_drop hsrc hp
    · rintro rfl hv
      exact s.doneWith_deliver hsrc hp hv
    · rintro rfl hv
      rw [State.doneWith_net, State.release_deliver_long _ tid hsrc hv]
    · rintro rfl
      rw [State.doneWith_net, State.release_slowpath_packet _ tid _ hsrc]
  · exact ⟨_, execRetireEnd_halted hc hdue hhalt, State.thr_modThr_same s tid fun x => { x with retireAt := none, haltFrom := s.restState tid },
      fun u hu => State.thr_modThr_other _ _ _ _ hu, rfl⟩
  · refine ⟨_, execRetireEnd_rests hc hdue hhalt, State.setTs_ts_same _ htid (s.restState_lt tid), ?_, fun u hu => ?_, ?_, ?_⟩
    · rw [State.setTs_thr, State.thr_modThr_same]
    · rw [State.setTs_thr, State.thr_modThr_other _ _ _ _ hu]
    · exact State.setTs_back _ _ _ rfl
    · exact State.setTs_regsKept _ _ _

end

section
/-! Dispatch of a packet to a worker (R113 to R115, R157; O29). -/

namespace Sys2Proof.Machine

open Sys2Proof

/-! ### The bytes of a packet -/

theorem State.chainFrom_congr {s t : State} (h : t.bob = s.bob) (fuel handle : Nat) : t.chainFrom fuel handle = s.chainFrom fuel handle := by
  induction fuel generalizing handle with
  | zero => rfl
  | succ fuel ih => rw [State.chainFrom, State.chainFrom, ih, State.desc, State.desc, h]

/-- The bytes a worker finds in its slice come from the bobbins and the memory, by the bases of the stores, and from the stitch count. -/
theorem State.workSlice_congr {s t : State} (hb : t.bob = s.bob) (hm : t.mem = s.mem)
    (hskein : ∀ h, t.rd (F.BOBBIN_SKEIN_ADDR.ADDR h) = s.rd (F.BOBBIN_SKEIN_ADDR.ADDR h))
    (hbase : ∀ h, t.rd (F.BOBBIN_DRAM_BASE.BASE h) = s.rd (F.BOBBIN_DRAM_BASE.BASE h)) (hstitch : t.stitch = s.stitch) (p : Packet) :
    t.workSlice p = s.workSlice p := by
  have hbytes (b : Nat) : t.bobBytes b = s.bobBytes b := by
    rw [State.bobBytes, State.bobBytes, State.bobAddr, State.bobAddr, hskein, hbase, hm, State.desc, State.desc, hb]
  have hchain : t.chainBytes p.handle = s.chainBytes p.handle := by
    rw [State.chainBytes, State.chainBytes, State.chain, State.chain, State.chainFrom_congr hb, funext hbytes]
  rw [State.workSlice, State.workSlice, hchain, State.descriptor, State.descriptor, hstitch]

/-- The state in which the dispatcher's choice is used and the dispatch counted. -/
def State.dispatched (s : State) (h : Nat) : State := (s.useDispatch h).count F.CARD_STAT.DISPATCHED.CNT 1

theorem State.count_dispatched (s : State) (h : Nat) : (s.useDispatch h).count F.CARD_STAT.DISPATCHED.CNT 1 = s.dispatched h := rfl

section dispatched
variable (s : State) (h : Nat)

theorem State.dispatched_rd {f : FRef} (hf : f.addr ≠ F.CARD_STAT.DISPATCHED.CNT.addr) : (s.dispatched h).rd f = s.rd f :=
  State.rd_count_apart _ _ _ _ (by decide) ((FRef.apart_iff ..).2 (.inl hf))

theorem State.dispatched_workSlice (p : Packet) : (s.dispatched h).workSlice p = s.workSlice p :=
  State.workSlice_congr (s := s) (t := s.dispatched h) rfl rfl (fun _ => s.dispatched_rd h (by simp only [F.BOBBIN_SKEIN_ADDR.ADDR, F.CARD_STAT.DISPATCHED.CNT]; omega))
    (fun _ => s.dispatched_rd h (by simp only [F.BOBBIN_DRAM_BASE.BASE, F.CARD_STAT.DISPATCHED.CNT]; omega)) (s.dispatched_rd h (by decide)) p

theorem State.dispatched_stitchLen : (s.dispatched h).stitchLen = 1024 * 2 ^ s.rd F.STITCH_LEN.CUR := by
  rw [State.stitchLen, s.dispatched_rd h (by decide), stitchLenOf, Nat.shiftLeft_eq]

theorem State.dispatched_activeImage (sp : Nat) (hsp : sp < 768) : (s.dispatched h).activeImage sp = s.activeImage sp :=
  State.activeImage_congr rfl (s.dispatched_rd h (by
    simp only [F.MULE_THR_STATE.ACTIVE_BANK, F.CARD_STAT.DISPATCHED.CNT, muleOf, logOf]; omega))

theorem State.dispatched_groupAt : (s.dispatched h).groupAt 1 h = none := by
  obtain ⟨n, p, hunit⟩ := s.useDispatch_unit h
  have hgroup : (s.dispatched h).groupAt 1 h = (s.useDispatch h).groupAt 1 h := rfl
  rw [hgroup, State.groupAt_eq, hunit]; rfl

end dispatched

/-! ### A thread that takes work -/

theorem State.groupAt_congr {s t : State} (h : t.lace = s.lace) (c u : Nat) : t.groupAt c u = s.groupAt c u := by
  rw [State.groupAt, State.chosenAt, h]; rfl

/-- The record of a thread that starts a bounded program at `pc`, its registers aside. -/
def Thread.started (x : Thread) (w : Work) (pc bank budget ready : Nat) : Thread :=
  { x with
    pc := pc, bank := bank, loops := [], pend := [], tickets := [], late := [], lkwStall := none, dirty := none, scratchOp := none, work := some w,
    slots := 0, budget := budget, gen := x.gen + 1, retireAt := none, readyAt := ready
    resv := match x.resv with | .stopped _ => .none | r => r }

theorem Thread.g_started (x : Thread) (w : Work) (pc bank budget ready r : Nat) : (x.started w pc bank budget ready).g r = x.g r := rfl

theorem State.startThread_thr (s : State) (tid : Nat) (bs : Bytes) (w : Work) (pc : Nat) :
    (s.startThread tid bs w pc).thr tid = (((s.thr tid).setG 1 (wordOf (sliceB bs 0x1C0 8))).setG 2 (wordOf (sliceB bs 0x1C8 8))).started w pc
      (s.activeBank (spOf tid)) (budgetOf s.stitchLen) (s.clk.cycles + 64) := by
  rw [State.startThread, State.setTs_thr, State.thr_modThr_same]; rfl

theorem State.startThread_thr_other (s : State) {tid u : Nat} (hu : u ≠ tid) (bs : Bytes) (w : Work) (pc : Nat) :
    (s.startThread tid bs w pc).thr u = s.thr u := by
  rw [State.startThread, State.setTs_thr, State.thr_modThr_other _ _ _ _ hu]; rfl

theorem State.startThread_ts (s : State) {tid : Nat} (h : tid < 6144) (bs : Bytes) (w : Work) (pc : Nat) :
    (s.startThread tid bs w pc).ts tid = tsRun := State.setTs_ts_same _ h (by decide)

theorem State.startThread_lmem (s : State) (tid : Nat) (bs : Bytes) (w : Work) (pc : Nat) :
    (s.startThread tid bs w pc).lmem = Memory.write s.lmem (0x10000 * (tid / 8) + 0x2000 * (tid % 8)) bs := State.setTs_lmem _ _ _

theorem State.startThread_net (s : State) (tid : Nat) (bs : Bytes) (w : Work) (pc : Nat) : (s.startThread tid bs w pc).net = s.net := State.setTs_net _ _ _

theorem State.startThread_lace (s : State) (tid : Nat) (bs : Bytes) (w : Work) (pc : Nat) : (s.startThread tid bs w pc).lace = s.lace := State.setTs_lace _ _ _

/-- A packet of no flow holds none. -/
theorem State.holdFlow_none {s : State} {id tid : Nat} {p : Packet} (hp : s.pkt? id = some p) (hf : p.flow = none) : s.holdFlow id tid = s := by
  rw [State.holdFlow, hp, Option.bind_some, hf]

/-! ### The dispatch -/

section dispatch
variable {s : State} {tid h g id : Nat} {p : Packet} {rest : List (Nat × Packet)}

/-- A thread that may take work takes the oldest packet of the group its dispatcher serves. -/
theorem execWorkerDispatch_takes (hmay : s.mayTake 0 tid = true) (hh : halfOfMule (muleOf (spOf tid)) = h) (hg : s.groupAt 1 h = some g)
    (hd : s.dispatchable h g = (id, p) :: rest) : execWorkerDispatch tid s = .next ((s.useDispatch h).dispatchTo tid id p) := by
  subst hh
  rw [execWorkerDispatch, if_neg (by rw [hmay]; decide)]
  simp only [hg, hd]

/-- The state in which the packet is the worker's. -/
def State.handedTo (s : State) (h tid id : Nat) (p : Packet) (pc : Nat) : State :=
  ((s.dispatched h).setPkt id { p with stage := .worker tid }).startThread tid (s.workSlice p) ⟨p.source, id, p.handle, p.entry⟩ pc

variable (hsp : spOf tid < 768) (hflow : p.flow = none)
include hsp hflow

theorem State.dispatchTo_worker {pc : Nat} (hpc : (s.activeImage (spOf tid)).bind (fun i => AMap.get? i.bounded p.entry) = some pc) :
    (s.useDispatch h).dispatchTo tid id p = s.handedTo h tid id p pc := by
  rw [← s.dispatched_activeImage h _ hsp] at hpc
  have hslice : ((s.dispatched h).setPkt id { p with stage := .worker tid }).workSlice p = s.workSlice p :=
    (State.workSlice_congr (s := s.dispatched h) (t := (s.dispatched h).setPkt id { p with stage := .worker tid }) rfl rfl (fun _ => rfl)
      (fun _ => rfl) rfl p).trans (s.dispatched_workSlice h p)
  have hto : (s.useDispatch h).dispatchTo tid id p = ((s.dispatched h).setPkt id { p with stage := .worker tid }).startWorker tid id p pc := by
    simp only [State.dispatchTo, hflow, State.count_dispatched, hpc]
  have hpkt : (s.handedTo h tid id p pc).pkt? id = some { p with stage := .worker tid } := by
    rw [State.pkt?, State.handedTo, State.startThread_net]; exact AMap.get?_set_same _ _ _
  rw [hto, State.startWorker, hslice]
  exact State.holdFlow_none hpkt hflow

theorem State.dispatchTo_none (hpc : (s.activeImage (spOf tid)).bind (fun i => AMap.get? i.bounded p.entry) = none) :
    (s.useDispatch h).dispatchTo tid id p = (s.dispatched h).slowPath id 1 0x0F 0x20 := by
  rw [← s.dispatched_activeImage h _ hsp] at hpc
  simp only [State.dispatchTo, hflow, State.count_dispatched, hpc]
  rfl

end dispatch

theorem State.mayTake_idle {s : State} {role tid : Nat} (h : s.mayTake role tid = true) : tid < 6144 ∧ s.ts tid = tsIdle := by
  simp only [State.mayTake, Bool.and_eq_true, decide_eq_true_eq, beq_iff_eq] at h
  obtain ⟨⟨⟨⟨⟨⟨⟨⟨htid, -⟩, -⟩, hts⟩, -⟩, -⟩, -⟩, -⟩, -⟩ := h
  exact ⟨htid, hts⟩

end Sys2Proof.Machine

open Sys2Proof Sys2Proof.Machine

/-- Settles O29: the dispatcher takes the oldest packet of its group; the thread starts with the packet's bytes (`State.startThread_thr`),
or the packet goes to the slow path beside the mules. -/
theorem workerDispatch : Obligations.WorkerDispatch := by
  unfold Obligations.WorkerDispatch
  rintro s tid h g id p rest hmay rfl hg hd hflow
  obtain ⟨htid, hidle⟩ := State.mayTake_idle hmay
  have hhalf : halfOfMule (muleOf (spOf tid)) = if tid / 128 < 24 then 0 else 1 := by rw [halfOfMule, muleOf, spOf, Nat.div_div_eq_div_mul]
  have hexec := execWorkerDispatch_takes hmay hhalf hg hd
  generalize (if tid / 128 < 24 then 0 else 1) = h at hexec hg hd ⊢
  refine ⟨fun i pc hi hpc hp => ?_, fun hpc => ?_⟩
  · rw [State.dispatchTo_worker (spOf_lt htid) hflow (by rw [spOf, hi]; exact hpc)] at hexec
    have hthr := State.startThread_thr ((s.dispatched h).setPkt id { p with stage := .worker tid }) tid (s.workSlice p) ⟨p.source, id, p.handle, p.entry⟩ pc
    refine ⟨_, _, hexec, rfl, State.startThread_ts _ htid _ _ _, ?_⟩
    rw [State.handedTo, hthr]
    refine ⟨rfl, rfl, ?_, rfl, rfl, rfl, rfl, rfl, rfl, ?_, ?_, fun r h1 h2 => ?_, ?_, ?_, ?_, fun u hu => ?_⟩
    · show budgetOf (s.dispatched h).stitchLen = _
      rw [State.dispatched_stitchLen, budgetOf]
    · rw [Thread.g_started, Thread.g_setG_other _ _ _ _ (by decide), Thread.g_setG_same _ _ _ (by decide)]
    · rw [Thread.g_started, Thread.g_setG_same _ _ _ (by decide)]
    · rw [Thread.g_started, Thread.g_setG_other _ _ _ _ h2, Thread.g_setG_other _ _ _ _ h1]; rfl
    · rw [State.startThread_lmem]; rfl
    · rw [State.startThread_net]
      exact AMap.get?_set_same _ _ _
    · rw [State.groupAt_congr (State.startThread_lace _ _ _ _ _)]
      exact s.dispatched_groupAt h
    · rw [State.startThread_thr_other _ hu]; rfl
  · rw [State.dispatchTo_none (spOf_lt htid) hflow (by rw [spOf, hpc])] at hexec
    have hbeside := (s.dispatched h).slowPath_besideMules id 1 0x0F 0x20
    have honly := (s.dispatched h).slowPath_packetsOnly id 1 0x0F 0x20
    refine ⟨_, hexec, ?_, ?_, honly.lmem, rfl⟩
    · rw [State.ts_of_rd (hbeside.words.rd (muleWord_thrStateF htid)), ← hidle]
      exact State.ts_of_rd (s.dispatched_rd h fun ha => absurd (muleWord_thrStateF htid).1 (by rw [ha]; decide))
    · rw [State.groupAt_congr honly.lace]
      exact s.dispatched_groupAt h

end

section
/-! Lookups on tickets: what starting one asks for, how LKW ends, and how a result arrives (R101, R102; O22). -/

namespace Sys2Proof.Machine

open Sys2Proof

/-! ### Work owed and contexts fetched -/

/-- From `s` to `t` nothing changes but registers and the memory work that is owed. -/
def State.owedOnly (s t : State) : Prop := { t with csr := s.csr, lace := { t.lace with owed := s.lace.owed } } = s

theorem State.owedOnly.trans {s t u : State} (h : s.owedOnly t) (h' : t.owedOnly u) : s.owedOnly u := by
  unfold State.owedOnly at *; rw [← h, ← h']

theorem State.owedOnly.lmem {s t : State} (h : s.owedOnly t) : t.lmem = s.lmem := congrArg (·.lmem) h
theorem State.owedOnly.thr {s t : State} (h : s.owedOnly t) (u : Nat) : t.thr u = s.thr u := congrArg (·.thr u) h
theorem State.owedOnly.lace {s t : State} (h : s.owedOnly t) : { t.lace with owed := s.lace.owed } = s.lace := congrArg (·.lace) h
theorem State.owedOnly.back {s t : State} (h : s.owedOnly t) : { t with csr := s.csr, lmem := s.lmem, mules := s.mules, lace := s.lace } = s := by
  rw [← h]

theorem State.owe_owedOnly (s : State) (c u g n : Nat) : s.owedOnly (s.owe c u g n) := by
  unfold State.owe
  split <;> rfl

theorem State.owedOnly_foldl {α : Type} {f : State → α → State} (hf : ∀ (s : State) a, s.owedOnly (f s a)) (l : List α) (s : State) :
    s.owedOnly (l.foldl f s) := by
  induction l generalizing s with
  | nil => rfl
  | cons a l ih => exact (hf s a).trans (ih _)

theorem State.oweMem_owedOnly (s : State) (h group a n : Nat) (write : Bool) : s.owedOnly (s.oweMem h group a n write) := by
  unfold State.oweMem
  split
  · rfl
  · exact State.owedOnly_foldl (fun s _ => State.owedOnly_foldl (fun s _ => s.owe_owedOnly _ _ _ _) _ s) _ s

/-- A lookup changes nothing but its counters and the work its extension owes. -/
theorem State.lookup_owedOnly (s : State) (h w prof tenant : Nat) (key : Bytes) : s.owedOnly (s.lookup h w prof tenant key).2 := by
  have hread : s.owedOnly ((s.count F.LAST_STAT.EXT_LOOKUPS.CNT 1).extRead h prof w tenant key) :=
    State.owedOnly.trans (t := s.count F.LAST_STAT.EXT_LOOKUPS.CNT 1) rfl (State.oweMem_owedOnly _ _ _ _ _ _)
  unfold State.lookup
  simp only []
  split
  · rfl
  · split
    · split
      · rfl
      · split
        · split
          · rfl
          · split
            · exact hread
            · exact hread
        · rfl
    all_goals split <;> rfl

theorem State.lookupCounted_owedOnly (s : State) (h w prof tenant : Nat) (key : Bytes) : s.owedOnly (s.lookupCounted h w prof tenant key).2 := by
  have hlookup := s.lookup_owedOnly h w prof tenant key
  unfold State.lookupCounted
  simp only []
  split
  · exact hlookup.trans rfl
  · exact hlookup

/-- From `s` to `t` nothing changes but registers, the memory's requests and what the network holds. -/
def State.fetchOnly (s t : State) : Prop := { t with csr := s.csr, dram := s.dram, net := s.net } = s

theorem State.fetchOnly.trans {s t u : State} (h : s.fetchOnly t) (h' : t.fetchOnly u) : s.fetchOnly u := by
  unfold State.fetchOnly at *; rw [← h, ← h']

theorem State.fetchOnly_count (s : State) (f : FRef) (n : Nat) : s.fetchOnly (s.count f n) := rfl

theorem State.fetchOnly.setLast {s t : State} (h : s.fetchOnly t) (l : Last) : s.fetchOnly (t.setLast l) := h.trans rfl

theorem State.onlyDram.fetchOnly {s t : State} (h : s.onlyDram t) : s.fetchOnly t := by
  unfold State.fetchOnly; rw [← h]

/-- From `s` to `t` nothing changes but registers, the memory's requests, what the network holds and the mules. -/
def State.fetchMules (s t : State) : Prop := { t with csr := s.csr, dram := s.dram, net := s.net, mules := s.mules } = s

section fetchMules
variable {s t u : State}

theorem State.fetchMules.trans (h : s.fetchMules t) (h' : t.fetchMules u) : s.fetchMules u := by
  unfold State.fetchMules at *; rw [← h, ← h']
theorem State.fetchOnly.fetchMules (h : s.fetchOnly t) : s.fetchMules t := by
  unfold State.fetchMules; rw [← h]
theorem State.onlyMules.fetchMules (h : s.onlyMules t) : s.fetchMules t := by
  unfold State.fetchMules; rw [← h]
theorem State.fetchMules.modThr (h : s.fetchMules t) (tid : Nat) (f : Thread → Thread) : s.fetchMules (t.modThr tid f) := h.trans rfl
theorem State.fetchMules.goOn (h : s.fetchMules t) (tid : Nat) : s.fetchMules (t.goOn tid) := h.modThr tid _
theorem State.fetchMules.lmem (h : s.fetchMules t) : t.lmem = s.lmem := congrArg (·.lmem) h
theorem State.fetchMules.scratch (h : s.fetchMules t) : t.scratch = s.scratch := congrArg (·.scratch) h
theorem State.fetchMules.yarn (h : s.fetchMules t) : t.yarn = s.yarn := congrArg (·.yarn) h

end fetchMules

theorem State.ctxFetch_fetchOnly (s : State) (k tenant : Nat) : s.fetchOnly (s.ctxFetch k tenant) := by
  unfold State.ctxFetch
  split
  · rfl
  · simp only []
    split
    · rfl
    · exact ((s.fetchOnly_count _ 1).trans (State.memIssue_onlyDram _ _ _ _ _).fetchOnly).setLast _

theorem State.fctxAsk_fetchOnly (s : State) (tid : Nat) (key : Bytes) : s.fetchOnly (s.fctxAsk tid key) :=
  iteInduction (motive := s.fetchOnly) (fun _ => rfl) fun _ => s.ctxFetch_fetchOnly _ _

/-! ### LKUP -/

/-- The state in which a lookup of profile `sel` is counted or its context asked for. -/
def State.lkupAsked (s : State) (tid sel : Nat) (key : Bytes) : State :=
  if sel < 28 then s.count F.LAST_STAT.LOOKUPS.CNT 1 else if sel = 28 then s.fctxAsk tid key else s

theorem State.lkupAsked_fetchOnly (s : State) (tid sel : Nat) (key : Bytes) : s.fetchOnly (s.lkupAsked tid sel key) :=
  iteInduction (motive := s.fetchOnly) (fun _ => rfl) fun _ =>
    iteInduction (motive := s.fetchOnly) (fun _ => s.fctxAsk_fetchOnly _ _) fun _ => rfl

/-- The ticket of a lookup. -/
def State.lkupTicket (s : State) (tid sel dl a : Nat) : Ticket :=
  { profile := sel, word := s.word (0x800000 + 8 * sel), key := s.readSlice tid a (s.lkupKeyLen sel), deadline := s.clk.cycles + 8 * dl, arrived := none }

theorem State.spent_lkupKeyLen (s : State) (tid sel : Nat) : (s.spent tid).lkupKeyLen sel = s.lkupKeyLen sel := by
  rw [State.lkupKeyLen, State.word_congr (s.spent_csr tid)]; rfl

theorem State.spent_lkupTicket (s : State) (tid sel dl a : Nat) : (s.spent tid).lkupTicket tid sel dl a = s.lkupTicket tid sel dl a := by
  rw [State.lkupTicket, State.lkupTicket, State.spent_lkupKeyLen, State.word_congr (s.spent_csr tid), State.readSlice, State.readSlice, s.spent_lmem,
    s.spent_clk]

/-- A thread with a ticket open. -/
def Thread.withTicket (x : Thread) (tk : Nat) (t : Ticket) : Thread := { x with tickets := AMap.set x.tickets tk t }

/-- LKUP in range and aligned. -/
theorem State.lookupStart_eq {s : State} {tid : Nat} {ra : Reg} (tk : BitVec 2) {sel : BitVec 5} (dl : BitVec 7)
    (hin : (s.reg tid ra).toNat + s.lkupKeyLen sel.toNat ≤ 0x2000) (hal : (s.reg tid ra).toNat % 8 = 0) :
    s.lookupStart tid tk ra sel dl = .go ((s.lkupAsked tid sel.toNat (s.readSlice tid (s.reg tid ra).toNat (s.lkupKeyLen sel.toNat))).modThr tid
      fun x => x.withTicket tk.toNat (s.lkupTicket tid sel.toNat dl.toNat (s.reg tid ra).toNat)) none := by
  simp only [State.lookupStart, if_neg (Nat.not_lt.2 hin), if_neg (not_not.2 hal)]
  by_cases h : sel.toNat < 28
  · simp only [State.lkupAsked, if_pos h, if_neg (show ¬ sel.toNat = 28 by omega)]; rfl
  · simp only [State.lkupAsked, if_neg h]; rfl

/-! ### LKW -/

/-- A thread whose LKW ends with a status, its ticket free. -/
def Thread.lkwEnded (x : Thread) (rd tk st : Nat) : Thread :=
  { x.setG rd (BitVec.ofNat 64 st) with tickets := AMap.del x.tickets tk, lkwStall := none }

theorem Thread.lkwEnded_slots (x : Thread) (rd tk st n : Nat) : { x with slots := n }.lkwEnded rd tk st = { x.lkwEnded rd tk st with slots := n } := by
  rw [Thread.lkwEnded, Thread.setG_slots]; rfl

/-- The thread's late lookups do not matter to the end of an LKW. -/
theorem Thread.lkwEnded_late (x : Thread) (rd tk st : Nat) (l : List Nat) :
    { x with late := l }.lkwEnded rd tk st = { x.lkwEnded rd tk st with late := l } := by
  unfold Thread.lkwEnded Thread.setG; split <;> rfl

/-- An instruction that goes on from a thread's record as it leaves it. -/
theorem State.obord_goes {s u : State} {tid : Nat} {i : Ob} {x : Thread} (h : s.MayIssue tid i) (ha : i.admitted = true)
    (hp : (s.spent tid).perform tid i = .go u none) (hu : s.threadTo u tid x) : ∃ t, s.obord tid i = .next t ∧ s.threadTo t tid x.onward :=
  ⟨u.goOn tid, State.obord_go h ha hp, hu.modThr fun _ => rfl⟩

section lkw
variable {s : State} {tid : Nat} {rd : Reg} {tk : BitVec 2} {k : Ticket} (h : s.MayIssue tid (.lkw rd tk))
include h

/-- LKW that ends with a status. -/
theorem State.obord_lkw_ends {st : Nat} (hp : (s.spent tid).lookupWait tid rd tk = (s.spent tid).lkwEnd tid rd tk.toNat st) :
    ∃ t, s.obord tid (.lkw rd tk) = .next t ∧ s.threadTo t tid ((s.thr tid).lkwEnded rd.toNat tk.toNat st).onward :=
  State.obord_goes h rfl hp ((s.spent_threadTo tid).modThr fun n => Thread.lkwEnded_slots _ _ _ _ n)

theorem State.obord_lkw_none (hk : AMap.get? (s.thr tid).tickets tk.toNat = none) :
    ∃ t, s.obord tid (.lkw rd tk) = .next t ∧ s.threadTo t tid ((s.thr tid).lkwEnded rd.toNat tk.toNat 4).onward := by
  refine State.obord_lkw_ends h ?_
  rw [State.lookupWait, s.spent_thr]
  simp only [hk]

theorem State.obord_lkw_arrived {st : Nat} (hk : AMap.get? (s.thr tid).tickets tk.toNat = some k) (hst : k.arrived = some st) :
    ∃ t, s.obord tid (.lkw rd tk) = .next t ∧ s.threadTo t tid ((s.thr tid).lkwEnded rd.toNat tk.toNat st).onward := by
  refine State.obord_lkw_ends h ?_
  rw [State.lookupWait, s.spent_thr]
  simp only [hk, hst]

/-- LKW at its deadline returns LATE, and the result that is still to come is one to discard. -/
theorem State.obord_lkw_late (hk : AMap.get? (s.thr tid).tickets tk.toNat = some k) (hst : k.arrived = none) (hdue : k.deadline ≤ s.clk.cycles) :
    ∃ t, s.obord tid (.lkw rd tk) = .next t ∧
      s.threadTo t tid { (s.thr tid).lkwEnded rd.toNat tk.toNat 2 with late := (s.thr tid).late ++ [tk.toNat] }.onward := by
  have hp : (s.spent tid).lookupWait tid rd tk =
      ((s.spent tid).modThr tid fun x => { x with late := x.late ++ [tk.toNat] }).lkwEnd tid rd tk.toNat 2 := by
    rw [State.lookupWait, s.spent_thr]
    simp only [hk, hst, s.spent_clk, if_pos hdue]
  have hlate := (s.spent_threadTo tid).modThr (f := fun x => { x with late := x.late ++ [tk.toNat] })
    (y := { s.thr tid with late := (s.thr tid).late ++ [tk.toNat] }) fun _ => rfl
  rw [← Thread.lkwEnded_late]
  exact State.obord_goes h rfl hp (hlate.modThr fun n => Thread.lkwEnded_slots _ _ _ _ n)

/-- LKW before its deadline loses its slot. -/
theorem State.obord_lkw_stalls (hk : AMap.get? (s.thr tid).tickets tk.toNat = some k) (hst : k.arrived = none) (hdue : s.clk.cycles < k.deadline) :
    ∃ t, s.obord tid (.lkw rd tk) = .next t ∧ s.threadTo t tid { s.thr tid with lkwStall := some (rd.toNat, tk.toNat) } := by
  have hp : (s.spent tid).perform tid (.lkw rd tk) =
      .stall ((s.spent tid).modThr tid fun x => { x with lkwStall := some (rd.toNat, tk.toNat) }) := by
    show (s.spent tid).lookupWait tid rd tk = _
    rw [State.lookupWait, s.spent_thr]
    simp only [hk, hst, s.spent_clk, if_neg (Nat.not_le.2 hdue)]
  exact ⟨(s.spent tid).modThr tid fun x => { x with lkwStall := some (rd.toNat, tk.toNat) }, by rw [State.obord_eq h rfl, hp]; rfl,
    (s.spent_threadTo tid).modThr fun _ => rfl⟩

end lkw

/-! ### LKUP issued -/

section lkup
variable {s : State} {tid : Nat} {ra : Reg} {tk : BitVec 2} {sel : BitVec 5} {dl : BitVec 7}

/-- The state behind LKUP in range and aligned. -/
def State.lkupGone (s : State) (tid tk sel dl a : Nat) : State :=
  (((s.spent tid).lkupAsked tid sel (s.readSlice tid a (s.lkupKeyLen sel))).modThr tid fun x => x.withTicket tk (s.lkupTicket tid sel dl a)).goOn tid

theorem State.obord_lkup (h : s.MayIssue tid (.lkup tk ra sel dl)) (ha : (Ob.lkup tk ra sel dl).admitted = true)
    (hin : (s.reg tid ra).toNat + s.lkupKeyLen sel.toNat ≤ 0x2000) (hal : (s.reg tid ra).toNat % 8 = 0) :
    s.obord tid (.lkup tk ra sel dl) = .next (s.lkupGone tid tk.toNat sel.toNat dl.toNat (s.reg tid ra).toNat) := by
  have hkey : (s.spent tid).readSlice tid (s.reg tid ra).toNat (s.lkupKeyLen sel.toNat) = s.readSlice tid (s.reg tid ra).toNat (s.lkupKeyLen sel.toNat) := by
    rw [State.readSlice, s.spent_lmem]; rfl
  have hstart : (s.spent tid).lookupStart tid tk ra sel dl = _ :=
    State.lookupStart_eq tk dl (by rwa [State.spent_reg, State.spent_lkupKeyLen]) (by rwa [State.spent_reg])
  rw [State.spent_reg, State.spent_lkupKeyLen, State.spent_lkupTicket, hkey] at hstart
  exact State.obord_go h ha hstart

end lkup

section lkupGone
variable (s : State) (tid tk sel dl a : Nat)

/-- The state in which the lookup is asked for, before its ticket is open. -/
theorem State.lkupAsked_thr (key : Bytes) (u : Nat) : (s.lkupAsked tid sel key).thr u = s.thr u := by
  have e := congrArg State.mules (s.lkupAsked_fetchOnly tid sel key)
  exact congrArg (fun m : Mules => AMap.getD m.threads u Thread.reset) e

theorem State.lkupGone_thr : (s.lkupGone tid tk sel dl a).thr tid =
    { ((s.thr tid).withTicket tk (s.lkupTicket tid sel dl a)).onward with slots := (s.thr tid).slots + if s.bounded tid then 1 else 0 } := by
  rw [State.lkupGone, State.goOn_thr, State.thr_modThr_same, State.lkupAsked_thr, s.spent_thr]; rfl

theorem State.lkupGone_thr_other {u : Nat} (hu : u ≠ tid) : (s.lkupGone tid tk sel dl a).thr u = s.thr u := by
  rw [State.lkupGone, State.goOn_thr_other _ hu, State.thr_modThr_other _ _ _ _ hu, State.lkupAsked_thr, s.spent_thr_other _ _ hu]

theorem State.lkupGone_fetchMules : s.fetchMules (s.lkupGone tid tk sel dl a) :=
  (((s.spent_onlyMules tid).fetchMules.trans ((s.spent tid).lkupAsked_fetchOnly tid sel _).fetchMules).modThr tid _).goOn tid

theorem State.lkupGone_rd (g : FRef) :
    (s.lkupGone tid tk sel dl a).rd g = ((s.spent tid).lkupAsked tid sel (s.readSlice tid a (s.lkupKeyLen sel))).rd g := rfl

theorem State.lkupAsked_withCsr (key : Bytes) (hsel : sel ≠ 28) : (s.lkupAsked tid sel key).withCsr s.csr = s := by
  rw [State.lkupAsked, if_neg hsel]
  split <;> rfl

/-- But for its counter a lookup other than of a context only opens its ticket. -/
theorem State.lkupGone_threadTo (hsel : sel ≠ 28) :
    s.threadTo ((s.lkupGone tid tk sel dl a).withCsr s.csr) tid ((s.thr tid).withTicket tk (s.lkupTicket tid sel dl a)).onward := by
  have hback := (s.spent tid).lkupAsked_withCsr tid sel (s.readSlice tid a (s.lkupKeyLen sel)) hsel
  rw [s.spent_csr] at hback
  have hto := s.modThr_threadTo (tid := tid) (f := fun x => x.withTicket tk (s.lkupTicket tid sel dl a))
    (x := ((s.thr tid).withTicket tk (s.lkupTicket tid sel dl a)).onward) fun _ => rfl
  rw [← hback] at hto
  exact hto

end lkupGone


/-! ### Results (R102) -/

theorem State.writeSlice_thr (s : State) (tid a : Nat) (bs : Bytes) (u : Nat) : (s.writeSlice tid a bs).thr u = s.thr u := rfl

section results
variable {s : State} {tid tk : Nat} {k : Ticket}

/-- A result whose LKW has already returned LATE. -/
theorem State.resultArrive_late (h : tk ∈ (s.thr tid).late) :
    s.resultArrive tid tk = (s.count F.LAST_STAT.LATE_DISCARD.CNT 1).modThr tid fun x => { x with late := x.late.erase tk } :=
  if_pos (List.contains_iff_mem.2 h)

variable (h : tk ∉ (s.thr tid).late) (hk : AMap.get? (s.thr tid).tickets tk = some k) (hst : k.arrived = none)
include h hk hst

/-- A result behind its deadline. -/
theorem State.resultArrive_overdue (hdue : k.deadline < s.clk.cycles) :
    s.resultArrive tid tk = (s.count F.LAST_STAT.LATE_DISCARD.CNT 1).modThr tid fun x => x.withTicket tk { k with arrived := some 2 } := by
  rw [State.resultArrive, if_neg (by rwa [List.contains_iff_mem])]
  simp only [hk, hst, Option.isSome_none, Bool.false_eq_true, if_false, if_pos hdue]
  rfl

/-- A result of a lookup profile in time: the entry in RB and its status in the ticket. -/
theorem State.resultArrive_inTime (hdue : s.clk.cycles ≤ k.deadline) (hprof : k.profile < 28) {r : LkRes} {u : State}
    (hru : s.lookupCounted (halfOfMule (muleOf (spOf tid))) k.word k.profile (s.workTenant tid) k.key = (r, u)) :
    s.resultArrive tid tk = (u.writeSlice tid (0x200 + 0x100 * tk) r.data).modThr tid fun x =>
      { x.withTicket tk { k with arrived := some r.status } with lkwStall := none } := by
  rw [State.resultArrive, if_neg (by rwa [List.contains_iff_mem])]
  simp only [hk, hst, Option.isSome_none, Bool.false_eq_true, if_false, if_neg (Nat.not_lt.2 hdue), State.ticketResult, if_pos hprof, hru]
  rfl

end results

end Sys2Proof.Machine

open Sys2Proof Sys2Proof.Machine

/-- Settles O22: LKUP, LKW and the arrival of a result, each by its cases on the ticket and the deadline. -/
theorem lookupInstructions : Obligations.LookupInstructions := by
  unfold Obligations.LookupInstructions
  refine ⟨?_, ?_, ?_, ?_, ?_, ?_⟩
  · rintro s tid ra tk sel dl a n rfl rfl hin hal hsel hdl h
    have hadm : (Ob.lkup tk ra sel dl).admitted = true := decide_eq_true ⟨hdl, hsel⟩
    have hthr := s.lkupGone_thr tid tk.toNat sel.toNat dl.toNat (s.reg tid ra).toNat
    have hframe := s.lkupGone_fetchMules tid tk.toNat sel.toNat dl.toNat (s.reg tid ra).toNat
    have hset : ((s.lkupGone tid tk.toNat sel.toNat dl.toNat (s.reg tid ra).toNat).thr tid).tickets =
        AMap.set (s.thr tid).tickets tk.toNat (s.lkupTicket tid sel.toNat dl.toNat (s.reg tid ra).toNat) := by rw [hthr]; rfl
    refine ⟨_, State.obord_lkup h hadm hin hal, ?_, fun k hne => ?_, ?_, ?_, ?_, ?_, ?_, fun u hu => s.lkupGone_thr_other _ _ _ _ _ hu,
      fun hsel => ?_, fun hsel => ⟨?_, ?_⟩, fun hsel => ?_⟩
    · rw [hset]; exact AMap.get?_set_same _ _ _
    · rw [hset]; exact AMap.get?_set_other _ _ _ _ hne
    · rw [hthr]; rfl
    · rw [hthr]; rfl
    · exact hframe.lmem
    · exact hframe.scratch
    · exact hframe.yarn
    · rw [hset]
      exact s.lkupGone_threadTo _ _ _ _ _ hsel
    · rw [State.lkupGone_rd, State.lkupAsked, if_pos hsel, State.rd_count_same _ _ _ (by decide), State.spent_rd]; rfl
    · intro g hg
      rw [State.lkupGone_rd, State.lkupAsked, if_pos hsel]
      exact (State.regsKept_of_csr (s.spent_csr tid) _).count 1 (by simp) (by decide) g hg
    · have hasked : (s.spent tid).lkupAsked tid sel.toNat (s.readSlice tid (s.reg tid ra).toNat (s.lkupKeyLen sel.toNat)) = s.spent tid := by
        rw [State.lkupAsked, if_neg (by omega), if_neg (by omega)]
      rw [State.lkupGone, hasked]
      exact s.spent_csr tid
  · rintro s tid rd tk _ rfl h
    cases hk : AMap.get? (s.thr tid).tickets tk.toNat with
    | none =>
      obtain ⟨t, ht, hto⟩ := State.obord_lkw_none h hk
      exact ⟨t, ht, fun _ => ⟨_, rfl, hto⟩, by simp, by simp, by simp⟩
    | some k =>
      cases hst : k.arrived with
      | some st =>
        obtain ⟨t, ht, hto⟩ := State.obord_lkw_arrived h hk hst
        refine ⟨t, ht, by simp, ?_, ?_, ?_⟩ <;> rintro k' 
        · rintro st' ⟨⟩ hst'
          obtain rfl := Option.some.inj (hst.symm.trans hst')
          exact ⟨_, rfl, hto⟩
        · rintro ⟨⟩ hnone
          simp [hst] at hnone
        · rintro ⟨⟩ hnone
          simp [hst] at hnone
      | none =>
        by_cases hdue : k.deadline ≤ s.clk.cycles
        · obtain ⟨t, ht, hto⟩ := State.obord_lkw_late h hk hst hdue
          refine ⟨t, ht, by simp, ?_, ?_, ?_⟩ <;> rintro k'
          · rintro st' ⟨⟩ hst'
            simp [hst] at hst'
          · rintro ⟨⟩ - -
            exact ⟨_, rfl, hto⟩
          · rintro ⟨⟩ - hlt
            omega
        · obtain ⟨t, ht, hto⟩ := State.obord_lkw_stalls h hk hst (Nat.lt_of_not_le hdue)
          refine ⟨t, ht, by simp, ?_, ?_, ?_⟩ <;> rintro k'
          · rintro st' ⟨⟩ hst'
            simp [hst] at hst'
          · rintro ⟨⟩ - hle
            exact absurd hle hdue
          · rintro ⟨⟩ - -
            exact hto
  · intro s tid tk hlate
    refine ⟨_, congrArg Host.Outcome.next (State.resultArrive_late hlate), ?_, ?_, rfl, State.thr_modThr_same _ tid _, fun v hv => State.thr_modThr_other _ _ _ _ hv⟩
    · exact State.rd_count_same s _ _ (by decide)
    · exact (s.regsKept_refl _).count 1 (by simp) (by decide)
  · rintro s tid tk h k hlate hk hst hdue hprof rfl
    have hhalf : halfOfMule (muleOf (spOf tid)) = if tid / 128 < 24 then 0 else 1 := by rw [halfOfMule, muleOf, spOf, Nat.div_div_eq_div_mul]
    rw [← hhalf]
    obtain ⟨r, u, hru⟩ : ∃ r u, s.lookupCounted (halfOfMule (muleOf (spOf tid))) k.word k.profile (s.workTenant tid) k.key = (r, u) := ⟨_, _, rfl⟩
    have howed := s.lookupCounted_owedOnly (halfOfMule (muleOf (spOf tid))) k.word k.profile (s.workTenant tid) k.key
    rw [hru] at howed
    refine ⟨_, r, u, congrArg Host.Outcome.next (State.resultArrive_inTime hlate hk hst hdue hprof hru), hru.symm, ?_, ?_, howed.back, howed.lace,
      fun v hv => ?_⟩
    · rw [← howed.lmem, Nat.add_assoc]; rfl
    · rw [State.thr_modThr_same, State.writeSlice_thr, howed.thr]; rfl
    · rw [State.thr_modThr_other _ _ _ _ hv, State.writeSlice_thr, howed.thr]
  · intro s tid tk k hlate hk hst hdue
    refine ⟨_, congrArg Host.Outcome.next (State.resultArrive_overdue hlate hk hst hdue), ?_, ?_, rfl, rfl, State.thr_modThr_same _ tid _⟩
    · exact State.rd_count_same s _ _ (by decide)
    · exact (s.regsKept_refl _).count 1 (by simp) (by decide)
  · intro s tid rd tk k hstall hk hst hdue hfetch h
    obtain ⟨t, ht, hto⟩ := State.obord_lkw_late h hk hst hdue
    refine ⟨t, _, ?_, rfl, hto⟩
    show execLookupDeadline tid s = _
    rw [execLookupDeadline, hstall]
    simp only [hk, if_pos (And.intro hdue hst), hfetch]
    exact ht

end

section
/-! The unit-issue instructions: CSUB, QPOST and FCWB, and the arrival of a post at its queue (R107, R156, R221; O25). -/

namespace Sys2Proof.Machine

open Sys2Proof

/-! ### Endpoints of threads and of units (R67) -/

theorem epThread_zero (tid : Nat) : epThread tid 0 = 8192 * (tid / 128) + (256 * (tid / 8 % 16) + 32 * (tid % 8)) := by
  have hspindle : 32 * (tid % 8) < 2 ^ 8 := by omega
  have hmule : 256 * (tid / 8 % 16) + 32 * (tid % 8) < 2 ^ 13 := by omega
  have hor : epThread tid 0 = (tid / 128) <<< 13 ||| ((tid / 8 % 16) <<< 8 ||| 32 * (tid % 8)) := by
    rw [epThread, muleOf, logOf, spOf, tOf, Nat.or_zero, Nat.or_assoc, Nat.div_div_eq_div_mul, Nat.shiftLeft_eq (tid % 8), Nat.mul_comm (tid % 8)]
  rw [hor, ← Nat.shiftLeft_add_eq_or_of_lt hspindle, Nat.shiftLeft_eq _ 8, Nat.mul_comm _ (2 ^ 8), ← Nat.shiftLeft_add_eq_or_of_lt hmule,
    Nat.shiftLeft_eq, Nat.mul_comm _ (2 ^ 13)]

theorem epMule_epThread {tid : Nat} (h : tid < 6144) : epMule (epThread tid 0) = tid / 128 := by
  rw [epThread_zero, epMule, bitsOf, Nat.shiftRight_eq_div_pow]
  omega

theorem epTid_epThread {tid : Nat} (h : tid < 6144) : epTid (epThread tid 0) = tid := by
  rw [epTid, epMule_epThread h, epThread_zero, epSpindle, bitsOf, bitsOf, tidOf, Nat.shiftRight_eq_div_pow, Nat.shiftRight_eq_div_pow]
  omega

theorem epIsUnit_epThread {tid : Nat} (h : tid < 6144) : epIsUnit (epThread tid 0) = false := by
  rw [epThread_zero, epIsUnit]
  exact Nat.testBit_lt_two_pow (by omega)

theorem epHalf_queueUnit {h : Nat} (hh : h < 2) : epHalf (epUnit 1 h) = h := by
  have : h = 0 ∨ h = 1 := by omega
  rcases this with rfl | rfl <;> rfl

/-- The half of a thread's mule. -/
theorem halfOfMule_thread (tid : Nat) : halfOfMule (muleOf (spOf tid)) = if tid / 128 < 24 then 0 else 1 := by
  rw [halfOfMule, muleOf, spOf, Nat.div_div_eq_div_mul]

/-! ### Bytes carried as words -/

/-- The words of a row of bytes carry those bytes. -/
theorem bytesOf_wordsOf {n : Nat} {bs : Bytes} (h : bs.length = 8 * n) : bytesOf (wordsOf n bs) = bs := by
  induction n generalizing bs with
  | zero => exact (List.length_eq_zero_iff.mp h).symm
  | succ n ih =>
    have hlen : (bs.take 8).length = 8 := by rw [List.length_take]; omega
    have hword : toLE 8 (wordOf (sliceB bs 0 8)).toNat = bs.take 8 := by
      have hlt : leNat (bs.take 8) < 2 ^ 64 := (leNat_lt (bs.take 8)).trans_eq (by rw [hlen]; rfl)
      have hslice : sliceB bs 0 8 = bs.take 8 := by rw [← List.take_append_drop 8 bs, sliceB_append hlen, List.take_append_drop]
      have hback := toLE_leNat (bs.take 8)
      rw [hlen] at hback
      rw [hslice, wordOf, BitVec.toNat_ofNat, Nat.mod_eq_of_lt hlt, hback]
    calc bytesOf (wordsOf (n + 1) bs) = toLE 8 (wordOf (sliceB bs 0 8)).toNat ++ bytesOf (wordsOf n (bs.drop 8)) := List.flatMap_cons
      _ = bs.take 8 ++ bs.drop 8 := by rw [hword, ih (by rw [List.length_drop]; omega)]
      _ = bs := List.take_append_drop 8 bs

theorem State.readLocal_length (s : State) (tid a n : Nat) : (s.readLocal tid a n).length = n := by
  unfold State.readLocal
  split <;> exact Memory.read_length _ _ _

end Sys2Proof.Machine
end

section
/-! The unit-issue instructions: CSUB, QPOST and FCWB, and the arrival of a post at its queue (R107, R156, R221; O25). -/

namespace Sys2Proof.Machine

open Sys2Proof

/-! ### An instruction that a unit answers at once (R107) -/

/-- The state in which the thread has been told of a refusal by a unit. -/
def State.unitTold (s : State) (tid : Nat) (r : Nat × Nat) (unit : Nat) : State :=
  if r.1 = ysRefused then s.notify (srcOf tid) r.2 unit 0 0 else s

/-- The message that stands for an operation of a unit. -/
def State.unitToken (s : State) (tid unit : Nat) : Msg :=
  { id := s.yarn.nextId, epoch := 0, lenm1 := 0, kind := .small, tag := 0, src := srcOf tid, dst := unit, words := [], committed := true }

section unit
variable {s s0 : State} {tid unit : Nat} {r : Nat × Nat} {op : YarnOp} {rd : Reg} {i : Ob}

theorem State.unitStatus_eq : s.unitStatus tid op rd r unit =
    .go ((s.unitTold tid r unit).freshMsg.2.launchOp tid op rd.toNat false ((s.unitTold tid r unit).unitToken tid unit) (some r.1)) none := rfl

theorem State.unitTold_accepted (h : r.1 ≠ ysRefused) : s.unitTold tid r unit = s := if_neg h

theorem State.unitTold_yarn : (s.unitTold tid r unit).yarn = s.yarn := by
  unfold State.unitTold
  split
  · exact s.notify_yarn _ _ _ _ _
  · rfl

theorem State.notify_yarnsOnly (s : State) (src status dst tag epoch : Nat) : s.yarnsOnly (s.notify src status dst tag epoch) := by
  unfold State.notify
  split
  · exact s.yarnsOnly_refl
  · split
    · exact State.tellSender_yarnsOnly s status dst tag epoch evStale
    · exact (State.tellSender_yarnsOnly s status dst tag epoch evRefused).count _ _

theorem State.unitTold_yarnsOnly : s.yarnsOnly (s.unitTold tid r unit) :=
  iteInduction (motive := s.yarnsOnly) (fun _ => s.notify_yarnsOnly _ _ _ _ _) fun _ => s.yarnsOnly_refl

/-- What a refusal tells: the notice, if none stood, and the event. -/
theorem State.refusalTold {s : State} (ht : tid < 6144) {c : Nat} (hc : c ≠ stStaleEpoch) :
    (((s.notify (epThread tid 0) c unit 0 0).thr tid).events.getLsbD 5 = true) ∧
    ((s.thr tid).notice = none → ((s.notify (epThread tid 0) c unit 0 0).thr tid).notice = some ⟨c, unit, 0, 0, 1⟩) := by
  have hevents := s.tellSender_events (src := epThread tid 0) c unit 0 0 evRefused (by decide)
  have hnotice := s.tellSender_notice (src := epThread tid 0) c unit 0 0 evRefused
  rw [epTid_epThread ht] at hevents hnotice
  rw [State.notify_refused _ _ _ (epIsUnit_epThread ht) hc, State.count_thr]
  exact ⟨hevents, fun h => hnotice.trans (Thread.note_none h _ _ _ _)⟩

/-- What an instruction leaves whose unit answers at once. -/
theorem State.obord_unit (ht : tid < 6144) (hi : s.MayIssue tid i) (ha : i.admitted = true)
    (hp : (s.spent tid).perform tid i = s0.unitStatus tid op rd r unit) :
    ∃ t f, s.obord tid i = .next t ∧ t.yarn.flights = s0.yarn.flights ++ [f] ∧ f.owner = some tid ∧ f.rd = rd.toNat ∧ f.op = op ∧
      f.status = some r.1 ∧ s0.yarnsOnly t ∧
      ∃ yw, t.thr tid = { (((s0.unitTold tid r unit).thr tid).await rd.toNat).onward with ywait := yw } := by
  obtain ⟨t, hrun, hyarn, hthr, -, -, honly⟩ := State.obord_launch ht hi ha (hp.trans State.unitStatus_eq)
  refine ⟨t, (s0.unitTold tid r unit).freshMsg.2.opFlight tid op rd.toNat false ((s0.unitTold tid r unit).unitToken tid unit) (some r.1) none,
    hrun, (congrArg (·.flights) hyarn).trans ?_, rfl, rfl, rfl, rfl, ?_, ⟨_, hthr⟩⟩
  · exact congrArg (·.flights ++ _) State.unitTold_yarn
  · exact (State.unitTold_yarnsOnly.trans (u := (s0.unitTold tid r unit).freshMsg.2) rfl).trans honly

end unit

/-! ### CSUB -/

section csub
variable (s : State) (tid : Nat)

theorem State.spent_cipher : (s.spent tid).cipher = s.cipher := congrArg (·.cipher) (s.spent_onlyMules tid)
theorem State.spent_mem : (s.spent tid).mem = s.mem := congrArg (·.mem) (s.spent_onlyMules tid)
theorem State.spent_q : (s.spent tid).q = s.q := congrArg (·.q) (s.spent_onlyMules tid)

theorem State.spent_fencedB : (s.spent tid).fencedB = s.fencedB := by rw [State.fencedB, State.spent_rd]; rfl

theorem State.spent_storeUsed (h : Nat) : (s.spent tid).storeUsed h = s.storeUsed h := by rw [State.storeUsed, State.spent_cipher]; rfl

theorem State.spent_storeJob (h : Nat) (raw : Bytes) : ((s.spent tid).storeJob h tid raw).cipher = (s.storeJob h tid raw).cipher := by
  have hhome (i : Nat) : (s.spent tid).sessHome i = s.sessHome i := by rw [State.sessHome, State.spent_rd]; rfl
  unfold State.storeJob State.submitJob State.setCipher
  simp only [hhome, State.spent_cipher, State.spent_clk]

variable {s tid} {rd ra : Reg} {h : Nat}

theorem State.csub_fenced {raw : Bytes} (hf : h = 1 ∧ s.fencedB = true) : s.csub h tid raw = ((ysRefused, stFencedSt), s) := if_pos hf

theorem State.csub_stored {raw : Bytes} (hf : ¬(h = 1 ∧ s.fencedB = true)) (hu : s.storeUsed h < storeLimit) :
    s.csub h tid raw = ((ysOk, 0), s.storeJob h tid raw) := (if_neg hf).trans (if_neg (Nat.not_le.2 hu))

/-- CSUB at an aligned buffer in range meets its half's cipher unit. -/
theorem State.spent_unitCsub (hh : h = halfOfMule (muleOf (spOf tid))) (hin : (s.reg tid ra).toNat + 64 ≤ localRange tid)
    (hal : (s.reg tid ra).toNat % 64 = 0) {r : Nat × Nat} {s0 : State} (hr : (s.spent tid).csub h tid (s.readLocal tid (s.reg tid ra).toNat 64) = (r, s0)) :
    (s.spent tid).perform tid (.csub rd ra) = s0.unitStatus tid .csub rd r (epUnit 2 h) := by
  show (s.spent tid).unitCsub tid rd ra = _
  unfold State.unitCsub
  simp only [State.spent_reg, localFault_none hin hal, State.spent_readLocal, ← hh, hr]

end csub

/-! ### FCWB -/

section fcwb
variable {s : State} {tid : Nat} {rd ra rb : Reg} {k : Nat}

theorem State.ctxEvict_yarn (h : Nat) : (s.ctxEvict h).yarn = s.yarn := by
  unfold State.ctxEvict
  simp only []
  split
  · rfl
  · split
    · rfl
    · split
      · exact congrArg (·.yarn) (State.oweMem_owedOnly _ _ _ _ _ _)
      · rfl

theorem State.ctxStore_yarn (bs : Bytes) : (s.ctxStore k bs).2.yarn = s.yarn := by
  unfold State.ctxStore
  split
  · rfl
  · split
    · rfl
    · show (State.ctxInstall _ _ _).yarn = _
      unfold State.ctxInstall
      split
      · rfl
      · exact State.ctxEvict_yarn _

theorem State.ctxStore_written {bs : Bytes} (hk : k < s.ctxCount) (hf : s.ctxFenced k = false) : s.ctxStore k bs = ((0, 0), s.ctxWrite k bs) :=
  (if_neg (Nat.not_le.2 hk)).trans (if_neg (by rw [hf]; exact Bool.false_ne_true))

theorem State.ctxStore_beyond {bs : Bytes} (hk : s.ctxCount ≤ k) : s.ctxStore k bs = ((0x04, 0x06), s) := if_pos hk

theorem State.ctxWrite_cached {bs : Bytes} (hbs : bs.length = 256) : (s.ctxWrite k bs).ctxCached k = some ⟨bs, true⟩ := by
  have hslice : sliceB bs 0 256 = bs := by rw [← List.append_nil bs, sliceB_append hbs, List.append_nil]
  rw [State.ctxWrite, hslice, State.ctxInstall_cached]

/-- What the thread is answered of a context write that ended so. -/
def fcwbAnswer (r : Nat × Nat) : Nat × Nat := if r = (0, 0) then (ysOk, 0) else (ysRefused, r.1)

/-- FCWB at an aligned buffer in range is a write of its context. -/
theorem State.spent_unitFcwb (hk : k = (s.reg tid rb).toNat % 2 ^ 22) (hin : (s.reg tid ra).toNat + 256 ≤ localRange tid)
    (hal : (s.reg tid ra).toNat % 256 = 0) {r : Nat × Nat} {s0 : State}
    (hr : (s.spent tid).ctxStore k (s.readLocal tid (s.reg tid ra).toNat 256) = (r, s0)) :
    (s.spent tid).perform tid (.fcwb rd ra rb) = s0.unitStatus tid .fcwb rd (fcwbAnswer r) (epUnit 5 (1 + (s.spent tid).ctxHome k)) := by
  show (s.spent tid).unitFcwb tid rd ra rb = _
  unfold State.unitFcwb
  simp only [State.spent_reg, localFault_none hin hal, State.spent_readLocal, ← hk, hr, fcwbAnswer]

end fcwb

/-! ### QPOST -/

section qpost
variable {s : State} {tid : Nat} {rd ra rb : Reg} {h : Nat}

/-- The message of a QPOST: the 64 bytes of its entry. -/
def State.postMsg (s : State) (tid a h : Nat) : Msg :=
  { id := s.yarn.nextId, epoch := 0, lenm1 := 7, kind := .small, tag := 0, src := srcOf tid, dst := epUnit 1 h,
    words := wordsOf 8 (s.readLocal tid a 64), committed := true }

theorem State.spent_postMsg (a : Nat) : (s.spent tid).postMsg tid a h = s.postMsg tid a h := by
  rw [State.postMsg, State.postMsg, State.spent_readLocal, State.spent_yarn]

/-- QPOST at an aligned buffer in range sends its entry on its way. -/
theorem State.spent_unitQpost (hh : h = halfOfMule (muleOf (spOf tid))) (hin : (s.reg tid ra).toNat + 64 ≤ localRange tid)
    (hal : (s.reg tid ra).toNat % 64 = 0) (hf : ¬(h = 1 ∧ s.fencedB = true)) :
    (s.spent tid).perform tid (.qpost rd ra rb) = .go ((s.spent tid).freshMsg.2.launchOp tid .qpost rd.toNat false
      (s.postMsg tid (s.reg tid ra).toNat h) none (some ((s.reg tid rb).toNat % 65536, s.clk.cycles))) none := by
  show (s.spent tid).unitQpost tid rd ra rb = _
  unfold State.unitQpost
  simp only [State.spent_reg, localFault_none hin hal, ← hh, State.spent_fencedB, if_neg hf]
  rw [← State.spent_postMsg, ← s.spent_reg tid rb, ← s.spent_clk tid]; rfl

/-- QPOST of a half that is fenced is refused at once. -/
theorem State.spent_unitQpost_fenced (hh : h = halfOfMule (muleOf (spOf tid))) (hin : (s.reg tid ra).toNat + 64 ≤ localRange tid)
    (hal : (s.reg tid ra).toNat % 64 = 0) (hf : h = 1 ∧ s.fencedB = true) :
    (s.spent tid).perform tid (.qpost rd ra rb) = (s.spent tid).unitStatus tid .qpost rd (ysRefused, stFenced) (epUnit 1 h) := by
  show (s.spent tid).unitQpost tid rd ra rb = _
  unfold State.unitQpost
  simp only [State.spent_reg, localFault_none hin hal, ← hh, State.spent_fencedB, if_pos hf]

end qpost

/-! ### What each instruction leaves -/

section issued
variable {s : State} {tid h : Nat} {rd ra rb : Reg}

theorem Thread.await_notice (x : Thread) (r : Nat) : (x.await r).notice = x.notice := by unfold Thread.await; split <;> rfl
theorem Thread.await_events (x : Thread) (r : Nat) : (x.await r).events = x.events := by unfold Thread.await; split <;> rfl

theorem State.spent_regs (s : State) (tid : Nat) : ((s.spent tid).thr tid).regs = (s.thr tid).regs := by rw [s.spent_thr tid]
theorem State.spent_notice (s : State) (tid : Nat) : ((s.spent tid).thr tid).notice = (s.thr tid).notice := by rw [s.spent_thr tid]

/-- An instruction that its unit refuses at once: the status, the notice and the event. -/
theorem State.obord_refused {i : Ob} {op : YarnOp} {c unit : Nat} (ht : tid < 6144) (hi : s.MayIssue tid i) (ha : i.admitted = true)
    (hp : (s.spent tid).perform tid i = (s.spent tid).unitStatus tid op rd (ysRefused, c) unit) (hc : c ≠ stStaleEpoch) :
    ∃ t f, s.obord tid i = .next t ∧ t.yarn.flights = s.yarn.flights ++ [f] ∧ f.owner = some tid ∧ f.rd = rd.toNat ∧ f.op = op ∧
      f.status = some 3 ∧ s.yarnsOnly t ∧ ((s.thr tid).notice = none → (t.thr tid).notice = some ⟨c, unit, 0, 0, 1⟩) ∧
      (t.thr tid).events.getLsbD 5 = true := by
  obtain ⟨t, f, hrun, hfl, ho, hrd, hop, hst, honly, yw, hthr⟩ := State.obord_unit ht hi ha hp
  have htold : (s.spent tid).unitTold tid (ysRefused, c) unit = (s.spent tid).notify (epThread tid 0) c unit 0 0 := by
    rw [State.unitTold, if_pos rfl, srcOf_of_lt ht]
  obtain ⟨hevents, hnotice⟩ := (s.spent tid).refusalTold (unit := unit) ht hc
  rw [htold] at hthr
  refine ⟨t, f, hrun, by rw [hfl, State.spent_yarn], ho, hrd, hop, hst, (s.spent_onlyMules tid).yarnsOnly.trans honly, fun hn => ?_, ?_⟩
  · rw [hthr]; exact (Thread.await_notice _ _).trans (hnotice ((s.spent_notice tid).trans hn))
  · rw [hthr]; exact (congrArg (·.getLsbD 5) (Thread.await_events _ _)).trans hevents

/-- CSUB with room in its store: the job and the status OK. -/
theorem State.obord_csub (ht : tid < 6144) (hh : h = halfOfMule (muleOf (spOf tid))) (hin : (s.reg tid ra).toNat + 64 ≤ localRange tid)
    (hal : (s.reg tid ra).toNat % 64 = 0) (hi : s.MayIssue tid (.csub rd ra)) (hf : ¬(h = 1 ∧ s.fencedB = true)) (hu : s.storeUsed h < storeLimit) :
    ∃ t f, s.obord tid (.csub rd ra) = .next t ∧ t.yarn.flights = s.yarn.flights ++ [f] ∧ f.owner = some tid ∧ f.rd = rd.toNat ∧ f.op = .csub ∧
      f.status = some 0 ∧ t.cipher = (s.storeJob h tid (s.readLocal tid (s.reg tid ra).toNat 64)).cipher ∧ t.mem = s.mem ∧ t.lmem = s.lmem ∧
      (rd ≠ 0 → rd.toNat ∈ (t.thr tid).pend) ∧ (t.thr tid).regs = (s.thr tid).regs := by
  obtain ⟨t, f, hrun, hfl, ho, hrd, hop, hst, honly, yw, hthr⟩ := State.obord_unit ht hi rfl (State.spent_unitCsub hh hin hal
    (State.csub_stored (by rwa [State.spent_fencedB]) (by rwa [State.spent_storeUsed])))
  rw [State.unitTold_accepted (by decide)] at hthr
  refine ⟨t, f, hrun, hfl.trans (congrArg (·.flights ++ [f]) (s.spent_yarn tid)), ho, hrd, hop, hst,
    (congrArg (·.cipher) honly).trans (s.spent_storeJob tid _ _), honly.mem.trans (s.spent_mem tid), honly.lmem.trans (s.spent_lmem tid), fun hr => ?_, ?_⟩
  · rw [hthr]; exact Thread.mem_await _ (Reg.toNat_ne_zero hr)
  · rw [hthr]; exact (Thread.await_regs _ _).trans (s.spent_regs tid)

/-- QPOST: its entry on its way with the queue's number and the cycle. -/
theorem State.obord_qpost (ht : tid < 6144) (hh : h = halfOfMule (muleOf (spOf tid))) (hin : (s.reg tid ra).toNat + 64 ≤ localRange tid)
    (hal : (s.reg tid ra).toNat % 64 = 0) (hi : s.MayIssue tid (.qpost rd ra rb)) (hf : ¬(h = 1 ∧ s.fencedB = true)) :
    ∃ t f, s.obord tid (.qpost rd ra rb) = .next t ∧ t.yarn.flights = s.yarn.flights ++ [f] ∧ f.owner = some tid ∧ f.rd = rd.toNat ∧
      f.op = .qpost ∧ f.status = none ∧ f.post = some ((s.reg tid rb).toNat % 65536, s.clk.cycles) ∧ f.msg.src = epThread tid 0 ∧
      f.msg.dst = epUnit 1 h ∧ bytesOf f.msg.words = s.readLocal tid (s.reg tid ra).toNat 64 ∧ t.q = s.q ∧ t.mem = s.mem ∧ t.lmem = s.lmem ∧
      (rd ≠ 0 → rd.toNat ∈ (t.thr tid).pend) ∧ (t.thr tid).regs = (s.thr tid).regs := by
  obtain ⟨t, hrun, hyarn, hthr, -, -, honly⟩ := State.obord_launch ht hi rfl (State.spent_unitQpost hh hin hal hf)
  refine ⟨t, (s.spent tid).freshMsg.2.opFlight tid .qpost rd.toNat false (s.postMsg tid (s.reg tid ra).toNat h) none
    (some ((s.reg tid rb).toNat % 65536, s.clk.cycles)), hrun, ?_, rfl, rfl, rfl, rfl, rfl, srcOf_of_lt ht, rfl,
    bytesOf_wordsOf (s.readLocal_length _ _ _), (congrArg (·.q) honly).trans (s.spent_q tid), honly.mem.trans (s.spent_mem tid),
    honly.lmem.trans (s.spent_lmem tid), fun hr => ?_, ?_⟩
  · exact (congrArg (·.flights) hyarn).trans (congrArg (·.flights ++ _) (s.spent_yarn tid))
  · rw [hthr]; exact Thread.mem_await _ (Reg.toNat_ne_zero hr)
  · rw [hthr]; exact (Thread.await_regs _ _).trans (s.spent_regs tid)

/-- FCWB: OK with the context's bytes in its home cache, or a refusal beyond the contexts. -/
theorem State.obord_fcwb {k : Nat} (ht : tid < 6144) (hk : k = (s.reg tid rb).toNat % 2 ^ 22) (hin : (s.reg tid ra).toNat + 256 ≤ localRange tid)
    (hal : (s.reg tid ra).toNat % 256 = 0) (hi : s.MayIssue tid (.fcwb rd ra rb)) :
    ∃ t f, s.obord tid (.fcwb rd ra rb) = .next t ∧ t.yarn.flights = s.yarn.flights ++ [f] ∧ f.owner = some tid ∧ f.rd = rd.toNat ∧ f.op = .fcwb ∧
      (k < s.ctxCount → s.ctxFenced k = false →
        f.status = some 0 ∧ t.ctxCached k = some ⟨s.readLocal tid (s.reg tid ra).toNat 256, true⟩) ∧
      (s.ctxCount ≤ k → f.status = some 3 ∧ t.net = s.net ∧
        ((s.thr tid).notice = none → ∃ n, (t.thr tid).notice = some n ∧ n.status = 0x04)) := by
  have hcount : (s.spent tid).ctxCount = s.ctxCount := s.spent_rd tid _
  have hfenced : (s.spent tid).ctxFenced k = s.ctxFenced k := by
    rw [State.ctxFenced, State.ctxHome, State.spent_rd, State.spent_fencedB]; rfl
  by_cases hle : s.ctxCount ≤ k
  · have hbeyond := State.spent_unitFcwb (rd := rd) hk hin hal ((s.spent tid).ctxStore_beyond (hcount.symm ▸ hle))
    obtain ⟨t, f, hrun, hfl, ho, hrd, hop, hst, honly, hnotice, -⟩ := State.obord_refused ht hi rfl hbeyond (by decide)
    exact ⟨t, f, hrun, hfl, ho, hrd, hop, fun hlt => absurd hle (Nat.not_le.2 hlt),
      fun _ => ⟨hst, congrArg (·.net) honly, fun hn => ⟨_, hnotice hn, rfl⟩⟩⟩
  · obtain ⟨r, s0, hr⟩ : ∃ r s0, (s.spent tid).ctxStore k (s.readLocal tid (s.reg tid ra).toNat 256) = (r, s0) := ⟨_, _, rfl⟩
    obtain ⟨t, f, hrun, hfl, ho, hrd, hop, hst, honly, -⟩ := State.obord_unit ht hi rfl (State.spent_unitFcwb (rd := rd) hk hin hal hr)
    have hyarn : s0.yarn = s.yarn := by
      rw [← s.spent_yarn tid, ← (s.spent tid).ctxStore_yarn (k := k) (s.readLocal tid (s.reg tid ra).toNat 256), hr]
    refine ⟨t, f, hrun, hfl.trans (congrArg (·.flights ++ [f]) hyarn), ho, hrd, hop, fun hlt hf => ?_, fun hge => absurd hge hle⟩
    rw [State.ctxStore_written (hcount.symm ▸ hlt) (hfenced.trans hf)] at hr
    cases hr
    exact ⟨hst, (congrArg (fun x : State => x.ctxCached k) honly).trans (State.ctxWrite_cached (s.readLocal_length _ _ _))⟩

end issued

/-! ### A post reaches its queue (R221) -/

/-- The state in which a post has been judged and its thread told and answered. -/
def State.postJudged (p : (Nat × Nat) × State) (m : Msg) : State :=
  (if p.1.1 = ysRefused then p.2.notify m.src p.1.2 m.dst 0 0 else p.2).answer m.id p.1.1

/-- The state in which a work queue has taken an entry of its half's post. -/
def State.posted (s : State) (n : Nat) (w : Wq) (entry : Bytes) : State :=
  ((s.devWrite (w.ringBase + 64 * (w.pi % 2 ^ w.log2)) entry).oweMem w.home (s.groupOf w.tenant) (w.ringBase + 64 * (w.pi % 2 ^ w.log2)) 64 true).setWq n
    { w with pi := w.next w.pi 1 }

section arrival
variable {s : State} {id n c tid h : Nat} {f : Flight} {w : Wq} {mule : Nat} {entry : Bytes}

theorem State.qpost_none (hw : s.wq? n = none) : s.qpost mule n entry = ((ysRefused, stRange), s) := by rw [State.qpost, hw]

theorem State.qpost_denied (hw : s.wq? n = some w) (hd : w.ringLoc = false ∨ w.mules.testBit mule = false) :
    s.qpost mule n entry = ((ysRefused, stAccessDenied), s) := by
  rw [State.qpost, hw]; exact if_pos hd

theorem State.qpost_full (hw : s.wq? n = some w) (hd : ¬(w.ringLoc = false ∨ w.mules.testBit mule = false))
    (hfull : ringMax w.compat w.log2 ≤ w.dist w.pi w.ci) : s.qpost mule n entry = ((ysFull, 0), s) := by
  rw [State.qpost, hw]; exact (if_neg hd).trans (if_pos hfull)

theorem State.qpost_taken (hw : s.wq? n = some w) (hd : ¬(w.ringLoc = false ∨ w.mules.testBit mule = false))
    (hroom : w.dist w.pi w.ci < ringMax w.compat w.log2) : s.qpost mule n entry = ((ysOk, 0), s.posted n w entry) := by
  rw [State.qpost, hw]; exact (if_neg hd).trans (if_neg (Nat.not_le.2 hroom))

theorem State.posted_yarn : (s.posted n w entry).yarn = s.yarn := congrArg (·.yarn) (State.oweMem_owedOnly (s.devWrite _ entry) _ _ _ _ _)
theorem State.posted_mules : (s.posted n w entry).mules = s.mules := congrArg (·.mules) (State.oweMem_owedOnly (s.devWrite _ entry) _ _ _ _ _)
theorem State.posted_mem : (s.posted n w entry).mem = (s.devWrite (w.ringBase + 64 * (w.pi % 2 ^ w.log2)) entry).mem :=
  congrArg (·.mem) (State.oweMem_owedOnly (s.devWrite _ entry) _ _ _ _ _)

theorem State.posted_wq_same : (s.posted n w entry).wq? n = some { w with pi := w.next w.pi 1 } := AMap.get?_set_same _ _ _

theorem State.posted_wq_other {k : Nat} (hk : k ≠ n) : (s.posted n w entry).wq? k = s.wq? k :=
  (AMap.get?_set_other _ _ _ _ hk).trans (congrArg (·.wq? k) (State.oweMem_owedOnly (s.devWrite _ entry) _ _ _ _ _))

/-- A post on its way reaches its queue. -/
theorem exec_postArrival (hf : s.underWay id = some f) (hp : f.post = some (n, c)) : exec (.messageArrival id) s = .next (s.postArrive f n c) := by
  show execMessageArrival id s = _
  unfold State.underWay at hf
  rw [execMessageArrival, hf]
  simp only [hp]

/-- A post waits while its cycle lasts. -/
theorem State.postWaits_cycle (hc : c = s.clk.cycles) : s.postWaits f n c = true := by
  rw [State.postWaits, hc, beq_self_eq_true]; rfl

/-- A post waits for an earlier one to its queue, of its cycle or one before, that the seam does not hold. -/
theorem State.postWaits_earlier (ho : f.owner = some tid) {g : Flight} {b : Nat} (hg : g ∈ s.yarn.flights) (hst : g.status = none) (hpost : g.post = some (n, b))
    (hb : b < c ∨ (b = c ∧ g.owner.getD 0 < tid)) (hheld : s.postHeld g n = false) : s.postWaits f n c = true := by
  refine Bool.or_eq_true_iff.mpr (.inr (List.any_eq_true.mpr ⟨g, hg, ?_⟩))
  simp [hst, hpost, hheld, ho, hb]

/-- A post that need not wait is judged. -/
theorem State.postArrive_judged (hh : h < 2) (hdst : f.msg.dst = epUnit 1 h) (hsrc : f.msg.src = epThread tid 0) (ht : tid < 6144)
    (hw : s.postWaits f n c = false) (hf : ¬(h = 1 ∧ s.fencedB = true)) :
    s.postArrive f n c = State.postJudged (s.qpost (tid / 128) n (bytesOf f.msg.words)) f.msg := by
  rw [State.postArrive, if_neg (by rw [hw]; exact Bool.false_ne_true), hdst, epHalf_queueUnit hh, if_neg hf, hsrc, epMule_epThread ht, ← hdst, ← hsrc]
  rfl

theorem State.postJudged_accepted {y : Nat} {s1 : State} {m : Msg} (hy : y ≠ ysRefused) : State.postJudged ((y, 0), s1) m = s1.answer m.id y := by
  rw [State.postJudged, if_neg hy]

theorem State.postJudged_refused {cause : Nat} {m : Msg} : State.postJudged ((ysRefused, cause), s) m =
    (s.notify m.src cause m.dst 0 0).answer m.id ysRefused := by
  rw [State.postJudged, if_pos rfl]

/-- A refused post: the status, the notice and the event; no queue and no memory changes. -/
theorem State.postJudged_refused_facts {cause : Nat} (ht : tid < 6144) (hf : s.underWay id = some f) (ho : f.owner = some tid)
    (hsrc : f.msg.src = epThread tid 0) (hc : cause ≠ stStaleEpoch) {t : State} (h : t = State.postJudged ((ysRefused, cause), s) f.msg) :
    { f with status := some 3 } ∈ t.yarn.flights ∧ t.q = s.q ∧ t.mem = s.mem ∧ (t.thr tid).events.getLsbD 5 = true ∧
      ((s.thr tid).notice = none → (t.thr tid).notice = some ⟨cause, f.msg.dst, 0, 0, 1⟩) := by
  obtain ⟨hmem, -, hst⟩ := State.underWay_some hf
  obtain ⟨hevents, hnotice⟩ := s.refusalTold (unit := f.msg.dst) ht hc
  have honly := s.notify_yarnsOnly (epThread tid 0) cause f.msg.dst 0 0
  rw [State.postJudged_refused, hsrc] at h
  subst h
  exact ⟨State.answer_mem (by rwa [State.notify_yarn]) rfl hst ho, congrArg (·.q) honly, honly.mem, hevents, hnotice⟩

/-- A post that its queue judges: taken, FULL, or refused for its access or for want of a queue. -/
theorem State.postArrive_facts (hh : h < 2) (ht : tid < 6144) (hf : s.underWay id = some f) (hp : f.post = some (n, c)) (ho : f.owner = some tid)
    (hsrc : f.msg.src = epThread tid 0) (hdst : f.msg.dst = epUnit 1 h) (hw : s.postWaits f n c = false) (hfence : ¬(h = 1 ∧ s.fencedB = true)) :
    (∀ w, s.wq? n = some w → w.ringLoc = true → w.mules.testBit (tid / 128) = true →
      (w.dist w.pi w.ci < ringMax w.compat w.log2 → ∃ t, exec (.messageArrival id) s = .next t ∧
        { f with status := some 0 } ∈ t.yarn.flights ∧ t.wq? n = some { w with pi := w.next w.pi 1 } ∧
        t.mem = (s.devWrite (w.ringBase + 64 * (w.pi % 2 ^ w.log2)) (bytesOf f.msg.words)).mem ∧ (∀ k, k ≠ n → t.wq? k = s.wq? k) ∧
        t.mules = s.mules) ∧
      (ringMax w.compat w.log2 ≤ w.dist w.pi w.ci → ∃ t, exec (.messageArrival id) s = .next t ∧
        { f with status := some 1 } ∈ t.yarn.flights ∧ { t with yarn := s.yarn } = s)) ∧
    (∀ w, s.wq? n = some w → w.ringLoc = false ∨ w.mules.testBit (tid / 128) = false → ∃ t, exec (.messageArrival id) s = .next t ∧
      { f with status := some 3 } ∈ t.yarn.flights ∧ t.q = s.q ∧ t.mem = s.mem ∧ (t.thr tid).events.getLsbD 5 = true ∧
      ((s.thr tid).notice = none → (t.thr tid).notice = some ⟨0x03, epUnit 1 h, 0, 0, 1⟩)) ∧
    (s.wq? n = none → ∃ t, exec (.messageArrival id) s = .next t ∧ { f with status := some 3 } ∈ t.yarn.flights ∧ t.q = s.q ∧
      t.mem = s.mem ∧ ((s.thr tid).notice = none → (t.thr tid).notice = some ⟨0x04, epUnit 1 h, 0, 0, 1⟩)) := by
  obtain ⟨hmem, -, hst⟩ := State.underWay_some hf
  have hrun := (exec_postArrival hf hp).trans (congrArg Host.Outcome.next (State.postArrive_judged hh hdst hsrc ht hw hfence))
  refine ⟨fun w hq hloc hmule => ?_, fun w hq hd => ?_, fun hq => ?_⟩
  · have hd : ¬(w.ringLoc = false ∨ w.mules.testBit (tid / 128) = false) := by rw [hloc, hmule]; decide
    refine ⟨fun hroom => ?_, fun hfull => ?_⟩
    · rw [State.qpost_taken hq hd hroom, State.postJudged_accepted (by decide)] at hrun
      exact ⟨_, hrun, State.answer_mem (by rwa [State.posted_yarn]) rfl hst ho, State.posted_wq_same, State.posted_mem (n := n),
        fun k hk => State.posted_wq_other hk, State.posted_mules (n := n)⟩
    · rw [State.qpost_full hq hd hfull, State.postJudged_accepted (by decide)] at hrun
      exact ⟨_, hrun, State.answer_mem hmem rfl hst ho, s.onlyYarn_refl.answer _ _⟩
  · rw [State.qpost_denied hq hd] at hrun
    rw [← hdst]
    exact ⟨_, hrun, State.postJudged_refused_facts ht hf ho hsrc (by decide) rfl⟩
  · rw [State.qpost_none hq] at hrun
    obtain ⟨hflight, hqueues, hmemory, -, hnotice⟩ := State.postJudged_refused_facts ht hf ho hsrc (cause := stRange) (by decide) rfl
    rw [← hdst]
    exact ⟨_, hrun, hflight, hqueues, hmemory, hnotice⟩

end arrival

end Sys2Proof.Machine

open Sys2Proof Sys2Proof.Machine

/-- Settles O25: CSUB and FCWB are answered at once by their units, QPOST is on its way until its queue judges it; a refusal tells the thread. -/
theorem unitIssueInstructions : Obligations.UnitIssueInstructions := by
  unfold Obligations.UnitIssueInstructions
  rintro s tid rd ra rb a h ht rfl hh
  have hhalf : h = halfOfMule (muleOf (spOf tid)) := hh.trans (halfOfMule_thread tid).symm
  have hlt : h < 2 := by rw [hh]; split <;> decide
  refine ⟨fun hin hal hi hf hu => State.obord_csub ht hhalf hin hal hi hf hu, fun hin hal hi h1 hf => ?_,
    fun hf hin hal hi => State.obord_qpost ht hhalf hin hal hi hf, fun h1 hf hin hal hi => ?_, fun id n c f hway hp ho hsrc hdst => ⟨fun hwait => ?_, fun hw hf =>
    State.postArrive_facts hlt ht hway hp ho hsrc hdst hw hf⟩, fun k hk hin hal hi => State.obord_fcwb ht hk hin hal hi⟩
  · have hrefused := State.spent_unitCsub (rd := rd) hhalf hin hal (State.csub_fenced ⟨h1, (s.spent_fencedB tid).trans hf⟩)
    obtain ⟨t, f, hrun, hfl, ho, -, -, hst, honly, hnotice, hevents⟩ := State.obord_refused ht hi rfl hrefused (by decide)
    exact ⟨t, f, hrun, hfl, ho, hst, congrArg (·.cipher) honly, h1 ▸ hnotice, hevents⟩
  · have hrefused := State.spent_unitQpost_fenced (rd := rd) (rb := rb) hhalf hin hal ⟨h1, hf⟩
    obtain ⟨t, f, hrun, hfl, -, -, -, hst, honly, hnotice, -⟩ := State.obord_refused ht hi rfl hrefused (by decide)
    exact ⟨t, f, hrun, hfl, hst, congrArg (·.q) honly, honly.mem, h1 ▸ hnotice⟩
  · rw [exec_postArrival hway hp, State.postArrive, if_pos]
    rcases hwait with hcycle | ⟨g, hg, b, hst, hpost, hb, hheld⟩
    · exact State.postWaits_cycle hcycle
    · exact State.postWaits_earlier ho hg hst hpost hb hheld

end
